-- ==== Sys2Proof/Word.lean ====
section
/-!
DEFINITION. The word types of the block, the status codes of Table 11.12 and the descriptor of one register field.
-/
namespace Sys2Proof

abbrev Word := BitVec 32
abbrev Byte := BitVec 8
abbrev Word64 := BitVec 64

/-- Sparse data by key: in its canonical form the keys rise strictly and no entry equals what an unlisted key reads as. -/
abbrev Map (α : Type) := List (Nat × α)

/-- Status codes (R320, Table 11.12). -/
inductive Status where
  | done | eField | eRange | eOwner | eState | eBusy | eNores | ePoison | eFenced
  | eFlushed | eTimeout | eLocked | eProto | eLink | eAlign | eInternal
  deriving DecidableEq, Repr

/-- One register field: the byte offset of its register (BAR0, or 0x20000 + 0x2000 t + the BAR2 offset of tenant t),
its lowest bit, its width, and the value the register tables give it at reset. -/
structure Fld where
  key : Nat
  lo : Nat
  w : Nat
  rst : Nat
  deriving DecidableEq, Repr

/-- The access codes of Table 00.3 (R7). -/
inductive Acc where
  | rw | ro | w1c | w1s | wo | rwl
  deriving DecidableEq, Repr

/-- One row of a register's field table; `rst` is the reset value of entry `i` of the register's array. -/
structure FldRow where
  lo : Nat
  w : Nat
  acc : Acc
  rst : Nat → Nat

/-- One register, or an array of `count` registers `stride` bytes apart, with the field whose 1 locks its RWL fields. -/
structure RegRow where
  base : Nat
  stride : Nat
  count : Nat
  lock : Option Fld
  fields : List FldRow

/-- Which register space an access addresses: BAR0 from T000 or the steward's view of it, or the BAR2 page of a
tenant (the steward reaches page 0 at 0x4002_0000, R306). -/
inductive Space where
  | bar0 | page (t : Fin 256)
  deriving DecidableEq, Repr

end Sys2Proof
end

