-- ==== Sys2Proof/Syntax.lean ====
section
/-!
DEFINITION. The commands: one constructor for each row of the table of operations and events, in the table's order. An operand
says what the table's row leaves to its surroundings: which port, stream or unit, a word written, or what was measured.
-/
namespace Sys2Proof

/-- A command of the block. -/
inductive Instr where
  /-- REGISTER_WRITE (R8) -/
  | registerWrite (who : Fin 2) (page : Option (Fin 256)) (off : BitVec 17) (n : Fin 5) (w : Word)
  /-- CFGERR_CLEAR (R31) -/
  | cfgerrClear (page : Option (Fin 256)) (w : Word)
  /-- GLB_CTRL_LOCK (R18) -/
  | glbCtrlLock (w : Word)
  /-- CROSSING_INBOUND (R47) -/
  | crossingInbound (n : Fin 26) (len : Nat) (slack : Fin 3)
  /-- CROSSING_TX_BOUNDARY (R48) -/
  | crossingTxBoundary (n : Fin 26) (slack : Fin 3)
  /-- SUP_XCLR (R57) -/
  | supXclr (w : Word)
  /-- XTCOUNT_CAPTURE_READ (R44) -/
  | xtcountCaptureRead (who : Fin 2) (count : Word64)
  /-- PACE_WINDOW_END (R40) -/
  | paceWindowEnd (laps : BitVec 16)
  /-- PACE_MINCLR (R46) -/
  | paceMinclr (w : Word)
  /-- XT24_LOST (R49) -/
  | xt24Lost
  /-- XT24_BACK (R50) -/
  | xt24Back (long : Bool)
  /-- XT24_QUALIFIED (R53) -/
  | xt24Qualified
  /-- XT24_QUALIFY_TIMEOUT (R54) -/
  | xt24QualifyTimeout
  /-- XT32_LOST (R51) -/
  | xt32Lost
  /-- XT32_BACK (R51) -/
  | xt32Back
  /-- DOZE_REQUEST (R60) -/
  | dozeRequest (w : Word)
  /-- DOZE_EXIT (R61) -/
  | dozeExit
  /-- WAKE (R62) -/
  | wake (src : Fin 9) (sag : Bool)
  /-- SECONDS_TICK (R63) -/
  | secondsTick (sag : Bool)
  /-- SUP_WARN (R64) -/
  | supWarn
  /-- SUP_WARN_CLEAR (R64) -/
  | supWarnClear
  /-- SUPPLY_RESET (R65) -/
  | supplyReset
  /-- RESET_RELEASE_HOLD_END (R65) -/
  | resetReleaseHoldEnd (sag : Bool) (holds : BitVec 9)
  /-- DORMANT_SUPPLY_RESET (R584) -/
  | dormantSupplyReset
  /-- POR (R76) -/
  | por
  /-- RESET_N_ASSERT (R567) -/
  | resetNAssert (sag : Bool)
  /-- SUP_PHY_HOLD (R66) -/
  | supPhyHold
  /-- SUP_PHY_RELEASE (R66) -/
  | supPhyRelease (long : Bool)
  /-- WARNDLY_EXPIRY (R68) -/
  | warndlyExpiry
  /-- LOWPACK_EXPIRY (R69) -/
  | lowpackExpiry
  /-- SHUTDOWN_GO (R69) -/
  | shutdownGo (w : Word)
  /-- SHUTDOWN_SKIP (R75) -/
  | shutdownSkip (w : Word)
  /-- SHUTDOWN_GRACE_EXPIRY (R71) -/
  | shutdownGraceExpiry
  /-- SHUTDOWN_S2_TICKET_TIMEOUT (R71) -/
  | shutdownS2TicketTimeout
  /-- SHUTDOWN_COMMIT_DONE (R71) -/
  | shutdownCommitDone
  /-- SHUTDOWN_COMMIT_TIMEOUT (R72) -/
  | shutdownCommitTimeout
  /-- SHUTDOWN_S5 (R71) -/
  | shutdownS5
  /-- DISCHARGE_HOLD_END (R74) -/
  | dischargeHoldEnd (sag : Bool)
  /-- INPUT_PRESENT (R70) -/
  | inputPresent (src : Fin 6) (volt : Fin 4096) (cur : Fin 4096)
  /-- SHUTDOWN_CANCEL (R75) -/
  | shutdownCancel (w : Word)
  /-- RAILS_GOOD (R91) -/
  | railsGood
  /-- RAIL_GOOD_TIMEOUT (R88) -/
  | railGoodTimeout
  /-- RAIL_FAILURE (R566) -/
  | railFailure
  /-- CHECKER_SELF_TEST (R477) -/
  | checkerSelfTest (chk : Fin 4)
  /-- STARTUP_WIPE_DONE (R91) -/
  | startupWipeDone
  /-- TYPEC_ATTACH (R99) -/
  | typecAttach (port : Fin 5) (kind : Fin 4) (orient : Fin 2) (adv : Fin 3)
  /-- TYPEC_DETACH (R109) -/
  | typecDetach (port : Fin 5)
  /-- PD_MESSAGE_RX (R101) -/
  | pdMessageRx (port : Fin 5) (sop : Fin 3) (msg : List Byte)
  /-- PD_RX_POP (R101) -/
  | pdRxPop (port : Fin 5) (w : Word)
  /-- PD_TX_MESSAGE (R101) -/
  | pdTxMessage (port : Fin 5) (sop : Fin 3) (len : Fin 32)
  /-- PD_TX_HARD_RESET (R108) -/
  | pdTxHardReset (port : Fin 5) (len : Fin 32)
  /-- PD_TX_CABLE_RESET (R103) -/
  | pdTxCableReset (port : Fin 5) (len : Fin 32)
  /-- PD_RETRY_TIMEOUT (R101) -/
  | pdRetryTimeout (port : Fin 5)
  /-- PD_TX_COMPLETE (R101) -/
  | pdTxComplete (port : Fin 5) (acked : Bool)
  /-- PD_HARD_RESET (R108) -/
  | pdHardReset (port : Fin 5)
  /-- PD_SRC_SETPOINT (R105) -/
  | pdSrcSetpoint (port : Fin 5)
  /-- PD_SRC_PS_RDY (R105) -/
  | pdSrcPsRdy (port : Fin 5) (volt : Fin 4096) (cur : Fin 4096)
  /-- PD_SRC_SLOW (R107) -/
  | pdSrcSlow (port : Fin 5) (notLow : Bool)
  /-- PD_SRC_RECOVERY_END (R108) -/
  | pdSrcRecoveryEnd (port : Fin 5) (low : Bool)
  /-- PD_SNK_SETTLED (R106) -/
  | pdSnkSettled (port : Fin 5) (volt : Fin 4096) (cur : Fin 4096)
  /-- PD_SNK_SLOW (R107) -/
  | pdSnkSlow (port : Fin 5)
  /-- PD_OVP (R107) -/
  | pdOvp (port : Fin 5)
  /-- PD_OCP (R107) -/
  | pdOcp (port : Fin 5)
  /-- EPR_KEEPALIVE (R123) -/
  | eprKeepalive (port : Fin 5)
  /-- PPS_REQUEST_REPEAT (R123) -/
  | ppsRequestRepeat (port : Fin 5)
  /-- PD_MOISTURE_MEASURE (R111) -/
  | pdMoistureMeasure (port : Fin 5) (cc1 : Fin 4) (cc2 : Fin 4) (sbu1 : Fin 4) (sbu2 : Fin 4)
  /-- CEL_SCAN (R139) -/
  | celScan (cells : List (Fin 16384)) (pk : Fin 16384) (cur : BitVec 16) (ntc1 : Fin 16384) (ntc2 : Fin 16384) (batid : Fin 16384)
    (short : Bool)
  /-- CEL_PACK_BACK (R143) -/
  | celPackBack
  /-- OW_TEST_GO (R161) -/
  | owTestGo (w : Word)
  /-- OW_TEST_PERIODIC (R144) -/
  | owTestPeriodic
  /-- OW_PIN_DONE (R144) -/
  | owPinDone (moved : Bool)
  /-- PACK_LOSS (R148) -/
  | packLoss (vr : Fin 16384) (left : Fin 801)
  /-- CHG_SESSION_OPEN (R134) -/
  | chgSessionOpen
  /-- CHG_PRECHG_FAIL (R135) -/
  | chgPrechgFail
  /-- CHG_DONE (R135) -/
  | chgDone
  /-- CHG_RECHARGE (R135) -/
  | chgRecharge
  /-- CHG_SAFETY (R135) -/
  | chgSafety
  /-- CHG_KICK (R136) -/
  | chgKick (w : Word)
  /-- CHG_WDT_EXPIRY (R136) -/
  | chgWdtExpiry
  /-- CHG_DISABLE (R153) -/
  | chgDisable (w : Word)
  /-- CHG_OCP (R149) -/
  | chgOcp
  /-- CHG_OCP_RESUME (R149) -/
  | chgOcpResume
  /-- CHG_INPUT_LOST (R151) -/
  | chgInputLost
  /-- GAUGE_CLEAR (R141) -/
  | gaugeClear (w : Word)
  /-- GAUGE_CAPTURE_READ (R141) -/
  | gaugeCaptureRead (who : Fin 2)
  /-- BURST_REQUEST (R163) -/
  | burstRequest (word : BitVec 16) (vr : Fin 16384) (volt : Fin 4096) (cur : Fin 4096)
  /-- GRANT_END (R169) -/
  | grantEnd
  /-- RAT_ABORT (R170) -/
  | ratAbort
  /-- RAT_HOLD_END (R170) -/
  | ratHoldEnd
  /-- RAT_ENABLE (R180) -/
  | ratEnable (w : Word)
  /-- RAT_CNTCLR (R180) -/
  | ratCntclr (w : Word)
  /-- HUB_REQUEST (R186) -/
  | hubRequest (setup : Option (BitVec 64))
  /-- HUB_CTL_REQ (R187) -/
  | hubCtlReq
  /-- HUB_CTLREPLY_ACT (R187) -/
  | hubCtlreplyAct (w : Word)
  /-- HUB_CTL_TIMEOUT (R187) -/
  | hubCtlTimeout
  /-- FUNC_SETUP (R196) -/
  | funcSetup (setup : BitVec 64)
  /-- FUNC_TOKEN (R195) -/
  | funcToken (slot : Fin 16) (kind : Fin 3) (tog : Bool) (data : List Byte) (ack : Bool)
  /-- FUNC_ISO_MICROFRAME (R199) -/
  | funcIsoMicroframe (slot : Fin 16) (k : Nat) (pkts : List (Fin 4 × List Byte))
  /-- FEEDBACK_UPDATE (R200) -/
  | feedbackUpdate (ns : Nat)
  /-- EPM_BANK_WRITE (R195) -/
  | epmBankWrite (slot : Fin 16) (w : Word)
  /-- HUB_SUSPEND (R192) -/
  | hubSuspend
  /-- HUB_RESUME (R193) -/
  | hubResume
  /-- HUB_RWAKE (R193) -/
  | hubRwake (w : Word)
  /-- HUB_REMOTE_WAKE (R193) -/
  | hubRemoteWake (port : Fin 9)
  /-- PORT_RESUME_DONE (R194) -/
  | portResumeDone (port : Fin 9)
  /-- PORT_RESET_DONE (R186) -/
  | portResetDone (port : Fin 10)
  /-- PORT_POWER_GOOD (R188) -/
  | portPowerGood (port : Fin 9)
  /-- PORT_OVER_CURRENT (R190) -/
  | portOverCurrent (port : Fin 9)
  /-- PORT_OVER_CURRENT_CLEAR (R190) -/
  | portOverCurrentClear (port : Fin 9)
  /-- PORT_CONNECT_CHANGE (R186) -/
  | portConnectChange (port : Fin 9) (dev : Fin 4)
  /-- PORT_BABBLE (R210) -/
  | portBabble (port : Fin 9)
  /-- HUB_BUSRESET (R205) -/
  | hubBusreset (hs : Bool)
  /-- HUB_DISCONNECT (R206) -/
  | hubDisconnect
  /-- HUB_ENABLE (R212) -/
  | hubEnable (w : Word)
  /-- HUB_CNTCLR (R213) -/
  | hubCntclr (w : Word)
  /-- PRT_STEER_GO (R216) -/
  | prtSteerGo (port : Fin 10) (w : Word)
  /-- STEER (R216) -/
  | steer (t : Fin 256) (sq : Fin 8)
  /-- STEER_QUIESCE_DONE (R216) -/
  | steerQuiesceDone (port : Fin 9)
  /-- STEER_HOLD_END (R216) -/
  | steerHoldEnd (port : Fin 9)
  /-- PRT_STEER_DONE (R216) -/
  | prtSteerDone (port : Fin 9)
  /-- PORTCMD_RESET (R219) -/
  | portcmdReset (t : Fin 256) (sq : Fin 8)
  /-- LOCAL_PORT_RESET_DONE (R219) -/
  | localPortResetDone (port : Fin 9)
  /-- PORTCMD_SUSPEND (R219) -/
  | portcmdSuspend (t : Fin 256) (sq : Fin 8)
  /-- PORTCMD_RESUME (R219) -/
  | portcmdResume (t : Fin 256) (sq : Fin 8)
  /-- PORTCMD_POWER_OFF (R219) -/
  | portcmdPowerOff (t : Fin 256) (sq : Fin 8)
  /-- PORTCMD_POWER_ON (R219) -/
  | portcmdPowerOn (t : Fin 256) (sq : Fin 8)
  /-- LHE_PORT_RESUME (R219) -/
  | lhePortResume (port : Fin 9)
  /-- LOCAL_MICROFRAME (R221) -/
  | localMicroframe
  /-- CTXOPEN (R223) -/
  | ctxopen (t : Fin 256) (sq : Fin 8)
  /-- CTXCLOSE (R223) -/
  | ctxclose (t : Fin 256) (sq : Fin 8)
  /-- CTXRESET (R231) -/
  | ctxreset (t : Fin 256) (sq : Fin 8)
  /-- XFER (R316) -/
  | xfer (t : Fin 256) (sq : Fin 8)
  /-- LHE_TRANSACTION (R229) -/
  | lheTransaction (ctx : Fin 128) (res : Fin 7) (data : List Byte) (poison : Bool)
  /-- LHE_PORT_ATTACH (R242) -/
  | lhePortAttach (port : Fin 9) (dev : Fin 4)
  /-- LHE_PORT_DETACH (R241) -/
  | lhePortDetach (port : Fin 9) (babble : Bool)
  /-- BIND (R260) -/
  | bind (t : Fin 256) (sq : Fin 8)
  /-- ATTACH (R261) -/
  | attach (t : Fin 256) (sq : Fin 8)
  /-- DETACH (R261) -/
  | detach (t : Fin 256) (sq : Fin 8)
  /-- START (R262) -/
  | start (t : Fin 256) (sq : Fin 8)
  /-- FLUSH (R264) -/
  | flush (t : Fin 256) (sq : Fin 8)
  /-- FLUSH_DRAINED (R264) -/
  | flushDrained (stream : Fin 256)
  /-- FLUSH_DONE (R264) -/
  | flushDone (stream : Fin 256)
  /-- UNBIND (R317) -/
  | unbind (t : Fin 256) (sq : Fin 8)
  /-- BUF (R317) -/
  | buf (t : Fin 256) (sq : Fin 8)
  /-- STREAM_ITEM_IN (R254) -/
  | streamItemIn (stream : Fin 256) (data : List Byte) (stamp : Word) (bad : List (Fin 256))
  /-- STREAM_SINK_PACKET (R263) -/
  | streamSinkPacket (stream : Fin 256) (sink : Fin 8) (k : Nat)
  /-- STR_SOURCE_LOST (R587) -/
  | strSourceLost (stream : Fin 256)
  /-- NOTICE_SPACING_END (R274) -/
  | noticeSpacingEnd (queue : Fin 1024) (kind : Fin 3)
  /-- LAR_LOCK (R252) -/
  | larLock (w : Word)
  /-- PARTITION_SET_ASIDE_DONE (R252) -/
  | partitionSetAsideDone
  /-- LAR_CNTCLR (R279) -/
  | larCntclr (w : Word)
  /-- QUE_LOSTSAT_CLEAR (R278) -/
  | queLostsatClear (queue : Fin 1024) (w : Word)
  /-- QUE_CNTCLR (R278) -/
  | queCntclr (queue : Fin 1024) (w : Word)
  /-- TDM_ENABLE (R285) -/
  | tdmEnable (port : Fin 2) (w : Word)
  /-- TDM_CNTCLR (R302) -/
  | tdmCntclr (port : Fin 2) (w : Word)
  /-- TDM_PLL_LOCK (R301) -/
  | tdmPllLock
  /-- TDM_BANK_END (R286) -/
  | tdmBankEnd (port : Fin 2) (edges : BitVec 16) (di : List Word)
  /-- TDM_FSERR (R287) -/
  | tdmFserr (port : Fin 2) (sent : Fin 8)
  /-- TDM_CLK_LOSS (R298) -/
  | tdmClkLoss (port : Fin 2)
  /-- TDM_CLK_BACK (R299) -/
  | tdmClkBack (port : Fin 2)
  /-- DOORBELL (R311) -/
  | doorbell (t : Fin 256) (ring : Fin 17) (w : Word)
  /-- FETCH (R313) -/
  | fetch
  /-- FETCH_COMPLETION (R313) -/
  | fetchCompletion (t : Fin 256) (sq : Fin 8) (data : List Byte) (poison : Bool)
  /-- PCIE_CPL_TIMEOUT (R305) -/
  | pcieCplTimeout (t : Fin 256) (sq : Fin 8) (fetch : Bool) (idx : BitVec 16)
  /-- PCIE_ERROR_COMPLETION (R305) -/
  | pcieErrorCompletion (t : Fin 256) (sq : Fin 8) (fetch : Bool) (idx : BitVec 16)
  /-- PCIE_POISONED_WRITE (R305) -/
  | pciePoisonedWrite (t : Fin 256)
  /-- DISPATCH (R314) -/
  | dispatch (t : Fin 256) (sq : Fin 8)
  /-- NOP (R316) -/
  | nop (t : Fin 256) (sq : Fin 8)
  /-- COMPLETION_WRITE (R315) -/
  | completionWrite (t : Fin 256) (cq : Fin 8)
  /-- EVENT_DELIVER (R319) -/
  | eventDeliver (t : Fin 256)
  /-- MSIX_HOLDOFF_EXPIRY (R341) -/
  | msixHoldoffExpiry (t : Fin 256) (vec : Fin 8)
  /-- MSIX_UNMASK (R340) -/
  | msixUnmask (t : Fin 256) (vec : Fin 8)
  /-- RING_ENABLE (R309) -/
  | ringEnable (t : Fin 256) (ring : Fin 17) (w : Word)
  /-- PCIE_LINK_DOWN (R326) -/
  | pcieLinkDown
  /-- VF_ENABLE (R331) -/
  | vfEnable (en : Bool) (numVfs : BitVec 16) (ari : Bool)
  /-- FLR (R343) -/
  | flr (t : Fin 256)
  /-- TEN_GFLR (R357) -/
  | tenGflr (w : Word)
  /-- FLR_TICKETS_ENDED (R343) -/
  | flrTicketsEnded (t : Fin 256)
  /-- FLR_STREAMS_FLUSHED (R343) -/
  | flrStreamsFlushed (t : Fin 256)
  /-- FLR_CELLS_WIPED (R343) -/
  | flrCellsWiped (t : Fin 256)
  /-- TEN_FLR_DONE (R346) -/
  | tenFlrDone (t : Fin 256)
  /-- HAY_LANE_UP (R360) -/
  | hayLaneUp (lane : Fin 6) (nbr : BitVec 12)
  /-- HAY_TRAIN_TIMEOUT (R360) -/
  | hayTrainTimeout (lane : Fin 6)
  /-- HAY_BALE_RX (R364) -/
  | hayBaleRx (lane : Fin 6) (sub : Fin 334) (wait : BitVec 16) (raw : List Byte)
  /-- AUDIO (R374) -/
  | audio (lane : Fin 6) (bale : List Byte)
  /-- CONTROL (R376) -/
  | control (lane : Fin 6) (bale : List Byte)
  /-- NULL (R376) -/
  | null (lane : Fin 6) (bale : List Byte)
  /-- RESV_REQ (R372) -/
  | resvReq (lane : Fin 6) (bale : List Byte)
  /-- RESV_ACK (R372) -/
  | resvAck (lane : Fin 6) (bale : List Byte)
  /-- RESV_NAK (R372) -/
  | resvNak (lane : Fin 6) (bale : List Byte)
  /-- RESV_FREE (R372) -/
  | resvFree (lane : Fin 6) (bale : List Byte)
  /-- APP (R378) -/
  | app (lane : Fin 6) (bale : List Byte)
  /-- SYNC (R380) -/
  | sync (lane : Fin 6) (sub : Fin 334) (bale : List Byte)
  /-- DREQ (R380) -/
  | dreq (lane : Fin 6) (sub : Fin 334) (wait : BitVec 16) (bale : List Byte)
  /-- DRESP (R380) -/
  | dresp (lane : Fin 6) (sub : Fin 334) (bale : List Byte)
  /-- ANNOUNCE (R366) -/
  | announce (lane : Fin 6) (bale : List Byte)
  /-- AHEAD (R383) -/
  | ahead (lane : Fin 6) (sub : Fin 334) (bale : List Byte)
  /-- HELLO (R360) -/
  | hello (lane : Fin 6) (bale : List Byte)
  /-- ROLL (R368) -/
  | roll (lane : Fin 6) (bale : List Byte)
  /-- REJECT (R369) -/
  | reject (lane : Fin 6) (bale : List Byte)
  /-- BCAST (R370) -/
  | bcast (lane : Fin 6) (bale : List Byte)
  /-- HAY_HELLO_TX (R360) -/
  | hayHelloTx
  /-- ANNOUNCE_TX (R366) -/
  | announceTx
  /-- SYNC_TX (R380) -/
  | syncTx (sub : Fin 334)
  /-- DREQ_TX (R380) -/
  | dreqTx (sub : Fin 334)
  /-- ROLL_TX (R368) -/
  | rollTx
  /-- ROUTE_ENTRY_EXPIRY (R368) -/
  | routeEntryExpiry (id : BitVec 12)
  /-- GMSEQ_TIMEOUT (R366) -/
  | gmseqTimeout
  /-- HELLO_TIMEOUT (R395) -/
  | helloTimeout (lane : Fin 6)
  /-- HAY_LANE_DOWN (R395) -/
  | hayLaneDown (lane : Fin 6) (errs : BitVec 16) (align : Bool)
  /-- KEEP_EXPIRY (R387) -/
  | keepExpiry (lane : Fin 6)
  /-- CONTROL_RESEND (R376) -/
  | controlResend (lane : Fin 6)
  /-- NULL_ACK_TX (R376) -/
  | nullAckTx (lane : Fin 6)
  /-- AHEAD_REPEAT (R383) -/
  | aheadRepeat (sub : Fin 334)
  /-- ALM_STEP (R382) -/
  | almStep
  /-- HAY_MICROFRAME_SEND (R373) -/
  | hayMicroframeSend
  /-- RESV_REFRESH (R375) -/
  | resvRefresh (flow : Fin 256)
  /-- RESV_EXPIRY (R375) -/
  | resvExpiry (src : BitVec 12) (dst : BitVec 12) (dflow : Fin 256)
  /-- HAYOPEN (R372) -/
  | hayopen (t : Fin 256) (sq : Fin 8)
  /-- HAYOPEN_TIMEOUT (R372) -/
  | hayopenTimeout (flow : Fin 256)
  /-- HAYCLOSE (R390) -/
  | hayclose (t : Fin 256) (sq : Fin 8)
  /-- REROUTE_RETRY (R388) -/
  | rerouteRetry (flow : Fin 256)
  /-- HAY_CTX_SEND (R378) -/
  | hayCtxSend (w : Word)
  /-- HAY_CTX_TIMEOUT (R399) -/
  | hayCtxTimeout
  /-- HAY_CRXPOP (R378) -/
  | hayCrxpop (w : Word)
  /-- HAY_CNTCLR (R399) -/
  | hayCntclr (w : Word)
  /-- ALM_TIME_CAPTURE_READ (R44) -/
  | almTimeCaptureRead (who : Fin 2)
  /-- YOK_ENABLE (R407) -/
  | yokEnable (w : Word) (high : Bool)
  /-- YOK_CLAIM (R402) -/
  | yokClaim
  /-- YOK_YIELD (R402) -/
  | yokYield
  /-- YOK_CLAIM_CONFIRM (R402) -/
  | yokClaimConfirm
  /-- YOK_BEAT_TX (R404) -/
  | yokBeatTx
  /-- LBEAT (R404) -/
  | lbeat (bale : List Byte)
  /-- WBEAT (R409) -/
  | wbeat (bale : List Byte)
  /-- MIRROR (R410) -/
  | mirror (bale : List Byte)
  /-- YOK_LOSS_TIMEOUT (R405) -/
  | yokLossTimeout
  /-- YOK_BEAT_STALE (R403) -/
  | yokBeatStale
  /-- YOK_HANDOVER (R406) -/
  | yokHandover (w : Word)
  /-- YOK_TOKEN_FAULT (R415) -/
  | yokTokenFault
  /-- YOK_MIRROR_TX (R408) -/
  | yokMirrorTx
  /-- YOK_MIRROR_RESEND (R409) -/
  | yokMirrorResend
  /-- YOK_MTXCMD (R408) -/
  | yokMtxcmd (w : Word)
  /-- YOK_MRX_POP (R410) -/
  | yokMrxPop (w : Word)
  /-- YOK_CNTCLR (R424) -/
  | yokCntclr (w : Word)
  /-- READ_ID (R428) -/
  | readId (w : Word)
  /-- READ_SFDP (R428) -/
  | readSfdp (w : Word)
  /-- READ_STATUS (R428) -/
  | readStatus (w : Word)
  /-- SECTOR_ERASE (R428) -/
  | sectorErase (w : Word)
  /-- DEEP_POWER_DOWN (R428) -/
  | deepPowerDown (w : Word)
  /-- RELEASE (R428) -/
  | release (w : Word)
  /-- FLASH_RESET (R428) -/
  | flashReset (w : Word)
  /-- FLS_CMD_DONE (R428) -/
  | flsCmdDone (data : List Byte)
  /-- WINDOW_W_WRITE (R433) -/
  | windowWWrite (win : Fin 2) (x : BitVec 28) (n : Fin 5) (v : Word)
  /-- GATHER_IDLE_TIMEOUT (R433) -/
  | gatherIdleTimeout
  /-- FLS_FLUSH (R433) -/
  | flsFlush (w : Word)
  /-- FLASH_POLL (R433) -/
  | flashPoll (sel : Fin 2) (status : Byte) (gap : Bool)
  /-- FLS_TIMEOUT (R450) -/
  | flsTimeout (sel : Fin 2)
  /-- WINDOW_READ (R434) -/
  | windowRead (win : Fin 2) (x : BitVec 28) (n : Fin 5) (fetch : Bool) (hit : Bool) (gap : Bool)
  /-- ERASE_RESUME (R434) -/
  | eraseResume (sel : Fin 2)
  /-- GRN_COMMIT (R438) -/
  | grnCommit (w : Word) (elapsed : Bool)
  /-- GRN_COMMIT_START (R439) -/
  | grnCommitStart
  /-- GRN_DONE (R438) -/
  | grnDone
  /-- GRN_ERASE_AHEAD_DONE (R437) -/
  | grnEraseAheadDone
  /-- GRN_SCAN (R440) -/
  | grnScan (w : Word)
  /-- GRN_SCAN_DONE (R440) -/
  | grnScanDone
  /-- MERGE_IDLE_EXPIRY (R460) -/
  | mergeIdleExpiry (mem : Fin 3)
  /-- ECC_FILL (R463) -/
  | eccFill (w : Word)
  /-- ECC_FILL_DONE (R463) -/
  | eccFillDone
  /-- ECC_LEAK_TICK (R464) -/
  | eccLeakTick
  /-- ECC_LAR_UE_NOTICE (R466) -/
  | eccLarUeNotice (bank : Fin 16)
  /-- ECC_INJ_ARM (R467) -/
  | eccInjArm (w : Word)
  /-- ECC_GLCLR (R470) -/
  | eccGlclr (w : Word)
  /-- ECC_CNTCLR (R479) -/
  | eccCntclr (w : Word)
  /-- ESCALATION_WINDOW_EXPIRY (R482) -/
  | escalationWindowExpiry (unit : BitVec 10) (src : Fin 64)
  /-- FALLOW_EXPIRY (R485) -/
  | fallowExpiry (unit : BitVec 10) (queue : BitVec 10)
  /-- FLT_UCMD_FENCE (R486) -/
  | fltUcmdFence (w : Word)
  /-- FLT_UCMD_RELEASE (R486) -/
  | fltUcmdRelease (w : Word)
  /-- FLT_UCMD_CLRCNT (R486) -/
  | fltUcmdClrcnt (w : Word)
  /-- FLT_RECORD_CLEAR (R481) -/
  | fltRecordClear (w : Word)
  /-- ALERT_PULSE_END (R490) -/
  | alertPulseEnd (pin : Fin 2)
  /-- ALERT_DEASSERT_END (R490) -/
  | alertDeassertEnd (pin : Fin 2)
  /-- ALT_CFG_WRITE (R585) -/
  | altCfgWrite (pin : Fin 2) (w : Word)
  /-- BOOT_IMAGE_SEARCH (R507) -/
  | bootImageSearch
  /-- BOOT_WARM (R508) -/
  | bootWarm (count : Word64)
  /-- BOOT_NO_IMAGE (R509) -/
  | bootNoImage
  /-- BOOT_SEARCH_RETRY (R509) -/
  | bootSearchRetry
  /-- ROMVER (R510) -/
  | romver
  /-- CRC32 (R510) -/
  | crc32 (a : Word) (n : Word) (init : Word)
  /-- SHA256 (R510) -/
  | sha256 (a : Word) (n : Word) (out : Word)
  /-- P256VERIFY (R510) -/
  | p256verify (digest : Word) (key : Word) (sig : Word)
  /-- IMAGECHECK (R510) -/
  | imagecheck (off : Word)
  /-- ROM_RESTART (R510) -/
  | romRestart
  /-- STW_WDT_KICK (R514) -/
  | stwWdtKick
  /-- STW_WDT_WARN (R514) -/
  | stwWdtWarn
  /-- STW_WDT_EXPIRY (R514) -/
  | stwWdtExpiry
  /-- STW_RESTART (R515) -/
  | stwRestart (w : Word)
  /-- STW_ICINV (R506) -/
  | stwIcinv (w : Word)
  /-- STW_ICCLAIM_READ (R511) -/
  | stwIcclaimRead
  /-- STW_ICCLAIM_COMPLETE (R511) -/
  | stwIcclaimComplete (w : Word)
  /-- STW_MTIME_MATCH (R513) -/
  | stwMtimeMatch
  /-- STW_MBCMD_GO (R516) -/
  | stwMbcmdGo (who : Fin 2) (w : Word)
  /-- STW_MB_REPLY (R516) -/
  | stwMbReply (who : Fin 2) (w : Word)
  /-- STW_MB_MSG (R517) -/
  | stwMbMsg (who : Fin 2) (w : Word)
  /-- STW_MBMSG_ACK (R517) -/
  | stwMbmsgAck (who : Fin 2) (w : Word)
  /-- IDENT (R586) -/
  | ident
  /-- FLASHERASE (R586) -/
  | flasherase
  /-- FLASHWRITE (R586) -/
  | flashwrite
  /-- MB_RESTART (R586) -/
  | mbRestart
  /-- LCS_REQ_DEPLOYED (R531) -/
  | lcsReqDeployed (w : Word)
  /-- LCS_REQ_RECLAIM (R531) -/
  | lcsReqReclaim (w : Word)
  /-- LCS_REQ_VOID (R531) -/
  | lcsReqVoid (w : Word)
  /-- LCS_REQ_DEVELOP (R534) -/
  | lcsReqDevelop (w : Word)
  /-- BLANK_TO_DEVELOP (R544) -/
  | blankToDevelop
  /-- LCS_FUSES_BLOWN (R532) -/
  | lcsFusesBlown (ok : Bool) (sag : Bool)
  /-- IMGDIG (R529) -/
  | imgdig (w : Word)
  /-- UNLDIG (R529) -/
  | unldig (w : Word)
  /-- KDEV (R529) -/
  | kdev (w : Word)
  /-- KPROD (R529) -/
  | kprod (w : Word)
  /-- FLOOR (R529) -/
  | floor (w : Word)
  /-- LCS_PROG_DONE (R529) -/
  | lcsProgDone (ok : Bool)
  /-- LCS_DERIVE (R528) -/
  | lcsDerive (w : Word)
  /-- PCIE_LINK_UP (R303) -/
  | pcieLinkUp (gen : Fin 3)
  /-- PCIE_CONFIG_REQUEST (R19) -/
  | pcieConfigRequest (ext : Option Bool)
  /-- STEWARD_MEMORY_ACCESS (R460) -/
  | stewardMemoryAccess (mem : Fin 3) (kind : Fin 3) (a : BitVec 24) (n : Fin 5) (v : Word)
  /-- SPLIT_TRANSACTION (R191) -/
  | splitTransaction (port : Fin 9) (start : Bool) (kind : Fin 4) (addr : Fin 128) (ep : Fin 16) (inn : Bool) (resp : Fin 5)
    (frame : BitVec 11) (data : List Byte)
  /-- PORT_REMOTE_WAKE (R194) -/
  | portRemoteWake (port : Fin 9)
  /-- LOCAL_RESUME_DONE (R219) -/
  | localResumeDone (port : Fin 9)
  /-- HUB_STATUS_CHANGE_IN (R185) -/
  | hubStatusChangeIn
  deriving DecidableEq, Repr

end Sys2Proof
end

