-- ==== Sys2Proof/Decode.lean ====
section
/-!
DEFINITION. The commands that a word spells by the table's bits: the table gives no row any bits (a command comes from a bus, a wire or
an event, not from an instruction word), so that no word spells a command.
-/
namespace Sys2Proof

/-- The command that an `nbits`-bit word spells. (DESIGN CHOICE, log entry 2). -/
def decodeTableWord (_nbits _w : Nat) : Option Instr := none

end Sys2Proof
end

