-- ==== Sys2Proof/Machine/Maps.lean ====
section
/-!
DEFINITION. Sparse maps as plain lists: lookup, update in canonical form, and the small bit and byte helpers.
-/
namespace Sys2Proof.Machine

open Sys2Proof

/-- The entry of key `k`, where one is listed. -/
def mapFind {α : Type} : Map α → Nat → Option α
  | [], _ => none
  | (j, v) :: t, k => if j = k then some v else mapFind t k

/-- What key `k` reads as, `dflt` being what an unlisted key reads as. -/
def mapGet {α : Type} (dflt : α) (m : Map α) (k : Nat) : α := (mapFind m k).getD dflt

/-- Removes every entry of key `k`. -/
def mapErase {α : Type} : Map α → Nat → Map α
  | [], _ => []
  | (j, v) :: t, k => if j = k then mapErase t k else (j, v) :: mapErase t k

/-- Inserts an entry before the first greater key. -/
def mapInsert {α : Type} : Map α → Nat → α → Map α
  | [], k, v => [(k, v)]
  | (j, w) :: t, k, v => if k < j then (k, v) :: (j, w) :: t else (j, w) :: mapInsert t k v

/-- Writes key `k`; writing what an unlisted key reads as removes the entry. -/
def mapPut {α : Type} [DecidableEq α] (dflt : α) (m : Map α) (k : Nat) (v : α) : Map α :=
  if v = dflt then mapErase m k else mapInsert (mapErase m k) k v

/-- Changes the entry of key `k` by `f`. -/
def mapMod {α : Type} [DecidableEq α] (dflt : α) (m : Map α) (k : Nat) (f : α → α) : Map α :=
  mapPut dflt m k (f (mapGet dflt m k))

/-- Removes every entry whose key lies in [`lo`, `hi`). -/
def mapDropRange {α : Type} (m : Map α) (lo hi : Nat) : Map α :=
  m.filter fun e => decide (e.1 < lo) || decide (hi ≤ e.1)

/-- The canonical form: keys strictly rising and no entry at the default value. -/
def mapWf {α : Type} [DecidableEq α] (dflt : α) : Map α → Bool
  | [] => true
  | [(_, v)] => decide (v ≠ dflt)
  | (j, v) :: (k, w) :: t => decide (v ≠ dflt) && decide (j < k) && mapWf dflt ((k, w) :: t)

/-- Bits [lo+w-1 : lo] of a natural number. -/
def bits (n lo w : Nat) : Nat := n / 2 ^ lo % 2 ^ w

/-- Bit `i` of a natural number, as a Bool. -/
def bitOf (n i : Nat) : Bool := n / 2 ^ i % 2 == 1

def bitNat (b : Bool) : Nat := if b then 1 else 0

/-- ceil (a / b). -/
def ceilDiv (a b : Nat) : Nat := (a + b - 1) / b

/-- Little-endian bytes of a number (R3). -/
def leBytes : Nat → Nat → List Byte
  | 0, _ => []
  | k + 1, n => BitVec.ofNat 8 n :: leBytes k (n / 256)

/-- The number a little-endian byte list spells (R3). -/
def leNat : List Byte → Nat
  | [] => 0
  | b :: t => b.toNat + 256 * leNat t

/-- Big-endian bytes of a number, as bales carry them (R4). -/
def beBytes (k n : Nat) : List Byte := (leBytes k n).reverse

/-- The number a big-endian byte list spells (R4). -/
def beNat (l : List Byte) : Nat := leNat l.reverse

/-- Saturating increment at `top`. -/
def satInc (top n : Nat) : Nat := if n < top then n + 1 else n

/-- The first failing check decides the status (R328). -/
def firstFail : List (Bool × Status) → Status
  | [] => .done
  | (true, s) :: _ => s
  | (false, _) :: t => firstFail t

/-- The order in which checks are applied (R328); statuses it does not list come last. -/
def statusRank : Status → Nat
  | .eAlign => 0 | .eField => 1 | .eRange => 2 | .eLocked => 3 | .eOwner => 4 | .eFenced => 5
  | .eState => 6 | .eBusy => 7 | .eNores => 8 | _ => 9

/-- Of several failing checks the one that comes first in the order of R328. (DEDUCED, log entry 10). -/
def firstByRank : List (Bool × Status) → Status
  | [] => .done
  | (false, _) :: t => firstByRank t
  | (true, s) :: t =>
    let r := firstByRank t
    if r = .done ∨ statusRank s ≤ statusRank r then s else r

/-- The code of a status (Table 11.12). -/
def statusCode : Status → Nat
  | .done => 0 | .eField => 1 | .eRange => 2 | .eOwner => 3 | .eState => 4 | .eBusy => 5 | .eNores => 6
  | .ePoison => 7 | .eFenced => 8 | .eFlushed => 9 | .eTimeout => 10 | .eLocked => 11 | .eProto => 12
  | .eLink => 13 | .eAlign => 14 | .eInternal => 15

end Sys2Proof.Machine
end

