-- ==== Sys2Proof/Machine/RegTable.lean ====
section
/-!
DEFINITION. The register tables of the spec: one field descriptor per field (namespace F), one row per register
(namespace R), the table of BAR0 and the table of a tenant page. Reset values are those of the tables.
-/
namespace Sys2Proof.Machine

open Sys2Proof

/-- Reset of FLT_SRCi as CLASS, N, W in units of 10 ms (Table 17.3, R488; "—" is N 1 and W 1 s). -/
def srcRst (i : Nat) : Nat × Nat × Nat :=
  match i with
  | 1 => (2, 8, 1000)
  | 2 => (2, 3, 6000)
  | 3 => (2, 3, 6000)
  | 4 => (2, 1, 100)
  | 5 => (2, 3, 1000)
  | 6 => (1, 4, 6000)
  | 7 => (2, 3, 6000)
  | 8 => (2, 2, 60000)
  | 10 => (1, 1, 100)
  | 11 => (2, 3, 60000)
  | 12 => (1, 1, 100)
  | 14 => (2, 8, 1000)
  | 15 => (2, 16, 100)
  | 16 => (1, 4, 6000)
  | 17 => (2, 4, 6000)
  | 18 => (2, 4, 1000)
  | 19 => (1, 8, 1000)
  | 21 => (1, 4, 6000)
  | 23 => (1, 4, 6000)
  | 24 => (1, 1, 100)
  | 27 => (2, 16, 100)
  | 28 => (2, 1, 100)
  | 29 => (2, 4, 6000)
  | 30 => (2, 16, 100)
  | 31 => (2, 4, 1000)
  | 32 => (2, 4, 1000)
  | 33 => (2, 4, 1000)
  | 34 => (1, 64, 100)
  | 35 => (2, 64, 100)
  | 37 => (2, 8, 6000)
  | 38 => (1, 1, 100)
  | 39 => (1, 1, 100)
  | 40 => (1, 4, 6000)
  | 41 => (1, 1, 100)
  | 42 => (1, 1, 100)
  | 43 => (1, 1, 100)
  | 45 => (1, 1, 100)
  | 46 => (2, 3, 60000)
  | 47 => (2, 3, 60000)
  | 48 => (2, 4, 60000)
  | 49 => (2, 16, 100)
  | 50 => (1, 1, 100)
  | 51 => (1, 1, 100)
  | 52 => (1, 1, 100)
  | 53 => (1, 1, 100)
  | 54 => (1, 1, 100)
  | 55 => (1, 1, 100)
  | _ => (0, 1, 100)

/-- Reset of W0 of QUE entry `q`, the field at `lo` of width `w` (Tables 09.1 and 09.10). -/
def queRst (q lo w : Nat) : Nat :=
  bits (if q ≤ 267 then 0x81000010 else if 512 ≤ q ∧ q ≤ 767 then 0 else 0x41000040) lo w

namespace F

/-- GLB_ID.PART (01_whole_part.md). -/
def GLB_ID_PART : Fld := ⟨0x0, 16, 16, 51774⟩
/-- GLB_ID.CODE (01_whole_part.md). -/
def GLB_ID_CODE : Fld := ⟨0x0, 12, 4, 1⟩
/-- GLB_ID.STEP (01_whole_part.md). -/
def GLB_ID_STEP : Fld := ⟨0x0, 0, 8, 1⟩
/-- GLB_CTRL.T0HOST (01_whole_part.md). -/
def GLB_CTRL_T0HOST : Fld := ⟨0x10, 1, 1, 0⟩
/-- GLB_CTRL.LOCK (01_whole_part.md). -/
def GLB_CTRL_LOCK : Fld := ⟨0x10, 0, 1, 0⟩
/-- GLB_CFGERR.VALID (01_whole_part.md). -/
def GLB_CFGERR_VALID : Fld := ⟨0x20, 31, 1, 0⟩
/-- GLB_CFGERR.MULTI (01_whole_part.md). -/
def GLB_CFGERR_MULTI : Fld := ⟨0x20, 30, 1, 0⟩
/-- GLB_CFGERR.OFFSET (01_whole_part.md). -/
def GLB_CFGERR_OFFSET : Fld := ⟨0x20, 8, 17, 0⟩
/-- GLB_CFGERR.CODE (01_whole_part.md). -/
def GLB_CFGERR_CODE : Fld := ⟨0x20, 0, 8, 0⟩
/-- SUP_STATE.REQ (03_power_life.md). -/
def SUP_STATE_REQ : Fld := ⟨0x1000, 4, 4, 0⟩
/-- SUP_STATE.CUR (03_power_life.md). -/
def SUP_STATE_CUR : Fld := ⟨0x1000, 0, 3, 4⟩
/-- SUP_RSTCAUSE.PCIE (03_power_life.md). -/
def SUP_RSTCAUSE_PCIE : Fld := ⟨0x1004, 9, 1, 0⟩
/-- SUP_RSTCAUSE.WDOG (03_power_life.md). -/
def SUP_RSTCAUSE_WDOG : Fld := ⟨0x1004, 8, 1, 0⟩
/-- SUP_RSTCAUSE.LCS (03_power_life.md). -/
def SUP_RSTCAUSE_LCS : Fld := ⟨0x1004, 5, 1, 0⟩
/-- SUP_RSTCAUSE.RAILFAIL (03_power_life.md). -/
def SUP_RSTCAUSE_RAILFAIL : Fld := ⟨0x1004, 4, 1, 0⟩
/-- SUP_RSTCAUSE.WAKE (03_power_life.md). -/
def SUP_RSTCAUSE_WAKE : Fld := ⟨0x1004, 3, 1, 0⟩
/-- SUP_RSTCAUSE.RESETN (03_power_life.md). -/
def SUP_RSTCAUSE_RESETN : Fld := ⟨0x1004, 2, 1, 0⟩
/-- SUP_RSTCAUSE.SUPPLY (03_power_life.md). -/
def SUP_RSTCAUSE_SUPPLY : Fld := ⟨0x1004, 1, 1, 0⟩
/-- SUP_RSTCAUSE.POR (03_power_life.md). -/
def SUP_RSTCAUSE_POR : Fld := ⟨0x1004, 0, 1, 1⟩
/-- SUP_CTRL.LOCK (03_power_life.md). -/
def SUP_CTRL_LOCK : Fld := ⟨0x1008, 0, 1, 0⟩
/-- SUP_WAKECFG.TIME (03_power_life.md). -/
def SUP_WAKECFG_TIME : Fld := ⟨0x1010, 16, 1, 0⟩
/-- SUP_WAKECFG.YKTOKEN (03_power_life.md). -/
def SUP_WAKECFG_YKTOKEN : Fld := ⟨0x1010, 8, 1, 0⟩
/-- SUP_WAKECFG.ALARM (03_power_life.md). -/
def SUP_WAKECFG_ALARM : Fld := ⟨0x1010, 7, 1, 0⟩
/-- SUP_WAKECFG.BATID (03_power_life.md). -/
def SUP_WAKECFG_BATID : Fld := ⟨0x1010, 6, 1, 1⟩
/-- SUP_WAKECFG.WAKEN (03_power_life.md). -/
def SUP_WAKECFG_WAKEN : Fld := ⟨0x1010, 5, 1, 1⟩
/-- SUP_WAKECFG.VBUS (03_power_life.md). -/
def SUP_WAKECFG_VBUS : Fld := ⟨0x1010, 0, 5, 31⟩
/-- SUP_WAKESRC.TIME (03_power_life.md). -/
def SUP_WAKESRC_TIME : Fld := ⟨0x1014, 16, 1, 0⟩
/-- SUP_WAKESRC.YKTOKEN (03_power_life.md). -/
def SUP_WAKESRC_YKTOKEN : Fld := ⟨0x1014, 8, 1, 0⟩
/-- SUP_WAKESRC.ALARM (03_power_life.md). -/
def SUP_WAKESRC_ALARM : Fld := ⟨0x1014, 7, 1, 0⟩
/-- SUP_WAKESRC.BATID (03_power_life.md). -/
def SUP_WAKESRC_BATID : Fld := ⟨0x1014, 6, 1, 0⟩
/-- SUP_WAKESRC.WAKEN (03_power_life.md). -/
def SUP_WAKESRC_WAKEN : Fld := ⟨0x1014, 5, 1, 0⟩
/-- SUP_WAKESRC.VBUS (03_power_life.md). -/
def SUP_WAKESRC_VBUS : Fld := ⟨0x1014, 0, 5, 0⟩
/-- SUP_SECONDS.COUNT (03_power_life.md). -/
def SUP_SECONDS_COUNT : Fld := ⟨0x1018, 0, 32, 0⟩
/-- SUP_ALARM.COUNT (03_power_life.md). -/
def SUP_ALARM_COUNT : Fld := ⟨0x101c, 0, 32, 0⟩
/-- SUP_WARNCFG.SHUTDLY (03_power_life.md). -/
def SUP_WARNCFG_SHUTDLY : Fld := ⟨0x1020, 8, 8, 0⟩
/-- SUP_WARNCFG.LEVEL (03_power_life.md). -/
def SUP_WARNCFG_LEVEL : Fld := ⟨0x1020, 0, 5, 10⟩
/-- SUP_PACKCFG.EN (03_power_life.md). -/
def SUP_PACKCFG_EN : Fld := ⟨0x1024, 16, 1, 1⟩
/-- SUP_PACKCFG.RESTART (03_power_life.md). -/
def SUP_PACKCFG_RESTART : Fld := ⟨0x1024, 8, 8, 80⟩
/-- SUP_PACKCFG.CUT (03_power_life.md). -/
def SUP_PACKCFG_CUT : Fld := ⟨0x1024, 0, 8, 50⟩
/-- SUP_STAT.STAGE (03_power_life.md). -/
def SUP_STAT_STAGE : Fld := ⟨0x1028, 8, 3, 0⟩
/-- SUP_STAT.LOWPACK (03_power_life.md). -/
def SUP_STAT_LOWPACK : Fld := ⟨0x1028, 3, 1, 0⟩
/-- SUP_STAT.INPUT (03_power_life.md). -/
def SUP_STAT_INPUT : Fld := ⟨0x1028, 2, 1, 0⟩
/-- SUP_STAT.PHYHOLD (03_power_life.md). -/
def SUP_STAT_PHYHOLD : Fld := ⟨0x1028, 1, 1, 0⟩
/-- SUP_STAT.WARN (03_power_life.md). -/
def SUP_STAT_WARN : Fld := ⟨0x1028, 0, 1, 0⟩
/-- SUP_SHUTCFG.COMMITMAX (03_power_life.md). -/
def SUP_SHUTCFG_COMMITMAX : Fld := ⟨0x1030, 16, 8, 20⟩
/-- SUP_SHUTCFG.GRACE (03_power_life.md). -/
def SUP_SHUTCFG_GRACE : Fld := ⟨0x1030, 0, 12, 1000⟩
/-- SUP_SHUT.CAUSE_WARNDLY (03_power_life.md). -/
def SUP_SHUT_CAUSE_WARNDLY : Fld := ⟨0x1034, 6, 1, 0⟩
/-- SUP_SHUT.CAUSE_LOWPACK (03_power_life.md). -/
def SUP_SHUT_CAUSE_LOWPACK : Fld := ⟨0x1034, 5, 1, 0⟩
/-- SUP_SHUT.CAUSE_SOFT (03_power_life.md). -/
def SUP_SHUT_CAUSE_SOFT : Fld := ⟨0x1034, 4, 1, 0⟩
/-- SUP_SHUT.CANCEL (03_power_life.md). -/
def SUP_SHUT_CANCEL : Fld := ⟨0x1034, 2, 1, 0⟩
/-- SUP_SHUT.SKIP (03_power_life.md). -/
def SUP_SHUT_SKIP : Fld := ⟨0x1034, 1, 1, 0⟩
/-- SUP_SHUT.GO (03_power_life.md). -/
def SUP_SHUT_GO : Fld := ⟨0x1034, 0, 1, 0⟩
/-- SUP_BOOT.STFAIL (03_power_life.md). -/
def SUP_BOOT_STFAIL : Fld := ⟨0x1040, 8, 1, 0⟩
/-- SUP_BOOT.CHK (03_power_life.md). -/
def SUP_BOOT_CHK : Fld := ⟨0x1040, 0, 4, 0⟩
/-- SUP_PACE.MIN (02_handshake_core.md). -/
def SUP_PACE_MIN : Fld := ⟨0x1c00, 16, 12, 4095⟩
/-- SUP_PACE.NOW (02_handshake_core.md). -/
def SUP_PACE_NOW : Fld := ⟨0x1c00, 0, 12, 0⟩
/-- SUP_PACECFG.MINCLR (02_handshake_core.md). -/
def SUP_PACECFG_MINCLR : Fld := ⟨0x1c04, 31, 1, 0⟩
/-- SUP_PACECFG.EN (02_handshake_core.md). -/
def SUP_PACECFG_EN : Fld := ⟨0x1c04, 16, 1, 1⟩
/-- SUP_PACECFG.RUN (02_handshake_core.md). -/
def SUP_PACECFG_RUN : Fld := ⟨0x1c04, 12, 4, 4⟩
/-- SUP_PACECFG.FLOOR (02_handshake_core.md). -/
def SUP_PACECFG_FLOOR : Fld := ⟨0x1c04, 0, 12, 300⟩
/-- SUP_XTCFG.SLOWSRC (02_handshake_core.md). -/
def SUP_XTCFG_SLOWSRC : Fld := ⟨0x1c10, 0, 1, 0⟩
/-- SUP_XTSTAT.XT32LOST (02_handshake_core.md). -/
def SUP_XTSTAT_XT32LOST : Fld := ⟨0x1c14, 9, 1, 0⟩
/-- SUP_XTSTAT.XT24LOST (02_handshake_core.md). -/
def SUP_XTSTAT_XT24LOST : Fld := ⟨0x1c14, 8, 1, 0⟩
/-- SUP_XTSTAT.BACKUP (02_handshake_core.md). -/
def SUP_XTSTAT_BACKUP : Fld := ⟨0x1c14, 2, 1, 1⟩
/-- SUP_XTSTAT.XT32OK (02_handshake_core.md). -/
def SUP_XTSTAT_XT32OK : Fld := ⟨0x1c14, 1, 1, 0⟩
/-- SUP_XTSTAT.XT24OK (02_handshake_core.md). -/
def SUP_XTSTAT_XT24OK : Fld := ⟨0x1c14, 0, 1, 0⟩
/-- SUP_XTCOUNTL.COUNT (02_handshake_core.md). -/
def SUP_XTCOUNTL_COUNT : Fld := ⟨0x1c18, 0, 32, 0⟩
/-- SUP_XTCOUNTH.COUNT (02_handshake_core.md). -/
def SUP_XTCOUNTH_COUNT : Fld := ⟨0x1c1c, 0, 32, 0⟩
/-- SUP_XCLR.CLR (02_handshake_core.md). -/
def SUP_XCLR_CLR : Fld := ⟨0x1c30, 0, 26, 0⟩
/-- SUP_XDROP.IN, entry i (02_handshake_core.md). -/
def SUP_XDROP_IN (i : Nat) : Fld := ⟨0x1c40 + 0x4 * i, 16, 16, 0⟩
/-- SUP_XDROP.OUT, entry i (02_handshake_core.md). -/
def SUP_XDROP_OUT (i : Nat) : Fld := ⟨0x1c40 + 0x4 * i, 0, 16, 0⟩
/-- PD_CTRL.DBGACC, entry i (04_typec_pd.md). -/
def PD_CTRL_DBGACC (i : Nat) : Fld := ⟨0x2000 + 0x200 * i, 15, 1, 0⟩
/-- PD_CTRL.NOMARK, entry i (04_typec_pd.md). -/
def PD_CTRL_NOMARK (i : Nat) : Fld := ⟨0x2000 + 0x200 * i, 14, 1, 0⟩
/-- PD_CTRL.HAYEN, entry i (04_typec_pd.md). -/
def PD_CTRL_HAYEN (i : Nat) : Fld := ⟨0x2000 + 0x200 * i, 13, 1, 1⟩
/-- PD_CTRL.PPSEN, entry i (04_typec_pd.md). -/
def PD_CTRL_PPSEN (i : Nat) : Fld := ⟨0x2000 + 0x200 * i, 12, 1, if i = 0 then 1 else 0⟩
/-- PD_CTRL.EPREN, entry i (04_typec_pd.md). -/
def PD_CTRL_EPREN (i : Nat) : Fld := ⟨0x2000 + 0x200 * i, 11, 1, if i = 0 then 1 else 0⟩
/-- PD_CTRL.RPVAL, entry i (04_typec_pd.md). -/
def PD_CTRL_RPVAL (i : Nat) : Fld := ⟨0x2000 + 0x200 * i, 9, 2, 1⟩
/-- PD_CTRL.TRYSNK, entry i (04_typec_pd.md). -/
def PD_CTRL_TRYSNK (i : Nat) : Fld := ⟨0x2000 + 0x200 * i, 8, 1, if i = 0 then 1 else 0⟩
/-- PD_CTRL.ROLE, entry i (04_typec_pd.md). -/
def PD_CTRL_ROLE (i : Nat) : Fld := ⟨0x2000 + 0x200 * i, 4, 2, 0⟩
/-- PD_STAT.ALTMODE, entry i (04_typec_pd.md). -/
def PD_STAT_ALTMODE (i : Nat) : Fld := ⟨0x2004 + 0x200 * i, 27, 1, 0⟩
/-- PD_STAT.PPS, entry i (04_typec_pd.md). -/
def PD_STAT_PPS (i : Nat) : Fld := ⟨0x2004 + 0x200 * i, 26, 1, 0⟩
/-- PD_STAT.EPR, entry i (04_typec_pd.md). -/
def PD_STAT_EPR (i : Nat) : Fld := ⟨0x2004 + 0x200 * i, 25, 1, 0⟩
/-- PD_STAT.CONTRACT, entry i (04_typec_pd.md). -/
def PD_STAT_CONTRACT (i : Nat) : Fld := ⟨0x2004 + 0x200 * i, 24, 1, 0⟩
/-- PD_STAT.VCONN, entry i (04_typec_pd.md). -/
def PD_STAT_VCONN (i : Nat) : Fld := ⟨0x2004 + 0x200 * i, 23, 1, 0⟩
/-- PD_STAT.DATAROLE, entry i (04_typec_pd.md). -/
def PD_STAT_DATAROLE (i : Nat) : Fld := ⟨0x2004 + 0x200 * i, 22, 1, 0⟩
/-- PD_STAT.PWRROLE, entry i (04_typec_pd.md). -/
def PD_STAT_PWRROLE (i : Nat) : Fld := ⟨0x2004 + 0x200 * i, 21, 1, 0⟩
/-- PD_STAT.ORIENT, entry i (04_typec_pd.md). -/
def PD_STAT_ORIENT (i : Nat) : Fld := ⟨0x2004 + 0x200 * i, 20, 1, 0⟩
/-- PD_STAT.FENCED, entry i (04_typec_pd.md). -/
def PD_STAT_FENCED (i : Nat) : Fld := ⟨0x2004 + 0x200 * i, 19, 1, 0⟩
/-- PD_STAT.TCSTATE, entry i (04_typec_pd.md). -/
def PD_STAT_TCSTATE (i : Nat) : Fld := ⟨0x2004 + 0x200 * i, 16, 3, 0⟩
/-- PD_VBUS.CUR, entry i (04_typec_pd.md). -/
def PD_VBUS_CUR (i : Nat) : Fld := ⟨0x2008 + 0x200 * i, 16, 12, 0⟩
/-- PD_VBUS.VOLT, entry i (04_typec_pd.md). -/
def PD_VBUS_VOLT (i : Nat) : Fld := ⟨0x2008 + 0x200 * i, 0, 12, 0⟩
/-- PD_XLIM.SNKSETTLE, entry i (04_typec_pd.md). -/
def PD_XLIM_SNKSETTLE (i : Nat) : Fld := ⟨0x2010 + 0x200 * i, 16, 6, 15⟩
/-- PD_XLIM.SRCSETTLE, entry i (04_typec_pd.md). -/
def PD_XLIM_SRCSETTLE (i : Nat) : Fld := ⟨0x2010 + 0x200 * i, 0, 9, 250⟩
/-- PD_TXCMD.STATUS, entry i (04_typec_pd.md). -/
def PD_TXCMD_STATUS (i : Nat) : Fld := ⟨0x2020 + 0x200 * i, 24, 8, 0⟩
/-- PD_TXCMD.BUSY, entry i (04_typec_pd.md). -/
def PD_TXCMD_BUSY (i : Nat) : Fld := ⟨0x2020 + 0x200 * i, 23, 1, 0⟩
/-- PD_TXCMD.SOP, entry i (04_typec_pd.md). -/
def PD_TXCMD_SOP (i : Nat) : Fld := ⟨0x2020 + 0x200 * i, 16, 3, 0⟩
/-- PD_TXCMD.LEN, entry i (04_typec_pd.md). -/
def PD_TXCMD_LEN (i : Nat) : Fld := ⟨0x2020 + 0x200 * i, 8, 5, 0⟩
/-- PD_TXCMD.GO, entry i (04_typec_pd.md). -/
def PD_TXCMD_GO (i : Nat) : Fld := ⟨0x2020 + 0x200 * i, 0, 1, 0⟩
/-- PD_RXSTAT.POP, entry i (04_typec_pd.md). -/
def PD_RXSTAT_POP (i : Nat) : Fld := ⟨0x2024 + 0x200 * i, 8, 1, 0⟩
/-- PD_RXSTAT.COUNT, entry i (04_typec_pd.md). -/
def PD_RXSTAT_COUNT (i : Nat) : Fld := ⟨0x2024 + 0x200 * i, 2, 3, 0⟩
/-- PD_RXSTAT.HEAD, entry i (04_typec_pd.md). -/
def PD_RXSTAT_HEAD (i : Nat) : Fld := ⟨0x2024 + 0x200 * i, 0, 2, 0⟩
/-- PD_INT.ALTEXIT, entry i (04_typec_pd.md). -/
def PD_INT_ALTEXIT (i : Nat) : Fld := ⟨0x2028 + 0x200 * i, 10, 1, 0⟩
/-- PD_INT.MOISTCLR, entry i (04_typec_pd.md). -/
def PD_INT_MOISTCLR (i : Nat) : Fld := ⟨0x2028 + 0x200 * i, 9, 1, 0⟩
/-- PD_INT.MOIST, entry i (04_typec_pd.md). -/
def PD_INT_MOIST (i : Nat) : Fld := ⟨0x2028 + 0x200 * i, 8, 1, 0⟩
/-- PD_INT.OCP, entry i (04_typec_pd.md). -/
def PD_INT_OCP (i : Nat) : Fld := ⟨0x2028 + 0x200 * i, 7, 1, 0⟩
/-- PD_INT.OVP, entry i (04_typec_pd.md). -/
def PD_INT_OVP (i : Nat) : Fld := ⟨0x2028 + 0x200 * i, 6, 1, 0⟩
/-- PD_INT.SNKSLOW, entry i (04_typec_pd.md). -/
def PD_INT_SNKSLOW (i : Nat) : Fld := ⟨0x2028 + 0x200 * i, 5, 1, 0⟩
/-- PD_INT.SRCSLOW, entry i (04_typec_pd.md). -/
def PD_INT_SRCSLOW (i : Nat) : Fld := ⟨0x2028 + 0x200 * i, 4, 1, 0⟩
/-- PD_INT.HARDRST, entry i (04_typec_pd.md). -/
def PD_INT_HARDRST (i : Nat) : Fld := ⟨0x2028 + 0x200 * i, 3, 1, 0⟩
/-- PD_INT.CONTRACT, entry i (04_typec_pd.md). -/
def PD_INT_CONTRACT (i : Nat) : Fld := ⟨0x2028 + 0x200 * i, 2, 1, 0⟩
/-- PD_INT.RX, entry i (04_typec_pd.md). -/
def PD_INT_RX (i : Nat) : Fld := ⟨0x2028 + 0x200 * i, 1, 1, 0⟩
/-- PD_INT.ATTACH, entry i (04_typec_pd.md). -/
def PD_INT_ATTACH (i : Nat) : Fld := ⟨0x2028 + 0x200 * i, 0, 1, 0⟩
/-- PD_MOIST.SBU2, entry i (04_typec_pd.md). -/
def PD_MOIST_SBU2 (i : Nat) : Fld := ⟨0x2030 + 0x200 * i, 6, 2, 0⟩
/-- PD_MOIST.SBU1, entry i (04_typec_pd.md). -/
def PD_MOIST_SBU1 (i : Nat) : Fld := ⟨0x2030 + 0x200 * i, 4, 2, 0⟩
/-- PD_MOIST.CC2, entry i (04_typec_pd.md). -/
def PD_MOIST_CC2 (i : Nat) : Fld := ⟨0x2030 + 0x200 * i, 2, 2, 0⟩
/-- PD_MOIST.CC1, entry i (04_typec_pd.md). -/
def PD_MOIST_CC1 (i : Nat) : Fld := ⟨0x2030 + 0x200 * i, 0, 2, 0⟩
/-- PD_MOISTCFG.EN, entry i (04_typec_pd.md). -/
def PD_MOISTCFG_EN (i : Nat) : Fld := ⟨0x2034 + 0x200 * i, 16, 1, 1⟩
/-- PD_MOISTCFG.CLEARN, entry i (04_typec_pd.md). -/
def PD_MOISTCFG_CLEARN (i : Nat) : Fld := ⟨0x2034 + 0x200 * i, 12, 4, 3⟩
/-- PD_MOISTCFG.ACTLIM, entry i (04_typec_pd.md). -/
def PD_MOISTCFG_ACTLIM (i : Nat) : Fld := ⟨0x2034 + 0x200 * i, 4, 2, 3⟩
/-- PD_MOISTCFG.LIMIT, entry i (04_typec_pd.md). -/
def PD_MOISTCFG_LIMIT (i : Nat) : Fld := ⟨0x2034 + 0x200 * i, 0, 2, 2⟩
/-- PD_TXBUFp.DATA, word i (04_typec_pd.md). -/
def PD_TXBUF_DATA (p i : Nat) : Fld := ⟨0x2040 + 0x200 * p + 4 * i, 0, 32, 1515870810⟩
/-- PD_RXBUFp.DATA, word i (04_typec_pd.md). -/
def PD_RXBUF_DATA (p i : Nat) : Fld := ⟨0x2080 + 0x200 * p + 4 * i, 0, 32, 1515870810⟩
/-- PD_BUDGET.USED (04_typec_pd.md). -/
def PD_BUDGET_USED : Fld := ⟨0x2c00, 16, 9, 0⟩
/-- PD_BUDGET.TOTAL (04_typec_pd.md). -/
def PD_BUDGET_TOTAL : Fld := ⟨0x2c00, 0, 9, 60⟩
/-- CHG_CTRL.KICK (05_pack.md). -/
def CHG_CTRL_KICK : Fld := ⟨0x3000, 16, 1, 0⟩
/-- CHG_CTRL.INSEL (05_pack.md). -/
def CHG_CTRL_INSEL : Fld := ⟨0x3000, 4, 3, 0⟩
/-- CHG_CTRL.EN (05_pack.md). -/
def CHG_CTRL_EN : Fld := ⟨0x3000, 1, 1, 0⟩
/-- CHG_CTRL.LOCK (05_pack.md). -/
def CHG_CTRL_LOCK : Fld := ⟨0x3000, 0, 1, 0⟩
/-- CHG_CFG.ILIM (05_pack.md). -/
def CHG_CFG_ILIM : Fld := ⟨0x3004, 24, 8, 60⟩
/-- CHG_CFG.ITERM (05_pack.md). -/
def CHG_CFG_ITERM : Fld := ⟨0x3004, 20, 4, 2⟩
/-- CHG_CFG.IPRE (05_pack.md). -/
def CHG_CFG_IPRE : Fld := ⟨0x3004, 16, 4, 2⟩
/-- CHG_CFG.ICHG (05_pack.md). -/
def CHG_CFG_ICHG : Fld := ⟨0x3004, 8, 8, 20⟩
/-- CHG_CFG.VREG (05_pack.md). -/
def CHG_CFG_VREG : Fld := ⟨0x3004, 0, 8, 60⟩
/-- CHG_TIME.SAFETY (05_pack.md). -/
def CHG_TIME_SAFETY : Fld := ⟨0x3008, 16, 8, 36⟩
/-- CHG_TIME.PRETIME (05_pack.md). -/
def CHG_TIME_PRETIME : Fld := ⟨0x3008, 8, 8, 30⟩
/-- CHG_TIME.WDT (05_pack.md). -/
def CHG_TIME_WDT : Fld := ⟨0x3008, 0, 8, 10⟩
/-- CHG_STAT.TBAND (05_pack.md). -/
def CHG_STAT_TBAND : Fld := ⟨0x300c, 16, 3, 2⟩
/-- CHG_STAT.SUSP (05_pack.md). -/
def CHG_STAT_SUSP : Fld := ⟨0x300c, 12, 4, 0⟩
/-- CHG_STAT.INPORT (05_pack.md). -/
def CHG_STAT_INPORT : Fld := ⟨0x300c, 4, 3, 0⟩
/-- CHG_STAT.STATE (05_pack.md). -/
def CHG_STAT_STATE : Fld := ⟨0x300c, 0, 4, 0⟩
/-- CHG_SESS0.START (05_pack.md). -/
def CHG_SESS0_START : Fld := ⟨0x3010, 0, 32, 0⟩
/-- CHG_SESS1.CHARGE (05_pack.md). -/
def CHG_SESS1_CHARGE : Fld := ⟨0x3014, 0, 32, 0⟩
/-- CHG_SESS2.VALID (05_pack.md). -/
def CHG_SESS2_VALID : Fld := ⟨0x3018, 31, 1, 0⟩
/-- CHG_SESS2.DURATION (05_pack.md). -/
def CHG_SESS2_DURATION : Fld := ⟨0x3018, 8, 23, 0⟩
/-- CHG_SESS2.CAUSE (05_pack.md). -/
def CHG_SESS2_CAUSE : Fld := ⟨0x3018, 0, 4, 0⟩
/-- CHG_INT.OCP (05_pack.md). -/
def CHG_INT_OCP : Fld := ⟨0x3020, 8, 1, 0⟩
/-- CHG_INT.END (05_pack.md). -/
def CHG_INT_END : Fld := ⟨0x3020, 0, 8, 0⟩
/-- CEL_CFG.LOCK (05_pack.md). -/
def CEL_CFG_LOCK : Fld := ⟨0x3800, 31, 1, 0⟩
/-- CEL_CFG.NTC2EN (05_pack.md). -/
def CEL_CFG_NTC2EN : Fld := ⟨0x3800, 16, 1, 0⟩
/-- CEL_CFG.RSNS (05_pack.md). -/
def CEL_CFG_RSNS : Fld := ⟨0x3800, 8, 8, 20⟩
/-- CEL_CFG.NCELL (05_pack.md). -/
def CEL_CFG_NCELL : Fld := ⟨0x3800, 0, 4, 0⟩
/-- CEL_CELL.STATE, entry i (05_pack.md). -/
def CEL_CELL_STATE (i : Nat) : Fld := ⟨0x3810 + 0x4 * i, 16, 3, 0⟩
/-- CEL_CELL.CODE, entry i (05_pack.md). -/
def CEL_CELL_CODE (i : Nat) : Fld := ⟨0x3810 + 0x4 * i, 0, 14, 0⟩
/-- CEL_PACK.CODE (05_pack.md). -/
def CEL_PACK_CODE : Fld := ⟨0x3830, 0, 14, 0⟩
/-- CEL_CUR.CUR (05_pack.md). -/
def CEL_CUR_CUR : Fld := ⟨0x3834, 0, 16, 0⟩
/-- CEL_STAT.OWBUSY (05_pack.md). -/
def CEL_STAT_OWBUSY : Fld := ⟨0x3838, 20, 1, 0⟩
/-- CEL_STAT.PRESENT (05_pack.md). -/
def CEL_STAT_PRESENT : Fld := ⟨0x3838, 16, 1, 0⟩
/-- CEL_STAT.LOWEST (05_pack.md). -/
def CEL_STAT_LOWEST : Fld := ⟨0x3838, 0, 14, 0⟩
/-- CEL_NTC.NTC2 (05_pack.md). -/
def CEL_NTC_NTC2 : Fld := ⟨0x383c, 16, 14, 0⟩
/-- CEL_NTC.NTC1 (05_pack.md). -/
def CEL_NTC_NTC1 : Fld := ⟨0x383c, 0, 14, 0⟩
/-- CEL_BATID.CODE (05_pack.md). -/
def CEL_BATID_CODE : Fld := ⟨0x3840, 0, 14, 0⟩
/-- CEL_TLIM0.COOL (05_pack.md). -/
def CEL_TLIM0_COOL : Fld := ⟨0x3844, 16, 14, 10617⟩
/-- CEL_TLIM0.COLD (05_pack.md). -/
def CEL_TLIM0_COLD : Fld := ⟨0x3844, 0, 14, 12150⟩
/-- CEL_TLIM1.HOT (05_pack.md). -/
def CEL_TLIM1_HOT : Fld := ⟨0x3848, 16, 14, 4237⟩
/-- CEL_TLIM1.WARM (05_pack.md). -/
def CEL_TLIM1_WARM : Fld := ⟨0x3848, 0, 14, 5349⟩
/-- CEL_TLIM2.DSGHOT (05_pack.md). -/
def CEL_TLIM2_DSGHOT : Fld := ⟨0x384c, 0, 14, 3762⟩
/-- CEL_CELLLIM.OV (05_pack.md). -/
def CEL_CELLLIM_OV : Fld := ⟨0x3850, 16, 14, 14090⟩
/-- CEL_CELLLIM.UV (05_pack.md). -/
def CEL_CELLLIM_UV : Fld := ⟨0x3850, 0, 14, 8192⟩
/-- CEL_OWCFG.OPEN (05_pack.md). -/
def CEL_OWCFG_OPEN : Fld := ⟨0x3854, 16, 9, 0⟩
/-- CEL_OWCFG.GO (05_pack.md). -/
def CEL_OWCFG_GO : Fld := ⟨0x3854, 8, 1, 0⟩
/-- CEL_OWCFG.PERIOD (05_pack.md). -/
def CEL_OWCFG_PERIOD : Fld := ⟨0x3854, 0, 8, 10⟩
/-- CEL_BAL.MASK (05_pack.md). -/
def CEL_BAL_MASK : Fld := ⟨0x3858, 0, 8, 0⟩
/-- CEL_GAUGEL.COUNT (05_pack.md). -/
def CEL_GAUGEL_COUNT : Fld := ⟨0x3860, 0, 32, 0⟩
/-- CEL_GAUGEH.SAT (05_pack.md). -/
def CEL_GAUGEH_SAT : Fld := ⟨0x3864, 31, 1, 0⟩
/-- CEL_GAUGEH.CLR (05_pack.md). -/
def CEL_GAUGEH_CLR : Fld := ⟨0x3864, 30, 1, 0⟩
/-- CEL_GAUGEH.COUNT (05_pack.md). -/
def CEL_GAUGEH_COUNT : Fld := ⟨0x3864, 0, 16, 0⟩
/-- CEL_INT.PACKBACK (05_pack.md). -/
def CEL_INT_PACKBACK : Fld := ⟨0x3868, 6, 1, 0⟩
/-- CEL_INT.TEMP (05_pack.md). -/
def CEL_INT_TEMP : Fld := ⟨0x3868, 5, 1, 0⟩
/-- CEL_INT.SUM (05_pack.md). -/
def CEL_INT_SUM : Fld := ⟨0x3868, 4, 1, 0⟩
/-- CEL_INT.UV (05_pack.md). -/
def CEL_INT_UV : Fld := ⟨0x3868, 3, 1, 0⟩
/-- CEL_INT.OV (05_pack.md). -/
def CEL_INT_OV : Fld := ⟨0x3868, 2, 1, 0⟩
/-- CEL_INT.OPEN (05_pack.md). -/
def CEL_INT_OPEN : Fld := ⟨0x3868, 1, 1, 0⟩
/-- CEL_INT.ABSENT (05_pack.md). -/
def CEL_INT_ABSENT : Fld := ⟨0x3868, 0, 1, 0⟩
/-- RAT_CTRL.LOCK (06_ration.md). -/
def RAT_CTRL_LOCK : Fld := ⟨0x3c00, 31, 1, 0⟩
/-- RAT_CTRL.LIMHOLD (06_ration.md). -/
def RAT_CTRL_LIMHOLD : Fld := ⟨0x3c00, 16, 8, 100⟩
/-- RAT_CTRL.LEANMAX (06_ration.md). -/
def RAT_CTRL_LEANMAX : Fld := ⟨0x3c00, 8, 3, 2⟩
/-- RAT_CTRL.PORT (06_ration.md). -/
def RAT_CTRL_PORT : Fld := ⟨0x3c00, 4, 1, 0⟩
/-- RAT_CTRL.CNTCLR (06_ration.md). -/
def RAT_CTRL_CNTCLR : Fld := ⟨0x3c00, 1, 1, 0⟩
/-- RAT_CTRL.EN (06_ration.md). -/
def RAT_CTRL_EN : Fld := ⟨0x3c00, 0, 1, 0⟩
/-- RAT_LVL.DRAW, entry i (06_ration.md). -/
def RAT_LVL_DRAW (i : Nat) : Fld := ⟨0x3c10 + 0x4 * i, 0, 10, 0⟩
/-- RAT_RAIL.GUARD (06_ration.md). -/
def RAT_RAIL_GUARD : Fld := ⟨0x3c30, 16, 10, 200⟩
/-- RAT_RAIL.VFLOOR (06_ration.md). -/
def RAT_RAIL_VFLOOR : Fld := ⟨0x3c30, 0, 12, 0⟩
/-- RAT_STORE.MARGIN (06_ration.md). -/
def RAT_STORE_MARGIN : Fld := ⟨0x3c34, 24, 8, 10⟩
/-- RAT_STORE.CBULK (06_ration.md). -/
def RAT_STORE_CBULK : Fld := ⟨0x3c34, 16, 8, 0⟩
/-- RAT_STORE.IMAX (06_ration.md). -/
def RAT_STORE_IMAX : Fld := ⟨0x3c34, 0, 12, 1000⟩
/-- RAT_RPACK.REST (06_ration.md). -/
def RAT_RPACK_REST : Fld := ⟨0x3c38, 16, 12, 0⟩
/-- RAT_RPACK.RSTEP (06_ration.md). -/
def RAT_RPACK_RSTEP : Fld := ⟨0x3c38, 12, 4, 5⟩
/-- RAT_RPACK.RCFG (06_ration.md). -/
def RAT_RPACK_RCFG : Fld := ⟨0x3c38, 0, 12, 0⟩
/-- RAT_STAT.ACTIVE (06_ration.md). -/
def RAT_STAT_ACTIVE : Fld := ⟨0x3c40, 31, 1, 0⟩
/-- RAT_STAT.LEAN (06_ration.md). -/
def RAT_STAT_LEAN : Fld := ⟨0x3c40, 30, 1, 0⟩
/-- RAT_STAT.INONLY (06_ration.md). -/
def RAT_STAT_INONLY : Fld := ⟨0x3c40, 29, 1, 0⟩
/-- RAT_STAT.STKONLY (06_ration.md). -/
def RAT_STAT_STKONLY : Fld := ⟨0x3c40, 28, 1, 0⟩
/-- RAT_STAT.LEVEL (06_ration.md). -/
def RAT_STAT_LEVEL : Fld := ⟨0x3c40, 24, 3, 0⟩
/-- RAT_STAT.REASON (06_ration.md). -/
def RAT_STAT_REASON : Fld := ⟨0x3c40, 16, 4, 5⟩
/-- RAT_STAT.TAG (06_ration.md). -/
def RAT_STAT_TAG : Fld := ⟨0x3c40, 12, 4, 0⟩
/-- RAT_STAT.LIMIT (06_ration.md). -/
def RAT_STAT_LIMIT : Fld := ⟨0x3c40, 8, 1, 1⟩
/-- RAT_HEAD.E (06_ration.md). -/
def RAT_HEAD_E : Fld := ⟨0x3c44, 16, 16, 0⟩
/-- RAT_HEAD.H (06_ration.md). -/
def RAT_HEAD_H : Fld := ⟨0x3c44, 0, 16, 0⟩
/-- RAT_LASTREQ.WORD (06_ration.md). -/
def RAT_LASTREQ_WORD : Fld := ⟨0x3c48, 16, 16, 0⟩
/-- RAT_LASTREQ.REASON (06_ration.md). -/
def RAT_LASTREQ_REASON : Fld := ⟨0x3c48, 8, 4, 0⟩
/-- RAT_LASTREQ.GDUR (06_ration.md). -/
def RAT_LASTREQ_GDUR : Fld := ⟨0x3c48, 4, 4, 0⟩
/-- RAT_LASTREQ.GLEVEL (06_ration.md). -/
def RAT_LASTREQ_GLEVEL : Fld := ⟨0x3c48, 0, 3, 0⟩
/-- RAT_CNT0.GRANTS (06_ration.md). -/
def RAT_CNT0_GRANTS : Fld := ⟨0x3c50, 16, 16, 0⟩
/-- RAT_CNT0.REFUSALS (06_ration.md). -/
def RAT_CNT0_REFUSALS : Fld := ⟨0x3c50, 0, 16, 0⟩
/-- RAT_CNT1.ABORTS (06_ration.md). -/
def RAT_CNT1_ABORTS : Fld := ⟨0x3c54, 16, 16, 0⟩
/-- RAT_CNT1.PARERR (06_ration.md). -/
def RAT_CNT1_PARERR : Fld := ⟨0x3c54, 0, 16, 0⟩
/-- RAT_INT.CLKLOSS (06_ration.md). -/
def RAT_INT_CLKLOSS : Fld := ⟨0x3c58, 3, 1, 0⟩
/-- RAT_INT.PARERR (06_ration.md). -/
def RAT_INT_PARERR : Fld := ⟨0x3c58, 2, 1, 0⟩
/-- RAT_INT.WITHDRAW (06_ration.md). -/
def RAT_INT_WITHDRAW : Fld := ⟨0x3c58, 1, 1, 0⟩
/-- RAT_INT.ABORT (06_ration.md). -/
def RAT_INT_ABORT : Fld := ⟨0x3c58, 0, 1, 0⟩
/-- HUB_CTRL.LOCK (07_hub_path.md). -/
def HUB_CTRL_LOCK : Fld := ⟨0x4000, 31, 1, 0⟩
/-- HUB_CTRL.RWAKE (07_hub_path.md). -/
def HUB_CTRL_RWAKE : Fld := ⟨0x4000, 8, 1, 0⟩
/-- HUB_CTRL.FNEN (07_hub_path.md). -/
def HUB_CTRL_FNEN : Fld := ⟨0x4000, 2, 1, 1⟩
/-- HUB_CTRL.CNTCLR (07_hub_path.md). -/
def HUB_CTRL_CNTCLR : Fld := ⟨0x4000, 1, 1, 0⟩
/-- HUB_CTRL.EN (07_hub_path.md). -/
def HUB_CTRL_EN : Fld := ⟨0x4000, 0, 1, 0⟩
/-- HUB_CFG.P2PG (07_hub_path.md). -/
def HUB_CFG_P2PG : Fld := ⟨0x4004, 16, 8, 50⟩
/-- HUB_CFG.OCDEB (07_hub_path.md). -/
def HUB_CFG_OCDEB : Fld := ⟨0x4004, 12, 4, 8⟩
/-- HUB_CFG.OCGANG (07_hub_path.md). -/
def HUB_CFG_OCGANG : Fld := ⟨0x4004, 8, 4, 0⟩
/-- HUB_CFG.FBK (07_hub_path.md). -/
def HUB_CFG_FBK : Fld := ⟨0x4004, 0, 4, 7⟩
/-- HUB_STAT.FNCFG (07_hub_path.md). -/
def HUB_STAT_FNCFG : Fld := ⟨0x4008, 23, 1, 0⟩
/-- HUB_STAT.FNADDR (07_hub_path.md). -/
def HUB_STAT_FNADDR : Fld := ⟨0x4008, 16, 7, 0⟩
/-- HUB_STAT.SUSP (07_hub_path.md). -/
def HUB_STAT_SUSP : Fld := ⟨0x4008, 15, 1, 0⟩
/-- HUB_STAT.RWEN (07_hub_path.md). -/
def HUB_STAT_RWEN : Fld := ⟨0x4008, 14, 1, 0⟩
/-- HUB_STAT.ALT (07_hub_path.md). -/
def HUB_STAT_ALT : Fld := ⟨0x4008, 13, 1, 0⟩
/-- HUB_STAT.CFG (07_hub_path.md). -/
def HUB_STAT_CFG : Fld := ⟨0x4008, 12, 1, 0⟩
/-- HUB_STAT.HS (07_hub_path.md). -/
def HUB_STAT_HS : Fld := ⟨0x4008, 11, 1, 0⟩
/-- HUB_STAT.ADDR (07_hub_path.md). -/
def HUB_STAT_ADDR : Fld := ⟨0x4008, 0, 7, 0⟩
/-- HUB_INT.EPUE (07_hub_path.md). -/
def HUB_INT_EPUE : Fld := ⟨0x400c, 6, 1, 0⟩
/-- HUB_INT.CTLTIMEOUT (07_hub_path.md). -/
def HUB_INT_CTLTIMEOUT : Fld := ⟨0x400c, 5, 1, 0⟩
/-- HUB_INT.CTLREQ (07_hub_path.md). -/
def HUB_INT_CTLREQ : Fld := ⟨0x400c, 4, 1, 0⟩
/-- HUB_INT.OC (07_hub_path.md). -/
def HUB_INT_OC : Fld := ⟨0x400c, 3, 1, 0⟩
/-- HUB_INT.RESUME (07_hub_path.md). -/
def HUB_INT_RESUME : Fld := ⟨0x400c, 2, 1, 0⟩
/-- HUB_INT.SUSPEND (07_hub_path.md). -/
def HUB_INT_SUSPEND : Fld := ⟨0x400c, 1, 1, 0⟩
/-- HUB_INT.BUSRESET (07_hub_path.md). -/
def HUB_INT_BUSRESET : Fld := ⟨0x400c, 0, 1, 0⟩
/-- HUB_SETUP0.BYTES (07_hub_path.md). -/
def HUB_SETUP0_BYTES : Fld := ⟨0x4010, 0, 32, 0⟩
/-- HUB_SETUP1.BYTES (07_hub_path.md). -/
def HUB_SETUP1_BYTES : Fld := ⟨0x4014, 0, 32, 0⟩
/-- HUB_CTLREPLY.VALID (07_hub_path.md). -/
def HUB_CTLREPLY_VALID : Fld := ⟨0x4018, 31, 1, 0⟩
/-- HUB_CTLREPLY.ACT (07_hub_path.md). -/
def HUB_CTLREPLY_ACT : Fld := ⟨0x4018, 0, 2, 0⟩
/-- PRT_STAT.FENCED, entry i (07_hub_path.md). -/
def PRT_STAT_FENCED (i : Nat) : Fld := ⟨0x4100 + 0x40 * i, 25, 1, 0⟩
/-- PRT_STAT.SIDE, entry i (07_hub_path.md). -/
def PRT_STAT_SIDE (i : Nat) : Fld := ⟨0x4100 + 0x40 * i, 24, 1, 0⟩
/-- PRT_STAT.CHANGE, entry i (07_hub_path.md). -/
def PRT_STAT_CHANGE (i : Nat) : Fld := ⟨0x4100 + 0x40 * i, 16, 5, 0⟩
/-- PRT_STAT.STATUS, entry i (07_hub_path.md). -/
def PRT_STAT_STATUS (i : Nat) : Fld := ⟨0x4100 + 0x40 * i, 0, 16, 0⟩
/-- PRT_CNT.OC, entry i (07_hub_path.md). -/
def PRT_CNT_OC (i : Nat) : Fld := ⟨0x4104 + 0x40 * i, 16, 16, 0⟩
/-- PRT_CNT.BABBLE, entry i (07_hub_path.md). -/
def PRT_CNT_BABBLE (i : Nat) : Fld := ⟨0x4104 + 0x40 * i, 0, 16, 0⟩
/-- EPM_DIR.BASE (07_hub_path.md). -/
def EPM_DIR_BASE : Fld := ⟨0x5804, 16, 10, 0⟩
/-- EPM_DIR.COUNT (07_hub_path.md). -/
def EPM_DIR_COUNT : Fld := ⟨0x5804, 0, 6, 0⟩
/-- EPM_SLOT.EN, entry i (07_hub_path.md). -/
def EPM_SLOT_EN (i : Nat) : Fld := ⟨0x5810 + 0x4 * i, 31, 1, if i ≤ 1 then 1 else 0⟩
/-- EPM_SLOT.HALT, entry i (07_hub_path.md). -/
def EPM_SLOT_HALT (i : Nat) : Fld := ⟨0x5810 + 0x4 * i, 30, 1, 0⟩
/-- EPM_SLOT.TOG, entry i (07_hub_path.md). -/
def EPM_SLOT_TOG (i : Nat) : Fld := ⟨0x5810 + 0x4 * i, 29, 1, 0⟩
/-- EPM_SLOT.DIR, entry i (07_hub_path.md). -/
def EPM_SLOT_DIR (i : Nat) : Fld := ⟨0x5810 + 0x4 * i, 27, 1, 0⟩
/-- EPM_SLOT.TYPE, entry i (07_hub_path.md). -/
def EPM_SLOT_TYPE (i : Nat) : Fld := ⟨0x5810 + 0x4 * i, 25, 2, 0⟩
/-- EPM_SLOT.EPNUM, entry i (07_hub_path.md). -/
def EPM_SLOT_EPNUM (i : Nat) : Fld := ⟨0x5810 + 0x4 * i, 21, 4, 0⟩
/-- EPM_SLOT.MPS, entry i (07_hub_path.md). -/
def EPM_SLOT_MPS (i : Nat) : Fld := ⟨0x5810 + 0x4 * i, 10, 11, 64⟩
/-- EPM_SLOT.BASE, entry i (07_hub_path.md). -/
def EPM_SLOT_BASE (i : Nat) : Fld := ⟨0x5810 + 0x4 * i, 0, 10, 0⟩
/-- EPM_BANK.FULL1, entry i (07_hub_path.md). -/
def EPM_BANK_FULL1 (i : Nat) : Fld := ⟨0x5858 + 0x4 * i, 31, 1, 0⟩
/-- EPM_BANK.NEXT, entry i (07_hub_path.md). -/
def EPM_BANK_NEXT (i : Nat) : Fld := ⟨0x5858 + 0x4 * i, 30, 1, 0⟩
/-- EPM_BANK.LEN1, entry i (07_hub_path.md). -/
def EPM_BANK_LEN1 (i : Nat) : Fld := ⟨0x5858 + 0x4 * i, 16, 11, 0⟩
/-- EPM_BANK.FULL0, entry i (07_hub_path.md). -/
def EPM_BANK_FULL0 (i : Nat) : Fld := ⟨0x5858 + 0x4 * i, 15, 1, 0⟩
/-- EPM_BANK.LEN0, entry i (07_hub_path.md). -/
def EPM_BANK_LEN0 (i : Nat) : Fld := ⟨0x5858 + 0x4 * i, 0, 11, 0⟩
/-- EPM_ERR.VALID (07_hub_path.md). -/
def EPM_ERR_VALID : Fld := ⟨0x5890, 31, 1, 0⟩
/-- EPM_ERR.SLOT (07_hub_path.md). -/
def EPM_ERR_SLOT : Fld := ⟨0x5890, 24, 4, 0⟩
/-- EPM_ERR.ADDR (07_hub_path.md). -/
def EPM_ERR_ADDR : Fld := ⟨0x5890, 0, 16, 0⟩
/-- PRT_STEER.GO, entry i (08_local_host.md). -/
def PRT_STEER_GO (i : Nat) : Fld := ⟨0x4160 + 0x40 * i, 31, 1, 0⟩
/-- PRT_STEER.BUSY, entry i (08_local_host.md). -/
def PRT_STEER_BUSY (i : Nat) : Fld := ⟨0x4160 + 0x40 * i, 30, 1, 0⟩
/-- PRT_STEER.PCYCLE, entry i (08_local_host.md). -/
def PRT_STEER_PCYCLE (i : Nat) : Fld := ⟨0x4160 + 0x40 * i, 25, 1, 0⟩
/-- PRT_STEER.SIDE, entry i (08_local_host.md). -/
def PRT_STEER_SIDE (i : Nat) : Fld := ⟨0x4160 + 0x40 * i, 24, 1, 0⟩
/-- PRT_STEER.TENANT, entry i (08_local_host.md). -/
def PRT_STEER_TENANT (i : Nat) : Fld := ⟨0x4160 + 0x40 * i, 0, 8, 0⟩
/-- PRT_LSTAT.PARKED, entry i (08_local_host.md). -/
def PRT_LSTAT_PARKED (i : Nat) : Fld := ⟨0x4164 + 0x40 * i, 30, 1, 0⟩
/-- PRT_LSTAT.STEERING, entry i (08_local_host.md). -/
def PRT_LSTAT_STEERING (i : Nat) : Fld := ⟨0x4164 + 0x40 * i, 29, 1, 0⟩
/-- PRT_LSTAT.SPEED, entry i (08_local_host.md). -/
def PRT_LSTAT_SPEED (i : Nat) : Fld := ⟨0x4164 + 0x40 * i, 22, 2, 0⟩
/-- PRT_LSTAT.RESETTING, entry i (08_local_host.md). -/
def PRT_LSTAT_RESETTING (i : Nat) : Fld := ⟨0x4164 + 0x40 * i, 21, 1, 0⟩
/-- PRT_LSTAT.OC, entry i (08_local_host.md). -/
def PRT_LSTAT_OC (i : Nat) : Fld := ⟨0x4164 + 0x40 * i, 20, 1, 0⟩
/-- PRT_LSTAT.SUSP, entry i (08_local_host.md). -/
def PRT_LSTAT_SUSP (i : Nat) : Fld := ⟨0x4164 + 0x40 * i, 19, 1, 0⟩
/-- PRT_LSTAT.POWER, entry i (08_local_host.md). -/
def PRT_LSTAT_POWER (i : Nat) : Fld := ⟨0x4164 + 0x40 * i, 18, 1, 0⟩
/-- PRT_LSTAT.ENABLED, entry i (08_local_host.md). -/
def PRT_LSTAT_ENABLED (i : Nat) : Fld := ⟨0x4164 + 0x40 * i, 17, 1, 0⟩
/-- PRT_LSTAT.CONN, entry i (08_local_host.md). -/
def PRT_LSTAT_CONN (i : Nat) : Fld := ⟨0x4164 + 0x40 * i, 16, 1, 0⟩
/-- PRT_LSTAT.OWNER, entry i (08_local_host.md). -/
def PRT_LSTAT_OWNER (i : Nat) : Fld := ⟨0x4164 + 0x40 * i, 0, 8, 0⟩
/-- PRT_LCNT.XERR, entry i (08_local_host.md). -/
def PRT_LCNT_XERR (i : Nat) : Fld := ⟨0x4168 + 0x40 * i, 16, 16, 0⟩
/-- PRT_LCNT.STEERS, entry i (08_local_host.md). -/
def PRT_LCNT_STEERS (i : Nat) : Fld := ⟨0x4168 + 0x40 * i, 0, 16, 0⟩
/-- PRT_PLOAD.PEAK, entry i (08_local_host.md). -/
def PRT_PLOAD_PEAK (i : Nat) : Fld := ⟨0x416c + 0x40 * i, 0, 13, 0⟩
/-- LHE_CTRL.LOCK (08_local_host.md). -/
def LHE_CTRL_LOCK : Fld := ⟨0x5000, 31, 1, 0⟩
/-- LHE_CTRL.EN (08_local_host.md). -/
def LHE_CTRL_EN : Fld := ⟨0x5000, 16, 1, 0⟩
/-- LHE_CTRL.GAP (08_local_host.md). -/
def LHE_CTRL_GAP : Fld := ⟨0x5000, 8, 8, 100⟩
/-- LHE_STAT.LAG (08_local_host.md). -/
def LHE_STAT_LAG : Fld := ⟨0x5004, 16, 8, 0⟩
/-- LHE_STAT.OPEN (08_local_host.md). -/
def LHE_STAT_OPEN : Fld := ⟨0x5004, 0, 8, 0⟩
/-- LHE_INT.SOFLAG (08_local_host.md). -/
def LHE_INT_SOFLAG : Fld := ⟨0x5008, 5, 1, 0⟩
/-- LHE_INT.STEERDONE (08_local_host.md). -/
def LHE_INT_STEERDONE : Fld := ⟨0x5008, 4, 1, 0⟩
/-- LHE_INT.CTXHALT (08_local_host.md). -/
def LHE_INT_CTXHALT : Fld := ⟨0x5008, 3, 1, 0⟩
/-- LHE_INT.RESUME (08_local_host.md). -/
def LHE_INT_RESUME : Fld := ⟨0x5008, 2, 1, 0⟩
/-- LHE_INT.DETACH (08_local_host.md). -/
def LHE_INT_DETACH : Fld := ⟨0x5008, 1, 1, 0⟩
/-- LHE_INT.ATTACH (08_local_host.md). -/
def LHE_INT_ATTACH : Fld := ⟨0x5008, 0, 1, 0⟩
/-- LHE_CTXW0.VALID, entry i (08_local_host.md). -/
def LHE_CTXW0_VALID (i : Nat) : Fld := ⟨0x5400 + 0x8 * i, 31, 1, 0⟩
/-- LHE_CTXW0.STATE, entry i (08_local_host.md). -/
def LHE_CTXW0_STATE (i : Nat) : Fld := ⟨0x5400 + 0x8 * i, 28, 3, 0⟩
/-- LHE_CTXW0.PORT, entry i (08_local_host.md). -/
def LHE_CTXW0_PORT (i : Nat) : Fld := ⟨0x5400 + 0x8 * i, 24, 4, 0⟩
/-- LHE_CTXW0.ADDR, entry i (08_local_host.md). -/
def LHE_CTXW0_ADDR (i : Nat) : Fld := ⟨0x5400 + 0x8 * i, 17, 7, 0⟩
/-- LHE_CTXW0.EPNUM, entry i (08_local_host.md). -/
def LHE_CTXW0_EPNUM (i : Nat) : Fld := ⟨0x5400 + 0x8 * i, 13, 4, 0⟩
/-- LHE_CTXW0.DIR, entry i (08_local_host.md). -/
def LHE_CTXW0_DIR (i : Nat) : Fld := ⟨0x5400 + 0x8 * i, 12, 1, 0⟩
/-- LHE_CTXW0.TYPE, entry i (08_local_host.md). -/
def LHE_CTXW0_TYPE (i : Nat) : Fld := ⟨0x5400 + 0x8 * i, 10, 2, 0⟩
/-- LHE_CTXW0.MULT, entry i (08_local_host.md). -/
def LHE_CTXW0_MULT (i : Nat) : Fld := ⟨0x5400 + 0x8 * i, 8, 2, 0⟩
/-- LHE_CTXW0.OWNER, entry i (08_local_host.md). -/
def LHE_CTXW0_OWNER (i : Nat) : Fld := ⟨0x5400 + 0x8 * i, 0, 8, 0⟩
/-- LHE_CTXW1.TOG, entry i (08_local_host.md). -/
def LHE_CTXW1_TOG (i : Nat) : Fld := ⟨0x5404 + 0x8 * i, 31, 1, 0⟩
/-- LHE_CTXW1.HCAUSE, entry i (08_local_host.md). -/
def LHE_CTXW1_HCAUSE (i : Nat) : Fld := ⟨0x5404 + 0x8 * i, 29, 2, 0⟩
/-- LHE_CTXW1.PHASE, entry i (08_local_host.md). -/
def LHE_CTXW1_PHASE (i : Nat) : Fld := ⟨0x5404 + 0x8 * i, 24, 5, 0⟩
/-- LHE_CTXW1.IVL, entry i (08_local_host.md). -/
def LHE_CTXW1_IVL (i : Nat) : Fld := ⟨0x5404 + 0x8 * i, 21, 3, 0⟩
/-- LHE_CTXW1.MPS, entry i (08_local_host.md). -/
def LHE_CTXW1_MPS (i : Nat) : Fld := ⟨0x5404 + 0x8 * i, 10, 11, 0⟩
/-- LHE_CTXW1.IFNUM, entry i (08_local_host.md). -/
def LHE_CTXW1_IFNUM (i : Nat) : Fld := ⟨0x5404 + 0x8 * i, 0, 8, 0⟩
/-- LAR_CTRL.LOCK (09_streams_larder.md). -/
def LAR_CTRL_LOCK : Fld := ⟨0x5a00, 31, 1, 0⟩
/-- LAR_CTRL.PARTOK (09_streams_larder.md). -/
def LAR_CTRL_PARTOK : Fld := ⟨0x5a00, 30, 1, 0⟩
/-- LAR_CTRL.DEVRES (09_streams_larder.md). -/
def LAR_CTRL_DEVRES : Fld := ⟨0x5a00, 16, 12, 256⟩
/-- LAR_CTRL.CNTCLR (09_streams_larder.md). -/
def LAR_CTRL_CNTCLR : Fld := ⟨0x5a00, 0, 1, 0⟩
/-- LAR_PART.BASE (09_streams_larder.md). -/
def LAR_PART_BASE : Fld := ⟨0x5a04, 16, 16, 0⟩
/-- LAR_PART.COUNT (09_streams_larder.md). -/
def LAR_PART_COUNT : Fld := ⟨0x5a04, 0, 8, 0⟩
/-- LAR_FREE.FREE (09_streams_larder.md). -/
def LAR_FREE_FREE : Fld := ⟨0x5a08, 0, 17, 65536⟩
/-- LAR_FENCED.FENCED (09_streams_larder.md). -/
def LAR_FENCED_FENCED : Fld := ⟨0x5a0c, 0, 16, 0⟩
/-- LAR_LEAK.COUNT (09_streams_larder.md). -/
def LAR_LEAK_COUNT : Fld := ⟨0x5a10, 0, 17, 0⟩
/-- LAR_USEDSEL.USEDSEL (09_streams_larder.md). -/
def LAR_USEDSEL_USEDSEL : Fld := ⟨0x5a14, 0, 8, 0⟩
/-- LAR_USED.USED (09_streams_larder.md). -/
def LAR_USED_USED : Fld := ⟨0x5a18, 0, 17, 0⟩
/-- LAR_INT.LINKUE (09_streams_larder.md). -/
def LAR_INT_LINKUE : Fld := ⟨0x5a1c, 3, 1, 0⟩
/-- LAR_INT.POISON (09_streams_larder.md). -/
def LAR_INT_POISON : Fld := ⟨0x5a1c, 2, 1, 0⟩
/-- LAR_INT.UNDER (09_streams_larder.md). -/
def LAR_INT_UNDER : Fld := ⟨0x5a1c, 1, 1, 0⟩
/-- LAR_INT.LOST (09_streams_larder.md). -/
def LAR_INT_LOST : Fld := ⟨0x5a1c, 0, 1, 0⟩
/-- LAR_QUOTA.MAX, entry i (09_streams_larder.md). -/
def LAR_QUOTA_MAX (i : Nat) : Fld := ⟨0x5c00 + 0x4 * i, 20, 12, if i = 0 then 0xFFF else 0x100⟩
/-- LAR_QUOTA.MIN, entry i (09_streams_larder.md). -/
def LAR_QUOTA_MIN (i : Nat) : Fld := ⟨0x5c00 + 0x4 * i, 8, 12, if i = 0 then 0x100 else 0⟩
/-- STR_W0.STATE, entry i (09_streams_larder.md). -/
def STR_W0_STATE (i : Nat) : Fld := ⟨0x6000 + 0x20 * i, 29, 3, 0⟩
/-- STR_W0.SHARE, entry i (09_streams_larder.md). -/
def STR_W0_SHARE (i : Nat) : Fld := ⟨0x6000 + 0x20 * i, 28, 1, 0⟩
/-- STR_W0.OWNER, entry i (09_streams_larder.md). -/
def STR_W0_OWNER (i : Nat) : Fld := ⟨0x6000 + 0x20 * i, 16, 8, 0⟩
/-- STR_W0.SOURCE, entry i (09_streams_larder.md). -/
def STR_W0_SOURCE (i : Nat) : Fld := ⟨0x6000 + 0x20 * i, 0, 16, 0⟩
/-- STR_W1.PREFILL, entry i (09_streams_larder.md). -/
def STR_W1_PREFILL (i : Nat) : Fld := ⟨0x6004 + 0x20 * i, 20, 12, 0⟩
/-- STR_W1.CH, entry i (09_streams_larder.md). -/
def STR_W1_CH (i : Nat) : Fld := ⟨0x6004 + 0x20 * i, 12, 5, 0⟩
/-- STR_W1.WIDTH, entry i (09_streams_larder.md). -/
def STR_W1_WIDTH (i : Nat) : Fld := ⟨0x6004 + 0x20 * i, 8, 2, 0⟩
/-- STR_W1.RATE, entry i (09_streams_larder.md). -/
def STR_W1_RATE (i : Nat) : Fld := ⟨0x6004 + 0x20 * i, 0, 4, 0⟩
/-- STR_W2.SINK1, entry i (09_streams_larder.md). -/
def STR_W2_SINK1 (i : Nat) : Fld := ⟨0x6008 + 0x20 * i, 16, 16, 0⟩
/-- STR_W2.SINK0, entry i (09_streams_larder.md). -/
def STR_W2_SINK0 (i : Nat) : Fld := ⟨0x6008 + 0x20 * i, 0, 16, 0⟩
/-- STR_W3.SINK3, entry i (09_streams_larder.md). -/
def STR_W3_SINK3 (i : Nat) : Fld := ⟨0x600c + 0x20 * i, 16, 16, 0⟩
/-- STR_W3.SINK2, entry i (09_streams_larder.md). -/
def STR_W3_SINK2 (i : Nat) : Fld := ⟨0x600c + 0x20 * i, 0, 16, 0⟩
/-- STR_W4.SINK5, entry i (09_streams_larder.md). -/
def STR_W4_SINK5 (i : Nat) : Fld := ⟨0x6010 + 0x20 * i, 16, 16, 0⟩
/-- STR_W4.SINK4, entry i (09_streams_larder.md). -/
def STR_W4_SINK4 (i : Nat) : Fld := ⟨0x6010 + 0x20 * i, 0, 16, 0⟩
/-- STR_W5.SINK7, entry i (09_streams_larder.md). -/
def STR_W5_SINK7 (i : Nat) : Fld := ⟨0x6014 + 0x20 * i, 16, 16, 0⟩
/-- STR_W5.SINK6, entry i (09_streams_larder.md). -/
def STR_W5_SINK6 (i : Nat) : Fld := ⟨0x6014 + 0x20 * i, 0, 16, 0⟩
/-- STR_W6.SOWN3, entry i (09_streams_larder.md). -/
def STR_W6_SOWN3 (i : Nat) : Fld := ⟨0x6018 + 0x20 * i, 24, 8, 0⟩
/-- STR_W6.SOWN2, entry i (09_streams_larder.md). -/
def STR_W6_SOWN2 (i : Nat) : Fld := ⟨0x6018 + 0x20 * i, 16, 8, 0⟩
/-- STR_W6.SOWN1, entry i (09_streams_larder.md). -/
def STR_W6_SOWN1 (i : Nat) : Fld := ⟨0x6018 + 0x20 * i, 8, 8, 0⟩
/-- STR_W6.SOWN0, entry i (09_streams_larder.md). -/
def STR_W6_SOWN0 (i : Nat) : Fld := ⟨0x6018 + 0x20 * i, 0, 8, 0⟩
/-- STR_W7.SOWN7, entry i (09_streams_larder.md). -/
def STR_W7_SOWN7 (i : Nat) : Fld := ⟨0x601c + 0x20 * i, 24, 8, 0⟩
/-- STR_W7.SOWN6, entry i (09_streams_larder.md). -/
def STR_W7_SOWN6 (i : Nat) : Fld := ⟨0x601c + 0x20 * i, 16, 8, 0⟩
/-- STR_W7.SOWN5, entry i (09_streams_larder.md). -/
def STR_W7_SOWN5 (i : Nat) : Fld := ⟨0x601c + 0x20 * i, 8, 8, 0⟩
/-- STR_W7.SOWN4, entry i (09_streams_larder.md). -/
def STR_W7_SOWN4 (i : Nat) : Fld := ⟨0x601c + 0x20 * i, 0, 8, 0⟩
/-- QUE_W0.MODE, entry i (09_streams_larder.md). -/
def QUE_W0_MODE (i : Nat) : Fld := ⟨0x8000 + 0x10 * i, 30, 2, queRst i 30 2⟩
/-- QUE_W0.OWNER, entry i (09_streams_larder.md). -/
def QUE_W0_OWNER (i : Nat) : Fld := ⟨0x8000 + 0x10 * i, 16, 9, queRst i 16 9⟩
/-- QUE_W0.DEPTH, entry i (09_streams_larder.md). -/
def QUE_W0_DEPTH (i : Nat) : Fld := ⟨0x8000 + 0x10 * i, 0, 16, queRst i 0 16⟩
/-- QUE_W1.LOSTSAT, entry i (09_streams_larder.md). -/
def QUE_W1_LOSTSAT (i : Nat) : Fld := ⟨0x8004 + 0x10 * i, 31, 1, 0⟩
/-- QUE_W1.CNTCLR, entry i (09_streams_larder.md). -/
def QUE_W1_CNTCLR (i : Nat) : Fld := ⟨0x8004 + 0x10 * i, 30, 1, 0⟩
/-- QUE_W1.FLUSHING, entry i (09_streams_larder.md). -/
def QUE_W1_FLUSHING (i : Nat) : Fld := ⟨0x8004 + 0x10 * i, 29, 1, 0⟩
/-- QUE_W1.CELLS, entry i (09_streams_larder.md). -/
def QUE_W1_CELLS (i : Nat) : Fld := ⟨0x8004 + 0x10 * i, 0, 17, 0⟩
/-- QUE_W2.LOST, entry i (09_streams_larder.md). -/
def QUE_W2_LOST (i : Nat) : Fld := ⟨0x8008 + 0x10 * i, 0, 32, 0⟩
/-- QUE_W3.UNDER, entry i (09_streams_larder.md). -/
def QUE_W3_UNDER (i : Nat) : Fld := ⟨0x800c + 0x10 * i, 16, 16, 0⟩
/-- QUE_W3.POISON, entry i (09_streams_larder.md). -/
def QUE_W3_POISON (i : Nat) : Fld := ⟨0x800c + 0x10 * i, 0, 16, 0⟩
/-- TDM_CTRL.CNTCLR, entry i (10_tdm_ports.md). -/
def TDM_CTRL_CNTCLR (i : Nat) : Fld := ⟨0xc000 + 0x40 * i, 1, 1, 0⟩
/-- TDM_CTRL.EN, entry i (10_tdm_ports.md). -/
def TDM_CTRL_EN (i : Nat) : Fld := ⟨0xc000 + 0x40 * i, 0, 1, 0⟩
/-- TDM_CFG.MASTER, entry i (10_tdm_ports.md). -/
def TDM_CFG_MASTER (i : Nat) : Fld := ⟨0xc004 + 0x40 * i, 24, 1, 0⟩
/-- TDM_CFG.RATE, entry i (10_tdm_ports.md). -/
def TDM_CFG_RATE (i : Nat) : Fld := ⟨0xc004 + 0x40 * i, 16, 4, 7⟩
/-- TDM_CFG.NSLOT, entry i (10_tdm_ports.md). -/
def TDM_CFG_NSLOT (i : Nat) : Fld := ⟨0xc004 + 0x40 * i, 8, 4, 7⟩
/-- TDM_CFG.FSW, entry i (10_tdm_ports.md). -/
def TDM_CFG_FSW (i : Nat) : Fld := ⟨0xc004 + 0x40 * i, 7, 1, 0⟩
/-- TDM_CFG.FSDLY, entry i (10_tdm_ports.md). -/
def TDM_CFG_FSDLY (i : Nat) : Fld := ⟨0xc004 + 0x40 * i, 6, 1, 0⟩
/-- TDM_CFG.FSPOL, entry i (10_tdm_ports.md). -/
def TDM_CFG_FSPOL (i : Nat) : Fld := ⟨0xc004 + 0x40 * i, 5, 1, 0⟩
/-- TDM_CFG.BCLKPOL, entry i (10_tdm_ports.md). -/
def TDM_CFG_BCLKPOL (i : Nat) : Fld := ⟨0xc004 + 0x40 * i, 4, 1, 0⟩
/-- TDM_CFG.IDLE, entry i (10_tdm_ports.md). -/
def TDM_CFG_IDLE (i : Nat) : Fld := ⟨0xc004 + 0x40 * i, 3, 1, 0⟩
/-- TDM_CFG.ALIGN, entry i (10_tdm_ports.md). -/
def TDM_CFG_ALIGN (i : Nat) : Fld := ⟨0xc004 + 0x40 * i, 2, 1, 0⟩
/-- TDM_DELAY.DELAY, entry i (10_tdm_ports.md). -/
def TDM_DELAY_DELAY (i : Nat) : Fld := ⟨0xc008 + 0x40 * i, 0, 16, 2000⟩
/-- TDM_STAT.FENCED, entry i (10_tdm_ports.md). -/
def TDM_STAT_FENCED (i : Nat) : Fld := ⟨0xc00c + 0x40 * i, 3, 1, 0⟩
/-- TDM_STAT.CLKLOST, entry i (10_tdm_ports.md). -/
def TDM_STAT_CLKLOST (i : Nat) : Fld := ⟨0xc00c + 0x40 * i, 2, 1, 0⟩
/-- TDM_STAT.RUNNING, entry i (10_tdm_ports.md). -/
def TDM_STAT_RUNNING (i : Nat) : Fld := ⟨0xc00c + 0x40 * i, 1, 1, 0⟩
/-- TDM_CNT.FSERR, entry i (10_tdm_ports.md). -/
def TDM_CNT_FSERR (i : Nat) : Fld := ⟨0xc010 + 0x40 * i, 16, 16, 0⟩
/-- TDM_CNT.CLKLOSS, entry i (10_tdm_ports.md). -/
def TDM_CNT_CLKLOSS (i : Nat) : Fld := ⟨0xc010 + 0x40 * i, 0, 16, 0⟩
/-- TDM_INT.FSERR, entry i (10_tdm_ports.md). -/
def TDM_INT_FSERR (i : Nat) : Fld := ⟨0xc014 + 0x40 * i, 2, 1, 0⟩
/-- TDM_INT.CLKBACK, entry i (10_tdm_ports.md). -/
def TDM_INT_CLKBACK (i : Nat) : Fld := ⟨0xc014 + 0x40 * i, 1, 1, 0⟩
/-- TDM_INT.CLKLOSS, entry i (10_tdm_ports.md). -/
def TDM_INT_CLKLOSS (i : Nat) : Fld := ⟨0xc014 + 0x40 * i, 0, 1, 0⟩
/-- TDM_PLL.LOCKED (10_tdm_ports.md). -/
def TDM_PLL_LOCKED : Fld := ⟨0xc100, 31, 1, 0⟩
/-- TDM_PLL.AMEN (10_tdm_ports.md). -/
def TDM_PLL_AMEN : Fld := ⟨0xc100, 8, 1, 0⟩
/-- TDM_PLL.AMDIV (10_tdm_ports.md). -/
def TDM_PLL_AMDIV : Fld := ⟨0xc100, 4, 3, 1⟩
/-- TDM_PLL.FAMILY (10_tdm_ports.md). -/
def TDM_PLL_FAMILY : Fld := ⟨0xc100, 0, 1, 0⟩
/-- HIF_CTRL.CNTCLR (11_rings.md). -/
def HIF_CTRL_CNTCLR : Fld := ⟨0xd000, 0, 1, 0⟩
/-- HIF_STAT.LINKUP (11_rings.md). -/
def HIF_STAT_LINKUP : Fld := ⟨0xd004, 31, 1, 0⟩
/-- HIF_STAT.SPEED (11_rings.md). -/
def HIF_STAT_SPEED : Fld := ⟨0xd004, 28, 2, 0⟩
/-- HIF_STAT.EXTTAG (11_rings.md). -/
def HIF_STAT_EXTTAG : Fld := ⟨0xd004, 24, 1, 0⟩
/-- HIF_STAT.TAGS (11_rings.md). -/
def HIF_STAT_TAGS : Fld := ⟨0xd004, 0, 9, 0⟩
/-- HIF_INT.CPLERR (11_rings.md). -/
def HIF_INT_CPLERR : Fld := ⟨0xd008, 2, 1, 0⟩
/-- HIF_INT.CPLTO (11_rings.md). -/
def HIF_INT_CPLTO : Fld := ⟨0xd008, 1, 1, 0⟩
/-- HIF_INT.POISONIN (11_rings.md). -/
def HIF_INT_POISONIN : Fld := ⟨0xd008, 0, 1, 0⟩
/-- HIF_CNT.POISONIN (11_rings.md). -/
def HIF_CNT_POISONIN : Fld := ⟨0xd00c, 16, 16, 0⟩
/-- HIF_CNT.CPLFAIL (11_rings.md). -/
def HIF_CNT_CPLFAIL : Fld := ⟨0xd00c, 0, 16, 0⟩
/-- HIF_TKTFREE.FREE (11_rings.md). -/
def HIF_TKTFREE_FREE : Fld := ⟨0xd010, 0, 14, 8192⟩
/-- HIF_TKTSEL.TENANT (11_rings.md). -/
def HIF_TKTSEL_TENANT : Fld := ⟨0xd014, 0, 8, 0⟩
/-- HIF_TKTHELD.HELD (11_rings.md). -/
def HIF_TKTHELD_HELD : Fld := ⟨0xd018, 0, 14, 0⟩
/-- HIF_TKT.MAX, entry i (11_rings.md). -/
def HIF_TKT_MAX (i : Nat) : Fld := ⟨0xd400 + 0x4 * i, 16, 14, 512⟩
/-- HIF_TKT.MIN, entry i (11_rings.md). -/
def HIF_TKT_MIN (i : Nat) : Fld := ⟨0xd400 + 0x4 * i, 0, 14, 16⟩
/-- TEN_GFLR.GO (12_tenants.md). -/
def TEN_GFLR_GO : Fld := ⟨0xe000, 31, 1, 0⟩
/-- TEN_GFLR.TENANT (12_tenants.md). -/
def TEN_GFLR_TENANT : Fld := ⟨0xe000, 0, 8, 0⟩
/-- TEN_GINT.UNFENCED (12_tenants.md). -/
def TEN_GINT_UNFENCED : Fld := ⟨0xe004, 2, 1, 0⟩
/-- TEN_GINT.FENCED (12_tenants.md). -/
def TEN_GINT_FENCED : Fld := ⟨0xe004, 1, 1, 0⟩
/-- TEN_GINT.FLRDONE (12_tenants.md). -/
def TEN_GINT_FLRDONE : Fld := ⟨0xe004, 0, 1, 0⟩
/-- TEN_GSTAT.EXISTS, entry i (12_tenants.md). -/
def TEN_GSTAT_EXISTS (i : Nat) : Fld := ⟨0xe400 + 0x4 * i, 31, 1, if i = 0 then 1 else 0⟩
/-- TEN_GSTAT.FENCED, entry i (12_tenants.md). -/
def TEN_GSTAT_FENCED (i : Nat) : Fld := ⟨0xe400 + 0x4 * i, 30, 1, 0⟩
/-- TEN_GSTAT.FLRBUSY, entry i (12_tenants.md). -/
def TEN_GSTAT_FLRBUSY (i : Nat) : Fld := ⟨0xe400 + 0x4 * i, 29, 1, 0⟩
/-- TEN_GSTAT.PORTS, entry i (12_tenants.md). -/
def TEN_GSTAT_PORTS (i : Nat) : Fld := ⟨0xe400 + 0x4 * i, 16, 8, 0⟩
/-- TEN_GSTAT.STREAMS, entry i (12_tenants.md). -/
def TEN_GSTAT_STREAMS (i : Nat) : Fld := ⟨0xe400 + 0x4 * i, 0, 9, 0⟩
/-- TEN_GISO.WEIGHT, entry i (12_tenants.md). -/
def TEN_GISO_WEIGHT (i : Nat) : Fld := ⟨0xe800 + 0x4 * i, 24, 8, 16⟩
/-- TEN_GISO.USBPM, entry i (12_tenants.md). -/
def TEN_GISO_USBPM (i : Nat) : Fld := ⟨0xe800 + 0x4 * i, 0, 13, if i = 0 then 0x1C20 else 0⟩
/-- TEN_GHAY.ALLOW, entry i (12_tenants.md). -/
def TEN_GHAY_ALLOW (i : Nat) : Fld := ⟨0xec00 + 0x4 * i, 0, 15, if i = 0 then 0x7FFF else 0⟩
/-- HAY_CTRL.LOCK (13_haywain.md). -/
def HAY_CTRL_LOCK : Fld := ⟨0xf000, 31, 1, 0⟩
/-- HAY_CTRL.CNTCLR (13_haywain.md). -/
def HAY_CTRL_CNTCLR : Fld := ⟨0xf000, 1, 1, 0⟩
/-- HAY_CTRL.EN (13_haywain.md). -/
def HAY_CTRL_EN : Fld := ⟨0xf000, 0, 1, 0⟩
/-- HAY_UNIT.VALID (13_haywain.md). -/
def HAY_UNIT_VALID : Fld := ⟨0xf004, 31, 1, 0⟩
/-- HAY_UNIT.ALIAS (13_haywain.md). -/
def HAY_UNIT_ALIAS : Fld := ⟨0xf004, 16, 12, 0⟩
/-- HAY_UNIT.ALIASV (13_haywain.md). -/
def HAY_UNIT_ALIASV : Fld := ⟨0xf004, 15, 1, 0⟩
/-- HAY_UNIT.ID (13_haywain.md). -/
def HAY_UNIT_ID : Fld := ⟨0xf004, 0, 12, 0⟩
/-- HAY_CFG.KEEP (13_haywain.md). -/
def HAY_CFG_KEEP : Fld := ⟨0xf008, 0, 8, 10⟩
/-- HAY_STAT.GM (13_haywain.md). -/
def HAY_STAT_GM : Fld := ⟨0xf00c, 31, 1, 1⟩
/-- HAY_STAT.PARENT (13_haywain.md). -/
def HAY_STAT_PARENT : Fld := ⟨0xf00c, 28, 3, 7⟩
/-- HAY_STAT.HOPS (13_haywain.md). -/
def HAY_STAT_HOPS : Fld := ⟨0xf00c, 23, 5, 0⟩
/-- HAY_STAT.UNITS (13_haywain.md). -/
def HAY_STAT_UNITS : Fld := ⟨0xf00c, 0, 13, 1⟩
/-- HAY_INT.CTLRX (13_haywain.md). -/
def HAY_INT_CTLRX : Fld := ⟨0xf010, 7, 1, 0⟩
/-- HAY_INT.NOROUTE (13_haywain.md). -/
def HAY_INT_NOROUTE : Fld := ⟨0xf010, 6, 1, 0⟩
/-- HAY_INT.TOODEEP (13_haywain.md). -/
def HAY_INT_TOODEEP : Fld := ⟨0xf010, 5, 1, 0⟩
/-- HAY_INT.DUPID (13_haywain.md). -/
def HAY_INT_DUPID : Fld := ⟨0xf010, 4, 1, 0⟩
/-- HAY_INT.REROUTE (13_haywain.md). -/
def HAY_INT_REROUTE : Fld := ⟨0xf010, 3, 1, 0⟩
/-- HAY_INT.FLOWLOST (13_haywain.md). -/
def HAY_INT_FLOWLOST : Fld := ⟨0xf010, 2, 1, 0⟩
/-- HAY_INT.LANEDOWN (13_haywain.md). -/
def HAY_INT_LANEDOWN : Fld := ⟨0xf010, 1, 1, 0⟩
/-- HAY_INT.LANEUP (13_haywain.md). -/
def HAY_INT_LANEUP : Fld := ⟨0xf010, 0, 1, 0⟩
/-- HAY_LANE0.EN, entry i (13_haywain.md). -/
def HAY_LANE0_EN (i : Nat) : Fld := ⟨0xf040 + 0x10 * i, 31, 1, 1⟩
/-- HAY_LANE0.FENCED, entry i (13_haywain.md). -/
def HAY_LANE0_FENCED (i : Nat) : Fld := ⟨0xf040 + 0x10 * i, 30, 1, 0⟩
/-- HAY_LANE0.STATE, entry i (13_haywain.md). -/
def HAY_LANE0_STATE (i : Nat) : Fld := ⟨0xf040 + 0x10 * i, 16, 3, 0⟩
/-- HAY_LANE0.ROLE, entry i (13_haywain.md). -/
def HAY_LANE0_ROLE (i : Nat) : Fld := ⟨0xf040 + 0x10 * i, 12, 2, 0⟩
/-- HAY_LANE0.NBR, entry i (13_haywain.md). -/
def HAY_LANE0_NBR (i : Nat) : Fld := ⟨0xf040 + 0x10 * i, 0, 12, 0⟩
/-- HAY_LANE4.AUSED, entry i (13_haywain.md). -/
def HAY_LANE4_AUSED (i : Nat) : Fld := ⟨0xf044 + 0x10 * i, 16, 16, 0⟩
/-- HAY_LANE4.ABUDGET, entry i (13_haywain.md). -/
def HAY_LANE4_ABUDGET (i : Nat) : Fld := ⟨0xf044 + 0x10 * i, 0, 16, 46875⟩
/-- HAY_LANE8.CRCERR, entry i (13_haywain.md). -/
def HAY_LANE8_CRCERR (i : Nat) : Fld := ⟨0xf048 + 0x10 * i, 16, 16, 0⟩
/-- HAY_LANE8.RETRY, entry i (13_haywain.md). -/
def HAY_LANE8_RETRY (i : Nat) : Fld := ⟨0xf048 + 0x10 * i, 0, 16, 0⟩
/-- HAY_LANEC.CODEERR, entry i (13_haywain.md). -/
def HAY_LANEC_CODEERR (i : Nat) : Fld := ⟨0xf04c + 0x10 * i, 16, 16, 0⟩
/-- HAY_LANEC.DROP, entry i (13_haywain.md). -/
def HAY_LANEC_DROP (i : Nat) : Fld := ⟨0xf04c + 0x10 * i, 0, 16, 0⟩
/-- HAY_RTSEL.ID (13_haywain.md). -/
def HAY_RTSEL_ID : Fld := ⟨0xf100, 0, 12, 0⟩
/-- HAY_RT.KNOWN (13_haywain.md). -/
def HAY_RT_KNOWN : Fld := ⟨0xf104, 31, 1, 0⟩
/-- HAY_RT.HOPS (13_haywain.md). -/
def HAY_RT_HOPS : Fld := ⟨0xf104, 8, 5, 0⟩
/-- HAY_RT.LANE (13_haywain.md). -/
def HAY_RT_LANE : Fld := ⟨0xf104, 0, 3, 0⟩
/-- HAY_FLOW.OPEN, entry i (13_haywain.md). -/
def HAY_FLOW_OPEN (i : Nat) : Fld := ⟨0xf400 + 0x4 * i, 31, 1, 0⟩
/-- HAY_FLOW.DIR, entry i (13_haywain.md). -/
def HAY_FLOW_DIR (i : Nat) : Fld := ⟨0xf400 + 0x4 * i, 30, 1, 0⟩
/-- HAY_FLOW.REROUTING, entry i (13_haywain.md). -/
def HAY_FLOW_REROUTING (i : Nat) : Fld := ⟨0xf400 + 0x4 * i, 29, 1, 0⟩
/-- HAY_FLOW.UNIT, entry i (13_haywain.md). -/
def HAY_FLOW_UNIT (i : Nat) : Fld := ⟨0xf400 + 0x4 * i, 16, 12, 0⟩
/-- HAY_FLOW.CONCEAL, entry i (13_haywain.md). -/
def HAY_FLOW_CONCEAL (i : Nat) : Fld := ⟨0xf400 + 0x4 * i, 8, 8, 0⟩
/-- HAY_FLOW.RESYNC, entry i (13_haywain.md). -/
def HAY_FLOW_RESYNC (i : Nat) : Fld := ⟨0xf400 + 0x4 * i, 0, 8, 0⟩
/-- HAY_CTXBUF.DATA, entry i (13_haywain.md). -/
def HAY_CTXBUF_DATA (i : Nat) : Fld := ⟨0xf800 + 0x4 * i, 0, 32, 1515870810⟩
/-- HAY_CRXBUF.DATA, entry i (13_haywain.md). -/
def HAY_CRXBUF_DATA (i : Nat) : Fld := ⟨0xfa00 + 0x4 * i, 0, 32, 1515870810⟩
/-- HAY_CTXCMD.GO (13_haywain.md). -/
def HAY_CTXCMD_GO : Fld := ⟨0xfc00, 31, 1, 0⟩
/-- HAY_CTXCMD.BUSY (13_haywain.md). -/
def HAY_CTXCMD_BUSY : Fld := ⟨0xfc00, 30, 1, 0⟩
/-- HAY_CTXCMD.BCAST (13_haywain.md). -/
def HAY_CTXCMD_BCAST : Fld := ⟨0xfc00, 29, 1, 0⟩
/-- HAY_CTXCMD.DST (13_haywain.md). -/
def HAY_CTXCMD_DST : Fld := ⟨0xfc00, 16, 12, 0⟩
/-- HAY_CTXCMD.LEN (13_haywain.md). -/
def HAY_CTXCMD_LEN : Fld := ⟨0xfc00, 0, 10, 0⟩
/-- HAY_CTXSTAT.STATUS (13_haywain.md). -/
def HAY_CTXSTAT_STATUS : Fld := ⟨0xfc04, 0, 8, 0⟩
/-- HAY_CRXSTAT.VALID (13_haywain.md). -/
def HAY_CRXSTAT_VALID : Fld := ⟨0xfc08, 31, 1, 0⟩
/-- HAY_CRXSTAT.BCAST (13_haywain.md). -/
def HAY_CRXSTAT_BCAST : Fld := ⟨0xfc08, 29, 1, 0⟩
/-- HAY_CRXSTAT.SRC (13_haywain.md). -/
def HAY_CRXSTAT_SRC : Fld := ⟨0xfc08, 16, 12, 0⟩
/-- HAY_CRXSTAT.LEN (13_haywain.md). -/
def HAY_CRXSTAT_LEN : Fld := ⟨0xfc08, 0, 10, 0⟩
/-- HAY_CRXPOP.POP (13_haywain.md). -/
def HAY_CRXPOP_POP : Fld := ⟨0xfc0c, 0, 1, 0⟩
/-- ALM_CTRL.LOCK (13_haywain.md). -/
def ALM_CTRL_LOCK : Fld := ⟨0x10000, 31, 1, 0⟩
/-- ALM_CFG.GMEN (13_haywain.md). -/
def ALM_CFG_GMEN : Fld := ⟨0x10004, 16, 1, 1⟩
/-- ALM_CFG.PRIO (13_haywain.md). -/
def ALM_CFG_PRIO : Fld := ⟨0x10004, 8, 8, 128⟩
/-- ALM_STAT.GM (13_haywain.md). -/
def ALM_STAT_GM : Fld := ⟨0x10008, 31, 1, 1⟩
/-- ALM_STAT.LOCKED (13_haywain.md). -/
def ALM_STAT_LOCKED : Fld := ⟨0x10008, 30, 1, 0⟩
/-- ALM_STAT.HOLDOVER (13_haywain.md). -/
def ALM_STAT_HOLDOVER : Fld := ⟨0x10008, 29, 1, 0⟩
/-- ALM_STAT.SLEWING (13_haywain.md). -/
def ALM_STAT_SLEWING : Fld := ⟨0x10008, 28, 1, 0⟩
/-- ALM_STAT.PAUSED (13_haywain.md). -/
def ALM_STAT_PAUSED : Fld := ⟨0x10008, 27, 1, 0⟩
/-- ALM_STAT.CLASS (13_haywain.md). -/
def ALM_STAT_CLASS : Fld := ⟨0x10008, 20, 1, 1⟩
/-- ALM_INT.PAUSE (13_haywain.md). -/
def ALM_INT_PAUSE : Fld := ⟨0x1000c, 4, 1, 0⟩
/-- ALM_INT.UNLOCK (13_haywain.md). -/
def ALM_INT_UNLOCK : Fld := ⟨0x1000c, 3, 1, 0⟩
/-- ALM_INT.LOCK (13_haywain.md). -/
def ALM_INT_LOCK : Fld := ⟨0x1000c, 2, 1, 0⟩
/-- ALM_INT.STEP (13_haywain.md). -/
def ALM_INT_STEP : Fld := ⟨0x1000c, 1, 1, 0⟩
/-- ALM_INT.GMCHG (13_haywain.md). -/
def ALM_INT_GMCHG : Fld := ⟨0x1000c, 0, 1, 0⟩
/-- ALM_TIMEL.TIME (13_haywain.md). -/
def ALM_TIMEL_TIME : Fld := ⟨0x10010, 0, 32, 0⟩
/-- ALM_TIMEH.TIME (13_haywain.md). -/
def ALM_TIMEH_TIME : Fld := ⟨0x10014, 0, 32, 0⟩
/-- ALM_MFIDX.MFIDX (13_haywain.md). -/
def ALM_MFIDX_MFIDX : Fld := ⟨0x10018, 0, 32, 0⟩
/-- ALM_OFFSET.O (13_haywain.md). -/
def ALM_OFFSET_O : Fld := ⟨0x1001c, 0, 32, 0⟩
/-- ALM_GMKEY.KEY (13_haywain.md). -/
def ALM_GMKEY_KEY : Fld := ⟨0x10020, 0, 32, 2148532224⟩
/-- ALM_LANE0.DELAY, entry i (13_haywain.md). -/
def ALM_LANE0_DELAY (i : Nat) : Fld := ⟨0x10040 + 0x8 * i, 0, 24, 0⟩
/-- ALM_LANE4.ASYM, entry i (13_haywain.md). -/
def ALM_LANE4_ASYM (i : Nat) : Fld := ⟨0x10044 + 0x8 * i, 0, 16, 0⟩
/-- YOK_CTRL.LOCK (14_yoke.md). -/
def YOK_CTRL_LOCK : Fld := ⟨0x11000, 31, 1, 0⟩
/-- YOK_CTRL.HANDOVER (14_yoke.md). -/
def YOK_CTRL_HANDOVER : Fld := ⟨0x11000, 8, 1, 0⟩
/-- YOK_CTRL.CNTCLR (14_yoke.md). -/
def YOK_CTRL_CNTCLR : Fld := ⟨0x11000, 1, 1, 0⟩
/-- YOK_CTRL.EN (14_yoke.md). -/
def YOK_CTRL_EN : Fld := ⟨0x11000, 0, 1, 0⟩
/-- YOK_CFG.SIDE (14_yoke.md). -/
def YOK_CFG_SIDE : Fld := ⟨0x11004, 16, 1, 0⟩
/-- YOK_CFG.ALIAS (14_yoke.md). -/
def YOK_CFG_ALIAS : Fld := ⟨0x11004, 0, 12, 0⟩
/-- YOK_STAT.MISMATCH (14_yoke.md). -/
def YOK_STAT_MISMATCH : Fld := ⟨0x11008, 8, 1, 0⟩
/-- YOK_STAT.DRIVE (14_yoke.md). -/
def YOK_STAT_DRIVE : Fld := ⟨0x11008, 7, 1, 0⟩
/-- YOK_STAT.TOKEN (14_yoke.md). -/
def YOK_STAT_TOKEN : Fld := ⟨0x11008, 6, 1, 1⟩
/-- YOK_STAT.MSYNC (14_yoke.md). -/
def YOK_STAT_MSYNC : Fld := ⟨0x11008, 5, 1, 0⟩
/-- YOK_STAT.PAIRED (14_yoke.md). -/
def YOK_STAT_PAIRED : Fld := ⟨0x11008, 4, 1, 0⟩
/-- YOK_STAT.ROLE (14_yoke.md). -/
def YOK_STAT_ROLE : Fld := ⟨0x11008, 0, 3, 0⟩
/-- YOK_INT.HANDOVER (14_yoke.md). -/
def YOK_INT_HANDOVER : Fld := ⟨0x1100c, 7, 1, 0⟩
/-- YOK_INT.YIELD (14_yoke.md). -/
def YOK_INT_YIELD : Fld := ⟨0x1100c, 6, 1, 0⟩
/-- YOK_INT.TOKENFAULT (14_yoke.md). -/
def YOK_INT_TOKENFAULT : Fld := ⟨0x1100c, 5, 1, 0⟩
/-- YOK_INT.MISMATCH (14_yoke.md). -/
def YOK_INT_MISMATCH : Fld := ⟨0x1100c, 4, 1, 0⟩
/-- YOK_INT.MIRRORRX (14_yoke.md). -/
def YOK_INT_MIRRORRX : Fld := ⟨0x1100c, 3, 1, 0⟩
/-- YOK_INT.PAIRDOWN (14_yoke.md). -/
def YOK_INT_PAIRDOWN : Fld := ⟨0x1100c, 2, 1, 0⟩
/-- YOK_INT.PAIRUP (14_yoke.md). -/
def YOK_INT_PAIRUP : Fld := ⟨0x1100c, 1, 1, 0⟩
/-- YOK_INT.TAKEOVER (14_yoke.md). -/
def YOK_INT_TAKEOVER : Fld := ⟨0x1100c, 0, 1, 0⟩
/-- YOK_TXSEQ.HBSEQ (14_yoke.md). -/
def YOK_TXSEQ_HBSEQ : Fld := ⟨0x11010, 0, 32, 0⟩
/-- YOK_RXSEQ.HBSEQ (14_yoke.md). -/
def YOK_RXSEQ_HBSEQ : Fld := ⟨0x11014, 0, 32, 0⟩
/-- YOK_CNT.LOSSES (14_yoke.md). -/
def YOK_CNT_LOSSES : Fld := ⟨0x11018, 16, 16, 0⟩
/-- YOK_CNT.RESENDS (14_yoke.md). -/
def YOK_CNT_RESENDS : Fld := ⟨0x11018, 0, 16, 0⟩
/-- YOK_MCFG.SBASE (14_yoke.md). -/
def YOK_MCFG_SBASE : Fld := ⟨0x11020, 0, 5, 0⟩
/-- YOK_MGEN.MGEN (14_yoke.md). -/
def YOK_MGEN_MGEN : Fld := ⟨0x11024, 0, 32, 0⟩
/-- YOK_MTXCMD.GO (14_yoke.md). -/
def YOK_MTXCMD_GO : Fld := ⟨0x11030, 31, 1, 0⟩
/-- YOK_MTXCMD.BUSY (14_yoke.md). -/
def YOK_MTXCMD_BUSY : Fld := ⟨0x11030, 30, 1, 0⟩
/-- YOK_MTXCMD.STATUS (14_yoke.md). -/
def YOK_MTXCMD_STATUS : Fld := ⟨0x11030, 16, 8, 0⟩
/-- YOK_MTXCMD.LEN (14_yoke.md). -/
def YOK_MTXCMD_LEN : Fld := ⟨0x11030, 0, 11, 0⟩
/-- YOK_MRXSTAT.VALID (14_yoke.md). -/
def YOK_MRXSTAT_VALID : Fld := ⟨0x11034, 31, 1, 0⟩
/-- YOK_MRXSTAT.POP (14_yoke.md). -/
def YOK_MRXSTAT_POP : Fld := ⟨0x11034, 30, 1, 0⟩
/-- YOK_MRXSTAT.LEN (14_yoke.md). -/
def YOK_MRXSTAT_LEN : Fld := ⟨0x11034, 0, 11, 0⟩
/-- YOK_MTXBUF.DATA, entry i (14_yoke.md). -/
def YOK_MTXBUF_DATA (i : Nat) : Fld := ⟨0x11400 + 0x4 * i, 0, 32, 1515870810⟩
/-- YOK_MRXBUF.DATA, entry i (14_yoke.md). -/
def YOK_MRXBUF_DATA (i : Nat) : Fld := ⟨0x11800 + 0x4 * i, 0, 32, 1515870810⟩
/-- FLS_CTRL.LOCK (15_flash_granary.md). -/
def FLS_CTRL_LOCK : Fld := ⟨0x12000, 31, 1, 0⟩
/-- FLS_CTRL.WLOCK (15_flash_granary.md). -/
def FLS_CTRL_WLOCK : Fld := ⟨0x12000, 30, 1, 0⟩
/-- FLS_CTRL.FLUSH (15_flash_granary.md). -/
def FLS_CTRL_FLUSH : Fld := ⟨0x12000, 1, 1, 0⟩
/-- FLS_CFG.DPD (15_flash_granary.md). -/
def FLS_CFG_DPD : Fld := ⟨0x12004, 16, 1, 0⟩
/-- FLS_CFG.RDLY (15_flash_granary.md). -/
def FLS_CFG_RDLY : Fld := ⟨0x12004, 8, 8, 0⟩
/-- FLS_CFG.DIV (15_flash_granary.md). -/
def FLS_CFG_DIV : Fld := ⟨0x12004, 0, 8, 48⟩
/-- FLS_PROFA0.RDOP (15_flash_granary.md). -/
def FLS_PROFA0_RDOP : Fld := ⟨0x12010, 24, 8, 3⟩
/-- FLS_PROFA0.PPOP (15_flash_granary.md). -/
def FLS_PROFA0_PPOP : Fld := ⟨0x12010, 16, 8, 2⟩
/-- FLS_PROFA0.CLANES (15_flash_granary.md). -/
def FLS_PROFA0_CLANES : Fld := ⟨0x12010, 14, 2, 0⟩
/-- FLS_PROFA0.ALANES (15_flash_granary.md). -/
def FLS_PROFA0_ALANES : Fld := ⟨0x12010, 12, 2, 0⟩
/-- FLS_PROFA0.DLANES (15_flash_granary.md). -/
def FLS_PROFA0_DLANES : Fld := ⟨0x12010, 10, 2, 0⟩
/-- FLS_PROFA0.PLANES (15_flash_granary.md). -/
def FLS_PROFA0_PLANES : Fld := ⟨0x12010, 8, 2, 0⟩
/-- FLS_PROFA0.ADDR4 (15_flash_granary.md). -/
def FLS_PROFA0_ADDR4 : Fld := ⟨0x12010, 7, 1, 0⟩
/-- FLS_PROFA0.DDR (15_flash_granary.md). -/
def FLS_PROFA0_DDR : Fld := ⟨0x12010, 6, 1, 0⟩
/-- FLS_PROFA0.CMDX (15_flash_granary.md). -/
def FLS_PROFA0_CMDX : Fld := ⟨0x12010, 5, 1, 0⟩
/-- FLS_PROFA0.DQS (15_flash_granary.md). -/
def FLS_PROFA0_DQS : Fld := ⟨0x12010, 4, 1, 0⟩
/-- FLS_PROFA0.SUSP (15_flash_granary.md). -/
def FLS_PROFA0_SUSP : Fld := ⟨0x12010, 3, 1, 0⟩
/-- FLS_PROFB0.DUMMY (15_flash_granary.md). -/
def FLS_PROFB0_DUMMY : Fld := ⟨0x12014, 16, 5, 0⟩
/-- FLS_PROFB0.STDUMMY (15_flash_granary.md). -/
def FLS_PROFB0_STDUMMY : Fld := ⟨0x12014, 8, 4, 0⟩
/-- FLS_PROFA1.RDOP (15_flash_granary.md). -/
def FLS_PROFA1_RDOP : Fld := ⟨0x12018, 24, 8, 3⟩
/-- FLS_PROFA1.PPOP (15_flash_granary.md). -/
def FLS_PROFA1_PPOP : Fld := ⟨0x12018, 16, 8, 2⟩
/-- FLS_PROFA1.CLANES (15_flash_granary.md). -/
def FLS_PROFA1_CLANES : Fld := ⟨0x12018, 14, 2, 0⟩
/-- FLS_PROFA1.ALANES (15_flash_granary.md). -/
def FLS_PROFA1_ALANES : Fld := ⟨0x12018, 12, 2, 0⟩
/-- FLS_PROFA1.DLANES (15_flash_granary.md). -/
def FLS_PROFA1_DLANES : Fld := ⟨0x12018, 10, 2, 0⟩
/-- FLS_PROFA1.PLANES (15_flash_granary.md). -/
def FLS_PROFA1_PLANES : Fld := ⟨0x12018, 8, 2, 0⟩
/-- FLS_PROFA1.ADDR4 (15_flash_granary.md). -/
def FLS_PROFA1_ADDR4 : Fld := ⟨0x12018, 7, 1, 0⟩
/-- FLS_PROFA1.DDR (15_flash_granary.md). -/
def FLS_PROFA1_DDR : Fld := ⟨0x12018, 6, 1, 0⟩
/-- FLS_PROFA1.CMDX (15_flash_granary.md). -/
def FLS_PROFA1_CMDX : Fld := ⟨0x12018, 5, 1, 0⟩
/-- FLS_PROFA1.DQS (15_flash_granary.md). -/
def FLS_PROFA1_DQS : Fld := ⟨0x12018, 4, 1, 0⟩
/-- FLS_PROFA1.SUSP (15_flash_granary.md). -/
def FLS_PROFA1_SUSP : Fld := ⟨0x12018, 3, 1, 0⟩
/-- FLS_PROFB1.DUMMY (15_flash_granary.md). -/
def FLS_PROFB1_DUMMY : Fld := ⟨0x1201c, 16, 5, 0⟩
/-- FLS_PROFB1.STDUMMY (15_flash_granary.md). -/
def FLS_PROFB1_STDUMMY : Fld := ⟨0x1201c, 8, 4, 0⟩
/-- FLS_DMAP.DEC (15_flash_granary.md). -/
def FLS_DMAP_DEC : Fld := ⟨0x12020, 31, 1, 0⟩
/-- FLS_DMAP.SEL (15_flash_granary.md). -/
def FLS_DMAP_SEL : Fld := ⟨0x12020, 28, 1, 0⟩
/-- FLS_DMAP.SIZE (15_flash_granary.md). -/
def FLS_DMAP_SIZE : Fld := ⟨0x12020, 0, 25, 0⟩
/-- FLS_DBASE.BASE (15_flash_granary.md). -/
def FLS_DBASE_BASE : Fld := ⟨0x12024, 0, 32, 0⟩
/-- FLS_WMAP.SEL (15_flash_granary.md). -/
def FLS_WMAP_SEL : Fld := ⟨0x12028, 28, 1, 0⟩
/-- FLS_WMAP.SIZE (15_flash_granary.md). -/
def FLS_WMAP_SIZE : Fld := ⟨0x12028, 0, 25, 0⟩
/-- FLS_WBASE.BASE (15_flash_granary.md). -/
def FLS_WBASE_BASE : Fld := ⟨0x1202c, 0, 32, 0⟩
/-- FLS_TMO.ERASETMO (15_flash_granary.md). -/
def FLS_TMO_ERASETMO : Fld := ⟨0x12030, 16, 16, 1000⟩
/-- FLS_TMO.PPTMO (15_flash_granary.md). -/
def FLS_TMO_PPTMO : Fld := ⟨0x12030, 8, 8, 5⟩
/-- FLS_TMO.POLL (15_flash_granary.md). -/
def FLS_TMO_POLL : Fld := ⟨0x12030, 0, 8, 2⟩
/-- FLS_SUS.TSUS (15_flash_granary.md). -/
def FLS_SUS_TSUS : Fld := ⟨0x12034, 8, 8, 30⟩
/-- FLS_SUS.SUSGAP (15_flash_granary.md). -/
def FLS_SUS_SUSGAP : Fld := ⟨0x12034, 0, 8, 10⟩
/-- FLS_CMD.GO (15_flash_granary.md). -/
def FLS_CMD_GO : Fld := ⟨0x12040, 31, 1, 0⟩
/-- FLS_CMD.BUSY (15_flash_granary.md). -/
def FLS_CMD_BUSY : Fld := ⟨0x12040, 30, 1, 0⟩
/-- FLS_CMD.STATUS (15_flash_granary.md). -/
def FLS_CMD_STATUS : Fld := ⟨0x12040, 16, 8, 0⟩
/-- FLS_CMD.SEL (15_flash_granary.md). -/
def FLS_CMD_SEL : Fld := ⟨0x12040, 15, 1, 0⟩
/-- FLS_CMD.OP (15_flash_granary.md). -/
def FLS_CMD_OP : Fld := ⟨0x12040, 12, 3, 0⟩
/-- FLS_CMD.LEN (15_flash_granary.md). -/
def FLS_CMD_LEN : Fld := ⟨0x12040, 0, 9, 0⟩
/-- FLS_CMDADDR.ADDR (15_flash_granary.md). -/
def FLS_CMDADDR_ADDR : Fld := ⟨0x12044, 0, 32, 0⟩
/-- FLS_STAT.SUSPENDED (15_flash_granary.md). -/
def FLS_STAT_SUSPENDED : Fld := ⟨0x12048, 2, 1, 0⟩
/-- FLS_STAT.ERASING (15_flash_granary.md). -/
def FLS_STAT_ERASING : Fld := ⟨0x12048, 1, 1, 0⟩
/-- FLS_STAT.PROGRAMMING (15_flash_granary.md). -/
def FLS_STAT_PROGRAMMING : Fld := ⟨0x12048, 0, 1, 0⟩
/-- FLS_ERR.VALID (15_flash_granary.md). -/
def FLS_ERR_VALID : Fld := ⟨0x1204c, 31, 1, 0⟩
/-- FLS_ERR.MULTI (15_flash_granary.md). -/
def FLS_ERR_MULTI : Fld := ⟨0x1204c, 30, 1, 0⟩
/-- FLS_ERR.CODE (15_flash_granary.md). -/
def FLS_ERR_CODE : Fld := ⟨0x1204c, 0, 8, 0⟩
/-- FLS_ERRADDR.ADDR (15_flash_granary.md). -/
def FLS_ERRADDR_ADDR : Fld := ⟨0x12050, 0, 32, 0⟩
/-- FLS_INT.WERR (15_flash_granary.md). -/
def FLS_INT_WERR : Fld := ⟨0x12054, 2, 1, 0⟩
/-- FLS_INT.CMDDONE (15_flash_granary.md). -/
def FLS_INT_CMDDONE : Fld := ⟨0x12054, 1, 1, 0⟩
/-- FLS_INT.TIMEOUT (15_flash_granary.md). -/
def FLS_INT_TIMEOUT : Fld := ⟨0x12054, 0, 1, 0⟩
/-- FLS_CMDBUF.DATA, entry i (15_flash_granary.md). -/
def FLS_CMDBUF_DATA (i : Nat) : Fld := ⟨0x12100 + 0x4 * i, 0, 32, 1515870810⟩
/-- GRN_CTRL.LOCK (15_flash_granary.md). -/
def GRN_CTRL_LOCK : Fld := ⟨0x13000, 31, 1, 0⟩
/-- GRN_CTRL.SCAN (15_flash_granary.md). -/
def GRN_CTRL_SCAN : Fld := ⟨0x13000, 2, 1, 0⟩
/-- GRN_CTRL.EN (15_flash_granary.md). -/
def GRN_CTRL_EN : Fld := ⟨0x13000, 0, 1, 0⟩
/-- GRN_CFG.SPACING (15_flash_granary.md). -/
def GRN_CFG_SPACING : Fld := ⟨0x13004, 24, 8, 4⟩
/-- GRN_CFG.ENDUR (15_flash_granary.md). -/
def GRN_CFG_ENDUR : Fld := ⟨0x13004, 16, 8, 80⟩
/-- GRN_CFG.BBASE (15_flash_granary.md). -/
def GRN_CFG_BBASE : Fld := ⟨0x13004, 8, 8, 1⟩
/-- GRN_CFG.ABASE (15_flash_granary.md). -/
def GRN_CFG_ABASE : Fld := ⟨0x13004, 0, 8, 0⟩
/-- GRN_COMMIT.GO (15_flash_granary.md). -/
def GRN_COMMIT_GO : Fld := ⟨0x13008, 31, 1, 0⟩
/-- GRN_COMMIT.STATUS (15_flash_granary.md). -/
def GRN_COMMIT_STATUS : Fld := ⟨0x13008, 16, 8, 0⟩
/-- GRN_COMMIT.TWIN (15_flash_granary.md). -/
def GRN_COMMIT_TWIN : Fld := ⟨0x13008, 13, 1, 0⟩
/-- GRN_COMMIT.MIRROR (15_flash_granary.md). -/
def GRN_COMMIT_MIRROR : Fld := ⟨0x13008, 12, 1, 0⟩
/-- GRN_COMMIT.LEN (15_flash_granary.md). -/
def GRN_COMMIT_LEN : Fld := ⟨0x13008, 0, 12, 0⟩
/-- GRN_BUF.BASE (15_flash_granary.md). -/
def GRN_BUF_BASE : Fld := ⟨0x1300c, 0, 18, 0⟩
/-- GRN_STAT.READY (15_flash_granary.md). -/
def GRN_STAT_READY : Fld := ⟨0x13010, 31, 1, 0⟩
/-- GRN_STAT.WRITING (15_flash_granary.md). -/
def GRN_STAT_WRITING : Fld := ⟨0x13010, 30, 1, 0⟩
/-- GRN_STAT.PENDING (15_flash_granary.md). -/
def GRN_STAT_PENDING : Fld := ⟨0x13010, 29, 1, 0⟩
/-- GRN_STAT.ERASING (15_flash_granary.md). -/
def GRN_STAT_ERASING : Fld := ⟨0x13010, 28, 1, 0⟩
/-- GRN_STAT.FENCED (15_flash_granary.md). -/
def GRN_STAT_FENCED : Fld := ⟨0x13010, 27, 1, 0⟩
/-- GRN_STAT.FOUND (15_flash_granary.md). -/
def GRN_STAT_FOUND : Fld := ⟨0x13010, 26, 1, 0⟩
/-- GRN_STAT.SCANNING (15_flash_granary.md). -/
def GRN_STAT_SCANNING : Fld := ⟨0x13010, 25, 1, 0⟩
/-- GRN_LASTSEQ.SEQ (15_flash_granary.md). -/
def GRN_LASTSEQ_SEQ : Fld := ⟨0x13014, 0, 32, 4294967295⟩
/-- GRN_SELADDR.ADDR (15_flash_granary.md). -/
def GRN_SELADDR_ADDR : Fld := ⟨0x13018, 0, 24, 0⟩
/-- GRN_SELSEQ.SEQ (15_flash_granary.md). -/
def GRN_SELSEQ_SEQ : Fld := ⟨0x1301c, 0, 32, 0⟩
/-- GRN_SELINFO.FLAGS (15_flash_granary.md). -/
def GRN_SELINFO_FLAGS : Fld := ⟨0x13020, 16, 3, 0⟩
/-- GRN_SELINFO.LEN (15_flash_granary.md). -/
def GRN_SELINFO_LEN : Fld := ⟨0x13020, 0, 12, 0⟩
/-- GRN_WEARA.COUNT (15_flash_granary.md). -/
def GRN_WEARA_COUNT : Fld := ⟨0x13024, 0, 32, 0⟩
/-- GRN_WEARB.COUNT (15_flash_granary.md). -/
def GRN_WEARB_COUNT : Fld := ⟨0x13028, 0, 32, 0⟩
/-- GRN_INT.WEAR (15_flash_granary.md). -/
def GRN_INT_WEAR : Fld := ⟨0x1302c, 4, 1, 0⟩
/-- GRN_INT.VERIFY (15_flash_granary.md). -/
def GRN_INT_VERIFY : Fld := ⟨0x1302c, 3, 1, 0⟩
/-- GRN_INT.SCANDONE (15_flash_granary.md). -/
def GRN_INT_SCANDONE : Fld := ⟨0x1302c, 2, 1, 0⟩
/-- GRN_INT.ABORT (15_flash_granary.md). -/
def GRN_INT_ABORT : Fld := ⟨0x1302c, 1, 1, 0⟩
/-- GRN_INT.DONE (15_flash_granary.md). -/
def GRN_INT_DONE : Fld := ⟨0x1302c, 0, 1, 0⟩
/-- ECC_CTRL.LOCK (16_ecc.md). -/
def ECC_CTRL_LOCK : Fld := ⟨0x14000, 31, 1, 0⟩
/-- ECC_CTRL.CNTCLR (16_ecc.md). -/
def ECC_CTRL_CNTCLR : Fld := ⟨0x14000, 0, 1, 0⟩
/-- ECC_LBCFG.LEAK (16_ecc.md). -/
def ECC_LBCFG_LEAK : Fld := ⟨0x14004, 16, 16, 1000⟩
/-- ECC_LBCFG.CAP (16_ecc.md). -/
def ECC_LBCFG_CAP : Fld := ⟨0x14004, 0, 8, 16⟩
/-- ECC_INT.FILLDONE (16_ecc.md). -/
def ECC_INT_FILLDONE : Fld := ⟨0x14008, 5, 1, 0⟩
/-- ECC_INT.UE (16_ecc.md). -/
def ECC_INT_UE : Fld := ⟨0x14008, 4, 1, 0⟩
/-- ECC_INT.GLFULL (16_ecc.md). -/
def ECC_INT_GLFULL : Fld := ⟨0x14008, 3, 1, 0⟩
/-- ECC_INT.GLEAN (16_ecc.md). -/
def ECC_INT_GLEAN : Fld := ⟨0x14008, 2, 1, 0⟩
/-- ECC_INT.LARUE (16_ecc.md). -/
def ECC_INT_LARUE : Fld := ⟨0x14008, 1, 1, 0⟩
/-- ECC_INT.LARCE (16_ecc.md). -/
def ECC_INT_LARCE : Fld := ⟨0x14008, 0, 1, 0⟩
/-- ECC_LBFLAG.OVF (16_ecc.md). -/
def ECC_LBFLAG_OVF : Fld := ⟨0x1400c, 0, 16, 0⟩
/-- ECC_LBLVL.LEVEL3, entry i (16_ecc.md). -/
def ECC_LBLVL_LEVEL3 (i : Nat) : Fld := ⟨0x14010 + 0x4 * i, 24, 8, 0⟩
/-- ECC_LBLVL.LEVEL2, entry i (16_ecc.md). -/
def ECC_LBLVL_LEVEL2 (i : Nat) : Fld := ⟨0x14010 + 0x4 * i, 16, 8, 0⟩
/-- ECC_LBLVL.LEVEL1, entry i (16_ecc.md). -/
def ECC_LBLVL_LEVEL1 (i : Nat) : Fld := ⟨0x14010 + 0x4 * i, 8, 8, 0⟩
/-- ECC_LBLVL.LEVEL0, entry i (16_ecc.md). -/
def ECC_LBLVL_LEVEL0 (i : Nat) : Fld := ⟨0x14010 + 0x4 * i, 0, 8, 0⟩
/-- ECC_LBCNT.UE, entry i (16_ecc.md). -/
def ECC_LBCNT_UE (i : Nat) : Fld := ⟨0x14020 + 0x4 * i, 16, 16, 0⟩
/-- ECC_LBCNT.OVF, entry i (16_ecc.md). -/
def ECC_LBCNT_OVF (i : Nat) : Fld := ⟨0x14020 + 0x4 * i, 0, 16, 0⟩
/-- ECC_UEREC.VALID (16_ecc.md). -/
def ECC_UEREC_VALID : Fld := ⟨0x14060, 31, 1, 0⟩
/-- ECC_UEREC.MULTI (16_ecc.md). -/
def ECC_UEREC_MULTI : Fld := ⟨0x14060, 30, 1, 0⟩
/-- ECC_UEREC.CLASS (16_ecc.md). -/
def ECC_UEREC_CLASS : Fld := ⟨0x14060, 28, 2, 0⟩
/-- ECC_UEREC.MEM (16_ecc.md). -/
def ECC_UEREC_MEM : Fld := ⟨0x14060, 24, 4, 0⟩
/-- ECC_UEREC.REQ (16_ecc.md). -/
def ECC_UEREC_REQ : Fld := ⟨0x14060, 16, 8, 0⟩
/-- ECC_UEADDR.ADDR (16_ecc.md). -/
def ECC_UEADDR_ADDR : Fld := ⟨0x14064, 0, 22, 0⟩
/-- ECC_UECNT.UE (16_ecc.md). -/
def ECC_UECNT_UE : Fld := ⟨0x14068, 16, 16, 0⟩
/-- ECC_UECNT.WIPE (16_ecc.md). -/
def ECC_UECNT_WIPE : Fld := ⟨0x14068, 0, 16, 0⟩
/-- ECC_INJ.ARM (16_ecc.md). -/
def ECC_INJ_ARM : Fld := ⟨0x14070, 31, 1, 0⟩
/-- ECC_INJ.TARGET (16_ecc.md). -/
def ECC_INJ_TARGET : Fld := ⟨0x14070, 24, 5, 0⟩
/-- ECC_INJ.MASK (16_ecc.md). -/
def ECC_INJ_MASK : Fld := ⟨0x14070, 8, 8, 0⟩
/-- ECC_INJ.COUNT (16_ecc.md). -/
def ECC_INJ_COUNT : Fld := ⟨0x14070, 0, 8, 0⟩
/-- ECC_FILL.GO (16_ecc.md). -/
def ECC_FILL_GO : Fld := ⟨0x14074, 31, 1, 0⟩
/-- ECC_FILL.BUSY (16_ecc.md). -/
def ECC_FILL_BUSY : Fld := ⟨0x14074, 30, 1, 0⟩
/-- ECC_FILL.MEM (16_ecc.md). -/
def ECC_FILL_MEM : Fld := ⟨0x14074, 24, 2, 0⟩
/-- ECC_FILL.STATUS (16_ecc.md). -/
def ECC_FILL_STATUS : Fld := ⟨0x14074, 16, 8, 0⟩
/-- ECC_FILLBASE.BASE (16_ecc.md). -/
def ECC_FILLBASE_BASE : Fld := ⟨0x14078, 0, 22, 0⟩
/-- ECC_FILLLEN.LEN (16_ecc.md). -/
def ECC_FILLLEN_LEN : Fld := ⟨0x1407c, 0, 22, 0⟩
/-- ECC_GLSTAT.OVFSAT (16_ecc.md). -/
def ECC_GLSTAT_OVFSAT : Fld := ⟨0x14080, 31, 1, 0⟩
/-- ECC_GLSTAT.OVF (16_ecc.md). -/
def ECC_GLSTAT_OVF : Fld := ⟨0x14080, 8, 16, 0⟩
/-- ECC_GLSTAT.COUNT (16_ecc.md). -/
def ECC_GLSTAT_COUNT : Fld := ⟨0x14080, 0, 5, 0⟩
/-- ECC_GLCLR.CLR (16_ecc.md). -/
def ECC_GLCLR_CLR : Fld := ⟨0x14084, 0, 1, 0⟩
/-- ECC_GLW0.VALID, entry i (16_ecc.md). -/
def ECC_GLW0_VALID (i : Nat) : Fld := ⟨0x14100 + 0x10 * i, 31, 1, 0⟩
/-- ECC_GLW0.MEM, entry i (16_ecc.md). -/
def ECC_GLW0_MEM (i : Nat) : Fld := ⟨0x14100 + 0x10 * i, 29, 2, 0⟩
/-- ECC_GLW0.BIT, entry i (16_ecc.md). -/
def ECC_GLW0_BIT (i : Nat) : Fld := ⟨0x14100 + 0x10 * i, 22, 7, 0⟩
/-- ECC_GLW0.ADDR, entry i (16_ecc.md). -/
def ECC_GLW0_ADDR (i : Nat) : Fld := ⟨0x14100 + 0x10 * i, 0, 15, 0⟩
/-- ECC_GLW1.HITS, entry i (16_ecc.md). -/
def ECC_GLW1_HITS (i : Nat) : Fld := ⟨0x14104 + 0x10 * i, 24, 8, 0⟩
/-- ECC_GLW1.SYN, entry i (16_ecc.md). -/
def ECC_GLW1_SYN (i : Nat) : Fld := ⟨0x14104 + 0x10 * i, 16, 8, 0⟩
/-- ECC_GLW1.REQ, entry i (16_ecc.md). -/
def ECC_GLW1_REQ (i : Nat) : Fld := ⟨0x14104 + 0x10 * i, 0, 8, 0⟩
/-- ECC_GLW2.SECONDS, entry i (16_ecc.md). -/
def ECC_GLW2_SECONDS (i : Nat) : Fld := ⟨0x14108 + 0x10 * i, 0, 32, 0⟩
/-- FLT_CTRL.LOCK (17_faults.md). -/
def FLT_CTRL_LOCK : Fld := ⟨0x15000, 31, 1, 0⟩
/-- FLT_INT.SEVERE (17_faults.md). -/
def FLT_INT_SEVERE : Fld := ⟨0x15004, 3, 1, 0⟩
/-- FLT_INT.STUCK (17_faults.md). -/
def FLT_INT_STUCK : Fld := ⟨0x15004, 2, 1, 0⟩
/-- FLT_INT.RETURN (17_faults.md). -/
def FLT_INT_RETURN : Fld := ⟨0x15004, 1, 1, 0⟩
/-- FLT_INT.FENCE (17_faults.md). -/
def FLT_INT_FENCE : Fld := ⟨0x15004, 0, 1, 0⟩
/-- FLT_USEL.UNIT (17_faults.md). -/
def FLT_USEL_UNIT : Fld := ⟨0x15010, 0, 10, 0⟩
/-- FLT_UREC0.VALID (17_faults.md). -/
def FLT_UREC0_VALID : Fld := ⟨0x15014, 31, 1, 0⟩
/-- FLT_UREC0.MULTI (17_faults.md). -/
def FLT_UREC0_MULTI : Fld := ⟨0x15014, 30, 1, 0⟩
/-- FLT_UREC0.SEV (17_faults.md). -/
def FLT_UREC0_SEV : Fld := ⟨0x15014, 29, 1, 0⟩
/-- FLT_UREC0.RTA (17_faults.md). -/
def FLT_UREC0_RTA : Fld := ⟨0x15014, 28, 1, 0⟩
/-- FLT_UREC0.RTB (17_faults.md). -/
def FLT_UREC0_RTB : Fld := ⟨0x15014, 27, 1, 0⟩
/-- FLT_UREC0.STICKY (17_faults.md). -/
def FLT_UREC0_STICKY : Fld := ⟨0x15014, 25, 1, 0⟩
/-- FLT_UREC0.FENCED (17_faults.md). -/
def FLT_UREC0_FENCED : Fld := ⟨0x15014, 24, 1, 0⟩
/-- FLT_UREC0.CAUSE (17_faults.md). -/
def FLT_UREC0_CAUSE : Fld := ⟨0x15014, 16, 6, 0⟩
/-- FLT_UREC0.LAST (17_faults.md). -/
def FLT_UREC0_LAST : Fld := ⟨0x15014, 8, 6, 0⟩
/-- FLT_UREC0.MERGED (17_faults.md). -/
def FLT_UREC0_MERGED : Fld := ⟨0x15014, 0, 8, 0⟩
/-- FLT_UREC1.FCSAT (17_faults.md). -/
def FLT_UREC1_FCSAT : Fld := ⟨0x15018, 31, 1, 0⟩
/-- FLT_UREC1.REMAIN (17_faults.md). -/
def FLT_UREC1_REMAIN : Fld := ⟨0x15018, 16, 13, 0⟩
/-- FLT_UREC1.FALLOWCNT (17_faults.md). -/
def FLT_UREC1_FALLOWCNT : Fld := ⟨0x15018, 0, 16, 0⟩
/-- FLT_UREC2.TIME (17_faults.md). -/
def FLT_UREC2_TIME : Fld := ⟨0x1501c, 0, 32, 0⟩
/-- FLT_UCMD.OP (17_faults.md). -/
def FLT_UCMD_OP : Fld := ⟨0x15020, 0, 2, 0⟩
/-- FLT_FALLOW.LIMIT, entry i (17_faults.md). -/
def FLT_FALLOW_LIMIT (i : Nat) : Fld := ⟨0x15040 + 0x4 * i, 16, 16, 8⟩
/-- FLT_FALLOW.PERIOD, entry i (17_faults.md). -/
def FLT_FALLOW_PERIOD (i : Nat) : Fld := ⟨0x15040 + 0x4 * i, 0, 13, 60⟩
/-- FLT_FENCED.FENCED, entry i (17_faults.md). -/
def FLT_FENCED_FENCED (i : Nat) : Fld := ⟨0x15080 + 0x4 * i, 0, 32, 0⟩
/-- FLT_SRC.CLASS, entry i (17_faults.md). -/
def FLT_SRC_CLASS (i : Nat) : Fld := ⟨0x15100 + 0x4 * i, 30, 2, (srcRst i).1⟩
/-- FLT_SRC.N, entry i (17_faults.md). -/
def FLT_SRC_N (i : Nat) : Fld := ⟨0x15100 + 0x4 * i, 16, 8, (srcRst i).2.1⟩
/-- FLT_SRC.W, entry i (17_faults.md). -/
def FLT_SRC_W (i : Nat) : Fld := ⟨0x15100 + 0x4 * i, 0, 16, (srcRst i).2.2⟩
/-- ALT_CFG.STATE, entry i (17_faults.md). -/
def ALT_CFG_STATE (i : Nat) : Fld := ⟨0x15400 + 0x4 * i, 31, 1, 0⟩
/-- ALT_CFG.WIDTH, entry i (17_faults.md). -/
def ALT_CFG_WIDTH (i : Nat) : Fld := ⟨0x15400 + 0x4 * i, 16, 10, 100⟩
/-- ALT_CFG.HOLD, entry i (17_faults.md). -/
def ALT_CFG_HOLD (i : Nat) : Fld := ⟨0x15400 + 0x4 * i, 2, 1, 0⟩
/-- ALT_CFG.SEVONLY, entry i (17_faults.md). -/
def ALT_CFG_SEVONLY (i : Nat) : Fld := ⟨0x15400 + 0x4 * i, 1, 1, i⟩
/-- ALT_CFG.MODE, entry i (17_faults.md). -/
def ALT_CFG_MODE (i : Nat) : Fld := ⟨0x15400 + 0x4 * i, 0, 1, i⟩
/-- ALT_ROUTE0.ROUTE, entry i (17_faults.md). -/
def ALT_ROUTE0_ROUTE (i : Nat) : Fld := ⟨0x15410 + 0x8 * i, 0, 32, 4294967295⟩
/-- ALT_ROUTE1.ROUTE, entry i (17_faults.md). -/
def ALT_ROUTE1_ROUTE (i : Nat) : Fld := ⟨0x15414 + 0x8 * i, 0, 24, 16777215⟩
/-- STW_CTRL.LOCK (18_steward.md). -/
def STW_CTRL_LOCK : Fld := ⟨0x16000, 31, 1, 0⟩
/-- STW_CTRL.ICINV (18_steward.md). -/
def STW_CTRL_ICINV : Fld := ⟨0x16000, 1, 1, 0⟩
/-- STW_CTRL.RESTART (18_steward.md). -/
def STW_CTRL_RESTART : Fld := ⟨0x16000, 0, 1, 0⟩
/-- STW_BOOT.WARMCNT (18_steward.md). -/
def STW_BOOT_WARMCNT : Fld := ⟨0x16004, 24, 8, 0⟩
/-- STW_BOOT.WARM (18_steward.md). -/
def STW_BOOT_WARM : Fld := ⟨0x16004, 8, 1, 0⟩
/-- STW_BOOT.SLOT (18_steward.md). -/
def STW_BOOT_SLOT : Fld := ⟨0x16004, 4, 1, 0⟩
/-- STW_BOOT.STATUS (18_steward.md). -/
def STW_BOOT_STATUS : Fld := ⟨0x16004, 0, 2, 0⟩
/-- STW_BOOTVER.VERSION (18_steward.md). -/
def STW_BOOTVER_VERSION : Fld := ⟨0x16008, 0, 32, 0⟩
/-- STW_WDT.EN (18_steward.md). -/
def STW_WDT_EN : Fld := ⟨0x16010, 31, 1, 1⟩
/-- STW_WDT.WARN (18_steward.md). -/
def STW_WDT_WARN : Fld := ⟨0x16010, 16, 12, 0⟩
/-- STW_WDT.PERIOD (18_steward.md). -/
def STW_WDT_PERIOD : Fld := ⟨0x16010, 0, 16, 2000⟩
/-- STW_WDTKICK.KEY (18_steward.md). -/
def STW_WDTKICK_KEY : Fld := ⟨0x16014, 0, 16, 0⟩
/-- STW_WDTLEFT.MS (18_steward.md). -/
def STW_WDTLEFT_MS : Fld := ⟨0x16018, 0, 16, 2000⟩
/-- STW_INT.MBACK (18_steward.md). -/
def STW_INT_MBACK : Fld := ⟨0x1601c, 4, 1, 0⟩
/-- STW_INT.MBMSG (18_steward.md). -/
def STW_INT_MBMSG : Fld := ⟨0x1601c, 3, 1, 0⟩
/-- STW_INT.MBREPLY (18_steward.md). -/
def STW_INT_MBREPLY : Fld := ⟨0x1601c, 2, 1, 0⟩
/-- STW_INT.MBCMD (18_steward.md). -/
def STW_INT_MBCMD : Fld := ⟨0x1601c, 1, 1, 0⟩
/-- STW_INT.WDTWARN (18_steward.md). -/
def STW_INT_WDTWARN : Fld := ⟨0x1601c, 0, 1, 0⟩
/-- STW_SUPEV.EV (18_steward.md). -/
def STW_SUPEV_EV : Fld := ⟨0x16020, 0, 11, 0⟩
/-- STW_MTIMECMPL.CMP (18_steward.md). -/
def STW_MTIMECMPL_CMP : Fld := ⟨0x16030, 0, 32, 4294967295⟩
/-- STW_MTIMECMPH.CMP (18_steward.md). -/
def STW_MTIMECMPH_CMP : Fld := ⟨0x16034, 0, 32, 4294967295⟩
/-- STW_ICPRIO.PRIO, entry i (18_steward.md). -/
def STW_ICPRIO_PRIO (i : Nat) : Fld := ⟨0x16100 + 0x4 * i, 0, 3, 0⟩
/-- STW_ICPEND0.PEND (18_steward.md). -/
def STW_ICPEND0_PEND : Fld := ⟨0x16200, 0, 32, 0⟩
/-- STW_ICPEND1.PEND (18_steward.md). -/
def STW_ICPEND1_PEND : Fld := ⟨0x16204, 0, 32, 0⟩
/-- STW_ICCLAIM.SRC (18_steward.md). -/
def STW_ICCLAIM_SRC : Fld := ⟨0x16210, 0, 6, 0⟩
/-- STW_ICTHRESH.THRESH (18_steward.md). -/
def STW_ICTHRESH_THRESH : Fld := ⟨0x16214, 0, 3, 0⟩
/-- STW_MBCMD.GO (18_steward.md). -/
def STW_MBCMD_GO : Fld := ⟨0x16300, 31, 1, 0⟩
/-- STW_MBCMD.BUSY (18_steward.md). -/
def STW_MBCMD_BUSY : Fld := ⟨0x16300, 30, 1, 0⟩
/-- STW_MBCMD.STATUS (18_steward.md). -/
def STW_MBCMD_STATUS : Fld := ⟨0x16300, 16, 8, 0⟩
/-- STW_MBCMD.LEN (18_steward.md). -/
def STW_MBCMD_LEN : Fld := ⟨0x16300, 8, 5, 0⟩
/-- STW_MBCMD.OPCODE (18_steward.md). -/
def STW_MBCMD_OPCODE : Fld := ⟨0x16300, 0, 8, 0⟩
/-- STW_MBREPLY.DONE (18_steward.md). -/
def STW_MBREPLY_DONE : Fld := ⟨0x16304, 31, 1, 0⟩
/-- STW_MBREPLY.STATUS (18_steward.md). -/
def STW_MBREPLY_STATUS : Fld := ⟨0x16304, 16, 8, 0⟩
/-- STW_MBREPLY.LEN (18_steward.md). -/
def STW_MBREPLY_LEN : Fld := ⟨0x16304, 8, 5, 0⟩
/-- STW_MBMSG.GO (18_steward.md). -/
def STW_MBMSG_GO : Fld := ⟨0x16308, 31, 1, 0⟩
/-- STW_MBMSG.BUSY (18_steward.md). -/
def STW_MBMSG_BUSY : Fld := ⟨0x16308, 30, 1, 0⟩
/-- STW_MBMSG.ACK (18_steward.md). -/
def STW_MBMSG_ACK : Fld := ⟨0x16308, 29, 1, 0⟩
/-- STW_MBMSG.LEN (18_steward.md). -/
def STW_MBMSG_LEN : Fld := ⟨0x16308, 8, 5, 0⟩
/-- STW_MBMSG.OPCODE (18_steward.md). -/
def STW_MBMSG_OPCODE : Fld := ⟨0x16308, 0, 8, 0⟩
/-- STW_MBDATA.DATA, entry i (18_steward.md). -/
def STW_MBDATA_DATA (i : Nat) : Fld := ⟨0x16340 + 0x4 * i, 0, 32, 0⟩
/-- STW_MBMDATA.DATA, entry i (18_steward.md). -/
def STW_MBMDATA_DATA (i : Nat) : Fld := ⟨0x16380 + 0x4 * i, 0, 32, 0⟩
/-- LCS_CTRL.LOCK (19_lifecycle.md). -/
def LCS_CTRL_LOCK : Fld := ⟨0x17000, 31, 1, 0⟩
/-- LCS_STAT.UNLDIG (19_lifecycle.md). -/
def LCS_STAT_UNLDIG : Fld := ⟨0x17004, 19, 1, 0⟩
/-- LCS_STAT.KPROD (19_lifecycle.md). -/
def LCS_STAT_KPROD : Fld := ⟨0x17004, 18, 1, 0⟩
/-- LCS_STAT.KDEV (19_lifecycle.md). -/
def LCS_STAT_KDEV : Fld := ⟨0x17004, 17, 1, 0⟩
/-- LCS_STAT.IMGDIG (19_lifecycle.md). -/
def LCS_STAT_IMGDIG : Fld := ⟨0x17004, 16, 1, 0⟩
/-- LCS_STAT.DEBUG (19_lifecycle.md). -/
def LCS_STAT_DEBUG : Fld := ⟨0x17004, 10, 1, 0⟩
/-- LCS_STAT.DSKOK (19_lifecycle.md). -/
def LCS_STAT_DSKOK : Fld := ⟨0x17004, 9, 1, 0⟩
/-- LCS_STAT.KD (19_lifecycle.md). -/
def LCS_STAT_KD : Fld := ⟨0x17004, 8, 1, 0⟩
/-- LCS_STAT.CYCLE (19_lifecycle.md). -/
def LCS_STAT_CYCLE : Fld := ⟨0x17004, 4, 2, 0⟩
/-- LCS_STAT.STATE (19_lifecycle.md). -/
def LCS_STAT_STATE : Fld := ⟨0x17004, 0, 3, 0⟩
/-- LCS_UIDL.UID (19_lifecycle.md). -/
def LCS_UIDL_UID : Fld := ⟨0x17008, 0, 32, 0⟩
/-- LCS_UIDH.UID (19_lifecycle.md). -/
def LCS_UIDH_UID : Fld := ⟨0x1700c, 0, 32, 0⟩
/-- LCS_FLOOR.FLOOR (19_lifecycle.md). -/
def LCS_FLOOR_FLOOR : Fld := ⟨0x17010, 0, 32, 0⟩
/-- LCS_FLOORCNT.USED (19_lifecycle.md). -/
def LCS_FLOORCNT_USED : Fld := ⟨0x17014, 0, 5, 0⟩
/-- LCS_REQ.GO (19_lifecycle.md). -/
def LCS_REQ_GO : Fld := ⟨0x17020, 31, 1, 0⟩
/-- LCS_REQ.BUSY (19_lifecycle.md). -/
def LCS_REQ_BUSY : Fld := ⟨0x17020, 30, 1, 0⟩
/-- LCS_REQ.STATUS (19_lifecycle.md). -/
def LCS_REQ_STATUS : Fld := ⟨0x17020, 16, 8, 0⟩
/-- LCS_REQ.KEY (19_lifecycle.md). -/
def LCS_REQ_KEY : Fld := ⟨0x17020, 8, 8, 0⟩
/-- LCS_REQ.TARGET (19_lifecycle.md). -/
def LCS_REQ_TARGET : Fld := ⟨0x17020, 0, 3, 0⟩
/-- LCS_UNLOCK.ADDR (19_lifecycle.md). -/
def LCS_UNLOCK_ADDR : Fld := ⟨0x17024, 0, 18, 0⟩
/-- LCS_CHAL.CHAL, entry i (19_lifecycle.md). -/
def LCS_CHAL_CHAL (i : Nat) : Fld := ⟨0x17030 + 0x4 * i, 0, 32, 0⟩
/-- LCS_PROG.GO (19_lifecycle.md). -/
def LCS_PROG_GO : Fld := ⟨0x17040, 31, 1, 0⟩
/-- LCS_PROG.BUSY (19_lifecycle.md). -/
def LCS_PROG_BUSY : Fld := ⟨0x17040, 30, 1, 0⟩
/-- LCS_PROG.STATUS (19_lifecycle.md). -/
def LCS_PROG_STATUS : Fld := ⟨0x17040, 16, 8, 0⟩
/-- LCS_PROG.FIELD (19_lifecycle.md). -/
def LCS_PROG_FIELD : Fld := ⟨0x17040, 0, 4, 0⟩
/-- LCS_KEYBUF.DATA, entry i (19_lifecycle.md). -/
def LCS_KEYBUF_DATA (i : Nat) : Fld := ⟨0x17060 + 0x4 * i, 0, 32, 0⟩
/-- LCS_LABEL.LABEL, entry i (19_lifecycle.md). -/
def LCS_LABEL_LABEL (i : Nat) : Fld := ⟨0x17080 + 0x4 * i, 0, 32, 0⟩
/-- LCS_DERIVE.GO (19_lifecycle.md). -/
def LCS_DERIVE_GO : Fld := ⟨0x17088, 31, 1, 0⟩
/-- LCS_DERIVE.BUSY (19_lifecycle.md). -/
def LCS_DERIVE_BUSY : Fld := ⟨0x17088, 30, 1, 0⟩
/-- LCS_DKEY.KEY, entry i (19_lifecycle.md). -/
def LCS_DKEY_KEY (i : Nat) : Fld := ⟨0x170a0 + 0x4 * i, 0, 32, 0⟩
/-- LCS_INT.DERIVEDONE (19_lifecycle.md). -/
def LCS_INT_DERIVEDONE : Fld := ⟨0x170c0, 2, 1, 0⟩
/-- LCS_INT.REQFAIL (19_lifecycle.md). -/
def LCS_INT_REQFAIL : Fld := ⟨0x170c0, 1, 1, 0⟩
/-- LCS_INT.PROGDONE (19_lifecycle.md). -/
def LCS_INT_PROGDONE : Fld := ⟨0x170c0, 0, 1, 0⟩
/-- TEN_ID.TENANT of tenant i (12_tenants.md). -/
def TEN_ID_TENANT (i : Nat) : Fld := ⟨0x20000 + 0x2000 * i, 0, 8, i⟩
/-- TEN_STAT.FENCED of tenant i (12_tenants.md). -/
def TEN_STAT_FENCED (i : Nat) : Fld := ⟨0x20004 + 0x2000 * i, 31, 1, 0⟩
/-- TEN_STAT.PORTS of tenant i (12_tenants.md). -/
def TEN_STAT_PORTS (i : Nat) : Fld := ⟨0x20004 + 0x2000 * i, 16, 8, 0⟩
/-- TEN_STAT.HELD of tenant i (12_tenants.md). -/
def TEN_STAT_HELD (i : Nat) : Fld := ⟨0x20004 + 0x2000 * i, 0, 14, 0⟩
/-- TEN_CFGERR.VALID of tenant i (12_tenants.md). -/
def TEN_CFGERR_VALID (i : Nat) : Fld := ⟨0x20008 + 0x2000 * i, 31, 1, 0⟩
/-- TEN_CFGERR.MULTI of tenant i (12_tenants.md). -/
def TEN_CFGERR_MULTI (i : Nat) : Fld := ⟨0x20008 + 0x2000 * i, 30, 1, 0⟩
/-- TEN_CFGERR.OFFSET of tenant i (12_tenants.md). -/
def TEN_CFGERR_OFFSET (i : Nat) : Fld := ⟨0x20008 + 0x2000 * i, 8, 17, 0⟩
/-- TEN_CFGERR.CODE of tenant i (12_tenants.md). -/
def TEN_CFGERR_CODE (i : Nat) : Fld := ⟨0x20008 + 0x2000 * i, 0, 8, 0⟩
/-- TEN_TICKET_WAIT.COUNT of tenant i (12_tenants.md). -/
def TEN_TICKET_WAIT_COUNT (i : Nat) : Fld := ⟨0x2000c + 0x2000 * i, 0, 32, 0⟩
/-- TEN_USEUSB.ALLOW of tenant i (12_tenants.md). -/
def TEN_USEUSB_ALLOW (i : Nat) : Fld := ⟨0x20010 + 0x2000 * i, 16, 13, if i = 0 then 0x1C20 else 0⟩
/-- TEN_USEUSB.USED of tenant i (12_tenants.md). -/
def TEN_USEUSB_USED (i : Nat) : Fld := ⟨0x20010 + 0x2000 * i, 0, 13, 0⟩
/-- TEN_USEHAY.ALLOW of tenant i (12_tenants.md). -/
def TEN_USEHAY_ALLOW (i : Nat) : Fld := ⟨0x20014 + 0x2000 * i, 16, 15, if i = 0 then 0x7FFF else 0⟩
/-- TEN_USEHAY.USED of tenant i (12_tenants.md). -/
def TEN_USEHAY_USED (i : Nat) : Fld := ⟨0x20014 + 0x2000 * i, 0, 15, 0⟩
/-- HIF_RBASEL.BASE of tenant t, entry r (12_tenants.md). -/
def HIF_RBASEL_BASE (t r : Nat) : Fld := ⟨0x20100 + 0x2000 * t + 0x10 * r, 6, 26, 0⟩
/-- HIF_RBASEH.BASE of tenant t, entry r (12_tenants.md). -/
def HIF_RBASEH_BASE (t r : Nat) : Fld := ⟨0x20104 + 0x2000 * t + 0x10 * r, 0, 32, 0⟩
/-- HIF_RCFG.EN of tenant t, entry r (12_tenants.md). -/
def HIF_RCFG_EN (t r : Nat) : Fld := ⟨0x20108 + 0x2000 * t + 0x10 * r, 31, 1, 0⟩
/-- HIF_RCFG.WAIT of tenant t, entry r (12_tenants.md). -/
def HIF_RCFG_WAIT (t r : Nat) : Fld := ⟨0x20108 + 0x2000 * t + 0x10 * r, 30, 1, 0⟩
/-- HIF_RCFG.LOG2SIZE of tenant t, entry r (12_tenants.md). -/
def HIF_RCFG_LOG2SIZE (t r : Nat) : Fld := ⟨0x20108 + 0x2000 * t + 0x10 * r, 16, 5, 4⟩
/-- HIF_RCFG.CQ of tenant t, entry r (12_tenants.md). -/
def HIF_RCFG_CQ (t r : Nat) : Fld := ⟨0x20108 + 0x2000 * t + 0x10 * r, 8, 3, 0⟩
/-- HIF_RCFG.VEC of tenant t, entry r (12_tenants.md). -/
def HIF_RCFG_VEC (t r : Nat) : Fld := ⟨0x20108 + 0x2000 * t + 0x10 * r, 0, 3, 0⟩
/-- HIF_RIDX.P of tenant t, entry r (12_tenants.md). -/
def HIF_RIDX_P (t r : Nat) : Fld := ⟨0x2010c + 0x2000 * t + 0x10 * r, 16, 16, 0⟩
/-- HIF_RIDX.C of tenant t, entry r (12_tenants.md). -/
def HIF_RIDX_C (t r : Nat) : Fld := ⟨0x2010c + 0x2000 * t + 0x10 * r, 0, 16, 0⟩
/-- TEN_MOD.HOLDOFF of tenant t, entry r (12_tenants.md). -/
def TEN_MOD_HOLDOFF (t r : Nat) : Fld := ⟨0x20300 + 0x2000 * t + 0x4 * r, 16, 10, 0⟩
/-- TEN_MOD.COUNT of tenant t, entry r (12_tenants.md). -/
def TEN_MOD_COUNT (t r : Nat) : Fld := ⟨0x20300 + 0x2000 * t + 0x4 * r, 0, 8, 0⟩
/-- HIF_DB.INDEX of tenant t, entry r (12_tenants.md). -/
def HIF_DB_INDEX (t r : Nat) : Fld := ⟨0x21000 + 0x2000 * t + 0x8 * r, 16, 16, 0⟩
/-- HIF_DB.RING of tenant t, entry r (12_tenants.md). -/
def HIF_DB_RING (t r : Nat) : Fld := ⟨0x21000 + 0x2000 * t + 0x8 * r, 0, 5, 0⟩
/-- MSIX_ADDRL.ADDR of tenant t, entry r (11_rings.md). -/
def MSIX_ADDRL_ADDR (t r : Nat) : Fld := ⟨0x20800 + 0x2000 * t + 0x10 * r, 2, 30, 0⟩
/-- MSIX_ADDRH.ADDR of tenant t, entry r (11_rings.md). -/
def MSIX_ADDRH_ADDR (t r : Nat) : Fld := ⟨0x20804 + 0x2000 * t + 0x10 * r, 0, 32, 0⟩
/-- MSIX_DATA.DATA of tenant t, entry r (11_rings.md). -/
def MSIX_DATA_DATA (t r : Nat) : Fld := ⟨0x20808 + 0x2000 * t + 0x10 * r, 0, 32, 0⟩
/-- MSIX_CTRL.MASK of tenant t, entry r (11_rings.md). -/
def MSIX_CTRL_MASK (t r : Nat) : Fld := ⟨0x2080c + 0x2000 * t + 0x10 * r, 0, 1, 1⟩
/-- MSIX_PBA.PEND of tenant i (11_rings.md). -/
def MSIX_PBA_PEND (i : Nat) : Fld := ⟨0x20c00 + 0x2000 * i, 0, 8, 0⟩

end F

namespace R

/-- GLB_ID (01_whole_part.md). -/
def GLB_ID : RegRow :=
  ⟨0x0, 0x0, 1, none, [⟨16, 16, .ro, fun _ => 51774⟩, ⟨12, 4, .ro, fun _ => 1⟩, ⟨0, 8, .ro, fun _ => 1⟩]⟩
/-- GLB_CTRL (01_whole_part.md). -/
def GLB_CTRL : RegRow :=
  ⟨0x10, 0x0, 1, some F.GLB_CTRL_LOCK, [⟨1, 1, .rwl, fun _ => 0⟩, ⟨0, 1, .w1s, fun _ => 0⟩]⟩
/-- GLB_CFGERR (01_whole_part.md). -/
def GLB_CFGERR : RegRow :=
  ⟨0x20, 0x0, 1, none, [⟨31, 1, .w1c, fun _ => 0⟩, ⟨30, 1, .ro, fun _ => 0⟩, ⟨8, 17, .ro, fun _ => 0⟩, ⟨0, 8, .ro, fun _ => 0⟩]⟩
/-- SUP_STATE (03_power_life.md). -/
def SUP_STATE : RegRow :=
  ⟨0x1000, 0x0, 1, none, [⟨4, 4, .wo, fun _ => 0⟩, ⟨0, 3, .ro, fun _ => 4⟩]⟩
/-- SUP_RSTCAUSE (03_power_life.md). -/
def SUP_RSTCAUSE : RegRow :=
  ⟨0x1004, 0x0, 1, none, [⟨9, 1, .w1c, fun _ => 0⟩, ⟨8, 1, .w1c, fun _ => 0⟩, ⟨5, 1, .w1c, fun _ => 0⟩, ⟨4, 1, .w1c, fun _ => 0⟩, ⟨3, 1, .w1c, fun _ => 0⟩, ⟨2, 1, .w1c, fun _ => 0⟩, ⟨1, 1, .w1c, fun _ => 0⟩, ⟨0, 1, .w1c, fun _ => 1⟩]⟩
/-- SUP_CTRL (03_power_life.md). -/
def SUP_CTRL : RegRow :=
  ⟨0x1008, 0x0, 1, none, [⟨0, 1, .w1s, fun _ => 0⟩]⟩
/-- SUP_WAKECFG (03_power_life.md). -/
def SUP_WAKECFG : RegRow :=
  ⟨0x1010, 0x0, 1, none, [⟨16, 1, .rw, fun _ => 0⟩, ⟨8, 1, .rw, fun _ => 0⟩, ⟨7, 1, .rw, fun _ => 0⟩, ⟨6, 1, .rw, fun _ => 1⟩, ⟨5, 1, .rw, fun _ => 1⟩, ⟨0, 5, .rw, fun _ => 31⟩]⟩
/-- SUP_WAKESRC (03_power_life.md). -/
def SUP_WAKESRC : RegRow :=
  ⟨0x1014, 0x0, 1, none, [⟨16, 1, .ro, fun _ => 0⟩, ⟨8, 1, .w1c, fun _ => 0⟩, ⟨7, 1, .w1c, fun _ => 0⟩, ⟨6, 1, .w1c, fun _ => 0⟩, ⟨5, 1, .w1c, fun _ => 0⟩, ⟨0, 5, .w1c, fun _ => 0⟩]⟩
/-- SUP_SECONDS (03_power_life.md). -/
def SUP_SECONDS : RegRow :=
  ⟨0x1018, 0x0, 1, none, [⟨0, 32, .rw, fun _ => 0⟩]⟩
/-- SUP_ALARM (03_power_life.md). -/
def SUP_ALARM : RegRow :=
  ⟨0x101c, 0x0, 1, none, [⟨0, 32, .rw, fun _ => 0⟩]⟩
/-- SUP_WARNCFG (03_power_life.md). -/
def SUP_WARNCFG : RegRow :=
  ⟨0x1020, 0x0, 1, some F.SUP_CTRL_LOCK, [⟨8, 8, .rw, fun _ => 0⟩, ⟨0, 5, .rwl, fun _ => 10⟩]⟩
/-- SUP_PACKCFG (03_power_life.md). -/
def SUP_PACKCFG : RegRow :=
  ⟨0x1024, 0x0, 1, some F.SUP_CTRL_LOCK, [⟨16, 1, .rw, fun _ => 1⟩, ⟨8, 8, .rwl, fun _ => 80⟩, ⟨0, 8, .rwl, fun _ => 50⟩]⟩
/-- SUP_STAT (03_power_life.md). -/
def SUP_STAT : RegRow :=
  ⟨0x1028, 0x0, 1, none, [⟨8, 3, .ro, fun _ => 0⟩, ⟨3, 1, .ro, fun _ => 0⟩, ⟨2, 1, .ro, fun _ => 0⟩, ⟨1, 1, .ro, fun _ => 0⟩, ⟨0, 1, .ro, fun _ => 0⟩]⟩
/-- SUP_SHUTCFG (03_power_life.md). -/
def SUP_SHUTCFG : RegRow :=
  ⟨0x1030, 0x0, 1, none, [⟨16, 8, .rw, fun _ => 20⟩, ⟨0, 12, .rw, fun _ => 1000⟩]⟩
/-- SUP_SHUT (03_power_life.md). -/
def SUP_SHUT : RegRow :=
  ⟨0x1034, 0x0, 1, none, [⟨6, 1, .ro, fun _ => 0⟩, ⟨5, 1, .ro, fun _ => 0⟩, ⟨4, 1, .ro, fun _ => 0⟩, ⟨2, 1, .w1s, fun _ => 0⟩, ⟨1, 1, .w1s, fun _ => 0⟩, ⟨0, 1, .w1s, fun _ => 0⟩]⟩
/-- SUP_BOOT (03_power_life.md). -/
def SUP_BOOT : RegRow :=
  ⟨0x1040, 0x0, 1, none, [⟨8, 1, .ro, fun _ => 0⟩, ⟨0, 4, .ro, fun _ => 0⟩]⟩
/-- SUP_PACE (02_handshake_core.md). -/
def SUP_PACE : RegRow :=
  ⟨0x1c00, 0x0, 1, none, [⟨16, 12, .ro, fun _ => 4095⟩, ⟨0, 12, .ro, fun _ => 0⟩]⟩
/-- SUP_PACECFG (02_handshake_core.md). -/
def SUP_PACECFG : RegRow :=
  ⟨0x1c04, 0x0, 1, none, [⟨31, 1, .wo, fun _ => 0⟩, ⟨16, 1, .rw, fun _ => 1⟩, ⟨12, 4, .rw, fun _ => 4⟩, ⟨0, 12, .rw, fun _ => 300⟩]⟩
/-- SUP_XTCFG (02_handshake_core.md). -/
def SUP_XTCFG : RegRow :=
  ⟨0x1c10, 0x0, 1, none, [⟨0, 1, .rw, fun _ => 0⟩]⟩
/-- SUP_XTSTAT (02_handshake_core.md). -/
def SUP_XTSTAT : RegRow :=
  ⟨0x1c14, 0x0, 1, none, [⟨9, 1, .w1c, fun _ => 0⟩, ⟨8, 1, .w1c, fun _ => 0⟩, ⟨2, 1, .ro, fun _ => 1⟩, ⟨1, 1, .ro, fun _ => 0⟩, ⟨0, 1, .ro, fun _ => 0⟩]⟩
/-- SUP_XTCOUNTL (02_handshake_core.md). -/
def SUP_XTCOUNTL : RegRow :=
  ⟨0x1c18, 0x0, 1, none, [⟨0, 32, .ro, fun _ => 0⟩]⟩
/-- SUP_XTCOUNTH (02_handshake_core.md). -/
def SUP_XTCOUNTH : RegRow :=
  ⟨0x1c1c, 0x0, 1, none, [⟨0, 32, .ro, fun _ => 0⟩]⟩
/-- SUP_XCLR (02_handshake_core.md). -/
def SUP_XCLR : RegRow :=
  ⟨0x1c30, 0x0, 1, none, [⟨0, 26, .wo, fun _ => 0⟩]⟩
/-- SUP_XDROP (02_handshake_core.md). -/
def SUP_XDROP : RegRow :=
  ⟨0x1c40, 0x4, 26, none, [⟨16, 16, .ro, fun _ => 0⟩, ⟨0, 16, .ro, fun _ => 0⟩]⟩
/-- PD_CTRL (04_typec_pd.md). -/
def PD_CTRL : RegRow :=
  ⟨0x2000, 0x200, 5, none, [⟨15, 1, .rw, fun _ => 0⟩, ⟨14, 1, .rw, fun _ => 0⟩, ⟨13, 1, .rw, fun _ => 1⟩, ⟨12, 1, .rw, fun i => if i = 0 then 1 else 0⟩, ⟨11, 1, .rw, fun i => if i = 0 then 1 else 0⟩, ⟨9, 2, .rw, fun _ => 1⟩, ⟨8, 1, .rw, fun i => if i = 0 then 1 else 0⟩, ⟨4, 2, .rw, fun _ => 0⟩]⟩
/-- PD_STAT (04_typec_pd.md). -/
def PD_STAT : RegRow :=
  ⟨0x2004, 0x200, 5, none, [⟨27, 1, .ro, fun _ => 0⟩, ⟨26, 1, .ro, fun _ => 0⟩, ⟨25, 1, .ro, fun _ => 0⟩, ⟨24, 1, .ro, fun _ => 0⟩, ⟨23, 1, .ro, fun _ => 0⟩, ⟨22, 1, .ro, fun _ => 0⟩, ⟨21, 1, .ro, fun _ => 0⟩, ⟨20, 1, .ro, fun _ => 0⟩, ⟨19, 1, .ro, fun _ => 0⟩, ⟨16, 3, .ro, fun _ => 0⟩]⟩
/-- PD_VBUS (04_typec_pd.md). -/
def PD_VBUS : RegRow :=
  ⟨0x2008, 0x200, 5, none, [⟨16, 12, .ro, fun _ => 0⟩, ⟨0, 12, .ro, fun _ => 0⟩]⟩
/-- PD_XLIM (04_typec_pd.md). -/
def PD_XLIM : RegRow :=
  ⟨0x2010, 0x200, 5, none, [⟨16, 6, .rw, fun _ => 15⟩, ⟨0, 9, .rw, fun _ => 250⟩]⟩
/-- PD_TXCMD (04_typec_pd.md). -/
def PD_TXCMD : RegRow :=
  ⟨0x2020, 0x200, 5, none, [⟨24, 8, .ro, fun _ => 0⟩, ⟨23, 1, .ro, fun _ => 0⟩, ⟨16, 3, .rw, fun _ => 0⟩, ⟨8, 5, .rw, fun _ => 0⟩, ⟨0, 1, .w1s, fun _ => 0⟩]⟩
/-- PD_RXSTAT (04_typec_pd.md). -/
def PD_RXSTAT : RegRow :=
  ⟨0x2024, 0x200, 5, none, [⟨8, 1, .wo, fun _ => 0⟩, ⟨2, 3, .ro, fun _ => 0⟩, ⟨0, 2, .ro, fun _ => 0⟩]⟩
/-- PD_INT (04_typec_pd.md). -/
def PD_INT : RegRow :=
  ⟨0x2028, 0x200, 5, none, [⟨10, 1, .w1c, fun _ => 0⟩, ⟨9, 1, .w1c, fun _ => 0⟩, ⟨8, 1, .w1c, fun _ => 0⟩, ⟨7, 1, .w1c, fun _ => 0⟩, ⟨6, 1, .w1c, fun _ => 0⟩, ⟨5, 1, .w1c, fun _ => 0⟩, ⟨4, 1, .w1c, fun _ => 0⟩, ⟨3, 1, .w1c, fun _ => 0⟩, ⟨2, 1, .w1c, fun _ => 0⟩, ⟨1, 1, .w1c, fun _ => 0⟩, ⟨0, 1, .w1c, fun _ => 0⟩]⟩
/-- PD_MOIST (04_typec_pd.md). -/
def PD_MOIST : RegRow :=
  ⟨0x2030, 0x200, 5, none, [⟨6, 2, .ro, fun _ => 0⟩, ⟨4, 2, .ro, fun _ => 0⟩, ⟨2, 2, .ro, fun _ => 0⟩, ⟨0, 2, .ro, fun _ => 0⟩]⟩
/-- PD_MOISTCFG (04_typec_pd.md). -/
def PD_MOISTCFG : RegRow :=
  ⟨0x2034, 0x200, 5, none, [⟨16, 1, .rw, fun _ => 1⟩, ⟨12, 4, .rw, fun _ => 3⟩, ⟨4, 2, .rw, fun _ => 3⟩, ⟨0, 2, .rw, fun _ => 2⟩]⟩
/-- PD_TXBUF0 (04_typec_pd.md). -/
def PD_TXBUF0 : RegRow :=
  ⟨0x2040, 0x4, 8, none, [⟨0, 32, .rw, fun _ => 1515870810⟩]⟩
/-- PD_TXBUF1 (04_typec_pd.md). -/
def PD_TXBUF1 : RegRow :=
  ⟨0x2240, 0x4, 8, none, [⟨0, 32, .rw, fun _ => 1515870810⟩]⟩
/-- PD_TXBUF2 (04_typec_pd.md). -/
def PD_TXBUF2 : RegRow :=
  ⟨0x2440, 0x4, 8, none, [⟨0, 32, .rw, fun _ => 1515870810⟩]⟩
/-- PD_TXBUF3 (04_typec_pd.md). -/
def PD_TXBUF3 : RegRow :=
  ⟨0x2640, 0x4, 8, none, [⟨0, 32, .rw, fun _ => 1515870810⟩]⟩
/-- PD_TXBUF4 (04_typec_pd.md). -/
def PD_TXBUF4 : RegRow :=
  ⟨0x2840, 0x4, 8, none, [⟨0, 32, .rw, fun _ => 1515870810⟩]⟩
/-- PD_RXBUF0 (04_typec_pd.md). -/
def PD_RXBUF0 : RegRow :=
  ⟨0x2080, 0x4, 32, none, [⟨0, 32, .ro, fun _ => 1515870810⟩]⟩
/-- PD_RXBUF1 (04_typec_pd.md). -/
def PD_RXBUF1 : RegRow :=
  ⟨0x2280, 0x4, 32, none, [⟨0, 32, .ro, fun _ => 1515870810⟩]⟩
/-- PD_RXBUF2 (04_typec_pd.md). -/
def PD_RXBUF2 : RegRow :=
  ⟨0x2480, 0x4, 32, none, [⟨0, 32, .ro, fun _ => 1515870810⟩]⟩
/-- PD_RXBUF3 (04_typec_pd.md). -/
def PD_RXBUF3 : RegRow :=
  ⟨0x2680, 0x4, 32, none, [⟨0, 32, .ro, fun _ => 1515870810⟩]⟩
/-- PD_RXBUF4 (04_typec_pd.md). -/
def PD_RXBUF4 : RegRow :=
  ⟨0x2880, 0x4, 32, none, [⟨0, 32, .ro, fun _ => 1515870810⟩]⟩
/-- PD_BUDGET (04_typec_pd.md). -/
def PD_BUDGET : RegRow :=
  ⟨0x2c00, 0x0, 1, none, [⟨16, 9, .ro, fun _ => 0⟩, ⟨0, 9, .rw, fun _ => 60⟩]⟩
/-- CHG_CTRL (05_pack.md). -/
def CHG_CTRL : RegRow :=
  ⟨0x3000, 0x0, 1, none, [⟨16, 1, .wo, fun _ => 0⟩, ⟨4, 3, .rw, fun _ => 0⟩, ⟨1, 1, .rw, fun _ => 0⟩, ⟨0, 1, .w1s, fun _ => 0⟩]⟩
/-- CHG_CFG (05_pack.md). -/
def CHG_CFG : RegRow :=
  ⟨0x3004, 0x0, 1, some F.CHG_CTRL_LOCK, [⟨24, 8, .rw, fun _ => 60⟩, ⟨20, 4, .rw, fun _ => 2⟩, ⟨16, 4, .rw, fun _ => 2⟩, ⟨8, 8, .rw, fun _ => 20⟩, ⟨0, 8, .rwl, fun _ => 60⟩]⟩
/-- CHG_TIME (05_pack.md). -/
def CHG_TIME : RegRow :=
  ⟨0x3008, 0x0, 1, none, [⟨16, 8, .rw, fun _ => 36⟩, ⟨8, 8, .rw, fun _ => 30⟩, ⟨0, 8, .rw, fun _ => 10⟩]⟩
/-- CHG_STAT (05_pack.md). -/
def CHG_STAT : RegRow :=
  ⟨0x300c, 0x0, 1, none, [⟨16, 3, .ro, fun _ => 2⟩, ⟨12, 4, .ro, fun _ => 0⟩, ⟨4, 3, .ro, fun _ => 0⟩, ⟨0, 4, .ro, fun _ => 0⟩]⟩
/-- CHG_SESS0 (05_pack.md). -/
def CHG_SESS0 : RegRow :=
  ⟨0x3010, 0x0, 1, none, [⟨0, 32, .ro, fun _ => 0⟩]⟩
/-- CHG_SESS1 (05_pack.md). -/
def CHG_SESS1 : RegRow :=
  ⟨0x3014, 0x0, 1, none, [⟨0, 32, .ro, fun _ => 0⟩]⟩
/-- CHG_SESS2 (05_pack.md). -/
def CHG_SESS2 : RegRow :=
  ⟨0x3018, 0x0, 1, none, [⟨31, 1, .w1c, fun _ => 0⟩, ⟨8, 23, .ro, fun _ => 0⟩, ⟨0, 4, .ro, fun _ => 0⟩]⟩
/-- CHG_INT (05_pack.md). -/
def CHG_INT : RegRow :=
  ⟨0x3020, 0x0, 1, none, [⟨8, 1, .w1c, fun _ => 0⟩, ⟨0, 8, .w1c, fun _ => 0⟩]⟩
/-- CEL_CFG (05_pack.md). -/
def CEL_CFG : RegRow :=
  ⟨0x3800, 0x0, 1, some F.CEL_CFG_LOCK, [⟨31, 1, .w1s, fun _ => 0⟩, ⟨16, 1, .rwl, fun _ => 0⟩, ⟨8, 8, .rwl, fun _ => 20⟩, ⟨0, 4, .rwl, fun _ => 0⟩]⟩
/-- CEL_CELL (05_pack.md). -/
def CEL_CELL : RegRow :=
  ⟨0x3810, 0x4, 8, none, [⟨16, 3, .ro, fun _ => 0⟩, ⟨0, 14, .ro, fun _ => 0⟩]⟩
/-- CEL_PACK (05_pack.md). -/
def CEL_PACK : RegRow :=
  ⟨0x3830, 0x0, 1, none, [⟨0, 14, .ro, fun _ => 0⟩]⟩
/-- CEL_CUR (05_pack.md). -/
def CEL_CUR : RegRow :=
  ⟨0x3834, 0x0, 1, none, [⟨0, 16, .ro, fun _ => 0⟩]⟩
/-- CEL_STAT (05_pack.md). -/
def CEL_STAT : RegRow :=
  ⟨0x3838, 0x0, 1, none, [⟨20, 1, .ro, fun _ => 0⟩, ⟨16, 1, .ro, fun _ => 0⟩, ⟨0, 14, .ro, fun _ => 0⟩]⟩
/-- CEL_NTC (05_pack.md). -/
def CEL_NTC : RegRow :=
  ⟨0x383c, 0x0, 1, none, [⟨16, 14, .ro, fun _ => 0⟩, ⟨0, 14, .ro, fun _ => 0⟩]⟩
/-- CEL_BATID (05_pack.md). -/
def CEL_BATID : RegRow :=
  ⟨0x3840, 0x0, 1, none, [⟨0, 14, .ro, fun _ => 0⟩]⟩
/-- CEL_TLIM0 (05_pack.md). -/
def CEL_TLIM0 : RegRow :=
  ⟨0x3844, 0x0, 1, some F.CEL_CFG_LOCK, [⟨16, 14, .rwl, fun _ => 10617⟩, ⟨0, 14, .rwl, fun _ => 12150⟩]⟩
/-- CEL_TLIM1 (05_pack.md). -/
def CEL_TLIM1 : RegRow :=
  ⟨0x3848, 0x0, 1, some F.CEL_CFG_LOCK, [⟨16, 14, .rwl, fun _ => 4237⟩, ⟨0, 14, .rwl, fun _ => 5349⟩]⟩
/-- CEL_TLIM2 (05_pack.md). -/
def CEL_TLIM2 : RegRow :=
  ⟨0x384c, 0x0, 1, some F.CEL_CFG_LOCK, [⟨0, 14, .rwl, fun _ => 3762⟩]⟩
/-- CEL_CELLLIM (05_pack.md). -/
def CEL_CELLLIM : RegRow :=
  ⟨0x3850, 0x0, 1, some F.CEL_CFG_LOCK, [⟨16, 14, .rwl, fun _ => 14090⟩, ⟨0, 14, .rwl, fun _ => 8192⟩]⟩
/-- CEL_OWCFG (05_pack.md). -/
def CEL_OWCFG : RegRow :=
  ⟨0x3854, 0x0, 1, none, [⟨16, 9, .ro, fun _ => 0⟩, ⟨8, 1, .w1s, fun _ => 0⟩, ⟨0, 8, .rw, fun _ => 10⟩]⟩
/-- CEL_BAL (05_pack.md). -/
def CEL_BAL : RegRow :=
  ⟨0x3858, 0x0, 1, none, [⟨0, 8, .rw, fun _ => 0⟩]⟩
/-- CEL_GAUGEL (05_pack.md). -/
def CEL_GAUGEL : RegRow :=
  ⟨0x3860, 0x0, 1, none, [⟨0, 32, .ro, fun _ => 0⟩]⟩
/-- CEL_GAUGEH (05_pack.md). -/
def CEL_GAUGEH : RegRow :=
  ⟨0x3864, 0x0, 1, none, [⟨31, 1, .w1c, fun _ => 0⟩, ⟨30, 1, .wo, fun _ => 0⟩, ⟨0, 16, .ro, fun _ => 0⟩]⟩
/-- CEL_INT (05_pack.md). -/
def CEL_INT : RegRow :=
  ⟨0x3868, 0x0, 1, none, [⟨6, 1, .w1c, fun _ => 0⟩, ⟨5, 1, .w1c, fun _ => 0⟩, ⟨4, 1, .w1c, fun _ => 0⟩, ⟨3, 1, .w1c, fun _ => 0⟩, ⟨2, 1, .w1c, fun _ => 0⟩, ⟨1, 1, .w1c, fun _ => 0⟩, ⟨0, 1, .w1c, fun _ => 0⟩]⟩
/-- RAT_CTRL (06_ration.md). -/
def RAT_CTRL : RegRow :=
  ⟨0x3c00, 0x0, 1, some F.RAT_CTRL_LOCK, [⟨31, 1, .w1s, fun _ => 0⟩, ⟨16, 8, .rw, fun _ => 100⟩, ⟨8, 3, .rw, fun _ => 2⟩, ⟨4, 1, .rwl, fun _ => 0⟩, ⟨1, 1, .wo, fun _ => 0⟩, ⟨0, 1, .rw, fun _ => 0⟩]⟩
/-- RAT_LVL (06_ration.md). -/
def RAT_LVL : RegRow :=
  ⟨0x3c10, 0x4, 7, some F.RAT_CTRL_LOCK, [⟨0, 10, .rwl, fun _ => 0⟩]⟩
/-- RAT_RAIL (06_ration.md). -/
def RAT_RAIL : RegRow :=
  ⟨0x3c30, 0x0, 1, some F.RAT_CTRL_LOCK, [⟨16, 10, .rwl, fun _ => 200⟩, ⟨0, 12, .rwl, fun _ => 0⟩]⟩
/-- RAT_STORE (06_ration.md). -/
def RAT_STORE : RegRow :=
  ⟨0x3c34, 0x0, 1, some F.RAT_CTRL_LOCK, [⟨24, 8, .rwl, fun _ => 10⟩, ⟨16, 8, .rwl, fun _ => 0⟩, ⟨0, 12, .rwl, fun _ => 1000⟩]⟩
/-- RAT_RPACK (06_ration.md). -/
def RAT_RPACK : RegRow :=
  ⟨0x3c38, 0x0, 1, some F.RAT_CTRL_LOCK, [⟨16, 12, .ro, fun _ => 0⟩, ⟨12, 4, .rw, fun _ => 5⟩, ⟨0, 12, .rwl, fun _ => 0⟩]⟩
/-- RAT_STAT (06_ration.md). -/
def RAT_STAT : RegRow :=
  ⟨0x3c40, 0x0, 1, none, [⟨31, 1, .ro, fun _ => 0⟩, ⟨30, 1, .ro, fun _ => 0⟩, ⟨29, 1, .ro, fun _ => 0⟩, ⟨28, 1, .ro, fun _ => 0⟩, ⟨24, 3, .ro, fun _ => 0⟩, ⟨16, 4, .ro, fun _ => 5⟩, ⟨12, 4, .ro, fun _ => 0⟩, ⟨8, 1, .ro, fun _ => 1⟩]⟩
/-- RAT_HEAD (06_ration.md). -/
def RAT_HEAD : RegRow :=
  ⟨0x3c44, 0x0, 1, none, [⟨16, 16, .ro, fun _ => 0⟩, ⟨0, 16, .ro, fun _ => 0⟩]⟩
/-- RAT_LASTREQ (06_ration.md). -/
def RAT_LASTREQ : RegRow :=
  ⟨0x3c48, 0x0, 1, none, [⟨16, 16, .ro, fun _ => 0⟩, ⟨8, 4, .ro, fun _ => 0⟩, ⟨4, 4, .ro, fun _ => 0⟩, ⟨0, 3, .ro, fun _ => 0⟩]⟩
/-- RAT_CNT0 (06_ration.md). -/
def RAT_CNT0 : RegRow :=
  ⟨0x3c50, 0x0, 1, none, [⟨16, 16, .ro, fun _ => 0⟩, ⟨0, 16, .ro, fun _ => 0⟩]⟩
/-- RAT_CNT1 (06_ration.md). -/
def RAT_CNT1 : RegRow :=
  ⟨0x3c54, 0x0, 1, none, [⟨16, 16, .ro, fun _ => 0⟩, ⟨0, 16, .ro, fun _ => 0⟩]⟩
/-- RAT_INT (06_ration.md). -/
def RAT_INT : RegRow :=
  ⟨0x3c58, 0x0, 1, none, [⟨3, 1, .w1c, fun _ => 0⟩, ⟨2, 1, .w1c, fun _ => 0⟩, ⟨1, 1, .w1c, fun _ => 0⟩, ⟨0, 1, .w1c, fun _ => 0⟩]⟩
/-- HUB_CTRL (07_hub_path.md). -/
def HUB_CTRL : RegRow :=
  ⟨0x4000, 0x0, 1, some F.HUB_CTRL_LOCK, [⟨31, 1, .w1s, fun _ => 0⟩, ⟨8, 1, .w1s, fun _ => 0⟩, ⟨2, 1, .rwl, fun _ => 1⟩, ⟨1, 1, .wo, fun _ => 0⟩, ⟨0, 1, .rw, fun _ => 0⟩]⟩
/-- HUB_CFG (07_hub_path.md). -/
def HUB_CFG : RegRow :=
  ⟨0x4004, 0x0, 1, some F.HUB_CTRL_LOCK, [⟨16, 8, .rwl, fun _ => 50⟩, ⟨12, 4, .rwl, fun _ => 8⟩, ⟨8, 4, .rwl, fun _ => 0⟩, ⟨0, 4, .rwl, fun _ => 7⟩]⟩
/-- HUB_STAT (07_hub_path.md). -/
def HUB_STAT : RegRow :=
  ⟨0x4008, 0x0, 1, none, [⟨23, 1, .ro, fun _ => 0⟩, ⟨16, 7, .ro, fun _ => 0⟩, ⟨15, 1, .ro, fun _ => 0⟩, ⟨14, 1, .ro, fun _ => 0⟩, ⟨13, 1, .ro, fun _ => 0⟩, ⟨12, 1, .ro, fun _ => 0⟩, ⟨11, 1, .ro, fun _ => 0⟩, ⟨0, 7, .ro, fun _ => 0⟩]⟩
/-- HUB_INT (07_hub_path.md). -/
def HUB_INT : RegRow :=
  ⟨0x400c, 0x0, 1, none, [⟨6, 1, .w1c, fun _ => 0⟩, ⟨5, 1, .w1c, fun _ => 0⟩, ⟨4, 1, .w1c, fun _ => 0⟩, ⟨3, 1, .w1c, fun _ => 0⟩, ⟨2, 1, .w1c, fun _ => 0⟩, ⟨1, 1, .w1c, fun _ => 0⟩, ⟨0, 1, .w1c, fun _ => 0⟩]⟩
/-- HUB_SETUP0 (07_hub_path.md). -/
def HUB_SETUP0 : RegRow :=
  ⟨0x4010, 0x0, 1, none, [⟨0, 32, .ro, fun _ => 0⟩]⟩
/-- HUB_SETUP1 (07_hub_path.md). -/
def HUB_SETUP1 : RegRow :=
  ⟨0x4014, 0x0, 1, none, [⟨0, 32, .ro, fun _ => 0⟩]⟩
/-- HUB_CTLREPLY (07_hub_path.md). -/
def HUB_CTLREPLY : RegRow :=
  ⟨0x4018, 0x0, 1, none, [⟨31, 1, .ro, fun _ => 0⟩, ⟨0, 2, .wo, fun _ => 0⟩]⟩
/-- PRT_STAT (07_hub_path.md). -/
def PRT_STAT : RegRow :=
  ⟨0x4100, 0x40, 10, none, [⟨25, 1, .ro, fun _ => 0⟩, ⟨24, 1, .ro, fun _ => 0⟩, ⟨16, 5, .ro, fun _ => 0⟩, ⟨0, 16, .ro, fun _ => 0⟩]⟩
/-- PRT_CNT (07_hub_path.md). -/
def PRT_CNT : RegRow :=
  ⟨0x4104, 0x40, 10, none, [⟨16, 16, .ro, fun _ => 0⟩, ⟨0, 16, .ro, fun _ => 0⟩]⟩
/-- EPM_DIR (07_hub_path.md). -/
def EPM_DIR : RegRow :=
  ⟨0x5804, 0x0, 1, some F.HUB_CTRL_LOCK, [⟨16, 10, .rwl, fun _ => 0⟩, ⟨0, 6, .rwl, fun _ => 0⟩]⟩
/-- EPM_SLOT (07_hub_path.md). -/
def EPM_SLOT : RegRow :=
  ⟨0x5810, 0x4, 16, none, [⟨31, 1, .rw, fun i => if i ≤ 1 then 1 else 0⟩, ⟨30, 1, .rw, fun _ => 0⟩, ⟨29, 1, .ro, fun _ => 0⟩, ⟨27, 1, .rw, fun _ => 0⟩, ⟨25, 2, .rw, fun _ => 0⟩, ⟨21, 4, .rw, fun _ => 0⟩, ⟨10, 11, .rw, fun _ => 64⟩, ⟨0, 10, .rw, fun _ => 0⟩]⟩
/-- EPM_BANK (07_hub_path.md). -/
def EPM_BANK : RegRow :=
  ⟨0x5858, 0x4, 14, none, [⟨31, 1, .w1s, fun _ => 0⟩, ⟨30, 1, .ro, fun _ => 0⟩, ⟨16, 11, .rw, fun _ => 0⟩, ⟨15, 1, .w1s, fun _ => 0⟩, ⟨0, 11, .rw, fun _ => 0⟩]⟩
/-- EPM_ERR (07_hub_path.md). -/
def EPM_ERR : RegRow :=
  ⟨0x5890, 0x0, 1, none, [⟨31, 1, .w1c, fun _ => 0⟩, ⟨24, 4, .ro, fun _ => 0⟩, ⟨0, 16, .ro, fun _ => 0⟩]⟩
/-- PRT_STEER (08_local_host.md). -/
def PRT_STEER : RegRow :=
  ⟨0x4160, 0x40, 8, none, [⟨31, 1, .w1s, fun _ => 0⟩, ⟨30, 1, .ro, fun _ => 0⟩, ⟨25, 1, .rw, fun _ => 0⟩, ⟨24, 1, .rw, fun _ => 0⟩, ⟨0, 8, .rw, fun _ => 0⟩]⟩
/-- PRT_LSTAT (08_local_host.md). -/
def PRT_LSTAT : RegRow :=
  ⟨0x4164, 0x40, 8, none, [⟨30, 1, .ro, fun _ => 0⟩, ⟨29, 1, .ro, fun _ => 0⟩, ⟨22, 2, .ro, fun _ => 0⟩, ⟨21, 1, .ro, fun _ => 0⟩, ⟨20, 1, .ro, fun _ => 0⟩, ⟨19, 1, .ro, fun _ => 0⟩, ⟨18, 1, .ro, fun _ => 0⟩, ⟨17, 1, .ro, fun _ => 0⟩, ⟨16, 1, .ro, fun _ => 0⟩, ⟨0, 8, .ro, fun _ => 0⟩]⟩
/-- PRT_LCNT (08_local_host.md). -/
def PRT_LCNT : RegRow :=
  ⟨0x4168, 0x40, 8, none, [⟨16, 16, .ro, fun _ => 0⟩, ⟨0, 16, .ro, fun _ => 0⟩]⟩
/-- PRT_PLOAD (08_local_host.md). -/
def PRT_PLOAD : RegRow :=
  ⟨0x416c, 0x40, 8, none, [⟨0, 13, .ro, fun _ => 0⟩]⟩
/-- LHE_CTRL (08_local_host.md). -/
def LHE_CTRL : RegRow :=
  ⟨0x5000, 0x0, 1, some F.LHE_CTRL_LOCK, [⟨31, 1, .w1s, fun _ => 0⟩, ⟨16, 1, .rw, fun _ => 0⟩, ⟨8, 8, .rwl, fun _ => 100⟩]⟩
/-- LHE_STAT (08_local_host.md). -/
def LHE_STAT : RegRow :=
  ⟨0x5004, 0x0, 1, none, [⟨16, 8, .ro, fun _ => 0⟩, ⟨0, 8, .ro, fun _ => 0⟩]⟩
/-- LHE_INT (08_local_host.md). -/
def LHE_INT : RegRow :=
  ⟨0x5008, 0x0, 1, none, [⟨5, 1, .w1c, fun _ => 0⟩, ⟨4, 1, .w1c, fun _ => 0⟩, ⟨3, 1, .w1c, fun _ => 0⟩, ⟨2, 1, .w1c, fun _ => 0⟩, ⟨1, 1, .w1c, fun _ => 0⟩, ⟨0, 1, .w1c, fun _ => 0⟩]⟩
/-- LHE_CTXW0 (08_local_host.md). -/
def LHE_CTXW0 : RegRow :=
  ⟨0x5400, 0x8, 128, none, [⟨31, 1, .ro, fun _ => 0⟩, ⟨28, 3, .ro, fun _ => 0⟩, ⟨24, 4, .ro, fun _ => 0⟩, ⟨17, 7, .ro, fun _ => 0⟩, ⟨13, 4, .ro, fun _ => 0⟩, ⟨12, 1, .ro, fun _ => 0⟩, ⟨10, 2, .ro, fun _ => 0⟩, ⟨8, 2, .ro, fun _ => 0⟩, ⟨0, 8, .ro, fun _ => 0⟩]⟩
/-- LHE_CTXW1 (08_local_host.md). -/
def LHE_CTXW1 : RegRow :=
  ⟨0x5404, 0x8, 128, none, [⟨31, 1, .ro, fun _ => 0⟩, ⟨29, 2, .ro, fun _ => 0⟩, ⟨24, 5, .ro, fun _ => 0⟩, ⟨21, 3, .ro, fun _ => 0⟩, ⟨10, 11, .ro, fun _ => 0⟩, ⟨0, 8, .ro, fun _ => 0⟩]⟩
/-- LAR_CTRL (09_streams_larder.md). -/
def LAR_CTRL : RegRow :=
  ⟨0x5a00, 0x0, 1, some F.LAR_CTRL_LOCK, [⟨31, 1, .w1s, fun _ => 0⟩, ⟨30, 1, .ro, fun _ => 0⟩, ⟨16, 12, .rw, fun _ => 256⟩, ⟨0, 1, .wo, fun _ => 0⟩]⟩
/-- LAR_PART (09_streams_larder.md). -/
def LAR_PART : RegRow :=
  ⟨0x5a04, 0x0, 1, some F.LAR_CTRL_LOCK, [⟨16, 16, .rwl, fun _ => 0⟩, ⟨0, 8, .rwl, fun _ => 0⟩]⟩
/-- LAR_FREE (09_streams_larder.md). -/
def LAR_FREE : RegRow :=
  ⟨0x5a08, 0x0, 1, none, [⟨0, 17, .ro, fun _ => 65536⟩]⟩
/-- LAR_FENCED (09_streams_larder.md). -/
def LAR_FENCED : RegRow :=
  ⟨0x5a0c, 0x0, 1, none, [⟨0, 16, .ro, fun _ => 0⟩]⟩
/-- LAR_LEAK (09_streams_larder.md). -/
def LAR_LEAK : RegRow :=
  ⟨0x5a10, 0x0, 1, none, [⟨0, 17, .ro, fun _ => 0⟩]⟩
/-- LAR_USEDSEL (09_streams_larder.md). -/
def LAR_USEDSEL : RegRow :=
  ⟨0x5a14, 0x0, 1, none, [⟨0, 8, .rw, fun _ => 0⟩]⟩
/-- LAR_USED (09_streams_larder.md). -/
def LAR_USED : RegRow :=
  ⟨0x5a18, 0x0, 1, none, [⟨0, 17, .ro, fun _ => 0⟩]⟩
/-- LAR_INT (09_streams_larder.md). -/
def LAR_INT : RegRow :=
  ⟨0x5a1c, 0x0, 1, none, [⟨3, 1, .w1c, fun _ => 0⟩, ⟨2, 1, .w1c, fun _ => 0⟩, ⟨1, 1, .w1c, fun _ => 0⟩, ⟨0, 1, .w1c, fun _ => 0⟩]⟩
/-- LAR_QUOTA (09_streams_larder.md). -/
def LAR_QUOTA : RegRow :=
  ⟨0x5c00, 0x4, 256, none, [⟨20, 12, .rw, fun i => if i = 0 then 0xFFF else 0x100⟩, ⟨8, 12, .rw, fun i => if i = 0 then 0x100 else 0⟩]⟩
/-- STR_W0 (09_streams_larder.md). -/
def STR_W0 : RegRow :=
  ⟨0x6000, 0x20, 256, none, [⟨29, 3, .ro, fun _ => 0⟩, ⟨28, 1, .ro, fun _ => 0⟩, ⟨16, 8, .ro, fun _ => 0⟩, ⟨0, 16, .ro, fun _ => 0⟩]⟩
/-- STR_W1 (09_streams_larder.md). -/
def STR_W1 : RegRow :=
  ⟨0x6004, 0x20, 256, none, [⟨20, 12, .ro, fun _ => 0⟩, ⟨12, 5, .ro, fun _ => 0⟩, ⟨8, 2, .ro, fun _ => 0⟩, ⟨0, 4, .ro, fun _ => 0⟩]⟩
/-- STR_W2 (09_streams_larder.md). -/
def STR_W2 : RegRow :=
  ⟨0x6008, 0x20, 256, none, [⟨16, 16, .ro, fun _ => 0⟩, ⟨0, 16, .ro, fun _ => 0⟩]⟩
/-- STR_W3 (09_streams_larder.md). -/
def STR_W3 : RegRow :=
  ⟨0x600c, 0x20, 256, none, [⟨16, 16, .ro, fun _ => 0⟩, ⟨0, 16, .ro, fun _ => 0⟩]⟩
/-- STR_W4 (09_streams_larder.md). -/
def STR_W4 : RegRow :=
  ⟨0x6010, 0x20, 256, none, [⟨16, 16, .ro, fun _ => 0⟩, ⟨0, 16, .ro, fun _ => 0⟩]⟩
/-- STR_W5 (09_streams_larder.md). -/
def STR_W5 : RegRow :=
  ⟨0x6014, 0x20, 256, none, [⟨16, 16, .ro, fun _ => 0⟩, ⟨0, 16, .ro, fun _ => 0⟩]⟩
/-- STR_W6 (09_streams_larder.md). -/
def STR_W6 : RegRow :=
  ⟨0x6018, 0x20, 256, none, [⟨24, 8, .ro, fun _ => 0⟩, ⟨16, 8, .ro, fun _ => 0⟩, ⟨8, 8, .ro, fun _ => 0⟩, ⟨0, 8, .ro, fun _ => 0⟩]⟩
/-- STR_W7 (09_streams_larder.md). -/
def STR_W7 : RegRow :=
  ⟨0x601c, 0x20, 256, none, [⟨24, 8, .ro, fun _ => 0⟩, ⟨16, 8, .ro, fun _ => 0⟩, ⟨8, 8, .ro, fun _ => 0⟩, ⟨0, 8, .ro, fun _ => 0⟩]⟩
/-- QUE_W0 (09_streams_larder.md). -/
def QUE_W0 : RegRow :=
  ⟨0x8000, 0x10, 1024, none, [⟨30, 2, .ro, fun i => queRst i 30 2⟩, ⟨16, 9, .ro, fun i => queRst i 16 9⟩, ⟨0, 16, .rw, fun i => queRst i 0 16⟩]⟩
/-- QUE_W1 (09_streams_larder.md). -/
def QUE_W1 : RegRow :=
  ⟨0x8004, 0x10, 1024, none, [⟨31, 1, .w1c, fun _ => 0⟩, ⟨30, 1, .wo, fun _ => 0⟩, ⟨29, 1, .ro, fun _ => 0⟩, ⟨0, 17, .ro, fun _ => 0⟩]⟩
/-- QUE_W2 (09_streams_larder.md). -/
def QUE_W2 : RegRow :=
  ⟨0x8008, 0x10, 1024, none, [⟨0, 32, .ro, fun _ => 0⟩]⟩
/-- QUE_W3 (09_streams_larder.md). -/
def QUE_W3 : RegRow :=
  ⟨0x800c, 0x10, 1024, none, [⟨16, 16, .ro, fun _ => 0⟩, ⟨0, 16, .ro, fun _ => 0⟩]⟩
/-- TDM_CTRL (10_tdm_ports.md). -/
def TDM_CTRL : RegRow :=
  ⟨0xc000, 0x40, 2, none, [⟨1, 1, .wo, fun _ => 0⟩, ⟨0, 1, .rw, fun _ => 0⟩]⟩
/-- TDM_CFG (10_tdm_ports.md). -/
def TDM_CFG : RegRow :=
  ⟨0xc004, 0x40, 2, none, [⟨24, 1, .rw, fun _ => 0⟩, ⟨16, 4, .rw, fun _ => 7⟩, ⟨8, 4, .rw, fun _ => 7⟩, ⟨7, 1, .rw, fun _ => 0⟩, ⟨6, 1, .rw, fun _ => 0⟩, ⟨5, 1, .rw, fun _ => 0⟩, ⟨4, 1, .rw, fun _ => 0⟩, ⟨3, 1, .rw, fun _ => 0⟩, ⟨2, 1, .rw, fun _ => 0⟩]⟩
/-- TDM_DELAY (10_tdm_ports.md). -/
def TDM_DELAY : RegRow :=
  ⟨0xc008, 0x40, 2, none, [⟨0, 16, .rw, fun _ => 2000⟩]⟩
/-- TDM_STAT (10_tdm_ports.md). -/
def TDM_STAT : RegRow :=
  ⟨0xc00c, 0x40, 2, none, [⟨3, 1, .ro, fun _ => 0⟩, ⟨2, 1, .ro, fun _ => 0⟩, ⟨1, 1, .ro, fun _ => 0⟩]⟩
/-- TDM_CNT (10_tdm_ports.md). -/
def TDM_CNT : RegRow :=
  ⟨0xc010, 0x40, 2, none, [⟨16, 16, .ro, fun _ => 0⟩, ⟨0, 16, .ro, fun _ => 0⟩]⟩
/-- TDM_INT (10_tdm_ports.md). -/
def TDM_INT : RegRow :=
  ⟨0xc014, 0x40, 2, none, [⟨2, 1, .w1c, fun _ => 0⟩, ⟨1, 1, .w1c, fun _ => 0⟩, ⟨0, 1, .w1c, fun _ => 0⟩]⟩
/-- TDM_PLL (10_tdm_ports.md). -/
def TDM_PLL : RegRow :=
  ⟨0xc100, 0x0, 1, none, [⟨31, 1, .ro, fun _ => 0⟩, ⟨8, 1, .rw, fun _ => 0⟩, ⟨4, 3, .rw, fun _ => 1⟩, ⟨0, 1, .rw, fun _ => 0⟩]⟩
/-- HIF_CTRL (11_rings.md). -/
def HIF_CTRL : RegRow :=
  ⟨0xd000, 0x0, 1, none, [⟨0, 1, .wo, fun _ => 0⟩]⟩
/-- HIF_STAT (11_rings.md). -/
def HIF_STAT : RegRow :=
  ⟨0xd004, 0x0, 1, none, [⟨31, 1, .ro, fun _ => 0⟩, ⟨28, 2, .ro, fun _ => 0⟩, ⟨24, 1, .ro, fun _ => 0⟩, ⟨0, 9, .ro, fun _ => 0⟩]⟩
/-- HIF_INT (11_rings.md). -/
def HIF_INT : RegRow :=
  ⟨0xd008, 0x0, 1, none, [⟨2, 1, .w1c, fun _ => 0⟩, ⟨1, 1, .w1c, fun _ => 0⟩, ⟨0, 1, .w1c, fun _ => 0⟩]⟩
/-- HIF_CNT (11_rings.md). -/
def HIF_CNT : RegRow :=
  ⟨0xd00c, 0x0, 1, none, [⟨16, 16, .ro, fun _ => 0⟩, ⟨0, 16, .ro, fun _ => 0⟩]⟩
/-- HIF_TKTFREE (11_rings.md). -/
def HIF_TKTFREE : RegRow :=
  ⟨0xd010, 0x0, 1, none, [⟨0, 14, .ro, fun _ => 8192⟩]⟩
/-- HIF_TKTSEL (11_rings.md). -/
def HIF_TKTSEL : RegRow :=
  ⟨0xd014, 0x0, 1, none, [⟨0, 8, .rw, fun _ => 0⟩]⟩
/-- HIF_TKTHELD (11_rings.md). -/
def HIF_TKTHELD : RegRow :=
  ⟨0xd018, 0x0, 1, none, [⟨0, 14, .ro, fun _ => 0⟩]⟩
/-- HIF_TKT (11_rings.md). -/
def HIF_TKT : RegRow :=
  ⟨0xd400, 0x4, 256, none, [⟨16, 14, .rw, fun _ => 512⟩, ⟨0, 14, .rw, fun _ => 16⟩]⟩
/-- TEN_GFLR (12_tenants.md). -/
def TEN_GFLR : RegRow :=
  ⟨0xe000, 0x0, 1, none, [⟨31, 1, .w1s, fun _ => 0⟩, ⟨0, 8, .rw, fun _ => 0⟩]⟩
/-- TEN_GINT (12_tenants.md). -/
def TEN_GINT : RegRow :=
  ⟨0xe004, 0x0, 1, none, [⟨2, 1, .w1c, fun _ => 0⟩, ⟨1, 1, .w1c, fun _ => 0⟩, ⟨0, 1, .w1c, fun _ => 0⟩]⟩
/-- TEN_GSTAT (12_tenants.md). -/
def TEN_GSTAT : RegRow :=
  ⟨0xe400, 0x4, 256, none, [⟨31, 1, .ro, fun i => if i = 0 then 1 else 0⟩, ⟨30, 1, .ro, fun _ => 0⟩, ⟨29, 1, .ro, fun _ => 0⟩, ⟨16, 8, .ro, fun _ => 0⟩, ⟨0, 9, .ro, fun _ => 0⟩]⟩
/-- TEN_GISO (12_tenants.md). -/
def TEN_GISO : RegRow :=
  ⟨0xe800, 0x4, 256, none, [⟨24, 8, .rw, fun _ => 16⟩, ⟨0, 13, .rw, fun i => if i = 0 then 0x1C20 else 0⟩]⟩
/-- TEN_GHAY (12_tenants.md). -/
def TEN_GHAY : RegRow :=
  ⟨0xec00, 0x4, 256, none, [⟨0, 15, .rw, fun i => if i = 0 then 0x7FFF else 0⟩]⟩
/-- HAY_CTRL (13_haywain.md). -/
def HAY_CTRL : RegRow :=
  ⟨0xf000, 0x0, 1, some F.HAY_CTRL_LOCK, [⟨31, 1, .w1s, fun _ => 0⟩, ⟨1, 1, .wo, fun _ => 0⟩, ⟨0, 1, .rw, fun _ => 0⟩]⟩
/-- HAY_UNIT (13_haywain.md). -/
def HAY_UNIT : RegRow :=
  ⟨0xf004, 0x0, 1, some F.HAY_CTRL_LOCK, [⟨31, 1, .rwl, fun _ => 0⟩, ⟨16, 12, .ro, fun _ => 0⟩, ⟨15, 1, .ro, fun _ => 0⟩, ⟨0, 12, .rwl, fun _ => 0⟩]⟩
/-- HAY_CFG (13_haywain.md). -/
def HAY_CFG : RegRow :=
  ⟨0xf008, 0x0, 1, none, [⟨0, 8, .rw, fun _ => 10⟩]⟩
/-- HAY_STAT (13_haywain.md). -/
def HAY_STAT : RegRow :=
  ⟨0xf00c, 0x0, 1, none, [⟨31, 1, .ro, fun _ => 1⟩, ⟨28, 3, .ro, fun _ => 7⟩, ⟨23, 5, .ro, fun _ => 0⟩, ⟨0, 13, .ro, fun _ => 1⟩]⟩
/-- HAY_INT (13_haywain.md). -/
def HAY_INT : RegRow :=
  ⟨0xf010, 0x0, 1, none, [⟨7, 1, .w1c, fun _ => 0⟩, ⟨6, 1, .w1c, fun _ => 0⟩, ⟨5, 1, .w1c, fun _ => 0⟩, ⟨4, 1, .w1c, fun _ => 0⟩, ⟨3, 1, .w1c, fun _ => 0⟩, ⟨2, 1, .w1c, fun _ => 0⟩, ⟨1, 1, .w1c, fun _ => 0⟩, ⟨0, 1, .w1c, fun _ => 0⟩]⟩
/-- HAY_LANE0 (13_haywain.md). -/
def HAY_LANE0 : RegRow :=
  ⟨0xf040, 0x10, 6, none, [⟨31, 1, .rw, fun _ => 1⟩, ⟨30, 1, .ro, fun _ => 0⟩, ⟨16, 3, .ro, fun _ => 0⟩, ⟨12, 2, .ro, fun _ => 0⟩, ⟨0, 12, .ro, fun _ => 0⟩]⟩
/-- HAY_LANE4 (13_haywain.md). -/
def HAY_LANE4 : RegRow :=
  ⟨0xf044, 0x10, 6, none, [⟨16, 16, .ro, fun _ => 0⟩, ⟨0, 16, .rw, fun _ => 46875⟩]⟩
/-- HAY_LANE8 (13_haywain.md). -/
def HAY_LANE8 : RegRow :=
  ⟨0xf048, 0x10, 6, none, [⟨16, 16, .ro, fun _ => 0⟩, ⟨0, 16, .ro, fun _ => 0⟩]⟩
/-- HAY_LANEC (13_haywain.md). -/
def HAY_LANEC : RegRow :=
  ⟨0xf04c, 0x10, 6, none, [⟨16, 16, .ro, fun _ => 0⟩, ⟨0, 16, .ro, fun _ => 0⟩]⟩
/-- HAY_RTSEL (13_haywain.md). -/
def HAY_RTSEL : RegRow :=
  ⟨0xf100, 0x0, 1, none, [⟨0, 12, .rw, fun _ => 0⟩]⟩
/-- HAY_RT (13_haywain.md). -/
def HAY_RT : RegRow :=
  ⟨0xf104, 0x0, 1, none, [⟨31, 1, .ro, fun _ => 0⟩, ⟨8, 5, .ro, fun _ => 0⟩, ⟨0, 3, .ro, fun _ => 0⟩]⟩
/-- HAY_FLOW (13_haywain.md). -/
def HAY_FLOW : RegRow :=
  ⟨0xf400, 0x4, 256, none, [⟨31, 1, .ro, fun _ => 0⟩, ⟨30, 1, .ro, fun _ => 0⟩, ⟨29, 1, .ro, fun _ => 0⟩, ⟨16, 12, .ro, fun _ => 0⟩, ⟨8, 8, .ro, fun _ => 0⟩, ⟨0, 8, .ro, fun _ => 0⟩]⟩
/-- HAY_CTXBUF (13_haywain.md). -/
def HAY_CTXBUF : RegRow :=
  ⟨0xf800, 0x4, 128, none, [⟨0, 32, .rw, fun _ => 1515870810⟩]⟩
/-- HAY_CRXBUF (13_haywain.md). -/
def HAY_CRXBUF : RegRow :=
  ⟨0xfa00, 0x4, 128, none, [⟨0, 32, .ro, fun _ => 1515870810⟩]⟩
/-- HAY_CTXCMD (13_haywain.md). -/
def HAY_CTXCMD : RegRow :=
  ⟨0xfc00, 0x0, 1, none, [⟨31, 1, .w1s, fun _ => 0⟩, ⟨30, 1, .ro, fun _ => 0⟩, ⟨29, 1, .rw, fun _ => 0⟩, ⟨16, 12, .rw, fun _ => 0⟩, ⟨0, 10, .rw, fun _ => 0⟩]⟩
/-- HAY_CTXSTAT (13_haywain.md). -/
def HAY_CTXSTAT : RegRow :=
  ⟨0xfc04, 0x0, 1, none, [⟨0, 8, .ro, fun _ => 0⟩]⟩
/-- HAY_CRXSTAT (13_haywain.md). -/
def HAY_CRXSTAT : RegRow :=
  ⟨0xfc08, 0x0, 1, none, [⟨31, 1, .ro, fun _ => 0⟩, ⟨29, 1, .ro, fun _ => 0⟩, ⟨16, 12, .ro, fun _ => 0⟩, ⟨0, 10, .ro, fun _ => 0⟩]⟩
/-- HAY_CRXPOP (13_haywain.md). -/
def HAY_CRXPOP : RegRow :=
  ⟨0xfc0c, 0x0, 1, none, [⟨0, 1, .wo, fun _ => 0⟩]⟩
/-- ALM_CTRL (13_haywain.md). -/
def ALM_CTRL : RegRow :=
  ⟨0x10000, 0x0, 1, some F.ALM_CTRL_LOCK, [⟨31, 1, .w1s, fun _ => 0⟩]⟩
/-- ALM_CFG (13_haywain.md). -/
def ALM_CFG : RegRow :=
  ⟨0x10004, 0x0, 1, some F.ALM_CTRL_LOCK, [⟨16, 1, .rwl, fun _ => 1⟩, ⟨8, 8, .rwl, fun _ => 128⟩]⟩
/-- ALM_STAT (13_haywain.md). -/
def ALM_STAT : RegRow :=
  ⟨0x10008, 0x0, 1, none, [⟨31, 1, .ro, fun _ => 1⟩, ⟨30, 1, .ro, fun _ => 0⟩, ⟨29, 1, .ro, fun _ => 0⟩, ⟨28, 1, .ro, fun _ => 0⟩, ⟨27, 1, .ro, fun _ => 0⟩, ⟨20, 1, .ro, fun _ => 1⟩]⟩
/-- ALM_INT (13_haywain.md). -/
def ALM_INT : RegRow :=
  ⟨0x1000c, 0x0, 1, none, [⟨4, 1, .w1c, fun _ => 0⟩, ⟨3, 1, .w1c, fun _ => 0⟩, ⟨2, 1, .w1c, fun _ => 0⟩, ⟨1, 1, .w1c, fun _ => 0⟩, ⟨0, 1, .w1c, fun _ => 0⟩]⟩
/-- ALM_TIMEL (13_haywain.md). -/
def ALM_TIMEL : RegRow :=
  ⟨0x10010, 0x0, 1, none, [⟨0, 32, .ro, fun _ => 0⟩]⟩
/-- ALM_TIMEH (13_haywain.md). -/
def ALM_TIMEH : RegRow :=
  ⟨0x10014, 0x0, 1, none, [⟨0, 32, .ro, fun _ => 0⟩]⟩
/-- ALM_MFIDX (13_haywain.md). -/
def ALM_MFIDX : RegRow :=
  ⟨0x10018, 0x0, 1, none, [⟨0, 32, .ro, fun _ => 0⟩]⟩
/-- ALM_OFFSET (13_haywain.md). -/
def ALM_OFFSET : RegRow :=
  ⟨0x1001c, 0x0, 1, none, [⟨0, 32, .ro, fun _ => 0⟩]⟩
/-- ALM_GMKEY (13_haywain.md). -/
def ALM_GMKEY : RegRow :=
  ⟨0x10020, 0x0, 1, none, [⟨0, 32, .ro, fun _ => 2148532224⟩]⟩
/-- ALM_LANE0 (13_haywain.md). -/
def ALM_LANE0 : RegRow :=
  ⟨0x10040, 0x8, 6, none, [⟨0, 24, .ro, fun _ => 0⟩]⟩
/-- ALM_LANE4 (13_haywain.md). -/
def ALM_LANE4 : RegRow :=
  ⟨0x10044, 0x8, 6, none, [⟨0, 16, .rw, fun _ => 0⟩]⟩
/-- YOK_CTRL (14_yoke.md). -/
def YOK_CTRL : RegRow :=
  ⟨0x11000, 0x0, 1, some F.YOK_CTRL_LOCK, [⟨31, 1, .w1s, fun _ => 0⟩, ⟨8, 1, .w1s, fun _ => 0⟩, ⟨1, 1, .wo, fun _ => 0⟩, ⟨0, 1, .rw, fun _ => 0⟩]⟩
/-- YOK_CFG (14_yoke.md). -/
def YOK_CFG : RegRow :=
  ⟨0x11004, 0x0, 1, some F.YOK_CTRL_LOCK, [⟨16, 1, .rwl, fun _ => 0⟩, ⟨0, 12, .rwl, fun _ => 0⟩]⟩
/-- YOK_STAT (14_yoke.md). -/
def YOK_STAT : RegRow :=
  ⟨0x11008, 0x0, 1, none, [⟨8, 1, .ro, fun _ => 0⟩, ⟨7, 1, .ro, fun _ => 0⟩, ⟨6, 1, .ro, fun _ => 1⟩, ⟨5, 1, .ro, fun _ => 0⟩, ⟨4, 1, .ro, fun _ => 0⟩, ⟨0, 3, .ro, fun _ => 0⟩]⟩
/-- YOK_INT (14_yoke.md). -/
def YOK_INT : RegRow :=
  ⟨0x1100c, 0x0, 1, none, [⟨7, 1, .w1c, fun _ => 0⟩, ⟨6, 1, .w1c, fun _ => 0⟩, ⟨5, 1, .w1c, fun _ => 0⟩, ⟨4, 1, .w1c, fun _ => 0⟩, ⟨3, 1, .w1c, fun _ => 0⟩, ⟨2, 1, .w1c, fun _ => 0⟩, ⟨1, 1, .w1c, fun _ => 0⟩, ⟨0, 1, .w1c, fun _ => 0⟩]⟩
/-- YOK_TXSEQ (14_yoke.md). -/
def YOK_TXSEQ : RegRow :=
  ⟨0x11010, 0x0, 1, none, [⟨0, 32, .ro, fun _ => 0⟩]⟩
/-- YOK_RXSEQ (14_yoke.md). -/
def YOK_RXSEQ : RegRow :=
  ⟨0x11014, 0x0, 1, none, [⟨0, 32, .ro, fun _ => 0⟩]⟩
/-- YOK_CNT (14_yoke.md). -/
def YOK_CNT : RegRow :=
  ⟨0x11018, 0x0, 1, none, [⟨16, 16, .ro, fun _ => 0⟩, ⟨0, 16, .ro, fun _ => 0⟩]⟩
/-- YOK_MCFG (14_yoke.md). -/
def YOK_MCFG : RegRow :=
  ⟨0x11020, 0x0, 1, some F.YOK_CTRL_LOCK, [⟨0, 5, .rwl, fun _ => 0⟩]⟩
/-- YOK_MGEN (14_yoke.md). -/
def YOK_MGEN : RegRow :=
  ⟨0x11024, 0x0, 1, none, [⟨0, 32, .ro, fun _ => 0⟩]⟩
/-- YOK_MTXCMD (14_yoke.md). -/
def YOK_MTXCMD : RegRow :=
  ⟨0x11030, 0x0, 1, none, [⟨31, 1, .w1s, fun _ => 0⟩, ⟨30, 1, .ro, fun _ => 0⟩, ⟨16, 8, .ro, fun _ => 0⟩, ⟨0, 11, .rw, fun _ => 0⟩]⟩
/-- YOK_MRXSTAT (14_yoke.md). -/
def YOK_MRXSTAT : RegRow :=
  ⟨0x11034, 0x0, 1, none, [⟨31, 1, .ro, fun _ => 0⟩, ⟨30, 1, .wo, fun _ => 0⟩, ⟨0, 11, .ro, fun _ => 0⟩]⟩
/-- YOK_MTXBUF (14_yoke.md). -/
def YOK_MTXBUF : RegRow :=
  ⟨0x11400, 0x4, 256, none, [⟨0, 32, .rw, fun _ => 1515870810⟩]⟩
/-- YOK_MRXBUF (14_yoke.md). -/
def YOK_MRXBUF : RegRow :=
  ⟨0x11800, 0x4, 256, none, [⟨0, 32, .ro, fun _ => 1515870810⟩]⟩
/-- FLS_CTRL (15_flash_granary.md). -/
def FLS_CTRL : RegRow :=
  ⟨0x12000, 0x0, 1, none, [⟨31, 1, .w1s, fun _ => 0⟩, ⟨30, 1, .w1s, fun _ => 0⟩, ⟨1, 1, .w1s, fun _ => 0⟩]⟩
/-- FLS_CFG (15_flash_granary.md). -/
def FLS_CFG : RegRow :=
  ⟨0x12004, 0x0, 1, some F.FLS_CTRL_LOCK, [⟨16, 1, .rw, fun _ => 0⟩, ⟨8, 8, .rw, fun _ => 0⟩, ⟨0, 8, .rwl, fun _ => 48⟩]⟩
/-- FLS_PROFA0 (15_flash_granary.md). -/
def FLS_PROFA0 : RegRow :=
  ⟨0x12010, 0x0, 1, some F.FLS_CTRL_LOCK, [⟨24, 8, .rwl, fun _ => 3⟩, ⟨16, 8, .rwl, fun _ => 2⟩, ⟨14, 2, .rwl, fun _ => 0⟩, ⟨12, 2, .rwl, fun _ => 0⟩, ⟨10, 2, .rwl, fun _ => 0⟩, ⟨8, 2, .rwl, fun _ => 0⟩, ⟨7, 1, .rwl, fun _ => 0⟩, ⟨6, 1, .rwl, fun _ => 0⟩, ⟨5, 1, .rwl, fun _ => 0⟩, ⟨4, 1, .rwl, fun _ => 0⟩, ⟨3, 1, .rwl, fun _ => 0⟩]⟩
/-- FLS_PROFB0 (15_flash_granary.md). -/
def FLS_PROFB0 : RegRow :=
  ⟨0x12014, 0x0, 1, some F.FLS_CTRL_LOCK, [⟨16, 5, .rwl, fun _ => 0⟩, ⟨8, 4, .rwl, fun _ => 0⟩]⟩
/-- FLS_PROFA1 (15_flash_granary.md). -/
def FLS_PROFA1 : RegRow :=
  ⟨0x12018, 0x0, 1, some F.FLS_CTRL_WLOCK, [⟨24, 8, .rwl, fun _ => 3⟩, ⟨16, 8, .rwl, fun _ => 2⟩, ⟨14, 2, .rwl, fun _ => 0⟩, ⟨12, 2, .rwl, fun _ => 0⟩, ⟨10, 2, .rwl, fun _ => 0⟩, ⟨8, 2, .rwl, fun _ => 0⟩, ⟨7, 1, .rwl, fun _ => 0⟩, ⟨6, 1, .rwl, fun _ => 0⟩, ⟨5, 1, .rwl, fun _ => 0⟩, ⟨4, 1, .rwl, fun _ => 0⟩, ⟨3, 1, .rwl, fun _ => 0⟩]⟩
/-- FLS_PROFB1 (15_flash_granary.md). -/
def FLS_PROFB1 : RegRow :=
  ⟨0x1201c, 0x0, 1, some F.FLS_CTRL_WLOCK, [⟨16, 5, .rwl, fun _ => 0⟩, ⟨8, 4, .rwl, fun _ => 0⟩]⟩
/-- FLS_DMAP (15_flash_granary.md). -/
def FLS_DMAP : RegRow :=
  ⟨0x12020, 0x0, 1, some F.FLS_CTRL_LOCK, [⟨31, 1, .rwl, fun _ => 0⟩, ⟨28, 1, .rwl, fun _ => 0⟩, ⟨0, 25, .rwl, fun _ => 0⟩]⟩
/-- FLS_DBASE (15_flash_granary.md). -/
def FLS_DBASE : RegRow :=
  ⟨0x12024, 0x0, 1, some F.FLS_CTRL_LOCK, [⟨0, 32, .rwl, fun _ => 0⟩]⟩
/-- FLS_WMAP (15_flash_granary.md). -/
def FLS_WMAP : RegRow :=
  ⟨0x12028, 0x0, 1, some F.FLS_CTRL_WLOCK, [⟨28, 1, .rwl, fun _ => 0⟩, ⟨0, 25, .rwl, fun _ => 0⟩]⟩
/-- FLS_WBASE (15_flash_granary.md). -/
def FLS_WBASE : RegRow :=
  ⟨0x1202c, 0x0, 1, some F.FLS_CTRL_WLOCK, [⟨0, 32, .rwl, fun _ => 0⟩]⟩
/-- FLS_TMO (15_flash_granary.md). -/
def FLS_TMO : RegRow :=
  ⟨0x12030, 0x0, 1, none, [⟨16, 16, .rw, fun _ => 1000⟩, ⟨8, 8, .rw, fun _ => 5⟩, ⟨0, 8, .rw, fun _ => 2⟩]⟩
/-- FLS_SUS (15_flash_granary.md). -/
def FLS_SUS : RegRow :=
  ⟨0x12034, 0x0, 1, none, [⟨8, 8, .rw, fun _ => 30⟩, ⟨0, 8, .rw, fun _ => 10⟩]⟩
/-- FLS_CMD (15_flash_granary.md). -/
def FLS_CMD : RegRow :=
  ⟨0x12040, 0x0, 1, none, [⟨31, 1, .w1s, fun _ => 0⟩, ⟨30, 1, .ro, fun _ => 0⟩, ⟨16, 8, .ro, fun _ => 0⟩, ⟨15, 1, .rw, fun _ => 0⟩, ⟨12, 3, .rw, fun _ => 0⟩, ⟨0, 9, .rw, fun _ => 0⟩]⟩
/-- FLS_CMDADDR (15_flash_granary.md). -/
def FLS_CMDADDR : RegRow :=
  ⟨0x12044, 0x0, 1, none, [⟨0, 32, .rw, fun _ => 0⟩]⟩
/-- FLS_STAT (15_flash_granary.md). -/
def FLS_STAT : RegRow :=
  ⟨0x12048, 0x0, 1, none, [⟨2, 1, .ro, fun _ => 0⟩, ⟨1, 1, .ro, fun _ => 0⟩, ⟨0, 1, .ro, fun _ => 0⟩]⟩
/-- FLS_ERR (15_flash_granary.md). -/
def FLS_ERR : RegRow :=
  ⟨0x1204c, 0x0, 1, none, [⟨31, 1, .w1c, fun _ => 0⟩, ⟨30, 1, .ro, fun _ => 0⟩, ⟨0, 8, .ro, fun _ => 0⟩]⟩
/-- FLS_ERRADDR (15_flash_granary.md). -/
def FLS_ERRADDR : RegRow :=
  ⟨0x12050, 0x0, 1, none, [⟨0, 32, .ro, fun _ => 0⟩]⟩
/-- FLS_INT (15_flash_granary.md). -/
def FLS_INT : RegRow :=
  ⟨0x12054, 0x0, 1, none, [⟨2, 1, .w1c, fun _ => 0⟩, ⟨1, 1, .w1c, fun _ => 0⟩, ⟨0, 1, .w1c, fun _ => 0⟩]⟩
/-- FLS_CMDBUF (15_flash_granary.md). -/
def FLS_CMDBUF : RegRow :=
  ⟨0x12100, 0x4, 64, none, [⟨0, 32, .ro, fun _ => 1515870810⟩]⟩
/-- GRN_CTRL (15_flash_granary.md). -/
def GRN_CTRL : RegRow :=
  ⟨0x13000, 0x0, 1, some F.GRN_CTRL_LOCK, [⟨31, 1, .w1s, fun _ => 0⟩, ⟨2, 1, .w1s, fun _ => 0⟩, ⟨0, 1, .rw, fun _ => 0⟩]⟩
/-- GRN_CFG (15_flash_granary.md). -/
def GRN_CFG : RegRow :=
  ⟨0x13004, 0x0, 1, some F.GRN_CTRL_LOCK, [⟨24, 8, .rwl, fun _ => 4⟩, ⟨16, 8, .rw, fun _ => 80⟩, ⟨8, 8, .rwl, fun _ => 1⟩, ⟨0, 8, .rwl, fun _ => 0⟩]⟩
/-- GRN_COMMIT (15_flash_granary.md). -/
def GRN_COMMIT : RegRow :=
  ⟨0x13008, 0x0, 1, none, [⟨31, 1, .w1s, fun _ => 0⟩, ⟨16, 8, .ro, fun _ => 0⟩, ⟨13, 1, .rw, fun _ => 0⟩, ⟨12, 1, .rw, fun _ => 0⟩, ⟨0, 12, .rw, fun _ => 0⟩]⟩
/-- GRN_BUF (15_flash_granary.md). -/
def GRN_BUF : RegRow :=
  ⟨0x1300c, 0x0, 1, some F.GRN_CTRL_LOCK, [⟨0, 18, .rwl, fun _ => 0⟩]⟩
/-- GRN_STAT (15_flash_granary.md). -/
def GRN_STAT : RegRow :=
  ⟨0x13010, 0x0, 1, none, [⟨31, 1, .ro, fun _ => 0⟩, ⟨30, 1, .ro, fun _ => 0⟩, ⟨29, 1, .ro, fun _ => 0⟩, ⟨28, 1, .ro, fun _ => 0⟩, ⟨27, 1, .ro, fun _ => 0⟩, ⟨26, 1, .ro, fun _ => 0⟩, ⟨25, 1, .ro, fun _ => 0⟩]⟩
/-- GRN_LASTSEQ (15_flash_granary.md). -/
def GRN_LASTSEQ : RegRow :=
  ⟨0x13014, 0x0, 1, none, [⟨0, 32, .ro, fun _ => 4294967295⟩]⟩
/-- GRN_SELADDR (15_flash_granary.md). -/
def GRN_SELADDR : RegRow :=
  ⟨0x13018, 0x0, 1, none, [⟨0, 24, .ro, fun _ => 0⟩]⟩
/-- GRN_SELSEQ (15_flash_granary.md). -/
def GRN_SELSEQ : RegRow :=
  ⟨0x1301c, 0x0, 1, none, [⟨0, 32, .ro, fun _ => 0⟩]⟩
/-- GRN_SELINFO (15_flash_granary.md). -/
def GRN_SELINFO : RegRow :=
  ⟨0x13020, 0x0, 1, none, [⟨16, 3, .ro, fun _ => 0⟩, ⟨0, 12, .ro, fun _ => 0⟩]⟩
/-- GRN_WEARA (15_flash_granary.md). -/
def GRN_WEARA : RegRow :=
  ⟨0x13024, 0x0, 1, none, [⟨0, 32, .ro, fun _ => 0⟩]⟩
/-- GRN_WEARB (15_flash_granary.md). -/
def GRN_WEARB : RegRow :=
  ⟨0x13028, 0x0, 1, none, [⟨0, 32, .ro, fun _ => 0⟩]⟩
/-- GRN_INT (15_flash_granary.md). -/
def GRN_INT : RegRow :=
  ⟨0x1302c, 0x0, 1, none, [⟨4, 1, .w1c, fun _ => 0⟩, ⟨3, 1, .w1c, fun _ => 0⟩, ⟨2, 1, .w1c, fun _ => 0⟩, ⟨1, 1, .w1c, fun _ => 0⟩, ⟨0, 1, .w1c, fun _ => 0⟩]⟩
/-- ECC_CTRL (16_ecc.md). -/
def ECC_CTRL : RegRow :=
  ⟨0x14000, 0x0, 1, some F.ECC_CTRL_LOCK, [⟨31, 1, .w1s, fun _ => 0⟩, ⟨0, 1, .wo, fun _ => 0⟩]⟩
/-- ECC_LBCFG (16_ecc.md). -/
def ECC_LBCFG : RegRow :=
  ⟨0x14004, 0x0, 1, some F.ECC_CTRL_LOCK, [⟨16, 16, .rwl, fun _ => 1000⟩, ⟨0, 8, .rwl, fun _ => 16⟩]⟩
/-- ECC_INT (16_ecc.md). -/
def ECC_INT : RegRow :=
  ⟨0x14008, 0x0, 1, none, [⟨5, 1, .w1c, fun _ => 0⟩, ⟨4, 1, .w1c, fun _ => 0⟩, ⟨3, 1, .w1c, fun _ => 0⟩, ⟨2, 1, .w1c, fun _ => 0⟩, ⟨1, 1, .w1c, fun _ => 0⟩, ⟨0, 1, .w1c, fun _ => 0⟩]⟩
/-- ECC_LBFLAG (16_ecc.md). -/
def ECC_LBFLAG : RegRow :=
  ⟨0x1400c, 0x0, 1, none, [⟨0, 16, .w1c, fun _ => 0⟩]⟩
/-- ECC_LBLVL (16_ecc.md). -/
def ECC_LBLVL : RegRow :=
  ⟨0x14010, 0x4, 4, none, [⟨24, 8, .ro, fun _ => 0⟩, ⟨16, 8, .ro, fun _ => 0⟩, ⟨8, 8, .ro, fun _ => 0⟩, ⟨0, 8, .ro, fun _ => 0⟩]⟩
/-- ECC_LBCNT (16_ecc.md). -/
def ECC_LBCNT : RegRow :=
  ⟨0x14020, 0x4, 16, none, [⟨16, 16, .ro, fun _ => 0⟩, ⟨0, 16, .ro, fun _ => 0⟩]⟩
/-- ECC_UEREC (16_ecc.md). -/
def ECC_UEREC : RegRow :=
  ⟨0x14060, 0x0, 1, none, [⟨31, 1, .w1c, fun _ => 0⟩, ⟨30, 1, .ro, fun _ => 0⟩, ⟨28, 2, .ro, fun _ => 0⟩, ⟨24, 4, .ro, fun _ => 0⟩, ⟨16, 8, .ro, fun _ => 0⟩]⟩
/-- ECC_UEADDR (16_ecc.md). -/
def ECC_UEADDR : RegRow :=
  ⟨0x14064, 0x0, 1, none, [⟨0, 22, .ro, fun _ => 0⟩]⟩
/-- ECC_UECNT (16_ecc.md). -/
def ECC_UECNT : RegRow :=
  ⟨0x14068, 0x0, 1, none, [⟨16, 16, .ro, fun _ => 0⟩, ⟨0, 16, .ro, fun _ => 0⟩]⟩
/-- ECC_INJ (16_ecc.md). -/
def ECC_INJ : RegRow :=
  ⟨0x14070, 0x0, 1, none, [⟨31, 1, .w1s, fun _ => 0⟩, ⟨24, 5, .rw, fun _ => 0⟩, ⟨8, 8, .rw, fun _ => 0⟩, ⟨0, 8, .rw, fun _ => 0⟩]⟩
/-- ECC_FILL (16_ecc.md). -/
def ECC_FILL : RegRow :=
  ⟨0x14074, 0x0, 1, none, [⟨31, 1, .w1s, fun _ => 0⟩, ⟨30, 1, .ro, fun _ => 0⟩, ⟨24, 2, .rw, fun _ => 0⟩, ⟨16, 8, .ro, fun _ => 0⟩]⟩
/-- ECC_FILLBASE (16_ecc.md). -/
def ECC_FILLBASE : RegRow :=
  ⟨0x14078, 0x0, 1, none, [⟨0, 22, .rw, fun _ => 0⟩]⟩
/-- ECC_FILLLEN (16_ecc.md). -/
def ECC_FILLLEN : RegRow :=
  ⟨0x1407c, 0x0, 1, none, [⟨0, 22, .rw, fun _ => 0⟩]⟩
/-- ECC_GLSTAT (16_ecc.md). -/
def ECC_GLSTAT : RegRow :=
  ⟨0x14080, 0x0, 1, none, [⟨31, 1, .ro, fun _ => 0⟩, ⟨8, 16, .ro, fun _ => 0⟩, ⟨0, 5, .ro, fun _ => 0⟩]⟩
/-- ECC_GLCLR (16_ecc.md). -/
def ECC_GLCLR : RegRow :=
  ⟨0x14084, 0x0, 1, none, [⟨0, 1, .wo, fun _ => 0⟩]⟩
/-- ECC_GLW0 (16_ecc.md). -/
def ECC_GLW0 : RegRow :=
  ⟨0x14100, 0x10, 16, none, [⟨31, 1, .ro, fun _ => 0⟩, ⟨29, 2, .ro, fun _ => 0⟩, ⟨22, 7, .ro, fun _ => 0⟩, ⟨0, 15, .ro, fun _ => 0⟩]⟩
/-- ECC_GLW1 (16_ecc.md). -/
def ECC_GLW1 : RegRow :=
  ⟨0x14104, 0x10, 16, none, [⟨24, 8, .ro, fun _ => 0⟩, ⟨16, 8, .ro, fun _ => 0⟩, ⟨0, 8, .ro, fun _ => 0⟩]⟩
/-- ECC_GLW2 (16_ecc.md). -/
def ECC_GLW2 : RegRow :=
  ⟨0x14108, 0x10, 16, none, [⟨0, 32, .ro, fun _ => 0⟩]⟩
/-- FLT_CTRL (17_faults.md). -/
def FLT_CTRL : RegRow :=
  ⟨0x15000, 0x0, 1, some F.FLT_CTRL_LOCK, [⟨31, 1, .w1s, fun _ => 0⟩]⟩
/-- FLT_INT (17_faults.md). -/
def FLT_INT : RegRow :=
  ⟨0x15004, 0x0, 1, none, [⟨3, 1, .w1c, fun _ => 0⟩, ⟨2, 1, .w1c, fun _ => 0⟩, ⟨1, 1, .w1c, fun _ => 0⟩, ⟨0, 1, .w1c, fun _ => 0⟩]⟩
/-- FLT_USEL (17_faults.md). -/
def FLT_USEL : RegRow :=
  ⟨0x15010, 0x0, 1, none, [⟨0, 10, .rw, fun _ => 0⟩]⟩
/-- FLT_UREC0 (17_faults.md). -/
def FLT_UREC0 : RegRow :=
  ⟨0x15014, 0x0, 1, none, [⟨31, 1, .w1c, fun _ => 0⟩, ⟨30, 1, .ro, fun _ => 0⟩, ⟨29, 1, .ro, fun _ => 0⟩, ⟨28, 1, .ro, fun _ => 0⟩, ⟨27, 1, .ro, fun _ => 0⟩, ⟨25, 1, .ro, fun _ => 0⟩, ⟨24, 1, .ro, fun _ => 0⟩, ⟨16, 6, .ro, fun _ => 0⟩, ⟨8, 6, .ro, fun _ => 0⟩, ⟨0, 8, .ro, fun _ => 0⟩]⟩
/-- FLT_UREC1 (17_faults.md). -/
def FLT_UREC1 : RegRow :=
  ⟨0x15018, 0x0, 1, none, [⟨31, 1, .ro, fun _ => 0⟩, ⟨16, 13, .ro, fun _ => 0⟩, ⟨0, 16, .ro, fun _ => 0⟩]⟩
/-- FLT_UREC2 (17_faults.md). -/
def FLT_UREC2 : RegRow :=
  ⟨0x1501c, 0x0, 1, none, [⟨0, 32, .ro, fun _ => 0⟩]⟩
/-- FLT_UCMD (17_faults.md). -/
def FLT_UCMD : RegRow :=
  ⟨0x15020, 0x0, 1, none, [⟨0, 2, .wo, fun _ => 0⟩]⟩
/-- FLT_FALLOW (17_faults.md). -/
def FLT_FALLOW : RegRow :=
  ⟨0x15040, 0x4, 11, some F.FLT_CTRL_LOCK, [⟨16, 16, .rwl, fun _ => 8⟩, ⟨0, 13, .rwl, fun _ => 60⟩]⟩
/-- FLT_FENCED (17_faults.md). -/
def FLT_FENCED : RegRow :=
  ⟨0x15080, 0x4, 20, none, [⟨0, 32, .ro, fun _ => 0⟩]⟩
/-- FLT_SRC (17_faults.md). -/
def FLT_SRC : RegRow :=
  ⟨0x15100, 0x4, 64, some F.FLT_CTRL_LOCK, [⟨30, 2, .rwl, fun i => (srcRst i).1⟩, ⟨16, 8, .rwl, fun i => (srcRst i).2.1⟩, ⟨0, 16, .rwl, fun i => (srcRst i).2.2⟩]⟩
/-- ALT_CFG (17_faults.md). -/
def ALT_CFG : RegRow :=
  ⟨0x15400, 0x4, 2, none, [⟨31, 1, .ro, fun _ => 0⟩, ⟨16, 10, .rw, fun _ => 100⟩, ⟨2, 1, .rw, fun _ => 0⟩, ⟨1, 1, .rw, fun i => i⟩, ⟨0, 1, .rw, fun i => i⟩]⟩
/-- ALT_ROUTE0 (17_faults.md). -/
def ALT_ROUTE0 : RegRow :=
  ⟨0x15410, 0x8, 2, none, [⟨0, 32, .rw, fun _ => 4294967295⟩]⟩
/-- ALT_ROUTE1 (17_faults.md). -/
def ALT_ROUTE1 : RegRow :=
  ⟨0x15414, 0x8, 2, none, [⟨0, 24, .rw, fun _ => 16777215⟩]⟩
/-- STW_CTRL (18_steward.md). -/
def STW_CTRL : RegRow :=
  ⟨0x16000, 0x0, 1, some F.STW_CTRL_LOCK, [⟨31, 1, .w1s, fun _ => 0⟩, ⟨1, 1, .w1s, fun _ => 0⟩, ⟨0, 1, .w1s, fun _ => 0⟩]⟩
/-- STW_BOOT (18_steward.md). -/
def STW_BOOT : RegRow :=
  ⟨0x16004, 0x0, 1, none, [⟨24, 8, .ro, fun _ => 0⟩, ⟨8, 1, .ro, fun _ => 0⟩, ⟨4, 1, .ro, fun _ => 0⟩, ⟨0, 2, .ro, fun _ => 0⟩]⟩
/-- STW_BOOTVER (18_steward.md). -/
def STW_BOOTVER : RegRow :=
  ⟨0x16008, 0x0, 1, none, [⟨0, 32, .ro, fun _ => 0⟩]⟩
/-- STW_WDT (18_steward.md). -/
def STW_WDT : RegRow :=
  ⟨0x16010, 0x0, 1, some F.STW_CTRL_LOCK, [⟨31, 1, .rwl, fun _ => 1⟩, ⟨16, 12, .rwl, fun _ => 0⟩, ⟨0, 16, .rwl, fun _ => 2000⟩]⟩
/-- STW_WDTKICK (18_steward.md). -/
def STW_WDTKICK : RegRow :=
  ⟨0x16014, 0x0, 1, none, [⟨0, 16, .wo, fun _ => 0⟩]⟩
/-- STW_WDTLEFT (18_steward.md). -/
def STW_WDTLEFT : RegRow :=
  ⟨0x16018, 0x0, 1, none, [⟨0, 16, .ro, fun _ => 2000⟩]⟩
/-- STW_INT (18_steward.md). -/
def STW_INT : RegRow :=
  ⟨0x1601c, 0x0, 1, none, [⟨4, 1, .w1c, fun _ => 0⟩, ⟨3, 1, .w1c, fun _ => 0⟩, ⟨2, 1, .w1c, fun _ => 0⟩, ⟨1, 1, .w1c, fun _ => 0⟩, ⟨0, 1, .w1c, fun _ => 0⟩]⟩
/-- STW_SUPEV (18_steward.md). -/
def STW_SUPEV : RegRow :=
  ⟨0x16020, 0x0, 1, none, [⟨0, 11, .w1c, fun _ => 0⟩]⟩
/-- STW_MTIMECMPL (18_steward.md). -/
def STW_MTIMECMPL : RegRow :=
  ⟨0x16030, 0x0, 1, none, [⟨0, 32, .rw, fun _ => 4294967295⟩]⟩
/-- STW_MTIMECMPH (18_steward.md). -/
def STW_MTIMECMPH : RegRow :=
  ⟨0x16034, 0x0, 1, none, [⟨0, 32, .rw, fun _ => 4294967295⟩]⟩
/-- STW_ICPRIO (18_steward.md). -/
def STW_ICPRIO : RegRow :=
  ⟨0x16100, 0x4, 48, none, [⟨0, 3, .rw, fun _ => 0⟩]⟩
/-- STW_ICPEND0 (18_steward.md). -/
def STW_ICPEND0 : RegRow :=
  ⟨0x16200, 0x0, 1, none, [⟨0, 32, .ro, fun _ => 0⟩]⟩
/-- STW_ICPEND1 (18_steward.md). -/
def STW_ICPEND1 : RegRow :=
  ⟨0x16204, 0x0, 1, none, [⟨0, 32, .ro, fun _ => 0⟩]⟩
/-- STW_ICCLAIM (18_steward.md). -/
def STW_ICCLAIM : RegRow :=
  ⟨0x16210, 0x0, 1, none, [⟨0, 6, .rw, fun _ => 0⟩]⟩
/-- STW_ICTHRESH (18_steward.md). -/
def STW_ICTHRESH : RegRow :=
  ⟨0x16214, 0x0, 1, none, [⟨0, 3, .rw, fun _ => 0⟩]⟩
/-- STW_MBCMD (18_steward.md). -/
def STW_MBCMD : RegRow :=
  ⟨0x16300, 0x0, 1, none, [⟨31, 1, .w1s, fun _ => 0⟩, ⟨30, 1, .ro, fun _ => 0⟩, ⟨16, 8, .ro, fun _ => 0⟩, ⟨8, 5, .rw, fun _ => 0⟩, ⟨0, 8, .rw, fun _ => 0⟩]⟩
/-- STW_MBREPLY (18_steward.md). -/
def STW_MBREPLY : RegRow :=
  ⟨0x16304, 0x0, 1, none, [⟨31, 1, .w1s, fun _ => 0⟩, ⟨16, 8, .rw, fun _ => 0⟩, ⟨8, 5, .rw, fun _ => 0⟩]⟩
/-- STW_MBMSG (18_steward.md). -/
def STW_MBMSG : RegRow :=
  ⟨0x16308, 0x0, 1, none, [⟨31, 1, .w1s, fun _ => 0⟩, ⟨30, 1, .ro, fun _ => 0⟩, ⟨29, 1, .w1s, fun _ => 0⟩, ⟨8, 5, .rw, fun _ => 0⟩, ⟨0, 8, .rw, fun _ => 0⟩]⟩
/-- STW_MBDATA (18_steward.md). -/
def STW_MBDATA : RegRow :=
  ⟨0x16340, 0x4, 16, none, [⟨0, 32, .rw, fun _ => 0⟩]⟩
/-- STW_MBMDATA (18_steward.md). -/
def STW_MBMDATA : RegRow :=
  ⟨0x16380, 0x4, 16, none, [⟨0, 32, .rw, fun _ => 0⟩]⟩
/-- LCS_CTRL (19_lifecycle.md). -/
def LCS_CTRL : RegRow :=
  ⟨0x17000, 0x0, 1, none, [⟨31, 1, .w1s, fun _ => 0⟩]⟩
/-- LCS_STAT (19_lifecycle.md). -/
def LCS_STAT : RegRow :=
  ⟨0x17004, 0x0, 1, none, [⟨19, 1, .ro, fun _ => 0⟩, ⟨18, 1, .ro, fun _ => 0⟩, ⟨17, 1, .ro, fun _ => 0⟩, ⟨16, 1, .ro, fun _ => 0⟩, ⟨10, 1, .ro, fun _ => 0⟩, ⟨9, 1, .ro, fun _ => 0⟩, ⟨8, 1, .ro, fun _ => 0⟩, ⟨4, 2, .ro, fun _ => 0⟩, ⟨0, 3, .ro, fun _ => 0⟩]⟩
/-- LCS_UIDL (19_lifecycle.md). -/
def LCS_UIDL : RegRow :=
  ⟨0x17008, 0x0, 1, none, [⟨0, 32, .ro, fun _ => 0⟩]⟩
/-- LCS_UIDH (19_lifecycle.md). -/
def LCS_UIDH : RegRow :=
  ⟨0x1700c, 0x0, 1, none, [⟨0, 32, .ro, fun _ => 0⟩]⟩
/-- LCS_FLOOR (19_lifecycle.md). -/
def LCS_FLOOR : RegRow :=
  ⟨0x17010, 0x0, 1, none, [⟨0, 32, .ro, fun _ => 0⟩]⟩
/-- LCS_FLOORCNT (19_lifecycle.md). -/
def LCS_FLOORCNT : RegRow :=
  ⟨0x17014, 0x0, 1, none, [⟨0, 5, .ro, fun _ => 0⟩]⟩
/-- LCS_REQ (19_lifecycle.md). -/
def LCS_REQ : RegRow :=
  ⟨0x17020, 0x0, 1, none, [⟨31, 1, .w1s, fun _ => 0⟩, ⟨30, 1, .ro, fun _ => 0⟩, ⟨16, 8, .ro, fun _ => 0⟩, ⟨8, 8, .rw, fun _ => 0⟩, ⟨0, 3, .rw, fun _ => 0⟩]⟩
/-- LCS_UNLOCK (19_lifecycle.md). -/
def LCS_UNLOCK : RegRow :=
  ⟨0x17024, 0x0, 1, none, [⟨0, 18, .rw, fun _ => 0⟩]⟩
/-- LCS_CHAL (19_lifecycle.md). -/
def LCS_CHAL : RegRow :=
  ⟨0x17030, 0x4, 4, none, [⟨0, 32, .ro, fun _ => 0⟩]⟩
/-- LCS_PROG (19_lifecycle.md). -/
def LCS_PROG : RegRow :=
  ⟨0x17040, 0x0, 1, none, [⟨31, 1, .w1s, fun _ => 0⟩, ⟨30, 1, .ro, fun _ => 0⟩, ⟨16, 8, .ro, fun _ => 0⟩, ⟨0, 4, .rw, fun _ => 0⟩]⟩
/-- LCS_KEYBUF (19_lifecycle.md). -/
def LCS_KEYBUF : RegRow :=
  ⟨0x17060, 0x4, 8, none, [⟨0, 32, .wo, fun _ => 0⟩]⟩
/-- LCS_LABEL (19_lifecycle.md). -/
def LCS_LABEL : RegRow :=
  ⟨0x17080, 0x4, 2, none, [⟨0, 32, .rw, fun _ => 0⟩]⟩
/-- LCS_DERIVE (19_lifecycle.md). -/
def LCS_DERIVE : RegRow :=
  ⟨0x17088, 0x0, 1, none, [⟨31, 1, .w1s, fun _ => 0⟩, ⟨30, 1, .ro, fun _ => 0⟩]⟩
/-- LCS_DKEY (19_lifecycle.md). -/
def LCS_DKEY : RegRow :=
  ⟨0x170a0, 0x4, 8, none, [⟨0, 32, .ro, fun _ => 0⟩]⟩
/-- LCS_INT (19_lifecycle.md). -/
def LCS_INT : RegRow :=
  ⟨0x170c0, 0x0, 1, none, [⟨2, 1, .w1c, fun _ => 0⟩, ⟨1, 1, .w1c, fun _ => 0⟩, ⟨0, 1, .w1c, fun _ => 0⟩]⟩
/-- TEN_ID (12_tenants.md). -/
def TEN_ID : RegRow :=
  ⟨0x0, 0, 1, none, [⟨0, 8, .ro, fun i => i⟩]⟩
/-- TEN_STAT (12_tenants.md). -/
def TEN_STAT : RegRow :=
  ⟨0x4, 0, 1, none, [⟨31, 1, .ro, fun _ => 0⟩, ⟨16, 8, .ro, fun _ => 0⟩, ⟨0, 14, .ro, fun _ => 0⟩]⟩
/-- TEN_CFGERR (12_tenants.md). -/
def TEN_CFGERR : RegRow :=
  ⟨0x8, 0, 1, none, [⟨31, 1, .w1c, fun _ => 0⟩, ⟨30, 1, .ro, fun _ => 0⟩, ⟨8, 17, .ro, fun _ => 0⟩, ⟨0, 8, .ro, fun _ => 0⟩]⟩
/-- TEN_TICKET_WAIT (12_tenants.md). -/
def TEN_TICKET_WAIT : RegRow :=
  ⟨0xc, 0, 1, none, [⟨0, 32, .ro, fun _ => 0⟩]⟩
/-- TEN_USEUSB (12_tenants.md). -/
def TEN_USEUSB : RegRow :=
  ⟨0x10, 0, 1, none, [⟨16, 13, .ro, fun i => if i = 0 then 0x1C20 else 0⟩, ⟨0, 13, .ro, fun _ => 0⟩]⟩
/-- TEN_USEHAY (12_tenants.md). -/
def TEN_USEHAY : RegRow :=
  ⟨0x14, 0, 1, none, [⟨16, 15, .ro, fun i => if i = 0 then 0x7FFF else 0⟩, ⟨0, 15, .ro, fun _ => 0⟩]⟩
/-- HIF_RBASEL (12_tenants.md). -/
def HIF_RBASEL : RegRow :=
  ⟨0x100, 0x10, 17, none, [⟨6, 26, .rw, fun _ => 0⟩]⟩
/-- HIF_RBASEH (12_tenants.md). -/
def HIF_RBASEH : RegRow :=
  ⟨0x104, 0x10, 17, none, [⟨0, 32, .rw, fun _ => 0⟩]⟩
/-- HIF_RCFG (12_tenants.md). -/
def HIF_RCFG : RegRow :=
  ⟨0x108, 0x10, 17, none, [⟨31, 1, .rw, fun _ => 0⟩, ⟨30, 1, .ro, fun _ => 0⟩, ⟨16, 5, .rw, fun _ => 4⟩, ⟨8, 3, .rw, fun _ => 0⟩, ⟨0, 3, .rw, fun _ => 0⟩]⟩
/-- HIF_RIDX (12_tenants.md). -/
def HIF_RIDX : RegRow :=
  ⟨0x10c, 0x10, 17, none, [⟨16, 16, .ro, fun _ => 0⟩, ⟨0, 16, .ro, fun _ => 0⟩]⟩
/-- TEN_MOD (12_tenants.md). -/
def TEN_MOD : RegRow :=
  ⟨0x300, 0x4, 8, none, [⟨16, 10, .rw, fun _ => 0⟩, ⟨0, 8, .rw, fun _ => 0⟩]⟩
/-- HIF_DB (12_tenants.md). -/
def HIF_DB : RegRow :=
  ⟨0x1000, 0x8, 17, none, [⟨16, 16, .wo, fun _ => 0⟩, ⟨0, 5, .wo, fun _ => 0⟩]⟩
/-- MSIX_ADDRL (11_rings.md). -/
def MSIX_ADDRL : RegRow :=
  ⟨0x800, 0x10, 8, none, [⟨2, 30, .rw, fun _ => 0⟩]⟩
/-- MSIX_ADDRH (11_rings.md). -/
def MSIX_ADDRH : RegRow :=
  ⟨0x804, 0x10, 8, none, [⟨0, 32, .rw, fun _ => 0⟩]⟩
/-- MSIX_DATA (11_rings.md). -/
def MSIX_DATA : RegRow :=
  ⟨0x808, 0x10, 8, none, [⟨0, 32, .rw, fun _ => 0⟩]⟩
/-- MSIX_CTRL (11_rings.md). -/
def MSIX_CTRL : RegRow :=
  ⟨0x80c, 0x10, 8, none, [⟨0, 1, .rw, fun _ => 1⟩]⟩
/-- MSIX_PBA (11_rings.md). -/
def MSIX_PBA : RegRow :=
  ⟨0xc00, 0, 1, none, [⟨0, 8, .ro, fun _ => 0⟩]⟩

end R

/-- Every register of BAR0 (21_register_index.md), part 0. -/
def bar0Rows0 : List RegRow :=
  [R.GLB_ID, R.GLB_CTRL, R.GLB_CFGERR, R.SUP_STATE, R.SUP_RSTCAUSE, R.SUP_CTRL, R.SUP_WAKECFG, R.SUP_WAKESRC, R.SUP_SECONDS, R.SUP_ALARM, R.SUP_WARNCFG, R.SUP_PACKCFG, R.SUP_STAT, R.SUP_SHUTCFG, R.SUP_SHUT, R.SUP_BOOT, R.SUP_PACE, R.SUP_PACECFG, R.SUP_XTCFG, R.SUP_XTSTAT, R.SUP_XTCOUNTL, R.SUP_XTCOUNTH, R.SUP_XCLR, R.SUP_XDROP, R.PD_CTRL, R.PD_STAT, R.PD_VBUS, R.PD_XLIM, R.PD_TXCMD, R.PD_RXSTAT, R.PD_INT, R.PD_MOIST, R.PD_MOISTCFG, R.PD_TXBUF0, R.PD_TXBUF1, R.PD_TXBUF2, R.PD_TXBUF3, R.PD_TXBUF4, R.PD_RXBUF0, R.PD_RXBUF1]
/-- Every register of BAR0 (21_register_index.md), part 1. -/
def bar0Rows1 : List RegRow :=
  [R.PD_RXBUF2, R.PD_RXBUF3, R.PD_RXBUF4, R.PD_BUDGET, R.CHG_CTRL, R.CHG_CFG, R.CHG_TIME, R.CHG_STAT, R.CHG_SESS0, R.CHG_SESS1, R.CHG_SESS2, R.CHG_INT, R.CEL_CFG, R.CEL_CELL, R.CEL_PACK, R.CEL_CUR, R.CEL_STAT, R.CEL_NTC, R.CEL_BATID, R.CEL_TLIM0, R.CEL_TLIM1, R.CEL_TLIM2, R.CEL_CELLLIM, R.CEL_OWCFG, R.CEL_BAL, R.CEL_GAUGEL, R.CEL_GAUGEH, R.CEL_INT, R.RAT_CTRL, R.RAT_LVL, R.RAT_RAIL, R.RAT_STORE, R.RAT_RPACK, R.RAT_STAT, R.RAT_HEAD, R.RAT_LASTREQ, R.RAT_CNT0, R.RAT_CNT1, R.RAT_INT, R.HUB_CTRL]
/-- Every register of BAR0 (21_register_index.md), part 2. -/
def bar0Rows2 : List RegRow :=
  [R.HUB_CFG, R.HUB_STAT, R.HUB_INT, R.HUB_SETUP0, R.HUB_SETUP1, R.HUB_CTLREPLY, R.PRT_STAT, R.PRT_CNT, R.EPM_DIR, R.EPM_SLOT, R.EPM_BANK, R.EPM_ERR, R.PRT_STEER, R.PRT_LSTAT, R.PRT_LCNT, R.PRT_PLOAD, R.LHE_CTRL, R.LHE_STAT, R.LHE_INT, R.LHE_CTXW0, R.LHE_CTXW1, R.LAR_CTRL, R.LAR_PART, R.LAR_FREE, R.LAR_FENCED, R.LAR_LEAK, R.LAR_USEDSEL, R.LAR_USED, R.LAR_INT, R.LAR_QUOTA, R.STR_W0, R.STR_W1, R.STR_W2, R.STR_W3, R.STR_W4, R.STR_W5, R.STR_W6, R.STR_W7, R.QUE_W0, R.QUE_W1]
/-- Every register of BAR0 (21_register_index.md), part 3. -/
def bar0Rows3 : List RegRow :=
  [R.QUE_W2, R.QUE_W3, R.TDM_CTRL, R.TDM_CFG, R.TDM_DELAY, R.TDM_STAT, R.TDM_CNT, R.TDM_INT, R.TDM_PLL, R.HIF_CTRL, R.HIF_STAT, R.HIF_INT, R.HIF_CNT, R.HIF_TKTFREE, R.HIF_TKTSEL, R.HIF_TKTHELD, R.HIF_TKT, R.TEN_GFLR, R.TEN_GINT, R.TEN_GSTAT, R.TEN_GISO, R.TEN_GHAY, R.HAY_CTRL, R.HAY_UNIT, R.HAY_CFG, R.HAY_STAT, R.HAY_INT, R.HAY_LANE0, R.HAY_LANE4, R.HAY_LANE8, R.HAY_LANEC, R.HAY_RTSEL, R.HAY_RT, R.HAY_FLOW, R.HAY_CTXBUF, R.HAY_CRXBUF, R.HAY_CTXCMD, R.HAY_CTXSTAT, R.HAY_CRXSTAT, R.HAY_CRXPOP]
/-- Every register of BAR0 (21_register_index.md), part 4. -/
def bar0Rows4 : List RegRow :=
  [R.ALM_CTRL, R.ALM_CFG, R.ALM_STAT, R.ALM_INT, R.ALM_TIMEL, R.ALM_TIMEH, R.ALM_MFIDX, R.ALM_OFFSET, R.ALM_GMKEY, R.ALM_LANE0, R.ALM_LANE4, R.YOK_CTRL, R.YOK_CFG, R.YOK_STAT, R.YOK_INT, R.YOK_TXSEQ, R.YOK_RXSEQ, R.YOK_CNT, R.YOK_MCFG, R.YOK_MGEN, R.YOK_MTXCMD, R.YOK_MRXSTAT, R.YOK_MTXBUF, R.YOK_MRXBUF, R.FLS_CTRL, R.FLS_CFG, R.FLS_PROFA0, R.FLS_PROFB0, R.FLS_PROFA1, R.FLS_PROFB1, R.FLS_DMAP, R.FLS_DBASE, R.FLS_WMAP, R.FLS_WBASE, R.FLS_TMO, R.FLS_SUS, R.FLS_CMD, R.FLS_CMDADDR, R.FLS_STAT, R.FLS_ERR]
/-- Every register of BAR0 (21_register_index.md), part 5. -/
def bar0Rows5 : List RegRow :=
  [R.FLS_ERRADDR, R.FLS_INT, R.FLS_CMDBUF, R.GRN_CTRL, R.GRN_CFG, R.GRN_COMMIT, R.GRN_BUF, R.GRN_STAT, R.GRN_LASTSEQ, R.GRN_SELADDR, R.GRN_SELSEQ, R.GRN_SELINFO, R.GRN_WEARA, R.GRN_WEARB, R.GRN_INT, R.ECC_CTRL, R.ECC_LBCFG, R.ECC_INT, R.ECC_LBFLAG, R.ECC_LBLVL, R.ECC_LBCNT, R.ECC_UEREC, R.ECC_UEADDR, R.ECC_UECNT, R.ECC_INJ, R.ECC_FILL, R.ECC_FILLBASE, R.ECC_FILLLEN, R.ECC_GLSTAT, R.ECC_GLCLR, R.ECC_GLW0, R.ECC_GLW1, R.ECC_GLW2, R.FLT_CTRL, R.FLT_INT, R.FLT_USEL, R.FLT_UREC0, R.FLT_UREC1, R.FLT_UREC2, R.FLT_UCMD]
/-- Every register of BAR0 (21_register_index.md), part 6. -/
def bar0Rows6 : List RegRow :=
  [R.FLT_FALLOW, R.FLT_FENCED, R.FLT_SRC, R.ALT_CFG, R.ALT_ROUTE0, R.ALT_ROUTE1, R.STW_CTRL, R.STW_BOOT, R.STW_BOOTVER, R.STW_WDT, R.STW_WDTKICK, R.STW_WDTLEFT, R.STW_INT, R.STW_SUPEV, R.STW_MTIMECMPL, R.STW_MTIMECMPH, R.STW_ICPRIO, R.STW_ICPEND0, R.STW_ICPEND1, R.STW_ICCLAIM, R.STW_ICTHRESH, R.STW_MBCMD, R.STW_MBREPLY, R.STW_MBMSG, R.STW_MBDATA, R.STW_MBMDATA, R.LCS_CTRL, R.LCS_STAT, R.LCS_UIDL, R.LCS_UIDH, R.LCS_FLOOR, R.LCS_FLOORCNT, R.LCS_REQ, R.LCS_UNLOCK, R.LCS_CHAL, R.LCS_PROG, R.LCS_KEYBUF, R.LCS_LABEL, R.LCS_DERIVE, R.LCS_DKEY]
/-- Every register of BAR0 (21_register_index.md), part 7. -/
def bar0Rows7 : List RegRow :=
  [R.LCS_INT]
/-- Every register of BAR0 (21_register_index.md). -/
def bar0Rows : List RegRow := bar0Rows0 ++ bar0Rows1 ++ bar0Rows2 ++ bar0Rows3 ++ bar0Rows4 ++ bar0Rows5 ++ bar0Rows6 ++ bar0Rows7

/-- Every register of a tenant page (Tables 11.3, 11.17, 12.9 to 12.11), part 0. -/
def pageRows0 : List RegRow :=
  [R.TEN_ID, R.TEN_STAT, R.TEN_CFGERR, R.TEN_TICKET_WAIT, R.TEN_USEUSB, R.TEN_USEHAY, R.HIF_RBASEL, R.HIF_RBASEH, R.HIF_RCFG, R.HIF_RIDX, R.TEN_MOD, R.HIF_DB, R.MSIX_ADDRL, R.MSIX_ADDRH, R.MSIX_DATA, R.MSIX_CTRL, R.MSIX_PBA]
/-- Every register of a tenant page (Tables 11.3, 11.17, 12.9 to 12.11). -/
def pageRows : List RegRow := pageRows0

end Sys2Proof.Machine
end

