-- ==== Sys2Proof/Machine/State.lean ====
section
/-!
DEFINITION. The state of the block as plain data: the register fields (one entry per field that differs from its reset
value), the state behind the registers block by block, the fuses, the queue of waiting commands, and the state after reset.
-/
namespace Sys2Proof.Machine

open Sys2Proof

/-- Where the power life of the part stands (Table 03.2, with the steps of Table 03.8 and the held reset told apart). -/
inductive Power where
  /-- no supply at all -/
  | off
  /-- in reset, waiting for the release hold (R65) -/
  | held
  /-- in reset while dormant, which returns to the dormant state (R584) -/
  | heldDormant
  | dormant
  | dormantTime
  /-- RAIL_EN high, rails not yet good: start-up steps 2 and 3 -/
  | railUp
  /-- core released, start-up steps 4 and 5 -/
  | released
  /-- checker self-test passed, wipe running: step 6 -/
  | tested
  /-- start-up done; register writes are accepted (R29) -/
  | run
  | doze
  /-- checker self-test failed: boot ROM stays in its failure loop (R89) -/
  | stuck
  deriving DecidableEq, Repr

/-- What the part puts out on a pin, a link or a bus, or answers to an access. -/
inductive OutKind where
  /-- MSI-X message: unit is the tenant, args the vector -/
  | msix
  /-- posted write to host memory: unit is the tenant, args the address and 1 where the TLP is poisoned -/
  | hostWrite
  /-- read of host memory: unit is the tenant, args the address and the length in bytes -/
  | hostRead
  /-- answer to a PCI Express configuration request: args 0 retry status, 1 served, 2 unsupported -/
  | cfgReply
  /-- answer to a register or memory read -/
  | readData
  /-- bus error or access fault to the steward -/
  | accessFault
  /-- Power Delivery message: unit is the port, args SOP and the message header -/
  | pdMsg
  /-- Power Delivery signalling: unit is the port, args 0 GoodCRC, 1 Hard_Reset, 2 Cable_Reset -/
  | pdSignal
  /-- VBUS set-point of a source port in millivolts -/
  | pdVset
  /-- grant word on BURST_GNT -/
  | gntWord
  /-- handshake, data or signalling on a USB port (0 UP, 1 to 8 DS1 to DS8) -/
  | usb
  /-- frames played or zeros on a serial audio port -/
  | tdm
  /-- a bale on a lane: args the type -/
  | bale
  /-- idle symbols on a lane that has nothing ready (R48) -/
  | idle
  /-- a beat or other token-line action of the yoke -/
  | yoke
  /-- command sent to a flash: unit is the select, args the operation and the address -/
  | flash
  /-- result of a boot ROM service or mailbox command -/
  | rom
  deriving DecidableEq, Repr

/-- One thing put out. -/
structure Out where
  kind : OutKind
  unit : Nat
  args : List Nat
  data : List Byte
  deriving DecidableEq, Repr

/-- A stored word of a protected memory: 64 data bits and the syndrome a read of it forms (R455, R456); never written, it
holds the wipe pattern (R461). (DEDUCED, log entry 5). -/
structure EccWord where
  data : Nat := 0x5A5A5A5A5A5A5A5A
  syn : Nat := 3
  deriving DecidableEq, Repr

/-- An item in a queue: its cells, its bytes, PRIO, timestamp, which of its cells are poisoned (R246), the bytes of it that
left with freed cells, and the words of its cells that were stored with a false syndrome (cell, word, syndrome; R467). -/
structure Item where
  cells : List Nat := []
  data : List Byte := []
  prio : Nat := 0
  stamp : Nat := 0
  poison : List Nat := []
  skip : Nat := 0
  bad : List (Nat × Nat × Nat) := []
  deriving DecidableEq, Repr

/-- A descriptor in flight: its ring, index, W0 fields and words W1 to W7; once dispatched, how far it has come and, where
it has ended behind an earlier one of the same resource, its result (R314). -/
structure Tkt where
  t : Nat
  sq : Nat
  idx : Nat
  tag : Nat := 0
  op : Nat := 0
  irq : Bool := false
  nocmp : Bool := false
  fence : Bool := false
  /-- a bit of W0 that must be 0 is set -/
  bad : Bool := false
  /-- its slot could not be fetched: the status it completes with (Table 11.2) -/
  failed : Option Status := none
  w : List Nat := []
  /-- bytes moved -/
  moved : Nat := 0
  /-- control transfer: 0 SETUP, 1 data, 2 status stage; other descriptors: 0 -/
  stage : Nat := 0
  result : Option (Status × Nat × Nat) := none
  deriving DecidableEq, Repr

/-- A completion waiting for room in its CQ (R315). -/
structure Cpl where
  tk : Tkt
  status : Status
  r0 : Nat
  r1 : Nat
  deriving DecidableEq, Repr

/-- Supply supervision and power life beside its registers. -/
structure Pow where
  state : Power := .held
  /-- after a rail failure only a new firing wakes (R88) -/
  newFiring : Bool := false
  /-- the discharge hold runs (R74) -/
  discharge : Bool := false
  /-- input returned at or after S4, which wakes when the discharge hold ends (R74) -/
  inputLatched : Bool := false
  /-- wake sources that fired in the shutdown sequence or in the hold, by their bit in SUP_WAKESRC (R74) -/
  fired : Nat := 0
  /-- GRN has reported a commit done in S3 (R71, R451) -/
  s3Done : Bool := false
  /-- streams that S2 flushed, for the restart of R73 -/
  s2Streams : List Nat := []
  /-- an abort is at its step 4, with CAUSE as it stood before step 2 (R73) -/
  aborting : Option Nat := none
  /-- a rail failure's fault event waits for step 7 of the next start-up (R488) -/
  railFault : Bool := false
  /-- the RAIL_EN output is high (R58) -/
  railEn : Bool := false
  /-- a steward watchdog reset came in S3, so that only C ends it (R83) -/
  s3Lost : Bool := false
  /-- an abort is at its step 1: a commit in progress is to complete (R73) -/
  abortWait : Bool := false
  deriving DecidableEq, Repr

/-- The timebase: SUP_XTCOUNT, captured upper words, the pace run and the slow count. -/
structure Xt where
  /-- SUP_XTCOUNT (64 bits) -/
  count : Nat := 0
  /-- upper words captured for the steward (0) and T000 (1), R44 -/
  cap : Map Nat := []
  /-- upper words of the Almanac captured per requester -/
  almCap : Map Nat := []
  /-- upper gauge words captured per requester -/
  gaugeCap : Map Nat := []
  /-- consecutive low windows, and windows at or above FLOOR + 16 (R41) -/
  lowRun : Nat := 0
  highRun : Nat := 0
  /-- a 24 MHz loss was raised and the crystal is not yet back (R49, R54) -/
  lost24 : Bool := false
  /-- SUP_PACE_LOW may be raised -/
  armed : Bool := true
  /-- the 32.768 kHz crystal was lost under R51 and is not yet back -/
  lost32 : Bool := false
  /-- the slow count follows SUP_XTCOUNT: SLOWSRC, R51 or R55 -/
  slowOn24 : Bool := true
  deriving DecidableEq, Repr

/-- One of the two banks of a ping-pong crossing and direction: handed over to its reading side with that many bytes, or owned by its
writing side (R43, R52). -/
structure Bank where
  full : Option Nat := none
  deriving DecidableEq, Repr

/-- One direction of a crossing (Table 02.2): the whole items in its FIFO as entries, oldest first, or its two banks and the bank
that the writer fills and the reader drains next (false is bank 0); the items that its writer has yet to put in. -/
structure CrossDir where
  fifo : List Nat := []
  bank0 : Bank := {}
  bank1 : Bank := {}
  wnext : Bool := false
  rnext : Bool := false
  wait : List Nat := []
  deriving DecidableEq, Repr

/-- A crossing: its inbound and its outbound buffer, and how much of the log of what was put out has been passed to it. -/
structure Crossing where
  inn : CrossDir := {}
  out : CrossDir := {}
  seen : Nat := 0
  deriving DecidableEq, Repr

/-- The crossings by their ID, and the length of the log at the last core reset, before which nothing crosses. -/
structure Crossings where
  dirs : Map Crossing := []
  base : Nat := 0
  deriving DecidableEq, Repr

/-- What a command leaves to be accounted for at its end: an uncorrectable or a corrected link entry of a bank's free list
(R276, R464), one of a queue, a lost item, an underrun or a poisoned delivery of a queue, or its notice alone (R274), a fault event of a unit and source (R481). -/
inductive Due where
  | leak (bank : Nat)
  | corrected (bank : Nat)
  | lost (q : Nat)
  | under (q : Nat)
  | note (q kind : Nat)
  | link (q : Nat)
  | poison (q : Nat) (escalates : Bool)
  | fault (unit src : Nat)
  deriving DecidableEq, Repr

/-- The Larder's cells: what is free in each bank, and to whom the queued cells are charged. -/
structure Larder where
  /-- free cells of each bank as intervals [lo, hi) of cell numbers within the bank -/
  banks : Map (List (Nat × Nat)) := []
  /-- items of each queue in arrival order -/
  queues : Map (List Item) := []
  /-- cells charged to owner t, 256 being the device -/
  charge : Map Nat := []
  /-- LOSTEV waits for the tenant's next event -/
  lostEv : Map Bool := []
  /-- notice spacing of queue q and kind k at 3 q + k: 0 none, 1 running, 2 running with a gathered notice (R274) -/
  spacing : Map Nat := []
  /-- link entries stored with a false syndrome, by cell (R467) -/
  link : Map Nat := []
  /-- what a command has yet to account for when it ends; empty between commands -/
  due : List Due := []
  /-- device queues fenced under R484 -/
  qFenced : List Nat := []
  /-- cells of the steward ring partition, 0 of them while it is not set aside -/
  partBase : Nat := 0
  partCells : Nat := 0
  /-- the set-aside of R252 is running -/
  settingAside : Bool := false
  deriving DecidableEq, Repr

/-- A sink of a stream: its read position in bytes from the queue's head. -/
structure SinkPos where
  pos : Nat := 0
  /-- bytes that the packet in progress has taken (a RING buffer being filled, a TDM bank being sent), freed ones included -/
  cur : Nat := 0
  /-- poisoned data of the item that the position lies in have been counted (R265) -/
  counted : Bool := false
  /-- the sink has begun (R262) -/
  active : Bool := false
  /-- it is detached and finishes its present packet first (R261) -/
  leaving : Bool := false
  /-- RING sink: timestamp of the buffer's first sample frame, and whether poisoned data went into it -/
  firstStamp : Nat := 0
  poisoned : Bool := false
  /-- TDM sink aligned under R289 -/
  aligned : Bool := false
  /-- the USB reservation it holds: cost and charge (Table 12.2) -/
  cost : Nat := 0
  charge : Nat := 0
  deriving DecidableEq, Repr

/-- A stream beside its STR entry. -/
structure Strm where
  sinks : Map SinkPos := []
  /-- state before a fence, IDLE included (R275) -/
  preFence : Nat := 0
  /-- the source endpoint has gone (R587), for good where its LHE context has closed -/
  srcLost : Bool := false
  srcDead : Bool := false
  /-- flush step 2 ended: the cells are wiped and freed -/
  drained : Bool := false
  /-- the USB reservation its FUNC source holds -/
  cost : Nat := 0
  charge : Nat := 0
  deriving DecidableEq, Repr

/-- One SQ's outstanding fetch read: how many descriptors, and whether it was retried (R305, R313). -/
structure FetchRd where
  n : Nat := 0
  retried : Bool := false
  deriving DecidableEq, Repr

/-- Rings and tickets beside their registers. (DEDUCED, log entry 50). -/
structure Hif where
  /-- phase of ring 17 t + r (true is 1) -/
  phase : Map Bool := []
  /-- outstanding fetch read of SQ 8 t + q -/
  reads : Map FetchRd := []
  /-- fetched descriptors of SQ 8 t + q, not yet dispatched -/
  fetched : Map (List Tkt) := []
  /-- dispatched descriptors that have not ended, in dispatch order -/
  running : List Tkt := []
  /-- completions waiting for their CQ, oldest first -/
  cpls : List Cpl := []
  /-- tenants in a wait of R322 -/
  waiting : Map Bool := []
  /-- the weighted order of R338: credit of each tenant, the tenant served last, and whether its turn goes on. -/
  credit : Map Nat := []
  last : Nat := 255
  inTurn : Bool := false
  /-- the SQ of each tenant that was read last (R313) -/
  lastSq : Map Nat := []
  /-- tenants that wait for a read tag (Table 11.13) -/
  tagHeld : Map Bool := []
  /-- reads whose completions are to be discarded (R343) -/
  abandoned : Nat := 0
  /-- entry counts n and holdoffs of vector v of tenant t at 8 t + v (R341) -/
  modN : Map Nat := []
  holdoff : Map Bool := []
  /-- TEN_MODv.COUNT as it stood at the vector's last send -/
  modCount : Map Nat := []
  /-- messages that wait for the PCI Express PHY to be released, as 8 t + v (R67) -/
  msgDue : List Nat := []
  /-- ARI Capable Hierarchy, VF Enable and NumVFs of the SR-IOV capability -/
  ari : Bool := false
  vfEnable : Bool := false
  numVfs : Nat := 0
  /-- vendor, subsystem vendor and subsystem ID taken from the image (R303) -/
  ids : Nat × Nat × Nat := (0, 0, 0)
  deriving DecidableEq, Repr

/-- A function-level reset in progress: 0 none, else the step of Table 12.3 that has begun. -/
structure Flr where
  step : Nat := 0
  /-- the function is absent once it ends (R352) -/
  removed : Bool := false
  /-- Larder cells wiped in step 5 -/
  wiped : Nat := 0
  deriving DecidableEq, Repr

/-- A unit's fault record, fence, fallow count and escalation windows (R480 to R485). -/
structure URec where
  valid : Bool := false
  multi : Bool := false
  sev : Bool := false
  rta : Bool := false
  rtb : Bool := false
  sticky : Bool := false
  fenced : Bool := false
  fcsat : Bool := false
  cause : Nat := 0
  last : Nat := 0
  merged : Nat := 0
  time : Nat := 0
  fcnt : Nat := 0
  /-- seconds of fallow as the running timer was started with -/
  remain : Nat := 0
  /-- open windows: source to count -/
  wins : Map Nat := []
  deriving DecidableEq, Repr

/-- An alert pin's pulse-hold state (R490). -/
structure AlertPin where
  pulsing : Bool := false
  held : Bool := false
  resting : Bool := false
  waiting : Bool := false
  deriving DecidableEq, Repr

/-- What the cable's Discover Identity response says (R104): an e-marker answered, a passive cable with USB 3.2 Gen 1 or higher
signalling, 5 A. Without an answer the cable counts as a 3 A passive one with no SuperSpeed pairs. -/
structure Cable where
  marked : Bool := false
  gen1 : Bool := false
  amp5 : Bool := false
  deriving DecidableEq, Repr

/-- One Type-C port beside its PD registers (port 0 UP, 1 to 4 DS1 to DS4). -/
structure PdPort where
  /-- the message being transmitted, its SOP, and how often it was sent -/
  tx : List Byte := []
  txSop : Nat := 0
  tries : Nat := 0
  /-- the next MessageID of SOP, and those of SOP' and SOP'' -/
  txId : Nat := 0
  txIdC1 : Nat := 0
  txIdC2 : Nat := 0
  /-- MessageID of the last message received on SOP, and on SOP' and SOP''; 8 before the first -/
  rxId : Nat := 8
  rxIdC1 : Nat := 8
  rxIdC2 : Nat := 8
  /-- identity of the cable (R104) -/
  cable : Cable := {}
  /-- the partner lists SVID 0x2C1E (R114), and the Mode VDO it gives (Table 04.8) -/
  farHay : Bool := false
  farMode : Option Nat := none
  /-- a Hard_Reset, or a PS_RDY, that waits for the end of a PHY hold (R119) -/
  hrDue : Bool := false
  psRdyDue : Bool := false
  /-- contract under negotiation and contract in force, in mV and mA -/
  reqMv : Nat := 0
  reqMa : Nat := 0
  reqPps : Bool := false
  mv : Nat := 5000
  ma : Nat := 0
  /-- PDOs last sent, and PDOs last received -/
  ownCaps : List Nat := []
  caps : List Nat := []
  /-- the Request last sent (repeated under R123) -/
  lastReq : List Byte := []
  /-- a Request received waits for its answer -/
  reqIn : Bool := false
  /-- 0 none; 1 source before its set-point; 2 source settling; 3 sink awaiting PS_RDY; 4 sink settling; in a PR_Swap, 5 initial
  source turned off and not yet below 0.8 V; 6 its PS_RDY sent, the partner's awaited; 7 initial sink awaiting PS_RDY; 8 new source
  settling at vSafe5V -/
  trans : Nat := 0
  /-- swap under way: 0 none, 1 DR, 2 PR, 3 VCONN -/
  swap : Nat := 0
  /-- watts reserved in the budget (DS ports), and before the Accept in transmission -/
  resv : Nat := 0
  oldResv : Nat := 0
  /-- VBG_DSn on, VBS_x closed, draw limited to 2.5 W -/
  vbg : Bool := false
  vbs : Bool := false
  limited : Bool := false
  /-- source recovery after a hard reset runs; VBUS was not below 0.8 V in time -/
  recovering : Bool := false
  notLow : Bool := false
  /-- Type-C Current advertised by the partner: 0 default, 1 1.5 A, 2 3.0 A -/
  adv : Nat := 0
  /-- over-voltage opened VBS_x -/
  ovp : Bool := false
  /-- VBUS has been within its contract range for 10 ms (R70); VBUS of the selected input was lost (R151) -/
  vin : Bool := false
  lost : Bool := false
  /-- consecutive clear moisture measurements; VBUS wake masked -/
  clear : Nat := 0
  wakeMasked : Bool := false
  deriving DecidableEq, Repr

/-- The charger, the power path and the cell monitor beside their registers. -/
structure Pack where
  /-- a charge session is open -/
  sess : Bool := false
  start : Nat := 0
  /-- charge delivered in the session, in units of 10 µC -/
  charge : Nat := 0
  /-- switches of the power path: input switch PPI_G, pack switch PPB_G -/
  ppi : Bool := false
  ppb : Bool := false
  /-- the charger watchdog has expired, or the steward was reset: the charger runs only after the next KICK (R136) -/
  dead : Bool := false
  /-- the system draws more than the input gives (R131) -/
  short : Bool := false
  /-- what the charger regulates to, in mA: the charge current before the input limit lowers it, and the input current limit (R131,
  R135) -/
  iset : Nat := 0
  iin : Nat := 0
  /-- present charge current limit of the regulation of R135, in mA below the setting -/
  trim : Nat := 0
  /-- CEL_GAUGE, a 48-bit two's complement count -/
  gauge : Int := 0
  /-- presence conditions hold and are being qualified -/
  qual : Bool := false
  /-- open-wire test in progress: the pin under test, and the pins that moved so far -/
  owPin : Nat := 0
  owMoved : List Nat := []
  /-- CEL_SUM_MISMATCH stands -/
  sumBad : Bool := false
  /-- cells that read outside CEL_CELLLIM await a verdict -/
  suspect : Bool := false
  /-- the pack is in the discharge-limit band -/
  dsgHot : Bool := false
  /-- the first scan since release has ended (R157) -/
  scanned : Bool := false
  deriving DecidableEq, Repr

/-- Ration beside its registers. -/
structure Ration where
  /-- tag of the last request accepted since EN last became 1 (R163) -/
  tag : Option Nat := none
  /-- granted duration code of the grant in force -/
  dur : Nat := 0
  /-- decided under lean rules -/
  lean : Bool := false
  /-- a complete cell-monitor scan has ended since EN was set (R179) -/
  ready : Bool := false
  /-- abort hold in force (R170); LIMHOLD after a clock return (R177) -/
  hold : Bool := false
  clkHold : Bool := false
  /-- BURST_GNT held low because the bound port has no clock (R177) -/
  mute : Bool := false
  /-- BURST_GNT and LIMIT_N stay low after a reset until EN is set again (R171) -/
  quiet : Bool := false
  /-- a grant has ended by itself in this frame: REST and GRANTS as they stood before, for a trip in the same frame (R176) -/
  ended : Option (Nat × Nat) := none
  deriving DecidableEq, Repr

/-- A split transaction a translator holds: device address, endpoint, direction (true is IN), whether it has started downstream, and for
a periodic one the upstream frame it came in and its full-speed byte-times. -/
structure TtBuf where
  dev : Nat
  ep : Nat
  inn : Bool
  started : Bool := false
  frame : Nat := 0
  cost : Nat := 0
  deriving DecidableEq, Repr

/-- A downstream port beside its PRT registers (1 to 8 DS1 to DS8). -/
structure HubPort where
  /-- device on the wire: 0 none, 1 low, 2 full, 3 high speed -/
  dev : Nat := 0
  /-- DSn_PWREN (DS5 to DS8) -/
  pwren : Bool := false
  /-- power was asked for and waits for the over-current input to deassert or for P2PG (R188, R190) -/
  want : Bool := false
  /-- non-periodic buffers and periodic pipeline of its translator (R191) -/
  np : List TtBuf := []
  per : List TtBuf := []
  /-- resume K is being driven (R194) -/
  resume : Bool := false
  deriving DecidableEq, Repr

/-- The hub and the audio function beside their registers. -/
structure Hub where
  port : Map HubPort := []
  /-- the control request of function endpoint 0 in progress, as its SETUP packet -/
  setup : Option Nat := none
  /-- endpoint 0 of the function answers STALL until the next SETUP (R196) -/
  stall0 : Bool := false
  /-- bConfigurationValue of the hub and of the function, as last set -/
  cfgVal : Nat := 0
  fnVal : Nat := 0
  /-- DEVICE_REMOTE_WAKEUP of the function -/
  fnWake : Bool := false
  /-- test mode: target port (0 UP) and selector -/
  test : Option (Nat × Nat) := none
  /-- remote-wake K is driven upstream (R193) -/
  kUp : Bool := false
  /-- present feedback value of each feedback slot (R200) -/
  feedback : Map Nat := []
  deriving DecidableEq, Repr

/-- An endpoint context beside its entry. -/
structure Ctx where
  /-- ping state (R228) -/
  ping : Bool := false
  /-- consecutive errors (R229) -/
  errs : Nat := 0
  /-- periodic cost and USB charge it was admitted with (R225, R334) -/
  cost : Nat := 0
  charge : Nat := 0
  /-- its periodic transaction of the present micro-frame is still to start (R226) -/
  due : Bool := false
  /-- a PING has gone out in the present micro-frame (R228) -/
  pinged : Bool := false
  deriving DecidableEq, Repr

/-- A re-steer in progress: 0 none, 1 quiescing, 4 holding, 6 waiting for power (Table 08.1). -/
structure Steer where
  step : Nat := 0
  side : Bool := false
  tenant : Nat := 0
  pcycle : Bool := false
  oldSide : Bool := false
  oldOwner : Nat := 0
  oldParked : Bool := false
  /-- requested by a descriptor -/
  desc : Bool := false
  /-- stops at its next step: the joining tenant was reset (R237) -/
  stop : Bool := false
  deriving DecidableEq, Repr

/-- A local port beside its registers: the port command under way (0 none, 1 reset, 2 suspend, 3 resume, 5 power on),
resume K driven by hardware, and the context whose non-periodic transaction came
last (R227; 127 before the first, so that the turn begins at context 0). -/
structure LocalPort where
  cmd : Nat := 0
  resume : Bool := false
  turn : Nat := 127
  deriving DecidableEq, Repr

/-- The local host engine beside its registers. -/
structure Lhe where
  ctx : Map Ctx := []
  steer : Map Steer := []
  port : Map LocalPort := []
  /-- last local micro-frame launched -/
  frame : Nat := 0
  /-- SUP_XTCOUNT at its boundary; none before the first after EN (R243) -/
  sofAt : Option Nat := none
  /-- LAG has exceeded 1 µs and LHE_SOF_LAG was raised for this excursion -/
  lagging : Bool := false
  deriving DecidableEq, Repr

/-- A serial audio port beside its registers (0 TDMA, 1 TDMB): a bank in progress that its end delivers, the Almanac time of its first
frame sync (R288), on a master the number of that frame (R286), and the mask of slots driven and the bytes of the bank being sent. -/
structure Tdm where
  inBank : Bool := false
  start : Nat := 0
  frame : Nat := 0
  play : Nat × List Byte := (0, [])
  deriving DecidableEq, Repr

/-- A Haywain lane beside its registers (0 to 4 HL0 to HL4, 5 HLY). -/
structure HLane where
  /-- the announcement last heard: key, GMSEQ and HOPS (R366) -/
  heard : Option (Nat × Nat × Nat) := none
  /-- the unit beyond rolls to this one (R367, R368) -/
  child : Bool := false
  /-- next SEQ to send, SEQ expected, and CREDIT last heard (R376, R377) -/
  tx : Nat := 0
  rx : Nat := 0
  credit : Nat := 0
  /-- sequenced bales not yet acknowledged: SEQ, header and payload, and whether it is that of HAY_CTXCMD -/
  unacked : List (Nat × List Byte × Bool) := []
  /-- resends without progress -/
  resends : Nat := 0
  /-- an ACK is to be sent -/
  ackDue : Bool := false
  /-- departure of the DREQ outstanding, in ns, and the delays of the last 8 exchanges, in 1/8 ns, latest first (R380) -/
  dreq : Option Nat := none
  delays : List Int := []
  deriving DecidableEq, Repr

/-- A Haywain flow beside its HAY_FLOW entry. -/
structure Flow where
  owner : Nat := 0
  /-- far unit's flow and payload bytes reserved per micro-frame -/
  farFlow : Nat := 0
  bytes : Nat := 0
  /-- the HAYOPEN waits for its answer -/
  opening : Bool := false
  /-- send flow: SEQ of the next bale -/
  seq : Nat := 0
  /-- receive flow: last SEQ accepted with that bale's length and TS (R374) -/
  ref : Option (Nat × Nat × Nat) := none
  /-- re-reservation: requests sent so far, and the status of the last refusal (R388) -/
  tries : Nat := 0
  last : Nat := 13
  deriving DecidableEq, Repr

/-- A path reservation held at this unit (R372): lanes 0 to 5, 6 being the unit itself; queue 0 where none is needed. -/
structure Resv where
  src : Nat
  dst : Nat
  dflow : Nat
  inLane : Nat
  outLane : Nat
  bytes : Nat
  queue : Nat
  deriving DecidableEq, Repr

/-- Haywain beside its registers. -/
structure Hay where
  flow : Map Flow := []
  lane : Map HLane := []
  /-- route entries: child lane and whether rolled as an alias, one more than which is stored (R368) -/
  route : Map (Nat × Bool) := []
  resv : List Resv := []
  /-- why the unit stays alone: 0 it does not, 1 a REJECT named it, 2 too deep -/
  alone : Nat := 0
  /-- GMSEQ last sent or heard, and per key the newest GMSEQ at the time it went stale (R366) -/
  gmSeq : Nat := 0
  seen : Map Nat := []
  /-- arrival numbers of kept control bales (R378) -/
  rxCount : Nat := 0
  deriving DecidableEq, Repr

/-- The Almanac servo beside its registers (R379 to R383). -/
structure Alm where
  /-- the counter's increment at each edge, in thirds of 2^-32 ns -/
  inc : Nat := 536870912000
  /-- consecutive SYNCs below 4 ns, and above 50 ns -/
  good : Nat := 0
  bad : Nat := 0
  /-- nanoseconds of the step that the next micro-frame boundary takes -/
  step : Nat := 0
  /-- 40 ms or more ahead: AHEAD is being sent -/
  ahead : Bool := false
  deriving DecidableEq, Repr

/-- The yoke beside its registers. -/
structure Yok where
  /-- a claim was made and is not yet confirmed; it was made as WHEEL -/
  claimed : Bool := false
  asWheel : Bool := false
  /-- HBSEQ of the next beat, and whether a valid beat has come since HLY came UP (R404) -/
  hbseq : Nat := 0
  seen : Bool := false
  /-- the last valid beat within 375 µs: whether an LBEAT, its ALIAS and its SIDE (R407) -/
  peer : Option (Bool × Nat × Nat) := none
  /-- a valid LBEAT within 375 µs, counted from when the twin became WHEEL (R405) -/
  fresh : Bool := false
  /-- HANDOVER, GM and GMSEQ of the last valid LBEAT -/
  hand : Bool := false
  gm : Bool := false
  gmSeq : Nat := 0
  /-- full set (R408): the next entry to send, 256 being END and 257 none -/
  next : Nat := 257
  /-- words of each entry as last sent -/
  sent : Map (List Nat) := []
  /-- byte offset of the next segment of the record being sent -/
  recAt : Option Nat := none
  /-- MIRROR bales not acknowledged: MGEN, payload, and 1 for END, 2 for a record's last segment -/
  unacked : List (Nat × List Byte × Nat) := []
  resends : Nat := 0
  /-- mirrored streams that are not IDLE (R413) -/
  live : List Nat := []
  deriving DecidableEq, Repr

/-- A program or an erase on a flash that has not finished. `who` says for whom: 0 a Window W write, 1 a Granary commit,
2 the FLS_CMD erase, 3 an erase-ahead, 4 an erase of a scan, 5 a mailbox command that boot ROM serves. -/
structure FlashJob where
  sel : Nat
  addr : Nat
  /-- the bytes programmed; an erase has none -/
  data : List Byte := []
  erase : Bool := false
  who : Nat := 0
  /-- Granary bank of an erase -/
  bank : Nat := 0
  /-- the command has been sent, and polling goes on -/
  started : Bool := false
  suspended : Bool := false
  deriving DecidableEq, Repr

/-- A steward read of Window D (0) or W (1) that waits for its flash (R434): offset, bytes, and whether it fetches. -/
structure FlashRead where
  win : Nat
  x : Nat
  n : Nat
  fetch : Bool
  deriving DecidableEq, Repr

/-- The flash port beside its registers. -/
structure Fls where
  /-- the run being gathered: select, flash address, bytes (R433) -/
  gather : Option (Nat × Nat × List Byte) := none
  /-- programs and erases in order; the first of each select is the one its flash works on -/
  jobs : List FlashJob := []
  reads : List FlashRead := []
  /-- status of the FLS_CMD erase once it has ended -/
  cmdEnd : Option Status := none
  /-- the FLS_CMD operation that runs: OP and LEN -/
  op : Option (Nat × Nat) := none
  /-- first flash byte of the image that Window D maps (R508) -/
  start : Nat := 0
  /-- NONCE of that image (R430) -/
  nonce : List Byte := []
  deriving DecidableEq, Repr

/-- A commit whose record is being written (R438). -/
structure Commit where
  seq : Nat
  bank : Nat
  /-- offset of the record in its bank, and the record -/
  off : Nat
  bytes : List Byte
  /-- it began a sector, so that an erase-ahead follows -/
  moved : Bool
  deriving DecidableEq, Repr

/-- What a scan found (R440): the selected record's Window W offset, SEQ, FLAGS and LEN; the wear counts; where each bank's next
record goes. -/
structure ScanEnd where
  sel : Option (Nat × Nat × Nat × Nat)
  wearA : Nat
  wearB : Nat
  deriving DecidableEq, Repr

/-- The Granary beside its registers. -/
structure Grn where
  commit : Option Commit := none
  /-- a commit has started since core release, so that spacing may apply -/
  begun : Bool := false
  /-- where the next record of bank A (0) and B (1) goes, as sector and offset in it -/
  next : Map (Nat × Nat) := []
  scan : Option ScanEnd := none
  /-- GRN_WEAR was raised since start-up -/
  wearRaised : Bool := false
  /-- banks whose erase-ahead has ended and is still to be accounted -/
  aheadEnd : List Nat := []
  deriving DecidableEq, Repr

/-- The memories of Table 16.1 outside the pool, and the store merge buffers. -/
structure Ecc where
  /-- steward SRAM, endpoint RAM and the ring partition by word number -/
  sram : Map EccWord := []
  epm : Map EccWord := []
  part : Map EccWord := []
  /-- partition cells whose POISON mark is set -/
  partPoison : List Nat := []
  /-- held store of the path to memory 1 (SRAM), 2 (endpoint RAM), 3 (partition): word number and the low 32 bits (R460) -/
  held : Map (Option (Nat × Nat)) := []
  /-- next word of the fill in progress, and the number of words left -/
  fillAt : Nat := 0
  fillLeft : Nat := 0
  /-- ECC_LAR_UE notice pacing by bank: 0 none, 1 spacing, 2 spacing with a gathered notice -/
  spacing : Map Nat := []
  deriving DecidableEq, Repr

/-- What boot ROM is doing, beside STW_BOOT. -/
inductive Rom where
  /-- it works: start-up or search -/
  | busy
  /-- a steward watchdog reset has been taken: it wipes steward SRAM and checks the image again -/
  | warm
  /-- an image runs -/
  | image
  /-- no image: it serves the mailbox (R509) -/
  | serving
  /-- no image: it repeats its search (R509) -/
  | retrying
  deriving DecidableEq, Repr

/-- The steward core beside its registers. -/
structure Stw where
  rom : Rom := .busy
  /-- latches of sources 40 to 47 (R511) -/
  latch : Nat := 0
  /-- claimed sources -/
  claimed : List Nat := []
  /-- period of the watchdog count in progress, in ms (R514) -/
  period : Nat := 2000
  /-- SUP_XTCOUNT at the last warm restart (R523) -/
  lastWarm : Option Nat := none
  /-- lines of Window D in the instruction cache: offset and bytes (R506) -/
  icache : Map (List Byte) := []
  /-- boot ROM has accepted no image and has not yet acted on it (R509) -/
  failed : Bool := false
  /-- a FLASHWRITE or FLASHERASE whose flash operation runs: the operations left, and whether one was abandoned (R586) -/
  flashCmd : Option (Nat × Bool) := none
  deriving DecidableEq, Repr

/-- Life-cycle states (Table 19.1), as the majority of each fuse group reads. -/
inductive Life where
  | blank | develop | deployed | reclaim | void
  deriving DecidableEq, Repr

/-- A fuse field: what was programmed into it, whether only part of its fuses was, and whether every fuse was blown to retire
it (R525, R529). -/
structure FuseField where
  prog : Bool := false
  partly : Bool := false
  retired : Bool := false
  val : List Byte := []
  deriving DecidableEq, Repr

/-- The one-time-programmable fuses (R525, R526). No reset changes them. (DESIGN CHOICE, log entry 6). -/
structure Fuses where
  life : Life := .blank
  cycle : Nat := 0
  uid : Nat := 0
  root : List Byte := List.replicate 32 0
  rootRetired : Bool := false
  /-- code-key slots and image-key digests by cycle -/
  kdev : Map FuseField := []
  kprod : Map FuseField := []
  imgdig : Map FuseField := []
  unldig : FuseField := {}
  /-- version-floor slots in use -/
  floors : List Nat := []
  deriving DecidableEq, Repr

/-- The volatile key registers and what the life cycle has under way. -/
structure Keys where
  kd : Option (List Byte) := none
  dsk : List Byte := []
  /-- words of LCS_KEYBUF -/
  buf : Map Nat := []
  /-- failed unlocks since the last reset -/
  fails : Nat := 0
  /-- the transition whose fuses are being blown -/
  trans : Option Life := none
  /-- the field being programmed, with the value taken from LCS_KEYBUF -/
  prog : Option (Nat × List Byte) := none
  deriving DecidableEq, Repr

/-- Everything a reset can reach, with the log of what the part has put out. -/
structure Dev where
  /-- register fields by 32 × offset + lowest bit; an unlisted field is at its reset value -/
  fld : Map Nat := []
  /-- the ordering-code fuse: 1 KY-CAM8P, 2 KY-CAM8S (Table 01.9) -/
  code : Nat := 1
  /-- power life -/
  pow : Pow := {}
  /-- timebase and captures -/
  xt : Xt := {}
  /-- buffers of the crossings (Table 02.2) -/
  cross : Crossings := {}
  /-- Larder cells and queues -/
  lar : Larder := {}
  /-- streams beside their STR entries -/
  strm : Map Strm := []
  /-- rings, tickets and vectors -/
  hif : Hif := {}
  /-- function-level resets in progress, by tenant -/
  flr : Map Flr := []
  /-- fault records by unit -/
  urec : Map URec := []
  /-- ALERTA_N (0) and ALERTB_N (1) -/
  alert : Map AlertPin := []
  /-- what the part has put out, latest first -/
  out : List Out := []
  /-- the model's own count of free values used -/
  free : Nat := 0
  /-- the Almanac counter in thirds of 2^-32 ns, in which a grandmaster's increment is whole (R379) -/
  almCnt : Nat := 0
  /-- Almanac servo -/
  alm : Alm := {}
  /-- Type-C ports beside their registers -/
  pd : Map PdPort := []
  /-- charger, power path and cell monitor -/
  pack : Pack := {}
  /-- Ration -/
  rat : Ration := {}
  /-- hub path and audio function -/
  hub : Hub := {}
  /-- local host engine and port steering -/
  lhe : Lhe := {}
  /-- serial audio ports -/
  tdm : Map Tdm := []
  /-- the audio PLL has started (R301) -/
  pllOn : Bool := false
  /-- protected memories -/
  ecc : Ecc := {}
  /-- Haywain fabric -/
  hay : Hay := {}
  /-- yoke -/
  yok : Yok := {}
  /-- steward core -/
  stw : Stw := {}
  /-- contents of the two flashes, byte a of select s at s × 2^32 + a; an erased byte is 0xFF -/
  flash : Map Byte := []
  /-- flash port -/
  fls : Fls := {}
  /-- Granary -/
  grn : Grn := {}
  /-- fuses -/
  fuse : Fuses := {}
  /-- volatile keys and life-cycle requests -/
  key : Keys := {}
  deriving DecidableEq, Repr


/-- The state of the block: the device with its fuses and its flashes, and the commands that wait, first in, first out. -/
structure State where
  dev : Dev := {}
  pending : List Instr := []
  deriving DecidableEq, Repr

/-- Nothing faults in this block: no rule of the spec stops it. -/
inductive Fault where
  /-- never raised by this model; a fault needs a constructor so that the type is a closed inductive with a name (safe) -/
  | none
  deriving DecidableEq, Repr

/-- The reasons for which a command has no meaning. -/
inductive Refusal where
  /-- raised by exec for a command whose meaning is not written; safe -/
  | notModelled (mnemonic : String)
  deriving DecidableEq, Repr

/-- The state after reset: a part of ordering code KY-CAM8P, in life-cycle state BLANK, held in the power-on reset before
start-up step 1 ends (R76, R91), with nothing waiting. (DESIGN CHOICE, log entries 2, 6, 73). -/
def State.reset : State := {}

end Sys2Proof.Machine
end

