-- ==== Sys2Proof/Machine/Ops.lean ====
section
/-!
DEFINITION. The named operations over registers, cells, queues and events that the meanings of all families share.
-/
namespace Sys2Proof.Machine

open Sys2Proof

/-! ### Register fields -/

/-- The key of a field in `Dev.fld`. -/
def fldId (f : Fld) : Nat := 32 * f.key + f.lo

/-- The value of a register field. -/
def Dev.get (d : Dev) (f : Fld) : Nat := mapGet f.rst d.fld (fldId f)

/-- A one-bit field as a Bool. -/
def Dev.is (d : Dev) (f : Fld) : Bool := d.get f == 1

/-- Gives a register field a value; bits beyond its width are dropped. -/
def Dev.set (d : Dev) (f : Fld) (v : Nat) : Dev :=
  { d with fld := if d.get f = v % 2 ^ f.w then d.fld else mapPut f.rst d.fld (fldId f) (v % 2 ^ f.w) }

/-- Sets or clears a one-bit field. -/
def Dev.setB (d : Dev) (f : Fld) (b : Bool) : Dev := d.set f (bitNat b)

/-- Raises a count field by one, saturating at all ones. -/
def Dev.bump (d : Dev) (f : Fld) : Dev := d.set f (satInc (2 ^ f.w - 1) (d.get f))

/-- Bit `i` of a field. -/
def Dev.bit (d : Dev) (f : Fld) (i : Nat) : Bool := bitOf (d.get f) i

/-- Writes bit `i` of a field. -/
def Dev.setBit (d : Dev) (f : Fld) (i : Nat) (b : Bool) : Dev :=
  if d.bit f i = b then d else if b then d.set f (d.get f + 2 ^ i) else d.set f (d.get f - 2 ^ i)

/-- The one-bit field at bit `n` of the register at `key`, for interrupt registers whose bits are events. -/
def bitFld (key n : Nat) : Fld := ⟨key, n, 1, 0⟩

/-- Restores every field of the registers in [`lo`, `hi`) to its reset value. -/
def Dev.resetRange (d : Dev) (lo hi : Nat) : Dev := { d with fld := mapDropRange d.fld (32 * lo) (32 * hi) }

/-- Puts something out. (DESIGN CHOICE, log entry 7). -/
def Dev.emit (d : Dev) (kind : OutKind) (unit : Nat) (args : List Nat) (data : List Byte) : Dev :=
  { d with out := ⟨kind, unit, args, data⟩ :: d.out }

/-- Register offset of entry `i` of a row in a space, as the key of its fields. -/
def rowKey (sp : Space) (row : RegRow) (i : Nat) : Nat :=
  (match sp with | .bar0 => 0 | .page t => 0x20000 + 0x2000 * t.val) + row.base + row.stride * i

/-- The descriptor of one field of entry `i` of a row. -/
def rowFld (sp : Space) (row : RegRow) (i : Nat) (f : FldRow) : Fld :=
  ⟨rowKey sp row i, f.lo, f.w, f.rst (match sp with | .bar0 => i | .page t => t.val)⟩

/-! ### Power and reset states seen by every block -/

/-- The core is released, so that blocks other than the supervisor act. -/
def Dev.up (d : Dev) : Bool := d.pow.state == .run || d.pow.state == .doze

/-- Register writes are accepted (R29). -/
def Dev.regsOpen (d : Dev) : Bool := d.up

/-- The PHYs are held: low core voltage, crystal loss or not yet qualified, a failed self-test, a part in VOID, or shutdown
stage S4 (R66, R67, R49, R53, R89, R543, R71). -/
def Dev.phyHeld (d : Dev) : Bool :=
  d.is F.SUP_STAT_PHYHOLD || d.is F.SUP_XTSTAT_BACKUP || d.pow.state == .stuck || d.fuse.life == .void || d.get F.SUP_STAT_STAGE == 4

/-- The core is released: start-up step 4 has come. -/
def Dev.coreOn (d : Dev) : Bool :=
  d.pow.state == .released || d.pow.state == .tested || d.pow.state == .run || d.pow.state == .doze || d.pow.state == .stuck

/-- The PCI Express PHY does not drive. It runs from its own reference clock, so that the loss of the 24 MHz crystal does not hold it
(R49, R67); after a failed self-test and in VOID it still answers configuration requests (R89, R543). -/
def Dev.pcieHeld (d : Dev) : Bool := d.is F.SUP_STAT_PHYHOLD || d.get F.SUP_STAT_STAGE == 4

/-- Steward firmware runs (Table 01.7). -/
def Dev.stewardRuns (d : Dev) : Bool := d.stw.rom == .image

/-- Leaves DOZE for RUN (R61). -/
def Dev.rouse (d : Dev) : Dev := if d.pow.state = .doze then { d with pow := { d.pow with state := .run } } else d

/-- An access by requester `who`, 1 being one over PCI Express, which ends DOZE (R61). -/
def Dev.accessBy (d : Dev) (who : Nat) : Dev := if who = 1 then d.rouse else d

/-- PCI Express configuration requests are served: not before LOCK with T0HOST 0, nor in the failure loop, nor in VOID (R19,
R89, R543). -/
def Dev.cfgServed (d : Dev) : Bool :=
  d.code == 1 && d.is F.GLB_CTRL_LOCK && !d.is F.GLB_CTRL_T0HOST && d.pow.state != .stuck && d.fuse.life != .void

/-- T000 is hosted by the steward: the selection is in effect from GLB_CTRL.LOCK on (R18). -/
def Dev.stewardHost (d : Dev) : Bool :=
  (d.is F.GLB_CTRL_LOCK && d.is F.GLB_CTRL_T0HOST) || d.code == 2

/-- Tenant `t` exists (R331). -/
def Dev.tenantExists (d : Dev) (t : Nat) : Bool := d.is (F.TEN_GSTAT_EXISTS t)

/-- Unit `u` is fenced (Table 17.2). -/
def Dev.unitFenced (d : Dev) (u : Nat) : Bool := (mapGet {} d.urec u).fenced

/-- Every tenant that exists, in ascending order. -/
def Dev.tenants (d : Dev) : List Nat := (List.range 256).filter d.tenantExists

/-- Almanac time in nanoseconds (64 bits). -/
def Dev.almTime (d : Dev) : Nat := d.almCnt / (3 * 2 ^ 32) % 2 ^ 64

/-- Almanac time in nanoseconds without a wrap. -/
def Dev.almNs (d : Dev) : Nat := d.almCnt / (3 * 2 ^ 32)

/-- `n` edges of the 24 MHz count pass: SUP_XTCOUNT counts them, and the Almanac counter runs on them at its rate unless it is paused
(R16, R38, R379, R383). (DEDUCED, log entry 56). -/
def Dev.edges (d : Dev) (n : Nat) : Dev :=
  { d with xt := { d.xt with count := (d.xt.count + n) % 2 ^ 64 }
           almCnt := if d.is F.ALM_STAT_PAUSED then d.almCnt else d.almCnt + n * d.alm.inc }

/-- The count stands at `c` or later. -/
def Dev.edgesTo (d : Dev) (c : Nat) : Dev := d.edges (c - d.xt.count)

/-- The edge, counted from now and negative where it has passed, at which Almanac time is first `ns` nanoseconds. -/
def Dev.edgeOf (d : Dev) (ns : Nat) : Int :=
  let gap : Int := (ns * (3 * 2 ^ 32) : Nat) - (d.almCnt : Int)
  (gap + (d.alm.inc : Int) - 1) / (d.alm.inc : Int)

/-! ### The steward's interrupt (Table 18.3) -/

/-- Interrupt registers of the block whose ID is the source number (Table 11.10); STW_SUPEV for source 1. -/
def intRegs (n : Nat) : List Nat :=
  match n with
  | 1 => [0x16020] | 2 => [0x2028, 0x2228, 0x2428, 0x2628, 0x2828] | 3 => [0x3020] | 4 => [0x3868] | 5 => [0x3C58] | 6 => [0x400C]
  | 8 => [0x5008] | 11 => [0x5A1C] | 13 => [0xC014, 0xC054] | 14 => [0xD008] | 15 => [0xE004] | 16 => [0xF010] | 17 => [0x1000C]
  | 18 => [0x1100C] | 19 => [0x12054] | 20 => [0x1302C] | 21 => [0x14008] | 22 => [0x15004] | 25 => [0x170C0] | _ => []

/-- Some bit of the register at an offset is set; interrupt registers reset to 0. -/
def Dev.anySet (d : Dev) (off : Nat) : Bool := d.fld.any fun e => e.1 / 32 == off

/-- The source is pending (Table 18.3). -/
def Dev.srcPending (d : Dev) (n : Nat) : Bool :=
  if n ≤ 25 then (intRegs n).any d.anySet
  else if n = 32 then d.is F.STW_INT_MBCMD
  else if n = 33 then d.is F.STW_INT_MBACK
  else if n = 34 then d.is F.STW_INT_WDTWARN
  else 40 ≤ n && n ≤ 47 && d.stewardHost && bitOf d.stw.latch (n - 40)

/-- The source may be returned by STW_ICCLAIM. -/
def Dev.srcQualifies (d : Dev) (n : Nat) : Bool :=
  d.srcPending n && !d.stw.claimed.contains n && decide (d.get F.STW_ICTHRESH_THRESH < d.get (F.STW_ICPRIO_PRIO n))

/-- The interrupt output of the controller is asserted: some source would be returned by STW_ICCLAIM. -/
def Dev.stewardIrq (d : Dev) : Bool := (List.range 48).any d.srcQualifies

/-- STW_MTIMECMP. -/
def Dev.mtimecmp (d : Dev) : Nat := d.get F.STW_MTIMECMPL_CMP + 2 ^ 32 * d.get F.STW_MTIMECMPH_CMP

/-- The machine timer interrupt is pending (R513). -/
def Dev.mtip (d : Dev) : Bool := decide (d.mtimecmp ≤ d.xt.count)

/-- What wakes the steward, and the device from DOZE (R522). -/
def Dev.stewardWake (d : Dev) : Bool := d.stewardIrq || d.mtip

/-- DOZE ends where the steward is woken (R61, R522). -/
def Dev.wakeSteward (d : Dev) : Dev := if d.stewardWake then d.rouse else d

/-! ### Bytes in arrays of word registers -/

/-- Replaces byte `i` of an array of 32-bit data words. -/
def Dev.putByte (d : Dev) (arr : Nat → Fld) (i : Nat) (b : Byte) : Dev :=
  let v := d.get (arr (i / 4))
  d.set (arr (i / 4)) (v - bits v (8 * (i % 4)) 8 * 2 ^ (8 * (i % 4)) + b.toNat * 2 ^ (8 * (i % 4)))

/-- Writes bytes into an array of data words from byte `i` on. -/
def Dev.putBytes (d : Dev) (arr : Nat → Fld) : Nat → List Byte → Dev
  | _, [] => d
  | i, b :: t => (d.putByte arr i b).putBytes arr (i + 1) t

/-- The first `n` bytes of an array of data words. -/
def Dev.getBytes (d : Dev) (arr : Nat → Fld) (n : Nat) : List Byte :=
  (List.range n).map fun i => BitVec.ofNat 8 (bits (d.get (arr (i / 4))) (8 * (i % 4)) 8)

/-! ### Larder cells (R246 to R250, R272) -/

def Dev.bankFenced (d : Dev) (b : Nat) : Bool := d.bit F.LAR_FENCED_FENCED b

/-- The free intervals of a bank; at reset all 4,096 cells are free. -/
def Dev.bankFree (d : Dev) (b : Nat) : List (Nat × Nat) := mapGet [(0, 4096)] d.lar.banks b

def spanCells : List (Nat × Nat) → Nat
  | [] => 0
  | (lo, hi) :: t => (hi - lo) + spanCells t

/-- Free cells of a bank from which cells may be allocated. -/
def Dev.bankCount (d : Dev) (b : Nat) : Nat := if d.bankFenced b then 0 else spanCells (d.bankFree b)

/-- Of the banks below `n`, the one with the most free cells, the lowest on a tie (R247), with its count. -/
def pickBank (count : Nat → Nat) : Nat → Nat × Nat
  | 0 => (0, 0)
  | n + 1 =>
    let p := pickBank count n
    if p.2 < count n then (n, count n) else p

/-- Cells in the free pool (LAR_FREE). -/
def Dev.freePool (d : Dev) : Nat := ((List.range 16).map d.bankCount).foldl (· + ·) 0

def Dev.setBank (d : Dev) (b : Nat) (l : List (Nat × Nat)) : Dev :=
  { d with lar := { d.lar with banks := mapPut [(0, 4096)] d.lar.banks b l } }

/-- The number of 1 bits of a syndrome. -/
def synWeight (s : Nat) : Nat := ((List.range 8).map fun i => bits s i 1).foldl (· + ·) 0

/-- The class of a read by its syndrome (R456): 0 CLEAN, 1 CORRECTED, 2 WIPE, 3 UE. The syndromes that injection and the
wipe produce are 0, 0x03, one bit, or of even weight (R467, R479). -/
def eccClass (s : Nat) : Nat := if s = 0 then 0 else if s = 3 then 2 else if synWeight s = 1 then 1 else 3

/-- How many of `n` words written to injection target `g` are stored with ECC_INJ.MASK (R467). -/
def Dev.injects (d : Dev) (g n : Nat) : Nat :=
  if d.is F.ECC_INJ_ARM && d.get F.ECC_INJ_TARGET == g then min n (d.get F.ECC_INJ_COUNT) else 0

/-- `k` writes took their check bits from the injection; at COUNT 0 ARM clears (R467). -/
def Dev.injUse (d : Dev) (k : Nat) : Dev :=
  if k = 0 then d
  else
    let d1 := d.set F.ECC_INJ_COUNT (d.get F.ECC_INJ_COUNT - k)
    if d.get F.ECC_INJ_COUNT ≤ k then d1.set F.ECC_INJ_ARM 0 else d1

/-- Writes the link entry of a cell. (DEDUCED, log entry 42). -/
def Dev.linkWrite (d : Dev) (c : Nat) : Dev :=
  let k := d.injects 16 1
  let s := if k = 0 then 0 else d.get F.ECC_INJ_MASK
  let d1 := d.injUse k
  if mapGet 0 d1.lar.link c = s then d1 else { d1 with lar := { d1.lar with link := mapPut 0 d1.lar.link c s } }

/-- Takes a bank's free list out of use: its cells leak (R276). -/
def Dev.leakBank (d : Dev) (b : Nat) : Dev :=
  let n := spanCells (d.bankFree b)
  let d1 := (d.setBank b []).set F.LAR_LEAK_COUNT (d.get F.LAR_LEAK_COUNT + n)
  { d1 with lar := { d1.lar with due := d1.lar.due ++ [.leak b] } }

/-- Takes one cell from the free pool (R247), passing over banks whose free list cannot be read (R276). The number bounds
how many banks are tried. -/
def Dev.takeCell (d : Dev) : Nat → Option (Nat × Dev)
  | 0 => none
  | n + 1 =>
    let p := pickBank d.bankCount 16
    if p.2 = 0 then none
    else match d.bankFree p.1 with
      | [] => none
      | (lo, hi) :: t =>
        let c := 4096 * p.1 + lo
        match eccClass (mapGet 0 d.lar.link c) with
        | 0 => some (c, (d.setBank p.1 (if lo + 1 < hi then (lo + 1, hi) :: t else t)).linkWrite c)
        | 1 =>
          let d1 := (d.setBank p.1 (if lo + 1 < hi then (lo + 1, hi) :: t else t)).linkWrite c
          some (c, { d1 with lar := { d1.lar with due := d1.lar.due ++ [.corrected p.1] } })
        | _ => (d.leakBank p.1).takeCell n

/-- Takes the cells of an item one by one (R247). -/
def Dev.takeCells (d : Dev) : Nat → Option (List Nat × Dev)
  | 0 => some ([], d)
  | k + 1 =>
    match d.takeCell 17 with
    | none => none
    | some (c, d') =>
      match d'.takeCells k with
      | none => none
      | some (l, d'') => some (c :: l, d'')

/-- Returns one cell, wiped, to its bank's free list. -/
def Dev.giveCell (d : Dev) (c : Nat) : Dev :=
  (d.setBank (c / 4096) (d.bankFree (c / 4096) ++ [(c % 4096, c % 4096 + 1)])).linkWrite c

def Dev.giveCells (d : Dev) (l : List Nat) : Dev := l.foldl Dev.giveCell d

/-- Cells charged to an owner (256 is the device). -/
def Dev.charge (d : Dev) (o : Nat) : Nat := mapGet 0 d.lar.charge o

def Dev.setCharge (d : Dev) (o n : Nat) : Dev := { d with lar := { d.lar with charge := mapPut 0 d.lar.charge o n } }

/-- The guaranteed cells of an owner: MIN of a tenant, DEVRES of the device. -/
def Dev.minCells (d : Dev) (o : Nat) : Nat :=
  if o = 256 then 16 * d.get F.LAR_CTRL_DEVRES else 16 * d.get (F.LAR_QUOTA_MIN o)

/-- The sum over the owners below `n`, other than `o`, of the unused part of their guarantee. -/
def Dev.unusedMin (d : Dev) (o : Nat) : Nat → Nat
  | 0 => 0
  | n + 1 => (if n = o then 0 else d.minCells n - d.charge n) + d.unusedMin o n

/-- An allocation of `k` cells for owner `o` is allowed (R250). -/
def Dev.quotaOk (d : Dev) (o k : Nat) : Bool :=
  decide (d.charge o + k ≤ d.minCells o) ||
  ((o == 256 || decide (d.charge o + k ≤ 16 * d.get (F.LAR_QUOTA_MAX o))) &&
    decide (k + d.unusedMin o 257 ≤ d.freePool))

/-! ### Queues (R253 to R255) -/

def Dev.items (d : Dev) (q : Nat) : List Item := mapGet [] d.lar.queues q

def Dev.setItems (d : Dev) (q : Nat) (l : List Item) : Dev :=
  { d with lar := { d.lar with queues := mapPut [] d.lar.queues q l } }

def cellsOf (l : List Item) : Nat := (l.map fun i => i.cells.length).foldl (· + ·) 0

def bytesOf (l : List Item) : Nat := (l.map fun i => i.data.length).foldl (· + ·) 0

/-- Cells held by a queue (QUE W1.CELLS). -/
def Dev.qCells (d : Dev) (q : Nat) : Nat := cellsOf (d.items q)

/-- Owner of a queue: a tenant, or 256 for the device. -/
def Dev.qOwner (d : Dev) (q : Nat) : Nat := d.get (F.QUE_W0_OWNER q)

def Dev.stream (d : Dev) (s : Nat) : Strm := mapGet {} d.strm s

def Dev.setStream (d : Dev) (s : Nat) (x : Strm) : Dev := { d with strm := mapPut {} d.strm s x }

/-- The read position a sink is left with when bytes [`off`, `off + len`) leave the queue. -/
def SinkPos.dropBytes (p : SinkPos) (off len : Nat) : SinkPos :=
  let pos := if off + len ≤ p.pos then p.pos - len else if off < p.pos then off else p.pos
  { p with pos := pos, counted := p.counted && !(decide (off < p.pos) && decide (p.pos < off + len)) }

/-- Every sink position of a stream after bytes leave its queue. -/
def Strm.dropBytes (x : Strm) (off len : Nat) : Strm := { x with sinks := x.sinks.map fun e => (e.1, e.2.dropBytes off len) }

/-- Item `j` of a queue is pinned: a sink is sending a packet that uses it (R255). Cells that every sink has passed are gone from the
item's head. -/
def Dev.pinned (d : Dev) (q j : Nat) : Bool :=
  let off := bytesOf ((d.items q).take j)
  let len := bytesOf (((d.items q).drop j).take 1)
  let begun := j == 0 && ((d.items q)[0]?.map fun it => decide (0 < it.skip)).getD false
  (512 ≤ q && q < 768) && (d.stream (q - 512)).sinks.any fun e =>
    decide (0 < e.2.cur) && (decide (off < e.2.pos) || begun && e.2.pos == 0) && decide (e.2.pos < off + len + e.2.cur)

/-- Removes item `j` of a queue: its cells go back, its owner's charge falls, and the sinks' positions follow. -/
def Dev.removeItem (d : Dev) (q j : Nat) : Dev :=
  match (d.items q)[j]? with
  | none => d
  | some it =>
    let off := bytesOf ((d.items q).take j)
    let d1 := (d.setItems q ((d.items q).eraseIdx j)).giveCells it.cells
    let d2 := d1.setCharge (d.qOwner q) (d.charge (d.qOwner q) - it.cells.length)
    if 512 ≤ q && q < 768 then d2.setStream (q - 512) ((d2.stream (q - 512)).dropBytes off it.data.length) else d2

/-- Empties a queue, giving its cells back (flush, fence and reset of a queue). -/
def Dev.emptyQueue (d : Dev) (q : Nat) : Dev :=
  let l := d.items q
  let d1 := (d.setItems q []).giveCells (l.foldl (fun a i => a ++ i.cells) [])
  d1.setCharge (d.qOwner q) (d.charge (d.qOwner q) - cellsOf l)

/-- Frees the first cell of the item at a queue's head. -/
def Dev.dropHeadCell (d : Dev) (q : Nat) : Dev :=
  match d.items q with
  | [] => d
  | it :: rest =>
    match it.cells with
    | [] => d.setItems q rest
    | c :: cs =>
      let n := min 64 it.data.length
      let it' := { it with cells := cs, data := it.data.drop n, skip := it.skip + n, poison := it.poison.filter (· != c),
                           bad := it.bad.filter fun e => e.1 != c }
      let d1 := (d.setItems q (if cs = [] then rest else it' :: rest)).giveCell c
      let d2 := d1.setCharge (d.qOwner q) (d.charge (d.qOwner q) - 1)
      if 512 ≤ q && q < 768 then d2.setStream (q - 512) ((d2.stream (q - 512)).dropBytes 0 n) else d2

/-- Frees the cells at the head of a queue that lie whole before byte `m`; the number bounds the cells freed. -/
def Dev.trimTo (d : Dev) (q m : Nat) : Nat → Dev
  | 0 => d
  | n + 1 =>
    match d.items q with
    | [] => d
    | it :: _ =>
      let k := min 64 it.data.length
      if 0 < k && k ≤ m then (d.dropHeadCell q).trimTo q (m - k) n else d

/-- An item of `k` cells fits the queue now (R254). -/
def Dev.fits (d : Dev) (q k : Nat) : Bool :=
  decide (d.qCells q + k ≤ d.get (F.QUE_W0_DEPTH q)) && d.quotaOk (d.qOwner q) k

/-- The item a mode frees next, for an arriving item of priority `prio` (Table 09.2): in live mode the oldest unpinned,
in priority mode the newest unpinned among those of the lowest priority below `prio`. -/
def Dev.victim (d : Dev) (q prio : Nat) : Option Nat :=
  let cand := (List.range (d.items q).length).filter fun j => !d.pinned q j
  match d.get (F.QUE_W0_MODE q) with
  | 1 => cand.head?
  | 2 =>
    let pr := fun j => ((d.items q)[j]?.map Item.prio).getD 8
    let low := cand.filter fun j => decide (pr j < prio)
    let m := (low.map pr).foldl min 8
    (low.filter fun j => pr j == m).getLast?
  | _ => none

/-- Frees items as the mode allows until `k` cells fit; none where freeing every item would not make room (R255).
The number is that of the items freed. -/
def Dev.makeRoom (d : Dev) (q k prio : Nat) : Nat → Option (Dev × Nat)
  | 0 => if d.fits q k then some (d, 0) else none
  | n + 1 =>
    if d.fits q k then some (d, 0)
    else match d.victim q prio with
      | none => none
      | some j =>
        match (d.removeItem q j).makeRoom q k prio n with
        | none => none
        | some (d', m) => some (d', m + 1)

/-- Leaves something to the end of the command. -/
def Dev.owe (d : Dev) (l : List Due) : Dev := { d with lar := { d.lar with due := d.lar.due ++ l } }

/-- A fault event left to the end of the command. -/
def Dev.oweFault (d : Dev) (u src : Nat) : Dev := d.owe [.fault u src]

/-- Counts `n` lost items of a queue: LOST saturates and sets LOSTSAT (R254), an event queue owes its tenant LOSTEV (R319), and `l` is left
to the end of the command. -/
def Dev.countLostAs (d : Dev) (q n : Nat) (l : List Due) : Dev :=
  if n = 0 then d else
    let c := d.get (F.QUE_W2_LOST q) + n
    let d1 := if c < 2 ^ 32 - 1 then d.set (F.QUE_W2_LOST q) c
      else (d.set (F.QUE_W2_LOST q) (2 ^ 32 - 1)).set (F.QUE_W1_LOSTSAT q) 1
    let d2 := d1.owe l
    if q < 256 then { d2 with lar := { d2.lar with lostEv := mapPut false d2.lar.lostEv q true } } else d2

/-- Lost items, each an occurrence of source 25. (DEDUCED, log entry 42). -/
def Dev.countLost (d : Dev) (q n : Nat) : Dev := d.countLostAs q n (List.replicate n (.lost q))

/-- The link entry of cell `ci` of item `j` cannot be read (R276): what is reachable from the head is freed, the rest leaks,
and the owner's charge falls by the whole queue. A device queue counts the items freed in LOST (R484). -/
def Dev.linkBreak (d : Dev) (q j ci : Nat) : Dev :=
  let l := d.items q
  let mine := ((l[j]?).map Item.cells).getD []
  let reach := (l.take j).foldl (fun a i => a ++ i.cells) [] ++ mine.take (ci + 1)
  let d1 := (d.setItems q []).giveCells reach
  let d2 := d1.setCharge (d.qOwner q) (d.charge (d.qOwner q) - cellsOf l)
  let d3 := d2.set F.LAR_LEAK_COUNT (d2.get F.LAR_LEAK_COUNT + (cellsOf l - reach.length))
  if 512 ≤ q && q < 768 then
    let x := d3.stream (q - 512)
    (d3.setStream (q - 512) { x with sinks := x.sinks.map fun e => (e.1, { e.2 with pos := 0, cur := 0, counted := false }) }).owe [.link q]
  else
    let n := if mine.length ≤ ci + 1 then j + 1 else j
    (d3.countLostAs q n [.note q 0]).owe [.link q]

/-- Walks the link entries of item `j` as its cells are read: corrected ones fill their bank's bucket; answers the first cell
whose entry cannot be read. -/
def Dev.linkRead (d : Dev) (q j : Nat) : Dev × Option Nat :=
  let cs := (((d.items q)[j]?).map Item.cells).getD []
  let cls := cs.map fun c => eccClass (mapGet 0 d.lar.link c)
  let d1 := d.owe ((cs.filter fun c => eccClass (mapGet 0 d.lar.link c) == 1).map fun c => Due.corrected (c / 4096))
  (d1, cls.findIdx? (2 ≤ ·))

/-- The words of cell `c` with `fill` bytes that injection spoils as they are written (R248, R467). -/
def Dev.storeCell (d : Dev) (c fill : Nat) : Dev × List (Nat × Nat × Nat) :=
  let k := d.injects (c / 4096) (ceilDiv fill 8)
  (d.injUse k, (List.range k).map fun w => (c, w, d.get F.ECC_INJ_MASK))

/-- Writes the cells of an item of `len` bytes. -/
def Dev.storeCells (d : Dev) : List Nat → Nat → Dev × List (Nat × Nat × Nat)
  | [], _ => (d, [])
  | c :: t, len =>
    let p := d.storeCell c (min 64 len)
    let r := p.1.storeCells t (len - 64)
    (r.1, p.2 ++ r.2)

/-- The first bank whose free list cannot be read as `k` cells are taken (R276). -/
def Dev.badBank (d : Dev) : Nat → Option Nat
  | 0 => none
  | k + 1 =>
    let p := pickBank d.bankCount 16
    match d.bankFree p.1 with
    | [] => none
    | (lo, hi) :: t =>
      if p.2 = 0 then none
      else if 2 ≤ eccClass (mapGet 0 d.lar.link (4096 * p.1 + lo)) then some p.1
      else (d.setBank p.1 (if lo + 1 < hi then (lo + 1, hi) :: t else t)).badBank k

/-- Puts an item of `k` cells at the end of a queue that has room for it; `bad` says which of its cells come poisoned. -/
def Dev.putItem (d : Dev) (q k : Nat) (data : List Byte) (prio stamp : Nat) (bad : Nat → Bool) : Option Dev :=
  match d.takeCells k with
  | none => none
  | some (cs, d2) =>
    let w := d2.storeCells cs data.length
    let it : Item := ⟨cs, data, prio, stamp, ((List.range k).filter bad).map (cs.getD · 0), 0, w.2⟩
    some ((w.1.setItems q (w.1.items q ++ [it])).setCharge (d.qOwner q) (w.1.charge (d.qOwner q) + k))

/-- Queues an item: allocated whole or not at all (R247), by the queue's mode when full (R254, R255). A free list that cannot be read
leaks, and the allocation is made anew from the other banks under R250 (R276); the first number bounds how often, and the second
is that of the items freed before. Answers the number of items lost, the arriving one included; losses are counted. -/
def Dev.enqueueN (q : Nat) (data : List Byte) (prio stamp : Nat) (bad : Nat → Bool) : Nat → Dev → Nat → Dev × Nat
  | 0, d, m => (d.countLost q (m + 1), m + 1)
  | f + 1, d, m =>
    let k := max 1 (ceilDiv data.length 64)
    match d.makeRoom q k prio (d.items q).length with
    | none => (d.countLost q (m + 1), m + 1)
    | some (d1, n) =>
      match d1.badBank k with
      | some b => Dev.enqueueN q data prio stamp bad f (d1.leakBank b) (m + n)
      | none =>
        match d1.putItem q k data prio stamp bad with
        | none => (d1.countLost q (m + n + 1), m + n + 1)
        | some d2 => (d2.countLost q (m + n), m + n)

/-- Queues an item of which the cells that `bad` names come poisoned (R265). -/
def Dev.enqueueAs (d : Dev) (q : Nat) (data : List Byte) (prio stamp : Nat) (bad : Nat → Bool) : Dev × Nat :=
  Dev.enqueueN q data prio stamp bad 17 d 0

/-- Queues an item, poisoned whole or not. -/
def Dev.enqueue (d : Dev) (q : Nat) (data : List Byte) (prio stamp : Nat) (poisonAll : Bool) : Dev × Nat :=
  d.enqueueAs q data prio stamp fun _ => poisonAll

/-! ### Events (R318, R319) -/

/-- The 16 bytes of an event entry with PHASE and LOSTEV 0 (Table 11.9). -/
def eventBytes (code inst arg count time : Nat) : List Byte :=
  leBytes 4 code ++ leBytes 4 (inst % 2 ^ 16 + 2 ^ 16 * (arg % 2 ^ 16)) ++ leBytes 4 count ++ leBytes 4 time

/-- PRIO of an event's item: 6 for SUP, FLT and HIF events, 3 for all others (R319). -/
def eventPrio (code : Nat) : Nat :=
  if code / 256 = 0x01 ∨ code / 256 = 0x16 ∨ code / 256 = 0x0E then 6 else 3

/-- Puts an event in the event queue of tenant `t`. While that queue is fenced the event is discarded and LOSTEV marks
the next one (R484). (DEDUCED, log entry 42). -/
def Dev.notify (d : Dev) (t code inst arg count : Nat) : Dev :=
  if !d.tenantExists t then d
  else if d.lar.qFenced.contains t then
    { d with lar := { d.lar with lostEv := mapPut false d.lar.lostEv t true } }
  else (d.enqueue t (eventBytes code inst arg count (d.almTime % 2 ^ 32)) (eventPrio code) 0 false).1

/-- Puts an event in the event queues of several tenants. -/
def Dev.notifyAll (d : Dev) (ts : List Nat) (code inst arg count : Nat) : Dev :=
  ts.foldl (fun d t => d.notify t code inst arg count) d

/-- Raises an event: its interrupt bit, and the event rings of `ts`. -/
def Dev.raise (d : Dev) (int : Fld) (code : Nat) (ts : List Nat) (inst arg count : Nat) : Dev :=
  (d.set int 1).notifyAll ts code inst arg count

/-- Tenant list with T000 first and no repeats: an owner that is T000 receives one copy (R487). -/
def withT000 (ts : List Nat) : List Nat := 0 :: ts.filter (· != 0)

/-! ### Rejected register accesses (R6, R8, R9, R31) -/

/-- Records a rejection in GLB_CFGERR. -/
def Dev.recordGlb (d : Dev) (off : Nat) (st : Status) : Dev :=
  if d.is F.GLB_CFGERR_VALID then d.set F.GLB_CFGERR_MULTI 1
  else ((d.set F.GLB_CFGERR_VALID 1).set F.GLB_CFGERR_OFFSET off).set F.GLB_CFGERR_CODE (statusCode st)

/-- Records a rejection in TEN_CFGERR of tenant `t`. -/
def Dev.recordTen (d : Dev) (t off : Nat) (st : Status) : Dev :=
  if d.is (F.TEN_CFGERR_VALID t) then d.set (F.TEN_CFGERR_MULTI t) 1
  else ((d.set (F.TEN_CFGERR_VALID t) 1).set (F.TEN_CFGERR_OFFSET t) off).set (F.TEN_CFGERR_CODE t) (statusCode st)

/-! ### Writing a register (R6, R7, R8, R583) -/

/-- Field `f` of the word written. -/
def wordFld (w : Word) (f : FldRow) : Nat := bits w.toNat f.lo f.w

/-- The word sets a bit that no field of the row covers. -/
def setsReserved (row : RegRow) (w : Word) : Bool :=
  decide (w.toNat ≠ (row.fields.map fun f => wordFld w f * 2 ^ f.lo).foldl (· + ·) 0)

/-- The word changes a field that is locked (R583). -/
def Dev.changesLocked (d : Dev) (sp : Space) (row : RegRow) (i : Nat) (w : Word) : Bool :=
  match row.lock with
  | none => false
  | some l => d.is l && row.fields.any fun f => f.acc == .rwl && wordFld w f != d.get (rowFld sp row i f)

/-- One field of a write that passed its checks. (DEDUCED, log entry 12). -/
def Dev.writeFld (d : Dev) (sp : Space) (row : RegRow) (i : Nat) (w : Word) (f : FldRow) : Dev :=
  let fd := rowFld sp row i f
  match f.acc with
  | .rw | .rwl => d.set fd (wordFld w f)
  | .w1c => d.set fd (d.get fd &&& (2 ^ f.w - 1 - wordFld w f))
  | .w1s => d.set fd (d.get fd ||| wordFld w f)
  | .ro | .wo => d

/-- Applies a write field by field. -/
def Dev.writeRow (d : Dev) (sp : Space) (row : RegRow) (i : Nat) (w : Word) : Dev :=
  row.fields.foldl (fun d f => d.writeFld sp row i w f) d

/-- A row whose every field is RO: a write has no effect and is not recorded (Table 00.3). -/
def allRo (row : RegRow) : Bool := row.fields.all fun f => f.acc == .ro

/-- What a read of a register returns, WO fields reading 0. -/
def Dev.readRow (d : Dev) (sp : Space) (row : RegRow) (i : Nat) : Nat :=
  (row.fields.map fun f => if f.acc == .wo then 0 else d.get (rowFld sp row i f) * 2 ^ f.lo).foldl (· + ·) 0

end Sys2Proof.Machine
end

