-- ==== Sys2Proof/Machine/Crossing.lean ====
section
/-!
DEFINITION. The crossings between the clocked sides and the core (chapter 02): what each buffer holds, how its flags stand, who owns a
ping-pong bank, and how whole items pass.
-/
namespace Sys2Proof.Machine

open Sys2Proof

/-! ### The buffers of Table 02.2 -/

/-- The crossing passes its data through two banks rather than a FIFO. -/
def pingPong (n : Nat) : Bool := n ≤ 8 || n == 21 || n == 22

/-- Bytes of one bank of a ping-pong crossing. -/
def bankBytes (n : Nat) : Nat := if n ≤ 8 then 3072 else 512

/-- Entries of a FIFO, `inn` saying the inbound one. -/
def fifoDepth (n : Nat) (inn : Bool) : Nat :=
  if n ≤ 13 then 64 else if n ≤ 19 then 256 else if n = 20 then 512 else if n = 23 then (if inn then 64 else 32) else 32

/-- Bytes of one entry of a FIFO. -/
def entryBytes (n : Nat) : Nat := if n ≤ 13 then 1 else if n ≤ 19 then 4 else if n ≤ 23 then 8 else 4

/-- Entries that an item of `len` bytes takes. -/
def entriesOf (n len : Nat) : Nat := max 1 (ceilDiv len (entryBytes n))

/-! ### One direction -/

/-- Entries occupied. -/
def CrossDir.fill (x : CrossDir) : Nat := x.fifo.foldl (· + ·) 0

/-- The full flag: set no later than at depth, and as much as `slack` entries early (R35). -/
def CrossDir.fullFlag (x : CrossDir) (n : Nat) (inn : Bool) (slack : Fin 3) : Bool :=
  decide (fifoDepth n inn ≤ x.fill + slack.val)

/-- The empty flag: set while nothing is there, and as long as `slack` entries late (R35). -/
def CrossDir.emptyFlag (x : CrossDir) (slack : Fin 3) : Bool := decide (x.fill ≤ slack.val)

/-- The bank of that number. -/
def CrossDir.bank (x : CrossDir) (b : Bool) : Bank := if b then x.bank1 else x.bank0

def CrossDir.setBank (x : CrossDir) (b : Bool) (k : Bank) : CrossDir := if b then { x with bank1 := k } else { x with bank0 := k }

/-- A bank is owned by its reading side from its hand-over until it has been drained, and otherwise by its writing side: one owner,
which both sides see (R43). -/
def Bank.ofReader (k : Bank) : Bool := k.full.isSome

/-- There is room for a whole item of `len` bytes: the bank that the writer fills is its own, or the FIFO takes every entry without
writing into a full FIFO (R34, R35, R47). -/
def CrossDir.roomFor (x : CrossDir) (n : Nat) (inn : Bool) (slack : Fin 3) (len : Nat) : Bool :=
  if pingPong n then !(x.bank x.wnext).ofReader && decide (len ≤ bankBytes n)
  else decide (x.fill + slack.val + entriesOf n len ≤ fifoDepth n inn)

/-- The writer puts a whole item in: it fills its bank and hands it over, or writes the item's entries. -/
def CrossDir.put (x : CrossDir) (n len : Nat) : CrossDir :=
  if pingPong n then { x.setBank x.wnext ⟨some len⟩ with wnext := !x.wnext } else { x with fifo := x.fifo ++ [entriesOf n len] }

/-- A whole item stands on the reader's side (R34). -/
def CrossDir.ready (x : CrossDir) (n : Nat) (slack : Fin 3) : Bool :=
  if pingPong n then (x.bank x.rnext).ofReader else !x.fifo.isEmpty && !x.emptyFlag slack

/-- The reader takes the oldest whole item: it drains its bank and hands it back, or reads the item's entries. -/
def CrossDir.take (x : CrossDir) (n : Nat) : CrossDir :=
  if pingPong n then { x.setBank x.rnext {} with rnext := !x.rnext } else { x with fifo := x.fifo.drop 1 }

/-- Puts what waits in, oldest first, as long as it fits; the number bounds the items. -/
def CrossDir.feed (x : CrossDir) (n : Nat) : Nat → CrossDir
  | 0 => x
  | k + 1 =>
    match x.wait with
    | [] => x
    | len :: t => if x.roomFor n false 0 len then ({ x with wait := t }.put n len).feed n k else x

/-- Takes every whole item. -/
def CrossDir.drain (x : CrossDir) (n : Nat) : CrossDir :=
  if pingPong n then { x with bank0 := {}, bank1 := {}, rnext := x.wnext } else { x with fifo := [] }

/-! ### What crosses outbound -/

/-- The crossing by which something put out leaves, where it leaves by one. -/
def Out.crossing (o : Out) : Option Nat :=
  match o.kind with
  | .usb => some o.unit
  | .pdMsg | .pdSignal => some (9 + o.unit)
  | .bale => some (14 + o.unit)
  | .hostWrite | .hostRead | .msix | .cfgReply => some 20
  | .tdm => some (21 + o.unit)
  | .flash => some 23
  | _ => none

/-- Cuts a length into pieces of at most `m`. -/
def tlpPieces (m : Nat) : Nat → Nat → List Nat
  | 0, _ => []
  | k + 1, len => if len ≤ m then [len] else m :: tlpPieces m k (len - m)

/-- The packets, bales or TLPs that carry something put out, in bytes: a TLP of at most 512 bytes of payload after a header of 16
bytes. (DESIGN CHOICE, log entry 74). -/
def Out.items (o : Out) : List Nat :=
  match o.kind with
  | .hostWrite => (tlpPieces 512 (o.data.length + 1) o.data.length).map (· + 16)
  | .hostRead | .msix | .cfgReply => [16]
  | _ => [max 1 o.data.length]

def Dev.crossing (d : Dev) (n : Nat) : Crossing := mapGet {} d.cross.dirs n

def Dev.setCrossing (d : Dev) (n : Nat) (x : Crossing) : Dev :=
  { d with cross := { d.cross with dirs := mapPut {} d.cross.dirs n x } }

/-- What the core has put out for crossing `n` since the crossing last looked, oldest first. -/
def Dev.crossingNew (d : Dev) (n : Nat) : List Nat :=
  let since := max d.cross.base (d.crossing n).seen
  (((d.out.take (d.out.length - since)).reverse.filter fun o => o.crossing == some n).map Out.items).flatten

/-- The core writes into the outbound buffer of crossing `n` what it has put out, as far as it fits (R34). -/
def Dev.feedCrossing (d : Dev) (n : Nat) : Dev :=
  let x := d.crossing n
  let o := { x.out with wait := x.out.wait ++ d.crossingNew n }
  d.setCrossing n { x with out := o.feed n o.wait.length, seen := if d.crossingNew n = [] then x.seen else d.out.length }

/-- The core reads every whole item of the inbound buffer of crossing `n`. -/
def Dev.drainCrossing (d : Dev) (n : Nat) : Dev :=
  let x := d.crossing n
  d.setCrossing n { x with inn := x.inn.drain n }

/-- Both sides of the core catch up at every crossing. -/
def Dev.crossAll (d : Dev) : Dev := (List.range 26).foldl (fun d n => (d.drainCrossing n).feedCrossing n) d

/-- Every FIFO is empty and every bank is owned by its writing side (R52). -/
def Dev.clearCrossings (d : Dev) : Dev := { d with cross := { base := d.out.length } }

end Sys2Proof.Machine
end

