-- ==== Sys2Proof/Config.lean ====
section
/-!
DEFINITION. The free values: what the spec leaves open where an effect still happens. Each is an opaque constant, so no
proof can rest on a value of it; each is named in the assumption log.
-/
namespace Sys2Proof.Config

/-- How RAT_HEAD.H rounds the exact H, given as a numerator and a denominator of units of 0.5 W (Table 06.12). -/
opaque headH : Int → Nat → Nat

/-- How RAT_HEAD.E rounds the exact E, given as a numerator and a denominator of millijoules (Table 06.12). -/
opaque headE : Nat → Nat → Nat

/-- The `n`-th fresh value of a given width that the spec does not determine (entropy, readings with no stated value). -/
opaque fresh : Nat → (w : Nat) → BitVec w

/-- How the last 8 path delays are filtered into d (R380): an index into the span from the least to the greatest. -/
opaque delayFilter : List Int → Nat

/-- Whether an offset in 1/8 ns is rounded up to the nanosecond that ALM_OFFSET shows. -/
opaque roundUp : Int → Bool

/-- The servo's rate after an offset (R381): an index into the span of ±200 ppm. -/
opaque servoRate : Nat → Int → Nat

/-- What is left of a running timer, by the timer, the 24 MHz count and SUP_SECONDS. -/
opaque timeLeft : Nat → Nat → Nat → Nat

/-- HAY_RT.HOPS of a unit whose distance no rule states, by unit and lane. -/
opaque routeHops : Nat → Nat → BitVec 5

/-- The boot ROM version that service ROMVER returns (Table 18.2). -/
opaque romVersion : BitVec 32

end Sys2Proof.Config
end

