-- ==== Sys2Proof/Machine/Crypto.lean ====
section
/-!
DEFINITION. The standard functions the spec names and does not restate: AES-256 (R430), SHA-256 and HMAC-SHA-256 (R431, R510,
R527, R528) and the ECDSA signature check on curve P-256 (R431, R534). They follow the published standards (PRESUMED). And the CRC-32 of R361.
-/
namespace Sys2Proof.Machine

open Sys2Proof

/-! ### CRC-32 (R361) -/

/-- One bit of the CRC register, shifted right with the reflected polynomial. -/
def crcStep (c : Nat) : Nat := if c % 2 = 1 then Nat.xor (c / 2) 0xEDB88320 else c / 2

def crcByte (c : Nat) (b : Byte) : Nat :=
  crcStep (crcStep (crcStep (crcStep (crcStep (crcStep (crcStep (crcStep (Nat.xor c b.toNat))))))))

/-- The CRC-32 of R361. (PRESUMED, log entry 59). -/
def crc32 (l : List Byte) : Nat := Nat.xor (l.foldl crcByte 0xFFFFFFFF) 0xFFFFFFFF

/-! ### SHA-256 -/

/-- Round constants 0 to 15 of SHA-256. -/
def shaK0 : List Word := [0x428A2F98, 0x71374491, 0xB5C0FBCF, 0xE9B5DBA5, 0x3956C25B, 0x59F111F1, 0x923F82A4, 0xAB1C5ED5,
  0xD807AA98, 0x12835B01, 0x243185BE, 0x550C7DC3, 0x72BE5D74, 0x80DEB1FE, 0x9BDC06A7, 0xC19BF174]

/-- Round constants 16 to 31 of SHA-256. -/
def shaK1 : List Word := [0xE49B69C1, 0xEFBE4786, 0x0FC19DC6, 0x240CA1CC, 0x2DE92C6F, 0x4A7484AA, 0x5CB0A9DC, 0x76F988DA,
  0x983E5152, 0xA831C66D, 0xB00327C8, 0xBF597FC7, 0xC6E00BF3, 0xD5A79147, 0x06CA6351, 0x14292967]

/-- Round constants 32 to 47 of SHA-256. -/
def shaK2 : List Word := [0x27B70A85, 0x2E1B2138, 0x4D2C6DFC, 0x53380D13, 0x650A7354, 0x766A0ABB, 0x81C2C92E, 0x92722C85,
  0xA2BFE8A1, 0xA81A664B, 0xC24B8B70, 0xC76C51A3, 0xD192E819, 0xD6990624, 0xF40E3585, 0x106AA070]

/-- Round constants 48 to 63 of SHA-256. -/
def shaK3 : List Word := [0x19A4C116, 0x1E376C08, 0x2748774C, 0x34B0BCB5, 0x391C0CB3, 0x4ED8AA4A, 0x5B9CCA4F, 0x682E6FF3,
  0x748F82EE, 0x78A5636F, 0x84C87814, 0x8CC70208, 0x90BEFFFA, 0xA4506CEB, 0xBEF9A3F7, 0xC67178F2]

def shaK : List Word := shaK0 ++ shaK1 ++ shaK2 ++ shaK3

/-- The initial hash value of SHA-256. -/
def shaInit : List Word := [0x6A09E667, 0xBB67AE85, 0x3C6EF372, 0xA54FF53A, 0x510E527F, 0x9B05688C, 0x1F83D9AB, 0x5BE0CD19]

/-- Replaces the list by the message schedule, `n` words longer; it is kept latest word first. -/
def shaSchedule : Nat → List Word → List Word
  | 0, l => l
  | n + 1, l =>
    let g := fun i => l.getD i 0
    let s0 := g 14
    let s1 := g 1
    let a := s0.rotateRight 7 ^^^ s0.rotateRight 18 ^^^ (s0 >>> 3)
    let b := s1.rotateRight 17 ^^^ s1.rotateRight 19 ^^^ (s1 >>> 10)
    shaSchedule n ((g 15 + a + g 6 + b) :: l)

/-- One round, the working variables being a to h in order. -/
def shaRound (v : List Word) (kw : Word × Word) : List Word :=
  let g := fun i => v.getD i 0
  let e := g 4
  let a := g 0
  let t1 := g 7 + (e.rotateRight 6 ^^^ e.rotateRight 11 ^^^ e.rotateRight 25) + ((e &&& g 5) ^^^ (~~~e &&& g 6)) + kw.1 + kw.2
  let t2 := (a.rotateRight 2 ^^^ a.rotateRight 13 ^^^ a.rotateRight 22) + ((a &&& g 1) ^^^ (a &&& g 2) ^^^ (g 1 &&& g 2))
  [t1 + t2, a, g 1, g 2, g 3 + t1, e, g 5, g 6]

/-- Big-endian words of a block. -/
def beWords : List Byte → List Word
  | a :: b :: c :: d :: t => BitVec.ofNat 32 (beNat [a, b, c, d]) :: beWords t
  | _ => []

def shaBlock (h : List Word) (blk : List Byte) : List Word :=
  let w := (shaSchedule 48 (beWords blk).reverse).reverse
  List.zipWith (· + ·) h ((shaK.zip w).foldl shaRound h)

/-- The blocks of a padded message, `n` of them. -/
def shaBlocks : Nat → List Word → List Byte → List Word
  | 0, h, _ => h
  | n + 1, h, l => shaBlocks n (shaBlock h (l.take 64)) (l.drop 64)

/-- The SHA-256 digest of a message. (PRESUMED, log entry 59). -/
def sha256 (m : List Byte) : List Byte :=
  let k := (64 - (m.length + 9) % 64) % 64
  let p := m ++ [0x80] ++ List.replicate k 0 ++ beBytes 8 (8 * m.length)
  ((shaBlocks (p.length / 64) shaInit p).map fun w => beBytes 4 w.toNat).flatten

/-- HMAC-SHA-256 under a key of at most 64 bytes. (PRESUMED, log entry 59). -/
def hmac256 (key m : List Byte) : List Byte :=
  let k := key ++ List.replicate (64 - key.length) 0
  sha256 (k.map (· ^^^ 0x5C) ++ sha256 (k.map (· ^^^ 0x36) ++ m))

/-! ### AES-256 -/

/-- Multiplication by x in the field of AES. -/
def aesX (a : Byte) : Byte := (a <<< 1) ^^^ (if a.msb then 0x1B else 0)

/-- Product of two field elements, over the lowest `n` bits of the second. -/
def aesMul : Nat → Byte → Byte → Byte
  | 0, _, _ => 0
  | n + 1, a, b => (if b.getLsbD 0 then a else 0) ^^^ aesMul n (aesX a) (b >>> 1)

/-- The inverse of a field element, 0 for 0: its power 254. -/
def aesInv (a : Byte) : Byte :=
  let m := aesMul 8
  let a2 := m a a
  let a3 := m a2 a
  let a6 := m a3 a3
  let a12 := m a6 a6
  let a15 := m a12 a3
  let a30 := m a15 a15
  let a60 := m a30 a30
  let a120 := m a60 a60
  let a126 := m a120 a6
  let a127 := m a126 a
  m a127 a127

def aesSub (a : Byte) : Byte :=
  let b := aesInv a
  b ^^^ b.rotateLeft 1 ^^^ b.rotateLeft 2 ^^^ b.rotateLeft 3 ^^^ b.rotateLeft 4 ^^^ 0x63

/-- Words of the key schedule from number `i` on, `n` more; each is four bytes, and the list is kept latest first. -/
def aesExpand : Nat → Nat → Byte → List (List Byte) → List (List Byte)
  | 0, _, _, l => l
  | n + 1, i, rcon, l =>
    let prev := l.getD 0 []
    let t :=
      if i % 8 = 0 then List.zipWith (· ^^^ ·) ((prev.drop 1 ++ prev.take 1).map aesSub) [rcon, 0, 0, 0]
      else if i % 8 = 4 then prev.map aesSub else prev
    aesExpand n (i + 1) (if i % 8 = 0 then aesX rcon else rcon) (List.zipWith (· ^^^ ·) (l.getD 7 []) t :: l)

/-- Fours of a byte list. -/
def fours : List Byte → List (List Byte)
  | a :: b :: c :: d :: t => [a, b, c, d] :: fours t
  | _ => []

/-- ShiftRows on the 16 bytes of the state, column by column. -/
def aesShift (s : List Byte) : List Byte := (List.range 16).map fun i => s.getD ((i + 4 * (i % 4)) % 16) 0

/-- MixColumns on one column. -/
def aesMix (c : List Byte) : List Byte :=
  let g := fun i => c.getD (i % 4) 0
  (List.range 4).map fun i => aesX (g i) ^^^ (aesX (g (i + 1)) ^^^ g (i + 1)) ^^^ g (i + 2) ^^^ g (i + 3)

/-- The rounds, each with its round key; the last one leaves the columns unmixed. -/
def aesRounds : List (List Byte) → List Byte → List Byte
  | [], s => s
  | [k], s => List.zipWith (· ^^^ ·) (aesShift (s.map aesSub)) k
  | k :: t, s => aesRounds t (List.zipWith (· ^^^ ·) (((fours (aesShift (s.map aesSub))).map aesMix).flatten) k)

/-- The round keys, 16 bytes each. -/
def aesKeys : Nat → List Byte → List (List Byte)
  | 0, _ => []
  | n + 1, l => l.take 16 :: aesKeys n (l.drop 16)

/-- AES-256 of one 16-byte block under a 32-byte key. (PRESUMED, log entry 59). -/
def aes256 (key blk : List Byte) : List Byte :=
  let w := (aesExpand 52 8 1 (fours key).reverse).reverse
  match aesKeys 15 w.flatten with
  | [] => blk
  | k :: t => aesRounds t (List.zipWith (· ^^^ ·) blk k)

/-! ### ECDSA on curve P-256 -/

def p256P : Nat := 0xFFFFFFFF00000001000000000000000000000000FFFFFFFFFFFFFFFFFFFFFFFF
def p256N : Nat := 0xFFFFFFFF00000000FFFFFFFFFFFFFFFFBCE6FAADA7179E84F3B9CAC2FC632551
def p256B : Nat := 0x5AC635D8AA3A93E7B3EBBD55769886BC651D06B0CC53B0F63BCE3C3E27D2604B
def p256G : Nat × Nat :=
  (0x6B17D1F2E12C4247F8BCE6E563A440F277037D812DEB33A0F4A13945D898C296,
   0x4FE342E2FE1A7F9B8EE7EB4A7C0F9E162BCE33576B315ECECBB6406837BF51F5)

/-- a to the power e modulo m, over the lowest `n` bits of e. -/
def modPow (m : Nat) : Nat → Nat → Nat → Nat
  | 0, _, _ => 1
  | n + 1, a, e =>
    let r := modPow m n (a * a % m) (e / 2)
    if e % 2 = 1 then r * a % m else r

/-- The inverse modulo a prime. -/
def modInv (m a : Nat) : Nat := modPow m 256 (a % m) (m - 2)

/-- A point of the curve in Jacobian coordinates: (x, y, z) stands for (x / z², y / z³), and z = 0 for the point at infinity. -/
abbrev Point := Nat × Nat × Nat

/-- Product and difference modulo the field prime. -/
def fMul (a b : Nat) : Nat := a * b % p256P
def fSub (a b : Nat) : Nat := (a + p256P - b) % p256P

/-- Twice a point. -/
def ecDouble (a : Point) : Point :=
  let zz := fMul a.2.2 a.2.2
  let yy := fMul a.2.1 a.2.1
  let b := fMul a.1 yy
  let m := fMul 3 (fMul (fSub a.1 zz) (a.1 + zz))
  let x := fSub (fMul m m) (fMul 8 b)
  (x, fSub (fMul m (fSub (fMul 4 b) x)) (fMul 8 (fMul yy yy)), fMul 2 (fMul a.2.1 a.2.2))

/-- The sum of two points. -/
def ecAdd (a b : Point) : Point :=
  if a.2.2 == 0 then b
  else if b.2.2 == 0 then a
  else
    let zz := fMul a.2.2 a.2.2
    let ww := fMul b.2.2 b.2.2
    let u := fMul a.1 ww
    let s := fMul a.2.1 (fMul ww b.2.2)
    let h := fSub (fMul b.1 zz) u
    let r := fSub (fMul b.2.1 (fMul zz a.2.2)) s
    if h == 0 then (if r == 0 then ecDouble a else (1, 1, 0))
    else
      let hh := fMul h h
      let v := fMul u hh
      let hhh := fMul h hh
      let x := fSub (fSub (fMul r r) hhh) (fMul 2 v)
      (x, fSub (fMul r (fSub v x)) (fMul s hhh), fMul h (fMul a.2.2 b.2.2))

/-- A multiple of a point, over the lowest `n` bits of the factor. -/
def ecMul : Nat → Nat → Point → Point
  | 0, _, _ => (1, 1, 0)
  | n + 1, k, q => if k == 0 then (1, 1, 0) else
    let t := ecMul n (k / 2) (ecDouble q)
    if k % 2 == 1 then ecAdd q t else t

/-- The coordinates name a point of the curve. -/
def onCurve (x y : Nat) : Bool :=
  decide (x < p256P) && decide (y < p256P) && y * y % p256P == (x * x * x + (p256P - 3) * x + p256B) % p256P

/-- The signature (r, s) of a digest under the public key (x, y) is valid. (PRESUMED, log entry 59). -/
def p256Verify (digest : List Byte) (x y r s : Nat) : Bool :=
  if r = 0 ∨ p256N ≤ r ∨ s = 0 ∨ p256N ≤ s ∨ !onCurve x y then false
  else
    let w := modInv p256N s
    let t := ecAdd (ecMul 256 (beNat digest * w % p256N) (p256G.1, p256G.2, 1)) (ecMul 256 (r * w % p256N) (x, y, 1))
    t.2.2 != 0 && fMul t.1 (modInv p256P (fMul t.2.2 t.2.2)) % p256N == r

/-- A signature and a public key in the layout of Table 15.2: QX, QY, then SIG_R, SIG_S, each least significant byte first. -/
def signed (digest key sig : List Byte) : Bool :=
  p256Verify digest (leNat (key.take 32)) (leNat ((key.drop 32).take 32)) (leNat (sig.take 32)) (leNat ((sig.drop 32).take 32))

end Sys2Proof.Machine
end

