-- ==== Sys2Proof/Machine/TktOps.lean ====
section
/-!
DEFINITION. Tickets, completions, vectors and the memory of the rings: the operations by which a descriptor ends (chapters
11 and 12). None raises a fault event.
-/
namespace Sys2Proof.Machine

open Sys2Proof

/-! ### Tickets (R313, R314, R321) -/

/-- Word Wi of a descriptor, for i from 1 to 7. -/
def Tkt.word (tk : Tkt) (i : Nat) : Nat := tk.w.getD (i - 1) 0

/-- The context, stream, port or flow a descriptor names, as one number; 0 where it names none (R314). -/
def Tkt.key (tk : Tkt) : Nat :=
  match tk.op with
  | 0x01 | 0x02 => 0x1000 + bits (tk.word 1) 0 4
  | 0x03 => 0x1000 + bits (tk.word 1) 24 4
  | 0x04 | 0x05 | 0x06 => 0x2000 + bits (tk.word 1) 0 7
  | 0x10 | 0x11 | 0x12 | 0x13 | 0x14 | 0x15 | 0x16 => 0x3000 + bits (tk.word 1) 0 8
  | 0x20 | 0x21 => 0x4000 + bits (tk.word 1) 0 8
  | _ => 0

/-- Two tickets are the same descriptor. -/
def Tkt.same (a b : Tkt) : Bool := a.t == b.t && a.sq == b.sq && a.idx == b.idx

def Dev.read (d : Dev) (t q : Nat) : FetchRd := mapGet {} d.hif.reads (8 * t + q)

def Dev.setRead (d : Dev) (t q : Nat) (r : FetchRd) : Dev :=
  { d with hif := { d.hif with reads := mapPut {} d.hif.reads (8 * t + q) r } }

def Dev.fetched (d : Dev) (t q : Nat) : List Tkt := mapGet [] d.hif.fetched (8 * t + q)

def Dev.setFetched (d : Dev) (t q : Nat) (l : List Tkt) : Dev :=
  { d with hif := { d.hif with fetched := mapPut [] d.hif.fetched (8 * t + q) l } }

/-- Tickets that tenant `t` holds (HIF_TKTHELD, TEN_STAT.HELD). -/
def Dev.held (d : Dev) (t : Nat) : Nat :=
  ((List.range 8).map fun q => (d.read t q).n + (d.fetched t q).length).foldl (· + ·) 0 +
    (d.hif.running.filter (·.t == t)).length + (d.hif.cpls.filter (·.tk.t == t)).length

/-- Tickets held by all tenants. -/
def Dev.heldAll (d : Dev) : Nat :=
  (d.hif.reads.map (·.2.n)).foldl (· + ·) 0 + (d.hif.fetched.map (·.2.length)).foldl (· + ·) 0 +
    d.hif.running.length + d.hif.cpls.length

/-- Free tickets (HIF_TKTFREE). -/
def Dev.tktFree (d : Dev) : Nat := 8192 - d.heldAll

/-- The sum over the tenants below `n`, other than `t`, of the unused part of their MIN. -/
def Dev.unusedTkt (d : Dev) (t : Nat) : Nat → Nat
  | 0 => 0
  | n + 1 => (if n = t then 0 else d.get (F.HIF_TKT_MIN n) - d.held n) + d.unusedTkt t n

/-- How many more tickets tenant `t` may take now, at most `n` (R321). -/
def Dev.tktRoom (d : Dev) (t n : Nat) : Nat :=
  let u := d.held t
  let own := d.get (F.HIF_TKT_MIN t) - u
  let room := d.tktFree - d.unusedTkt t 256
  min n (max own (min (d.get (F.HIF_TKT_MAX t) - u) room))

/-! ### Ring indices and the memory of the rings -/

def ringSize (d : Dev) (t r : Nat) : Nat := 2 ^ d.get (F.HIF_RCFG_LOG2SIZE t r)

/-- Entries a ring holds: (P − C) mod 65,536 (R308). -/
def Dev.ringFill (d : Dev) (t r : Nat) : Nat :=
  (d.get (F.HIF_RIDX_P t r) + 65536 - d.get (F.HIF_RIDX_C t r)) % 65536

/-- Base address of a ring. -/
def Dev.ringBase (d : Dev) (t r : Nat) : Nat :=
  64 * d.get (F.HIF_RBASEL_BASE t r) + 2 ^ 32 * d.get (F.HIF_RBASEH_BASE t r)

/-- Bytes of the steward ring partition, 0 while there is none (R252, R306). -/
def Dev.partBytes (d : Dev) : Nat := 64 * d.lar.partCells

/-- T000's rings lie in the partition. -/
def Dev.inPart (d : Dev) (t : Nat) : Bool := t == 0 && d.stewardHost

/-- Writes one whole 64-bit word of the partition, subject to injection (R467). (DEDUCED, log entry 43). -/
def Dev.partPut (d : Dev) (w v : Nat) : Dev :=
  let b := (d.lar.partBase + w / 8) / 4096
  let k := d.injects b 1
  let e : EccWord := ⟨v % 2 ^ 64, if k = 0 then 0 else d.get F.ECC_INJ_MASK⟩
  let d1 := d.injUse k
  { d1 with ecc := { d1.ecc with part := mapPut {} d1.ecc.part w e } }

/-- Writes bytes to the partition as whole words from a multiple of 8 on; a last part-word is merged into what stands. -/
def Dev.partBytesPut (d : Dev) : Nat → List Nat → Dev
  | _, [] => d
  | w, v :: t => (d.partPut w v).partBytesPut (w + 1) t

/-- Bytes cut into 64-bit little-endian words. -/
def words64 : Nat → List Byte → List Nat
  | 0, _ => []
  | n + 1, l => leNat (l.take 8) :: words64 n (l.drop 8)

/-- Writes a CQ or EVQ entry: one posted write, or two words of the partition (R310). -/
def Dev.writeEntry (d : Dev) (t addr : Nat) (e : List Byte) : Dev :=
  if d.inPart t then d.partBytesPut (addr / 8) (words64 2 e) else d.emit .hostWrite t [addr, 0] e

def Dev.ringPhase (d : Dev) (t r : Nat) : Bool := mapGet false d.hif.phase (17 * t + r)

/-- Puts an entry at a ring's producer index with its phase, and advances the index (R310). -/
def Dev.pushEntry (d : Dev) (t r : Nat) (e : Bool → List Byte) : Dev :=
  let p := d.get (F.HIF_RIDX_P t r)
  let ph := d.ringPhase t r
  let d1 := (d.writeEntry t (d.ringBase t r + 16 * (p % ringSize d t r)) (e ph)).set (F.HIF_RIDX_P t r) (p + 1)
  if p % ringSize d t r = ringSize d t r - 1 then
    { d1 with hif := { d1.hif with phase := mapPut false d1.hif.phase (17 * t + r) (!ph) } }
  else d1

/-! ### Vectors (R340, R341, R306) -/

def Dev.modN (d : Dev) (t v : Nat) : Nat := mapGet 0 d.hif.modN (8 * t + v)

def Dev.setModN (d : Dev) (t v n : Nat) : Dev := { d with hif := { d.hif with modN := mapPut 0 d.hif.modN (8 * t + v) n } }

def Dev.holding (d : Dev) (t v : Nat) : Bool := mapGet false d.hif.holdoff (8 * t + v)

def Dev.setHolding (d : Dev) (t v : Nat) (b : Bool) : Dev :=
  { d with hif := { d.hif with holdoff := mapPut false d.hif.holdoff (8 * t + v) b } }

/-- The message of a vector: MSI-X under masking, or the steward interrupt latch; while the PCI Express PHY is held it waits (R67).
 (PRESUMED, log entry 47). -/
def Dev.message (d : Dev) (t v : Nat) : Dev :=
  if d.inPart t then { d with stw := { d.stw with latch := if bitOf d.stw.latch v then d.stw.latch else d.stw.latch + 2 ^ v } }
  else if d.is (F.MSIX_CTRL_MASK t v) then d.setBit (F.MSIX_PBA_PEND t) v true
  else if d.pcieHeld then { d with hif := { d.hif with msgDue := d.hif.msgDue ++ [8 * t + v] } }
  else d.emit .msix t [v] []

/-- The PCI Express PHY drives again: the messages that waited are sent in order (R67). -/
def Dev.sendHeld (d : Dev) : Dev :=
  if d.pcieHeld then d
  else d.hif.msgDue.foldl (fun d x => d.message (x / 8) (x % 8)) { d with hif := { d.hif with msgDue := [] } }

/-- Sends on a vector and starts its holdoff. -/
def Dev.sendVec (d : Dev) (t v : Nat) : Dev :=
  let d1 := (d.message t v).setModN t v 0
  let d2 := { d1 with hif := { d1.hif with modCount := mapPut 0 d1.hif.modCount (8 * t + v) (d1.get (F.TEN_MOD_COUNT t v)) } }
  if d2.get (F.TEN_MOD_HOLDOFF t v) = 0 then d2 else d2.setHolding t v true

/-- An entry that signals vector `v` has been written. (DEDUCED, log entry 48). -/
def Dev.signalVec (d : Dev) (t v : Nat) : Dev :=
  let n := d.modN t v + 1
  let c := mapGet 0 d.hif.modCount (8 * t + v)
  if !d.holding t v || (c != 0 && decide (c ≤ n)) then (d.setModN t v n).sendVec t v else d.setModN t v n

/-! ### Ending a descriptor (R314, R315) -/

/-- Takes, of the dispatched descriptors in order, those that have ended and follow no unended one of the same resource. -/
def releaseDone : List Tkt → List Nat → List Tkt × List Cpl
  | [], _ => ([], [])
  | tk :: l, keys =>
    match tk.result with
    | none => let r := releaseDone l (tk.key :: keys); (tk :: r.1, r.2)
    | some (st, r0, r1) =>
      if tk.key ≠ 0 ∧ keys.contains tk.key then let r := releaseDone l keys; (tk :: r.1, r.2)
      else let r := releaseDone l keys; (r.1, ⟨tk, st, r0, r1⟩ :: r.2)

/-- Ended descriptors become completions, but for those whose entry NOCMP suppresses (R315). -/
def Dev.releaseTkts (d : Dev) : Dev :=
  let r := releaseDone d.hif.running []
  let c := r.2.filter fun x => !(x.tk.nocmp && x.status == .done)
  { d with hif := { d.hif with running := r.1, cpls := d.hif.cpls ++ c } }

/-- A dispatched descriptor ends with a status and results. -/
def Dev.finish (d : Dev) (tk : Tkt) (st : Status) (r0 r1 : Nat) : Dev :=
  let l := d.hif.running.map fun x => if x.same tk && x.result.isNone then { x with result := some (st, r0 % 2 ^ 32, r1 % 2 ^ 32) } else x
  ({ d with hif := { d.hif with running := l } } : Dev).releaseTkts

/-- Ends every dispatched descriptor that meets `p`, each with the bytes it has moved. -/
def Dev.endTkts (d : Dev) (p : Tkt → Bool) (st : Status) : Dev :=
  let l := d.hif.running.map fun x =>
    if p x && x.result.isNone then { x with result := some (st, if x.op = 0x06 ∨ x.op = 0x16 then x.moved else 0, 0) } else x
  ({ d with hif := { d.hif with running := l } } : Dev).releaseTkts

/-- Changes a dispatched descriptor. -/
def Dev.modTkt (d : Dev) (tk : Tkt) (f : Tkt → Tkt) : Dev :=
  { d with hif := { d.hif with running := d.hif.running.map fun x => if x.same tk then f x else x } }

/-- The dispatched descriptors that have not ended, in order. -/
def Dev.live (d : Dev) (p : Tkt → Bool) : List Tkt := d.hif.running.filter fun x => x.result.isNone && p x

end Sys2Proof.Machine
end

