-- ==== Sys2Proof/Machine/StrOps.lean ====
section
/-!
DEFINITION. Operations of streams and their endpoints that several causes share (chapter 09 with chapters 10 to 13): the
endpoint codes, claims and reservations, reading the queue, losing a source or sink, flush and unbind. Fault events they
give rise to are left to the end of the command.
-/
namespace Sys2Proof.Machine

open Sys2Proof

/-! ### Endpoint codes (Table 09.3) -/

def epKind (c : Nat) : Nat := c / 8192 % 8
def epId (c : Nat) : Nat := c % 8192
def tdmPort (c : Nat) : Nat := bits c 12 1
def tdmFirst (c : Nat) : Nat := bits c 8 4
def tdmCount (c : Nat) : Nat := bits c 4 4 + 1
def ringTenant (c : Nat) : Nat := bits c 3 8
def ringSq (c : Nat) : Nat := bits c 0 3

/-- The sample rate of a rate code in Hz; 0 where undefined (Table 09.8). -/
def rateHz (c : Nat) : Nat :=
  match c with
  | 0 => 8000 | 1 => 11025 | 2 => 16000 | 3 => 22050 | 4 => 24000 | 5 => 32000 | 6 => 44100 | 7 => 48000 | 8 => 88200
  | 9 => 96000 | 10 => 176400 | 11 => 192000 | 12 => 352800 | 13 => 384000 | _ => 0

/-- Code of sink `i` and its owner in a STR entry (Table 09.9). -/
def sinkFld (s i : Nat) : Fld := ⟨0x6008 + 0x20 * s + 4 * (i / 2), 16 * (i % 2), 16, 0⟩
def sownFld (s i : Nat) : Fld := ⟨0x6018 + 0x20 * s + 4 * (i / 4), 8 * (i % 4), 8, 0⟩

def Dev.strState (d : Dev) (s : Nat) : Nat := d.get (F.STR_W0_STATE s)
def Dev.strOwner (d : Dev) (s : Nat) : Nat := d.get (F.STR_W0_OWNER s)
def Dev.srcCode (d : Dev) (s : Nat) : Nat := d.get (F.STR_W0_SOURCE s)
def Dev.sinkCode (d : Dev) (s i : Nat) : Nat := d.get (sinkFld s i)

/-- Bytes of one sample frame of a stream (R257). -/
def Dev.frameBytes (d : Dev) (s : Nat) : Nat := (d.get (F.STR_W1_CH s) + 1) * (d.get (F.STR_W1_WIDTH s) + 2)

def Dev.modStream (d : Dev) (s : Nat) (f : Strm → Strm) : Dev := d.setStream s (f (d.stream s))

def Dev.sink (d : Dev) (s i : Nat) : SinkPos := mapGet {} (d.stream s).sinks i

def Dev.modSink (d : Dev) (s i : Nat) (f : SinkPos → SinkPos) : Dev :=
  d.modStream s fun x => { x with sinks := x.sinks.map fun e => if e.1 = i then (e.1, f e.2) else e }

/-- A stream is not IDLE, nor FENCED from IDLE. -/
def Dev.strBound (d : Dev) (s : Nat) : Bool := d.strState s != 0 && !(d.strState s == 5 && (d.stream s).preFence == 0)

/-- Streams that are not IDLE. -/
def Dev.boundStreams (d : Dev) : List Nat := (List.range 256).filter d.strBound

/-- Two codes name endpoints of one line that cannot both be used: the same slot, context or flow, overlapping slots of one
TDM port, or the same submission ring. (DEDUCED, log entry 40). -/
def epClash (a b : Nat) : Bool :=
  epKind a == epKind b &&
  (if epKind a = 3 then
    tdmPort a == tdmPort b && decide (tdmFirst a < tdmFirst b + tdmCount b) && decide (tdmFirst b < tdmFirst a + tdmCount a)
  else epId a == epId b)

/-- Streams whose source clashes with a code, and sinks (stream, index) that do. -/
def Dev.srcUses (d : Dev) (c : Nat) : List Nat := d.boundStreams.filter fun s => epClash (d.srcCode s) c

def Dev.sinkUses (d : Dev) (c : Nat) : List (Nat × Nat) :=
  d.boundStreams.foldr (fun s l => ((d.stream s).sinks.filter fun e => epClash (d.sinkCode s e.1) c).map (fun e => (s, e.1)) ++ l) []

/-! ### What every descriptor is checked for (R316, R317) -/

/-- The bits that an opcode lists in words W1 to W7 (Table 11.6); none for an undefined opcode. -/
def opBits (op : Nat) : Option (List Nat) :=
  match op with
  | 0x00 => some []
  | 0x01 => some [0x00FF030F]
  | 0x02 => some [0x0000070F]
  | 0x03 => some [0x0FFFFF00, 0x00FFFCFF]
  | 0x04 | 0x05 => some [0x0000007F]
  | 0x06 => some [0x0000017F, 0xFFFFFFFF, 0xFFFFFFFF, 0xFFFFFFFF, 0xFFFFFFFF, 0xFFFFFFFF]
  | 0x10 => some [0xFFFF00FF, 0xFFF1F30F, 0x0007FFFF]
  | 0x11 => some [0xFFFF00FF]
  | 0x12 => some [0x000007FF]
  | 0x13 | 0x14 | 0x15 => some [0x000000FF]
  | 0x16 => some [0x000100FF, 0xFFFFFFFF, 0xFFFFFFFF, 0xFFFFFFFF, 0xFFFFFFFF]
  | 0x20 => some [0x0FFF01FF, 0xFFFF00FF]
  | 0x21 => some [0x000000FF]
  | _ => none

/-- A bit that must be 0 is set, or the opcode is undefined. -/
def Tkt.badBits (tk : Tkt) : Bool :=
  tk.bad || (match opBits tk.op with
    | none => true
    | some l => [1, 2, 3, 4, 5, 6, 7].any fun i => tk.word i != (tk.word i &&& l.getD (i - 1) 0))

/-- A bound stream's RING endpoint names SQ `q` of tenant `t`. -/
def Dev.ringSqUsed (d : Dev) (t q : Nat) : Bool :=
  d.srcUses (5 * 8192 + 8 * t + q) != [] || d.sinkUses (5 * 8192 + 8 * t + q) != []

/-- The checks that every descriptor shares: unlisted bits, and an SQ that a RING endpoint keeps for its buffers. -/
def Dev.descChecks (d : Dev) (tk : Tkt) : List (Bool × Status) :=
  [(tk.badBits, .eField), (tk.op != 0x16 && d.ringSqUsed tk.t tk.sq, .eState)]

/-! ### The isochronous slots of the audio function -/

def Dev.slotIso (d : Dev) (n : Nat) : Bool := d.is (F.EPM_SLOT_EN n) && d.get (F.EPM_SLOT_TYPE n) == 1

/-- The feedback endpoint: isochronous IN with EPNUM bit 3 set (Table 07.13). -/
def Dev.slotFeedback (d : Dev) (n : Nat) : Bool :=
  d.slotIso n && d.is (F.EPM_SLOT_DIR n) && decide (8 ≤ d.get (F.EPM_SLOT_EPNUM n))

/-- A sink that reads no samples: the feedback slot. -/
def Dev.sinkIdle (d : Dev) (s i : Nat) : Bool := epKind (d.sinkCode s i) == 1 && d.slotFeedback (epId (d.sinkCode s i))

/-! ### Reservations (R334 to R337) -/

/-- Peak bytes per service interval (R334), `per` intervals a second. -/
def peakBytes (rate ch width per : Nat) : Nat := ceilDiv (rateHz rate) per * (ch + 1) * (width + 2)

/-- Service intervals a second at high speed or not. -/
def perSecond (hs : Bool) : Nat := if hs then 8000 else 1000

/-- Cost of a FUNC slot (Table 12.2). -/
def funcCost (hs : Bool) (b : Nat) : Nat := if hs then ceilDiv (b * 7) 6 + 48 * ceilDiv b 1024 else ceilDiv (b * 7) 6 + 16

def usbBudget (hs : Bool) : Nat := if hs then 6000 else 1200
def usbTotal (hs : Bool) : Nat := if hs then 7500 else 1500

/-- The summed cost of every bound FUNC slot. -/
def Dev.funcLoad (d : Dev) : Nat :=
  (d.strm.map fun e => e.2.cost + (e.2.sinks.map fun k => k.2.cost).foldl (· + ·) 0).foldl (· + ·) 0

def Dev.usbFits (d : Dev) (t charge : Nat) : Bool :=
  decide (d.get (F.TEN_USEUSB_USED t) + charge ≤ d.get (F.TEN_GISO_USBPM t))

def Dev.usbCharge (d : Dev) (t n : Nat) : Dev := d.set (F.TEN_USEUSB_USED t) (d.get (F.TEN_USEUSB_USED t) + n)
def Dev.usbRelease (d : Dev) (t n : Nat) : Dev := d.set (F.TEN_USEUSB_USED t) (d.get (F.TEN_USEUSB_USED t) - n)
def Dev.hayFits (d : Dev) (t charge : Nat) : Bool :=
  decide (d.get (F.TEN_USEHAY_USED t) + charge ≤ d.get (F.TEN_GHAY_ALLOW t))
/-- (DEDUCED, log entry 52). -/
def Dev.hayCharge (d : Dev) (t n : Nat) : Dev := d.set (F.TEN_USEHAY_USED t) (d.get (F.TEN_USEHAY_USED t) + n)
def Dev.hayRelease (d : Dev) (t n : Nat) : Dev := d.set (F.TEN_USEHAY_USED t) (d.get (F.TEN_USEHAY_USED t) - n)

/-- The cost and charge a bind or attach of endpoint `c` with a format takes, and whether it is allowed (R335, R336). -/
def Dev.reservation (d : Dev) (t c rate ch width : Nat) : Bool × Nat × Nat :=
  match epKind c with
  | 1 =>
    if d.slotFeedback (epId c % 16) then (true, 0, 0)
    else
      let hs := d.is F.HUB_STAT_HS
      let b := peakBytes rate ch width (perSecond hs)
      let cost := funcCost hs b
      let charge := ceilDiv (cost * 1000) (usbTotal hs)
      ((hs || decide (b ≤ 1023)) && decide (d.funcLoad + cost ≤ usbBudget hs) && d.usbFits t charge, cost, charge)
  | 2 =>
    let x := epId c % 128
    let hs := d.get (F.PRT_LSTAT_SPEED (d.get (F.LHE_CTXW0_PORT x) - 1)) == 3
    (decide (peakBytes rate ch width (perSecond hs) ≤ d.get (F.LHE_CTXW1_MPS x) * (d.get (F.LHE_CTXW0_MULT x) + 1)), 0, 0)
  | 4 => (decide (peakBytes rate ch width 8000 ≤ (mapGet {} d.hay.flow (epId c % 256)).bytes), 0, 0)
  | _ => (true, 0, 0)

/-! ### Reading the queue of a stream (R255, R256, R263, R265) -/

/-- The bytes of an item, each with whether its cell is poisoned or lies in a fenced bank (R265, R272). -/
def Dev.itemBytes (d : Dev) (it : Item) : List (Byte × Bool) :=
  (List.range it.data.length).map fun i =>
    let c := it.cells.getD (i / 64) 0
    (it.data.getD i 0, it.poison.contains c || d.bankFenced (c / 4096))

/-- Records an uncorrectable read in ECC_UEREC, the first one kept (R466). -/
def Dev.ueRecord (d : Dev) (cls mem req addr : Nat) : Dev :=
  if d.is F.ECC_UEREC_VALID then d.set F.ECC_UEREC_MULTI 1
  else ((((d.set F.ECC_UEREC_VALID 1).set F.ECC_UEREC_CLASS cls).set F.ECC_UEREC_MEM mem).set F.ECC_UEREC_REQ req).set
    F.ECC_UEADDR_ADDR addr

/-- An uncorrectable read of a word of Larder bank `b` (R466): counted, source 49, and its paced notice. -/
def Dev.larUe (d : Dev) (cls req c w : Nat) : Dev :=
  let b := c / 4096
  let d1 := ((d.ueRecord cls 3 req (64 * c + 8 * w)).bump (F.ECC_LBCNT_UE b)).oweFault (0x230 + b) 49
  if mapGet 0 d1.ecc.spacing b = 0 then
    let d2 := d1.raise F.ECC_INT_LARUE 0x1501 [0] b 0 (d1.get (F.ECC_LBCNT_UE b))
    { d2 with ecc := { d2.ecc with spacing := mapPut 0 d2.ecc.spacing b 1 } }
  else { d1 with ecc := { d1.ecc with spacing := mapPut 0 d1.ecc.spacing b 2 } }

/-- Reads bytes [`lo`, `hi`) of item `j` of a queue through the checker of their cells' banks: corrected words fill the
bucket, uncorrectable ones poison their cell (R464 to R466). -/
def Dev.checkItem (d : Dev) (q j lo hi : Nat) : Dev :=
  match (d.items q)[j]? with
  | none => d
  | some it =>
    let hit := it.bad.filter fun e =>
      let off := 64 * (it.cells.findIdx (· == e.1)) + 8 * e.2.1
      decide (off < hi) && decide (lo < off + 8)
    let d1 := hit.foldl (fun d e =>
      match eccClass e.2.2 with
      | 0 => d
      | 1 => d.owe [.corrected (e.1 / 4096)]
      | c => d.larUe (if c = 2 then 1 else 0) 1 e.1 e.2.1) d
    let bad := (hit.filter fun e => 2 ≤ eccClass e.2.2).map (·.1)
    if bad = [] then d1 else d1.setItems q ((d1.items q).set j { it with poison := it.poison ++ bad })

/-- Bytes [`lo`, `hi`) of item `j` hold poisoned ones. -/
def Dev.anyPoison (d : Dev) (q j lo hi : Nat) : Bool :=
  match (d.items q)[j]? with
  | none => false
  | some it => (((d.itemBytes it).take hi).drop lo).any (·.2)

/-- Checks every item that bytes [`pos`, `pos + n`) of a queue lie in, and counts in POISON those of which poisoned bytes are used: once per
sink and item, `c` saying that the item at `pos` has been counted (R265); deliveries from a fenced bank do not escalate (R497). Answers
whether the item that the position then lies in has been counted. -/
def Dev.checkItems (d : Dev) (q : Nat) : Nat → Nat → Nat → Nat → Bool → Dev × Bool
  | 0, _, _, _, c => (d, c)
  | k + 1, j, pos, n, c =>
    match (d.items q)[j]? with
    | none => (d, c)
    | some it =>
      let len := it.data.length
      if n = 0 then (d, c)
      else if len ≤ pos then d.checkItems q k (j + 1) (pos - len) n c
      else
        let e := d.checkItem q j pos (pos + n)
        let hit := e.anyPoison q j pos (pos + n)
        let marked := ((e.items q)[j]?.map fun x => x.poison != []).getD false
        let e1 := if hit && !c then (e.bump (F.QUE_W3_POISON q)).owe [.poison q marked] else e
        if pos + n < len then (e1, c || hit) else e1.checkItems q k (j + 1) 0 (n - (len - pos)) false

/-- The bytes of a queue with their marks. -/
def Dev.queueBytes (d : Dev) (q : Nat) : List (Byte × Bool) := (d.items q).foldr (fun it l => d.itemBytes it ++ l) []

/-- The queue of stream `s` (R253). -/
def queOf (s : Nat) : Nat := 512 + s

/-- The lowest position of the sinks that read samples; none without such a sink. -/
def Dev.minPos (d : Dev) (s : Nat) : Option Nat :=
  (((d.stream s).sinks.filter fun e => !d.sinkIdle s e.1).map fun e => e.2.pos).min?

/-- Frees what every sink has passed. -/
def Dev.trimStream (d : Dev) (s : Nat) : Dev :=
  match d.minPos s with
  | none => d
  | some m => d.trimTo (queOf s) m (d.qCells (queOf s))

/-- Bytes that wait for sink `i`. -/
def Dev.waiting (d : Dev) (s i : Nat) : Nat := bytesOf (d.items (queOf s)) - (d.sink s i).pos

/-- Sink `i` takes `n` bytes that wait for it; `cur` says that they belong to a packet still in progress. -/
def Dev.takeBytes (d : Dev) (s i n : Nat) (cur : Bool) : Dev × List (Byte × Bool) :=
  let q := queOf s
  let p := (d.sink s i).pos
  let r := d.checkItems q (d.items q).length 0 p n (d.sink s i).counted
  let l := ((r.1.queueBytes q).drop p).take n
  ((r.1.modSink s i fun x => { x with pos := x.pos + n, cur := if cur then x.cur + n else 0, counted := r.2 }).trimStream s, l)

/-- Walks the link entries of the items that bytes [`pos`, `pos + n`) of a queue lie in; true where the queue broke (R276). -/
def Dev.linkWalk (d : Dev) (q : Nat) : Nat → Nat → Nat → Nat → Dev × Bool
  | 0, _, _, _ => (d, false)
  | k + 1, j, pos, n =>
    match (d.items q)[j]? with
    | none => (d, false)
    | some it =>
      let len := it.data.length
      if n = 0 then (d, false)
      else if len ≤ pos then d.linkWalk q k (j + 1) (pos - len) n
      else match d.linkRead q j with
        | (d1, some ci) => (d1.linkBreak q j ci, true)
        | (d1, none) => d1.linkWalk q k (j + 1) 0 (n - (len - pos))

/-- Sink `i` takes `n` waiting bytes through the link memory and the checkers; none where its queue broke. -/
def Dev.sinkTake (d : Dev) (s i n : Nat) (cur : Bool) : Dev × Option (List (Byte × Bool)) :=
  match d.linkWalk (queOf s) (d.items (queOf s)).length 0 (d.sink s i).pos n with
  | (d1, true) => (d1, none)
  | (d1, false) => let r := d1.takeBytes s i n cur; (r.1, some r.2)

/-- The item that a queue's mode reads next (Table 09.2). -/
def Dev.nextItem (d : Dev) (q : Nat) : Option Nat :=
  let l := d.items q
  if l = [] then none
  else if d.get (F.QUE_W0_MODE q) = 2 then
    let m := (l.map Item.prio).foldl max 0
    some (l.findIdx fun x => x.prio == m)
  else some 0

/-- Takes item `j` out of a device queue through the link memory and the checkers: the item as read, or none where the queue
broke. A poisoned one is counted (R265). -/
def Dev.dequeue (d : Dev) (q j : Nat) : Dev × Option Item :=
  match d.linkRead q j with
  | (d1, some ci) => (d1.linkBreak q j ci, none)
  | (d1, none) =>
    let d2 := d1.checkItem q j 0 ((((d1.items q)[j]?).map fun x => x.data.length).getD 0)
    match (d2.items q)[j]? with
    | none => (d2, none)
    | some it =>
      let d3 := if (d2.itemBytes it).any (·.2) then (d2.bump (F.QUE_W3_POISON q)).owe [.poison q (it.poison != [])] else d2
      (d3.removeItem q j, some it)

/-- A sink underran: counted, and notified (R263, R274). -/
def Dev.underrun (d : Dev) (s : Nat) : Dev := (d.bump (F.QUE_W3_UNDER (queOf s))).owe [.under (queOf s)]

/-- Sample frames with a poisoned byte become zero (Table 09.6); frames of `fb` bytes. -/
def zeroPoisoned (fb : Nat) : Nat → List (Byte × Bool) → List Byte
  | 0, _ => []
  | k + 1, l =>
    let f := l.take fb
    (if f.any (·.2) then f.map fun _ => 0 else f.map (·.1)) ++ zeroPoisoned fb k (l.drop fb)

/-- A sink at its packet boundary takes a whole packet of `n` bytes, or underruns (R263); on a fenced stream it underruns
without a fault event (R275, R483). -/
def Dev.sinkPacket (d : Dev) (s i n : Nat) (cur : Bool := false) : Dev × Option (List (Byte × Bool)) :=
  if d.strState s = 5 ∧ (d.stream s).preFence = 3 ∧ (d.sink s i).active then
    ((d.bump (F.QUE_W3_UNDER (queOf s))).owe [.note (queOf s) 1], none)
  else if d.strState s ≠ 3 ∨ !(d.sink s i).active then (d, none)
  else if d.waiting s i < n then (d.underrun s, none)
  else d.sinkTake s i n cur

/-- PREFILL is reached: RUN, and the sinks begin (R262). -/
def Dev.primed (d : Dev) (s : Nat) : Dev :=
  if d.strState s = 2 ∧ d.get (F.STR_W1_PREFILL s) ≤ d.qCells (queOf s) then
    (d.set (F.STR_W0_STATE s) 3).modStream s fun x => { x with sinks := x.sinks.map fun e => (e.1, { e.2 with active := true }) }
  else d

/-- A source delivers an item: taken while PRIMING or RUN, discarded otherwise (R262, R264, R275). -/
def Dev.itemIn (d : Dev) (s : Nat) (data : List Byte) (stamp : Nat) (poison : Bool) : Dev :=
  if (d.strState s = 2 ∨ d.strState s = 3) ∧ !(d.stream s).srcLost ∧ data ≠ [] then
    ((d.enqueue (queOf s) data 0 stamp poison).1).primed s
  else d

/-! ### Losing endpoints (R26, R270, R587) -/

/-- The stream loses its source endpoint; `dead` where that endpoint never delivers again. -/
def Dev.sourceLost (d : Dev) (s : Nat) (dead : Bool) : Dev :=
  if !d.strBound s then d
  else
    let x := d.stream s
    let d1 := d.setStream s { x with srcLost := true, srcDead := x.srcDead || dead }
    if x.srcLost then d1 else d1.notify (d.strOwner s) 0x0A01 s (statusCode .eLink) 0

/-- The endpoint delivers again. -/
def Dev.sourceBack (d : Dev) (s : Nat) : Dev :=
  let x := d.stream s
  if x.srcLost && !x.srcDead then d.setStream s { x with srcLost := false } else d

/-- Gives up a sink: its claim, its reservation and its read position. -/
def Dev.removeSink (d : Dev) (s i : Nat) : Dev :=
  let k := d.sink s i
  let d1 := d.usbRelease (d.get (sownFld s i)) k.charge
  let d2 := (d1.set (sinkFld s i) 0).set (sownFld s i) 0
  (d2.modStream s fun x => { x with sinks := mapErase x.sinks i }).trimStream s

/-- The BUF descriptors dispatched on a submission ring. -/
def isBuf (t q : Nat) (tk : Tkt) : Bool := tk.op == 0x16 && tk.t == t && tk.sq == q

/-- The RING descriptors of an endpoint end with a status. -/
def Dev.endBufs (d : Dev) (c : Nat) (st : Status) : Dev :=
  if epKind c = 5 then d.endTkts (isBuf (ringTenant c) (ringSq c)) st else d

/-- The RING buffer that sink `i` is filling ends with a status, the frames written and its timestamp; those behind it end
with the same status. -/
def Dev.endSinkBuf (d : Dev) (s i : Nat) (st : Status) : Dev :=
  let c := d.sinkCode s i
  match d.live (isBuf (ringTenant c) (ringSq c)) with
  | [] => d
  | tk :: _ =>
    if epKind c = 5 then
      (if 0 < tk.moved then d.finish tk st tk.moved (d.sink s i).firstStamp else d).endBufs c st
    else d

/-- The stream loses sink `i`: STR_SINK_LOST with E_LINK to its owner (R270, R205). -/
def Dev.sinkLost (d : Dev) (s i : Nat) : Dev :=
  ((d.endSinkBuf s i .eFlushed).removeSink s i).notify (d.strOwner s) 0x0A00 s (statusCode .eLink) 0

/-- Every stream loses its source where the code meets `p`, and every sink whose code does. -/
def Dev.loseSources (d : Dev) (p : Nat → Bool) (dead : Bool) : Dev :=
  (d.boundStreams.filter fun s => p (d.srcCode s)).foldl (fun d s => d.sourceLost s dead) d

def Dev.loseSinks (d : Dev) (p : Nat → Bool) : Dev :=
  d.boundStreams.foldl (fun d s =>
    ((d.stream s).sinks.filter fun e => p (d.sinkCode s e.1)).foldl (fun d e => d.sinkLost s e.1) d) d

def Dev.sourcesBack (d : Dev) (p : Nat → Bool) : Dev :=
  (d.boundStreams.filter fun s => p (d.srcCode s)).foldl (fun d s => d.sourceBack s) d

/-- Gives up sink `i` where it was detached: its last packet is over (R261). -/
def Dev.sinkLeaves (d : Dev) (s i : Nat) : Dev := if (d.sink s i).leaving then d.removeSink s i else d

/-- The same for the streams that tenant `t` owns (R587). -/
def Dev.sourcesBackOf (d : Dev) (t : Nat) (p : Nat → Bool) : Dev :=
  (d.boundStreams.filter fun s => p (d.srcCode s) && d.strOwner s == t).foldl (fun d s => d.sourceBack s) d

/-! ### Flush and unbind (R264, R275) -/

/-- Step 1 and the ending of descriptors in step 2 of a flush (Table 09.5). -/
def Dev.startFlush (d : Dev) (s : Nat) : Dev :=
  if !d.strBound s then d
  else
    let d1 := if d.strState s = 5 then d.modStream s fun x => { x with preFence := 4 } else d.set (F.STR_W0_STATE s) 4
    let d2 := (d1.set (F.QUE_W1_FLUSHING (queOf s)) 1).endBufs (d.srcCode s) .eFlushed
    (d.stream s).sinks.foldl (fun d e =>
      let d3 := d.endSinkBuf s e.1 .eFlushed
      if epKind (d3.sinkCode s e.1) = 5 then d3.sinkLeaves s e.1 else d3) d2

/-- The stream is being flushed. -/
def Dev.flushing (d : Dev) (s : Nat) : Bool := d.strState s == 4 || (d.strState s == 5 && (d.stream s).preFence == 4)

/-- A sink's position after a flush: it keeps its reservation alone. -/
def SinkPos.flushed (p : SinkPos) : SinkPos := { cost := p.cost, charge := p.charge, leaving := p.leaving }

/-- Steps 2 and 3: packets and items in progress have ended; the queue's cells are wiped and freed. -/
def Dev.drain (d : Dev) (s : Nat) : Dev :=
  if d.flushing s then
    ((d.stream s).sinks.foldl (fun d e => d.sinkLeaves s e.1) (d.emptyQueue (queOf s))).modStream s fun x =>
      { x with drained := true, sinks := x.sinks.map fun e => (e.1, e.2.flushed) }
  else d

/-- Step 4: BOUND again, and the flush descriptors naming the stream complete. (DEDUCED, log entry 43). -/
def Dev.flushDone (d : Dev) (s : Nat) : Dev :=
  if d.flushing s && (d.stream s).drained then
    let d1 := if d.strState s = 5 then d.modStream s fun x => { x with preFence := 1, drained := false }
      else (d.set (F.STR_W0_STATE s) 1).modStream s fun x => { x with drained := false }
    (d1.set (F.QUE_W1_FLUSHING (queOf s)) 0).endTkts (fun tk => tk.op == 0x14 && bits (tk.word 1) 0 8 == s) .done
  else d

/-- Returns a stream to IDLE: its claims and reservations end (R317, R337). (DEDUCED, log entry 43). -/
def Dev.unbindStream (d : Dev) (s : Nat) : Dev :=
  let x := d.stream s
  let d1 := x.sinks.foldl (fun d e => (d.endSinkBuf s e.1 .eFlushed).removeSink s e.1) d
  let d2 := ((d1.endBufs (d1.srcCode s) .eFlushed).usbRelease (d.strOwner s) x.charge).emptyQueue (queOf s)
  let d3 := d2.resetRange (0x6000 + 0x20 * s) (0x6000 + 0x20 * s + 0x20)
  let d4 := ((d3.set (F.QUE_W0_MODE (queOf s)) 0).set (F.QUE_W0_DEPTH (queOf s)) 0).set (F.QUE_W0_OWNER (queOf s)) 0
  (d4.set (F.QUE_W1_FLUSHING (queOf s)) 0).setStream s {}

/-- A fenced stream takes nothing from its source and its sinks underrun; one that was IDLE shows FENCED (R260, R275). -/
def Dev.fenceStream (d : Dev) (s : Nat) : Dev :=
  if d.strState s = 5 then d
  else (d.modStream s fun x => { x with preFence := d.strState s }).set (F.STR_W0_STATE s) 5

/-- The return of a fenced stream: the state before the fence, a RUN stream re-entering PRIMING (R275). -/
def Dev.returnStream (d : Dev) (s : Nat) : Dev :=
  if d.strState s ≠ 5 then d
  else
    let p := (d.stream s).preFence
    let d1 := (d.set (F.STR_W0_STATE s) (if p = 3 then 2 else p)).modStream s fun x => { x with preFence := 0 }
    if p = 3 then
      (d1.modStream s fun x => { x with sinks := x.sinks.map fun e => (e.1, { e.2 with active := false, aligned := false }) }).primed s
    else d1

end Sys2Proof.Machine
end

