-- ==== Sys2Proof/Machine/YokOps.lean ====
section
/-!
DEFINITION. Operations of the yoke that several causes share (chapter 14): its events, pairing, and the mirror command.
-/
namespace Sys2Proof.Machine

open Sys2Proof

/-- `a` is newer than `b` in serial-number arithmetic of 32 bits. -/
def newer32 (a b : Nat) : Bool := let e := (a + 2 ^ 32 - b) % 2 ^ 32; decide (0 < e) && decide (e < 2 ^ 31)

def Dev.yokRole (d : Dev) : Nat := d.get F.YOK_STAT_ROLE

def Dev.modYok (d : Dev) (f : Yok → Yok) : Dev := { d with yok := f d.yok }

/-- An event of the yoke by its bit in YOK_INT, for T000 and the steward. (DEDUCED, log entry 57). -/
def Dev.yokEvent (d : Dev) (bit arg count : Nat) : Dev := d.raise (bitFld 0x1100C bit) (0x1200 + bit) [0] 0 arg count

/-- YOK_MTXCMD completes. -/
def Dev.endMtx (d : Dev) (st : Status) : Dev :=
  if d.is F.YOK_MTXCMD_BUSY then
    ((d.set F.YOK_MTXCMD_BUSY 0).set F.YOK_MTXCMD_STATUS (statusCode st)).modYok fun y => { y with recAt := none }
  else d

/-- HLY is UP and a valid beat of the opposite role is fresh: the peer's ALIAS and SIDE. -/
def Dev.yokPeer (d : Dev) : Option (Nat × Nat) :=
  match d.yok.peer with
  | none => none
  | some (lead, alias_, side) =>
    if d.get (F.HAY_LANE0_STATE 5) = 3 ∧ ((d.yokRole = 2 ∧ !lead) ∨ (d.yokRole = 3 ∧ lead)) then some (alias_, side) else none

/-- PAIRED rises: the lead starts a full set, the wheel expects MGEN 1 (R408, R409). -/
def Dev.pairUp (d : Dev) : Dev :=
  let d1 := (d.set F.YOK_STAT_PAIRED 1).set F.YOK_MGEN_MGEN 0
  (d1.modYok fun y => { y with next := if d.yokRole = 2 then 0 else 257, sent := [], unacked := [], resends := 0 }).yokEvent 1 0 0

/-- PAIRED falls: MSYNC clears, what is in progress ends, and source 41 counts (R410, R420, R422). -/
def Dev.pairDown (d : Dev) : Dev :=
  let d1 := (((d.set F.YOK_STAT_PAIRED 0).set F.YOK_STAT_MSYNC 0).bump F.YOK_CNT_LOSSES).endMtx .eLink
  ((d1.modYok fun y => { y with next := 257, unacked := [], resends := 0 }).yokEvent 2 0 0).oweFault 0x242 41

/-- PAIRED and MISMATCH follow what is known of the peer (R407). (DEDUCED, log entry 69). -/
def Dev.yokEval (d : Dev) : Dev :=
  let bad := match d.yokPeer with
    | none => false
    | some (a, s) => a != d.get F.YOK_CFG_ALIAS || s == d.get F.YOK_CFG_SIDE
  let d1 := if bad == d.is F.YOK_STAT_MISMATCH then d
    else if bad then ((d.set F.YOK_STAT_MISMATCH 1).yokEvent 4 0 0).oweFault 0x242 42 else d.set F.YOK_STAT_MISMATCH 0
  let now := d1.yokPeer.isSome && !bad
  if now == d1.is F.YOK_STAT_PAIRED then d1 else if now then d1.pairUp else d1.pairDown

end Sys2Proof.Machine
end

