-- ==== Sys2Proof/Machine/HayOps.lean ====
section
/-!
DEFINITION. Operations of Haywain and the Almanac that several causes share (chapter 13): bales on the wire, lanes, control
bales, the tree and its routes, path reservations and flows, and the servo.
-/
namespace Sys2Proof.Machine

open Sys2Proof

/-! ### Bales (R361 to R364, Tables 13.1 to 13.4) -/

/-- A bale's header fields, its bytes 8 to 15 and its payload. -/
structure Bale where
  type : Nat
  poison : Bool := false
  ackv : Bool := false
  hops : Nat := 0
  prio : Nat := 0
  dst : Nat := 0
  src : Nat := 0
  rate : Nat := 0
  h : List Byte := []
  data : List Byte := []
  deriving DecidableEq, Repr

/-- Header and payload in wire order. -/
def Bale.bytes (b : Bale) : List Byte :=
  beBytes 2 (0x1000 + b.type * 256 + bitNat b.poison * 128 + bitNat b.ackv * 64 + b.hops) ++
    beBytes 2 (b.prio * 8192 + b.dst) ++ beBytes 2 b.src ++ beBytes 2 (b.rate * 4096 + b.data.length) ++
    (b.h ++ List.replicate 8 0).take 8 ++ b.data

/-- Pad bytes that bring a payload to a multiple of 4. -/
def padBytes (n : Nat) : List Byte := List.replicate ((4 - n % 4) % 4) 0

/-- The bale with its pad and CRC. -/
def wireBale (l : List Byte) : List Byte :=
  let p := l ++ padBytes (l.length - 16)
  p ++ beBytes 4 (crc32 p)

/-- The fields of a header and payload. -/
def parseBale (l : List Byte) : Bale :=
  let a := beNat (l.take 2)
  let c := beNat ((l.drop 2).take 2)
  let e := beNat ((l.drop 6).take 2)
  { type := bits a 8 4, poison := bitOf a 7, ackv := bitOf a 6, hops := bits a 0 5, prio := bits c 13 3, dst := bits c 0 12,
    src := bits (beNat ((l.drop 4).take 2)) 0 12, rate := bits e 12 4, h := (l.drop 8).take 8, data := l.drop 16 }

/-- Bytes [i, i + n) of bytes 8 to 15, as a number; `i` counts from byte 8. -/
def Bale.hd (b : Bale) (i n : Nat) : Nat := beNat ((b.h.drop i).take n)

def Bale.ctype (b : Bale) : Nat := b.hd 6 1
def Bale.seq (b : Bale) : Nat := b.hd 0 2
def Bale.sub (b : Bale) : Nat := if b.type = 2 then b.ctype else if b.type = 5 then b.hd 4 1 else b.hd 0 1

/-- A payload field. -/
def Bale.pay (b : Bale) (i n : Nat) : Nat := beNat ((b.data.drop i).take n)

/-- Bytes 8 to 15 that a type does not list are 0. -/
def Bale.tailZero (b : Bale) : Bool :=
  match b.type with
  | 1 => bitOf (b.hd 3 1) 7 == false
  | 2 => b.hd 7 1 == 0
  | 5 => b.hd 5 3 == 0
  | _ => b.hd 1 7 == 0

/-- The length and the sub-type agree with Tables 13.3, 13.4 and 14.1, and reserved payload bits are 0. (DEDUCED, log entry 51). -/
def Bale.shapeOk (b : Bale) : Bool :=
  let n := b.data.length
  match b.type, b.sub with
  | 1, _ => true
  | 2, 0 => n == 0
  | 2, 1 | 2, 2 | 2, 4 => n == 4 && b.pay 3 1 == 0
  | 2, 3 => n == 4
  | 2, 0x10 => true
  | 3, 1 | 3, 2 => n == 8
  | 3, 3 => n == 24
  | 3, 4 => n == 12 && b.pay 9 3 == 0
  | 3, 5 => n == 12 && decide (b.pay 8 2 < 4096) && b.pay 10 2 == 0
  | 4, 1 => n == 0
  | 4, 2 => decide (2 ≤ n) && n % 2 == 0 && (List.range (n / 2)).all fun i => b.pay (2 * i) 2 / 4096 % 8 == 0
  | 4, 3 => n == 2 && decide (b.pay 0 2 < 4096)
  | 4, 4 => true
  | 5, 1 | 5, 2 => n == 16 && bits (b.pay 0 2) 12 1 == 0 && b.pay 11 5 == 0
  | 5, 3 => decide (8 ≤ n) && b.pay 0 4 != 0
  | _, _ => false

/-- A hop-local bale: ALMANAC, YOKE, and ROUTE but for BCAST. -/
def Bale.local (b : Bale) : Bool := b.type == 3 || b.type == 5 || (b.type == 4 && b.sub != 4)

/-- A received bale with its CRC good is kept: none of the drops of R364 holds. (DEDUCED, log entry 51). -/
def wireOk (l : List Byte) : Bool :=
  let a := beNat (l.take 2)
  let c := beNat ((l.drop 2).take 2)
  let e := beNat ((l.drop 6).take 2)
  let len := bits e 0 10
  let b := parseBale (l.take (16 + len))
  decide (20 ≤ l.length) && bits a 12 4 == 1 && bits a 8 4 != 0 && decide (bits a 8 4 < 6) && !bitOf a 5 && !bitOf c 12 &&
    bits (beNat ((l.drop 4).take 2)) 12 4 == 0 && bits e 10 2 == 0 && decide (len ≤ 512) &&
    l.length == 20 + len + (4 - len % 4) % 4 && ((l.drop (16 + len)).take ((4 - len % 4) % 4)).all (· == 0) &&
    (!b.poison || b.type == 1) && (!b.ackv || b.type == 2) && (b.prio == 0 || b.type == 2) && (b.rate == 0 || b.type == 1) &&
    (!b.local || (b.dst == 0 && b.hops == 0)) && b.tailZero && b.shapeOk

/-! ### Lanes -/

def Dev.lane (d : Dev) (n : Nat) : HLane := mapGet {} d.hay.lane n

def Dev.setLane (d : Dev) (n : Nat) (x : HLane) : Dev := { d with hay := { d.hay with lane := mapPut {} d.hay.lane n x } }

def Dev.modLane (d : Dev) (n : Nat) (f : HLane → HLane) : Dev := d.setLane n (f (d.lane n))

def Dev.laneUp (d : Dev) (n : Nat) : Bool := d.get (F.HAY_LANE0_STATE n) == 3
def Dev.laneRole (d : Dev) (n : Nat) : Nat := d.get (F.HAY_LANE0_ROLE n)
def Dev.laneFenced (d : Dev) (n : Nat) : Bool := d.is (F.HAY_LANE0_FENCED n)

def lanes : List Nat := [0, 1, 2, 3, 4, 5]

def Dev.upLanes (d : Dev) : List Nat := lanes.filter d.laneUp

/-- The lane trains (R358): Haywain and the lane enabled, the alternate mode entered, or the yoke enabled for HLY. -/
def Dev.laneEnabled (d : Dev) (n : Nat) : Bool :=
  d.is F.HAY_CTRL_EN && d.is (F.HAY_LANE0_EN n) && !d.laneFenced n &&
    (if n = 5 then d.is F.YOK_CTRL_EN else d.is (F.PD_STAT_ALTMODE n))

def Dev.unitId (d : Dev) : Nat := d.get F.HAY_UNIT_ID

/-- The unit answers to `i` (R365). -/
def Dev.isMe (d : Dev) (i : Nat) : Bool := i == d.unitId || (d.is F.HAY_UNIT_ALIASV && i == d.get F.HAY_UNIT_ALIAS)

/-- An event of Haywain by its bit in HAY_INT. -/
def Dev.hayEvent (d : Dev) (bit inst arg : Nat) (ts : List Nat) : Dev := d.raise (bitFld 0xF010 bit) (0x1000 + bit) ts inst arg 0

/-- An event of the Almanac by its bit in ALM_INT. -/
def Dev.almEvent (d : Dev) (bit : Nat) : Dev := d.raise (bitFld 0x1000C bit) (0x1100 + bit) [0] 0 0 0

/-- Counts a dropped bale. -/
def Dev.dropBale (d : Dev) (n : Nat) : Dev := d.bump (F.HAY_LANEC_DROP n)

/-- Sends a bale on a lane; on a lane that is not UP it is lost. -/
def Dev.sendBale (d : Dev) (n : Nat) (b : Bale) : Dev :=
  if d.laneUp n && !d.phyHeld then d.emit .bale n [b.type] (wireBale b.bytes) else d

/-- A hop-local bale of this unit. -/
def Dev.mkLocal (d : Dev) (type sub : Nat) (data : List Byte) : Bale :=
  { type := type, src := d.unitId, h := leBytes 1 sub, data := data }

/-! ### Control bales (R376, R377) -/

/-- CREDIT as this unit advertises it on a lane. -/
def Dev.ownCredit (d : Dev) (n : Nat) : Nat :=
  ((d.lane n).rx + (d.get (F.QUE_W0_DEPTH (262 + n)) - d.qCells (262 + n)) / 9) % 65536

/-- Bytes 8 to 15 of a control bale: SEQ, ACK, CREDIT and CTYPE. -/
def Dev.ctlHead (d : Dev) (n seq ctype : Nat) : List Byte :=
  beBytes 2 seq ++ beBytes 2 (d.lane n).rx ++ beBytes 2 (d.ownCredit n) ++ leBytes 1 ctype ++ [0]

/-- Puts a control bale on the wire with its SEQ and the present ACK and CREDIT. -/
def Dev.putControl (d : Dev) (n seq : Nat) (l : List Byte) : Dev :=
  let b := parseBale l
  (d.sendBale n { b with ackv := true, h := d.ctlHead n seq b.ctype }).modLane n fun x => { x with ackDue := false }

/-- The next waiting control bale may be sent. -/
def Dev.windowOpen (d : Dev) (n : Nat) : Bool :=
  let x := d.lane n
  let c := (x.credit + 65536 - x.tx) % 65536
  d.laneUp n && !d.phyHeld && decide (x.unacked.length < 32) && decide (1 ≤ c) && decide (c ≤ 32768)

/-- Sends waiting control bales, highest PRIO first, while the window is open; the number bounds how many. -/
def Dev.pumpControl (d : Dev) (n : Nat) : Nat → Dev
  | 0 => d
  | k + 1 =>
    if !d.windowOpen n then d
    else match d.nextItem (256 + n) with
      | none => d
      | some j =>
        match d.dequeue (256 + n) j with
        | (d1, none) => d1
        | (d1, some it) =>
          let s := (d1.lane n).tx
          let d2 := d1.modLane n fun x =>
            { x with tx := (x.tx + 1) % 65536, unacked := x.unacked ++ [(s, it.data, it.stamp == 1)] }
          (d2.putControl n s it.data).pumpControl n k

/-- A control bale goes to the transmit queue of its lane; `ctx` marks that of HAY_CTXCMD. (DEDUCED, log entry 53). -/
def Dev.queueControl (d : Dev) (n : Nat) (b : Bale) (ctx : Bool) : Dev :=
  if d.lar.qFenced.contains (256 + n) then d
  else ((d.enqueue (256 + n) b.bytes b.prio (bitNat ctx) false).1).pumpControl n 32

/-- HAY_CTXCMD completes. -/
def Dev.ctxDone (d : Dev) (st : Status) : Dev :=
  if d.is F.HAY_CTXCMD_BUSY then (d.set F.HAY_CTXCMD_BUSY 0).set F.HAY_CTXSTAT_STATUS (statusCode st) else d

/-- Shows the oldest kept control bale in HAY_CRXSTAT and HAY_CRXBUF (R378). -/
def Dev.oldestKept (d : Dev) : Option (Nat × Nat × Item) :=
  (lanes.foldr (fun n l => (((d.items (262 + n)).zipIdx).map fun e => (n, e.2, e.1)) ++ l) []).foldl
    (fun best e => match best with
      | none => some e
      | some b => if e.2.2.stamp < b.2.2.stamp then some e else some b) none

def Dev.showKept (d : Dev) : Dev :=
  match d.oldestKept with
  | none => (((d.set F.HAY_CRXSTAT_VALID 0).set F.HAY_CRXSTAT_BCAST 0).set F.HAY_CRXSTAT_SRC 0).set F.HAY_CRXSTAT_LEN 0
  | some (_, _, it) =>
    let b := parseBale it.data
    let d1 := (((d.set F.HAY_CRXSTAT_VALID 1).set F.HAY_CRXSTAT_BCAST (bitNat (b.type == 4))).set F.HAY_CRXSTAT_SRC b.src).set
      F.HAY_CRXSTAT_LEN b.data.length
    d1.putBytes F.HAY_CRXBUF_DATA 0 b.data

/-- Keeps an APP or BCAST bale in the control receive queue of its lane and raises HAY_CTL_RX (R378). (DEDUCED, log entry 53). -/
def Dev.keepBale (d : Dev) (n : Nat) (b : Bale) : Dev :=
  if d.lar.qFenced.contains (262 + n) then d
  else
    let d1 := (d.enqueue (262 + n) b.bytes b.prio d.hay.rxCount false).1
    let d2 := { d1 with hay := { d1.hay with rxCount := d1.hay.rxCount + 1 } }
    (if d2.is F.HAY_CRXSTAT_VALID then d2 else d2.showKept).hayEvent 7 n 0 [0]

/-! ### Routes (R368, R370) -/

/-- The child lane a route entry names. -/
def Dev.routeLane (d : Dev) (i : Nat) : Option Nat := (mapFind d.hay.route i).map fun e => e.1 - 1

/-- The parent lane, if any. -/
def Dev.parentLane (d : Dev) : Option Nat := if d.get F.HAY_STAT_PARENT = 7 then none else some (d.get F.HAY_STAT_PARENT)

/-- The lane a bale for `i` leaves on: that of its entry, else the parent's. -/
def Dev.nextHop (d : Dev) (i : Nat) : Option Nat :=
  match d.routeLane i with
  | some n => some n
  | none => d.parentLane

/-- HAY_STAT.UNITS: the unit and its subtree, an alias not counted twice. -/
def Dev.showUnits (d : Dev) : Dev := d.set F.HAY_STAT_UNITS (1 + (d.hay.route.filter fun e => !e.2.2).length)

/-! ### Path reservations (R371, R372, R375, R388) -/

/-- The cost of a reservation on each lane of its path. -/
def laneCost (n : Nat) : Nat := ceilDiv n 16 * 16 + 28 * ceilDiv n 512

/-- Bytes reserved on an outgoing lane, but for one reservation. -/
def Dev.reserved (d : Dev) (n : Nat) (p : Resv → Bool) : Nat :=
  ((d.hay.resv.filter fun r => r.outLane == n && !p r).map fun r => laneCost r.bytes).foldl (· + ·) 0

def Dev.showUsed (d : Dev) : Dev := lanes.foldl (fun d n => d.set (F.HAY_LANE4_AUSED n) (d.reserved n fun _ => false)) d

def Dev.setResv (d : Dev) (l : List Resv) : Dev := ({ d with hay := { d.hay with resv := l } } : Dev).showUsed

/-- A reservation is that of (SRC, DST, DFLOW). -/
def resvIs (src dst dflow : Nat) (r : Resv) : Bool := r.src == src && r.dst == dst && r.dflow == dflow

def Dev.findResv (d : Dev) (src dst dflow : Nat) : Option Resv := d.hay.resv.find? (resvIs src dst dflow)

/-- Frees this unit's part of a reservation; its transit queue is emptied. (DEDUCED, log entry 52). -/
def Dev.freeResv (d : Dev) (src dst dflow : Nat) : Dev :=
  match d.findResv src dst dflow with
  | none => d
  | some r =>
    let d1 := if r.queue = 0 then d else d.emptyQueue r.queue
    d1.setResv (d1.hay.resv.filter fun x => !resvIs src dst dflow x)

/-- The transit queues of Table 09.1. -/
def transitQueues : List Nat := (List.range 244).map (· + 268) ++ (List.range 256).map (· + 768)

def Dev.freeTransit (d : Dev) : Option Nat := transitQueues.find? fun q => !d.hay.resv.any fun r => r.queue == q

/-- Takes this unit's part of a reservation of `n` bytes on lane `out`: the reason of a refusal (Table 13.5), or the state. -/
def Dev.takeResv (d : Dev) (src dst dflow inLane out n : Nat) : Nat ⊕ Dev :=
  let old := d.findResv src dst dflow
  if d.get (F.HAY_LANE4_ABUDGET out) < d.reserved out (resvIs src dst dflow) + laneCost n then .inl 1
  else
    let q := if inLane = 6 then some 0 else match old with
      | some r => if r.queue = 0 then d.freeTransit else some r.queue
      | none => d.freeTransit
    match q with
    | none => .inl 3
    | some q => .inr (d.setResv (⟨src, dst, dflow, inLane, out, n, q⟩ :: d.hay.resv.filter fun r => !resvIs src dst dflow r))

/-- A reservation bale: its CTYPE, ends, BYTES, DFLOW and reason. -/
def resvBale (ctype src dst n dflow reason : Nat) : Bale :=
  { type := 2, src := src, dst := dst, h := [0, 0, 0, 0, 0, 0, BitVec.ofNat 8 ctype, 0],
    data := beBytes 2 n ++ [BitVec.ofNat 8 dflow, BitVec.ofNat 8 reason] }

/-- Sends a reservation bale toward its destination, where a lane leads there. -/
def Dev.sendResv (d : Dev) (b : Bale) : Dev :=
  match d.nextHop b.dst with
  | none => d
  | some n => d.queueControl n b false

/-! ### Flows (R372, R388, R390) -/

def Dev.flow (d : Dev) (f : Nat) : Flow := mapGet {} d.hay.flow f

def Dev.setFlow (d : Dev) (f : Nat) (x : Flow) : Dev := { d with hay := { d.hay with flow := mapPut {} d.hay.flow f x } }

def Dev.modFlow (d : Dev) (f : Nat) (g : Flow → Flow) : Dev := d.setFlow f (g (d.flow f))

def Dev.flowOpen (d : Dev) (f : Nat) : Bool := d.is (F.HAY_FLOW_OPEN f)

/-- A HAYOPEN descriptor of flow `f`. -/
def isHayopen (f : Nat) (tk : Tkt) : Bool := tk.op == 0x20 && bits (tk.word 1) 0 8 == f

def hayCode (f : Nat) : Nat → Bool := fun c => epKind c == 4 && epId c % 256 == f

/-- Gives up a flow: its path from this unit, its charge and its entry, but for the counts, which CNTCLR clears. `tell` sends RESV_FREE along the path.
 (DEDUCED, log entry 55). -/
def Dev.dropFlow (d : Dev) (f : Nat) (tell : Bool) : Dev :=
  let x := d.flow f
  let u := d.get (F.HAY_FLOW_UNIT f)
  let d1 := if d.is (F.HAY_FLOW_DIR f) then d
    else
      let e := if tell then d.sendResv (resvBale 4 d.unitId u x.bytes x.farFlow 0) else d
      e.freeResv d.unitId u x.farFlow
  let d2 := (d1.hayRelease x.owner (ceilDiv x.bytes 16)).set (F.HAY_FLOW_OPEN f) 0
  (((d2.set (F.HAY_FLOW_DIR f) 0).set (F.HAY_FLOW_REROUTING f) 0).set (F.HAY_FLOW_UNIT f) 0).setFlow f {}

/-- Closes an open flow: the stream loses it as its sink or source (R26, R587). -/
def Dev.closeFlow (d : Dev) (f : Nat) (tell : Bool) : Dev :=
  (((d.dropFlow f tell).loseSources (hayCode f) false).loseSinks (hayCode f))

/-- A pending HAYOPEN fails. -/
def Dev.failOpen (d : Dev) (f : Nat) (st : Status) (tell : Bool) : Dev := (d.dropFlow f tell).endTkts (isHayopen f) st

/-- Sends a flow's RESV_REQ on its present route; the reason of a refusal by this unit itself, or the state. -/
def Dev.requestPath (d : Dev) (f : Nat) : Nat ⊕ Dev :=
  let x := d.flow f
  let u := d.get (F.HAY_FLOW_UNIT f)
  if d.isMe u then
    if d.flowOpen x.farFlow && d.is (F.HAY_FLOW_DIR x.farFlow) && d.isMe (d.get (F.HAY_FLOW_UNIT x.farFlow)) then .inr d else .inl 2
  else match d.nextHop u with
    | none => .inl 4
    | some n =>
      match d.takeResv d.unitId u x.farFlow 6 n x.bytes with
      | .inl r => .inl r
      | .inr d1 => .inr (d1.queueControl n (resvBale 1 d1.unitId u x.bytes x.farFlow 0) false)

/-- HAYOPEN status of a reason (Table 13.5, R390). -/
def reasonStatus (r : Nat) : Status :=
  match r with
  | 1 | 3 => .eNores
  | 2 => .eState
  | 4 | 5 => .eLink
  | _ => .eInternal

/-- A path now stands: the HAYOPEN completes, or the re-reservation succeeds with HAY_REROUTE. -/
def Dev.pathUp (d : Dev) (f : Nat) : Dev :=
  let x := d.flow f
  if x.opening then
    ((d.modFlow f fun x => { x with opening := false }).set (F.HAY_FLOW_OPEN f) 1).endTkts (isHayopen f) .done
  else if d.is (F.HAY_FLOW_REROUTING f) then
    ((d.set (F.HAY_FLOW_REROUTING f) 0).modFlow f fun x => { x with tries := 0 }).hayEvent 3 f 0 [x.owner]
  else d

/-- An attempt to re-reserve fails; the flow waits for its next attempt. -/
def Dev.attempt (d : Dev) (f : Nat) : Dev :=
  let d1 := d.modFlow f fun x => { x with tries := x.tries + 1 }
  match d1.requestPath f with
  | .inl r => d1.modFlow f fun x => { x with last := statusCode (reasonStatus r) }
  | .inr d2 => if d2.isMe (d2.get (F.HAY_FLOW_UNIT f)) then d2.pathUp f else d2

/-- MOVED, or the sender's own route moved: RESV_REQ is reissued at once (R388). -/
def Dev.startReroute (d : Dev) (f : Nat) : Dev :=
  if d.flowOpen f && !d.is (F.HAY_FLOW_DIR f) then
    ((d.set (F.HAY_FLOW_REROUTING f) 1).modFlow f fun x => { x with tries := 0, last := 13 }).attempt f
  else if (d.flow f).opening then d.failOpen f .eLink true
  else d

/-- The send flow of this unit that a reservation serves. -/
def Dev.flowOf (d : Dev) (dst dflow : Nat) : Option Nat :=
  (List.range 256).find? fun f => (d.flowOpen f || (d.flow f).opening) && !d.is (F.HAY_FLOW_DIR f) &&
    d.get (F.HAY_FLOW_UNIT f) == dst && (d.flow f).farFlow == dflow

/-- A reservation whose path from here has moved or is gone: its own flow re-reserves, a forwarded one is freed and its source
told MOVED (R387, R388). -/
def Dev.moveResv (d : Dev) (r : Resv) : Dev :=
  let d1 := d.freeResv r.src r.dst r.dflow
  if r.inLane = 6 then
    match d1.flowOf r.dst r.dflow with
    | none => d1
    | some f => d1.startReroute f
  else d1.sendResv (resvBale 3 r.dst r.src r.bytes r.dflow 5)

/-- Every reservation whose route no longer leaves on its lane. (DEDUCED, log entry 54). -/
def Dev.routesMoved (d : Dev) : Dev :=
  (d.hay.resv.filter fun r => d.nextHop r.dst != some r.outLane).foldl Dev.moveResv d

/-! ### The tree (R366, R367) -/

/-- This unit's own key; a lead carries the alias in place of its ID, a wheel 0xFF in place of PRIO (R411). -/
def Dev.ownKey (d : Dev) : Nat :=
  (if d.is F.ALM_CFG_GMEN && d.yokRole != 3 then d.get F.ALM_CFG_PRIO else 255) * 2 ^ 24 + d.get F.ALM_STAT_CLASS * 2 ^ 20 +
    (if d.yokRole = 2 then d.get F.YOK_CFG_ALIAS else d.unitId)

/-- HAY_UNIT.ALIASV: a lead that is grandmaster answers to the alias (R411). -/
def Dev.showAlias (d : Dev) : Dev :=
  let d1 := if d.is F.YOK_CTRL_EN then d.set F.HAY_UNIT_ALIAS (d.get F.YOK_CFG_ALIAS) else d
  d1.setB F.HAY_UNIT_ALIASV (d1.yokRole == 2 && d1.is F.ALM_STAT_GM)

/-- The announcement of a lane counts: the lane is UP, and its GMSEQ is newer than one that went stale. -/
def Dev.offers (d : Dev) (n : Nat) : Option (Nat × Nat × Nat) :=
  if !d.laneUp n then none
  else match (d.lane n).heard with
    | none => none
    | some (k, q, h) =>
      match mapFind d.hay.seen k with
      | none => some (k, q, h)
      | some s => if newer32 q s then some (k, q, h) else none

/-- The best offer: lowest key, then fewest HOPS, then lowest lane. -/
def Dev.bestOffer (d : Dev) : Option (Nat × Nat × Nat × Nat) :=
  lanes.foldl (fun best n => match d.offers n with
    | none => best
    | some (k, q, h) => match best with
      | none => some (n, k, q, h)
      | some (m, k', q', h') => if k < k' ∨ (k = k' ∧ h < h') then some (n, k, q, h) else some (m, k', q', h')) none

/-- The roles that follow from the parent and the child lanes; a lane down within KEEP keeps its role. -/
def Dev.showRoles (d : Dev) : Dev :=
  lanes.foldl (fun d n =>
    if !d.laneUp n then d
    else d.set (F.HAY_LANE0_ROLE n)
      (if d.hay.alone ≠ 0 then 3 else if d.get F.HAY_STAT_PARENT = n then 1 else if (d.lane n).child then 2 else 3)) d

/-- Takes a grandmaster's key; ALM_GM_CHANGE where it changes. A step not yet taken falls away (R391). -/
def Dev.setGm (d : Dev) (key : Nat) : Dev :=
  if d.get F.ALM_GMKEY_KEY = key then d
  else ({ d.set F.ALM_GMKEY_KEY key with alm := { d.alm with step := 0 } } : Dev).almEvent 0

/-- Becomes or stays grandmaster of its own part. One that had a parent is in holdover (R381); its increment is exact (R379). -/
def Dev.beGm (d : Dev) : Dev :=
  let had := d.get F.HAY_STAT_PARENT != 7
  let d1 := (((d.set F.HAY_STAT_GM 1).set F.ALM_STAT_GM 1).set F.HAY_STAT_PARENT 7).set F.HAY_STAT_HOPS 0
  let d2 := { (if had then d1.set F.ALM_STAT_HOLDOVER 1 else d1) with alm := { d1.alm with inc := 536870912000, ahead := false, good := 0, bad := 0 } }
  ((d2.set F.ALM_STAT_SLEWING 0).set F.ALM_STAT_PAUSED 0).setGm d2.ownKey

/-- Takes lane `n` as parent. -/
def Dev.takeParent (d : Dev) (n key seq hops : Nat) : Dev :=
  let same := d.get F.HAY_STAT_PARENT == n
  let d1 := (((d.set F.HAY_STAT_GM 0).set F.ALM_STAT_GM 0).set F.HAY_STAT_PARENT n).set F.HAY_STAT_HOPS hops
  let d2 := if same then d1 else { d1.set F.ALM_STAT_HOLDOVER 0 with alm := { d1.alm with good := 0, bad := 0 } }
  ({ d2 with hay := { d2.hay with gmSeq := seq } } : Dev).setGm key

/-- Chooses the parent afresh (R366, R367): too deep, the unit stays alone with every lane blocked. -/
def Dev.chooseParent (d : Dev) : Dev :=
  let d0 := if d.hay.alone = 2 then { d with hay := { d.hay with alone := 0 } } else d
  let d1 :=
    if d0.hay.alone = 1 ∨ !d0.is F.HAY_UNIT_VALID ∨ !d0.is F.HAY_CTRL_EN then d0.beGm
    else match d0.bestOffer with
      | none => d0.beGm
      | some (n, k, q, h) =>
        if d0.ownKey ≤ k then d0.beGm
        else if 24 < h + 1 then
          let e := ({ d0 with hay := { d0.hay with alone := 2 } } : Dev).beGm
          if d.hay.alone = 2 then e else (e.hayEvent 5 n 0 [0]).oweFault (0x220 + n) 39
        else d0.takeParent n k q (h + 1)
  d1.showAlias.showRoles.routesMoved

/-- CLASS follows the crystal (R366). -/
def Dev.setClass (d : Dev) (c : Nat) : Dev := if d.get F.ALM_STAT_CLASS = c then d else (d.set F.ALM_STAT_CLASS c).chooseParent

/-! ### Lanes that come, go and are removed (R360, R387, R395, R396) -/

/-- A lane is no longer UP; its role and routes stand for KEEP. (DEDUCED, log entry 56). -/
def Dev.laneLost (d : Dev) (n : Nat) : Dev :=
  let st := if d.laneEnabled n then 2 else 0
  let d1 := d.set (F.HAY_LANE0_STATE n) st
  let d2 := if n = 5 then d1.yokEval else d1
  if d.laneUp n && d.get F.HAY_STAT_PARENT == n then d2.set F.ALM_STAT_HOLDOVER 1 else d2

/-- The enables of a lane changed: it starts to train, or goes to electrical idle. -/
def Dev.laneRefresh (d : Dev) (n : Nat) : Dev :=
  if d.laneEnabled n then if d.get (F.HAY_LANE0_STATE n) = 0 then d.set (F.HAY_LANE0_STATE n) 1 else d
  else if d.get (F.HAY_LANE0_STATE n) = 0 then d else d.laneLost n

/-- A lane leaves the tree: its route entries are removed, its waiting control bales discarded, and its reservations freed. -/
def Dev.removeLane (d : Dev) (n : Nat) : Dev :=
  let x := d.lane n
  let ctx := x.unacked.any (·.2.2) || (d.items (256 + n)).any fun it => it.stamp == 1
  let stale := d.get F.HAY_STAT_PARENT == n
  let d1 := ((d.setLane n { delays := x.delays }).emptyQueue (256 + n)).set (F.HAY_LANE0_ROLE n) 0
  let d2 := { d1 with hay := { d1.hay with route := d1.hay.route.filter fun e => e.2.1 != n + 1,
                                           seen := if stale then mapPut (2 ^ 32) d1.hay.seen (d1.get F.ALM_GMKEY_KEY) d1.hay.gmSeq
                                                   else d1.hay.seen } }
  let d3 := (if ctx then d2.ctxDone .eLink else d2).showUnits
  let d4 := if stale then (d3.set F.HAY_STAT_PARENT 7).set F.ALM_STAT_HOLDOVER 1 else d3
  let d5 := (d4.hay.resv.filter fun r => r.outLane == n).foldl Dev.moveResv d4
  d5.chooseParent

/-- A fenced lane goes to electrical idle, without KEEP (R396). -/
def Dev.fenceLane (d : Dev) (n : Nat) : Dev :=
  let d1 := (d.set (F.HAY_LANE0_FENCED n) 1).set (F.HAY_LANE0_STATE n) 0
  (if n = 5 then d1.yokEval else d1).removeLane n

/-- After the fallow period it retrains. -/
def Dev.returnLane (d : Dev) (n : Nat) : Dev := (d.set (F.HAY_LANE0_FENCED n) 0).laneRefresh n

/-- The lanes fall to electrical idle in a PHY hold (R67, R393). -/
def Dev.holdLanes (d : Dev) : Dev := (lanes.filter d.laneUp).foldl Dev.laneLost d

/-! ### The servo (R380 to R383) -/

/-- A rate within ±200 ppm of nominal, in thirds of 2^-32 ns. -/
def servoInc (v : Nat) : Nat := 536870912000 - 107374182 + v % 214748365

/-- A value filtered from the delays: from the least to the greatest of them. (DESIGN CHOICE, log entry 4). -/
def filtered (l : List Int) : Int :=
  let lo := l.foldl min (l.headD 0)
  let hi := l.foldl max (l.headD 0)
  lo + ((Config.delayFilter l % ((hi - lo).toNat + 1) : Nat) : Int)

/-- 40 ms in 1/8 ns. -/
def step40 : Int := 320000000

/-- A SYNC's offset `o`, in 1/8 ns, acts on the servo. (DESIGN CHOICE, log entry 4; DEDUCED, log entry 56). -/
def Dev.offset (d : Dev) (o : Int) : Dev :=
  let ns := o / 8 + (if o % 8 != 0 && Config.roundUp o then 1 else 0)
  let sat := max (-(2 ^ 31)) (min (2 ^ 31 - 1) ns)
  let d0 := d.set F.ALM_OFFSET_O (sat % (2 ^ 32)).toNat
  let a : Int := if o < 0 then -o else o
  let good := if a < 32 then d0.alm.good + 1 else 0
  let bad := if 400 < a then d0.alm.bad + 1 else 0
  let d1 := { d0 with alm := { d0.alm with good := good, bad := bad } }
  let d2 := if 16 ≤ good ∧ !d1.is F.ALM_STAT_LOCKED then (d1.set F.ALM_STAT_LOCKED 1).almEvent 2 else d1
  let d3 := if 4 ≤ bad ∧ d2.is F.ALM_STAT_LOCKED then ((d2.set F.ALM_STAT_LOCKED 0).almEvent 3).oweFault 0x241 40 else d2
  if o ≤ -step40 then
    if d3.get F.ALM_STAT_CLASS = 0 then { d3.set F.ALM_STAT_HOLDOVER 1 with alm := { d3.alm with ahead := true } }
    else if d3.is F.ALM_STAT_PAUSED then d3 else (d3.set F.ALM_STAT_PAUSED 1).almEvent 4
  else
    let d4 := ((d3.set F.ALM_STAT_HOLDOVER 0).set F.ALM_STAT_PAUSED 0).setB F.ALM_STAT_SLEWING (o != 0)
    { d4 with free := d4.free + 1
              alm := { d4.alm with ahead := false, step := if step40 ≤ o then 40000000 * (o / step40).toNat else 0,
                                   inc := servoInc (Config.servoRate d4.free o) } }

end Sys2Proof.Machine
end

