-- ==== Sys2Proof/Machine/EccOps.lean ====
section
/-!
DEFINITION. Reads and writes of the guarded memories outside the pool (chapter 16): steward SRAM (1), endpoint RAM (2) and
the steward ring partition (3), by 64-bit words.
-/
namespace Sys2Proof.Machine

open Sys2Proof

def Dev.mem (d : Dev) (m : Nat) : Map EccWord := if m = 1 then d.ecc.sram else if m = 2 then d.ecc.epm else d.ecc.part

/-- (DEDUCED, log entry 5). -/
def Dev.memWord (d : Dev) (m w : Nat) : EccWord := mapGet {} (d.mem m) w

def Dev.memSet (d : Dev) (m w : Nat) (e : EccWord) : Dev :=
  { d with ecc :=
    if m = 1 then { d.ecc with sram := mapPut {} d.ecc.sram w e }
    else if m = 2 then { d.ecc with epm := mapPut {} d.ecc.epm w e }
    else { d.ecc with part := mapPut {} d.ecc.part w e } }

/-- Larder bank that holds word `w` of the partition. -/
def Dev.partBank (d : Dev) (w : Nat) : Nat := (d.lar.partBase + w / 8) / 4096

/-- The injection target of a memory (Table 16.6). -/
def Dev.injTarget (d : Dev) (m w : Nat) : Nat := if m = 1 then 17 else if m = 2 then 18 else d.partBank w

/-- The Gleaner entry that holds a memory and word address, and the lowest free one (R465). -/
def Dev.gleanAt (d : Dev) (m w : Nat) : Option Nat :=
  (List.range 16).find? fun e => d.is (F.ECC_GLW0_VALID e) && d.get (F.ECC_GLW0_MEM e) == m && d.get (F.ECC_GLW0_ADDR e) == w

def Dev.gleanFree (d : Dev) : Option Nat := (List.range 16).find? fun e => !d.is (F.ECC_GLW0_VALID e)

/-- The check bit a one-bit syndrome names. -/
def synBit (s : Nat) : Nat := (List.range 8).findIdx fun i => bitOf s i

/-- Logs a corrected read in the Gleaner (R465). -/
def Dev.glean (d : Dev) (m w syn req : Nat) : Dev :=
  match d.gleanAt m w with
  | some e => d.bump (F.ECC_GLW1_HITS e)
  | none =>
    match d.gleanFree with
    | some e =>
      let d1 := (((d.set (F.ECC_GLW0_VALID e) 1).set (F.ECC_GLW0_MEM e) m).set (F.ECC_GLW0_ADDR e) w).set (F.ECC_GLW0_BIT e)
        (64 + synBit syn)
      let d2 := (((d1.set (F.ECC_GLW1_HITS e) 1).set (F.ECC_GLW1_SYN e) syn).set (F.ECC_GLW1_REQ e) req).set
        (F.ECC_GLW2_SECONDS e) (d.get F.SUP_SECONDS_COUNT)
      (d2.set F.ECC_GLSTAT_COUNT (d.get F.ECC_GLSTAT_COUNT + 1)).raise F.ECC_INT_GLEAN 0x1502 [0] 0 0 0
    | none =>
      if d.get F.ECC_GLSTAT_OVF = 0xFFFF then d
      else
        let d0 := d.bump F.ECC_GLSTAT_OVF
        let d1 := if d0.get F.ECC_GLSTAT_OVF = 0xFFFF then d0.set F.ECC_GLSTAT_OVFSAT 1 else d0
        if d.get F.ECC_GLSTAT_OVF = 0 then d1.raise F.ECC_INT_GLFULL 0x1503 [0] 0 0 0 else d1

/-- What a read of class `cls` (R456) of word `w` with syndrome `syn` by requester `req` brings about (R464 to R466).
 (DEDUCED, log entry 62). -/
def Dev.memClass (d : Dev) (m w syn req : Nat) : Dev :=
  match eccClass syn with
  | 0 => d
  | 1 => if m = 3 then d.owe [.corrected (d.partBank w)] else d.glean m w syn req
  | c =>
    let k := if c = 2 then 1 else 0
    if m = 3 then
      let cell := d.lar.partBase + w / 8
      let d1 := d.larUe k req cell (w % 8)
      if req = 2 ∨ d1.ecc.partPoison.contains cell then d1
      else { d1 with ecc := { d1.ecc with partPoison := cell :: d1.ecc.partPoison } }
    else
      let d1 := ((d.ueRecord k m req (8 * w)).bump (if c = 2 then F.ECC_UECNT_WIPE else F.ECC_UECNT_UE)).oweFault 0x244 50
      d1.raise F.ECC_INT_UE 0x1504 [0] 0 k 0

/-- Writes a whole word; its check bits are subject to injection (R467). -/
def Dev.memPut (d : Dev) (m w v : Nat) : Dev :=
  let k := d.injects (d.injTarget m w) 1
  ((d.injUse k).memSet m w ⟨v % 2 ^ 64, if k = 0 then 0 else d.get F.ECC_INJ_MASK⟩)

/-- Replaces `n` bytes of a 64-bit value from byte `b` on. -/
def mergeBytes (old b n v : Nat) : Nat := old - bits old (8 * b) (8 * n) * 2 ^ (8 * b) + v % 2 ^ (8 * n) * 2 ^ (8 * b)

/-- A read-modify-write, which never makes an uncorrectable word readable (R458, R459). -/
def Dev.memRmw (d : Dev) (m w b n v : Nat) : Dev :=
  let e := d.memWord m w
  let x := mergeBytes e.data b n v
  match eccClass e.syn with
  | 2 => d.memSet m w ⟨x, e.syn⟩
  | 3 => (d.memClass m w e.syn 2).memSet m w ⟨x, e.syn⟩
  | _ => (d.memClass m w e.syn 2).memPut m w x

/-- The store held on the steward's path to a memory (R460). -/
def Dev.heldAt (d : Dev) (m : Nat) : Option (Nat × Nat) := mapGet none d.ecc.held m

def Dev.setHeld (d : Dev) (m : Nat) (h : Option (Nat × Nat)) : Dev :=
  { d with ecc := { d.ecc with held := mapPut none d.ecc.held m h } }

/-- Performs the held store of a path as a read-modify-write. -/
def Dev.performHeld (d : Dev) (m : Nat) : Dev :=
  match d.heldAt m with
  | none => d
  | some (w, v) => (d.setHeld m none).memRmw m w 0 4 v

/-- An access to word `w` first performs a store held for that word (R460.3). -/
def Dev.yieldHeld (d : Dev) (m w : Nat) : Dev :=
  match d.heldAt m with
  | none => d
  | some (w', _) => if w' = w then d.performHeld m else d

/-- Reads a word: the state after the checker, the data where it was delivered good, none where it was uncorrectable. -/
def Dev.memRead (d : Dev) (m w req : Nat) : Dev × Option Nat :=
  let d1 := d.yieldHeld m w
  let e := d1.memWord m w
  (d1.memClass m w e.syn req, if eccClass e.syn ≤ 1 then some e.data else none)

/-- Writes a whole word. -/
def Dev.memWrite (d : Dev) (m w v : Nat) : Dev := (d.yieldHeld m w).memPut m w v

/-- Writes `n` bytes of a word from byte `b` on: whole, or as a read-modify-write. -/
def Dev.memMerge (d : Dev) (m w b n v : Nat) : Dev :=
  if n = 8 then d.memWrite m w v else (d.yieldHeld m w).memRmw m w b n v

/-- Writes bytes as whole words from word `w` on, the last one filled with zeros. -/
def Dev.memWriteWords (d : Dev) (m : Nat) : Nat → List Nat → Dev
  | _, [] => d
  | w, v :: t => (d.memWrite m w v).memWriteWords m (w + 1) t

def Dev.memStore (d : Dev) (m w : Nat) (l : List Byte) : Dev := d.memWriteWords m w (words64 (ceilDiv l.length 8) l)

/-- Reads `n` words from word `w` on: the bytes, and the byte address of the first uncorrectable word. -/
def Dev.memLoad (d : Dev) (m req : Nat) : Nat → Nat → Dev × List Byte × Option Nat
  | _, 0 => (d, [], none)
  | w, n + 1 =>
    let r := d.memRead m w req
    let t := r.1.memLoad m req (w + 1) n
    (t.1, leBytes 8 (r.1.memWord m w).data ++ t.2.1, if r.2.isNone then some (8 * w) else t.2.2)

/-- Reads bytes [`a`, `a + n`) of a memory. -/
def Dev.memBytes (d : Dev) (m req a n : Nat) : Dev × List Byte × Option Nat :=
  if n = 0 then (d, [], none)
  else
    let r := d.memLoad m req (a / 8) ((a + n + 7) / 8 - a / 8)
    (r.1, (r.2.1.drop (a % 8)).take n, r.2.2)

end Sys2Proof.Machine
end

