-- ==== Sys2Proof/Machine/HifOps.lean ====
section
/-!
DEFINITION. Data in the memory of a tenant, over PCI Express or in the steward ring partition, and the HIF events (R304 to
R306, Tables 09.6 and 11.2).
-/
namespace Sys2Proof.Machine

open Sys2Proof

/-- An event of the host interface: 0 HIF_POISON_IN, 1 HIF_CPL_TIMEOUT, 2 HIF_CPL_ERR. It goes to the tenant, to T000 and to
the steward, and is fault source 31 to 33 of the tenant (R305, R329). -/
def Dev.hifEvent (d : Dev) (bit t : Nat) : Dev :=
  let d1 := if bit = 0 then d.bump F.HIF_CNT_POISONIN else d.bump F.HIF_CNT_CPLFAIL
  (d1.raise (bitFld 0xD008 bit) (0xE00 + bit) (withT000 [t]) 0 0 0).oweFault t (31 + bit)

/-- A range lies within the partition (R306). -/
def Dev.partRange (d : Dev) (a n : Nat) : Bool := decide (a + n ≤ d.partBytes)

/-- Stores bytes at address `a` of a memory one by one, whole words at once. -/
def Dev.memPutBytes (d : Dev) (m : Nat) : Nat → Nat → List Byte → Dev
  | 0, _, _ => d
  | k + 1, a, l =>
    match l with
    | [] => d
    | _ =>
      let b := a % 8
      let n := min (8 - b) l.length
      (d.memMerge m (a / 8) b n (leNat (l.take n))).memPutBytes m k (a + n) (l.drop n)

/-- Writes data to the memory of tenant `t`; poisoned data leaves as a poisoned TLP, or its mark stays with the partition
cells (Table 09.6). -/
def Dev.hostPut (d : Dev) (t a : Nat) (l : List Byte) (poison : Bool) : Dev :=
  if d.inPart t then
    let d1 := d.memPutBytes 3 (l.length + 1) a l
    if poison then
      let cells := (List.range ((a + l.length + 63) / 64 - a / 64)).map fun i => d.lar.partBase + a / 64 + i
      { d1 with ecc := { d1.ecc with partPoison := cells.filter (fun c => !d1.ecc.partPoison.contains c) ++ d1.ecc.partPoison } }
    else d1
  else d.emit .hostWrite t [a, bitNat poison] l

/-- Reads `n` bytes of a tenant's memory: from the partition, where a word found bad or a marked cell is poisoned (R306), or
as the host's completion `l` carries them. -/
def Dev.hostGet (d : Dev) (t a n : Nat) (l : List Byte) (poison : Bool) : Dev × List Byte × Bool :=
  if d.inPart t then
    let marked := (List.range ((a + n + 63) / 64 - a / 64)).any fun i => d.ecc.partPoison.contains (d.lar.partBase + a / 64 + i)
    let r := d.memBytes 3 1 a n
    (r.1, r.2.1, r.2.2.isSome || marked)
  else (d, (l ++ List.replicate n 0).take n, poison)

end Sys2Proof.Machine
end

