-- ==== Sys2Proof/Machine/PdOps.lean ====
section
/-!
DEFINITION. Operations of the Type-C ports and the charger that several causes share, none of which raises a fault event:
messages, leaving Haywain mode, hard reset, detach, the source budget, the input selection and the end of a session.
-/
namespace Sys2Proof.Machine

open Sys2Proof

def Dev.port (d : Dev) (p : Nat) : PdPort := mapGet {} d.pd p

def Dev.setPort (d : Dev) (p : Nat) (x : PdPort) : Dev := { d with pd := mapPut {} d.pd p x }

def Dev.modPort (d : Dev) (p : Nat) (f : PdPort → PdPort) : Dev := d.setPort p (f (d.port p))

/-- Raises a PD event of port `p` by its bit in PD_INT (R107, R318). -/
def Dev.pdEvent (d : Dev) (p bit arg : Nat) : Dev := d.raise (bitFld (0x2028 + 0x200 * p) bit) (0x200 + bit) [0] p arg 0

/-- Watts of a contract, rounded up (R109). -/
def watts (mv ma : Nat) : Nat := ceilDiv (mv * ma) 1000000

/-- The reservation of a source port without explicit contract, by its Type-C Current (R109): 4.5, 7.5 and 15 W rounded up. -/
def typecWatts (rpval : Nat) : Nat := if rpval = 0 then 5 else if rpval = 1 then 8 else 15

/-- Gives a DS port's reservation a value and keeps PD_BUDGET.USED their sum; in S4 there is none (R109, R120). -/
def Dev.reserve (d : Dev) (p watts : Nat) : Dev :=
  let w := if d.get F.SUP_STAT_STAGE = 4 then 0 else watts
  if p = 0 then d
  else (d.set F.PD_BUDGET_USED (d.get F.PD_BUDGET_USED - (d.port p).resv + w)).modPort p fun x => { x with resv := w }

def Dev.tcState (d : Dev) (p : Nat) : Nat := d.get (F.PD_STAT_TCSTATE p)

/-- The port is attached as sink, source or debug accessory. -/
def Dev.attached (d : Dev) (p : Nat) : Bool :=
  d.tcState p == 2 || d.tcState p == 3 || d.tcState p == 5

/-- The port is in the source role; a debug accessory is sourced (R100). -/
def Dev.isSource (d : Dev) (p : Nat) : Bool := d.tcState p == 3 || d.tcState p == 5

def Dev.isSink (d : Dev) (p : Nat) : Bool := d.tcState p == 2

/-! ### The input of the charger (R130) -/

/-- Power a sink port offers, in mW: its explicit contract, or its Type-C Current at 5 V (2.5 W at default). A fenced port offers
default USB power (R122); one with its VBUS lost, or in a PR_Swap, nothing. -/
def Dev.offerMw (d : Dev) (p : Nat) : Nat :=
  let x := d.port p
  if !d.isSink p || x.ovp || x.lost || decide (5 ≤ x.trans) then 0
  else if d.is (F.PD_STAT_FENCED p) then 2500
  else if d.is (F.PD_STAT_CONTRACT p) then x.mv * x.ma / 1000
  else if x.adv = 2 then 15000 else if x.adv = 1 then 7500 else 2500

/-- Of UP and DS1 to DS4 below `n`, the one that offers most, UP and then the lowest port on a tie; 0 for none, else the
port's number plus 1. -/
def bestInput (offer : Nat → Nat) : Nat → Nat
  | 0 => 0
  | n + 1 =>
    let b := bestInput offer n
    if (if b = 0 then 0 else offer (b - 1)) < offer n then n + 1 else b

/-- What R70 asks of a port for its VBUS to be input: the sink role with an explicit contract, or an advertisement of 1.5 A or
more. -/
def Dev.portInput (d : Dev) (p : Nat) : Bool :=
  d.isSink p && !(d.port p).ovp && !(d.port p).lost && !d.is (F.PD_STAT_FENCED p) &&
    (d.is (F.PD_STAT_CONTRACT p) || (d.port p).adv != 0)

/-- Cells under NCELL, and the state of cell k (from 0). -/
def Dev.nCells (d : Dev) : Nat := d.get F.CEL_CFG_NCELL

def Dev.cellState (d : Dev) (k : Nat) : Nat := d.get (F.CEL_CELL_STATE k)

/-- Some cell is OPEN. -/
def Dev.anyOpen (d : Dev) : Bool := (List.range d.nCells).any fun k => d.cellState k == 3

/-- A cell code is below a level of `cv` hundredths of a volt above 2.50 V. -/
def cellBelow (code cv : Nat) : Bool := decide (code * 5000 < (2500 + 10 * cv) * 16384)

/-- What R70 asks of the pack. -/
def Dev.packInput (d : Dev) : Bool := d.is F.CEL_STAT_PRESENT && !cellBelow (d.get F.CEL_STAT_LOWEST) (d.get F.SUP_PACKCFG_RESTART)

/-- Input by port `p`: its VBUS has been within its contract range for 10 ms (R70). -/
def Dev.portPower (d : Dev) (p : Nat) : Bool := (d.port p).vin && d.portInput p

/-- Input is present (R70). (DEDUCED, log entry 20). -/
def Dev.inputHolds (d : Dev) : Bool := d.packInput || (List.range 5).any d.portPower

/-- The lowest cell is below CUT with input absent (R69, Table 03.16). (DEDUCED, log entry 20). -/
def Dev.lowpack (d : Dev) : Bool :=
  d.is F.CEL_STAT_PRESENT && !d.is F.SUP_STAT_INPUT && cellBelow (d.get F.CEL_STAT_LOWEST) (d.get F.SUP_PACKCFG_CUT)

/-- The charger may run in reverse (R28, R132, R136, R150, R152, R155). -/
def Dev.mayReverse (d : Dev) : Bool :=
  d.is F.CEL_STAT_PRESENT && !(mapGet {} d.urec 0x218).fenced && decide (d.get F.SUP_STAT_STAGE < 4) && d.stewardRuns && !d.pack.dead

/-- Selects the input port under INSEL and closes its sink switch alone (R130); in reverse operation the input node is UP's VBUS and
takes no input (R132). (DEDUCED, log entry 75). -/
def Dev.selectInput (d : Dev) : Dev :=
  let sel := d.get F.CHG_CTRL_INSEL
  let b := if d.get F.CHG_STAT_STATE = 7 then 0 else if sel = 0 then bestInput d.offerMw 5 else if d.offerMw (sel - 1) = 0 then 0 else sel
  let d1 := d.set F.CHG_STAT_INPORT b
  (List.range 5).foldl (fun d p => d.modPort p fun x => { x with vbs := b == p + 1 }) d1

/-- The draw from UP that USB suspend allows (Table 07.3): 0 no limit, 1 2.5 mA, 2 25 mW, where the source's first PDO sets USB Suspend
Supported. -/
def Dev.suspendDraw (d : Dev) : Nat :=
  if !d.is F.HUB_STAT_SUSP || !d.isSink 0 then 0
  else if d.is (F.PD_STAT_CONTRACT 0) then if bitOf ((d.port 0).caps.headD 0) 28 then 2 else 0
  else 1

/-! ### Charge sessions (R137, R155) -/

/-- Closes the charge session with a cause of Table 05.3, writing its record and raising its event. -/
def Dev.closeSession (d : Dev) (cause state : Nat) : Dev :=
  if !d.pack.sess then d.set F.CHG_STAT_STATE state
  else
    let dur := (d.get F.SUP_SECONDS_COUNT + 2 ^ 32 - d.pack.start) % 2 ^ 32
    let d1 := (((((d.set F.CHG_SESS0_START d.pack.start).set F.CHG_SESS1_CHARGE (min (2 ^ 32 - 1) (d.pack.charge / 100000))).set
      F.CHG_SESS2_DURATION (min (2 ^ 23 - 1) dur)).set F.CHG_SESS2_CAUSE cause).set F.CHG_SESS2_VALID 1)
    let d2 := (d1.set F.CHG_STAT_STATE state).set F.CHG_STAT_SUSP 0
    let d3 := { d2 with pack := { d2.pack with sess := false, charge := 0 } }
    (d3.setBit F.CHG_INT_END (cause - 1) true).notifyAll [0] (0x300 + (cause - 1)) 0 cause 0

/-- The switching controller is running: a session charges, or the charger runs in reverse. -/
def Dev.switching (d : Dev) : Bool :=
  let s := d.get F.CHG_STAT_STATE
  s == 2 || s == 3 || s == 4 || s == 7

/-! ### Power Delivery messages -/

/-- The 16-bit header of a message. (PRESUMED, log entry 23). -/
def pdHeader (m : List Byte) : Nat := leNat (m.take 2)

/-- Data objects of a message. -/
def pdObjects : List Byte → List Nat
  | a :: b :: c :: d :: t => leNat [a, b, c, d] :: pdObjects t
  | _ => []

/-- A control message as hardware forms it: header with role bits and MessageID (USB Power Delivery, revision bits 10). -/
def pdControl (d : Dev) (p type : Nat) : List Byte :=
  leBytes 2 (type + 32 * d.get (F.PD_STAT_DATAROLE p) + 128 + 256 * d.get (F.PD_STAT_PWRROLE p) + 512 * (d.port p).txId)

/-- Puts a message on the wire. -/
def Dev.pdSend (d : Dev) (p sop : Nat) (m : List Byte) : Dev := d.emit .pdMsg p [sop] m

/-- The next MessageID of a SOP*, and the one last received on it: hardware counts each SOP* by itself (Table 04.2). -/
def PdPort.nextId (x : PdPort) (sop : Nat) : Nat := if sop = 0 then x.txId else if sop = 1 then x.txIdC1 else x.txIdC2

def PdPort.lastId (x : PdPort) (sop : Nat) : Nat := if sop = 0 then x.rxId else if sop = 1 then x.rxIdC1 else x.rxIdC2

def PdPort.setNextId (x : PdPort) (sop n : Nat) : PdPort :=
  if sop = 0 then { x with txId := n } else if sop = 1 then { x with txIdC1 := n } else { x with txIdC2 := n }

def PdPort.setLastId (x : PdPort) (sop n : Nat) : PdPort :=
  if sop = 0 then { x with rxId := n } else if sop = 1 then { x with rxIdC1 := n } else { x with rxIdC2 := n }

/-- MessageIDs as they stand after a reset of the protocol layer. -/
def PdPort.freshIds (x : PdPort) : PdPort :=
  { x with txId := 0, txIdC1 := 0, txIdC2 := 0, rxId := 8, rxIdC1 := 8, rxIdC2 := 8 }

/-- The message with its MessageID, which hardware fills in. (DEDUCED, log entry 24). -/
def withId (m : List Byte) (id : Nat) : List Byte :=
  let h := pdHeader m
  leBytes 2 (h - bits h 9 3 * 512 + id * 512) ++ m.drop 2

/-- A message hardware sends of its own accord, which takes the next MessageID. -/
def Dev.pdSendOwn (d : Dev) (p : Nat) (m : List Byte) : Dev :=
  (d.pdSend p 0 (withId m (d.port p).txId)).modPort p fun x => { x with txId := (x.txId + 1) % 8 }

def Dev.pdSendControl (d : Dev) (p type : Nat) : Dev := d.pdSendOwn p (pdControl d p type)

/-- Ends the transmission in progress with a status (PD_TXCMD.STATUS). (DEDUCED, log entry 24). -/
def Dev.txEnd (d : Dev) (p : Nat) (st : Status) : Dev :=
  ((d.set (F.PD_TXCMD_BUSY p) 0).set (F.PD_TXCMD_STATUS p) (statusCode st)).modPort p fun x => { x with tx := [], tries := 0 }

/-- Discards a transmission in progress, where there is one. -/
def Dev.txFlush (d : Dev) (p : Nat) (st : Status) : Dev := if d.is (F.PD_TXCMD_BUSY p) then d.txEnd p st else d

/-! ### Leaving Haywain mode, hard reset, detach -/

/-- The lane of a Type-C port: HL0 for UP, HL1 to HL4 for DS1 to DS4 (R114). Its state after the pair is disconnected is
DOWN, in electrical idle. -/
def Dev.laneIdle (d : Dev) (l : Nat) : Dev :=
  if d.get (F.HAY_LANE0_STATE l) = 0 then d else d.set (F.HAY_LANE0_STATE l) 0

/-- Leaves Haywain mode: the lane goes to electrical idle and PD_ALT_EXIT is raised (R115). -/
def Dev.leaveMode (d : Dev) (p : Nat) : Dev :=
  if d.is (F.PD_STAT_ALTMODE p) then ((d.set (F.PD_STAT_ALTMODE p) 0).laneIdle p).pdEvent p 10 0 else d

/-- Ends the explicit contract of a port. -/
def Dev.endContract (d : Dev) (p : Nat) : Dev :=
  (((d.set (F.PD_STAT_CONTRACT p) 0).set (F.PD_STAT_PPS p) 0).set (F.PD_STAT_EPR p) 0).modPort p fun x =>
    { x with trans := 0, swap := 0, reqIn := false, mv := 5000, ma := 0, lastReq := [] }

/-- What a hard reset does by role, sent or received (R108, R118): transmissions flushed, receive FIFO emptied, VBUS
discharged or draw limited, the reservation back at its Type-C Current value, Haywain mode left. -/
def Dev.hardReset (d : Dev) (p : Nat) : Dev :=
  let d1 := ((d.txFlush p .eFlushed).set (F.PD_RXSTAT_COUNT p) 0).leaveMode p
  let d2 := (d1.endContract p).modPort p fun x => { x.freshIds with vin := false, psRdyDue := false }
  if d.isSource p then
    (d2.reserve p (typecWatts (d.get (F.PD_CTRL_RPVAL p)))).modPort p fun x => { x with vbg := false, recovering := true }
  else (d2.modPort p fun x => { x with limited := true }).selectInput

/-- Sends Hard_Reset and acts on it; during a PHY hold the signalling waits for the release (R119). -/
def Dev.sendHardReset (d : Dev) (p : Nat) : Dev :=
  (if d.phyHeld then d.modPort p fun x => { x with hrDue := true } else d.emit .pdSignal p [1] []).hardReset p

/-- UP's source fails with the charger's reverse operation: Hard_Reset with VBUS off and discharged, PD_SRC_SLOW and
PD_HARD_RESET (R136, R150, Table 04.6). (DEDUCED, log entry 75). -/
def Dev.upFails (d : Dev) : Dev :=
  ((((d.sendHardReset 0).pdEvent 0 4 0).oweFault 0x210 2).pdEvent 0 3 0).oweFault 0x210 1

/-- The partner has gone: contract, reservation, switches and mode end, and with UP's source role reverse operation (R109, R115,
R132). -/
def Dev.portDetach (d : Dev) (p : Nat) : Dev :=
  let d1 := (((d.txFlush p .eLink).leaveMode p).endContract p).reserve p 0
  let d2 := (((d1.set (F.PD_STAT_TCSTATE p) 0).set (F.PD_STAT_VCONN p) 0).set (F.PD_STAT_PWRROLE p) 0).set (F.PD_STAT_DATAROLE p) 0
  let d3 := if p = 0 ∧ d2.get F.CHG_STAT_STATE = 7 then d2.set F.CHG_STAT_STATE 0 else d2
  (d3.modPort p fun x => { x.freshIds with vbg := false, vbs := false, limited := false, recovering := false, notLow := false,
                                           adv := 0, ovp := false, vin := false, lost := false, caps := [], ownCaps := [],
                                           cable := {}, farHay := false, farMode := none, hrDue := false, psRdyDue := false }).selectInput

/-- Enters MoistureHold: CC open, switches off, VBUS wake masked (R112). -/
def Dev.moistHold (d : Dev) (p : Nat) : Dev :=
  let d1 := d.portDetach p
  (d1.set (F.PD_STAT_TCSTATE p) 6).modPort p fun x => { x with clear := 0, wakeMasked := true }

/-- A fenced PD port: powered Rd only, so that a source or a port in Try.SNK is Unattached; nothing sourced, VCONN included; draw
within default USB power; any mode left (R122). (DEDUCED, log entry 26). -/
def Dev.fencePd (d : Dev) (p : Nat) : Dev :=
  let d1 := (d.leaveMode p).txFlush p .eFlushed
  let d2 := if d.isSource p || d.tcState p == 4 then d1.portDetach p
    else ((d1.endContract p).set (F.PD_STAT_VCONN p) 0).modPort p fun x => { x with limited := true, vin := false }
  (d2.set (F.PD_STAT_FENCED p) 1).selectInput

end Sys2Proof.Machine
end

