-- ==== Sys2Proof/Machine/PortOps.lean ====
section
/-!
DEFINITION. Operations of the USB ports that several causes share (chapters 07 and 08): what the hub reports, port power and
over-current, the reset of hub and function, endpoint contexts, local ports, re-steering and fences.
-/
namespace Sys2Proof.Machine

open Sys2Proof

/-! ### A port as the upstream host sees it -/

def Dev.hubPort (d : Dev) (p : Nat) : HubPort := mapGet {} d.hub.port p

def Dev.modHubPort (d : Dev) (p : Nat) (f : HubPort → HubPort) : Dev :=
  { d with hub := { d.hub with port := mapPut {} d.hub.port p (f (d.hubPort p)) } }

/-- Bit `i` of wPortStatus: 0 CONNECTION, 1 ENABLE, 2 SUSPEND, 3 OVER_CURRENT, 4 RESET, 8 POWER, 9 LOW_SPEED, 10 HIGH_SPEED,
11 TEST. -/
def Dev.st (d : Dev) (p i : Nat) : Bool := d.bit (F.PRT_STAT_STATUS p) i

/-- (PRESUMED, log entry 32). -/
def Dev.setSt (d : Dev) (p i : Nat) (b : Bool) : Dev := d.setBit (F.PRT_STAT_STATUS p) i b

/-- Bit `i` of wPortChange: 0 connection, 1 enable, 2 suspend, 3 over-current, 4 reset. -/
def Dev.setCh (d : Dev) (p i : Nat) (b : Bool) : Dev := d.setBit (F.PRT_STAT_CHANGE p) i b

/-- The port is steered to the local host engine. -/
def Dev.isLocal (d : Dev) (p : Nat) : Bool := d.is (F.PRT_STAT_SIDE p)

def Dev.parked (d : Dev) (p : Nat) : Bool := d.is (F.PRT_LSTAT_PARKED (p - 1))

def Dev.portOwner (d : Dev) (p : Nat) : Nat := d.get (F.PRT_LSTAT_OWNER (p - 1))

def Dev.steering (d : Dev) (p : Nat) : Bool := d.is (F.PRT_LSTAT_STEERING (p - 1))

/-- USB 2.0 data passes: UP only as UFP and with its VBUS there, DS1 to DS4 only as DFP (R97, R206). -/
def Dev.usbAllowed (d : Dev) (p : Nat) : Bool :=
  if p = 0 then d.attached 0 && d.get (F.PD_STAT_DATAROLE 0) == 0 && !(d.port 0).lost
  else if p ≤ 4 then d.attached p && d.get (F.PD_STAT_DATAROLE p) == 1 else true

/-- The hub is connected to the upstream host: its pull-up is on (R212). -/
def Dev.hubUp (d : Dev) : Bool := d.st 0 0

/-- Reports a device present on a hub-path port (Table 08.1 step 7, R210). -/
def Dev.reportConn (d : Dev) (p : Nat) : Dev :=
  let v := (d.hubPort p).dev
  if !d.isLocal p && d.st p 8 && v != 0 && !d.is (F.PRT_STAT_FENCED p) && !d.steering p && d.usbAllowed p && !d.st p 0 then
    ((d.setSt p 0 true).setSt p 9 (v == 1)).setCh p 0 true
  else d

/-- Clears the connection bits of a port. -/
def Dev.dropConn (d : Dev) (p : Nat) : Dev :=
  ((((((d.setSt p 0 false).setSt p 1 false).setSt p 2 false).setSt p 4 false).setSt p 9 false).setSt p 10 false)

/-- Reports a disconnect of a hub-path port. -/
def Dev.reportGone (d : Dev) (p : Nat) : Dev := if d.st p 0 then (d.dropConn p).setCh p 0 true else d

/-- Reset_TT: both buffers and the periodic pipeline empty (R191). -/
def Dev.emptyTt (d : Dev) (p : Nat) : Dev := d.modHubPort p fun x => { x with np := [], per := [] }

/-- A port in the Powered-off state; DS5 to DS8 drop PWREN. A port steered local keeps its PWREN (R209). -/
def Dev.hubPowerOff (d : Dev) (p : Nat) : Dev :=
  let d1 := ((d.dropConn p).setSt p 8 false).emptyTt p
  if d.isLocal p then d1 else d1.modHubPort p fun x => { x with pwren := false, want := false, resume := false }

/-! ### Over-current (R190, R204, R238) -/

/-- The over-current input that bears on a port: its own, or that of any member of its gang (R190, R204). -/
def Dev.inGang (d : Dev) (p : Nat) : Bool := decide (5 ≤ p) && d.bit F.HUB_CFG_OCGANG (p - 5)

def Dev.gangMembers (d : Dev) (p : Nat) : List Nat := if d.inGang p then [5, 6, 7, 8].filter d.inGang else [p]

def Dev.ocOn (d : Dev) (p : Nat) : Bool := (d.gangMembers p).any fun m => d.is (F.PRT_LSTAT_OC (m - 1))

/-- PWREN rises for a port that wants power, where its over-current input is deasserted (R190). (DEDUCED, log entry 36). -/
def Dev.powerUp (d : Dev) (p : Nat) : Dev :=
  if d.ocOn p || d.is (F.PRT_STAT_FENCED p) then d.modHubPort p fun x => { x with want := true }
  else d.modHubPort p fun x => { x with want := true, pwren := decide (5 ≤ p) }

/-! ### The hub and its function (R205) -/

/-- Empties both banks of a slot. -/
def Dev.emptyBanks (d : Dev) (n : Nat) : Dev :=
  ((((d.set (F.EPM_BANK_FULL0 (n - 2)) 0).set (F.EPM_BANK_FULL1 (n - 2)) 0).set (F.EPM_BANK_NEXT (n - 2)) 0).set
    (F.EPM_BANK_LEN0 (n - 2)) 0).set (F.EPM_BANK_LEN1 (n - 2)) 0

/-- The slots of the function: 2 to 15. -/
def fnSlots : List Nat := [2, 3, 4, 5, 6, 7, 8, 9, 10, 11, 12, 13, 14, 15]

def isFunc (c : Nat) : Bool := epKind c == 1

/-- The function returns to its default state: address, configuration, toggles, halts and banks; its streams lose it. -/
def Dev.resetFunction (d : Dev) : Dev :=
  let d1 := fnSlots.foldl (fun d n => ((d.emptyBanks n).set (F.EPM_SLOT_TOG n) 0).set (F.EPM_SLOT_HALT n) 0) d
  let d2 := ((d1.set F.HUB_STAT_FNADDR 0).set F.HUB_STAT_FNCFG 0).set F.HUB_CTLREPLY_VALID 0
  let d3 := { d2 with hub := { d2.hub with setup := none, stall0 := false, fnVal := 0, fnWake := false } }
  (d3.loseSources isFunc false).loseSinks isFunc

/-- What a bus reset on UP does to the hub and the function (R205). -/
def Dev.resetHub (d : Dev) : Dev :=
  let d1 := [0, 1].foldl (fun d n => (d.set (F.EPM_SLOT_TOG n) 0).set (F.EPM_SLOT_HALT n) 0) d.resetFunction
  let d2 := (((((d1.set F.HUB_STAT_ADDR 0).set F.HUB_STAT_CFG 0).set F.HUB_STAT_ALT 0).set F.HUB_STAT_RWEN 0).set F.HUB_STAT_SUSP 0)
  let d3 := { d2 with hub := { d2.hub with cfgVal := 0, test := none, kUp := false } }
  let d4 := [1, 2, 3, 4, 5, 6, 7, 8].foldl (fun d p => if d.isLocal p then d else ((d.hubPowerOff p).setSt p 11 false).set (F.PRT_STAT_CHANGE p) 0) d3
  (((d4.dropConn 9).setSt 9 8 false).setSt 9 11 false).set (F.PRT_STAT_CHANGE 9) 0

/-- The hub connects to the upstream host where EN, the data role and UP allow it (R206, R212). -/
def Dev.hubConnect (d : Dev) : Dev :=
  if d.is F.HUB_CTRL_EN && d.usbAllowed 0 && !d.is (F.PRT_STAT_FENCED 0) then d.setSt 0 0 true else d

/-- The hub leaves the upstream host (R206). -/
def Dev.hubLeave (d : Dev) : Dev :=
  if d.hubUp then ((d.resetHub).setSt 0 0 false).set F.HUB_STAT_HS 0 else d

/-! ### Endpoint contexts (R223 to R225) -/

def Dev.ctx (d : Dev) (c : Nat) : Ctx := mapGet {} d.lhe.ctx c

def Dev.setCtx (d : Dev) (c : Nat) (x : Ctx) : Dev := { d with lhe := { d.lhe with ctx := mapPut {} d.lhe.ctx c x } }

def Dev.ctxOpen (d : Dev) (c : Nat) : Bool := d.is (F.LHE_CTXW0_VALID c)

/-- The open contexts on a port. -/
def Dev.ctxsOn (d : Dev) (p : Nat) : List Nat :=
  (List.range 128).filter fun c => d.ctxOpen c && d.get (F.LHE_CTXW0_PORT c) == p

/-- What the admitted contexts of a port load micro-frame or frame `m` with (R225). -/
def Dev.loadAt (d : Dev) (p m : Nat) : Nat :=
  ((d.ctxsOn p).map fun c =>
    if m % 2 ^ d.get (F.LHE_CTXW1_IVL c) = d.get (F.LHE_CTXW1_PHASE c) then (d.ctx c).cost else 0).foldl (· + ·) 0

/-- PRT_PLOAD.PEAK: the highest load of any micro-frame or frame. -/
def Dev.showPeak (d : Dev) (p : Nat) : Dev :=
  d.set (F.PRT_PLOAD_PEAK (p - 1)) (((List.range 32).map (d.loadAt p)).foldl max 0)

/-- An XFER descriptor of context `c`. -/
def isXfer (c : Nat) (tk : Tkt) : Bool := tk.op == 0x06 && bits (tk.word 1) 0 7 == c

def lheCode (c : Nat) : Nat → Bool := fun e => epKind e == 2 && epId e % 128 == c

/-- Closes a context: its tickets end, its reservation is released, its streams lose it (R223, R337, R587). -/
def Dev.closeCtx (d : Dev) (c : Nat) (st : Status) : Dev :=
  if !d.ctxOpen c then d
  else
    let p := d.get (F.LHE_CTXW0_PORT c)
    let d1 := (d.endTkts (isXfer c) st).usbRelease (d.get (F.LHE_CTXW0_OWNER c)) (d.ctx c).charge
    let d2 := (d1.loseSources (lheCode c) true).loseSinks (lheCode c)
    let d3 := (d2.resetRange (0x5400 + 8 * c) (0x5408 + 8 * c)).setCtx c {}
    (d3.set F.LHE_STAT_OPEN (d3.get F.LHE_STAT_OPEN - 1)).showPeak p

def Dev.closePortCtxs (d : Dev) (p : Nat) (st : Status) : Dev := (d.ctxsOn p).foldl (fun d c => d.closeCtx c st) d

/-! ### Local ports (R218, R219, R241) -/

def Dev.localPort (d : Dev) (p : Nat) : LocalPort := mapGet {} d.lhe.port p

def Dev.modLocal (d : Dev) (p : Nat) (f : LocalPort → LocalPort) : Dev :=
  { d with lhe := { d.lhe with port := mapPut {} d.lhe.port p (f (d.localPort p)) } }

/-- A PORTCMD descriptor of port `p`. -/
def isPortcmd (p : Nat) (tk : Tkt) : Bool := tk.op == 0x02 && bits (tk.word 1) 0 4 == p

/-- Ends the port command in progress with a status. -/
def Dev.endCmd (d : Dev) (p : Nat) (st : Status) : Dev :=
  ((d.endTkts (isPortcmd p) st).set (F.PRT_LSTAT_RESETTING (p - 1)) 0).modLocal p fun x => { x with cmd := 0, resume := false }

/-- An event of the local host engine for the owner of port `p`: 0 ATTACH, 1 DETACH, 2 RESUME, 3 CTX_HALT, 5 SOF_LAG. -/
def Dev.lheEvent (d : Dev) (bit p inst arg : Nat) : Dev :=
  d.raise (bitFld 0x5008 bit) (0x800 + bit) (if d.isLocal p && !d.parked p then [d.portOwner p] else []) inst arg 0

/-- Clears what PRT_LSTAT shows of a device. -/
def Dev.clearLocal (d : Dev) (p : Nat) : Dev :=
  (((d.set (F.PRT_LSTAT_CONN (p - 1)) 0).set (F.PRT_LSTAT_ENABLED (p - 1)) 0).set (F.PRT_LSTAT_SUSP (p - 1)) 0).set
    (F.PRT_LSTAT_SPEED (p - 1)) 0

/-- Reports a device present on a local port to its owner (Table 08.1 step 7, R242). -/
def Dev.reportLocal (d : Dev) (p : Nat) : Dev :=
  if d.isLocal p && !d.parked p && !d.is (F.PRT_STAT_FENCED p) && !d.steering p && (d.hubPort p).dev != 0 &&
      d.is (F.PRT_LSTAT_POWER (p - 1)) && d.usbAllowed p && !d.is (F.PRT_LSTAT_CONN (p - 1)) then
    (d.set (F.PRT_LSTAT_CONN (p - 1)) 1).lheEvent 0 p p 0
  else d

/-- The device of a local port is gone, or the port is disabled: contexts close with E_LINK (R241). -/
def Dev.localGone (d : Dev) (p : Nat) (st : Status) : Dev := (((d.endCmd p st).closePortCtxs p st).clearLocal p)

/-- A local port goes to the Powered-off state; its contexts stay open (R238). -/
def Dev.localPowerOff (d : Dev) (p : Nat) : Dev :=
  let d1 := (d.endTkts (fun tk => (d.ctxsOn p).any fun c => isXfer c tk) .eLink).clearLocal p
  (d1.set (F.PRT_LSTAT_POWER (p - 1)) 0).modHubPort p fun x => { x with pwren := false, want := false }

/-- The port no longer belongs to its owner and waits for a steer from T000 (R218). -/
def Dev.parkPort (d : Dev) (p : Nat) : Dev :=
  (d.set (F.PRT_LSTAT_PARKED (p - 1)) 1).set (F.PRT_LSTAT_OWNER (p - 1)) 0

/-- Ports that tenant `t` owns. -/
def Dev.portsOf (d : Dev) (t : Nat) : List Nat :=
  [1, 2, 3, 4, 5, 6, 7, 8].filter fun p => d.isLocal p && !d.parked p && d.portOwner p == t

/-! ### Over-current trips (R190, R204, R238) -/

/-- An event of the hub by its bit in HUB_INT. -/
def Dev.hubEvent (d : Dev) (bit inst : Nat) (ts : List Nat) : Dev := d.raise (bitFld 0x400C bit) (0x600 + bit) ts inst 0 0

/-- What a trip does to one port: the hub-path view, or the owner's local port with PRT_OC, a port command in progress ending E_LINK
with the tickets (R190, R204, R238). (DEDUCED, log entry 36). -/
def Dev.tripPort (d : Dev) (p : Nat) : Dev :=
  let d1 := (d.bump (F.PRT_CNT_OC p)).oweFault (0x200 + p) 17
  if d1.isLocal p then
    let d2 := (if (d1.localPort p).cmd = 0 then d1 else d1.endCmd p .eLink).localPowerOff p
    if d2.parked p then d2 else d2.notify (d2.portOwner p) 0x0700 p 0 0
  else ((d1.hubPowerOff p).setSt p 3 true).setCh p 3 true

/-- PORT_OVER_CURRENT: a qualified over-current of port `p` trips it, or its gang. -/
def Dev.overCurrent (d : Dev) (p : Nat) : Dev :=
  if p = 0 then d
  else
    let d1 := (d.set (F.PRT_LSTAT_OC (p - 1)) 1)
    ((d1.gangMembers p).foldl Dev.tripPort d1).hubEvent 3 p [0]

/-! ### What follows a change of a Type-C port (R97, R189, R206) -/

/-- USB data no longer passes: the hub leaves the upstream host with HUB_DISCONNECT, or the port's hub or local side sees its device
disconnected (R97, R206, R241). -/
def Dev.usbLost (d : Dev) (p : Nat) : Dev :=
  if p = 0 then (if d.hubUp then (d.hubLeave).hubEvent 0 0 [0] else d)
  else if d.isLocal p then
    if d.is (F.PRT_LSTAT_CONN (p - 1)) then (d.localGone p .eLink).lheEvent 1 p p 0 else d
  else (d.emptyTt p).reportGone p

/-- USB data passes again: the hub connects, or a device present is reported (R97, R206). -/
def Dev.usbBack (d : Dev) (p : Nat) : Dev :=
  if p = 0 then d.hubConnect else if d.isLocal p then d.reportLocal p else d.reportConn p

/-- What a change from `d0` to `d` of port `p`'s attach or data role means to its USB side. -/
def Dev.followUsb (d0 d : Dev) (p : Nat) : Dev :=
  if d0.usbAllowed p && !d.usbAllowed p then d.usbLost p
  else if !d0.usbAllowed p && d.usbAllowed p then d.usbBack p
  else d

/-- The same, with the loss of VBUS that a DS port sourced counting as an over-current of the hub port (R189). (DEDUCED, log
entry 26). -/
def Dev.followPort (d0 d : Dev) (p : Nat) : Dev :=
  let d1 := if p ≠ 0 ∧ d0.isSource p ∧ (d0.port p).vbg ∧ !(d.port p).vbg then d.overCurrent p else d
  d0.followUsb d1 p

/-! ### Re-steering (R216, R236, R237) -/

def Dev.steer (d : Dev) (p : Nat) : Steer := mapGet {} d.lhe.steer p

def Dev.setSteer (d : Dev) (p : Nat) (x : Steer) : Dev := { d with lhe := { d.lhe with steer := mapPut {} d.lhe.steer p x } }

/-- A STEER descriptor of port `p`. -/
def isSteer (p : Nat) (tk : Tkt) : Bool := tk.op == 0x01 && bits (tk.word 1) 0 4 == p

/-- The re-steer of a port ends; its descriptor completes. -/
def Dev.endSteer (d : Dev) (p : Nat) (st : Status) : Dev :=
  (((d.setSteer p {}).set (F.PRT_LSTAT_STEERING (p - 1)) 0).set (F.PRT_STEER_BUSY (p - 1)) 0).endTkts (isSteer p) st

/-- Gives a port its side and owner. -/
def Dev.setSide (d : Dev) (p : Nat) (side : Bool) (owner : Nat) (parked : Bool) : Dev :=
  ((d.setB (F.PRT_STAT_SIDE p) side).set (F.PRT_LSTAT_OWNER (p - 1)) (if side && !parked then owner else 0)).setB
    (F.PRT_LSTAT_PARKED (p - 1)) (side && parked)

/-- PWREN follows the power of the side that a port is on, where its over-current input is deasserted. -/
def Dev.restorePower (d : Dev) (p : Nat) : Dev :=
  let on := if d.isLocal p then d.is (F.PRT_LSTAT_POWER (p - 1)) else d.st p 8
  d.modHubPort p fun x => { x with pwren := on && decide (5 ≤ p) && !d.ocOn p && !d.is (F.PRT_STAT_FENCED p) }

/-- A fence undoes a re-steer: side and owner are those it left (R236). -/
def Dev.undoSteer (d : Dev) (p : Nat) : Dev :=
  let x := d.steer p
  if x.step = 0 then d else (d.setSide p x.oldSide x.oldOwner x.oldParked).endSteer p .eFenced

/-- A tenant fenced while a port is being steered to it: the re-steer is undone, and the side that keeps the port sees its device again
(R24). (DEDUCED, log entry 38). -/
def Dev.undoSteers (d : Dev) (t : Nat) : Dev :=
  [1, 2, 3, 4, 5, 6, 7, 8].foldl (fun d p =>
    let x := d.steer p
    if x.step ≠ 0 ∧ x.side ∧ x.tenant = t then
      let e := (d.undoSteer p).restorePower p
      if e.isLocal p then e.reportLocal p else e.reportConn p
    else d) d

/-! ### Fences of ports (R210, R242) -/

/-- LHE endpoints of port `p`. -/
def Dev.onPort (d : Dev) (p : Nat) : Nat → Bool := fun e => epKind e == 2 && d.get (F.LHE_CTXW0_PORT (epId e % 128)) == p

/-- A fenced port: UP removes its pull-up; a downstream port holds PWREN low and reports CONNECTION 0. -/
def Dev.fencePort (d : Dev) (p : Nat) : Dev :=
  if p = 0 then
    ((d.hubLeave).set (F.PRT_STAT_FENCED 0) 1)
  else
    let d1 := (d.undoSteer p).set (F.PRT_STAT_FENCED p) 1
    let d2 := d1.modHubPort p fun x => { x with pwren := false }
    if d2.isLocal p then
      let d3 := (d2.endTkts (fun tk => (d2.ctxsOn p).any fun c => isXfer c tk) .eFenced).endCmd p .eFenced
      (d3.clearLocal p).loseSources (d3.onPort p) false
    else (d2.reportGone p).emptyTt p

/-- A port returns: it reconnects any device present, to the same owner where it is local. -/
def Dev.returnPort (d : Dev) (p : Nat) : Dev :=
  if p = 0 then (d.set (F.PRT_STAT_FENCED 0) 0).hubConnect
  else
    let d1 := d.set (F.PRT_STAT_FENCED p) 0
    if d1.isLocal p then
      let d2 := if d1.is (F.PRT_LSTAT_POWER (p - 1)) then d1.modHubPort p fun x => { x with pwren := decide (5 ≤ p) } else d1
      (d2.sourcesBack (d2.onPort p)).reportLocal p
    else
      (if d1.st p 8 then d1.modHubPort p fun x => { x with pwren := decide (5 ≤ p) && !d1.ocOn p } else d1).reportConn p

end Sys2Proof.Machine
end

