-- ==== Sys2Proof/Machine/RatOps.lean ====
section
/-!
DEFINITION. Ration's energy model (R166, R167) in exact integers, and the operations on a grant that several causes share.
-/
namespace Sys2Proof.Machine

open Sys2Proof

/-- The readings and settings of Table 06.5. Voltages are in 1/256 µV, currents in mA, resistance in mΩ. -/
structure RatModel where
  voc : Int
  x : Int
  /-- R; EN rises only with RCFG at 1 or more (R180), but RCFG may be written 0 later, and every term that R166 divides by R is then 0.
   (DESIGN CHOICE, log entry 81). -/
  r : Nat
  /-- (Pin + Ppack − Psys) × R, in nW/65536 × mΩ -/
  sum : Int
  /-- Vr² − VF² in (1/256 µV)², zero when Vr ≤ VF or E is zero by a mode -/
  dv2 : Nat
  m : Nat
  c : Nat

/-- A 16-bit two's complement register value as an integer. -/
def signed16 (v : Nat) : Int := if v < 2 ^ 15 then (v : Int) else (v : Int) - 2 ^ 16

/-- The contract power of the selected input in µW, zero with no input (R70). -/
def Dev.contractUw (d : Dev) : Nat :=
  let b := d.get F.CHG_STAT_INPORT
  if b = 0 || !d.is F.SUP_STAT_INPUT then 0 else d.offerMw (b - 1) * 1000

/-- Input-only mode: the pack is absent; lean mode: SUP_STAT.WARN is 1 (Table 06.6). Stack-only mode is `anyOpen`. -/
def Dev.inputOnly (d : Dev) : Bool := !d.is F.CEL_STAT_PRESENT

def Dev.leanMode (d : Dev) : Bool := d.is F.SUP_STAT_WARN

/-- The energy model of R166 under the modes of Table 06.6, from the present readings and the SYS_SENSE code `vr`. -/
def Dev.ratModel (d : Dev) (vr : Nat) : RatModel :=
  let b := d.get F.CHG_STAT_INPORT
  let on := b != 0 && d.is F.SUP_STAT_INPUT
  let vin := if on then 20 * d.get (F.PD_VBUS_VOLT (b - 1)) else 0
  let iin := if on then 10 * d.get (F.PD_VBUS_CUR (b - 1)) else 0
  let n := d.get F.CEL_CFG_NCELL
  let r := d.get F.RAT_RPACK_REST
  let vp : Int := 625000 * d.get F.CEL_PACK_CODE
  let ip : Int := signed16 (d.get F.CEL_CUR_CUR)
  let vlowN : Int := if d.anyOpen then vp else n * (78125 * d.get F.CEL_STAT_LOWEST : Int)
  let vf : Int := 2560000 * d.get F.RAT_RAIL_VFLOOR
  let voc := vp - 256 * (ip * r)
  let x := max 0 (min (voc - vf)
    (min (vlowN - 256 * (ip * r) - n * (78125 * d.get F.CEL_CELLLIM_UV : Int)) (2560 * (d.get F.RAT_STORE_IMAX * r : Int))))
  let pin := min d.contractUw (vin * (50 * d.get F.CHG_CFG_ILIM))
  let psys : Int := (vin * iin : Int) * 65536000 - 256 * (vp * ip)
  let ppack : Int := if d.inputOnly then 0 else x * (voc - x)
  let vru := 625000 * vr
  let vfu := 2560000 * d.get F.RAT_RAIL_VFLOOR
  { voc := voc, x := x, r := r
    sum := (pin * 65536000 - psys) * r + ppack
    dv2 := if d.leanMode || d.inputOnly || vru ≤ vfu then 0 else vru * vru - vfu * vfu
    m := d.get F.RAT_STORE_MARGIN, c := d.get F.RAT_STORE_CBULK }

/-- H × 100 R in nW/65536 × mΩ. -/
def RatModel.hNum (k : RatModel) : Int := k.sum * (100 - k.m : Int)

/-- A draw in units of 0.5 W fits for `ms` milliseconds (R166): at or below H, or the excess within E. -/
def RatModel.fits (k : RatModel) (draw ms : Nat) : Bool :=
  let p : Int := (draw * 32768000000000 : Nat) * (100 * k.r : Nat)
  decide (p ≤ k.hNum) || decide ((p - k.hNum) * (20000 * ms : Nat) ≤ ((k.c * k.dv2 * (100 - k.m) * k.r : Nat) : Int))

/-- The longest duration code at or below `dur` that fits at a draw (R168). -/
def RatModel.duration (k : RatModel) (draw : Nat) : Nat → Option Nat
  | 0 => if k.fits draw 50 then some 0 else none
  | dur + 1 => if k.fits draw (50 * (dur + 2)) then some (dur + 1) else k.duration draw dur

/-- The first level at or below `level`, with its duration, that fits (R168). -/
def Dev.admitLevel (d : Dev) (k : RatModel) (dur : Nat) : Nat → Option (Nat × Nat)
  | 0 => none
  | l + 1 =>
    if d.leanMode && decide (d.get F.RAT_CTRL_LEANMAX < l + 1) then d.admitLevel k dur l
    else match k.duration (d.get (F.RAT_LVL_DRAW l)) dur with
      | some t => some (l + 1, t)
      | none => d.admitLevel k dur l

/-- Even parity of a 16-bit word. -/
def parity16 (w : Nat) : Nat := ((List.range 16).map fun i => bits w i 1).foldl (· + ·) 0 % 2

/-- The grant word of Table 06.3. -/
def Dev.grantWord (d : Dev) : Nat :=
  let g := d.is F.RAT_STAT_ACTIVE
  let w := (if g then 2 ^ 15 + 4096 * d.get F.RAT_STAT_LEVEL + 256 * d.rat.dur else 256 * d.get F.RAT_STAT_REASON) +
    16 * d.get F.RAT_STAT_TAG + 8 * bitNat d.rat.lean
  w + parity16 w

/-- Sends the grant word of the next frame; none while BURST_GNT is held low (R171, R177). -/
def Dev.sendGrant (d : Dev) : Dev := if d.rat.mute || d.rat.quiet then d else d.emit .gntWord 0 [d.grantWord] []

/-- Ends a grant with a reason. -/
def Dev.endGrant (d : Dev) (reason : Nat) : Dev :=
  (((d.set F.RAT_STAT_ACTIVE 0).set F.RAT_STAT_LEVEL 0).set F.RAT_STAT_REASON reason)

/-- LIMIT_N falls. -/
def Dev.limitLow (d : Dev) : Dev := d.set F.RAT_STAT_LIMIT 1

def Dev.ratFenced (d : Dev) : Bool := (mapGet {} d.urec 0x219).fenced

/-- LIMIT_N rises where nothing holds it low (R170, R175, R177, R178, R179). (DEDUCED, log entry 30). -/
def Dev.limitRise (d : Dev) : Dev :=
  if d.is F.RAT_CTRL_EN && d.rat.ready && !d.rat.hold && !d.rat.clkHold && !d.rat.mute && !d.ratFenced &&
      decide (d.get F.SUP_STAT_STAGE < 2) && d.is (F.TDM_STAT_RUNNING (d.get F.RAT_CTRL_PORT)) then
    d.set F.RAT_STAT_LIMIT 0
  else d

/-- Withdraws a grant in force: LIMIT_N falls at once, WITHDRAWN, no abort hold (R173, R175, R177); RAT_WITHDRAW is raised for each of
them. (DESIGN CHOICE, log entry 81). -/
def Dev.withdraw (d : Dev) : Dev :=
  if d.is F.RAT_STAT_ACTIVE then
    ((d.limitLow.endGrant 0xB).raise F.RAT_INT_WITHDRAW 0x501 [0] 0 0 0).sendGrant
  else d

/-- RAT_HEAD after a decision, rounded as the spec leaves open. (DESIGN CHOICE, log entry 4). -/
def Dev.showHead (d : Dev) (k : RatModel) : Dev :=
  (d.set F.RAT_HEAD_H (Config.headH k.hNum (k.r * 3276800000000000))).set F.RAT_HEAD_E
    (Config.headE (k.c * k.dv2 * (100 - k.m)) 131072000000000000000)

/-- Decides the level in force afresh for the remaining `ms`, withdrawing the grant where it no longer fits (R173). -/
def Dev.redecide (d : Dev) (vr ms : Nat) : Dev :=
  if !d.is F.RAT_STAT_ACTIVE then d
  else
    let k := d.ratModel vr
    let d1 := d.showHead k
    if k.fits (d.get (F.RAT_LVL_DRAW (d.get F.RAT_STAT_LEVEL - 1))) ms then d1 else d1.withdraw

/-- BURST_GNT is held low from now on, LIMIT_N falls and any grant ends: the bound port lost its clock, stopped or is fenced (R177). -/
def Dev.ratClockGone (d : Dev) : Dev := ({ d with rat := { d.rat with mute := true } } : Dev).withdraw.limitLow

/-- The bound port runs again: LIMIT_N rises LIMHOLD ms later (R177). -/
def Dev.ratClockBack (d : Dev) : Dev :=
  if d.rat.mute then { d with rat := { d.rat with mute := false, clkHold := true } } else d

/-- The reason that words carry with nothing to report: fenced, EN at 0, not ready, and IDLE where no request was accepted since EN rose;
else that of the last answer stays (Table 06.4). (DEDUCED, log entry 30). -/
def Dev.restReason (d : Dev) : Nat :=
  if d.ratFenced then 4
  else if !d.is F.RAT_CTRL_EN then 5
  else if !d.rat.ready then 6
  else if d.rat.tag.isNone then 0
  else d.get F.RAT_STAT_REASON

/-- The first complete scan since EN rose has ended: requests are decided, and LIMIT_N may rise (R179). -/
def Dev.ratReady (d : Dev) : Dev :=
  let d1 : Dev := { d with rat := { d.rat with ready := true } }
  (d1.set F.RAT_STAT_REASON d1.restReason).limitRise

/-- A fenced Ration: LIMIT_N low, G 0, REASON FENCED (R178). -/
def Dev.fenceRation (d : Dev) : Dev := ((d.limitLow.endGrant 4)).sendGrant

end Sys2Proof.Machine
end

