-- ==== Sys2Proof/Machine/TdmOps.lean ====
section
/-!
DEFINITION. Operations of the serial audio ports that several causes share (chapter 10): what the loss of a clock does, the
audio PLL, and the fence and return of a port.
-/
namespace Sys2Proof.Machine

open Sys2Proof

def Dev.tdmOf (d : Dev) (p : Nat) : Tdm := mapGet {} d.tdm p

def Dev.setTdm (d : Dev) (p : Nat) (x : Tdm) : Dev := { d with tdm := mapPut {} d.tdm p x }

/-- Endpoint codes on TDM port `p`. -/
def onTdm (p : Nat) : Nat → Bool := fun c => epKind c == 3 && tdmPort c == p

/-- Streams that use port `p`. -/
def Dev.tdmStreams (d : Dev) (p : Nat) : List Nat :=
  d.boundStreams.filter fun s => onTdm p (d.srcCode s) || (d.stream s).sinks.any fun e => onTdm p (d.sinkCode s e.1)

/-- Sinks (stream, index) on port `p`. -/
def Dev.tdmSinks (d : Dev) (p : Nat) : List (Nat × Nat) :=
  d.boundStreams.foldr (fun s l => ((d.stream s).sinks.filter fun e => onTdm p (d.sinkCode s e.1)).map (fun e => (s, e.1)) ++ l) []

/-- The owners of the streams on a port, each once. -/
def Dev.tdmOwners (d : Dev) (p : Nat) : List Nat := ((d.tdmStreams p).map d.strOwner).eraseDups

/-- A TDM event: 0 CLK_LOSS, 1 CLK_BACK, 2 FSERR, to the owners of the streams on the port. (DEDUCED, log entry 44). -/
def Dev.tdmEvent (d : Dev) (p bit : Nat) : Dev := d.raise (bitFld (0xC014 + 0x40 * p) bit) (0xD00 + bit) (d.tdmOwners p) p 0 0

def Dev.tdmMaster (d : Dev) (p : Nat) : Bool := d.is (F.TDM_CFG_MASTER p)

/-- Frames a second of a port. -/
def Dev.tdmRate (d : Dev) (p : Nat) : Nat := rateHz (d.get (F.TDM_CFG_RATE p))

/-- The sinks of a port line up their first frame again (R289, R299, R384). -/
def Dev.realign (d : Dev) (p : Nat) : Dev :=
  (d.tdmSinks p).foldl (fun d e => d.modSink e.1 e.2 fun k => { k with aligned := false }) d

/-- Ration is bound to port `p`. -/
def Dev.ratBound (d : Dev) (p : Nat) : Bool := d.get F.RAT_CTRL_PORT == p

/-- The bank that each sink of a port was sending is over (R255, R261, R294). -/
def Dev.endBanks (d : Dev) (p : Nat) : Dev :=
  (d.tdmSinks p).foldl (fun d e =>
    if (d.sink e.1 e.2).cur = 0 then d else (d.modSink e.1 e.2 fun k => { k with cur := 0 }).sinkLeaves e.1 e.2) d

/-- Frames run; Ration follows where the port is bound to it (R177, R179). -/
def Dev.tdmRun (d : Dev) (p : Nat) : Dev :=
  let d1 := (d.set (F.TDM_STAT_RUNNING p) 1).setTdm p {}
  if d1.ratBound p then d1.ratClockBack.limitRise else d1

/-- Both banks are abandoned and frames no longer run. -/
def Dev.tdmStop (d : Dev) (p : Nat) : Dev := ((d.set (F.TDM_STAT_RUNNING p) 0).setTdm p {}).endBanks p

/-- Ration acts on the bound port's loss of its clock or its fence (R177). (DEDUCED, log entry 31). -/
def Dev.ratPortLost (d : Dev) (p : Nat) : Dev :=
  if d.ratBound p && !d.rat.mute then
    (d.ratClockGone.raise F.RAT_INT_CLKLOSS 0x503 [0] 0 0 0).oweFault 0x219 16
  else d

/-- A port's clock is declared lost (R298); one that ran again but was not yet back stops. -/
def Dev.tdmLose (d : Dev) (p : Nat) : Dev :=
  if !d.is (F.TDM_CTRL_EN p) then d
  else if d.is (F.TDM_STAT_CLKLOST p) then (if d.is (F.TDM_STAT_RUNNING p) then (d.tdmStop p).ratPortLost p else d)
  else
    let d1 := ((d.tdmStop p).set (F.TDM_STAT_CLKLOST p) 1).bump (F.TDM_CNT_CLKLOSS p)
    ((d1.tdmEvent p 0).oweFault (0x21A + p) 29).ratPortLost p

/-- The audio PLL is held under R49: every master port has lost its clock (R295). (DEDUCED, log entry 15). -/
def Dev.pllHold (d : Dev) : Dev :=
  let d1 := d.set F.TDM_PLL_LOCKED 0
  [0, 1].foldl (fun d p => if d.tdmMaster p then d.tdmLose p else d) d1

/-- The PLL starts once the 24 MHz crystal is qualified and a master port or AMCLK needs it (R301). -/
def Dev.pllWanted (d : Dev) : Bool :=
  d.is F.SUP_XTSTAT_XT24OK && !d.is F.SUP_XTSTAT_BACKUP &&
    (d.pllOn || d.is F.TDM_PLL_AMEN || [0, 1].any fun p => d.is (F.TDM_CTRL_EN p) && d.tdmMaster p)

/-- The port has a clock to run on. -/
def Dev.tdmClocked (d : Dev) (p : Nat) : Bool := !d.tdmMaster p || d.is F.TDM_PLL_LOCKED

/-! ### The pins of a port (R284, R297, R298, R300, R301, Table 22.3) -/

/-- What a pin of a serial audio port does: an input, high-impedance, held low, carrying its signal, or fail-safe without a supply. -/
inductive TdmPin where
  | input
  | highZ
  | low
  | signal
  | failSafe
  deriving DecidableEq, Repr

/-- BCLK and FS, and DO, of port `p`. DI is always an input while the supply is there. -/
def Dev.tdmPins (d : Dev) (p : Nat) : TdmPin × TdmPin :=
  if !d.pow.railEn then (.failSafe, .failSafe)
  else if !d.coreOn || !d.is (F.TDM_CTRL_EN p) then (.input, .highZ)
  else
    let clk := if !d.tdmMaster p then .input else if d.is (F.TDM_STAT_RUNNING p) then .signal
      else if d.is (F.TDM_STAT_CLKLOST p) || d.is (F.TDM_STAT_FENCED p) then .low else .input
    let out := if d.is (F.TDM_STAT_FENCED p) then .highZ else if d.is (F.TDM_STAT_RUNNING p) then .signal
      else if d.is (F.TDM_CFG_IDLE p) then .highZ else .low
    (clk, out)

/-- A fenced port behaves as under clock loss with DO high-impedance; its streams lose it (R300, R587). (DEDUCED, log entry 31). -/
def Dev.fenceTdm (d : Dev) (p : Nat) : Dev :=
  (((d.tdmStop p).set (F.TDM_STAT_FENCED p) 1).ratPortLost p).loseSources (onTdm p) false

/-- The port returns: it resumes at the next 64 valid frames (R299, R300). -/
def Dev.returnTdm (d : Dev) (p : Nat) : Dev := (d.set (F.TDM_STAT_FENCED p) 0).sourcesBack (onTdm p)

end Sys2Proof.Machine
end

