-- ==== Sys2Proof/Machine/TenOps.lean ====
section
/-!
DEFINITION. Operations of tenants that several causes share (chapter 12): what shows a fence, and the start of a function-level
reset.
-/
namespace Sys2Proof.Machine

open Sys2Proof

def Dev.flrOf (d : Dev) (t : Nat) : Flr := mapGet {} d.flr t

def Dev.setFlr (d : Dev) (t : Nat) (x : Flr) : Dev := { d with flr := mapPut {} d.flr t x }

def Dev.flrBusy (d : Dev) (t : Nat) : Bool := d.is (F.TEN_GSTAT_FLRBUSY t)

/-- TEN_FENCED (1) or TEN_UNFENCED (2). -/
def Dev.tenFenceEvent (d : Dev) (bit t : Nat) : Dev := d.raise (bitFld 0xE004 bit) (0xF00 + bit) (withT000 [t]) t 0 0

/-- The fence of a tenant, or its end, takes effect and is shown, but during an FLR only at its step 7 (R348, R349, R352).
 (DEDUCED, log entry 41). -/
def Dev.tenantFence (d : Dev) (t : Nat) : Dev :=
  let now := d.unitFenced t
  if d.flrBusy t || now == d.is (F.TEN_GSTAT_FENCED t) then d
  else ((d.setB (F.TEN_GSTAT_FENCED t) now).setB (F.TEN_STAT_FENCED t) now).tenFenceEvent (if now then 1 else 2) t

/-- Step 1 of Table 12.3, and the stop of re-steers toward the tenant (R237). A function already resetting ignores it.
 (DEDUCED, log entry 49). -/
def Dev.startFlr (d : Dev) (t : Nat) : Dev :=
  if !d.tenantExists t || d.flrBusy t then d
  else
    let n := ((List.range 8).filter fun q => (d.read t q).n != 0).length
    let d1 := (d.set (F.TEN_GSTAT_FLRBUSY t) 1).setFlr t { d.flrOf t with step := 1, wiped := 0 }
    let d2 := (List.range 8).foldl (fun d q => (d.setRead t q {}).set (F.HIF_RIDX_P t q) (d.get (F.HIF_RIDX_C t q))) d1
    let d3 := { d2 with hif := { d2.hif with abandoned := d2.hif.abandoned + (if d.inPart t then 0 else n),
                                             waiting := mapPut false d2.hif.waiting t false
                                             tagHeld := mapPut false d2.hif.tagHeld t false } }
    [1, 2, 3, 4, 5, 6, 7, 8].foldl (fun d p =>
      let x := mapGet ({} : Steer) d.lhe.steer p
      if x.step ≠ 0 ∧ x.side ∧ x.tenant = t then { d with lhe := { d.lhe with steer := mapPut {} d.lhe.steer p { x with stop := true } } }
      else d) d3

end Sys2Proof.Machine
end

