-- ==== Sys2Proof/Machine/Fence.lean ====
section
/-!
DEFINITION. What a fence does to each kind of unit (Table 17.2), and what ends with it. Nothing here raises a fault event
(R483).
-/
namespace Sys2Proof.Machine

open Sys2Proof

/-- The kind k of a unit's FLT_FALLOWk, where the unit can be fenced (Table 17.2). -/
def unitKind (u : Nat) : Option Nat :=
  if u < 0x100 then some 0
  else if u < 0x200 then some 1
  else if u ≤ 0x208 then some 2
  else if 0x210 ≤ u ∧ u ≤ 0x214 then some 3
  else if u = 0x218 then some 4
  else if u = 0x219 then some 5
  else if u = 0x21A ∨ u = 0x21B then some 6
  else if 0x220 ≤ u ∧ u ≤ 0x225 then some 7
  else if u = 0x228 then some 8
  else if 0x230 ≤ u ∧ u ≤ 0x23F then some 9
  else if u = 0x246 then some 10
  else none

/-- A unit number that is issued (Table 17.2). -/
def unitIssued (u : Nat) : Bool :=
  (unitKind u).isSome || (0x240 ≤ u && u ≤ 0x245) || u == 0x247

/-- A fenced charger stops switching and balances no cell; in reverse operation UP's source fails (R155, R142, R132). -/
def Dev.fenceCharger (d : Dev) : Dev :=
  let d0 := if d.get F.CHG_STAT_STATE = 7 then d.upFails else d
  ((d0.closeSession 6 8).set F.CEL_BAL_MASK 0).selectInput

/-- The charger starts again from QUALIFY. -/
def Dev.returnCharger (d : Dev) : Dev := if d.get F.CHG_STAT_STATE = 8 then d.set F.CHG_STAT_STATE 1 else d

/-- The port presents what its role asks for again, and its draw limit is lifted (R122). -/
def Dev.returnPd (d : Dev) (p : Nat) : Dev :=
  ((d.set (F.PD_STAT_FENCED p) 0).modPort p fun x => { x with limited := false }).selectInput

/-- Ration returns with REST unchanged (R178). -/
def Dev.returnRation (d : Dev) : Dev := (d.set F.RAT_STAT_REASON d.restReason).limitRise.sendGrant

/-- What follows at unit `u` once its record shows the fence. -/
def fenceEffect (u : Nat) (d : Dev) : Dev :=
  match unitKind u with
  | some 0 => (d.tenantFence u).undoSteers u
  | some 1 => d.fenceStream (u - 0x100)
  | some 2 => d.fencePort (u - 0x200)
  | some 3 => d.followPort (d.fencePd (u - 0x210)) (u - 0x210)
  | some 4 => d.fenceCharger
  | some 5 => d.fenceRation
  | some 6 => d.fenceTdm (u - 0x21A)
  | some 7 => d.fenceLane (u - 0x220)
  | some 8 => d.set F.GRN_STAT_FENCED 1
  | some 9 => d.setBit F.LAR_FENCED_FENCED (u - 0x230) true
  | _ => d

/-- What follows at unit `u` once its record shows that the fence has ended. -/
def returnEffect (u : Nat) (d : Dev) : Dev :=
  match unitKind u with
  | some 0 => d.tenantFence u
  | some 1 => d.returnStream (u - 0x100)
  | some 2 => d.returnPort (u - 0x200)
  | some 3 => d.returnPd (u - 0x210)
  | some 4 => d.returnCharger
  | some 5 => d.returnRation
  | some 6 => d.returnTdm (u - 0x21A)
  | some 7 => d.returnLane (u - 0x220)
  | some 8 => d.set F.GRN_STAT_FENCED 0
  | some 9 => d.setBit F.LAR_FENCED_FENCED (u - 0x230) false
  | _ => d

end Sys2Proof.Machine
end

