-- ==== Sys2Proof/Machine/Flags.lean ====
section
/-!
DEFINITION. Flag computations: fault records, escalation, fences, fallow and alert pins (chapter 17), events with their
interrupt bit, lost items with their paced notices (R274), and rejected register writes with their fault source.
-/
namespace Sys2Proof.Machine

open Sys2Proof

def Dev.urecOf (d : Dev) (u : Nat) : URec := mapGet {} d.urec u

def Dev.setRec (d : Dev) (u : Nat) (r : URec) : Dev := { d with urec := mapPut {} d.urec u r }

/-- The owner of a unit at this moment (R487): the tenant itself, the owner of a stream that is not IDLE, the owner of a
port that is local and not parked. -/
def Dev.unitOwner (d : Dev) (u : Nat) : Option Nat :=
  if u < 0x100 then some u
  else if u < 0x200 then
    if d.get (F.STR_W0_STATE (u - 0x100)) = 0 then none else some (d.get (F.STR_W0_OWNER (u - 0x100)))
  else if 0x201 ≤ u ∧ u ≤ 0x208 then
    if d.is (F.PRT_STAT_SIDE (u - 0x200)) && !d.is (F.PRT_LSTAT_PARKED (u - 0x201)) then
      some (d.get (F.PRT_LSTAT_OWNER (u - 0x201)))
    else none
  else none

/-- Tenants that receive the FLT events of a unit (R487). -/
def Dev.fltRecipients (d : Dev) (u : Nat) : List Nat := withT000 (d.unitOwner u).toList

/-- An FLT event: its interrupt bit `n` and the rings of R487. -/
def Dev.fltEvent (d : Dev) (n u src : Nat) : Dev :=
  (d.set (bitFld 0x15004 n) 1).notifyAll (d.fltRecipients u) (0x1600 + n) u src (d.urecOf u).fcnt

/-! ### Alert pins (R489 to R491) -/

def Dev.pin (d : Dev) (x : Nat) : AlertPin := mapGet {} d.alert x

def Dev.setPin (d : Dev) (x : Nat) (p : AlertPin) : Dev := { d with alert := mapPut {} d.alert x p }

/-- Source `i` is routed to pin `x`. -/
def Dev.routed (d : Dev) (x i : Nat) : Bool :=
  if i < 32 then d.bit (F.ALT_ROUTE0_ROUTE x) i else d.bit (F.ALT_ROUTE1_ROUTE x) (i - 32)

/-- Some record asserts pin `x` in level mode (R491). -/
def Dev.levelOn (d : Dev) (x : Nat) : Bool :=
  d.urec.any fun e => e.2.valid && (if x = 0 then e.2.rta else e.2.rtb) && (!d.is (F.ALT_CFG_SEVONLY x) || e.2.sev)

/-- The pin's state follows its mode's condition. While a failed self-test holds both pins they stay asserted (R492). -/
def Dev.showPin (d : Dev) (x : Nat) : Dev :=
  d.setB (F.ALT_CFG_STATE x)
    (d.pow.state == .stuck || (if d.is (F.ALT_CFG_MODE x) then d.levelOn x else (d.pin x).pulsing || (d.pin x).held))

/-- An event routed to pin `x` acts on it (R490): a pulse starts or is lengthened, or waits for the deasserted interval
to end. -/
def Dev.pulse (d : Dev) (x : Nat) : Dev :=
  let p := d.pin x
  if d.is (F.ALT_CFG_MODE x) then d.showPin x
  else if p.resting then d.setPin x { p with waiting := true }
  else (d.setPin x { p with pulsing := true }).showPin x

/-- Alert pin `x` for an event of source `i` (R489). -/
def Dev.alertPin (d : Dev) (i : Nat) (severe : Bool) (x : Nat) : Dev :=
  if d.routed x i && (!d.is (F.ALT_CFG_SEVONLY x) || severe) then d.pulse x else d.showPin x

def Dev.alerts (d : Dev) (i : Nat) (severe : Bool) : Dev := (d.alertPin i severe 0).alertPin i severe 1

/-! ### Records and fences (R481 to R485) -/

/-- The record after a REPORT or FENCE event of source `i` (R481). -/
def recordEvent (r : URec) (i seconds : Nat) (ra rb : Bool) : URec :=
  if r.valid then { r with multi := true, merged := satInc 0xFF r.merged, last := i, rta := r.rta || ra, rtb := r.rtb || rb }
  else { r with valid := true, cause := i, last := i, merged := 0, multi := false, time := seconds, rta := ra, rtb := rb }

def Dev.recordFault (d : Dev) (u i : Nat) : Dev :=
  d.setRec u (recordEvent (d.urecOf u) i (d.get F.SUP_SECONDS_COUNT) (d.routed 0 i) (d.routed 1 i))

/-- (DESIGN CHOICE, log entry 3). -/
def Dev.fallowPeriod (d : Dev) (k : Nat) : Nat := d.get (F.FLT_FALLOW_PERIOD k)

/-- A bank may be fenced (R484): no other bank is, nothing has leaked, and it does not hold the ring partition. (DEDUCED, log entry 63). -/
def Dev.bankMayFence (d : Dev) (b : Nat) : Bool :=
  d.get F.LAR_FENCED_FENCED == 0 && d.get F.LAR_LEAK_COUNT == 0 &&
    !(d.lar.partCells != 0 && d.lar.partBase / 4096 == b)

/-- A severe FENCE source may fence the unit now. -/
def Dev.mayFence (d : Dev) (u : Nat) : Bool :=
  match unitKind u with
  | none => false
  | some 9 => d.bankMayFence (u - 0x230)
  | some _ => true

/-- What a fence of unit `u` leaves to the end of the command: nothing of its own (R483), and of other units no event that could fence
one of them in turn (R26). -/
def Dev.afterFence (d : Dev) (u : Nat) (x : Due) : Bool :=
  match x with
  | .fault v i => v != u && d.get (F.FLT_SRC_CLASS i) != 2
  | _ => false

/-- Applies the fence of R483 with the stickiness of R485, raising FLT_FENCE or FLT_STUCK, and lets the unit behave as
its kind's row states. (DEDUCED, log entry 9). -/
def Dev.fence (d : Dev) (u i : Nat) : Dev :=
  match unitKind u with
  | none => d
  | some k =>
    let r := d.urecOf u
    if r.fenced then d
    else
      let lim := d.get (F.FLT_FALLOW_LIMIT k)
      let sticky := decide (lim ≠ 0) && decide (lim ≤ r.fcnt)
      let d1 := d.setRec u { r with fenced := true, sticky := sticky, wins := [],
                                    remain := if sticky then 0 else d.fallowPeriod k }
      let d2 := d1.setBit (F.FLT_FENCED_FENCED (u / 32)) (u % 32) true
      let d3 := d2.fltEvent (if sticky then 2 else 0) u i
      let d4 := fenceEffect u d3
      { d4 with lar := { d4.lar with due := d3.lar.due ++ (d4.lar.due.drop d3.lar.due.length).filter (d.afterFence u) } }

/-- A fence of device queue `q` under unit LAR (R484): reachable items are freed, each counting one in LOST. -/
def Dev.fenceQueue (d : Dev) (q i : Nat) : Dev :=
  if d.lar.qFenced.contains q then d
  else
    let n := (d.items q).length
    let d1 := (d.emptyQueue q).countLostAs q n [.note q 0]
    let d2 := { d1 with lar := { d1.lar with qFenced := q :: d1.lar.qFenced } }
    let d3 := d2.setRec 0x246 { d2.urecOf 0x246 with fenced := true, wins := [], remain := d.fallowPeriod 10 }
    (d3.setBit (F.FLT_FENCED_FENCED (0x246 / 32)) (0x246 % 32) true).fltEvent 0 0x246 i

/-- The source became severe: SEV, then FLT_SEVERE or the fence (R482.4, R488). -/
def Dev.severe (d : Dev) (u i : Nat) (queue : Option Nat) : Dev :=
  let r := d.urecOf u
  let d1 := d.setRec u { r with sev := true, wins := mapErase r.wins i }
  if d.get (F.FLT_SRC_CLASS i) = 2 then
    match u == 0x246, queue with
    | true, some q => d1.fenceQueue q i
    | true, none => d1.fltEvent 3 u i
    | false, _ => if d1.mayFence u then d1.fence u i else d1.fltEvent 3 u i
  else d1.fltEvent 3 u i

/-- The windows of the unit stay closed: it is fenced, or the device queue named is. -/
def Dev.counting (d : Dev) (u : Nat) (queue : Option Nat) : Bool :=
  match u == 0x246, queue with
  | true, some q => !d.lar.qFenced.contains q
  | true, none => true
  | false, _ => !(d.urecOf u).fenced

/-- A fault event of source `i` of unit `u`, naming device queue `queue` where the unit is LAR (R481, R482, R489).
A COUNT source does nothing here (Table 17.1). -/
def Dev.fault (d : Dev) (u i : Nat) (queue : Option Nat := none) : Dev :=
  if d.get (F.FLT_SRC_CLASS i) = 0 then d
  else
    let d1 := d.recordFault u i
    if d1.counting u queue then
      let r := d1.urecOf u
      let n := mapGet 0 r.wins i + 1
      if d1.get (F.FLT_SRC_N i) ≤ n then (d1.severe u i queue).alerts i true
      else (d1.setRec u { r with wins := mapPut 0 r.wins i n }).alerts i false
    else
      let r := d1.urecOf u
      (d1.setRec u { r with remain := if r.sticky then 0 else d1.fallowPeriod ((unitKind u).getD 0) }).alerts i false

/-! ### Lost items and their notices (R253, R254, R274) -/

/-- The notice kinds of R274: 0 QUE_LOST, 1 STR_UNDER, 2 STR_POISON; their counts. -/
def Dev.noticeCount (d : Dev) (q kind : Nat) : Nat :=
  match kind with
  | 0 => d.get (F.QUE_W2_LOST q)
  | 1 => d.get (F.QUE_W3_UNDER q)
  | _ => d.get (F.QUE_W3_POISON q)

/-- The event of a notice kind: its code in LAR_INT order. -/
def noticeCode (kind : Nat) : Nat := 0x0B00 + kind

def Dev.setSpacing (d : Dev) (q kind v : Nat) : Dev :=
  { d with lar := { d.lar with spacing := mapPut 0 d.lar.spacing (3 * q + kind) v } }

/-- Sends one notice: the interrupt bit, and for a stream queue the owner's event ring (R274). -/
def Dev.sendNotice (d : Dev) (q kind : Nat) : Dev :=
  let d1 := d.set (bitFld 0x5A1C kind) 1
  if 512 ≤ q ∧ q < 768 then d1.notify (d.qOwner q) (noticeCode kind) q 0 (d.noticeCount q kind) else d1

/-- An occurrence of a notice kind: notified at once where no spacing runs, else gathered (R274). -/
def Dev.notice (d : Dev) (q kind : Nat) : Dev :=
  match mapGet 0 d.lar.spacing (3 * q + kind) with
  | 0 => (d.sendNotice q kind).setSpacing q kind 1
  | _ => d.setSpacing q kind 2

/-- The unit whose fault source a queue's occurrences are: its stream, or LAR. -/
def queueUnit (q : Nat) : Nat := if 512 ≤ q ∧ q < 768 then 0x100 + (q - 512) else 0x246

/-- Applies `f` `n` times. -/
def times (f : Dev → Dev) : Nat → Dev → Dev
  | 0, d => d
  | n + 1, d => times f n (f d)

/-- Raises SUP event `n`: its bit in STW_SUPEV for the steward, and the event rings of `ts` (Table 11.11, R512). -/
def Dev.supEvent (d : Dev) (n : Nat) (ts : List Nat) (arg count : Nat) : Dev :=
  (d.setBit F.STW_SUPEV_EV n true).notifyAll ts (0x100 + n) 0 arg count

/-! ### What a command leaves to its end -/

/-- LEVEL of a bank's leaky bucket (Table 16.5). -/
def lvlFld (b : Nat) : Fld := ⟨0x14010 + 4 * (b / 4), 8 * (b % 4), 8, 0⟩

/-- A corrected read in bank `b` fills its bucket; the overflow is ECC_LAR_CE and source 48 (R464). -/
def Dev.bucket (d : Dev) (b : Nat) : Dev :=
  if d.get F.ECC_LBCFG_CAP < d.get (lvlFld b) + 1 then
    let d1 := (((d.set (lvlFld b) 0).bump (F.ECC_LBCNT_OVF b)).setBit F.ECC_LBFLAG_OVF b true)
    (d1.raise F.ECC_INT_LARCE 0x1500 [0] b 0 0).fault (0x230 + b) 48
  else d.set (lvlFld b) (d.get (lvlFld b) + 1)

/-- LAR_LINK_UE (R276): its interrupt bit, and the steward and T000, and the owner of a stream queue. (DEDUCED, log entry 42). -/
def Dev.linkUe (d : Dev) (ts : List Nat) (inst : Nat) : Dev := d.raise F.LAR_INT_LINKUE 0x0B03 (withT000 ts) inst 0 0

/-- Accounts for one thing left. (DEDUCED, log entry 9). -/
def Dev.settleOne (d : Dev) (x : Due) : Dev :=
  match x with
  | .leak b => (d.linkUe [] b).fault 0x246 28
  | .corrected b => d.bucket b
  | .lost q => (d.notice q 0).fault (queueUnit q) 25 (if 512 ≤ q ∧ q < 768 then none else some q)
  | .under q => (d.notice q 1).fault (queueUnit q) 26
  | .note q k => d.notice q k
  | .link q =>
    if 512 ≤ q ∧ q < 768 then (d.linkUe [d.qOwner q] q).fault (queueUnit q) 28 else (d.linkUe [] q).fault 0x246 28 (some q)
  | .poison q e =>
    let d1 := d.notice q 2
    if e then d1.fault (queueUnit q) 27 (if 512 ≤ q ∧ q < 768 then none else some q) else d1
  | .fault u i => d.fault u i

/-- Accounts for what a command has left, in order; what accounting itself leaves is accounted for in turn, at most `n`
times over. -/
def Dev.settleN (d : Dev) : Nat → Dev
  | 0 => { d with lar := { d.lar with due := [] } }
  | n + 1 =>
    match d.lar.due with
    | [] => d
    | l => (l.foldl Dev.settleOne { d with lar := { d.lar with due := [] } }).settleN n

/-! ### What follows by itself from what a command has done -/

/-- A stream that S2 flushed starts again as a START does; one fenced since, at its return (R73, R262). -/
def Dev.restart (d : Dev) (s : Nat) : Dev :=
  if d.strState s = 1 then (d.set (F.STR_W0_STATE s) 2).primed s
  else if d.strState s = 5 ∧ (d.stream s).preFence = 1 then d.modStream s fun x => { x with preFence := 2 }
  else d

/-- A stream that S2 flushed has not ended its flush. -/
def Dev.s2Flushing (d : Dev) : Bool := d.pow.s2Streams.any d.flushing

/-- S2 waits: a ticket is in flight, or a flush of it runs (R71). -/
def Dev.s2Busy (d : Dev) : Bool :=
  d.s2Flushing || d.hif.running.any (fun tk => tk.result.isNone) || d.hif.fetched.any (fun e => !e.2.isEmpty) ||
    d.hif.reads.any fun e => e.2.n != 0

/-- S3 begins (R71). -/
def Dev.startS3 (d : Dev) : Dev := { d.set F.SUP_STAT_STAGE 3 with pow := { d.pow with s3Done := false, s3Lost := false } }

/-- SUP_SHUT bits 6:4. -/
def Dev.causes (d : Dev) : Nat :=
  bitNat (d.is F.SUP_SHUT_CAUSE_SOFT) + 2 * bitNat (d.is F.SUP_SHUT_CAUSE_LOWPACK) + 4 * bitNat (d.is F.SUP_SHUT_CAUSE_WARNDLY)

/-- Steps 4 and 5 of an abort (R73). (DEDUCED, log entry 21). -/
def Dev.endAbort (d : Dev) (cause : Nat) : Dev :=
  (d.pow.s2Streams.foldl Dev.restart { d with pow := { d.pow with aborting := none, s2Streams := [] } }).supEvent 5 d.tenants cause 0

/-- Steps 2 and 3 of an abort (R73): RUN, STAGE and CAUSE clear, descriptor fetch resumes; steps 4 and 5 follow once the flushes of S2
have ended. -/
def Dev.leaveShutdown (d : Dev) : Dev :=
  let c := d.causes
  let d1 := (((d.set F.SUP_STAT_STAGE 0).set F.SUP_STATE_CUR 4).set F.SUP_SHUT_CAUSE_SOFT 0).set F.SUP_SHUT_CAUSE_LOWPACK 0
  { d1.set F.SUP_SHUT_CAUSE_WARNDLY 0 with
    pow := { d1.pow with aborting := some c, abortWait := false, inputLatched := false, fired := 0 } }.limitRise

/-- An abort (R73): step 1 lets a commit in progress complete first. (DEDUCED, log entry 21). -/
def Dev.abortShutdown (d : Dev) : Dev :=
  if d.grn.commit.isSome then { d with pow := { d.pow with abortWait := true } } else d.leaveShutdown

/-- Bits of SUP_WAKESRC and SUP_WAKECFG by source: 0 to 4 VBUS, 5 WAKE_N, 6 BATID, 7 ALARM, 8 YK_TOKEN. -/
def srcFld (i : Nat) : Fld := if i < 5 then F.SUP_WAKESRC_VBUS else bitFld 0x1014 i

def Dev.latchSrc (d : Dev) (i : Nat) : Dev := if i < 5 then d.setBit (srcFld i) i true else d.set (srcFld i) 1

/-- Returned input is latched as a wake source: VBUS of each port that gives it, or BATID for the pack (R74). (DEDUCED, log entry 22). -/
def Dev.latchInput (d : Dev) : Dev :=
  let d1 := (((List.range 5).filter d.portPower).foldl Dev.latchSrc d)
  let d2 := if d.packInput then d1.latchSrc 6 else d1
  { d2 with pow := { d2.pow with inputLatched := true } }

/-- Input becomes present (R70): from S4 on it is latched (R74); in S1 to S3 it aborts a sequence whose CAUSE holds no SOFT (R73). -/
def Dev.inputEdge (d : Dev) : Dev :=
  if !d.up || d.is F.SUP_STAT_INPUT || !d.inputHolds then d
  else
    let d1 := d.set F.SUP_STAT_INPUT 1
    let st := d.get F.SUP_STAT_STAGE
    if st = 4 then d1.latchInput
    else if st ≠ 0 ∧ !d.is F.SUP_SHUT_CAUSE_SOFT then d1.abortShutdown
    else d1

/-! ### Levels -/

/-- The switches of the power path are driven: the core is released, the first scan has ended, and S4 has not begun (R133, R157). -/
def Dev.pathDriven (d : Dev) : Bool := d.coreOn && d.pack.scanned && d.get F.SUP_STAT_STAGE != 4

/-- The charge current that the stage and the temperature band set, in mA (R135, Table 05.2): IPRE in PRECHARGE; in CC and CV, ICHG or
its half in the cool band, less what a cell at V + 25 mV has taken off. The input limit lowers it further (R131). -/
def Dev.chargeMa (d : Dev) : Nat :=
  match d.get F.CHG_STAT_STATE with
  | 2 => 50 * d.get F.CHG_CFG_IPRE
  | 3 | 4 => (if d.get F.CHG_STAT_TBAND = 1 then 50 * d.get F.CHG_CFG_ICHG / 2 else 50 * d.get F.CHG_CFG_ICHG) - d.pack.trim
  | _ => 0

/-- Input current that USB allows of the selected port, in mA: its contract's or Type-C Current's, 500 mA at default and while the
draw is limited to 2.5 W, and what a suspended hub may draw (R106, R122, R131, Table 07.3). (DEDUCED, log entry 75). -/
def Dev.offerMa (d : Dev) (p : Nat) : Nat :=
  let x := d.port p
  let m := if d.is (F.PD_STAT_CONTRACT p) then x.ma else if x.adv = 2 then 3000 else if x.adv = 1 then 1500 else 500
  let l := if x.limited || d.is (F.PD_STAT_FENCED p) then min m (2500000 / max 1 x.mv) else m
  if p = 0 ∧ d.suspendDraw = 1 then min l 2 else if p = 0 ∧ d.suspendDraw = 2 then min l (25000 / max 1 x.mv) else l

/-- The input current limit: the lower of what the port offers and CHG_CFG.ILIM; nothing without an input (R131). -/
def Dev.inputMa (d : Dev) : Nat :=
  let b := d.get F.CHG_STAT_INPORT
  if b = 0 then 0 else min (d.offerMa (b - 1)) (50 * d.get F.CHG_CFG_ILIM)

/-- The power path as its rules hold it: the input switch closed with an input selected; the pack switch closed with the pack present
where no input is selected or it gives too little (R131, R155, R157); and the currents the charger regulates to. (DEDUCED, log entry
75). -/
def Dev.pathLevel (d : Dev) : Pack :=
  let b := d.get F.CHG_STAT_INPORT
  { d.pack with
    ppi := d.pathDriven && b != 0
    ppb := d.pathDriven && d.is F.CEL_STAT_PRESENT && (b == 0 || d.pack.short)
    iset := d.chargeMa
    iin := d.inputMa }

/-- The mode bits of RAT_STAT show the modes in force while the core is on (R167). -/
def Dev.ratModes (d : Dev) : Dev :=
  if d.coreOn then
    ((d.setB F.RAT_STAT_LEAN d.leanMode).setB F.RAT_STAT_INONLY d.inputOnly).setB F.RAT_STAT_STKONLY d.anyOpen
  else d

/-- The levels that follow what they show: INPUT and LOWPACK show their conditions, RAT_STAT its modes, the power path stands as its
rules hold it, and DOZE ends with what wakes the steward (R70, R69, R167, R133, R61). (DEDUCED, log entry 20). -/
def Dev.levels (d : Dev) : Dev :=
  let d1 := d.setB F.SUP_STAT_INPUT d.inputHolds
  let d2 := (d1.setB F.SUP_STAT_LOWPACK d1.lowpack).ratModes
  ({ d2 with pack := d2.pathLevel } : Dev).wakeSteward

/-- S2 ends with its work; an abort goes on once the commit it waits for has completed, and ends with the flushes of S2 (R71, R73).
 (DEDUCED, log entry 21). -/
def Dev.progress (d : Dev) : Dev :=
  let d1 := if d.get F.SUP_STAT_STAGE = 2 && !d.s2Busy && !d.pow.abortWait then d.startS3 else d
  let d2 := if d1.pow.abortWait && d1.grn.commit.isNone then d1.leaveShutdown else d1
  match d2.pow.aborting with
  | some c => if d2.s2Flushing then d2 else d2.endAbort c
  | none => d2

/-- The end of every command. (DEDUCED, log entry 9). -/
def Dev.settle (d : Dev) : Dev := ((d.settleN 4).inputEdge.progress.settleN 4).levels

/-! ### Rejected writes -/

/-- Records a rejected register access in the space's error register; in a tenant page it is a TEN_CFGERR_SRC event of
that tenant (R9, R31, R355). -/
def Dev.reject (d : Dev) (sp : Space) (off : Nat) (st : Status) : Dev :=
  match sp with
  | .bar0 => d.recordGlb off st
  | .page t => (d.recordTen t.val off st).fault t.val 34

/-- A write of `w` to entry `i` of a register: checked whole, then rejected and recorded, or applied field by field and
followed by its effect, which sees the state before the write as well (R7, R8, R583, R29). (DEDUCED, log entry 10). -/
def Dev.regWrite (d : Dev) (sp : Space) (row : RegRow) (i : Nat) (w : Word)
    (checks : List (Bool × Status)) (eff : Dev → Dev) : Dev :=
  if !d.regsOpen then d
  else
    match firstByRank ((setsReserved row w, .eField) :: (d.changesLocked sp row i w, .eLocked) :: checks) with
    | .done => eff (d.writeRow sp row i w)
    | st => d.reject sp (row.base + row.stride * i) st

end Sys2Proof.Machine
end

