-- ==== Sys2Proof/Machine/Meaning.lean ====
section
/-!
DEFINITION. The shape of a meaning: what a command does to the device while the core is up, and what it does in any
power state.
-/
namespace Sys2Proof.Machine

open Sys2Proof

/-- The outcome of a command. -/
abbrev Out' := Host.Outcome State Fault Refusal

/-- Changes the device alone, and accounts for what the change leaves (lost items, fault events). -/
def State.onDev (s : State) (f : Dev → Dev) : State := { s with dev := (f s.dev).settle }

/-- A command of a block that runs only while the core is up (Table 03.2): in every other power state nothing happens.
 (DESIGN CHOICE, log entry 3). -/
def act (s : State) (f : Dev → Dev) : Out' := .next (if s.dev.up then s.onDev f else s)

/-- A command that acts in any power state, which its effect itself looks at. (DESIGN CHOICE, log entry 3). -/
def always (s : State) (f : Dev → Dev) : Out' := .next (s.onDev f)

/-- A word of a register command with its own bit set. (DEDUCED, log entry 11). -/
def withBit (w : Word) (i : Nat) : Word := w ||| BitVec.ofNat 32 (2 ^ i)

end Sys2Proof.Machine
end

