-- ==== Sys2Proof/Machine/Hub.lean ====
section
/-!
DEFINITION. Meanings of the hub path commands (chapter 07).
-/
namespace Sys2Proof.Machine

open Sys2Proof

/-- What the part answers or drives on a USB port: 0 DATA, 1 ACK, 2 NAK, 3 NYET, 4 STALL, 5 resume K, 6 reset SE0, 7 SOF with its
frame and micro-frame number, 8 low-speed keep-alive, 9 PING. -/
def Dev.usbOut (d : Dev) (p what : Nat) (data : List Byte) : Dev := d.emit .usb p [what] data

/-- Data with its PID, 0 to 2 for DATA0 to DATA2. -/
def Dev.usbData (d : Dev) (p pid : Nat) (data : List Byte) : Dev := d.emit .usb p (if pid = 0 then [0] else [0, pid]) data

/-! ### SETUP packets -/

/-- Fields of a SETUP packet, byte 0 in bits 7:0. -/
def suType (v : Nat) : Nat := bits v 0 8
def suReq (v : Nat) : Nat := bits v 8 8
def suValue (v : Nat) : Nat := bits v 16 16
def suIndex (v : Nat) : Nat := bits v 32 16
def suLength (v : Nat) : Nat := bits v 48 16

/-- Answers a control request with data truncated to wLength, or with a protocol stall. -/
def Dev.reply (d : Dev) (v : Nat) (data : List Byte) : Dev := d.usbOut 0 0 (data.take (suLength v))

def Dev.stall (d : Dev) (fn : Bool) : Dev :=
  let d1 := d.usbOut 0 4 []
  if fn then { d1 with hub := { d1.hub with stall0 := true } } else d1

/-! ### Descriptors in endpoint RAM (R184, R201, R211) -/

/-- EPM_UE: the slot and byte address are recorded (R211). (DEDUCED, log entry 34). -/
def Dev.epmUe (d : Dev) (slot addr : Nat) : Dev :=
  let d1 := if d.is F.EPM_ERR_VALID then d
    else ((d.set F.EPM_ERR_VALID 1).set F.EPM_ERR_SLOT slot).set F.EPM_ERR_ADDR addr
  (d1.hubEvent 6 0 [0]).oweFault 0x247 24

/-- The hub class descriptor (Table 07.1). -/
def Dev.hubDescriptor (d : Dev) : List Byte :=
  [11, 0x29, 9, 0x0D, 0x00, BitVec.ofNat 8 (d.get F.HUB_CFG_P2PG), 0, 0xE0, 0x03, 0xFF, 0xFF]

/-- The first directory entry that matches; an entry that cannot be read stops the search. -/
def Dev.findEntry (d : Dev) (fn : Bool) (v : Nat) : Nat → Nat → Dev × Option (Nat × Nat) × Option Nat
  | _, 0 => (d, none, none)
  | e, n + 1 =>
    let w := 8 * d.get F.EPM_DIR_BASE + e
    let r := d.memRead 2 w 1
    match r.2 with
    | none => (r.1, none, some (8 * w))
    | some x =>
      if bits x 0 8 = suValue v / 256 ∧ bits x 8 8 = suValue v % 256 ∧ bits x 16 16 = suIndex v ∧ bitOf x 63 = fn then
        (r.1, some (bits x 32 16, bits x 48 15), none)
      else r.1.findEntry fn v (e + 1) n

/-- GET_DESCRIPTOR: the first matching entry, truncated to wLength; STALL without one (Table 07.2). -/
def Dev.getDescriptor (d : Dev) (fn : Bool) (v : Nat) : Dev :=
  let slot := if fn then 2 else 0
  match d.findEntry fn v 0 (d.get F.EPM_DIR_COUNT) with
  | (d1, _, some a) => (d1.epmUe slot a).stall fn
  | (d1, none, none) => d1.stall fn
  | (d1, some (off, len), none) =>
    match d1.memBytes 2 1 off (min len (suLength v)) with
    | (d2, _, some a) => (d2.epmUe slot a).stall fn
    | (d2, l, none) => d2.reply v l

/-! ### Requests to the hub (Table 07.2) -/

/-- The hub's endpoint 1, slot 1, is released with its toggle at DATA0 (Table 07.13). -/
def Dev.clearEp1 (d : Dev) : Dev := (d.set (F.EPM_SLOT_HALT 1) 0).set (F.EPM_SLOT_TOG 1) 0

/-- A test mode is set for a target, or left. -/
def Dev.setTest (d : Dev) (t : Option (Nat × Nat)) : Dev := { d with hub := { d.hub with test := t } }

/-- Standard requests of the hub. CLEAR_FEATURE(TEST_MODE) is completed and ends the hub's test mode. (DEDUCED, log entry 33). -/
def Dev.hubStandard (d : Dev) (v : Nat) : Dev :=
  match suType v, suReq v with
  | 0x80, 0 => d.reply v (leBytes 2 (bitNat (bitOf (Config.fresh d.free 1).toNat 0) + 2 * d.get F.HUB_STAT_RWEN))
  | 0x81, 0 => d.reply v [0, 0]
  | 0x82, 0 => d.reply v [if d.is (F.EPM_SLOT_HALT 1) && suIndex v == 0x81 then 1 else 0, 0]
  | 0x00, 5 => (d.set F.HUB_STAT_ADDR (suValue v)).reply v []
  | 0x80, 6 => d.getDescriptor false v
  | 0x80, 8 => d.reply v [BitVec.ofNat 8 d.hub.cfgVal]
  | 0x00, 9 =>
    let d1 := ({ d with hub := { d.hub with cfgVal := suValue v % 256 } } : Dev).clearEp1
    ((d1.setB F.HUB_STAT_CFG (suValue v % 256 != 0)).set F.HUB_STAT_ALT 0).reply v []
  | 0x81, 10 => if suIndex v = 0 then d.reply v [BitVec.ofNat 8 (d.get F.HUB_STAT_ALT)] else d.stall false
  | 0x01, 11 => if suIndex v = 0 ∧ suValue v < 2 then ((d.set F.HUB_STAT_ALT (suValue v)).clearEp1).reply v [] else d.stall false
  | 0x00, 1 =>
    if suValue v = 1 then (d.set F.HUB_STAT_RWEN 0).reply v []
    else if suValue v = 2 then (d.setTest none).reply v []
    else d.stall false
  | 0x00, 3 =>
    if suValue v = 1 then (d.set F.HUB_STAT_RWEN 1).reply v []
    else if suValue v = 2 then (d.setTest (some (0, suIndex v / 256))).reply v []
    else d.stall false
  | 0x02, 1 =>
    if suValue v = 0 ∧ suIndex v = 0x81 then d.clearEp1.reply v [] else d.stall false
  | 0x02, 3 =>
    if suValue v = 0 ∧ suIndex v = 0x81 then (d.set (F.EPM_SLOT_HALT 1) 1).reply v [] else d.stall false
  | _, _ => d.stall false

/-- SetPortFeature on port `p`, 1 to 9; a port steered local changes its logical view alone (R186, R188, R189, R209).
 (DEDUCED, log entry 35). -/
def Dev.setPortFeature (d : Dev) (v p : Nat) : Dev :=
  match suValue v with
  | 4 =>
    (if d.st p 8 then
      let d1 := ((d.setSt p 4 true).setSt p 1 false).setSt p 2 false
      if d.isLocal p || p == 9 then d1 else d1.usbOut p 6 []
     else d).reply v []
  | 2 => (if d.st p 1 then d.setSt p 2 true else d).reply v []
  | 8 =>
    (if d.st p 8 then d
     else if p = 9 then
       let d1 := d.setSt 9 8 true
       if d1.is F.HUB_CTRL_FNEN then ((d1.setSt 9 0 true).setCh 9 0 true) else d1
     else if d.isLocal p then d.setSt p 8 true
     else if p ≤ 4 then (d.setSt p 8 true).reportConn p
     else if d.is (F.PRT_STAT_FENCED p) then d.setSt p 8 true
     else d.powerUp p).reply v []
  | 21 => ((if d.isLocal p then d else d.setTest (some (p, suIndex v / 256))).setSt p 11 true).reply v []
  | _ => d.stall false

/-- ClearPortFeature on port `p`, 1 to 9. (DEDUCED, log entry 35). -/
def Dev.clearPortFeature (d : Dev) (v p : Nat) : Dev :=
  match suValue v with
  | 1 => (d.setSt p 1 false).reply v []
  | 2 =>
    (if !d.st p 2 then d
     else if p = 9 then (d.setSt 9 2 false).setCh 9 2 true
     else (d.modHubPort p fun x => { x with resume := true }).usbOut p 5 []).reply v []
  | 8 => (if p = 9 then (d.dropConn 9).setSt 9 8 false else d.hubPowerOff p).reply v []
  | 16 => (d.setCh p 0 false).reply v []
  | 17 => (d.setCh p 1 false).reply v []
  | 18 => (d.setCh p 2 false).reply v []
  | 19 => (d.setCh p 3 false).reply v []
  | 20 => (d.setCh p 4 false).reply v []
  | _ => d.stall false

/-- The translator a port uses: its own in alternate setting 1, one for all in setting 0 (Table 07.2). (DEDUCED, log entry 33). -/
def Dev.ttPort (d : Dev) (p : Nat) : Nat := if d.is F.HUB_STAT_ALT then p else 1

/-- Clear_TT_Buffer frees the buffer that holds the named endpoint's transaction (R191): wValue 3:0 endpoint, 10:4 device,
15 direction IN. (PRESUMED, log entry 32). -/
def Dev.clearTt (d : Dev) (v p : Nat) : Dev :=
  d.modHubPort (d.ttPort p) fun x =>
    { x with np := x.np.filter fun b =>
        !(b.ep == bits (suValue v) 0 4 && b.dev == bits (suValue v) 4 7 && b.inn == bitOf (suValue v) 15) }

/-- Hub class requests. -/
def Dev.hubClass (d : Dev) (v : Nat) : Dev :=
  let p := suIndex v % 256
  let port := decide (1 ≤ p) && decide (p ≤ 9)
  match suType v, suReq v with
  | 0xA0, 0 => d.reply v [0, 0, 0, 0]
  | 0xA3, 0 =>
    if port then d.reply v (leBytes 2 (d.get (F.PRT_STAT_STATUS p)) ++ leBytes 2 (d.get (F.PRT_STAT_CHANGE p))) else d.stall false
  | 0xA0, 6 => if suValue v / 256 = 0x29 then d.reply v d.hubDescriptor else d.stall false
  | 0x20, 1 => if suValue v ≤ 1 then d.reply v [] else d.stall false
  | 0x23, 3 => if port then d.setPortFeature v p else d.stall false
  | 0x23, 1 => if port then d.clearPortFeature v p else d.stall false
  | 0x23, 8 => if d.is F.HUB_STAT_ALT && (p == 0 || decide (8 < p)) then d.stall false else (d.clearTt v p).reply v []
  | 0x23, 9 => if port && p != 9 then (d.emptyTt (d.ttPort p)).reply v [] else d.stall false
  | _, _ => d.stall false

/-! ### Requests to the function (R186, R187, R196 to R198) -/

/-- The slot of an endpoint address of the function. -/
def Dev.slotOf (d : Dev) (a : Nat) : Option Nat :=
  (fnSlots.drop 1).find? fun n =>
    d.is (F.EPM_SLOT_EN n) && d.get (F.EPM_SLOT_EPNUM n) == a % 16 && d.is (F.EPM_SLOT_DIR n) == bitOf a 7

/-- A slot's halt is released: both banks empty, toggle DATA0 (R197). -/
def Dev.unhalt (d : Dev) (n : Nat) : Dev :=
  let d1 := if d.is (F.EPM_SLOT_HALT n) then d.emptyBanks n else d
  (d1.set (F.EPM_SLOT_HALT n) 0).set (F.EPM_SLOT_TOG n) 0

/-- Forwarded to steward firmware: SET_CONFIGURATION, GET and SET_INTERFACE, every class or vendor request. -/
def fnForwarded (v : Nat) : Bool :=
  match bits v 5 2 with
  | 0 => suReq v == 9 || suReq v == 10 || suReq v == 11
  | 1 | 2 => true
  | _ => false

/-- Requests of the function that hardware handles. -/
def Dev.fnStandard (d : Dev) (v : Nat) : Dev :=
  match suType v, suReq v with
  | 0x80, 0 => d.reply v (leBytes 2 (bitNat (bitOf (Config.fresh d.free 1).toNat 0) + 2 * bitNat d.hub.fnWake))
  | 0x81, 0 => d.reply v [0, 0]
  | 0x82, 0 =>
    match d.slotOf (suIndex v) with
    | some n => d.reply v (leBytes 2 (d.get (F.EPM_SLOT_HALT n)))
    | none => if suIndex v % 128 = 0 then d.reply v [0, 0] else d.stall true
  | 0x00, 5 => (d.set F.HUB_STAT_FNADDR (suValue v)).reply v []
  | 0x80, 6 => d.getDescriptor true v
  | 0x80, 8 => d.reply v [BitVec.ofNat 8 d.hub.fnVal]
  | 0x00, 1 =>
    if suValue v = 1 then ({ d with hub := { d.hub with fnWake := false } } : Dev).reply v []
    else if suValue v = 2 then (d.setTest none).reply v []
    else d.stall true
  | 0x00, 3 =>
    if suValue v = 1 then ({ d with hub := { d.hub with fnWake := true } } : Dev).reply v []
    else if suValue v = 2 then (d.setTest (some (9, suIndex v / 256))).reply v []
    else d.stall true
  | 0x02, 1 =>
    match d.slotOf (suIndex v) with
    | some n => if suValue v = 0 ∧ !d.slotIso n then (d.unhalt n).reply v [] else d.stall true
    | none => d.stall true
  | 0x02, 3 =>
    match d.slotOf (suIndex v) with
    | some n => if suValue v = 0 ∧ !d.slotIso n then (d.set (F.EPM_SLOT_HALT n) 1).reply v [] else d.stall true
    | none => d.stall true
  | _, _ => d.stall true

/-- USB answers at all: connected, not held, the function on a powered port. -/
def Dev.hubLive (d : Dev) : Bool := d.hubUp && !d.phyHeld && !d.is F.HUB_STAT_SUSP

def Dev.fnLive (d : Dev) : Bool := d.hubLive && d.is F.HUB_CTRL_FNEN && d.st 9 0

/-- A control request on UP that hardware handles: of the hub with its SETUP packet, or the function's in progress. A
forwarded request waits for HUB_CTL_REQ. One free value is used where GET_STATUS answers it. -/
def Dev.hubRequest (d : Dev) (setup : Option Nat) : Dev :=
  if !d.hubLive then d
  else
    let e := match setup with
      | some v => if bits v 5 2 = 1 then d.hubClass v else d.hubStandard v
      | none =>
        match d.hub.setup with
        | none => d
        | some v =>
          if fnForwarded v || !d.fnLive then d
          else let e := d.fnStandard v; { e with hub := { e.hub with setup := none } }
    { e with free := e.free + 1 }

def execHubRequest (setup : Option (BitVec 64)) (s : State) : Out' := act s fun d => d.hubRequest (setup.map BitVec.toNat)

/-- FUNC_SETUP: always ACKed; it cancels a request in progress and ends a protocol stall (R196). -/
def Dev.funcSetup (d : Dev) (v : Nat) : Dev :=
  if !d.fnLive then d
  else
    let d1 := (d.set F.HUB_CTLREPLY_VALID 0).emptyBanks 2
    (({ d1 with hub := { d1.hub with setup := some v, stall0 := false } } : Dev).set (F.EPM_SLOT_TOG 2) 1).usbOut 0 1 []

def execFuncSetup (setup : BitVec 64) (s : State) : Out' := act s fun d => d.funcSetup setup.toNat

/-- HUB_CTL_REQ: a forwarded request is placed in HUB_SETUP0 and HUB_SETUP1 (R187). -/
def Dev.hubCtlReq (d : Dev) : Dev :=
  match d.hub.setup with
  | none => d
  | some v =>
    if fnForwarded v && d.fnLive && !d.is F.HUB_CTLREPLY_VALID then
      (((d.set F.HUB_SETUP0_BYTES (v % 2 ^ 32)).set F.HUB_SETUP1_BYTES (v / 2 ^ 32)).set F.HUB_CTLREPLY_VALID 1).hubEvent 4 0 []
    else d

def execHubCtlReq (s : State) : Out' := act s Dev.hubCtlReq

/-- Endpoint addresses that follow the descriptors of interface `i` in a configuration set; `inn` says that the walk is
within that interface. (DEDUCED, log entry 33). -/
def ifaceEps (i : Nat) : Nat → Bool → List Nat → List Nat
  | 0, _, _ => []
  | n + 1, inn, l =>
    match l with
    | len :: ty :: x :: _ =>
      if len < 2 then []
      else
        let inn' := if ty = 4 then x == i else inn
        (if ty = 5 ∧ inn' then [x] else []) ++ ifaceEps i n inn' (l.drop len)
    | _ => []

/-- The bytes of the function's configuration set, as endpoint RAM holds them. -/
def Dev.fnConfigSet (d : Dev) : List Nat :=
  match (List.range (d.get F.EPM_DIR_COUNT)).find? fun e =>
      let x := (d.memWord 2 (8 * d.get F.EPM_DIR_BASE + e)).data
      bits x 0 8 == 2 && bitOf x 63 with
  | none => []
  | some e =>
    let x := (d.memWord 2 (8 * d.get F.EPM_DIR_BASE + e)).data
    (List.range (bits x 48 15)).map fun k =>
      let a := bits x 32 16 + k
      bits (d.memWord 2 (a / 8)).data (8 * (a % 8)) 8

/-- Completion of a forwarded request: SET_CONFIGURATION and SET_INTERFACE set toggles to DATA0 (R198). (DEDUCED, log entry 33). -/
def Dev.ctlDone (d : Dev) (v : Nat) : Dev :=
  if suType v = 0x00 ∧ suReq v = 9 then
    let d1 := fnSlots.foldl (fun d n => d.set (F.EPM_SLOT_TOG n) 0) d
    ({ d1 with hub := { d1.hub with fnVal := suValue v % 256 } } : Dev).setB F.HUB_STAT_FNCFG (suValue v % 256 != 0)
  else if suType v = 0x01 ∧ suReq v = 11 then
    (ifaceEps (suIndex v) 4096 false d.fnConfigSet).foldl (fun d a =>
      match d.slotOf a with
      | some n => d.set (F.EPM_SLOT_TOG n) 0
      | none => d) d
  else d

/-- A write of HUB_CTLREPLY.ACT (R187, Table 07.10). -/
def Dev.writeCtlreply (d : Dev) (w : Word) : Dev :=
  let a := bits w.toNat 0 2
  d.regWrite .bar0 R.HUB_CTLREPLY 0 w [(a != 1 && a != 2, .eField), (!d.is F.HUB_CTLREPLY_VALID, .eState)] fun d =>
    let v := d.get F.HUB_SETUP0_BYTES + 2 ^ 32 * d.get F.HUB_SETUP1_BYTES
    let d1 := d.set F.HUB_CTLREPLY_VALID 0
    let d2 := { d1 with hub := { d1.hub with setup := none } }
    if a = 1 then (d2.ctlDone v).usbOut 0 0 [] else d2.stall true

def execHubCtlreplyAct (w : Word) (s : State) : Out' := act s fun d => d.writeCtlreply w

/-- HUB_CTL_TIMEOUT: no ACT within the answer deadline (R187). -/
def Dev.hubCtlTimeout (d : Dev) : Dev :=
  if d.is F.HUB_CTLREPLY_VALID then
    let d1 := (d.set F.HUB_CTLREPLY_VALID 0).stall true
    (({ d1 with hub := { d1.hub with setup := none } } : Dev).hubEvent 5 0 [0]).fault 0x247 23
  else d

def execHubCtlTimeout (s : State) : Out' := act s Dev.hubCtlTimeout

/-! ### Tokens on the function's endpoints (R195, R198, R202, R211) -/

/-- The status stage of the forwarded request in progress is IN: it writes, or has no data (R187). -/
def statusIn (v : Nat) : Bool := !bitOf v 7 || suLength v == 0

/-- A token of slot 2 is the status stage of a forwarded request that firmware has not yet answered, kind 0 being IN (R187 step 4). -/
def Dev.statusWaits (d : Dev) (n kind : Nat) : Bool :=
  n == 2 && match d.hub.setup with
    | some v => fnForwarded v && statusIn v == (kind == 0)
    | none => false

/-- Blocks [lo, hi) of a slot's two banks, none for an isochronous slot or one of the hub's own (R201). -/
def slotSpan (n type base mps : Nat) : Nat × Nat := if n ≤ 1 ∨ type = 1 then (0, 0) else (base, base + 2 * ceilDiv mps 64)

/-- Two spans share a block; an empty one shares none. -/
def spansMeet (a b : Nat × Nat) : Bool := decide (max a.1 b.1 < min a.2 b.2)

/-- Blocks of the directory. -/
def dirSpan (base count : Nat) : Nat × Nat := (base, base + ceilDiv (8 * count) 64)

/-- The blocks meet those of an enabled slot other than `n` (R201). -/
def Dev.meetsSlot (d : Dev) (n : Nat) (x : Nat × Nat) : Bool :=
  fnSlots.any fun m => m != n && d.is (F.EPM_SLOT_EN m) &&
    spansMeet x (slotSpan m (d.get (F.EPM_SLOT_TYPE m)) (d.get (F.EPM_SLOT_BASE m)) (d.get (F.EPM_SLOT_MPS m)))

/-- FULL and LEN of bank `b` of slot `n`. -/
def fullFld (n b : Nat) : Fld := if b = 0 then F.EPM_BANK_FULL0 (n - 2) else F.EPM_BANK_FULL1 (n - 2)
def lenFld (n b : Nat) : Fld := if b = 0 then F.EPM_BANK_LEN0 (n - 2) else F.EPM_BANK_LEN1 (n - 2)

/-- Byte address of bank `b` of a slot: each bank has ceil(MPS ÷ 64) blocks (R201). -/
def Dev.bankAddr (d : Dev) (n b : Nat) : Nat :=
  64 * (d.get (F.EPM_SLOT_BASE n) + b * ceilDiv (d.get (F.EPM_SLOT_MPS n)) 64)

/-- (DEDUCED, log entry 34). -/
def Dev.flipTog (d : Dev) (n : Nat) : Dev := d.set (F.EPM_SLOT_TOG n) (1 - d.get (F.EPM_SLOT_TOG n))

/-- An IN token: the next bank's packet with the slot's toggle, or NAK; once acknowledged, the bank is free. (DEDUCED, log entry 34). -/
def Dev.inToken (d : Dev) (n : Nat) (ack : Bool) : Dev :=
  let b := d.get (F.EPM_BANK_NEXT (n - 2))
  if !d.is (fullFld n b) then d.usbOut 0 2 []
  else match d.memBytes 2 1 (d.bankAddr n b) (d.get (lenFld n b)) with
    | (d1, _, some a) => (d1.epmUe n a).usbOut 0 4 []
    | (d1, l, none) =>
      let d2 := d1.usbData 0 (d.get (F.EPM_SLOT_TOG n)) l
      if ack then (((d2.set (fullFld n b) 0).set (F.EPM_BANK_NEXT (n - 2)) (1 - b)).flipTog n) else d2

/-- Both banks of a slot are FULL. -/
def Dev.bothFull (d : Dev) (n : Nat) : Bool := d.is (fullFld n 0) && d.is (fullFld n 1)

/-- The bank that takes the next OUT packet: NEXT, or the other where firmware has emptied that one first. -/
def Dev.outBank (d : Dev) (n : Nat) : Nat :=
  let b := d.get (F.EPM_BANK_NEXT (n - 2))
  if d.is (fullFld n b) then 1 - b else b

/-- An OUT token with its data: a repeat is acknowledged and discarded; else an empty bank takes the packet. (DEDUCED, log entry
34). -/
def Dev.outToken (d : Dev) (n : Nat) (tog : Bool) (data : List Byte) : Dev :=
  let b := d.outBank n
  if d.is (F.EPM_SLOT_TOG n) != tog then d.usbOut 0 1 []
  else if d.bothFull n then d.usbOut 0 2 []
  else
    let d1 := d.memStore 2 (d.bankAddr n b / 8) data
    let d2 := (((d1.set (lenFld n b) data.length).set (fullFld n b) 1).set (F.EPM_BANK_NEXT (n - 2)) (1 - b)).flipTog n
    d2.usbOut 0 (if d.is F.HUB_STAT_HS && d2.is (fullFld n (1 - b)) then 3 else 1) []

/-- FUNC_TOKEN on slot `n`: kind 0 IN, 1 OUT, 2 PING. -/
def Dev.funcToken (d : Dev) (n kind : Nat) (tog : Bool) (data : List Byte) (ack : Bool) : Dev :=
  if !d.fnLive || decide (n < 2) || !d.is (F.EPM_SLOT_EN n) || d.slotIso n || decide (d.get (F.EPM_SLOT_MPS n) < data.length) then d
  else if d.is (F.EPM_SLOT_HALT n) || (n == 2 && d.hub.stall0) then d.usbOut 0 4 []
  else if d.statusWaits n kind then d.usbOut 0 2 []
  else match kind with
    | 0 => d.inToken n ack
    | 1 => d.outToken n tog data
    | _ => d.usbOut 0 (if d.bothFull n then 2 else 1) []

def execFuncToken (slot : Fin 16) (kind : Fin 3) (tog : Bool) (data : List Byte) (ack : Bool) (s : State) : Out' :=
  act s fun d => d.funcToken slot.val kind.val tog data ack

/-- A write of EPM_BANKn (R195, Table 07.14): FULL of an IN slot is set by 1, of an OUT slot cleared by 1; LEN is written
for IN slots. Slot 2 takes the direction of the request in progress. (DEDUCED, log entry 33). -/
def Dev.bankIn (d : Dev) (n : Nat) : Bool :=
  if n = 2 then bitOf (d.get F.HUB_SETUP0_BYTES) 7 else d.is (F.EPM_SLOT_DIR n)

def Dev.writeBank (d : Dev) (n : Nat) (w : Word) : Dev :=
  let v := w.toNat
  let inn := d.bankIn n
  let mps := d.get (F.EPM_SLOT_MPS n)
  if n < 2 then if d.regsOpen then d.reject .bar0 (0x5850 + 4 * n) .eField else d
  else
    d.regWrite .bar0 ⟨0x5858, 4, 14, none, [⟨31, 1, .ro, fun _ => 0⟩, ⟨30, 1, .ro, fun _ => 0⟩, ⟨16, 11, .ro, fun _ => 0⟩,
        ⟨15, 1, .ro, fun _ => 0⟩, ⟨0, 11, .ro, fun _ => 0⟩]⟩ (n - 2) w
      [(inn && ((bits v 16 11 != d.get (lenFld n 1) && decide (mps < bits v 16 11)) ||
        (bits v 0 11 != d.get (lenFld n 0) && decide (mps < bits v 0 11))), .eRange)] fun d =>
      if inn then
        let d1 := (d.set (lenFld n 0) (bits v 0 11)).set (lenFld n 1) (bits v 16 11)
        let d2 := if bitOf v 15 then d1.set (fullFld n 0) 1 else d1
        if bitOf v 31 then d2.set (fullFld n 1) 1 else d2
      else
        let d2 := if bitOf v 15 then d.set (fullFld n 0) 0 else d
        if bitOf v 31 then d2.set (fullFld n 1) 0 else d2

def execEpmBankWrite (slot : Fin 16) (w : Word) (s : State) : Out' := act s fun d => d.writeBank slot.val w

/-! ### Isochronous slots and feedback (R199, R200, R256) -/

/-- Frames of a stream in interval `k` of `per` a second. -/
def framesIn (rate per k : Nat) : Nat := (k + 1) * rateHz rate / per - k * rateHz rate / per

/-- The packets of one OUT interval follow one another as USB 2.0 defines: MDATA but for the last, DATA(k − 1). PIDs: 0 to
2 DATA0 to DATA2, 3 MDATA. -/
def isoSeqOk (hs : Bool) (l : List (Nat × List Byte)) : Bool :=
  decide (0 < l.length) && decide (l.length ≤ if hs then 3 else 1) && l.all (fun p => decide (p.2.length ≤ 1024)) &&
    ((l.dropLast.all fun p => p.1 == 3) && (l.getLast?.map Prod.fst) == some (l.length - 1))

/-- Packets of at most 1,024 bytes. -/
def isoPackets : Nat → List Byte → List (List Byte)
  | 0, _ => []
  | n + 1, l => l.take 1024 :: isoPackets n (l.drop 1024)

def Dev.usbSlotCode (n : Nat) : Nat → Bool := fun e => epKind e == 1 && epId e % 16 == n

/-- A crossing's inbound drop, source 22 of its unit (R47). -/
def Dev.xdropIn (d : Dev) (n unit : Nat) : Dev :=
  let d1 := d.bump (F.SUP_XDROP_IN n)
  if d.phyHeld then d1 else d1.oweFault unit 22

/-- A crossing's outbound starvation, source 22 of its unit (R48). (DEDUCED, log entry 14). -/
def Dev.xdropOut (d : Dev) (n unit : Nat) : Dev :=
  let d1 := d.bump (F.SUP_XDROP_OUT n)
  if d.phyHeld then d1 else d1.oweFault unit 22

/-- The feedback value of slot `n` in its bytes: 16.16 at high speed, 10.14 at full speed. -/
def Dev.feedbackBytes (d : Dev) (n : Nat) : List Byte := leBytes (if d.is F.HUB_STAT_HS then 4 else 3) (mapGet 0 d.hub.feedback n)

/-- The packets of one IN interval, with PIDs DATA(k - 1) down to DATA0 (R199). -/
def Dev.isoSend (d : Dev) : List (List Byte) → Dev
  | [] => d
  | p :: t => (d.usbData 0 t.length p).isoSend t

/-- FUNC_ISO_MICROFRAME of slot `n` in interval `k`: an OUT slot delivers its packets as one item, an IN slot sends what
the stream has for it, or a zero-length packet. -/
def Dev.funcIso (d : Dev) (n k : Nat) (pkts : List (Nat × List Byte)) : Dev :=
  if !d.fnLive || !d.is F.HUB_STAT_FNCFG || decide (n < 3) || !d.slotIso n then d
  else
    let hs := d.is F.HUB_STAT_HS
    if !d.is (F.EPM_SLOT_DIR n) then
      if !isoSeqOk hs pkts then if pkts = [] then d else d.xdropIn 0 0x200
      else
        let d1 := d.sourcesBack (Dev.usbSlotCode n)
        (d1.srcUses (8192 + n)).foldl (fun d s => d.itemIn s ((pkts.map Prod.snd).flatten) (d.almTime % 2 ^ 32) false) d1
    else if d.slotFeedback n then d.usbOut 0 0 (d.feedbackBytes n)
    else match d.sinkUses (8192 + n) with
      | [] => d.usbOut 0 0 []
      | (s, i) :: _ =>
        let fb := d.frameBytes s
        let m := framesIn (d.get (F.STR_W1_RATE s)) (perSecond hs) k
        match d.sinkPacket s i (m * fb) with
        | (d1, none) => d1.usbOut 0 0 []
        | (d1, some l) =>
          d1.isoSend (isoPackets (max 1 (ceilDiv l.length 1024)) (zeroPoisoned fb m l))

def execFuncIsoMicroframe (slot : Fin 16) (k : Nat) (pkts : List (Fin 4 × List Byte)) (s : State) : Out' :=
  act s fun d => d.funcIso slot.val k (pkts.map fun p => (p.1.val, p.2))

/-- The value of feedback slot `n` after a window of `ns`: that of the stream bound to it, rounded to the nearest unit; none without
one. -/
def Dev.feedbackValue (d : Dev) (ns n : Nat) : Option Nat :=
  match d.sinkUses (8192 + n) with
  | [] => none
  | (s, _) :: _ =>
    let r := rateHz (d.get (F.STR_W1_RATE s)) * ns
    let k := d.get F.HUB_CFG_FBK
    some (if d.is F.HUB_STAT_HS then (2 * r * 65536 + 1000000000 * 2 ^ k) / (2 * 1000000000 * 2 ^ k)
      else (2 * r * 8 * 16384 + 1000000000 * 2 ^ k) / (2 * 1000000000 * 2 ^ k))

/-- FEEDBACK_UPDATE: a window of 2^FBK upstream micro-frames lasted `ns` of Almanac time; every feedback slot takes the value of its own
stream (R200). -/
def Dev.feedbackUpdate (d : Dev) (ns : Nat) : Dev :=
  (fnSlots.filter d.slotFeedback).foldl (fun d n => match d.feedbackValue ns n with
    | some v => { d with hub := { d.hub with feedback := mapPut 0 d.hub.feedback n v } }
    | none => d) d

def execFeedbackUpdate (ns : Nat) (s : State) : Out' := act s fun d => d.feedbackUpdate ns

/-! ### Suspend and resume (R192 to R194, R207) -/

/-- HUB_SUSPEND: transactions that have not started are discarded; SOF stops with `hubSof` and the draw falls with `suspendDraw` (R192).
 (DEDUCED, log entry 36). -/
def Dev.hubSuspend (d : Dev) : Dev :=
  if d.hubUp && !d.is F.HUB_STAT_SUSP && !d.phyHeld then
    let d1 := (d.set F.HUB_STAT_SUSP 1).hubEvent 1 0 [0]
    [1, 2, 3, 4, 5, 6, 7, 8].foldl (fun d p =>
      d.modHubPort p fun x => { x with np := x.np.filter (·.started), per := x.per.filter (·.started) }) d1
  else d

def execHubSuspend (s : State) : Out' := act s Dev.hubSuspend

/-- HUB_RESUME: the host's resume ends suspend and is repeated downstream (R193, R207). -/
def Dev.hubResume (d : Dev) : Dev :=
  if d.is F.HUB_STAT_SUSP && !d.phyHeld then
    let d1 := ({ d with hub := { d.hub with kUp := false } } : Dev).set F.HUB_STAT_SUSP 0
    let d2 := [1, 2, 3, 4, 5, 6, 7, 8].foldl (fun d p =>
      if !d.isLocal p && d.st p 1 && !d.st p 2 then d.usbOut p 5 [] else d) d1
    d2.hubEvent 2 0 [0]
  else d

def execHubResume (s : State) : Out' := act s fun d => d.rouse.hubResume

/-- Remote wake upstream: K, while the host has enabled it and the hub is suspended (R193). -/
def Dev.signalWake (d : Dev) : Dev :=
  if d.is F.HUB_STAT_SUSP && d.is F.HUB_STAT_RWEN && !d.hub.kUp && !d.phyHeld then
    ({ d with hub := { d.hub with kUp := true } } : Dev).usbOut 0 5 []
  else d

/-- HUB_REMOTE_WAKE: a device's resume, a connect, a disconnect or an over-current on hub-path port `p`. -/
def execHubRemoteWake (port : Fin 9) (s : State) : Out' :=
  act s fun d => if port.val ≠ 0 ∧ !d.isLocal port.val then d.rouse.signalWake else d.rouse

/-- A write of HUB_CTRL (R193, R212, R213). (DEDUCED, log entry 37). -/
def Dev.writeHubCtrl (d : Dev) (w : Word) : Dev :=
  let v := w.toNat
  d.regWrite .bar0 R.HUB_CTRL 0 w
    [(bitOf v 0 && (d.get F.EPM_DIR_COUNT == 0 || !d.is F.HUB_CTRL_LOCK), .eState), (bitOf v 8 && !d.is F.HUB_STAT_RWEN, .eState)]
    fun n =>
      let n1 := n.set F.HUB_CTRL_RWAKE 0
      let n2 := if bitOf v 1 then
          (List.range 10).foldl (fun d p => (d.set (F.PRT_CNT_OC p) 0).set (F.PRT_CNT_BABBLE p) 0) n1 else n1
      let n3 := if bitOf v 1 then (List.range 8).foldl (fun d p => d.set (F.PRT_LCNT_XERR p) 0) n2 else n2
      let n4 := if bitOf v 8 then n3.signalWake else n3
      if bitOf v 0 then n4.hubConnect else n4.hubLeave

def execHubRwake (w : Word) (s : State) : Out' := act s fun d => d.writeHubCtrl (withBit w 8)

def execHubEnable (w : Word) (s : State) : Out' := act s fun d => d.writeHubCtrl (withBit w 0)

def execHubCntclr (w : Word) (s : State) : Out' := act s fun d => d.writeHubCtrl (withBit w 1)

/-- The remote wake of a selectively suspended hub-path port: resume K on it (R194), and upstream where the hub is suspended (R193). -/
def Dev.portWake (d : Dev) (p : Nat) : Dev :=
  if !d.isLocal p && d.st p 2 && !(d.hubPort p).resume && !d.phyHeld then
    ((d.modHubPort p fun x => { x with resume := true }).usbOut p 5 []).signalWake
  else d

def execPortRemoteWake (port : Fin 9) (s : State) : Out' :=
  act s fun d => if port.val = 0 then d.rouse else d.rouse.portWake port.val

/-- PORT_RESUME_DONE: EOP, C_PORT_SUSPEND (R194). -/
def Dev.portResumeDone (d : Dev) (p : Nat) : Dev :=
  if (d.hubPort p).resume then
    ((d.modHubPort p fun x => { x with resume := false }).setSt p 2 false).setCh p 2 true
  else d

def execPortResumeDone (port : Fin 9) (s : State) : Out' := act s fun d => d.portResumeDone port.val

/-- PORT_RESET_DONE on hub port 1 to 9: C_PORT_RESET, and ENABLE with the device's speed where the port is on the hub path
(R186, R209). (DEDUCED, log entry 35). -/
def Dev.portResetDone (d : Dev) (p : Nat) : Dev :=
  if p = 0 ∨ !d.st p 4 then d
  else
    let d1 := (d.setSt p 4 false).setCh p 4 true
    if p = 9 then
      if d1.st 9 0 then ((d1.resetFunction).setSt 9 1 true).setSt 9 10 (d1.is F.HUB_STAT_HS) else d1
    else if d1.isLocal p || !d1.st p 0 then d1
    else
      let v := (d1.hubPort p).dev
      ((d1.setSt p 1 true).setSt p 9 (v == 1)).setSt p 10 (v == 3 && d1.is F.HUB_STAT_HS)

def execPortResetDone (port : Fin 10) (s : State) : Out' := act s fun d => d.portResetDone port.val

/-! ### Power and over-current (R188 to R190, R204) -/

/-- PORT_POWER_GOOD: a hub-path port is reported powered, or a local power-on completes (R188, R219). -/
def Dev.portPowerGood (d : Dev) (p : Nat) : Dev :=
  if p = 0 ∨ !(d.hubPort p).want ∨ d.ocOn p ∨ d.is (F.PRT_STAT_FENCED p) then d
  else
    let d1 := d.modHubPort p fun x => { x with want := false, pwren := decide (5 ≤ p) }
    if d1.isLocal p then
      let d2 := d1.set (F.PRT_LSTAT_POWER (p - 1)) 1
      let d3 := if (d2.localPort p).cmd = 5 then d2.endCmd p .done else d2
      d3.reportLocal p
    else (d1.setSt p 8 true).reportConn p

def execPortPowerGood (port : Fin 9) (s : State) : Out' := act s fun d => d.portPowerGood port.val

def execPortOverCurrent (port : Fin 9) (s : State) : Out' := act s fun d => d.overCurrent port.val

/-- PORT_OVER_CURRENT_CLEAR: the input is deasserted; power that was asked for meanwhile rises (R190). (DEDUCED, log entry 36). -/
def Dev.overCurrentClear (d : Dev) (p : Nat) : Dev :=
  if p = 0 then d
  else
    let d1 := d.set (F.PRT_LSTAT_OC (p - 1)) 0
    (d1.gangMembers p).foldl (fun d m =>
      if d.ocOn m then d
      else
        let e := d.setSt m 3 false
        if (e.hubPort m).want then e.powerUp m else e) d1

def execPortOverCurrentClear (port : Fin 9) (s : State) : Out' := act s fun d => d.overCurrentClear port.val

/-- PORT_CONNECT_CHANGE on a hub-path port: a device of speed 1 low, 2 full or 3 high connects, or 0 disconnects. -/
def Dev.connectChange (d : Dev) (p v : Nat) : Dev :=
  if p = 0 ∨ d.isLocal p ∨ d.phyHeld then d
  else
    let d1 := d.modHubPort p fun x => { x with dev := v, resume := false }
    if v = 0 then (d1.emptyTt p).reportGone p else d1.reportConn p

def execPortConnectChange (port : Fin 9) (dev : Fin 4) (s : State) : Out' :=
  act s fun d => d.rouse.connectChange port.val dev.val

/-- PORT_BABBLE: babble or loss of activity disables a hub-path port (R210); from traffic a PHY hold cut off it is only
counted (R496). -/
def Dev.portBabble (d : Dev) (p : Nat) : Dev :=
  if p = 0 ∨ d.isLocal p ∨ !d.st p 1 then d
  else
    let d1 := ((d.setSt p 1 false).setCh p 1 true).bump (F.PRT_CNT_BABBLE p)
    if d1.phyHeld then d1 else d1.fault (0x200 + p) 18

def execPortBabble (port : Fin 9) (s : State) : Out' := act s fun d => d.portBabble port.val

/-! ### The connection to the upstream host (R205, R206) -/

def Dev.busReset (d : Dev) (hs : Bool) : Dev :=
  if d.hubUp && !d.phyHeld then ((d.resetHub).setB F.HUB_STAT_HS hs).hubEvent 0 0 [0] else d

def execHubBusreset (hs : Bool) (s : State) : Out' := act s fun d => d.busReset hs

/-- (DEDUCED, log entry 33). -/
def Dev.hubDisconnect (d : Dev) : Dev := if d.hubUp then (d.hubLeave).hubEvent 0 0 [0] else d

def execHubDisconnect (s : State) : Out' := act s fun d => d.rouse.hubDisconnect

/-! ### Split transactions and the status-change endpoint (R185, R191) -/

/-- The hub repeats SOF to port `p`: the hub is awake, and the port enabled and not suspended (R183, R192). -/
def Dev.hubSof (d : Dev) (p : Nat) : Bool := !d.isLocal p && d.hubLive && d.st p 1 && !d.st p 2 && !d.is (F.PRT_STAT_FENCED p)

/-- Full-speed byte-times of a periodic transaction with `n` bytes of data, eight times as many at low speed (Table 08.3). -/
def ttCost (low : Bool) (kind n : Nat) : Nat := (if low then 8 else 1) * (ceilDiv (n * 7) 6 + if kind = 1 then 16 else 24)

/-- The periodic pipeline in upstream frame `f`: what came in it and in the frame before (R191). -/
def HubPort.pipe (x : HubPort) (f : Nat) : List TtBuf := x.per.filter fun b => decide ((f + 2048 - b.frame) % 2048 ≤ 1)

/-- Byte-times of frame `f` that the pipeline holds. -/
def HubPort.pipeLoad (x : HubPort) (f : Nat) : Nat := ((x.per.filter fun b => b.frame == f).map TtBuf.cost).foldl (· + ·) 0

/-- A split transaction at the translator that port `p` uses, whose pipeline holds one full-speed frame, 1,500 byte-times. -/
def Dev.ttTake (d : Dev) (q : Nat) (periodic : Bool) (b : TtBuf) : Dev :=
  let x := d.hubPort q
  if periodic then
    if x.pipeLoad b.frame + b.cost ≤ 1500 then
      d.modHubPort q fun x => { x with per := x.per ++ [{ b with started := x.per.isEmpty }] }
    else d
  else if x.np.any fun c => c.dev == b.dev && c.ep == b.ep && c.inn == b.inn then d.usbOut 0 1 []
  else if x.np.length < 2 then
    (d.modHubPort q fun x => { x with np := x.np ++ [{ b with started := x.np.isEmpty }] }).usbOut 0 1 []
  else d.usbOut 0 2 []

/-- The transaction a translator holds longest is the one it carries out. -/
def startFirst : List TtBuf → List TtBuf
  | [] => []
  | b :: t => { b with started := true } :: t

/-- A split transaction reaches the translator of port `p`. `kind`: 0 control, 1 isochronous, 2 bulk, 3 interrupt. At a
complete-split, `resp` is what the transaction downstream has come to: 0 not finished, 1 ACK, 2 NAK, 3 STALL, 4 data. A periodic
start-split beyond the frame's budget is dropped. (PRESUMED, log entry 32). -/
def Dev.split (d : Dev) (p : Nat) (start : Bool) (kind : Nat) (b : TtBuf) (resp : Nat) (data : List Byte) : Dev :=
  if p = 0 ∨ !d.hubSof p ∨ d.steering p then d
  else
    let q := d.ttPort p
    let d := d.modHubPort q fun x => { x with per := startFirst (x.pipe b.frame), np := startFirst x.np }
    let periodic := kind == 1 || kind == 3
    let here := fun c : TtBuf => c.dev == b.dev && c.ep == b.ep && c.inn == b.inn
    if start then d.ttTake q periodic { b with cost := ttCost ((d.hubPort p).dev == 1) kind data.length }
    else
      let l := if periodic then (d.hubPort q).per else (d.hubPort q).np
      if !l.any here then d.usbOut 0 (if periodic then 3 else 4) []
      else if resp = 0 then d.usbOut 0 3 []
      else
        (d.modHubPort q fun x =>
          { x with np := if periodic then x.np else x.np.filter (fun c => !here c),
                   per := if periodic then x.per.eraseIdx (x.per.findIdx here) else x.per }).usbOut 0
          (if resp = 1 then 1 else if resp = 2 then 2 else if resp = 3 then 4 else 0) (if resp = 4 then data else [])

def execSplitTransaction (port : Fin 9) (start : Bool) (kind : Fin 4) (addr : Fin 128) (ep : Fin 16) (inn : Bool) (resp : Fin 5)
    (frame : BitVec 11) (data : List Byte) (s : State) : Out' :=
  act s fun d => d.split port.val start kind.val ⟨addr.val, ep.val, inn, false, frame.toNat, 0⟩ resp.val data

/-- The status-change bitmap: bit p for port p with any change bit set. -/
def Dev.changeMap (d : Dev) : Nat :=
  ((List.range 10).map fun p => if p ≠ 0 ∧ d.get (F.PRT_STAT_CHANGE p) ≠ 0 then 2 ^ p else 0).foldl (· + ·) 0

/-- The host polls the hub's endpoint 1 and acknowledges what it gets, so that the toggle of slot 1 flips (Table 07.13). (DEDUCED, log
entry 34). -/
def Dev.statusChangeIn (d : Dev) : Dev :=
  if !d.hubLive || !d.is F.HUB_STAT_CFG then d
  else if d.is (F.EPM_SLOT_HALT 1) then d.usbOut 0 4 []
  else if d.changeMap = 0 then d.usbOut 0 2 []
  else (d.usbData 0 (d.get (F.EPM_SLOT_TOG 1)) (leBytes 2 d.changeMap)).flipTog 1

def execHubStatusChangeIn (s : State) : Out' := act s Dev.statusChangeIn

end Sys2Proof.Machine
end

