-- ==== Sys2Proof/Machine/Lhe.lean ====
section
/-!
DEFINITION. The local host engine and port steering (chapter 08): re-steers, port commands, endpoint contexts, local
micro-frames and transactions. Descriptors act here on a ticket that is already dispatched.
-/
namespace Sys2Proof.Machine

open Sys2Proof

/-! ### Re-steering (R215 to R218, R235 to R237, R244) -/

/-- What R244 rejects whether or not GO is 1. -/
def Dev.steerWrong (d : Dev) (p : Nat) (side : Bool) (tenant : Nat) : List (Bool × Status) :=
  [(!side && tenant != 0, .eField), (!d.tenantExists tenant || (d.code == 2 && tenant != 0), .eRange),
   (side == d.isLocal p && (!side || (!d.parked p && d.portOwner p == tenant)), .eState), (side && !d.is F.LHE_CTRL_EN, .eState)]

/-- The checks of R244 and R24 on a request to steer port `p`. (DEDUCED, log entry 38). -/
def Dev.steerChecks (d : Dev) (p : Nat) (side : Bool) (tenant : Nat) : List (Bool × Status) :=
  d.steerWrong p side tenant ++
    [(d.is (F.PRT_STEER_BUSY (p - 1)), .eBusy), (d.is (F.PRT_STAT_FENCED p) || (side && d.unitFenced tenant), .eFenced)]

/-- Step 1 of Table 08.1. A suspend, reset or power command in progress completes first; on the leaving local side it ends
E_FLUSHED (R235). -/
def Dev.startSteer (d : Dev) (p : Nat) (side : Bool) (tenant : Nat) (pcycle desc : Bool) : Dev :=
  let x : Steer := ⟨1, side, tenant, pcycle, d.isLocal p, d.portOwner p, d.parked p, desc, false⟩
  let d1 := ((d.setSteer p x).set (F.PRT_LSTAT_STEERING (p - 1)) 1).set (F.PRT_STEER_BUSY (p - 1)) 1
  if d1.isLocal p then d1.endCmd p .eFlushed
  else ((d1.portResetDone p).portResumeDone p).portPowerGood p

/-- A write of PRT_STEER of port `p`, 0 to 9; instances 0 and 9 have none. -/
def Dev.writeSteer (d : Dev) (p : Nat) (w : Word) : Dev :=
  let v := w.toNat
  if p = 0 ∨ 8 < p then if d.regsOpen then d.reject .bar0 (0x4120 + 0x40 * p) .eField else d
  else
    let side := bitOf v 24
    d.regWrite .bar0 R.PRT_STEER (p - 1) w
      (if bitOf v 31 then d.steerChecks p side (bits v 0 8) else d.steerWrong p side (bits v 0 8)) fun n =>
      let n1 := n.set (F.PRT_STEER_GO (p - 1)) 0
      if bitOf v 31 then n1.startSteer p side (bits v 0 8) (bitOf v 25) false else n1

def execPrtSteerGo (port : Fin 10) (w : Word) (s : State) : Out' := act s fun d => d.writeSteer port.val (withBit w 31)

/-- The checks of STEER. -/
def Dev.steerDescChecks (d : Dev) (tk : Tkt) : List (Bool × Status) :=
  let v := tk.word 1
  let p := bits v 0 4
  let side := bitOf v 8
  d.descChecks tk ++ ([(p == 0 || decide (8 < p), Status.eField), (tk.t != 0, .eOwner)] ++ d.steerChecks p side (bits v 16 8))

/-- The STEER descriptor (R216, R316). -/
def Dev.doSteer (d : Dev) (tk : Tkt) : Dev :=
  let v := tk.word 1
  let p := bits v 0 4
  let side := bitOf v 8
  match firstByRank (d.steerDescChecks tk) with
  | .done => d.startSteer p side (bits v 16 8) (bitOf v 9) true
  | st => d.finish tk st 0 0

/-- The port is powered on the side it joins: it was on the side it leaves, or PCYCLE powers it (R235). -/
def Dev.steerPower (d : Dev) (p : Nat) : Bool :=
  let x := d.steer p
  x.pcycle || (if x.oldSide then d.is (F.PRT_LSTAT_POWER (p - 1)) else d.st p 8)

/-- The Type-C Error Recovery of PCYCLE ends: the port is Unattached and may attach (Table 08.1). -/
def Dev.endRecovery (d : Dev) (p : Nat) : Dev := if p ≤ 4 ∧ d.tcState p = 7 then d.set (F.PD_STAT_TCSTATE p) 0 else d

/-- The joining tenant was reset: the port is parked, powered as it would have been, its disconnect reported (R237). (DEDUCED, log
entry 38). -/
def Dev.stopSteer (d : Dev) (p : Nat) : Dev :=
  let d1 := (d.setSide p true 0 true).setB (F.PRT_LSTAT_POWER (p - 1)) (d.steerPower p)
  (((d1.restorePower p).parkPort p).endSteer p .eFlushed).endRecovery p

/-- STEER_QUIESCE_DONE: steps 2 to 4 of Table 08.1. -/
def Dev.steerQuiesced (d : Dev) (p : Nat) : Dev :=
  let x := d.steer p
  if p = 0 ∨ x.step ≠ 1 then d
  else
    let d1 :=
      if d.isLocal p then (d.closePortCtxs p .eLink).clearLocal p |>.lheEvent 1 p p 0
      else ((d.emptyTt (d.ttPort p)).dropConn p).setCh p 0 true
    let d2 := if x.pcycle then
        let e := d1.modHubPort p fun h => { h with pwren := false }
        if p ≤ 4 then (e.portDetach p).set (F.PD_STAT_TCSTATE p) 7 else e
      else d1
    if x.stop then d2.stopSteer p else d2.setSteer p { x with step := 4 }

def execSteerQuiesceDone (port : Fin 9) (s : State) : Out' := act s fun d => d.steerQuiesced port.val

/-- STEER_HOLD_END: power is restored where PCYCLE is 1 (steps 5 and 6). -/
def Dev.steerHeld (d : Dev) (p : Nat) : Dev :=
  let x := d.steer p
  if p = 0 ∨ x.step ≠ 4 then d
  else if x.stop then d.stopSteer p
  else
    let d1 := if x.pcycle && !d.ocOn p then d.modHubPort p fun h => { h with pwren := decide (5 ≤ p) } else d
    (d1.endRecovery p).setSteer p { x with step := 6 }

def execSteerHoldEnd (port : Fin 9) (s : State) : Out' := act s fun d => d.steerHeld port.val

/-- PRT_STEER_DONE: the joining side reports any attach (step 7). A port that was powered off stays so without PCYCLE
(R235). -/
def Dev.steerDone (d : Dev) (p : Nat) : Dev :=
  let x := d.steer p
  if p = 0 ∨ x.step ≠ 6 then d
  else if x.stop then d.stopSteer p
  else
    let power := d.steerPower p
    let d1 := (d.setSide p x.side x.tenant false).setB (F.PRT_LSTAT_POWER (p - 1)) (x.side && power)
    let d2 := d1.setSt p 8 (x.side || power)
    let d3 := (d2.endSteer p .done).bump (F.PRT_LCNT_STEERS (p - 1))
    ((if x.side then d3.reportLocal p else d3.reportConn p)).raise F.LHE_INT_STEERDONE 0x804 [0] p 0 0

def execPrtSteerDone (port : Fin 9) (s : State) : Out' := act s fun d => d.steerDone port.val

/-! ### Port commands (R219, R235, R238) -/

/-- The checks of PORTCMD. (DEDUCED, log entry 38). -/
def Dev.portcmdChecks (d : Dev) (tk : Tkt) : List (Bool × Status) :=
  let p := bits (tk.word 1) 0 4
  let cmd := bits (tk.word 1) 8 3
  d.descChecks tk ++ [(p == 0 || decide (8 < p), Status.eRange), (cmd == 0 || decide (5 < cmd), .eField),
      (!(d.isLocal p && !d.parked p && d.portOwner p == tk.t), .eOwner), (d.is (F.PRT_STAT_FENCED p), .eFenced),
      (cmd == 5 && d.ocOn p, .eState), (d.steering p || (d.localPort p).cmd != 0, .eBusy)]

/-- The PORTCMD descriptor. -/
def Dev.doPortcmd (d : Dev) (tk : Tkt) : Dev :=
  let p := bits (tk.word 1) 0 4
  let cmd := bits (tk.word 1) 8 3
  match firstByRank (d.portcmdChecks tk) with
  | .done =>
    match cmd with
    | 1 =>
      let d1 := ((d.closePortCtxs p .eFlushed).set (F.PRT_LSTAT_ENABLED (p - 1)) 0).set (F.PRT_LSTAT_SUSP (p - 1)) 0
      ((d1.set (F.PRT_LSTAT_RESETTING (p - 1)) 1).modLocal p fun x => { x with cmd := 1 }).usbOut p 6 []
    | 2 => d.modLocal p fun x => { x with cmd := 2 }
    | 3 => (d.modLocal p fun x => { x with cmd := 3, resume := true }).usbOut p 5 []
    | 4 => (d.localPowerOff p).finish tk .done 0 0
    | _ => (d.powerUp p).modLocal p fun x => { x with cmd := 5 }
  | st => d.finish tk st 0 0

/-- LOCAL_PORT_RESET_DONE: the port is Enabled at the detected speed. -/
def Dev.localResetDone (d : Dev) (p : Nat) : Dev :=
  if p = 0 ∨ (d.localPort p).cmd ≠ 1 then d
  else
    let v := if d.is (F.PRT_LSTAT_CONN (p - 1)) then (d.hubPort p).dev else 0
    let d1 := ((d.setB (F.PRT_LSTAT_ENABLED (p - 1)) (v != 0)).set (F.PRT_LSTAT_SPEED (p - 1)) v).set (F.PRT_LSTAT_RESETTING (p - 1)) 0
    let d2 := d1.modLocal p fun x => { x with cmd := 0 }
    (d2.live (isPortcmd p)).foldl (fun d tk => d.finish tk .done v 0) d2

def execLocalPortResetDone (port : Fin 9) (s : State) : Out' := act s fun d => d.localResetDone port.val

/-- LOCAL_RESUME_DONE: EOP, and SOF restarts. -/
def Dev.localResumeDone (d : Dev) (p : Nat) : Dev :=
  if p = 0 ∨ !(d.localPort p).resume then d
  else
    let d1 := d.set (F.PRT_LSTAT_SUSP (p - 1)) 0
    if (d1.localPort p).cmd = 3 then d1.endCmd p .done else d1.modLocal p fun x => { x with resume := false }

def execLocalResumeDone (port : Fin 9) (s : State) : Out' := act s fun d => d.localResumeDone port.val

/-- LHE_PORT_RESUME: a device's remote wake on a suspended local port is answered with resume. -/
def Dev.localWake (d : Dev) (p : Nat) : Dev :=
  if p ≠ 0 && d.isLocal p && d.is (F.PRT_LSTAT_SUSP (p - 1)) && !(d.localPort p).resume && !d.phyHeld &&
      !d.is (F.PRT_STAT_FENCED p) then
    ((d.modLocal p fun x => { x with resume := true }).usbOut p 5 []).lheEvent 2 p p 0
  else d

def execLhePortResume (port : Fin 9) (s : State) : Out' := act s fun d => d.rouse.localWake port.val

/-- LHE_PORT_ATTACH: a device of speed `v` attaches to a local port. -/
def Dev.localAttach (d : Dev) (p v : Nat) : Dev :=
  if p = 0 ∨ !d.isLocal p ∨ d.phyHeld ∨ v = 0 then d else (d.modHubPort p fun x => { x with dev := v }).reportLocal p

def execLhePortAttach (port : Fin 9) (dev : Fin 4) (s : State) : Out' := act s fun d => d.rouse.localAttach port.val dev.val

/-- LHE_PORT_DETACH: a detach, or babble or loss of activity, which disables the port with the device attached (R241). -/
def Dev.localDetach (d : Dev) (p : Nat) (babble : Bool) : Dev :=
  if p = 0 ∨ !d.isLocal p ∨ (babble ∧ !d.is (F.PRT_LSTAT_ENABLED (p - 1))) then d
  else
    let conn := d.get (F.PRT_LSTAT_CONN (p - 1))
    let d1 := (d.localGone p .eLink).lheEvent 1 p p 0
    if babble then
      let d2 := (d1.set (F.PRT_LSTAT_CONN (p - 1)) conn).bump (F.PRT_CNT_BABBLE p)
      if d2.phyHeld then d2 else d2.oweFault (0x200 + p) 18
    else d1.modHubPort p fun x => { x with dev := 0 }

def execLhePortDetach (port : Fin 9) (babble : Bool) (s : State) : Out' := act s fun d => d.rouse.localDetach port.val babble

/-! ### Endpoint contexts (R223 to R225, R231, R234, Table 08.2) -/

/-- The cost of one transaction by speed 3 high, 2 full, 1 low (Table 08.3). -/
def ctxCost (speed type mps mult : Nat) : Nat :=
  let p := ceilDiv (mps * 7) 6
  if type = 1 then if speed = 3 then (p + 48) * (mult + 1) else p + 16
  else if type = 3 then if speed = 3 then (p + 64) * (mult + 1) else if speed = 1 then 8 * (p + 24) else p + 24
  else 0

/-- The lowest PHASE at which every loaded micro-frame or frame stays within the budget (R225). -/
def Dev.findPhase (d : Dev) (p ivl cost budget : Nat) : Option Nat :=
  (List.range (2 ^ ivl)).find? fun ph => (List.range 32).all fun m => m % 2 ^ ivl != ph || decide (d.loadAt p m + cost ≤ budget)

/-- The checks of CTXOPEN. (DEDUCED, log entries 38, 39). -/
def Dev.ctxopenChecks (d : Dev) (tk : Tkt) : List (Bool × Status) :=
  let v := tk.word 1
  let u := tk.word 2
  let p := bits v 24 4
  let type := bits v 10 2
  let periodic := type == 1 || type == 3
  let ivl := if type = 3 then min 5 (bits u 21 3) else bits u 21 3
  let mps := bits u 10 11
  let mult := bits v 8 2
  let sp := d.get (F.PRT_LSTAT_SPEED (p - 1))
  let cost := ctxCost sp type mps mult
  let charge := ceilDiv (cost * 1000) (usbTotal (sp == 3) * 2 ^ ivl)
  let phase := if periodic then d.findPhase p ivl cost (usbBudget (sp == 3)) else some 0
  let free := (List.range 128).find? fun c => !d.ctxOpen c
  let twin := (d.ctxsOn p).any fun c =>
    d.get (F.LHE_CTXW0_ADDR c) == bits v 17 7 && d.get (F.LHE_CTXW0_EPNUM c) == bits v 13 4 && d.get (F.LHE_CTXW0_DIR c) == bits v 12 1
  d.descChecks tk ++ [(p == 0 || decide (8 < p), Status.eRange), (mult == 3 || (mult != 0 && !(periodic && sp == 3)), .eRange), (decide (5 < ivl), .eRange),
      (mps == 0 || decide (1024 < mps), .eRange), (type == 0 && bitOf v 12, .eRange), (type == 1 && sp == 1, .eRange),
      (!(d.isLocal p && !d.parked p && d.portOwner p == tk.t), .eOwner), (d.is (F.PRT_STAT_FENCED p), .eFenced), (twin, .eState),
      (d.steering p, .eBusy), (free.isNone, .eNores), (phase.isNone, .eNores), (!d.usbFits tk.t charge, .eNores)]

/-- The CTXOPEN descriptor. -/
def Dev.doCtxopen (d : Dev) (tk : Tkt) : Dev :=
  let v := tk.word 1
  let u := tk.word 2
  let p := bits v 24 4
  let type := bits v 10 2
  let periodic := type == 1 || type == 3
  let ivl := if type = 3 then min 5 (bits u 21 3) else bits u 21 3
  let mps := bits u 10 11
  let mult := bits v 8 2
  let sp := d.get (F.PRT_LSTAT_SPEED (p - 1))
  let cost := ctxCost sp type mps mult
  let charge := ceilDiv (cost * 1000) (usbTotal (sp == 3) * 2 ^ ivl)
  let phase := if periodic then d.findPhase p ivl cost (usbBudget (sp == 3)) else some 0
  let free := (List.range 128).find? fun c => !d.ctxOpen c
  match firstByRank (d.ctxopenChecks tk) with
  | .done =>
    let c := free.getD 0
    let ph := phase.getD 0
    let d1 := (((((((((d.set (F.LHE_CTXW0_VALID c) 1).set (F.LHE_CTXW0_STATE c) 1).set (F.LHE_CTXW0_PORT c) p).set (F.LHE_CTXW0_ADDR c)
      (bits v 17 7)).set (F.LHE_CTXW0_EPNUM c) (bits v 13 4)).set (F.LHE_CTXW0_DIR c) (bits v 12 1)).set (F.LHE_CTXW0_TYPE c) type).set
      (F.LHE_CTXW0_MULT c) mult).set (F.LHE_CTXW0_OWNER c) tk.t)
    let d2 := (((d1.set (F.LHE_CTXW1_PHASE c) ph).set (F.LHE_CTXW1_IVL c) ivl).set (F.LHE_CTXW1_MPS c) mps).set (F.LHE_CTXW1_IFNUM c)
      (bits u 0 8)
    let d3 := ((d2.setCtx c { cost := cost, charge := charge }).usbCharge tk.t charge).set F.LHE_STAT_OPEN (d2.get F.LHE_STAT_OPEN + 1)
    (d3.showPeak p).finish tk .done c ph
  | st => d.finish tk st 0 0

/-- The checks on a descriptor that names context `c`. -/
def Dev.ctxChecks (d : Dev) (t c : Nat) : List (Bool × Status) :=
  [(d.ctxOpen c && d.get (F.LHE_CTXW0_OWNER c) != t, .eOwner),
   (d.ctxOpen c && d.is (F.PRT_STAT_FENCED (d.get (F.LHE_CTXW0_PORT c))), .eFenced), (!d.ctxOpen c, .eState)]

/-- The checks of CTXCLOSE. -/
def Dev.ctxcloseChecks (d : Dev) (tk : Tkt) : List (Bool × Status) :=
  let c := bits (tk.word 1) 0 7
  d.descChecks tk ++ (d.ctxChecks tk.t c)

def Dev.doCtxclose (d : Dev) (tk : Tkt) : Dev :=
  let c := bits (tk.word 1) 0 7
  match firstByRank (d.ctxcloseChecks tk) with
  | .done => (d.closeCtx c .eFlushed).finish tk .done 0 0
  | st => d.finish tk st 0 0

/-- A context runs again with toggle DATA0 (R231). -/
def Dev.unhaltCtx (d : Dev) (c : Nat) : Dev :=
  let d1 := ((d.set (F.LHE_CTXW0_STATE c) 1).set (F.LHE_CTXW1_HCAUSE c) 0).set (F.LHE_CTXW1_TOG c) 0
  d1.setCtx c { d1.ctx c with errs := 0, ping := false }

/-- The checks of CTXRESET. -/
def Dev.ctxresetChecks (d : Dev) (tk : Tkt) : List (Bool × Status) :=
  let c := bits (tk.word 1) 0 7
  d.descChecks tk ++ (d.ctxChecks tk.t c)

def Dev.doCtxreset (d : Dev) (tk : Tkt) : Dev :=
  let c := bits (tk.word 1) 0 7
  match firstByRank (d.ctxresetChecks tk) with
  | .done => (d.unhaltCtx c).finish tk .done 0 0
  | st => d.finish tk st 0 0

/-- The 64-bit buffer address and the length of an XFER or BUF descriptor. -/
def Tkt.addr (tk : Tkt) : Nat := tk.word 2 + 2 ^ 32 * tk.word 3
def Tkt.len (tk : Tkt) : Nat := tk.word 4

/-- The SETUP packet of an XFER descriptor. -/
def Tkt.setup (tk : Tkt) : Nat := tk.word 5 + 2 ^ 32 * tk.word 6

/-- The checks of XFER. (DEDUCED, log entry 39). -/
def Dev.xferChecks (d : Dev) (tk : Tkt) : List (Bool × Status) :=
  let c := bits (tk.word 1) 0 7
  let control := d.get (F.LHE_CTXW0_TYPE c) == 0
  d.descChecks tk ++ ([(d.ctxOpen c && !control && tk.setup != 0, Status.eField), (decide (1048576 < tk.len), .eRange),
      (d.ctxOpen c && control && tk.len != suLength tk.setup, .eRange), (d.inPart tk.t && !d.partRange tk.addr tk.len, .eRange),
      (d.ctxOpen c && d.get (F.LHE_CTXW0_TYPE c) == 1, .eState)] ++ d.ctxChecks tk.t c)

/-- The XFER descriptor: checked, then queued on its context (R316, R317). -/
def Dev.doXfer (d : Dev) (tk : Tkt) : Dev :=
  match firstByRank (d.xferChecks tk) with
  | .done => d
  | st => d.finish tk st 0 0

/-! ### Local transactions (R226 to R232, R239) -/

/-- Local port `p` carries SOF and transactions: enabled, awake, no resume driven, and neither fenced nor being steered (R219, R239).
 (DEDUCED, log entry 39). -/
def Dev.portRuns (d : Dev) (p : Nat) : Bool :=
  d.isLocal p && !d.parked p && d.is (F.PRT_LSTAT_ENABLED (p - 1)) && !d.is (F.PRT_LSTAT_SUSP (p - 1)) && !(d.localPort p).resume &&
    !d.is (F.PRT_STAT_FENCED p) && !d.steering p

/-- A context is served now: open and running, its port running, and no PHY held. -/
def Dev.ctxServed (d : Dev) (c : Nat) : Bool :=
  d.is F.LHE_CTRL_EN && d.ctxOpen c && d.get (F.LHE_CTXW0_STATE c) == 1 && d.portRuns (d.get (F.LHE_CTXW0_PORT c)) && !d.phyHeld

/-- A context has something to do: a stream or a ticket (R224). -/
def Dev.ctxWants (d : Dev) (c : Nat) : Bool :=
  if d.get (F.LHE_CTXW0_TYPE c) = 1 then d.srcUses (2 * 8192 + c) != [] || d.sinkUses (2 * 8192 + c) != []
  else d.live (isXfer c) != []

def Dev.ctxPeriodic (d : Dev) (c : Nat) : Bool := d.get (F.LHE_CTXW0_TYPE c) == 1 || d.get (F.LHE_CTXW0_TYPE c) == 3

/-- Halts a context with a cause and raises LHE_CTX_HALT (R229, R230, R242). -/
def Dev.haltCtx (d : Dev) (c cause : Nat) : Dev :=
  let p := d.get (F.LHE_CTXW0_PORT c)
  (((d.set (F.LHE_CTXW0_STATE c) 2).set (F.LHE_CTXW1_HCAUSE c) cause).lheEvent 3 p c cause).oweFault (0x200 + p) 19

/-- Toggle resynchronisation after a completed standard request (R232, Table 08.4). -/
def Dev.resync (d : Dev) (c v : Nat) : Dev :=
  let l := (d.ctxsOn (d.get (F.LHE_CTXW0_PORT c))).filter fun k => d.get (F.LHE_CTXW0_ADDR k) == d.get (F.LHE_CTXW0_ADDR c)
  let data := l.filter fun k => d.get (F.LHE_CTXW0_TYPE k) != 0
  match suType v, suReq v with
  | 0x02, 1 =>
    if suValue v = 0 then
      (l.filter fun k => d.get (F.LHE_CTXW0_EPNUM k) + 128 * d.get (F.LHE_CTXW0_DIR k) == suIndex v).foldl Dev.unhaltCtx d
    else d
  | 0x00, 9 => data.foldl (fun d k => d.set (F.LHE_CTXW1_TOG k) 0) d
  | 0x01, 11 =>
    (data.filter fun k => d.get (F.LHE_CTXW1_IFNUM k) == suIndex v).foldl (fun d k => d.set (F.LHE_CTXW1_TOG k) 0) d
  | 0x00, 5 => d.set (F.LHE_CTXW0_ADDR c) (suValue v % 128)
  | _, _ => d

def Dev.modCtx (d : Dev) (c : Nat) (f : Ctx → Ctx) : Dev := d.setCtx c (f (d.ctx c))

def Dev.flipCtx (d : Dev) (c : Nat) : Dev := d.set (F.LHE_CTXW1_TOG c) (1 - d.get (F.LHE_CTXW1_TOG c))

/-- Direction of what a ticket's data move on its context: control transfers take it from the SETUP packet. (DEDUCED, log entry 39). -/
def Dev.xferIn (d : Dev) (c : Nat) (tk : Tkt) : Bool :=
  if d.get (F.LHE_CTXW0_TYPE c) = 0 then bitOf tk.setup 7 else d.is (F.LHE_CTXW0_DIR c)

/-- The bytes of the next OUT packet of a ticket. -/
def Dev.outSize (d : Dev) (c : Nat) (tk : Tkt) : Nat := min (d.get (F.LHE_CTXW1_MPS c)) (tk.len - tk.moved)

/-- A data stage or transfer is over after a packet of `n` bytes. -/
def Dev.dataOver (d : Dev) (c : Nat) (tk : Tkt) (n : Nat) : Bool :=
  let mps := d.get (F.LHE_CTXW1_MPS c)
  if d.xferIn c tk then decide (n < mps) || decide (tk.len ≤ tk.moved)
  else decide (tk.len ≤ tk.moved) && !(bitOf (tk.word 1) 8 && n == mps && d.get (F.LHE_CTXW0_TYPE c) != 0)

/-- A packet of a data stage moved `n` bytes: the ticket completes, or a control transfer goes to its status stage. -/
def Dev.moveOn (d : Dev) (c : Nat) (tk : Tkt) (n : Nat) : Dev :=
  let tk1 := { tk with moved := tk.moved + n }
  if d.dataOver c tk1 n then
    if d.get (F.LHE_CTXW0_TYPE c) = 0 then d.modTkt tk fun x => { x with moved := tk1.moved, stage := 2 }
    else d.finish tk .done tk1.moved 0
  else d.modTkt tk fun x => { x with moved := tk1.moved }

/-- An OUT packet leaves with the data that its tenant's memory holds. Poisoned data are not sent: the ticket ends
E_POISON (Table 11.2). -/
def Dev.outPacket (d : Dev) (c : Nat) (tk : Tkt) (data : List Byte) (poison : Bool) (k : Dev → Dev) : Dev :=
  let n := d.outSize c tk
  let r := d.hostGet tk.t (tk.addr + tk.moved) n data (poison && n != 0)
  if r.2.2 then (r.1.finish tk .ePoison tk.moved 0).hifEvent 0 tk.t
  else k (r.1.usbOut (d.get (F.LHE_CTXW0_PORT c)) 0 r.2.1)

/-- A transaction that ended well: 0 acknowledged, or its IN data received; 2 NYET to an OUT. -/
def Dev.xferGood (d : Dev) (c : Nat) (tk : Tkt) (nyet : Bool) (data : List Byte) (poison : Bool) : Dev :=
  let control := d.get (F.LHE_CTXW0_TYPE c) == 0
  let hs := d.get (F.PRT_LSTAT_SPEED (d.get (F.LHE_CTXW0_PORT c) - 1)) == 3
  if control && tk.stage == 0 then
    (d.usbOut (d.get (F.LHE_CTXW0_PORT c)) 0 (leBytes 8 tk.setup)).modTkt tk fun x => { x with stage := if tk.len = 0 then 2 else 1 }
  else if control && tk.stage == 2 then (d.finish tk .done tk.moved 0).resync c tk.setup
  else if d.xferIn c tk then
    let l := (data.take (d.get (F.LHE_CTXW1_MPS c))).take (tk.len - tk.moved)
    (((d.hostPut tk.t (tk.addr + tk.moved) l false).flipCtx c)).moveOn c tk data.length
  else
    d.outPacket c tk data poison fun e =>
      let e1 := (e.flipCtx c).modCtx c fun x => { x with ping := nyet && hs }
      e1.moveOn c tk (d.outSize c tk)

/-- One more consecutive error; the third completes the ticket and halts the context (R229). -/
def Dev.xferError (d : Dev) (c : Nat) : Dev :=
  let p := d.get (F.LHE_CTXW0_PORT c)
  let n := (d.ctx c).errs + 1
  let d1 := ((d.bump (F.PRT_LCNT_XERR (p - 1))).oweFault (0x200 + p) 20).modCtx c fun x => { x with errs := n }
  if n < 3 then d1
  else
    let d2 := match d1.live (isXfer c) with
      | [] => d1
      | tk :: _ => d1.finish tk .eProto tk.moved 0
    d2.haltCtx c 2

/-- Babble: the context halts, the port is disabled and its contexts close (R229, R241). -/
def Dev.xferBabble (d : Dev) (c : Nat) : Dev := (d.haltCtx c 3).localDetach (d.get (F.LHE_CTXW0_PORT c)) true

/-- Frames of a stream in service interval `k` of an isochronous context. -/
def Dev.ctxFrames (d : Dev) (c s : Nat) : Nat :=
  let hs := d.get (F.PRT_LSTAT_SPEED (d.get (F.LHE_CTXW0_PORT c) - 1)) == 3
  let ivl := 2 ^ d.get (F.LHE_CTXW1_IVL c)
  let per := perSecond hs
  let k := (if hs then d.lhe.frame else d.lhe.frame / 8) / ivl
  let r := rateHz (d.get (F.STR_W1_RATE s)) * ivl
  (k + 1) * r / per - k * r / per

/-- An isochronous transaction: IN delivers an item, OUT sends what the stream has; it is never retried (R226). -/
def Dev.isoTransaction (d : Dev) (c : Nat) (good : Bool) (data : List Byte) : Dev :=
  let p := d.get (F.LHE_CTXW0_PORT c)
  if !good then (d.bump (F.PRT_LCNT_XERR (p - 1))).oweFault (0x200 + p) 20
  else if d.is (F.LHE_CTXW0_DIR c) then
    (d.srcUses (2 * 8192 + c)).foldl (fun d s => d.itemIn s data (d.almTime % 2 ^ 32) false) d
  else match d.sinkUses (2 * 8192 + c) with
    | [] => d
    | (s, i) :: _ =>
      let m := d.ctxFrames c s
      match d.sinkPacket s i (m * d.frameBytes s) with
      | (d1, none) => d1
      | (d1, some l) => d1.usbOut p 0 (zeroPoisoned (d.frameBytes s) m l)

/-- A high-speed bulk or control OUT data transaction, which ping state is about (R228). -/
def Dev.pingable (d : Dev) (c : Nat) (tk : Tkt) : Bool :=
  d.get (F.PRT_LSTAT_SPEED (d.get (F.LHE_CTXW0_PORT c) - 1)) == 3 && !d.xferIn c tk &&
    (d.get (F.LHE_CTXW0_TYPE c) == 2 || (d.get (F.LHE_CTXW0_TYPE c) == 0 && tk.stage == 1))

/-- The next transaction of a context is a PING. -/
def Dev.pingNext (d : Dev) (c : Nat) : Bool :=
  (d.ctx c).ping && match d.live (isXfer c) with
    | [] => false
    | tk :: _ => d.pingable c tk

/-- A non-periodic context waits for its turn; one PING a micro-frame is all it has in ping state. -/
def Dev.turnWaits (d : Dev) (p c : Nat) : Bool :=
  d.get (F.LHE_CTXW0_PORT c) == p && !d.ctxPeriodic c && d.ctxServed c && d.ctxWants c && !(d.pingNext c && (d.ctx c).pinged)

/-- The non-periodic context whose turn it is on port `p`: round-robin by context (R227, R338). -/
def Dev.turnOf (d : Dev) (p : Nat) : Option Nat :=
  let l := (List.range 128).filter (d.turnWaits p)
  (l.find? fun c => decide ((d.localPort p).turn < c)) <|> l.head?

/-- A periodic transaction of port `p` is still to start in this micro-frame. -/
def Dev.periodicLeft (d : Dev) (p : Nat) : Bool :=
  (List.range 128).any fun c => (d.ctx c).due && d.get (F.LHE_CTXW0_PORT c) == p && d.ctxPeriodic c && d.ctxServed c && d.ctxWants c

/-- The engine starts a transaction of context `c` now: a periodic one in its micro-frame and once; another only when no periodic one of
its port is left, and at its turn (R226 to R228). (DEDUCED, log entry 39). -/
def Dev.starts (d : Dev) (c : Nat) : Bool :=
  let p := d.get (F.LHE_CTXW0_PORT c)
  d.ctxServed c && d.ctxWants c && (if d.ctxPeriodic c then (d.ctx c).due else !d.periodicLeft p && d.turnOf p == some c)

/-- What starting a transaction leaves: a periodic one is no longer due, another passes the turn on. -/
def Dev.started (d : Dev) (c : Nat) : Dev :=
  if d.ctxPeriodic c then d.modCtx c fun x => { x with due := false }
  else d.modLocal (d.get (F.LHE_CTXW0_PORT c)) fun x => { x with turn := c }

/-- A PING goes out, answered `res`: 0 ACK leaves ping state for the next OUT, an error counts, and anything else keeps it (R228, R229).
 (DEDUCED, log entry 39). -/
def Dev.pingSent (d : Dev) (c res : Nat) : Dev :=
  let d1 := (d.usbOut (d.get (F.LHE_CTXW0_PORT c)) 9 []).modCtx c fun x => { x with pinged := true }
  match res with
  | 0 => d1.modCtx c fun x => { x with ping := false, errs := 0 }
  | 3 =>
    let d2 := d1.modCtx c fun x => { x with errs := 0 }
    match d2.live (isXfer c) with
    | [] => d2
    | tk :: _ =>
      let d3 := d2.finish tk .eProto tk.moved 0
      if d.get (F.LHE_CTXW0_TYPE c) = 0 then d3 else d3.haltCtx c 1
  | 4 => d1.xferError c
  | _ => d1.modCtx c fun x => { x with errs := 0 }

/-- What a transaction of context `c` that has started does by its end: 0 acknowledged or data
received, 1 NAK, 2 NYET, 3 STALL, 4 timeout, CRC or
PID error, 5 IN data on a wrong toggle, 6 babble. `data` is what the device sent, or what the tenant's memory holds for an OUT. -/
def Dev.transact (d : Dev) (c res : Nat) (data : List Byte) (poison : Bool) : Dev :=
  if res = 6 then d.xferBabble c
  else if d.pingNext c then d.pingSent c res
  else if d.get (F.LHE_CTXW0_TYPE c) = 1 then
    if res = 3 then d.haltCtx c 1 else d.isoTransaction c (res == 0) data
  else match d.live (isXfer c) with
    | [] => d
    | tk :: _ =>
      let ok := d.modCtx c fun x => { x with errs := 0 }
      match res with
      | 0 => ok.xferGood c tk false data poison
      | 1 => if d.pingable c tk then ok.modCtx c fun x => { x with ping := true } else ok
      | 2 => ok.xferGood c tk true data poison
      | 3 =>
        let d1 := ok.finish tk .eProto tk.moved 0
        if d.get (F.LHE_CTXW0_TYPE c) = 0 then d1 else d1.haltCtx c 1
      | 4 => d.xferError c
      | _ => d

/-- LHE_TRANSACTION: nothing starts out of its place (R226, R227). -/
def Dev.transaction (d : Dev) (c res : Nat) (data : List Byte) (poison : Bool) : Dev :=
  if !d.starts c then d else (d.started c).transact c res data poison

def execLheTransaction (ctx : Fin 128) (res : Fin 7) (data : List Byte) (poison : Bool) (s : State) : Out' :=
  act s fun d => d.transaction ctx.val res.val data poison

/-! ### Local micro-frames (R221, R222, R226, R239) -/

/-- A periodic context is due in micro-frame `n`. -/
def Dev.ctxDue (d : Dev) (c n : Nat) : Bool :=
  let hs := d.get (F.PRT_LSTAT_SPEED (d.get (F.LHE_CTXW0_PORT c) - 1)) == 3
  let k := if hs then n else n / 8
  (hs || n % 8 == 0) && k % 2 ^ d.get (F.LHE_CTXW1_IVL c) == d.get (F.LHE_CTXW1_PHASE c)

/-- The boundary of micro-frame `n` on local port `p`: a suspend command takes effect, and SOF is launched, or keep-alive at low
speed. -/
def Dev.portFrame (d : Dev) (n p : Nat) : Dev :=
  if !d.isLocal p then d
  else
    let d1 := if (d.localPort p).cmd = 2 then (d.set (F.PRT_LSTAT_SUSP (p - 1)) (d.get (F.PRT_LSTAT_ENABLED (p - 1)))).endCmd p .done else d
    let v := d1.get (F.PRT_LSTAT_SPEED (p - 1))
    if d1.portRuns p && (v == 3 || n % 8 == 0) then
      if v = 1 then d1.usbOut p 8 [] else d1.emit .usb p [7, n / 8 % 2048, n % 8] []
    else d1

/-- One periodic transaction of context `c` was lost: it is counted in XERR (R226, R239). -/
def Dev.countLostTrans (d : Dev) (c : Nat) : Dev := d.bump (F.PRT_LCNT_XERR (d.get (F.LHE_CTXW0_PORT c) - 1))

/-- The micro-frame in progress ends: an isochronous transaction that was not started is missed and counted, and each context may send a
PING again. -/
def Dev.frameEnds (d : Dev) : Dev :=
  (List.range 128).foldl (fun d c =>
    let x := d.ctx c
    let d1 := if x.due && d.get (F.LHE_CTXW0_TYPE c) == 1 && d.ctxServed c && d.ctxWants c then
        (d.countLostTrans c).oweFault (0x200 + d.get (F.LHE_CTXW0_PORT c)) 20 else d
    d1.modCtx c fun x => { x with due := false, pinged := false }) d

/-- The periodic transactions of micro-frame `n` are to be started; those that a PHY hold keeps from it are lost. -/
def Dev.frameBegins (d : Dev) (n : Nat) : Dev :=
  ((List.range 128).filter fun c => d.ctxOpen c && d.ctxPeriodic c && d.get (F.LHE_CTXW0_STATE c) == 1 && d.ctxDue c n).foldl
    (fun d c =>
      if !d.phyHeld then d.modCtx c fun x => { x with due := true }
      else if d.portRuns (d.get (F.LHE_CTXW0_PORT c)) && d.ctxWants c then d.countLostTrans c else d) d

/-- The next micro-frame: its number, the edge of the 24 MHz count at which it begins, and how far that is from its Almanac time in units
of 8 ns. The first after EN begins at the next Almanac boundary; each other follows its boundary by at most 50 ns, which is one
edge (R221, R222, R243). (DEDUCED, log entry 39). -/
def Dev.nextSof (d : Dev) : Nat × Nat × Nat :=
  match d.lhe.sofAt with
  | none =>
    let n := d.almNs / 125000 + 1
    (n, d.xt.count + (d.edgeOf (n * 125000)).toNat, 0)
  | some t =>
    let n := d.lhe.frame + 1
    let ideal : Int := d.xt.count + d.edgeOf (n * 125000)
    if d.is F.ALM_STAT_PAUSED then (n, t + 3001, (n * 125000 - d.almNs) / 8)
    else
      let at_ : Int := max (t + 2999) (min (t + 3001) ideal)
      (n, at_.toNat, (ideal - at_).natAbs * 125 / 24)

/-- LAG beyond 1 µs raises LHE_SOF_LAG once per excursion (R222). -/
def Dev.showLag (d : Dev) (lag : Nat) : Dev :=
  let d0 := d.set F.LHE_STAT_LAG (min 255 lag)
  let late := decide (125 < lag)
  let d1 := if late && !d0.lhe.lagging then
      [1, 2, 3, 4, 5, 6, 7, 8].foldl (fun d p =>
        if d.isLocal p && d.is (F.PRT_LSTAT_ENABLED (p - 1)) then d.oweFault (0x200 + p) 21 else d)
        (d0.raise F.LHE_INT_SOFLAG 0x805 [0] 0 0 0)
    else d0
  { d1 with lhe := { d1.lhe with lagging := late } }

/-- LOCAL_MICROFRAME: time passes to the next boundary, the ended micro-frame is accounted for, SOF goes out unless the PHYs are held,
and the periodic transactions of the new one are due. -/
def Dev.microframe (d : Dev) : Dev :=
  if !d.is F.LHE_CTRL_EN then d
  else
    let x := d.nextSof
    let d1 := ((d.frameEnds).edgesTo x.2.1).showLag x.2.2
    let d2 := { d1 with lhe := { d1.lhe with frame := x.1, sofAt := some x.2.1 } }
    let d3 := if d2.phyHeld then d2 else [1, 2, 3, 4, 5, 6, 7, 8].foldl (fun d p => d.portFrame x.1 p) d2
    d3.frameBegins x.1

def execLocalMicroframe (s : State) : Out' := act s Dev.microframe

/-- After a PHY hold of 3 ms or more a resume is driven on every local port that was running (R239). -/
def Dev.lheAfterHold (d : Dev) (long : Bool) : Dev :=
  if !long then d
  else [1, 2, 3, 4, 5, 6, 7, 8].foldl (fun d p =>
    if d.isLocal p && !d.parked p && d.is (F.PRT_LSTAT_ENABLED (p - 1)) && !d.is (F.PRT_LSTAT_SUSP (p - 1)) then
      ((d.modLocal p fun x => { x with resume := true }).usbOut p 5 []).lheEvent 2 p p 0
    else d) d

end Sys2Proof.Machine
end

