-- ==== Sys2Proof/Machine/Streams.lean ====
section
/-!
DEFINITION. Streams, their queues and the Larder (chapter 09): the stream descriptors on a dispatched ticket, flush, RING
items and buffers, notices, the ring partition and the counters.
-/
namespace Sys2Proof.Machine

open Sys2Proof

/-! ### Endpoints named in BIND and ATTACH (R260, R261, Table 09.3) -/

/-- Bits of an ID that its kind does not use. (DEDUCED, log entry 40). -/
def epExtra (c : Nat) : Bool :=
  match epKind c with
  | 1 => decide (16 ≤ epId c)
  | 2 => decide (128 ≤ epId c)
  | 3 => bits c 0 4 != 0
  | 4 => decide (256 ≤ epId c)
  | 5 => decide (2048 ≤ epId c)
  | _ => true

/-- The tenant that holds an endpoint by itself: a context's, a flow's or a ring's. -/
def Dev.epHolder (d : Dev) (c : Nat) : Option Nat :=
  match epKind c with
  | 2 => if d.ctxOpen (epId c) then some (d.get (F.LHE_CTXW0_OWNER (epId c))) else none
  | 4 => if d.is (F.HAY_FLOW_OPEN (epId c)) then some (mapGet {} d.hay.flow (epId c)).owner else none
  | 5 => some (ringTenant c)
  | _ => none

def Dev.epFenced (d : Dev) (c : Nat) : Bool :=
  match epKind c with
  | 1 => d.is (F.PRT_STAT_FENCED 0)
  | 2 => d.ctxOpen (epId c) && d.is (F.PRT_STAT_FENCED (d.get (F.LHE_CTXW0_PORT (epId c))))
  | 3 => d.is (F.TDM_STAT_FENCED (tdmPort c))
  | 5 => d.unitFenced (ringTenant c)
  | _ => false

/-- The owners of the streams and sinks that use an endpoint in this direction; flows and rings are used in either. -/
def Dev.epClaims (d : Dev) (c : Nat) (src : Bool) : List Nat :=
  let both := epKind c == 4 || epKind c == 5
  (if src || both then (d.srcUses c).map d.strOwner else []) ++
    (if !src || both then (d.sinkUses c).map fun e => d.get (sownFld e.1 e.2) else [])

/-- The cases of R260 that concern an endpoint by itself, for tenant `t`: its code, its owner, a fence and another use. (DEDUCED, log
entry 40). -/
def Dev.epBase (d : Dev) (t c : Nat) (src : Bool) : List (Bool × Status) :=
  let k := epKind c
  [(k == 0 || decide (5 < k) || epExtra c, .eField),
   (k == 1 && decide (epId c < 3), .eRange),
   (k == 3 && decide (16 < tdmFirst c + tdmCount c), .eRange),
   ((d.epClaims c src).any (· != t) || (d.epHolder c).any (· != t), .eOwner),
   (d.epFenced c, .eFenced),
   ((d.epClaims c src).contains t, .eState)]

/-- The cases of R260 that concern an endpoint, for tenant `t` and a stream of `ch` channels: those, and its slots and reservation against
the stream's format. -/
def Dev.epChecks (d : Dev) (t c rate ch width : Nat) (src : Bool) : List (Bool × Status) :=
  d.epBase t c src ++ [(epKind c == 3 && tdmCount c != ch, .eRange), (!(d.reservation t c rate (ch - 1) width).1, .eNores)]

/-- Cells of a source's largest item (R256, R260). (DEDUCED, log entry 39). -/
def Dev.largestItem (d : Dev) (c rate ch width : Nat) : Nat :=
  let fb := ch * (width + 2)
  match epKind c with
  | 1 => ceilDiv (peakBytes rate (ch - 1) width (perSecond (d.is F.HUB_STAT_HS))) 64
  | 2 =>
    let hs := d.get (F.PRT_LSTAT_SPEED (d.get (F.LHE_CTXW0_PORT (epId c)) - 1)) == 3
    ceilDiv (ceilDiv (rateHz rate * 2 ^ d.get (F.LHE_CTXW1_IVL (epId c))) (perSecond hs) * fb) 64
  | 3 => ceilDiv (8 * fb) 64
  | 4 => 8
  | _ => 256

/-! ### The stream descriptors (R259 to R262, R264, R269, R290, R317) -/

/-- The checks of BIND. -/
def Dev.bindChecks (d : Dev) (tk : Tkt) : List (Bool × Status) :=
  let s := bits (tk.word 1) 0 8
  let c := bits (tk.word 1) 16 16
  let u := tk.word 2
  let ch := bits u 12 5 + 1
  let width := bits u 8 2
  let rate := bits u 0 4
  let depth := bits (tk.word 3) 0 16
  let mode := bits (tk.word 3) 16 2
  let st := d.strState s
  d.descChecks tk ++ ([(width == 3 || rateHz rate == 0 || mode == 3, Status.eField), (mode == 2, .eRange),
      (decide (depth < 2 * d.largestItem c rate ch width), .eRange), (decide (depth ≤ bits u 20 12), .eRange),
      (d.strBound s && d.strOwner s != tk.t, .eOwner), (st == 5, .eFenced), (!d.is F.LAR_CTRL_LOCK, .eState),
      (st == 1 || st == 2 || st == 3, .eState), (st == 4, .eBusy)] ++ d.epChecks tk.t c rate ch width true)

/-- The BIND descriptor. -/
def Dev.doBind (d : Dev) (tk : Tkt) : Dev :=
  let s := bits (tk.word 1) 0 8
  let c := bits (tk.word 1) 16 16
  let u := tk.word 2
  let ch := bits u 12 5 + 1
  let width := bits u 8 2
  let rate := bits u 0 4
  let depth := bits (tk.word 3) 0 16
  let mode := bits (tk.word 3) 16 2
  match firstByRank (d.bindChecks tk) with
  | .done =>
    let r := d.reservation tk.t c rate (ch - 1) width
    let d1 := ((((d.set (F.STR_W0_STATE s) 1).set (F.STR_W0_SHARE s) (bits (tk.word 3) 18 1)).set (F.STR_W0_OWNER s) tk.t).set
      (F.STR_W0_SOURCE s) c)
    let d2 := (((d1.set (F.STR_W1_PREFILL s) (bits u 20 12)).set (F.STR_W1_CH s) (ch - 1)).set (F.STR_W1_WIDTH s) width).set
      (F.STR_W1_RATE s) rate
    let d3 := ((d2.set (F.QUE_W0_MODE (queOf s)) mode).set (F.QUE_W0_OWNER (queOf s)) tk.t).set (F.QUE_W0_DEPTH (queOf s)) depth
    ((d3.setStream s { cost := r.2.1, charge := r.2.2 }).usbCharge tk.t r.2.2).finish tk .done 0 0
  | st => d.finish tk st 0 0

/-- The checks that every descriptor on an existing stream shares (R269, R275, R317): IDLE, FENCED and FLUSHING. -/
def Dev.strChecks (d : Dev) (s : Nat) (flush : Bool) : List (Bool × Status) :=
  [(d.strState s == 0, .eState), (d.strState s == 5, .eFenced), (!flush && d.strState s == 4, .eBusy)]

/-- The checks of ATTACH. -/
def Dev.attachChecks (d : Dev) (tk : Tkt) : List (Bool × Status) :=
  let s := bits (tk.word 1) 0 8
  let c := bits (tk.word 1) 16 16
  let rate := d.get (F.STR_W1_RATE s)
  let ch := d.get (F.STR_W1_CH s) + 1
  let width := d.get (F.STR_W1_WIDTH s)
  let free := (List.range 8).find? fun i => (mapFind (d.stream s).sinks i).isNone
  let ep := if d.strBound s then d.epChecks tk.t c rate ch width false else d.epBase tk.t c false
  d.descChecks tk ++ (d.strChecks s false ++
      [(d.strBound s && d.strOwner s != tk.t && !d.is (F.STR_W0_SHARE s), Status.eOwner), (free.isNone, .eNores)] ++ ep)

/-- The ATTACH descriptor. A sink attached while the stream is RUN begins with the first item that arrives after it. -/
def Dev.doAttach (d : Dev) (tk : Tkt) : Dev :=
  let s := bits (tk.word 1) 0 8
  let c := bits (tk.word 1) 16 16
  let rate := d.get (F.STR_W1_RATE s)
  let ch := d.get (F.STR_W1_CH s) + 1
  let width := d.get (F.STR_W1_WIDTH s)
  let free := (List.range 8).find? fun i => (mapFind (d.stream s).sinks i).isNone
  match firstByRank (d.attachChecks tk) with
  | .done =>
    let i := free.getD 0
    let r := d.reservation tk.t c rate (ch - 1) width
    let run := d.strState s == 3
    let k : SinkPos := { pos := if run then bytesOf (d.items (queOf s)) else 0, active := run, cost := r.2.1, charge := r.2.2 }
    let d1 := (d.set (sinkFld s i) c).set (sownFld s i) tk.t
    ((d1.modStream s fun x => { x with sinks := mapInsert x.sinks i k }).usbCharge tk.t r.2.2).finish tk .done i 0
  | st => d.finish tk st 0 0

/-- A RING sink has a buffer in progress. -/
def Dev.fillingBuf (d : Dev) (s i : Nat) : Bool :=
  let c := d.sinkCode s i
  epKind c == 5 && (match d.live (isBuf (ringTenant c) (ringSq c)) with
    | [] => false
    | b :: _ => decide (0 < b.moved))

/-- The checks of DETACH. -/
def Dev.detachChecks (d : Dev) (tk : Tkt) : List (Bool × Status) :=
  let s := bits (tk.word 1) 0 8
  let i := bits (tk.word 1) 8 3
  let x := mapFind (d.stream s).sinks i
  d.descChecks tk ++ (d.strChecks s false ++
      [(x.isSome && d.strOwner s != tk.t && d.get (sownFld s i) != tk.t, Status.eOwner),
       ((x.map SinkPos.leaving).getD true, .eState)])

/-- The DETACH descriptor: a removed sink finishes its present packet and then releases its read position (R261).
 (DEDUCED, log entry 41). -/
def Dev.doDetach (d : Dev) (tk : Tkt) : Dev :=
  let s := bits (tk.word 1) 0 8
  let i := bits (tk.word 1) 8 3
  match firstByRank (d.detachChecks tk) with
  | .done =>
    let d1 := if d.fillingBuf s i || (epKind (d.sinkCode s i) == 3 && decide (0 < (d.sink s i).cur)) then d.modSink s i fun k => { k with leaving := true }
      else (d.endSinkBuf s i .eFlushed).removeSink s i
    d1.finish tk .done 0 0
  | st => d.finish tk st 0 0

/-- A TDM endpoint of the stream keeps it from starting (R290). -/
def Dev.tdmNoStart (d : Dev) (s c : Nat) : Bool :=
  epKind c == 3 &&
    (!d.is (F.TDM_CTRL_EN (tdmPort c)) || d.get (F.TDM_CFG_RATE (tdmPort c)) != d.get (F.STR_W1_RATE s) ||
      decide (d.get (F.TDM_CFG_NSLOT (tdmPort c)) + 1 < tdmFirst c + tdmCount c))

/-- The checks of START. -/
def Dev.startChecks (d : Dev) (tk : Tkt) : List (Bool × Status) :=
  let s := bits (tk.word 1) 0 8
  let st := d.strState s
  let codes := d.srcCode s :: (d.stream s).sinks.map fun e => d.sinkCode s e.1
  d.descChecks tk ++ (d.strChecks s false ++ [(d.strBound s && d.strOwner s != tk.t, Status.eOwner), (st == 2 || st == 3, .eState),
      ((d.stream s).sinks.isEmpty, .eState), (codes.any (d.tdmNoStart s), .eState)])

/-- The START descriptor. -/
def Dev.doStart (d : Dev) (tk : Tkt) : Dev :=
  let s := bits (tk.word 1) 0 8
  match firstByRank (d.startChecks tk) with
  | .done => ((d.set (F.STR_W0_STATE s) 2).primed s).finish tk .done 0 0
  | st => d.finish tk st 0 0

/-- The checks of FLUSH. -/
def Dev.flushChecks (d : Dev) (tk : Tkt) : List (Bool × Status) :=
  let s := bits (tk.word 1) 0 8
  d.descChecks tk ++ (d.strChecks s true ++ [(d.strBound s && d.strOwner s != tk.t, Status.eOwner)])

/-- The FLUSH descriptor: it completes when the flush does; a second one with the first (R268). -/
def Dev.doFlush (d : Dev) (tk : Tkt) : Dev :=
  let s := bits (tk.word 1) 0 8
  match firstByRank (d.flushChecks tk) with
  | .done => if d.strState s = 4 then d else d.startFlush s
  | st => d.finish tk st 0 0

/-- The checks of UNBIND. -/
def Dev.unbindChecks (d : Dev) (tk : Tkt) : List (Bool × Status) :=
  let s := bits (tk.word 1) 0 8
  let st := d.strState s
  d.descChecks tk ++ (d.strChecks s false ++ [(d.strBound s && d.strOwner s != tk.t, Status.eOwner), (st == 2 || st == 3, .eState)])

/-- The UNBIND descriptor. -/
def Dev.doUnbind (d : Dev) (tk : Tkt) : Dev :=
  let s := bits (tk.word 1) 0 8
  match firstByRank (d.unbindChecks tk) with
  | .done => (d.unbindStream s).finish tk .done 0 0
  | st => d.finish tk st 0 0

/-- The RING endpoint code of SQ `q` of tenant `t`. -/
def ringCode (t q : Nat) : Nat := 5 * 8192 + 8 * t + q

/-- The checks of BUF. -/
def Dev.bufChecks (d : Dev) (tk : Tkt) : List (Bool × Status) :=
  let s := bits (tk.word 1) 0 8
  let c := ringCode tk.t tk.sq
  let sinks := (d.stream s).sinks.map Prod.fst
  let src := d.srcCode s == c
  let snk := sinks.any fun i => d.sinkCode s i == c
  d.descChecks tk ++ (d.strChecks s false ++
      [(d.strBound s && tk.len % d.frameBytes s != 0, Status.eAlign), (tk.len == 0 || decide (16384 < tk.len), .eRange),
       (d.inPart tk.t && !d.partRange tk.addr tk.len, .eRange),
       (d.strBound s && d.strOwner s != tk.t && !sinks.any fun i => d.get (sownFld s i) == tk.t, .eOwner),
       (!src && !snk, .eState)])

/-- The BUF descriptor: checked, then waiting for its item or its data (R317). -/
def Dev.doBuf (d : Dev) (tk : Tkt) : Dev :=
  match firstByRank (d.bufChecks tk) with
  | .done => d
  | st => d.finish tk st 0 0

/-! ### Items of a RING source, buffers of a RING sink (R254, R256, Table 09.6, Table 11.8) -/

/-- The RING endpoints of a fenced tenant are paused (R348). -/
def Dev.ringPaused (d : Dev) (c : Nat) : Bool := d.unitFenced (ringTenant c)

/-- Reads a source buffer cell by cell; `bad` names the cells that a poisoned TLP writes. Answers the bytes and the poisoned cells (R265). -/
def Dev.ringGet (d : Dev) (t a n : Nat) (l : List Byte) (bad : List Nat) : Dev × List Byte × List Nat :=
  (List.range (ceilDiv n 64)).foldl (fun r k =>
    let g := r.1.hostGet t (a + 64 * k) (min 64 (n - 64 * k)) ((l.drop (64 * k)).take 64) (bad.contains k)
    (g.1, r.2.1 ++ g.2.1, if g.2.2 then r.2.2 ++ [k] else r.2.2)) (d, [], [])

/-- A RING source's buffer data arrive: one item, and the BUF ends. While a FIFO queue has no room for it, it waits (R254).
 (DEDUCED, log entry 41). -/
def Dev.ringItem (d : Dev) (s : Nat) (data : List Byte) (bad : List Nat) : Dev :=
  let c := d.srcCode s
  match d.live (isBuf (ringTenant c) (ringSq c)) with
  | [] => d
  | tk :: _ =>
    if d.ringPaused c || !(d.strState s == 2 || d.strState s == 3) ||
        (d.get (F.QUE_W0_MODE (queOf s)) == 0 && !d.fits (queOf s) (ceilDiv tk.len 64)) then d
    else
      let r := d.ringGet tk.t tk.addr tk.len data bad
      let stamp := if bitOf (tk.word 1) 16 then tk.word 5 else r.1.almTime % 2 ^ 32
      let d1 := ((r.1.enqueueAs (queOf s) r.2.1 0 stamp fun k => r.2.2.contains k).1).primed s
      let d2 := d1.finish tk (if r.2.2 = [] then .done else .ePoison) tk.len stamp
      if r.2.2 = [] then d2 else d2.hifEvent 0 tk.t

/-- A source of stream `s` behind a held PHY, or a TDM port that does not run, delivers nothing (R273, R298). -/
def Dev.sourceHeld (d : Dev) (s : Nat) : Bool :=
  match epKind (d.srcCode s) with
  | 1 | 2 | 4 => d.phyHeld
  | 3 => !(d.tdmOf (tdmPort (d.srcCode s))).inBank
  | _ => false

/-- STREAM_ITEM_IN: the source of stream `s` delivers an item; a HAY item carries its bale's stamp, and its
poison flag where `bad` is not empty; a TDM item carries the start of its bank, and `bad` names the cells of a RING item that a poisoned
TLP writes (R258, R265, R288). -/
def Dev.streamItem (d : Dev) (s : Nat) (data : List Byte) (stamp : Nat) (bad : List Nat) : Dev :=
  match epKind (d.srcCode s) with
  | 5 => d.ringItem s data bad
  | 4 => if d.sourceHeld s then d else d.itemIn s data stamp !bad.isEmpty
  | 3 => if d.sourceHeld s then d else d.itemIn s data ((d.tdmOf (tdmPort (d.srcCode s))).start % 2 ^ 32) false
  | _ => if d.sourceHeld s then d else d.itemIn s data (d.almTime % 2 ^ 32) false

def execStreamItemIn (stream : Fin 256) (data : List Byte) (stamp : Word) (bad : List (Fin 256)) (s : State) : Out' :=
  act s fun d => d.streamItem stream.val data stamp.toNat (bad.map Fin.val)

/-- The item that byte `pos` of a queue lies in, and the byte's offset in it, bytes already freed counted. -/
def itemAt : List Item → Nat → Option (Item × Nat)
  | [], _ => none
  | it :: l, pos => if pos < it.data.length then some (it, it.skip + pos) else itemAt l (pos - it.data.length)

/-- Presentation timestamp of the sample frame at byte `pos`: its item's stamp plus the frame's offset at the stream's rate,
rounded to the nearest nanosecond (Table 11.8). -/
def Dev.stampAt (d : Dev) (s pos : Nat) : Nat :=
  match itemAt (d.items (queOf s)) pos with
  | none => 0
  | some (it, off) =>
    let r := rateHz (d.get (F.STR_W1_RATE s))
    (it.stamp + (2 * (off / d.frameBytes s) * 1000000000 + r) / (2 * r)) % 2 ^ 32

/-- Consecutive bytes with the same mark; the number bounds how many runs are cut. -/
def poisonRuns : Nat → List (Byte × Bool) → List (List Byte × Bool)
  | 0, _ => []
  | n + 1, l =>
    match l with
    | [] => []
    | (b, p) :: t =>
      let m := (t.takeWhile fun e => e.2 == p)
      (b :: m.map (·.1), p) :: poisonRuns n (t.drop m.length)

/-- Writes a sink buffer's data run by run (Table 09.6). (DEDUCED, log entry 41). -/
def Dev.putRuns (d : Dev) (t : Nat) : Nat → List (List Byte × Bool) → Dev
  | _, [] => d
  | a, (l, p) :: r => (d.hostPut t a l p).putRuns t (a + l.length) r

/-- A RING sink writes the whole sample frames that wait into its buffer; a full buffer ends its BUF. -/
def Dev.ringPacket (d : Dev) (s i : Nat) : Dev :=
  let c := d.sinkCode s i
  match d.live (isBuf (ringTenant c) (ringSq c)) with
  | [] => d
  | tk :: _ =>
    let fb := d.frameBytes s
    let n := min (tk.len - tk.moved) (d.waiting s i / fb * fb)
    if d.ringPaused c || d.strState s != 3 || !(d.sink s i).active || n == 0 then d
    else
      let first := if tk.moved = 0 then d.stampAt s (d.sink s i).pos else (d.sink s i).firstStamp
      match d.sinkTake s i n true with
      | (d1, none) => d1
      | (d1, some l) =>
        let bad := l.any (·.2) || (tk.moved != 0 && (d.sink s i).poisoned)
        let d2 := d1.putRuns tk.t (tk.addr + tk.moved) (poisonRuns l.length l)
        let whole := tk.moved + n == tk.len
        let d3 := d2.modSink s i fun k => { k with firstStamp := first, poisoned := bad && !whole, cur := if whole then 0 else k.cur }
        if whole then
          let d4 := d3.finish tk (if bad then .ePoison else .done) tk.len first
          if (d4.sink s i).leaving then (d4.endSinkBuf s i .eFlushed).removeSink s i else d4
        else d3.modTkt tk fun x => { x with moved := tk.moved + n }

/-! ### Flush, lost sources, notices -/

/-- FLUSH_DRAINED and FLUSH_DONE (Table 09.5). -/
def execFlushDrained (stream : Fin 256) (s : State) : Out' := act s fun d => d.drain stream.val

def execFlushDone (stream : Fin 256) (s : State) : Out' := act s fun d => d.flushDone stream.val

/-- STR_SOURCE_LOST: a closed context never delivers again (R587). -/
def execStrSourceLost (stream : Fin 256) (s : State) : Out' :=
  act s fun d => d.sourceLost stream.val (epKind (d.srcCode stream.val) == 2 && !d.ctxOpen (epId (d.srcCode stream.val) % 128))

/-- NOTICE_SPACING_END of notice kind `k` of queue `q`. -/
def Dev.spacingEnd (d : Dev) (q k : Nat) : Dev :=
  match mapGet 0 d.lar.spacing (3 * q + k) with
  | 0 => d
  | 1 => d.setSpacing q k 0
  | _ => (d.sendNotice q k).setSpacing q k 1

def execNoticeSpacingEnd (queue : Fin 1024) (kind : Fin 3) (s : State) : Out' :=
  act s fun d => d.spacingEnd queue.val kind.val

/-! ### LAR registers and the ring partition (R251, R252, R278, R279) -/

/-- The sum of R251 in units of 16 cells, DEVRES and COUNT as given. -/
def Dev.quotaSum (d : Dev) (devres count : Nat) : Nat :=
  ((List.range 256).map fun t => d.get (F.LAR_QUOTA_MIN t)).foldl (· + ·) 0 + devres + count

/-- At the later of the two locks, with T0HOST at 1, the set-aside begins (R252). -/
def Dev.startSetAside (d : Dev) : Dev :=
  if d.is F.LAR_CTRL_LOCK && d.is F.GLB_CTRL_LOCK && d.stewardHost && !d.is F.LAR_CTRL_PARTOK then
    { d with lar := { d.lar with settingAside := true } }
  else d

/-- Clears UNDER and POISON of a queue. (DEDUCED, log entry 42). -/
def Dev.clearCounts (d : Dev) (q : Nat) : Dev := (d.set (F.QUE_W3_UNDER q) 0).set (F.QUE_W3_POISON q) 0

/-- Clears LOST and LOSTSAT of a queue. -/
def Dev.clearLost (d : Dev) (q : Nat) : Dev := (d.set (F.QUE_W2_LOST q) 0).set (F.QUE_W1_LOSTSAT q) 0

/-- A write of LAR_CTRL. -/
def Dev.writeLarCtrl (d : Dev) (w : Word) : Dev :=
  let v := w.toNat
  d.regWrite .bar0 R.LAR_CTRL 0 w [(decide (3840 < d.quotaSum (bits v 16 12) (d.get F.LAR_PART_COUNT)), .eNores)] fun n =>
    let n1 := if bitOf v 0 then (List.range 1024).foldl (fun d q => (d.clearLost q).clearCounts q) n else n
    if d.is F.LAR_CTRL_LOCK then n1 else n1.startSetAside

def execLarLock (w : Word) (s : State) : Out' := act s fun d => d.writeLarCtrl (withBit w 31)

def execLarCntclr (w : Word) (s : State) : Out' := act s fun d => d.writeLarCtrl (withBit w 0)

/-- A write of QUE W1 of queue `q`. -/
def Dev.writeQueW1 (d : Dev) (q : Nat) (w : Word) : Dev :=
  d.regWrite .bar0 R.QUE_W1 q w [] fun n =>
    let n1 := if bitOf w.toNat 31 then n.clearLost q else n
    if bitOf w.toNat 30 then n1.clearCounts q else n1

def execQueLostsatClear (queue : Fin 1024) (w : Word) (s : State) : Out' := act s fun d => d.writeQueW1 queue.val (withBit w 31)

def execQueCntclr (queue : Fin 1024) (w : Word) (s : State) : Out' := act s fun d => d.writeQueW1 queue.val (withBit w 30)

/-- A list of free intervals without the cells of [`lo`, `hi`). -/
def cutSpans (lo hi : Nat) : List (Nat × Nat) → List (Nat × Nat)
  | [] => []
  | (a, b) :: t =>
    (if a < min b lo then [(a, min b lo)] else []) ++ (if max a hi < b then [(max a hi, b)] else []) ++ cutSpans lo hi t

/-- Moves what one cell of an item holds to a cell outside the range, keeping its mark; a word that cannot be read marks it. -/
def Dev.moveCell (d : Dev) (it : Item) (c : Nat) : Dev × Item :=
  match d.takeCell 17 with
  | none => (d, it)
  | some (n, d1) =>
    let ue := it.bad.any fun e => e.1 == c && decide (2 ≤ eccClass e.2.2)
    (d1, { it with cells := it.cells.map fun x => if x = c then n else x,
                   poison := (if ue || it.poison.contains c then [n] else []) ++ it.poison.filter (· != c),
                   bad := it.bad.filter fun e => e.1 != c })

/-- Moves the cells of an item that lie in [`lo`, `hi`). (DEDUCED, log entry 41). -/
def Dev.moveItem (d : Dev) (lo hi : Nat) (it : Item) : Dev × Item :=
  (it.cells.filter fun c => decide (lo ≤ c) && decide (c < hi)).foldl (fun p c => p.1.moveCell p.2 c) (d, it)

/-- Moves the items of a queue. -/
def Dev.moveItems (d : Dev) (lo hi : Nat) : List Item → Dev × List Item
  | [] => (d, [])
  | it :: l =>
    let p := d.moveItem lo hi it
    let r := p.1.moveItems lo hi l
    (r.1, p.2 :: r.2)

/-- PARTITION_SET_ASIDE_DONE: the range leaves the pool, its items are moved, and it holds the wipe pattern (R252). -/
def Dev.setAsideDone (d : Dev) : Dev :=
  if !d.lar.settingAside then d
  else
    let lo := d.get F.LAR_PART_BASE
    let n := 16 * d.get F.LAR_PART_COUNT
    let b := lo / 4096
    let d1 := d.setBank b (cutSpans (lo % 4096) (lo % 4096 + n) (d.bankFree b))
    let d2 := (d1.lar.queues.map Prod.fst).foldl (fun d q =>
      let r := d.moveItems lo (lo + n) (d.items q)
      r.1.setItems q r.2) d1
    let d3 := d2.set F.LAR_CTRL_PARTOK 1
    { d3 with lar := { d3.lar with settingAside := false, partBase := lo, partCells := n },
              ecc := { d3.ecc with part := [], partPoison := [] } }

def execPartitionSetAsideDone (s : State) : Out' := act s Dev.setAsideDone

end Sys2Proof.Machine
end

