-- ==== Sys2Proof/Machine/Tdm.lean ====
section
/-!
DEFINITION. The serial audio ports (chapter 10): enabling, the audio PLL, ping-pong banks, frame-sync errors, and clocks lost
and returned.
-/
namespace Sys2Proof.Machine

open Sys2Proof

/-! ### Enabling (R285, R293, R301, R302) -/

def pllHz (family : Nat) : Nat := if family = 1 then 45158400 else 49152000

/-- Bits a second of a port: fs × NSLOT × 32. -/
def Dev.tdmBits (d : Dev) (p : Nat) : Nat := rateHz (d.get (F.TDM_CFG_RATE p)) * (d.get (F.TDM_CFG_NSLOT p) + 1) * 32

/-- RATE is of the family that TDM_PLL.FAMILY selects. -/
def Dev.rateInFamily (d : Dev) (p : Nat) : Bool :=
  let f := if [1, 3, 6, 8, 10, 12].contains (d.get (F.TDM_CFG_RATE p)) then 1 else 0
  d.get F.TDM_PLL_FAMILY == f

/-- D is not a whole number of 2 or more, or a slave's BCLK exceeds 24.576 MHz (R285). (DEDUCED, log entry 44). -/
def Dev.tdmBadClock (d : Dev) (p : Nat) : Bool :=
  if d.tdmMaster p then pllHz (d.get F.TDM_PLL_FAMILY) % d.tdmBits p != 0 || decide (pllHz (d.get F.TDM_PLL_FAMILY) < 2 * d.tdmBits p)
  else decide (24576000 < d.tdmBits p)

/-- The PLL has started where it is wanted. -/
def Dev.pllStart (d : Dev) : Dev := if d.pllWanted then { d with pllOn := true } else d

/-- EN became 1: a port with a clock runs; a master waits for the PLL. EN became 0: it stops (R301). (DEDUCED, log entry 44). -/
def Dev.tdmSwitch (d : Dev) (p : Nat) (was now : Bool) : Dev :=
  if was = now then d
  else if now then
    let d1 := d.pllStart
    if d1.tdmClocked p && !d1.is (F.TDM_STAT_FENCED p) then d1.tdmRun p else d1
  else
    let d1 := (d.tdmStop p).set (F.TDM_STAT_CLKLOST p) 0
    if d1.ratBound p then d1.ratClockGone else d1

/-- A write of TDM_CTRL of port `p`. -/
def Dev.writeTdmCtrl (d : Dev) (p : Nat) (w : Word) : Dev :=
  let was := d.is (F.TDM_CTRL_EN p)
  let now := bitOf w.toNat 0
  d.regWrite .bar0 R.TDM_CTRL p w
    [(!was && now && d.tdmBadClock p, .eRange), (!was && now && d.tdmMaster p && !d.rateInFamily p, .eState),
     (was && !now && (d.tdmStreams p).any (fun s => d.strState s == 2 || d.strState s == 3 || d.strState s == 4), .eState)]
    fun n =>
      let n1 := if bitOf w.toNat 1 then (n.set (F.TDM_CNT_FSERR p) 0).set (F.TDM_CNT_CLKLOSS p) 0 else n
      n1.tdmSwitch p was now

/-- TDM_ENABLE writes EN as the word carries it. -/
def execTdmEnable (port : Fin 2) (w : Word) (s : State) : Out' := act s fun d => d.writeTdmCtrl port.val w

def execTdmCntclr (port : Fin 2) (w : Word) (s : State) : Out' := act s fun d => d.writeTdmCtrl port.val (withBit w 1)

/-- A master port drives its clocks from the locked PLL. One whose clock was lost restarts its frames too; CLKLOST falls after 64 of
them (R295, R299, R301). (DEDUCED, log entry 44). -/
def Dev.tdmDrive (d : Dev) (p : Nat) : Dev :=
  if d.is (F.TDM_CTRL_EN p) && d.tdmMaster p && !d.is (F.TDM_STAT_FENCED p) && !d.is (F.TDM_STAT_RUNNING p) then
    (if d.is (F.TDM_STAT_CLKLOST p) then d.realign p else d).tdmRun p
  else d

/-- TDM_PLL_LOCK: LOCKED, and master ports that wait drive their clocks. -/
def Dev.pllLock (d : Dev) : Dev :=
  if d.is F.TDM_PLL_LOCKED || !d.pllWanted then d
  else [0, 1].foldl Dev.tdmDrive ({ d with pllOn := true }.set F.TDM_PLL_LOCKED 1)

def execTdmPllLock (s : State) : Out' := act s Dev.pllLock

/-! ### Banks (R281 to R284, R286, R288, R289) -/

/-- The sample of `wb` bytes in a slot word: its top bits, stored little-endian (R257, R283). -/
def slotSample (wb : Nat) (v : Nat) : List Byte := leBytes wb (v / 2 ^ (32 - 8 * wb))

/-- A sample left-justified in its slot word. -/
def sampleSlot (wb : Nat) (l : List Byte) : Nat := leNat l * 2 ^ (32 - 8 * wb)

/-- The item that a source takes from the slots of 8 frames. -/
def Dev.bankItem (d : Dev) (p s : Nat) (di : List Nat) : List Byte :=
  let ns := d.get (F.TDM_CFG_NSLOT p) + 1
  let c := d.srcCode s
  ((List.range 8).map fun f => ((List.range (tdmCount c)).map fun i =>
    slotSample (d.get (F.STR_W1_WIDTH s) + 2) (di.getD (f * ns + tdmFirst c + i) 0)).flatten).flatten

/-- Delivers a finished bank to the sources of the port (R256, R288). -/
def Dev.bankIntoSources (d : Dev) (p : Nat) (di : List Nat) : Dev :=
  let start := (d.tdmOf p).start % 2 ^ 32
  (d.boundStreams.filter fun s => onTdm p (d.srcCode s)).foldl (fun d s => d.itemIn s (d.bankItem p s di) start false) d

/-- Frames from the one that starts at `now` to frame j, the one nearest to stamp + TDM_DELAY; stamps compare within ±2 s,
beyond which the sink plays at once (R289). (DEDUCED, log entry 44). -/
def alignFrames (now stamp delay rate : Nat) : Int :=
  let a : Nat := (stamp + 1000 * delay + 2 ^ 32 - now % 2 ^ 32) % 2 ^ 32
  let e : Int := if a < 2 ^ 31 then (a : Int) else (a : Int) - 2 ^ 32
  if e < -2000000000 ∨ 2000000000 < e then 0 else (2 * e * (rate : Int) + 1000000000) / 2000000000

/-- The sink discards `n` bytes. -/
def Dev.skipBytes (d : Dev) (s i n : Nat) : Dev := (d.modSink s i fun k => { k with pos := k.pos + n }).trimStream s

/-- A sink that still has to line up its first frame: the zero frames it plays first, and the samples after them.
 (DEDUCED, log entry 44). -/
def Dev.alignBank (d : Dev) (p s i now : Nat) : Dev × Option (Nat × List (Byte × Bool)) :=
  let fb := d.frameBytes s
  let w := d.waiting s i / fb
  if w = 0 then (d.underrun s, none)
  else
    let j := alignFrames now (d.stampAt s (d.sink s i).pos) (d.get (F.TDM_DELAY_DELAY p)) (rateHz (d.get (F.TDM_CFG_RATE p)))
    if 8 ≤ j then (d, some (8, []))
    else if 0 ≤ j then
      let z := j.toNat
      if w < 8 - z then (d.underrun s, none)
      else match d.sinkTake s i ((8 - z) * fb) true with
        | (d1, none) => (d1, none)
        | (d1, some l) => (d1.modSink s i fun k => { k with aligned := true }, some (z, l))
    else
      let b := (-j).toNat
      if w < b then (d.skipBytes s i (w * fb), some (8, []))
      else
        let d1 := d.skipBytes s i (b * fb)
        if w < b + 8 then (d1.underrun s, none)
        else match d1.sinkTake s i (8 * fb) true with
          | (d2, none) => (d2, none)
          | (d2, some l) => (d2.modSink s i fun k => { k with aligned := true }, some (0, l))

/-- The bank of a sink: `z` zero frames, then samples; none where it underruns and plays 0. -/
def Dev.sinkBank (d : Dev) (p s i now : Nat) : Dev × Option (Nat × List (Byte × Bool)) :=
  if d.is (F.TDM_CFG_ALIGN p) && d.strState s == 3 && (d.sink s i).active && !(d.sink s i).aligned then d.alignBank p s i now
  else
    let r := d.sinkPacket s i (8 * d.frameBytes s) true
    (r.1, r.2.map fun l => (0, l))

/-- The slot words (frame × NSLOT + slot, word) of a sink's bank; frames with a poisoned byte are zero (Table 09.6).
 (DEDUCED, log entry 44). -/
def Dev.bankWords (d : Dev) (p s i z : Nat) (l : List (Byte × Bool)) : List (Nat × Nat) :=
  let ns := d.get (F.TDM_CFG_NSLOT p) + 1
  let c := d.sinkCode s i
  let wb := d.get (F.STR_W1_WIDTH s) + 2
  let bytes := zeroPoisoned (d.frameBytes s) (8 - z) l
  (List.range (8 - z)).foldr (fun f a => ((List.range (tdmCount c)).map fun k =>
    ((z + f) * ns + tdmFirst c + k, sampleSlot wb ((bytes.drop (f * d.frameBytes s + k * wb)).take wb))) ++ a) []

/-- A sink that runs: its slots are driven. -/
def Dev.sinkRuns (d : Dev) (s i : Nat) : Bool := d.strState s == 3 && (d.sink s i).active

/-- The mask of slots that a port drives beside those of `driven` (R284). -/
def Dev.slotMask (d : Dev) (p driven : Nat) : Nat :=
  if d.is (F.TDM_CFG_IDLE p) then driven else 2 ^ (d.get (F.TDM_CFG_NSLOT p) + 1) - 1

/-- The next bank of port `p` begins at Almanac time `now`: each running sink gives its samples, and slots of none are idle (R284). With
sinks running and none ready the crossing starves, and the bank is zeros (R48). (DEDUCED, log entry 44). -/
def Dev.bankOut (d : Dev) (p now : Nat) : Dev :=
  let ns := d.get (F.TDM_CFG_NSLOT p) + 1
  let sinks := d.tdmSinks p
  let run := sinks.filter fun e => d.sinkRuns e.1 e.2
  let r := sinks.foldl (fun (a : Dev × List (Nat × Nat) × Bool) e =>
    let q := a.1.sinkBank p e.1 e.2 now
    match q.2 with
    | none => (q.1, a.2)
    | some (z, l) => (q.1, q.1.bankWords p e.1 e.2 z l ++ a.2.1, true)) (d, [], false)
  let driven := run.foldl (fun m e => (List.range (tdmCount (d.sinkCode e.1 e.2))).foldl
    (fun m k => m ||| 2 ^ (tdmFirst (d.sinkCode e.1 e.2) + k)) m) 0
  let words := (List.range (8 * ns)).map fun i => (mapFind r.2.1 i).getD 0
  let d1 := r.1.setTdm p { r.1.tdmOf p with play := (d.slotMask p driven, (words.map (beBytes 4)).flatten) }
  if run ≠ [] ∧ !r.2.2 then (d1.bump (F.SUP_XDROP_OUT (21 + p))).oweFault (0x21A + p) 22 else d1

/-- The first `n` frames of the bank being sent have gone out; the output's argument is the mask of slots driven. -/
def Dev.playFrames (d : Dev) (p n : Nat) : Dev :=
  let x := d.tdmOf p
  d.emit .tdm p [x.play.1] (x.play.2.take (4 * (d.get (F.TDM_CFG_NSLOT p) + 1) * n))

/-- `n` frames outside any bank: every slot idle (R384). -/
def Dev.idleFrames (d : Dev) (p n : Nat) : Dev :=
  if n = 0 then d else d.emit .tdm p [d.slotMask p 0] (List.replicate (4 * (d.get (F.TDM_CFG_NSLOT p) + 1) * n) 0)

/-- The Almanac time at which frame `k` begins at `fs` frames a second, to the nearest nanosecond (R286). -/
def frameStart (fs k : Nat) : Nat := (2 * k * 1000000000 + fs) / (2 * fs)

/-- The least multiple of 8 from `n` on. -/
def upTo8 (n : Nat) : Nat := ceilDiv n 8 * 8

/-- The first frame of the next bank of a master port: eight after that of the bank which ends, else the first that is still to come, and
in either case a multiple of 8 (R286, R384). -/
def Dev.nextFrame (d : Dev) (p : Nat) : Nat :=
  let x := d.tdmOf p
  upTo8 (if x.inBank then x.frame + 8 else ceilDiv (d.almNs * d.tdmRate p) 1000000000)

/-- Time passes to the start of the next bank: a master's by its frame number, a slave's by the edges that went by. -/
def Dev.toBank (d : Dev) (p edges : Nat) : Dev :=
  if d.tdmMaster p then d.edges (d.edgeOf (frameStart (d.tdmRate p) (d.nextFrame p))).toNat else d.edges edges

/-- When the bank whose first frame is `k` begins, in Almanac time; `d` stands there. -/
def Dev.bankStart (d : Dev) (p k : Nat) : Nat :=
  if d.tdmMaster p then frameStart (d.tdmRate p) k % 2 ^ 64 else d.almTime

/-- The bank in progress has ended: its frames have gone out, those outside any bank after it, and the slot words received are
delivered. -/
def Dev.bankClose (d : Dev) (p : Nat) (di : List Nat) : Dev :=
  if !(d.tdmOf p).inBank then d
  else
    let gap := if d.tdmMaster p then d.nextFrame p - ((d.tdmOf p).frame + 8) else 0
    ((d.playFrames p 8).idleFrames p gap).bankIntoSources p di

/-- TDM_BANK_END: the bank in progress ends with the slot words received, and the next one begins. `edges` of the 24 MHz count went by
on a slave's clocks; a master's bank begins where R286 says. (DEDUCED, log entry 44). -/
def Dev.bankEnd (d : Dev) (p edges : Nat) (di : List Nat) : Dev :=
  if !d.is (F.TDM_STAT_RUNNING p) then d
  else
    let k := d.nextFrame p
    let d1 := d.toBank p edges
    let now := d1.bankStart p k
    let d2 := ((d1.bankClose p di).endBanks p).bankOut p now
    d2.setTdm p { d2.tdmOf p with inBank := true, start := now, frame := if d.tdmMaster p then k else 0 }

def execTdmBankEnd (port : Fin 2) (edges : BitVec 16) (di : List Word) (s : State) : Out' :=
  act s fun d => d.bankEnd port.val edges.toNat (di.map BitVec.toNat)

/-! ### Frame-sync errors and clocks (R287, R294, R298, R299) -/

/-- TDM_FSERR after `sent` frames of the bank: the frame restarts and the bank in progress is abandoned, its remaining frames unsent. -/
def Dev.tdmFserr (d : Dev) (p sent : Nat) : Dev :=
  if d.tdmMaster p || !d.is (F.TDM_CTRL_EN p) || d.is (F.TDM_STAT_FENCED p) then d
  else
    let d1 := if (d.tdmOf p).inBank then d.playFrames p sent else d
    ((((d1.bump (F.TDM_CNT_FSERR p)).setTdm p {}).endBanks p).tdmEvent p 2).oweFault (0x21A + p) 30

def execTdmFserr (port : Fin 2) (sent : Fin 8) (s : State) : Out' := act s fun d => d.tdmFserr port.val sent.val

def execTdmClkLoss (port : Fin 2) (s : State) : Out' := act s fun d => d.tdmLose port.val

/-- TDM_CLK_BACK: 64 valid frames. A fresh bank begins, and sinks line up again. -/
def Dev.tdmBack (d : Dev) (p : Nat) : Dev :=
  if !d.is (F.TDM_CTRL_EN p) || d.is (F.TDM_STAT_FENCED p) || !d.tdmClocked p ||
      (d.is (F.TDM_STAT_RUNNING p) && !d.is (F.TDM_STAT_CLKLOST p)) then d
  else
    let d1 := d.realign p
    let d2 := if d1.is (F.TDM_STAT_CLKLOST p) then (d1.set (F.TDM_STAT_CLKLOST p) 0).tdmEvent p 1 else d1
    d2.tdmRun p

def execTdmClkBack (port : Fin 2) (s : State) : Out' := act s fun d => d.tdmBack port.val

end Sys2Proof.Machine
end

