-- ==== Sys2Proof/Machine/Rings.lean ====
section
/-!
DEFINITION. Rings, doorbells, fetch, completions, events and vectors (chapters 11 and 12).
-/
namespace Sys2Proof.Machine

open Sys2Proof

/-! ### Access to a tenant page (R331, R343) -/

/-- An access to the page of tenant `t` comes over PCI Express, where it ends DOZE, unless the steward hosts T000 (R61). -/
def Dev.pageRouse (d : Dev) (t : Nat) : Dev := if d.inPart t then d else d.rouse

/-- An access to offset `off` of the page of tenant `t`: an absent or resetting function does not answer; the steward's access
to T000's page is then rejected with E_BUSY. -/
def Dev.onPage (d : Dev) (t off : Nat) (k : Dev → Dev) : Dev :=
  if !d.tenantExists t then d
  else if d.flrBusy t then if d.inPart t && d.regsOpen then d.recordGlb (off % 0x20000) .eBusy else d.pageRouse t
  else k (d.pageRouse t)

/-- A page as a register space. -/
def pageOf (t : Nat) : Space := .page (Fin.ofNat 256 t)

/-! ### Doorbells (R311, R312) -/

/-- The doorbell of ring `r` of tenant `t`. -/
def Dev.writeDoorbell (d : Dev) (t r : Nat) (w : Word) : Dev :=
  d.onPage t (0x1000 + 8 * r) fun d =>
    let v := w.toNat
    let idx := bits v 16 16
    let c := d.get (F.HIF_RIDX_C t r)
    let far := (idx + 65536 - c) % 65536
    d.regWrite (pageOf t) R.HIF_DB r w
      [(bits v 0 5 != r, .eField), (!d.is (F.HIF_RCFG_EN t r), .eState),
       (r < 8 && (decide (far < d.ringFill t r) || decide (ringSize d t r - 1 < far)), .eRange),
       (8 ≤ r && decide (d.ringFill t r < far), .eRange)]
      fun n => if r < 8 then n.set (F.HIF_RIDX_P t r) idx else n.set (F.HIF_RIDX_C t r) idx

/-- A doorbell ends DOZE (R61). -/
def execDoorbell (t : Fin 256) (ring : Fin 17) (w : Word) (s : State) : Out' :=
  act s fun d => (if d.tenantExists t.val then d.rouse else d).writeDoorbell t.val ring.val w

/-! ### Waits at a bound (R322) -/

def Dev.isWaiting (d : Dev) (t : Nat) : Bool := mapGet false d.hif.waiting t

def Dev.setWaiting (d : Dev) (t : Nat) (b : Bool) : Dev :=
  { d with hif := { d.hif with waiting := mapPut false d.hif.waiting t b, tagHeld := mapPut false d.hif.tagHeld t false } }

/-- SQ `q` has work that is not yet fetched and dispatched. -/
def Dev.sqWork (d : Dev) (t q : Nat) : Bool :=
  d.is (F.HIF_RCFG_EN t q) && (d.ringFill t q != 0 || (d.read t q).n != 0 || d.fetched t q != [])

/-- A wait begins, or goes on, with the SQs named held. (DEDUCED, log entry 46). -/
def Dev.beginWait (d : Dev) (t : Nat) (qs : List Nat) : Dev :=
  let d1 := qs.foldl (fun d q => d.set (F.HIF_RCFG_WAIT t q) 1) d
  if d1.isWaiting t then d1 else (d1.bump (F.TEN_TICKET_WAIT_COUNT t)).setWaiting t true

/-- A wait ends once every doorbelled descriptor of the tenant has been fetched and dispatched. -/
def Dev.checkWait (d : Dev) (t : Nat) : Dev :=
  if d.isWaiting t && !(List.range 8).any (d.sqWork t) then
    ((List.range 8).foldl (fun d q => d.set (F.HIF_RCFG_WAIT t q) 0) d).setWaiting t false
  else d

/-! ### Fetch (R312, R313, R321) -/

/-- PCI Express reads outstanding (HIF_STAT.TAGS); T000's partition reads take no tag. -/
def Dev.tagsUsed (d : Dev) : Nat :=
  d.hif.abandoned + (d.hif.reads.filter fun e => e.2.n != 0 && !d.inPart (e.1 / 8)).length

def Dev.tagLimit (d : Dev) : Nat := if d.is F.HIF_STAT_EXTTAG then 256 else 32

/-- Fetch is deferred: shutdown stage S2 or later, an FLR, no link or its PHY held, or T000's host, the steward, absent. -/
def Dev.fetchDeferred (d : Dev) (t : Nat) : Bool :=
  decide (2 ≤ d.get F.SUP_STAT_STAGE) || d.flrBusy t || !d.tenantExists t ||
    (if d.inPart t then (d.stw.rom != .image) else !d.is F.HIF_STAT_LINKUP || d.pcieHeld)

/-- SQ `q` has descriptors to read and no read outstanding. -/
def Dev.sqReady (d : Dev) (t q : Nat) : Bool := d.is (F.HIF_RCFG_EN t q) && (d.read t q).n == 0 && d.ringFill t q != 0

/-- The SQ of a tenant that is read next: they are served round-robin (R313). -/
def Dev.nextSq (d : Dev) (t : Nat) : Option Nat :=
  ((List.range 8).map fun i => (mapGet 7 d.hif.lastSq t + 1 + i) % 8).find? (d.sqReady t)

/-- Descriptors from slot `slot` of SQ `q` on before the next 4 KiB boundary of host memory, which no read crosses (Table 11.1). -/
def Dev.pageRoom (d : Dev) (t q slot : Nat) : Nat :=
  if d.inPart t then 8 else (4096 - (d.ringBase t q + 32 * slot) % 4096) / 32

/-- Descriptors that a read of SQ `q` may cover: at most 8, neither past P nor past the end of the ring. -/
def Dev.fetchWant (d : Dev) (t q : Nat) : Nat :=
  let slot := d.get (F.HIF_RIDX_C t q) % ringSize d t q
  min (min 8 (d.pageRoom t q slot)) (min (d.ringFill t q) (ringSize d t q - slot))

/-- The tenants whose fetch is not deferred and that have an SQ to read, in ascending order, each with that SQ. -/
def Dev.fetchers (d : Dev) : List (Nat × Nat) :=
  (List.range 256).filterMap fun t => if d.fetchDeferred t then none else (d.nextSq t).map fun q => (t, q)

/-- A read tag is free, or T000's read of the partition needs none. -/
def Dev.tagFree (d : Dev) (t : Nat) : Bool := d.inPart t || decide (d.tagsUsed < d.tagLimit)

/-- A tenant that meets a bound of Table 11.13 waits: for a tag with the SQ held, for tickets as a whole (R322).
 (DEDUCED, log entry 50). -/
def Dev.holdAtBound (d : Dev) (e : Nat × Nat) : Dev :=
  if !d.tagFree e.1 then
    let d1 := d.beginWait e.1 [e.2]
    { d1 with hif := { d1.hif with tagHeld := mapPut false d1.hif.tagHeld e.1 true } }
  else if d.tktRoom e.1 1 = 0 then d.beginWait e.1 ((List.range 8).filter (d.sqWork e.1))
  else d

/-- What tenant `t` can have fetched now: its SQ and how many descriptors, which is what the read costs. -/
def Dev.fetchable (d : Dev) (e : Nat × Nat) : Option (Nat × Nat × Nat) :=
  let n := d.tktRoom e.1 (d.fetchWant e.1 e.2)
  if !d.tagFree e.1 || n == 0 then none else some (e.1, e.2, n)

/-- The entries in the order of their turns after tenant `last`. -/
def inTurns (last : Nat) (l : List (Nat × Nat × Nat)) : List (Nat × Nat × Nat) :=
  l.filter (fun e => decide (last < e.1)) ++ l.filter fun e => decide (e.1 ≤ last)

/-- Turn after turn each tenant that waits gains its weight; the first whose head its credit covers is served. -/
def creditPass (w : Nat → Nat) : List (Nat × Nat × Nat) → Map Nat → Map Nat × Option (Nat × Nat × Nat)
  | [], c => (c, none)
  | e :: r, c =>
    let v := mapGet 0 c e.1 + w e.1
    if e.2.2 ≤ v then (mapPut 0 c e.1 v, some e) else creditPass w r (mapPut 0 c e.1 v)

/-- At most `n` rounds of turns; a read costs at most 8 and a weight is at least 1, so that 8 rounds serve somebody. -/
def creditRounds (w : Nat → Nat) (l : List (Nat × Nat × Nat)) : Nat → Map Nat → Map Nat × Option (Nat × Nat × Nat)
  | 0, c => (c, none)
  | n + 1, c =>
    match creditPass w l c with
    | (c', none) => creditRounds w l n c'
    | (c', some e) => (c', some e)

/-- Whom the next read serves, and the credits then (R338); waiters for a tag are served round-robin instead (Table 11.13).
 (DEDUCED, log entry 50). -/
def Dev.pickFetch (d : Dev) (l : List (Nat × Nat × Nat)) : Map Nat × Option (Nat × Nat × Nat) :=
  let h := d.hif
  let c := if h.inTurn && !l.any (·.1 == h.last) then mapPut 0 h.credit h.last 0 else h.credit
  match (inTurns h.last (l.filter fun e => mapGet false h.tagHeld e.1)).head? with
  | some e => (c, some e)
  | none =>
    match l.find? fun e => h.inTurn && e.1 == h.last && decide (e.2.2 ≤ mapGet 0 h.credit e.1) with
    | some e => (h.credit, some e)
    | none => creditRounds (fun t => d.get (F.TEN_GISO_WEIGHT t)) (inTurns h.last l) 8 c

/-- The read of `e.2.2` descriptors of SQ `e.2.1` of tenant `e.1` is issued, and its turn goes on or ends (R313, R338).
 (DEDUCED, log entry 50). -/
def Dev.serveFetch (d : Dev) (c : Map Nat) (e : Nat × Nat × Nat) : Dev :=
  let t := e.1
  let q := e.2.1
  let n := e.2.2
  let held := mapGet false d.hif.tagHeld t
  let slot := d.get (F.HIF_RIDX_C t q) % ringSize d t q
  let d1 := if n < d.fetchWant t q then d.beginWait t ((List.range 8).filter (d.sqWork t)) else d
  let d2 := { d1 with hif := { d1.hif with lastSq := mapPut 7 d1.hif.lastSq t q, tagHeld := mapPut false d1.hif.tagHeld t false } }.setRead t q ⟨n, false⟩
  let d3 := if d.inPart t then d2 else d2.emit .hostRead t [d.ringBase t q + 32 * slot, 32 * n] []
  let v := mapGet 0 c t - (if held then 0 else n)
  match ((d3.nextSq t).map fun r => (t, r)).bind d3.fetchable with
  | none => { d3 with hif := { d3.hif with last := t, inTurn := false, credit := mapPut 0 c t (if held then v else 0) } }
  | some x => { d3 with hif := { d3.hif with last := t, inTurn := !held && decide (x.2.2 ≤ v), credit := mapPut 0 c t v } }

/-- FETCH: tenants at a bound wait, and the one whose turn it is of the others is served. -/
def Dev.fetch (d : Dev) : Dev :=
  let l := d.fetchers
  let d1 := l.foldl Dev.holdAtBound d
  match d1.pickFetch (l.filterMap d1.fetchable) with
  | (_, none) => d1
  | (c, some e) => d1.serveFetch c e

def execFetch (s : State) : Out' := act s Dev.fetch

/-- The eight words of a descriptor. -/
def descWords (l : List Byte) : List Nat := (List.range 8).map fun i => leNat ((l.drop (4 * i)).take 4)

/-- A fetched descriptor. -/
def parseTkt (t q idx : Nat) (l : List Byte) : Tkt :=
  let w0 := leNat (l.take 4)
  { t := t, sq := q, idx := idx, tag := bits w0 16 16, op := bits w0 0 8, irq := bitOf w0 8, fence := bitOf w0 9,
    nocmp := bitOf w0 10, bad := bits w0 11 5 != 0, w := (descWords l).drop 1 }

/-- A ticket ends without being dispatched. -/
def Dev.complete (d : Dev) (tk : Tkt) (st : Status) : Dev :=
  if tk.nocmp && st == .done then d else { d with hif := { d.hif with cpls := d.hif.cpls ++ [⟨tk, st, 0, 0⟩] } }

/-- A slot that could not be read: TAG 0 and OPCODE 0 (Table 11.2). -/
def lostSlot (t q idx : Nat) : Tkt := { t := t, sq := q, idx := idx }

/-- The consumer index passes `n` slots and the read ends. -/
def Dev.passSlots (d : Dev) (t q n : Nat) : Dev :=
  (d.set (F.HIF_RIDX_C t q) ((d.get (F.HIF_RIDX_C t q) + n) % 65536)).setRead t q {}

/-- Every covered slot completes with a status and nothing is executed from it. (DEDUCED, log entry 45). -/
def Dev.failRead (d : Dev) (t q : Nat) (st : Status) : Dev :=
  let n := (d.read t q).n
  let c := d.get (F.HIF_RIDX_C t q)
  (List.range n).foldl (fun d i => d.complete (lostSlot t q ((c + i) % 65536)) st) (d.passSlots t q n)

/-- One good slot: the descriptor waits for dispatch, or completes with E_FENCED while its tenant is fenced (R348). -/
def Dev.takeSlot (d : Dev) (t q idx : Nat) (l : List Byte) : Dev :=
  let tk := parseTkt t q idx l
  if d.unitFenced t then d.complete tk .eFenced else d.setFetched t q (d.fetched t q ++ [tk])

/-- FETCH_COMPLETION: the data of the read outstanding on SQ `q` arrive, or are read from the partition slot by slot. -/
def Dev.fetchDone (d : Dev) (t q : Nat) (data : List Byte) (poison : Bool) : Dev :=
  let n := (d.read t q).n
  if n = 0 then
    if d.hif.abandoned = 0 then d else { d with hif := { d.hif with abandoned := d.hif.abandoned - 1 } }
  else if d.inPart t then
    let c := d.get (F.HIF_RIDX_C t q)
    let base := d.ringBase t q
    let size := ringSize d t q
    ((List.range n).foldl (fun d i =>
      let idx := (c + i) % 65536
      let r := d.hostGet t (base + 32 * (idx % size)) 32 [] false
      if r.2.2 then (r.1.complete (lostSlot t q idx) .ePoison).hifEvent 0 t else r.1.takeSlot t q idx r.2.1)
      (d.passSlots t q n)).checkWait t
  else if poison then ((d.failRead t q .ePoison).hifEvent 0 t).checkWait t
  else
    let c := d.get (F.HIF_RIDX_C t q)
    ((List.range n).foldl (fun d i => d.takeSlot t q ((c + i) % 65536) ((data.drop (32 * i)).take 32)) (d.passSlots t q n)).checkWait t

def execFetchCompletion (t : Fin 256) (sq : Fin 8) (data : List Byte) (poison : Bool) (s : State) : Out' :=
  act s fun d => d.fetchDone t.val sq.val data poison

/-! ### Errors on PCI Express (R305, Table 11.2) -/

/-- The running descriptor of SQ `q` with index `idx` that reads its tenant's memory. -/
def Dev.dataReader (d : Dev) (t q idx : Nat) : Option Tkt :=
  (d.live fun tk => tk.t == t && tk.sq == q && tk.idx == idx &&
    ((tk.op == 0x06 && !d.xferIn (bits (tk.word 1) 0 7) tk) ||
      (tk.op == 0x16 && d.srcCode (bits (tk.word 1) 0 8) == ringCode t q))).head?

/-- A data read fails: its XFER or BUF ends. -/
def Dev.failData (d : Dev) (t q idx : Nat) (st : Status) (bit : Nat) : Dev :=
  match d.dataReader t q idx with
  | none => d
  | some tk => (d.finish tk st (if tk.op = 0x06 then tk.moved else 0) 0).hifEvent bit t

/-- PCIE_CPL_TIMEOUT of the fetch read of an SQ, or of a data read of one of its descriptors. (DEDUCED, log entry 45). -/
def Dev.cplTimeout (d : Dev) (t q : Nat) (fetch : Bool) (idx : Nat) : Dev :=
  if d.inPart t then d
  else if fetch then
    let r := d.read t q
    if r.n = 0 then d
    else if r.retried then ((d.failRead t q .eTimeout).hifEvent 1 t).checkWait t
    else
      (d.setRead t q { r with retried := true }).emit .hostRead t
        [d.ringBase t q + 32 * (d.get (F.HIF_RIDX_C t q) % ringSize d t q), 32 * r.n] []
  else d.failData t q idx .eTimeout 1

def execPcieCplTimeout (t : Fin 256) (sq : Fin 8) (fetch : Bool) (idx : BitVec 16) (s : State) : Out' :=
  act s fun d => d.cplTimeout t.val sq.val fetch idx.toNat

/-- PCIE_ERROR_COMPLETION: no retry, E_INTERNAL. -/
def Dev.cplError (d : Dev) (t q : Nat) (fetch : Bool) (idx : Nat) : Dev :=
  if d.inPart t then d
  else if fetch then if (d.read t q).n = 0 then d else ((d.failRead t q .eInternal).hifEvent 2 t).checkWait t
  else d.failData t q idx .eInternal 2

def execPcieErrorCompletion (t : Fin 256) (sq : Fin 8) (fetch : Bool) (idx : BitVec 16) (s : State) : Out' :=
  act s fun d => d.cplError t.val sq.val fetch idx.toNat

/-- PCIE_POISONED_WRITE to a function's registers: discarded whole and reported. -/
def Dev.poisonedWrite (d : Dev) (t : Nat) : Dev :=
  if d.tenantExists t && d.is F.HIF_STAT_LINKUP && !d.inPart t then d.hifEvent 0 t else d

def execPciePoisonedWrite (t : Fin 256) (s : State) : Out' := act s fun d => d.rouse.poisonedWrite t.val

/-! ### Completions and events (R310, R315, R319) -/

/-- The tenant's host can be reached for entries: not while its function resets, but for T000 in the partition before step 5
of its FLR (R344), nor while the PCI Express PHY is held (R67). -/
def Dev.ringsReach (d : Dev) (t : Nat) : Bool :=
  d.tenantExists t && (if d.inPart t then decide ((mapGet {} d.flr t).step < 5)
    else !d.flrBusy t && d.is F.HIF_STAT_LINKUP && !d.pcieHeld)

/-- Ring `r` is enabled and has room for one entry. -/
def Dev.ringRoom (d : Dev) (t r : Nat) : Bool := d.is (F.HIF_RCFG_EN t r) && decide (d.ringFill t r < ringSize d t r - 1)

/-- A completion entry (Table 11.7). -/
def cplBytes (x : Cpl) (phase : Bool) : List Byte :=
  leBytes 4 (bitNat phase * 2 ^ 31 + x.tk.sq * 2 ^ 24 + statusCode x.status * 2 ^ 16 + x.tk.tag) ++
    leBytes 4 (x.tk.idx * 2 ^ 16 + x.tk.op) ++ leBytes 4 x.r0 ++ leBytes 4 x.r1

/-- COMPLETION_WRITE to CQ `c`: the oldest waiting completion whose SQ names it. -/
def Dev.writeCompletion (d : Dev) (t c : Nat) : Dev :=
  let mine := fun (x : Cpl) => x.tk.t == t && d.get (F.HIF_RCFG_CQ t x.tk.sq) == c
  match d.hif.cpls.find? mine with
  | none => d
  | some x =>
    if !d.ringsReach t || !d.ringRoom t (8 + c) then d
    else
      let d1 := { d with hif := { d.hif with cpls := d.hif.cpls.eraseIdx (d.hif.cpls.findIdx mine) } }
      let d2 := d1.pushEntry t (8 + c) (cplBytes x)
      if x.tk.irq || x.status != .done then d2.signalVec t (d2.get (F.HIF_RCFG_VEC t (8 + c))) else d2

def execCompletionWrite (t : Fin 256) (cq : Fin 8) (s : State) : Out' := act s fun d => d.writeCompletion t.val cq.val

/-- An event entry with its PHASE and LOSTEV (Table 11.9). -/
def evqBytes (l : List Byte) (lost phase : Bool) : List Byte :=
  leBytes 4 (leNat (l.take 4) % 2 ^ 16 + bitNat lost * 2 ^ 16 + bitNat phase * 2 ^ 31) ++ (l.drop 4).take 12

/-- EVENT_DELIVER: the next event of a tenant's event queue goes to its EVQ. -/
def Dev.deliverEvent (d : Dev) (t : Nat) : Dev :=
  if !d.ringsReach t || !d.ringRoom t 16 || d.lar.qFenced.contains t then d
  else match d.nextItem t with
    | none => d
    | some j =>
      match d.dequeue t j with
      | (d1, none) => d1
      | (d1, some it) =>
        let lost := mapGet false d1.lar.lostEv t
        let d2 := { d1 with lar := { d1.lar with lostEv := mapPut false d1.lar.lostEv t false } }
        (d2.pushEntry t 16 (evqBytes it.data lost)).signalVec t (d2.get (F.HIF_RCFG_VEC t 16))

def execEventDeliver (t : Fin 256) (s : State) : Out' := act s fun d => d.deliverEvent t.val

/-! ### Vectors (R340, R341) -/

/-- MSIX_HOLDOFF_EXPIRY of vector `v`; a changed TEN_MODv takes effect here. (DEDUCED, log entry 48). -/
def Dev.holdoffEnd (d : Dev) (t v : Nat) : Dev :=
  if !d.holding t v then d
  else
    let d1 := d.setHolding t v false
    let d2 := { d1 with hif := { d1.hif with modCount := mapPut 0 d1.hif.modCount (8 * t + v) (d1.get (F.TEN_MOD_COUNT t v)) } }
    if 0 < d2.modN t v then d2.sendVec t v else d2

def execMsixHoldoffExpiry (t : Fin 256) (vec : Fin 8) (s : State) : Out' := act s fun d => d.holdoffEnd t.val vec.val

/-- A write of the vector control word of vector `v`: unmasking sends a pending message. -/
def Dev.writeMsixCtrl (d : Dev) (t v : Nat) (w : Word) : Dev :=
  d.onPage t (0x80C + 16 * v) fun d =>
    d.regWrite (pageOf t) R.MSIX_CTRL v w [] fun n =>
      if !bitOf w.toNat 0 && n.bit (F.MSIX_PBA_PEND t) v then (n.setBit (F.MSIX_PBA_PEND t) v false).message t v else n

def execMsixUnmask (t : Fin 256) (vec : Fin 8) (s : State) : Out' := act s fun d => d.writeMsixCtrl t.val vec.val 0

/-! ### Enabling a ring (R306, R309, R330, Table 11.17) -/

/-- The checks of a write of HIF_RCFGr. (DEDUCED, log entry 45). -/
def Dev.rcfgChecks (d : Dev) (t r v : Nat) : List (Bool × Status) :=
  let was := d.is (F.HIF_RCFG_EN t r)
  let now := bitOf v 31
  let size := 2 ^ bits v 16 5 * (if r < 8 then 32 else 16)
  [(decide (8 ≤ r) && bits v 8 3 != 0, .eField), (decide (r < 8) && bits v 0 3 != 0, .eField),
   (decide (bits v 16 5 < 4) || decide (16 < bits v 16 5), .eRange),
   (!was && now && d.inPart t && decide (1024 * d.get F.LAR_PART_COUNT < d.ringBase t r + size), .eRange),
   (!was && now && decide (r < 8) && !d.is (F.HIF_RCFG_EN t (8 + bits v 8 3)), .eState),
   (!was && now && d.inPart t && !d.is F.LAR_CTRL_PARTOK, .eState),
   (was && !now && decide (8 ≤ r) && decide (r < 16) &&
      (List.range 8).any (fun q => d.is (F.HIF_RCFG_EN t q) && d.get (F.HIF_RCFG_CQ t q) == r - 8), .eState),
   (was && (bits v 16 5 != d.get (F.HIF_RCFG_LOG2SIZE t r) || bits v 8 3 != d.get (F.HIF_RCFG_CQ t r) ||
      bits v 0 3 != d.get (F.HIF_RCFG_VEC t r)), .eState),
   (was && !now && decide (r < 8) && (d.sqWork t r || d.hif.running.any (fun x => x.t == t && x.sq == r) ||
      d.hif.cpls.any fun x => x.tk.t == t && x.tk.sq == r), .eBusy)]

/-- A write of HIF_RCFGr of tenant `t`. -/
def Dev.writeRcfg (d : Dev) (t r : Nat) (w : Word) : Dev :=
  d.onPage t (0x108 + 16 * r) fun d =>
    let was := d.is (F.HIF_RCFG_EN t r)
    d.regWrite (pageOf t) R.HIF_RCFG r w (d.rcfgChecks t r w.toNat) fun n =>
      if !was && bitOf w.toNat 31 then
        let n1 := (n.set (F.HIF_RIDX_P t r) 0).set (F.HIF_RIDX_C t r) 0
        { n1 with hif := { n1.hif with phase := mapPut false n1.hif.phase (17 * t + r) true } }
      else n

/-- RING_ENABLE writes EN as the word carries it. -/
def execRingEnable (t : Fin 256) (ring : Fin 17) (w : Word) (s : State) : Out' := act s fun d => d.writeRcfg t.val ring.val w

end Sys2Proof.Machine
end

