-- ==== Sys2Proof/Machine/Haywain.lean ====
section
/-!
DEFINITION. The Haywain fabric and Almanac time (chapter 13): lanes, bales by type, the tree, reservations and flows, control
bales, the servo, and the flow descriptors.
-/
namespace Sys2Proof.Machine

open Sys2Proof

/-! ### Lanes (R360, R387, R395, R396) -/

/-- HAY_LANE_UP: both TS exchanges are complete. Control bales that waited are numbered from 0 again (R376). -/
def Dev.laneCameUp (d : Dev) (n nbr : Nat) : Dev :=
  if !d.laneEnabled n || d.phyHeld || d.laneUp n then d
  else
    let d1 := (d.set (F.HAY_LANE0_STATE n) 3).set (F.HAY_LANE0_NBR n) nbr
    let d2 := d1.modLane n fun x =>
      { x with tx := x.unacked.length, rx := 0, credit := 0, resends := 0, ackDue := true, dreq := none,
               unacked := x.unacked.zipIdx.map fun e => (e.2, e.1.2) }
    let d3 := if n = 5 then (d2.modYok fun y => { y with hbseq := 0, seen := false, peer := none }).yokEval else d2
    (d3.hayEvent 0 n 0 [0]).showRoles

def execHayLaneUp (lane : Fin 6) (nbr : BitVec 12) (s : State) : Out' := act s fun d => d.laneCameUp lane.val nbr.toNat

/-- HAY_TRAIN_TIMEOUT: electrical idle for 1 ms, then training starts again. -/
def Dev.trainTimeout (d : Dev) (n : Nat) : Dev :=
  if d.laneEnabled n && !d.laneUp n then d.set (F.HAY_LANE0_STATE n) 1 else d

def execHayTrainTimeout (lane : Fin 6) (s : State) : Out' := act s fun d => d.trainTimeout lane.val

/-- A lane fails: HAY_LANE_DOWN, source 37, and a HAYOPEN whose request went out on it completes with E_LINK (R390). -/
def Dev.laneFail (d : Dev) (n : Nat) : Dev :=
  if !d.laneUp n then d
  else
    let d1 := ((d.laneLost n).hayEvent 1 n 0 [0]).oweFault (0x220 + n) 37
    ((List.range 256).filter fun f => (d1.flow f).opening && d1.hay.resv.any fun r =>
      r.inLane == 6 && r.outLane == n && r.dst == d1.get (F.HAY_FLOW_UNIT f) && r.dflow == (d1.flow f).farFlow).foldl
        (fun d f => d.failOpen f .eLink true) d1

/-- Code errors of one millisecond are counted, each a source 36; 16 of them, or a lost alignment, fail the lane.
 (DESIGN CHOICE, log entry 72). -/
def Dev.laneErrors (d : Dev) (n errs : Nat) (align : Bool) : Dev :=
  if !d.laneUp n || d.phyHeld then d
  else
    let d1 := (d.set (F.HAY_LANEC_CODEERR n) (min 65535 (d.get (F.HAY_LANEC_CODEERR n) + errs))).owe
      (List.replicate (min errs 16) (Due.fault (0x220 + n) 36))
    if align || decide (16 ≤ errs) then d1.laneFail n else d1

def execHayLaneDown (lane : Fin 6) (errs : BitVec 16) (align : Bool) (s : State) : Out' :=
  act s fun d => d.laneErrors lane.val errs.toNat align

def execHelloTimeout (lane : Fin 6) (s : State) : Out' := act s fun d => d.laneFail lane.val

/-- KEEP_EXPIRY: a lane that is still not UP leaves the tree. -/
def Dev.keepExpiry (d : Dev) (n : Nat) : Dev :=
  if d.laneUp n || (d.laneRole n == 0 && !d.hay.route.any (fun e => e.2.1 == n + 1)) then d else d.removeLane n

def execKeepExpiry (lane : Fin 6) (s : State) : Out' := act s fun d => d.keepExpiry lane.val

/-! ### Forwarding (R370) -/

/-- No entry at the grandmaster. (DEDUCED, log entry 51). -/
def Dev.noRoute (d : Dev) (n : Nat) : Dev := (d.dropBale n).hayEvent 6 n 0 [0]

/-- A control bale on its way. -/
def Dev.forwardControl (d : Dev) (n : Nat) (b : Bale) : Dev :=
  if 24 < b.hops + 1 then d.dropBale n
  else match d.nextHop b.dst with
    | none => d.noRoute n
    | some m => d.queueControl m { b with hops := b.hops + 1 } false

/-! ### Audio received (R374, R257) -/

/-- Reverses the bytes of each sample of `wb` bytes: a bale carries the most significant byte first, a cell the least. -/
def swapSamples (wb : Nat) : Nat → List Byte → List Byte
  | 0, _ => []
  | k + 1, l => (l.take wb).reverse ++ swapSamples wb k (l.drop wb)

/-- The stream whose source is flow `f`. -/
def Dev.flowStream (d : Dev) (f : Nat) : Option Nat := d.boundStreams.find? fun s => hayCode f (d.srcCode s)

/-- FMT as a send flow states it. -/
def Dev.fmtOf (d : Dev) (s : Nat) : Nat := 32 * d.get (F.STR_W1_WIDTH s) + d.get (F.STR_W1_CH s)

/-- The bale's format is not the stream's, or it holds no whole number of frames. (DEDUCED, log entry 55). -/
def Dev.wrongFormat (d : Dev) (s : Nat) (b : Bale) : Bool :=
  b.rate != d.get (F.STR_W1_RATE s) || b.hd 3 1 != d.fmtOf s || b.data.length % d.frameBytes s != 0

/-- Silent items for `k` missing bales, the first of them `j` bales after the last accepted. (DEDUCED, log entry 55). -/
def Dev.conceal (d : Dev) (s len ts : Nat) : Nat → Nat → Dev
  | 0, _ => d
  | k + 1, j =>
    let r := rateHz (d.get (F.STR_W1_RATE s))
    let t := (ts + (2 * (j * (len / d.frameBytes s)) * 1000000000 + r) / (2 * r)) % 2 ^ 32
    (d.streamItem s (List.replicate len 0) t []).conceal s len ts k (j + 1)

/-- A bale reaches receive flow `f`: accepted by its SEQ. (DEDUCED, log entry 55). -/
def Dev.flowReceive (d : Dev) (n f : Nat) (b : Bale) : Dev :=
  let seq := b.hd 0 2
  let ts := b.hd 4 4
  let len := b.data.length
  let str := d.flowStream f
  let gap := match (d.flow f).ref with
    | none => 1
    | some (q, _, _) => (seq + 65536 - q) % 65536
  if (match str with | none => false | some s => d.wrongFormat s b) then (if n < 6 then d.dropBale n else d)
  else if gap = 0 ∨ 32768 ≤ gap then (if n < 6 then d.dropBale n else d)
  else
    let d1 := if 2 ≤ gap ∧ gap ≤ 9 then
        let e := d.set (F.HAY_FLOW_CONCEAL f) (min 255 (d.get (F.HAY_FLOW_CONCEAL f) + (gap - 1)))
        match str, (d.flow f).ref with
        | some s, some (_, l, t) => if l = 0 then e else e.conceal s l t (gap - 1) 1
        | _, _ => e
      else if gap = 1 then d
      else d.bump (F.HAY_FLOW_RESYNC f)
    let d2 := d1.modFlow f fun x => { x with ref := some (seq, len, ts) }
    match str with
    | none => d2
    | some s => d2.streamItem s (swapSamples (d.get (F.STR_W1_WIDTH s) + 2) len b.data) ts (if b.poison then [0] else [])

/-- An open receive flow takes bales from this unit. -/
def Dev.flowTakes (d : Dev) (f src : Nat) : Bool :=
  d.flowOpen f && d.is (F.HAY_FLOW_DIR f) && d.get (F.HAY_FLOW_UNIT f) == src

/-- An AUDIO bale: delivered here, or queued for its outgoing lane at a unit that holds its reservation. -/
def Dev.rxAudio (d : Dev) (n : Nat) (b : Bale) : Dev :=
  let f := b.hd 2 1
  if d.laneRole n = 3 then d.dropBale n
  else if d.isMe b.dst then (if d.flowTakes f b.src then d.flowReceive n f b else d.dropBale n)
  else if 24 < b.hops + 1 then d.dropBale n
  else if (d.nextHop b.dst).isNone then d.noRoute n
  else match d.findResv b.src b.dst f with
    | some r =>
      if r.inLane = n ∧ r.queue ≠ 0 ∧ !d.lar.qFenced.contains r.queue then
        (d.enqueue r.queue { b with hops := b.hops + 1 }.bytes 0 0 b.poison).1
      else d.dropBale n
    | none => d.dropBale n

/-! ### Control bales received (R372, R376 to R378) -/

/-- ACK and CREDIT of a control bale. -/
def Dev.takeAck (d : Dev) (n : Nat) (b : Bale) : Dev :=
  let x := d.lane n
  let a := b.hd 2 2
  let keep := if b.ackv then x.unacked.filter fun e => decide (32768 ≤ (a + 65535 - e.1) % 65536) else x.unacked
  let gone := x.unacked.take (x.unacked.length - keep.length)
  let d1 := d.setLane n { x with unacked := keep, credit := b.hd 4 2, resends := if keep.length = x.unacked.length then x.resends else 0 }
  if gone.any (·.2.2) then d1.ctxDone .done else d1

/-- A refusal: RESV_NAK with its reason, and RESV_FREE of what the request took upstream. -/
def Dev.refuse (d : Dev) (src dst bytes dflow reason : Nat) : Dev :=
  (d.sendResv (resvBale 3 dst src bytes dflow reason)).sendResv (resvBale 4 dst src bytes dflow 0)

/-- RESV_REQ: this unit's part is taken and the request passed on, or it is answered. (DEDUCED, log entry 52). -/
def Dev.rxResvReq (d : Dev) (n : Nat) (b : Bale) : Dev :=
  let bytes := b.pay 0 2
  let f := b.pay 2 1
  if d.isMe b.src then d
  else if d.isMe b.dst then
    if d.flowTakes f b.src then d.sendResv (resvBale 2 b.dst b.src bytes f 0) else d.refuse b.src b.dst bytes f 2
  else if 24 < b.hops + 1 then d.dropBale n
  else match d.nextHop b.dst with
    | none => (d.noRoute n).refuse b.src b.dst bytes f 4
    | some m =>
      match d.takeResv b.src b.dst f n m bytes with
      | .inl r => d.refuse b.src b.dst bytes f r
      | .inr d1 => d1.queueControl m { b with hops := b.hops + 1 } false

/-- RESV_ACK: at the requester the path stands. -/
def Dev.rxResvAck (d : Dev) (n : Nat) (b : Bale) : Dev :=
  if !d.isMe b.dst then d.forwardControl n b
  else match d.flowOf b.src (b.pay 2 1) with
    | none => d
    | some f => d.pathUp f

/-- RESV_NAK: at the requester the HAYOPEN fails, or the flow goes on to re-reserve. -/
def Dev.rxResvNak (d : Dev) (n : Nat) (b : Bale) : Dev :=
  if !d.isMe b.dst then d.forwardControl n b
  else match d.flowOf b.src (b.pay 2 1) with
    | none => d
    | some f =>
      if (d.flow f).opening then d.failOpen f (reasonStatus (b.pay 3 1)) false
      else if d.is (F.HAY_FLOW_REROUTING f) then d.modFlow f fun x => { x with last := statusCode (reasonStatus (b.pay 3 1)) }
      else d.startReroute f

/-- RESV_FREE: this unit's part is released, along the path or back along it. (DEDUCED, log entry 52). -/
def Dev.rxResvFree (d : Dev) (n : Nat) (b : Bale) : Dev :=
  let f := b.pay 2 1
  let d1 := match d.findResv b.src b.dst f with
    | some r => if r.inLane = 6 then d else d.freeResv b.src b.dst f
    | none => match d.findResv b.dst b.src f with
      | some r => if r.inLane = 6 then d else d.freeResv b.dst b.src f
      | none => d
  if d.isMe b.dst then d1 else d1.forwardControl n b

/-- APP: kept here, or passed on. -/
def Dev.rxApp (d : Dev) (n : Nat) (b : Bale) : Dev := if d.isMe b.dst then d.keepBale n b else d.forwardControl n b

/-- A CONTROL bale: accepted only at the SEQ expected, and acknowledged. (DEDUCED, log entry 53). -/
def Dev.rxControl (d : Dev) (n : Nat) (b : Bale) : Dev :=
  if d.laneRole n = 3 then d.dropBale n
  else
    let d1 := d.takeAck n b
    let d2 :=
      if b.ctype = 0 then d1
      else if b.seq ≠ (d1.lane n).rx then d1.modLane n fun x => { x with ackDue := true }
      else
        let e := d1.modLane n fun x => { x with rx := (x.rx + 1) % 65536, ackDue := true }
        match b.ctype with
        | 1 => e.rxResvReq n b
        | 2 => e.rxResvAck n b
        | 3 => e.rxResvNak n b
        | 4 => e.rxResvFree n b
        | _ => e.rxApp n b
    d2.pumpControl n 32

/-! ### The tree and the routes (R366 to R370) -/

/-- ANNOUNCE: heard on a lane, and the parent chosen afresh. -/
def Dev.rxAnnounce (d : Dev) (n : Nat) (b : Bale) : Dev :=
  (d.modLane n fun x => { x with heard := some (b.pay 0 4, b.pay 4 4, b.pay 8 1) }).chooseParent

/-- The entries of a ROLL: ID and ALIAS. -/
def rollEntries (b : Bale) : List (Nat × Bool) :=
  (List.range (b.data.length / 2)).map fun i => (b.pay (2 * i) 2 % 4096, bitOf (b.pay (2 * i) 2) 15)

/-- One entry of a ROLL received on lane `n`: taken, or rejected (R369). (DEDUCED, log entry 68). -/
def Dev.rollEntry (d : Dev) (n : Nat) (e : Nat × Bool) : Dev :=
  let bad := d.isMe e.1 || (match mapFind d.hay.route e.1 with
    | none => false
    | some (l, a) => l != n + 1 || a != e.2)
  if bad then d.sendBale n (d.mkLocal 4 3 (beBytes 2 e.1))
  else { d with hay := { d.hay with route := mapPut (0, false) d.hay.route e.1 (n + 1, e.2) } }

/-- ROLL: the unit beyond takes this one for its parent. (DEDUCED, log entry 54). -/
def Dev.rxRoll (d : Dev) (n : Nat) (b : Bale) : Dev :=
  if d.laneRole n = 1 then d.dropBale n
  else (((rollEntries b).foldl (fun d e => d.rollEntry n e) (d.modLane n fun x => { x with child := true })).showUnits.showRoles).routesMoved

/-- REJECT: passed down, or naming this unit, which then stays alone. (DEDUCED, log entry 54). -/
def Dev.rxReject (d : Dev) (n : Nat) (b : Bale) : Dev :=
  let i := b.pay 0 2
  if d.laneRole n ≠ 1 then d.dropBale n
  else if d.isMe i then
    (((({ d with hay := { d.hay with alone := 1 } } : Dev).hayEvent 4 n 0 [0]).oweFault (0x220 + n) 38)).chooseParent
  else match d.routeLane i with
    | none => d
    | some m => d.sendBale m (d.mkLocal 4 3 (beBytes 2 i))

/-- The lanes of the tree that are UP. -/
def Dev.treeLanes (d : Dev) : List Nat := lanes.filter fun n => d.laneUp n && (d.laneRole n == 1 || d.laneRole n == 2)

/-- BCAST: kept, and passed on over every other lane of the tree. -/
def Dev.rxBcast (d : Dev) (n : Nat) (b : Bale) : Dev :=
  if d.laneRole n = 3 then d.dropBale n
  else
    let d1 := d.keepBale n b
    if 24 < b.hops + 1 then d1.dropBale n
    else (d1.treeLanes.filter (· != n)).foldl (fun d m => d.sendBale m { b with hops := b.hops + 1 }) d1

/-! ### Almanac bales (R380 to R383) -/

/-- Almanac time at this instant in 1/8 ns: the counter, interpolated between edges by `sub`. -/
def Dev.almNow8 (d : Dev) (sub : Nat) : Nat := 8 * d.almTime + sub

/-- a − b in 1/8 ns, of times whose nanoseconds count modulo 2^64. -/
def diff8 (a b : Nat) : Int :=
  let e : Nat := (a + 2 ^ 67 - b % 2 ^ 67) % 2 ^ 67
  if e < 2 ^ 66 then (e : Int) else (e : Int) - 2 ^ 67

/-- SYNC on the parent lane. -/
def Dev.rxSync (d : Dev) (n sub : Nat) (b : Bale) : Dev :=
  if d.parentLane ≠ some n then d
  else
    let o := diff8 (8 * b.pay 0 8) (d.almNow8 sub) + (d.get (F.ALM_LANE0_DELAY n) : Int) + signed16 (d.get (F.ALM_LANE4_ASYM n))
    let d1 := d.offset o
    if d1.alm.ahead && !d.alm.ahead then
      d1.sendBale n (d1.mkLocal 3 5 (beBytes 8 (d1.almNow8 sub / 8) ++ beBytes 2 d1.unitId ++ [0, 0]))
    else d1

/-- DREQ: answered with its T1, its arrival T2 and, `wait` ns later, the departure T3. -/
def Dev.rxDreq (d : Dev) (n sub wait : Nat) (b : Bale) : Dev :=
  let t2 := d.almNow8 sub / 8
  d.sendBale n (d.mkLocal 3 3 (b.data ++ beBytes 8 t2 ++ beBytes 8 (t2 + wait)))

/-- DRESP to the DREQ outstanding: one delay measured, DELAY filtered over the last 8. -/
def Dev.rxDresp (d : Dev) (n sub : Nat) (b : Bale) : Dev :=
  match (d.lane n).dreq with
  | none => d
  | some t1 =>
    if d.parentLane ≠ some n ∨ b.pay 0 8 ≠ t1 then d
    else
      let x := (diff8 (d.almNow8 sub) (8 * t1) - diff8 (8 * b.pay 16 8) (8 * b.pay 8 8)) / 2
      let l := (x :: (d.lane n).delays).take 8
      (d.modLane n fun y => { y with dreq := none, delays := l }).set (F.ALM_LANE0_DELAY n) ((filtered l) % 2 ^ 24).toNat

/-- AHEAD: the grandmaster steps, any other unit relays it. -/
def Dev.rxAhead (d : Dev) (n sub : Nat) (b : Bale) : Dev :=
  if d.laneRole n ≠ 2 then d.dropBale n
  else match d.parentLane with
    | some m => d.sendBale m (d.mkLocal 3 5 b.data)
    | none =>
      let e := diff8 (8 * b.pay 0 8) (d.almNow8 sub)
      if e < step40 then d
      else { d with alm := { d.alm with step := 40000000 * ((e + step40 - 1) / step40).toNat } }

/-- A checked bale by its type; YOKE bales belong to Yoked twins. -/
def Dev.rxBale (d : Dev) (n sub wait : Nat) (b : Bale) : Dev :=
  match b.type, b.sub with
  | 1, _ => d.rxAudio n b
  | 2, _ => d.rxControl n b
  | 3, 1 => d.rxSync n sub b
  | 3, 2 => d.rxDreq n sub wait b
  | 3, 3 => d.rxDresp n sub b
  | 3, 4 => d.rxAnnounce n b
  | 3, 5 => d.rxAhead n sub b
  | 4, 2 => d.rxRoll n b
  | 4, 3 => d.rxReject n b
  | 4, 4 => d.rxBcast n b
  | _, _ => d

/-- A bale whose checks have passed arrives on an UP lane, if it is of the kind `p`. -/
def Dev.rxChecked (d : Dev) (n sub wait : Nat) (l : List Byte) (p : Bale → Bool) : Dev :=
  if d.laneUp n && !d.phyHeld && wireOk (wireBale l) && p (parseBale l) then d.rxBale n sub wait (parseBale l) else d

def ofKind (type sub : Nat) (b : Bale) : Bool := b.type == type && b.sub == sub

def execAudio (lane : Fin 6) (bale : List Byte) (s : State) : Out' :=
  act s fun d => d.rxChecked lane.val 0 0 bale fun b => b.type == 1
def execControl (lane : Fin 6) (bale : List Byte) (s : State) : Out' :=
  act s fun d => d.rxChecked lane.val 0 0 bale fun b => b.type == 2 && b.ctype != 0
def execNull (lane : Fin 6) (bale : List Byte) (s : State) : Out' := act s fun d => d.rxChecked lane.val 0 0 bale (ofKind 2 0)
def execResvReq (lane : Fin 6) (bale : List Byte) (s : State) : Out' := act s fun d => d.rxChecked lane.val 0 0 bale (ofKind 2 1)
def execResvAck (lane : Fin 6) (bale : List Byte) (s : State) : Out' := act s fun d => d.rxChecked lane.val 0 0 bale (ofKind 2 2)
def execResvNak (lane : Fin 6) (bale : List Byte) (s : State) : Out' := act s fun d => d.rxChecked lane.val 0 0 bale (ofKind 2 3)
def execResvFree (lane : Fin 6) (bale : List Byte) (s : State) : Out' := act s fun d => d.rxChecked lane.val 0 0 bale (ofKind 2 4)
def execApp (lane : Fin 6) (bale : List Byte) (s : State) : Out' := act s fun d => d.rxChecked lane.val 0 0 bale (ofKind 2 16)
def execSync (lane : Fin 6) (sub : Fin 334) (bale : List Byte) (s : State) : Out' :=
  act s fun d => d.rxChecked lane.val sub.val 0 bale (ofKind 3 1)
def execDreq (lane : Fin 6) (sub : Fin 334) (wait : BitVec 16) (bale : List Byte) (s : State) : Out' :=
  act s fun d => d.rxChecked lane.val sub.val wait.toNat bale (ofKind 3 2)
def execDresp (lane : Fin 6) (sub : Fin 334) (bale : List Byte) (s : State) : Out' :=
  act s fun d => d.rxChecked lane.val sub.val 0 bale (ofKind 3 3)
def execAnnounce (lane : Fin 6) (bale : List Byte) (s : State) : Out' := act s fun d => d.rxChecked lane.val 0 0 bale (ofKind 3 4)
def execAhead (lane : Fin 6) (sub : Fin 334) (bale : List Byte) (s : State) : Out' :=
  act s fun d => d.rxChecked lane.val sub.val 0 bale (ofKind 3 5)
def execHello (lane : Fin 6) (bale : List Byte) (s : State) : Out' := act s fun d => d.rxChecked lane.val 0 0 bale (ofKind 4 1)
def execRoll (lane : Fin 6) (bale : List Byte) (s : State) : Out' := act s fun d => d.rxChecked lane.val 0 0 bale (ofKind 4 2)
def execReject (lane : Fin 6) (bale : List Byte) (s : State) : Out' := act s fun d => d.rxChecked lane.val 0 0 bale (ofKind 4 3)
def execBcast (lane : Fin 6) (bale : List Byte) (s : State) : Out' := act s fun d => d.rxChecked lane.val 0 0 bale (ofKind 4 4)

/-! ### What a unit sends by the clock (R360, R366, R368, R376, R380, R383) -/

/-- HAY_HELLO_TX. -/
def Dev.helloTx (d : Dev) : Dev := d.upLanes.foldl (fun d n => d.sendBale n (d.mkLocal 4 1 [])) d

def execHayHelloTx (s : State) : Out' := act s Dev.helloTx

/-- ANNOUNCE_TX: a grandmaster counts GMSEQ on with each announcement. -/
def Dev.announceTx (d : Dev) : Dev :=
  let d1 := if d.is F.HAY_STAT_GM && d.upLanes != [] then { d with hay := { d.hay with gmSeq := (d.hay.gmSeq + 1) % 2 ^ 32 } } else d
  let pay := beBytes 4 (d1.get F.ALM_GMKEY_KEY) ++ beBytes 4 d1.hay.gmSeq ++ [BitVec.ofNat 8 (d1.get F.HAY_STAT_HOPS), 0, 0, 0]
  d1.upLanes.foldl (fun d n => d.sendBale n (d.mkLocal 3 4 pay)) d1

def execAnnounceTx (s : State) : Out' := act s Dev.announceTx

/-- SYNC_TX on the child lanes, T1 inserted as each departs. -/
def Dev.syncTx (d : Dev) (sub : Nat) : Dev :=
  (d.upLanes.filter fun n => d.laneRole n == 2).foldl
    (fun d n => d.sendBale n (d.mkLocal 3 1 (beBytes 8 (d.almNow8 sub / 8)))) d

def execSyncTx (sub : Fin 334) (s : State) : Out' := act s fun d => d.syncTx sub.val

/-- DREQ_TX on the parent lane. -/
def Dev.dreqTx (d : Dev) (sub : Nat) : Dev :=
  match d.parentLane with
  | none => d
  | some n =>
    if !d.laneUp n || d.phyHeld then d
    else
      let t1 := d.almNow8 sub / 8
      (d.modLane n fun x => { x with dreq := some t1 }).sendBale n (d.mkLocal 3 2 (beBytes 8 t1))

def execDreqTx (sub : Fin 334) (s : State) : Out' := act s fun d => d.dreqTx sub.val

/-- The entries of this unit's ROLL. -/
def Dev.rollList (d : Dev) : List Nat :=
  d.unitId :: ((if d.is F.HAY_UNIT_ALIASV then [32768 + d.get F.HAY_UNIT_ALIAS] else []) ++
    d.hay.route.map fun e => e.1 + bitNat e.2.2 * 32768)

/-- Cuts a list into pieces of at most `k`; the number bounds the pieces. -/
def pieces {α : Type} (k : Nat) : Nat → List α → List (List α)
  | 0, _ => []
  | n + 1, l => if l.isEmpty then [] else l.take k :: pieces k n (l.drop k)

/-- ROLL_TX to the parent, 256 entries a bale. -/
def Dev.rollTx (d : Dev) : Dev :=
  match d.parentLane with
  | none => d
  | some n => (pieces 256 17 d.rollList).foldl (fun d l => d.sendBale n (d.mkLocal 4 2 ((l.map (beBytes 2)).flatten))) d

def execRollTx (s : State) : Out' := act s Dev.rollTx

/-- ROUTE_ENTRY_EXPIRY of an ID. A lane whose last entry goes is no child lane; where the ID is this unit's own, it is the
entry that rejected it (R369). (DEDUCED, log entry 54). -/
def Dev.routeExpiry (d : Dev) (i : Nat) : Dev :=
  match mapFind d.hay.route i with
  | some (l, _) =>
    let d1 := { d with hay := { d.hay with route := mapErase d.hay.route i } }
    let d2 := if d1.hay.route.any fun e => e.2.1 == l then d1 else d1.modLane (l - 1) fun x => { x with child := false }
    d2.showUnits.showRoles.routesMoved
  | none =>
    if d.isMe i && d.hay.alone == 1 then ({ d with hay := { d.hay with alone := 0 } } : Dev).chooseParent else d

def execRouteEntryExpiry (id : BitVec 12) (s : State) : Out' := act s fun d => d.routeExpiry id.toNat

/-- GMSEQ_TIMEOUT: the parent's grandmaster is stale until a newer GMSEQ is heard. (DEDUCED, log entry 68). -/
def Dev.gmseqTimeout (d : Dev) : Dev :=
  if d.parentLane.isNone then d
  else ({ d with hay := { d.hay with seen := mapPut (2 ^ 32) d.hay.seen (d.get F.ALM_GMKEY_KEY) d.hay.gmSeq } } : Dev).chooseParent

def execGmseqTimeout (s : State) : Out' := act s Dev.gmseqTimeout

/-- CONTROL_RESEND of a lane; without progress after 8 resends the lane fails. -/
def Dev.controlResend (d : Dev) (n : Nat) : Dev :=
  let l := (d.lane n).unacked
  if !d.laneUp n || d.phyHeld || l.isEmpty then d
  else if 8 ≤ (d.lane n).resends then d.laneFail n
  else
    let d1 := d.modLane n fun x => { x with resends := x.resends + 1 }
    l.foldl (fun d e => (d.putControl n e.1 e.2.1).bump (F.HAY_LANE8_RETRY n)) d1

def execControlResend (lane : Fin 6) (s : State) : Out' := act s fun d => d.controlResend lane.val

/-- NULL_ACK_TX of a lane. -/
def Dev.nullTx (d : Dev) (n : Nat) : Dev :=
  if !d.laneUp n || d.phyHeld || !(d.lane n).ackDue then d
  else d.putControl n 0 { type := 2, src := d.unitId, h := [0, 0, 0, 0, 0, 0, 0, 0] : Bale }.bytes

def execNullAckTx (lane : Fin 6) (s : State) : Out' := act s fun d => d.nullTx lane.val

/-- AHEAD_REPEAT. -/
def Dev.aheadTx (d : Dev) (sub : Nat) : Dev :=
  match d.parentLane with
  | none => d
  | some n =>
    if d.alm.ahead then d.sendBale n (d.mkLocal 3 5 (beBytes 8 (d.almNow8 sub / 8) ++ beBytes 2 d.unitId ++ [0, 0])) else d

def execAheadRepeat (sub : Fin 334) (s : State) : Out' := act s fun d => d.aheadTx sub.val

/-- The frame number of a master port advances with a step of `ns`, and the sinks of a port with ALIGN align again (R384). -/
def Dev.tdmFollow (ns : Nat) (d : Dev) (p : Nat) : Dev :=
  let x := d.tdmOf p
  let d1 := if d.tdmMaster p && x.inBank then d.setTdm p { x with frame := x.frame + d.tdmRate p * ns / 1000000000 } else d
  if d1.is (F.TDM_CFG_ALIGN p) then d1.realign p else d1

/-- ALM_STEP: at the next micro-frame boundary the counter moves forward by whole micro-frames, and its followers with it (R382, R384).
(DEDUCED, log entry 56). -/
def Dev.almStep (d : Dev) : Dev :=
  if d.alm.step = 0 then d
  else
    let ns := d.alm.step
    let d1 := d.edges (d.edgeOf ((d.almNs / 125000 + 1) * 125000)).toNat
    let d2 := { d1 with almCnt := d1.almCnt + ns * 3 * 2 ^ 32, alm := { d1.alm with step := 0 },
                        lhe := { d1.lhe with frame := d1.lhe.frame + ns / 125000 } }
    ([0, 1].foldl (Dev.tdmFollow ns) d2).almEvent 1

def execAlmStep (s : State) : Out' := act s Dev.almStep

/-! ### Audio sent at a micro-frame boundary (R371, R373, R392) -/

/-- Sends the bales of one send flow from sink `i` of stream `s`: `left` bytes at most, in bales of whole frames of at most
512 bytes. -/
def Dev.formBales (d : Dev) (f s i left : Nat) : Nat → Dev
  | 0 => d
  | k + 1 =>
    let fb := d.frameBytes s
    let n := min (512 / fb * fb) (min (left / fb * fb) (d.waiting s i / fb * fb))
    if n = 0 then d
    else
      let ts := d.stampAt s (d.sink s i).pos
      match d.sinkPacket s i n with
      | (d1, none) => d1
      | (d1, some l) =>
        let x := d1.flow f
        let b : Bale :=
          { type := 1, poison := l.any (·.2), dst := d1.get (F.HAY_FLOW_UNIT f), src := d1.unitId, rate := d1.get (F.STR_W1_RATE s),
            h := beBytes 2 x.seq ++ [BitVec.ofNat 8 x.farFlow, BitVec.ofNat 8 (d1.fmtOf s)] ++ beBytes 4 ts,
            data := swapSamples (d1.get (F.STR_W1_WIDTH s) + 2) l.length (l.map (·.1)) }
        let d2 := d1.modFlow f fun x => { x with seq := (x.seq + 1) % 65536 }
        let d3 :=
          if d2.isMe b.dst then (if d2.flowTakes x.farFlow b.src then d2.flowReceive 6 x.farFlow b else d2)
          else match d2.findResv b.src b.dst x.farFlow with
            | some r => if r.inLane = 6 then d2.sendBale r.outLane b else d2
            | none => d2
        d3.formBales f s i (left - n) k

/-- A send flow at a micro-frame boundary; with no whole frame waiting its sink underruns and sends nothing (R263). -/
def Dev.flowSend (d : Dev) (f : Nat) : Dev :=
  if !d.flowOpen f || d.is (F.HAY_FLOW_DIR f) || d.phyHeld then d
  else match (d.sinkUses (4 * 8192 + f)).head? with
    | none => d
    | some (s, i) =>
      if d.strState s = 3 && decide (d.frameBytes s ≤ d.waiting s i) then d.formBales f s i (d.flow f).bytes 4096
      else (d.sinkPacket s i (d.frameBytes s)).1

/-- The transit queue of a reservation is sent; a cell found bad on the way makes its bale a poisoned one (R392). -/
def Dev.transitSend (d : Dev) (r : Resv) : Nat → Dev
  | 0 => d
  | k + 1 =>
    match d.dequeue r.queue 0 with
    | (d1, none) => d1
    | (d1, some it) =>
      let b := parseBale it.data
      (d1.sendBale r.outLane { b with poison := b.poison || (d1.itemBytes it).any (·.2) }).transitSend r k

/-- HAY_MICROFRAME_SEND: every send flow, every transit queue, then waiting control bales. -/
def Dev.hayMicroframe (d : Dev) : Dev :=
  let d1 := (List.range 256).foldl Dev.flowSend d
  let d2 := (d1.hay.resv.filter fun r => r.queue != 0 && d1.laneUp r.outLane && !d1.phyHeld).foldl
    (fun d r => d.transitSend r (d.items r.queue).length) d1
  d2.upLanes.foldl (fun d n => d.pumpControl n 32) d2

def execHayMicroframeSend (s : State) : Out' := act s Dev.hayMicroframe

/-- RESV_REFRESH of a send flow. (DEDUCED, log entry 52). -/
def Dev.resvRefresh (d : Dev) (f : Nat) : Dev :=
  if !d.flowOpen f || d.is (F.HAY_FLOW_DIR f) || d.is (F.HAY_FLOW_REROUTING f) || d.isMe (d.get (F.HAY_FLOW_UNIT f)) then d
  else match d.requestPath f with
    | .inl _ => d.startReroute f
    | .inr d1 => d1

def execResvRefresh (flow : Fin 256) (s : State) : Out' := act s fun d => d.resvRefresh flow.val

/-- RESV_EXPIRY of a reservation this unit forwards for. -/
def Dev.resvExpiry (d : Dev) (src dst f : Nat) : Dev :=
  match d.findResv src dst f with
  | none => d
  | some r => if r.inLane = 6 then d else d.freeResv src dst f

def execResvExpiry (src dst : BitVec 12) (dflow : Fin 256) (s : State) : Out' :=
  act s fun d => d.resvExpiry src.toNat dst.toNat dflow.val

/-! ### Flow descriptors (R317, R334, R336, R372, R390) -/

/-- The checks of HAYOPEN. -/
def Dev.hayopenChecks (d : Dev) (tk : Tkt) : List (Bool × Status) :=
  let f := bits (tk.word 1) 0 8
  let bytes := bits (tk.word 2) 16 16
  let charge := ceilDiv bytes 16
  let x := d.flow f
  d.descChecks tk ++
      [(bytes == 0, Status.eRange), ((d.flowOpen f || x.opening) && x.owner != tk.t, .eOwner),
       (d.flowOpen f, .eState), (!d.is F.HAY_CTRL_EN, .eState), (x.opening, .eBusy), (!d.hayFits tk.t charge, .eNores)]

/-- The HAYOPEN descriptor: a receive flow opens at once, a send flow once its path is reserved. -/
def Dev.doHayopen (d : Dev) (tk : Tkt) : Dev :=
  let f := bits (tk.word 1) 0 8
  let recv := bitOf (tk.word 1) 8
  let bytes := bits (tk.word 2) 16 16
  let charge := ceilDiv bytes 16
  match firstByRank (d.hayopenChecks tk) with
  | .done =>
    let d1 := (((d.set (F.HAY_FLOW_UNIT f) (bits (tk.word 1) 16 12)).set (F.HAY_FLOW_DIR f) (bitNat recv)).hayCharge tk.t charge).setFlow f
      { owner := tk.t, farFlow := bits (tk.word 2) 0 8, bytes := bytes, opening := true }
    if recv then (d1.pathUp f).sourcesBackOf tk.t (hayCode f)
    else match d1.requestPath f with
      | .inl r => d1.failOpen f (reasonStatus r) false
      | .inr d2 => if d2.isMe (d2.get (F.HAY_FLOW_UNIT f)) then d2.pathUp f else d2
  | st => d.finish tk st 0 0

/-- HAYOPEN_TIMEOUT of a flow. -/
def Dev.hayopenTimeout (d : Dev) (f : Nat) : Dev := if (d.flow f).opening then d.failOpen f .eTimeout true else d

def execHayopenTimeout (flow : Fin 256) (s : State) : Out' := act s fun d => d.hayopenTimeout flow.val

/-- The checks of HAYCLOSE. -/
def Dev.haycloseChecks (d : Dev) (tk : Tkt) : List (Bool × Status) :=
  let f := bits (tk.word 1) 0 8
  let x := d.flow f
  d.descChecks tk ++ [((d.flowOpen f || x.opening) && x.owner != tk.t, Status.eOwner),
      (!d.flowOpen f && !x.opening, .eState), (x.opening, .eBusy)]

/-- The HAYCLOSE descriptor. -/
def Dev.doHayclose (d : Dev) (tk : Tkt) : Dev :=
  let f := bits (tk.word 1) 0 8
  match firstByRank (d.haycloseChecks tk) with
  | .done => (d.closeFlow f true).finish tk .done 0 0
  | st => d.finish tk st 0 0

/-- REROUTE_RETRY 10 ms after an attempt without success: another, or after the third the flow is lost. -/
def Dev.rerouteRetry (d : Dev) (f : Nat) : Dev :=
  let x := d.flow f
  if !d.flowOpen f || !d.is (F.HAY_FLOW_REROUTING f) then d
  else if x.tries < 3 then d.attempt f
  else (d.hayEvent 2 f x.last [x.owner]).closeFlow f true

def execRerouteRetry (flow : Fin 256) (s : State) : Out' := act s fun d => d.rerouteRetry flow.val

/-! ### Control bales of steward firmware (R378, R399) -/

/-- HAY_CTXCMD starts: a BCAST is sent over the tree and done; an APP waits for its first hop's acknowledgement.
 (DEDUCED, log entry 53). -/
def Dev.ctxStart (d : Dev) : Dev :=
  let len := d.get F.HAY_CTXCMD_LEN
  let pay := d.getBytes F.HAY_CTXBUF_DATA len
  let dst := d.get F.HAY_CTXCMD_DST
  let d1 := (d.set F.HAY_CTXCMD_GO 0).set F.HAY_CTXCMD_BUSY 1
  if d.is F.HAY_CTXCMD_BCAST then
    (d1.treeLanes.foldl (fun d n => d.sendBale n { type := 4, dst := dst, src := d.unitId, h := [4], data := pay }) d1).ctxDone .done
  else if d.isMe dst then d1.ctxDone .eLink
  else match d.nextHop dst with
    | none => d1.ctxDone .eLink
    | some n => d1.queueControl n { type := 2, dst := dst, src := d.unitId, h := [0, 0, 0, 0, 0, 0, 0x10, 0], data := pay } true

/-- A write of HAY_CTXCMD. -/
def Dev.writeCtxcmd (d : Dev) (w : Word) : Dev :=
  let v := w.toNat
  d.regWrite .bar0 R.HAY_CTXCMD 0 w [(decide (512 < bits v 0 10), .eRange), (bitOf v 31 && d.is F.HAY_CTXCMD_BUSY, .eBusy)]
    fun n => if bitOf v 31 then n.ctxStart else n

def execHayCtxSend (w : Word) (s : State) : Out' := act s fun d => d.writeCtxcmd (withBit w 31)

/-- HAY_CTX_TIMEOUT: the command ends; its bale is no longer the command's. -/
def Dev.ctxTimeout (d : Dev) : Dev :=
  if !d.is F.HAY_CTXCMD_BUSY then d
  else
    let d1 := lanes.foldl (fun d n =>
      (d.modLane n fun x => { x with unacked := x.unacked.map fun e => (e.1, e.2.1, false) }).setItems (256 + n)
        ((d.items (256 + n)).map fun it => { it with stamp := 0 })) d
    d1.ctxDone .eTimeout

def execHayCtxTimeout (s : State) : Out' := act s Dev.ctxTimeout

/-- A write of HAY_CRXPOP. -/
def Dev.writeCrxpop (d : Dev) (w : Word) : Dev :=
  d.regWrite .bar0 R.HAY_CRXPOP 0 w [] fun n =>
    if !bitOf w.toNat 0 then n
    else match n.oldestKept with
      | none => n
      | some (l, j, _) => (n.removeItem (262 + l) j).showKept

def execHayCrxpop (w : Word) (s : State) : Out' := act s fun d => d.writeCrxpop (withBit w 0)

/-! ### HAY_CTRL and the Almanac registers (R44, R398, R399) -/

/-- Clears the counters of Haywain. -/
def Dev.clearHay (d : Dev) : Dev :=
  let d1 := lanes.foldl (fun d n => (((d.set (F.HAY_LANE8_CRCERR n) 0).set (F.HAY_LANE8_RETRY n) 0).set (F.HAY_LANEC_CODEERR n) 0).set
    (F.HAY_LANEC_DROP n) 0) d
  (List.range 256).foldl (fun d f => (d.set (F.HAY_FLOW_CONCEAL f) 0).set (F.HAY_FLOW_RESYNC f) 0) d1

/-- A write of HAY_CTRL. -/
def Dev.writeHayCtrl (d : Dev) (w : Word) : Dev :=
  let v := w.toNat
  let was := d.is F.HAY_CTRL_EN
  d.regWrite .bar0 R.HAY_CTRL 0 w
    [(!was && bitOf v 0 && (!d.is F.HAY_UNIT_VALID || !d.is F.HAY_CTRL_LOCK || !d.is F.ALM_CTRL_LOCK), .eState)] fun n =>
      let n1 := if bitOf v 1 then n.clearHay else n
      if was = bitOf v 0 then n1 else (lanes.foldl Dev.laneRefresh n1).chooseParent

def execHayCntclr (w : Word) (s : State) : Out' := act s fun d => d.writeHayCtrl (withBit w 1)

/-- ALM_TIME_CAPTURE_READ by the steward (0) or T000 (1): TIMEL answers bits 31:0, and bits 63:32 wait for TIMEH. -/
def Dev.almCapture (d : Dev) (who : Nat) : Dev :=
  ({ d.accessBy who with xt := { d.xt with almCap := mapPut 0 d.xt.almCap who (d.almTime / 2 ^ 32) } } : Dev).emit .readData who
    [d.almTime % 2 ^ 32] []

def execAlmTimeCaptureRead (who : Fin 2) (s : State) : Out' := act s fun d => d.almCapture who.val

end Sys2Proof.Machine
end

