-- ==== Sys2Proof/Machine/Descriptors.lean ====
section
/-!
DEFINITION. Dispatch of descriptors (R314, R316, R322, R348), the rows of the command table that are descriptors, and the
packet of a stream's sink.
-/
namespace Sys2Proof.Machine

open Sys2Proof

/-- The effect of a descriptor that has been dispatched. -/
def Dev.doOp (d : Dev) (tk : Tkt) : Dev :=
  match tk.op with
  | 0x01 => d.doSteer tk
  | 0x02 => d.doPortcmd tk
  | 0x03 => d.doCtxopen tk
  | 0x04 => d.doCtxclose tk
  | 0x05 => d.doCtxreset tk
  | 0x06 => d.doXfer tk
  | 0x10 => d.doBind tk
  | 0x11 => d.doAttach tk
  | 0x12 => d.doDetach tk
  | 0x13 => d.doStart tk
  | 0x14 => d.doFlush tk
  | 0x15 => d.doUnbind tk
  | 0x16 => d.doBuf tk
  | 0x20 => d.doHayopen tk
  | 0x21 => d.doHayclose tk
  | _ => d.finish tk (firstByRank (d.descChecks tk)) 0 0

/-- The checks of a descriptor (R316, R317, R328). -/
def Dev.opChecks (d : Dev) (tk : Tkt) : List (Bool × Status) :=
  match tk.op with
  | 0x01 => d.steerDescChecks tk
  | 0x02 => d.portcmdChecks tk
  | 0x03 => d.ctxopenChecks tk
  | 0x04 => d.ctxcloseChecks tk
  | 0x05 => d.ctxresetChecks tk
  | 0x06 => d.xferChecks tk
  | 0x10 => d.bindChecks tk
  | 0x11 => d.attachChecks tk
  | 0x12 => d.detachChecks tk
  | 0x13 => d.startChecks tk
  | 0x14 => d.flushChecks tk
  | 0x15 => d.unbindChecks tk
  | 0x16 => d.bufChecks tk
  | 0x20 => d.hayopenChecks tk
  | 0x21 => d.haycloseChecks tk
  | _ => d.descChecks tk

/-- The bytes that BUF descriptors dispatched on a ring will still bring into its stream, in cells. -/
def Dev.bufCells (d : Dev) (t q : Nat) : Nat :=
  ((d.live (isBuf t q)).map fun x => ceilDiv x.len 64).foldl (· + ·) 0

/-- A bound of Table 11.13 holds the descriptor: 8 tickets on its context, or no room in its source's FIFO queue.
 (DEDUCED, log entry 46). -/
def Dev.atBound (d : Dev) (tk : Tkt) : Bool :=
  match tk.op with
  | 0x06 =>
    let c := bits (tk.word 1) 0 7
    decide (8 ≤ (d.hif.running.filter (isXfer c)).length + (d.hif.cpls.filter fun x => isXfer c x.tk).length)
  | 0x16 =>
    let s := bits (tk.word 1) 0 8
    (d.strState s == 1 || d.strState s == 2 || d.strState s == 3) && d.srcCode s == ringCode tk.t tk.sq &&
      d.get (F.QUE_W0_MODE (queOf s)) == 0 && decide (tk.len ≤ 16384) &&
      !d.fits (queOf s) (d.bufCells tk.t tk.sq + ceilDiv tk.len 64)
  | _ => false

/-- A FENCE that earlier descriptors of its SQ still hold. (DEDUCED, log entry 46). -/
def Dev.fenceHolds (d : Dev) (tk : Tkt) : Bool :=
  tk.fence && (d.hif.running.any (fun x => x.t == tk.t && x.sq == tk.sq) || d.hif.cpls.any fun x => x.tk.t == tk.t && x.tk.sq == tk.sq)

/-- A descriptor becomes a dispatched ticket and takes effect; that of a fenced tenant completes E_FENCED instead. -/
def Dev.start (d : Dev) (tk : Tkt) : Dev :=
  if d.unitFenced tk.t then d.complete tk .eFenced
  else ({ d with hif := { d.hif with running := d.hif.running ++ [tk] } } : Dev).doOp tk

/-- DISPATCH of the descriptor next in order on SQ `q`. (DEDUCED, log entry 45). -/
def Dev.dispatch (d : Dev) (t q : Nat) : Dev :=
  match d.fetched t q with
  | [] => d
  | tk :: rest =>
    if d.flrBusy t || d.fenceHolds tk then d
    else if !d.unitFenced t && d.atBound tk then d.beginWait t [q]
    else ((d.setFetched t q rest).start tk).checkWait t

/-- (DEDUCED, log entry 50). -/
def execDispatch (t : Fin 256) (sq : Fin 8) (s : State) : Out' := act s fun d => d.dispatch t.val sq.val

/-- Dispatch of SQ `q` where the descriptor next in order meets `p`. -/
def Dev.dispatchIf (d : Dev) (t q : Nat) (p : Tkt → Bool) : Dev :=
  match d.fetched t q with
  | [] => d
  | tk :: _ => if p tk then d.dispatch t q else d

def opIs (n : Nat) (tk : Tkt) : Bool := tk.op == n

/-- A PORTCMD with a command code. -/
def cmdIs (n : Nat) (tk : Tkt) : Bool := tk.op == 0x02 && bits (tk.word 1) 8 3 == n

def execNop (t : Fin 256) (sq : Fin 8) (s : State) : Out' := act s fun d => d.dispatchIf t.val sq.val (opIs 0x00)
def execSteer (t : Fin 256) (sq : Fin 8) (s : State) : Out' := act s fun d => d.dispatchIf t.val sq.val (opIs 0x01)
def execPortcmdReset (t : Fin 256) (sq : Fin 8) (s : State) : Out' := act s fun d => d.dispatchIf t.val sq.val (cmdIs 1)
def execPortcmdSuspend (t : Fin 256) (sq : Fin 8) (s : State) : Out' := act s fun d => d.dispatchIf t.val sq.val (cmdIs 2)
def execPortcmdResume (t : Fin 256) (sq : Fin 8) (s : State) : Out' := act s fun d => d.dispatchIf t.val sq.val (cmdIs 3)
def execPortcmdPowerOff (t : Fin 256) (sq : Fin 8) (s : State) : Out' := act s fun d => d.dispatchIf t.val sq.val (cmdIs 4)
def execPortcmdPowerOn (t : Fin 256) (sq : Fin 8) (s : State) : Out' := act s fun d => d.dispatchIf t.val sq.val (cmdIs 5)
def execCtxopen (t : Fin 256) (sq : Fin 8) (s : State) : Out' := act s fun d => d.dispatchIf t.val sq.val (opIs 0x03)
def execCtxclose (t : Fin 256) (sq : Fin 8) (s : State) : Out' := act s fun d => d.dispatchIf t.val sq.val (opIs 0x04)
def execCtxreset (t : Fin 256) (sq : Fin 8) (s : State) : Out' := act s fun d => d.dispatchIf t.val sq.val (opIs 0x05)
def execXfer (t : Fin 256) (sq : Fin 8) (s : State) : Out' := act s fun d => d.dispatchIf t.val sq.val (opIs 0x06)
def execBind (t : Fin 256) (sq : Fin 8) (s : State) : Out' := act s fun d => d.dispatchIf t.val sq.val (opIs 0x10)
def execAttach (t : Fin 256) (sq : Fin 8) (s : State) : Out' := act s fun d => d.dispatchIf t.val sq.val (opIs 0x11)
def execDetach (t : Fin 256) (sq : Fin 8) (s : State) : Out' := act s fun d => d.dispatchIf t.val sq.val (opIs 0x12)
def execStart (t : Fin 256) (sq : Fin 8) (s : State) : Out' := act s fun d => d.dispatchIf t.val sq.val (opIs 0x13)
def execFlush (t : Fin 256) (sq : Fin 8) (s : State) : Out' := act s fun d => d.dispatchIf t.val sq.val (opIs 0x14)
def execUnbind (t : Fin 256) (sq : Fin 8) (s : State) : Out' := act s fun d => d.dispatchIf t.val sq.val (opIs 0x15)
def execBuf (t : Fin 256) (sq : Fin 8) (s : State) : Out' := act s fun d => d.dispatchIf t.val sq.val (opIs 0x16)
def execHayopen (t : Fin 256) (sq : Fin 8) (s : State) : Out' := act s fun d => d.dispatchIf t.val sq.val (opIs 0x20)
def execHayclose (t : Fin 256) (sq : Fin 8) (s : State) : Out' := act s fun d => d.dispatchIf t.val sq.val (opIs 0x21)

/-! ### The packet of a sink (R263) -/

/-- A TDM sink's bank: taken, and its slot words put out. -/
def Dev.tdmPacket (d : Dev) (p s i : Nat) : Dev :=
  if !d.is (F.TDM_STAT_RUNNING p) then d
  else if (d.sink s i).leaving then d.removeSink s i
  else match (d.modSink s i fun k => { k with cur := 0 }).sinkBank p s i d.almTime with
    | (d1, none) => d1
    | (d1, some (z, l)) => d1.emit .tdm p [] (((d1.bankWords p s i z l).map fun e => beBytes 4 e.2).flatten)

/-- STREAM_SINK_PACKET: sink `i` of stream `s` at the boundary of its packet in service interval `k`. -/
def Dev.sinkBoundary (d : Dev) (s i k : Nat) : Dev :=
  let c := d.sinkCode s i
  if (mapFind (d.stream s).sinks i).isNone then d
  else match epKind c with
    | 1 => if d.slotFeedback (epId c) then d else d.funcIso (epId c) k []
    | 2 => if d.ctxServed (epId c) then d.isoTransaction (epId c) true [] else d
    | 3 => d.tdmPacket (Machine.tdmPort c) s i
    | 4 => d.flowSend (epId c)
    | _ => d.ringPacket s i

def execStreamSinkPacket (stream : Fin 256) (sink : Fin 8) (k : Nat) (s : State) : Out' :=
  act s fun d => d.sinkBoundary stream.val sink.val k

end Sys2Proof.Machine
end

