-- ==== Sys2Proof/Machine/Faults.lean ====
section
/-!
DEFINITION. Faults: windows, fallow, the commands on units, records and alert pins (chapter 17).
-/
namespace Sys2Proof.Machine

open Sys2Proof

/-- ESCALATION_WINDOW_EXPIRY: the window of a source of a unit closes with its count discarded (R482). -/
def Dev.windowExpiry (d : Dev) (u i : Nat) : Dev :=
  let r := d.urecOf u
  d.setRec u { r with wins := mapErase r.wins i }

def execEscalationWindowExpiry (unit : BitVec 10) (src : Fin 64) (s : State) : Out' :=
  act s fun d => d.windowExpiry unit.toNat src.val

/-! ### Fallow (R484, R485) -/

/-- One more return of a unit. -/
def countReturn (r : URec) : URec := { r with fcnt := satInc 0xFFFF r.fcnt, fcsat := r.fcsat || satInc 0xFFFF r.fcnt == 0xFFFF }

/-- Ends the fence of a unit; of unit LAR that of every device queue. -/
def Dev.endFence (d : Dev) (u : Nat) (count : Bool) : Dev :=
  let r := d.urecOf u
  let r1 := { r with fenced := false, sticky := false, remain := 0, wins := [] }
  let d1 := (d.setRec u (if count then countReturn r1 else r1)).setBit (F.FLT_FENCED_FENCED (u / 32)) (u % 32) false
  let d2 := if u = 0x246 then { d1 with lar := { d1.lar with qFenced := [] } } else d1
  returnEffect u (d2.fltEvent 1 u 0)

/-- The fallow of device queue `q` ends: it returns empty (R484). (DEDUCED, log entries 42, 63). -/
def Dev.queueReturns (d : Dev) (q : Nat) : Dev :=
  if !d.lar.qFenced.contains q then d
  else
    let d1 := { d with lar := { d.lar with qFenced := d.lar.qFenced.filter (· != q) } }
    if d1.lar.qFenced.isEmpty then d1.endFence 0x246 true
    else (d1.setRec 0x246 (countReturn (d1.urecOf 0x246))).fltEvent 1 0x246 0

/-- FALLOW_EXPIRY of a unit, or of a device queue of unit LAR. -/
def Dev.fallowExpiry (d : Dev) (u q : Nat) : Dev :=
  if u = 0x246 then d.queueReturns q
  else if (d.urecOf u).fenced && !(d.urecOf u).sticky then d.endFence u true
  else d

def execFallowExpiry (unit queue : BitVec 10) (s : State) : Out' := act s fun d => d.fallowExpiry unit.toNat queue.toNat

/-! ### FLT_UCMD (R486, R503) -/

/-- A severe event of source 0 on a unit. -/
def Dev.softFence (d : Dev) (u : Nat) : Dev :=
  let d1 := d.recordFault u 0
  ((d1.setRec u { d1.urecOf u with sev := true }).fence u 0).alerts 0 true

/-- Clears a unit's fallow count. -/
def Dev.clearCount (d : Dev) (u : Nat) : Dev := d.setRec u { d.urecOf u with fcnt := 0, fcsat := false }

/-- A write of FLT_UCMD. (DEDUCED, log entry 63). -/
def Dev.writeUcmd (d : Dev) (w : Word) : Dev :=
  let op := bits w.toNat 0 2
  let u := d.get F.FLT_USEL_UNIT
  let k := unitKind u
  d.regWrite .bar0 R.FLT_UCMD 0 w
    [(op == 0, .eField),
     (op == 1 && (k.isNone || k == some 10 || d.unitFenced u || (decide (u < 256) && !d.tenantExists u)), .eState),
     (op == 1 && k == some 9 && !d.bankMayFence (u - 0x230), .eNores), (op == 2 && !d.unitFenced u, .eState)] fun n =>
      match op with
      | 1 => n.softFence u
      | 2 => n.endFence u false
      | _ => n.clearCount u

/-- A word of FLT_UCMD with its OP. -/
def ucmdWord (w : Word) (op : Nat) : Word := BitVec.ofNat 32 (w.toNat - w.toNat % 4 + op)

def execFltUcmdFence (w : Word) (s : State) : Out' := act s fun d => d.writeUcmd (ucmdWord w 1)

def execFltUcmdRelease (w : Word) (s : State) : Out' := act s fun d => d.writeUcmd (ucmdWord w 2)

def execFltUcmdClrcnt (w : Word) (s : State) : Out' := act s fun d => d.writeUcmd (ucmdWord w 3)

/-! ### Records (R481, R491) -/

/-- Clears the record of a unit; its fence, its fallow count and its windows stay. -/
def Dev.clearRecord (d : Dev) (u : Nat) : Dev :=
  let r := d.urecOf u
  ((d.setRec u { fenced := r.fenced, sticky := r.sticky, fcsat := r.fcsat, fcnt := r.fcnt, remain := r.remain,
                 wins := r.wins }).showPin 0).showPin 1

/-- A write of FLT_UREC0. -/
def Dev.writeUrec0 (d : Dev) (w : Word) : Dev :=
  d.regWrite .bar0 R.FLT_UREC0 0 w [] fun n => if bitOf w.toNat 31 then n.clearRecord (d.get F.FLT_USEL_UNIT) else n

def execFltRecordClear (w : Word) (s : State) : Out' := act s fun d => d.writeUrec0 (withBit w 31)

/-! ### Alert pins (R490, R585) -/

/-- ALERT_PULSE_END. -/
def Dev.pulseEnd (d : Dev) (x : Nat) : Dev :=
  let p := d.pin x
  if d.is (F.ALT_CFG_MODE x) || !p.pulsing then d
  else
    let hold := d.is (F.ALT_CFG_HOLD x)
    (d.setPin x { p with pulsing := false, held := hold, resting := !hold }).showPin x

def execAlertPulseEnd (pin : Fin 2) (s : State) : Out' := act s fun d => d.pulseEnd pin.val

/-- ALERT_DEASSERT_END. (DEDUCED, log entry 63). -/
def Dev.deassertEnd (d : Dev) (x : Nat) : Dev :=
  let p := d.pin x
  if !p.resting then d else (d.setPin x { p with resting := false, waiting := false, pulsing := p.waiting || p.pulsing }).showPin x

def execAlertDeassertEnd (pin : Fin 2) (s : State) : Out' := act s fun d => d.deassertEnd pin.val

/-- A write of ALT_CFGx. -/
def Dev.writeAltCfg (d : Dev) (x : Nat) (w : Word) : Dev :=
  let v := w.toNat
  let width := bits v 16 10
  d.regWrite .bar0 R.ALT_CFG x w [(width != d.get (F.ALT_CFG_WIDTH x) && (width == 0 || decide (1000 < width)), .eRange)] fun n =>
    if bitOf v 0 != d.is (F.ALT_CFG_MODE x) then
      let n1 := (n.setPin x {}).showPin x
      if d.is (F.ALT_CFG_STATE x) && !n1.is (F.ALT_CFG_STATE x) then n1.setPin x { resting := true } else n1
    else if !bitOf v 0 && !bitOf v 2 && (d.pin x).held then
      (n.setPin x { n.pin x with held := false, resting := !(n.pin x).pulsing }).showPin x
    else n

def execAltCfgWrite (pin : Fin 2) (w : Word) (s : State) : Out' := act s fun d => d.writeAltCfg pin.val w

end Sys2Proof.Machine
end

