-- ==== Sys2Proof/Machine/FlsOps.lean ====
section
/-!
DEFINITION. Operations of the flash port and the Granary that several causes share (chapter 15): the two flashes' contents,
programs and erases in order, window reads, and a commit's start and end.
-/
namespace Sys2Proof.Machine

open Sys2Proof

/-! ### The flashes -/

def flashKey (sel a : Nat) : Nat := sel * 2 ^ 32 + a % 2 ^ 32

def Dev.flashByte (d : Dev) (sel a : Nat) : Byte := mapGet 0xFF d.flash (flashKey sel a)

def Dev.flashBytes (d : Dev) (sel a n : Nat) : List Byte := (List.range n).map fun i => d.flashByte sel (a + i)

/-- Gives flash bytes from address `a` on. -/
def Dev.flashPut (d : Dev) (sel a : Nat) : List Byte → Dev
  | [] => d
  | b :: t => { d with flash := mapPut 0xFF d.flash (flashKey sel a) b }.flashPut sel (a + 1) t

/-- Programming leaves the AND of the old contents and the data (R433). (PRESUMED, log entry 58). -/
def Dev.flashProgram (d : Dev) (sel a : Nat) (l : List Byte) : Dev :=
  d.flashPut sel a (List.zipWith (· &&& ·) (d.flashBytes sel a l.length) l)

/-- First byte of the 4 KiB sector that holds `a`. -/
def sectorOf (a : Nat) : Nat := a - a % 4096

/-- (PRESUMED, log entry 58). -/
def Dev.flashErase (d : Dev) (sel a : Nat) : Dev :=
  { d with flash := mapDropRange d.flash (flashKey sel (sectorOf a)) (flashKey sel (sectorOf a) + 4096) }

/-- A program or an erase that was cut off leaves bytes that the spec does not determine: a program some of the zeros it was
to write, an erase anything (R444). (DESIGN CHOICE, log entry 4). -/
def Dev.flashTear (d : Dev) (j : FlashJob) : Dev :=
  let n := if j.erase then 4096 else j.data.length
  let f := fun i => (Config.fresh (d.free + i) 8 : Byte)
  let a := if j.erase then sectorOf j.addr else j.addr
  let old := d.flashBytes j.sel a n
  let l := (List.range n).map fun i =>
    if j.erase then f i else old.getD i 0 &&& (j.data.getD i 0 ||| f i)
  { d with free := d.free + n }.flashPut j.sel a l

/-! ### Profiles (R426, R427) -/

/-- Fields of the profile of a select. -/
def profA (sel lo w : Nat) : Fld := if sel = 0 then ⟨0x12010, lo, w, bits 0x03020000 lo w⟩ else ⟨0x12018, lo, w, bits 0x03020000 lo w⟩

def Dev.flashSusp (d : Dev) (sel : Nat) : Bool := d.is (profA sel 3 1)

/-- The erase opcode of a select: 3-byte or 4-byte address. -/
def Dev.eraseOp (d : Dev) (sel : Nat) : Nat := if d.is (profA sel 7 1) then 0x21 else 0x20

/-- Sends a command to a flash. -/
def Dev.flashSend (d : Dev) (sel op addr : Nat) (data : List Byte) : Dev := d.emit .flash sel [op, addr] data

/-! ### Recorded errors (R429, R432, R435, R450) -/

/-- Records an error in FLS_ERR under the rule of R9. -/
def Dev.flsError (d : Dev) (st : Status) (addr : Nat) : Dev :=
  if d.is F.FLS_ERR_VALID then d.set F.FLS_ERR_MULTI 1
  else ((d.set F.FLS_ERR_VALID 1).set F.FLS_ERR_CODE (statusCode st)).set F.FLS_ERRADDR_ADDR addr

/-- A window write that is refused: a bus error, its record and FLS_WERR. (DEDUCED, log entry 60). -/
def Dev.windowError (d : Dev) (st : Status) (addr : Nat) : Dev :=
  ((d.emit .accessFault 0 [addr] []).flsError st addr).raise F.FLS_INT_WERR 0x1302 [0] 0 0 0

/-! ### Programs and erases (R433, R434) -/

def Dev.modFls (d : Dev) (f : Fls → Fls) : Dev := { d with fls := f d.fls }

def Dev.modGrn (d : Dev) (f : Grn → Grn) : Dev := { d with grn := f d.grn }

/-- What the flash of a select works on. -/
def Dev.flashJob (d : Dev) (sel : Nat) : Option FlashJob := d.fls.jobs.find? (·.sel == sel)

/-- Changes the first job of a select. -/
def modFirstJob (sel : Nat) (f : FlashJob → FlashJob) : List FlashJob → List FlashJob
  | [] => []
  | j :: t => if j.sel = sel then f j :: t else j :: modFirstJob sel f t

/-- Removes the first job of a select. -/
def dropFirstJob (sel : Nat) : List FlashJob → List FlashJob
  | [] => []
  | j :: t => if j.sel = sel then t else j :: dropFirstJob sel t

/-- FLS_STAT follows the jobs. -/
def Dev.showFls (d : Dev) : Dev :=
  let on := [0, 1].filterMap d.flashJob
  ((d.setB F.FLS_STAT_PROGRAMMING (on.any fun j => !j.erase)).setB F.FLS_STAT_ERASING (on.any fun j => j.erase)).setB
    F.FLS_STAT_SUSPENDED (on.any fun j => j.suspended)

/-- Sends WRITE_ENABLE and the command of a job. -/
def Dev.sendJob (d : Dev) (j : FlashJob) : Dev :=
  (d.flashSend j.sel 0x06 0 []).flashSend j.sel (if j.erase then d.eraseOp j.sel else d.get (profA j.sel 16 8)) j.addr j.data

/-- Starts the first job of a select. -/
def Dev.startJob (d : Dev) (sel : Nat) : Dev :=
  match d.flashJob sel with
  | none => d
  | some j =>
    if j.started then d
    else (d.modFls fun x => { x with jobs := modFirstJob sel (fun j => { j with started := true }) x.jobs }).sendJob j

def Dev.startJobs (d : Dev) : Dev := ((d.startJob 0).startJob 1).showFls

def Dev.addJobs (d : Dev) (l : List FlashJob) : Dev := (d.modFls fun x => { x with jobs := x.jobs ++ l }).startJobs

/-- Programs the gathered run (R433). -/
def Dev.endGather (d : Dev) : Dev :=
  match d.fls.gather with
  | none => d
  | some (sel, a, l) => (d.modFls fun x => { x with gather := none }).addJobs [{ sel := sel, addr := a, data := l }]

/-! ### Window reads (R429, R430, R432, R434, R506) -/

/-- The select a window maps. -/
def Dev.windowSel (d : Dev) (win : Nat) : Nat := d.get (if win = 0 then F.FLS_DMAP_SEL else F.FLS_WMAP_SEL)

/-- Byte `x` of Window D (0), decrypted where DEC is 1, or of Window W (1). -/
def Dev.windowByte (d : Dev) (win x : Nat) : Byte :=
  let sel := d.windowSel win
  if win = 0 then
    let c := d.flashByte sel (d.get F.FLS_DBASE_BASE + x)
    if d.is F.FLS_DMAP_DEC then
      c ^^^ (aes256 (d.key.kd.getD (List.replicate 32 0)) (d.fls.nonce ++ beBytes 8 (x / 16))).getD (x % 16) 0
    else c
  else d.flashByte sel (d.get F.FLS_WBASE_BASE + x)

def Dev.windowBytes (d : Dev) (win x n : Nat) : List Byte := (List.range n).map fun i => d.windowByte win (x + i)

/-- A line of Window D goes into the instruction cache, which holds 32 KiB (Table 01.5); which line a full cache gives up for it no rule
states, and is a free value. (DESIGN CHOICE, log entry 4). -/
def Dev.fillLine (d : Dev) (a : Nat) (line : List Byte) : Dev :=
  let rest := mapErase d.stw.icache a
  if rest.length < 1024 then { d with stw := { d.stw with icache := mapPut [] rest a line } }
  else
    { d with stw := { d.stw with icache := mapPut [] (rest.eraseIdx (Config.fresh d.free 10).toNat) a line }
             free := d.free + 1 }

/-- Serves a read. An instruction fetch fills its line of the cache. -/
def Dev.serveRead (d : Dev) (r : FlashRead) : Dev :=
  if r.win = 0 then
    let w := if r.fetch then 32 else 8
    let a := r.x - r.x % w
    let line := d.windowBytes 0 a w
    let d1 := if r.fetch then d.fillLine a line else d
    d1.emit .readData 0 [0x20000000 + r.x] ((line.drop (r.x - a)).take r.n)
  else d.emit .readData 0 [0x30000000 + r.x] (d.windowBytes 1 r.x r.n)

/-- Serves the waiting reads of a select, in order. -/
def Dev.serveReads (d : Dev) (sel : Nat) : Dev :=
  let mine := d.fls.reads.filter fun r => d.windowSel r.win == sel
  mine.foldl Dev.serveRead (d.modFls fun x => { x with reads := x.reads.filter fun r => d.windowSel r.win != sel })

/-- A read on the select can be served at once: no run is gathered for it, and its flash is not busy. -/
def Dev.flashIdle (d : Dev) (sel : Nat) : Bool :=
  (d.flashJob sel).isNone && !(d.fls.gather.any fun g => g.1 == sel)

/-- Suspends the erase of a select. -/
def Dev.suspendErase (d : Dev) (sel : Nat) : Dev :=
  ((d.modFls fun x => { x with jobs := modFirstJob sel (fun j => { j with suspended := true }) x.jobs }).flashSend sel 0x75 0 []).showFls

/-- An erase on the select runs and may be suspended for the reads that wait; `gap` says that SUSGAP still runs. -/
def Dev.maySuspend (d : Dev) (sel : Nat) (gap : Bool) : Bool :=
  match d.flashJob sel with
  | none => false
  | some j => j.erase && j.started && !j.suspended && d.flashSusp sel && !gap && !(d.fls.gather.any fun g => g.1 == sel)

/-! ### The Granary (R435 to R442) -/

/-- Window W offset of a bank. -/
def Dev.bankBase (d : Dev) (b : Nat) : Nat := 65536 * d.get (if b = 0 then F.GRN_CFG_ABASE else F.GRN_CFG_BBASE)

def Dev.grnAddr (d : Dev) (b off : Nat) : Nat := d.get F.FLS_WBASE_BASE + d.bankBase b + off

/-- Window W byte `x` lies in a bank that EN protects. -/
def Dev.bankByte (d : Dev) (x : Nat) : Bool :=
  d.is F.GRN_CTRL_EN && [0, 1].any fun b => decide (d.bankBase b ≤ x) && decide (x < d.bankBase b + 65536)

/-- A sector of a select meets a bank that EN protects. -/
def Dev.bankSector (d : Dev) (sel a : Nat) : Bool :=
  d.is F.GRN_CTRL_EN && sel == d.get F.FLS_WMAP_SEL && [0, 1].any fun b =>
    decide (d.grnAddr b 0 < sectorOf a + 4096) && decide (sectorOf a < d.grnAddr b 0 + 65536)

def wearFld (b : Nat) : Fld := if b = 0 then F.GRN_WEARA_COUNT else F.GRN_WEARB_COUNT

/-- GRN_WEAR, once per start-up (R442). -/
def Dev.checkWear (d : Dev) : Dev :=
  let worn := [0, 1].any fun b => decide (1000 * d.get F.GRN_CFG_ENDUR ≤ ceilDiv (d.get (wearFld b)) 16)
  if d.grn.wearRaised || !worn then d
  else (d.modGrn fun g => { g with wearRaised := true }).raise F.GRN_INT_WEAR 0x1404 [0] 0 0 0

/-- Bytes that a record of `len` payload bytes occupies. -/
def recordSize (len : Nat) : Nat := 20 + 4 * ceilDiv len 4

/-- The first 16 bytes of a record (Table 15.3). -/
def recordHead (seq len flags wear : Nat) : List Byte :=
  leBytes 4 0x4E415247 ++ leBytes 4 seq ++ leBytes 2 len ++ leBytes 2 flags ++ leBytes 4 wear

/-- A record whole. -/
def recordBytes (seq flags wear : Nat) (pay : List Byte) : List Byte :=
  let l := recordHead seq pay.length flags wear ++ pay ++ List.replicate (4 * ceilDiv pay.length 4 - pay.length) 0
  l ++ leBytes 4 (crc32 l)

/-- A valid record at the start of the bytes that are left in its sector (R436): SEQ, FLAGS, LEN and WEAR. -/
def recordAt (l : List Byte) : Option (Nat × Nat × Nat × Nat) :=
  let f := fun a n => leNat ((l.drop a).take n)
  let len := f 8 2
  let n := recordSize len
  if f 0 4 = 0x4E415247 ∧ f 10 2 < 8 ∧ len ≤ 4076 ∧ n ≤ l.length ∧ crc32 (l.take (n - 4)) = f (n - 4) 4 then
    some (f 4 4, f 10 2, len, f 12 4)
  else none

/-- Cuts bytes at address `a` at the borders of 256-byte pages; the number bounds the runs. (DEDUCED, log entry 60). -/
def pageRuns : Nat → Nat → List Byte → List (Nat × List Byte)
  | 0, _, _ => []
  | n + 1, a, l =>
    if l.isEmpty then []
    else
      let k := 256 - a % 256
      (a, l.take k) :: pageRuns n (a + k) (l.drop k)

/-- The programs of a commit. -/
def Dev.commitJobs (d : Dev) (a : Nat) (l : List Byte) : List FlashJob :=
  (pageRuns 18 a l).map fun r => { sel := d.get F.FLS_WMAP_SEL, addr := r.1, data := r.2, who := 1 }

/-- An erase of a bank's sector. -/
def Dev.bankErase (d : Dev) (b sector who : Nat) : FlashJob :=
  { sel := d.get F.FLS_WMAP_SEL, addr := d.grnAddr b (4096 * (sector % 16)), erase := true, who := who, bank := b }

/-- SUP sees a commit finished (R71, R438, R451). -/
def Dev.commitSeen (d : Dev) : Dev :=
  if d.get F.SUP_STAT_STAGE = 3 then { d with pow := { d.pow with s3Done := true } } else d

/-- A commit has ended with a status: its sequence number and its space are used up, and any erase-ahead follows. -/
def Dev.endCommit (d : Dev) (c : Commit) (st : Status) : Dev :=
  let d1 := ((d.set F.GRN_LASTSEQ_SEQ c.seq).set F.GRN_COMMIT_STATUS (statusCode st)).set F.GRN_STAT_WRITING 0
  let d2 := d1.modGrn fun g => { g with commit := none }
  if c.moved then (d2.set F.GRN_STAT_ERASING 1).addJobs [d2.bankErase c.bank (c.off / 4096 + 1) 3] else d2

/-- GRN_ABORT, source 46 of the Granary (R438, R450, R451). (DEDUCED, log entry 61). -/
def Dev.grnAbort (d : Dev) : Dev := (d.raise F.GRN_INT_ABORT 0x1401 [0] 0 0 0).oweFault 0x228 46

/-- A commit is cut off at step 4: programs of it that have not begun are not made. -/
def Dev.abortCommit (d : Dev) (c : Commit) (st : Status) : Dev :=
  ((d.modFls fun x => { x with jobs := x.jobs.filter fun j => j.who != 1 || j.started }).endCommit c st).grnAbort

/-- A GO while the Granary is fenced completes at once (R451). (DEDUCED, log entry 61). -/
def Dev.commitFenced (d : Dev) : Dev :=
  ((d.set F.GRN_STAT_PENDING 0).set F.GRN_COMMIT_STATUS (statusCode .eFenced)).commitSeen

/-- The pending commit begins to write its record (R437 to R439), not while the steward is not executing (R28): the payload is read, and
an uncorrectable buffer word ends it there with E_POISON. (DEDUCED, log entry 61). -/
def Dev.startCommit (d : Dev) : Dev :=
  if !d.stewardRuns || !d.is F.GRN_STAT_PENDING || d.is F.GRN_STAT_SCANNING || d.is F.GRN_STAT_WRITING then d
  else if d.is F.GRN_STAT_FENCED then d.commitFenced
  else
    let seq := (d.get F.GRN_LASTSEQ_SEQ + 1) % 2 ^ 32
    let b := seq % 2
    let len := d.get F.GRN_COMMIT_LEN
    let flags := d.get F.GRN_COMMIT_MIRROR + 4 * d.get F.GRN_COMMIT_TWIN
    let pos := mapGet (0, 0) d.grn.next b
    let moved := decide (4096 < pos.2 + recordSize len)
    let sector := if moved then (pos.1 + 1) % 16 else pos.1
    let off := if moved then 0 else pos.2
    let base := d.get F.GRN_BUF_BASE
    let r := d.memBytes 1 1 base (8 * ceilDiv len 8)
    let wear := d.get (wearFld b)
    let c : Commit := ⟨seq, b, 4096 * sector + off, recordBytes seq flags wear (r.2.1.take len), moved⟩
    let d1 := (((r.1.set F.GRN_STAT_PENDING 0).set F.GRN_STAT_WRITING 1).modGrn fun g =>
      { g with commit := some c, begun := true, next := mapPut (0, 0) g.next b (sector, off + recordSize len) })
    let a := d.grnAddr b c.off
    match r.2.2 with
    | none => d1.addJobs (d1.commitJobs a c.bytes)
    | some bad =>
      (d1.addJobs (d1.commitJobs a (recordHead seq len flags wear ++ (r.2.1.take len).take (bad - base)))).endCommit c .ePoison |>.grnAbort

/-- From shutdown stage S1 on a pending commit starts at once (R439). -/
def Dev.commitAtS1 (d : Dev) : Dev := d.startCommit

/-- A commit that a steward watchdog reset finds at step 4 ends with E_FLUSHED, and a pending one is cancelled (R445). -/
def Dev.commitAtWatchdog (d : Dev) : Dev :=
  let d1 := d.set F.GRN_STAT_PENDING 0
  match d1.grn.commit with
  | none => d1
  | some c => if d1.fls.jobs.any fun j => j.who == 1 then d1.abortCommit c .eFlushed else d1

/-- An erase-ahead ended without success: STATUS, and GRN_ABORT. -/
def Dev.aheadFailed (d : Dev) : Dev :=
  let more := d.fls.jobs.any (fun j => j.who == 3) || !d.grn.aheadEnd.isEmpty
  ((d.set F.GRN_COMMIT_STATUS (statusCode .eTimeout)).setB F.GRN_STAT_ERASING more).grnAbort

/-- Boot ROM or the steward answers the mailbox command: BUSY clears, STATUS and LEN are copied, STW_MB_REPLY (R516). -/
def Dev.mbReply (d : Dev) (st len : Nat) : Dev :=
  let d1 := (d.set F.STW_MBREPLY_STATUS st).set F.STW_MBREPLY_LEN len
  (((d1.set F.STW_MBCMD_BUSY 0).set F.STW_MBCMD_STATUS st).set F.STW_MBCMD_LEN len).raise F.STW_INT_MBREPLY 0x1802 [0] 0 0 0

/-- An operation of a FLASHWRITE or FLASHERASE has ended; after the last boot ROM answers (R586). -/
def Dev.mbFlashEnded (d : Dev) (ok : Bool) : Dev :=
  match d.stw.flashCmd with
  | none => d
  | some (n, bad) =>
    if n ≤ 1 then
      ({ d with stw := { d.stw with flashCmd := none } } : Dev).mbReply (statusCode (if bad || !ok then .eTimeout else .done)) 0
    else { d with stw := { d.stw with flashCmd := some (n - 1, bad || !ok) } }

/-- What the end of a job brings about for whom it was; `ok` is false where it was abandoned (R450). -/
def Dev.jobEnded (d : Dev) (j : FlashJob) (ok : Bool) : Dev :=
  match j.who with
  | 1 => match d.grn.commit, ok with
    | some c, false => d.abortCommit c .eTimeout
    | _, _ => d
  | 2 => d.modFls fun x => { x with cmdEnd := some (if ok then .done else .eTimeout) }
  | 3 => if ok then d.modGrn fun g => { g with aheadEnd := g.aheadEnd ++ [j.bank] } else d.aheadFailed
  | 4 =>
    if ok then d.modGrn fun g => { g with scan := g.scan.map fun x =>
      if j.bank = 0 then { x with wearA := satInc (2 ^ 32 - 1) x.wearA } else { x with wearB := satInc (2 ^ 32 - 1) x.wearB } }
    else d.grnAbort
  | 5 => d.mbFlashEnded ok
  | _ => d

/-- The first job of a select has finished, or was abandoned. The next one starts, and reads that can be served are.
 (DEDUCED, log entry 60). -/
def Dev.finishJob (d : Dev) (sel : Nat) (ok : Bool) : Dev :=
  match d.flashJob sel with
  | none => d
  | some j =>
    let d1 := d.modFls fun x => { x with jobs := dropFirstJob sel x.jobs }
    let d2 := if !ok then d1.flashTear j else if j.erase then d1.flashErase sel j.addr else d1.flashProgram sel j.addr j.data
    let d3 := (d2.jobEnded j ok).startJobs
    if d3.flashIdle sel then d3.serveReads sel else d3

/-- Every job is cut off where it stands: those begun are torn (R444, R449). -/
def Dev.cutJobs (d : Dev) : Dev :=
  ((([0, 1].filterMap d.flashJob).filter fun j => j.started).foldl Dev.flashTear d).modFls fun x =>
    { x with jobs := [], gather := none, reads := [] }

end Sys2Proof.Machine
end

