-- ==== Sys2Proof/Machine/Flash.lean ====
section
/-!
DEFINITION. The flash port, Windows D and W, and the Granary (chapter 15).
-/
namespace Sys2Proof.Machine

open Sys2Proof

/-! ### FLS_CMD (R428) -/

/-- Starts the FLS_CMD operation OP on select `sel`. RESET runs again in the profile's form where CLANES is not 0.
 (PRESUMED, log entry 58). -/
def Dev.flsOp (d : Dev) (sel op len : Nat) : Dev :=
  let a := d.get F.FLS_CMDADDR_ADDR
  let d1 := (d.set F.FLS_CMD_BUSY 1).modFls fun x => { x with op := some (op, len), cmdEnd := none }
  match op with
  | 1 => d1.flashSend sel 0x9F 0 []
  | 2 => d1.flashSend sel 0x5A a []
  | 3 => d1.flashSend sel 0x05 0 []
  | 4 => d1.addJobs [{ sel := sel, addr := sectorOf a, erase := true, who := 2 }]
  | 5 => d1.flashSend sel 0xB9 0 []
  | 6 => d1.flashSend sel 0xAB 0 []
  | _ =>
    let r := fun (d : Dev) => (d.flashSend sel 0x66 0 []).flashSend sel 0x99 0 []
    if d.get (profA sel 14 2) = 0 then r d1 else r (r d1)

/-- A write of FLS_CMD (R428, R454). (DEDUCED, log entry 60). -/
def Dev.writeFlsCmd (d : Dev) (w : Word) : Dev :=
  let v := w.toNat
  let op := bits v 12 3
  let len := bits v 0 9
  let sel := bits v 15 1
  let go := bitOf v 31
  d.regWrite .bar0 R.FLS_CMD 0 w
    [(op == 0 && (go || d.get F.FLS_CMD_OP != 0), .eField),
     (op == 2 && (len == 0 || decide (256 < len)) && (go || d.get F.FLS_CMD_LEN != len || d.get F.FLS_CMD_OP != 2), .eRange),
     (go && d.is F.FLS_CMD_BUSY, .eBusy),
     (go && op == 4 && d.bankSector sel (d.get F.FLS_CMDADDR_ADDR), .eLocked)] fun n =>
      let n1 := n.set F.FLS_CMD_GO 0
      if go then n1.flsOp sel op len else n1

/-- The word with GO and an OP. -/
def flsWord (w : Word) (op : Nat) : Word :=
  BitVec.ofNat 32 (w.toNat % 2 ^ 31 - bits w.toNat 12 3 * 2 ^ 12 + op * 2 ^ 12 + 2 ^ 31)

def execReadId (w : Word) (s : State) : Out' := act s fun d => d.writeFlsCmd (flsWord w 1)

def execReadSfdp (w : Word) (s : State) : Out' := act s fun d => d.writeFlsCmd (flsWord w 2)

def execReadStatus (w : Word) (s : State) : Out' := act s fun d => d.writeFlsCmd (flsWord w 3)

def execSectorErase (w : Word) (s : State) : Out' := act s fun d => d.writeFlsCmd (flsWord w 4)

def execDeepPowerDown (w : Word) (s : State) : Out' := act s fun d => d.writeFlsCmd (flsWord w 5)

def execRelease (w : Word) (s : State) : Out' := act s fun d => d.writeFlsCmd (flsWord w 6)

def execFlashReset (w : Word) (s : State) : Out' := act s fun d => d.writeFlsCmd (flsWord w 7)

/-- How many of the returned bytes an operation places in FLS_CMDBUF. -/
def flsReturned (op len : Nat) : Nat := match op with | 1 => 3 | 2 => len | 3 => 1 | _ => 0

/-- FLS_CMD_DONE with the bytes that the flash returned. An ERASE is done when its polling has ended. -/
def Dev.flsDone (d : Dev) (data : List Byte) : Dev :=
  match d.fls.op with
  | none => d
  | some (op, len) =>
    let st := if op = 4 then d.fls.cmdEnd else some .done
    match st with
    | none => d
    | some st =>
      let d1 := (d.putBytes F.FLS_CMDBUF_DATA 0 (data.take (flsReturned op len))).modFls fun x => { x with op := none, cmdEnd := none }
      ((d1.set F.FLS_CMD_BUSY 0).set F.FLS_CMD_STATUS (statusCode st)).raise F.FLS_INT_CMDDONE 0x1301 [0] 0 0 0

def execFlsCmdDone (data : List Byte) (s : State) : Out' := act s fun d => d.flsDone data

/-! ### Window W writes (R432, R433, R435) -/

/-- A word joins the gathered run, or ends it and begins another. -/
def Dev.gatherWord (d : Dev) (sel a : Nat) (l : List Byte) : Dev :=
  let fresh := fun (d : Dev) => d.modFls fun x => { x with gather := some (sel, a, l) }
  let d1 := match d.fls.gather with
    | none => fresh d
    | some (g, b, r) =>
      if g = sel ∧ a = b + r.length ∧ a / 256 = b / 256 then d.modFls fun x => { x with gather := some (g, b, r ++ l) }
      else fresh d.endGather
  if a % 256 = 252 then d1.endGather else d1

/-- A steward write of `n` bytes at offset `x` of Window D (0) or W (1). -/
def Dev.windowWrite (d : Dev) (win x n : Nat) (v : Word) : Dev :=
  if win = 0 then d.windowError .eState (0x20000000 + x)
  else if n ≠ 4 ∨ x % 4 ≠ 0 then d.windowError .eAlign (0x30000000 + x)
  else if d.get F.FLS_WMAP_SIZE ≤ x then d.emit .accessFault 0 [0x30000000 + x] []
  else if d.bankByte x then d.windowError .eLocked (0x30000000 + x)
  else d.gatherWord (d.get F.FLS_WMAP_SEL) (d.get F.FLS_WBASE_BASE + x) (leBytes 4 v.toNat)

/-- WINDOW_W_WRITE; `win` 0 is a write to Window D, which always fails. (DESIGN CHOICE, log entry 71). -/
def execWindowWWrite (win : Fin 2) (x : BitVec 28) (n : Fin 5) (v : Word) (s : State) : Out' :=
  act s fun d => d.windowWrite win.val x.toNat n.val v

def execGatherIdleTimeout (s : State) : Out' := act s Dev.endGather

/-- A write of FLS_CTRL. -/
def Dev.writeFlsCtrl (d : Dev) (w : Word) : Dev :=
  d.regWrite .bar0 R.FLS_CTRL 0 w [] fun n =>
    let n1 := n.set F.FLS_CTRL_FLUSH 0
    if bitOf w.toNat 1 then n1.endGather else n1

def execFlsFlush (w : Word) (s : State) : Out' := act s fun d => d.writeFlsCtrl (withBit w 1)

/-! ### Polling (R433, R434, R450) -/

/-- FLASH_POLL with the status byte read; `gap` says that SUSGAP still runs since the last resume. (PRESUMED, log entry 58). -/
def Dev.flashPoll (d : Dev) (sel : Nat) (status : Byte) (gap : Bool) : Dev :=
  match d.flashJob sel with
  | none => d
  | some j =>
    if !j.started || j.suspended then d
    else
      let d1 := d.flashSend sel 0x05 0 []
      if status.getLsbD 0 then
        if d1.maySuspend sel gap && d1.fls.reads.any (fun r => d1.windowSel r.win == sel) then d1.suspendErase sel else d1
      else d1.finishJob sel true

def execFlashPoll (sel : Fin 2) (status : Byte) (gap : Bool) (s : State) : Out' :=
  act s fun d => d.flashPoll sel.val status gap

/-- FLS_TIMEOUT: the program or erase of a select is abandoned. -/
def Dev.flsTimeout (d : Dev) (sel : Nat) : Dev :=
  match d.flashJob sel with
  | none => d
  | some j =>
    if !j.started then d
    else (((d.flsError .eTimeout j.addr).raise F.FLS_INT_TIMEOUT 0x1300 [0] 0 0 0).oweFault 0x243 45).finishJob sel false

def execFlsTimeout (sel : Fin 2) (s : State) : Out' := act s fun d => d.flsTimeout sel.val

/-! ### Window reads (R429, R432, R434, R506) -/

/-- WINDOW_READ: at or beyond SIZE, and of a fetch from Window W, a bus error; a fetch that the cache holds and has not given up
before (`hit`) is served from it; else the read is served at once or waits. (DEDUCED, log entry 60). -/
def Dev.windowRead (d : Dev) (r : FlashRead) (hit gap : Bool) : Dev :=
  let size := d.get (if r.win = 0 then F.FLS_DMAP_SIZE else F.FLS_WMAP_SIZE)
  let addr := (if r.win = 0 then 0x20000000 else 0x30000000) + r.x
  if size ≤ r.x ∨ (r.win = 1 ∧ r.fetch) then d.emit .accessFault 0 [addr] []
  else
    let line := mapGet [] d.stw.icache (r.x - r.x % 32)
    if r.fetch && hit && !line.isEmpty then d.emit .readData 0 [addr] ((line.drop (r.x % 32)).take r.n)
    else
      let sel := d.windowSel r.win
      if d.flashIdle sel then d.serveRead r
      else
        let d1 := d.modFls fun x => { x with reads := x.reads ++ [r] }
        if d1.maySuspend sel gap then d1.suspendErase sel else d1

/-- (DESIGN CHOICE, log entry 71). -/
def execWindowRead (win : Fin 2) (x : BitVec 28) (n : Fin 5) (fetch hit gap : Bool) (s : State) : Out' :=
  act s fun d => d.windowRead ⟨win.val, x.toNat, n.val, fetch⟩ hit gap

/-- ERASE_RESUME: TSUS has passed; the waiting reads are served and RESUME is sent. -/
def Dev.eraseResume (d : Dev) (sel : Nat) : Dev :=
  if !((d.flashJob sel).any fun j => j.suspended) then d
  else
    let d1 := (d.serveReads sel).flashSend sel 0x7A 0 []
    (d1.modFls fun x => { x with jobs := modFirstJob sel (fun j => { j with suspended := false }) x.jobs }).showFls

def execEraseResume (sel : Fin 2) (s : State) : Out' := act s fun d => d.eraseResume sel.val

/-! ### Commits (R438, R439, R441, R446, R451) -/

/-- A write of GRN_COMMIT; `elapsed` says that the spacing since the last commit's start has passed. (DEDUCED, log entry 61). -/
def Dev.writeGrnCommit (d : Dev) (w : Word) (elapsed : Bool) : Dev :=
  let v := w.toNat
  let go := bitOf v 31
  let len := bits v 0 12
  d.regWrite .bar0 R.GRN_COMMIT 0 w
    [(decide (4076 < len) && (go || d.get F.GRN_COMMIT_LEN != len), .eRange),
     (go && bitOf v 12 && decide (1004 < len), .eRange),
     (go && !d.is F.GRN_STAT_READY, .eState), (go && d.is F.GRN_STAT_WRITING, .eBusy)] fun n =>
      let n1 := n.set F.GRN_COMMIT_GO 0
      if !go then n1
      else if n1.is F.GRN_STAT_FENCED then n1.commitFenced
      else
        let n2 := n1.set F.GRN_STAT_PENDING 1
        if !n2.grn.begun || elapsed || n2.get F.SUP_STAT_STAGE != 0 then n2.startCommit else n2

def execGrnCommit (w : Word) (elapsed : Bool) (s : State) : Out' := act s fun d => d.writeGrnCommit (withBit w 31) elapsed

def execGrnCommitStart (s : State) : Out' := act s Dev.startCommit

/-- GRN_DONE: every program of the commit has finished; the record is read back and checked (R438). -/
def Dev.grnDone (d : Dev) : Dev :=
  match d.grn.commit with
  | none => d
  | some c =>
    if d.fls.jobs.any fun j => j.who == 1 then d
    else
      let good := (recordAt (d.flashBytes (d.get F.FLS_WMAP_SEL) (d.grnAddr c.bank c.off) (4096 - c.off % 4096))).isSome
      let d1 := d.endCommit c (if good then .done else .eInternal)
      let d2 := if good then d1 else (d1.raise F.GRN_INT_VERIFY 0x1403 [0] 0 0 0).oweFault 0x228 47
      (d2.raise F.GRN_INT_DONE 0x1400 [0] 0 0 0).commitSeen

def execGrnDone (s : State) : Out' := act s Dev.grnDone

/-- GRN_ERASE_AHEAD_DONE: the wear count rises (R437, R442). -/
def Dev.eraseAheadDone (d : Dev) : Dev :=
  match d.grn.aheadEnd with
  | [] => d
  | b :: t =>
    let d1 := (d.modGrn fun g => { g with aheadEnd := t }).bump (wearFld b)
    (d1.setB F.GRN_STAT_ERASING (!t.isEmpty || d1.fls.jobs.any fun j => j.who == 3)).checkWear

def execGrnEraseAheadDone (s : State) : Out' := act s Dev.eraseAheadDone

/-! ### The scan (R440) -/

/-- Records of the rest `l` of a sector from offset `off` on: offset, SEQ, FLAGS, LEN, WEAR. The number bounds them. -/
def sectorRecords : Nat → Nat → List Byte → List (Nat × Nat × Nat × Nat × Nat)
  | 0, _, _ => []
  | n + 1, off, l =>
    match recordAt l with
    | none => []
    | some (seq, flags, len, wear) => (off, seq, flags, len, wear) :: sectorRecords n (off + recordSize len) (l.drop (recordSize len))

/-- Valid records of a bank, each with its offset in the bank. -/
def Dev.bankRecords (d : Dev) (b : Nat) : List (Nat × Nat × Nat × Nat × Nat) :=
  ((List.range 16).map fun k =>
    (sectorRecords 205 0 (d.flashBytes (d.get F.FLS_WMAP_SEL) (d.grnAddr b (4096 * k)) 4096)).map fun r =>
      (4096 * k + r.1, r.2)).flatten

/-- The record that no other one is newer than. -/
def newestRecord (l : List (Nat × Nat × Nat × Nat × Nat)) : Option (Nat × Nat × Nat × Nat × Nat) :=
  l.find? fun r => l.all fun t =>
    let k := (t.2.1 + 2 ^ 32 - r.2.1) % 2 ^ 32
    k == 0 || decide (2 ^ 31 ≤ k)

/-- The sector holds nothing but erased bytes. -/
def Dev.sectorBlank (d : Dev) (sel a : Nat) : Bool :=
  !d.flash.any fun e => decide (flashKey sel a ≤ e.1) && decide (e.1 < flashKey sel a + 4096)

/-- First sector for the next record of a bank. -/
def Dev.scanSector (d : Dev) (b : Nat) : Nat :=
  match newestRecord (d.bankRecords b) with
  | none => 0
  | some r => (r.1 / 4096 + 1) % 16

/-- The erases a scan makes in a bank. -/
def Dev.scanErases (d : Dev) (b : Nat) : List FlashJob :=
  (([d.scanSector b, d.scanSector b + 1].map fun k => d.bankErase b k 4)).filter fun j => !d.sectorBlank j.sel j.addr

def Dev.scanWear (d : Dev) (b : Nat) : Nat := ((newestRecord (d.bankRecords b)).map fun r => r.2.2.2.2).getD 0

/-- The selected record of both banks: Window W offset, SEQ, FLAGS, LEN. -/
def Dev.scanSelect (d : Dev) : Option (Nat × Nat × Nat × Nat) :=
  let l := [0, 1].map fun b => (d.bankRecords b).map fun r => (d.bankBase b + r.1, r.2)
  (newestRecord l.flatten).map fun r => (r.1, r.2.1, r.2.2.1, r.2.2.2.1)

/-- Both banks are read, and sectors that must be blank and are not are erased. -/
def Dev.scan (d : Dev) : Dev :=
  if d.is F.GRN_STAT_SCANNING then d
  else
    let jobs := d.scanErases 0 ++ d.scanErases 1
    let x : ScanEnd := ⟨d.scanSelect, d.scanWear 0, d.scanWear 1⟩
    let next := mapPut (0, 0) (mapPut (0, 0) d.grn.next 0 (d.scanSector 0, 0)) 1 (d.scanSector 1, 0)
    ((d.set F.GRN_STAT_SCANNING 1).modGrn fun g => { g with scan := some x, next := next }).addJobs jobs

/-- A write of GRN_CTRL (R440, R446). (DEDUCED, log entry 61). -/
def Dev.writeGrnCtrl (d : Dev) (w : Word) : Dev :=
  let go := bitOf w.toNat 2
  d.regWrite .bar0 R.GRN_CTRL 0 w
    [(go && (d.is F.GRN_STAT_WRITING || d.is F.GRN_STAT_PENDING || d.is F.GRN_STAT_ERASING), .eBusy)] fun n =>
      let n1 := n.set F.GRN_CTRL_SCAN 0
      if go then n1.scan else n1

def execGrnScan (w : Word) (s : State) : Out' := act s fun d => d.writeGrnCtrl (withBit w 2)

/-- GRN_SCAN_DONE: no erase of the scan is left. (DEDUCED, log entry 61). -/
def Dev.scanDone (d : Dev) : Dev :=
  match d.grn.scan with
  | none => d
  | some x =>
    if d.fls.jobs.any fun j => j.who == 4 then d
    else
      let d1 := d.modGrn fun g => { g with scan := none }
      let d2 := match x.sel with
        | none => (d1.set F.GRN_STAT_FOUND 0).set F.GRN_LASTSEQ_SEQ 0xFFFFFFFF
        | some (a, seq, flags, len) =>
          (((((d1.set F.GRN_STAT_FOUND 1).set F.GRN_LASTSEQ_SEQ seq).set F.GRN_SELADDR_ADDR a).set F.GRN_SELSEQ_SEQ seq).set
            F.GRN_SELINFO_FLAGS flags).set F.GRN_SELINFO_LEN len
      let d3 := (d2.set F.GRN_WEARA_COUNT x.wearA).set F.GRN_WEARB_COUNT x.wearB
      (((d3.set F.GRN_STAT_SCANNING 0).set F.GRN_STAT_READY 1).raise F.GRN_INT_SCANDONE 0x1402 [0] 0 0 0).checkWear

def execGrnScanDone (s : State) : Out' := act s Dev.scanDone

/-! ### Profile writes (R427) -/

/-- Read opcodes of Table 15.1 with the lanes of command, address and data, and whether in DDR with CMDX. -/
def readOps : List (Nat × Nat × Nat × Nat × Bool) :=
  [(0x03, 0, 0, 0, false), (0x13, 0, 0, 0, false), (0x0B, 0, 0, 0, false), (0x0C, 0, 0, 0, false), (0x3B, 0, 0, 1, false),
   (0x3C, 0, 0, 1, false), (0xBB, 0, 1, 1, false), (0xBC, 0, 1, 1, false), (0x6B, 0, 0, 2, false), (0x6C, 0, 0, 2, false),
   (0xEB, 0, 2, 2, false), (0xEC, 0, 2, 2, false), (0x8B, 0, 0, 3, false), (0x7C, 0, 0, 3, false), (0xCB, 0, 3, 3, false),
   (0xCC, 0, 3, 3, false), (0xEE, 3, 3, 3, true)]

/-- Word A of a profile names opcodes of Table 15.1 in their lane formats. (DEDUCED, log entry 60). -/
def profOk (v : Nat) : Bool :=
  let c := bits v 14 2
  let a := bits v 12 2
  readOps.any (fun r => r.1 == bits v 24 8 && r.2.1 == c && r.2.2.1 == a && r.2.2.2.1 == bits v 10 2 &&
    r.2.2.2.2 == bitOf v 6 && (!r.2.2.2.2 || bitOf v 5)) &&
  ([0x02, 0x12].contains (bits v 16 8) ||
    ([0x32, 0x34].contains (bits v 16 8) && c == 0 && a == 0 && bits v 8 2 == 2 && !bitOf v 6))

end Sys2Proof.Machine
end

