-- ==== Sys2Proof/Machine/Guard.lean ====
section
/-!
DEFINITION. Guarding stored words (chapter 16): the steward's accesses to the guarded memories, fills, injection, the Gleaner
and the leaky buckets.
-/
namespace Sys2Proof.Machine

open Sys2Proof

/-! ### Steward accesses (R460, R466, R505) -/

/-- Bytes of a guarded memory as the steward sees it; the partition is absent while none exists (Table 18.1, R505). -/
def Dev.memSize (d : Dev) (m : Nat) : Nat := if m = 1 then 262144 else if m = 2 then 65536 else d.partBytes

/-- Base of a guarded memory in the steward's map (Table 18.1). -/
def memBase (m : Nat) : Nat := if m = 1 then 0x10000000 else if m = 2 then 0x60000000 else 0x50000000

/-- A steward store of `n` bytes. -/
def Dev.stewardStore (d : Dev) (m a n v : Nat) : Dev :=
  let w := a / 8
  if n = 4 ∧ a % 8 = 4 ∧ (d.heldAt m).map Prod.fst = some w then
    (d.setHeld m none).memPut m w (((d.heldAt m).map Prod.snd).getD 0 + v * 2 ^ 32)
  else
    let d1 := d.performHeld m
    if n = 4 ∧ a % 8 = 0 then d1.setHeld m (some (w, v)) else d1.memPutBytes m (n + 1) a (leBytes n v)

/-- The read cannot be delivered to the steward: a word is uncorrectable, or a partition cell is marked (Table 16.3).
 (DEDUCED, log entry 62). -/
def Dev.cellMarked (d : Dev) (m a : Nat) : Bool := m == 3 && d.ecc.partPoison.contains (d.lar.partBase + a / 64)

/-- A steward load or instruction fetch of `n` bytes. (DEDUCED, log entry 62). -/
def Dev.stewardLoad (d : Dev) (m a n : Nat) : Dev :=
  let marked := d.cellMarked m a || d.cellMarked m (a + n - 1)
  let r := (d.performHeld m).memBytes m 0 a n
  if r.2.2.isSome || marked then r.1.emit .accessFault 0 [memBase m + a] [] else r.1.emit .readData 0 [memBase m + a] r.2.1

/-- STEWARD_MEMORY_ACCESS to data SRAM (0), endpoint RAM (1) or the partition (2); `kind` is 0 a load, 1 a store, 2 an
instruction fetch, which only data SRAM allows. -/
def Dev.stewardAccess (d : Dev) (m kind a n v : Nat) : Dev :=
  if d.memSize m < a + n ∨ n = 0 ∨ (kind = 2 ∧ m ≠ 1) then d.emit .accessFault 0 [memBase m + a] []
  else if kind = 1 then d.stewardStore m a n v
  else d.stewardLoad m a n

/-- (DESIGN CHOICE, log entry 71). -/
def execStewardMemoryAccess (mem kind : Fin 3) (a : BitVec 24) (n : Fin 5) (v : Word) (s : State) : Out' :=
  act s fun d => d.stewardAccess (mem.val + 1) kind.val a.toNat n.val (v.toNat % 2 ^ (8 * n.val))

def execMergeIdleExpiry (mem : Fin 3) (s : State) : Out' := act s fun d => d.performHeld (mem.val + 1)

/-! ### Fills (R463, R471, R473, R479) -/

/-- A write of ECC_FILL. -/
def Dev.writeEccFill (d : Dev) (w : Word) : Dev :=
  let v := w.toNat
  let go := bitOf v 31
  let m := bits v 24 2
  let base := d.get F.ECC_FILLBASE_BASE
  let len := d.get F.ECC_FILLLEN_LEN
  d.regWrite .bar0 R.ECC_FILL 0 w
    [(d.is F.ECC_FILL_BUSY, .eBusy), (go && m == 0, .eField), (go && (base % 8 != 0 || len % 8 != 0), .eAlign),
     (go && len == 0, .eRange), (go && m != 0 && (m != 3 || d.partBytes != 0) && decide (d.memSize m < base + len), .eRange),
     (go && m == 3 && d.partBytes == 0, .eState)] fun n =>
      let n1 := n.set F.ECC_FILL_GO 0
      if go then
        let n2 := n1.set F.ECC_FILL_BUSY 1
        { n2 with ecc := { n2.ecc with fillAt := base / 8, fillLeft := len / 8 } }
      else n1

def execEccFill (w : Word) (s : State) : Out' := act s fun d => d.writeEccFill (withBit w 31)

/-- Writes `n` words of zeros. -/
def Dev.fillWords (d : Dev) (m : Nat) : Nat → Nat → Dev
  | _, 0 => d
  | w, n + 1 => (d.memWrite m w 0).fillWords m (w + 1) n

/-- A fill ends with a status. (DEDUCED, log entry 62). -/
def Dev.fillEnd (d : Dev) (st : Status) : Dev :=
  let d1 := { d with ecc := { d.ecc with fillAt := 0, fillLeft := 0 } }
  ((d1.set F.ECC_FILL_BUSY 0).set F.ECC_FILL_STATUS (statusCode st)).raise F.ECC_INT_FILLDONE 0x1505 [0] 0 (statusCode st) 0

/-- (DEDUCED, log entry 62). -/
def Dev.fillDone (d : Dev) : Dev :=
  if d.is F.ECC_FILL_BUSY then (d.fillWords (d.get F.ECC_FILL_MEM) d.ecc.fillAt d.ecc.fillLeft).fillEnd .done else d

def execEccFillDone (s : State) : Out' := act s Dev.fillDone

/-- What a steward watchdog reset does to the guarded memories (R471): steward SRAM is wiped, held stores are discarded, and a
fill of it ends. -/
def Dev.eccAtWatchdog (d : Dev) : Dev :=
  let d1 := { d with ecc := { d.ecc with sram := [], held := [] } }
  if d1.is F.ECC_FILL_BUSY && d1.get F.ECC_FILL_MEM == 1 then d1.fillEnd .eFlushed else d1

/-! ### Buckets, notices, injection and counters -/

/-- ECC_LEAK_TICK (R464). -/
def Dev.leakTick (d : Dev) : Dev := (List.range 16).foldl (fun d b => d.set (lvlFld b) (d.get (lvlFld b) - 1)) d

def execEccLeakTick (s : State) : Out' := act s Dev.leakTick

/-- ECC_LAR_UE_NOTICE: the second of a bank's spacing ends (R466, R274). -/
def Dev.larUeNotice (d : Dev) (b : Nat) : Dev :=
  let set := fun (d : Dev) (n : Nat) => { d with ecc := { d.ecc with spacing := mapPut 0 d.ecc.spacing b n } }
  if mapGet 0 d.ecc.spacing b = 2 then
    (set d 1).raise F.ECC_INT_LARUE 0x1501 [0] b 0 (d.get (F.ECC_LBCNT_UE b))
  else set d 0

def execEccLarUeNotice (bank : Fin 16) (s : State) : Out' := act s fun d => d.larUeNotice bank.val

/-- A write of ECC_INJ (R467, R473, R479). (DEDUCED, log entry 62). -/
def Dev.writeEccInj (d : Dev) (w : Word) : Dev :=
  let v := w.toNat
  let arm := bitOf v 31
  let mask := bits v 8 8
  let badMask := mask == 0 || (synWeight mask % 2 == 1 && synWeight mask != 1)
  d.regWrite .bar0 R.ECC_INJ 0 w
    [(d.is F.ECC_INJ_ARM, .eBusy), (decide (18 < bits v 24 5), .eField),
     (bits v 0 8 == 0 && (arm || d.get F.ECC_INJ_COUNT != 0), .eRange),
     (badMask && (arm || d.get F.ECC_INJ_MASK != mask), .eRange)] id

def execEccInjArm (w : Word) (s : State) : Out' := act s fun d => d.writeEccInj (withBit w 31)

/-- A write of ECC_GLCLR (R470). -/
def Dev.writeEccGlclr (d : Dev) (w : Word) : Dev :=
  d.regWrite .bar0 R.ECC_GLCLR 0 w [] fun n =>
    if bitOf w.toNat 0 then
      (((n.resetRange 0x14100 0x14200).set F.ECC_GLSTAT_OVFSAT 0).set F.ECC_GLSTAT_OVF 0).set F.ECC_GLSTAT_COUNT 0
    else n

def execEccGlclr (w : Word) (s : State) : Out' := act s fun d => d.writeEccGlclr (withBit w 0)

/-- A write of ECC_CTRL. -/
def Dev.writeEccCtrl (d : Dev) (w : Word) : Dev :=
  d.regWrite .bar0 R.ECC_CTRL 0 w [] fun n =>
    if bitOf w.toNat 0 then (n.resetRange 0x14020 0x14060).resetRange 0x14068 0x1406C else n

def execEccCntclr (w : Word) (s : State) : Out' := act s fun d => d.writeEccCtrl (withBit w 0)

end Sys2Proof.Machine
end

