-- ==== Sys2Proof/Machine/LcsOps.lean ====
section
/-!
DEFINITION. The fuses and the key store (chapter 19): what blowing a fuse leaves, what the LCS registers show of the fuses, and
the key-store wipe.
-/
namespace Sys2Proof.Machine

open Sys2Proof

/-- LCS_STAT.STATE (Table 19.1). -/
def lifeCode : Life → Nat
  | .blank => 0 | .develop => 1 | .deployed => 2 | .reclaim => 3 | .void => 4

/-- The fuses of the new state, and for an unlock those of the next cycle (Table 19.4). -/
def Dev.blowState (d : Dev) (dest : Life) : Dev :=
  { d with fuse := { d.fuse with life := dest, cycle := if d.fuse.life = .reclaim ∧ dest = .develop then d.fuse.cycle + 1 else d.fuse.cycle } }

/-- The fuse field that LCS_PROG.FIELD names, of the present cycle (Table 19.2). -/
def Dev.fuseField (d : Dev) (f : Nat) : FuseField :=
  match f with
  | 1 => mapGet {} d.fuse.imgdig d.fuse.cycle
  | 2 => d.fuse.unldig
  | 3 => mapGet {} d.fuse.kdev d.fuse.cycle
  | 4 => mapGet {} d.fuse.kprod d.fuse.cycle
  | _ => {}

/-- The present version floor (R526). -/
def Dev.versionFloor (d : Dev) : Nat := d.fuse.floors.foldl max 0

/-- Programs a fuse field with its value; where `part`, only some of its fuses are blown, which ones the spec does not
determine (R529, R540). (DESIGN CHOICE, log entry 4). -/
def Dev.blowField (d : Dev) (f : Nat) (v : List Byte) (part : Bool) : Dev :=
  let w := if part then (List.range v.length).map fun i => v.getD i 0 &&& Config.fresh (d.free + i) 8 else v
  let x : FuseField := { prog := true, partly := part, val := w }
  let z := d.fuse
  let z' := match f with
    | 1 => { z with imgdig := mapPut {} z.imgdig z.cycle x }
    | 2 => { z with unldig := x }
    | 3 => { z with kdev := mapPut {} z.kdev z.cycle x }
    | 4 => { z with kprod := mapPut {} z.kprod z.cycle x }
    | _ => { z with floors := z.floors ++ [leNat (w.take 4)] }
  { d with fuse := z', free := if part then d.free + v.length else d.free }

/-- What the LCS registers show of the fuses (Table 19.8). (DEDUCED, log entry 67). -/
def Dev.showLcs (d : Dev) : Dev :=
  let z := d.fuse
  let d1 := (((d.setB F.LCS_STAT_UNLDIG (d.fuseField 2).prog).setB F.LCS_STAT_KPROD (d.fuseField 4).prog).setB
    F.LCS_STAT_KDEV (d.fuseField 3).prog).setB F.LCS_STAT_IMGDIG (d.fuseField 1).prog
  let d2 := ((d1.setB F.LCS_STAT_DEBUG (z.life == .develop || z.life == .reclaim)).set F.LCS_STAT_CYCLE z.cycle).set
    F.LCS_STAT_STATE (lifeCode z.life)
  (((d2.set F.LCS_UIDL_UID z.uid).set F.LCS_UIDH_UID (z.uid / 2 ^ 32)).set F.LCS_FLOOR_FLOOR d.versionFloor).set
    F.LCS_FLOORCNT_USED z.floors.length

/-- A retired slot has every fuse blown (R525). -/
def retire (x : FuseField) : FuseField :=
  if x.prog && !x.retired then { x with retired := true, val := List.replicate 32 0xFF } else x

/-- Retires the slots of a row but the one of cycle `keep`. -/
def retireRow (keep : Option Nat) (m : Map FuseField) : Map FuseField :=
  m.map fun e => if keep = some e.1 then e else (e.1, retire e.2)

/-- The retirement of R533. -/
def Dev.retireSlots (d : Dev) : Dev :=
  let z := d.fuse
  let z1 := { z with kdev := retireRow (if z.life = .develop then some z.cycle else none) z.kdev
                     kprod := retireRow (if z.life = .develop ∨ z.life = .deployed then some z.cycle else none) z.kprod }
  { d with fuse := if z.life = .void then { z1 with root := List.replicate 32 0xFF, rootRetired := true } else z1 }

/-- DSK of the present state and cycle (R527). (DEDUCED, log entry 67). -/
def Dev.deriveDsk (d : Dev) : Dev :=
  let m : List Byte := [0x43, 0x41, 0x4D, 0x4C, 0x43, 0x53, BitVec.ofNat 8 (lifeCode d.fuse.life), BitVec.ofNat 8 d.fuse.cycle]
  { d with key := { d.key with dsk := hmac256 d.fuse.root m } }.set F.LCS_STAT_DSKOK 1

/-- The key-store wipe of start-up step 6 (R533). -/
def Dev.wipeKeys (d : Dev) : Dev :=
  let d1 := { d with key := { d.key with kd := none, dsk := [], buf := [] } }.resetRange 0x170A0 0x170C0
  ((d1.set F.LCS_STAT_KD 0).deriveDsk.retireSlots).showLcs

/-- A fresh challenge from the entropy source in RECLAIM; 0 elsewhere (R535). (DESIGN CHOICE, log entry 4). -/
def Dev.drawChal (d : Dev) : Dev :=
  if d.fuse.life = .reclaim then
    { (List.range 4).foldl (fun x i => x.set (F.LCS_CHAL_CHAL i) (Config.fresh (d.free + i) 32).toNat) d with free := d.free + 4 }
  else d.resetRange 0x17030 0x17040

/-- A reset cuts off a blowing of fuses: a transition has taken place or not, as each group's majority falls, and a field stays
partly programmed (R529, R540). (DESIGN CHOICE, log entry 4). -/
def Dev.cutFuses (d : Dev) : Dev :=
  let d1 := match d.key.trans with
    | none => d
    | some dest => { (if (Config.fresh d.free 1).toNat = 1 then d.blowState dest else d) with free := d.free + 1 }
  match d.key.prog with
  | none => d1
  | some (f, v) => d1.blowField f v true

end Sys2Proof.Machine
end

