-- ==== Sys2Proof/Machine/Pd.lean ====
section
/-!
DEFINITION. Meanings of the Type-C and Power Delivery commands (chapter 04).
-/
namespace Sys2Proof.Machine

open Sys2Proof

/-- A PD event that is fault source `src` of the port (R122). -/
def Dev.pdFault (d : Dev) (p bit arg src : Nat) : Dev := (d.pdEvent p bit arg).fault (0x210 + p) src

/-- The port is in MoistureHold, fenced, or its PHY is held: nothing passes. (DEDUCED, log entry 26). -/
def Dev.pdDeaf (d : Dev) (p : Nat) : Bool := d.is (F.PD_STAT_FENCED p) || d.phyHeld || !d.attached p

/-! ### Attach and detach -/

/-- Roles a port may attach in under PD_CTRL.ROLE: 0 Rd, 1 Rp, 2 DRP, 3 open (R99). -/
def roleAllows (role : Nat) (src : Bool) : Bool := role == 2 || (role == 0 && !src) || (role == 1 && src)

/-- The VBUS sense of a port at the moment a command carries it: PD_VBUS in 20 mV and 10 mA (Table 04.12). (DESIGN CHOICE, log
entry 76). -/
def Dev.vbusSample (d : Dev) (p volt cur : Nat) : Dev := (d.set (F.PD_VBUS_VOLT p) volt).set (F.PD_VBUS_CUR p) cur

/-- Attach as a sink (R99, R125): default USB power until a contract, data role UFP. -/
def Dev.attachSink (d : Dev) (p orient adv : Nat) : Dev :=
  let d1 := ((((d.set (F.PD_STAT_TCSTATE p) 2).set (F.PD_STAT_ORIENT p) orient).set (F.PD_STAT_PWRROLE p) 0).set
    (F.PD_STAT_DATAROLE p) 0).set (F.PD_INT_ATTACH p) 1
  (d1.modPort p fun x => { x with adv := adv, limited := false, ovp := false, vin := false, lost := false }).selectInput

/-- UP takes the source role: the charger runs in reverse, and an open session, which loses its input, closes with INPUT_LOST (R132,
R151). (DESIGN CHOICE, log entry 75). -/
def Dev.startReverse (d : Dev) : Dev :=
  let d1 := if d.pack.sess then (d.closeSession 3 7).oweFault 0x218 9 else d.set F.CHG_STAT_STATE 7
  d1.selectInput

/-- UP leaves the source role: the charger is off. -/
def Dev.endReverse (d : Dev) : Dev := if d.get F.CHG_STAT_STATE = 7 then d.set F.CHG_STAT_STATE 0 else d

/-- The port may take the source role now: not from S4 on (R120), and UP only where the charger may run in reverse. -/
def Dev.maySource (d : Dev) (p : Nat) : Bool := d.get F.SUP_STAT_STAGE != 4 && (p != 0 || d.mayReverse)

/-- VBUS is sourced at vSafe5V, a DS port's reservation is at its Type-C Current (R109), UP's comes from the charger (R132). -/
def Dev.sourceOn (d : Dev) (p : Nat) : Dev :=
  let d1 := (d.reserve p (typecWatts (d.get (F.PD_CTRL_RPVAL p)))).modPort p fun x => { x with vbg := true, mv := 5000 }
  if p = 0 then d1.startReverse else d1

/-- Attach as a source in state `tc`: 3, or 5 for a debug accessory (R100, R109): data role DFP, VBUS on. VCONN is sourced at every
attach but a debug accessory's, whose partner uses both CC pins: the spec does not say whether an Ra is asked for. (DESIGN CHOICE, log
entry 77). -/
def Dev.attachSource (d : Dev) (p tc orient : Nat) : Dev :=
  let d1 := (((((d.set (F.PD_STAT_TCSTATE p) tc).set (F.PD_STAT_ORIENT p) orient).set (F.PD_STAT_PWRROLE p) 1).set
    (F.PD_STAT_DATAROLE p) 1).set (F.PD_STAT_VCONN p) (if tc = 5 then 0 else 1)).set (F.PD_INT_ATTACH p) 1
  d1.sourceOn p

/-- TYPEC_ATTACH: a termination stable for the debounce attaches the port in a role PD_CTRL.ROLE allows (R97, R99, R100).
`kind` is 0 source partner, 1 sink partner, 2 debug accessory, 3 audio accessory. A DRP with TRYSNK meeting a sink partner goes to
Try.SNK first; there a source partner attaches it as sink, and a sink partner still found attaches it as source. (DEDUCED, log entry 26). -/
def Dev.typecAttach (d : Dev) (develop : Bool) (p kind orient adv : Nat) : Dev :=
  let role := d.get (F.PD_CTRL_ROLE p)
  let tc := d.tcState p
  if tc ≠ 0 ∧ tc ≠ 1 ∧ tc ≠ 4 then d
  else match kind with
    | 0 => if d.is (F.PD_STAT_FENCED p) || roleAllows role false then d.attachSink p orient adv else d
    | 1 =>
      if !d.is (F.PD_STAT_FENCED p) && roleAllows role true && d.maySource p then
        if tc ≠ 4 ∧ role = 2 ∧ d.is (F.PD_CTRL_TRYSNK p) then d.set (F.PD_STAT_TCSTATE p) 4 else d.attachSource p 3 orient
      else d
    | 2 =>
      if develop && d.is (F.PD_CTRL_DBGACC p) && !d.is (F.PD_STAT_FENCED p) && roleAllows role true && d.maySource p then
        d.attachSource p 5 orient
      else d
    | _ => d

def execTypecAttach (port : Fin 5) (kind : Fin 4) (orient : Fin 2) (adv : Fin 3) (s : State) : Out' :=
  act s fun d => d.rouse.followPort (d.rouse.typecAttach (s.dev.fuse.life == .develop) port.val kind.val orient.val adv.val) port.val

/-- TYPEC_DETACH: the partner goes; contract, reservation and Haywain mode end (R109, R115). In Try.SNK it ends the try. -/
def Dev.typecDetach (d : Dev) (p : Nat) : Dev :=
  if d.attached p then (d.portDetach p).set (F.PD_INT_ATTACH p) 1
  else if d.tcState p = 4 then d.set (F.PD_STAT_TCSTATE p) 0
  else d

def execTypecDetach (port : Fin 5) (s : State) : Out' :=
  act s fun d => d.rouse.followUsb (d.rouse.typecDetach port.val) port.val

/-! ### Receiving -/

/-- The type, extended flag and number of data objects of a message header. -/
def hdrType (h : Nat) : Nat := bits h 0 5
def hdrExt (h : Nat) : Bool := bitOf h 15
def hdrNum (h : Nat) : Nat := bits h 12 3
def hdrId (h : Nat) : Nat := bits h 9 3

/-- A Structured VDM of version 2.x (Table 04.3). (PRESUMED, log entry 23). -/
def isVdm2 (m : List Byte) : Bool :=
  let v := (pdObjects (m.drop 2)).headD 0
  bitOf v 15 && bits v 13 2 == 1

/-- The extended header of an extended message. -/
def extHeader (m : List Byte) : Nat := leNat ((m.drop 2).take 2)

/-- The messages of Table 04.3 by their type numbers in USB Power Delivery Revision 3.1. (PRESUMED, log entry 23). -/
def pdSupported (m : List Byte) : Bool :=
  let h := pdHeader m
  if hdrExt h then
    ([1, 2, 6, 7, 12, 15, 17, 18].contains (hdrType h) ||
      (hdrType h == 16 && (bitOf (extHeader m) 10 || [1, 2, 3, 4].contains (m.getD 4 0).toNat))) && bitOf (extHeader m) 15
  else if hdrNum h = 0 then [1, 3, 4, 6, 7, 8, 9, 10, 11, 12, 13, 16, 17, 18, 20, 22].contains (hdrType h)
  else [1, 2, 4, 6, 9, 10].contains (hdrType h) || (hdrType h == 15 && isVdm2 m)

def isControl (m : List Byte) (t : Nat) : Bool :=
  !hdrExt (pdHeader m) && hdrNum (pdHeader m) == 0 && hdrType (pdHeader m) == t

def isData (m : List Byte) (t : Nat) : Bool :=
  !hdrExt (pdHeader m) && hdrNum (pdHeader m) != 0 && hdrType (pdHeader m) == t

def isExt (m : List Byte) (t : Nat) : Bool := hdrExt (pdHeader m) && hdrType (pdHeader m) == t

/-- Voltage and current that an object asks for from a PDO: fixed in 50 mV and 10 mA, augmented (PPS) in 20 mV and 50 mA.
 (PRESUMED, log entry 23). -/
def askedOf (pdo rdo : Nat) : Nat × Nat × Bool :=
  if bits pdo 30 2 = 3 then (20 * bits rdo 9 12, 50 * bits rdo 0 7, true)
  else (50 * bits pdo 10 10, 10 * bits rdo 10 10, false)

/-- What a Request asks for from a list of PDOs, by its object position. -/
def requestOf (caps : List Nat) (rdo : Nat) : Nat × Nat × Bool := askedOf ((caps[bits rdo 28 4 - 1]?).getD 0) rdo

/-- What a Request, or an EPR_Request, which carries a copy of its PDO, asks for. (PRESUMED, log entry 23). -/
def askedBy (caps : List Nat) (m : List Byte) : Nat × Nat × Bool :=
  match pdObjects (m.drop 2) with
  | rdo :: pdo :: _ => if isData m 9 then askedOf pdo rdo else requestOf caps rdo
  | l => requestOf caps (l.headD 0)

/-- A structured VDM with a SVID, a command and a command type: 0 request, 1 ACK, 2 NAK. (PRESUMED, log entry 23). -/
def isVdm (m : List Byte) (svid cmd ty : Nat) : Bool :=
  isData m 15 && isVdm2 m &&
    (let v := (pdObjects (m.drop 2)).headD 0; bits v 16 16 == svid && bits v 0 5 == cmd && bits v 6 2 == ty)

/-- A VDM of the one Haywain mode, at object position 1; Enter Mode carries no VDO (R113). -/
def isHayVdm (m : List Byte) (cmd ty : Nat) : Bool :=
  isVdm m 0x2C1E cmd ty && (let v := (pdObjects (m.drop 2)).headD 0; bits v 8 3 == 1) && (cmd != 4 || hdrNum (pdHeader m) == 1)

/-- The Haywain Mode VDO (Table 04.8). -/
def hayModeVdo (gmcap : Bool) : Nat := 1 * 2 ^ 28 + 8 * bitNat gmcap + 1

/-- A Mode VDO of version 1 at 5.0 Gbaud, its reserved bits ignored (Table 04.8). -/
def isHayMode (v : Nat) : Bool := bits v 28 4 == 1 && bits v 0 2 == 1

/-- The cable that a Discover Identity ACK on SOP' describes: product type 3 is a passive cable; of the cable VDO, bits 2:0 are the
highest USB signalling and bits 6:5 the current. (PRESUMED, log entry 23). -/
def cableOf (objs : List Nat) : Cable :=
  { marked := true
    gen1 := bits (objs.getD 1 0) 27 3 == 3 && 1 ≤ bits (objs.getD 4 0) 0 3
    amp5 := bits (objs.getD 4 0) 5 2 == 2 }

/-- Some 16-bit half of a Discover SVIDs ACK's objects is 0x2C1E. -/
def listsHay (objs : List Nat) : Bool := (objs.drop 1).any fun v => bits v 0 16 == 0x2C1E || bits v 16 16 == 0x2C1E

/-- The cable may carry Haywain (R104, R114). -/
def Dev.cableCarries (d : Dev) (p : Nat) : Bool :=
  let c := (d.port p).cable
  c.gen1 || (!c.marked && d.is (F.PD_CTRL_NOMARK p))

/-- Haywain mode may be entered at this unit: HAYEN 1, the block enabled, the lane not fenced. -/
def Dev.modeOpen (d : Dev) (p : Nat) : Bool := d.is (F.PD_CTRL_HAYEN p) && d.is F.HAY_CTRL_EN && !d.is (F.HAY_LANE0_FENCED p)

/-- Enters Haywain mode: within 5 ms the SuperSpeed pair is connected to the port's lane (R114), which trains. -/
def Dev.enterMode (d : Dev) (p : Nat) : Dev :=
  if d.modeOpen p && !d.is (F.PD_STAT_ALTMODE p) then
    let d1 := d.set (F.PD_STAT_ALTMODE p) 1
    if d1.is (F.HAY_LANE0_EN p) then d1.set (F.HAY_LANE0_STATE p) 1 else d1
  else d

/-- A PR_Swap's Accept: the initial source turns off, its reservation released, and waits for VBUS below 0.8 V; the initial sink
stops drawing and waits for PS_RDY (R107, R109). (DEDUCED, log entry 24). -/
def Dev.startPrSwap (d : Dev) (p : Nat) : Dev :=
  let d1 := d.endContract p
  if d.isSource p then
    let d2 := (d1.reserve p 0).modPort p fun x => { x with vbg := false, trans := 5 }
    if p = 0 then d2.endReverse else d2
  else (d1.modPort p fun x => { x with trans := 7, vin := false }).selectInput

/-- VBUS of the initial source is below 0.8 V: hardware sends PS_RDY, and the port is the sink. -/
def Dev.prSwapSink (d : Dev) (p : Nat) : Dev :=
  let d1 := ((d.set (F.PD_STAT_TCSTATE p) 2).set (F.PD_STAT_PWRROLE p) 0).pdSendControl p 6
  d1.modPort p fun x => { x with trans := 6, notLow := false, adv := 0 }

/-- PS_RDY of a PR_Swap received: the new sink may draw, or the initial sink becomes the source, where it may. -/
def Dev.prSwapReady (d : Dev) (p : Nat) : Dev :=
  if (d.port p).trans = 6 then (d.modPort p fun x => { x with trans := 0 }).selectInput
  else if (d.port p).trans = 7 ∧ d.maySource p then
    let d1 := (d.set (F.PD_STAT_TCSTATE p) 3).set (F.PD_STAT_PWRROLE p) 1
    ((d1.sourceOn p).emit .pdVset p [5000] []).modPort p fun x => { x with trans := 8 }
  else d

/-- An accepted swap: DR exchanges the data role, leaving Haywain mode first; PR begins to exchange the power role; VCONN exchanges its
source (R97, R109, R115). (DEDUCED, log entry 24). -/
def Dev.doSwap (d : Dev) (p : Nat) : Dev :=
  let d1 := d.modPort p fun x => { x with swap := 0 }
  match (d.port p).swap with
  | 1 => (d1.leaveMode p).set (F.PD_STAT_DATAROLE p) (1 - d.get (F.PD_STAT_DATAROLE p))
  | 2 => d1.startPrSwap p
  | 3 => d1.set (F.PD_STAT_VCONN p) (1 - d.get (F.PD_STAT_VCONN p))
  | _ => d

/-- The source's Source_Capabilities say that it is EPR mode capable. (PRESUMED, log entry 23). -/
def Dev.farEpr (d : Dev) (p : Nat) : Bool := bitOf ((d.port p).caps.headD 0) 23

/-- An EPR_Mode message: action 3 (Enter Succeeded) received on UP as a sink with EPREN enters EPR mode, action 5 (Exit)
leaves it (Table 04.3, R116). -/
def Dev.eprMode (d : Dev) (p : Nat) (m : List Byte) : Dev :=
  let a := bits ((pdObjects (m.drop 2)).headD 0) 24 8
  if a = 3 ∧ p = 0 ∧ d.isSink p ∧ d.is (F.PD_CTRL_EPREN p) then d.set (F.PD_STAT_EPR p) 1
  else if a = 5 then d.set (F.PD_STAT_EPR p) 0
  else d

/-- What hardware does with a message it has taken, beside holding it for the steward (R105, R106, R114, R115). An Enter Mode that
meets HAYEN 0 is answered NAK (R114). (DESIGN CHOICE, log entry 78). -/
def Dev.pdAct (d : Dev) (p : Nat) (m : List Byte) : Dev :=
  if isControl m 3 then
    if (d.port p).swap ≠ 0 then d.doSwap p
    else if d.isSink p && (d.port p).lastReq != [] then (d.modPort p fun x => { x with trans := 3, limited := true }).selectInput
    else d
  else if isControl m 6 then
    if (d.port p).trans = 3 then d.modPort p fun x => { x with trans := 4 } else d.prSwapReady p
  else if isControl m 9 then d.modPort p fun x => { x with swap := 1 }
  else if isControl m 10 then d.modPort p fun x => { x with swap := 2 }
  else if isControl m 11 then d.modPort p fun x => { x with swap := 3 }
  else if isControl m 13 then d.modPort p fun x => { x with txId := 0, trans := 0, swap := 0 }
  else if isControl m 4 || isControl m 12 then d.modPort p fun x => { x with swap := 0, lastReq := [] }
  else if isData m 1 then d.modPort p fun x => { x with caps := pdObjects (m.drop 2) }
  else if isData m 2 then
    let r := askedBy (d.port p).ownCaps m
    d.modPort p fun x => { x with reqIn := true, reqMv := r.1, reqMa := r.2.1, reqPps := r.2.2 }
  else if isData m 10 then d.eprMode p m
  else if isVdm m 0xFF00 2 1 then d.modPort p fun x => { x with farHay := listsHay (pdObjects (m.drop 2)) }
  else if isVdm m 0x2C1E 3 1 then d.modPort p fun x => { x with farMode := (pdObjects (m.drop 2))[1]? }
  else if isHayVdm m 4 0 then
    if !d.is (F.PD_CTRL_HAYEN p) && d.get (F.PD_STAT_DATAROLE p) == 0 then
      d.pdSendOwn p (leBytes 2 (15 + 4096 + bits (leNat (pdControl d p 0)) 5 4 * 32) ++ leBytes 4 (0x2C1E * 65536 + 0xA000 + 0x184))
    else d
  else if isHayVdm m 4 1 then d.enterMode p
  else if isHayVdm m 5 0 || isHayVdm m 5 1 then d.leaveMode p
  else d

/-- The chunk of an extended message that hardware asks for next: its number, where the bytes received so far leave some (Table 04.2).
 (PRESUMED, log entry 23). -/
def nextChunk (m : List Byte) : Option Nat :=
  let e := extHeader m
  if hdrExt (pdHeader m) && !bitOf e 10 && decide (26 * (bits e 11 4 + 1) < bits e 0 9) then some (bits e 11 4 + 1) else none

/-- Asks for a chunk of the message whose first chunks have come. -/
def Dev.askChunk (d : Dev) (p : Nat) (m : List Byte) : Dev :=
  match nextChunk m with
  | none => d
  | some n =>
    d.pdSendOwn p (leBytes 2 (bits (leNat (pdControl d p (hdrType (pdHeader m)))) 0 12 + 0x9000) ++
      leBytes 2 (0x8000 + 2048 * n + 1024) ++ leBytes 2 0)

/-- A message on SOP' or SOP'': a Discover Identity response gives the cable's identity (R104). -/
def Dev.cableAct (d : Dev) (p sop : Nat) (m : List Byte) : Dev :=
  if sop = 1 ∧ isVdm m 0xFF00 1 1 then d.modPort p fun x => { x with cable := cableOf (pdObjects (m.drop 2)) }
  else d

/-- PD_MESSAGE_RX: with room in the four-entry FIFO the message is answered with GoodCRC, a repeat on its SOP* is discarded, one
outside the message set is answered Not_Supported by hardware, a request for a chunk is hardware's alone, and any other is held for
the steward (R101, R102, Table 04.2). SOP' and SOP'' messages reach only the VCONN source (R103). (DEDUCED, log entry 25). -/
def Dev.pdReceive (d : Dev) (p sop : Nat) (m : List Byte) : Dev :=
  if d.pdDeaf p || d.get (F.PD_RXSTAT_COUNT p) = 4 || (sop != 0 && !d.is (F.PD_STAT_VCONN p)) then d
  else
    let d1 := d.emit .pdSignal p [0] []
    if (d.port p).lastId sop = hdrId (pdHeader m) && !isControl m 13 then d1
    else
      let d2 := d1.modPort p fun x => x.setLastId sop (if isControl m 13 then 8 else hdrId (pdHeader m))
      if !pdSupported m then d2.pdSendControl p 16
      else if hdrExt (pdHeader m) && bitOf (extHeader m) 10 then d2
      else
        let e := (d2.get (F.PD_RXSTAT_HEAD p) + d2.get (F.PD_RXSTAT_COUNT p)) % 4
        let d3 := (d2.putBytes (F.PD_RXBUF_DATA p) (32 * e) (m.take 32)).set (F.PD_RXSTAT_COUNT p) (d2.get (F.PD_RXSTAT_COUNT p) + 1)
        let d4 := d3.set (F.PD_INT_RX p) 1
        if sop = 0 then (d4.pdAct p m).askChunk p m else d4.cableAct p sop m

def execPdMessageRx (port : Fin 5) (sop : Fin 3) (msg : List Byte) (s : State) : Out' :=
  act s fun d => d.followUsb (d.pdReceive port.val sop.val msg) port.val

/-- A write of PD_RXSTAT: POP releases the oldest entry (R101, Table 04.15). -/
def Dev.writeRxstat (d : Dev) (p : Nat) (w : Word) : Dev :=
  d.regWrite .bar0 R.PD_RXSTAT p w [] fun d =>
    if bitOf w.toNat 8 && d.get (F.PD_RXSTAT_COUNT p) != 0 then
      (d.set (F.PD_RXSTAT_COUNT p) (d.get (F.PD_RXSTAT_COUNT p) - 1)).set (F.PD_RXSTAT_HEAD p) ((d.get (F.PD_RXSTAT_HEAD p) + 1) % 4)
    else d

def execPdRxPop (port : Fin 5) (w : Word) (s : State) : Out' := act s fun d => d.writeRxstat port.val (w ||| 0x100)

/-! ### Transmitting -/

/-- The budget check of R110 on an Accept to a Request, on a DS port. -/
def Dev.budgetFails (d : Dev) (p : Nat) : Bool :=
  p != 0 && (d.port p).reqIn &&
    decide (d.get F.PD_BUDGET_TOTAL < d.get F.PD_BUDGET_USED - (d.port p).resv + watts (d.port p).reqMv (d.port p).reqMa)

/-- A PDO that Camael may offer on port `p`: a fixed supply of at most 20 V, and 3 A, or 5 A on UP where the cable identifies as 5 A
(R96, R116, Table 04.1). -/
def Dev.mayOffer (d : Dev) (p pdo : Nat) : Bool :=
  bits pdo 30 2 == 0 && decide (50 * bits pdo 10 10 ≤ 20000) &&
    decide (10 * bits pdo 0 10 ≤ if p = 0 ∧ (d.port 0).cable.amp5 then 5000 else 3000)

/-- A Request that Camael may send on port `p` (R96, R116, Table 04.1): PPS and EPR contracts on UP alone, by PPSEN and in EPR
mode; a DS port at most 20 V and 3 A. -/
def Dev.mayRequest (d : Dev) (p : Nat) (m : List Byte) : Bool :=
  let r := askedBy (d.port p).caps m
  if isData m 9 then p == 0 && d.is (F.PD_STAT_EPR 0) && !r.2.2 && decide (r.1 ≤ 48000) && decide (r.2.1 ≤ 5000)
  else (!r.2.2 || (p == 0 && d.is (F.PD_CTRL_PPSEN 0))) && (p == 0 || (decide (r.1 ≤ 20000) && decide (r.2.1 ≤ 3000)))

/-- Enter Mode of Haywain may go out (R114): from the DFP, both units listing the SVID, the cable carrying it, HAYEN 1, the lane not
fenced. -/
def Dev.mayEnter (d : Dev) (p : Nat) : Bool :=
  d.get (F.PD_STAT_DATAROLE p) == 1 && (d.port p).farHay && d.cableCarries p && d.modeOpen p

/-- The content of a message is one that Camael may send on a SOP* (R96, R102, R103, R113, R114, R116). -/
def Dev.mayTransmit (d : Dev) (p sop : Nat) (m : List Byte) : Bool :=
  let o := pdObjects (m.drop 2)
  if sop ≠ 0 then isControl m 13 || isVdm m 0xFF00 1 0
  else if !pdSupported m then false
  else if isData m 1 then o.all (d.mayOffer p)
  else if isExt m 17 then (pdObjects (m.drop 4)).all (d.mayOffer p)
  else if isData m 2 || isData m 9 then d.mayRequest p m
  else if isData m 10 then
    match bits (o.headD 0) 24 8 with
    | 1 => p == 0 && d.isSink p && d.is (F.PD_CTRL_EPREN 0) && d.farEpr p
    | 2 | 3 => false
    | _ => true
  else if isHayVdm m 4 0 then d.mayEnter p
  else if isHayVdm m 4 1 then d.get (F.PD_STAT_DATAROLE p) == 0 && d.is (F.PD_CTRL_HAYEN p)
  else if isVdm m 0x2C1E 3 1 then o.drop 1 == [hayModeVdo true] || o.drop 1 == [hayModeVdo false]
  else true

/-- Starts the transmission of the message in PD_TXBUF; the result of one that cannot be sent is given at once
(R101, R103, R110). An Accept makes the reservation of Table 04.4 step 1. One that Camael never sends completes with E_STATE (DESIGN
CHOICE, log entry 78). -/
def Dev.pdTransmit (d : Dev) (p : Nat) : Dev :=
  let b := d.getBytes (F.PD_TXBUF_DATA p) (d.get (F.PD_TXCMD_LEN p))
  let sop := d.get (F.PD_TXCMD_SOP p)
  if !d.attached p then d.set (F.PD_TXCMD_STATUS p) (statusCode .eLink)
  else if sop ≠ 0 ∧ !d.is (F.PD_STAT_VCONN p) then d.set (F.PD_TXCMD_STATUS p) (statusCode .eState)
  else if !d.mayTransmit p sop b then d.set (F.PD_TXCMD_STATUS p) (statusCode .eState)
  else if sop = 0 ∧ isControl b 3 ∧ d.budgetFails p then d.set (F.PD_TXCMD_STATUS p) (statusCode .eNores)
  else
    let d0 := if isControl b 13 then d.modPort p fun x => x.setNextId sop 0 else d
    let m := withId b ((d0.port p).nextId sop)
    let d1 := (d0.set (F.PD_TXCMD_BUSY p) 1).modPort p fun x => { x with tx := m, txSop := sop, tries := 1, oldResv := x.resv }
    let d2 := if d.phyHeld then d1 else d1.pdSend p sop m
    if sop = 0 ∧ isControl b 3 ∧ (d.port p).reqIn ∧ d.isSource p then d2.reserve p (watts (d.port p).reqMv (d.port p).reqMa) else d2

/-- Hard_Reset from PD_TXCMD: signalled, with the actions of the port's role; it is a fault event like any other
(R108, R118, R122). -/
def Dev.txHardReset (d : Dev) (p : Nat) : Dev :=
  ((d.sendHardReset p).set (F.PD_TXCMD_STATUS p) 0).pdFault p 3 0 1

/-- Cable_Reset, signalled only while Camael sources VCONN (R103). -/
def Dev.txCableReset (d : Dev) (p : Nat) : Dev :=
  if d.is (F.PD_STAT_VCONN p) then (d.emit .pdSignal p [2] []).set (F.PD_TXCMD_STATUS p) 0
  else d.set (F.PD_TXCMD_STATUS p) (statusCode .eState)

/-- A write of PD_TXCMD (R128, Table 04.14). -/
def Dev.writeTxcmd (d : Dev) (p : Nat) (w : Word) : Dev :=
  let sop := bits w.toNat 16 3
  let len := bits w.toNat 8 5
  d.regWrite .bar0 R.PD_TXCMD p w
    [(decide (4 < sop), .eField),
     (len != d.get (F.PD_TXCMD_LEN p) && (decide (len < 2) || decide (30 < len)), .eRange),
     (bitOf w.toNat 0 && d.is (F.PD_TXCMD_BUSY p), .eBusy)]
    fun d =>
      let d := d.set (F.PD_TXCMD_GO p) 0
      if !bitOf w.toNat 0 then d
      else if sop = 3 then d.followPort (d.txHardReset p) p
      else if sop = 4 then d.txCableReset p
      else d.pdTransmit p

def execPdTxMessage (port : Fin 5) (sop : Fin 3) (len : Fin 32) (s : State) : Out' :=
  act s fun d => d.writeTxcmd port.val (BitVec.ofNat 32 (65536 * sop.val + 256 * len.val + 1))

def execPdTxHardReset (port : Fin 5) (len : Fin 32) (s : State) : Out' :=
  act s fun d => d.writeTxcmd port.val (BitVec.ofNat 32 (65536 * 3 + 256 * len.val + 1))

def execPdTxCableReset (port : Fin 5) (len : Fin 32) (s : State) : Out' :=
  act s fun d => d.writeTxcmd port.val (BitVec.ofNat 32 (65536 * 4 + 256 * len.val + 1))

/-- PD_RETRY_TIMEOUT: tReceive expired without GoodCRC: three transmissions, then E_TIMEOUT (Table 04.2, R119); a cable that does not
answer Discover Identity counts as unmarked (R104). -/
def Dev.retryTimeout (d : Dev) (p : Nat) : Dev :=
  if !d.is (F.PD_TXCMD_BUSY p) then d
  else if (d.port p).tries < 3 then
    let d1 := d.modPort p fun x => { x with tries := x.tries + 1 }
    if d.phyHeld then d1 else d1.pdSend p (d.port p).txSop (d.port p).tx
  else
    let d1 := if isControl (d.port p).tx 3 && (d.port p).txSop == 0 then d.reserve p (d.port p).oldResv else d
    let d2 := if (d.port p).txSop = 1 ∧ isVdm (d.port p).tx 0xFF00 1 0 then d1.modPort p fun x => { x with cable := {} } else d1
    d2.txEnd p .eTimeout

def execPdRetryTimeout (port : Fin 5) (s : State) : Out' := act s fun d => d.retryTimeout port.val

/-- What follows the GoodCRC of a message sent (R105, R106, R114, R115). (DEDUCED, log entry 24). -/
def Dev.sent (d : Dev) (p : Nat) (m : List Byte) : Dev :=
  if isControl m 3 then
    if (d.port p).swap ≠ 0 then d.doSwap p
    else if (d.port p).reqIn && d.isSource p then d.modPort p fun x => { x with trans := 1, reqIn := false }
    else d
  else if isControl m 4 || isControl m 12 then d.modPort p fun x => { x with swap := 0, reqIn := false }
  else if isControl m 9 then d.modPort p fun x => { x with swap := 1 }
  else if isControl m 10 then d.modPort p fun x => { x with swap := 2 }
  else if isControl m 11 then d.modPort p fun x => { x with swap := 3 }
  else if isControl m 13 then d.modPort p fun x => { x with rxId := 8, trans := 0, swap := 0 }
  else if isData m 1 then d.modPort p fun x => { x with ownCaps := pdObjects (m.drop 2) }
  else if isData m 2 || isData m 9 then
    let r := askedBy (d.port p).caps m
    d.modPort p fun x => { x with lastReq := m, reqMv := r.1, reqMa := r.2.1, reqPps := r.2.2 }
  else if isData m 10 then d.eprMode p m
  else if isHayVdm m 4 1 then d.enterMode p
  else if isHayVdm m 5 0 || isHayVdm m 5 1 then d.leaveMode p
  else d

/-- PD_TX_COMPLETE: a transmission ends: acknowledged, or discarded by the collision rules (R101, R118). -/
def Dev.txComplete (d : Dev) (p : Nat) (acked : Bool) : Dev :=
  if !d.is (F.PD_TXCMD_BUSY p) then d
  else if acked then
    let m := (d.port p).tx
    let sop := (d.port p).txSop
    let d1 := (d.modPort p fun x => x.setNextId sop ((x.nextId sop + 1) % 8)).txEnd p .done
    if sop = 0 then d1.sent p m else if isControl m 13 then d1.modPort p fun x => x.setLastId sop 8 else d1
  else
    let d1 := if isControl (d.port p).tx 3 && (d.port p).txSop == 0 then d.reserve p (d.port p).oldResv else d
    d1.txEnd p .eFlushed

def execPdTxComplete (port : Fin 5) (acked : Bool) (s : State) : Out' := act s fun d => d.followUsb (d.txComplete port.val acked) port.val

/-- PD_HARD_RESET: a Hard_Reset received (R108, R118). -/
def Dev.pdHardReset (d : Dev) (p : Nat) : Dev :=
  if d.pdDeaf p then d else (d.hardReset p).pdFault p 3 0 1

def execPdHardReset (port : Fin 5) (s : State) : Out' := act s fun d => d.followPort (d.pdHardReset port.val) port.val

/-! ### VBUS transitions -/

/-- PD_SRC_SETPOINT: tSrcTransition after the Accept, VSET_DSn is driven to the new voltage (Table 04.4 step 2). -/
def Dev.srcSetpoint (d : Dev) (p : Nat) : Dev :=
  if d.isSource p && (d.port p).trans == 1 then
    (d.emit .pdVset p [(d.port p).reqMv] []).modPort p fun x => { x with trans := 2 }
  else d

def execPdSrcSetpoint (port : Fin 5) (s : State) : Out' := act s fun d => d.srcSetpoint port.val

/-- PD_SRC_PS_RDY: VBUS inside the window for 1 ms: PS_RDY, CONTRACT and PD_CONTRACT (Table 04.4 steps 4 and 5). In a PR_Swap it is
VBUS of the initial source below 0.8 V, or of the new source at vSafe5V, for which PS_RDY is sent (Table 04.2). During a PHY hold the
message waits for the release (R119). (DEDUCED, log entry 24). -/
def Dev.srcPsRdy (d : Dev) (p : Nat) : Dev :=
  if !d.isSource p then d
  else if d.phyHeld ∧ ((d.port p).trans = 2 ∨ (d.port p).trans = 5 ∨ (d.port p).trans = 8) then
    d.modPort p fun x => { x with psRdyDue := true }
  else match (d.port p).trans with
    | 2 =>
      let d1 := (d.pdSendControl p 6).modPort p fun x => { x with trans := 0, mv := x.reqMv, ma := x.reqMa }
      (d1.set (F.PD_STAT_CONTRACT p) 1).pdEvent p 2 0
    | 5 => d.prSwapSink p
    | 8 => (d.pdSendControl p 6).modPort p fun x => { x with trans := 0 }
    | _ => d

def execPdSrcPsRdy (port : Fin 5) (volt cur : Fin 4096) (s : State) : Out' :=
  act s fun d => (d.vbusSample port.val volt.val cur.val).srcPsRdy port.val

/-- What waited for the end of a PHY hold on port `p`: a Hard_Reset is signalled, a PS_RDY sent, where the port is still attached
(R119). -/
def Dev.pdRelease (d : Dev) (p : Nat) : Dev :=
  let x := d.port p
  let d1 := d.modPort p fun x => { x with hrDue := false, psRdyDue := false }
  if !d.attached p then d1
  else if x.hrDue then d1.emit .pdSignal p [1] []
  else if x.psRdyDue then d1.srcPsRdy p
  else d1

/-- What the end of a PHY hold lets go out on the Type-C ports. -/
def Dev.pdAfterHold (d : Dev) : Dev := (List.range 5).foldl Dev.pdRelease d

/-- PD_SRC_SLOW: VBUS not in the window in time sends Hard_Reset with VBUS off and discharged; VBUS not below 0.8 V in
time holds VBG_DSn off (Table 04.6). -/
def Dev.srcSlow (d : Dev) (p : Nat) (notLow : Bool) : Dev :=
  if !d.isSource p then d
  else if notLow then
    if (d.port p).recovering || (d.port p).trans == 5 then
      (d.modPort p fun x => { x with notLow := true, vbg := false }).pdFault p 4 0 2
    else d
  else if (d.port p).trans = 2 ∨ (d.port p).trans = 8 then ((d.sendHardReset p).pdFault p 4 0 2).pdFault p 3 0 1
  else d

def execPdSrcSlow (port : Fin 5) (notLow : Bool) (s : State) : Out' :=
  act s fun d => d.followPort (d.srcSlow port.val notLow) port.val

/-- PD_SRC_RECOVERY_END: vSafe5V is restored, once VBUS is below 0.8 V (R107, R108), where the port may still source (R120). -/
def Dev.srcRecovered (d : Dev) (p : Nat) (low : Bool) : Dev :=
  if d.isSource p && (d.port p).recovering && low && !d.is (F.PD_STAT_FENCED p) && d.maySource p then
    let d1 := (d.emit .pdVset p [5000] []).modPort p fun x => { x with recovering := false, notLow := false, vbg := true }
    if p = 0 then d1.startReverse else d1
  else d

def execPdSrcRecoveryEnd (port : Fin 5) (low : Bool) (s : State) : Out' := act s fun d => d.srcRecovered port.val low

/-- PD_SNK_SETTLED: VBUS inside the new window lifts the draw limit, sets CONTRACT (and PPS) and raises PD_CONTRACT
(R106); the charger's input is selected anew (R130). A PPS contract is entered on UP alone, with PPSEN (R96). -/
def Dev.snkSettled (d : Dev) (p : Nat) : Dev :=
  if d.isSink p && (d.port p).trans == 4 && (!(d.port p).reqPps || (p == 0 && d.is (F.PD_CTRL_PPSEN 0))) then
    let d1 := d.modPort p fun x =>
      { x with trans := 0, limited := false, lost := false, vin := x.vin && x.mv == x.reqMv, mv := x.reqMv, ma := x.reqMa }
    let d2 := (d1.set (F.PD_STAT_CONTRACT p) 1).setB (F.PD_STAT_PPS p) (d.port p).reqPps
    (d2.selectInput).pdEvent p 2 0
  else d

def execPdSnkSettled (port : Fin 5) (volt cur : Fin 4096) (s : State) : Out' :=
  act s fun d => (d.vbusSample port.val volt.val cur.val).snkSettled port.val

/-- PD_SNK_SLOW: no PS_RDY, or VBUS not in its window, in time: the 2.5 W limit is kept and Hard_Reset sent (Table 04.6). -/
def Dev.snkSlow (d : Dev) (p : Nat) : Dev :=
  if d.isSink p && [3, 4, 6, 7].contains (d.port p).trans then
    (((d.sendHardReset p).modPort p fun x => { x with limited := true }).pdFault p 5 0 3).pdFault p 3 0 1
  else d

def execPdSnkSlow (port : Fin 5) (s : State) : Out' := act s fun d => d.followPort (d.snkSlow port.val) port.val

/-- PD_OVP: sink over-voltage opens VBS_x and sends Hard_Reset (Table 04.6). -/
def Dev.pdOvp (d : Dev) (p : Nat) : Dev :=
  if d.isSink p then
    ((((d.modPort p fun x => { x with ovp := true }).selectInput).sendHardReset p).pdFault p 6 0 4).pdFault p 3 0 1
  else d

def execPdOvp (port : Fin 5) (s : State) : Out' := act s fun d => d.followPort (d.pdOvp port.val) port.val

/-- PD_OCP: source over-current for 1 ms turns VBG_DSn off and sends Hard_Reset (Table 04.6); it counts as an over-current
of the hub port (R189). -/
def Dev.pdOcp (d : Dev) (p : Nat) : Dev :=
  if d.isSource p && (d.port p).vbg then ((d.sendHardReset p).pdFault p 7 0 5).pdFault p 3 0 1 else d

def execPdOcp (port : Fin 5) (s : State) : Out' := act s fun d => d.followPort (d.pdOcp port.val) port.val

/-! ### Keepalives -/

/-- EPR_KEEPALIVE: in EPR mode hardware sends EPR_KeepAlive, an Extended_Control message of type 3 (R123). -/
def Dev.eprKeepalive (d : Dev) (p : Nat) : Dev :=
  if d.is (F.PD_STAT_EPR p) && !d.pdDeaf p then
    d.pdSendOwn p (leBytes 2 (bits (leNat (pdControl d p 16)) 0 12 + 0x9000) ++ leBytes 2 0x8002 ++ leBytes 2 3)
  else d

def execEprKeepalive (port : Fin 5) (s : State) : Out' := act s fun d => d.eprKeepalive port.val

/-- PPS_REQUEST_REPEAT: under a PPS contract hardware repeats the last Request, with the next MessageID (R123). -/
def Dev.ppsRepeat (d : Dev) (p : Nat) : Dev :=
  if d.is (F.PD_STAT_PPS p) && !d.pdDeaf p && (d.port p).lastReq != [] then
    d.pdSendOwn p (d.port p).lastReq
  else d

def execPpsRequestRepeat (port : Fin 5) (s : State) : Out' := act s fun d => d.ppsRepeat port.val

/-! ### Moisture -/

/-- The classes of a measurement as PD_MOIST shows them (Table 04.17). -/
def moistWord (cc1 cc2 sbu1 sbu2 : Nat) : Nat := cc1 + 4 * cc2 + 16 * sbu1 + 64 * sbu2

/-- An unattached port is in moisture (R112): either SBU pin, or both CC pins, at or above LIMIT. -/
def inMoisture (lim cc1 cc2 sbu1 sbu2 : Nat) : Bool :=
  decide (lim ≤ sbu1) || decide (lim ≤ sbu2) || (decide (lim ≤ cc1) && decide (lim ≤ cc2))

/-- PD_MOISTURE_MEASURE: the measurement of R111 and what it leads to (R112, R117). In MoistureHold a measurement counts as clear where
it would not show moisture, so that one CC pin at or above LIMIT does not spoil it, which the spec leaves open (DESIGN CHOICE, log
entry 79). -/
def Dev.moisture (d : Dev) (p cc1 cc2 sbu1 sbu2 : Nat) : Dev :=
  if !d.is (F.PD_MOISTCFG_EN p) then d
  else
    let att := d.attached p
    let lim := d.get (F.PD_MOISTCFG_LIMIT p)
    let d1 := (d.set (F.PD_MOIST_SBU1 p) sbu1).set (F.PD_MOIST_SBU2 p) sbu2
    let d2 := if att then d1 else (d1.set (F.PD_MOIST_CC1 p) cc1).set (F.PD_MOIST_CC2 p) cc2
    let arg := moistWord (d2.get (F.PD_MOIST_CC1 p)) (d2.get (F.PD_MOIST_CC2 p)) sbu1 sbu2
    if att then
      if d.get (F.PD_MOISTCFG_ACTLIM p) ≤ max sbu1 sbu2 then
        let d3 := if d.isSource p then (d2.sendHardReset p).pdFault p 3 0 1 else d2
        (d3.moistHold p).pdFault p 8 arg 6
      else if lim ≤ max sbu1 sbu2 then d2.pdFault p 8 arg 6
      else d2
    else if d.tcState p = 6 then
      if inMoisture lim cc1 cc2 sbu1 sbu2 then d2.modPort p fun x => { x with clear := 0 }
      else
        let d3 := d2.modPort p fun x => { x with clear := x.clear + 1 }
        if d.get (F.PD_MOISTCFG_CLEARN p) ≤ (d3.port p).clear then
          (((d3.set (F.PD_STAT_TCSTATE p) 0).modPort p fun x => { x with clear := 0, wakeMasked := false })).pdEvent p 9 0
        else d3
    else if d.tcState p = 0 ∧ inMoisture lim cc1 cc2 sbu1 sbu2 then (d2.moistHold p).pdFault p 8 arg 6
    else d2

def execPdMoistureMeasure (port : Fin 5) (cc1 cc2 sbu1 sbu2 : Fin 4) (s : State) : Out' :=
  act s fun d => d.followPort (d.moisture port.val cc1.val cc2.val sbu1.val sbu2.val) port.val

end Sys2Proof.Machine
end

