-- ==== Sys2Proof/Machine/Ration.lean ====
section
/-!
DEFINITION. Meanings of the Ration commands (chapter 06).
-/
namespace Sys2Proof.Machine

open Sys2Proof

/-- The reasons decided before the model, in their order (R168): TEMP, SHUTDOWN, FENCED, DISABLED, NOTREADY, HOLD. -/
def Dev.preReason (d : Dev) : Option Nat :=
  if d.pack.dsgHot then some 2
  else if d.get F.SUP_STAT_STAGE ≠ 0 then some 3
  else if d.ratFenced then some 4
  else if !d.is F.RAT_CTRL_EN then some 5
  else if !d.rat.ready then some 6
  else if d.rat.hold then some 7
  else none

/-- Records the outcome of a request in RAT_LASTREQ. -/
def Dev.lastReq (d : Dev) (w reason dur level : Nat) : Dev :=
  (((d.set F.RAT_LASTREQ_WORD w).set F.RAT_LASTREQ_REASON reason).set F.RAT_LASTREQ_GDUR dur).set F.RAT_LASTREQ_GLEVEL level

/-- A refusal: with no grant in force the words carry the reason; with one, it runs on (R168, R172). -/
def Dev.refuseReq (d : Dev) (w reason : Nat) : Dev :=
  let d1 := (d.bump F.RAT_CNT0_REFUSALS).lastReq w reason 0 0
  if d.is F.RAT_STAT_ACTIVE then d1 else d1.set F.RAT_STAT_REASON reason

/-- A grant: it replaces one in force, which is counted (R169, R172). (DEDUCED, log entry 30). -/
def Dev.grant (d : Dev) (w level dur : Nat) : Dev :=
  let d1 := if d.is F.RAT_STAT_ACTIVE then d.bump F.RAT_CNT0_GRANTS else d
  let d2 := ((d1.lastReq w 0 dur level).set F.RAT_STAT_ACTIVE 1).set F.RAT_STAT_LEVEL level
  { d2 with rat := { d2.rat with dur := dur } }

/-- The normal end of a grant: REASON, REST lowered by 1 mΩ but not below RCFG, and the count (R169). -/
def Dev.grantOver (d : Dev) (reason : Nat) : Dev :=
  ((d.endGrant reason).set F.RAT_RPACK_REST (max (d.get F.RAT_RPACK_RCFG) (d.get F.RAT_RPACK_REST - 1))).bump F.RAT_CNT0_GRANTS

/-- The decision on an accepted request (R168, R172). LEVEL 0 is neither granted nor refused: RAT_LASTREQ.REASON shows RELEASED for it,
also with no grant in force. (DEDUCED, log entry 30; DESIGN CHOICE, log entry 81). -/
def Dev.decideBurst (d : Dev) (w vr : Nat) : Dev :=
  let level := bits w 12 3
  if level = 0 then
    let d1 := d.lastReq w 9 0 0
    if d.is F.RAT_STAT_ACTIVE then d1.grantOver 9 else d1
  else match d.preReason with
    | some r => d.refuseReq w r
    | none =>
      let k := d.ratModel vr
      match d.admitLevel k (bits w 8 4) level with
      | some (l, t) => (d.showHead k).grant w l t
      | none => (d.showHead k).refuseReq w 1

/-- A word on BURST_REQ of the bound port (R162, R163): ignored, a parity error, or accepted and decided. `vr` is the
SYS_SENSE code, `volt` and `cur` the present reading of the selected input port. Each frame carries a grant word; while EN is 0 no
word is accepted. (DEDUCED, log entry 30). -/
def Dev.burstWord (d : Dev) (w vr volt cur : Nat) : Dev :=
  if !d.is (F.TDM_STAT_RUNNING (d.get F.RAT_CTRL_PORT)) then d
  else
    let b := d.get F.CHG_STAT_INPORT
    let d := if b = 0 then d else (d.set (F.PD_VBUS_VOLT (b - 1)) volt).set (F.PD_VBUS_CUR (b - 1)) cur
    let d := ({ d with rat := { d.rat with ended := none } } : Dev).limitRise
    if !bitOf w 15 || !d.is F.RAT_CTRL_EN then d.sendGrant
    else if parity16 w ≠ 0 ∨ bits w 1 3 ≠ 0 then
      (((d.bump F.RAT_CNT1_PARERR).raise F.RAT_INT_PARERR 0x502 [0] 0 0 0).fault 0x219 15).sendGrant
    else if d.rat.tag = some (bits w 4 4) then d.sendGrant
    else
      let d1 := { d with rat := { d.rat with tag := some (bits w 4 4), lean := d.leanMode } }
      ((d1.set F.RAT_STAT_TAG (bits w 4 4)).decideBurst w vr).sendGrant

/-- (DEDUCED, log entry 29). -/
def execBurstRequest (word : BitVec 16) (vr : Fin 16384) (volt cur : Fin 4096) (s : State) : Out' :=
  act s fun d => d.burstWord word.toNat vr.val volt.val cur.val

/-- GRANT_END: a grant reaches its duration and ends with EXPIRED (R169). -/
def Dev.grantEnd (d : Dev) : Dev :=
  if d.is F.RAT_STAT_ACTIVE then
    let d1 := d.grantOver 8
    ({ d1 with rat := { d1.rat with ended := some (d.get F.RAT_RPACK_REST, d.get F.RAT_CNT0_GRANTS) } } : Dev).sendGrant
  else d

def execGrantEnd (s : State) : Out' := act s Dev.grantEnd

/-- Takes back a normal end of the same frame, which a trip wins over (R176). (DEDUCED, log entry 30). -/
def Dev.undoEnd (d : Dev) : Dev :=
  match d.rat.ended with
  | some (rest, n) => { (d.set F.RAT_RPACK_REST rest).set F.RAT_CNT0_GRANTS n with rat := { d.rat with ended := none } }
  | none => d

/-- A trip during a grant (R170). -/
def Dev.ratTrip (d : Dev) : Dev :=
  if !d.is F.RAT_STAT_ACTIVE && d.rat.ended.isNone then d
  else
    let d := d.undoEnd
    let d1 := (d.limitLow.endGrant 0xA).set F.RAT_RPACK_REST (min 4095 (d.get F.RAT_RPACK_REST + d.get F.RAT_RPACK_RSTEP))
    let d2 := (d1.bump F.RAT_CNT1_ABORTS).raise F.RAT_INT_ABORT 0x500 [0] 0 0 0
    ({ d2 with rat := { d2.rat with hold := true } }.fault 0x219 14).sendGrant

def execRatAbort (s : State) : Out' := act s Dev.ratTrip

/-- RAT_HOLD_END: LIMHOLD ms after a trip or after the bound port's return, LIMIT_N rises and requests are decided again
(R170, R177). -/
def Dev.ratHoldEnd (d : Dev) : Dev :=
  if d.rat.hold || d.rat.clkHold then { d with rat := { d.rat with hold := false, clkHold := false } }.limitRise else d

def execRatHoldEnd (s : State) : Out' := act s Dev.ratHoldEnd

/-- RAT_LVL1 to RAT_LVL7 strictly increase. -/
def Dev.levelsRise (d : Dev) : Bool :=
  (List.range 6).all fun i => decide (d.get (F.RAT_LVL_DRAW i) < d.get (F.RAT_LVL_DRAW (i + 1)))

/-- EN became 1: no tag, not ready, words flow again; EN became 0: the grant ends and LIMIT_N is low. REASON says so, or that Ration is
fenced (R163, R171, R178, R179). -/
def Dev.ratSwitch (d : Dev) (was now : Bool) : Dev :=
  if was = now then d
  else if now then
    let d1 : Dev := { d.set F.RAT_STAT_TAG 0 with rat := { d.rat with tag := none, ready := false, hold := false, quiet := false } }
    d1.set F.RAT_STAT_REASON d1.restReason
  else d.limitLow.endGrant d.restReason

/-- PORT was rewritten: BURST_GNT and LIMIT_N follow the clock of the port now bound (R162, R177). (DEDUCED, log entry 30). -/
def Dev.ratRebind (d : Dev) : Dev :=
  let p := d.get F.RAT_CTRL_PORT
  if d.is (F.TDM_STAT_CLKLOST p) || d.is (F.TDM_STAT_FENCED p) then d.ratClockGone
  else
    let d1 : Dev := { d with rat := { d.rat with mute := false, clkHold := false } }
    if d.is (F.TDM_STAT_RUNNING p) then d1.limitRise else d1.withdraw.limitLow

/-- A write of RAT_CTRL (R179, R180, Table 06.9). -/
def Dev.writeRatCtrl (d : Dev) (w : Word) : Dev :=
  let en := bitOf w.toNat 0
  let was := d.is F.RAT_CTRL_EN
  let port := d.get F.RAT_CTRL_PORT
  d.regWrite .bar0 R.RAT_CTRL 0 w
    [(!was && en && (!d.levelsRise || d.get F.RAT_STORE_CBULK == 0 || d.get F.RAT_RAIL_VFLOOR == 0 ||
        d.get F.RAT_RPACK_RCFG == 0), .eState),
     (bits w.toNat 16 8 == 0, .eRange)]
    fun d =>
      let d0 := d.ratSwitch was en
      let d1 := if bits w.toNat 4 1 = port then d0 else d0.ratRebind
      if bitOf w.toNat 1 then
        (((d1.set F.RAT_CNT0_GRANTS 0).set F.RAT_CNT0_REFUSALS 0).set F.RAT_CNT1_ABORTS 0).set F.RAT_CNT1_PARERR 0
      else d1

def execRatEnable (w : Word) (s : State) : Out' := act s fun d => d.writeRatCtrl (w ||| 1)

def execRatCntclr (w : Word) (s : State) : Out' := act s fun d => d.writeRatCtrl (w ||| 2)

end Sys2Proof.Machine
end

