-- ==== Sys2Proof/Machine/Tenants.lean ====
section
/-!
DEFINITION. Tenants (chapter 12): their coming and going, and the function-level reset step by step.
-/
namespace Sys2Proof.Machine

open Sys2Proof

/-- FLR: Initiate Function Level Reset in the configuration space of function `t`; there is none while the steward hosts T000. -/
def execFlr (t : Fin 256) (s : State) : Out' :=
  act s fun d => if d.cfgServed && d.is F.HIF_STAT_LINKUP && d.tenantExists t.val then d.rouse.startFlr t.val else d

/-- A write of TEN_GFLR. -/
def Dev.writeGflr (d : Dev) (w : Word) : Dev :=
  let v := w.toNat
  let t := bits v 0 8
  d.regWrite .bar0 R.TEN_GFLR 0 w
    (if bitOf v 31 then [(!d.tenantExists t, .eRange), (t == 0 && !d.stewardHost, .eField), (d.flrBusy t, .eBusy)] else [])
    fun n =>
      let n1 := n.set F.TEN_GFLR_GO 0
      if bitOf v 31 then n1.startFlr t else n1

def execTenGflr (w : Word) (s : State) : Out' := act s fun d => d.writeGflr (withBit w 31)

/-- Function `n` responds while VF Enable, NumVFs and ARI Capable Hierarchy are as given (R331). -/
def vfExists (en : Bool) (numVfs : Nat) (ari : Bool) (n : Nat) : Bool := en && decide (n ≤ numVfs) && (decide (n ≤ 7) || ari)

/-- VF_ENABLE: VF Enable, NumVFs and ARI Capable Hierarchy of PF0 as now written (R331). A tenant that comes while WARN
stands finds SUP_WARN in its event queue (R80). (PRESUMED, log entry 47). -/
def Dev.vfEnable (d : Dev) (en : Bool) (numVfs : Nat) (ari : Bool) : Dev :=
  if !d.cfgServed || !d.is F.HIF_STAT_LINKUP then d
  else ((List.range 255).map (· + 1)).foldl (fun d n =>
    if vfExists en numVfs ari n then
      let d1 := (d.set (F.TEN_GSTAT_EXISTS n) 1).setFlr n { d.flrOf n with removed := false }
      if d.is F.SUP_STAT_WARN && !d.tenantExists n then d1.notify n 0x0100 0 0 0 else d1
    else if d.tenantExists n then (d.startFlr n).setFlr n { (d.startFlr n).flrOf n with removed := true }
    else d) { d with hif := { d.hif with ari := ari, vfEnable := en, numVfs := numVfs } }

def execVfEnable (en : Bool) (numVfs : BitVec 16) (ari : Bool) (s : State) : Out' :=
  act s fun d => d.rouse.vfEnable en numVfs.toNat ari

/-- PCIE_LINK_DOWN, or a hot reset, while T0HOST is 0: configuration space resets, so that VF Enable clears and every tag is
free, and every tenant resets (R76, R326, R331). (DEDUCED, log entry 49). -/
def Dev.linkDown (d : Dev) : Dev :=
  if d.stewardHost then d
  else
    let d1 := ((d.set F.SUP_RSTCAUSE_PCIE 1).set F.HIF_STAT_LINKUP 0).set F.HIF_STAT_EXTTAG 0
    let d2 := d1.tenants.foldl (fun d t => (d.startFlr t).setFlr t { (d.startFlr t).flrOf t with removed := t != 0 }) d1
    { d2 with hif := { d2.hif with abandoned := 0, ari := false, vfEnable := false, numVfs := 0, msgDue := [] } }

def execPcieLinkDown (s : State) : Out' := act s Dev.linkDown

/-! ### Step 2: tickets (Table 12.4, R344) -/

/-- Opcodes whose effect is completed at step 2. -/
def drained (op : Nat) : Bool := !([0x01, 0x02, 0x06, 0x14, 0x16, 0x20].contains op)

/-- Descriptors fetched and not yet dispatched: the drained kinds take effect, the others end with E_FLUSHED. (DEDUCED, log entry 49). -/
def Dev.drainFetched (d : Dev) (t q : Nat) : Dev :=
  (d.fetched t q).foldl (fun d tk => if drained tk.op then d.start tk else d.complete tk .eFlushed) (d.setFetched t q [])

/-- Ends the tenant's port commands, transfers, buffers and pending flows; its re-steers and flushes go on without it. -/
def Dev.endTenantTkts (d : Dev) (t : Nat) : Dev :=
  let mine := fun (tk : Tkt) => tk.t == t
  let d1 := [1, 2, 3, 4, 5, 6, 7, 8].foldl (fun d p => if (d.live fun tk => mine tk && isPortcmd p tk) = [] then d else d.endCmd p .eFlushed) d
  let d2 := d1.boundStreams.foldl (fun d s => (d.stream s).sinks.foldl (fun d e =>
    if ringTenant (d.sinkCode s e.1) = t ∧ epKind (d.sinkCode s e.1) = 5 then d.endSinkBuf s e.1 .eFlushed else d) d) d1
  let d3 := (List.range 256).foldl (fun d f => if (d.flow f).opening ∧ (d.flow f).owner = t then d.failOpen f .eFlushed true else d) d2
  let d4 := d3.endTkts (fun tk => mine tk && (tk.op == 0x06 || tk.op == 0x16)) .eFlushed
  let d5 : Dev := { d4 with hif := { d4.hif with running := d4.hif.running.filter fun tk => !(mine tk && (tk.op == 0x01 || tk.op == 0x14)) } }
  d5.releaseTkts

/-- FLR_TICKETS_ENDED: step 2 ends and step 3 begins. -/
def Dev.flrTickets (d : Dev) (t : Nat) : Dev :=
  if (d.flrOf t).step ≠ 1 then d
  else
    let d1 := ((List.range 8).foldl (fun d q => d.drainFetched t q) d).endTenantTkts t
    let d2 := if d.inPart t then d1 else { d1 with hif := { d1.hif with cpls := d1.hif.cpls.filter (·.tk.t != t) } }
    let own := d2.boundStreams.filter fun s => d2.strOwner s == t
    let d3 := own.foldl Dev.startFlush d2
    let d4 := (d3.boundStreams.filter fun s => d3.strOwner s != t).foldl (fun d s =>
      ((d.stream s).sinks.filter fun e => d.get (sownFld s e.1) == t).foldl (fun d e => d.sinkLost s e.1) d) d3
    { d4 with pow := { d4.pow with s2Streams := d4.pow.s2Streams.filter fun s => !own.contains s } }.setFlr t
      { d4.flrOf t with step := 3 }

def execFlrTicketsEnded (t : Fin 256) (s : State) : Out' := act s fun d => d.flrTickets t.val

/-! ### Steps 3 to 7 -/

/-- The fence of a stream unbound by an FLR ends without an event, and its record and fallow count are cleared (R499). -/
def Dev.dropStreamFence (d : Dev) (s : Nat) : Dev :=
  let u := 0x100 + s
  if d.unitFenced u then (((d.setRec u {}).setBit (F.FLT_FENCED_FENCED (u / 32)) (u % 32) false).showPin 0).showPin 1 else d

/-- One of the tenant's streams is flushed and unbound; sinks that others own on it receive STR_SINK_LOST (R270). -/
def Dev.flrUnbind (d : Dev) (t s : Nat) : Dev :=
  let others := ((d.stream s).sinks.map fun e => d.get (sownFld s e.1)).filter (· != t)
  others.foldl (fun d o => d.notify o 0x0A00 s (statusCode .eLink) 0) ((((d.drain s).flushDone s).unbindStream s).dropStreamFence s)

/-- FLR_STREAMS_FLUSHED: streams, periodic contexts and flows go, with their reservations. -/
def Dev.flrStreams (d : Dev) (t : Nat) : Dev :=
  if (d.flrOf t).step ≠ 3 then d
  else
    let d1 := (d.boundStreams.filter fun s => d.strOwner s == t).foldl (fun d s => d.flrUnbind t s) d
    let ctxs := (List.range 128).filter fun c => d1.ctxOpen c && d1.get (F.LHE_CTXW0_OWNER c) == t &&
      (d1.get (F.LHE_CTXW0_TYPE c) == 1 || d1.get (F.LHE_CTXW0_TYPE c) == 3)
    let d2 := ctxs.foldl (fun d c => d.closeCtx c .eFlushed) d1
    let d3 := ((List.range 256).filter fun f => d2.flowOpen f && (d2.flow f).owner == t).foldl (fun d f => d.closeFlow f true) d2
    d3.setFlr t { d3.flrOf t with step := 5 }

def execFlrStreamsFlushed (t : Fin 256) (s : State) : Out' := act s fun d => d.flrStreams t.val

/-- FLR_CELLS_WIPED: every cell charged to the tenant and those of its event queue; the ring partition where it is T000's.
 (DEDUCED, log entry 49). -/
def Dev.flrCells (d : Dev) (t : Nat) : Dev :=
  if (d.flrOf t).step ≠ 5 then d
  else
    let n := d.charge t + d.qCells t + (if d.inPart t then d.lar.partCells else 0)
    let d1 := ((d.lar.queues.map Prod.fst).filter fun q => q == t || d.qOwner q == t).foldl Dev.emptyQueue d
    let d2 := if d.inPart t then
        { d1 with ecc := { d1.ecc with part := [], partPoison := [] },
                  hif := { d1.hif with cpls := d1.hif.cpls.filter (·.tk.t != t) } }
      else d1
    { d2 with lar := { d2.lar with lostEv := mapPut false d2.lar.lostEv t false } }.setFlr t { d2.flrOf t with step := 6, wiped := n }

def execFlrCellsWiped (t : Fin 256) (s : State) : Out' := act s fun d => d.flrCells t.val

/-- A local port is released: its traffic ends, no disconnect is reported, and it is parked. (DEDUCED, log entry 49). -/
def Dev.flrPort (d : Dev) (p : Nat) : Dev := (d.localGone p .eLink).parkPort p

/-- The tenant's rings, page registers and vectors return to reset, and its tickets are free (R346). -/
def Dev.flrPage (d : Dev) (t : Nat) : Dev :=
  let b := 0x20000 + 0x2000 * t
  let d1 := (((d.resetRange (b + 0x8) (b + 0x18)).resetRange (b + 0x100) (b + 0x340)).resetRange (b + 0x800) (b + 0x1000))
  let h := d1.hif
  { d1 with hif := { h with phase := mapDropRange h.phase (17 * t) (17 * t + 17), modN := mapDropRange h.modN (8 * t) (8 * t + 8),
                            modCount := mapDropRange h.modCount (8 * t) (8 * t + 8), holdoff := mapDropRange h.holdoff (8 * t) (8 * t + 8),
                            reads := mapDropRange h.reads (8 * t) (8 * t + 8), fetched := mapDropRange h.fetched (8 * t) (8 * t + 8),
                            msgDue := h.msgDue.filter (· / 8 != t)
                            waiting := mapPut false h.waiting t false, tagHeld := mapPut false h.tagHeld t false, running := h.running.filter (·.t != t),
                            cpls := h.cpls.filter (·.tk.t != t) } }

/-- TEN_FLR_DONE: step 6 and step 7. -/
def Dev.flrDone (d : Dev) (t : Nat) : Dev :=
  if (d.flrOf t).step ≠ 6 then d
  else
    let ports := (d.portsOf t).filter fun p => !d.steering p
    let x := d.flrOf t
    let d1 := (ports.foldl Dev.flrPort d).flrPage t
    let d2 := ((d1.set (F.TEN_GSTAT_FLRBUSY t) 0).setFlr t {}).set (F.TEN_GSTAT_EXISTS t) (bitNat !x.removed)
    let mask := (ports.map fun p => 2 ^ (p - 1)).foldl (· + ·) 0
    (d2.raise F.TEN_GINT_FLRDONE 0xF00 [0] t mask x.wiped).tenantFence t

def execTenFlrDone (t : Fin 256) (s : State) : Out' := act s fun d => d.flrDone t.val

end Sys2Proof.Machine
end

