-- ==== Sys2Proof/Machine/Yoke.lean ====
section
/-!
DEFINITION. Yoked twins (chapter 14): the token, heartbeats, mirroring, handover and takeover; and the reception of a raw bale,
which passes YOKE bales on.
-/
namespace Sys2Proof.Machine

open Sys2Proof

/-! ### Roles and the token (R402, R403, R405, R407, R415) -/

/-- Takes a role; key, alias and pairing follow. -/
def Dev.setRole (d : Dev) (r : Nat) : Dev := (d.set F.YOK_STAT_ROLE r).chooseParent.yokEval

/-- Drives YK_TOKEN low. -/
def Dev.driveToken (d : Dev) : Dev := (d.set F.YOK_STAT_DRIVE 1).set F.YOK_STAT_TOKEN 0

/-- Stops driving it; `high` is the level it then has. -/
def Dev.freeToken (d : Dev) (high : Bool) : Dev := (d.set F.YOK_STAT_DRIVE 0).setB F.YOK_STAT_TOKEN high

/-- Sends a YOKE bale with its HBSEQ and YTYPE. -/
def Dev.sendYoke (d : Dev) (ytype hbseq : Nat) (data : List Byte) : Dev :=
  d.sendBale 5 { type := 5, src := d.unitId, h := beBytes 4 hbseq ++ leBytes 1 ytype, data := data }

/-- A beat: LBEAT of a lead, WBEAT of a wheel (Tables 14.1, 14.2). -/
def Dev.sendBeat (d : Dev) (handover : Bool) : Dev :=
  if !d.laneUp 5 || d.phyHeld || (d.yokRole != 2 && d.yokRole != 3) then d
  else
    let lead := d.yokRole == 2
    let gm := lead && d.is F.ALM_STAT_GM
    let w0 := d.get F.YOK_CFG_SIDE * 32768 + bitNat (lead && handover) * 16384 + bitNat gm * 8192 + d.get F.YOK_CFG_ALIAS
    let pay := beBytes 2 w0 ++ beBytes 4 (d.get F.YOK_MGEN_MGEN) ++ beBytes 4 (if gm then d.hay.gmSeq else 0) ++
      [BitVec.ofNat 8 (if lead then d.get F.ALM_CFG_PRIO else 0), 0, 0, 0, 0, 0]
    let s := d.yok.hbseq
    ((d.sendYoke (if lead then 1 else 2) s pay).set F.YOK_TXSEQ_HBSEQ s).modYok fun y => { y with hbseq := (s + 1) % 2 ^ 32 }

/-- YOK_BEAT_TX: a beat of the generator, which also lets a lead drive the line again (R403). -/
def Dev.beat (d : Dev) : Dev := (if d.yokRole = 2 then d.driveToken else d).sendBeat false

def execYokBeatTx (s : State) : Out' := act s Dev.beat

/-- YOK_BEAT_STALE: the lead releases the line. (DEDUCED, log entry 57). -/
def Dev.beatStale (d : Dev) : Dev := if d.yokRole = 2 && d.is F.YOK_STAT_DRIVE then d.freeToken true else d

def execYokBeatStale (s : State) : Out' := act s Dev.beatStale

/-- YOK_CLAIM: the line has been high for W; from S4 on a twin drives it no more (R419). -/
def Dev.claim (d : Dev) : Dev :=
  let wheel := d.yokRole == 3
  if d.yok.claimed || d.get F.SUP_STAT_STAGE == 4 || !(d.yokRole == 1 || (wheel && (!d.yok.fresh || d.yok.hand))) then d
  else d.driveToken.modYok fun y => { y with claimed := true, asWheel := wheel }

def execYokClaim (s : State) : Out' := act s Dev.claim

/-- Becomes WHEEL; `fresh` says that an LBEAT counts as having arrived. -/
def Dev.becomeWheel (d : Dev) (fresh : Bool) : Dev :=
  (d.modYok fun y => { y with claimed := false, fresh := fresh, hand := false }).setRole 3

/-- YOK_YIELD: a claim of SIDE 1 found the line held in its check window. -/
def Dev.yieldToken (d : Dev) : Dev :=
  if !d.yok.claimed || d.get F.YOK_CFG_SIDE != 1 then d
  else ((d.freeToken false).becomeWheel false |>.yokEvent 6 0 0).oweFault 0x242 44

def execYokYield (s : State) : Out' := act s Dev.yieldToken

/-- HLY leaves the tree at once; where it is still UP its control bales go on. -/
def Dev.leaveHly (d : Dev) : Dev :=
  if !d.laneUp 5 then d.removeLane 5
  else
    let d1 := d.modLane 5 fun x => { x with heard := none, child := false }
    { d1 with hay := { d1.hay with route := d1.hay.route.filter fun e => e.2.1 != 6 } }.showUnits

/-- Steps 4 and 5 of Table 14.4: where the last LBEAT carried GM, HLY leaves the tree and the twin is grandmaster with the
mirrored GMSEQ + 16, announced on every lane; else it only takes its new key. (DEDUCED, log entry 69). -/
def Dev.takeover (d : Dev) (msync gm : Bool) : Dev :=
  let d1 := if gm then
      let e := d.leaveHly.beGm
      ({ e with hay := { e.hay with gmSeq := (d.yok.gmSeq + 15) % 2 ^ 32 } } : Dev).showAlias.showRoles.routesMoved.announceTx
    else d.chooseParent
  d1.yokEvent 0 (bitNat msync + 2 * bitNat gm) d1.yok.live.length

/-- YOK_CLAIM_CONFIRM: the claimant is LEAD. (DEDUCED, log entry 57). -/
def Dev.claimConfirm (d : Dev) : Dev :=
  if !d.yok.claimed then d
  else
    let msync := d.is F.YOK_STAT_MSYNC
    let d1 := (d.driveToken.set F.YOK_STAT_ROLE 2).modYok fun y => { y with claimed := false }
    if d.yok.asWheel then (d1.takeover msync d.yok.gm).yokEval else d1.chooseParent.yokEval

def execYokClaimConfirm (s : State) : Out' := act s Dev.claimConfirm

/-- YOK_LOSS_TIMEOUT: 375 µs without a valid beat of the peer. -/
def Dev.lossTimeout (d : Dev) : Dev := (d.modYok fun y => { y with peer := none, fresh := false }).yokEval

def execYokLossTimeout (s : State) : Out' := act s Dev.lossTimeout

/-- YOK_TOKEN_FAULT: the lead has lost the wire. -/
def Dev.tokenFault (d : Dev) : Dev :=
  if d.yokRole ≠ 2 ∨ !d.is F.YOK_STAT_DRIVE then d
  else (((d.freeToken true).becomeWheel false).yokEvent 5 0 0).oweFault 0x242 43

def execYokTokenFault (s : State) : Out' := act s Dev.tokenFault

/-- A handover by the lead (R406). (DEDUCED, log entry 57). -/
def Dev.handOver (d : Dev) : Dev :=
  (((((d.sendBeat true).endMtx .eFlushed).freeToken true).becomeWheel true).yokEvent 7 0 0)

/-- Shutdown stage S4: a lead gives up the line and becomes WHEEL, and a claim is given up (R403, R419). -/
def Dev.leaveToken (d : Dev) : Dev :=
  let d1 := if d.is F.YOK_STAT_DRIVE then d.freeToken true else d
  if d.yokRole = 2 then d1.becomeWheel true else d1.modYok fun y => { y with claimed := false }

/-- A lead that is paired and synchronised may hand over. (DEDUCED, log entry 69). -/
def Dev.mayHandOver (d : Dev) : Bool := d.yokRole == 2 && d.is F.YOK_STAT_PAIRED && d.is F.YOK_STAT_MSYNC

/-- EN became 1 or 0 (R407). (DEDUCED, log entry 57). -/
def Dev.yokSwitch (d : Dev) (on : Bool) : Dev :=
  if on then
    if d.is F.YOK_STAT_TOKEN then (d.laneRefresh 5).setRole 1 else ((d.laneRefresh 5).becomeWheel false)
  else
    let d1 := if d.is F.YOK_STAT_DRIVE then d.freeToken true else d
    ((d1.modYok fun y => { y with claimed := false, peer := none, fresh := false, hand := false }).laneRefresh 5).setRole 0

/-- A write of YOK_CTRL. -/
def Dev.writeYokCtrl (d : Dev) (w : Word) : Dev :=
  let v := w.toNat
  let was := d.is F.YOK_CTRL_EN
  let now := bitOf v 0
  d.regWrite .bar0 R.YOK_CTRL 0 w
    [(!was && now && !d.is F.YOK_CTRL_LOCK, .eState), (!was && now && d.get F.YOK_CFG_ALIAS == d.unitId, .eRange),
     (was && !now && d.yokRole == 2, .eState), (bitOf v 8 && !d.mayHandOver, .eState)] fun n =>
      let n1 := n.set F.YOK_CTRL_HANDOVER 0
      let n2 := if bitOf v 1 then (n1.set F.YOK_CNT_LOSSES 0).set F.YOK_CNT_RESENDS 0 else n1
      let n3 := if bitOf v 8 then n2.handOver else n2
      if was = now then n3 else n3.yokSwitch now

/-- YOK_ENABLE: a write of EN as the word carries it, with the level that YK_TOKEN has. -/
def execYokEnable (w : Word) (high : Bool) (s : State) : Out' :=
  act s fun d => (if d.is F.YOK_CTRL_EN then d else d.setB F.YOK_STAT_TOKEN high).writeYokCtrl w

def execYokHandover (w : Word) (s : State) : Out' := act s fun d => d.writeYokCtrl (withBit w 8)

def execYokCntclr (w : Word) (s : State) : Out' := act s fun d => d.writeYokCtrl (withBit w 1)

/-! ### The lead's mirror (R408, R409, R548) -/

/-- The generation after `m`. -/
def nextGen (m : Nat) : Nat := if m = 2 ^ 32 - 1 then 1 else m + 1

/-- Words W0 to W7 of a STR entry. -/
def Dev.strWords (d : Dev) (s : Nat) : List Nat :=
  [d.readRow .bar0 R.STR_W0 s, d.readRow .bar0 R.STR_W1 s, d.readRow .bar0 R.STR_W2 s, d.readRow .bar0 R.STR_W3 s,
   d.readRow .bar0 R.STR_W4 s, d.readRow .bar0 R.STR_W5 s, d.readRow .bar0 R.STR_W6 s, d.readRow .bar0 R.STR_W7 s]

/-- Sends one MIRROR bale of a kind and keeps it until it is acknowledged; `mark` is 1 for END, 2 for a record's end. -/
def Dev.sendMirror (d : Dev) (kind index place : Nat) (data : List Byte) (mark : Nat) : Dev :=
  let m := nextGen (d.get F.YOK_MGEN_MGEN)
  let pay := beBytes 4 m ++ leBytes 1 kind ++ leBytes 1 index ++ beBytes 2 place ++ data
  ((d.sendYoke 3 (d.get F.YOK_TXSEQ_HBSEQ) pay).set F.YOK_MGEN_MGEN m).modYok fun y => { y with unacked := y.unacked ++ [(m, pay, mark)] }

/-- Sends the entry of stream `s` as it stands. -/
def Dev.sendEntry (d : Dev) (s : Nat) : Dev :=
  let l := d.strWords s
  (d.sendMirror 1 s 0 ((l.map (beBytes 4)).flatten) 0).modYok fun y => { y with sent := mapPut [] y.sent s l }

/-- YOK_MIRROR_TX: the full set first, then the record in progress, then entries that have changed. (DEDUCED, log entry 57). -/
def Dev.mirrorTx (d : Dev) : Dev :=
  if !(d.yokRole == 2 && d.is F.YOK_STAT_PAIRED) || d.phyHeld || decide (16 ≤ d.yok.unacked.length) then d
  else if d.yok.next < 256 then (d.sendEntry d.yok.next).modYok fun y => { y with next := y.next + 1 }
  else if d.yok.next = 256 then (d.sendMirror 3 0 0 [] 1).modYok fun y => { y with next := 257 }
  else match d.yok.recAt with
    | some a =>
      let len := d.get F.YOK_MTXCMD_LEN
      let n := min 504 (len - a)
      let last := len ≤ a + n
      let data := ((d.getBytes F.YOK_MTXBUF_DATA len).drop a).take n
      (d.sendMirror 2 0 (bitNat last * 32768 + a) data (if last then 2 else 0)).modYok fun y =>
        { y with recAt := if last then none else some (a + n) }
    | none =>
      match (List.range 256).find? fun s => mapGet [] d.yok.sent s != d.strWords s with
      | none => d
      | some s => d.sendEntry s

def execYokMirrorTx (s : State) : Out' := act s Dev.mirrorTx

/-- YOK_MIRROR_RESEND: after 8 resends without progress PAIRED falls (R422). -/
def Dev.mirrorResend (d : Dev) : Dev :=
  if !(d.yokRole == 2 && d.is F.YOK_STAT_PAIRED) || d.yok.unacked.isEmpty then d
  else if 8 ≤ d.yok.resends then (d.modYok fun y => { y with peer := none }).yokEval
  else d.yok.unacked.foldl (fun d e => (d.sendYoke 3 (d.get F.YOK_TXSEQ_HBSEQ) e.2.1).bump F.YOK_CNT_RESENDS)
    (d.modYok fun y => { y with resends := y.resends + 1 })

def execYokMirrorResend (s : State) : Out' := act s Dev.mirrorResend

/-- The wheel acknowledges generations up to `a`. (DEDUCED, log entry 57). -/
def Dev.mirrorAck (d : Dev) (a : Nat) : Dev :=
  if a = 0 ∨ newer32 a (d.get F.YOK_MGEN_MGEN) then d
  else
    let done := d.yok.unacked.filter fun e => e.1 == a || newer32 a e.1
    if done.isEmpty then d
    else
      let d1 := d.modYok fun y => { y with unacked := y.unacked.filter (fun e => !(e.1 == a || newer32 a e.1)), resends := 0 }
      let d2 := if done.any (·.2.2 == 1) then d1.set F.YOK_STAT_MSYNC 1 else d1
      if done.any (·.2.2 == 2) then d2.endMtx .done else d2

/-- A write of YOK_MTXCMD. -/
def Dev.writeMtxcmd (d : Dev) (w : Word) : Dev :=
  let v := w.toNat
  let go := bitOf v 31
  let len := bits v 0 11
  d.regWrite .bar0 R.YOK_MTXCMD 0 w
    [((go || len != d.get F.YOK_MTXCMD_LEN) && (len == 0 || decide (1024 < len)), .eRange),
     (go && !(d.yokRole == 2 && d.is F.YOK_STAT_PAIRED), .eState), (go && d.is F.YOK_MTXCMD_BUSY, .eBusy)] fun n =>
      if go then ((n.set F.YOK_MTXCMD_GO 0).set F.YOK_MTXCMD_BUSY 1).modYok fun y => { y with recAt := some 0 } else n

def execYokMtxcmd (w : Word) (s : State) : Out' := act s fun d => d.writeMtxcmd (withBit w 31)

/-! ### The wheel's side (R409, R410) -/

/-- An STR segment goes to the mirror table in steward SRAM. -/
def Dev.applyEntry (d : Dev) (i : Nat) (data : List Byte) : Dev :=
  let l := (List.range 8).map fun k => beNat ((data.drop (4 * k)).take 4)
  let w0 := (d.get F.YOK_MCFG_SBASE * 8192 + 32 * i) / 8
  let d1 := d.memWriteWords 1 w0 ((List.range 4).map fun k => l.getD (2 * k) 0 + 2 ^ 32 * l.getD (2 * k + 1) 0)
  d1.modYok fun y => { y with live := if bits (l.headD 0) 29 3 = 0 then y.live.filter (· != i) else i :: y.live.filter (· != i) }

/-- A GRANARY segment goes to YOK_MRXBUF; with LAST the record is valid. -/
def Dev.applyRecord (d : Dev) (place : Nat) (data : List Byte) : Dev :=
  let off := place % 32768
  let d1 := d.putBytes F.YOK_MRXBUF_DATA off data
  if 32768 ≤ place then
    ((d1.set F.YOK_MRXSTAT_VALID 1).set F.YOK_MRXSTAT_LEN (off + data.length)).yokEvent 3 0 0
  else d1

/-- A MIRROR bale at the wheel: next in order, or dropped. -/
def Dev.rxMirror (d : Dev) (b : Bale) : Dev :=
  let kind := b.pay 4 1
  let place := b.pay 6 2
  let data := b.data.drop 8
  if d.yokRole ≠ 3 ∨ !d.is F.YOK_STAT_PAIRED ∨ b.pay 0 4 ≠ nextGen (d.get F.YOK_MGEN_MGEN) then d
  else
    let d1 := d.set F.YOK_MGEN_MGEN (b.pay 0 4)
    match kind with
    | 1 => if data.length = 32 then d1.applyEntry (b.pay 5 1) data else d
    | 2 =>
      if d.is F.YOK_MRXSTAT_VALID || data.isEmpty || decide (1024 < place % 32768 + data.length) then d else d1.applyRecord place data
    | 3 => d1.set F.YOK_STAT_MSYNC 1
    | _ => d

/-- A valid beat. -/
def Dev.rxBeat (d : Dev) (b : Bale) : Dev :=
  let seq := b.hd 0 4
  if b.src ≠ d.get (F.HAY_LANE0_NBR 5) ∨ (d.yok.seen ∧ !newer32 seq (d.get F.YOK_RXSEQ_HBSEQ)) then d
  else
    let v := b.pay 0 2
    let lead := b.sub == 1
    let d1 := (d.set F.YOK_RXSEQ_HBSEQ seq).modYok fun y =>
      let y1 := { y with seen := true, peer := some (lead, bits v 0 12, bits v 15 1) }
      if lead then
        { y1 with fresh := d.yokRole == 3, hand := bitOf v 14, gm := bitOf v 13, gmSeq := if bitOf v 13 then b.pay 6 4 else y.gmSeq }
      else y1
    let d2 := d1.yokEval
    if !lead && d2.yokRole == 2 && d2.is F.YOK_STAT_PAIRED then d2.mirrorAck (b.pay 2 4) else d2

/-- A YOKE bale: only on HLY (R358), and acted on while the yoke is enabled. -/
def Dev.rxYoke (d : Dev) (n : Nat) (b : Bale) : Dev :=
  if n ≠ 5 then d.dropBale n
  else if !d.is F.YOK_CTRL_EN then d
  else if b.sub = 3 then d.rxMirror b else d.rxBeat b

/-- A YOKE bale whose checks have passed arrives on HLY. -/
def Dev.rxYokeChecked (d : Dev) (l : List Byte) (ytype : Nat) : Dev :=
  if d.laneUp 5 && !d.phyHeld && wireOk (wireBale l) && ofKind 5 ytype (parseBale l) then d.rxYoke 5 (parseBale l) else d

def execLbeat (bale : List Byte) (s : State) : Out' := act s fun d => d.rxYokeChecked bale 1
def execWbeat (bale : List Byte) (s : State) : Out' := act s fun d => d.rxYokeChecked bale 2
def execMirror (bale : List Byte) (s : State) : Out' := act s fun d => d.rxYokeChecked bale 3

/-- A write of YOK_MRXSTAT. -/
def Dev.writeMrxstat (d : Dev) (w : Word) : Dev :=
  d.regWrite .bar0 R.YOK_MRXSTAT 0 w [] fun n => if bitOf w.toNat 30 then n.set F.YOK_MRXSTAT_VALID 0 else n

def execYokMrxPop (w : Word) (s : State) : Out' := act s fun d => d.writeMrxstat (withBit w 30)

/-! ### A bale as received (R361, R364) -/

/-- HAY_BALE_RX: header, payload, pad and CRC as received on a lane. (DEDUCED, log entry 51; DESIGN CHOICE, log entry 72). -/
def Dev.baleRx (d : Dev) (n sub wait : Nat) (l : List Byte) : Dev :=
  if !d.laneUp n || d.phyHeld then d
  else if l.length < 20 || crc32 (l.take (l.length - 4)) != beNat (l.drop (l.length - 4)) then
    (d.bump (F.HAY_LANE8_CRCERR n)).oweFault (0x220 + n) 35
  else if !wireOk l then d.dropBale n
  else
    let b := parseBale (l.take (16 + bits (beNat ((l.drop 6).take 2)) 0 10))
    if b.type = 5 then d.rxYoke n b else d.rxBale n sub wait b

def execHayBaleRx (lane : Fin 6) (sub : Fin 334) (wait : BitVec 16) (raw : List Byte) (s : State) : Out' :=
  act s fun d => d.baleRx lane.val sub.val wait.toNat raw

end Sys2Proof.Machine
end

