-- ==== Sys2Proof/Machine/Power.lean ====
section
/-!
DEFINITION. Power life, resets, start-up, shutdown, the crystals and the crossings (chapters 02 and 03).
-/
namespace Sys2Proof.Machine

open Sys2Proof

def Dev.modPow (d : Dev) (f : Pow → Pow) : Dev := { d with pow := f d.pow }

def Dev.modXt (d : Dev) (f : Xt → Xt) : Dev := { d with xt := f d.xt }

def Dev.power (d : Dev) : Power := d.pow.state

def Dev.setPower (d : Dev) (p : Power) : Dev := d.modPow fun x => { x with state := p }

/-- Start-up step 2: RAIL_EN rises (R58, Table 03.8). -/
def Dev.railsUp (d : Dev) : Dev := d.modPow fun x => { x with state := .railUp, railEn := true }

/-- Reset is released, so that VIN_SYS is compared with the warning threshold (R64, R80). (DEDUCED, log entry 17). -/
def Dev.supOn (d : Dev) : Bool := d.coreOn || d.power == .railUp

def Dev.isDormant (d : Dev) : Bool := d.power == .dormant || d.power == .dormantTime

/-! ### Resets (R76 to R78, R82, R540) -/

/-- A field of the always-on registers SUP_RSTCAUSE, SUP_WAKECFG, SUP_WAKESRC, SUP_SECONDS and SUP_ALARM (Table 03.6). -/
def alwaysOn (k : Nat) : Bool := k / 32 == 0x1004 || (decide (0x1010 ≤ k / 32) && decide (k / 32 < 0x1020))

/-- What the ordering-code fuse and the other fuses show once registers hold their reset values (Tables 01.8 and 19.8). -/
def Dev.showFuses (d : Dev) : Dev :=
  ((d.set F.GLB_ID_CODE d.code).set F.GLB_CTRL_T0HOST (bitNat (d.code == 2))).showLcs

/-- A reset that clears LOCK bits: every register of every block and all that stands behind them return to reset; where
`keep`, the always-on registers do not. Flash and fuses keep what they hold, but what was being programmed is cut off. -/
def Dev.wholeReset (d : Dev) (keep : Bool) : Dev :=
  let c := d.cutJobs.cutFuses
  let n : Dev := { fld := if keep then c.fld.filter fun e => alwaysOn e.1 else [], code := c.code, out := c.out, free := c.free,
                   flash := c.flash, fuse := c.fuse, pow := { railFault := keep && c.pow.railFault },
                   cross := { base := c.out.length }, rat := { quiet := keep } }
  n.showFuses

/-- POR: VIN_SYS rises from OFF. (DEDUCED, log entry 17; DESIGN CHOICE, log entry 73). -/
def Dev.por (d : Dev) : Dev := d.wholeReset false

def execPor (s : State) : Out' := always s Dev.por

/-- A fall below the reset threshold while dormant: the device stays without its rails, a discharge hold goes on, and what fired
before the reset wakes nothing after it (R584). (DEDUCED, log entry 17). -/
def Dev.dormantReset (d : Dev) : Dev :=
  ((d.wholeReset true).set F.SUP_RSTCAUSE_SUPPLY 1).modPow fun x => { x with state := .heldDormant, discharge := d.pow.discharge }

/-- VIN_SYS falls below 2.85 V (R65, R584). -/
def Dev.supplyReset (d : Dev) : Dev :=
  match d.power with
  | .off => d
  | .dormant | .dormantTime | .heldDormant => d.dormantReset
  | _ => (d.wholeReset true).set F.SUP_RSTCAUSE_SUPPLY 1

def execSupplyReset (s : State) : Out' := always s Dev.supplyReset

def execDormantSupplyReset (s : State) : Out' :=
  always s fun d => if d.isDormant || d.power == .heldDormant then d.dormantReset else d

/-! ### Warning (R64, R80) -/

/-- WARN as SUP_WARN raises it: the event, the fault source, lean grants. -/
def Dev.warnOn (d : Dev) : Dev :=
  if d.is F.SUP_STAT_WARN then d
  else (((d.set F.SUP_STAT_WARN 1).supEvent 0 d.tenants 0 0).fault 0x240 51).ratTrip

def execSupWarn (s : State) : Out' := always s fun d => if d.supOn then d.warnOn else d

def Dev.warnOff (d : Dev) : Dev :=
  if d.is F.SUP_STAT_WARN then (d.set F.SUP_STAT_WARN 0).supEvent 1 d.tenants 0 0 else d

def execSupWarnClear (s : State) : Out' := always s fun d => if d.supOn then d.warnOff else d

/-- Reset is released: RAIL_EN rises, and WARN is evaluated as a level, `sag` saying that VIN_SYS is below 3.20 V (R80). -/
def Dev.release (d : Dev) (sag : Bool) : Dev := if sag then d.railsUp.warnOn else d.railsUp

/-- RESET_N low for 1 µs or more, to its release; ignored without the rails' domain being in use (R567). A held reset stays held.
 (DEDUCED, log entry 17). -/
def Dev.resetN (d : Dev) (sag : Bool) : Dev :=
  match d.power with
  | .off | .dormant | .dormantTime | .heldDormant => d
  | .held => (d.wholeReset true).set F.SUP_RSTCAUSE_RESETN 1
  | _ => ((d.wholeReset true).set F.SUP_RSTCAUSE_RESETN 1).release sag

def execResetNAssert (sag : Bool) (s : State) : Out' := always s fun d => d.resetN sag

/-- The life-cycle change reset: RAIL_EN stays high (Table 19.4 step 3). -/
def Dev.lifeReset (d : Dev) (sag : Bool) : Dev := ((d.wholeReset true).set F.SUP_RSTCAUSE_LCS 1).release sag

/-! ### Wakes (R62, R74, R584) -/

def Dev.wakeEnabled (d : Dev) (i : Nat) : Bool :=
  match i with
  | 5 => d.is F.SUP_WAKECFG_WAKEN
  | 6 => d.is F.SUP_WAKECFG_BATID
  | 7 => d.is F.SUP_WAKECFG_ALARM
  | 8 => d.is F.SUP_WAKECFG_YKTOKEN
  | _ => d.bit F.SUP_WAKECFG_VBUS i

/-- A wake: a supply reset and a full start-up. -/
def Dev.wakeUp (d : Dev) (sag : Bool) : Dev := ((d.wholeReset true).set F.SUP_RSTCAUSE_WAKE 1).release sag

/-- The source can fire: VBUS not masked by moisture (R117), ALARM in DORMANT+TIME at the alarm second only.
 (DEDUCED, log entries 22, 70). -/
def Dev.mayFire (d : Dev) (i : Nat) : Bool :=
  if i < 5 then !(d.port i).wakeMasked
  else if i = 7 then d.power == .dormantTime && d.get F.SUP_SECONDS_COUNT == d.get F.SUP_ALARM_COUNT
  else true

def Dev.addFired (d : Dev) (i : Nat) : Dev := d.modPow fun x => { x with fired := x.fired ||| 2 ^ i }

/-- A wake source fires. (DEDUCED, log entry 19). -/
def Dev.wakeFires (d : Dev) (i : Nat) (sag : Bool) : Dev :=
  if !d.mayFire i then d
  else if d.isDormant then
    let d1 := d.latchSrc i
    if !d.pow.discharge then (if d.wakeEnabled i then d1.wakeUp sag else d1)
    else if d.pow.newFiring then d1 else d1.addFired i
  else if !d.up then d
  else if d.get F.SUP_STAT_STAGE = 0 then (if d.wakeEnabled i then d.rouse else d)
  else (d.latchSrc i).addFired i

def execWake (src : Fin 9) (sag : Bool) (s : State) : Out' := always s fun d => d.wakeFires src.val sag

/-- What makes the device wake when the discharge hold is over: returned input, or an enabled source that fired.
 (DEDUCED, log entry 22). -/
def Dev.wakeDue (d : Dev) : Bool := d.pow.inputLatched || (List.range 9).any fun i => bitOf d.pow.fired i && d.wakeEnabled i

/-- DISCHARGE_HOLD_END. A wake that falls due while a reset is held acts at its release. -/
def Dev.holdEnd (d : Dev) (sag : Bool) : Dev :=
  if !d.pow.discharge then d
  else
    let d1 := d.modPow fun x => { x with discharge := false }
    if d1.isDormant && d1.wakeDue then d1.wakeUp sag else d1

def execDischargeHoldEnd (sag : Bool) (s : State) : Out' := always s fun d => d.holdEnd sag

/-- The dormant state that SUP_WAKECFG.TIME selects. -/
def Dev.dormantKind (d : Dev) : Power := if d.is F.SUP_WAKECFG_TIME then .dormantTime else .dormant

/-- RESET_RELEASE_HOLD_END: `sag` says that VIN_SYS is below 3.20 V; `holds` are the wake conditions that hold (R65, R80,
R584). (DEDUCED, log entry 18). -/
def Dev.releaseHold (d : Dev) (sag : Bool) (holds : Nat) : Dev :=
  match d.power with
  | .held => d.release sag
  | .heldDormant =>
    let d1 := d.setPower d.dormantKind
    let on := (List.range 9).filter fun i => bitOf holds i && d1.mayFire i && d1.wakeEnabled i
    let d2 := on.foldl Dev.latchSrc d1
    if d2.pow.discharge then on.foldl Dev.addFired d2
    else if !on.isEmpty then d2.wakeUp sag else d2
  | _ => d

def execResetReleaseHoldEnd (sag : Bool) (holds : BitVec 9) (s : State) : Out' := always s fun d => d.releaseHold sag holds.toNat

/-- SECONDS_TICK: 32,768 slow-count edges (R63); in DORMANT+TIME the ALARM comparison. (DEDUCED, log entry 17). -/
def Dev.secondsTick (d : Dev) (sag : Bool) : Dev :=
  if d.up then d.set F.SUP_SECONDS_COUNT (d.get F.SUP_SECONDS_COUNT + 1)
  else if d.power == .dormantTime then (d.set F.SUP_SECONDS_COUNT (d.get F.SUP_SECONDS_COUNT + 1)).wakeFires 7 sag
  else d

def execSecondsTick (sag : Bool) (s : State) : Out' := always s fun d => d.secondsTick sag

/-! ### Start-up (Table 03.8) -/

/-- RAILS_GOOD: steps 3 and 4: the core is released, every crossing empty and owned by its writing side (R52, R53, R301, R398,
R478). -/
def execRailsGood (s : State) : Out' := always s fun d => if d.power == .railUp then d.clearCrossings.setPower .released else d

/-- The rails are given up: RAIL_EN low, RAILFAIL, DORMANT, and after the discharge hold only a new firing wakes (R88).
 (DEDUCED, log entry 70). -/
def Dev.railFail (d : Dev) : Dev :=
  let d1 := (d.wholeReset true).set F.SUP_RSTCAUSE_RAILFAIL 1
  d1.modPow fun x => { x with state := .dormant, newFiring := true, discharge := true, railFault := true }

def execRailGoodTimeout (s : State) : Out' := always s fun d => if d.power == .railUp then d.railFail else d

/-- RAIL_FAILURE: a rail fails after step 3: a supply reset, then R88 (R566). -/
def execRailFailure (s : State) : Out' := always s fun d => if d.coreOn then d.railFail else d

/-- CHECKER_SELF_TEST: `chk` 0 where every checker passes, else the memory of SUP_BOOT.CHK whose checker failed (R89, R475,
R477, R492). -/
def Dev.selfTest (d : Dev) (chk : Nat) : Dev :=
  if d.power != .released then d
  else if chk = 0 then d.setPower .tested
  else ((((d.set F.SUP_BOOT_STFAIL 1).set F.SUP_BOOT_CHK chk).setPower .stuck).showPin 0).showPin 1

def execCheckerSelfTest (chk : Fin 4) (s : State) : Out' := always s fun d => d.selfTest chk.val

/-- STARTUP_WIPE_DONE: the memories hold the wipe pattern, the key-store wipe is done, register writes are accepted, and a rail
failure's event is raised (R29, R92, R488, R533, R535). (DEDUCED, log entry 70). -/
def Dev.wipeDone (d : Dev) : Dev :=
  if d.power != .tested then d
  else
    let d1 := ({ d with ecc := { d.ecc with sram := [], epm := [], part := [], partPoison := [] } } : Dev).wipeKeys.drawChal
    let d2 := d1.modPow fun x => { x with state := .run, railFault := false }
    if d.pow.railFault then d2.fault 0x240 53 else d2

def execStartupWipeDone (s : State) : Out' := always s Dev.wipeDone

/-! ### PHY hold (R66, R67) -/

/-- The PHYs stop. Lanes fall to electrical idle. -/
def Dev.phyOn (d : Dev) : Dev := ((d.set F.SUP_STAT_PHYHOLD 1).holdLanes.supEvent 2 d.tenants 0 0).fault 0x240 52

def execSupPhyHold (s : State) : Out' :=
  always s fun d => if d.coreOn && !d.is F.SUP_STAT_PHYHOLD then d.phyOn else d

/-- `long` says that the hold lasted 3 ms or more (R239). -/
def Dev.phyOff (d : Dev) (long : Bool) : Dev :=
  let d1 := (d.set F.SUP_STAT_PHYHOLD 0).supEvent 3 d.tenants 0 0
  if d1.phyHeld then d1.sendHeld else ((d1.lheAfterHold long).pdAfterHold).sendHeld

def execSupPhyRelease (long : Bool) (s : State) : Out' :=
  always s fun d => if d.coreOn && d.is F.SUP_STAT_PHYHOLD then d.phyOff long else d

/-! ### Crystals (R49 to R55) -/

/-- The 24 MHz crystal is lost: the lanes are held, and the unit stands alone in holdover (R49, R393). -/
def Dev.xt24Lost (d : Dev) : Dev :=
  if !d.coreOn || d.is F.SUP_XTSTAT_BACKUP then d
  else
    let d1 := ((d.set F.SUP_XTSTAT_BACKUP 1).set F.SUP_XTSTAT_XT24LOST 1).set F.SUP_XTSTAT_XT24OK 0
    ((((d1.modXt fun x => { x with lost24 := true }).holdLanes.pllHold).setClass 1).set F.ALM_STAT_HOLDOVER 1).supEvent 6 d.tenants 0 0

def execXt24Lost (s : State) : Out' := always s Dev.xt24Lost

/-- The 24 MHz crystal is qualified: timers count it and the PHYs are released unless PHY hold applies. SUP_XT24_BACK is raised
where a loss was. (DEDUCED, log entry 15). -/
def Dev.xt24Good (d : Dev) (long : Bool) : Dev :=
  if !d.coreOn || !d.is F.SUP_XTSTAT_BACKUP then d
  else
    let d1 := (d.set F.SUP_XTSTAT_BACKUP 0).set F.SUP_XTSTAT_XT24OK 1
    let d2 := ((d1.modXt fun x => { x with lost24 := false }).setClass 0).pllStart
    let d3 := if d2.phyHeld then d2 else (d2.lheAfterHold long).pdAfterHold
    if d.xt.lost24 then d3.supEvent 7 d.tenants 0 0 else d3

def execXt24Back (long : Bool) (s : State) : Out' := always s fun d => if d.xt.lost24 then d.xt24Good long else d

def execXt24Qualified (s : State) : Out' := always s fun d => d.xt24Good false

/-- XT24_QUALIFY_TIMEOUT: 50 ms from reset release without qualification (R54). -/
def Dev.xt24Late (d : Dev) : Dev :=
  if !d.coreOn || !d.is F.SUP_XTSTAT_BACKUP || d.xt.lost24 then d
  else ((d.set F.SUP_XTSTAT_XT24LOST 1).modXt fun x => { x with lost24 := true }).supEvent 6 d.tenants 0 0

def execXt24QualifyTimeout (s : State) : Out' := always s Dev.xt24Late

/-- XT32_LOST: not before the crystal has first delivered 32,768 edges (R51, R55). -/
def Dev.xt32Lost (d : Dev) : Dev :=
  if !d.coreOn || !d.is F.SUP_XTSTAT_XT32OK then d
  else
    let d1 := (d.set F.SUP_XTSTAT_XT32OK 0).set F.SUP_XTSTAT_XT32LOST 1
    (d1.modXt fun x => { x with lost32 := true, slowOn24 := true }).supEvent 9 [0] 0 0

def execXt32Lost (s : State) : Out' := always s Dev.xt32Lost

/-- XT32_BACK: 32,768 consecutive good edges. (DEDUCED, log entry 15). -/
def Dev.xt32Good (d : Dev) : Dev :=
  if !d.coreOn || d.is F.SUP_XTSTAT_XT32OK then d
  else
    let d1 := (d.set F.SUP_XTSTAT_XT32OK 1).modXt fun x => { x with lost32 := false, slowOn24 := d.is F.SUP_XTCFG_SLOWSRC }
    if d.xt.lost32 then d1.supEvent 10 [0] 0 0 else d1

def execXt32Back (s : State) : Out' := always s Dev.xt32Good

/-- A change of SLOWSRC takes effect at the next slow-count edge (Table 02.5). -/
def Dev.slowSource (d : Dev) : Dev := d.modXt fun x => { x with slowOn24 := d.is F.SUP_XTCFG_SLOWSRC || !d.is F.SUP_XTSTAT_XT32OK }

/-- XTCOUNT_CAPTURE_READ by requester `who` (0 the steward, 1 T000) at a count not below the last one (R44). (DEDUCED, log entry 13). -/
def Dev.xtRead (d : Dev) (who count : Nat) : Dev :=
  let d1 := (d.accessBy who).edgesTo count
  (d1.modXt fun x => { x with cap := mapPut 0 x.cap who (x.count / 2 ^ 32) }).emit .readData who [d1.xt.count % 2 ^ 32] []

def execXtcountCaptureRead (who : Fin 2) (count : Word64) (s : State) : Out' := act s fun d => d.xtRead who.val count.toNat

/-! ### Pace (R40, R41, R45, R46) -/

/-- The runs of low and of recovered windows after a window of `n` laps. -/
def Dev.paceRuns (d : Dev) (n : Nat) : Dev :=
  let low := decide (n < d.get F.SUP_PACECFG_FLOOR)
  let high := decide (d.get F.SUP_PACECFG_FLOOR + 16 ≤ n)
  d.modXt fun x => { x with lowRun := if low then satInc 15 x.lowRun else 0, highRun := if high then satInc 15 x.highRun else 0 }

/-- PACE_WINDOW_END. -/
def Dev.paceWindow (d : Dev) (laps : Nat) : Dev :=
  let n := min laps 0xFFF
  let d1 := ((d.set F.SUP_PACE_NOW n).set F.SUP_PACE_MIN (min n (d.get F.SUP_PACE_MIN))).paceRuns n
  let run := d1.get F.SUP_PACECFG_RUN
  if d1.xt.armed then
    if run ≤ d1.xt.lowRun ∧ d1.is F.SUP_PACECFG_EN then (d1.modXt fun x => { x with armed := false }).supEvent 8 [0] 0 0 else d1
  else if run ≤ d1.xt.highRun then d1.modXt fun x => { x with armed := true } else d1

def execPaceWindowEnd (laps : BitVec 16) (s : State) : Out' := always s fun d => if d.coreOn then d.paceWindow laps.toNat else d

/-- A write of SUP_PACECFG (R46, R56): where it changes EN, RUN or FLOOR the runs start again under the new values; one that changes
none of them leaves them (R583). (DEDUCED, log entry 16). -/
def Dev.writePacecfg (d : Dev) (w : Word) : Dev :=
  let same := bits w.toNat 16 1 == d.get F.SUP_PACECFG_EN && bits w.toNat 12 4 == d.get F.SUP_PACECFG_RUN &&
    bits w.toNat 0 12 == d.get F.SUP_PACECFG_FLOOR
  d.regWrite .bar0 R.SUP_PACECFG 0 w [(bits w.toNat 12 4 == 0, .eRange)] fun n =>
    let n1 := if bitOf w.toNat 31 then n.set F.SUP_PACE_MIN 0xFFF else n
    if same then n1 else n1.modXt fun x => { x with lowRun := 0, highRun := 0 }

def execPaceMinclr (w : Word) (s : State) : Out' := act s fun d => d.writePacecfg (withBit w 31)

/-! ### Crossings (R47, R48, R57) -/

/-- The fault unit of a crossing (Table 17.3, source 22). -/
def crossingUnit (n : Nat) : Nat :=
  if n ≤ 8 then 0x200 + n else if n ≤ 13 then 0x210 + (n - 9) else if n ≤ 19 then 0x220 + (n - 14)
  else if n = 21 ∨ n = 22 then 0x21A + (n - 21) else 0x240

/-- A crossing whose PHY the hold stops: USB, BMC, Haywain and PCI Express, so that a drop there is cut-off traffic (R67, R496).
 (DEDUCED, log entry 14). -/
def Dev.crossingHeld (d : Dev) (n : Nat) : Bool := (d.phyHeld && n ≤ 19) || (d.pcieHeld && n == 20)

/-- (DEDUCED, log entry 14). -/
def Dev.crossingFault (d : Dev) (n : Nat) : Dev := if d.crossingHeld n then d else d.fault (crossingUnit n) 22

/-- An item of `len` bytes arrives whole at crossing `n`: it goes in where there is room, or is dropped whole and counted (R47). -/
def Dev.crossIn (d : Dev) (n len : Nat) (slack : Fin 3) : Dev :=
  let x := d.crossing n
  if x.inn.roomFor n true slack len then d.setCrossing n { x with inn := x.inn.put n len }
  else (d.bump (F.SUP_XDROP_IN n)).crossingFault n

/-- CROSSING_INBOUND: `slack` says how early the full flag stands (R35). -/
def execCrossingInbound (n : Fin 26) (len : Nat) (slack : Fin 3) (s : State) : Out' := act s fun d => d.crossIn n.val len slack

/-- What a transmitter sends that finds nothing ready: a lane idle symbols, a serial audio port zeros, the others nothing (R48). -/
def Dev.sendNothing (d : Dev) (n : Nat) : Dev :=
  if d.crossingHeld n then d
  else if 14 ≤ n ∧ n ≤ 19 then d.emit .idle (n - 14) [] []
  else if n = 21 ∨ n = 22 then d.emit .tdm (n - 21) [] (List.replicate 512 0)
  else d

/-- The transmitter of crossing `n` is at a boundary: with a whole item ready it sends the oldest, unless its PHY is held, and otherwise
nothing new, which is counted (R34, R48, R67). -/
def Dev.crossOut (d : Dev) (n : Nat) (slack : Fin 3) : Dev :=
  let d1 := d.feedCrossing n
  let x := d1.crossing n
  if x.out.ready n slack then if d1.crossingHeld n then d1 else d1.setCrossing n { x with out := x.out.take n }
  else ((d1.bump (F.SUP_XDROP_OUT n)).crossingFault n).sendNothing n

/-- CROSSING_TX_BOUNDARY: `slack` says how late the empty flag falls (R35). -/
def execCrossingTxBoundary (n : Fin 26) (slack : Fin 3) (s : State) : Out' := act s fun d => d.crossOut n.val slack

/-- A write of SUP_XCLR. -/
def Dev.writeXclr (d : Dev) (w : Word) : Dev :=
  d.regWrite .bar0 R.SUP_XCLR 0 w [] fun n =>
    (List.range 26).foldl (fun x i => if bitOf w.toNat i then (x.set (F.SUP_XDROP_IN i) 0).set (F.SUP_XDROP_OUT i) 0 else x) n

def execSupXclr (w : Word) (s : State) : Out' := act s fun d => d.writeXclr w

/-! ### DOZE (R60, R61, R87) -/

/-- A condition of R60 fails. (DEDUCED, log entry 19). -/
def Dev.dozeBlocked (d : Dev) : Bool :=
  (d.hubUp && !d.is F.HUB_STAT_SUSP) ||
  [1, 2, 3, 4, 5, 6, 7, 8].any (fun p => d.isLocal p && d.is (F.PRT_LSTAT_ENABLED (p - 1)) && !d.is (F.PRT_LSTAT_SUSP (p - 1))) ||
  (List.range 256).any (fun s => decide (2 ≤ d.strState s) && decide (d.strState s ≤ 4)) ||
  d.heldAll != 0 || d.switching || !d.upLanes.isEmpty

/-- A write of SUP_STATE. -/
def Dev.writeState (d : Dev) (w : Word) : Dev :=
  let q := bits w.toNat 4 4
  d.regWrite .bar0 R.SUP_STATE 0 w
    [(decide (2 ≤ q), .eField), (q == 1 && (d.get F.SUP_STAT_STAGE != 0 || d.dozeBlocked), .eState)] fun n =>
      if q = 1 then n.setPower .doze else n

def execDozeRequest (w : Word) (s : State) : Out' :=
  act s fun d => d.writeState (BitVec.ofNat 32 (w.toNat - bits w.toNat 4 4 * 16 + 16))

/-- (DEDUCED, log entry 19). -/
def execDozeExit (s : State) : Out' := act s Dev.rouse

/-! ### The shutdown sequence (R69 to R75, R79 to R87) -/

/-- S1 begins: SUP_SHUTDOWN with CAUSE and G, any pending commit at once, and a handover by a paired lead (R71, R85, R419,
R439). (DEDUCED, log entry 21). -/
def Dev.startS1 (d : Dev) : Dev :=
  let d1 := ((d.setPower .run).set F.SUP_STAT_STAGE 1).set F.SUP_STATE_CUR 5
  let d2 := d1.modPow fun x => { x with inputLatched := false, fired := 0 }
  let d3 := (d2.supEvent 4 d2.tenants d2.causes (d2.get F.SUP_SHUTCFG_GRACE)).commitAtS1
  if d3.mayHandOver then d3.handOver else d3

/-- Records a cause; one that arrives during the sequence is only added (R69). -/
def Dev.shutCause (d : Dev) (f : Fld) : Dev :=
  let d1 := d.set f 1
  if d.get F.SUP_STAT_STAGE = 0 then d1.startS1 else d1

/-- S1 ends and S2 begins: fetch stops, every running stream is flushed, and a grant is withdrawn (R71, R175). (DEDUCED, log entry 21). -/
def Dev.startS2 (d : Dev) : Dev :=
  let run := (List.range 256).filter fun s => d.strState s == 2 || d.strState s == 3
  let d1 := (d.set F.SUP_STAT_STAGE 2).modPow fun x => { x with s2Streams := x.s2Streams ++ run }
  (run.foldl Dev.startFlush d1).withdraw.limitLow

/-- Tickets still in flight complete with E_FLUSHED; a re-steer goes on without its descriptor. -/
def Dev.flushTickets (d : Dev) : Dev :=
  let d1 := d.hif.fetched.foldl (fun d e => e.2.foldl (fun d tk => d.complete tk .eFlushed) d)
    { d with hif := { d.hif with fetched := [] } }
  let d2 := (d.hif.reads.filter fun e => e.2.n != 0).foldl (fun d e =>
    let d' := d.failRead (e.1 / 8) (e.1 % 8) .eFlushed
    if d.inPart (e.1 / 8) then d' else { d' with hif := { d'.hif with abandoned := d'.hif.abandoned + 1 } }) d1
  let d3 := [1, 2, 3, 4, 5, 6, 7, 8].foldl (fun d p => if (d.live (isPortcmd p)).isEmpty then d else d.endCmd p .eFlushed) d2
  let d4 := (List.range 256).foldl (fun d f => if (d.flow f).opening then d.failOpen f .eFlushed true else d) d3
  d4.endTkts (fun _ => true) .eFlushed

/-- What S4 does: source switches, power enables, charger, PHYs and path off; gathered writes and polls abandoned, the flashes put to
sleep where DPD asks it; a lead still driving YK_TOKEN releases it (R71, R120, R133, R152, R419, R449). -/
def Dev.stopAll (d : Dev) : Dev :=
  let d1 := (List.range 5).foldl (fun d p => (d.reserve p 0).modPort p fun x => { x with vbg := false }) d
  let d2 := [5, 6, 7, 8].foldl (fun d p => d.modHubPort p fun x => { x with pwren := false }) d1
  let d2s := if d2.pack.sess then (d2.closeSession 8 0).oweFault 0x218 9 else d2.set F.CHG_STAT_STATE 0
  let d3 := (d2s.set F.CEL_BAL_MASK 0).set F.CEL_STAT_OWBUSY 0
  let d4 := (d3.holdLanes.set F.HIF_STAT_LINKUP 0).cutJobs
  let d5 := if d4.is F.FLS_CFG_DPD then (d4.flashSend 0 0xB9 0 []).flashSend 1 0xB9 0 [] else d4
  d5.leaveToken

/-- S4, the commit point. (DEDUCED, log entry 21). -/
def Dev.startS4 (d : Dev) : Dev := (d.set F.SUP_STAT_STAGE 4).stopAll

/-- A stage may go on: no abort waits for a commit (R73). -/
def Dev.atStage (d : Dev) (n : Nat) : Bool := d.get F.SUP_STAT_STAGE == n && !d.pow.abortWait

/-- A write of SUP_SHUT: GO, SKIP and CANCEL (R69, R75). -/
def Dev.writeShut (d : Dev) (w : Word) : Dev :=
  let v := w.toNat
  let st := d.get F.SUP_STAT_STAGE
  d.regWrite .bar0 R.SUP_SHUT 0 w [(bitOf v 1 && st != 1, .eState), (bitOf v 2 && (st == 0 || st == 4), .eState)] fun n =>
    let n1 := ((n.set F.SUP_SHUT_GO 0).set F.SUP_SHUT_SKIP 0).set F.SUP_SHUT_CANCEL 0
    let n2 := if bitOf v 0 then n1.shutCause F.SUP_SHUT_CAUSE_SOFT else n1
    let n3 := if bitOf v 1 then n2.startS2 else n2
    if bitOf v 2 then
      let n4 := n3.set F.SUP_SHUT_CAUSE_SOFT 0
      if n4.causes = 0 then n4.abortShutdown else n4
    else n3

def execShutdownGo (w : Word) (s : State) : Out' := act s fun d => d.writeShut (withBit w 0)

def execShutdownSkip (w : Word) (s : State) : Out' := act s fun d => d.writeShut (withBit w 1)

def execShutdownCancel (w : Word) (s : State) : Out' := act s fun d => d.writeShut (withBit w 2)

/-- WARNDLY_EXPIRY (R68). -/
def execWarndlyExpiry (s : State) : Out' :=
  act s fun d => if d.is F.SUP_STAT_WARN && d.get F.SUP_WARNCFG_SHUTDLY != 0 then d.shutCause F.SUP_SHUT_CAUSE_WARNDLY else d

/-- LOWPACK_EXPIRY: a fault source of SUP (R69, R90). -/
def execLowpackExpiry (s : State) : Out' :=
  act s fun d => if d.is F.SUP_PACKCFG_EN && d.lowpack then (d.shutCause F.SUP_SHUT_CAUSE_LOWPACK).fault 0x240 54 else d

def execShutdownGraceExpiry (s : State) : Out' := act s fun d => if d.atStage 1 then d.startS2 else d

/-- SHUTDOWN_S2_TICKET_TIMEOUT: 4 ms; S3 follows at the command's end unless a flush still runs (R71). -/
def execShutdownS2TicketTimeout (s : State) : Out' :=
  act s fun d => if d.atStage 2 then d.flushTickets else d

/-- SHUTDOWN_COMMIT_DONE: GRN has reported the commit of S3 done. After a steward watchdog reset in S3 only C ends the stage (R83). -/
def execShutdownCommitDone (s : State) : Out' :=
  act s fun d => if d.atStage 3 && d.pow.s3Done && !d.pow.s3Lost then d.startS4 else d

/-- SHUTDOWN_COMMIT_TIMEOUT: C elapses in S3 (R72). -/
def execShutdownCommitTimeout (s : State) : Out' := act s fun d => if d.atStage 3 then d.startS4 else d

/-- SHUTDOWN_S5: RAIL_EN falls and the discharge hold starts. -/
def Dev.startS5 (d : Dev) : Dev :=
  if d.get F.SUP_STAT_STAGE = 4 then
    (d.set F.SUP_STAT_STAGE 0).modPow fun x => { x with state := d.dormantKind, discharge := true, newFiring := false, railEn := false }
  else d

def execShutdownS5 (s : State) : Out' := act s Dev.startS5

/-! ### Input (R70, R73, R74) -/

/-- INPUT_PRESENT by port `src` (0 to 4), whose VBUS has been within its contract range for its 10 ms, or by the pack (5), which
counts as it reads: what follows happens at the command's end. In the discharge hold it is latched alone. -/
def Dev.inputPresent (d : Dev) (src : Nat) : Dev :=
  if d.up then
    if src < 5 then d.followUsb ((d.modPort src fun x => { x with vin := true, lost := false }).selectInput) src else d
  else if d.isDormant && d.pow.discharge && !d.pow.newFiring then
    (d.latchSrc (if src < 5 then src else 6)).modPow fun x => { x with inputLatched := true }
  else d

def execInputPresent (src : Fin 6) (volt cur : Fin 4096) (s : State) : Out' :=
  always s fun d => (if d.up && src.val < 5 then d.vbusSample src.val volt.val cur.val else d).inputPresent src.val

end Sys2Proof.Machine
end

