-- ==== Sys2Proof/Machine/Pack.lean ====
section
/-!
DEFINITION. Meanings of the charger and cell-monitor commands (chapter 05).
-/
namespace Sys2Proof.Machine

open Sys2Proof

def Dev.modPack (d : Dev) (f : Pack → Pack) : Dev := { d with pack := f d.pack }

/-- A CEL event by its bit in CEL_INT, with the count or pin it carries as ARG (Table 05.19). (DEDUCED, log entry 27). -/
def Dev.celEvent (d : Dev) (bit arg : Nat) : Dev := d.raise (bitFld 0x3868 bit) (0x400 + bit) [0] 0 arg 0

/-- The thresholds of Table 05.2 descend strictly (R160). -/
def descends : List Nat → Bool
  | a :: b :: t => decide (b < a) && descends (b :: t)
  | _ => true

/-! ### Cells, balancing and LOWEST -/

/-- Forces the balancing bits of R142 and R152 to 0: cells not OK, no pack, a fenced charger, S4. -/
def Dev.forceBalance (d : Dev) : Dev :=
  let ok := d.is F.CEL_STAT_PRESENT && !(mapGet {} d.urec 0x218).fenced && decide (d.get F.SUP_STAT_STAGE < 4)
  (List.range 8).foldl (fun d k => if ok && d.cellState k == 1 then d else d.setBit F.CEL_BAL_MASK k false) d

/-- Gives every cell below NCELL a state and the others UNUSED. -/
def Dev.setCells (d : Dev) (st : Nat) : Dev :=
  (List.range 8).foldl (fun x k => x.set (F.CEL_CELL_STATE k) (if k < d.nCells then st else 0)) d

/-- NCELL changed: the cells it names are OK with a qualified pack and ABSENT without one; qualification starts afresh
(R143, R157). -/
def Dev.cellsConfigured (d : Dev) : Dev :=
  ((d.setCells (if d.is F.CEL_STAT_PRESENT then 1 else 2)).forceBalance).modPack fun p => { p with qual := false }

def Dev.openPin (d : Dev) (k : Nat) : Bool := d.bit F.CEL_OWCFG_OPEN k

/-- The sum of the readings of the cells other than `j`. -/
def Dev.otherCells (d : Dev) (j : Nat) : Nat :=
  ((List.range d.nCells).map fun k => if k = j then 0 else d.get (F.CEL_CELL_CODE k)).foldl (· + ·) 0

/-- How cell k counts in LOWEST (R140): its own reading unless it is OPEN; then PACK_SENSE less the others for an open CELL0 or
CELLN, and half the sum of the pair for an open wire between. A PACK_SENSE code is eight cell codes. -/
def Dev.lowestTerm (d : Dev) (k : Nat) : Nat :=
  if d.cellState k ≠ 3 then d.get (F.CEL_CELL_CODE k)
  else if k = 0 && d.openPin 0 then 8 * d.get F.CEL_PACK_CODE - d.otherCells 0
  else if k + 1 = d.nCells && d.openPin d.nCells then 8 * d.get F.CEL_PACK_CODE - d.otherCells k
  else if d.openPin (k + 1) && k + 1 < d.nCells then (d.get (F.CEL_CELL_CODE k) + d.get (F.CEL_CELL_CODE (k + 1))) / 2
  else if d.openPin k && 0 < k then (d.get (F.CEL_CELL_CODE (k - 1)) + d.get (F.CEL_CELL_CODE k)) / 2
  else d.get (F.CEL_CELL_CODE k)

/-- CEL_STAT.LOWEST (R140); 0 with the pack absent. -/
def Dev.showLowest (d : Dev) : Dev :=
  d.set F.CEL_STAT_LOWEST
    (if d.is F.CEL_STAT_PRESENT && d.nCells != 0 then ((List.range d.nCells).map d.lowestTerm).foldl min 16383 else 0)

/-- A cell code is at or above a level of `mv` millivolts. -/
def codeAtLeast (code mv : Nat) : Bool := decide (mv * 16384 ≤ code * 5000)

def Dev.anyOv (d : Dev) : Bool := (List.range d.nCells).any fun k => d.cellState k == 4

/-- The cell sum lies within 1% of PACK_SENSE (R146). -/
def Dev.sumOk (d : Dev) : Bool :=
  let s := d.otherCells 8
  let p := 8 * d.get F.CEL_PACK_CODE
  decide (100 * (s - p) ≤ p) && decide (100 * (p - s) ≤ p)

/-! ### Temperature bands and stages -/

/-- The band of the colder and the hotter reading (Table 05.2); where one reading meets a cold band and the other a hot one, cold goes
before hot and cool before warm. (DESIGN CHOICE, log entry 80). -/
def Dev.band (d : Dev) (cold hot : Nat) : Nat :=
  if d.get F.CEL_TLIM0_COLD < cold then 0
  else if hot < d.get F.CEL_TLIM1_HOT then 4
  else if d.get F.CEL_TLIM0_COOL < cold then 1
  else if hot < d.get F.CEL_TLIM1_WARM then 3
  else 2

/-- The band's regulation voltage per cell in millivolts. -/
def Dev.vReg (d : Dev) : Nat := 3600 + 10 * d.get F.CHG_CFG_VREG - (if d.get F.CHG_STAT_TBAND = 3 then 100 else 0)

/-- Suspends an open session with a reason of CHG_STAT.SUSP. -/
def Dev.suspend (d : Dev) (why : Nat) : Dev :=
  if d.pack.sess then (d.set F.CHG_STAT_STATE 6).set F.CHG_STAT_SUSP why else d

/-- What keeps an open session suspended now: 1 temperature, 2 OPEN, 3 SUM, 0 nothing; of several the first in this order is shown.
 (DESIGN CHOICE, log entry 80). -/
def Dev.suspReason (d : Dev) : Nat :=
  if d.get F.CHG_STAT_TBAND = 0 ∨ d.get F.CHG_STAT_TBAND = 4 then 1
  else if d.anyOpen then 2
  else if d.pack.sumBad then 3
  else 0

/-- Suspends or resumes the session as its conditions stand (R138, R147); an OCP suspension ends only by its own second, and
switching starts again only with the steward running and its KICKs coming (R28, R136). (DEDUCED, log entry 28). -/
def Dev.suspOrResume (d : Dev) : Dev :=
  if !d.pack.sess || d.get F.CHG_STAT_SUSP = 4 then d
  else match d.suspReason with
    | 0 =>
      if d.get F.CHG_STAT_STATE = 6 && d.stewardRuns && !d.pack.dead then
        (d.set F.CHG_STAT_SUSP 0).set F.CHG_STAT_STATE (if codeAtLeast (d.get F.CEL_STAT_LOWEST) 3000 then 3 else 2)
      else d
    | r => d.suspend r

/-- PRECHARGE to CC at 3.00 V, CC to CV at N × V (R135). -/
def Dev.stageUp (d : Dev) : Dev :=
  if !d.pack.sess then d
  else match d.get F.CHG_STAT_STATE with
    | 2 => if codeAtLeast (d.get F.CEL_STAT_LOWEST) 3000 then d.set F.CHG_STAT_STATE 3 else d
    | 3 => if d.nCells * d.vReg * 16384 ≤ d.get F.CEL_PACK_CODE * 40000 then d.set F.CHG_STAT_STATE 4 else d
    | _ => d

/-- In CC and CV the current falls by 50 mA while any cell is at V + 25 mV or above (R135). -/
def Dev.trimCurrent (d : Dev) : Dev :=
  let s := d.get F.CHG_STAT_STATE
  if d.pack.sess && (s == 3 || s == 4) &&
      (List.range d.nCells).any (fun k => codeAtLeast (d.get (F.CEL_CELL_CODE k)) (d.vReg + 25)) then
    d.modPack fun p => { p with trim := p.trim + 50 }
  else d

/-! ### Open-wire test (R144, R146) -/

/-- Starts a test at CELL0: none from S4 on (R152). -/
def Dev.owStart (d : Dev) : Dev :=
  if decide (d.get F.SUP_STAT_STAGE < 4) && d.is F.CEL_STAT_PRESENT && !d.is F.CEL_STAT_OWBUSY && d.nCells != 0 then
    (d.set F.CEL_STAT_OWBUSY 1).modPack fun p => { p with owPin := 0, owMoved := [] }
  else d

/-- Cell k is on the pin under test, so that its new readings are withheld (Table 05.4). -/
def Dev.withheld (d : Dev) (k : Nat) : Bool :=
  d.is F.CEL_STAT_OWBUSY && (k == d.pack.owPin || k + 1 == d.pack.owPin)

/-- Cells whose reading lies outside CEL_CELLLIM. -/
def Dev.outside (d : Dev) (k : Nat) : Bool :=
  decide (d.get F.CEL_CELLLIM_OV < d.get (F.CEL_CELL_CODE k)) || decide (d.get (F.CEL_CELL_CODE k) < d.get F.CEL_CELLLIM_UV)

/-- Some OK cell reads outside the limits. -/
def Dev.anyOutside (d : Dev) : Bool := (List.range d.nCells).any fun k => d.cellState k == 1 && d.outside k

/-- A cell OV or UV is found back within its limits at a scan. (DEDUCED, log entry 28). -/
def Dev.cellsBack (d : Dev) : Dev :=
  (List.range d.nCells).foldl (fun d k => if 4 ≤ d.cellState k && !d.outside k then d.set (F.CEL_CELL_STATE k) 1 else d) d

/-- Closes an open session with its record, its event and the fault source of its cause (R137, R155). Without one, charging just
ends; REVERSE and FENCED stay. -/
def Dev.closeFault (d : Dev) (cause state src : Nat) : Dev :=
  if d.pack.sess then (d.closeSession cause state).fault 0x218 src
  else if d.get F.CHG_STAT_STATE = 7 ∨ d.get F.CHG_STAT_STATE = 8 then d
  else d.set F.CHG_STAT_STATE state

/-- A real cell fault (R146, R156): OV closes the session with FAULT, UV raises its event and stops nothing. -/
def Dev.cellFault (d : Dev) (k : Nat) : Dev :=
  if d.get F.CEL_CELLLIM_OV < d.get (F.CEL_CELL_CODE k) then
    ((d.set (F.CEL_CELL_STATE k) 4).celEvent 2 (k + 1)).closeFault 6 0 8
  else ((d.set (F.CEL_CELL_STATE k) 5).celEvent 3 (k + 1)).fault 0x218 12

/-- The cells a moved pin makes OPEN (Table 05.5). -/
def Dev.pinCells (d : Dev) (k : Nat) : List Nat :=
  if k = 0 then [0] else if k = d.nCells then [k - 1] else [k - 1, k]

/-- PACK_SENSE is suspect: CEL_SUM_MISMATCH (Table 05.5, R147). -/
def Dev.sumMismatch (d : Dev) : Dev :=
  ((d.modPack fun p => { p with sumBad := true }).celEvent 4 0).fault 0x218 11

/-- One moved pin: its cells OPEN and CEL_OPEN_WIRE(k). -/
def Dev.pinOpen (d : Dev) (k : Nat) : Dev :=
  let d1 := (d.pinCells k).foldl (fun d c => d.set (F.CEL_CELL_STATE c) 3) d
  ((d1.setBit F.CEL_OWCFG_OPEN k true).celEvent 1 k).fault 0x218 10

/-- The verdict of a complete test (Table 05.5). -/
def Dev.owVerdict (d : Dev) : Dev :=
  let ok := d.sumOk
  let moved := d.pack.owMoved
  let d0 := ((List.range d.nCells).foldl (fun d c => if d.cellState c == 3 then d.set (F.CEL_CELL_STATE c) 1 else d) d).set
    F.CEL_OWCFG_OPEN 0
  let d1 := (d0.set F.CEL_STAT_OWBUSY 0).modPack fun p => { p with sumBad := false }
  let d2 := moved.foldl Dev.pinOpen d1
  let d3 :=
    if moved = [] then
      let d := if ok then d2 else d2.sumMismatch
      if ok then (List.range d.nCells).foldl (fun d k => if d.cellState k == 1 && d.outside k then d.cellFault k else d) d else d
    else if !ok && moved.any (fun k => k != 0 && k != d.nCells) then d2.sumMismatch
    else d2
  let d4 := d3.forceBalance.showLowest
  (d4.modPack fun p => { p with suspect := false }).suspOrResume

/-- OW_PIN_DONE: the test of one pin ends, `moved` where v1 − v0 exceeded 300 mV; the next pin starts, or the verdict
follows (Table 05.4). -/
def Dev.owPinDone (d : Dev) (moved : Bool) : Dev :=
  if !d.is F.CEL_STAT_OWBUSY then d
  else
    let d1 := d.modPack fun p => { p with owMoved := if moved then p.owMoved ++ [p.owPin] else p.owMoved }
    if d.pack.owPin < d.nCells then d1.modPack fun p => { p with owPin := p.owPin + 1 } else d1.owVerdict

def execOwPinDone (moved : Bool) (s : State) : Out' := act s fun d => d.owPinDone moved

/-- A write of CEL_OWCFG (R161). -/
def Dev.writeOwcfg (d : Dev) (w : Word) : Dev :=
  d.regWrite .bar0 R.CEL_OWCFG 0 w
    [(bitOf w.toNat 8 && (d.is F.CEL_STAT_OWBUSY || !d.is F.CEL_STAT_PRESENT), .eState)]
    fun d => let d := d.set F.CEL_OWCFG_GO 0; if bitOf w.toNat 8 then d.owStart else d

def execOwTestGo (w : Word) (s : State) : Out' := act s fun d => d.writeOwcfg (w ||| 0x100)

/-- OW_TEST_PERIODIC: every PERIOD seconds with the pack present a test starts (R144). -/
def Dev.owPeriodic (d : Dev) : Dev := if d.get F.CEL_OWCFG_PERIOD = 0 then d else d.owStart

def execOwTestPeriodic (s : State) : Out' := act s Dev.owPeriodic

/-! ### The scan (R139) -/

/-- A ratio code of BATID or an NTC between the limits of presence (R143). -/
def ratioOk (c : Nat) : Bool := decide (0x0333 ≤ c) && decide (c ≤ 0x3CCD)

/-- The presence conditions of R143. -/
def Dev.presenceOk (d : Dev) : Bool :=
  d.nCells != 0 && ratioOk (d.get F.CEL_BATID_CODE) && ratioOk (d.get F.CEL_NTC_NTC1) &&
    (!d.is F.CEL_CFG_NTC2EN || ratioOk (d.get F.CEL_NTC_NTC2)) && decide (d.nCells * 2000 * 16384 ≤ d.get F.CEL_PACK_CODE * 40000)

/-- The gauge integrates 10 ms of a current in mA in units of 10 µC, saturating at the extremes of 48 bits (R141, R549). -/
def Dev.gaugeAdd (d : Dev) (ma : Int) : Dev :=
  let v := d.pack.gauge + ma
  if v ≤ -(2 ^ 47) ∧ ma < 0 then (d.modPack fun p => { p with gauge := -(2 ^ 47) }).set F.CEL_GAUGEH_SAT 1
  else if (2 ^ 47 - 1 : Int) ≤ v ∧ 0 < ma then (d.modPack fun p => { p with gauge := 2 ^ 47 - 1 }).set F.CEL_GAUGEH_SAT 1
  else d.modPack fun p => { p with gauge := v }

/-- Measurement registers updated together at the end of a scan, cells under test keeping theirs. -/
def Dev.scanRegs (d : Dev) (cells : List Nat) (pk cur ntc1 ntc2 batid : Nat) : Dev :=
  let d1 := (List.range d.nCells).foldl
    (fun x k => if d.withheld k then x else x.set (F.CEL_CELL_CODE k) ((cells[k]?).getD 0)) d
  ((((d1.set F.CEL_PACK_CODE pk).set F.CEL_CUR_CUR cur).set F.CEL_NTC_NTC1 ntc1).set F.CEL_NTC_NTC2 ntc2).set F.CEL_BATID_CODE batid

/-- Temperature band and the discharge-limit band, whose entry raises CEL_TEMP and ends a grant (R138, R173). -/
def Dev.scanTemp (d : Dev) : Dev :=
  let n1 := d.get F.CEL_NTC_NTC1
  let n2 := if d.is F.CEL_CFG_NTC2EN then d.get F.CEL_NTC_NTC2 else n1
  let d1 := d.set F.CHG_STAT_TBAND (d.band (max n1 n2) (min n1 n2))
  let hot := decide (min n1 n2 < d.get F.CEL_TLIM2_DSGHOT) && d.is F.CEL_STAT_PRESENT
  let d2 := d1.modPack fun p => { p with dsgHot := hot }
  if hot && !d.pack.dsgHot then ((d2.celEvent 5 0).fault 0x218 13).withdraw else d2

/-- CEL_SCAN: registers, gauge, presence, LOWEST, temperature, charge stages, verdict tests, LOWPACK and Ration's
readiness (R135, R138 to R144, R157, R173, R179). `short` says that the system draws more than the input gives (R131). What a
session delivers counts the current into the pack alone. (DESIGN CHOICE, log entries 72, 80). -/
def Dev.celScan (d : Dev) (cells : List Nat) (pk cur ntc1 ntc2 batid : Nat) (short : Bool) : Dev :=
  let d1 := (d.scanRegs cells pk cur ntc1 ntc2 batid).gaugeAdd (signed16 cur)
  let d2 := d1.modPack fun p => { p with
    scanned := true, short := short, qual := d1.presenceOk && !d1.is F.CEL_STAT_PRESENT,
    charge := if p.sess && cur < 2 ^ 15 then p.charge + cur else p.charge }
  let d3 := if d2.pack.qual && d2.is F.CHG_CTRL_EN && d2.get F.CHG_STAT_STATE == 0 then d2.set F.CHG_STAT_STATE 1 else d2
  let d4 := d3.cellsBack.showLowest.scanTemp
  let d5 := if d4.is F.CEL_STAT_PRESENT && d4.anyOutside then (d4.modPack fun p => { p with suspect := true }).owStart else d4
  let d6 := d5.suspOrResume.stageUp.trimCurrent.forceBalance
  if d6.is F.RAT_CTRL_EN && !d6.rat.ready then d6.ratReady else d6

def execCelScan (cells : List (Fin 16384)) (pk : Fin 16384) (cur : BitVec 16) (ntc1 ntc2 batid : Fin 16384) (short : Bool)
    (s : State) : Out' :=
  act s fun d => d.celScan (cells.map Fin.val) pk.val cur.toNat ntc1.val ntc2.val batid.val short

/-! ### Presence -/

/-- CEL_PACK_BACK: presence held for 500 ms is qualified; cells return to their measured states; the test of R144 runs. -/
def Dev.packBack (d : Dev) : Dev :=
  if d.pack.qual && !d.is F.CEL_STAT_PRESENT then
    let d1 := (d.set F.CEL_STAT_PRESENT 1).setCells 1
    ((d1.modPack fun p => { p with qual := false }).celEvent 6 0).owStart.showLowest
  else d

def execCelPackBack (s : State) : Out' := act s Dev.packBack

/-- PACK_LOSS: Table 05.6: switching stops, the pack switch opens, cells ABSENT, any test aborted without verdict,
CEL_PACK_LOSS, the session closed with PACK_LOST, and Ration input-only: a grant is decided afresh for the `left` ms that
remain with the SYS_SENSE code `vr`. Reverse operation ends with the pack (R150). -/
def Dev.packLoss (d : Dev) (vr left : Nat) : Dev :=
  if !d.is F.CEL_STAT_PRESENT then d
  else
    let d1 := ((d.set F.CEL_STAT_PRESENT 0).set F.CEL_STAT_OWBUSY 0).setCells 2
    let d2 := (d1.modPack fun p => { p with qual := false, sumBad := false, suspect := false, owMoved := [] }).forceBalance.showLowest
    let d3 := if d2.get F.CHG_STAT_STATE = 7 then (d2.set F.CHG_STAT_STATE 0).upFails else d2
    ((d3.celEvent 0 0).closeFault 2 0 9).redecide vr left

/-- (DEDUCED, log entry 29). -/
def execPackLoss (vr : Fin 16384) (left : Fin 801) (s : State) : Out' := act s fun d => d.packLoss vr.val left.val

/-! ### Sessions -/

/-- The start conditions of R134; beside them the steward runs and its KICKs come (R28, R136), and CEL_SUM_MISMATCH keeps a session
from opening as it suspends an open one. (DEDUCED, log entry 28; DESIGN CHOICE, log entry 80). -/
def Dev.mayCharge (d : Dev) : Bool :=
  let b := d.get F.CHG_STAT_INPORT
  d.is F.CHG_CTRL_EN && b != 0 && (d.is (F.PD_STAT_CONTRACT (b - 1)) || (d.port (b - 1)).adv != 0) &&
    d.nCells != 0 && d.is F.CEL_STAT_PRESENT && d.get F.CHG_STAT_TBAND != 0 && d.get F.CHG_STAT_TBAND != 4 &&
    d.stewardRuns && !d.pack.dead && !d.anyOpen && !d.anyOv && !d.pack.sumBad && !d.is F.CEL_STAT_OWBUSY && !(mapGet {} d.urec 0x218).fenced &&
    decide (d.get F.SUP_STAT_STAGE < 4) && d.get F.CHG_STAT_STATE != 7

/-- Opens a session in PRECHARGE (R134). -/
def Dev.openSession (d : Dev) : Dev :=
  (d.set F.CHG_STAT_STATE 2).set F.CHG_STAT_SUSP 0 |>.modPack fun p =>
    { p with sess := true, start := d.get F.SUP_SECONDS_COUNT, charge := 0, trim := 0 }

/-- CHG_SESSION_OPEN: all start conditions holding, a session opens; from DONE only by CHG_RECHARGE (R134, R135). -/
def Dev.chgOpen (d : Dev) : Dev :=
  if d.mayCharge && !d.pack.sess && d.get F.CHG_STAT_STATE != 5 then d.openSession else d

def execChgSessionOpen (s : State) : Out' := act s Dev.chgOpen

/-- CHG_PRECHG_FAIL: PRETIME expires in PRECHARGE (R135); while the session is suspended it has no effect. (DESIGN CHOICE, log
entry 80). -/
def Dev.prechgFail (d : Dev) : Dev := if d.pack.sess && d.get F.CHG_STAT_STATE == 2 then d.closeFault 5 0 8 else d

def execChgPrechgFail (s : State) : Out' := act s Dev.prechgFail

/-- CHG_DONE: the current below ITERM for 60 s in CV (R135). -/
def Dev.chgDone (d : Dev) : Dev := if d.pack.sess && d.get F.CHG_STAT_STATE == 4 then d.closeFault 1 5 9 else d

def execChgDone (s : State) : Out' := act s Dev.chgDone

/-- CHG_RECHARGE: PACK_SENSE below N × (V − 0.10 V) for 10 s opens a new session from DONE (R135). -/
def Dev.chgRecharge (d : Dev) : Dev := if d.get F.CHG_STAT_STATE = 5 && d.mayCharge then d.openSession else d

def execChgRecharge (s : State) : Out' := act s Dev.chgRecharge

/-- CHG_SAFETY: a session still open after SAFETY (R135). -/
def Dev.chgSafety (d : Dev) : Dev := if d.pack.sess then d.closeFault 4 0 8 else d

def execChgSafety (s : State) : Out' := act s Dev.chgSafety

/-- The charger stops for want of KICKs or of the steward: the session closes with SOFT, reverse operation ends with UP's source
failing, and nothing runs before the next KICK (R28, R136). -/
def Dev.chgStop (d : Dev) : Dev :=
  let d1 := d.modPack fun p => { p with dead := true }
  let d2 := if d1.get F.CHG_STAT_STATE = 7 then (d1.set F.CHG_STAT_STATE 0).upFails else d1
  if d2.pack.sess then d2.closeFault 7 0 9 else d2

/-- CHG_WDT_EXPIRY: the charger watchdog expires (R136). -/
def Dev.chgWdt (d : Dev) : Dev := d.chgStop

def execChgWdtExpiry (s : State) : Out' := act s Dev.chgWdt

/-- A write of CHG_CTRL (R130, R136, R153, R158): KICK restarts the watchdog, EN at 0 closes the session with SOFT, INSEL
selects the input anew. -/
def Dev.writeChgCtrl (d : Dev) (w : Word) : Dev :=
  let was := d.is F.CHG_CTRL_EN
  let sel := d.get F.CHG_CTRL_INSEL
  d.regWrite .bar0 R.CHG_CTRL 0 w [(decide (5 < bits w.toNat 4 3), .eField)]
    fun d =>
      let d1 := if bitOf w.toNat 16 then d.modPack fun p => { p with dead := false } else d
      let d2 := if was && !bitOf w.toNat 1 then d1.closeFault 7 0 9 else d1
      if bits w.toNat 4 3 = sel then d2 else d2.selectInput

def execChgKick (w : Word) (s : State) : Out' := act s fun d => d.writeChgCtrl (w ||| 0x10000)

def execChgDisable (w : Word) (s : State) : Out' := act s fun d => d.writeChgCtrl (w &&& 0xFFFFFFFD)

/-- CHG_OCP: pack over-current for 10 µs stops switching and suspends the session (R149); with no session open, in reverse operation,
nothing follows. (DESIGN CHOICE, log entry 80). -/
def Dev.chgOcp (d : Dev) : Dev :=
  if d.pack.sess && d.switching then
    ((d.suspend 4).raise F.CHG_INT_OCP 0x308 [0] 0 0 0).fault 0x218 7
  else d

def execChgOcp (s : State) : Out' := act s Dev.chgOcp

/-- CHG_OCP_RESUME: one second later the session resumes in CC (R149). -/
def Dev.chgOcpResume (d : Dev) : Dev :=
  if d.pack.sess && d.get F.CHG_STAT_SUSP == 4 then ((d.set F.CHG_STAT_SUSP 0).set F.CHG_STAT_STATE 3).suspOrResume else d

def execChgOcpResume (s : State) : Out' := act s Dev.chgOcpResume

/-- CHG_INPUT_LOST: VBUS of the selected input is gone: the session closes with INPUT_LOST, and the pack switch closes until a scan
finds that the next input gives enough (R131, R151). On UP the host is gone with it (R97). (DEDUCED, log entry 75). -/
def Dev.chgInputLost (d : Dev) : Dev :=
  let b := d.get F.CHG_STAT_INPORT
  if b = 0 && !d.pack.sess then d
  else
    let d1 := (d.closeFault 3 0 9).modPack fun p => { p with short := true }
    if b = 0 then d1.selectInput
    else d.followUsb ((d1.modPort (b - 1) fun x => { x with lost := true, vin := false }).selectInput) (b - 1)

def execChgInputLost (s : State) : Out' := act s Dev.chgInputLost

/-! ### Gauge -/

/-- A write of CEL_GAUGEH: CLR sets the gauge to 0, SAT is write 1 to clear (R141, Table 05.19). -/
def Dev.writeGaugeh (d : Dev) (w : Word) : Dev :=
  d.regWrite .bar0 R.CEL_GAUGEH 0 w [] fun d => if bitOf w.toNat 30 then d.modPack fun p => { p with gauge := 0 } else d

def execGaugeClear (w : Word) (s : State) : Out' := act s fun d => d.writeGaugeh (w ||| 0x40000000)

/-- The 48 bits of CEL_GAUGE. -/
def Dev.gaugeBits (d : Dev) : Nat := (d.pack.gauge % 2 ^ 48).toNat

/-- GAUGE_CAPTURE_READ: returns the low word and captures the upper bits for that requester, 0 the steward and 1 T000
(R44, R141). -/
def Dev.gaugeRead (d : Dev) (who : Nat) : Dev :=
  ({ d.accessBy who with xt := { d.xt with gaugeCap := mapPut 0 d.xt.gaugeCap who (d.gaugeBits / 2 ^ 32) } }).emit .readData who
    [d.gaugeBits % 2 ^ 32] []

def execGaugeCaptureRead (who : Fin 2) (s : State) : Out' := act s fun d => d.gaugeRead who.val

end Sys2Proof.Machine
end

