-- ==== Sys2Proof/Machine/Whole.lean ====
section
/-!
DEFINITION. The global block and the PCI Express link (chapters 01 and 11): the host of T000, the error records, link training
and configuration requests.
-/
namespace Sys2Proof.Machine

open Sys2Proof

/-! ### The host of T000 (R18, R19, R30, R252) -/

/-- LOCK has just been set: the selection takes effect. With T0HOST at 1 the endpoint drops its link. -/
def Dev.hostFixed (d : Dev) : Dev :=
  let d1 := if d.code == 1 && d.is F.GLB_CTRL_T0HOST then (d.set F.HIF_STAT_LINKUP 0).set F.HIF_STAT_EXTTAG 0 else d
  d1.startSetAside

/-- A write of GLB_CTRL. -/
def Dev.writeGlbCtrl (d : Dev) (w : Word) : Dev :=
  d.regWrite .bar0 R.GLB_CTRL 0 w [(d.code == 2 && !bitOf w.toNat 1, .eRange)] fun n =>
    if n.is F.GLB_CTRL_LOCK && !d.is F.GLB_CTRL_LOCK then n.hostFixed else n

def execGlbCtrlLock (w : Word) (s : State) : Out' := act s fun d => d.writeGlbCtrl (withBit w 0)

/-! ### The error records (R9, R31, R355) -/

/-- A write of GLB_CFGERR: any bit but VALID is rejected; VALID clears the record. -/
def Dev.writeGlbCfgerr (d : Dev) (w : Word) : Dev :=
  d.regWrite .bar0 R.GLB_CFGERR 0 w [(w.toNat % 2 ^ 31 != 0, .eField)] fun n =>
    if bitOf w.toNat 31 then ((n.set F.GLB_CFGERR_MULTI 0).set F.GLB_CFGERR_OFFSET 0).set F.GLB_CFGERR_CODE 0 else n

/-- A write of TEN_CFGERR of tenant `t`. -/
def Dev.writeTenCfgerr (d : Dev) (t : Nat) (w : Word) : Dev :=
  d.onPage t 8 fun d =>
    d.regWrite (pageOf t) R.TEN_CFGERR 0 w [(w.toNat % 2 ^ 31 != 0, .eField)] fun n =>
      if bitOf w.toNat 31 then ((n.set (F.TEN_CFGERR_MULTI t) 0).set (F.TEN_CFGERR_OFFSET t) 0).set (F.TEN_CFGERR_CODE t) 0 else n

/-- CFGERR_CLEAR of GLB_CFGERR, or of a tenant's TEN_CFGERR. -/
def execCfgerrClear (page : Option (Fin 256)) (w : Word) (s : State) : Out' :=
  act s fun d => match page with
    | none => d.writeGlbCfgerr (withBit w 31)
    | some t => d.writeTenCfgerr t.val (withBit w 31)

/-! ### The link (R19, R303) -/

/-- The endpoint is there and has not dropped its link for good. -/
def Dev.endpoint (d : Dev) : Bool := d.code == 1 && !(d.is F.GLB_CTRL_LOCK && d.is F.GLB_CTRL_T0HOST)

/-- PCIE_LINK_UP at Gen 1 to Gen 3. -/
def Dev.linkUp (d : Dev) (gen : Nat) : Dev :=
  if d.endpoint && !d.pcieHeld then (d.set F.HIF_STAT_LINKUP 1).set F.HIF_STAT_SPEED gen else d

def execPcieLinkUp (gen : Fin 3) (s : State) : Out' := act s fun d => d.linkUp (gen.val + 1)

/-- PCIE_CONFIG_REQUEST; `ext` is the value that the request writes to Extended Tag Field Enable of PF0, where it does.
 (PRESUMED, log entry 47). -/
def Dev.configRequest (d : Dev) (ext : Option Bool) : Dev :=
  if !d.endpoint || d.pcieHeld then d
  else if !d.cfgServed then d.rouse.emit .cfgReply 0 [0] []
  else
    let d1 := match ext with
      | some b => d.rouse.setB F.HIF_STAT_EXTTAG b
      | none => d.rouse
    d1.emit .cfgReply 0 [1] []

def execPcieConfigRequest (ext : Option Bool) (s : State) : Out' :=
  always s fun d => if d.up || d.pow.state == .released || d.pow.state == .tested || d.pow.state == .stuck then d.configRequest ext else d

end Sys2Proof.Machine
end

