-- ==== Sys2Proof/Machine/Steward.lean ====
section
/-!
DEFINITION. The steward core as seen from outside it (chapter 18): boot ROM and its services, the interrupt controller and the
machine timer, the watchdog, and the mailbox.
-/
namespace Sys2Proof.Machine

open Sys2Proof

def Dev.modStw (d : Dev) (f : Stw → Stw) : Dev := { d with stw := f d.stw }

/-! ### Watchdog (R514, R515, R520, R523) -/

/-- The count starts again with the PERIOD that the register now holds. (DESIGN CHOICE, log entry 3). -/
def Dev.kick (d : Dev) : Dev :=
  (d.modStw fun x => { x with period := d.get F.STW_WDT_PERIOD }).set F.STW_WDTLEFT_MS (d.get F.STW_WDT_PERIOD)

/-- The steward watchdog reset (Table 03.6): the core, its cache, the mailbox and the STW registers, of which LOCK, WARMCNT and
STW_WDT keep their values. The charger stops, the mirror record and the commit in progress end, a command pending completes with
E_FLUSHED, a message pending is dropped, and in S3 only C ends the stage (R83). (DEDUCED, log entry 65). -/
def Dev.watchdogReset (d : Dev) : Dev :=
  let busy := d.is F.STW_MBCMD_BUSY
  let d1 := (((d.set F.SUP_RSTCAUSE_WDOG 1).eccAtWatchdog).commitAtWatchdog).endMtx .eFlushed
  let d2 := { d1.chgStop with pow := { d1.chgStop.pow with s3Lost := d1.chgStop.pow.s3Lost || d.get F.SUP_STAT_STAGE == 3 } }
  let k := fun (d : Dev) (f : Fld) => d.set f (d2.get f)
  let d3 := [F.STW_CTRL_LOCK, F.STW_BOOT_WARMCNT, F.STW_WDT_EN, F.STW_WDT_WARN, F.STW_WDT_PERIOD].foldl k (d2.resetRange 0x16000 0x17000)
  let d4 := ((d3.modStw fun x => { rom := .warm, lastWarm := x.lastWarm }).modFls fun x => { x with reads := [] }).kick
  if busy then (d4.set F.STW_MBCMD_STATUS (statusCode .eFlushed)).raise F.STW_INT_MBREPLY 0x1802 [0] 0 0 0 else d4

/-- A write of STW_WDTKICK. -/
def Dev.writeWdtkick (d : Dev) (w : Word) : Dev :=
  d.regWrite .bar0 R.STW_WDTKICK 0 w [(bits w.toNat 0 16 != 0x5EED, .eRange)] Dev.kick

def execStwWdtKick (s : State) : Out' := act s fun d => d.writeWdtkick 0x5EED

/-- The watchdog counts: not in DOZE, and boot ROM keeps it from expiring. (DEDUCED, log entry 65). -/
def Dev.wdtRuns (d : Dev) : Bool := d.is F.STW_WDT_EN && d.pow.state == .run && d.stw.rom == .image

/-- STW_WDT_WARN: WARN ms remain. -/
def execStwWdtWarn (s : State) : Out' :=
  act s fun d => if d.wdtRuns && d.get F.STW_WDT_WARN != 0 then d.set F.STW_INT_WDTWARN 1 else d

/-- STW_WDT_EXPIRY, which is fault source 55. -/
def execStwWdtExpiry (s : State) : Out' := act s fun d => if d.wdtRuns then (d.oweFault 0x245 55).watchdogReset else d

/-- A write of STW_CTRL: LOCK, ICINV and RESTART. -/
def Dev.writeStwCtrl (d : Dev) (w : Word) : Dev :=
  d.regWrite .bar0 R.STW_CTRL 0 w [] fun n =>
    let n1 := (n.set F.STW_CTRL_RESTART 0).set F.STW_CTRL_ICINV 0
    let n2 := if bitOf w.toNat 1 then n1.modStw fun x => { x with icache := [] } else n1
    if bitOf w.toNat 0 then n2.watchdogReset else n2

def execStwRestart (w : Word) (s : State) : Out' := act s fun d => d.writeStwCtrl (withBit w 0)

def execStwIcinv (w : Word) (s : State) : Out' := act s fun d => d.writeStwCtrl (withBit w 1)

/-! ### Images (R431, R507, R530) -/

/-- Field of `n` bytes at byte `a` of a header. -/
def hdrFld (h : List Byte) (a n : Nat) : Nat := leNat ((h.drop a).take n)

/-- MAGIC, FORMAT, HDRLEN and HCRC are correct. -/
def hdrKept (h : List Byte) : Bool :=
  hdrFld h 0 4 == 0x58504C50 && hdrFld h 4 2 == 1 && hdrFld h 6 2 == 256 && hdrFld h 252 4 == crc32 (h.take 252)

/-- CODEOFF, CODELEN, IMGLEN and ENTRY meet Table 15.2, and the header's reserved bytes and bits are 0. -/
def hdrMeets (h : List Byte) : Bool :=
  let off := hdrFld h 32 4
  let len := hdrFld h 36 4
  let entry := hdrFld h 40 4
  off % 256 == 0 && decide (256 ≤ off) && len % 16 == 0 && decide (16 ≤ len) && decide (len ≤ 2 ^ 24) &&
    hdrFld h 8 4 == off + len + 64 && entry % 2 == 0 && decide (entry < len) &&
    decide (hdrFld h 22 2 < 2) && hdrFld h 53 3 == 0 && hdrFld h 120 132 == 0

/-- The image-key digest of an image is the one in the key store; DEVELOP skips the comparison while none is programmed. -/
def Dev.digestOk (d : Dev) (h : List Byte) : Bool :=
  let x := d.fuseField 1
  if d.fuse.life = .develop ∧ !x.prog then true
  else x.prog && !x.partly && x.val == sha256 ((h.drop 56).take 64)

/-- The present state accepts an image with this ENC. -/
def Dev.encOk (d : Dev) (enc : Bool) : Bool :=
  match d.fuse.life with
  | .develop => !enc || (d.fuseField 3).prog
  | .deployed => !enc || (d.fuseField 4).prog
  | .reclaim => !enc
  | _ => false

/-- Boot ROM accepts the image at byte `a` of select 0 (R431). -/
def Dev.imageOk (d : Dev) (a : Nat) : Bool :=
  let h := d.flashBytes 0 a 256
  let off := hdrFld h 32 4
  let len := hdrFld h 8 4
  hdrKept h && hdrMeets h && d.encOk (hdrFld h 22 2 == 1) && d.digestOk h &&
    (d.flashBytes 0 (a + 256) (off - 256)).all (· == 0) &&
    signed (sha256 (d.flashBytes 0 a (len - 64))) ((h.drop 56).take 64) (d.flashBytes 0 (a + len - 64) 64)

/-- First flash byte of a slot. -/
def slotBase (s : Nat) : Nat := 0x800000 * s

/-- The header of a slot is kept, and its VERSION is not below the floor. -/
def Dev.slotKept (d : Dev) (s : Nat) : Bool :=
  let h := d.flashBytes 0 (slotBase s) 256
  hdrKept h && decide (d.versionFloor ≤ hdrFld h 12 4)

/-- The candidates in order: VERSION higher first, slot 0 first on a tie. -/
def Dev.candidates (d : Dev) : List Nat :=
  let v := fun s => hdrFld (d.flashBytes 0 (slotBase s) 16) 12 4
  (if v 0 < v 1 then [1, 0] else [0, 1]).filter d.slotKept

/-- KD as an accepted image has it loaded (R530). (DEDUCED, log entry 64). -/
def Dev.loadKd (d : Dev) : Dev :=
  let x := match d.fuse.life with
    | .develop => d.fuseField 3
    | .deployed => d.fuseField 4
    | _ => {}
  { d with key := { d.key with kd := if x.prog then some x.val else none } }.setB F.LCS_STAT_KD x.prog

/-- The image at byte `a` runs: STW_BOOT, STW_BOOTVER, the watchdog kicked, and the jump to ENTRY. -/
def Dev.runImage (d : Dev) (a : Nat) : Dev :=
  let d1 := ((d.set F.STW_BOOT_STATUS 1).setB F.STW_BOOT_SLOT (a != 0)).set F.STW_BOOTVER_VERSION (hdrFld (d.flashBytes 0 a 16) 12 4)
  (d1.modStw fun x => { x with rom := .image, failed := false }).kick

/-- Gives the four fields of a profile word and of DIV, as boot ROM sets them. -/
def Dev.setWord (d : Dev) (row : RegRow) (v : Nat) : Dev :=
  row.fields.foldl (fun d f => d.set (rowFld .bar0 row 0 f) (bits v f.lo f.w)) d

/-- The image at byte `a` is accepted (R507 step 4, R430, R303). (DEDUCED, log entry 60). -/
def Dev.acceptImage (d : Dev) (a : Nat) : Dev :=
  let h := d.flashBytes 0 a 256
  let d1 := ((d.setWord R.FLS_PROFA0 (hdrFld h 44 4)).setWord R.FLS_PROFB0 (hdrFld h 48 4)).set F.FLS_CFG_DIV (hdrFld h 52 1)
  let d2 := (((d1.set F.FLS_DBASE_BASE (a + hdrFld h 32 4)).set F.FLS_DMAP_SIZE (hdrFld h 36 4)).set F.FLS_DMAP_SEL 0).set
    F.FLS_DMAP_DEC (hdrFld h 22 2)
  let d3 := ((d2.loadKd).set F.FLS_CTRL_LOCK 1).modFls fun x => { x with nonce := (h.drop 24).take 8, start := a }
  ({ d3 with hif := { d3.hif with ids := (hdrFld h 16 2, hdrFld h 18 2, hdrFld h 20 2) } }).runImage a

/-- A search for an image, from its headers to its first instruction; `none` left is noted for BOOT_NO_IMAGE. (DEDUCED, log entry 64). -/
def Dev.searchImage (d : Dev) : Dev :=
  match d.candidates.find? fun s => d.imageOk (slotBase s) with
  | some s => d.acceptImage (slotBase s)
  | none => d.modStw fun x => { x with failed := true }

/-- BOOT_IMAGE_SEARCH, which BLANK never comes to (R544). -/
def execBootImageSearch (s : State) : Out' :=
  act s fun d => if d.stw.rom == .busy && !d.stw.failed && d.fuse.life != .blank then d.searchImage else d

/-- The count of warm restarts (R523). -/
def Dev.countWarm (d : Dev) : Dev :=
  let near := match d.stw.lastWarm with
    | none => false
    | some t => decide (d.xt.count - t ≤ 60 * 24000000)
  (d.set F.STW_BOOT_WARMCNT (if near then satInc 255 (d.get F.STW_BOOT_WARMCNT) else 1)).modStw fun x =>
    { x with lastWarm := some d.xt.count }

/-- BOOT_WARM: the wipe of steward SRAM is done, and the image that ran is checked again; where none had been accepted, the
search follows (R508, R523). (DEDUCED, log entries 13, 64). -/
def Dev.bootWarm (d : Dev) : Dev :=
  if d.stw.rom != .warm then d
  else
    let d1 := (d.set F.STW_BOOT_WARM 1).countWarm
    if 8 ≤ d1.get F.STW_BOOT_WARMCNT then d1.modStw fun x => { x with rom := .busy, failed := true }
    else if !d1.is F.FLS_CTRL_LOCK then d1.modStw fun x => { x with rom := .busy, failed := false }
    else if d1.imageOk d1.fls.start then d1.runImage d1.fls.start
    else d1.modStw fun x => { x with rom := .busy, failed := true }

def execBootWarm (count : Word64) (s : State) : Out' :=
  act s fun d => if d.stw.rom == .warm then (d.edgesTo count.toNat).bootWarm else d

/-- Boot ROM maps Window W over the first 16 MiB of select 0 and serves the mailbox; a window already locked stays (R509). -/
def Dev.serveMailbox (d : Dev) : Dev :=
  let d1 := if d.is F.FLS_CTRL_WLOCK then d
    else ((d.set F.FLS_WMAP_SEL 0).set F.FLS_WMAP_SIZE 0x1000000).set F.FLS_WBASE_BASE 0
  d1.modStw fun x => { x with rom := .serving, failed := false }

/-- BOOT_NO_IMAGE (R509). -/
def Dev.noImage (d : Dev) : Dev :=
  if d.stw.rom != .busy || !d.stw.failed then d
  else
    let d1 := d.set F.STW_BOOT_STATUS 2
    if d1.code = 1 ∧ !d1.is F.GLB_CTRL_LOCK then (d1.writeGlbCtrl 1).serveMailbox
    else if d1.code = 1 ∧ !d1.is F.GLB_CTRL_T0HOST then d1.serveMailbox
    else d1.modStw fun x => { x with rom := .retrying, failed := false }

def execBootNoImage (s : State) : Out' := act s Dev.noImage

/-- BOOT_SEARCH_RETRY. -/
def Dev.searchRetry (d : Dev) : Dev :=
  if d.stw.rom != .retrying then d
  else { d.searchImage with stw := { d.searchImage.stw with failed := false } }

def execBootSearchRetry (s : State) : Out' := act s Dev.searchRetry

/-! ### Boot ROM services (R510) -/

/-- Where a pointer and a length lie: memory 1 data SRAM, windows D (2) and W (3), with the offset. (DEDUCED, log entry 64). -/
def Dev.romPlace (d : Dev) (a n : Nat) : Option (Nat × Nat) :=
  if 0x10000000 ≤ a ∧ a + n ≤ 0x10040000 then some (1, a - 0x10000000)
  else if 0x20000000 ≤ a ∧ a + n ≤ 0x20000000 + d.get F.FLS_DMAP_SIZE then some (2, a - 0x20000000)
  else if 0x30000000 ≤ a ∧ a + n ≤ 0x30000000 + d.get F.FLS_WMAP_SIZE then some (3, a - 0x30000000)
  else none

/-- A service returns `st` and, where it has one, a value in a1. -/
def Dev.romReturns (d : Dev) (svc : Nat) (st : Status) (a1 : List Nat) : Dev := d.emit .rom svc (statusCode st :: a1) []

/-- Reads the bytes that a service is given; an uncorrectable word of SRAM is an access fault. -/
def Dev.romRead (d : Dev) (m a n : Nat) : Dev × Option (List Byte) :=
  if m = 1 then
    let r := (d.performHeld 1).memBytes 1 0 a n
    if r.2.2.isSome then (r.1.emit .accessFault 0 [0x10000000 + a] [], none) else (r.1, some r.2.1)
  else (d, some (d.windowBytes (m - 2) a n))

/-- Runs `k` on the bytes at each pointer; a pointer outside SRAM and the windows answers E_RANGE. -/
def Dev.romArgs (d : Dev) (svc : Nat) : List (Nat × Nat) → List (List Byte) → (Dev → List (List Byte) → Dev) → Dev
  | [], got, k => k d got
  | (a, n) :: t, got, k =>
    match d.romPlace a n with
    | none => d.romReturns svc .eRange []
    | some (m, x) =>
      match d.romRead m x n with
      | (d', none) => d'
      | (d', some l) => d'.romArgs svc t (got ++ [l]) k

/-- Firmware calls a service while its image runs. (DESIGN CHOICE, log entry 71). -/
def romCall (s : State) (f : Dev → Dev) : Out' := act s fun d => if d.stw.rom == .image then f d else d

/-- (DESIGN CHOICE, log entry 4). -/
def execRomver (s : State) : Out' := romCall s fun d => d.romReturns 0 .done [Config.romVersion.toNat]

/-- The CRC of R361 from another initial value. (DEDUCED, log entry 64). -/
def crcFrom (init : Nat) (l : List Byte) : Nat := Nat.xor (l.foldl crcByte init) 0xFFFFFFFF

def execCrc32 (a n init : Word) (s : State) : Out' :=
  romCall s fun d => d.romArgs 1 [(a.toNat, n.toNat)] [] fun d l => d.romReturns 1 .done [crcFrom init.toNat l.flatten]

/-- Stores bytes by 32-bit words at offset `x` of SRAM or of Window W. -/
def Dev.romStore (d : Dev) (m x : Nat) : List (List Byte) → Dev
  | [] => d
  | w :: t => (if m = 1 then d.stewardStore 1 x 4 (leNat w) else d.windowWrite (m - 2) x 4 (BitVec.ofNat 32 (leNat w))).romStore m (x + 4) t

/-- SHA256 returns its digest through a buffer; one that a window refuses is a bus error. (DEDUCED, log entry 64). -/
def Dev.romDigest (d : Dev) (out : Nat) (l : List Byte) : Dev :=
  match d.romPlace out 32 with
  | none => d.romReturns 2 .eRange []
  | some (m, x) =>
    if m = 2 ∨ (m = 3 ∧ (x % 4 ≠ 0 ∨ d.bankByte x)) then d.windowWrite (m - 2) x 4 0
    else (d.romStore m x (fours (sha256 l))).romReturns 2 .done []

def execSha256 (a n out : Word) (s : State) : Out' :=
  romCall s fun d => if (d.romPlace out.toNat 32).isNone then d.romReturns 2 .eRange []
    else d.romArgs 2 [(a.toNat, n.toNat)] [] fun d l => d.romDigest out.toNat l.flatten

def execP256verify (digest key sig : Word) (s : State) : Out' :=
  romCall s fun d => d.romArgs 3 [(digest.toNat, 32), (key.toNat, 64), (sig.toNat, 64)] [] fun d l =>
    d.romReturns 3 (if signed (l.getD 0 []) (l.getD 1 []) (l.getD 2 []) then .done else .eField) []

/-- (DEDUCED, log entry 64). -/
def execImagecheck (off : Word) (s : State) : Out' :=
  romCall s fun d =>
    if d.imageOk off.toNat then d.romReturns 4 .done [hdrFld (d.flashBytes 0 off.toNat 16) 12 4] else d.romReturns 4 .eField []

def execRomRestart (s : State) : Out' := romCall s fun d => d.watchdogReset

/-! ### The interrupt controller and the machine timer (R511, R513) -/

/-- Of the sources below `n` that qualify, the one of highest PRIO, the lowest number on a tie; 0 where none does. -/
def Dev.bestSource (d : Dev) : Nat → Nat
  | 0 => 0
  | n + 1 =>
    let b := d.bestSource n
    if d.srcQualifies n && (b == 0 || decide (d.get (F.STW_ICPRIO_PRIO b) < d.get (F.STW_ICPRIO_PRIO n))) then n else b

/-- STW_ICCLAIM_READ. -/
def Dev.claimRead (d : Dev) : Dev :=
  let n := d.bestSource 48
  let d1 := d.emit .readData 0 [n] []
  if n = 0 then d1
  else d1.modStw fun x =>
    { x with claimed := n :: x.claimed, latch := if 40 ≤ n ∧ bitOf x.latch (n - 40) then x.latch - 2 ^ (n - 40) else x.latch }

def execStwIcclaimRead (s : State) : Out' := act s Dev.claimRead

/-- A write of STW_ICCLAIM: the claim of a source completes. (DEDUCED, log entry 66). -/
def Dev.writeIcclaim (d : Dev) (w : Word) : Dev :=
  let n := bits w.toNat 0 6
  d.regWrite .bar0 R.STW_ICCLAIM 0 w [(!d.stw.claimed.contains n, .eState)] fun x =>
    (x.set F.STW_ICCLAIM_SRC 0).modStw fun y => { y with claimed := y.claimed.filter (· != n) }

def execStwIcclaimComplete (w : Word) (s : State) : Out' := act s fun d => d.writeIcclaim w

/-- STW_MTIME_MATCH: SUP_XTCOUNT has reached STW_MTIMECMP. (DEDUCED, log entry 13). -/
def execStwMtimeMatch (s : State) : Out' :=
  act s fun d => d.edgesTo d.mtimecmp

/-! ### The mailbox (R516, R517, R520) -/

/-- A LEN above 16 is written. -/
def badLen (v old : Nat) : Bool := bits v 8 5 != old && decide (16 < bits v 8 5)

/-- A write of STW_MBCMD by the steward (0) or T000 (1). (DEDUCED, log entry 66). -/
def Dev.writeMbcmd (d : Dev) (who : Nat) (w : Word) : Dev :=
  let go := bitOf w.toNat 31
  d.rouse.regWrite .bar0 R.STW_MBCMD 0 w
    [(go && who == 0, .eOwner), (go && d.is F.STW_MBCMD_BUSY, .eBusy), (badLen w.toNat (d.get F.STW_MBCMD_LEN), .eRange)] fun n =>
      let n1 := n.set F.STW_MBCMD_GO 0
      if go then (n1.set F.STW_MBCMD_BUSY 1).set F.STW_INT_MBCMD 1 else n1

def execStwMbcmdGo (who : Fin 2) (w : Word) (s : State) : Out' := act s fun d => d.writeMbcmd who.val (withBit w 31)

/-- A write of STW_MBREPLY; with DONE it is the reply. (DEDUCED, log entry 66). -/
def Dev.writeMbreply (d : Dev) (who : Nat) (w : Word) : Dev :=
  let go := bitOf w.toNat 31
  d.rouse.regWrite .bar0 R.STW_MBREPLY 0 w
    [(who == 1, .eOwner), (go && !d.is F.STW_MBCMD_BUSY, .eState), (badLen w.toNat (d.get F.STW_MBREPLY_LEN), .eRange)] fun n =>
      let n1 := n.set F.STW_MBREPLY_DONE 0
      if go then n1.mbReply (n1.get F.STW_MBREPLY_STATUS) (n1.get F.STW_MBREPLY_LEN) else n1

def execStwMbReply (who : Fin 2) (w : Word) (s : State) : Out' := act s fun d => d.writeMbreply who.val (withBit w 31)

/-- A write of STW_MBMSG: GO is the steward's, ACK is T000's; a mailbox write ends DOZE (R61). -/
def Dev.writeMbmsg (d : Dev) (who : Nat) (w : Word) : Dev :=
  let go := bitOf w.toNat 31
  let ack := bitOf w.toNat 29
  d.rouse.regWrite .bar0 R.STW_MBMSG 0 w
    [((go && who == 1) || (ack && who == 0), .eOwner), (go && d.is F.STW_MBMSG_BUSY, .eBusy),
     (ack && !d.is F.STW_MBMSG_BUSY, .eState), (badLen w.toNat (d.get F.STW_MBMSG_LEN), .eRange)] fun n =>
      let n1 := (n.set F.STW_MBMSG_GO 0).set F.STW_MBMSG_ACK 0
      let n2 := if go then (n1.set F.STW_MBMSG_BUSY 1).raise F.STW_INT_MBMSG 0x1803 [0] 0 0 0 else n1
      if ack then (n2.set F.STW_MBMSG_BUSY 0).set F.STW_INT_MBACK 1 else n2

def execStwMbMsg (who : Fin 2) (w : Word) (s : State) : Out' := act s fun d => d.writeMbmsg who.val (withBit w 31)

def execStwMbmsgAck (who : Fin 2) (w : Word) (s : State) : Out' := act s fun d => d.writeMbmsg who.val (withBit w 29)

/-! ### Mailbox commands that boot ROM serves (R509, R586, Table 18.4) -/

/-- Boot ROM finds a command with an opcode that `p` takes, and no flash operation of an earlier one runs. (DEDUCED, log entry 66). -/
def Dev.mbServed (d : Dev) (p : Nat → Bool) (f : Dev → Dev) : Dev :=
  if d.stw.rom == .serving && d.is F.STW_MBCMD_BUSY && d.stw.flashCmd.isNone && p (d.get F.STW_MBCMD_OPCODE) then f d else d

/-- The 32-bit word that a register reads as. -/
def Dev.regWord (d : Dev) (row : RegRow) : Nat := d.readRow .bar0 row 0

/-- IDENT; an opcode that boot ROM does not serve is answered E_FIELD. -/
def Dev.mbIdent (d : Dev) : Dev :=
  d.mbServed (fun op => !([2, 3, 4].contains op)) fun d =>
    if d.get F.STW_MBCMD_OPCODE = 1 then
      (((d.set (F.STW_MBDATA_DATA 0) (d.regWord R.STW_BOOT)).set (F.STW_MBDATA_DATA 1) (d.regWord R.STW_BOOTVER)).set
        (F.STW_MBDATA_DATA 2) (d.regWord R.GLB_ID)).mbReply (statusCode .done) 3
    else d.mbReply (statusCode .eField) 0

def execIdent (s : State) : Out' := act s Dev.mbIdent

/-- FLASHERASE of the sector that word 0 names. (DEDUCED, log entry 66). -/
def Dev.mbErase (d : Dev) : Dev :=
  d.mbServed (· == 2) fun d =>
    let a := d.get (F.STW_MBDATA_DATA 0)
    if d.bankSector 0 a then d.mbReply (statusCode .eLocked) 0
    else (d.modStw fun x => { x with flashCmd := some (1, false) }).addJobs [{ sel := 0, addr := sectorOf a, erase := true, who := 5 }]

def execFlasherase (s : State) : Out' := act s Dev.mbErase

/-- Window W reaches the flash bytes [`a`, `a + n`) of select 0. -/
def Dev.windowReaches (d : Dev) (a n : Nat) : Bool :=
  d.get F.FLS_WMAP_SEL == 0 && decide (d.get F.FLS_WBASE_BASE ≤ a) &&
    decide (a + n ≤ d.get F.FLS_WBASE_BASE + d.get F.FLS_WMAP_SIZE)

/-- FLASHWRITE of words 1 to LEN − 1 at the offset of word 0, through Window W. (DEDUCED, log entry 66). -/
def Dev.mbWrite (d : Dev) : Dev :=
  d.mbServed (· == 3) fun d =>
    let a := d.get (F.STW_MBDATA_DATA 0)
    let k := d.get F.STW_MBCMD_LEN - 1
    let l := ((List.range k).map fun i => leBytes 4 (d.get (F.STW_MBDATA_DATA (i + 1)))).flatten
    let x := a - d.get F.FLS_WBASE_BASE
    if a % 4 ≠ 0 then d.mbReply (statusCode .eAlign) 0
    else if !d.windowReaches a (4 * k) || (List.range k).any (fun i => d.bankByte (x + 4 * i)) then d.mbReply (statusCode .eLocked) 0
    else if k = 0 then d.mbReply (statusCode .done) 0
    else
      let runs := pageRuns 2 a l
      (d.endGather.modStw fun x => { x with flashCmd := some (runs.length, false) }).addJobs
        (runs.map fun r => { sel := 0, addr := r.1, data := r.2, who := 5 })

def execFlashwrite (s : State) : Out' := act s Dev.mbWrite

/-- RESTART: the reply, then the reset. -/
def Dev.mbRestart (d : Dev) : Dev := d.mbServed (· == 4) fun d => (d.mbReply (statusCode .done) 0).watchdogReset

def execMbRestart (s : State) : Out' := act s Dev.mbRestart

end Sys2Proof.Machine
end

