-- ==== Sys2Proof/Machine/LifeCycle.lean ====
section
/-!
DEFINITION. The life cycle (chapter 19): requests and their signed unlock, the blowing of fuses, provisioning and key derivation.
-/
namespace Sys2Proof.Machine

open Sys2Proof

/-- An event of the life cycle by its bit in LCS_INT: 0 LCS_PROG_DONE, 1 LCS_REQ_FAIL, 2 LCS_DERIVE_DONE. -/
def Dev.lcsEvent (d : Dev) (bit : Nat) : Dev := d.raise (bitFld 0x170C0 bit) (0x1900 + bit) [0] 0 0 0

/-- A transition or a fuse field is under way (R539). -/
def Dev.lcsBusy (d : Dev) : Bool := d.is F.LCS_REQ_BUSY || d.is F.LCS_PROG_BUSY

/-- What rejects any write of LCS_REQ and LCS_PROG (R538, R539, R544). -/
def Dev.lcsClosed (d : Dev) : List (Bool × Status) :=
  [(d.is F.LCS_CTRL_LOCK, .eLocked), (d.is F.SUP_STAT_WARN, .eState), (d.lcsBusy, .eBusy)]

/-! ### Transitions (R531 to R535) -/

/-- The state that LCS_REQ.TARGET names. -/
def lifeOf (n : Nat) : Life :=
  match n with
  | 0 => .blank | 1 => .develop | 2 => .deployed | 3 => .reclaim | _ => .void

/-- Table 19.3, but for BLANK, which leaves by itself. -/
def mayPass (a b : Life) : Bool :=
  match a, b with
  | .develop, .deployed | .deployed, .reclaim | .reclaim, .develop => true
  | .develop, .void | .deployed, .void | .reclaim, .void => true
  | _, _ => false

/-- The token's bytes are valid (R534, Table 19.6). -/
def Dev.tokenValid (d : Dev) (l : List Byte) : Bool :=
  let chal := (List.range 4).map fun i => leBytes 4 (d.get (F.LCS_CHAL_CHAL i))
  let u := d.fuseField 2
  hdrFld l 0 4 == 0x4B4C4E55 && hdrFld l 4 2 == 1 && hdrFld l 6 2 == 0 && hdrFld l 8 8 == d.fuse.uid &&
    (l.drop 16).take 16 == chal.flatten && hdrFld l 32 1 == d.fuse.cycle + 1 && hdrFld l 33 23 == 0 && hdrFld l 120 8 == 0 &&
    u.prog && !u.partly && u.val == sha256 ((l.drop 56).take 64) &&
    signed (sha256 (l.take 128)) ((l.drop 56).take 64) ((l.drop 128).take 64)

/-- A request completes with an error: STATUS and LCS_REQ_FAIL. -/
def Dev.reqFail (d : Dev) (st : Status) : Dev :=
  (((d.set F.LCS_REQ_BUSY 0).set F.LCS_REQ_STATUS (statusCode st)).lcsEvent 1)

/-- The fuses of the new state are being blown. -/
def Dev.startTransition (d : Dev) (dest : Life) : Dev :=
  { d.set F.LCS_REQ_BUSY 1 with key := { d.key with trans := some dest } }

/-- An unlock: the token is read and checked; a word that reads as WIPE or UE fails it. -/
def Dev.unlock (d : Dev) : Dev :=
  let r := d.memBytes 1 1 (d.get F.LCS_UNLOCK_ADDR) 192
  if r.2.2.isNone && r.1.tokenValid r.2.1 then r.1.startTransition .develop
  else ({ r.1 with key := { r.1.key with fails := r.1.key.fails + 1 } } : Dev).drawChal.reqFail .eField

/-- A write of LCS_REQ. (DEDUCED, log entry 67). -/
def Dev.writeLcsReq (d : Dev) (w : Word) : Dev :=
  let v := w.toNat
  let go := bitOf v 31
  let key := bits v 8 8
  let t := bits v 0 3
  let dest := lifeOf t
  let rec' := d.fuse.life == .reclaim && dest == .develop
  d.regWrite .bar0 R.LCS_REQ 0 w
    (d.lcsClosed ++
     [(decide (4 < t), .eField), (key != 0xA5 && (go || key != d.get F.LCS_REQ_KEY), .eField),
      (go && !mayPass d.fuse.life dest, .eState), (go && d.fuse.life == .develop && dest == .deployed && !(d.fuseField 1).prog, .eState),
      (go && rec' && decide (4 ≤ d.key.fails), .eLocked), (go && rec' && decide (3 ≤ d.fuse.cycle), .eNores)]) fun n =>
      let n1 := n.set F.LCS_REQ_GO 0
      if !go then n1 else if dest = .develop then n1.unlock else n1.startTransition dest

/-- The word of a request for a state, with GO and the KEY it carries. -/
def reqWord (w : Word) (t : Nat) : Word := BitVec.ofNat 32 (2 ^ 31 + (w.toNat % 2 ^ 31 / 8) * 8 + t)

def execLcsReqDeployed (w : Word) (s : State) : Out' := act s fun d => d.writeLcsReq (reqWord w 2)

def execLcsReqReclaim (w : Word) (s : State) : Out' := act s fun d => d.writeLcsReq (reqWord w 3)

def execLcsReqVoid (w : Word) (s : State) : Out' := act s fun d => d.writeLcsReq (reqWord w 4)

def execLcsReqDevelop (w : Word) (s : State) : Out' := act s fun d => d.writeLcsReq (reqWord w 1)

/-- BLANK_TO_DEVELOP: boot ROM requests DEVELOP before its image search (R544). (DEDUCED, log entry 67). -/
def Dev.blankToDevelop (d : Dev) : Dev :=
  if d.fuse.life == .blank && d.stw.rom == .busy && !d.lcsBusy && !d.is F.SUP_STAT_WARN then d.startTransition .develop else d

def execBlankToDevelop (s : State) : Out' := act s Dev.blankToDevelop

/-- LCS_FUSES_BLOWN: the readback shows the new state, and the life-cycle change reset is taken, `sag` saying that VIN_SYS is then below
3.20 V, or it does not (R532, R542).
 (DEDUCED, log entry 67). -/
def Dev.fusesBlown (d : Dev) (ok sag : Bool) : Dev :=
  match d.key.trans with
  | none => d
  | some dest =>
    let d1 : Dev := { d with key := { d.key with trans := none } }
    if ok then (d1.blowState dest).lifeReset sag
    else (if dest = .develop then d1.drawChal else d1).reqFail .eInternal

def execLcsFusesBlown (ok sag : Bool) (s : State) : Out' := act s fun d => d.fusesBlown ok sag

/-! ### Provisioning (R529) -/

/-- The states in which Table 19.2 lists a field. -/
def Dev.fieldOpen (d : Dev) (f : Nat) : Bool :=
  match f with
  | 2 => d.fuse.life == .develop && d.fuse.cycle == 0
  | 5 => d.fuse.life == .develop || d.fuse.life == .deployed
  | _ => d.fuse.life == .develop

/-- LCS_KEYBUF, least significant word first. -/
def Dev.keyBytes (d : Dev) : List Byte := ((List.range 8).map fun i => leBytes 4 (mapGet 0 d.key.buf i)).flatten

/-- A write of LCS_PROG. (DEDUCED, log entry 67). -/
def Dev.writeLcsProg (d : Dev) (w : Word) : Dev :=
  let v := w.toNat
  let go := bitOf v 31
  let f := bits v 0 4
  d.regWrite .bar0 R.LCS_PROG 0 w
    (d.lcsClosed ++
     [((f == 0 || decide (5 < f)) && (go || f != d.get F.LCS_PROG_FIELD), .eField), (go && !d.fieldOpen f, .eState),
      (go && (d.fuseField f).prog, .eState), (go && f == 5 && decide (mapGet 0 d.key.buf 0 ≤ d.versionFloor), .eRange),
      (go && f == 5 && decide (16 ≤ d.fuse.floors.length), .eNores)]) fun n =>
      let n1 := n.set F.LCS_PROG_GO 0
      if go then { n1.set F.LCS_PROG_BUSY 1 with key := { n1.key with prog := some (f, if f = 5 then n1.keyBytes.take 4 else n1.keyBytes) } }
      else n1

/-- The word that programs a field. -/
def progWord (w : Word) (f : Nat) : Word := BitVec.ofNat 32 (2 ^ 31 + (w.toNat % 2 ^ 31 / 16) * 16 + f)

def execImgdig (w : Word) (s : State) : Out' := act s fun d => d.writeLcsProg (progWord w 1)

def execUnldig (w : Word) (s : State) : Out' := act s fun d => d.writeLcsProg (progWord w 2)

def execKdev (w : Word) (s : State) : Out' := act s fun d => d.writeLcsProg (progWord w 3)

def execKprod (w : Word) (s : State) : Out' := act s fun d => d.writeLcsProg (progWord w 4)

def execFloor (w : Word) (s : State) : Out' := act s fun d => d.writeLcsProg (progWord w 5)

/-- LCS_PROG_DONE: the readback matches, or leaves the field partly programmed. (DEDUCED, log entry 67). -/
def Dev.progDone (d : Dev) (ok : Bool) : Dev :=
  match d.key.prog with
  | none => d
  | some (f, v) =>
    let d1 := (({ d with key := { d.key with prog := none } } : Dev).blowField f v (!ok)).showLcs
    ((d1.set F.LCS_PROG_BUSY 0).set F.LCS_PROG_STATUS (statusCode (if ok then .done else .eInternal))).lcsEvent 0

def execLcsProgDone (ok : Bool) (s : State) : Out' := act s fun d => d.progDone ok

/-! ### Derivation (R528) -/

/-- LCS_LABEL as 8 bytes. -/
def Dev.label (d : Dev) : List Byte := leBytes 4 (d.get (F.LCS_LABEL_LABEL 0)) ++ leBytes 4 (d.get (F.LCS_LABEL_LABEL 1))

/-- A write of LCS_DERIVE. (DEDUCED, log entry 67). -/
def Dev.writeLcsDerive (d : Dev) (w : Word) : Dev :=
  let go := bitOf w.toNat 31
  d.regWrite .bar0 R.LCS_DERIVE 0 w
    [(go && bits (d.get (F.LCS_LABEL_LABEL 1)) 24 8 == 0xFF, .eField), (go && !d.is F.LCS_STAT_DSKOK, .eState),
     (go && d.is F.LCS_DERIVE_BUSY, .eBusy)] fun n =>
      let n1 := n.set F.LCS_DERIVE_GO 0
      if go then (n1.putBytes F.LCS_DKEY_KEY 0 (hmac256 n1.key.dsk n1.label)).lcsEvent 2 else n1

def execLcsDerive (w : Word) (s : State) : Out' := act s fun d => d.writeLcsDerive (withBit w 31)

/-- A write of LCS_KEYBUF. -/
def Dev.writeKeybuf (d : Dev) (i : Nat) (w : Word) : Dev :=
  d.regWrite .bar0 R.LCS_KEYBUF i w [] fun n => { n with key := { n.key with buf := mapPut 0 n.key.buf i w.toNat } }

end Sys2Proof.Machine
end

