-- ==== Sys2Proof/Machine/RegWrite.lean ====
section
/-!
DEFINITION. REGISTER_WRITE (R6 to R9, R22, R29, R304, R557, R583): where an access of the steward or of T000 goes, the checks and
effects of the registers that have no row of their own, and the writers of those that have.
-/
namespace Sys2Proof.Machine

open Sys2Proof

/-- Sources of FLT_SRC that cannot be given class FENCE: those of units that cannot be fenced (R503). -/
def noFence : List Nat := [23, 24, 40, 41, 42, 43, 44, 45, 50, 51, 52, 53, 54, 55]

/-- What a write of `w` to entry `i` of the BAR0 register row at `base` is checked for beside R8, and what follows from it. A new ROLE
leaves a port that is attached in the role it has. (DESIGN CHOICE, log entry 82). -/
def Dev.writeRule (d : Dev) (base i : Nat) (w : Word) : List (Bool × Status) × (Dev → Dev) :=
  let n := fun lo k => bits w.toNat lo k
  let old := d
  let develop := d.fuse.life == .develop
  match base with
  | 0x1020 => ([(decide (30 < n 0 5), .eRange)], id)
  | 0x1024 => ([(decide (n 0 8 < 30) || decide (80 < n 0 8) || decide (n 8 8 < 40) || decide (110 < n 8 8) ||
      decide (n 8 8 < n 0 8 + 10), .eRange)], id)
  | 0x1030 => ([(decide (4000 < n 0 12) || n 16 8 == 0 || decide (100 < n 16 8), .eRange)], id)
  | 0x1C10 => ([], Dev.slowSource)
  | 0x2000 => ([(i != 0 && (n 11 2 != 0), .eRange), (n 9 2 == 3, .eField),
      (n 15 1 == 1 && !d.is (F.PD_CTRL_DBGACC i) && !develop, .eLocked),
      (i != 0 && n 9 2 != d.get (F.PD_CTRL_RPVAL i) && d.isSource i && !d.is (F.PD_STAT_CONTRACT i) &&
        decide (d.get F.PD_BUDGET_TOTAL < d.get F.PD_BUDGET_USED - (d.port i).resv + typecWatts (n 9 2)), .eNores)],
      fun d => if n 9 2 ≠ old.get (F.PD_CTRL_RPVAL i) ∧ d.isSource i ∧ !d.is (F.PD_STAT_CONTRACT i) then d.reserve i (typecWatts (n 9 2)) else d)
  | 0x2010 => ([(n 0 9 != d.get (F.PD_XLIM_SRCSETTLE i) && (decide (n 0 9 < 20) || decide (275 < n 0 9)), .eRange),
      (n 16 6 != d.get (F.PD_XLIM_SNKSETTLE i) && (decide (n 16 6 < 5) || decide (50 < n 16 6)), .eRange)], id)
  | 0x2034 => ([(n 0 2 == 0, .eRange), (decide (n 4 2 < n 0 2), .eRange), (n 12 4 == 0, .eRange)], id)
  | 0x2C00 => ([(decide (240 < n 0 9), .eRange)], id)
  | 0x3004 => ([(decide (n 24 8 < 2) || decide (100 < n 24 8), .eRange), (n 20 4 == 0, .eRange), (n 16 4 == 0, .eRange),
      (decide (n 8 8 < 2) || decide (200 < n 8 8), .eRange), (decide (80 < n 0 8), .eRange)], id)
  | 0x3008 => ([(decide (n 16 8 < 1) || decide (48 < n 16 8), .eRange), (decide (n 8 8 < 1) || decide (120 < n 8 8), .eRange),
      (n 0 8 == 0, .eRange)], id)
  | 0x3800 => ([(n 0 4 == 1 || decide (8 < n 0 4), .eRange), (decide (n 8 8 < 5) || decide (100 < n 8 8), .eRange)],
      fun d => if n 0 4 = old.get F.CEL_CFG_NCELL then d else d.cellsConfigured)
  | 0x3844 => ([(!descends [n 0 14, n 16 14, d.get F.CEL_TLIM1_WARM, d.get F.CEL_TLIM1_HOT, d.get F.CEL_TLIM2_DSGHOT], .eRange)], id)
  | 0x3848 => ([(!descends [d.get F.CEL_TLIM0_COLD, d.get F.CEL_TLIM0_COOL, n 0 14, n 16 14, d.get F.CEL_TLIM2_DSGHOT], .eRange)], id)
  | 0x384C => ([(!descends [d.get F.CEL_TLIM0_COLD, d.get F.CEL_TLIM0_COOL, d.get F.CEL_TLIM1_WARM, d.get F.CEL_TLIM1_HOT, n 0 14], .eRange)], id)
  | 0x3850 => ([(decide (n 16 14 ≤ n 0 14), .eRange)], id)
  | 0x3858 => ([(n 0 8 &&& (n 0 8 / 2) != 0, .eRange)], fun d => d.forceBalance)
  | 0x3C34 => ([(decide (50 < n 24 8), .eRange), (decide (2000 < n 0 12), .eRange)], id)
  | 0x3C38 => ([(n 12 4 == 0, .eRange)],
      fun d => if n 0 12 = old.get F.RAT_RPACK_RCFG then d else d.set F.RAT_RPACK_REST (n 0 12))
  | 0x4004 => ([(n 16 8 == 0, .eRange), (n 12 4 == 0, .eRange), (decide (n 0 4 < 3) || decide (13 < n 0 4), .eRange),
      ([1, 2, 4, 8].contains (n 8 4), .eRange)], id)
  | 0x5804 => ([(d.meetsSlot 16 (dirSpan (n 16 10) (n 0 6)), .eRange), (decide (1024 < (dirSpan (n 16 10) (n 0 6)).2), .eRange)], id)
  | 0x5810 => ([(decide (i ≤ 1), .eField), (i == 2 && (n 25 2 != 0 || n 21 4 != 0 || n 10 11 != 64), .eField),
      (d.is (F.EPM_SLOT_EN i) && (n 27 1 != d.get (F.EPM_SLOT_DIR i) || n 25 2 != d.get (F.EPM_SLOT_TYPE i) ||
        n 21 4 != d.get (F.EPM_SLOT_EPNUM i) || n 10 11 != d.get (F.EPM_SLOT_MPS i) || n 0 10 != d.get (F.EPM_SLOT_BASE i)), .eState),
      (n 10 11 == 0 || decide (1024 < n 10 11), .eRange), (decide (1024 < (slotSpan i (n 25 2) (n 0 10) (n 10 11)).2), .eRange),
      (n 31 1 == 1 && (d.meetsSlot i (slotSpan i (n 25 2) (n 0 10) (n 10 11)) ||
        spansMeet (slotSpan i (n 25 2) (n 0 10) (n 10 11)) (dirSpan (d.get F.EPM_DIR_BASE) (d.get F.EPM_DIR_COUNT))), .eRange)],
      fun d => if old.is (F.EPM_SLOT_HALT i) && n 30 1 == 0 then (d.emptyBanks i).set (F.EPM_SLOT_TOG i) 0 else d)
  | 0x5000 => ([(decide (n 8 8 < 10) || decide (250 < n 8 8), .eRange),
      (n 16 1 == 0 && d.is F.LHE_CTRL_EN && (d.get F.LHE_STAT_OPEN != 0 || [1, 2, 3, 4, 5, 6, 7, 8].any d.isLocal), .eState),
      (n 16 1 == 1 && !d.is F.LHE_CTRL_EN && !d.is F.LHE_CTRL_LOCK, .eState)],
      fun d => if d.get F.LHE_CTRL_EN = old.get F.LHE_CTRL_EN then d else { d with lhe := { d.lhe with sofAt := none } })
  | 0x5A04 => ([(n 16 16 % 16 != 0 || (n 0 8 != 0 && decide (4096 < n 16 16 % 4096 + 16 * n 0 8)), .eRange),
      (decide (3840 < d.quotaSum (d.get F.LAR_CTRL_DEVRES) (n 0 8)), .eNores)], id)
  | 0x5A14 => ([(n 0 8 != d.get F.LAR_USEDSEL_USEDSEL && !d.tenantExists (n 0 8), .eRange)], id)
  | 0x5C00 => ([(decide (n 20 12 < n 8 12), .eRange),
      (decide (3840 < d.quotaSum (d.get F.LAR_CTRL_DEVRES) (d.get F.LAR_PART_COUNT) - d.get (F.LAR_QUOTA_MIN i) + n 8 12), .eNores)], id)
  | 0x8000 => ([(decide (i ≤ 267) && n 0 16 == 0, .eRange)],
      fun d => if i ≤ 267 then d else d.set (F.QUE_W0_DEPTH i) (old.get (F.QUE_W0_DEPTH i)))
  | 0xC004 => ([(decide (14 ≤ n 16 4), .eField), (n 7 1 == 1 && n 8 4 == 0, .eRange), (d.is (F.TDM_CTRL_EN i) && w.toNat != d.readRow .bar0 R.TDM_CFG i, .eState)], id)
  | 0xC100 => ([(n 4 3 == 0, .eRange),
      (n 0 1 != d.get F.TDM_PLL_FAMILY && [0, 1].any (fun p => d.is (F.TDM_CTRL_EN p) && d.tdmMaster p), .eState)],
      fun d => if old.get F.TDM_PLL_FAMILY = d.get F.TDM_PLL_FAMILY then d.pllStart else (d.set F.TDM_PLL_LOCKED 0).pllStart)
  | 0xD000 => ([], fun d => if n 0 1 == 1 then (d.set F.HIF_CNT_POISONIN 0).set F.HIF_CNT_CPLFAIL 0 else d)
  | 0xD014 => ([(n 0 8 != d.get F.HIF_TKTSEL_TENANT && !d.tenantExists (n 0 8), .eRange)], id)
  | 0xD400 => ([(decide (n 16 14 < n 0 14) || decide (8192 < n 16 14) || n 16 14 == 0, .eRange),
      (decide (8192 < ((List.range 256).map fun t => if t = i then n 0 14 else d.get (F.HIF_TKT_MIN t)).foldl (· + ·) 0), .eNores)], id)
  | 0xE800 => ([(n 24 8 == 0 || decide (7200 < n 0 13), .eRange)], id)
  | 0xF004 => ([], fun d => if d.readRow .bar0 R.HAY_UNIT 0 = old.readRow .bar0 R.HAY_UNIT 0 then d
      else ({ d with hay := { d.hay with alone := 0 } } : Dev).chooseParent)
  | 0xF008 => ([(n 0 8 == 0, .eRange)], id)
  | 0xF040 => ([], fun d => (d.laneRefresh i).chooseParent)
  | 0xF044 => ([(decide (50000 < n 0 16) || decide (n 0 16 < d.get (F.HAY_LANE4_AUSED i)), .eRange)], id)
  | 0x10004 => ([], Dev.chooseParent)
  | 0x12004 => ([(n 0 8 != d.get F.FLS_CFG_DIV && (decide (n 0 8 < 6) ||
        (decide (n 0 8 < 9) && (!d.is F.FLS_PROFA0_DDR || !d.is F.FLS_PROFA1_DDR))), .eRange),
      (n 8 8 != d.get F.FLS_CFG_RDLY && d.is F.FLS_CTRL_WLOCK, .eLocked)], id)
  | 0x12010 => ([(w.toNat != d.readRow .bar0 R.FLS_PROFA0 0 && !profOk w.toNat, .eField), ([0x03, 0x13].contains (n 24 8) && d.get F.FLS_PROFB0_DUMMY != 0 && n 24 8 != d.get F.FLS_PROFA0_RDOP, .eRange)], id)
  | 0x12014 => ([([0x03, 0x13].contains (d.get F.FLS_PROFA0_RDOP) && n 16 5 != 0 && n 16 5 != d.get F.FLS_PROFB0_DUMMY, .eRange)], id)
  | 0x12018 => ([(w.toNat != d.readRow .bar0 R.FLS_PROFA1 0 && !profOk w.toNat, .eField), ([0x03, 0x13].contains (n 24 8) && d.get F.FLS_PROFB1_DUMMY != 0 && n 24 8 != d.get F.FLS_PROFA1_RDOP, .eRange)], id)
  | 0x1201C => ([([0x03, 0x13].contains (d.get F.FLS_PROFA1_RDOP) && n 16 5 != 0 && n 16 5 != d.get F.FLS_PROFB1_DUMMY, .eRange)], id)
  | 0x12020 => ([(n 0 25 % 256 != 0 || decide (0x1000000 < n 0 25), .eRange)], id)
  | 0x12024 => ([(n 0 32 % 256 != 0, .eRange)], id)
  | 0x12028 => ([(n 0 25 % 256 != 0 || decide (0x1000000 < n 0 25), .eRange)], id)
  | 0x1202C => ([(n 0 32 % 256 != 0, .eRange)], id)
  | 0x1204C => ([], fun d => if n 31 1 == 1 then ((d.set F.FLS_ERR_MULTI 0).set F.FLS_ERR_CODE 0).set F.FLS_ERRADDR_ADDR 0 else d)
  | 0x13004 => ([(n 24 8 == 0 || n 16 8 == 0, .eRange),
      (n 0 8 != d.get F.GRN_CFG_ABASE && decide (d.get F.FLS_WMAP_SIZE < 65536 * (n 0 8 + 1)), .eRange),
      (n 8 8 != d.get F.GRN_CFG_BBASE && decide (d.get F.FLS_WMAP_SIZE < 65536 * (n 8 8 + 1)), .eRange),
      (n 0 8 == n 8 8, .eRange)], id)
  | 0x14004 => ([(n 16 16 == 0 || n 0 8 == 0, .eRange)], id)
  | 0x14060 => ([], fun d => if n 31 1 == 1 then (d.resetRange 0x14060 0x14068) else d)
  | 0x15010 => ([(!unitIssued (n 0 10), .eRange)], id)
  | 0x15040 => ([(n 0 13 == 0 || decide (4096 < n 0 13), .eRange)], id)
  | 0x15100 => ([((i == 0 || decide (56 ≤ i)) && w.toNat != d.readRow .bar0 R.FLT_SRC i, .eField), (n 30 2 == 3, .eField),
      ((n 16 8 == 0 || n 0 16 == 0) && i != 0 && decide (i < 56), .eRange),
      (n 30 2 == 2 && noFence.contains i, .eRange), (i == 28 && (n 30 2 != 2 || n 16 8 != 1), .eRange)], id)
  | 0x16010 => ([((n 0 16 != d.get F.STW_WDT_PERIOD || n 16 12 != d.get F.STW_WDT_WARN) && (n 0 16 == 0 || decide (n 0 16 ≤ n 16 12)), .eRange),
      (n 31 1 == 0 && d.is F.STW_WDT_EN && !develop && d.fuse.life != .reclaim, .eLocked)],
      fun d => if n 31 1 == 1 && !old.is F.STW_WDT_EN then d.kick else d)
  | 0x17024 => ([(n 0 18 % 8 != 0, .eAlign), (decide (262144 < n 0 18 + 192), .eRange)], id)
  | _ => ([], id)

/-- The same for a register row of the page of tenant `t` (Table 11.17): a ring's base is fixed while the ring is enabled, and
its upper half is 0 in the partition. -/
def Dev.pageRule (d : Dev) (t base i : Nat) (w : Word) : List (Bool × Status) :=
  match base with
  | 0x100 => [(bits w.toNat 6 26 != d.get (F.HIF_RBASEL_BASE t i) && d.is (F.HIF_RCFG_EN t i), .eState)]
  | 0x104 =>
    let new := w.toNat != d.get (F.HIF_RBASEH_BASE t i)
    [(new && d.is (F.HIF_RCFG_EN t i), .eState), (new && d.inPart t && w.toNat != 0, .eRange)]
  | _ => []

/-- The writer of a BAR0 register whose writes have rows of their own; `who` is 0 the steward, 1 T000. (DEDUCED, log entry 11). -/
def Dev.ownWriter (d : Dev) (who base i : Nat) (w : Word) : Option Dev :=
  match base with
  | 0x10 => some (d.writeGlbCtrl w)
  | 0x20 => some (d.writeGlbCfgerr w)
  | 0x1000 => some (d.writeState w)
  | 0x1034 => some (d.writeShut w)
  | 0x1C04 => some (d.writePacecfg w)
  | 0x1C30 => some (d.writeXclr w)
  | 0x2020 => some (d.writeTxcmd i w)
  | 0x2024 => some (d.writeRxstat i w)
  | 0x3000 => some (d.writeChgCtrl w)
  | 0x3854 => some (d.writeOwcfg w)
  | 0x3864 => some (d.writeGaugeh w)
  | 0x3C00 => some (d.writeRatCtrl w)
  | 0x4000 => some (d.writeHubCtrl w)
  | 0x4018 => some (d.writeCtlreply w)
  | 0x4160 => some (d.writeSteer (i + 1) w)
  | 0x5858 => some (d.writeBank (i + 2) w)
  | 0x5A00 => some (d.writeLarCtrl w)
  | 0x8004 => some (d.writeQueW1 i w)
  | 0xC000 => some (d.writeTdmCtrl i w)
  | 0xE000 => some (d.writeGflr w)
  | 0xF000 => some (d.writeHayCtrl w)
  | 0xFC00 => some (d.writeCtxcmd w)
  | 0xFC0C => some (d.writeCrxpop w)
  | 0x11000 => some (d.writeYokCtrl w)
  | 0x11030 => some (d.writeMtxcmd w)
  | 0x11034 => some (d.writeMrxstat w)
  | 0x12000 => some (d.writeFlsCtrl w)
  | 0x12040 => some (d.writeFlsCmd w)
  | 0x13000 => some (d.writeGrnCtrl w)
  | 0x13008 => some (d.writeGrnCommit w false)
  | 0x14000 => some (d.writeEccCtrl w)
  | 0x14070 => some (d.writeEccInj w)
  | 0x14074 => some (d.writeEccFill w)
  | 0x14084 => some (d.writeEccGlclr w)
  | 0x15014 => some (d.writeUrec0 w)
  | 0x15020 => some (d.writeUcmd w)
  | 0x15400 => some (d.writeAltCfg i w)
  | 0x16000 => some (d.writeStwCtrl w)
  | 0x16014 => some (d.writeWdtkick w)
  | 0x16210 => some (d.writeIcclaim w)
  | 0x16300 => some (d.writeMbcmd who w)
  | 0x16304 => some (d.writeMbreply who w)
  | 0x16308 => some (d.writeMbmsg who w)
  | 0x17020 => some (d.writeLcsReq w)
  | 0x17040 => some (d.writeLcsProg w)
  | 0x17060 => some (d.writeKeybuf i w)
  | 0x17088 => some (d.writeLcsDerive w)
  | _ => none

/-- The writer of a page register whose writes have rows of their own. -/
def Dev.ownPageWriter (d : Dev) (t base i : Nat) (w : Word) : Option Dev :=
  match base with
  | 0x8 => some (d.writeTenCfgerr t w)
  | 0x108 => some (d.writeRcfg t i w)
  | 0x80C => some (d.writeMsixCtrl t i w)
  | 0x1000 => some (d.writeDoorbell t i w)
  | _ => none

/-- The entry of a row that lies at an offset. -/
def rowEntry (row : RegRow) (off : Nat) : Option Nat :=
  if off < row.base then none
  else if row.stride = 0 then if off = row.base then some 0 else none
  else
    let k := off - row.base
    if k % row.stride = 0 ∧ k / row.stride < row.count then some (k / row.stride) else none

/-- The register at an offset, with its entry number. -/
def findRow (off : Nat) : List RegRow → Option (RegRow × Nat)
  | [] => none
  | row :: t => match rowEntry row off with
    | some i => some (row, i)
    | none => findRow off t

/-- What a reserved offset of BAR0 is rejected with: E_FIELD, and E_RANGE where FLT_FALLOWk with k above 10 would lie (R503, R557). -/
def reservedStatus (off : Nat) : Status := if 0x1506C ≤ off ∧ off < 0x15080 then .eRange else .eField

/-- A whole aligned word written to BAR0. -/
def Dev.bar0Word (d : Dev) (who off : Nat) (w : Word) : Dev :=
  match findRow off bar0Rows with
  | none => d.reject .bar0 off (reservedStatus off)
  | some (row, i) =>
    if allRo row then d
    else match d.ownWriter who row.base i w with
      | some d' => d'
      | none => let r := d.writeRule row.base i w; d.regWrite .bar0 row i w r.1 r.2

/-- A whole aligned word written to a tenant's page. -/
def Dev.pageWord (d : Dev) (t off : Nat) (w : Word) : Dev :=
  match findRow off pageRows with
  | none => d.onPage t off fun d => d.reject (pageOf t) off .eField
  | some (row, i) =>
    if allRo row then d
    else match d.ownPageWriter t row.base i w with
      | some d' => d'
      | none => d.onPage t off fun d => d.regWrite (pageOf t) row i w (d.pageRule t row.base i w) id

/-- The access reaches its space (R18, R19, R306, R331, R560): the steward BAR0, and T000's page while it hosts T000; the
application processor BAR0 and the pages of PCI Express. (DEDUCED, log entry 11). -/
def Dev.reaches (d : Dev) (who : Nat) (page : Option (Fin 256)) : Bool :=
  if who = 0 then
    match page with
    | none => true
    | some t => t == 0 && d.stewardHost
  else d.cfgServed && d.is F.HIF_STAT_LINKUP

/-- A write of `n` bytes at byte `off` by the steward (0) or over PCI Express (1): one that is not a whole aligned word changes
nothing and is recorded with E_ALIGN (R6). A steward access to a page it does not reach is an access fault. -/
def Dev.registerWrite (d : Dev) (who : Nat) (page : Option (Fin 256)) (off n : Nat) (w : Word) : Dev :=
  if !d.reaches who page then if who = 0 then d.emit .accessFault 0 [0x40020000 + off] [] else d
  else
    let d1 := d.accessBy who
    match page with
    | none => if n ≠ 4 ∨ off % 4 ≠ 0 then d1.reject .bar0 off .eAlign else d1.bar0Word who off w
    | some t =>
      let x := off % 0x2000
      if n ≠ 4 ∨ x % 4 ≠ 0 then d1.onPage t.val x fun d => d.reject (.page t) x .eAlign else d1.pageWord t.val x w

def execRegisterWrite (who : Fin 2) (page : Option (Fin 256)) (off : BitVec 17) (n : Fin 5) (w : Word) (s : State) : Out' :=
  act s fun d => d.registerWrite who.val page off.toNat n.val w

end Sys2Proof.Machine
end

