-- ==== Sys2Proof/Machine/Dispatch.lean ====
section
/-!
DEFINITION. What each command does, one arm for each constructor of Instr.
-/
namespace Sys2Proof.Machine

def exec (i : Instr) (s : State) : Host.Outcome State Fault Refusal :=
  match i with
  | .registerWrite who page off n w => Sys2Proof.Machine.execRegisterWrite who page off n w s
  | .cfgerrClear page w => Sys2Proof.Machine.execCfgerrClear page w s
  | .glbCtrlLock w => Sys2Proof.Machine.execGlbCtrlLock w s
  | .crossingInbound n len slack => Sys2Proof.Machine.execCrossingInbound n len slack s
  | .crossingTxBoundary n slack => Sys2Proof.Machine.execCrossingTxBoundary n slack s
  | .supXclr w => Sys2Proof.Machine.execSupXclr w s
  | .xtcountCaptureRead who count => Sys2Proof.Machine.execXtcountCaptureRead who count s
  | .paceWindowEnd laps => Sys2Proof.Machine.execPaceWindowEnd laps s
  | .paceMinclr w => Sys2Proof.Machine.execPaceMinclr w s
  | .xt24Lost => Sys2Proof.Machine.execXt24Lost s
  | .xt24Back long => Sys2Proof.Machine.execXt24Back long s
  | .xt24Qualified => Sys2Proof.Machine.execXt24Qualified s
  | .xt24QualifyTimeout => Sys2Proof.Machine.execXt24QualifyTimeout s
  | .xt32Lost => Sys2Proof.Machine.execXt32Lost s
  | .xt32Back => Sys2Proof.Machine.execXt32Back s
  | .dozeRequest w => Sys2Proof.Machine.execDozeRequest w s
  | .dozeExit => Sys2Proof.Machine.execDozeExit s
  | .wake src sag => Sys2Proof.Machine.execWake src sag s
  | .secondsTick sag => Sys2Proof.Machine.execSecondsTick sag s
  | .supWarn => Sys2Proof.Machine.execSupWarn s
  | .supWarnClear => Sys2Proof.Machine.execSupWarnClear s
  | .supplyReset => Sys2Proof.Machine.execSupplyReset s
  | .resetReleaseHoldEnd sag holds => Sys2Proof.Machine.execResetReleaseHoldEnd sag holds s
  | .dormantSupplyReset => Sys2Proof.Machine.execDormantSupplyReset s
  | .por => Sys2Proof.Machine.execPor s
  | .resetNAssert sag => Sys2Proof.Machine.execResetNAssert sag s
  | .supPhyHold => Sys2Proof.Machine.execSupPhyHold s
  | .supPhyRelease long => Sys2Proof.Machine.execSupPhyRelease long s
  | .warndlyExpiry => Sys2Proof.Machine.execWarndlyExpiry s
  | .lowpackExpiry => Sys2Proof.Machine.execLowpackExpiry s
  | .shutdownGo w => Sys2Proof.Machine.execShutdownGo w s
  | .shutdownSkip w => Sys2Proof.Machine.execShutdownSkip w s
  | .shutdownGraceExpiry => Sys2Proof.Machine.execShutdownGraceExpiry s
  | .shutdownS2TicketTimeout => Sys2Proof.Machine.execShutdownS2TicketTimeout s
  | .shutdownCommitDone => Sys2Proof.Machine.execShutdownCommitDone s
  | .shutdownCommitTimeout => Sys2Proof.Machine.execShutdownCommitTimeout s
  | .shutdownS5 => Sys2Proof.Machine.execShutdownS5 s
  | .dischargeHoldEnd sag => Sys2Proof.Machine.execDischargeHoldEnd sag s
  | .inputPresent src volt cur => Sys2Proof.Machine.execInputPresent src volt cur s
  | .shutdownCancel w => Sys2Proof.Machine.execShutdownCancel w s
  | .railsGood => Sys2Proof.Machine.execRailsGood s
  | .railGoodTimeout => Sys2Proof.Machine.execRailGoodTimeout s
  | .railFailure => Sys2Proof.Machine.execRailFailure s
  | .checkerSelfTest chk => Sys2Proof.Machine.execCheckerSelfTest chk s
  | .startupWipeDone => Sys2Proof.Machine.execStartupWipeDone s
  | .typecAttach port kind orient adv => Sys2Proof.Machine.execTypecAttach port kind orient adv s
  | .typecDetach port => Sys2Proof.Machine.execTypecDetach port s
  | .pdMessageRx port sop msg => Sys2Proof.Machine.execPdMessageRx port sop msg s
  | .pdRxPop port w => Sys2Proof.Machine.execPdRxPop port w s
  | .pdTxMessage port sop len => Sys2Proof.Machine.execPdTxMessage port sop len s
  | .pdTxHardReset port len => Sys2Proof.Machine.execPdTxHardReset port len s
  | .pdTxCableReset port len => Sys2Proof.Machine.execPdTxCableReset port len s
  | .pdRetryTimeout port => Sys2Proof.Machine.execPdRetryTimeout port s
  | .pdTxComplete port acked => Sys2Proof.Machine.execPdTxComplete port acked s
  | .pdHardReset port => Sys2Proof.Machine.execPdHardReset port s
  | .pdSrcSetpoint port => Sys2Proof.Machine.execPdSrcSetpoint port s
  | .pdSrcPsRdy port volt cur => Sys2Proof.Machine.execPdSrcPsRdy port volt cur s
  | .pdSrcSlow port notLow => Sys2Proof.Machine.execPdSrcSlow port notLow s
  | .pdSrcRecoveryEnd port low => Sys2Proof.Machine.execPdSrcRecoveryEnd port low s
  | .pdSnkSettled port volt cur => Sys2Proof.Machine.execPdSnkSettled port volt cur s
  | .pdSnkSlow port => Sys2Proof.Machine.execPdSnkSlow port s
  | .pdOvp port => Sys2Proof.Machine.execPdOvp port s
  | .pdOcp port => Sys2Proof.Machine.execPdOcp port s
  | .eprKeepalive port => Sys2Proof.Machine.execEprKeepalive port s
  | .ppsRequestRepeat port => Sys2Proof.Machine.execPpsRequestRepeat port s
  | .pdMoistureMeasure port cc1 cc2 sbu1 sbu2 => Sys2Proof.Machine.execPdMoistureMeasure port cc1 cc2 sbu1 sbu2 s
  | .celScan cells pk cur ntc1 ntc2 batid short => Sys2Proof.Machine.execCelScan cells pk cur ntc1 ntc2 batid short s
  | .celPackBack => Sys2Proof.Machine.execCelPackBack s
  | .owTestGo w => Sys2Proof.Machine.execOwTestGo w s
  | .owTestPeriodic => Sys2Proof.Machine.execOwTestPeriodic s
  | .owPinDone moved => Sys2Proof.Machine.execOwPinDone moved s
  | .packLoss vr left => Sys2Proof.Machine.execPackLoss vr left s
  | .chgSessionOpen => Sys2Proof.Machine.execChgSessionOpen s
  | .chgPrechgFail => Sys2Proof.Machine.execChgPrechgFail s
  | .chgDone => Sys2Proof.Machine.execChgDone s
  | .chgRecharge => Sys2Proof.Machine.execChgRecharge s
  | .chgSafety => Sys2Proof.Machine.execChgSafety s
  | .chgKick w => Sys2Proof.Machine.execChgKick w s
  | .chgWdtExpiry => Sys2Proof.Machine.execChgWdtExpiry s
  | .chgDisable w => Sys2Proof.Machine.execChgDisable w s
  | .chgOcp => Sys2Proof.Machine.execChgOcp s
  | .chgOcpResume => Sys2Proof.Machine.execChgOcpResume s
  | .chgInputLost => Sys2Proof.Machine.execChgInputLost s
  | .gaugeClear w => Sys2Proof.Machine.execGaugeClear w s
  | .gaugeCaptureRead who => Sys2Proof.Machine.execGaugeCaptureRead who s
  | .burstRequest word vr volt cur => Sys2Proof.Machine.execBurstRequest word vr volt cur s
  | .grantEnd => Sys2Proof.Machine.execGrantEnd s
  | .ratAbort => Sys2Proof.Machine.execRatAbort s
  | .ratHoldEnd => Sys2Proof.Machine.execRatHoldEnd s
  | .ratEnable w => Sys2Proof.Machine.execRatEnable w s
  | .ratCntclr w => Sys2Proof.Machine.execRatCntclr w s
  | .hubRequest setup => Sys2Proof.Machine.execHubRequest setup s
  | .hubCtlReq => Sys2Proof.Machine.execHubCtlReq s
  | .hubCtlreplyAct w => Sys2Proof.Machine.execHubCtlreplyAct w s
  | .hubCtlTimeout => Sys2Proof.Machine.execHubCtlTimeout s
  | .funcSetup setup => Sys2Proof.Machine.execFuncSetup setup s
  | .funcToken slot kind tog data ack => Sys2Proof.Machine.execFuncToken slot kind tog data ack s
  | .funcIsoMicroframe slot k pkts => Sys2Proof.Machine.execFuncIsoMicroframe slot k pkts s
  | .feedbackUpdate ns => Sys2Proof.Machine.execFeedbackUpdate ns s
  | .epmBankWrite slot w => Sys2Proof.Machine.execEpmBankWrite slot w s
  | .hubSuspend => Sys2Proof.Machine.execHubSuspend s
  | .hubResume => Sys2Proof.Machine.execHubResume s
  | .hubRwake w => Sys2Proof.Machine.execHubRwake w s
  | .hubRemoteWake port => Sys2Proof.Machine.execHubRemoteWake port s
  | .portResumeDone port => Sys2Proof.Machine.execPortResumeDone port s
  | .portResetDone port => Sys2Proof.Machine.execPortResetDone port s
  | .portPowerGood port => Sys2Proof.Machine.execPortPowerGood port s
  | .portOverCurrent port => Sys2Proof.Machine.execPortOverCurrent port s
  | .portOverCurrentClear port => Sys2Proof.Machine.execPortOverCurrentClear port s
  | .portConnectChange port dev => Sys2Proof.Machine.execPortConnectChange port dev s
  | .portBabble port => Sys2Proof.Machine.execPortBabble port s
  | .hubBusreset hs => Sys2Proof.Machine.execHubBusreset hs s
  | .hubDisconnect => Sys2Proof.Machine.execHubDisconnect s
  | .hubEnable w => Sys2Proof.Machine.execHubEnable w s
  | .hubCntclr w => Sys2Proof.Machine.execHubCntclr w s
  | .prtSteerGo port w => Sys2Proof.Machine.execPrtSteerGo port w s
  | .steer t sq => Sys2Proof.Machine.execSteer t sq s
  | .steerQuiesceDone port => Sys2Proof.Machine.execSteerQuiesceDone port s
  | .steerHoldEnd port => Sys2Proof.Machine.execSteerHoldEnd port s
  | .prtSteerDone port => Sys2Proof.Machine.execPrtSteerDone port s
  | .portcmdReset t sq => Sys2Proof.Machine.execPortcmdReset t sq s
  | .localPortResetDone port => Sys2Proof.Machine.execLocalPortResetDone port s
  | .portcmdSuspend t sq => Sys2Proof.Machine.execPortcmdSuspend t sq s
  | .portcmdResume t sq => Sys2Proof.Machine.execPortcmdResume t sq s
  | .portcmdPowerOff t sq => Sys2Proof.Machine.execPortcmdPowerOff t sq s
  | .portcmdPowerOn t sq => Sys2Proof.Machine.execPortcmdPowerOn t sq s
  | .lhePortResume port => Sys2Proof.Machine.execLhePortResume port s
  | .localMicroframe => Sys2Proof.Machine.execLocalMicroframe s
  | .ctxopen t sq => Sys2Proof.Machine.execCtxopen t sq s
  | .ctxclose t sq => Sys2Proof.Machine.execCtxclose t sq s
  | .ctxreset t sq => Sys2Proof.Machine.execCtxreset t sq s
  | .xfer t sq => Sys2Proof.Machine.execXfer t sq s
  | .lheTransaction ctx res data poison => Sys2Proof.Machine.execLheTransaction ctx res data poison s
  | .lhePortAttach port dev => Sys2Proof.Machine.execLhePortAttach port dev s
  | .lhePortDetach port babble => Sys2Proof.Machine.execLhePortDetach port babble s
  | .bind t sq => Sys2Proof.Machine.execBind t sq s
  | .attach t sq => Sys2Proof.Machine.execAttach t sq s
  | .detach t sq => Sys2Proof.Machine.execDetach t sq s
  | .start t sq => Sys2Proof.Machine.execStart t sq s
  | .flush t sq => Sys2Proof.Machine.execFlush t sq s
  | .flushDrained stream => Sys2Proof.Machine.execFlushDrained stream s
  | .flushDone stream => Sys2Proof.Machine.execFlushDone stream s
  | .unbind t sq => Sys2Proof.Machine.execUnbind t sq s
  | .buf t sq => Sys2Proof.Machine.execBuf t sq s
  | .streamItemIn stream data stamp bad => Sys2Proof.Machine.execStreamItemIn stream data stamp bad s
  | .streamSinkPacket stream sink k => Sys2Proof.Machine.execStreamSinkPacket stream sink k s
  | .strSourceLost stream => Sys2Proof.Machine.execStrSourceLost stream s
  | .noticeSpacingEnd queue kind => Sys2Proof.Machine.execNoticeSpacingEnd queue kind s
  | .larLock w => Sys2Proof.Machine.execLarLock w s
  | .partitionSetAsideDone => Sys2Proof.Machine.execPartitionSetAsideDone s
  | .larCntclr w => Sys2Proof.Machine.execLarCntclr w s
  | .queLostsatClear queue w => Sys2Proof.Machine.execQueLostsatClear queue w s
  | .queCntclr queue w => Sys2Proof.Machine.execQueCntclr queue w s
  | .tdmEnable port w => Sys2Proof.Machine.execTdmEnable port w s
  | .tdmCntclr port w => Sys2Proof.Machine.execTdmCntclr port w s
  | .tdmPllLock => Sys2Proof.Machine.execTdmPllLock s
  | .tdmBankEnd port edges di => Sys2Proof.Machine.execTdmBankEnd port edges di s
  | .tdmFserr port sent => Sys2Proof.Machine.execTdmFserr port sent s
  | .tdmClkLoss port => Sys2Proof.Machine.execTdmClkLoss port s
  | .tdmClkBack port => Sys2Proof.Machine.execTdmClkBack port s
  | .doorbell t ring w => Sys2Proof.Machine.execDoorbell t ring w s
  | .fetch => Sys2Proof.Machine.execFetch s
  | .fetchCompletion t sq data poison => Sys2Proof.Machine.execFetchCompletion t sq data poison s
  | .pcieCplTimeout t sq fetch idx => Sys2Proof.Machine.execPcieCplTimeout t sq fetch idx s
  | .pcieErrorCompletion t sq fetch idx => Sys2Proof.Machine.execPcieErrorCompletion t sq fetch idx s
  | .pciePoisonedWrite t => Sys2Proof.Machine.execPciePoisonedWrite t s
  | .dispatch t sq => Sys2Proof.Machine.execDispatch t sq s
  | .nop t sq => Sys2Proof.Machine.execNop t sq s
  | .completionWrite t cq => Sys2Proof.Machine.execCompletionWrite t cq s
  | .eventDeliver t => Sys2Proof.Machine.execEventDeliver t s
  | .msixHoldoffExpiry t vec => Sys2Proof.Machine.execMsixHoldoffExpiry t vec s
  | .msixUnmask t vec => Sys2Proof.Machine.execMsixUnmask t vec s
  | .ringEnable t ring w => Sys2Proof.Machine.execRingEnable t ring w s
  | .pcieLinkDown => Sys2Proof.Machine.execPcieLinkDown s
  | .vfEnable en numVfs ari => Sys2Proof.Machine.execVfEnable en numVfs ari s
  | .flr t => Sys2Proof.Machine.execFlr t s
  | .tenGflr w => Sys2Proof.Machine.execTenGflr w s
  | .flrTicketsEnded t => Sys2Proof.Machine.execFlrTicketsEnded t s
  | .flrStreamsFlushed t => Sys2Proof.Machine.execFlrStreamsFlushed t s
  | .flrCellsWiped t => Sys2Proof.Machine.execFlrCellsWiped t s
  | .tenFlrDone t => Sys2Proof.Machine.execTenFlrDone t s
  | .hayLaneUp lane nbr => Sys2Proof.Machine.execHayLaneUp lane nbr s
  | .hayTrainTimeout lane => Sys2Proof.Machine.execHayTrainTimeout lane s
  | .hayBaleRx lane sub wait raw => Sys2Proof.Machine.execHayBaleRx lane sub wait raw s
  | .audio lane bale => Sys2Proof.Machine.execAudio lane bale s
  | .control lane bale => Sys2Proof.Machine.execControl lane bale s
  | .null lane bale => Sys2Proof.Machine.execNull lane bale s
  | .resvReq lane bale => Sys2Proof.Machine.execResvReq lane bale s
  | .resvAck lane bale => Sys2Proof.Machine.execResvAck lane bale s
  | .resvNak lane bale => Sys2Proof.Machine.execResvNak lane bale s
  | .resvFree lane bale => Sys2Proof.Machine.execResvFree lane bale s
  | .app lane bale => Sys2Proof.Machine.execApp lane bale s
  | .sync lane sub bale => Sys2Proof.Machine.execSync lane sub bale s
  | .dreq lane sub wait bale => Sys2Proof.Machine.execDreq lane sub wait bale s
  | .dresp lane sub bale => Sys2Proof.Machine.execDresp lane sub bale s
  | .announce lane bale => Sys2Proof.Machine.execAnnounce lane bale s
  | .ahead lane sub bale => Sys2Proof.Machine.execAhead lane sub bale s
  | .hello lane bale => Sys2Proof.Machine.execHello lane bale s
  | .roll lane bale => Sys2Proof.Machine.execRoll lane bale s
  | .reject lane bale => Sys2Proof.Machine.execReject lane bale s
  | .bcast lane bale => Sys2Proof.Machine.execBcast lane bale s
  | .hayHelloTx => Sys2Proof.Machine.execHayHelloTx s
  | .announceTx => Sys2Proof.Machine.execAnnounceTx s
  | .syncTx sub => Sys2Proof.Machine.execSyncTx sub s
  | .dreqTx sub => Sys2Proof.Machine.execDreqTx sub s
  | .rollTx => Sys2Proof.Machine.execRollTx s
  | .routeEntryExpiry id => Sys2Proof.Machine.execRouteEntryExpiry id s
  | .gmseqTimeout => Sys2Proof.Machine.execGmseqTimeout s
  | .helloTimeout lane => Sys2Proof.Machine.execHelloTimeout lane s
  | .hayLaneDown lane errs align => Sys2Proof.Machine.execHayLaneDown lane errs align s
  | .keepExpiry lane => Sys2Proof.Machine.execKeepExpiry lane s
  | .controlResend lane => Sys2Proof.Machine.execControlResend lane s
  | .nullAckTx lane => Sys2Proof.Machine.execNullAckTx lane s
  | .aheadRepeat sub => Sys2Proof.Machine.execAheadRepeat sub s
  | .almStep => Sys2Proof.Machine.execAlmStep s
  | .hayMicroframeSend => Sys2Proof.Machine.execHayMicroframeSend s
  | .resvRefresh flow => Sys2Proof.Machine.execResvRefresh flow s
  | .resvExpiry src dst dflow => Sys2Proof.Machine.execResvExpiry src dst dflow s
  | .hayopen t sq => Sys2Proof.Machine.execHayopen t sq s
  | .hayopenTimeout flow => Sys2Proof.Machine.execHayopenTimeout flow s
  | .hayclose t sq => Sys2Proof.Machine.execHayclose t sq s
  | .rerouteRetry flow => Sys2Proof.Machine.execRerouteRetry flow s
  | .hayCtxSend w => Sys2Proof.Machine.execHayCtxSend w s
  | .hayCtxTimeout => Sys2Proof.Machine.execHayCtxTimeout s
  | .hayCrxpop w => Sys2Proof.Machine.execHayCrxpop w s
  | .hayCntclr w => Sys2Proof.Machine.execHayCntclr w s
  | .almTimeCaptureRead who => Sys2Proof.Machine.execAlmTimeCaptureRead who s
  | .yokEnable w high => Sys2Proof.Machine.execYokEnable w high s
  | .yokClaim => Sys2Proof.Machine.execYokClaim s
  | .yokYield => Sys2Proof.Machine.execYokYield s
  | .yokClaimConfirm => Sys2Proof.Machine.execYokClaimConfirm s
  | .yokBeatTx => Sys2Proof.Machine.execYokBeatTx s
  | .lbeat bale => Sys2Proof.Machine.execLbeat bale s
  | .wbeat bale => Sys2Proof.Machine.execWbeat bale s
  | .mirror bale => Sys2Proof.Machine.execMirror bale s
  | .yokLossTimeout => Sys2Proof.Machine.execYokLossTimeout s
  | .yokBeatStale => Sys2Proof.Machine.execYokBeatStale s
  | .yokHandover w => Sys2Proof.Machine.execYokHandover w s
  | .yokTokenFault => Sys2Proof.Machine.execYokTokenFault s
  | .yokMirrorTx => Sys2Proof.Machine.execYokMirrorTx s
  | .yokMirrorResend => Sys2Proof.Machine.execYokMirrorResend s
  | .yokMtxcmd w => Sys2Proof.Machine.execYokMtxcmd w s
  | .yokMrxPop w => Sys2Proof.Machine.execYokMrxPop w s
  | .yokCntclr w => Sys2Proof.Machine.execYokCntclr w s
  | .readId w => Sys2Proof.Machine.execReadId w s
  | .readSfdp w => Sys2Proof.Machine.execReadSfdp w s
  | .readStatus w => Sys2Proof.Machine.execReadStatus w s
  | .sectorErase w => Sys2Proof.Machine.execSectorErase w s
  | .deepPowerDown w => Sys2Proof.Machine.execDeepPowerDown w s
  | .release w => Sys2Proof.Machine.execRelease w s
  | .flashReset w => Sys2Proof.Machine.execFlashReset w s
  | .flsCmdDone data => Sys2Proof.Machine.execFlsCmdDone data s
  | .windowWWrite win x n v => Sys2Proof.Machine.execWindowWWrite win x n v s
  | .gatherIdleTimeout => Sys2Proof.Machine.execGatherIdleTimeout s
  | .flsFlush w => Sys2Proof.Machine.execFlsFlush w s
  | .flashPoll sel status gap => Sys2Proof.Machine.execFlashPoll sel status gap s
  | .flsTimeout sel => Sys2Proof.Machine.execFlsTimeout sel s
  | .windowRead win x n fetch hit gap => Sys2Proof.Machine.execWindowRead win x n fetch hit gap s
  | .eraseResume sel => Sys2Proof.Machine.execEraseResume sel s
  | .grnCommit w elapsed => Sys2Proof.Machine.execGrnCommit w elapsed s
  | .grnCommitStart => Sys2Proof.Machine.execGrnCommitStart s
  | .grnDone => Sys2Proof.Machine.execGrnDone s
  | .grnEraseAheadDone => Sys2Proof.Machine.execGrnEraseAheadDone s
  | .grnScan w => Sys2Proof.Machine.execGrnScan w s
  | .grnScanDone => Sys2Proof.Machine.execGrnScanDone s
  | .mergeIdleExpiry mem => Sys2Proof.Machine.execMergeIdleExpiry mem s
  | .eccFill w => Sys2Proof.Machine.execEccFill w s
  | .eccFillDone => Sys2Proof.Machine.execEccFillDone s
  | .eccLeakTick => Sys2Proof.Machine.execEccLeakTick s
  | .eccLarUeNotice bank => Sys2Proof.Machine.execEccLarUeNotice bank s
  | .eccInjArm w => Sys2Proof.Machine.execEccInjArm w s
  | .eccGlclr w => Sys2Proof.Machine.execEccGlclr w s
  | .eccCntclr w => Sys2Proof.Machine.execEccCntclr w s
  | .escalationWindowExpiry unit src => Sys2Proof.Machine.execEscalationWindowExpiry unit src s
  | .fallowExpiry unit queue => Sys2Proof.Machine.execFallowExpiry unit queue s
  | .fltUcmdFence w => Sys2Proof.Machine.execFltUcmdFence w s
  | .fltUcmdRelease w => Sys2Proof.Machine.execFltUcmdRelease w s
  | .fltUcmdClrcnt w => Sys2Proof.Machine.execFltUcmdClrcnt w s
  | .fltRecordClear w => Sys2Proof.Machine.execFltRecordClear w s
  | .alertPulseEnd pin => Sys2Proof.Machine.execAlertPulseEnd pin s
  | .alertDeassertEnd pin => Sys2Proof.Machine.execAlertDeassertEnd pin s
  | .altCfgWrite pin w => Sys2Proof.Machine.execAltCfgWrite pin w s
  | .bootImageSearch => Sys2Proof.Machine.execBootImageSearch s
  | .bootWarm count => Sys2Proof.Machine.execBootWarm count s
  | .bootNoImage => Sys2Proof.Machine.execBootNoImage s
  | .bootSearchRetry => Sys2Proof.Machine.execBootSearchRetry s
  | .romver => Sys2Proof.Machine.execRomver s
  | .crc32 a n init => Sys2Proof.Machine.execCrc32 a n init s
  | .sha256 a n out => Sys2Proof.Machine.execSha256 a n out s
  | .p256verify digest key sig => Sys2Proof.Machine.execP256verify digest key sig s
  | .imagecheck off => Sys2Proof.Machine.execImagecheck off s
  | .romRestart => Sys2Proof.Machine.execRomRestart s
  | .stwWdtKick => Sys2Proof.Machine.execStwWdtKick s
  | .stwWdtWarn => Sys2Proof.Machine.execStwWdtWarn s
  | .stwWdtExpiry => Sys2Proof.Machine.execStwWdtExpiry s
  | .stwRestart w => Sys2Proof.Machine.execStwRestart w s
  | .stwIcinv w => Sys2Proof.Machine.execStwIcinv w s
  | .stwIcclaimRead => Sys2Proof.Machine.execStwIcclaimRead s
  | .stwIcclaimComplete w => Sys2Proof.Machine.execStwIcclaimComplete w s
  | .stwMtimeMatch => Sys2Proof.Machine.execStwMtimeMatch s
  | .stwMbcmdGo who w => Sys2Proof.Machine.execStwMbcmdGo who w s
  | .stwMbReply who w => Sys2Proof.Machine.execStwMbReply who w s
  | .stwMbMsg who w => Sys2Proof.Machine.execStwMbMsg who w s
  | .stwMbmsgAck who w => Sys2Proof.Machine.execStwMbmsgAck who w s
  | .ident => Sys2Proof.Machine.execIdent s
  | .flasherase => Sys2Proof.Machine.execFlasherase s
  | .flashwrite => Sys2Proof.Machine.execFlashwrite s
  | .mbRestart => Sys2Proof.Machine.execMbRestart s
  | .lcsReqDeployed w => Sys2Proof.Machine.execLcsReqDeployed w s
  | .lcsReqReclaim w => Sys2Proof.Machine.execLcsReqReclaim w s
  | .lcsReqVoid w => Sys2Proof.Machine.execLcsReqVoid w s
  | .lcsReqDevelop w => Sys2Proof.Machine.execLcsReqDevelop w s
  | .blankToDevelop => Sys2Proof.Machine.execBlankToDevelop s
  | .lcsFusesBlown ok sag => Sys2Proof.Machine.execLcsFusesBlown ok sag s
  | .imgdig w => Sys2Proof.Machine.execImgdig w s
  | .unldig w => Sys2Proof.Machine.execUnldig w s
  | .kdev w => Sys2Proof.Machine.execKdev w s
  | .kprod w => Sys2Proof.Machine.execKprod w s
  | .floor w => Sys2Proof.Machine.execFloor w s
  | .lcsProgDone ok => Sys2Proof.Machine.execLcsProgDone ok s
  | .lcsDerive w => Sys2Proof.Machine.execLcsDerive w s
  | .pcieLinkUp gen => Sys2Proof.Machine.execPcieLinkUp gen s
  | .pcieConfigRequest ext => Sys2Proof.Machine.execPcieConfigRequest ext s
  | .stewardMemoryAccess mem kind a n v => Sys2Proof.Machine.execStewardMemoryAccess mem kind a n v s
  | .splitTransaction port start kind addr ep inn resp frame data => Sys2Proof.Machine.execSplitTransaction port start kind addr ep inn resp frame data s
  | .portRemoteWake port => Sys2Proof.Machine.execPortRemoteWake port s
  | .localResumeDone port => Sys2Proof.Machine.execLocalResumeDone port s
  | .hubStatusChangeIn => Sys2Proof.Machine.execHubStatusChangeIn s

end Sys2Proof.Machine
end

