-- ==== Sys2Proof/Machine/Step.lean ====
section
/-!
DEFINITION. One step of the block: the command that has waited longest takes effect; with none waiting one edge of the 24 MHz count
passes.
-/
namespace Sys2Proof.Machine

open Sys2Proof

/-- The state with command `c` at the front of the queue. -/
def State.push (s : State) (c : Instr) : State := { s with pending := c :: s.pending }

/-- One edge of the 24 MHz count: SUP_XTCOUNT and the Almanac counter go on (R16, R38, R379), and the core side of each crossing takes
what has come in whole and writes out what it has ready (R34); the machine timer may wake the steward by it (R522). (DESIGN CHOICE,
log entry 1). -/
def Dev.tick (d : Dev) : Dev := if d.coreOn then (d.edges 1).crossAll.wakeSteward else d

/-- Takes the front of the queue and runs it with the rest waiting; with none waiting time goes on. (DESIGN CHOICE, log entry 1). -/
def step (s : State) : Host.Outcome State Fault Refusal :=
  match s.pending with
  | [] => .next { s with dev := s.dev.tick }
  | c :: rest => exec c { s with pending := rest }

/-- The state with the command that a word spells at the front of its queue; unchanged where the word spells none.
 (DESIGN CHOICE, log entry 2). -/
def State.withFetchWord (s : State) (nbits w : Nat) : State :=
  match decodeTableWord nbits w with
  | some c => s.push c
  | none => s

end Sys2Proof.Machine
end

