-- ==== Sys2Proof/Machine/RegRead.lean ====
section
/-!
DEFINITION. What a read of a register returns (R6, R8, R44, R331, R560): the fields of its row, and the fields that show what stands
behind the registers. A plain read is no command of the table, so this is a view of the state; a read with a side effect is a
command of its own.
-/
namespace Sys2Proof.Machine

open Sys2Proof

/-- Places a value in the bits of a field. -/
def placed (f : Fld) (v : Nat) : Nat := v % 2 ^ f.w * 2 ^ f.lo

/-- The ports of a tenant, bit p - 1 for DSp. -/
def Dev.portMask (d : Dev) (t : Nat) : Nat := ((d.portsOf t).map fun p => 2 ^ (p - 1)).foldl (· + ·) 0

/-- Streams that tenant `t` owns. -/
def Dev.streamCount (d : Dev) (t : Nat) : Nat :=
  ((List.range 256).filter fun s => d.strBound s && d.strOwner s == t).length

/-- STW_ICPENDn: one bit per pending source. -/
def Dev.pendMask (d : Dev) (n : Nat) : Nat :=
  ((List.range 32).map fun i => if d.srcPending (32 * n + i) then 2 ^ i else 0).foldl (· + ·) 0

/-- FLT_UREC0 of unit `u` (Table 17.8). -/
def Dev.urec0 (d : Dev) (u : Nat) : Nat :=
  let r := d.urecOf u
  bitNat r.valid * 2 ^ 31 + bitNat r.multi * 2 ^ 30 + bitNat r.sev * 2 ^ 29 + bitNat r.rta * 2 ^ 28 + bitNat r.rtb * 2 ^ 27 +
    bitNat r.sticky * 2 ^ 25 + bitNat r.fenced * 2 ^ 24 + r.cause * 2 ^ 16 + r.last * 2 ^ 8 + r.merged

/-- What is left of `load` units of a timer that runs, in whole units, at the counts the device shows: a free value, since the model
holds no clock beside them. (DESIGN CHOICE, log entry 3). -/
def Dev.timeLeft (d : Dev) (timer load : Nat) : Nat := Config.timeLeft timer d.xt.count (d.get F.SUP_SECONDS_COUNT) % (load + 1)

/-- FLT_UREC1 of unit `u`; REMAIN is rounded up, so that it is not 0 while the fallow timer runs. -/
def Dev.urec1 (d : Dev) (u : Nat) : Nat :=
  let r := d.urecOf u
  bitNat r.fcsat * 2 ^ 31 + (if r.fenced && !r.sticky then 1 + d.timeLeft u (r.remain - 1) else 0) * 2 ^ 16 + r.fcnt

/-- HAY_RT for unit `i`: the distance of a unit is stated by no rule but for its own neighbours, and is a free value.
 (DESIGN CHOICE, log entry 4). -/
def Dev.hayRt (d : Dev) (i : Nat) : Nat :=
  match d.routeLane i with
  | some n => 2 ^ 31 + (Config.routeHops i n).toNat * 2 ^ 8 + n
  | none => 0

/-- What a field of the register at `base`, entry `i`, shows beside what the register fields hold; `who` is 0 for the steward, 1 for
T000. -/
def Dev.shown (d : Dev) (who base i : Nat) : Option Nat :=
  match base with
  | 0x1C18 => some (d.xt.count % 2 ^ 32)
  | 0x1C1C => some (mapGet 0 d.xt.cap who)
  | 0x3860 => some (d.gaugeBits % 2 ^ 32)
  | 0x3864 => some (placed F.CEL_GAUGEH_SAT (d.get F.CEL_GAUGEH_SAT) + mapGet 0 d.xt.gaugeCap who)
  | 0x5A08 => some d.freePool
  | 0x5A18 => some (d.charge (d.get F.LAR_USEDSEL_USEDSEL))
  | 0x8004 => some (d.readRow .bar0 R.QUE_W1 i + placed (F.QUE_W1_CELLS i) (d.qCells i))
  | 0xD004 => some (d.readRow .bar0 R.HIF_STAT 0 + placed F.HIF_STAT_TAGS d.tagsUsed)
  | 0xD010 => some d.tktFree
  | 0xD018 => some (d.held (d.get F.HIF_TKTSEL_TENANT))
  | 0xE400 => some (d.readRow .bar0 R.TEN_GSTAT i + placed (F.TEN_GSTAT_PORTS i) (d.portMask i) +
      placed (F.TEN_GSTAT_STREAMS i) (d.streamCount i))
  | 0xF104 => some (d.hayRt (d.get F.HAY_RTSEL_ID))
  | 0x10010 => some (d.almTime % 2 ^ 32)
  | 0x10014 => some (mapGet 0 d.xt.almCap who)
  | 0x10018 => some (d.almTime / 125000 % 2 ^ 32)
  | 0x15014 => some (d.urec0 (d.get F.FLT_USEL_UNIT))
  | 0x15018 => some (d.urec1 (d.get F.FLT_USEL_UNIT))
  | 0x1501C => some (d.urecOf (d.get F.FLT_USEL_UNIT)).time
  | 0x16018 => some (if d.is F.STW_WDT_EN then d.timeLeft 0x400 (d.get F.STW_WDTLEFT_MS) else d.get F.STW_WDTLEFT_MS)
  | 0x16200 => some (d.pendMask 0)
  | 0x16204 => some (d.pendMask 1)
  | 0x170A0 => if who = 0 then none else some 0
  | _ => none

/-- The same for a register of the page of tenant `t` (Table 12.9). -/
def Dev.pageShown (d : Dev) (t base : Nat) : Option Nat :=
  match base with
  | 0x0 => some t
  | 0x4 => some (d.get (F.TEN_STAT_FENCED t) * 2 ^ 31 + d.portMask t * 2 ^ 16 + d.held t)
  | 0x10 => some (d.get (F.TEN_GISO_USBPM t) * 2 ^ 16 + d.get (F.TEN_USEUSB_USED t))
  | 0x14 => some (d.get (F.TEN_GHAY_ALLOW t) * 2 ^ 16 + d.get (F.TEN_USEHAY_USED t))
  | _ => none

/-- A whole aligned word read from BAR0; a reserved offset reads 0 (Table 00.3). (DEDUCED, log entry 8). -/
def Dev.readBar0 (d : Dev) (who off : Nat) : Nat :=
  match findRow off bar0Rows with
  | none => 0
  | some (row, i) => (d.shown who row.base i).getD (d.readRow .bar0 row i)

/-- A whole aligned word read from the page of tenant `t`. (DEDUCED, log entry 8). -/
def Dev.readPage (d : Dev) (t : Fin 256) (off : Nat) : Nat :=
  match findRow off pageRows with
  | none => 0
  | some (row, i) => (d.pageShown t.val row.base).getD (d.readRow (.page t) row i)

/-- A read of `n` bytes at byte `off` of BAR0, or of a tenant's page, by requester `who`: one that is narrower than 32 bits or not aligned
returns 0 (R6). -/
def Dev.readAt (d : Dev) (who : Nat) (page : Option (Fin 256)) (off n : Nat) : Nat :=
  if n ≠ 4 ∨ off % 4 ≠ 0 then 0
  else match page with
    | none => d.readBar0 who off
    | some t => d.readPage t off

end Sys2Proof.Machine
end

