-- ==== Sys2Proof/Safety.lean ====
section
/-!
DEFINITION. The terms in which claims are stated: what holds between commands, when a command's end changes nothing more, how a
command ends, and what it leaves alone.
-/
namespace Sys2Proof.Machine

open Sys2Proof

/-- What holds between commands: nothing is left to account for; INPUT and LOWPACK show their conditions (R70, R69, Table 03.16); the
mode bits of RAT_STAT show the modes in force (R167); the power path stands as its rules hold it, so that from S4 on its switches are
open (R131, R133); and in DOZE nothing wakes the steward (R61, R522). -/
def Dev.Level (d : Dev) : Prop :=
  d.lar.due = [] ∧ d.get F.SUP_STAT_INPUT = bitNat d.inputHolds ∧ d.get F.SUP_STAT_LOWPACK = bitNat d.lowpack ∧
    d.ratModes = d ∧ d.pathLevel = d.pack ∧ (d.stewardWake = true → d.pow.state ≠ .doze)

/-- Nothing happens by itself at the end of a command: what holds between commands holds, and no shutdown stage or abort is waiting. -/
def Dev.Calm (d : Dev) : Prop :=
  d.Level ∧ d.get F.SUP_STAT_STAGE ≠ 2 ∧ d.pow.aborting = none ∧ d.pow.abortWait = false

/-- The command ends in a next state: its own effect leaves the device as some `d` of which `P` holds, and the next state's device is
that one after what the command leaves to its end is accounted for. The queue is as it was. -/
def Ends (s : State) (o : Out') (P : Dev → Prop) : Prop := ∃ d : Dev, o = .next { s with dev := d.settle } ∧ P d

/-- The register fields in which an event entry that finds no room, or a cell that cannot be taken, is counted (R254, R276), and those
of an armed injection (R467), are not this one. -/
def PlainFld (g : Fld) : Prop :=
  (∀ q, fldId (F.QUE_W2_LOST q) ≠ fldId g ∧ fldId (F.QUE_W1_LOSTSAT q) ≠ fldId g) ∧
    fldId F.LAR_LEAK_COUNT ≠ fldId g ∧ fldId F.ECC_INJ_COUNT ≠ fldId g ∧ fldId F.ECC_INJ_ARM ≠ fldId g

/-- From `d` to `e` only the register fields listed have changed. -/
def Dev.Only (d e : Dev) (fs : List Fld) : Prop :=
  e = { d with fld := e.fld } ∧ ∀ g : Fld, (∀ f ∈ fs, fldId f ≠ fldId g) → e.get g = d.get g

/-- From `d` to `e` only the register fields listed, and what queueing event entries changes, have changed. -/
def Dev.Told (d e : Dev) (fs : List Fld) : Prop :=
  e = { d with fld := e.fld, lar := e.lar } ∧
    ∀ g : Fld, PlainFld g → (∀ f ∈ fs, fldId f ≠ fldId g) → e.get g = d.get g

end Sys2Proof.Machine
end

