-- ==== Sys2Proof/Certificates/Slice0/Obligations.lean ====
section
/-!
DEFINITION. The statements for the provers, chapter by chapter.
-/
open Sys2Proof Sys2Proof.Machine

/-! ### The block as a whole -/

/-- A step with a command at the front of the queue is that command with the queue's rest. -/
def Obligations.StepRunsFront : Prop :=
  ∀ (c : Instr) (s : State), step { s with pending := c :: s.pending } = exec c s

/-- With nothing waiting one edge of the 24 MHz count passes while the core is released, and nothing happens otherwise (the model's choice,
log entry 1): SUP_XTCOUNT counts it, the Almanac counter goes on at its rate unless it is paused, every crossing's inbound buffer is
read empty, the machine timer may end DOZE, and nothing else changes. -/
def EmptyQueueTicksRule : Prop :=
  ∀ s : State, s.pending = [] →
    (s.dev.coreOn = false → step s = .next s) ∧
    (s.dev.coreOn = true → ∃ e : Dev, step s = .next { s with dev := e } ∧
      e = { s.dev with xt := e.xt, almCnt := e.almCnt, cross := e.cross, pow := e.pow } ∧
      e.xt = { s.dev.xt with count := (s.dev.xt.count + 1) % 2 ^ 64 } ∧
      e.almCnt = (if s.dev.is F.ALM_STAT_PAUSED then s.dev.almCnt else s.dev.almCnt + s.dev.alm.inc) ∧
      (∀ n < 26, ∀ slack, (e.crossing n).inn.ready n slack = false) ∧
      e.pow = (if e.stewardWake = true ∧ s.dev.pow.state = .doze then { s.dev.pow with state := .run } else s.dev.pow))

/-- The table gives no row any bits: no word spells a command, and a placed word leaves the state alone (log entry 2). -/
def NoWordSpellsACommandRule : Prop :=
  ∀ (s : State) (nbits w : Nat), decodeTableWord nbits w = none ∧ s.withFetchWord nbits w = s

/-- With nothing waiting one edge of the 24 MHz count passes while the core is released, and nothing happens otherwise (the model's choice,
log entry 1): SUP_XTCOUNT counts it, the Almanac counter goes on at its rate unless it is paused, every crossing's inbound buffer is
read empty, the machine timer may end DOZE, and nothing else changes.

The table gives no row any bits: no word spells a command, and a placed word leaves the state alone (log entry 2). -/
def Obligations.Idle : Prop :=
  EmptyQueueTicksRule ∧ NoWordSpellsACommandRule

/-- Every command ends in a next state in every state, with the queue as it was and nothing left to account for where nothing was. Where the spec leaves a reading open this follows the model's own: log entry 3. -/
def Obligations.EveryCommandCompletes : Prop :=
  ∀ (c : Instr) (s : State), s.dev.lar.due = [] → ∃ t, exec c s = .next t ∧ t.pending = s.pending ∧ t.dev.lar.due = []

/-- Until start-up has ended no register write is accepted, and no command but those of supply, reset, start-up, crystal and wake has
an effect (R29, Table 03.2).
Where the spec leaves a reading open this follows the model's own: log entry 17. -/
def Obligations.NothingBeforeRelease : Prop :=
  ∀ (c : Instr) (s : State), s.dev.up = false →
    (match c with
      | .por | .supplyReset | .dormantSupplyReset | .resetNAssert .. | .resetReleaseHoldEnd .. | .railsGood | .railGoodTimeout
      | .railFailure | .checkerSelfTest .. | .startupWipeDone | .wake .. | .secondsTick .. | .dischargeHoldEnd .. | .inputPresent ..
      | .supWarn | .supWarnClear | .supPhyHold | .supPhyRelease .. | .xt24Lost | .xt24Back .. | .xt24Qualified
      | .xt24QualifyTimeout | .xt32Lost | .xt32Back | .paceWindowEnd .. | .pcieConfigRequest .. => True
      | _ => exec c s = .next s)

/-- What holds between commands is kept by every step, from every state: nothing is left to account for; INPUT and LOWPACK show their
conditions (R70, R69); the mode bits of RAT_STAT show the modes in force (R167); the switches and set-points of the power path stand as
their rules hold them, open from S4 on (R131, R133, R135); and in DOZE nothing wakes the steward (R61, R522).
Where the spec leaves a reading open this follows the model's own: log entries 9, 20, 75. -/
def Obligations.StepKeepsLevel : Prop :=
  ∀ s t : State, s.dev.Level → step s = .next t → t.dev.Level

/-- It holds at reset. -/
def Obligations.ResetIsLevel : Prop := State.reset.dev.Level ∧ State.reset.pending = []

/-! ### Register writes (chapter 01) -/

/-- The four fields of GLB_CFGERR. -/
def glbCfgerrFlds : List Fld := [F.GLB_CFGERR_VALID, F.GLB_CFGERR_MULTI, F.GLB_CFGERR_OFFSET, F.GLB_CFGERR_CODE]

/-- A rejected BAR0 access is recorded in GLB_CFGERR alone: the first with its offset and status, a later one as MULTI (R9). -/
def RecordedGlb (d e : Dev) (off : Nat) (st : Status) : Prop :=
  d.Only e glbCfgerrFlds ∧
    (if d.is F.GLB_CFGERR_VALID then e.get F.GLB_CFGERR_MULTI = 1 ∧ d.Only e [F.GLB_CFGERR_MULTI]
     else e.get F.GLB_CFGERR_VALID = 1 ∧ e.get F.GLB_CFGERR_OFFSET = off % 2 ^ 17 ∧ e.get F.GLB_CFGERR_CODE = statusCode st)

/-- The four fields of TEN_CFGERR of tenant `t`. -/
def tenCfgerrFlds (t : Nat) : List Fld := [F.TEN_CFGERR_VALID t, F.TEN_CFGERR_MULTI t, F.TEN_CFGERR_OFFSET t, F.TEN_CFGERR_CODE t]

/-- A page register write that tenant `t` made is rejected: recorded in its TEN_CFGERR, and its fault source 34 (R355). -/
def RecordedTen (d e : Dev) (t off : Nat) (st : Status) : Prop :=
  ∃ x : Dev, e = x.fault t 34 ∧ d.Only x (tenCfgerrFlds t) ∧
    (if d.is (F.TEN_CFGERR_VALID t) then x.get (F.TEN_CFGERR_MULTI t) = 1 ∧ d.Only x [F.TEN_CFGERR_MULTI t]
     else x.get (F.TEN_CFGERR_VALID t) = 1 ∧ x.get (F.TEN_CFGERR_OFFSET t) = off % 2 ^ 17 ∧ x.get (F.TEN_CFGERR_CODE t) = statusCode st)

/-- REGISTER_WRITE to BAR0: an access of another size or off a word boundary, and one of a reserved offset, change no register but the
record of the rejection; a write of a read-only register changes nothing; any other is checked whole and then either rejected and
recorded, with the first status in the order of R328, or applied; over PCI Express it ends DOZE (R6 to R9, R61). -/
def RegisterWriteBar0Rule : Prop :=
  ∀ (s : State) (who : Fin 2) (off : BitVec 17) (n : Fin 5) (w : Word), s.dev.up = true → s.dev.reaches who.val none = true →
    let d := s.dev.accessBy who.val
    Ends s (exec (.registerWrite who none off n w) s) fun e =>
      if n.val ≠ 4 ∨ off.toNat % 4 ≠ 0 then RecordedGlb d e off.toNat .eAlign
      else match findRow off.toNat bar0Rows with
        | none => RecordedGlb d e off.toNat (reservedStatus off.toNat)
        | some (row, i) =>
          if allRo row then e = d
          else match d.ownWriter who.val row.base i w with
            | some x => e = x
            | none =>
              let r := d.writeRule row.base i w
              let st := firstByRank ((setsReserved row w, .eField) :: (d.changesLocked .bar0 row i w, .eLocked) :: r.1)
              if st = .done then e = r.2 (d.writeRow .bar0 row i w)
              else RecordedGlb d e (row.base + row.stride * i) st

/-- REGISTER_WRITE to the page of a tenant that exists and is not being reset: the same, with the record in its TEN_CFGERR (R6 to R9,
R355). -/
def RegisterWritePageRule : Prop :=
  ∀ (s : State) (who : Fin 2) (t : Fin 256) (off : BitVec 17) (n : Fin 5) (w : Word), s.dev.up = true →
    s.dev.reaches who.val (some t) = true → s.dev.tenantExists t.val = true → s.dev.flrBusy t.val = false →
    let d := (s.dev.accessBy who.val).pageRouse t.val
    let x := off.toNat % 0x2000
    Ends s (exec (.registerWrite who (some t) off n w) s) fun e =>
      if n.val ≠ 4 ∨ x % 4 ≠ 0 then RecordedTen d e t.val x .eAlign
      else match findRow x pageRows with
        | none => RecordedTen d e t.val x .eField
        | some (row, i) =>
          if allRo row then e = s.dev.accessBy who.val
          else match (s.dev.accessBy who.val).ownPageWriter t.val row.base i w with
            | some y => e = y
            | none =>
              let st := firstByRank ((setsReserved row w, .eField) :: (d.changesLocked (.page t) row i w, .eLocked) ::
                d.pageRule t.val row.base i w)
              if st = .done then e = d.writeRow (.page t) row i w else RecordedTen d e t.val (row.base + row.stride * i) st

/-- CFGERR_CLEAR: writing 1 to VALID of GLB_CFGERR, or of a tenant's TEN_CFGERR, clears the whole register; setting any other bit is
rejected whole with E_FIELD, recorded, and clears nothing (R31). -/
def CfgerrClearRule : Prop :=
  ∀ (s : State) (w : Word), s.dev.up = true →
    (Ends s (exec (.cfgerrClear none w) s) fun e =>
      if w.toNat % 2 ^ 31 = 0 then s.dev.Only e glbCfgerrFlds ∧ ∀ f ∈ glbCfgerrFlds, e.get f = 0
      else RecordedGlb s.dev e 0x20 .eField) ∧
    (∀ t : Fin 256, s.dev.tenantExists t.val = true → s.dev.flrBusy t.val = false →
      Ends s (exec (.cfgerrClear (some t) w) s) fun e =>
        if w.toNat % 2 ^ 31 = 0 then (s.dev.pageRouse t.val).Only e (tenCfgerrFlds t.val) ∧ ∀ f ∈ tenCfgerrFlds t.val, e.get f = 0
        else RecordedTen (s.dev.pageRouse t.val) e t.val 0x8 .eField)

/-- REGISTER_WRITE to BAR0: an access of another size or off a word boundary, and one of a reserved offset, change no register but the
record of the rejection; a write of a read-only register changes nothing; any other is checked whole and then either rejected and
recorded, with the first status in the order of R328, or applied; over PCI Express it ends DOZE (R6 to R9, R61).

REGISTER_WRITE to the page of a tenant that exists and is not being reset: the same, with the record in its TEN_CFGERR (R6 to R9,
R355).

CFGERR_CLEAR: writing 1 to VALID of GLB_CFGERR, or of a tenant's TEN_CFGERR, clears the whole register; setting any other bit is
rejected whole with E_FIELD, recorded, and clears nothing (R31).
Where the spec leaves a reading open this follows the model's own: log entries 10, 11. -/
def Obligations.RegisterWrites : Prop :=
  RegisterWriteBar0Rule ∧ RegisterWritePageRule ∧ CfgerrClearRule

/-- GLB_CTRL_LOCK, PCIE_LINK_UP and PCIE_CONFIG_REQUEST: LOCK fixes the host that the write selects; a second write cannot change it;
the link comes up at its speed; a configuration request is served only after LOCK with T0HOST 0, is answered with Configuration Request
Retry Status before, ends DOZE, and is not answered while the PHY is held (R18, R19, R61, R67, R303).
Where the spec leaves a reading open this follows the model's own: log entries 47, 49. -/
def Obligations.HostAndLink : Prop :=
  ∀ s : State, s.dev.up = true →
    (∀ w : Word, w.toNat < 4 → s.dev.code = 1 → s.dev.get F.GLB_CTRL_LOCK = 0 →
      Ends s (exec (.glbCtrlLock w) s) fun e => e.get F.GLB_CTRL_LOCK = 1 ∧ e.get F.GLB_CTRL_T0HOST = bits w.toNat 1 1 ∧
        s.dev.Told e [F.GLB_CTRL_LOCK, F.GLB_CTRL_T0HOST, F.HIF_STAT_LINKUP, F.HIF_STAT_EXTTAG]) ∧
    (∀ w : Word, w.toNat < 4 → s.dev.code = 1 → s.dev.get F.GLB_CTRL_LOCK = 1 → bits w.toNat 1 1 ≠ s.dev.get F.GLB_CTRL_T0HOST →
      Ends s (exec (.glbCtrlLock w) s) fun e => RecordedGlb s.dev e 0x10 .eLocked) ∧
    (∀ gen : Fin 3, s.dev.endpoint = true → s.dev.pcieHeld = false →
      Ends s (exec (.pcieLinkUp gen) s) fun e => e.get F.HIF_STAT_LINKUP = 1 ∧ e.get F.HIF_STAT_SPEED = gen.val + 1 ∧
        s.dev.Only e [F.HIF_STAT_LINKUP, F.HIF_STAT_SPEED]) ∧
    (∀ b : Option Bool, s.dev.endpoint = true → s.dev.pcieHeld = false →
      Ends s (exec (.pcieConfigRequest b) s) fun e =>
        if s.dev.cfgServed then ∃ x : Dev, e = x.emit .cfgReply 0 [1] [] ∧
          match b with
          | some v => x.get F.HIF_STAT_EXTTAG = bitNat v ∧ s.dev.rouse.Only x [F.HIF_STAT_EXTTAG]
          | none => x = s.dev.rouse
        else e = s.dev.rouse.emit .cfgReply 0 [0] []) ∧
    (∀ b : Option Bool, s.dev.pcieHeld = true → Ends s (exec (.pcieConfigRequest b) s) fun e => e = s.dev)

/-! ### Crossings, crystals and pace (chapter 02) -/

/-- A write of SUP_XCLR: bit n, for n from 0 to 25, clears both fields of SUP_XDROPn; a write that sets any of bits 31:26 is rejected with
E_FIELD. No other field changes (R57). -/
def Obligations.XclrClears : Prop :=
  ∀ (s : State) (w : Word), s.dev.up = true →
    (w.toNat < 2 ^ 26 → Ends s (exec (.supXclr w) s) fun e => s.dev.Only e ((List.range 26).flatMap fun n => [F.SUP_XDROP_IN n, F.SUP_XDROP_OUT n]) ∧
      ∀ n < 26, (bitOf w.toNat n = true → e.get (F.SUP_XDROP_IN n) = 0 ∧ e.get (F.SUP_XDROP_OUT n) = 0) ∧
        (bitOf w.toNat n = false → e.get (F.SUP_XDROP_IN n) = s.dev.get (F.SUP_XDROP_IN n) ∧
          e.get (F.SUP_XDROP_OUT n) = s.dev.get (F.SUP_XDROP_OUT n))) ∧
    (2 ^ 26 ≤ w.toNat → Ends s (exec (.supXclr w) s) fun e => RecordedGlb s.dev e 0x1C30 .eField)

/-- The counts are read as R44 says: a read of the low word returns it and captures the upper word for that requester alone, and the
later read of the upper word returns that copy; the count never goes back. No register field changes. -/
def CountCapturesRule : Prop :=
  ∀ (s : State) (who : Fin 2), s.dev.up = true →
    (∀ c : Word64, s.dev.xt.count < 2 ^ 64 → Ends s (exec (.xtcountCaptureRead who c) s) fun e =>
      e.xt.count = max s.dev.xt.count c.toNat ∧ e.readBar0 who.val 0x1C1C = e.xt.count / 2 ^ 32 ∧
      e.out = ⟨.readData, who.val, [e.xt.count % 2 ^ 32], []⟩ :: s.dev.out ∧ (∀ g, e.get g = s.dev.get g) ∧
      ∀ o : Nat, o ≠ who.val → mapGet 0 e.xt.cap o = mapGet 0 s.dev.xt.cap o) ∧
    (Ends s (exec (.almTimeCaptureRead who) s) fun e =>
      e.almTime = s.dev.almTime ∧ e.readBar0 who.val 0x10014 = s.dev.almTime / 2 ^ 32 ∧
      e.out = ⟨.readData, who.val, [s.dev.almTime % 2 ^ 32], []⟩ :: s.dev.out ∧ (∀ g, e.get g = s.dev.get g) ∧
      ∀ o : Nat, o ≠ who.val → mapGet 0 e.xt.almCap o = mapGet 0 s.dev.xt.almCap o) ∧
    (Ends s (exec (.gaugeCaptureRead who) s) fun e =>
      e.pack = s.dev.pack ∧ mapGet 0 e.xt.gaugeCap who.val = s.dev.gaugeBits / 2 ^ 32 ∧
      e.out = ⟨.readData, who.val, [s.dev.gaugeBits % 2 ^ 32], []⟩ :: s.dev.out ∧ (∀ g, e.get g = s.dev.get g) ∧
      ∀ o : Nat, o ≠ who.val → mapGet 0 e.xt.gaugeCap o = mapGet 0 s.dev.xt.gaugeCap o)

/-- A later read of the upper word of the 24 MHz count returns the requester's copy, and 0 where no read of the low word by it came before
(R44). -/
def UncapturedReadsZeroRule : Prop :=
  ∀ (d : Dev) (who : Fin 2), d.readBar0 who.val 0x1C1C = mapGet 0 d.xt.cap who.val ∧
    (mapFind d.xt.cap who.val = none → d.readBar0 who.val 0x1C1C = 0)

/-- The counts are read as R44 says: a read of the low word returns it and captures the upper word for that requester alone, and the
later read of the upper word returns that copy; the count never goes back. No register field changes.

A later read of the upper word of the 24 MHz count returns the requester's copy, and 0 where no read of the low word by it came before
(R44). -/
def Obligations.CountCaptures : Prop :=
  CountCapturesRule ∧ UncapturedReadsZeroRule

/-- An inbound item goes in whole where there is room for it, and is otherwise dropped whole, counted once, saturating, and reported as
fault source 22 of its unit. At a boundary the transmitter, once the core has written out what it put out, sends the oldest whole item,
unless its PHY is held; with none ready it counts once, saturating, reports the same source and sends idle symbols or zeros
(R34, R47, R48, R67, R496). -/
def CrossingsRule : Prop :=
  ∀ (s : State) (n : Fin 26) (slack : Fin 3), s.dev.up = true →
    (∀ len : Nat, Ends s (exec (.crossingInbound n len slack) s) fun e =>
      let x := s.dev.crossing n.val
      if x.inn.roomFor n.val true slack len = true then e = s.dev.setCrossing n.val { x with inn := x.inn.put n.val len }
      else ∃ y : Dev, e = y.crossingFault n.val ∧
        y.get (F.SUP_XDROP_IN n.val) = satInc 0xFFFF (s.dev.get (F.SUP_XDROP_IN n.val)) % 0x10000 ∧ s.dev.Only y [F.SUP_XDROP_IN n.val]) ∧
    (Ends s (exec (.crossingTxBoundary n slack) s) fun e =>
      let d1 := s.dev.feedCrossing n.val
      let x := d1.crossing n.val
      if x.out.ready n.val slack = true then
        e = if d1.crossingHeld n.val then d1 else d1.setCrossing n.val { x with out := x.out.take n.val }
      else ∃ y : Dev, e = (y.crossingFault n.val).sendNothing n.val ∧
        y.get (F.SUP_XDROP_OUT n.val) = satInc 0xFFFF (s.dev.get (F.SUP_XDROP_OUT n.val)) % 0x10000 ∧ d1.Only y [F.SUP_XDROP_OUT n.val])

/-- What the buffers do: an item put into a FIFO that has room for it leaves the FIFO at its depth or below, whatever the slack of the
full flag, and takes its own entries alone; nothing is ready in an empty FIFO, and taking the oldest item frees its entries. A bank
filled by its writer passes to the reader, the other bank keeping its owner; a bank drained passes back (R34, R35, R43). -/
def BuffersRule : Prop :=
  ∀ (n : Fin 26) (x : CrossDir) (slack : Fin 3),
    (∀ (inn : Bool) (len : Nat), pingPong n.val = false → x.roomFor n.val inn slack len = true →
      (x.put n.val len).fill = x.fill + entriesOf n.val len ∧ (x.put n.val len).fill ≤ fifoDepth n.val inn ∧
      x.fullFlag n.val inn slack = false) ∧
    (pingPong n.val = false → x.ready n.val slack = true → x.emptyFlag slack = false ∧
      ∃ k t, x.fifo = k :: t ∧ (x.take n.val).fifo = t ∧ x.fill = k + (x.take n.val).fill) ∧
    (∀ (inn : Bool) (len : Nat), pingPong n.val = true → x.roomFor n.val inn slack len = true →
      (x.bank x.wnext).ofReader = false ∧ ((x.put n.val len).bank x.wnext).ofReader = true ∧
      (x.put n.val len).bank (!x.wnext) = x.bank (!x.wnext) ∧ len ≤ bankBytes n.val) ∧
    (pingPong n.val = true → x.ready n.val slack = true → (x.bank x.rnext).ofReader = true ∧
      ((x.take n.val).bank x.rnext).ofReader = false ∧ (x.take n.val).bank (!x.rnext) = x.bank (!x.rnext))

/-- At the end of a pace window NOW holds its laps, at most 0xFFF, and MIN the least; the runs of windows below FLOOR and at FLOOR + 16
or above go on or start again; SUP_PACE_LOW is raised, once, where the window completes RUN low windows in a row and EN is 1, and may be
raised again after RUN high ones. A write with MINCLR sets MIN to 0xFFF and writes EN, RUN and FLOOR; where it changes one of these both
runs start again. Nothing else changes (R41, R46, R56, R583). -/
def PaceRule : Prop :=
  ∀ s : State,
    (∀ laps : BitVec 16, s.dev.coreOn = true → Ends s (exec (.paceWindowEnd laps) s) fun e =>
      let n := min laps.toNat 0xFFF
      let run := s.dev.get F.SUP_PACECFG_RUN
      let low := if n < s.dev.get F.SUP_PACECFG_FLOOR then satInc 15 s.dev.xt.lowRun else 0
      let high := if s.dev.get F.SUP_PACECFG_FLOOR + 16 ≤ n then satInc 15 s.dev.xt.highRun else 0
      let fires := s.dev.xt.armed = true ∧ run ≤ low ∧ s.dev.is F.SUP_PACECFG_EN = true
      ∃ x : Dev, x.get F.SUP_PACE_NOW = n ∧ x.get F.SUP_PACE_MIN = min n (s.dev.get F.SUP_PACE_MIN) % 0x1000 ∧
        ({ s.dev with xt := x.xt } : Dev).Only x [F.SUP_PACE_NOW, F.SUP_PACE_MIN] ∧
        (fires → x.xt = { s.dev.xt with lowRun := low, highRun := high, armed := false } ∧ e = x.supEvent 8 [0] 0 0) ∧
        (¬ fires → x.xt = { s.dev.xt with lowRun := low, highRun := high, armed := s.dev.xt.armed || decide (run ≤ high) } ∧ e = x)) ∧
    (∀ w : Word, s.dev.up = true → setsReserved R.SUP_PACECFG (withBit w 31) = false → bits w.toNat 12 4 ≠ 0 →
      Ends s (exec (.paceMinclr w) s) fun e =>
        e.get F.SUP_PACE_MIN = 0xFFF ∧ e.get F.SUP_PACECFG_EN = bits w.toNat 16 1 ∧ e.get F.SUP_PACECFG_RUN = bits w.toNat 12 4 ∧
        e.get F.SUP_PACECFG_FLOOR = bits w.toNat 0 12 ∧
        ({ s.dev with xt := e.xt } : Dev).Only e [F.SUP_PACE_MIN, F.SUP_PACECFG_EN, F.SUP_PACECFG_RUN, F.SUP_PACECFG_FLOOR, F.SUP_PACECFG_MINCLR] ∧
        e.xt = if bits w.toNat 16 1 = s.dev.get F.SUP_PACECFG_EN ∧ bits w.toNat 12 4 = s.dev.get F.SUP_PACECFG_RUN ∧
            bits w.toNat 0 12 = s.dev.get F.SUP_PACECFG_FLOOR then s.dev.xt else { s.dev.xt with lowRun := 0, highRun := 0 })

/-- An inbound item goes in whole where there is room for it, and is otherwise dropped whole, counted once, saturating, and reported as
fault source 22 of its unit. At a boundary the transmitter, once the core has written out what it put out, sends the oldest whole item,
unless its PHY is held; with none ready it counts once, saturating, reports the same source and sends idle symbols or zeros
(R34, R47, R48, R67, R496).

What the buffers do: an item put into a FIFO that has room for it leaves the FIFO at its depth or below, whatever the slack of the
full flag, and takes its own entries alone; nothing is ready in an empty FIFO, and taking the oldest item frees its entries. A bank
filled by its writer passes to the reader, the other bank keeping its owner; a bank drained passes back (R34, R35, R43).

At the end of a pace window NOW holds its laps, at most 0xFFF, and MIN the least; the runs of windows below FLOOR and at FLOOR + 16
or above go on or start again; SUP_PACE_LOW is raised, once, where the window completes RUN low windows in a row and EN is 1, and may be
raised again after RUN high ones. A write with MINCLR sets MIN to 0xFFF and writes EN, RUN and FLOOR; where it changes one of these both
runs start again. Nothing else changes (R41, R46, R56, R583).
Where the spec leaves a reading open this follows the model's own: log entries 14, 16, 74. -/
def Obligations.CrossingsAndPace : Prop :=
  CrossingsRule ∧ BuffersRule ∧ PaceRule

/-- Loss and return of the crystals: on loss of the 24 MHz crystal BACKUP and XT24LOST are set, XT24OK falls, the lanes and the PLL are
held and the Almanac is in HOLDOVER; once it is good again BACKUP falls and XT24OK is set, with SUP_XT24_BACK only after a loss, and what
the PHY hold kept waiting goes on; a late qualification counts as a loss; loss of the 32.768 kHz crystal sets XT32LOST and moves the slow
count to the 24 MHz count, its return moves it back unless SLOWSRC is 1 and leaves XT32LOST. Each does nothing where what it reports is
so already (R49 to R51, R53 to R55, R393).
Where the spec leaves a reading open this follows the model's own: log entry 15. -/
def Obligations.Crystals : Prop :=
  ∀ s : State, s.dev.coreOn = true →
    (s.dev.is F.SUP_XTSTAT_BACKUP = false → Ends s (exec .xt24Lost s) fun e => ∃ x y : Dev,
      e = y.supEvent 6 s.dev.tenants 0 0 ∧ y.get F.ALM_STAT_HOLDOVER = 1 ∧ ((x.holdLanes.pllHold).setClass 1).Only y [F.ALM_STAT_HOLDOVER] ∧
      x.get F.SUP_XTSTAT_BACKUP = 1 ∧ x.get F.SUP_XTSTAT_XT24LOST = 1 ∧ x.get F.SUP_XTSTAT_XT24OK = 0 ∧
      ({ s.dev with xt := { s.dev.xt with lost24 := true } } : Dev).Only x [F.SUP_XTSTAT_BACKUP, F.SUP_XTSTAT_XT24LOST, F.SUP_XTSTAT_XT24OK]) ∧
    (s.dev.is F.SUP_XTSTAT_BACKUP = true → Ends s (exec .xt24Lost s) fun e => e = s.dev) ∧
    (∀ long : Bool, s.dev.is F.SUP_XTSTAT_BACKUP = true → s.dev.xt.lost24 = true → Ends s (exec (.xt24Back long) s) fun e => ∃ x y : Dev,
      e = y.supEvent 7 s.dev.tenants 0 0 ∧ x.get F.SUP_XTSTAT_BACKUP = 0 ∧ x.get F.SUP_XTSTAT_XT24OK = 1 ∧
      ({ s.dev with xt := { s.dev.xt with lost24 := false } } : Dev).Only x [F.SUP_XTSTAT_BACKUP, F.SUP_XTSTAT_XT24OK] ∧
      y = let z := (x.setClass 0).pllStart; if z.phyHeld then z else (z.lheAfterHold long).pdAfterHold) ∧
    (∀ long : Bool, s.dev.is F.SUP_XTSTAT_BACKUP = false ∨ s.dev.xt.lost24 = false → Ends s (exec (.xt24Back long) s) fun e => e = s.dev) ∧
    (s.dev.is F.SUP_XTSTAT_BACKUP = true → s.dev.xt.lost24 = false → Ends s (exec .xt24Qualified s) fun e => ∃ x : Dev,
      x.get F.SUP_XTSTAT_BACKUP = 0 ∧ x.get F.SUP_XTSTAT_XT24OK = 1 ∧ s.dev.Only x [F.SUP_XTSTAT_BACKUP, F.SUP_XTSTAT_XT24OK] ∧
      e = let z := (x.setClass 0).pllStart; if z.phyHeld then z else z.pdAfterHold) ∧
    (s.dev.is F.SUP_XTSTAT_BACKUP = true → s.dev.xt.lost24 = false → Ends s (exec .xt24QualifyTimeout s) fun e => ∃ x : Dev,
      e = x.supEvent 6 s.dev.tenants 0 0 ∧ x.get F.SUP_XTSTAT_XT24LOST = 1 ∧
      ({ s.dev with xt := { s.dev.xt with lost24 := true } } : Dev).Only x [F.SUP_XTSTAT_XT24LOST]) ∧
    (s.dev.is F.SUP_XTSTAT_BACKUP = false ∨ s.dev.xt.lost24 = true → Ends s (exec .xt24QualifyTimeout s) fun e => e = s.dev) ∧
    (s.dev.is F.SUP_XTSTAT_XT32OK = true → Ends s (exec .xt32Lost s) fun e => ∃ x : Dev,
      e = x.supEvent 9 [0] 0 0 ∧ x.get F.SUP_XTSTAT_XT32OK = 0 ∧ x.get F.SUP_XTSTAT_XT32LOST = 1 ∧
      ({ s.dev with xt := { s.dev.xt with lost32 := true, slowOn24 := true } } : Dev).Only x [F.SUP_XTSTAT_XT32OK, F.SUP_XTSTAT_XT32LOST]) ∧
    (s.dev.is F.SUP_XTSTAT_XT32OK = false → Ends s (exec .xt32Lost s) fun e => e = s.dev) ∧
    (s.dev.is F.SUP_XTSTAT_XT32OK = false → Ends s (exec .xt32Back s) fun e => ∃ x : Dev,
      e = (if s.dev.xt.lost32 then x.supEvent 10 [0] 0 0 else x) ∧ x.get F.SUP_XTSTAT_XT32OK = 1 ∧
      ({ s.dev with xt := { s.dev.xt with lost32 := false, slowOn24 := s.dev.is F.SUP_XTCFG_SLOWSRC } } : Dev).Only x [F.SUP_XTSTAT_XT32OK]) ∧
    (s.dev.is F.SUP_XTSTAT_XT32OK = true → Ends s (exec .xt32Back s) fun e => e = s.dev)

/-! ### Power, resets and shutdown (chapter 03) -/

/-- The fields that show the fuses, which no reset changes (Tables 01.8 and 19.8). -/
def fuseShown : List Fld :=
  [F.GLB_ID_CODE, F.GLB_CTRL_T0HOST, F.LCS_STAT_UNLDIG, F.LCS_STAT_KPROD, F.LCS_STAT_KDEV, F.LCS_STAT_IMGDIG, F.LCS_STAT_DEBUG,
   F.LCS_STAT_CYCLE, F.LCS_STAT_STATE, F.LCS_UIDL_UID, F.LCS_UIDH_UID, F.LCS_FLOOR_FLOOR, F.LCS_FLOORCNT_USED]

/-- A reset from `d`, with `causes` set in SUP_RSTCAUSE and the power-life state `p`: every other register field of every block is at its
reset value, but those that show the fuses and, where `keep`, those of the always-on registers; all state behind the registers is at
reset. The fuses stay unless a blowing of fuses is cut off, and the flashes unless a program or an erase is (R76 to R78, R529, R540,
Table 03.6). -/
def AfterReset (d e : Dev) (keep : Bool) (causes : List Fld) (p : Pow) : Prop :=
  e = { fld := e.fld, code := d.code, out := d.out, free := e.free, flash := e.flash, fuse := e.fuse, pow := p,
        cross := { base := d.out.length }, rat := { quiet := keep } } ∧
    (∀ f ∈ causes, e.get f = 1) ∧
    (∀ g : Fld, (∀ f ∈ causes ++ fuseShown, fldId f ≠ fldId g) → e.get g = if keep && alwaysOn (fldId g) then d.get g else g.rst) ∧
    (d.key.trans = none → d.key.prog = none → e.fuse = d.fuse) ∧
    ((∀ j ∈ d.fls.jobs, j.started = false) → e.flash = d.flash)

/-- Reset is released in `x`: WARN is evaluated as a level, `sag` saying that VIN_SYS is below 3.20 V (R80). -/
def Released (x e : Dev) (sag : Bool) : Prop :=
  if sag = true ∧ x.is F.SUP_STAT_WARN = false then
    ∃ y : Dev, e = ((y.supEvent 0 x.tenants 0 0).fault 0x240 51).ratTrip ∧ y.get F.SUP_STAT_WARN = 1 ∧ x.Only y [F.SUP_STAT_WARN]
  else e = x

/-- A wake from `d`: a supply reset with WAKE, and start-up step 2 with RAIL_EN high (R62, R65, R58). -/
def Woken (d e : Dev) (sag : Bool) : Prop :=
  ∃ x : Dev, Released x e sag ∧
    AfterReset d x true [F.SUP_RSTCAUSE_WAKE] { railFault := d.pow.railFault, state := .railUp, railEn := true }

/-- The resets: POR restores every register; a fall below the reset threshold, RESET_N, and rails that do not come or fail, restore
all but the always-on ones, each with its cause and the power state it leaves; a fall while dormant leaves the rails off and forgets
what fired; RESET_N evaluates WARN at its release and is ignored without the rails' domain; after a rail failure the part is DORMANT with
RAIL_EN low, in the discharge hold, waiting for a new firing (R58, R65, R76 to R78, R80, R88, R566, R567, R584). -/
def ResetsRule : Prop :=
  ∀ s : State,
    (Ends s (exec .por s) fun e => AfterReset s.dev e false [] {}) ∧
    (s.dev.power ∉ [.off, .dormant, .dormantTime, .heldDormant] → Ends s (exec .supplyReset s) fun e =>
      AfterReset s.dev e true [F.SUP_RSTCAUSE_SUPPLY] { railFault := s.dev.pow.railFault }) ∧
    (s.dev.power = .off → Ends s (exec .supplyReset s) fun e => e = s.dev) ∧
    (∀ c ∈ [Instr.supplyReset, .dormantSupplyReset], s.dev.power ∈ [.dormant, .dormantTime, .heldDormant] → Ends s (exec c s) fun e =>
      AfterReset s.dev e true [F.SUP_RSTCAUSE_SUPPLY]
        { railFault := s.dev.pow.railFault, state := .heldDormant, discharge := s.dev.pow.discharge }) ∧
    (s.dev.power ∉ [.dormant, .dormantTime, .heldDormant] → Ends s (exec .dormantSupplyReset s) fun e => e = s.dev) ∧
    (∀ sag : Bool, s.dev.power ∉ [.off, .dormant, .dormantTime, .heldDormant, .held] → Ends s (exec (.resetNAssert sag) s) fun e =>
      ∃ x : Dev, Released x e sag ∧
        AfterReset s.dev x true [F.SUP_RSTCAUSE_RESETN] { railFault := s.dev.pow.railFault, state := .railUp, railEn := true }) ∧
    (∀ sag : Bool, s.dev.power = .held → Ends s (exec (.resetNAssert sag) s) fun e =>
      AfterReset s.dev e true [F.SUP_RSTCAUSE_RESETN] { railFault := s.dev.pow.railFault }) ∧
    (∀ sag : Bool, s.dev.power ∈ [.off, .dormant, .dormantTime, .heldDormant] → Ends s (exec (.resetNAssert sag) s) fun e => e = s.dev) ∧
    (s.dev.power = .railUp → Ends s (exec .railGoodTimeout s) fun e =>
      AfterReset s.dev e true [F.SUP_RSTCAUSE_RAILFAIL] { state := .dormant, newFiring := true, discharge := true, railFault := true }) ∧
    (s.dev.power ≠ .railUp → Ends s (exec .railGoodTimeout s) fun e => e = s.dev) ∧
    (s.dev.coreOn = true → Ends s (exec .railFailure s) fun e =>
      AfterReset s.dev e true [F.SUP_RSTCAUSE_RAILFAIL] { state := .dormant, newFiring := true, discharge := true, railFault := true }) ∧
    (s.dev.coreOn = false → Ends s (exec .railFailure s) fun e => e = s.dev)

/-- Start-up goes on step by step: release of the reset, which lets RAIL_EN rise and evaluates WARN, or, dormant, wakes by each enabled
source whose condition holds; rails good, which empties every crossing and gives each bank to its writing side; the checker self-test (a
failure holds the boot ROM and both alert pins); and the end of the wipe, from which register writes are accepted and a rail failure's
fault event is raised (R29, R52, R58, R65, R80, R89, R91, R488, R492, R533, R584). -/
def StartUpRule : Prop :=
  ∀ s : State,
    (∀ (sag : Bool) (holds : BitVec 9), s.dev.power = .held → Ends s (exec (.resetReleaseHoldEnd sag holds) s) fun e =>
      Released { s.dev with pow := { s.dev.pow with state := .railUp, railEn := true } } e sag) ∧
    (∀ (sag : Bool) (holds : BitVec 9), s.dev.power = .heldDormant → Ends s (exec (.resetReleaseHoldEnd sag holds) s) fun e =>
      let d1 : Dev := { s.dev with pow := { s.dev.pow with state := s.dev.dormantKind } }
      let on := (List.range 9).filter fun i => bitOf holds.toNat i && d1.mayFire i && d1.wakeEnabled i
      let d2 := on.foldl Dev.latchSrc d1
      if on = [] then e = d1
      else if s.dev.pow.discharge = true then
        e = { d2 with pow := { d1.pow with fired := on.foldl (fun a i => a ||| 2 ^ i) s.dev.pow.fired } }
      else Woken d2 e sag) ∧
    (∀ (sag : Bool) (holds : BitVec 9), s.dev.power ∉ [.held, .heldDormant] →
      Ends s (exec (.resetReleaseHoldEnd sag holds) s) fun e => e = s.dev) ∧
    (s.dev.power = .railUp → Ends s (exec .railsGood s) fun e =>
      e = { s.dev with pow := { s.dev.pow with state := .released }, cross := { base := s.dev.out.length } }) ∧
    (s.dev.power ≠ .railUp → Ends s (exec .railsGood s) fun e => e = s.dev) ∧
    (s.dev.power = .released → Ends s (exec (.checkerSelfTest 0) s) fun e =>
      e = { s.dev with pow := { s.dev.pow with state := .tested } }) ∧
    (∀ chk : Fin 4, chk ≠ 0 → s.dev.power = .released → Ends s (exec (.checkerSelfTest chk) s) fun e =>
      e.get F.SUP_BOOT_STFAIL = 1 ∧ e.get F.SUP_BOOT_CHK = chk.val ∧ e.get (F.ALT_CFG_STATE 0) = 1 ∧ e.get (F.ALT_CFG_STATE 1) = 1 ∧
      ({ s.dev with pow := { s.dev.pow with state := .stuck } } : Dev).Only e
        [F.SUP_BOOT_STFAIL, F.SUP_BOOT_CHK, F.ALT_CFG_STATE 0, F.ALT_CFG_STATE 1]) ∧
    (∀ chk : Fin 4, s.dev.power ≠ .released → Ends s (exec (.checkerSelfTest chk) s) fun e => e = s.dev) ∧
    (s.dev.power = .tested → Ends s (exec .startupWipeDone s) fun e => ∃ x : Dev,
      e = (if s.dev.pow.railFault then x.fault 0x240 53 else x) ∧
      x = { s.dev with
        fld := x.fld, free := x.free, fuse := s.dev.retireSlots.fuse
        pow := { s.dev.pow with state := .run, railFault := false }
        ecc := { s.dev.ecc with sram := [], epm := [], part := [], partPoison := [] }
        key := { s.dev.key with kd := none, dsk := s.dev.deriveDsk.key.dsk, buf := [] } } ∧
      (∀ g : Fld, fldId g / 32 < 0x17000 ∨ 0x17100 ≤ fldId g / 32 → x.get g = s.dev.get g) ∧
      x.get F.LCS_STAT_KD = 0 ∧ x.get F.LCS_STAT_DSKOK = 1) ∧
    (s.dev.power ≠ .tested → Ends s (exec .startupWipeDone s) fun e => e = s.dev)

/-- A source shown in SUP_WAKESRC: its bit is set, and nothing else changes. -/
def LatchRule : Prop :=
  ∀ (d : Dev) (i : Fin 9), d.Only (d.latchSrc i.val) [srcFld i.val] ∧
    (i.val < 5 → ∀ j < 5, (d.latchSrc i.val).bit F.SUP_WAKESRC_VBUS j = (decide (j = i.val) || d.bit F.SUP_WAKESRC_VBUS j)) ∧
    (5 ≤ i.val → (d.latchSrc i.val).get (bitFld 0x1014 i.val) = 1)

/-- A source that fires in a dormant part (`d` the state as it fires): it is shown; in the discharge hold it is kept for its end, unless
only a firing after the hold counts; after the hold it wakes the part where it is enabled (R62, R74, R88, Table 03.4). -/
def FiredDormant (d e : Dev) (i : Nat) (sag : Bool) : Prop :=
  if d.pow.discharge = true then
    e = { d.latchSrc i with pow := { d.pow with fired := if d.pow.newFiring then d.pow.fired else d.pow.fired ||| 2 ^ i } }
  else if d.wakeEnabled i = true then Woken (d.latchSrc i) e sag
  else e = d.latchSrc i

/-- Wakes: a source that may fire wakes a dormant part, in DOZE ends DOZE where it is enabled, and in a shutdown sequence is kept for the
end of the discharge hold, at which a due wake acts; one that may not fire does nothing (R62, R74, Table 03.4). -/
def WakesRule : Prop :=
  ∀ s : State,
    (∀ (i : Fin 9) (sag : Bool), s.dev.mayFire i.val = false → Ends s (exec (.wake i sag) s) fun e => e = s.dev) ∧
    (∀ (i : Fin 9) (sag : Bool), s.dev.isDormant = true → s.dev.mayFire i.val = true →
      Ends s (exec (.wake i sag) s) fun e => FiredDormant s.dev e i.val sag) ∧
    (∀ (i : Fin 9) (sag : Bool), s.dev.up = true → s.dev.mayFire i.val = true → Ends s (exec (.wake i sag) s) fun e =>
      if s.dev.get F.SUP_STAT_STAGE ≠ 0 then
        e = { s.dev.latchSrc i.val with pow := { s.dev.pow with fired := s.dev.pow.fired ||| 2 ^ i.val } }
      else if s.dev.wakeEnabled i.val = true then e = { s.dev with pow := { s.dev.pow with state := .run } }
      else e = s.dev) ∧
    (∀ (i : Fin 9) (sag : Bool), s.dev.isDormant = false → s.dev.up = false → Ends s (exec (.wake i sag) s) fun e => e = s.dev) ∧
    (∀ sag : Bool, s.dev.pow.discharge = true → Ends s (exec (.dischargeHoldEnd sag) s) fun e =>
      let d1 : Dev := { s.dev with pow := { s.dev.pow with discharge := false } }
      if s.dev.isDormant = true ∧ s.dev.wakeDue = true then Woken d1 e sag else e = d1) ∧
    (∀ sag : Bool, s.dev.pow.discharge = false → Ends s (exec (.dischargeHoldEnd sag) s) fun e => e = s.dev)

/-- The seconds count goes up by one and wraps while the part runs and in DORMANT+TIME, where the ALARM source fires at its second, and
holds in every other state (R63, R62). -/
def SecondsRule : Prop :=
  ∀ (s : State) (sag : Bool),
    (s.dev.up = true → Ends s (exec (.secondsTick sag) s) fun e =>
      e.get F.SUP_SECONDS_COUNT = (s.dev.get F.SUP_SECONDS_COUNT + 1) % 2 ^ 32 ∧ s.dev.Only e [F.SUP_SECONDS_COUNT]) ∧
    (s.dev.power = .dormantTime → Ends s (exec (.secondsTick sag) s) fun e => ∃ x : Dev,
      x.get F.SUP_SECONDS_COUNT = (s.dev.get F.SUP_SECONDS_COUNT + 1) % 2 ^ 32 ∧ s.dev.Only x [F.SUP_SECONDS_COUNT] ∧
      if x.get F.SUP_SECONDS_COUNT = s.dev.get F.SUP_ALARM_COUNT then FiredDormant x e 7 sag else e = x) ∧
    (s.dev.up = false → s.dev.power ≠ .dormantTime → Ends s (exec (.secondsTick sag) s) fun e => e = s.dev)

/-- The resets: POR restores every register; a fall below the reset threshold, RESET_N, and rails that do not come or fail, restore
all but the always-on ones, each with its cause and the power state it leaves; a fall while dormant leaves the rails off and forgets
what fired; RESET_N evaluates WARN at its release and is ignored without the rails' domain; after a rail failure the part is DORMANT with
RAIL_EN low, in the discharge hold, waiting for a new firing (R58, R65, R76 to R78, R80, R88, R566, R567, R584).

Start-up goes on step by step: release of the reset, which lets RAIL_EN rise and evaluates WARN, or, dormant, wakes by each enabled
source whose condition holds; rails good, which empties every crossing and gives each bank to its writing side; the checker self-test (a
failure holds the boot ROM and both alert pins); and the end of the wipe, from which register writes are accepted and a rail failure's
fault event is raised (R29, R52, R58, R65, R80, R89, R91, R488, R492, R533, R584).

A source shown in SUP_WAKESRC: its bit is set, and nothing else changes. A source that may fire wakes a dormant part, in DOZE ends DOZE
where it is enabled, and in a shutdown sequence is kept for the end of the discharge hold, at which a due wake acts; one that may not
fire does nothing (R62, R74, Table 03.4).

The seconds count goes up by one and wraps while the part runs and in DORMANT+TIME, where the ALARM source fires at its second, and
holds in every other state (R63, R62).
Where the spec leaves a reading open this follows the model's own: log entries 17, 18, 22, 70, 73. -/
def Obligations.ResetsAndWakes : Prop :=
  ResetsRule ∧ StartUpRule ∧ LatchRule ∧ WakesRule ∧ SecondsRule

/-- A cause recorded while no sequence runs starts S1, a later one is only added; GO, WARNDLY, where WARN is 1 and SHUTDLY not 0, and
LOWPACK, where its watch is enabled and holds, are the causes, LOWPACK a fault event too (R68, R69, R75, R90). -/
def ShutdownStartsRule : Prop :=
  ∀ s : State, s.dev.up = true →
    (∀ w : Word, setsReserved R.SUP_SHUT (withBit w 0) = false → bits w.toNat 1 2 = 0 →
      Ends s (exec (.shutdownGo w) s) fun e => ∃ x : Dev, e = (if s.dev.get F.SUP_STAT_STAGE = 0 then x.startS1 else x) ∧
        x.get F.SUP_SHUT_CAUSE_SOFT = 1 ∧ s.dev.Only x [F.SUP_SHUT_CAUSE_SOFT, F.SUP_SHUT_GO, F.SUP_SHUT_SKIP, F.SUP_SHUT_CANCEL]) ∧
    (Ends s (exec .warndlyExpiry s) fun e =>
      if s.dev.is F.SUP_STAT_WARN = true ∧ s.dev.get F.SUP_WARNCFG_SHUTDLY ≠ 0 then
        ∃ x : Dev, e = (if s.dev.get F.SUP_STAT_STAGE = 0 then x.startS1 else x) ∧ x.get F.SUP_SHUT_CAUSE_WARNDLY = 1 ∧
          s.dev.Only x [F.SUP_SHUT_CAUSE_WARNDLY]
      else e = s.dev) ∧
    (Ends s (exec .lowpackExpiry s) fun e =>
      if s.dev.is F.SUP_PACKCFG_EN = true ∧ s.dev.lowpack = true then
        ∃ x : Dev, e = (if s.dev.get F.SUP_STAT_STAGE = 0 then x.startS1 else x).fault 0x240 54 ∧ x.get F.SUP_SHUT_CAUSE_LOWPACK = 1 ∧
          s.dev.Only x [F.SUP_SHUT_CAUSE_LOWPACK]
      else e = s.dev)

/-- What a stage's beginning does: S1 shows STAGE 1 and CUR 5 in RUN and tells every tenant CAUSE and GRACE before a pending commit
starts and a paired lead hands over; S2 shows STAGE 2, starts the flush of every running stream, withdraws a grant and pulls LIMIT_N low;
an abort lets a commit in progress complete first, and then clears the causes and shows STAGE 0 and CUR 4 (R71, R73, R85, R175, R419,
R439). -/
def ShutdownStagesRule : Prop :=
  ∀ d : Dev,
    (∃ x : Dev, x.get F.SUP_STAT_STAGE = 1 ∧ x.get F.SUP_STATE_CUR = 5 ∧
      ({ d with pow := { d.pow with state := .run, inputLatched := false, fired := 0 } } : Dev).Only x [F.SUP_STAT_STAGE, F.SUP_STATE_CUR] ∧
      d.startS1 = let y := (x.supEvent 4 x.tenants x.causes (x.get F.SUP_SHUTCFG_GRACE)).commitAtS1; if y.mayHandOver then y.handOver else y) ∧
    (let run := (List.range 256).filter fun i => d.strState i = 2 ∨ d.strState i = 3
     ∃ x y : Dev, d.startS2 = y ∧ x.get F.SUP_STAT_STAGE = 2 ∧
      ({ d with pow := { d.pow with s2Streams := d.pow.s2Streams ++ run } } : Dev).Only x [F.SUP_STAT_STAGE] ∧
      (run.foldl Dev.startFlush x).withdraw.Only y [F.RAT_STAT_LIMIT] ∧ y.get F.RAT_STAT_LIMIT = 1) ∧
    (if d.grn.commit.isSome = true then d.abortShutdown = { d with pow := { d.pow with abortWait := true } }
     else d.abortShutdown = d.leaveShutdown) ∧
    (let e := d.leaveShutdown
     e.get F.SUP_STAT_STAGE = 0 ∧ e.get F.SUP_STATE_CUR = 4 ∧ e.causes = 0 ∧
      ({ d with pow := { d.pow with aborting := some d.causes, abortWait := false, inputLatched := false, fired := 0 } } : Dev).Only e
        [F.SUP_STAT_STAGE, F.SUP_STATE_CUR, F.SUP_SHUT_CAUSE_SOFT, F.SUP_SHUT_CAUSE_LOWPACK, F.SUP_SHUT_CAUSE_WARNDLY, F.RAT_STAT_LIMIT])

/-- What follows by itself: S3 begins once no ticket and no flush of S2 is left; an abort that waits for a commit goes on when there is
none; and once the flushes of S2 have ended an abort restarts the streams that S2 flushed and raises SUP_SHUTDOWN_ABORTED with the causes
as they stood (R71, R73). -/
def ShutdownProgressRule : Prop :=
  ∀ d : Dev,
    (d.get F.SUP_STAT_STAGE = 2 → d.s2Busy = false → d.pow.abortWait = false → d.pow.aborting = none →
      d.progress.get F.SUP_STAT_STAGE = 3 ∧
      ({ d with pow := { d.pow with s3Done := false, s3Lost := false } } : Dev).Only d.progress [F.SUP_STAT_STAGE]) ∧
    (d.pow.abortWait = true → d.grn.commit = none →
      d.progress = if d.leaveShutdown.s2Flushing then d.leaveShutdown else d.leaveShutdown.endAbort d.causes) ∧
    (∀ c : Nat, d.get F.SUP_STAT_STAGE = 0 → d.pow.abortWait = false → d.pow.aborting = some c →
      d.progress = if d.s2Flushing then d
        else (d.pow.s2Streams.foldl Dev.restart { d with pow := { d.pow with aborting := none, s2Streams := [] } }).supEvent 5 d.tenants c 0) ∧
    (d.get F.SUP_STAT_STAGE ≠ 2 → d.pow.abortWait = false → d.pow.aborting = none → d.progress = d)

/-- The stages follow each other: grace or SKIP ends S1, the ticket time-out flushes the tickets of S2, the commit (unless a watchdog reset
came in S3) or its time-out ends S3 in S4, and S5 leaves the part dormant with RAIL_EN low in the discharge hold; nothing ends a stage
that is not the present one, or while an abort waits; CANCEL of the only cause aborts before S4, of one of several only clears SOFT, and
is rejected without a sequence and from S4 on, as SKIP is outside S1 (R58, R71, R72, R73, R75, R83). -/
def ShutdownSequenceRule : Prop :=
  ∀ s : State, s.dev.up = true →
    (Ends s (exec .shutdownGraceExpiry s) fun e =>
      e = if s.dev.get F.SUP_STAT_STAGE = 1 ∧ s.dev.pow.abortWait = false then s.dev.startS2 else s.dev) ∧
    (∀ w : Word, setsReserved R.SUP_SHUT (withBit w 1) = false → bitOf w.toNat 0 = false → bitOf w.toNat 2 = false →
      Ends s (exec (.shutdownSkip w) s) fun e =>
        if s.dev.get F.SUP_STAT_STAGE = 1 then ∃ x : Dev, e = x.startS2 ∧ s.dev.Only x [F.SUP_SHUT_GO, F.SUP_SHUT_SKIP, F.SUP_SHUT_CANCEL]
        else RecordedGlb s.dev e 0x1034 .eState) ∧
    (Ends s (exec .shutdownS2TicketTimeout s) fun e =>
      e = if s.dev.get F.SUP_STAT_STAGE = 2 ∧ s.dev.pow.abortWait = false then s.dev.flushTickets else s.dev) ∧
    (Ends s (exec .shutdownCommitDone s) fun e =>
      if s.dev.get F.SUP_STAT_STAGE = 3 ∧ s.dev.pow.abortWait = false ∧ s.dev.pow.s3Done = true ∧ s.dev.pow.s3Lost = false then
        ∃ x : Dev, e = x.stopAll ∧ x.get F.SUP_STAT_STAGE = 4 ∧ s.dev.Only x [F.SUP_STAT_STAGE]
      else e = s.dev) ∧
    (Ends s (exec .shutdownCommitTimeout s) fun e =>
      if s.dev.get F.SUP_STAT_STAGE = 3 ∧ s.dev.pow.abortWait = false then
        ∃ x : Dev, e = x.stopAll ∧ x.get F.SUP_STAT_STAGE = 4 ∧ s.dev.Only x [F.SUP_STAT_STAGE]
      else e = s.dev) ∧
    (Ends s (exec .shutdownS5 s) fun e =>
      if s.dev.get F.SUP_STAT_STAGE = 4 then e.get F.SUP_STAT_STAGE = 0 ∧
        ({ s.dev with pow := { s.dev.pow with state := s.dev.dormantKind, discharge := true, newFiring := false, railEn := false } } : Dev).Only
          e [F.SUP_STAT_STAGE]
      else e = s.dev) ∧
    (∀ w : Word, setsReserved R.SUP_SHUT (withBit w 2) = false → bits w.toNat 0 2 = 0 →
      Ends s (exec (.shutdownCancel w) s) fun e =>
        if s.dev.get F.SUP_STAT_STAGE = 0 ∨ s.dev.get F.SUP_STAT_STAGE = 4 then RecordedGlb s.dev e 0x1034 .eState
        else ∃ x : Dev, x.get F.SUP_SHUT_CAUSE_SOFT = 0 ∧
          s.dev.Only x [F.SUP_SHUT_CAUSE_SOFT, F.SUP_SHUT_GO, F.SUP_SHUT_SKIP, F.SUP_SHUT_CANCEL] ∧
          e = if s.dev.is F.SUP_SHUT_CAUSE_LOWPACK || s.dev.is F.SUP_SHUT_CAUSE_WARNDLY then x else x.abortShutdown)

/-- A cause recorded while no sequence runs starts S1, a later one is only added; GO, WARNDLY, where WARN is 1 and SHUTDLY not 0, and
LOWPACK, where its watch is enabled and holds, are the causes, LOWPACK a fault event too (R68, R69, R75, R90).

What a stage's beginning does: S1 shows STAGE 1 and CUR 5 in RUN and tells every tenant CAUSE and GRACE before a pending commit
starts and a paired lead hands over; S2 shows STAGE 2, starts the flush of every running stream, withdraws a grant and pulls LIMIT_N low;
an abort lets a commit in progress complete first, and then clears the causes and shows STAGE 0 and CUR 4 (R71, R73, R85, R175, R419,
R439).

What follows by itself: S3 begins once no ticket and no flush of S2 is left; an abort that waits for a commit goes on when there is
none; and once the flushes of S2 have ended an abort restarts the streams that S2 flushed and raises SUP_SHUTDOWN_ABORTED with the causes
as they stood (R71, R73).

The stages follow each other: grace or SKIP ends S1, the ticket time-out flushes the tickets of S2, the commit (unless a watchdog reset
came in S3) or its time-out ends S3 in S4, and S5 leaves the part dormant with RAIL_EN low in the discharge hold; nothing ends a stage
that is not the present one, or while an abort waits; CANCEL of the only cause aborts before S4, of one of several only clears SOFT, and
is rejected without a sequence and from S4 on, as SKIP is outside S1 (R58, R71, R72, R73, R75, R83).
Where the spec leaves a reading open this follows the model's own: log entry 21. -/
def Obligations.Shutdown : Prop :=
  ShutdownStartsRule ∧ ShutdownStagesRule ∧ ShutdownProgressRule ∧ ShutdownSequenceRule

/-- The supply warning and the PHY hold set and clear their bits and raise their events; a warning trips a grant in force; what the hold
kept waiting goes on at its release, unless something else still holds the PHYs (R64, R66, R67, R80, R119, R170, R239). -/
def WarningAndHoldRule : Prop :=
  ∀ s : State,
    (s.dev.supOn = true → s.dev.is F.SUP_STAT_WARN = false → Ends s (exec .supWarn s) fun e => ∃ x : Dev,
      e = ((x.supEvent 0 s.dev.tenants 0 0).fault 0x240 51).ratTrip ∧ x.get F.SUP_STAT_WARN = 1 ∧ s.dev.Only x [F.SUP_STAT_WARN]) ∧
    (s.dev.supOn = false ∨ s.dev.is F.SUP_STAT_WARN = true → Ends s (exec .supWarn s) fun e => e = s.dev) ∧
    (s.dev.supOn = true → s.dev.is F.SUP_STAT_WARN = true → Ends s (exec .supWarnClear s) fun e => ∃ x : Dev,
      e = x.supEvent 1 s.dev.tenants 0 0 ∧ x.get F.SUP_STAT_WARN = 0 ∧ s.dev.Only x [F.SUP_STAT_WARN]) ∧
    (s.dev.supOn = false ∨ s.dev.is F.SUP_STAT_WARN = false → Ends s (exec .supWarnClear s) fun e => e = s.dev) ∧
    (s.dev.coreOn = true → s.dev.is F.SUP_STAT_PHYHOLD = false → Ends s (exec .supPhyHold s) fun e => ∃ x : Dev,
      e = (x.holdLanes.supEvent 2 s.dev.tenants 0 0).fault 0x240 52 ∧ x.get F.SUP_STAT_PHYHOLD = 1 ∧
      s.dev.Only x [F.SUP_STAT_PHYHOLD]) ∧
    (s.dev.coreOn = false ∨ s.dev.is F.SUP_STAT_PHYHOLD = true → Ends s (exec .supPhyHold s) fun e => e = s.dev) ∧
    (∀ long : Bool, s.dev.coreOn = true → s.dev.is F.SUP_STAT_PHYHOLD = true → Ends s (exec (.supPhyRelease long) s) fun e =>
      ∃ x y : Dev, x.get F.SUP_STAT_PHYHOLD = 0 ∧ s.dev.Only x [F.SUP_STAT_PHYHOLD] ∧ y = x.supEvent 3 s.dev.tenants 0 0 ∧
        e = if y.phyHeld then y.sendHeld else ((y.lheAfterHold long).pdAfterHold).sendHeld) ∧
    (∀ long : Bool, s.dev.coreOn = false ∨ s.dev.is F.SUP_STAT_PHYHOLD = false →
      Ends s (exec (.supPhyRelease long) s) fun e => e = s.dev)

/-- INPUT_PRESENT by a port: its VBUS sense is read, it counts as input, and the input port is selected anew; the pack counts as it
reads. In the discharge hold of a shutdown it is latched as a wake source; in every other state it does nothing (R70, R74, R130). -/
def InputPresentRule : Prop :=
  ∀ (s : State) (src : Fin 6) (volt cur : Fin 4096),
    (s.dev.up = true → Ends s (exec (.inputPresent src volt cur) s) fun e =>
      if src.val < 5 then ∃ x : Dev, x.get (F.PD_VBUS_VOLT src.val) = volt.val ∧ x.get (F.PD_VBUS_CUR src.val) = cur.val ∧
        s.dev.Only x [F.PD_VBUS_VOLT src.val, F.PD_VBUS_CUR src.val] ∧
        e = x.followUsb ((x.modPort src.val fun y => { y with vin := true, lost := false }).selectInput) src.val
      else e = s.dev) ∧
    (s.dev.up = false → Ends s (exec (.inputPresent src volt cur) s) fun e =>
      if s.dev.isDormant = true ∧ s.dev.pow.discharge = true ∧ s.dev.pow.newFiring = false then
        e = { s.dev.latchSrc (if src.val < 5 then src.val else 6) with pow := { s.dev.pow with inputLatched := true } }
      else e = s.dev)

/-- What input that becomes present does at the end of the command that brings it: INPUT shows it; in S4 each port that gives it, or
BATID for the pack, is latched as a wake source; in S1 to S3 it aborts a sequence that SOFT did not start (R70, R73, R74). -/
def InputEdgeRule : Prop :=
  ∀ d : Dev,
    (d.up = false ∨ d.is F.SUP_STAT_INPUT = true ∨ d.inputHolds = false → d.inputEdge = d) ∧
    (d.up = true → d.is F.SUP_STAT_INPUT = false → d.inputHolds = true → ∃ x : Dev, x.get F.SUP_STAT_INPUT = 1 ∧
      d.Only x [F.SUP_STAT_INPUT] ∧
      (d.get F.SUP_STAT_STAGE = 0 → d.inputEdge = x) ∧
      (d.get F.SUP_STAT_STAGE = 4 → let e := d.inputEdge
        ({ x with pow := { x.pow with inputLatched := true } } : Dev).Only e [F.SUP_WAKESRC_VBUS, F.SUP_WAKESRC_BATID] ∧
        (∀ p < 5, e.bit F.SUP_WAKESRC_VBUS p = (d.bit F.SUP_WAKESRC_VBUS p || d.portPower p)) ∧
        (d.packInput = true → e.get F.SUP_WAKESRC_BATID = 1)) ∧
      (d.get F.SUP_STAT_STAGE ≠ 0 → d.get F.SUP_STAT_STAGE ≠ 4 →
        d.inputEdge = if d.is F.SUP_SHUT_CAUSE_SOFT then x else x.abortShutdown))

/-- DOZE is entered where nothing blocks it and rejected with E_STATE otherwise, and left by DOZE_EXIT (R60, R61). -/
def DozeRule : Prop :=
  ∀ s : State, s.dev.up = true →
    (∀ w : Word, setsReserved R.SUP_STATE (BitVec.ofNat 32 (w.toNat - bits w.toNat 4 4 * 16 + 16)) = false →
      Ends s (exec (.dozeRequest w) s) fun e =>
        if s.dev.get F.SUP_STAT_STAGE ≠ 0 ∨ s.dev.dozeBlocked = true then RecordedGlb s.dev e 0x1000 .eState
        else e = { s.dev with pow := { s.dev.pow with state := .doze } }) ∧
    (Ends s (exec .dozeExit s) fun e => e = { s.dev with pow := { s.dev.pow with state := .run } })

/-- The supply warning and the PHY hold set and clear their bits and raise their events; a warning trips a grant in force; what the hold
kept waiting goes on at its release, unless something else still holds the PHYs (R64, R66, R67, R80, R119, R170, R239).

INPUT_PRESENT by a port: its VBUS sense is read, it counts as input, and the input port is selected anew; the pack counts as it
reads. In the discharge hold of a shutdown it is latched as a wake source; in every other state it does nothing. At the end of the command
that brings input INPUT shows it; in S4 each port that gives it, or BATID for the pack, is latched as a wake source; in S1 to S3 it aborts
a sequence that SOFT did not start (R70, R73, R74, R130).

DOZE is entered where nothing blocks it and rejected with E_STATE otherwise, and left by DOZE_EXIT (R60, R61).
Where the spec leaves a reading open this follows the model's own: log entries 17, 19, 20, 22, 76. -/
def Obligations.WarningInputAndDoze : Prop :=
  WarningAndHoldRule ∧ InputPresentRule ∧ InputEdgeRule ∧ DozeRule

/-! ### Type-C and Power Delivery (chapter 04) -/

/-- A termination that a port's role allows attaches an unattached port, after what ends DOZE: as sink in default USB power with data role
UFP, which a fenced port does in any role, as source with VCONN, VBUS and, on a DS port, the reservation of its Type-C Current, unless
TRYSNK first has it try the sink role, and as debug accessory source without VCONN where the part is in DEVELOP with DBGACC; a role that is
not allowed, an audio accessory, and an attached port change nothing more (R61, R97, R99, R100, R109, R120, R122, R132). -/
def TypeCAttachRule : Prop :=
  ∀ (s : State) (p : Fin 5) (orient : Fin 2) (adv : Fin 3), s.dev.up = true →
    let d := s.dev.rouse
    let role := d.get (F.PD_CTRL_ROLE p.val)
    let free := d.is (F.PD_STAT_FENCED p.val) = false ∧ roleAllows role true = true ∧ d.maySource p.val = true
    let sourced := fun (e : Dev) (tc : Nat) => ∃ x y : Dev, e = d.followUsb y p.val ∧ y = x.sourceOn p.val ∧
      x.tcState p.val = tc ∧ x.get (F.PD_STAT_ORIENT p.val) = orient.val ∧ x.get (F.PD_STAT_PWRROLE p.val) = 1 ∧
      x.get (F.PD_STAT_DATAROLE p.val) = 1 ∧ x.get (F.PD_STAT_VCONN p.val) = (if tc = 5 then 0 else 1) ∧ x.get (F.PD_INT_ATTACH p.val) = 1 ∧
      d.Only x [F.PD_STAT_TCSTATE p.val, F.PD_STAT_ORIENT p.val, F.PD_STAT_PWRROLE p.val, F.PD_STAT_DATAROLE p.val,
        F.PD_STAT_VCONN p.val, F.PD_INT_ATTACH p.val] ∧
      (y.port p.val).vbg = true ∧ (y.port p.val).mv = 5000 ∧
      (p.val ≠ 0 → (y.port p.val).resv = if d.get F.SUP_STAT_STAGE = 4 then 0 else typecWatts (d.get (F.PD_CTRL_RPVAL p.val)))
    (d.tcState p.val ∉ [0, 1, 4] → ∀ kind : Fin 4, Ends s (exec (.typecAttach p kind orient adv) s) fun e => e = d) ∧
    (d.tcState p.val ∈ [0, 1, 4] →
      (Ends s (exec (.typecAttach p 0 orient adv) s) fun e =>
        if d.is (F.PD_STAT_FENCED p.val) = true ∨ roleAllows role false = true then ∃ x : Dev,
          e = d.followUsb (x.modPort p.val fun y =>
            { y with adv := adv.val, limited := false, ovp := false, vin := false, lost := false }).selectInput p.val ∧
          x.tcState p.val = 2 ∧ x.get (F.PD_STAT_ORIENT p.val) = orient.val ∧ x.get (F.PD_STAT_PWRROLE p.val) = 0 ∧
          x.get (F.PD_STAT_DATAROLE p.val) = 0 ∧ x.get (F.PD_INT_ATTACH p.val) = 1 ∧
          d.Only x [F.PD_STAT_TCSTATE p.val, F.PD_STAT_ORIENT p.val, F.PD_STAT_PWRROLE p.val, F.PD_STAT_DATAROLE p.val, F.PD_INT_ATTACH p.val]
        else e = d) ∧
      (Ends s (exec (.typecAttach p 1 orient adv) s) fun e =>
        if free then
          if d.tcState p.val ≠ 4 ∧ role = 2 ∧ d.is (F.PD_CTRL_TRYSNK p.val) = true then
            e.tcState p.val = 4 ∧ d.Only e [F.PD_STAT_TCSTATE p.val]
          else sourced e 3
        else e = d) ∧
      (Ends s (exec (.typecAttach p 2 orient adv) s) fun e =>
        if free ∧ s.dev.fuse.life = .develop ∧ d.is (F.PD_CTRL_DBGACC p.val) = true then sourced e 5 else e = d) ∧
      (Ends s (exec (.typecAttach p 3 orient adv) s) fun e => e = d))

/-- The partner's going detaches an attached port, which ends its contract, its reservation and its roles, and ends a try of the sink
role; it leaves any other port alone (R97, R109, R115). -/
def TypeCDetachRule : Prop :=
  ∀ (s : State) (p : Fin 5), s.dev.up = true → Ends s (exec (.typecDetach p) s) fun e =>
    let d := s.dev.rouse
    if d.attached p.val = true then ∃ x : Dev, e = d.followUsb x p.val ∧ x.tcState p.val = 0 ∧
      x.get (F.PD_STAT_CONTRACT p.val) = 0 ∧ x.get (F.PD_STAT_VCONN p.val) = 0 ∧ x.get (F.PD_STAT_PWRROLE p.val) = 0 ∧
      x.get (F.PD_STAT_DATAROLE p.val) = 0 ∧ x.get (F.PD_INT_ATTACH p.val) = 1 ∧ (x.port p.val).vbg = false ∧
      (p.val ≠ 0 → (x.port p.val).resv = 0) ∧ (d.portDetach p.val).Only x [F.PD_INT_ATTACH p.val]
    else if d.tcState p.val = 4 then e.tcState p.val = 0 ∧ d.Only e [F.PD_STAT_TCSTATE p.val]
    else e = d

/-- A termination that a port's role allows attaches an unattached port, after what ends DOZE: as sink in default USB power with data role
UFP, which a fenced port does in any role, as source with VCONN, VBUS and, on a DS port, the reservation of its Type-C Current, unless
TRYSNK first has it try the sink role, and as debug accessory source without VCONN where the part is in DEVELOP with DBGACC; a role that is
not allowed, an audio accessory, and an attached port change nothing more (R61, R97, R99, R100, R109, R120, R122, R132).

The partner's going detaches an attached port, which ends its contract, its reservation and its roles, and ends a try of the sink
role; it leaves any other port alone (R97, R109, R115).
Where the spec leaves a reading open this follows the model's own: log entries 26, 77. -/
def Obligations.TypeC : Prop :=
  TypeCAttachRule ∧ TypeCDetachRule

/-- A message received: none passes a deaf port or a full FIFO, nor one of a cable where the port does not source VCONN; a repeat by the
MessageID of its own SOP* is acknowledged alone; one outside the message set is answered Not_Supported by hardware, and a request for a
chunk is hardware's alone; any other is held for the steward as the FIFO's newest entry, with PD_INT.RX, and acted on: on SOP as the
port's role asks, with the next chunk asked for where one is missing, on SOP' and SOP'' as a cable's answer (R101 to R103, Table 04.2). -/
def PdReceiveRule : Prop :=
  ∀ (s : State) (p : Fin 5) (sop : Fin 3) (m : List Byte), s.dev.up = true →
    Ends s (exec (.pdMessageRx p sop m) s) fun e =>
      if s.dev.pdDeaf p.val = true ∨ s.dev.get (F.PD_RXSTAT_COUNT p.val) = 4 ∨ (sop.val ≠ 0 ∧ s.dev.is (F.PD_STAT_VCONN p.val) = false) then
        e = s.dev
      else
        let a := s.dev.emit .pdSignal p.val [0] []
        if (s.dev.port p.val).lastId sop.val = hdrId (pdHeader m) ∧ isControl m 13 = false then e = a
        else
          let b := a.modPort p.val fun x => x.setLastId sop.val (if isControl m 13 then 8 else hdrId (pdHeader m))
          if pdSupported m = false then e = b.pdSendControl p.val 16
          else if hdrExt (pdHeader m) = true ∧ bitOf (extHeader m) 10 = true then e = b
          else
            let en := (s.dev.get (F.PD_RXSTAT_HEAD p.val) + s.dev.get (F.PD_RXSTAT_COUNT p.val)) % 4
            ∃ x : Dev, x.get (F.PD_RXSTAT_COUNT p.val) = (s.dev.get (F.PD_RXSTAT_COUNT p.val) + 1) % 8 ∧ x.get (F.PD_INT_RX p.val) = 1 ∧
              (b.putBytes (F.PD_RXBUF_DATA p.val) (32 * en) (m.take 32)).Only x [F.PD_RXSTAT_COUNT p.val, F.PD_INT_RX p.val] ∧
              e = s.dev.followUsb (if sop.val = 0 then (x.pdAct p.val m).askChunk p.val m else x.cableAct p.val sop.val m) p.val

/-- POP releases the oldest entry, and changes nothing in an empty FIFO (R101, Table 04.15). -/
def PdPopRule : Prop :=
  ∀ (s : State) (p : Fin 5) (w : Word), s.dev.up = true → setsReserved R.PD_RXSTAT (w ||| 0x100) = false →
    s.dev.get (F.PD_RXSTAT_COUNT p.val) ≤ 4 → Ends s (exec (.pdRxPop p w) s) fun e =>
      if s.dev.get (F.PD_RXSTAT_COUNT p.val) = 0 then s.dev.Only e []
      else e.get (F.PD_RXSTAT_COUNT p.val) = s.dev.get (F.PD_RXSTAT_COUNT p.val) - 1 ∧
        e.get (F.PD_RXSTAT_HEAD p.val) = (s.dev.get (F.PD_RXSTAT_HEAD p.val) + 1) % 4 ∧
        s.dev.Only e [F.PD_RXSTAT_COUNT p.val, F.PD_RXSTAT_HEAD p.val]

/-- A message received: none passes a deaf port or a full FIFO, nor one of a cable where the port does not source VCONN; a repeat by the
MessageID of its own SOP* is acknowledged alone; one outside the message set is answered Not_Supported by hardware, and a request for a
chunk is hardware's alone; any other is held for the steward as the FIFO's newest entry, with PD_INT.RX, and acted on: on SOP as the
port's role asks, with the next chunk asked for where one is missing, on SOP' and SOP'' as a cable's answer (R101 to R103, Table 04.2).

POP releases the oldest entry, and changes nothing in an empty FIFO (R101, Table 04.15).
Where the spec leaves a reading open this follows the model's own: log entries 23, 24, 25. -/
def Obligations.PdReceive : Prop :=
  PdReceiveRule ∧ PdPopRule

/-- PD_TXCMD with GO, accepted where none is in progress and LEN is 2 to 30, and otherwise rejected with E_BUSY or E_RANGE. A message goes
out from PD_TXBUF with BUSY and its SOP*'s MessageID, a Soft_Reset with 0; without a partner it ends at once with E_LINK, on SOP' or SOP''
without VCONN with E_STATE, one that the spec says is never sent with E_STATE (the model's choice, log entry 78), an Accept that the budget
has no room for with E_NORES, one that it has room for reserves its power. Hard_Reset acts on the port and is a fault event; Cable_Reset
needs VCONN (R96, R101, R103, R108, R110, R128). -/
def PdTransmitRule : Prop :=
  ∀ (s : State) (p : Fin 5) (len : Fin 32), s.dev.up = true → 2 ≤ len.val → len.val ≤ 30 →
    (s.dev.is (F.PD_TXCMD_BUSY p.val) = true →
      (∀ sop : Fin 3, Ends s (exec (.pdTxMessage p sop len) s) fun e => RecordedGlb s.dev e (R.PD_TXCMD.base + R.PD_TXCMD.stride * p.val) .eBusy) ∧
      (Ends s (exec (.pdTxHardReset p len) s) fun e => RecordedGlb s.dev e (R.PD_TXCMD.base + R.PD_TXCMD.stride * p.val) .eBusy) ∧
      (Ends s (exec (.pdTxCableReset p len) s) fun e => RecordedGlb s.dev e (R.PD_TXCMD.base + R.PD_TXCMD.stride * p.val) .eBusy)) ∧
    (s.dev.is (F.PD_TXCMD_BUSY p.val) = false →
      let taken := fun (x : Dev) (sop : Nat) => x.get (F.PD_TXCMD_SOP p.val) = sop ∧ x.get (F.PD_TXCMD_LEN p.val) = len.val ∧
        x.get (F.PD_TXCMD_GO p.val) = 0 ∧ s.dev.Only x [F.PD_TXCMD_SOP p.val, F.PD_TXCMD_LEN p.val, F.PD_TXCMD_GO p.val]
      (∀ sop : Fin 3, Ends s (exec (.pdTxMessage p sop len) s) fun e => ∃ x : Dev, taken x sop.val ∧
        let b := s.dev.getBytes (F.PD_TXBUF_DATA p.val) len.val
        let at_once := fun st : Status => e.get (F.PD_TXCMD_STATUS p.val) = statusCode st ∧ x.Only e [F.PD_TXCMD_STATUS p.val]
        if s.dev.attached p.val = false then at_once .eLink
        else if sop.val ≠ 0 ∧ s.dev.is (F.PD_STAT_VCONN p.val) = false then at_once .eState
        else if x.mayTransmit p.val sop.val b = false then at_once .eState
        else if sop.val = 0 ∧ isControl b 3 = true ∧ s.dev.budgetFails p.val = true then at_once .eNores
        else
          let q := s.dev.port p.val
          let m := withId b (if isControl b 13 then 0 else q.nextId sop.val)
          let accepts := sop.val = 0 ∧ isControl b 3 = true ∧ q.reqIn = true ∧ s.dev.isSource p.val = true
          e.get (F.PD_TXCMD_BUSY p.val) = 1 ∧
          ({ x with pd := e.pd, out := e.out } : Dev).Only e [F.PD_TXCMD_BUSY p.val, F.PD_BUDGET_USED] ∧
          e.out = (if s.dev.phyHeld then s.dev.out else ⟨.pdMsg, p.val, [sop.val], m⟩ :: s.dev.out) ∧
          (e.port p.val).tx = m ∧ (e.port p.val).txSop = sop.val ∧ (e.port p.val).tries = 1 ∧
          (e.port p.val).nextId sop.val = (if isControl b 13 then 0 else q.nextId sop.val) ∧
          (e.port p.val).resv = (if accepts ∧ p.val ≠ 0 then if s.dev.get F.SUP_STAT_STAGE = 4 then 0 else watts q.reqMv q.reqMa else q.resv) ∧
          (¬ accepts → e.get F.PD_BUDGET_USED = s.dev.get F.PD_BUDGET_USED) ∧
          ∀ o : Nat, o ≠ p.val → e.port o = s.dev.port o) ∧
      (Ends s (exec (.pdTxHardReset p len) s) fun e => ∃ x : Dev, taken x 3 ∧
        e = x.followPort (((x.sendHardReset p.val).set (F.PD_TXCMD_STATUS p.val) 0).pdFault p.val 3 0 1) p.val) ∧
      (Ends s (exec (.pdTxCableReset p len) s) fun e => ∃ x : Dev, taken x 4 ∧
        if s.dev.is (F.PD_STAT_VCONN p.val) = true then e.get (F.PD_TXCMD_STATUS p.val) = 0 ∧
          (x.emit .pdSignal p.val [2] []).Only e [F.PD_TXCMD_STATUS p.val]
        else e.get (F.PD_TXCMD_STATUS p.val) = statusCode .eState ∧ x.Only e [F.PD_TXCMD_STATUS p.val])) ∧
    (∀ (n : Fin 32) (sop : Fin 3), (n.val < 2 ∨ n.val = 31) → n.val ≠ s.dev.get (F.PD_TXCMD_LEN p.val) → s.dev.is (F.PD_TXCMD_BUSY p.val) = false →
      Ends s (exec (.pdTxMessage p sop n) s) fun e => RecordedGlb s.dev e (R.PD_TXCMD.base + R.PD_TXCMD.stride * p.val) .eRange)

/-- A transmission without GoodCRC is repeated up to three times, the repeats held back with the PHY, and then ends with E_TIMEOUT, a cable
that did not answer counting as unmarked; one that the partner acknowledges ends with status 0 and takes the next MessageID of its SOP*,
and what it agreed to follows; one that a collision discards ends with E_FLUSHED; a reservation that its Accept made is undone where it
did not arrive. Without a transmission nothing changes (R101, R104, R110, R118, R119). -/
def PdTransmitEndsRule : Prop :=
  ∀ (s : State) (p : Fin 5), s.dev.up = true →
    (s.dev.is (F.PD_TXCMD_BUSY p.val) = false →
      (Ends s (exec (.pdRetryTimeout p) s) fun e => e = s.dev) ∧ ∀ acked : Bool, Ends s (exec (.pdTxComplete p acked) s) fun e => e = s.dev) ∧
    (s.dev.is (F.PD_TXCMD_BUSY p.val) = true →
      let q := s.dev.port p.val
      let undone := if isControl q.tx 3 && q.txSop == 0 then s.dev.reserve p.val q.oldResv else s.dev
      (Ends s (exec (.pdRetryTimeout p) s) fun e =>
        if q.tries < 3 then
          (let x := s.dev.modPort p.val fun y => { y with tries := y.tries + 1 }
           e = if s.dev.phyHeld then x else x.emit .pdMsg p.val [q.txSop] q.tx)
        else e.get (F.PD_TXCMD_BUSY p.val) = 0 ∧ e.get (F.PD_TXCMD_STATUS p.val) = statusCode .eTimeout ∧
          ({ undone with pd := e.pd } : Dev).Only e [F.PD_TXCMD_BUSY p.val, F.PD_TXCMD_STATUS p.val] ∧
          e.port p.val = { undone.port p.val with
            tx := [], tries := 0
            cable := if q.txSop = 1 ∧ isVdm q.tx 0xFF00 1 0 = true then {} else q.cable } ∧
          ∀ o : Nat, o ≠ p.val → e.port o = s.dev.port o) ∧
      (Ends s (exec (.pdTxComplete p true) s) fun e => ∃ x : Dev,
        x.get (F.PD_TXCMD_BUSY p.val) = 0 ∧ x.get (F.PD_TXCMD_STATUS p.val) = 0 ∧
        ({ s.dev with pd := x.pd } : Dev).Only x [F.PD_TXCMD_BUSY p.val, F.PD_TXCMD_STATUS p.val] ∧
        x.port p.val = { q.setNextId q.txSop ((q.nextId q.txSop + 1) % 8) with tx := [], tries := 0 } ∧
        (∀ o : Nat, o ≠ p.val → x.port o = s.dev.port o) ∧
        e = s.dev.followUsb (if q.txSop = 0 then x.sent p.val q.tx
          else if isControl q.tx 13 then x.modPort p.val fun y => y.setLastId q.txSop 8 else x) p.val) ∧
      (Ends s (exec (.pdTxComplete p false) s) fun e =>
        e.get (F.PD_TXCMD_BUSY p.val) = 0 ∧ e.get (F.PD_TXCMD_STATUS p.val) = statusCode .eFlushed ∧
        ({ undone with pd := e.pd } : Dev).Only e [F.PD_TXCMD_BUSY p.val, F.PD_TXCMD_STATUS p.val] ∧
        e.port p.val = { undone.port p.val with tx := [], tries := 0 } ∧ ∀ o : Nat, o ≠ p.val → e.port o = s.dev.port o))

/-- PD_TXCMD with GO, accepted where none is in progress and LEN is 2 to 30, and otherwise rejected with E_BUSY or E_RANGE. A message goes
out from PD_TXBUF with BUSY and its SOP*'s MessageID, a Soft_Reset with 0; without a partner it ends at once with E_LINK, on SOP' or SOP''
without VCONN with E_STATE, one that the spec says is never sent with E_STATE (the model's choice, log entry 78), an Accept that the budget
has no room for with E_NORES, one that it has room for reserves its power. Hard_Reset acts on the port and is a fault event; Cable_Reset
needs VCONN (R96, R101, R103, R108, R110, R128).

A transmission without GoodCRC is repeated up to three times, the repeats held back with the PHY, and then ends with E_TIMEOUT, a cable
that did not answer counting as unmarked; one that the partner acknowledges ends with status 0 and takes the next MessageID of its SOP*,
and what it agreed to follows; one that a collision discards ends with E_FLUSHED; a reservation that its Accept made is undone where it
did not arrive. Without a transmission nothing changes (R101, R104, R110, R118, R119).
Where the spec leaves a reading open this follows the model's own: log entries 23, 24, 78. -/
def Obligations.PdTransmissions : Prop :=
  PdTransmitRule ∧ PdTransmitEndsRule

/-- A hard reset empties the receive FIFO, ends the contract, takes VBUS off a source and limits a sink's draw; one received, a slow
transition, an over-voltage and an over-current act with one, each with its own fault source, and do nothing on a port that they cannot
concern; a source's loss of VBUS counts as an over-current of the hub port (R107, R108, R115, R189, Table 04.6). -/
def PdFaultsRule : Prop :=
  ∀ (s : State) (p : Fin 5), s.dev.up = true →
    (let x := s.dev.hardReset p.val
     x.get (F.PD_RXSTAT_COUNT p.val) = 0 ∧ x.get (F.PD_STAT_CONTRACT p.val) = 0 ∧ x.get (F.PD_STAT_PPS p.val) = 0 ∧
       x.get (F.PD_STAT_EPR p.val) = 0 ∧
       if s.dev.isSource p.val then (x.port p.val).vbg = false ∧ (x.port p.val).recovering = true else (x.port p.val).limited = true) ∧
    (Ends s (exec (.pdHardReset p) s) fun e =>
      e = if s.dev.pdDeaf p.val then s.dev else s.dev.followPort ((s.dev.hardReset p.val).pdFault p.val 3 0 1) p.val) ∧
    (Ends s (exec (.pdSrcSlow p false) s) fun e =>
      e = if s.dev.isSource p.val = true ∧ ((s.dev.port p.val).trans = 2 ∨ (s.dev.port p.val).trans = 8) then
        s.dev.followPort (((s.dev.sendHardReset p.val).pdFault p.val 4 0 2).pdFault p.val 3 0 1) p.val else s.dev) ∧
    (Ends s (exec (.pdSrcSlow p true) s) fun e =>
      e = if s.dev.isSource p.val = true ∧ ((s.dev.port p.val).recovering = true ∨ (s.dev.port p.val).trans = 5) then
        s.dev.followPort ((s.dev.modPort p.val fun y => { y with notLow := true, vbg := false }).pdFault p.val 4 0 2) p.val else s.dev) ∧
    (Ends s (exec (.pdSnkSlow p) s) fun e =>
      e = if s.dev.isSink p.val = true ∧ (s.dev.port p.val).trans ∈ [3, 4, 6, 7] then
        s.dev.followPort ((((s.dev.sendHardReset p.val).modPort p.val fun y => { y with limited := true }).pdFault p.val 5 0 3).pdFault
          p.val 3 0 1) p.val else s.dev) ∧
    (Ends s (exec (.pdOvp p) s) fun e =>
      e = if s.dev.isSink p.val = true then
        s.dev.followPort (((((s.dev.modPort p.val fun y => { y with ovp := true }).selectInput).sendHardReset p.val).pdFault p.val 6 0 4).pdFault
          p.val 3 0 1) p.val else s.dev) ∧
    (Ends s (exec (.pdOcp p) s) fun e =>
      e = if s.dev.isSource p.val = true ∧ (s.dev.port p.val).vbg = true then
        s.dev.followPort (((s.dev.sendHardReset p.val).pdFault p.val 7 0 5).pdFault p.val 3 0 1) p.val else s.dev) ∧
    (p.val ≠ 0 → ∀ d : Dev, s.dev.isSource p.val = true → (s.dev.port p.val).vbg = true → (d.port p.val).vbg = false →
      s.dev.followPort d p.val = s.dev.followUsb (d.overCurrent p.val) p.val)

/-- VBUS transitions: the set-point is driven after the Accept; VBUS in its window gives PS_RDY, CONTRACT and PD_CONTRACT on a source, and
lifts the limit and sets CONTRACT and PPS on a sink, a PPS contract on UP with PPSEN alone; in a PR_Swap the initial source, below 0.8 V,
sends PS_RDY as the sink, and the new source sends it at vSafe5V; during a PHY hold PS_RDY waits; after a hard reset vSafe5V is restored
only once VBUS was low. A measurement of VBUS is shown, and nothing else changes where no transition waits for it
(R96, R105 to R108, R119, Tables 04.2, 04.4). -/
def PdVbusRule : Prop :=
  ∀ (s : State) (p : Fin 5), s.dev.up = true →
    let q := s.dev.port p.val
    let seen := fun (x : Dev) (volt cur : Fin 4096) => x.get (F.PD_VBUS_VOLT p.val) = volt.val ∧ x.get (F.PD_VBUS_CUR p.val) = cur.val ∧
      s.dev.Only x [F.PD_VBUS_VOLT p.val, F.PD_VBUS_CUR p.val]
    (Ends s (exec (.pdSrcSetpoint p) s) fun e =>
      e = if s.dev.isSource p.val = true ∧ q.trans = 1 then
        (s.dev.emit .pdVset p.val [q.reqMv] []).modPort p.val fun y => { y with trans := 2 } else s.dev) ∧
    (∀ volt cur : Fin 4096, Ends s (exec (.pdSrcPsRdy p volt cur) s) fun e => ∃ x : Dev, seen x volt cur ∧
      if s.dev.isSource p.val = false ∨ q.trans ∉ [2, 5, 8] then e = x
      else if s.dev.phyHeld = true then e = x.modPort p.val fun y => { y with psRdyDue := true }
      else if q.trans = 2 then ∃ y : Dev, e = y.pdEvent p.val 2 0 ∧ y.get (F.PD_STAT_CONTRACT p.val) = 1 ∧
        ((x.pdSendControl p.val 6).modPort p.val fun z => { z with trans := 0, mv := z.reqMv, ma := z.reqMa }).Only y
          [F.PD_STAT_CONTRACT p.val]
      else if q.trans = 5 then ∃ y : Dev, y.tcState p.val = 2 ∧ y.get (F.PD_STAT_PWRROLE p.val) = 0 ∧
        x.Only y [F.PD_STAT_TCSTATE p.val, F.PD_STAT_PWRROLE p.val] ∧
        e = (y.pdSendControl p.val 6).modPort p.val fun z => { z with trans := 6, notLow := false, adv := 0 }
      else e = (x.pdSendControl p.val 6).modPort p.val fun z => { z with trans := 0 }) ∧
    (∀ low : Bool, Ends s (exec (.pdSrcRecoveryEnd p low) s) fun e =>
      if s.dev.isSource p.val = true ∧ q.recovering = true ∧ low = true ∧ s.dev.is (F.PD_STAT_FENCED p.val) = false ∧
          s.dev.maySource p.val = true then
        (let x := (s.dev.emit .pdVset p.val [5000] []).modPort p.val fun y => { y with recovering := false, notLow := false, vbg := true }
         e = if p.val = 0 then x.startReverse else x)
      else e = s.dev) ∧
    (∀ volt cur : Fin 4096, Ends s (exec (.pdSnkSettled p volt cur) s) fun e => ∃ x : Dev, seen x volt cur ∧
      if s.dev.isSink p.val = true ∧ q.trans = 4 ∧ (q.reqPps = false ∨ (p.val = 0 ∧ s.dev.is (F.PD_CTRL_PPSEN 0) = true)) then
        ∃ y : Dev, e = y.selectInput.pdEvent p.val 2 0 ∧ y.get (F.PD_STAT_CONTRACT p.val) = 1 ∧
          y.get (F.PD_STAT_PPS p.val) = bitNat q.reqPps ∧
          (x.modPort p.val fun z => { z with
            trans := 0, limited := false, lost := false, vin := z.vin && z.mv == z.reqMv, mv := z.reqMv, ma := z.reqMa }).Only y
            [F.PD_STAT_CONTRACT p.val, F.PD_STAT_PPS p.val]
      else e = x)

/-- Keepalives keep EPR mode and a PPS contract alive, each with the next MessageID, while the port is not deaf (R123). -/
def PdKeepaliveRule : Prop :=
  ∀ (s : State) (p : Fin 5), s.dev.up = true →
    let own := fun m : List Byte => (s.dev.emit .pdMsg p.val [0] (withId m (s.dev.port p.val).txId)).modPort p.val fun y =>
      { y with txId := (y.txId + 1) % 8 }
    (Ends s (exec (.eprKeepalive p) s) fun e =>
      e = if s.dev.is (F.PD_STAT_EPR p.val) = true ∧ s.dev.pdDeaf p.val = false then
        own (leBytes 2 (bits (leNat (pdControl s.dev p.val 16)) 0 12 + 0x9000) ++ leBytes 2 0x8002 ++ leBytes 2 3) else s.dev) ∧
    (Ends s (exec (.ppsRequestRepeat p) s) fun e =>
      e = if s.dev.is (F.PD_STAT_PPS p.val) = true ∧ s.dev.pdDeaf p.val = false ∧ (s.dev.port p.val).lastReq ≠ [] then
        own (s.dev.port p.val).lastReq else s.dev)

/-- A moisture measurement is shown, on an attached port the SBU pins alone; it moves an unattached wet port, and an attached one at ACTLIM
with a Hard_Reset where it sources, into MoistureHold with its event; between LIMIT and ACTLIM it raises the event alone; CLEARN clear
ones in a row end MoistureHold; and with EN 0 nothing changes (R111, R112, R117). -/
def MoistureRule : Prop :=
  ∀ (s : State) (p : Fin 5) (cc1 cc2 sbu1 sbu2 : Fin 4), s.dev.up = true →
    Ends s (exec (.pdMoistureMeasure p cc1 cc2 sbu1 sbu2) s) fun e =>
      if s.dev.is (F.PD_MOISTCFG_EN p.val) = false then e = s.dev
      else ∃ x : Dev, x.get (F.PD_MOIST_SBU1 p.val) = sbu1.val ∧ x.get (F.PD_MOIST_SBU2 p.val) = sbu2.val ∧
        x.get (F.PD_MOIST_CC1 p.val) = (if s.dev.attached p.val then s.dev.get (F.PD_MOIST_CC1 p.val) else cc1.val) ∧
        x.get (F.PD_MOIST_CC2 p.val) = (if s.dev.attached p.val then s.dev.get (F.PD_MOIST_CC2 p.val) else cc2.val) ∧
        s.dev.Only x [F.PD_MOIST_CC1 p.val, F.PD_MOIST_CC2 p.val, F.PD_MOIST_SBU1 p.val, F.PD_MOIST_SBU2 p.val] ∧
        let lim := s.dev.get (F.PD_MOISTCFG_LIMIT p.val)
        let arg := moistWord (x.get (F.PD_MOIST_CC1 p.val)) (x.get (F.PD_MOIST_CC2 p.val)) sbu1.val sbu2.val
        if s.dev.attached p.val = true then
          if s.dev.get (F.PD_MOISTCFG_ACTLIM p.val) ≤ max sbu1.val sbu2.val then
            e = s.dev.followPort (((if s.dev.isSource p.val then (x.sendHardReset p.val).pdFault p.val 3 0 1 else x).moistHold p.val).pdFault
              p.val 8 arg 6) p.val
          else e = if lim ≤ max sbu1.val sbu2.val then s.dev.followPort (x.pdFault p.val 8 arg 6) p.val else x
        else if s.dev.tcState p.val = 6 then
          if inMoisture lim cc1.val cc2.val sbu1.val sbu2.val = true then e = x.modPort p.val fun y => { y with clear := 0 }
          else if s.dev.get (F.PD_MOISTCFG_CLEARN p.val) ≤ (s.dev.port p.val).clear + 1 then ∃ y : Dev,
            e = y.pdEvent p.val 9 0 ∧ y.tcState p.val = 0 ∧
            (x.modPort p.val fun z => { z with clear := 0, wakeMasked := false }).Only y [F.PD_STAT_TCSTATE p.val]
          else e = x.modPort p.val fun y => { y with clear := y.clear + 1 }
        else if s.dev.tcState p.val = 0 ∧ inMoisture lim cc1.val cc2.val sbu1.val sbu2.val = true then
          e = s.dev.followPort ((x.moistHold p.val).pdFault p.val 8 arg 6) p.val
        else e = x

/-- A hard reset empties the receive FIFO, ends the contract, takes VBUS off a source and limits a sink's draw; one received, a slow
transition, an over-voltage and an over-current act with one, each with its own fault source, and do nothing on a port that they cannot
concern; a source's loss of VBUS counts as an over-current of the hub port (R107, R108, R115, R189, Table 04.6).

VBUS transitions: the set-point is driven after the Accept; VBUS in its window gives PS_RDY, CONTRACT and PD_CONTRACT on a source, and
lifts the limit and sets CONTRACT and PPS on a sink, a PPS contract on UP with PPSEN alone; in a PR_Swap the initial source, below 0.8 V,
sends PS_RDY as the sink, and the new source sends it at vSafe5V; during a PHY hold PS_RDY waits; after a hard reset vSafe5V is restored
only once VBUS was low. A measurement of VBUS is shown, and nothing else changes where no transition waits for it
(R96, R105 to R108, R119, Tables 04.2, 04.4).

Keepalives keep EPR mode and a PPS contract alive, each with the next MessageID, while the port is not deaf (R123).

A moisture measurement is shown, on an attached port the SBU pins alone; it moves an unattached wet port, and an attached one at ACTLIM
with a Hard_Reset where it sources, into MoistureHold with its event; between LIMIT and ACTLIM it raises the event alone; CLEARN clear
ones in a row end MoistureHold; and with EN 0 nothing changes (R111, R112, R117).
Where the spec leaves a reading open this follows the model's own: log entries 23, 24, 26, 76, 79. -/
def Obligations.PdPower : Prop :=
  PdFaultsRule ∧ PdVbusRule ∧ PdKeepaliveRule ∧ MoistureRule

/-! ### Charger and cell monitor (chapter 05) -/

/-- The pack: presence that has held is qualified, with every cell OK, CEL_PACK_BACK and the open-wire test; its loss stops reverse operation
with UP's source failing, makes the cells ABSENT, drops a test and every balancing switch, raises CEL_PACK_LOSS, closes the session with
PACK_LOST and has a grant decided afresh; over-current suspends the session for one second, after which it resumes; loss of the input closes
it and selects the input anew. None of them changes anything where there is nothing for it to act on
(R143, R144, R148 to R151, Table 05.6).
Where the spec leaves a reading open this follows the model's own: log entries 27, 28, 75, 80. -/
def Obligations.Pack : Prop :=
  ∀ s : State, s.dev.up = true →
    (Ends s (exec .celPackBack s) fun e =>
      if s.dev.pack.qual = true ∧ s.dev.is F.CEL_STAT_PRESENT = false then ∃ x : Dev,
        e = ((x.celEvent 6 0).owStart).showLowest ∧ x.get F.CEL_STAT_PRESENT = 1 ∧
        (∀ k : Fin 8, x.cellState k.val = if k.val < s.dev.nCells then 1 else 0) ∧
        ({ s.dev with pack := { s.dev.pack with qual := false } } : Dev).Only x (F.CEL_STAT_PRESENT :: (List.range 8).map F.CEL_CELL_STATE)
      else e = s.dev) ∧
    (∀ (vr : Fin 16384) (left : Fin 801), Ends s (exec (.packLoss vr left) s) fun e =>
      if s.dev.is F.CEL_STAT_PRESENT = true then ∃ x y : Dev,
        e = ((y.celEvent 0 0).closeFault 2 0 9).redecide vr.val left.val ∧
        x.get F.CEL_STAT_PRESENT = 0 ∧ x.get F.CEL_STAT_OWBUSY = 0 ∧ x.get F.CEL_STAT_LOWEST = 0 ∧
        (∀ k : Fin 8, x.bit F.CEL_BAL_MASK k.val = false ∧ x.cellState k.val = if k.val < s.dev.nCells then 2 else 0) ∧
        ({ s.dev with pack := { s.dev.pack with qual := false, sumBad := false, suspect := false, owMoved := [] } } : Dev).Only x
          ([F.CEL_STAT_PRESENT, F.CEL_STAT_OWBUSY, F.CEL_STAT_LOWEST, F.CEL_BAL_MASK] ++ (List.range 8).map F.CEL_CELL_STATE) ∧
        if s.dev.get F.CHG_STAT_STATE = 7 then ∃ z : Dev, y = z.upFails ∧ z.get F.CHG_STAT_STATE = 0 ∧ x.Only z [F.CHG_STAT_STATE]
        else y = x
      else e = s.dev) ∧
    (Ends s (exec .chgOcp s) fun e =>
      if s.dev.pack.sess = true ∧ s.dev.switching = true then ∃ x : Dev,
        e = (x.raise F.CHG_INT_OCP 0x308 [0] 0 0 0).fault 0x218 7 ∧ x.get F.CHG_STAT_STATE = 6 ∧ x.get F.CHG_STAT_SUSP = 4 ∧
        s.dev.Only x [F.CHG_STAT_STATE, F.CHG_STAT_SUSP]
      else e = s.dev) ∧
    (Ends s (exec .chgOcpResume s) fun e =>
      if s.dev.pack.sess = true ∧ s.dev.get F.CHG_STAT_SUSP = 4 then ∃ x : Dev,
        e = x.suspOrResume ∧ x.get F.CHG_STAT_SUSP = 0 ∧ x.get F.CHG_STAT_STATE = 3 ∧ s.dev.Only x [F.CHG_STAT_STATE, F.CHG_STAT_SUSP]
      else e = s.dev) ∧
    (Ends s (exec .chgInputLost s) fun e =>
      let b := s.dev.get F.CHG_STAT_INPORT
      let x := (s.dev.closeFault 3 0 9).modPack fun p => { p with short := true }
      e = if b = 0 then if s.dev.pack.sess then x.selectInput else s.dev
        else s.dev.followUsb ((x.modPort (b - 1) fun y => { y with lost := true, vin := false }).selectInput) (b - 1))

/-- Sessions: one opens in PRECHARGE where every start condition holds, and from DONE only on recharge; it ends by a failed precharge in
PRECHARGE, by completion in CV, by SAFETY, and by EN at 0, each with its cause and fault source; the watchdog stops the charger, a session
with SOFT and reverse operation with UP's source failing, until the next KICK; a change of INSEL selects the input anew
(R130, R134 to R137, R153, R158). -/
def ChargeSessionsRule : Prop :=
  ∀ s : State, s.dev.up = true →
    let opened := fun e : Dev => e.get F.CHG_STAT_STATE = 2 ∧ e.get F.CHG_STAT_SUSP = 0 ∧
      ({ s.dev with pack := { s.dev.pack with sess := true, start := s.dev.get F.SUP_SECONDS_COUNT, charge := 0, trim := 0 } } : Dev).Only
        e [F.CHG_STAT_STATE, F.CHG_STAT_SUSP]
    (Ends s (exec .chgSessionOpen s) fun e =>
      if s.dev.mayCharge = true ∧ s.dev.pack.sess = false ∧ s.dev.get F.CHG_STAT_STATE ≠ 5 then opened e else e = s.dev) ∧
    (Ends s (exec .chgRecharge s) fun e =>
      if s.dev.get F.CHG_STAT_STATE = 5 ∧ s.dev.mayCharge = true then opened e else e = s.dev) ∧
    (Ends s (exec .chgPrechgFail s) fun e =>
      e = if s.dev.pack.sess = true ∧ s.dev.get F.CHG_STAT_STATE = 2 then (s.dev.closeSession 5 0).fault 0x218 8 else s.dev) ∧
    (Ends s (exec .chgDone s) fun e =>
      e = if s.dev.pack.sess = true ∧ s.dev.get F.CHG_STAT_STATE = 4 then (s.dev.closeSession 1 5).fault 0x218 9 else s.dev) ∧
    (Ends s (exec .chgSafety s) fun e =>
      e = if s.dev.pack.sess = true then (s.dev.closeSession 4 0).fault 0x218 8 else s.dev) ∧
    (Ends s (exec .chgWdtExpiry s) fun e => ∃ y : Dev,
      (if s.dev.get F.CHG_STAT_STATE = 7 then ∃ z : Dev, y = z.upFails ∧ z.get F.CHG_STAT_STATE = 0 ∧
          ({ s.dev with pack := { s.dev.pack with dead := true } } : Dev).Only z [F.CHG_STAT_STATE]
        else y = { s.dev with pack := { s.dev.pack with dead := true } }) ∧
      e = if y.pack.sess then (y.closeSession 7 0).fault 0x218 9 else y) ∧
    (∀ (w v : Word) (c : Instr), (c = .chgKick w ∧ v = w ||| 0x10000) ∨ (c = .chgDisable w ∧ v = w &&& 0xFFFFFFFD) →
      setsReserved R.CHG_CTRL v = false → Ends s (exec c s) fun e =>
        if 5 < bits v.toNat 4 3 then RecordedGlb s.dev e 0x3000 .eField
        else ∃ x : Dev, x.get F.CHG_CTRL_EN = bits v.toNat 1 1 ∧ x.get F.CHG_CTRL_INSEL = bits v.toNat 4 3 ∧
          ({ s.dev with pack := { s.dev.pack with dead := if bitOf v.toNat 16 then false else s.dev.pack.dead } } : Dev).Only x
            [F.CHG_CTRL_EN, F.CHG_CTRL_INSEL, F.CHG_CTRL_LOCK] ∧
          let y := if s.dev.is F.CHG_CTRL_EN = true ∧ bits v.toNat 1 1 = 0 then x.closeFault 7 0 9 else x
          e = if bits v.toNat 4 3 = s.dev.get F.CHG_CTRL_INSEL then y else y.selectInput)

/-- A closed charge session leaves its record (start, charge, duration, cause) and no session, tells T000, and is a fault event; with no
session open charging just ends, and REVERSE and FENCED stay (R137, R155). -/
def SessionRecordRule : Prop :=
  ∀ (d : Dev) (cause state src : Nat),
    (d.pack.sess = true → 1 ≤ cause → cause ≤ 8 → state < 16 →
      let e := d.closeSession cause state
      d.closeFault cause state src = e.fault 0x218 src ∧
      e.get F.CHG_SESS0_START = d.pack.start % 2 ^ 32 ∧ e.get F.CHG_SESS1_CHARGE = min (2 ^ 32 - 1) (d.pack.charge / 100000) ∧
        e.get F.CHG_SESS2_DURATION = min (2 ^ 23 - 1) ((d.get F.SUP_SECONDS_COUNT + 2 ^ 32 - d.pack.start) % 2 ^ 32) ∧
        e.get F.CHG_SESS2_CAUSE = cause ∧ e.get F.CHG_SESS2_VALID = 1 ∧ e.get F.CHG_STAT_STATE = state ∧ e.get F.CHG_STAT_SUSP = 0 ∧
        e.bit F.CHG_INT_END (cause - 1) = true ∧ e.pack = { d.pack with sess := false, charge := 0 }) ∧
    (d.pack.sess = false → state < 16 → let e := d.closeFault cause state src
      if d.get F.CHG_STAT_STATE = 7 ∨ d.get F.CHG_STAT_STATE = 8 then e = d
      else e.get F.CHG_STAT_STATE = state ∧ d.Only e [F.CHG_STAT_STATE])

/-- Sessions: one opens in PRECHARGE where every start condition holds, and from DONE only on recharge; it ends by a failed precharge in
PRECHARGE, by completion in CV, by SAFETY, and by EN at 0, each with its cause and fault source; the watchdog stops the charger, a session
with SOFT and reverse operation with UP's source failing, until the next KICK; a change of INSEL selects the input anew
(R130, R134 to R137, R153, R158).

A closed charge session leaves its record (start, charge, duration, cause) and no session, tells T000, and is a fault event; with no
session open charging just ends, and REVERSE and FENCED stay (R137, R155).
Where the spec leaves a reading open this follows the model's own: log entries 28, 75, 80. -/
def Obligations.Charging : Prop :=
  ChargeSessionsRule ∧ SessionRecordRule

/-- A scan shows what it measured together, the cells at the pin of a running open-wire test keeping their readings; the gauge integrates
the current and saturates at the ends of its 48 bits with SAT (R139, R141, R549). -/
def CellScanRule : Prop :=
  ∀ (s : State) (cells : List (Fin 16384)) (pk : Fin 16384) (cur : BitVec 16) (n1 n2 b : Fin 16384) (short : Bool), s.dev.up = true →
    (Ends s (exec (.celScan cells pk cur n1 n2 b short) s) fun e =>
      e = s.dev.celScan (cells.map Fin.val) pk.val cur.toNat n1.val n2.val b.val short) ∧
    (let x := s.dev.scanRegs (cells.map Fin.val) pk.val cur.toNat n1.val n2.val b.val
     x.get F.CEL_PACK_CODE = pk.val ∧ x.get F.CEL_CUR_CUR = cur.toNat ∧ x.get F.CEL_NTC_NTC1 = n1.val ∧ x.get F.CEL_NTC_NTC2 = n2.val ∧
       x.get F.CEL_BATID_CODE = b.val ∧
       (∀ k : Fin 8, k.val < s.dev.nCells → x.get (F.CEL_CELL_CODE k.val) =
         if s.dev.withheld k.val then s.dev.get (F.CEL_CELL_CODE k.val) else (((cells.map Fin.val)[k.val]?).getD 0) % 2 ^ 14)) ∧
    (∀ ma : Int, let x := s.dev.gaugeAdd ma
      (-(2 ^ 47) < s.dev.pack.gauge + ma ∧ s.dev.pack.gauge + ma < 2 ^ 47 - 1 → x = { s.dev with pack := { s.dev.pack with gauge := s.dev.pack.gauge + ma } }) ∧
      (2 ^ 47 - 1 ≤ s.dev.pack.gauge + ma ∧ 0 < ma → x.pack.gauge = 2 ^ 47 - 1 ∧ x.get F.CEL_GAUGEH_SAT = 1) ∧
      (s.dev.pack.gauge + ma ≤ -(2 ^ 47) ∧ ma < 0 → x.pack.gauge = -(2 ^ 47) ∧ x.get F.CEL_GAUGEH_SAT = 1))

/-- What a scan leads to: the band of the colder and the hotter NTC is shown, and entering the discharge-limit band raises CEL_TEMP and
withdraws a grant; a session goes from PRECHARGE to CC with the lowest cell at 3.00 V and from CC to CV with the pack at its regulation
voltage; it is suspended with the reason that holds, and resumes once none does, the steward runs and the watchdog has not expired
(R28, R135, R136, R138, R147, R173). -/
def ScanFollowsRule : Prop :=
  ∀ d : Dev,
    (let n1 := d.get F.CEL_NTC_NTC1
     let n2 := if d.is F.CEL_CFG_NTC2EN then d.get F.CEL_NTC_NTC2 else n1
     let hot := decide (min n1 n2 < d.get F.CEL_TLIM2_DSGHOT) && d.is F.CEL_STAT_PRESENT
     ∃ x : Dev, x.get F.CHG_STAT_TBAND = d.band (max n1 n2) (min n1 n2) ∧
      ({ d with pack := { d.pack with dsgHot := hot } } : Dev).Only x [F.CHG_STAT_TBAND] ∧
      d.scanTemp = if hot && !d.pack.dsgHot then ((x.celEvent 5 0).fault 0x218 13).withdraw else x) ∧
    (let e := d.stageUp
     e.get F.CHG_STAT_STATE =
        (if d.pack.sess = true ∧ d.get F.CHG_STAT_STATE = 2 ∧ 3000 * 16384 ≤ d.get F.CEL_STAT_LOWEST * 5000 then 3
         else if d.pack.sess = true ∧ d.get F.CHG_STAT_STATE = 3 ∧ d.nCells * d.vReg * 16384 ≤ d.get F.CEL_PACK_CODE * 40000 then 4
         else d.get F.CHG_STAT_STATE) ∧ d.Only e [F.CHG_STAT_STATE]) ∧
    (let e := d.suspOrResume
     d.Only e [F.CHG_STAT_STATE, F.CHG_STAT_SUSP] ∧
      (d.pack.sess = true → d.get F.CHG_STAT_SUSP ≠ 4 → d.suspReason ≠ 0 → e.get F.CHG_STAT_STATE = 6 ∧ e.get F.CHG_STAT_SUSP = d.suspReason) ∧
      (d.pack.sess = true → d.get F.CHG_STAT_SUSP ≠ 4 → d.suspReason = 0 → d.get F.CHG_STAT_STATE = 6 → d.stewardRuns = true →
        d.pack.dead = false → e.get F.CHG_STAT_SUSP = 0 ∧
        e.get F.CHG_STAT_STATE = if 3000 * 16384 ≤ d.get F.CEL_STAT_LOWEST * 5000 then 3 else 2) ∧
      (d.pack.sess = false ∨ d.get F.CHG_STAT_SUSP = 4 → e = d))

/-- The open-wire test: GO or the period starts it at CELL0 with a present pack, not from S4 on, GO being rejected with E_STATE without one
or while a test runs; a pin that has ended is noted and the next is tested, and the last brings the verdict; a moved pin makes its cells
OPEN, with its bit, its event and its fault source. CLR sets the gauge to 0 (R141, R144, R146, R152, R161). -/
def OpenWireTestRule : Prop :=
  ∀ s : State, s.dev.up = true →
    let starts := fun x e : Dev => e.get F.CEL_STAT_OWBUSY = 1 ∧
      ({ x with pack := { x.pack with owPin := 0, owMoved := [] } } : Dev).Only e [F.CEL_STAT_OWBUSY]
    (∀ w : Word, setsReserved R.CEL_OWCFG (w ||| 0x100) = false → Ends s (exec (.owTestGo w) s) fun e =>
      if s.dev.is F.CEL_STAT_PRESENT = false ∨ s.dev.is F.CEL_STAT_OWBUSY = true then RecordedGlb s.dev e 0x3854 .eState
      else ∃ x : Dev, x.get F.CEL_OWCFG_PERIOD = bits w.toNat 0 8 ∧ s.dev.Only x [F.CEL_OWCFG_PERIOD, F.CEL_OWCFG_GO] ∧
        if s.dev.get F.SUP_STAT_STAGE < 4 ∧ s.dev.nCells ≠ 0 then starts x e else e = x) ∧
    (Ends s (exec .owTestPeriodic s) fun e =>
      if s.dev.get F.CEL_OWCFG_PERIOD ≠ 0 ∧ s.dev.get F.SUP_STAT_STAGE < 4 ∧ s.dev.is F.CEL_STAT_PRESENT = true ∧
          s.dev.is F.CEL_STAT_OWBUSY = false ∧ s.dev.nCells ≠ 0 then starts s.dev e else e = s.dev) ∧
    (∀ moved : Bool, Ends s (exec (.owPinDone moved) s) fun e =>
      if s.dev.is F.CEL_STAT_OWBUSY = false then e = s.dev
      else
        let x : Dev := { s.dev with pack := { s.dev.pack with
          owMoved := if moved then s.dev.pack.owMoved ++ [s.dev.pack.owPin] else s.dev.pack.owMoved } }
        if s.dev.pack.owPin < s.dev.nCells then e = { x with pack := { x.pack with owPin := s.dev.pack.owPin + 1 } } else e = x.owVerdict) ∧
    (∀ k : Nat, k ≤ s.dev.nCells → s.dev.nCells ≤ 8 → ∃ x : Dev, s.dev.pinOpen k = (x.celEvent 1 k).fault 0x218 10 ∧
      x.bit F.CEL_OWCFG_OPEN k = true ∧
      (∀ c ∈ if k = 0 then [0] else if k = s.dev.nCells then [k - 1] else [k - 1, k], x.cellState c = 3) ∧
      s.dev.Only x [F.CEL_OWCFG_OPEN, F.CEL_CELL_STATE (k - 1), F.CEL_CELL_STATE k]) ∧
    (∀ w : Word, setsReserved R.CEL_GAUGEH (w ||| 0x40000000) = false → Ends s (exec (.gaugeClear w) s) fun e =>
      ({ s.dev with pack := { s.dev.pack with gauge := 0 } } : Dev).Only e [F.CEL_GAUGEH_SAT])

/-- A scan shows what it measured together, the cells at the pin of a running open-wire test keeping their readings; the gauge integrates
the current and saturates at the ends of its 48 bits with SAT (R139, R141, R549).

What a scan leads to: the band of the colder and the hotter NTC is shown, and entering the discharge-limit band raises CEL_TEMP and
withdraws a grant; a session goes from PRECHARGE to CC with the lowest cell at 3.00 V and from CC to CV with the pack at its regulation
voltage; it is suspended with the reason that holds, and resumes once none does, the steward runs and the watchdog has not expired
(R28, R135, R136, R138, R147, R173).

The open-wire test: GO or the period starts it at CELL0 with a present pack, not from S4 on, GO being rejected with E_STATE without one
or while a test runs; a pin that has ended is noted and the next is tested, and the last brings the verdict; a moved pin makes its cells
OPEN, with its bit, its event and its fault source. CLR sets the gauge to 0 (R141, R144, R146, R152, R161).
Where the spec leaves a reading open this follows the model's own: log entries 28, 72, 80. -/
def Obligations.CellMonitor : Prop :=
  CellScanRule ∧ ScanFollowsRule ∧ OpenWireTestRule

/-! ### Ration (chapter 06) -/

/-- A word on BURST_REQ does nothing while the bound port is not running. Otherwise the frame samples the selected input, if any, lets a
LIMIT_N that nothing holds low rise, and is answered with the grant word: alone while EN is 0, for a word with its start bit clear and for
a repeat of the last tag; a word with odd parity or a reserved bit set is counted, raises RAT_PARERR and is fault source 15; any other
takes its tag and is decided (R162, R163, R166). -/
def BurstRequestRule : Prop :=
  ∀ (s : State) (w : BitVec 16) (vr : Fin 16384) (v c : Fin 4096), s.dev.up = true →
    (s.dev.is (F.TDM_STAT_RUNNING (s.dev.get F.RAT_CTRL_PORT)) = false → Ends s (exec (.burstRequest w vr v c) s) fun e => e = s.dev) ∧
    (s.dev.is (F.TDM_STAT_RUNNING (s.dev.get F.RAT_CTRL_PORT)) = true → Ends s (exec (.burstRequest w vr v c) s) fun e => ∃ x y : Dev,
      (let b := s.dev.get F.CHG_STAT_INPORT
       if b = 0 then x = s.dev
       else x.get (F.PD_VBUS_VOLT (b - 1)) = v.val ∧ x.get (F.PD_VBUS_CUR (b - 1)) = c.val ∧
        s.dev.Only x [F.PD_VBUS_VOLT (b - 1), F.PD_VBUS_CUR (b - 1)]) ∧
      y = ({ x with rat := { x.rat with ended := none } } : Dev).limitRise ∧
      if bitOf w.toNat 15 = false ∨ s.dev.is F.RAT_CTRL_EN = false then e = y.sendGrant
      else if parity16 w.toNat ≠ 0 ∨ bits w.toNat 1 3 ≠ 0 then ∃ z : Dev,
        e = ((z.raise F.RAT_INT_PARERR 0x502 [0] 0 0 0).fault 0x219 15).sendGrant ∧
        z.get F.RAT_CNT1_PARERR = satInc 0xFFFF (s.dev.get F.RAT_CNT1_PARERR) % 0x10000 ∧ y.Only z [F.RAT_CNT1_PARERR]
      else if s.dev.rat.tag = some (bits w.toNat 4 4) then e = y.sendGrant
      else ∃ z : Dev, e = (z.decideBurst w.toNat vr.val).sendGrant ∧ z.get F.RAT_STAT_TAG = bits w.toNat 4 4 ∧
        ({ y with rat := { y.rat with tag := some (bits w.toNat 4 4), lean := s.dev.is F.SUP_STAT_WARN } } : Dev).Only z [F.RAT_STAT_TAG])

/-- The decision: level 0 ends a grant in force as RELEASED and is recorded so without one; a request that a condition of R168 forbids is
refused with the first such reason and counted, no grant coming into force and one in force running on; otherwise the highest level at or
below the one asked for that fits is granted for the longest duration that fits, and where none fits the request is refused with ENERGY.
Nothing but RAT_LASTREQ, the counts, the state of the grant and, after a decision by the model, RAT_HEAD changes (R168, R169, R172). -/
def BurstDecisionRule : Prop :=
  ∀ (d : Dev) (w vr : Nat), w < 2 ^ 16 → let e := d.decideBurst w vr
    (({ d with rat := { d.rat with dur := e.rat.dur } } : Dev).Only e [F.RAT_LASTREQ_WORD, F.RAT_LASTREQ_REASON, F.RAT_LASTREQ_GDUR,
      F.RAT_LASTREQ_GLEVEL, F.RAT_STAT_ACTIVE, F.RAT_STAT_LEVEL, F.RAT_STAT_REASON, F.RAT_RPACK_REST, F.RAT_CNT0_GRANTS,
      F.RAT_CNT0_REFUSALS, F.RAT_HEAD_H, F.RAT_HEAD_E]) ∧ e.get F.RAT_LASTREQ_WORD = w ∧
    (bits w 12 3 = 0 → e.is F.RAT_STAT_ACTIVE = false ∧ e.get F.RAT_LASTREQ_REASON = 9 ∧
      (d.is F.RAT_STAT_ACTIVE = true → e.get F.RAT_STAT_REASON = 9 ∧
        e.get F.RAT_RPACK_REST = max (d.get F.RAT_RPACK_RCFG) (d.get F.RAT_RPACK_REST - 1) % 2 ^ 12 ∧
        e.get F.RAT_CNT0_GRANTS = satInc 0xFFFF (d.get F.RAT_CNT0_GRANTS) % 0x10000)) ∧
    (∀ r, bits w 12 3 ≠ 0 → r < 16 →
      d.preReason = some r ∨ (d.preReason = none ∧ r = 1 ∧ d.admitLevel (d.ratModel vr) (bits w 8 4) (bits w 12 3) = none) →
      e.get F.RAT_LASTREQ_REASON = r ∧ e.get F.RAT_LASTREQ_GDUR = 0 ∧ e.get F.RAT_LASTREQ_GLEVEL = 0 ∧ e.rat.dur = d.rat.dur ∧
      e.get F.RAT_STAT_ACTIVE = d.get F.RAT_STAT_ACTIVE ∧ e.get F.RAT_STAT_LEVEL = d.get F.RAT_STAT_LEVEL ∧
      (d.is F.RAT_STAT_ACTIVE = false → e.get F.RAT_STAT_REASON = r) ∧
      e.get F.RAT_CNT0_REFUSALS = satInc 0xFFFF (d.get F.RAT_CNT0_REFUSALS) % 0x10000) ∧
    (∀ l t, bits w 12 3 ≠ 0 → d.preReason = none → d.admitLevel (d.ratModel vr) (bits w 8 4) (bits w 12 3) = some (l, t) →
      e.is F.RAT_STAT_ACTIVE = true ∧ e.get F.RAT_STAT_LEVEL = l ∧ e.rat.dur = t ∧ e.get F.RAT_LASTREQ_REASON = 0 ∧
      e.get F.RAT_LASTREQ_GLEVEL = l ∧ e.get F.RAT_LASTREQ_GDUR = t)

/-- A word on BURST_REQ does nothing while the bound port is not running. Otherwise the frame samples the selected input, if any, lets a
LIMIT_N that nothing holds low rise, and is answered with the grant word: alone while EN is 0, for a word with its start bit clear and for
a repeat of the last tag; a word with odd parity or a reserved bit set is counted, raises RAT_PARERR and is fault source 15; any other
takes its tag and is decided (R162, R163, R166).

The decision: level 0 ends a grant in force as RELEASED and is recorded so without one; a request that a condition of R168 forbids is
refused with the first such reason and counted, no grant coming into force and one in force running on; otherwise the highest level at or
below the one asked for that fits is granted for the longest duration that fits, and where none fits the request is refused with ENERGY.
Nothing but RAT_LASTREQ, the counts, the state of the grant and, after a decision by the model, RAT_HEAD changes (R168, R169, R172).
Where the spec leaves a reading open this follows the model's own: log entries 4, 30, 81. -/
def Obligations.BurstRequests : Prop :=
  BurstRequestRule ∧ BurstDecisionRule

/-- What the model admits fits: the level is at most the one asked for and not above LEANMAX under lean rules, the duration at most the one
asked for, and the draw of that level fits for that duration, while no longer one and no higher level does (R166, R168). -/
def AdmittedLevelFitsRule : Prop :=
  ∀ (d : Dev) (k : RatModel) (dur lvl l t : Nat), d.admitLevel k dur lvl = some (l, t) →
    1 ≤ l ∧ l ≤ lvl ∧ t ≤ dur ∧ k.fits (d.get (F.RAT_LVL_DRAW (l - 1))) (50 * (t + 1)) = true ∧
      (d.leanMode = true → l ≤ d.get F.RAT_CTRL_LEANMAX) ∧
      (∀ u, t < u → u ≤ dur → k.fits (d.get (F.RAT_LVL_DRAW (l - 1))) (50 * (u + 1)) = false) ∧
      ∀ m, l < m → m ≤ lvl → (d.leanMode = true → m ≤ d.get F.RAT_CTRL_LEANMAX) →
        ∀ u, u ≤ dur → k.fits (d.get (F.RAT_LVL_DRAW (m - 1))) (50 * (u + 1)) = false

/-- Every grant word has even parity, where LEVEL, REASON and TAG stand within their fields (Table 06.3). -/
def GrantWordParityRule : Prop :=
  ∀ d : Dev, d.get F.RAT_STAT_LEVEL < 8 → d.get F.RAT_STAT_REASON < 16 → d.get F.RAT_STAT_TAG < 16 → d.rat.dur < 16 →
    parity16 d.grantWord = 0 ∧ d.grantWord < 2 ^ 16

/-- What the model admits fits: the level is at most the one asked for and not above LEANMAX under lean rules, the duration at most the one
asked for, and the draw of that level fits for that duration, while no longer one and no higher level does (R166, R168).

Every grant word has even parity, where LEVEL, REASON and TAG stand within their fields (Table 06.3). -/
def Obligations.Admission : Prop :=
  AdmittedLevelFitsRule ∧ GrantWordParityRule

/-- A write of RAT_CTRL that changes EN from 0 to 1 is rejected with E_STATE where RAT_LVL1 to RAT_LVL7 are not strictly increasing, or CBULK,
VFLOOR or RCFG is 0; one with LIMHOLD at 0 is rejected with E_RANGE (R180). Any other starts
Ration without tag and not ready, a PORT written anew being followed. -/
def Obligations.RationEnable : Prop :=
  ∀ (s : State) (w : Word), s.dev.up = true → setsReserved R.RAT_CTRL (w ||| 1) = false →
    (bits (w ||| 1).toNat 16 8 = 0 → Ends s (exec (.ratEnable w) s) fun e => RecordedGlb s.dev e 0x3C00 .eRange) ∧
    (bits (w ||| 1).toNat 16 8 ≠ 0 → s.dev.changesLocked .bar0 R.RAT_CTRL 0 (w ||| 1) = false → s.dev.is F.RAT_CTRL_EN = false →
      ((∃ i < 6, s.dev.get (F.RAT_LVL_DRAW (i + 1)) ≤ s.dev.get (F.RAT_LVL_DRAW i)) ∨ s.dev.get F.RAT_STORE_CBULK = 0 ∨
          s.dev.get F.RAT_RAIL_VFLOOR = 0 ∨ s.dev.get F.RAT_RPACK_RCFG = 0 →
        Ends s (exec (.ratEnable w) s) fun e => RecordedGlb s.dev e 0x3C00 .eState) ∧
      ((∀ i < 6, s.dev.get (F.RAT_LVL_DRAW i) < s.dev.get (F.RAT_LVL_DRAW (i + 1))) → s.dev.get F.RAT_STORE_CBULK ≠ 0 →
        s.dev.get F.RAT_RAIL_VFLOOR ≠ 0 → s.dev.get F.RAT_RPACK_RCFG ≠ 0 →
        Ends s (exec (.ratEnable w) s) fun e => ∃ x y : Dev,
          x.get F.RAT_CTRL_EN = 1 ∧ x.get F.RAT_CTRL_PORT = bits w.toNat 4 1 ∧ x.get F.RAT_STAT_REASON = (if s.dev.ratFenced then 4 else 6) ∧
          x.get F.RAT_STAT_TAG = 0 ∧
          ({ s.dev with rat := { s.dev.rat with tag := none, ready := false, hold := false, quiet := false } } : Dev).Only x
            [F.RAT_CTRL_EN, F.RAT_CTRL_LOCK, F.RAT_CTRL_LIMHOLD, F.RAT_CTRL_LEANMAX, F.RAT_CTRL_PORT, F.RAT_STAT_REASON, F.RAT_STAT_TAG] ∧
          y = (if bits w.toNat 4 1 = s.dev.get F.RAT_CTRL_PORT then x else x.ratRebind) ∧ (bitOf w.toNat 1 = false → e = y) ∧
          y.Only e [F.RAT_CNT0_GRANTS, F.RAT_CNT0_REFUSALS, F.RAT_CNT1_ABORTS, F.RAT_CNT1_PARERR]))

/-- A grant ends with EXPIRED at its duration, REST falling by 1 mΩ but not below RCFG; a trip aborts it, or takes back an end of the same
frame: LIMIT_N falls, REST rises by RSTEP, the abort is counted, told and a fault event, and the hold starts, whose end lets LIMIT_N rise.
CNTCLR clears the four counts, and a PORT written anew is followed. Without a grant, an end of this frame or a hold nothing changes
(R162, R169, R170, R176, R177, R179).
Where the spec leaves a reading open this follows the model's own: log entry 30. -/
def Obligations.Grants : Prop :=
  ∀ s : State, s.dev.up = true →
    (Ends s (exec .grantEnd s) fun e =>
      if s.dev.is F.RAT_STAT_ACTIVE = true then ∃ x : Dev, e = x.sendGrant ∧
        x.get F.RAT_STAT_ACTIVE = 0 ∧ x.get F.RAT_STAT_LEVEL = 0 ∧ x.get F.RAT_STAT_REASON = 8 ∧
        x.get F.RAT_RPACK_REST = max (s.dev.get F.RAT_RPACK_RCFG) (s.dev.get F.RAT_RPACK_REST - 1) % 2 ^ 12 ∧
        x.get F.RAT_CNT0_GRANTS = satInc 0xFFFF (s.dev.get F.RAT_CNT0_GRANTS) % 0x10000 ∧
        ({ s.dev with rat := { s.dev.rat with ended := some (s.dev.get F.RAT_RPACK_REST, s.dev.get F.RAT_CNT0_GRANTS) } } : Dev).Only x
          [F.RAT_STAT_ACTIVE, F.RAT_STAT_LEVEL, F.RAT_STAT_REASON, F.RAT_RPACK_REST, F.RAT_CNT0_GRANTS]
      else e = s.dev) ∧
    (Ends s (exec .ratAbort s) fun e =>
      if s.dev.is F.RAT_STAT_ACTIVE = false ∧ s.dev.rat.ended = none then e = s.dev
      else ∃ x y : Dev, e = (({ x with rat := { x.rat with hold := true } } : Dev).fault 0x219 14).sendGrant ∧
        x = y.raise F.RAT_INT_ABORT 0x500 [0] 0 0 0 ∧
        (let z := s.dev.undoEnd
         y.get F.RAT_STAT_ACTIVE = 0 ∧ y.get F.RAT_STAT_LEVEL = 0 ∧ y.get F.RAT_STAT_REASON = 0xA ∧ y.get F.RAT_STAT_LIMIT = 1 ∧
          y.get F.RAT_RPACK_REST = min 4095 (z.get F.RAT_RPACK_REST + s.dev.get F.RAT_RPACK_RSTEP) ∧
          y.get F.RAT_CNT1_ABORTS = satInc 0xFFFF (s.dev.get F.RAT_CNT1_ABORTS) % 0x10000 ∧
          z.Only y [F.RAT_STAT_ACTIVE, F.RAT_STAT_LEVEL, F.RAT_STAT_REASON, F.RAT_STAT_LIMIT, F.RAT_RPACK_REST, F.RAT_CNT1_ABORTS]) ∧
        match s.dev.rat.ended with
        | none => s.dev.undoEnd = s.dev
        | some o => s.dev.undoEnd.get F.RAT_RPACK_REST = o.1 % 2 ^ 12 ∧ s.dev.undoEnd.get F.RAT_CNT0_GRANTS = o.2 % 2 ^ 16 ∧
          ({ s.dev with rat := { s.dev.rat with ended := none } } : Dev).Only s.dev.undoEnd [F.RAT_RPACK_REST, F.RAT_CNT0_GRANTS]) ∧
    (Ends s (exec .ratHoldEnd s) fun e =>
      e = if s.dev.rat.hold = true ∨ s.dev.rat.clkHold = true then
        ({ s.dev with rat := { s.dev.rat with hold := false, clkHold := false } } : Dev).limitRise else s.dev) ∧
    (∀ d : Dev, d.Only d.limitRise [F.RAT_STAT_LIMIT]) ∧
    (∀ w : Word, setsReserved R.RAT_CTRL (w ||| 2) = false → bits (w ||| 2).toNat 16 8 ≠ 0 → s.dev.changesLocked .bar0 R.RAT_CTRL 0 (w ||| 2) = false →
      bitOf (w ||| 2).toNat 0 = s.dev.is F.RAT_CTRL_EN → Ends s (exec (.ratCntclr w) s) fun e => ∃ x y : Dev,
        x.get F.RAT_CTRL_PORT = bits w.toNat 4 1 ∧ x.get F.RAT_CTRL_LIMHOLD = bits w.toNat 16 8 ∧ x.get F.RAT_CTRL_LEANMAX = bits w.toNat 8 3 ∧
        x.is F.RAT_CTRL_EN = s.dev.is F.RAT_CTRL_EN ∧
        s.dev.Only x [F.RAT_CTRL_EN, F.RAT_CTRL_LOCK, F.RAT_CTRL_LIMHOLD, F.RAT_CTRL_LEANMAX, F.RAT_CTRL_PORT] ∧
        y = (if bits w.toNat 4 1 = s.dev.get F.RAT_CTRL_PORT then x else x.ratRebind) ∧
        e.get F.RAT_CNT0_GRANTS = 0 ∧ e.get F.RAT_CNT0_REFUSALS = 0 ∧ e.get F.RAT_CNT1_ABORTS = 0 ∧ e.get F.RAT_CNT1_PARERR = 0 ∧
        y.Only e [F.RAT_CNT0_GRANTS, F.RAT_CNT0_REFUSALS, F.RAT_CNT1_ABORTS, F.RAT_CNT1_PARERR])

/-! ### The hub path (chapter 07) -/

/-- Control requests. HUB_REQUEST answers what hardware handles: SET_ADDRESS takes the address, SET_CONFIGURATION configures the hub, a port's
status is read as its register holds it, a request that does not exist gets STALL; the function's SETUP is always ACKed and cancels what
ran; a forwarded request is shown to the steward with VALID and HUB_CTL_REQ, and ends by ACT or by its deadline, which is fault source 23.
Nothing changes where there is no request to act on (R184 to R187, R196).
Where the spec leaves a reading open this follows the model's own: log entries 4, 32, 33. -/
def Obligations.HubControl : Prop :=
  ∀ s : State, s.dev.up = true →
    (∀ v : BitVec 64, s.dev.hubLive = true → Ends s (exec (.hubRequest (some v)) s) fun e => ∃ x : Dev,
      e = { x with free := x.free + 1 } ∧ x = (if bits v.toNat 5 2 = 1 then s.dev.hubClass v.toNat else s.dev.hubStandard v.toNat) ∧
      (suType v.toNat = 0 → suReq v.toNat = 5 → x.get F.HUB_STAT_ADDR = suValue v.toNat % 2 ^ 7 ∧
        x.out = ⟨.usb, 0, [0], []⟩ :: s.dev.out ∧ s.dev.Only { x with out := s.dev.out } [F.HUB_STAT_ADDR]) ∧
      (suType v.toNat = 0 → suReq v.toNat = 9 → x.is F.HUB_STAT_CFG = (suValue v.toNat % 256 != 0) ∧ x.get F.HUB_STAT_ALT = 0 ∧
        x.get (F.EPM_SLOT_HALT 1) = 0 ∧ x.get (F.EPM_SLOT_TOG 1) = 0 ∧
        x.hub = { s.dev.hub with cfgVal := suValue v.toNat % 256 } ∧ x.out = ⟨.usb, 0, [0], []⟩ :: s.dev.out ∧
        s.dev.Only { x with out := s.dev.out, hub := s.dev.hub } [F.HUB_STAT_CFG, F.HUB_STAT_ALT, F.EPM_SLOT_HALT 1, F.EPM_SLOT_TOG 1]) ∧
      (suType v.toNat = 0xA3 → suReq v.toNat = 0 → 1 ≤ suIndex v.toNat % 256 → suIndex v.toNat % 256 ≤ 9 →
        x = s.dev.emit .usb 0 [0] ((leBytes 2 (s.dev.get (F.PRT_STAT_STATUS (suIndex v.toNat % 256))) ++
          leBytes 2 (s.dev.get (F.PRT_STAT_CHANGE (suIndex v.toNat % 256)))).take (suLength v.toNat))) ∧
      (suType v.toNat = 0x23 → suReq v.toNat = 3 → suValue v.toNat = 4 → 1 ≤ suIndex v.toNat % 256 → suIndex v.toNat % 256 ≤ 8 →
        let p := suIndex v.toNat % 256
        s.dev.st p 8 = true → x.st p 4 = true ∧ x.st p 1 = false ∧ x.st p 2 = false ∧
          x.out = ⟨.usb, 0, [0], []⟩ :: ((if s.dev.isLocal p then [] else [⟨.usb, p, [6], []⟩]) ++ s.dev.out) ∧
          s.dev.Only { x with out := s.dev.out } [F.PRT_STAT_STATUS p]) ∧
      (bits v.toNat 5 2 = 3 → x = s.dev.emit .usb 0 [4] [])) ∧
    (∀ v : Nat, s.dev.fnLive = true → s.dev.hub.setup = some v → fnForwarded v = false → Ends s (exec (.hubRequest none) s) fun e => ∃ x : Dev,
      x = s.dev.fnStandard v ∧ e = { x with hub := { x.hub with setup := none }, free := x.free + 1 }) ∧
    (s.dev.hubLive = true → (∀ v, s.dev.hub.setup = some v → fnForwarded v = true ∨ s.dev.fnLive = false) →
      Ends s (exec (.hubRequest none) s) fun e => e = { s.dev with free := s.dev.free + 1 }) ∧
    (∀ v : Option (BitVec 64), s.dev.hubLive = false → Ends s (exec (.hubRequest v) s) fun e => e = s.dev) ∧
    (∀ v : BitVec 64,
      (s.dev.fnLive = false → Ends s (exec (.funcSetup v) s) fun e => e = s.dev) ∧
      (s.dev.fnLive = true → Ends s (exec (.funcSetup v) s) fun e =>
        e.out = ⟨.usb, 0, [1], []⟩ :: s.dev.out ∧ e.hub = { s.dev.hub with setup := some v.toNat, stall0 := false } ∧
        e.get F.HUB_CTLREPLY_VALID = 0 ∧ e.get (F.EPM_SLOT_TOG 2) = 1 ∧ e.get (F.EPM_BANK_FULL0 0) = 0 ∧ e.get (F.EPM_BANK_FULL1 0) = 0 ∧
        s.dev.Only { e with out := s.dev.out, hub := s.dev.hub } [F.HUB_CTLREPLY_VALID, F.EPM_SLOT_TOG 2, F.EPM_BANK_FULL0 0,
          F.EPM_BANK_FULL1 0, F.EPM_BANK_NEXT 0, F.EPM_BANK_LEN0 0, F.EPM_BANK_LEN1 0])) ∧
    (Ends s (exec .hubCtlReq s) fun e =>
      match s.dev.hub.setup with
      | none => e = s.dev
      | some v =>
        if fnForwarded v = true ∧ s.dev.fnLive = true ∧ s.dev.is F.HUB_CTLREPLY_VALID = false then
          e.get F.HUB_SETUP0_BYTES = v % 2 ^ 32 ∧ e.get F.HUB_SETUP1_BYTES = v / 2 ^ 32 % 2 ^ 32 ∧ e.get F.HUB_CTLREPLY_VALID = 1 ∧
          e.get (bitFld 0x400C 4) = 1 ∧ s.dev.Only e [F.HUB_SETUP0_BYTES, F.HUB_SETUP1_BYTES, F.HUB_CTLREPLY_VALID, bitFld 0x400C 4]
        else e = s.dev) ∧
    (∀ w : Word, setsReserved R.HUB_CTLREPLY w = false → Ends s (exec (.hubCtlreplyAct w) s) fun e =>
      if bits w.toNat 0 2 ≠ 1 ∧ bits w.toNat 0 2 ≠ 2 then RecordedGlb s.dev e 0x4018 .eField
      else if s.dev.is F.HUB_CTLREPLY_VALID = false then RecordedGlb s.dev e 0x4018 .eState
      else ∃ x : Dev, x.get F.HUB_CTLREPLY_VALID = 0 ∧ x.hub = { s.dev.hub with setup := none } ∧
        s.dev.Only { x with hub := s.dev.hub } [F.HUB_CTLREPLY_VALID] ∧
        e = if bits w.toNat 0 2 = 1 then
            (x.ctlDone (s.dev.get F.HUB_SETUP0_BYTES + 2 ^ 32 * s.dev.get F.HUB_SETUP1_BYTES)).emit .usb 0 [0] []
          else { x.emit .usb 0 [4] [] with hub := { x.hub with stall0 := true } }) ∧
    (Ends s (exec .hubCtlTimeout s) fun e =>
      if s.dev.is F.HUB_CTLREPLY_VALID = true then ∃ x : Dev,
        e = (x.raise (bitFld 0x400C 5) 0x605 [0] 0 0 0).fault 0x247 23 ∧ x.get F.HUB_CTLREPLY_VALID = 0 ∧
        x.hub = { s.dev.hub with setup := none, stall0 := true } ∧ x.out = ⟨.usb, 0, [4], []⟩ :: s.dev.out ∧
        s.dev.Only { x with hub := s.dev.hub, out := s.dev.out } [F.HUB_CTLREPLY_VALID]
      else e = s.dev)

/-- The function's endpoints that are not isochronous: a halted slot answers STALL; a status stage that firmware has not answered yet gets
NAK; an IN token with nothing in the next bank gets NAK, and with a packet gets it with the slot's toggle, and the acknowledgement frees the
bank and flips the toggle; data that endpoint RAM cannot correct are EPM_UE and STALL; an OUT packet of the wrong toggle is acknowledged and
dropped, one that finds no bank empty gets NAK, and any other is stored, with NYET at high speed where it fills the last bank; PING says
whether a bank is empty. Nothing answers for a slot that is disabled, isochronous or the hub's, or for a packet longer than MPS
(R187, R195, R211). -/
def FunctionTokensRule : Prop :=
  ∀ (s : State) (n : Fin 16) (k : Fin 3) (tog ack : Bool) (data : List Byte), s.dev.up = true →
    Ends s (exec (.funcToken n k tog data ack) s) fun e =>
      let b := s.dev.get (F.EPM_BANK_NEXT (n.val - 2))
      let both := s.dev.is (fullFld n.val 0) && s.dev.is (fullFld n.val 1)
      let o := if s.dev.is (fullFld n.val b) then 1 - b else b
      if s.dev.fnLive = false ∨ n.val < 2 ∨ s.dev.is (F.EPM_SLOT_EN n.val) = false ∨ s.dev.slotIso n.val = true ∨
          s.dev.get (F.EPM_SLOT_MPS n.val) < data.length then e = s.dev
      else if s.dev.is (F.EPM_SLOT_HALT n.val) = true ∨ (n.val = 2 ∧ s.dev.hub.stall0 = true) then e = s.dev.emit .usb 0 [4] []
      else if s.dev.statusWaits n.val k.val = true then e = s.dev.emit .usb 0 [2] []
      else if k.val = 0 then
        if s.dev.is (fullFld n.val b) = false then e = s.dev.emit .usb 0 [2] []
        else match s.dev.memBytes 2 1 (s.dev.bankAddr n.val b) (s.dev.get (lenFld n.val b)) with
          | (x, _, some a) => e = (x.epmUe n.val a).emit .usb 0 [4] []
          | (x, l, none) =>
            let y := x.emit .usb 0 (if s.dev.get (F.EPM_SLOT_TOG n.val) = 0 then [0] else [0, s.dev.get (F.EPM_SLOT_TOG n.val)]) l
            if ack = true then e.get (fullFld n.val b) = 0 ∧ e.get (F.EPM_BANK_NEXT (n.val - 2)) = (1 - b) % 2 ∧
              e.get (F.EPM_SLOT_TOG n.val) = (1 - x.get (F.EPM_SLOT_TOG n.val)) % 2 ∧
              y.Only e [fullFld n.val b, F.EPM_BANK_NEXT (n.val - 2), F.EPM_SLOT_TOG n.val]
            else e = y
      else if k.val = 1 then
        if s.dev.is (F.EPM_SLOT_TOG n.val) ≠ tog then e = s.dev.emit .usb 0 [1] []
        else if both = true then e = s.dev.emit .usb 0 [2] []
        else ∃ x : Dev, x = s.dev.memStore 2 (s.dev.bankAddr n.val o / 8) data ∧
          e.get (lenFld n.val o) = data.length % 2 ^ 11 ∧ e.get (fullFld n.val o) = 1 ∧
          e.get (F.EPM_BANK_NEXT (n.val - 2)) = (1 - o) % 2 ∧ e.get (F.EPM_SLOT_TOG n.val) = (1 - x.get (F.EPM_SLOT_TOG n.val)) % 2 ∧
          e.out = ⟨.usb, 0, [if s.dev.is F.HUB_STAT_HS && e.is (fullFld n.val (1 - o)) then 3 else 1], []⟩ :: x.out ∧
          x.Only { e with out := x.out } [lenFld n.val o, fullFld n.val o, F.EPM_BANK_NEXT (n.val - 2), F.EPM_SLOT_TOG n.val]
      else e = s.dev.emit .usb 0 [if both then 2 else 1] []

/-- Firmware's side of a bank: FULL is set for IN slots and cleared for OUT slots by writing 1, LEN is written for IN slots alone, and a LEN
that is changed to more than MPS is rejected with E_RANGE; the slots of the hub have no bank (R195, R202, R583). -/
def BankWritesRule : Prop :=
  ∀ (s : State) (n : Fin 16) (w : Word), s.dev.up = true →
    (2 ≤ n.val → setsReserved R.EPM_BANK w = false → Ends s (exec (.epmBankWrite n w) s) fun e =>
      let big := fun b : Nat => bits w.toNat (16 * b) 11 ≠ s.dev.get (lenFld n.val b) ∧ s.dev.get (F.EPM_SLOT_MPS n.val) < bits w.toNat (16 * b) 11
      if s.dev.bankIn n.val = true then
        if big 0 ∨ big 1 then RecordedGlb s.dev e (0x5858 + 4 * (n.val - 2)) .eRange
        else e.get (lenFld n.val 0) = bits w.toNat 0 11 ∧ e.get (lenFld n.val 1) = bits w.toNat 16 11 ∧
          e.get (fullFld n.val 0) = (if bitOf w.toNat 15 then 1 else s.dev.get (fullFld n.val 0)) ∧
          e.get (fullFld n.val 1) = (if bitOf w.toNat 31 then 1 else s.dev.get (fullFld n.val 1)) ∧
          s.dev.Only e [lenFld n.val 0, lenFld n.val 1, fullFld n.val 0, fullFld n.val 1]
      else e.get (fullFld n.val 0) = (if bitOf w.toNat 15 then 0 else s.dev.get (fullFld n.val 0)) ∧
        e.get (fullFld n.val 1) = (if bitOf w.toNat 31 then 0 else s.dev.get (fullFld n.val 1)) ∧
        s.dev.Only e [fullFld n.val 0, fullFld n.val 1]) ∧
    (n.val < 2 → Ends s (exec (.epmBankWrite n w) s) fun e => RecordedGlb s.dev e (0x5850 + 4 * n.val) .eField)

/-- Isochronous slots: an OUT interval whose packets follow one another as USB 2.0 defines is delivered whole to the streams bound to the
slot, and any other is dropped, counted and fault source 22; an IN interval sends what the stream has with the PIDs DATA(k - 1) down to
DATA0, or a zero-length packet; a feedback slot sends its value, which a window of 2^FBK micro-frames sets from the rate of the stream bound
to it (R199, R200). -/
def IsochronousSlotsRule : Prop :=
  (∀ (s : State) (n : Fin 16) (k : Nat) (pkts : List (Fin 4 × List Byte)), s.dev.up = true →
    Ends s (exec (.funcIsoMicroframe n k pkts) s) fun e =>
      let l := pkts.map fun p => (p.1.val, p.2)
      if s.dev.fnLive = false ∨ s.dev.is F.HUB_STAT_FNCFG = false ∨ n.val < 3 ∨ s.dev.slotIso n.val = false then e = s.dev
      else if s.dev.is (F.EPM_SLOT_DIR n.val) = false then
        if isoSeqOk (s.dev.is F.HUB_STAT_HS) l = true then ∃ x : Dev, x = s.dev.sourcesBack (Dev.usbSlotCode n.val) ∧
          e = (x.srcUses (8192 + n.val)).foldl (fun d q => d.itemIn q ((l.map Prod.snd).flatten) (d.almTime % 2 ^ 32) false) x
        else if pkts = [] then e = s.dev
        else ∃ x : Dev, e = x.oweFault 0x200 22 ∧ x.get (F.SUP_XDROP_IN 0) = satInc 0xFFFF (s.dev.get (F.SUP_XDROP_IN 0)) % 0x10000 ∧
          s.dev.Only x [F.SUP_XDROP_IN 0]
      else if s.dev.slotFeedback n.val = true then e = s.dev.emit .usb 0 [0] (s.dev.feedbackBytes n.val)
      else match s.dev.sinkUses (8192 + n.val) with
        | [] => e = s.dev.emit .usb 0 [0] []
        | (q, i) :: _ =>
          let m := framesIn (s.dev.get (F.STR_W1_RATE q)) (perSecond (s.dev.is F.HUB_STAT_HS)) k
          match s.dev.sinkPacket q i (m * s.dev.frameBytes q) with
          | (x, none) => e = x.emit .usb 0 [0] []
          | (x, some c) => e = x.isoSend (isoPackets (max 1 (ceilDiv c.length 1024)) (zeroPoisoned (s.dev.frameBytes q) m c))) ∧
  (∀ (d : Dev) (p : List Byte) (t : List (List Byte)), d.isoSend [] = d ∧
    d.isoSend (p :: t) = (d.emit .usb 0 (if t.length = 0 then [0] else [0, t.length]) p).isoSend t) ∧
  (∀ (s : State) (ns : Nat), s.dev.up = true → Ends s (exec (.feedbackUpdate ns) s) fun e =>
    e = { s.dev with hub := { s.dev.hub with feedback := e.hub.feedback } } ∧ ∀ m : Nat,
      mapGet 0 e.hub.feedback m = if m ∈ fnSlots ∧ s.dev.slotFeedback m = true then
          match s.dev.sinkUses (8192 + m) with
          | [] => mapGet 0 s.dev.hub.feedback m
          | (q, _) :: _ =>
            let unit := if s.dev.is F.HUB_STAT_HS then 65536 else 8 * 16384
            (2 * (rateHz (s.dev.get (F.STR_W1_RATE q)) * ns) * unit + 1000000000 * 2 ^ s.dev.get F.HUB_CFG_FBK) /
              (2 * 1000000000 * 2 ^ s.dev.get F.HUB_CFG_FBK)
        else mapGet 0 s.dev.hub.feedback m)

/-- The function's endpoints that are not isochronous: a halted slot answers STALL; a status stage that firmware has not answered yet gets
NAK; an IN token with nothing in the next bank gets NAK, and with a packet gets it with the slot's toggle, and the acknowledgement frees the
bank and flips the toggle; data that endpoint RAM cannot correct are EPM_UE and STALL; an OUT packet of the wrong toggle is acknowledged and
dropped, one that finds no bank empty gets NAK, and any other is stored, with NYET at high speed where it fills the last bank; PING says
whether a bank is empty. Nothing answers for a slot that is disabled, isochronous or the hub's, or for a packet longer than MPS
(R187, R195, R211).

Firmware's side of a bank: FULL is set for IN slots and cleared for OUT slots by writing 1, LEN is written for IN slots alone, and a LEN
that is changed to more than MPS is rejected with E_RANGE; the slots of the hub have no bank (R195, R202, R583).

Isochronous slots: an OUT interval whose packets follow one another as USB 2.0 defines is delivered whole to the streams bound to the
slot, and any other is dropped, counted and fault source 22; an IN interval sends what the stream has with the PIDs DATA(k - 1) down to
DATA0, or a zero-length packet; a feedback slot sends its value, which a window of 2^FBK micro-frames sets from the rate of the stream bound
to it (R199, R200).
Where the spec leaves a reading open this follows the model's own: log entries 33, 34. -/
def Obligations.FunctionEndpoints : Prop :=
  FunctionTokensRule ∧ BankWritesRule ∧ IsochronousSlotsRule

/-- A write of HUB_CTRL of value `v`: EN without a directory or LOCK, and RWAKE without the host's leave, are rejected with E_STATE; RWAKE
signals remote wake, CNTCLR clears the port counts, and EN connects or leaves (R193, R212, R213). -/
def HubCtrlWritten (d e : Dev) (v : Nat) : Prop :=
  if (bitOf v 0 = true ∧ (d.get F.EPM_DIR_COUNT = 0 ∨ d.is F.HUB_CTRL_LOCK = false)) ∨ (bitOf v 8 = true ∧ d.is F.HUB_STAT_RWEN = false) then
    RecordedGlb d e 0x4000 .eState
  else ∃ x y z : Dev, x.get F.HUB_CTRL_RWAKE = 0 ∧ x.get F.HUB_CTRL_EN = bits v 0 1 ∧ x.get F.HUB_CTRL_FNEN = bits v 2 1 ∧
    d.Only x [F.HUB_CTRL_LOCK, F.HUB_CTRL_FNEN, F.HUB_CTRL_EN, F.HUB_CTRL_RWAKE] ∧
    (if bitOf v 1 = true then (∀ p < 10, y.get (F.PRT_CNT_OC p) = 0 ∧ y.get (F.PRT_CNT_BABBLE p) = 0) ∧
        (∀ p < 8, y.get (F.PRT_LCNT_XERR p) = 0) ∧
        x.Only y ((List.range 10).flatMap (fun p => [F.PRT_CNT_OC p, F.PRT_CNT_BABBLE p]) ++ (List.range 8).map F.PRT_LCNT_XERR)
      else y = x) ∧
    z = (if bitOf v 8 then y.signalWake else y) ∧ e = if bitOf v 0 then z.hubConnect else z.hubLeave

/-- The hub and the upstream host: a bus reset and a disconnect reset hub and function; suspend discards the transactions that have not
started and shows SUSP, and resume ends it and is repeated on the enabled ports that are not suspended, each with its event;
remote wake drives K only while suspended and enabled, by the register or a downstream event; HUB_CTRL is written as its fields say. None
changes anything where it does not apply; traffic ends DOZE (R61, R192 to R194, R205, R206, R212, R213).
Where the spec leaves a reading open this follows the model's own: log entries 20, 33, 37. -/
def Obligations.HubUpstream : Prop :=
  ∀ s : State, s.dev.up = true →
    (∀ hs : Bool, Ends s (exec (.hubBusreset hs) s) fun e =>
      if s.dev.hubUp = true ∧ s.dev.phyHeld = false then ∃ x : Dev,
        e = x.raise (bitFld 0x400C 0) 0x600 [0] 0 0 0 ∧ x.is F.HUB_STAT_HS = hs ∧ s.dev.resetHub.Only x [F.HUB_STAT_HS]
      else e = s.dev) ∧
    (Ends s (exec .hubDisconnect s) fun e =>
      if s.dev.hubUp = true then ∃ x : Dev, e = x.raise (bitFld 0x400C 0) 0x600 [0] 0 0 0 ∧
        x.hubUp = false ∧ x.get F.HUB_STAT_HS = 0 ∧ s.dev.rouse.resetHub.Only x [F.HUB_STAT_HS, F.PRT_STAT_STATUS 0]
      else e = s.dev.rouse) ∧
    (Ends s (exec .hubSuspend s) fun e =>
      if s.dev.hubUp = true ∧ s.dev.is F.HUB_STAT_SUSP = false ∧ s.dev.phyHeld = false then
        e.get F.HUB_STAT_SUSP = 1 ∧ e.get (bitFld 0x400C 1) = 1 ∧
        s.dev.Told { e with hub := s.dev.hub } [F.HUB_STAT_SUSP, bitFld 0x400C 1] ∧ e.hub = { s.dev.hub with port := e.hub.port } ∧
        ∀ p : Fin 9, p.val ≠ 0 → e.hubPort p.val = { s.dev.hubPort p.val with
          np := (s.dev.hubPort p.val).np.filter (·.started), per := (s.dev.hubPort p.val).per.filter (·.started) }
      else e = s.dev) ∧
    (Ends s (exec .hubResume s) fun e =>
      if s.dev.is F.HUB_STAT_SUSP = true ∧ s.dev.phyHeld = false then ∃ x : Dev,
        e = x.raise (bitFld 0x400C 2) 0x602 [0] 0 0 0 ∧ x.get F.HUB_STAT_SUSP = 0 ∧ x.hub = { s.dev.hub with kUp := false } ∧
        x.out = (([1, 2, 3, 4, 5, 6, 7, 8].filter fun p => !s.dev.isLocal p && s.dev.st p 1 && !s.dev.st p 2).reverse.map fun p =>
          ⟨.usb, p, [5], []⟩) ++ s.dev.out ∧
        s.dev.rouse.Only { x with hub := s.dev.hub, out := s.dev.out } [F.HUB_STAT_SUSP]
      else e = s.dev.rouse) ∧
    (∀ p : Fin 9, Ends s (exec (.hubRemoteWake p) s) fun e =>
      e = if p.val ≠ 0 ∧ s.dev.isLocal p.val = false then s.dev.rouse.signalWake else s.dev.rouse) ∧
    (∀ d : Dev, d.signalWake =
      if d.is F.HUB_STAT_SUSP = true ∧ d.is F.HUB_STAT_RWEN = true ∧ d.hub.kUp = false ∧ d.phyHeld = false then
        { d.emit .usb 0 [5] [] with hub := { d.hub with kUp := true } } else d) ∧
    (∀ (c : Word → Instr) (i : Nat) (w : Word), (c, i) ∈ [(Instr.hubRwake, 8), (Instr.hubEnable, 0), (Instr.hubCntclr, 1)] →
      setsReserved R.HUB_CTRL (withBit w i) = false → s.dev.changesLocked .bar0 R.HUB_CTRL 0 (withBit w i) = false →
      Ends s (exec (c w) s) fun e => HubCtrlWritten s.dev e (withBit w i).toNat) ∧
    (∀ d : Dev, d.Only d.hubConnect [F.PRT_STAT_STATUS 0] ∧
      (d.is F.HUB_CTRL_EN = true → d.usbAllowed 0 = true → d.is (F.PRT_STAT_FENCED 0) = false → d.hubConnect.hubUp = true) ∧
      d.hubLeave.hubUp = false)

/-- What a port reports: a device that is there is shown with its speed and change bit where the port is on the hub path, powered, allowed
to pass data, and neither fenced nor being steered; a disconnect clears the connection and sets its change bit (R188, R189, R210). -/
def PortReportsRule : Prop :=
  ∀ (d : Dev) (p : Fin 10),
    (if d.isLocal p.val = false ∧ d.st p.val 8 = true ∧ (d.hubPort p.val).dev ≠ 0 ∧ d.is (F.PRT_STAT_FENCED p.val) = false ∧
        d.steering p.val = false ∧ d.usbAllowed p.val = true ∧ d.st p.val 0 = false then
      let e := d.reportConn p.val
      e.st p.val 0 = true ∧ e.st p.val 9 = ((d.hubPort p.val).dev == 1) ∧ e.bit (F.PRT_STAT_CHANGE p.val) 0 = true ∧
      d.Only e [F.PRT_STAT_STATUS p.val, F.PRT_STAT_CHANGE p.val]
    else d.reportConn p.val = d) ∧
    (if d.st p.val 0 = true then
      let e := d.reportGone p.val
      (∀ i ∈ [0, 1, 2, 4, 9, 10], e.st p.val i = false) ∧ e.bit (F.PRT_STAT_CHANGE p.val) 0 = true ∧
      d.Only e [F.PRT_STAT_STATUS p.val, F.PRT_STAT_CHANGE p.val]
    else d.reportGone p.val = d)

/-- The hub's downstream ports: resume, reset, power, over-current, connection and babble change the port's status and change bits as USB 2.0
has them; a trip takes power from every port of its gang and is HUB_OC; its end lets power that was asked for rise. A port on the local
side keeps what the hub path reports, and nothing changes where there is nothing to act on
(R188 to R191, R194, R204, R209, R210, R219, R238). -/
def PortEventsRule : Prop :=
  ∀ (s : State) (p : Fin 9), s.dev.up = true →
    (Ends s (exec (.portRemoteWake p) s) fun e =>
      if p.val ≠ 0 ∧ s.dev.isLocal p.val = false ∧ s.dev.st p.val 2 = true ∧ (s.dev.hubPort p.val).resume = false ∧ s.dev.phyHeld = false then
        ∃ x : Dev, e = x.signalWake ∧ x.out = ⟨.usb, p.val, [5], []⟩ :: s.dev.out ∧
          x.hubPort p.val = { s.dev.hubPort p.val with resume := true } ∧ x = { s.dev.rouse with out := x.out, hub := x.hub }
      else e = s.dev.rouse) ∧
    (Ends s (exec (.portResumeDone p) s) fun e =>
      if (s.dev.hubPort p.val).resume = true then
        e.st p.val 2 = false ∧ e.bit (F.PRT_STAT_CHANGE p.val) 2 = true ∧ e.hubPort p.val = { s.dev.hubPort p.val with resume := false } ∧
        s.dev.Only { e with hub := s.dev.hub } [F.PRT_STAT_STATUS p.val, F.PRT_STAT_CHANGE p.val]
      else e = s.dev) ∧
    (∀ q : Fin 10, Ends s (exec (.portResetDone q) s) fun e =>
      if q.val = 0 ∨ s.dev.st q.val 4 = false then e = s.dev
      else ∃ x : Dev, x.st q.val 4 = false ∧ x.bit (F.PRT_STAT_CHANGE q.val) 4 = true ∧
        s.dev.Only x [F.PRT_STAT_STATUS q.val, F.PRT_STAT_CHANGE q.val] ∧
        if s.dev.st q.val 0 = false ∨ (q.val ≠ 9 ∧ s.dev.isLocal q.val = true) then e = x
        else if q.val = 9 then
          e.st 9 1 = true ∧ e.st 9 10 = s.dev.is F.HUB_STAT_HS ∧ x.resetFunction.Only e [F.PRT_STAT_STATUS 9]
        else e.st q.val 1 = true ∧ e.st q.val 9 = ((s.dev.hubPort q.val).dev == 1) ∧
          e.st q.val 10 = ((s.dev.hubPort q.val).dev == 3 && s.dev.is F.HUB_STAT_HS) ∧ x.Only e [F.PRT_STAT_STATUS q.val]) ∧
    (Ends s (exec (.portPowerGood p) s) fun e =>
      if p.val = 0 ∨ (s.dev.hubPort p.val).want = false ∨ s.dev.ocOn p.val = true ∨ s.dev.is (F.PRT_STAT_FENCED p.val) = true then e = s.dev
      else ∃ x : Dev, x.hubPort p.val = { s.dev.hubPort p.val with want := false, pwren := decide (5 ≤ p.val) } ∧
        if s.dev.isLocal p.val = true then
          e = (if (s.dev.localPort p.val).cmd = 5 then x.endCmd p.val .done else x).reportLocal p.val ∧
          x.get (F.PRT_LSTAT_POWER (p.val - 1)) = 1 ∧ s.dev.Only { x with hub := s.dev.hub } [F.PRT_LSTAT_POWER (p.val - 1)]
        else e = x.reportConn p.val ∧ x.st p.val 8 = true ∧ s.dev.Only { x with hub := s.dev.hub } [F.PRT_STAT_STATUS p.val]) ∧
    (Ends s (exec (.portOverCurrent p) s) fun e =>
      if p.val = 0 then e = s.dev
      else ∃ x : Dev, e = ((s.dev.gangMembers p.val).foldl Dev.tripPort x).raise (bitFld 0x400C 3) 0x603 [0] p.val 0 0 ∧
        x.get (F.PRT_LSTAT_OC (p.val - 1)) = 1 ∧ s.dev.Only x [F.PRT_LSTAT_OC (p.val - 1)]) ∧
    (p.val ≠ 0 → ∀ d : Dev,
      (d.isLocal p.val = false → let t := d.tripPort p.val
        t.st p.val 3 = true ∧ t.st p.val 8 = false ∧ t.st p.val 0 = false ∧ t.bit (F.PRT_STAT_CHANGE p.val) 3 = true ∧
        (t.hubPort p.val).pwren = false ∧ (t.hubPort p.val).want = false ∧
        t.lar.due = d.lar.due ++ [.fault (0x200 + p.val) 17] ∧ t.get (F.PRT_CNT_OC p.val) = satInc 0xFFFF (d.get (F.PRT_CNT_OC p.val)) % 0x10000) ∧
      (d.isLocal p.val = true → let t := d.tripPort p.val
        t.get (F.PRT_LSTAT_POWER (p.val - 1)) = 0 ∧ t.get (F.PRT_LSTAT_CONN (p.val - 1)) = 0 ∧ (t.hubPort p.val).pwren = false ∧
        (t.hubPort p.val).want = false ∧ (t.localPort p.val).cmd = 0 ∧
        t.get (F.PRT_CNT_OC p.val) = satInc 0xFFFF (d.get (F.PRT_CNT_OC p.val)) % 0x10000)) ∧
    (Ends s (exec (.portOverCurrentClear p) s) fun e =>
      if p.val = 0 then e = s.dev
      else ∃ x : Dev, x.get (F.PRT_LSTAT_OC (p.val - 1)) = 0 ∧ s.dev.Only x [F.PRT_LSTAT_OC (p.val - 1)] ∧
        if x.ocOn p.val = true then e = x
        else (∀ m ∈ s.dev.gangMembers p.val, e.st m 3 = false ∧ e.hubPort m =
            if (s.dev.hubPort m).want then
              { s.dev.hubPort m with pwren := if s.dev.is (F.PRT_STAT_FENCED m) then (s.dev.hubPort m).pwren else decide (5 ≤ m) }
            else s.dev.hubPort m) ∧
          (∀ m, m ∉ s.dev.gangMembers p.val → e.hubPort m = s.dev.hubPort m) ∧
          x.Only { e with hub := x.hub } ((s.dev.gangMembers p.val).map F.PRT_STAT_STATUS) ∧ e.hub = { s.dev.hub with port := e.hub.port }) ∧
    (∀ v : Fin 4, Ends s (exec (.portConnectChange p v) s) fun e =>
      if p.val = 0 ∨ s.dev.isLocal p.val = true ∨ s.dev.phyHeld = true then e = s.dev.rouse
      else ∃ x : Dev, x.hubPort p.val = { s.dev.hubPort p.val with dev := v.val, resume := false } ∧ x = { s.dev.rouse with hub := x.hub } ∧
        (∀ m, m ≠ p.val → x.hubPort m = s.dev.hubPort m) ∧ e = if v.val = 0 then (x.emptyTt p.val).reportGone p.val else x.reportConn p.val) ∧
    (Ends s (exec (.portBabble p) s) fun e =>
      if p.val = 0 ∨ s.dev.isLocal p.val = true ∨ s.dev.st p.val 1 = false then e = s.dev
      else ∃ x : Dev, x.st p.val 1 = false ∧ x.bit (F.PRT_STAT_CHANGE p.val) 1 = true ∧
        x.get (F.PRT_CNT_BABBLE p.val) = satInc 0xFFFF (s.dev.get (F.PRT_CNT_BABBLE p.val)) % 0x10000 ∧
        s.dev.Only x [F.PRT_STAT_STATUS p.val, F.PRT_STAT_CHANGE p.val, F.PRT_CNT_BABBLE p.val] ∧
        e = if s.dev.phyHeld then x else x.fault (0x200 + p.val) 18)

/-- Split transactions use the translator of the port, whose pipeline holds what came in the frame and the one before, and at most one
full-speed frame of 1,500 byte-times: a start-split of control or bulk is taken into one of two buffers with ACK, or gets NAK where both are
taken; a periodic one is taken without an answer while the frame has room; a complete-split answers what the transaction has come to and
frees its place, NYET while it has come to nothing, and finds nothing where none waits. Nothing is taken on a port that the hub does not
repeat to. Endpoint 1 answers the ports with a change bit, with its toggle (R185, R191, R192, R216). -/
def SplitsRule : Prop :=
  ∀ s : State, s.dev.up = true →
    (∀ (p : Fin 9) (start : Bool) (k : Fin 4) (a : Fin 128) (ep : Fin 16) (inn : Bool) (resp : Fin 5) (fr : BitVec 11) (l : List Byte),
      Ends s (exec (.splitTransaction p start k a ep inn resp fr l) s) fun e =>
        let q := s.dev.ttPort p.val
        let x : HubPort := { s.dev.hubPort q with
          per := startFirst ((s.dev.hubPort q).pipe fr.toNat), np := startFirst (s.dev.hubPort q).np }
        let cost := ttCost ((s.dev.hubPort p.val).dev == 1) k.val l.length
        let here := fun c : TtBuf => c.dev == a.val && c.ep == ep.val && c.inn == inn
        let answer := fun (y : HubPort) (o : List Out) => e.hubPort q = y ∧ e.out = o ++ s.dev.out ∧
          e = { s.dev with hub := { s.dev.hub with port := e.hub.port }, out := e.out } ∧ ∀ m, m ≠ q → e.hubPort m = s.dev.hubPort m
        if p.val = 0 ∨ s.dev.hubSof p.val = false ∨ s.dev.steering p.val = true then e = s.dev
        else if start = true then
          if k.val = 1 ∨ k.val = 3 then
            if x.pipeLoad fr.toNat + cost ≤ 1500 then
              answer { x with per := x.per ++ [⟨a.val, ep.val, inn, x.per.isEmpty, fr.toNat, cost⟩] } []
            else answer x []
          else if x.np.any here = true then answer x [⟨.usb, 0, [1], []⟩]
          else if x.np.length < 2 then
            answer { x with np := x.np ++ [⟨a.val, ep.val, inn, x.np.isEmpty, fr.toNat, cost⟩] } [⟨.usb, 0, [1], []⟩]
          else answer x [⟨.usb, 0, [2], []⟩]
        else if k.val = 1 ∨ k.val = 3 then
          if x.per.any here = false ∨ resp.val = 0 then answer x [⟨.usb, 0, [3], []⟩]
          else answer { x with per := x.per.eraseIdx (x.per.findIdx here) }
            [⟨.usb, 0, [match resp.val with | 1 => 1 | 2 => 2 | 3 => 4 | _ => 0], if resp.val = 4 then l else []⟩]
        else if x.np.any here = false then answer x [⟨.usb, 0, [4], []⟩]
        else if resp.val = 0 then answer x [⟨.usb, 0, [3], []⟩]
        else answer { x with np := x.np.filter fun c => !here c }
          [⟨.usb, 0, [match resp.val with | 1 => 1 | 2 => 2 | 3 => 4 | _ => 0], if resp.val = 4 then l else []⟩]) ∧
    (Ends s (exec .hubStatusChangeIn s) fun e =>
      if s.dev.hubLive = false ∨ s.dev.is F.HUB_STAT_CFG = false then e = s.dev
      else if s.dev.is (F.EPM_SLOT_HALT 1) = true then e = s.dev.emit .usb 0 [4] []
      else if s.dev.changeMap = 0 then e = s.dev.emit .usb 0 [2] []
      else e.get (F.EPM_SLOT_TOG 1) = (1 - s.dev.get (F.EPM_SLOT_TOG 1)) % 2 ∧
        (s.dev.emit .usb 0 (if s.dev.get (F.EPM_SLOT_TOG 1) = 0 then [0] else [0, s.dev.get (F.EPM_SLOT_TOG 1)]) (leBytes 2 s.dev.changeMap)).Only e [F.EPM_SLOT_TOG 1])

/-- What a port reports: a device that is there is shown with its speed and change bit where the port is on the hub path, powered, allowed
to pass data, and neither fenced nor being steered; a disconnect clears the connection and sets its change bit (R188, R189, R210).

The hub's downstream ports: resume, reset, power, over-current, connection and babble change the port's status and change bits as USB 2.0
has them; a trip takes power from every port of its gang and is HUB_OC; its end lets power that was asked for rise. A port on the local
side keeps what the hub path reports, and nothing changes where there is nothing to act on
(R188 to R191, R194, R204, R209, R210, R219, R238).

Split transactions use the translator of the port, whose pipeline holds what came in the frame and the one before, and at most one
full-speed frame of 1,500 byte-times: a start-split of control or bulk is taken into one of two buffers with ACK, or gets NAK where both are
taken; a periodic one is taken without an answer while the frame has room; a complete-split answers what the transaction has come to and
frees its place, NYET while it has come to nothing, and finds nothing where none waits. Nothing is taken on a port that the hub does not
repeat to. Endpoint 1 answers the ports with a change bit, with its toggle (R185, R191, R192, R216).
Where the spec leaves a reading open this follows the model's own: log entries 20, 32, 34, 35, 36. -/
def Obligations.HubPorts : Prop :=
  PortReportsRule ∧ PortEventsRule ∧ SplitsRule

/-! ### Port steering and the local host engine (chapter 08) -/

/-- A re-steer goes step by step: a request that passes the checks of R244 and R24 makes the port busy and remembers what it leaves, any other
is rejected with their first status; the leaving side quiesces and reports the port gone, the hold ends, and the joining side takes the port
with the power it had or PCYCLE gives, counts the steer and raises LHE_STEER_DONE; no step is taken out of its turn, and each ends with the
port parked where the joining tenant was reset meanwhile (R24, R215 to R218, R235, R237, R244, Table 08.1).
Where the spec leaves a reading open this follows the model's own: log entry 38. -/
def Obligations.Steering : Prop :=
  ∀ s : State, s.dev.up = true →
    (∀ (p : Fin 10) (w : Word), 1 ≤ p.val → p.val ≤ 8 → setsReserved R.PRT_STEER (withBit w 31) = false → Ends s (exec (.prtSteerGo p w) s) fun e =>
      let v := (withBit w 31).toNat
      let st := firstByRank (s.dev.steerChecks p.val (bitOf v 24) (bits v 0 8))
      if st = .done then
        e.get (F.PRT_LSTAT_STEERING (p.val - 1)) = 1 ∧ e.get (F.PRT_STEER_BUSY (p.val - 1)) = 1 ∧ e.steer p.val = ⟨1, bitOf v 24, bits v 0 8, bitOf v 25,
          s.dev.isLocal p.val, s.dev.portOwner p.val, s.dev.parked p.val, false, false⟩ ∧ ∃ x : Dev,
          e = x.startSteer p.val (bitOf v 24) (bits v 0 8) (bitOf v 25) false ∧ s.dev.Only x [F.PRT_STEER_GO (p.val - 1),
            F.PRT_STEER_PCYCLE (p.val - 1), F.PRT_STEER_SIDE (p.val - 1), F.PRT_STEER_TENANT (p.val - 1)]
      else RecordedGlb s.dev e (0x4160 + 0x40 * (p.val - 1)) st) ∧
    (∀ (p : Fin 10) (w : Word), p.val = 0 ∨ p.val = 9 → Ends s (exec (.prtSteerGo p w) s) fun e =>
      RecordedGlb s.dev e (0x4120 + 0x40 * p.val) .eField) ∧
    (∀ (d : Dev) (p t : Nat), d.unitFenced t = true → d.is (F.PRT_STEER_BUSY (p - 1)) = false → firstByRank (d.steerWrong p true t) = .done →
      firstByRank (d.steerChecks p true t) = .eFenced) ∧
    (∀ p : Fin 9,
      let x := s.dev.steer p.val
      (Ends s (exec (.steerQuiesceDone p) s) fun e =>
        if p.val = 0 ∨ x.step ≠ 1 then e = s.dev
        else ∃ y z : Dev,
          (if s.dev.isLocal p.val = true then y = ((s.dev.closePortCtxs p.val .eLink).clearLocal p.val).lheEvent 1 p.val p.val 0
           else (∀ i ∈ [0, 1, 2, 4, 9, 10], y.st p.val i = false) ∧ y.bit (F.PRT_STAT_CHANGE p.val) 0 = true ∧
            (y.hubPort (s.dev.ttPort p.val)).np = [] ∧ (y.hubPort (s.dev.ttPort p.val)).per = [] ∧
            s.dev.Only { y with hub := s.dev.hub } [F.PRT_STAT_STATUS p.val, F.PRT_STAT_CHANGE p.val]) ∧
          (if x.pcycle = true then (z.hubPort p.val).pwren = false ∧ (p.val ≤ 4 → z.get (F.PD_STAT_TCSTATE p.val) = 7) else z = y) ∧
          e = if x.stop then z.stopSteer p.val else z.setSteer p.val { x with step := 4 }) ∧
      (Ends s (exec (.steerHoldEnd p) s) fun e =>
        if p.val = 0 ∨ x.step ≠ 4 then e = s.dev
        else if x.stop = true then e = s.dev.stopSteer p.val
        else e.steer p.val = { x with step := 6 } ∧ s.dev.Only { e with hub := s.dev.hub, lhe := s.dev.lhe } [F.PD_STAT_TCSTATE p.val] ∧
          e.hubPort p.val = (if x.pcycle = true ∧ s.dev.ocOn p.val = false then { s.dev.hubPort p.val with pwren := decide (5 ≤ p.val) }
            else s.dev.hubPort p.val) ∧
          e.get (F.PD_STAT_TCSTATE p.val) =
            if p.val ≤ 4 ∧ s.dev.get (F.PD_STAT_TCSTATE p.val) = 7 then 0 else s.dev.get (F.PD_STAT_TCSTATE p.val)) ∧
      (Ends s (exec (.prtSteerDone p) s) fun e =>
        if p.val = 0 ∨ x.step ≠ 6 then e = s.dev
        else if x.stop = true then e = s.dev.stopSteer p.val
        else ∃ y : Dev,
          e = (if x.side then y.reportLocal p.val else y.reportConn p.val).raise F.LHE_INT_STEERDONE 0x804 [0] p.val 0 0 ∧
          y.isLocal p.val = x.side ∧ y.parked p.val = false ∧ y.steering p.val = false ∧ y.steer p.val = {} ∧
          y.portOwner p.val = (if x.side then x.tenant else 0) % 2 ^ 8 ∧ y.get (F.PRT_STEER_BUSY (p.val - 1)) = 0 ∧
          y.is (F.PRT_LSTAT_POWER (p.val - 1)) = (x.side && s.dev.steerPower p.val) ∧ y.st p.val 8 = (x.side || s.dev.steerPower p.val) ∧
          y.get (F.PRT_LCNT_STEERS (p.val - 1)) = satInc 0xFFFF (s.dev.get (F.PRT_LCNT_STEERS (p.val - 1))) % 0x10000)) ∧
    (∀ p : Fin 9, p.val ≠ 0 → let e := s.dev.stopSteer p.val
      e.isLocal p.val = true ∧ e.parked p.val = true ∧ e.portOwner p.val = 0 ∧ e.steering p.val = false ∧ e.steer p.val = {} ∧
        e.is (F.PRT_LSTAT_POWER (p.val - 1)) = s.dev.steerPower p.val)

/-- The local ports: a reset leaves the port enabled at its device's speed, a resume ends suspend, remote wake is answered with resume and
LHE_PORT_RESUME, a device that attaches to a powered port is shown and raises LHE_PORT_ATTACH, and one that goes is no longer shown, its
contexts closing with E_LINK; babble disables the port with the device attached. A port on the hub path is left alone; traffic ends DOZE
(R61, R219, R238, R241, R242). -/
def LocalPortsRule : Prop :=
  ∀ (s : State) (p : Fin 9), s.dev.up = true →
    let r := s.dev.rouse
    (Ends s (exec (.localPortResetDone p) s) fun e =>
      if p.val = 0 ∨ (s.dev.localPort p.val).cmd ≠ 1 then e = s.dev
      else
        let v := if s.dev.is (F.PRT_LSTAT_CONN (p.val - 1)) then (s.dev.hubPort p.val).dev else 0
        e.is (F.PRT_LSTAT_ENABLED (p.val - 1)) = (v != 0) ∧ e.get (F.PRT_LSTAT_SPEED (p.val - 1)) = v % 4 ∧
        e.get (F.PRT_LSTAT_RESETTING (p.val - 1)) = 0 ∧ (e.localPort p.val).cmd = 0 ∧ s.dev.Only { e with lhe := s.dev.lhe, hif := s.dev.hif }
          [F.PRT_LSTAT_ENABLED (p.val - 1), F.PRT_LSTAT_SPEED (p.val - 1), F.PRT_LSTAT_RESETTING (p.val - 1)]) ∧
    (Ends s (exec (.localResumeDone p) s) fun e =>
      if p.val = 0 ∨ (s.dev.localPort p.val).resume = false then e = s.dev
      else e.get (F.PRT_LSTAT_SUSP (p.val - 1)) = 0 ∧ (e.localPort p.val).resume = false ∧
        s.dev.Only { e with lhe := s.dev.lhe, hif := s.dev.hif } [F.PRT_LSTAT_SUSP (p.val - 1), F.PRT_LSTAT_RESETTING (p.val - 1)]) ∧
    (Ends s (exec (.lhePortResume p) s) fun e =>
      if p.val ≠ 0 ∧ s.dev.isLocal p.val = true ∧ s.dev.is (F.PRT_LSTAT_SUSP (p.val - 1)) = true ∧ (s.dev.localPort p.val).resume = false ∧
          s.dev.phyHeld = false ∧ s.dev.is (F.PRT_STAT_FENCED p.val) = false then
        ∃ x : Dev, e = x.raise F.LHE_INT_RESUME 0x802 (if s.dev.parked p.val then [] else [s.dev.portOwner p.val]) p.val 0 0 ∧
          x.localPort p.val = { s.dev.localPort p.val with resume := true } ∧ x.out = ⟨.usb, p.val, [5], []⟩ :: s.dev.out ∧
          x = { r with out := x.out, lhe := x.lhe }
      else e = r) ∧
    (∀ v : Fin 4, Ends s (exec (.lhePortAttach p v) s) fun e =>
      if p.val = 0 ∨ s.dev.isLocal p.val = false ∨ s.dev.phyHeld = true ∨ v.val = 0 then e = r
      else ∃ x : Dev, (x.hubPort p.val).dev = v.val ∧ x = { r with hub := x.hub } ∧ e = x.reportLocal p.val) ∧
    (∀ d : Dev,
      if d.isLocal p.val = true ∧ d.parked p.val = false ∧ d.is (F.PRT_STAT_FENCED p.val) = false ∧ d.steering p.val = false ∧
          (d.hubPort p.val).dev ≠ 0 ∧ d.is (F.PRT_LSTAT_POWER (p.val - 1)) = true ∧ d.usbAllowed p.val = true ∧
          d.is (F.PRT_LSTAT_CONN (p.val - 1)) = false then
        ∃ x : Dev, d.reportLocal p.val = x.raise F.LHE_INT_ATTACH 0x800 [d.portOwner p.val] p.val 0 0 ∧
          x.get (F.PRT_LSTAT_CONN (p.val - 1)) = 1 ∧ d.Only x [F.PRT_LSTAT_CONN (p.val - 1)]
      else d.reportLocal p.val = d) ∧
    (Ends s (exec (.lhePortDetach p false) s) fun e =>
      if p.val = 0 ∨ s.dev.isLocal p.val = false then e = r
      else ∃ x : Dev, x = (((r.endCmd p.val .eLink).closePortCtxs p.val .eLink).clearLocal p.val).lheEvent 1 p.val p.val 0 ∧
        (e.hubPort p.val) = { x.hubPort p.val with dev := 0 } ∧ e = { x with hub := e.hub } ∧
        e.get (F.PRT_LSTAT_CONN (p.val - 1)) = 0 ∧ e.get (F.PRT_LSTAT_ENABLED (p.val - 1)) = 0 ∧ e.get F.LHE_INT_DETACH = 1) ∧
    (Ends s (exec (.lhePortDetach p true) s) fun e =>
      if p.val = 0 ∨ s.dev.isLocal p.val = false ∨ s.dev.is (F.PRT_LSTAT_ENABLED (p.val - 1)) = false then e = r
      else ∃ x y : Dev, x = (((r.endCmd p.val .eLink).closePortCtxs p.val .eLink).clearLocal p.val).lheEvent 1 p.val p.val 0 ∧
        y.get (F.PRT_LSTAT_CONN (p.val - 1)) = s.dev.get (F.PRT_LSTAT_CONN (p.val - 1)) % 2 ∧ y.get (F.PRT_LSTAT_ENABLED (p.val - 1)) = 0 ∧
        y.get F.LHE_INT_DETACH = 1 ∧ x.Only y [F.PRT_LSTAT_CONN (p.val - 1), F.PRT_CNT_BABBLE p.val] ∧
        e = if s.dev.phyHeld then y else y.oweFault (0x200 + p.val) 18)

/-- Local transactions: none starts out of its place: a periodic one in its micro-frame and once, another when no periodic one of its port is
left and at its turn, which passes round by context. A NAK changes no register and ends a run of errors; STALL ends the transfer with E_PROTO
and halts a data endpoint; an error is counted, is fault source 20, and the third in a row ends the transfer and halts the context; babble
halts the context and disables the port; a packet of the wrong toggle is dropped. A SETUP goes out first, IN data reach the tenant's memory,
OUT data that are poisoned are not sent, and either flips the toggle; NYET and NAK of a high-speed OUT begin ping state, in which a PING goes
out in place of the data until it is acknowledged; an isochronous transaction is never retried (R224 to R230, Tables 08.3, 09.6, 11.2). -/
def LocalTransactionsRule : Prop :=
  ∀ (s : State) (c : Fin 128) (res : Fin 7) (l : List Byte) (poison : Bool), s.dev.up = true →
    let p := s.dev.get (F.LHE_CTXW0_PORT c.val)
    let type := s.dev.get (F.LHE_CTXW0_TYPE c.val)
    let periodic := type == 1 || type == 3
    (s.dev.starts c.val = (s.dev.ctxServed c.val && s.dev.ctxWants c.val &&
      if periodic then (s.dev.ctx c.val).due else !s.dev.periodicLeft p && s.dev.turnOf p == some c.val)) ∧
    (Ends s (exec (.lheTransaction c res l poison) s) fun e =>
      if s.dev.starts c.val = false then e = s.dev
      else ∃ x : Dev, x = { s.dev with lhe := x.lhe } ∧
        (if periodic = true then x.ctx c.val = { s.dev.ctx c.val with due := false } ∧ x.localPort p = s.dev.localPort p
         else x.ctx c.val = s.dev.ctx c.val ∧ x.localPort p = { s.dev.localPort p with turn := c.val }) ∧
        let ok := x.modCtx c.val fun y => { y with errs := 0 }
        if res.val = 6 then e = (x.haltCtx c.val 3).localDetach p true
        else if s.dev.pingNext c.val = true then ∃ y : Dev, y.out = ⟨.usb, p, [9], []⟩ :: s.dev.out ∧ y = { x with out := y.out, lhe := y.lhe } ∧
          (y.ctx c.val) = { x.ctx c.val with pinged := true } ∧
          match res.val with
          | 0 => (e.ctx c.val) = { y.ctx c.val with ping := false, errs := 0 } ∧ e = { y with lhe := e.lhe }
          | 3 => ∃ tk t, s.dev.live (isXfer c.val) = tk :: t ∧ ∃ z : Dev,
              z = (y.modCtx c.val fun k => { k with errs := 0 }).finish tk .eProto tk.moved 0 ∧ e = if type = 0 then z else z.haltCtx c.val 1
          | 4 => e = y.xferError c.val
          | _ => (e.ctx c.val) = { y.ctx c.val with errs := 0 } ∧ e = { y with lhe := e.lhe }
        else if type = 1 then
          if res.val = 3 then e = x.haltCtx c.val 1
          else if res.val ≠ 0 then e.get (F.PRT_LCNT_XERR (p - 1)) = satInc 0xFFFF (s.dev.get (F.PRT_LCNT_XERR (p - 1))) % 0x10000 ∧
            e.lar.due = s.dev.lar.due ++ [.fault (0x200 + p) 20] ∧ e.hif = s.dev.hif
          else if s.dev.is (F.LHE_CTXW0_DIR c.val) = true then
            e = (x.srcUses (2 * 8192 + c.val)).foldl (fun d q => d.itemIn q l (d.almTime % 2 ^ 32) false) x
          else match x.sinkUses (2 * 8192 + c.val) with
            | [] => e = x
            | (q, i) :: _ =>
              match x.sinkPacket q i (x.ctxFrames c.val q * x.frameBytes q) with
              | (y, none) => e = y
              | (y, some m) => e = y.emit .usb p [0] (zeroPoisoned (x.frameBytes q) (x.ctxFrames c.val q) m)
        else ∃ (tk : Tkt) (t : List Tkt), s.dev.live (isXfer c.val) = tk :: t ∧
          match res.val with
          | 1 => (e.ctx c.val) = { x.ctx c.val with errs := 0, ping := s.dev.pingable c.val tk || (s.dev.ctx c.val).ping } ∧ e = { s.dev with lhe := e.lhe }
          | 3 => ∃ y : Dev, y = ok.finish tk .eProto tk.moved 0 ∧ e = if type = 0 then y else y.haltCtx c.val 1
          | 4 => ∃ y : Dev, (y.ctx c.val).errs = (s.dev.ctx c.val).errs + 1 ∧
              y.get (F.PRT_LCNT_XERR (p - 1)) = satInc 0xFFFF (s.dev.get (F.PRT_LCNT_XERR (p - 1))) % 0x10000 ∧
              y.lar.due = s.dev.lar.due ++ [.fault (0x200 + p) 20] ∧ y.hif = s.dev.hif ∧
              e = if (s.dev.ctx c.val).errs + 1 < 3 then y else (y.finish tk .eProto tk.moved 0).haltCtx c.val 2
          | 5 => e = x
          | _ => e = ok.xferGood c.val tk (res.val == 2) l poison) ∧
    (∀ (d : Dev) (tk : Tkt) (nyet : Bool), d.inPart tk.t = false →
      let control := d.get (F.LHE_CTXW0_TYPE c.val) == 0
      let q := d.get (F.LHE_CTXW0_PORT c.val)
      let e := d.xferGood c.val tk nyet l poison
      (control = true → tk.stage = 0 → ∃ k, e = (d.emit .usb q [0] (leBytes 8 tk.setup)).modTkt tk k ∧
        (k tk).stage = (if tk.len = 0 then 2 else 1)) ∧
      (control = true → tk.stage = 2 → e = (d.finish tk .done tk.moved 0).resync c.val tk.setup) ∧
      ((control = true → tk.stage ≠ 0 ∧ tk.stage ≠ 2) → d.xferIn c.val tk = true → ∃ x : Dev, e = x.moveOn c.val tk l.length ∧
        x.out = ⟨.hostWrite, tk.t, [tk.addr + tk.moved, 0], (l.take (d.get (F.LHE_CTXW1_MPS c.val))).take (tk.len - tk.moved)⟩ :: d.out ∧
        x.get (F.LHE_CTXW1_TOG c.val) = (1 - d.get (F.LHE_CTXW1_TOG c.val)) % 2 ∧ d.Only { x with out := d.out } [F.LHE_CTXW1_TOG c.val]) ∧
      ((control = true → tk.stage ≠ 0 ∧ tk.stage ≠ 2) → d.xferIn c.val tk = false →
        let n := d.outSize c.val tk
        if poison = true ∧ n ≠ 0 then e = (d.finish tk .ePoison tk.moved 0).hifEvent 0 tk.t
        else ∃ x : Dev, e = x.moveOn c.val tk n ∧ x.out = ⟨.usb, q, [0], (l ++ List.replicate n 0).take n⟩ :: d.out ∧
          x.get (F.LHE_CTXW1_TOG c.val) = (1 - d.get (F.LHE_CTXW1_TOG c.val)) % 2 ∧
          (x.ctx c.val).ping = (nyet && d.get (F.PRT_LSTAT_SPEED (q - 1)) == 3) ∧
          d.Only { x with out := d.out, lhe := d.lhe } [F.LHE_CTXW1_TOG c.val])) ∧
    (∀ (d : Dev) (cause : Nat), d.get (F.LHE_CTXW0_PORT c.val) < 9 → cause < 4 →
      (d.haltCtx c.val cause).get (F.LHE_CTXW0_STATE c.val) = 2 ∧ (d.haltCtx c.val cause).get (F.LHE_CTXW1_HCAUSE c.val) = cause ∧
      (d.haltCtx c.val cause).get F.LHE_INT_CTXHALT = 1)

/-- Local micro-frames follow one another at their Almanac boundaries, within one edge of the 24 MHz count: the first after EN begins at the
next boundary. At each, the time since passes, LAG shows how far the boundary is from its Almanac time, beyond 1 µs raising LHE_SOF_LAG once
an excursion, and the periodic transactions of the new micro-frame alone become due; each context may send a PING again. While EN is 0
nothing is sent (R221, R222, R226, R228, R243). -/
def LocalMicroframesRule : Prop :=
  ∀ s : State, s.dev.up = true →
    (Ends s (exec .localMicroframe s) fun e =>
      if s.dev.is F.LHE_CTRL_EN = false then e = s.dev
      else
        let x := s.dev.nextSof
        e.lhe.frame = x.1 ∧ e.lhe.sofAt = some x.2.1 ∧ e.xt.count = (s.dev.xt.count + (x.2.1 - s.dev.xt.count)) % 2 ^ 64 ∧
        e.almCnt = (if s.dev.is F.ALM_STAT_PAUSED then s.dev.almCnt else s.dev.almCnt + (x.2.1 - s.dev.xt.count) * s.dev.alm.inc) ∧
        e.get F.LHE_STAT_LAG = min 255 x.2.2 ∧ e.lhe.lagging = decide (125 < x.2.2) ∧
        e.get F.LHE_INT_SOFLAG = (if 125 < x.2.2 ∧ s.dev.lhe.lagging = false then 1 else s.dev.get F.LHE_INT_SOFLAG) ∧
        ∀ c : Fin 128, (e.ctx c.val).pinged = false ∧ (e.ctx c.val).due = (!s.dev.phyHeld && s.dev.ctxOpen c.val && s.dev.ctxPeriodic c.val &&
          s.dev.get (F.LHE_CTXW0_STATE c.val) == 1 && s.dev.ctxDue c.val x.1)) ∧
    (∀ d : Dev, (d.lhe.sofAt = none → d.nextSof.1 = d.almNs / 125000 + 1 ∧ d.xt.count ≤ d.nextSof.2.1 ∧ d.nextSof.2.2 = 0) ∧
      (∀ t, d.lhe.sofAt = some t → d.nextSof.1 = d.lhe.frame + 1 ∧ t + 2999 ≤ d.nextSof.2.1 ∧ d.nextSof.2.1 ≤ t + 3001))

/-- The local ports: a reset leaves the port enabled at its device's speed, a resume ends suspend, remote wake is answered with resume and
LHE_PORT_RESUME, a device that attaches to a powered port is shown and raises LHE_PORT_ATTACH, and one that goes is no longer shown, its
contexts closing with E_LINK; babble disables the port with the device attached. A port on the hub path is left alone; traffic ends DOZE
(R61, R219, R238, R241, R242).

Local transactions: none starts out of its place: a periodic one in its micro-frame and once, another when no periodic one of its port is
left and at its turn, which passes round by context. A NAK changes no register and ends a run of errors; STALL ends the transfer with E_PROTO
and halts a data endpoint; an error is counted, is fault source 20, and the third in a row ends the transfer and halts the context; babble
halts the context and disables the port; a packet of the wrong toggle is dropped. A SETUP goes out first, IN data reach the tenant's memory,
OUT data that are poisoned are not sent, and either flips the toggle; NYET and NAK of a high-speed OUT begin ping state, in which a PING goes
out in place of the data until it is acknowledged; an isochronous transaction is never retried (R224 to R230, Tables 08.3, 09.6, 11.2).

Local micro-frames follow one another at their Almanac boundaries, within one edge of the 24 MHz count: the first after EN begins at the
next boundary. At each, the time since passes, LAG shows how far the boundary is from its Almanac time, beyond 1 µs raising LHE_SOF_LAG once
an excursion, and the periodic transactions of the new micro-frame alone become due; each context may send a PING again. While EN is 0
nothing is sent (R221, R222, R226, R228, R243).
Where the spec leaves a reading open this follows the model's own: log entries 20, 38, 39. -/
def Obligations.LocalHost : Prop :=
  LocalPortsRule ∧ LocalTransactionsRule ∧ LocalMicroframesRule

/-! ### Streams and the Larder (chapter 09) -/

/-- A queue in FIFO mode takes an item whole at its end or not at all, with the cells its length needs and the poison of the cells it came
with; what finds no room is counted in LOST, and the items that wait stay. A free list that cannot be read leaks on the way, and the room is
then judged anew (R247, R250, R253, R254, R265, R276). -/
def QueueTakesWholeRule : Prop :=
  ∀ (d : Dev) (q prio stamp : Nat) (data : List Byte) (bad : Nat → Bool), d.get (F.QUE_W0_MODE q) = 0 →
    let k := max 1 (ceilDiv data.length 64)
    let r := d.enqueueAs q data prio stamp bad
    (r.2 = 0 ∧ d.fits q k = true ∧ ∃ it : Item, r.1.items q = d.items q ++ [it] ∧ it.data = data ∧ it.prio = prio ∧ it.stamp = stamp ∧
      it.cells.length = k ∧ it.poison = ((List.range k).filter bad).map (it.cells.getD · 0)) ∨
    (r.2 = 1 ∧ r.1.items q = d.items q ∧ r.1.get (F.QUE_W2_LOST q) = min (d.get (F.QUE_W2_LOST q) + 1) (2 ^ 32 - 1) ∧
      ∃ x : Dev, r.1 = x.countLost q 1 ∧ d.Only { x with lar := d.lar } [F.LAR_LEAK_COUNT])

/-- What streams do: an item is taken while PRIMING or RUN and dropped otherwise, a HAY item with its bale's stamp, a TDM item with its bank's
start, any other with the time; PREFILL turns PRIMING into RUN; a RING source's buffer is an item, poisoned in the cells that poisoned TLPs
wrote, and ends its BUF; a lost source is told once; a flush empties the queue and ends in BOUND, or under a fence as BOUND at its return; a
notice is sent again only after its spacing (R256, R258, R262, R264, R265, R274, R275, R288, R587, Table 09.5). -/
def StreamsRule : Prop :=
  ∀ (s : State) (st : Fin 256), s.dev.up = true →
    (∀ (data : List Byte) (stamp : Word) (bad : List (Fin 256)), Ends s (exec (.streamItemIn st data stamp bad) s) fun e =>
      let k := epKind (s.dev.srcCode st.val)
      if k = 5 then e = s.dev.ringItem st.val data (bad.map Fin.val)
      else if s.dev.sourceHeld st.val = false ∧ s.dev.strState st.val ∈ [2, 3] ∧ (s.dev.stream st.val).srcLost = false ∧ data ≠ [] then
        e = (s.dev.enqueue (512 + st.val) data 0 (if k = 4 then stamp.toNat
            else if k = 3 then (s.dev.tdmOf (tdmPort (s.dev.srcCode st.val))).start % 2 ^ 32 else s.dev.almTime % 2 ^ 32)
          (k == 4 && !bad.isEmpty)).1.primed st.val
      else e = s.dev) ∧
    (∀ (data : List Byte) (bad : List Nat), s.dev.live (isBuf (ringTenant (s.dev.srcCode st.val)) (ringSq (s.dev.srcCode st.val))) = [] →
      s.dev.ringItem st.val data bad = s.dev) ∧
    (∀ (data : List Byte) (bad : List Nat) (tk : Tkt) (t : List Tkt),
      s.dev.live (isBuf (ringTenant (s.dev.srcCode st.val)) (ringSq (s.dev.srcCode st.val))) = tk :: t → s.dev.inPart tk.t = false →
      let e := s.dev.ringItem st.val data bad
      if s.dev.ringPaused (s.dev.srcCode st.val) = true ∨ s.dev.strState st.val ∉ [2, 3] ∨
          (s.dev.get (F.QUE_W0_MODE (512 + st.val)) = 0 ∧ s.dev.fits (512 + st.val) (ceilDiv tk.len 64) = false) then e = s.dev
      else
        let at' := if bitOf (tk.word 1) 16 then tk.word 5 else s.dev.almTime % 2 ^ 32
        let hit := (List.range (ceilDiv tk.len 64)).filter bad.contains
        let x := ((s.dev.enqueueAs (512 + st.val) ((data ++ List.replicate tk.len 0).take tk.len) 0 at' fun k => hit.contains k).1.primed
          st.val).finish tk (if hit = [] then .done else .ePoison) tk.len at'
        e = if hit = [] then x else x.hifEvent 0 tk.t) ∧
    (∀ d : Dev, d.strState st.val = 2 → if d.get (F.STR_W1_PREFILL st.val) ≤ d.qCells (512 + st.val) then
        (d.primed st.val).strState st.val = 3 ∧ (∀ k ∈ ((d.primed st.val).stream st.val).sinks, k.2.active = true) ∧
          d.Only { d.primed st.val with strm := d.strm } [F.STR_W0_STATE st.val]
      else d.primed st.val = d) ∧
    (Ends s (exec (.strSourceLost st) s) fun e =>
      if s.dev.strState st.val = 0 ∨ (s.dev.strState st.val = 5 ∧ (s.dev.stream st.val).preFence = 0) then e = s.dev
      else ∃ x : Dev, (x.stream st.val).srcLost = true ∧ x = { s.dev with strm := x.strm } ∧
        e = if (s.dev.stream st.val).srcLost then x else x.notify (s.dev.strOwner st.val) 0x0A01 st.val 13 0) ∧
    (Ends s (exec (.flushDrained st) s) fun e =>
      if s.dev.flushing st.val = true then
        e.items (512 + st.val) = [] ∧ (e.stream st.val).drained = true ∧ e.strState st.val = s.dev.strState st.val ∧
        ∀ k ∈ (e.stream st.val).sinks, k.2.pos = 0 ∧ k.2.active = false
      else e = s.dev) ∧
    (Ends s (exec (.flushDone st) s) fun e =>
      if s.dev.flushing st.val = true ∧ (s.dev.stream st.val).drained = true then
        (if s.dev.strState st.val = 5 then e.strState st.val = 5 ∧ (e.stream st.val).preFence = 1 else e.strState st.val = 1) ∧
        e.get (F.QUE_W1_FLUSHING (512 + st.val)) = 0 ∧ (e.stream st.val).drained = false ∧
        s.dev.Only { e with strm := s.dev.strm, hif := s.dev.hif } [F.STR_W0_STATE st.val, F.QUE_W1_FLUSHING (512 + st.val)]
      else e = s.dev) ∧
    (∀ (q : Fin 1024) (k : Fin 3), Ends s (exec (.noticeSpacingEnd q k) s) fun e =>
      match mapGet 0 s.dev.lar.spacing (3 * q.val + k.val) with
      | 0 => e = s.dev
      | 1 => e = s.dev.setSpacing q.val k.val 0
      | _ => e = (s.dev.sendNotice q.val k.val).setSpacing q.val k.val 1)

/-- A queue in FIFO mode takes an item whole at its end or not at all, with the cells its length needs and the poison of the cells it came
with; what finds no room is counted in LOST, and the items that wait stay. A free list that cannot be read leaks on the way, and the room is
then judged anew (R247, R250, R253, R254, R265, R276).

What streams do: an item is taken while PRIMING or RUN and dropped otherwise, a HAY item with its bale's stamp, a TDM item with its bank's
start, any other with the time; PREFILL turns PRIMING into RUN; a RING source's buffer is an item, poisoned in the cells that poisoned TLPs
wrote, and ends its BUF; a lost source is told once; a flush empties the queue and ends in BOUND, or under a fence as BOUND at its return; a
notice is sent again only after its spacing (R256, R258, R262, R264, R265, R274, R275, R288, R587, Table 09.5).
Where the spec leaves a reading open this follows the model's own: log entries 42, 43. -/
def Obligations.QueuesAndStreams : Prop :=
  QueueTakesWholeRule ∧ StreamsRule

/-- The Larder's registers: LOCK is refused with E_NORES where the guarantees do not fit, else it locks and with the steward as host starts the
set-aside, whose end shows PARTOK and wipes the partition; CNTCLR clears every queue's counts, a queue's own bits clear that queue's
(R251, R252, R254, R279).
Where the spec leaves a reading open this follows the model's own: log entries 41, 42. -/
def Obligations.LarderRegisters : Prop :=
  ∀ s : State, s.dev.up = true →
    (∀ w : Word, setsReserved R.LAR_CTRL (withBit w 31) = false → bitOf (withBit w 31).toNat 0 = false → Ends s (exec (.larLock w) s) fun e =>
      if 3840 < s.dev.quotaSum (bits (withBit w 31).toNat 16 12) (s.dev.get F.LAR_PART_COUNT) then RecordedGlb s.dev e 0x5A00 .eNores
      else e.get F.LAR_CTRL_LOCK = 1 ∧ e.get F.LAR_CTRL_DEVRES = bits (withBit w 31).toNat 16 12 ∧
        s.dev.Only { e with lar := s.dev.lar } [F.LAR_CTRL_LOCK, F.LAR_CTRL_DEVRES] ∧
        (s.dev.is F.LAR_CTRL_LOCK = false → s.dev.is F.GLB_CTRL_LOCK = true → s.dev.stewardHost = true → s.dev.is F.LAR_CTRL_PARTOK = false →
          e.lar = { s.dev.lar with settingAside := true })) ∧
    (s.dev.lar.settingAside = true → Ends s (exec .partitionSetAsideDone s) fun e =>
      e.get F.LAR_CTRL_PARTOK = 1 ∧ e.lar.settingAside = false ∧ e.lar.partCells = 16 * s.dev.get F.LAR_PART_COUNT ∧
      e.lar.partBase = s.dev.get F.LAR_PART_BASE ∧ e.ecc.part = [] ∧ e.ecc.partPoison = []) ∧
    (s.dev.lar.settingAside = false → Ends s (exec .partitionSetAsideDone s) fun e => e = s.dev) ∧
    (∀ w : Word, setsReserved R.LAR_CTRL (withBit w 0) = false → bitOf (withBit w 0).toNat 31 = false → s.dev.get F.LAR_CTRL_LOCK < 2 →
      s.dev.quotaSum (bits (withBit w 0).toNat 16 12) (s.dev.get F.LAR_PART_COUNT) ≤ 3840 → Ends s (exec (.larCntclr w) s) fun e =>
        e.lar = s.dev.lar ∧ ∀ q : Fin 1024, e.get (F.QUE_W2_LOST q.val) = 0 ∧ e.get (F.QUE_W1_LOSTSAT q.val) = 0 ∧
          e.get (F.QUE_W3_UNDER q.val) = 0 ∧ e.get (F.QUE_W3_POISON q.val) = 0) ∧
    (∀ (q : Fin 1024) (w : Word), setsReserved R.QUE_W1 (withBit w 31) = false → bitOf (withBit w 31).toNat 30 = false →
      Ends s (exec (.queLostsatClear q w) s) fun e => e.get (F.QUE_W2_LOST q.val) = 0 ∧ e.get (F.QUE_W1_LOSTSAT q.val) = 0 ∧
        s.dev.Only e [F.QUE_W2_LOST q.val, F.QUE_W1_LOSTSAT q.val]) ∧
    (∀ (q : Fin 1024) (w : Word), setsReserved R.QUE_W1 (withBit w 30) = false → bitOf (withBit w 30).toNat 31 = false →
      Ends s (exec (.queCntclr q w) s) fun e => e.get (F.QUE_W3_UNDER q.val) = 0 ∧ e.get (F.QUE_W3_POISON q.val) = 0 ∧
        e.get (F.QUE_W1_LOSTSAT q.val) = s.dev.get (F.QUE_W1_LOSTSAT q.val) % 2 ∧
        s.dev.Only e [F.QUE_W3_UNDER q.val, F.QUE_W3_POISON q.val, F.QUE_W1_LOSTSAT q.val])

/-! ### The serial audio ports (chapter 10) -/

/-- Enabling a port is rejected with E_RANGE for a clock that the PLL or BCLK does not reach, with E_STATE for a rate of the other family or
streams that run, and starts it where it has its clock; a lock of the PLL starts the master ports that wait for it or lost their clock.
A bank's end sends its frames, delivers what came in, and begins the next at its time: a master's starts with a frame whose number is a
multiple of 8, at that frame's Almanac time. A frame-sync error restarts a slave's frame and leaves the rest of the bank unsent; a lost
clock stops the port, its return starts it again, each with its event and fault source. Each does nothing on a port that it does not
concern (R284 to R287, R293 to R295, R298, R299, R301, R302, R384).
Where the spec leaves a reading open this follows the model's own: log entry 44. -/
def Obligations.SerialPorts : Prop :=
  ∀ (s : State) (p : Fin 2), s.dev.up = true →
    (∀ w : Word, setsReserved R.TDM_CTRL w = false → bitOf w.toNat 1 = false → Ends s (exec (.tdmEnable p w) s) fun e =>
      if bitOf w.toNat 0 = s.dev.is (F.TDM_CTRL_EN p.val) then s.dev.Only e [F.TDM_CTRL_EN p.val] ∧ e.is (F.TDM_CTRL_EN p.val) = bitOf w.toNat 0
      else if bitOf w.toNat 0 = true then
        if s.dev.tdmBadClock p.val = true then RecordedGlb s.dev e (0xC000 + 0x40 * p.val) .eRange
        else if s.dev.tdmMaster p.val = true ∧ s.dev.rateInFamily p.val = false then RecordedGlb s.dev e (0xC000 + 0x40 * p.val) .eState
        else e.get (F.TDM_CTRL_EN p.val) = 1 ∧ (s.dev.tdmMaster p.val = false ∨ s.dev.is F.TDM_PLL_LOCKED = true →
          s.dev.is (F.TDM_STAT_FENCED p.val) = false → e.get (F.TDM_STAT_RUNNING p.val) = 1)
      else if (s.dev.tdmStreams p.val).any (fun x => s.dev.strState x == 2 || s.dev.strState x == 3 || s.dev.strState x == 4) then
        RecordedGlb s.dev e (0xC000 + 0x40 * p.val) .eState
      else e.get (F.TDM_CTRL_EN p.val) = 0 ∧ e.get (F.TDM_STAT_RUNNING p.val) = 0 ∧ e.get (F.TDM_STAT_CLKLOST p.val) = 0) ∧
    (∀ w : Word, setsReserved R.TDM_CTRL (withBit w 1) = false → bitOf (withBit w 1).toNat 0 = s.dev.is (F.TDM_CTRL_EN p.val) →
      Ends s (exec (.tdmCntclr p w) s) fun e => e.get (F.TDM_CNT_FSERR p.val) = 0 ∧ e.get (F.TDM_CNT_CLKLOSS p.val) = 0 ∧
        s.dev.Only e [F.TDM_CTRL_EN p.val, F.TDM_CNT_FSERR p.val, F.TDM_CNT_CLKLOSS p.val]) ∧
    (Ends s (exec .tdmPllLock s) fun e =>
      if s.dev.is F.TDM_PLL_LOCKED = false ∧ s.dev.pllWanted = true then
        e.get F.TDM_PLL_LOCKED = 1 ∧ e.pllOn = true ∧ (s.dev.is (F.TDM_CTRL_EN p.val) = true → s.dev.tdmMaster p.val = true →
          s.dev.is (F.TDM_STAT_FENCED p.val) = false → e.get (F.TDM_STAT_RUNNING p.val) = 1)
      else e = s.dev) ∧
    (∀ (n : BitVec 16) (di : List Word), Ends s (exec (.tdmBankEnd p n di) s) fun e =>
      let t := s.dev.tdmOf p.val
      let k := s.dev.nextFrame p.val
      let d1 := s.dev.toBank p.val n.toNat
      let row := 4 * (s.dev.get (F.TDM_CFG_NSLOT p.val) + 1)
      let gap := if s.dev.tdmMaster p.val then k - (t.frame + 8) else 0
      if s.dev.is (F.TDM_STAT_RUNNING p.val) = false then e = s.dev
      else ∃ x y : Dev, k % 8 = 0 ∧ (t.inBank = true → t.frame % 8 = 0 → k = t.frame + 8) ∧
        d1 = { s.dev with xt := d1.xt, almCnt := d1.almCnt } ∧
        (if t.inBank = false then x = d1
         else ∃ z : Dev, x = z.bankIntoSources p.val (di.map BitVec.toNat) ∧ z = { d1 with out := z.out } ∧
          z.out = (if gap = 0 then [] else [⟨.tdm, p.val, [d1.slotMask p.val 0], List.replicate (row * gap) 0⟩]) ++
            ⟨.tdm, p.val, [t.play.1], t.play.2.take (row * 8)⟩ :: s.dev.out) ∧
        (let now := if s.dev.tdmMaster p.val then frameStart (s.dev.tdmRate p.val) k % 2 ^ 64 else d1.almTime
         y = (x.endBanks p.val).bankOut p.val now ∧
          e = y.setTdm p.val ⟨true, now, if s.dev.tdmMaster p.val then k else 0, (y.tdmOf p.val).play⟩)) ∧
    (∀ n : Fin 8, Ends s (exec (.tdmFserr p n) s) fun e =>
      let t := s.dev.tdmOf p.val
      if s.dev.tdmMaster p.val = true ∨ s.dev.is (F.TDM_CTRL_EN p.val) = false ∨ s.dev.is (F.TDM_STAT_FENCED p.val) = true then e = s.dev
      else ∃ x y : Dev, y = x.endBanks p.val ∧
        e = (y.raise (bitFld (0xC014 + 0x40 * p.val) 2) 0xD02 (y.tdmOwners p.val) p.val 0 0).oweFault (0x21A + p.val) 30 ∧
        x.get (F.TDM_CNT_FSERR p.val) = satInc 0xFFFF (s.dev.get (F.TDM_CNT_FSERR p.val)) % 0x10000 ∧ x.tdmOf p.val = {} ∧
        x.out = (if t.inBank = true then [⟨.tdm, p.val, [t.play.1], t.play.2.take (4 * (s.dev.get (F.TDM_CFG_NSLOT p.val) + 1) * n.val)⟩] else []) ++
          s.dev.out ∧
        s.dev.Only { x with tdm := s.dev.tdm, out := s.dev.out } [F.TDM_CNT_FSERR p.val]) ∧
    (Ends s (exec (.tdmClkLoss p) s) fun e =>
      let z := s.dev.tdmStop p.val
      z.get (F.TDM_STAT_RUNNING p.val) = 0 ∧ z.tdmOf p.val = {} ∧
      if s.dev.is (F.TDM_CTRL_EN p.val) = false then e = s.dev
      else if s.dev.is (F.TDM_STAT_CLKLOST p.val) = true then
        e = if s.dev.is (F.TDM_STAT_RUNNING p.val) then z.ratPortLost p.val else s.dev
      else ∃ x : Dev,
        e = ((x.raise (bitFld (0xC014 + 0x40 * p.val) 0) 0xD00 (x.tdmOwners p.val) p.val 0 0).oweFault (0x21A + p.val) 29).ratPortLost p.val ∧
        x.get (F.TDM_STAT_CLKLOST p.val) = 1 ∧
        x.get (F.TDM_CNT_CLKLOSS p.val) = satInc 0xFFFF (s.dev.get (F.TDM_CNT_CLKLOSS p.val)) % 0x10000 ∧
        z.Only x [F.TDM_STAT_CLKLOST p.val, F.TDM_CNT_CLKLOSS p.val]) ∧
    (Ends s (exec (.tdmClkBack p) s) fun e =>
      if s.dev.is (F.TDM_CTRL_EN p.val) = false ∨ s.dev.is (F.TDM_STAT_FENCED p.val) = true ∨ s.dev.tdmClocked p.val = false ∨
          (s.dev.is (F.TDM_STAT_RUNNING p.val) = true ∧ s.dev.is (F.TDM_STAT_CLKLOST p.val) = false) then e = s.dev
      else ∃ x : Dev, e = x.tdmRun p.val ∧ e.get (F.TDM_STAT_RUNNING p.val) = 1 ∧ e.tdmOf p.val = {} ∧
        if s.dev.is (F.TDM_STAT_CLKLOST p.val) = true then ∃ y : Dev,
          x = y.raise (bitFld (0xC014 + 0x40 * p.val) 1) 0xD01 (y.tdmOwners p.val) p.val 0 0 ∧ y.get (F.TDM_STAT_CLKLOST p.val) = 0 ∧
          (s.dev.realign p.val).Only y [F.TDM_STAT_CLKLOST p.val]
        else x = s.dev.realign p.val)

/-! ### Rings, tickets and descriptors (chapter 11) -/

/-- Rings: a doorbell moves P of a submission ring, or C of another, and is rejected outside what the ring holds or while it is disabled; enabling
a ring sets its indices to 0 and its phase to 1; an absent tenant's page does not answer. Fetch serves the submission
rings of a tenant round-robin and the tenants in the weighted order, waits where no tag is free, and reads up to the end of the ring and to
the next 4 KiB boundary; its data
become descriptors in order, a poisoned, failed or twice late read completes every slot with the status it names; a first late one is read
again; a failed data read ends its descriptor. An access by the host ends DOZE (R61, R305, R309 to R313, R321, R322, R331, R338, R343).
Where the spec leaves a reading open this follows the model's own: log entries 45, 50. -/
def Obligations.Rings : Prop :=
  ∀ (s : State) (t : Fin 256) (q : Fin 8), s.dev.up = true →
    (∀ (r : Fin 17) (w : Word), setsReserved R.HIF_DB w = false → s.dev.tenantExists t.val = true → s.dev.flrBusy t.val = false →
      let far := (bits w.toNat 16 16 + 65536 - s.dev.get (F.HIF_RIDX_C t.val r.val)) % 65536
      Ends s (exec (.doorbell t r w) s) fun e =>
        if bits w.toNat 0 5 ≠ r.val then RecordedTen s.dev.rouse e t.val (0x1000 + 8 * r.val) .eField
        else if (r.val < 8 ∧ (far < s.dev.ringFill t.val r.val ∨ ringSize s.dev t.val r.val - 1 < far)) ∨ (8 ≤ r.val ∧ s.dev.ringFill t.val r.val < far) then
          RecordedTen s.dev.rouse e t.val (0x1000 + 8 * r.val) .eRange
        else if s.dev.is (F.HIF_RCFG_EN t.val r.val) = false then RecordedTen s.dev.rouse e t.val (0x1000 + 8 * r.val) .eState
        else if r.val < 8 then e.get (F.HIF_RIDX_P t.val r.val) = bits w.toNat 16 16 ∧ s.dev.rouse.Only e [F.HIF_RIDX_P t.val r.val]
        else e.get (F.HIF_RIDX_C t.val r.val) = bits w.toNat 16 16 ∧ s.dev.rouse.Only e [F.HIF_RIDX_C t.val r.val]) ∧
    (∀ (r : Fin 17) (w : Word), s.dev.tenantExists t.val = false →
      (Ends s (exec (.doorbell t r w) s) fun e => e = s.dev) ∧ (Ends s (exec (.ringEnable t r w) s) fun e => e = s.dev)) ∧
    (∀ (r : Fin 17) (w : Word), s.dev.tenantExists t.val = true → s.dev.flrBusy t.val = true →
      (Ends s (exec (.doorbell t r w) s) fun e =>
        if s.dev.inPart t.val = true then RecordedGlb s.dev.rouse e (0x1000 + 8 * r.val) .eBusy else e = s.dev.rouse) ∧
      (Ends s (exec (.ringEnable t r w) s) fun e =>
        if s.dev.inPart t.val = true then RecordedGlb s.dev e (0x108 + 16 * r.val) .eBusy else e = s.dev.rouse)) ∧
    (∀ (r : Fin 17) (w : Word), setsReserved R.HIF_RCFG w = false → s.dev.tenantExists t.val = true → s.dev.flrBusy t.val = false →
      Ends s (exec (.ringEnable t r w) s) fun e =>
        let st := firstByRank (s.dev.rcfgChecks t.val r.val w.toNat)
        if st ≠ .done then RecordedTen (s.dev.pageRouse t.val) e t.val (0x108 + 16 * r.val) st
        else e.is (F.HIF_RCFG_EN t.val r.val) = bitOf w.toNat 31 ∧ e.get (F.HIF_RCFG_LOG2SIZE t.val r.val) = bits w.toNat 16 5 ∧
          (s.dev.is (F.HIF_RCFG_EN t.val r.val) = false → bitOf w.toNat 31 = true →
            e.get (F.HIF_RIDX_P t.val r.val) = 0 ∧ e.get (F.HIF_RIDX_C t.val r.val) = 0 ∧ e.ringPhase t.val r.val = true)) ∧
    (s.dev.fetchers = [] → Ends s (exec .fetch s) fun e => e = s.dev) ∧
    (∀ v r, (v, r) ∈ s.dev.fetchers → v < 256 ∧ r < 8 ∧ s.dev.fetchDeferred v = false ∧ s.dev.sqReady v r = true ∧
      ∀ o < 8, s.dev.sqReady v o = true → (r + 7 * (mapGet 7 s.dev.hif.lastSq v + 1)) % 8 ≤ (o + 7 * (mapGet 7 s.dev.hif.lastSq v + 1)) % 8) ∧
    (s.dev.fetchers = [(t.val, q.val)] → s.dev.inPart t.val = false → s.dev.tagLimit ≤ s.dev.tagsUsed → Ends s (exec .fetch s) fun e =>
      e.get (F.HIF_RCFG_WAIT t.val q.val) = 1 ∧ e.hif.reads = s.dev.hif.reads ∧ e.out = s.dev.out) ∧
    (∀ n, (let slot := s.dev.get (F.HIF_RIDX_C t.val q.val) % ringSize s.dev t.val q.val
        n = min (min 8 ((4096 - (s.dev.ringBase t.val q.val + 32 * slot) % 4096) / 32))
          (min (s.dev.ringFill t.val q.val) (ringSize s.dev t.val q.val - slot))) →
      s.dev.fetchers = [(t.val, q.val)] → s.dev.inPart t.val = false → s.dev.tagsUsed < s.dev.tagLimit → s.dev.tktRoom t.val n = n →
      1 ≤ s.dev.get (F.TEN_GISO_WEIGHT t.val) → Ends s (exec .fetch s) fun e =>
        e.read t.val q.val = ⟨n, false⟩ ∧ (∀ g, e.get g = s.dev.get g) ∧ e.hif.last = t.val ∧ mapGet 7 e.hif.lastSq t.val = q.val ∧ e.out = ⟨.hostRead, t.val,
          [s.dev.ringBase t.val q.val + 32 * (s.dev.get (F.HIF_RIDX_C t.val q.val) % ringSize s.dev t.val q.val), 32 * n], []⟩ :: s.dev.out) ∧
    (∀ u r a b, s.dev.fetchers = [(t.val, q.val), (u, r)] → t.val < u → (s.dev.hif.last < t.val ∨ u ≤ s.dev.hif.last) → s.dev.hif.inTurn = false →
      s.dev.hif.tagHeld = [] → s.dev.tagFree t.val = true → s.dev.tagFree u = true → a = s.dev.tktRoom t.val (s.dev.fetchWant t.val q.val) → 0 < a →
      b = s.dev.tktRoom u (s.dev.fetchWant u r) → 0 < b → ∀ v, v = mapGet 0 s.dev.hif.credit t.val + s.dev.get (F.TEN_GISO_WEIGHT t.val) →
      (a ≤ v → Ends s (exec .fetch s) fun e => e.hif.last = t.val ∧ (e.read t.val q.val).n = a) ∧
      (v < a → b ≤ mapGet 0 s.dev.hif.credit u + s.dev.get (F.TEN_GISO_WEIGHT u) → Ends s (exec .fetch s) fun e =>
        e.hif.last = u ∧ (e.read u r).n = b ∧ mapGet 0 e.hif.credit t.val = v)) ∧
    (∀ (data : List Byte) (n : Nat), (s.dev.read t.val q.val).n = n → 0 < n → s.dev.inPart t.val = false →
      let c := s.dev.get (F.HIF_RIDX_C t.val q.val)
      (s.dev.unitFenced t.val = false → Ends s (exec (.fetchCompletion t q data false) s) fun e =>
        e.get (F.HIF_RIDX_C t.val q.val) = (c + n) % 65536 ∧ e.read t.val q.val = {} ∧ e.hif.cpls = s.dev.hif.cpls ∧
        e.fetched t.val q.val = s.dev.fetched t.val q.val ++
          (List.range n).map fun i => parseTkt t.val q.val ((c + i) % 65536) ((data.drop (32 * i)).take 32)) ∧
      (Ends s (exec (.fetchCompletion t q data true) s) fun e => e.get (F.HIF_RIDX_C t.val q.val) = (c + n) % 65536 ∧
        e.hif.cpls = s.dev.hif.cpls ++ (List.range n).map fun i => ⟨lostSlot t.val q.val ((c + i) % 65536), .ePoison, 0, 0⟩) ∧
      (∀ idx : BitVec 16, Ends s (exec (.pcieErrorCompletion t q true idx) s) fun e => e.get (F.HIF_RIDX_C t.val q.val) = (c + n) % 65536 ∧
        e.hif.cpls = s.dev.hif.cpls ++ (List.range n).map fun i => ⟨lostSlot t.val q.val ((c + i) % 65536), .eInternal, 0, 0⟩) ∧
      (∀ idx : BitVec 16, Ends s (exec (.pcieCplTimeout t q true idx) s) fun e =>
        if (s.dev.read t.val q.val).retried = true then e.get (F.HIF_RIDX_C t.val q.val) = (c + n) % 65536 ∧
          e.hif.cpls = s.dev.hif.cpls ++ (List.range n).map fun i => ⟨lostSlot t.val q.val ((c + i) % 65536), .eTimeout, 0, 0⟩
        else e.read t.val q.val = ⟨n, true⟩ ∧ (∀ g, e.get g = s.dev.get g) ∧ e.hif.cpls = s.dev.hif.cpls)) ∧
    (∀ (data : List Byte) (poison : Bool), (s.dev.read t.val q.val).n = 0 → Ends s (exec (.fetchCompletion t q data poison) s) fun e =>
      e = { s.dev with hif := { s.dev.hif with abandoned := s.dev.hif.abandoned - 1 } }) ∧
    (∀ (idx : BitVec 16) (b : Bool),
      let none' := s.dev.inPart t.val = true ∨ (if b = true then (s.dev.read t.val q.val).n = 0 else s.dev.dataReader t.val q.val idx.toNat = none)
      none' → (Ends s (exec (.pcieCplTimeout t q b idx) s) fun e => e = s.dev) ∧ (Ends s (exec (.pcieErrorCompletion t q b idx) s) fun e => e = s.dev)) ∧
    (∀ (idx : BitVec 16) (tk : Tkt), s.dev.inPart t.val = false → s.dev.dataReader t.val q.val idx.toNat = some tk →
      let moved := if tk.op = 0x06 then tk.moved else 0
      (Ends s (exec (.pcieCplTimeout t q false idx) s) fun e => e = (s.dev.finish tk .eTimeout moved 0).hifEvent 1 t.val) ∧
      (Ends s (exec (.pcieErrorCompletion t q false idx) s) fun e => e = (s.dev.finish tk .eInternal moved 0).hifEvent 2 t.val)) ∧
    (Ends s (exec (.pciePoisonedWrite t) s) fun e =>
      if s.dev.tenantExists t.val = true ∧ s.dev.is F.HIF_STAT_LINKUP = true ∧ s.dev.inPart t.val = false then ∃ x : Dev,
        e = (x.raise (bitFld 0xD008 0) 0xE00 (withT000 [t.val]) 0 0 0).oweFault t.val 31 ∧
        x.get F.HIF_CNT_POISONIN = satInc 0xFFFF (s.dev.get F.HIF_CNT_POISONIN) % 0x10000 ∧ s.dev.rouse.Only x [F.HIF_CNT_POISONIN]
      else e = s.dev.rouse) ∧
    (s.dev.stewardHost = true → Ends s (exec .pcieLinkDown s) fun e => e = s.dev) ∧
    (s.dev.stewardHost = false → Ends s (exec .pcieLinkDown s) fun e =>
      e.get F.SUP_RSTCAUSE_PCIE = 1 ∧ e.get F.HIF_STAT_LINKUP = 0 ∧ e.get F.HIF_STAT_EXTTAG = 0 ∧ e.hif.vfEnable = false ∧ e.hif.abandoned = 0 ∧
      (s.dev.tenantExists t.val = true → e.flrBusy t.val = true))

/-- Completions, events and vectors: the oldest completion of a CQ is written at P with its phase once there is room, leaves the queue, and
signals its vector where IRQ or its status asks for it; an event entry carries LOSTEV once; a vector under mask sets its pending bit instead,
unmasking sends it, and its message waits while the PCI Express PHY is held; a vector in holdoff waits for its end. Without room, an entry or
a host to reach nothing changes (R67, R308, R310, R315, R319, R340, R341, R344).
Where the spec leaves a reading open this follows the model's own: log entries 47, 48. -/
def Obligations.CompletionsAndVectors : Prop :=
  ∀ (s : State) (t : Fin 256), s.dev.up = true →
    (∀ c : Fin 8, Ends s (exec (.completionWrite t c) s) fun e =>
      let r := 8 + c.val
      let mine := fun y : Cpl => y.tk.t == t.val && s.dev.get (F.HIF_RCFG_CQ t.val y.tk.sq) == c.val
      match s.dev.hif.cpls.find? mine with
      | none => e = s.dev
      | some x =>
        if (s.dev.ringsReach t.val && s.dev.ringRoom t.val r) = false then e = s.dev
        else ∃ y z : Dev, y = { s.dev with hif := { s.dev.hif with cpls := s.dev.hif.cpls.eraseIdx (s.dev.hif.cpls.findIdx mine) } } ∧
          z = y.pushEntry t.val r (cplBytes x) ∧ (if x.tk.irq || x.status != .done then e = z.signalVec t.val (z.get (F.HIF_RCFG_VEC t.val r)) else e = z) ∧
          let p := s.dev.get (F.HIF_RIDX_P t.val r)
          z.get (F.HIF_RIDX_P t.val r) = (p + 1) % 65536 ∧ (s.dev.inPart t.val = false → z.out = ⟨.hostWrite, t.val,
            [s.dev.ringBase t.val r + 16 * (p % ringSize s.dev t.val r), 0], cplBytes x (s.dev.ringPhase t.val r)⟩ :: s.dev.out)) ∧
    (Ends s (exec (.eventDeliver t) s) fun e =>
      if (s.dev.ringsReach t.val && s.dev.ringRoom t.val 16) = false ∨ s.dev.lar.qFenced.contains t.val = true then e = s.dev
      else match s.dev.nextItem t.val with
        | none => e = s.dev
        | some j =>
          match s.dev.dequeue t.val j with
          | (x, none) => e = x
          | (x, some it) => ∃ y z : Dev, y = { x with lar := { x.lar with lostEv := mapPut false x.lar.lostEv t.val false } } ∧
            z = y.pushEntry t.val 16 (evqBytes it.data (mapGet false x.lar.lostEv t.val)) ∧ e = z.signalVec t.val (y.get (F.HIF_RCFG_VEC t.val 16)) ∧
            let p := x.get (F.HIF_RIDX_P t.val 16)
            z.get (F.HIF_RIDX_P t.val 16) = (p + 1) % 65536 ∧ (x.inPart t.val = false → z.out = ⟨.hostWrite, t.val,
              [x.ringBase t.val 16 + 16 * (p % ringSize x t.val 16), 0], evqBytes it.data (mapGet false x.lar.lostEv t.val) (x.ringPhase t.val 16)⟩ ::
              x.out)) ∧
    (∀ v : Fin 8,
      (s.dev.holding t.val v.val = false → Ends s (exec (.msixHoldoffExpiry t v) s) fun e => e = s.dev) ∧
      (s.dev.holding t.val v.val = true → Ends s (exec (.msixHoldoffExpiry t v) s) fun e => ∃ x : Dev, x.holding t.val v.val = false ∧
        (∀ g, x.get g = s.dev.get g) ∧ x.out = s.dev.out ∧ e = if 0 < s.dev.modN t.val v.val then x.sendVec t.val v.val else x) ∧
      (let x := s.dev.message t.val v.val
        if s.dev.inPart t.val = true then bitOf x.stw.latch v.val = true ∧ x = { s.dev with stw := { s.dev.stw with latch := x.stw.latch } }
        else if s.dev.is (F.MSIX_CTRL_MASK t.val v.val) then x.bit (F.MSIX_PBA_PEND t.val) v.val = true ∧ s.dev.Only x [F.MSIX_PBA_PEND t.val]
        else if s.dev.pcieHeld = true then x = { s.dev with hif := { s.dev.hif with msgDue := s.dev.hif.msgDue ++ [8 * t.val + v.val] } }
        else x = s.dev.emit .msix t.val [v.val] []) ∧
      (Ends s (exec (.msixUnmask t v) s) fun e =>
        if s.dev.tenantExists t.val = false then e = s.dev
        else if s.dev.flrBusy t.val = true then
          if s.dev.inPart t.val = true then RecordedGlb s.dev e (0x80C + 16 * v.val) .eBusy else e = s.dev.rouse
        else ∃ x : Dev, x.get (F.MSIX_CTRL_MASK t.val v.val) = 0 ∧ x.bit (F.MSIX_PBA_PEND t.val) v.val = false ∧
          (s.dev.pageRouse t.val).Only x [F.MSIX_CTRL_MASK t.val v.val, F.MSIX_PBA_PEND t.val] ∧
          e = if s.dev.bit (F.MSIX_PBA_PEND t.val) v.val then x.message t.val v.val else x))

/-- The effect of a descriptor's opcode, from `d`, in which it is dispatched and has passed its checks, to `e`: NOP; a re-steer begins; a port
command begins or acts; a context opens, closes or is reset; XFER and BUF wait for their data; a stream is bound, gains or loses a sink,
starts, flushes or is unbound; a flow opens or closes (R216, R219, R223, R231, R259 to R264, R314 to R317, R372). -/
def DescriptorEffect (d e : Dev) (tk : Tkt) : Prop :=
    (tk.op = 0x00 → e = d.finish tk .done 0 0) ∧
    (tk.op = 0x01 → let p := bits (tk.word 1) 0 4
      e.get (F.PRT_LSTAT_STEERING (p - 1)) = 1 ∧ e.get (F.PRT_STEER_BUSY (p - 1)) = 1 ∧ e.steer p =
        ⟨1, bitOf (tk.word 1) 8, bits (tk.word 1) 16 8, bitOf (tk.word 1) 9, d.isLocal p, d.portOwner p, d.parked p, true, false⟩) ∧
    (tk.op = 0x02 → let p := bits (tk.word 1) 0 4
      (bits (tk.word 1) 8 3 = 1 → e.get (F.PRT_LSTAT_RESETTING (p - 1)) = 1 ∧ e.get (F.PRT_LSTAT_ENABLED (p - 1)) = 0 ∧ (e.localPort p).cmd = 1 ∧
        ∃ l, e.out = ⟨.usb, p, [6], []⟩ :: l) ∧
      (bits (tk.word 1) 8 3 = 2 → e.localPort p = { d.localPort p with cmd := 2 } ∧ ∀ g, e.get g = d.get g) ∧
      (bits (tk.word 1) 8 3 = 3 → e.localPort p = { d.localPort p with cmd := 3, resume := true } ∧ e.out = ⟨.usb, p, [5], []⟩ :: d.out ∧
        ∀ g, e.get g = d.get g) ∧
      (bits (tk.word 1) 8 3 = 4 → e.get (F.PRT_LSTAT_POWER (p - 1)) = 0 ∧ e.get (F.PRT_LSTAT_CONN (p - 1)) = 0 ∧
        (e.hubPort p).pwren = false ∧ (e.hubPort p).want = false) ∧
      (bits (tk.word 1) 8 3 = 5 → e.localPort p = { d.localPort p with cmd := 5 } ∧ (e.hubPort p).want = true ∧ ∀ g, e.get g = d.get g)) ∧
    (tk.op = 0x03 → ∃ c < 128, d.ctxOpen c = false ∧ (∀ k < c, d.ctxOpen k = true) ∧ e.ctxOpen c = true ∧ e.get (F.LHE_CTXW0_STATE c) = 1 ∧
      e.get (F.LHE_CTXW0_PORT c) = bits (tk.word 1) 24 4 ∧ e.get (F.LHE_CTXW0_ADDR c) = bits (tk.word 1) 17 7 ∧
      e.get (F.LHE_CTXW0_EPNUM c) = bits (tk.word 1) 13 4 ∧ e.get (F.LHE_CTXW0_DIR c) = bits (tk.word 1) 12 1 ∧
      e.get (F.LHE_CTXW0_TYPE c) = bits (tk.word 1) 10 2 ∧ e.get (F.LHE_CTXW0_OWNER c) = tk.t ∧ e.get (F.LHE_CTXW1_MPS c) = bits (tk.word 2) 10 11) ∧
    (tk.op = 0x04 → e.ctxOpen (bits (tk.word 1) 0 7) = false) ∧
    (tk.op = 0x05 → let c := bits (tk.word 1) 0 7
      e.get (F.LHE_CTXW0_STATE c) = 1 ∧ e.get (F.LHE_CTXW1_HCAUSE c) = 0 ∧ e.get (F.LHE_CTXW1_TOG c) = 0 ∧ (e.ctx c).errs = 0 ∧
      d.Only { e with lhe := d.lhe, hif := d.hif } [F.LHE_CTXW0_STATE c, F.LHE_CTXW1_HCAUSE c, F.LHE_CTXW1_TOG c]) ∧
    (tk.op = 0x06 ∨ tk.op = 0x16 → e = d) ∧
    (tk.op = 0x10 → let st := bits (tk.word 1) 0 8
      e.strState st = 1 ∧ e.strOwner st = tk.t ∧ e.srcCode st = bits (tk.word 1) 16 16 ∧ e.get (F.STR_W1_RATE st) = bits (tk.word 2) 0 4 ∧
      e.get (F.STR_W1_WIDTH st) = bits (tk.word 2) 8 2 ∧ e.get (F.STR_W1_CH st) = bits (tk.word 2) 12 5 ∧
      e.get (F.STR_W1_PREFILL st) = bits (tk.word 2) 20 12 ∧ e.get (F.QUE_W0_DEPTH (512 + st)) = bits (tk.word 3) 0 16 ∧
      e.get (F.QUE_W0_MODE (512 + st)) = bits (tk.word 3) 16 2 ∧ e.qOwner (512 + st) = tk.t ∧ (e.stream st).sinks = []) ∧
    (tk.op = 0x11 → let st := bits (tk.word 1) 0 8
      ∃ i < 8, mapFind (d.stream st).sinks i = none ∧ (mapFind (e.stream st).sinks i).isSome = true ∧ e.sinkCode st i = bits (tk.word 1) 16 16 ∧
        e.get (sownFld st i) = tk.t ∧ (e.sink st i).active = (d.strState st == 3)) ∧
    (tk.op = 0x12 → let st := bits (tk.word 1) 0 8
      let i := bits (tk.word 1) 8 3
      if d.fillingBuf st i = true ∨ (epKind (d.sinkCode st i) = 3 ∧ 0 < (d.sink st i).cur) then
        (e.sink st i).leaving = true ∧ ∀ g, e.get g = d.get g
      else mapFind (e.stream st).sinks i = none) ∧
    (tk.op = 0x13 → let st := bits (tk.word 1) 0 8
      e.strState st = if d.get (F.STR_W1_PREFILL st) ≤ d.qCells (512 + st) then 3 else 2) ∧
    (tk.op = 0x14 → let st := bits (tk.word 1) 0 8
      if d.strState st = 4 then e = d else e.strState st = 4 ∧ e.get (F.QUE_W1_FLUSHING (512 + st)) = 1) ∧
    (tk.op = 0x15 → let st := bits (tk.word 1) 0 8
      e.strState st = 0 ∧ e.items (512 + st) = [] ∧ e.stream st = {}) ∧
    (tk.op = 0x20 → let f := bits (tk.word 1) 0 8
      ∃ x : Dev, x.flow f = { owner := tk.t, farFlow := bits (tk.word 2) 0 8, bytes := bits (tk.word 2) 16 16, opening := true } ∧
        x.get (F.HAY_FLOW_UNIT f) = bits (tk.word 1) 16 12 ∧ x.is (F.HAY_FLOW_DIR f) = bitOf (tk.word 1) 8 ∧
        if bitOf (tk.word 1) 8 then e.flowOpen f = true ∧ e.get (F.HAY_FLOW_UNIT f) = bits (tk.word 1) 16 12
        else e = match x.requestPath f with
          | .inl r => x.failOpen f (reasonStatus r) false
          | .inr y => if y.isMe (y.get (F.HAY_FLOW_UNIT f)) then y.pathUp f else y) ∧
    (tk.op = 0x21 → let f := bits (tk.word 1) 0 8
      ∃ x : Dev, x.flowOpen f = false ∧ x.flow f = {} ∧ e = ((x.loseSources (hayCode f) false).loseSinks (hayCode f)).finish tk .done 0 0)

/-- The command that names a descriptor by its opcode and, for PORTCMD, its command code. -/
def descriptorCommand (t : Fin 256) (q : Fin 8) (op cmd : Nat) : Instr :=
  match op with
  | 0x00 => .nop t q
  | 0x01 => .steer t q
  | 0x02 => match cmd with
    | 1 => .portcmdReset t q
    | 2 => .portcmdSuspend t q
    | 3 => .portcmdResume t q
    | 4 => .portcmdPowerOff t q
    | 5 => .portcmdPowerOn t q
    | _ => .dispatch t q
  | 0x03 => .ctxopen t q
  | 0x04 => .ctxclose t q
  | 0x05 => .ctxreset t q
  | 0x06 => .xfer t q
  | 0x10 => .bind t q
  | 0x11 => .attach t q
  | 0x12 => .detach t q
  | 0x13 => .start t q
  | 0x14 => .flush t q
  | 0x15 => .unbind t q
  | 0x16 => .buf t q
  | 0x20 => .hayopen t q
  | 0x21 => .hayclose t q
  | _ => .dispatch t q

/-- Dispatch, by DISPATCH or by the row of the descriptor's own opcode (NOP, STEER, the PORTCMD rows, CTXOPEN, CTXCLOSE, CTXRESET, XFER, BIND,
ATTACH, DETACH, START, FLUSH, UNBIND, BUF, HAYOPEN, HAYCLOSE): a resetting tenant and a FENCE hold it, a fenced tenant's descriptor completes
with E_FENCED, one at a bound makes its ring wait, and any other is dispatched and takes its effect. The command of another opcode than
that of the descriptor next in order, and an empty ring, change nothing. A sink that is not there sends no packet, and one whose queue
falls short underruns (R263, R314, R322, R348).
Where the spec leaves a reading open this follows the model's own: log entry 46. -/
def Obligations.DescriptorDispatch : Prop :=
  ∀ (s : State) (t : Fin 256) (q : Fin 8), s.dev.up = true →
    (∀ (tk : Tkt) (rest : List Tkt), s.dev.fetched t.val q.val = tk :: rest → tk.t = t.val →
      ∀ c ∈ [Instr.dispatch t q, descriptorCommand t q tk.op (bits (tk.word 1) 8 3)], Ends s (exec c s) fun e =>
        if s.dev.flrBusy t.val = true ∨ s.dev.fenceHolds tk = true then e = s.dev
        else if s.dev.unitFenced t.val = true then e = ((s.dev.setFetched t.val q.val rest).complete tk .eFenced).checkWait t.val
        else if s.dev.atBound tk = true then e = s.dev.beginWait t.val [q.val]
        else ∃ x y : Dev, e = y.checkWait t.val ∧ x.hif.running = s.dev.hif.running ++ [tk] ∧ x.fetched t.val q.val = rest ∧
          x = { s.dev with hif := x.hif } ∧
          if firstByRank (x.opChecks tk) = .done then tk.sq < 8 → DescriptorEffect x y tk
          else y = x.finish tk (firstByRank (x.opChecks tk)) 0 0) ∧
    (∀ (tk : Tkt) (rest : List Tkt) (op : Fin 0x22) (cmd : Fin 6), s.dev.fetched t.val q.val = tk :: rest → tk.op ≠ op.val →
      descriptorCommand t q op.val cmd.val ≠ .dispatch t q → Ends s (exec (descriptorCommand t q op.val cmd.val) s) fun e => e = s.dev) ∧
    (s.dev.fetched t.val q.val = [] → Ends s (exec (.dispatch t q) s) fun e => e = s.dev) ∧
    (∀ (st : Fin 256) (i : Fin 8) (k : Nat),
      (mapFind (s.dev.stream st.val).sinks i.val = none → Ends s (exec (.streamSinkPacket st i k) s) fun e => e = s.dev) ∧
      (∀ y, mapFind (s.dev.stream st.val).sinks i.val = some y → Ends s (exec (.streamSinkPacket st i k) s) fun e =>
        match epKind (s.dev.sinkCode st.val i.val) with
        | 1 => e = if s.dev.slotFeedback (epId (s.dev.sinkCode st.val i.val)) then s.dev else s.dev.funcIso (epId (s.dev.sinkCode st.val i.val)) k []
        | 2 => if s.dev.ctxServed (epId (s.dev.sinkCode st.val i.val)) then e = s.dev.isoTransaction (epId (s.dev.sinkCode st.val i.val)) true [] else e = s.dev
        | 3 => let p := tdmPort (s.dev.sinkCode st.val i.val)
          if s.dev.is (F.TDM_STAT_RUNNING p) = false then e = s.dev
          else if y.leaving = true then e = s.dev.removeSink st.val i.val
          else match (s.dev.modSink st.val i.val fun k => { k with cur := 0 }).sinkBank p st.val i.val s.dev.almTime with
            | (x, none) => e = x
            | (x, some (z, l)) => e = x.emit .tdm p [] (((x.bankWords p st.val i.val z l).map fun w => beBytes 4 w.2).flatten)
        | 4 => e = s.dev.flowSend (epId (s.dev.sinkCode st.val i.val))
        | _ => e = s.dev.ringPacket st.val i.val) ∧
      (∀ n, s.dev.strState st.val = 3 → (s.dev.sink st.val i.val).active = true → s.dev.waiting st.val i.val < n →
        let r := s.dev.sinkPacket st.val i.val n
        r.2 = none ∧ r.1.get (F.QUE_W3_UNDER (512 + st.val)) = satInc 0xFFFF (s.dev.get (F.QUE_W3_UNDER (512 + st.val))) % 0x10000 ∧
          r.1.lar.due = s.dev.lar.due ++ [.under (512 + st.val)]))

/-- What a descriptor does: one that fails a check of its opcode ends with the first failing status in the order of R328 and does nothing else;
one that passes has its opcode's effect. A descriptor that ends becomes a completion, but after no unended one of the same resource
(R216, R219, R223, R231, R259 to R264, R314 to R317, R372).
Where the spec leaves a reading open this follows the model's own: log entries 40, 41. -/
def Obligations.DescriptorEffects : Prop :=
  ∀ (d : Dev) (tk : Tkt), tk.t < 256 → tk.sq < 8 →
    (firstByRank (d.opChecks tk) ≠ .done → d.doOp tk = d.finish tk (firstByRank (d.opChecks tk)) 0 0) ∧
    (∀ (st : Status) (r0 r1 : Nat), d.hif.running = [tk] → tk.result = none → tk.nocmp = false →
      (d.finish tk st r0 r1).hif.running = [] ∧
      (d.finish tk st r0 r1).hif.cpls = d.hif.cpls ++ [⟨{ tk with result := some (st, r0 % 2 ^ 32, r1 % 2 ^ 32) }, st, r0 % 2 ^ 32, r1 % 2 ^ 32⟩]) ∧
    (∀ (a : Tkt) (st : Status) (r0 r1 : Nat), d.hif.running = [a, tk] → a.result = none → tk.result = none → a.key = tk.key → tk.key ≠ 0 →
      a.same tk = false → (d.finish tk st r0 r1).hif.cpls = d.hif.cpls) ∧
    (firstByRank (d.opChecks tk) = .done → DescriptorEffect d (d.doOp tk) tk)

/-! ### Tenants (chapter 12) -/

/-- Tenants come and go with VF Enable, NumVFs and ARI; a function-level reset begins with its rings' fetches dropped and goes step by step, no
step out of its turn; it ends with the tenant's rings disabled, its tickets free, its queues empty, its ports parked, and TEN_FLR_DONE
(R327, R331, R342 to R346, R355, Table 12.3).
Where the spec leaves a reading open this follows the model's own: log entry 49. -/
def Obligations.Tenants : Prop :=
  ∀ s : State, s.dev.up = true →
    (∀ (en ari : Bool) (n : BitVec 16) (t : Fin 256), s.dev.cfgServed = true → s.dev.is F.HIF_STAT_LINKUP = true → t.val ≠ 0 →
      Ends s (exec (.vfEnable en n ari) s) fun e => e.hif.ari = ari ∧ e.hif.vfEnable = en ∧ e.hif.numVfs = n.toNat ∧
        (vfExists en n.toNat ari t.val = true → e.tenantExists t.val = true ∧ (e.flrOf t.val).removed = false) ∧
        (vfExists en n.toNat ari t.val = false → s.dev.tenantExists t.val = true → e.flrBusy t.val = true ∧ (e.flrOf t.val).removed = true) ∧
        (vfExists en n.toNat ari t.val = false → s.dev.tenantExists t.val = false → e.tenantExists t.val = false)) ∧
    (∀ (en ari : Bool) (n : BitVec 16), s.dev.cfgServed = false ∨ s.dev.is F.HIF_STAT_LINKUP = false →
      Ends s (exec (.vfEnable en n ari) s) fun e => e = s.dev.rouse) ∧
    (∀ t : Fin 256,
      (Ends s (exec (.flr t) s) fun e =>
        if s.dev.cfgServed = false ∨ s.dev.is F.HIF_STAT_LINKUP = false ∨ s.dev.tenantExists t.val = false then e = s.dev
        else if s.dev.flrBusy t.val = true then e = s.dev.rouse
        else e.flrBusy t.val = true ∧ (e.flrOf t.val).step = 1 ∧ e.out = s.dev.out ∧ e.lar = s.dev.lar ∧
          (∀ q : Fin 8, e.read t.val q.val = {} ∧ e.get (F.HIF_RIDX_P t.val q.val) = s.dev.get (F.HIF_RIDX_C t.val q.val) % 65536) ∧
          s.dev.rouse.Only { e with hif := s.dev.hif, flr := s.dev.flr, lhe := s.dev.lhe }
            (F.TEN_GSTAT_FLRBUSY t.val :: (List.range 8).map (F.HIF_RIDX_P t.val))) ∧
      ((s.dev.flrOf t.val).step = 1 → Ends s (exec (.flrTicketsEnded t) s) fun e => (e.flrOf t.val).step = 3 ∧
        ∀ q : Fin 8, e.fetched t.val q.val = []) ∧
      ((s.dev.flrOf t.val).step ≠ 1 → Ends s (exec (.flrTicketsEnded t) s) fun e => e = s.dev) ∧
      ((s.dev.flrOf t.val).step = 3 → Ends s (exec (.flrStreamsFlushed t) s) fun e => (e.flrOf t.val).step = 5 ∧
        (∀ st : Fin 256, e.strBound st.val = true → e.strOwner st.val ≠ t.val) ∧
        (∀ c : Fin 128, e.ctxOpen c.val = true → e.get (F.LHE_CTXW0_OWNER c.val) = t.val → e.get (F.LHE_CTXW0_TYPE c.val) ∉ [1, 3])) ∧
      ((s.dev.flrOf t.val).step ≠ 3 → Ends s (exec (.flrStreamsFlushed t) s) fun e => e = s.dev) ∧
      ((s.dev.flrOf t.val).step = 5 → Ends s (exec (.flrCellsWiped t) s) fun e => (e.flrOf t.val).step = 6 ∧
        (e.flrOf t.val).wiped = s.dev.charge t.val + s.dev.qCells t.val + (if s.dev.inPart t.val then s.dev.lar.partCells else 0) ∧
        mapGet false e.lar.lostEv t.val = false ∧ ∀ q, q = t.val ∨ s.dev.qOwner q = t.val → e.items q = []) ∧
      ((s.dev.flrOf t.val).step ≠ 5 → Ends s (exec (.flrCellsWiped t) s) fun e => e = s.dev) ∧
      ((s.dev.flrOf t.val).step = 6 → Ends s (exec (.tenFlrDone t) s) fun e =>
        e.flrBusy t.val = false ∧ e.flrOf t.val = {} ∧ e.tenantExists t.val = !(s.dev.flrOf t.val).removed ∧ e.get F.TEN_GINT_FLRDONE = 1 ∧
        (∀ r : Fin 17, e.is (F.HIF_RCFG_EN t.val r.val) = false) ∧ (∀ tk ∈ e.hif.running, tk.t ≠ t.val) ∧ (∀ x ∈ e.hif.cpls, x.tk.t ≠ t.val) ∧
        ∀ p ∈ s.dev.portsOf t.val, s.dev.steering p = false → e.parked p = true) ∧
      ((s.dev.flrOf t.val).step ≠ 6 → Ends s (exec (.tenFlrDone t) s) fun e => e = s.dev)) ∧
    (∀ w : Word, setsReserved R.TEN_GFLR (withBit w 31) = false → Ends s (exec (.tenGflr w) s) fun e =>
      let t := bits (withBit w 31).toNat 0 8
      if t = 0 ∧ s.dev.stewardHost = false then RecordedGlb s.dev e 0xE000 .eField
      else if s.dev.tenantExists t = false then RecordedGlb s.dev e 0xE000 .eRange
      else if s.dev.flrBusy t = true then RecordedGlb s.dev e 0xE000 .eBusy
      else ∃ x : Dev, e = x.startFlr t ∧ s.dev.Only x [F.TEN_GFLR_GO, F.TEN_GFLR_TENANT])

/-! ### Haywain and Almanac (chapter 13) -/

/-- A dropped bale is counted in DROP of its lane, and nothing else changes. -/
def DroppedBale (d e : Dev) (n : Nat) : Prop :=
  e.get (F.HAY_LANEC_DROP n) = satInc 0xFFFF (d.get (F.HAY_LANEC_DROP n)) % 0x10000 ∧ d.Only e [F.HAY_LANEC_DROP n]

/-- A bale without an entry at the grandmaster is dropped, counted, and raises HAY_NOROUTE. -/
def UnroutedBale (d e : Dev) (n : Nat) : Prop :=
  e.get (F.HAY_LANEC_DROP n) = satInc 0xFFFF (d.get (F.HAY_LANEC_DROP n)) % 0x10000 ∧ e.get F.HAY_INT_NOROUTE = 1 ∧
    d.Told e [F.HAY_LANEC_DROP n, F.HAY_INT_NOROUTE]

/-- The commands that name the kind of a bale (TYPE and sub-type), CONTROL for every sequenced control bale. -/
def baleCommands (n : Fin 6) (sub : Fin 334) (wait : BitVec 16) (l : List Byte) (type kind : Nat) : List Instr :=
  match type, kind with
  | 1, _ => [.audio n l]
  | 2, 0 => [.null n l]
  | 2, 1 => [.control n l, .resvReq n l]
  | 2, 2 => [.control n l, .resvAck n l]
  | 2, 3 => [.control n l, .resvNak n l]
  | 2, 4 => [.control n l, .resvFree n l]
  | 2, 16 => [.control n l, .app n l]
  | 3, 1 => [.sync n sub l]
  | 3, 2 => [.dreq n sub wait l]
  | 3, 3 => [.dresp n sub l]
  | 3, 4 => [.announce n l]
  | 3, 5 => [.ahead n sub l]
  | 4, 1 => [.hello n l]
  | 4, 2 => [.roll n l]
  | 4, 3 => [.reject n l]
  | 4, 4 => [.bcast n l]
  | _, _ => []

/-- AUDIO and CONTROL bales (and NULL, RESV_REQ, RESV_ACK, RESV_NAK, RESV_FREE, APP): one that fails a check, and one on a lane that is not
UP, changes nothing beyond its counter; a blocked lane drops both; audio is delivered, forwarded within its reservation, or dropped; a
control bale acknowledges, and one in SEQ takes its effect once (R363, R364, R370, R374, R376).
Where the spec leaves a reading open this follows the model's own: log entries 51, 53, 55. -/
def Obligations.HayBales : Prop :=
  ∀ (s : State) (n : Fin 6) (sub : Fin 334) (wait : BitVec 16) (l : List Byte), s.dev.up = true →
    (∀ (type kind : Nat), s.dev.laneUp n.val = false ∨ s.dev.phyHeld = true ∨ wireOk (wireBale l) = false ∨ (parseBale l).type ≠ type ∨
      (type ≠ 1 ∧ (parseBale l).sub ≠ kind ∧ (type ≠ 2 ∨ kind = 0)) → ∀ c ∈ baleCommands n sub wait l type kind, Ends s (exec c s) fun e => e = s.dev) ∧
    (s.dev.laneUp n.val = true → s.dev.phyHeld = false → wireOk (wireBale l) = true → ∀ b : Bale, b = parseBale l →
      (b.type = 1 → Ends s (exec (.audio n l) s) fun e =>
        if s.dev.laneRole n.val = 3 then DroppedBale s.dev e n.val
        else if s.dev.isMe b.dst = true then
          if s.dev.flowTakes (b.hd 2 1) b.src = true then e = s.dev.flowReceive n.val (b.hd 2 1) b else DroppedBale s.dev e n.val
        else if 24 < b.hops + 1 then DroppedBale s.dev e n.val
        else if s.dev.nextHop b.dst = none then UnroutedBale s.dev e n.val
        else match s.dev.findResv b.src b.dst (b.hd 2 1) with
          | some r => if r.inLane = n.val ∧ r.queue ≠ 0 ∧ s.dev.lar.qFenced.contains r.queue = false then
              e = (s.dev.enqueue r.queue { b with hops := b.hops + 1 }.bytes 0 0 b.poison).1 else DroppedBale s.dev e n.val
          | none => DroppedBale s.dev e n.val) ∧
      (b.type = 2 → ∀ c ∈ baleCommands n sub wait l 2 b.ctype, Ends s (exec c s) fun e =>
        if s.dev.laneRole n.val = 3 then DroppedBale s.dev e n.val
        else ∃ x : Dev, (x.lane n.val).credit = b.hd 4 2 ∧ (x.lane n.val).rx = (s.dev.lane n.val).rx ∧ x.out = s.dev.out ∧
          (x.lane n.val).unacked = (if b.ackv then (s.dev.lane n.val).unacked.filter fun u => decide (32768 ≤ (b.hd 2 2 + 65535 - u.1) % 65536)
            else (s.dev.lane n.val).unacked) ∧
          s.dev.Only { x with hay := s.dev.hay } [F.HAY_CTXCMD_BUSY, F.HAY_CTXSTAT_STATUS] ∧
          if b.ctype = 0 then e = x.pumpControl n.val 32
          else ∃ y : Dev, (y.lane n.val).ackDue = true ∧ y = { x with hay := y.hay } ∧
            if b.seq ≠ (s.dev.lane n.val).rx then (y.lane n.val).rx = (s.dev.lane n.val).rx ∧ e = y.pumpControl n.val 32
            else (y.lane n.val).rx = ((s.dev.lane n.val).rx + 1) % 65536 ∧
              e = (match b.ctype with
                | 1 => y.rxResvReq n.val b
                | 2 => y.rxResvAck n.val b
                | 3 => y.rxResvNak n.val b
                | 4 => y.rxResvFree n.val b
                | _ => y.rxApp n.val b).pumpControl n.val 32)) ∧
    (∀ (d : Dev) (b : Bale) (f : Fin 256) (gap : Nat),
      gap = (match (d.flow f.val).ref with | none => 1 | some r => (b.hd 0 2 + 65536 - r.1) % 65536) →
      (gap = 0 ∨ 32768 ≤ gap → DroppedBale d (d.flowReceive n.val f.val b) n.val) ∧
      (∀ st, d.flowStream f.val = some st → d.wrongFormat st b = true → DroppedBale d (d.flowReceive n.val f.val b) n.val) ∧
      (d.flowStream f.val = none → 0 < gap → gap < 32768 → let e := d.flowReceive n.val f.val b
        e.flow f.val = { d.flow f.val with ref := some (b.hd 0 2, b.data.length, b.hd 4 4) } ∧
        (2 ≤ gap → gap ≤ 9 → e.get (F.HAY_FLOW_CONCEAL f.val) = min 255 (d.get (F.HAY_FLOW_CONCEAL f.val) + (gap - 1))) ∧
        (9 < gap → e.get (F.HAY_FLOW_RESYNC f.val) = satInc 255 (d.get (F.HAY_FLOW_RESYNC f.val)) % 256) ∧
        d.Only { e with hay := d.hay } (if gap = 1 then [] else if gap ≤ 9 then [F.HAY_FLOW_CONCEAL f.val] else [F.HAY_FLOW_RESYNC f.val])) ∧
      (∀ st, d.flowStream f.val = some st → d.wrongFormat st b = false → 0 < gap → gap < 32768 → ∃ x : Dev,
        d.flowReceive n.val f.val b = x.streamItem st (swapSamples (d.get (F.STR_W1_WIDTH st) + 2) b.data.length b.data) (b.hd 4 4)
          (if b.poison then [0] else []) ∧
        x.flow f.val = { d.flow f.val with ref := some (b.hd 0 2, b.data.length, b.hd 4 4) } ∧ (gap = 1 → x = { d with hay := x.hay })))

/-- Path reservations: at its destination a request is answered by the flow's state; on its way this unit's part is taken within the lane's
budget, shown in AUSED, and the request goes on; a unit without a way refuses it; RESV_FREE releases; RESV_ACK and RESV_NAK act at the
requester alone; APP is kept at its destination (R370, R371, R372, R378, Table 13.5).
Where the spec leaves a reading open this follows the model's own: log entry 52. -/
def Obligations.HayReservations : Prop :=
  ∀ (d : Dev) (n : Fin 6) (b : Bale),
    (d.isMe b.src = false → d.isMe b.dst = false → b.hops < 24 → ∀ m, m < 6 → d.nextHop b.dst = some m →
      (d.get (F.HAY_LANE4_ABUDGET m) < d.reserved m (resvIs b.src b.dst (b.pay 2 1)) + laneCost (b.pay 0 2) →
        d.rxResvReq n.val b = (d.sendResv (resvBale 3 b.dst b.src (b.pay 0 2) (b.pay 2 1) 1)).sendResv (resvBale 4 b.dst b.src (b.pay 0 2) (b.pay 2 1) 0)) ∧
      (∀ x, d.takeResv b.src b.dst (b.pay 2 1) n.val m (b.pay 0 2) = .inr x →
        d.rxResvReq n.val b = x.queueControl m { b with hops := b.hops + 1 } false ∧
        x.reserved m (fun _ => false) = d.reserved m (resvIs b.src b.dst (b.pay 2 1)) + laneCost (b.pay 0 2) ∧
        x.reserved m (fun _ => false) ≤ d.get (F.HAY_LANE4_ABUDGET m) ∧
        (∀ k, k < 6 → x.get (F.HAY_LANE4_AUSED k) = x.reserved k (fun _ => false) % 65536) ∧
        ∃ r, x.findResv b.src b.dst (b.pay 2 1) = some r ∧ r.inLane = n.val ∧ r.outLane = m ∧ r.bytes = b.pay 0 2 ∧ r.queue ≠ 0)) ∧
    (d.isMe b.src = false → d.isMe b.dst = false → b.hops < 24 → d.nextHop b.dst = none → ∃ x, UnroutedBale d x n.val ∧
      d.rxResvReq n.val b = x.refuse b.src b.dst (b.pay 0 2) (b.pay 2 1) 4) ∧
    (d.isMe b.src = false → d.isMe b.dst = true → d.rxResvReq n.val b =
      if d.flowTakes (b.pay 2 1) b.src then d.sendResv (resvBale 2 b.dst b.src (b.pay 0 2) (b.pay 2 1) 0)
      else d.refuse b.src b.dst (b.pay 0 2) (b.pay 2 1) 2) ∧
    (d.isMe b.dst = true → d.flowOf b.src (b.pay 2 1) = none → d.rxResvAck n.val b = d ∧ d.rxResvNak n.val b = d) ∧
    (∀ f, d.isMe b.dst = true → d.flowOf b.src (b.pay 2 1) = some f → (d.flow f).opening = true →
      d.rxResvNak n.val b = d.failOpen f (reasonStatus (b.pay 3 1)) false ∧
      ∃ x : Dev, d.rxResvAck n.val b = x.endTkts (isHayopen f) .done ∧ x.flowOpen f = true ∧ x.flow f = { d.flow f with opening := false } ∧
        d.Only { x with hay := d.hay } [F.HAY_FLOW_OPEN f]) ∧
    (∀ r, d.findResv b.src b.dst (b.pay 2 1) = some r → r.inLane ≠ 6 → d.isMe b.dst = true →
      (d.rxResvFree n.val b).findResv b.src b.dst (b.pay 2 1) = none) ∧
    (d.isMe b.dst = true → d.lar.qFenced.contains (262 + n.val) = false → (d.rxApp n.val b).get F.HAY_INT_CTLRX = 1 ∧
      (d.rxApp n.val b).hay.rxCount = d.hay.rxCount + 1) ∧
    (d.isMe b.dst = false → b.hops < 24 → ∀ m, d.nextHop b.dst = some m →
      d.rxApp n.val b = d.queueControl m { b with hops := b.hops + 1 } false ∧ d.rxResvAck n.val b = d.rxApp n.val b ∧ d.rxResvNak n.val b = d.rxApp n.val b)

/-- The tree and time: SYNC on the parent lane moves the servo by its offset and on any other changes nothing; DREQ is answered, DRESP gives
DELAY from the last delays; ANNOUNCE is heard; AHEAD is relayed, or steps the grandmaster; ROLL makes routes and a child lane or rejects;
REJECT that names this unit leaves it alone; BCAST is kept and passed over the tree; HELLO changes nothing (R366 to R370, R380 to R383).
Where the spec leaves a reading open this follows the model's own: log entries 4, 54, 56, 68. -/
def Obligations.HayTree : Prop :=
  ∀ (s : State) (n : Fin 6) (sub : Fin 334) (wait : BitVec 16) (l : List Byte), s.dev.up = true → s.dev.laneUp n.val = true → s.dev.phyHeld = false →
    wireOk (wireBale l) = true → ∀ b : Bale, b = parseBale l →
    (b.type = 3 → b.sub = 1 → Ends s (exec (.sync n sub l) s) fun e =>
      if s.dev.parentLane = some n.val then ∃ x : Dev, x = s.dev.offset (diff8 (8 * b.pay 0 8) (8 * s.dev.almTime + sub.val) +
          (s.dev.get (F.ALM_LANE0_DELAY n.val) : Int) + signed16 (s.dev.get (F.ALM_LANE4_ASYM n.val))) ∧
        (x.alm.ahead = false ∨ s.dev.alm.ahead = true → e = x) ∧
        (x.alm.ahead = true → s.dev.alm.ahead = false → e = x.sendBale n.val (x.mkLocal 3 5 (beBytes 8 (x.almNow8 sub.val / 8) ++ beBytes 2 x.unitId ++ [0, 0])))
      else e = s.dev) ∧
    (b.type = 3 → b.sub = 2 → Ends s (exec (.dreq n sub wait l) s) fun e => e = s.dev.emit .bale n.val [3]
      (wireBale (s.dev.mkLocal 3 3 (b.data ++ beBytes 8 (s.dev.almNow8 sub.val / 8) ++ beBytes 8 (s.dev.almNow8 sub.val / 8 + wait.toNat))).bytes)) ∧
    (b.type = 3 → b.sub = 3 → Ends s (exec (.dresp n sub l) s) fun e =>
      match (s.dev.lane n.val).dreq with
      | none => e = s.dev
      | some t1 =>
        if s.dev.parentLane = some n.val ∧ b.pay 0 8 = t1 then
          let ds := ((diff8 (s.dev.almNow8 sub.val) (8 * t1) - diff8 (8 * b.pay 16 8) (8 * b.pay 8 8)) / 2 :: (s.dev.lane n.val).delays).take 8
          e.lane n.val = { s.dev.lane n.val with dreq := none, delays := ds } ∧
          (∃ v : Int, (∃ lo ∈ ds, lo ≤ v) ∧ (∃ hi ∈ ds, v ≤ hi) ∧ e.get (F.ALM_LANE0_DELAY n.val) = (v % 2 ^ 24).toNat) ∧
          s.dev.Only { e with hay := s.dev.hay } [F.ALM_LANE0_DELAY n.val]
        else e = s.dev) ∧
    (b.type = 3 → b.sub = 4 → Ends s (exec (.announce n l) s) fun e => ∃ x : Dev, e = x.chooseParent ∧ x = { s.dev with hay := x.hay } ∧
      x.lane n.val = { s.dev.lane n.val with heard := some (b.pay 0 4, b.pay 4 4, b.pay 8 1) }) ∧
    (b.type = 3 → b.sub = 5 → Ends s (exec (.ahead n sub l) s) fun e =>
      if s.dev.laneRole n.val ≠ 2 then DroppedBale s.dev e n.val
      else match s.dev.parentLane with
        | some m => e = s.dev.sendBale m (s.dev.mkLocal 3 5 b.data)
        | none => let o := diff8 (8 * b.pay 0 8) (s.dev.almNow8 sub.val)
          if o < step40 then e = s.dev else o ≤ 8 * (e.alm.step : Int) ∧ 8 * (e.alm.step : Int) < o + step40 ∧ e.alm.step % 40000000 = 0 ∧
            e = { s.dev with alm := { s.dev.alm with step := e.alm.step } }) ∧
    (b.type = 4 → b.sub = 1 → Ends s (exec (.hello n l) s) fun e => e = s.dev) ∧
    (b.type = 4 → b.sub = 2 → Ends s (exec (.roll n l) s) fun e =>
      if s.dev.laneRole n.val = 1 then DroppedBale s.dev e n.val
      else ∃ x : Dev, e = (((rollEntries b).foldl (fun d i => d.rollEntry n.val i) x).showUnits.showRoles).routesMoved ∧
        x = { s.dev with hay := x.hay } ∧ x.lane n.val = { s.dev.lane n.val with child := true }) ∧
    (∀ (d : Dev) (i : Nat) (a : Bool), d.laneUp n.val = true → d.phyHeld = false →
      (d.isMe i = false → (mapFind d.hay.route i = none ∨ mapFind d.hay.route i = some (n.val + 1, a)) →
        mapFind (d.rollEntry n.val (i, a)).hay.route i = some (n.val + 1, a) ∧ (d.rollEntry n.val (i, a)).out = d.out) ∧
      (d.isMe i = true ∨ (∃ r, mapFind d.hay.route i = some r ∧ r ≠ (n.val + 1, a)) →
        d.rollEntry n.val (i, a) = d.emit .bale n.val [4] (wireBale (d.mkLocal 4 3 (beBytes 2 i)).bytes))) ∧
    (b.type = 4 → b.sub = 3 → Ends s (exec (.reject n l) s) fun e =>
      if s.dev.laneRole n.val ≠ 1 then DroppedBale s.dev e n.val
      else if s.dev.isMe (b.pay 0 2) = true then
        ∃ x : Dev, e = x.chooseParent ∧ x.hay = { s.dev.hay with alone := 1 } ∧ x.get F.HAY_INT_DUPID = 1 ∧ .fault (0x220 + n.val) 38 ∈ x.lar.due ∧
          s.dev.Told { x with hay := s.dev.hay } [F.HAY_INT_DUPID]
      else e = match s.dev.routeLane (b.pay 0 2) with
        | none => s.dev
        | some m => s.dev.sendBale m (s.dev.mkLocal 4 3 (beBytes 2 (b.pay 0 2)))) ∧
    (b.type = 4 → b.sub = 4 → Ends s (exec (.bcast n l) s) fun e =>
      if s.dev.laneRole n.val = 3 then DroppedBale s.dev e n.val
      else ∃ x : Dev, x = s.dev.keepBale n.val b ∧ (s.dev.lar.qFenced.contains (262 + n.val) = false → x.get F.HAY_INT_CTLRX = 1) ∧
        if b.hops < 24 then e = (x.treeLanes.filter (· != n.val)).foldl (fun d m => d.sendBale m { b with hops := b.hops + 1 }) x
        else DroppedBale x e n.val) ∧
    (∀ (d : Dev) (o : Int), let e := d.offset o; let a : Int := if o < 0 then -o else o
      (∃ ns : Int, (ns = o / 8 ∨ (o % 8 ≠ 0 ∧ ns = o / 8 + 1)) ∧ e.get F.ALM_OFFSET_O = ((max (-(2 ^ 31)) (min (2 ^ 31 - 1) ns)) % 2 ^ 32).toNat) ∧
      e.alm.good = (if a < 32 then d.alm.good + 1 else 0) ∧ e.alm.bad = (if 400 < a then d.alm.bad + 1 else 0) ∧
      (16 ≤ e.alm.good → e.get F.ALM_STAT_LOCKED = 1) ∧ (16 ≤ e.alm.good → d.is F.ALM_STAT_LOCKED = false → e.get F.ALM_INT_LOCK = 1) ∧
      (4 ≤ e.alm.bad → e.is F.ALM_STAT_LOCKED = false) ∧ (4 ≤ e.alm.bad → d.is F.ALM_STAT_LOCKED = true → e.get F.ALM_INT_UNLOCK = 1) ∧
      (e.alm.good < 16 → e.alm.bad < 4 → e.get F.ALM_STAT_LOCKED = d.get F.ALM_STAT_LOCKED) ∧
      (-step40 < o → e.get F.ALM_STAT_HOLDOVER = 0 ∧ e.get F.ALM_STAT_PAUSED = 0 ∧ e.get F.ALM_STAT_SLEWING = bitNat (o != 0) ∧ e.alm.ahead = false ∧
        536870912000 - 107374182 ≤ e.alm.inc ∧ e.alm.inc ≤ 536870912000 + 107374182 ∧ (o < step40 → e.alm.step = 0) ∧
        (step40 ≤ o → e.alm.step % 40000000 = 0 ∧ 8 * (e.alm.step : Int) ≤ o ∧ o < 8 * (e.alm.step : Int) + step40)) ∧
      (o ≤ -step40 → d.get F.ALM_STAT_CLASS = 0 → e.get F.ALM_STAT_HOLDOVER = 1 ∧ e.alm.ahead = true) ∧
      (o ≤ -step40 → d.get F.ALM_STAT_CLASS ≠ 0 → e.is F.ALM_STAT_PAUSED = true ∧ e.alm.ahead = d.alm.ahead))

/-- What a unit sends by the clock, and what its lanes do: HELLO and ANNOUNCE on every lane that is UP, SYNC to child lanes, DREQ, ROLL and AHEAD
to the parent; a lane comes UP, trains again, fails on 16 code errors or a lost alignment, and leaves the tree after KEEP; a control bale
is sent again eight times; the counter steps forward at a micro-frame boundary (R360, R366 to R369, R376, R380, R383, R387).
Where the spec leaves a reading open this follows the model's own: log entries 54, 56. -/
def Obligations.HayLanes : Prop :=
  ∀ s : State, s.dev.up = true →
    (s.dev.phyHeld = false →
      (Ends s (exec .hayHelloTx s) fun e => e = { s.dev with out := (s.dev.upLanes.reverse.map fun n =>
        ⟨.bale, n, [4], wireBale (s.dev.mkLocal 4 1 []).bytes⟩) ++ s.dev.out }) ∧
      (Ends s (exec .announceTx s) fun e =>
        let q := if s.dev.is F.HAY_STAT_GM = true ∧ s.dev.upLanes ≠ [] then (s.dev.hay.gmSeq + 1) % 2 ^ 32 else s.dev.hay.gmSeq
        e = { s.dev with hay := { s.dev.hay with gmSeq := q }, out := (s.dev.upLanes.reverse.map fun n => ⟨.bale, n, [3], wireBale (s.dev.mkLocal 3 4
          (beBytes 4 (s.dev.get F.ALM_GMKEY_KEY) ++ beBytes 4 q ++ [BitVec.ofNat 8 (s.dev.get F.HAY_STAT_HOPS), 0, 0, 0])).bytes⟩) ++ s.dev.out }) ∧
      (∀ sub : Fin 334, Ends s (exec (.syncTx sub) s) fun e => e = { s.dev with out := ((s.dev.upLanes.filter fun n => s.dev.laneRole n == 2).reverse.map
        fun n => ⟨.bale, n, [3], wireBale (s.dev.mkLocal 3 1 (beBytes 8 (s.dev.almNow8 sub.val / 8))).bytes⟩) ++ s.dev.out }) ∧
      (∀ (sub : Fin 334) (n : Nat), s.dev.parentLane = some n → s.dev.laneUp n = true →
        (Ends s (exec (.dreqTx sub) s) fun e => e.lane n = { s.dev.lane n with dreq := some (s.dev.almNow8 sub.val / 8) } ∧
          e.out = ⟨.bale, n, [3], wireBale (s.dev.mkLocal 3 2 (beBytes 8 (s.dev.almNow8 sub.val / 8))).bytes⟩ :: s.dev.out ∧
          e = { s.dev with hay := e.hay, out := e.out }) ∧
        (Ends s (exec .rollTx s) fun e => e = { s.dev with out := ((pieces 256 17 s.dev.rollList).reverse.map fun l =>
          ⟨.bale, n, [4], wireBale (s.dev.mkLocal 4 2 ((l.map (beBytes 2)).flatten)).bytes⟩) ++ s.dev.out }) ∧
        (Ends s (exec (.aheadRepeat sub) s) fun e => e = if s.dev.alm.ahead then s.dev.emit .bale n [3] (wireBale (s.dev.mkLocal 3 5
          (beBytes 8 (s.dev.almNow8 sub.val / 8) ++ beBytes 2 s.dev.unitId ++ [0, 0])).bytes) else s.dev))) ∧
    (s.dev.parentLane = none → ∀ sub : Fin 334, ∀ c ∈ [Instr.dreqTx sub, .rollTx, .aheadRepeat sub, .gmseqTimeout], Ends s (exec c s) fun e => e = s.dev) ∧
    (s.dev.parentLane ≠ none → Ends s (exec .gmseqTimeout s) fun e => ∃ x : Dev, e = x.chooseParent ∧ x = { s.dev with hay := x.hay } ∧
      mapGet (2 ^ 32) x.hay.seen (s.dev.get F.ALM_GMKEY_KEY) = s.dev.hay.gmSeq ∧ x.hay.lane = s.dev.hay.lane ∧ x.hay.route = s.dev.hay.route) ∧
    (∀ id : BitVec 12,
      (∀ n a, mapFind s.dev.hay.route id.toNat = some (n + 1, a) → Ends s (exec (.routeEntryExpiry id) s) fun e => ∃ x : Dev,
        e = x.showUnits.showRoles.routesMoved ∧ x = { s.dev with hay := x.hay } ∧ x.hay.route = mapErase s.dev.hay.route id.toNat ∧
        ((∀ r ∈ x.hay.route, r.2.1 ≠ n + 1) → (x.lane n).child = false)) ∧
      (mapFind s.dev.hay.route id.toNat = none → Ends s (exec (.routeEntryExpiry id) s) fun e =>
        if s.dev.isMe id.toNat = true ∧ s.dev.hay.alone = 1 then e = ({ s.dev with hay := { s.dev.hay with alone := 0 } } : Dev).chooseParent
        else e = s.dev)) ∧
    (∀ n : Fin 6,
      (∀ nbr : BitVec 12,
        (s.dev.laneEnabled n.val = false ∨ s.dev.phyHeld = true ∨ s.dev.laneUp n.val = true → Ends s (exec (.hayLaneUp n nbr) s) fun e => e = s.dev) ∧
        (s.dev.laneEnabled n.val = true → s.dev.phyHeld = false → s.dev.laneUp n.val = false → Ends s (exec (.hayLaneUp n nbr) s) fun e => ∃ x : Dev,
          e = x.showRoles ∧ x.laneUp n.val = true ∧ x.get (F.HAY_LANE0_NBR n.val) = nbr.toNat ∧ x.get F.HAY_INT_LANEUP = 1 ∧
          (x.lane n.val).tx = (s.dev.lane n.val).unacked.length ∧ (x.lane n.val).rx = 0 ∧ (x.lane n.val).credit = 0 ∧
          (x.lane n.val).unacked.map (·.1) = List.range (s.dev.lane n.val).unacked.length)) ∧
      (Ends s (exec (.hayTrainTimeout n) s) fun e =>
        if s.dev.laneEnabled n.val = true ∧ s.dev.laneUp n.val = false then
          e.get (F.HAY_LANE0_STATE n.val) = 1 ∧ s.dev.Only e [F.HAY_LANE0_STATE n.val] else e = s.dev) ∧
      (s.dev.laneUp n.val = false → Ends s (exec (.helloTimeout n) s) fun e => e = s.dev) ∧
      (s.dev.laneUp n.val = true → Ends s (exec (.helloTimeout n) s) fun e => ∃ (x : Dev) (fs : List Nat),
        e = fs.foldl (fun d f => d.failOpen f .eLink true) x ∧
        (∀ f, f ∈ fs ↔ f < 256 ∧ (s.dev.flow f).opening = true ∧ ∃ r ∈ s.dev.hay.resv, r.inLane = 6 ∧ r.outLane = n.val ∧
          r.dst = s.dev.get (F.HAY_FLOW_UNIT f) ∧ r.dflow = (s.dev.flow f).farFlow) ∧
        x.get (F.HAY_LANE0_STATE n.val) = (if s.dev.laneEnabled n.val then 2 else 0) ∧ x.get F.HAY_INT_LANEDOWN = 1 ∧
        .fault (0x220 + n.val) 37 ∈ x.lar.due ∧ (s.dev.get F.HAY_STAT_PARENT = n.val → x.get F.ALM_STAT_HOLDOVER = 1)) ∧
      (∀ (errs : BitVec 16) (align : Bool),
        (s.dev.laneUp n.val = false ∨ s.dev.phyHeld = true → Ends s (exec (.hayLaneDown n errs align) s) fun e => e = s.dev) ∧
        (s.dev.laneUp n.val = true → s.dev.phyHeld = false → Ends s (exec (.hayLaneDown n errs align) s) fun e => ∃ x : Dev,
          e = (if align = true ∨ 16 ≤ errs.toNat then x.laneFail n.val else x) ∧
          x.get (F.HAY_LANEC_CODEERR n.val) = min 65535 (s.dev.get (F.HAY_LANEC_CODEERR n.val) + errs.toNat) ∧
          x.lar = { s.dev.lar with due := s.dev.lar.due ++ List.replicate (min errs.toNat 16) (.fault (0x220 + n.val) 36) } ∧
          s.dev.Only { x with lar := s.dev.lar } [F.HAY_LANEC_CODEERR n.val])) ∧
      (Ends s (exec (.keepExpiry n) s) fun e =>
        if s.dev.laneUp n.val = true ∨ (s.dev.laneRole n.val = 0 ∧ ∀ r ∈ s.dev.hay.route, r.2.1 ≠ n.val + 1) then e = s.dev
        else ∃ (x : Dev) (l : List Resv), e = (l.foldl Dev.moveResv x).chooseParent ∧ (∀ r, r ∈ l ↔ r ∈ s.dev.hay.resv ∧ r.outLane = n.val) ∧
          x.items (256 + n.val) = [] ∧ x.lane n.val = { delays := (s.dev.lane n.val).delays } ∧
          x.hay.route = s.dev.hay.route.filter (fun r => r.2.1 != n.val + 1) ∧
          x.get (F.HAY_LANE0_ROLE n.val) = 0 ∧ (s.dev.get F.HAY_STAT_PARENT = n.val → x.get F.HAY_STAT_PARENT = 7 ∧ x.get F.ALM_STAT_HOLDOVER = 1)) ∧
      (Ends s (exec (.controlResend n) s) fun e =>
        if s.dev.laneUp n.val = false ∨ s.dev.phyHeld = true ∨ (s.dev.lane n.val).unacked = [] then e = s.dev
        else if 8 ≤ (s.dev.lane n.val).resends then e = s.dev.laneFail n.val
        else (e.lane n.val).resends = (s.dev.lane n.val).resends + 1 ∧ (e.lane n.val).unacked = (s.dev.lane n.val).unacked ∧
          e.out.length = s.dev.out.length + (s.dev.lane n.val).unacked.length ∧ s.dev.Only { e with hay := s.dev.hay, out := s.dev.out } [F.HAY_LANE8_RETRY n.val]) ∧
      (Ends s (exec (.nullAckTx n) s) fun e =>
        if s.dev.laneUp n.val = false ∨ s.dev.phyHeld = true ∨ (s.dev.lane n.val).ackDue = false then e = s.dev
        else (e.lane n.val) = { s.dev.lane n.val with ackDue := false } ∧ (∃ w, e.out = ⟨.bale, n.val, [2], w⟩ :: s.dev.out) ∧
          e = { s.dev with hay := e.hay, out := e.out })) ∧
    (Ends s (exec .almStep s) fun e =>
      if s.dev.alm.step = 0 then e = s.dev
      else ∃ x y : Dev, x = s.dev.edges (s.dev.edgeOf ((s.dev.almNs / 125000 + 1) * 125000)).toNat ∧
        y = ({ x with almCnt := x.almCnt + s.dev.alm.step * 3 * 2 ^ 32, alm := { x.alm with step := 0 },
                      lhe := { x.lhe with frame := x.lhe.frame + s.dev.alm.step / 125000 } } : Dev) ∧
        e = (([0, 1].foldl (Dev.tdmFollow s.dev.alm.step) y)).almEvent 1 ∧ e.get F.ALM_INT_STEP = 1 ∧ e.almCnt = y.almCnt ∧ e.lhe = y.lhe ∧
        (∀ p : Fin 2, s.dev.tdmMaster p.val = true → (s.dev.tdmOf p.val).inBank = true →
          e.tdmOf p.val = { s.dev.tdmOf p.val with
            frame := (s.dev.tdmOf p.val).frame + s.dev.tdmRate p.val * s.dev.alm.step / 1000000000 }) ∧
        (∀ p : Fin 2, s.dev.tdmMaster p.val = false ∨ (s.dev.tdmOf p.val).inBank = false → e.tdmOf p.val = s.dev.tdmOf p.val) ∧
        x.Told { e with almCnt := x.almCnt, alm := x.alm, lhe := x.lhe, strm := x.strm, tdm := x.tdm } [F.ALM_INT_STEP]) ∧
    (s.dev.is F.ALM_STAT_PAUSED = false → 0 < s.dev.alm.inc → ∀ x : Dev,
      x = s.dev.edges (s.dev.edgeOf ((s.dev.almNs / 125000 + 1) * 125000)).toNat → (s.dev.almNs / 125000 + 1) * 125000 ≤ x.almNs)

/-- Flows: at a micro-frame boundary every send flow sends, then every transit queue, then waiting control bales; a flow without a whole frame
underruns. Reservations are refreshed, expire, time out and are tried again; a flow given up is closed. HAY_CTXCMD sends a control bale,
HAY_CRXPOP releases the oldest kept, CNTCLR clears the counts (R263, R371, R372, R373, R378, R388, R390, R392).
Where the spec leaves a reading open this follows the model's own: log entries 52, 53. -/
def Obligations.HayFlows : Prop :=
  ∀ s : State, s.dev.up = true →
    (Ends s (exec .hayMicroframeSend s) fun e => ∃ x y : Dev, x = (List.range 256).foldl Dev.flowSend s.dev ∧
      y = (x.hay.resv.filter fun r => r.queue != 0 && x.laneUp r.outLane && !x.phyHeld).foldl (fun d r => d.transitSend r (d.items r.queue).length) x ∧
      e = y.upLanes.foldl (fun d n => d.pumpControl n 32) y) ∧
    (∀ (d : Dev) (f : Fin 256),
      (d.flowOpen f.val = false ∨ d.is (F.HAY_FLOW_DIR f.val) = true ∨ d.phyHeld = true ∨ d.sinkUses (4 * 8192 + f.val) = [] → d.flowSend f.val = d) ∧
      (∀ st i rest, d.flowOpen f.val = true → d.is (F.HAY_FLOW_DIR f.val) = false → d.phyHeld = false →
        d.sinkUses (4 * 8192 + f.val) = (st, i) :: rest → d.strState st = 3 → d.waiting st i < d.frameBytes st → (d.sink st i).active = true →
        d.flowSend f.val = d.underrun st) ∧
      (∀ (t : Bool), (d.dropFlow f.val t).flowOpen f.val = false ∧ (d.dropFlow f.val t).flow f.val = {} ∧
        (d.dropFlow f.val t).get (F.HAY_FLOW_UNIT f.val) = 0 ∧ (d.dropFlow f.val t).get (F.HAY_FLOW_REROUTING f.val) = 0) ∧
      (∀ r, d.requestPath f.val = .inl r → d.attempt f.val = { d with hay := (d.attempt f.val).hay } ∧
        (d.attempt f.val).flow f.val = { d.flow f.val with tries := (d.flow f.val).tries + 1, last := statusCode (reasonStatus r) })) ∧
    (∀ f : Fin 256,
      (s.dev.flowOpen f.val = false ∨ s.dev.is (F.HAY_FLOW_DIR f.val) = true ∨ s.dev.is (F.HAY_FLOW_REROUTING f.val) = true ∨
        s.dev.isMe (s.dev.get (F.HAY_FLOW_UNIT f.val)) = true → Ends s (exec (.resvRefresh f) s) fun e => e = s.dev) ∧
      (s.dev.flowOpen f.val = true → s.dev.is (F.HAY_FLOW_DIR f.val) = false → s.dev.is (F.HAY_FLOW_REROUTING f.val) = false →
        s.dev.isMe (s.dev.get (F.HAY_FLOW_UNIT f.val)) = false → Ends s (exec (.resvRefresh f) s) fun e =>
          (∀ r, s.dev.requestPath f.val = .inl r → ∃ x : Dev, e = x.attempt f.val ∧ x.is (F.HAY_FLOW_REROUTING f.val) = true ∧
            x.flow f.val = { s.dev.flow f.val with tries := 0, last := 13 } ∧ s.dev.Only { x with hay := s.dev.hay } [F.HAY_FLOW_REROUTING f.val]) ∧
          (∀ x, s.dev.requestPath f.val = .inr x → e = x)) ∧
      (Ends s (exec (.hayopenTimeout f) s) fun e =>
        if (s.dev.flow f.val).opening then e = (s.dev.dropFlow f.val true).endTkts (isHayopen f.val) .eTimeout else e = s.dev) ∧
      (s.dev.flowOpen f.val = false ∨ s.dev.is (F.HAY_FLOW_REROUTING f.val) = false → Ends s (exec (.rerouteRetry f) s) fun e => e = s.dev) ∧
      (s.dev.flowOpen f.val = true → s.dev.is (F.HAY_FLOW_REROUTING f.val) = true →
        ((s.dev.flow f.val).tries < 3 → Ends s (exec (.rerouteRetry f) s) fun e => e = s.dev.attempt f.val) ∧
        (3 ≤ (s.dev.flow f.val).tries → Ends s (exec (.rerouteRetry f) s) fun e => ∃ x : Dev, x.get F.HAY_INT_FLOWLOST = 1 ∧
          x.flow f.val = s.dev.flow f.val ∧ e = ((x.dropFlow f.val true).loseSources (hayCode f.val) false).loseSinks (hayCode f.val))) ∧
      (∀ (src dst : BitVec 12), Ends s (exec (.resvExpiry src dst f) s) fun e =>
        match s.dev.findResv src.toNat dst.toNat f.val with
        | none => e = s.dev
        | some r => if r.inLane = 6 then e = s.dev else
            e.findResv src.toNat dst.toNat f.val = none ∧
            (r.queue ≠ 0 → e.items r.queue = []) ∧ e.hay.resv = s.dev.hay.resv.filter (fun x => !resvIs src.toNat dst.toNat f.val x))) ∧
    (∀ w : Word, setsReserved R.HAY_CTXCMD (withBit w 31) = false → Ends s (exec (.hayCtxSend w) s) fun e =>
      if 512 < bits (withBit w 31).toNat 0 10 then RecordedGlb s.dev e 0xFC00 .eRange
      else if s.dev.is F.HAY_CTXCMD_BUSY = true then RecordedGlb s.dev e 0xFC00 .eBusy
      else ∃ x : Dev, e = x.ctxStart ∧ x.get F.HAY_CTXCMD_LEN = bits w.toNat 0 10 ∧ x.get F.HAY_CTXCMD_DST = bits w.toNat 16 12 ∧
        x.get F.HAY_CTXCMD_BCAST = bits w.toNat 29 1 ∧ s.dev.Only x [F.HAY_CTXCMD_GO, F.HAY_CTXCMD_BCAST, F.HAY_CTXCMD_DST, F.HAY_CTXCMD_LEN]) ∧
    (∀ d : Dev, d.get F.HAY_CTXCMD_BUSY = 0 →
      (d.is F.HAY_CTXCMD_BCAST = false → d.isMe (d.get F.HAY_CTXCMD_DST) = true ∨ d.nextHop (d.get F.HAY_CTXCMD_DST) = none →
        d.ctxStart.get F.HAY_CTXCMD_BUSY = 0 ∧ d.ctxStart.get F.HAY_CTXSTAT_STATUS = statusCode .eLink ∧ d.ctxStart.out = d.out) ∧
      (d.is F.HAY_CTXCMD_BCAST = true → d.ctxStart.get F.HAY_CTXCMD_BUSY = 0 ∧ d.ctxStart.get F.HAY_CTXSTAT_STATUS = 0)) ∧
    (s.dev.is F.HAY_CTXCMD_BUSY = false → Ends s (exec .hayCtxTimeout s) fun e => e = s.dev) ∧
    (s.dev.is F.HAY_CTXCMD_BUSY = true → Ends s (exec .hayCtxTimeout s) fun e => e.get F.HAY_CTXCMD_BUSY = 0 ∧
      e.get F.HAY_CTXSTAT_STATUS = statusCode .eTimeout ∧ (∀ n < 6, ∀ u ∈ (e.lane n).unacked, u.2.2 = false) ∧
      s.dev.Only { e with hay := s.dev.hay, lar := s.dev.lar } [F.HAY_CTXCMD_BUSY, F.HAY_CTXSTAT_STATUS]) ∧
    (∀ w : Word, setsReserved R.HAY_CRXPOP (withBit w 0) = false → Ends s (exec (.hayCrxpop w) s) fun e =>
      match s.dev.oldestKept with
      | none => e = s.dev
      | some (n, j, _) => e = (s.dev.removeItem (262 + n) j).showKept) ∧
    (∀ w : Word, setsReserved R.HAY_CTRL (withBit w 1) = false → bits w.toNat 0 1 = s.dev.get F.HAY_CTRL_EN → Ends s (exec (.hayCntclr w) s) fun e =>
      (∀ n < 6, e.get (F.HAY_LANE8_CRCERR n) = 0 ∧ e.get (F.HAY_LANE8_RETRY n) = 0 ∧ e.get (F.HAY_LANEC_CODEERR n) = 0 ∧ e.get (F.HAY_LANEC_DROP n) = 0) ∧
      (∀ f < 256, e.get (F.HAY_FLOW_CONCEAL f) = 0 ∧ e.get (F.HAY_FLOW_RESYNC f) = 0) ∧ s.dev.Only e (F.HAY_CTRL_LOCK ::
        ((List.range 6).flatMap fun n => [F.HAY_LANE8_CRCERR n, F.HAY_LANE8_RETRY n, F.HAY_LANEC_CODEERR n, F.HAY_LANEC_DROP n]) ++
        ((List.range 256).flatMap fun f => [F.HAY_FLOW_CONCEAL f, F.HAY_FLOW_RESYNC f])))

/-! ### Yoked twins (chapter 14) -/

/-- The token: EN makes a twin CLAIM or WHEEL by the level of YK_TOKEN; a claim drives the line, yields on SIDE 1 where the line was held, and is
confirmed as LEAD, a takeover where it was made as WHEEL; a beat keeps the line, a stale one and a lost wire release it; a handover
makes a wheel of a synchronised lead; a lead may not be disabled (R402 to R407, R415, Table 14.4).
Where the spec leaves a reading open this follows the model's own: log entries 57, 69. -/
def Obligations.YokeToken : Prop :=
  ∀ s : State, s.dev.up = true →
    (∀ (w : Word) (high : Bool), setsReserved R.YOK_CTRL w = false → bits w.toNat 8 1 = 0 →
      (s.dev.is F.YOK_CTRL_EN = false → bits w.toNat 0 1 = 1 → Ends s (exec (.yokEnable w high) s) fun e =>
        if s.dev.get F.YOK_CFG_ALIAS = s.dev.unitId then RecordedGlb (s.dev.setB F.YOK_STAT_TOKEN high) e 0x11000 .eRange
        else if s.dev.is F.YOK_CTRL_LOCK = false then RecordedGlb (s.dev.setB F.YOK_STAT_TOKEN high) e 0x11000 .eState
        else ∃ x : Dev, e = x.chooseParent.yokEval ∧ x.get F.YOK_CTRL_EN = 1 ∧ x.get F.YOK_STAT_TOKEN = bitNat high ∧
          x.yokRole = (if high then 1 else 3)) ∧
      (s.dev.is F.YOK_CTRL_EN = true → bits w.toNat 0 1 = 0 → Ends s (exec (.yokEnable w high) s) fun e =>
        if s.dev.yokRole = 2 then RecordedGlb s.dev e 0x11000 .eState
        else ∃ x : Dev, e = x.chooseParent.yokEval ∧ x.get F.YOK_CTRL_EN = 0 ∧ x.is F.YOK_STAT_DRIVE = false ∧ x.yokRole = 0 ∧
          x.yok.claimed = false ∧ x.yok.peer = none)) ∧
    (Ends s (exec .yokClaim s) fun e =>
      if s.dev.yok.claimed = true ∨ s.dev.get F.SUP_STAT_STAGE = 4 ∨ ¬ (s.dev.yokRole = 1 ∨ (s.dev.yokRole = 3 ∧ (s.dev.yok.fresh = false ∨ s.dev.yok.hand = true))) then e = s.dev
      else e.get F.YOK_STAT_DRIVE = 1 ∧ e.get F.YOK_STAT_TOKEN = 0 ∧ e.yok = { s.dev.yok with claimed := true, asWheel := s.dev.yokRole == 3 } ∧
        s.dev.Only { e with yok := s.dev.yok } [F.YOK_STAT_DRIVE, F.YOK_STAT_TOKEN]) ∧
    (s.dev.yok.claimed = false ∨ s.dev.get F.YOK_CFG_SIDE ≠ 1 → Ends s (exec .yokYield s) fun e => e = s.dev) ∧
    (s.dev.yok.claimed = true → s.dev.get F.YOK_CFG_SIDE = 1 → Ends s (exec .yokYield s) fun e => ∃ x : Dev,
      e = (x.chooseParent.yokEval.yokEvent 6 0 0).oweFault 0x242 44 ∧ e.get F.YOK_INT_YIELD = 1 ∧
      x.yokRole = 3 ∧ x.get F.YOK_STAT_DRIVE = 0 ∧ x.get F.YOK_STAT_TOKEN = 0 ∧ x.yok = { s.dev.yok with claimed := false, fresh := false, hand := false } ∧
      s.dev.Only { x with yok := s.dev.yok } [F.YOK_STAT_ROLE, F.YOK_STAT_DRIVE, F.YOK_STAT_TOKEN]) ∧
    (s.dev.yok.claimed = false → Ends s (exec .yokClaimConfirm s) fun e => e = s.dev) ∧
    (s.dev.yok.claimed = true → Ends s (exec .yokClaimConfirm s) fun e => ∃ x : Dev,
      e = (if s.dev.yok.asWheel then x.takeover (s.dev.is F.YOK_STAT_MSYNC) s.dev.yok.gm else x.chooseParent).yokEval ∧
      x.yokRole = 2 ∧ x.get F.YOK_STAT_DRIVE = 1 ∧ x.get F.YOK_STAT_TOKEN = 0 ∧ x.yok = { s.dev.yok with claimed := false } ∧
      s.dev.Only { x with yok := s.dev.yok } [F.YOK_STAT_ROLE, F.YOK_STAT_DRIVE, F.YOK_STAT_TOKEN]) ∧
    (∀ (d : Dev) (m g : Bool), (d.takeover m g).get F.YOK_INT_TAKEOVER = 1) ∧
    (s.dev.laneUp 5 = false ∨ s.dev.phyHeld = true → Ends s (exec .yokBeatTx s) fun e => e = if s.dev.yokRole = 2 then s.dev.driveToken else s.dev) ∧
    (s.dev.laneUp 5 = true → s.dev.phyHeld = false →
      (s.dev.yokRole = 3 → Ends s (exec .yokBeatTx s) fun e => e.get F.YOK_TXSEQ_HBSEQ = s.dev.yok.hbseq % 2 ^ 32 ∧
        e.yok = { s.dev.yok with hbseq := (s.dev.yok.hbseq + 1) % 2 ^ 32 } ∧ e.out = ⟨.bale, 5, [5], wireBale (
        { type := 5
          src := s.dev.unitId
          h := beBytes 4 s.dev.yok.hbseq ++ leBytes 1 2
          data := beBytes 2 (s.dev.get F.YOK_CFG_SIDE * 32768 + s.dev.get F.YOK_CFG_ALIAS) ++
          beBytes 4 (s.dev.get F.YOK_MGEN_MGEN) ++ beBytes 4 0 ++ List.replicate 6 0 } : Bale).bytes⟩ :: s.dev.out ∧
        s.dev.Only { e with yok := s.dev.yok, out := s.dev.out } [F.YOK_TXSEQ_HBSEQ]) ∧
      (s.dev.yokRole = 2 → Ends s (exec .yokBeatTx s) fun e => e.get F.YOK_TXSEQ_HBSEQ = s.dev.yok.hbseq % 2 ^ 32 ∧ e.get F.YOK_STAT_DRIVE = 1 ∧
        e.get F.YOK_STAT_TOKEN = 0 ∧ e.yok = { s.dev.yok with hbseq := (s.dev.yok.hbseq + 1) % 2 ^ 32 } ∧ (∃ l, e.out = ⟨.bale, 5, [5], l⟩ :: s.dev.out) ∧
        s.dev.Only { e with yok := s.dev.yok, out := s.dev.out } [F.YOK_TXSEQ_HBSEQ, F.YOK_STAT_DRIVE, F.YOK_STAT_TOKEN]) ∧
      (s.dev.yokRole ≠ 2 → s.dev.yokRole ≠ 3 → Ends s (exec .yokBeatTx s) fun e => e = s.dev)) ∧
    (Ends s (exec .yokBeatStale s) fun e =>
      if s.dev.yokRole = 2 ∧ s.dev.is F.YOK_STAT_DRIVE = true then e.get F.YOK_STAT_DRIVE = 0 ∧ e.get F.YOK_STAT_TOKEN = 1 ∧
        s.dev.Only e [F.YOK_STAT_DRIVE, F.YOK_STAT_TOKEN]
      else e = s.dev) ∧
    (s.dev.yokRole ≠ 2 ∨ s.dev.is F.YOK_STAT_DRIVE = false → Ends s (exec .yokTokenFault s) fun e => e = s.dev) ∧
    (s.dev.yokRole = 2 → s.dev.is F.YOK_STAT_DRIVE = true → Ends s (exec .yokTokenFault s) fun e => ∃ x : Dev,
      e = (x.chooseParent.yokEval.yokEvent 5 0 0).oweFault 0x242 43 ∧ e.get F.YOK_INT_TOKENFAULT = 1 ∧ x.yokRole = 3 ∧ x.get F.YOK_STAT_DRIVE = 0 ∧
      x.get F.YOK_STAT_TOKEN = 1 ∧ x.yok = { s.dev.yok with claimed := false, fresh := false, hand := false }) ∧
    (∀ w : Word, setsReserved R.YOK_CTRL (withBit w 8) = false → bits w.toNat 0 1 = s.dev.get F.YOK_CTRL_EN → Ends s (exec (.yokHandover w) s) fun e =>
      if s.dev.yokRole = 2 ∧ s.dev.is F.YOK_STAT_PAIRED = true ∧ s.dev.is F.YOK_STAT_MSYNC = true then ∃ x : Dev,
        e = x.chooseParent.yokEval.yokEvent 7 0 0 ∧ e.get F.YOK_INT_HANDOVER = 1 ∧ x.yokRole = 3 ∧ x.get F.YOK_STAT_DRIVE = 0 ∧
        x.get F.YOK_STAT_TOKEN = 1 ∧ x.is F.YOK_MTXCMD_BUSY = false ∧ x.get F.YOK_CTRL_HANDOVER = 0 ∧ x.yok.fresh = true ∧ x.yok.hand = false
      else RecordedGlb s.dev e 0x11000 .eState) ∧
    (∀ w : Word, setsReserved R.YOK_CTRL (withBit w 1) = false → bits w.toNat 8 1 = 0 → bits w.toNat 0 1 = s.dev.get F.YOK_CTRL_EN →
      Ends s (exec (.yokCntclr w) s) fun e => e.get F.YOK_CNT_LOSSES = 0 ∧ e.get F.YOK_CNT_RESENDS = 0 ∧
        s.dev.Only e [F.YOK_CTRL_LOCK, F.YOK_CTRL_HANDOVER, F.YOK_CNT_LOSSES, F.YOK_CNT_RESENDS])

/-- Pairing and the mirror: PAIRED follows the peer's beats and their loss, MISMATCH a wrong alias or side; a beat counts by its source and HBSEQ;
a MIRROR bale is taken only next in order, entry, record or end; the lead sends the full set, then records and changes, and again what is
not acknowledged; raw bales are checked and passed on (R358, R361, R364, R404, R407 to R410, R420, R422, R548).
Where the spec leaves a reading open this follows the model's own: log entry 57. -/
def Obligations.YokeMirror : Prop :=
  ∀ s : State, s.dev.up = true →
    (Ends s (exec .yokLossTimeout s) fun e => e = ({ s.dev with yok := { s.dev.yok with peer := none, fresh := false } } : Dev).yokEval) ∧
    (∀ d : Dev,
      (d.yokPeer = none → d.is F.YOK_STAT_PAIRED = true → let e := d.yokEval
        e.get F.YOK_STAT_PAIRED = 0 ∧ e.get F.YOK_STAT_MSYNC = 0 ∧ e.is F.YOK_STAT_MISMATCH = false ∧ e.get F.YOK_INT_PAIRDOWN = 1 ∧
        e.get F.YOK_CNT_LOSSES = satInc 0xFFFF (d.get F.YOK_CNT_LOSSES) % 0x10000 ∧ .fault 0x242 41 ∈ e.lar.due ∧ e.is F.YOK_MTXCMD_BUSY = false) ∧
      (∀ a, d.yokPeer = some (d.get F.YOK_CFG_ALIAS, a) → a ≠ d.get F.YOK_CFG_SIDE → d.is F.YOK_STAT_PAIRED = false → let e := d.yokEval
        e.get F.YOK_STAT_PAIRED = 1 ∧ e.get F.YOK_MGEN_MGEN = 0 ∧ e.get F.YOK_INT_PAIRUP = 1 ∧ e.yok.unacked = [] ∧
        e.yok.next = if d.yokRole = 2 then 0 else 257) ∧
      (∀ p, d.yokPeer = some p → p.1 ≠ d.get F.YOK_CFG_ALIAS ∨ p.2 = d.get F.YOK_CFG_SIDE → d.is F.YOK_STAT_MISMATCH = false → let e := d.yokEval
        e.get F.YOK_STAT_MISMATCH = 1 ∧ e.get F.YOK_INT_MISMATCH = 1 ∧ .fault 0x242 42 ∈ e.lar.due ∧ e.is F.YOK_STAT_PAIRED = false)) ∧
    (∀ l : List Byte, ∀ b : Bale, b = parseBale l →
      (∀ k c, (k, c) ∈ [(1, Instr.lbeat l), (2, .wbeat l), (3, .mirror l)] → s.dev.laneUp 5 = false ∨ s.dev.phyHeld = true ∨
        wireOk (wireBale l) = false ∨ b.type ≠ 5 ∨ b.sub ≠ k ∨ s.dev.is F.YOK_CTRL_EN = false → Ends s (exec c s) fun e => e = s.dev) ∧
      (s.dev.laneUp 5 = true → s.dev.phyHeld = false → wireOk (wireBale l) = true → b.type = 5 → s.dev.is F.YOK_CTRL_EN = true →
        (∀ k c, (k, c) ∈ [(1, Instr.lbeat l), (2, .wbeat l)] → b.sub = k → Ends s (exec c s) fun e =>
          if b.src ≠ s.dev.get (F.HAY_LANE0_NBR 5) ∨ (s.dev.yok.seen = true ∧ newer32 (b.hd 0 4) (s.dev.get F.YOK_RXSEQ_HBSEQ) = false) then e = s.dev
          else ∃ x : Dev, x.get F.YOK_RXSEQ_HBSEQ = b.hd 0 4 ∧ x.yok.seen = true ∧ x.yok.peer = some (k == 1, bits (b.pay 0 2) 0 12, bits (b.pay 0 2) 15 1) ∧
            (k = 1 → x.yok.fresh = (s.dev.yokRole == 3) ∧ x.yok.hand = bitOf (b.pay 0 2) 14 ∧ x.yok.gm = bitOf (b.pay 0 2) 13) ∧
            s.dev.Only { x with yok := s.dev.yok } [F.YOK_RXSEQ_HBSEQ] ∧
            e = if k = 2 ∧ x.yokEval.yokRole = 2 ∧ x.yokEval.is F.YOK_STAT_PAIRED = true then x.yokEval.mirrorAck (b.pay 2 4) else x.yokEval) ∧
        (b.sub = 3 → Ends s (exec (.mirror l) s) fun e =>
          if s.dev.yokRole ≠ 3 ∨ s.dev.is F.YOK_STAT_PAIRED = false ∨ b.pay 0 4 ≠ nextGen (s.dev.get F.YOK_MGEN_MGEN) then e = s.dev
          else
            (b.pay 4 1 = 1 → b.data.length = 40 → e.get F.YOK_MGEN_MGEN = b.pay 0 4 ∧
              (b.pay 5 1 ∈ e.yok.live ↔ bits (b.pay 8 4) 29 3 ≠ 0)) ∧
            (b.pay 4 1 = 2 → s.dev.is F.YOK_MRXSTAT_VALID = false → 8 < b.data.length → b.pay 6 2 % 32768 + (b.data.length - 8) ≤ 1024 →
              32768 ≤ b.pay 6 2 → e.get F.YOK_MGEN_MGEN = b.pay 0 4 ∧ e.get F.YOK_MRXSTAT_VALID = 1 ∧ e.get F.YOK_INT_MIRRORRX = 1 ∧
                e.get F.YOK_MRXSTAT_LEN = b.pay 6 2 % 32768 + (b.data.length - 8)) ∧
            (b.pay 4 1 = 2 → s.dev.is F.YOK_MRXSTAT_VALID = true → e = s.dev) ∧
            (b.pay 4 1 = 3 → e.get F.YOK_MGEN_MGEN = b.pay 0 4 ∧ e.get F.YOK_STAT_MSYNC = 1 ∧ s.dev.Only e [F.YOK_MGEN_MGEN, F.YOK_STAT_MSYNC]) ∧
            (3 < b.pay 4 1 ∨ b.pay 4 1 = 0 → e = s.dev)))) ∧
    (∀ (d : Dev) (g : Nat), (∀ u ∈ d.yok.unacked, u.1 ≠ g ∧ newer32 g u.1 = false) → d.mirrorAck g = d) ∧
    (∀ (d : Dev) (g : Nat), g ≠ 0 → newer32 g (d.get F.YOK_MGEN_MGEN) = false →
      (d.mirrorAck g).yok.unacked = (d.yok.unacked.filter fun u => !(u.1 == g || newer32 g u.1)) ∧
      ((∃ u ∈ d.yok.unacked, (u.1 = g ∨ newer32 g u.1 = true) ∧ u.2.2 = 1) → (d.mirrorAck g).get F.YOK_STAT_MSYNC = 1) ∧
      ((∃ u ∈ d.yok.unacked, (u.1 = g ∨ newer32 g u.1 = true) ∧ u.2.2 = 2) → (d.mirrorAck g).is F.YOK_MTXCMD_BUSY = false)) ∧
    (s.dev.yokRole ≠ 2 ∨ s.dev.is F.YOK_STAT_PAIRED = false ∨ s.dev.phyHeld = true ∨ 16 ≤ s.dev.yok.unacked.length →
      Ends s (exec .yokMirrorTx s) fun e => e = s.dev) ∧
    (s.dev.yokRole = 2 → s.dev.is F.YOK_STAT_PAIRED = true → s.dev.phyHeld = false → s.dev.yok.unacked.length < 16 →
      (s.dev.yok.next ≤ 256 → Ends s (exec .yokMirrorTx s) fun e => e.yok.next = s.dev.yok.next + 1 ∧
        e.get F.YOK_MGEN_MGEN = nextGen (s.dev.get F.YOK_MGEN_MGEN) % 2 ^ 32 ∧
        (s.dev.yok.next < 256 → mapGet [] e.yok.sent s.dev.yok.next = s.dev.strWords s.dev.yok.next) ∧
        (∃ p, e.yok.unacked = s.dev.yok.unacked ++ [(nextGen (s.dev.get F.YOK_MGEN_MGEN), p, if s.dev.yok.next = 256 then 1 else 0)]) ∧
        s.dev.Only { e with yok := s.dev.yok, out := s.dev.out } [F.YOK_MGEN_MGEN]) ∧
      (∀ a, 256 < s.dev.yok.next → s.dev.yok.recAt = some a → Ends s (exec .yokMirrorTx s) fun e =>
        e.get F.YOK_MGEN_MGEN = nextGen (s.dev.get F.YOK_MGEN_MGEN) % 2 ^ 32 ∧
        e.yok.recAt = (if s.dev.get F.YOK_MTXCMD_LEN ≤ a + 504 then none else some (a + 504)) ∧
        s.dev.Only { e with yok := s.dev.yok, out := s.dev.out } [F.YOK_MGEN_MGEN]) ∧
      (256 < s.dev.yok.next → s.dev.yok.recAt = none → (∀ i < 256, mapGet [] s.dev.yok.sent i = s.dev.strWords i) →
        Ends s (exec .yokMirrorTx s) fun e => e = s.dev)) ∧
    (Ends s (exec .yokMirrorResend s) fun e =>
      if s.dev.yokRole ≠ 2 ∨ s.dev.is F.YOK_STAT_PAIRED = false ∨ s.dev.yok.unacked = [] then e = s.dev
      else if 8 ≤ s.dev.yok.resends then e = ({ s.dev with yok := { s.dev.yok with peer := none } } : Dev).yokEval
      else e.yok = { s.dev.yok with resends := s.dev.yok.resends + 1 } ∧
        s.dev.Only { e with yok := s.dev.yok, out := s.dev.out } [F.YOK_CNT_RESENDS]) ∧
    (∀ w : Word, setsReserved R.YOK_MTXCMD (withBit w 31) = false → Ends s (exec (.yokMtxcmd w) s) fun e =>
      if bits w.toNat 0 11 = 0 ∨ 1024 < bits w.toNat 0 11 then RecordedGlb s.dev e 0x11030 .eRange
      else if s.dev.yokRole ≠ 2 ∨ s.dev.is F.YOK_STAT_PAIRED = false then RecordedGlb s.dev e 0x11030 .eState
      else if s.dev.is F.YOK_MTXCMD_BUSY = true then RecordedGlb s.dev e 0x11030 .eBusy
      else e.get F.YOK_MTXCMD_BUSY = 1 ∧ e.get F.YOK_MTXCMD_GO = 0 ∧ e.get F.YOK_MTXCMD_LEN = bits w.toNat 0 11 ∧ e.yok = { s.dev.yok with recAt := some 0 } ∧
        s.dev.Only { e with yok := s.dev.yok } [F.YOK_MTXCMD_BUSY, F.YOK_MTXCMD_GO, F.YOK_MTXCMD_LEN]) ∧
    (∀ w : Word, setsReserved R.YOK_MRXSTAT (withBit w 30) = false → Ends s (exec (.yokMrxPop w) s) fun e =>
      e.get F.YOK_MRXSTAT_VALID = 0 ∧ s.dev.Only e [F.YOK_MRXSTAT_VALID]) ∧
    (∀ (n : Fin 6) (sub : Fin 334) (wait : BitVec 16) (l : List Byte), Ends s (exec (.hayBaleRx n sub wait l) s) fun e =>
      if s.dev.laneUp n.val = false ∨ s.dev.phyHeld = true then e = s.dev
      else if l.length < 20 ∨ crc32 (l.take (l.length - 4)) ≠ beNat (l.drop (l.length - 4)) then
        e.get (F.HAY_LANE8_CRCERR n.val) = satInc 0xFFFF (s.dev.get (F.HAY_LANE8_CRCERR n.val)) % 0x10000 ∧
        e.lar = { s.dev.lar with due := s.dev.lar.due ++ [.fault (0x220 + n.val) 35] } ∧
        s.dev.Only { e with lar := s.dev.lar } [F.HAY_LANE8_CRCERR n.val]
      else if wireOk l = false then DroppedBale s.dev e n.val
      else let b := parseBale (l.take (16 + bits (beNat ((l.drop 6).take 2)) 0 10))
        if b.type = 5 ∧ n.val ≠ 5 then DroppedBale s.dev e n.val
        else if b.type = 5 then e = s.dev.rxYoke 5 b else e = s.dev.rxBale n.val sub.val wait.toNat b)

/-! ### Flash port and Granary (chapter 15) -/

/-- A refused window access: a bus error, FLS_WERR, and its record under the rule of R9. -/
def WindowRefused (d e : Dev) (st : Status) (addr : Nat) : Prop :=
  e.out = ⟨.accessFault, 0, [addr], []⟩ :: d.out ∧ e.get F.FLS_INT_WERR = 1 ∧
    (d.is F.FLS_ERR_VALID = true → e.get F.FLS_ERR_MULTI = 1) ∧
    (d.is F.FLS_ERR_VALID = false → e.get F.FLS_ERR_VALID = 1 ∧ e.get F.FLS_ERR_CODE = statusCode st ∧ e.get F.FLS_ERRADDR_ADDR = addr % 2 ^ 32) ∧
    d.Told { e with out := d.out } [F.FLS_INT_WERR, F.FLS_ERR_VALID, F.FLS_ERR_MULTI, F.FLS_ERR_CODE, F.FLS_ERRADDR_ADDR]

/-- FLS_CMD operations: each is checked, marks BUSY and sends its opcode, a sector erase joins the jobs; its end leaves the bytes returned, the
status and FLS_CMD_DONE (R428, R454).
Where the spec leaves a reading open this follows the model's own: log entries 58, 60. -/
def Obligations.FlashCommands : Prop :=
  ∀ (s : State) (w : Word), s.dev.up = true →
    (∀ op c, (op, c) ∈ [(1, Instr.readId w), (2, .readSfdp w), (3, .readStatus w), (4, .sectorErase w), (5, .deepPowerDown w), (6, .release w),
        (7, .flashReset w)] → setsReserved R.FLS_CMD (flsWord w op) = false → ∀ len sel, len = bits w.toNat 0 9 → sel = bits w.toNat 15 1 →
      Ends s (exec c s) fun e =>
        if op = 2 ∧ (len = 0 ∨ 256 < len) then RecordedGlb s.dev e 0x12040 .eRange
        else if op = 4 ∧ s.dev.bankSector sel (s.dev.get F.FLS_CMDADDR_ADDR) = true then RecordedGlb s.dev e 0x12040 .eLocked
        else if s.dev.is F.FLS_CMD_BUSY = true then RecordedGlb s.dev e 0x12040 .eBusy
        else e.get F.FLS_CMD_BUSY = 1 ∧ e.get F.FLS_CMD_GO = 0 ∧ e.get F.FLS_CMD_OP = op ∧ e.get F.FLS_CMD_LEN = len ∧ e.get F.FLS_CMD_SEL = sel ∧
          e.fls.op = some (op, len) ∧ s.dev.Only { e with fls := s.dev.fls, out := s.dev.out } [F.FLS_CMD_BUSY, F.FLS_CMD_GO, F.FLS_CMD_OP, F.FLS_CMD_LEN,
            F.FLS_CMD_SEL, F.FLS_STAT_PROGRAMMING, F.FLS_STAT_ERASING, F.FLS_STAT_SUSPENDED] ∧
          (op = 1 → e.out = ⟨.flash, sel, [0x9F, 0], []⟩ :: s.dev.out) ∧
          (op = 2 → e.out = ⟨.flash, sel, [0x5A, s.dev.get F.FLS_CMDADDR_ADDR], []⟩ :: s.dev.out) ∧
          (op = 3 → e.out = ⟨.flash, sel, [0x05, 0], []⟩ :: s.dev.out) ∧
          (op = 4 → ∃ j ∈ e.fls.jobs, j.sel = sel ∧ j.erase = true ∧ j.addr = sectorOf (s.dev.get F.FLS_CMDADDR_ADDR) ∧ j.who = 2) ∧
          (op = 5 → e.out = ⟨.flash, sel, [0xB9, 0], []⟩ :: s.dev.out) ∧
          (op = 6 → e.out = ⟨.flash, sel, [0xAB, 0], []⟩ :: s.dev.out) ∧
          (op = 7 → ∃ l, e.out = ⟨.flash, sel, [0x99, 0], []⟩ :: ⟨.flash, sel, [0x66, 0], []⟩ :: l)) ∧
    (∀ data : List Byte,
      (s.dev.fls.op = none → Ends s (exec (.flsCmdDone data) s) fun e => e = s.dev) ∧
      (∀ len, s.dev.fls.op = some (4, len) → s.dev.fls.cmdEnd = none → Ends s (exec (.flsCmdDone data) s) fun e => e = s.dev) ∧
      (∀ op len st, s.dev.fls.op = some (op, len) → len ≤ 256 → (if op = 4 then s.dev.fls.cmdEnd else some .done) = some st →
        flsReturned op len ≤ data.length → Ends s (exec (.flsCmdDone data) s) fun e =>
          e.get F.FLS_CMD_BUSY = 0 ∧ e.get F.FLS_CMD_STATUS = statusCode st ∧ e.get F.FLS_INT_CMDDONE = 1 ∧ e.fls.op = none ∧
          e.getBytes F.FLS_CMDBUF_DATA (flsReturned op len) = data.take (flsReturned op len) ∧
          s.dev.Told { e with fls := s.dev.fls } (F.FLS_CMD_BUSY :: F.FLS_CMD_STATUS :: F.FLS_INT_CMDDONE :: (List.range 64).map F.FLS_CMDBUF_DATA)))

/-- Windows D and W and the jobs of the flashes: writes are refused or gathered and then programmed, an AND of old contents and data; an erased
sector reads 0xFF; reads are served at once where the flash is idle, and otherwise wait, an erase being suspended for them; a job that
times out is abandoned; the instruction cache takes the line of a fetch and holds no more than 32 KiB (R20, R429 to R435, R450, R506).
Where the spec leaves a reading open this follows the model's own: log entries 58, 60. -/
def Obligations.FlashWindows : Prop :=
  ∀ s : State, s.dev.up = true →
    (∀ (win : Fin 2) (x : BitVec 28) (n : Fin 5) (v : Word), Ends s (exec (.windowWWrite win x n v) s) fun e =>
      if win.val = 0 then WindowRefused s.dev e .eState (0x20000000 + x.toNat)
      else if n.val ≠ 4 ∨ x.toNat % 4 ≠ 0 then WindowRefused s.dev e .eAlign (0x30000000 + x.toNat)
      else if s.dev.get F.FLS_WMAP_SIZE ≤ x.toNat then e = s.dev.emit .accessFault 0 [0x30000000 + x.toNat] []
      else if s.dev.bankByte x.toNat = true then WindowRefused s.dev e .eLocked (0x30000000 + x.toNat)
      else ∀ a sel, a = s.dev.get F.FLS_WBASE_BASE + x.toNat → sel = s.dev.get F.FLS_WMAP_SEL →
        (a % 256 ≠ 252 → s.dev.fls.gather = none → e = { s.dev with fls := { s.dev.fls with gather := some (sel, a, leBytes 4 v.toNat) } }) ∧
        (∀ b r, a % 256 ≠ 252 → s.dev.fls.gather = some (sel, b, r) → a = b + r.length → a / 256 = b / 256 →
          e = { s.dev with fls := { s.dev.fls with gather := some (sel, b, r ++ leBytes 4 v.toNat) } }) ∧
        (∀ g b r, a % 256 ≠ 252 → s.dev.fls.gather = some (g, b, r) → ¬ (g = sel ∧ a = b + r.length ∧ a / 256 = b / 256) →
          e.fls.gather = some (sel, a, leBytes 4 v.toNat) ∧ ∃ j ∈ e.fls.jobs, j.sel = g ∧ j.addr = b ∧ j.data = r ∧ j.erase = false) ∧
        (a % 256 = 252 → s.dev.fls.gather = none → e.fls.gather = none ∧
          ∃ j ∈ e.fls.jobs, j.sel = sel ∧ j.addr = a ∧ j.data = leBytes 4 v.toNat ∧ j.erase = false)) ∧
    (s.dev.fls.gather = none → Ends s (exec .gatherIdleTimeout s) fun e => e = s.dev) ∧
    (∀ g b r, s.dev.fls.gather = some (g, b, r) → Ends s (exec .gatherIdleTimeout s) fun e => e.fls.gather = none ∧
      ∃ j ∈ e.fls.jobs, j.sel = g ∧ j.addr = b ∧ j.data = r ∧ j.erase = false) ∧
    (∀ w : Word, setsReserved R.FLS_CTRL (withBit w 1) = false →
      (s.dev.fls.gather = none → Ends s (exec (.flsFlush w) s) fun e => s.dev.Only e [F.FLS_CTRL_LOCK, F.FLS_CTRL_WLOCK, F.FLS_CTRL_FLUSH]) ∧
      (∀ g b r, s.dev.fls.gather = some (g, b, r) → Ends s (exec (.flsFlush w) s) fun e => e.fls.gather = none ∧ e.get F.FLS_CTRL_FLUSH = 0 ∧
        ∃ j ∈ e.fls.jobs, j.sel = g ∧ j.addr = b ∧ j.data = r ∧ j.erase = false)) ∧
    (∀ (sel : Fin 2) (status : Byte) (gap : Bool),
      (s.dev.flashJob sel.val = none → Ends s (exec (.flashPoll sel status gap) s) fun e => e = s.dev) ∧
      (∀ j, s.dev.flashJob sel.val = some j →
        (j.started = false ∨ j.suspended = true → Ends s (exec (.flashPoll sel status gap) s) fun e => e = s.dev) ∧
        (j.started = true → j.suspended = false → Ends s (exec (.flashPoll sel status gap) s) fun e =>
          ∀ x : Dev, x = s.dev.emit .flash sel.val [0x05, 0] [] →
            if status.getLsbD 0 = false then e = x.finishJob sel.val true
            else if s.dev.maySuspend sel.val gap = true ∧ (∃ r ∈ s.dev.fls.reads, s.dev.windowSel r.win = sel.val) then
              e.out = ⟨.flash, sel.val, [0x75, 0], []⟩ :: x.out ∧ (e.flashJob sel.val) = some { j with suspended := true }
            else e = x) ∧
        (j.started = false → Ends s (exec (.flsTimeout sel) s) fun e => e = s.dev) ∧
        (j.started = true → Ends s (exec (.flsTimeout sel) s) fun e => ∃ x : Dev, e = x.finishJob sel.val false ∧ x.get F.FLS_INT_TIMEOUT = 1 ∧
          .fault 0x243 45 ∈ x.lar.due ∧ (s.dev.is F.FLS_ERR_VALID = false → x.get F.FLS_ERR_VALID = 1 ∧ x.get F.FLS_ERR_CODE = statusCode .eTimeout ∧
            x.get F.FLS_ERRADDR_ADDR = j.addr % 2 ^ 32) ∧ s.dev.Told x [F.FLS_INT_TIMEOUT, F.FLS_ERR_VALID, F.FLS_ERR_MULTI, F.FLS_ERR_CODE, F.FLS_ERRADDR_ADDR])) ∧
      (s.dev.flashJob sel.val = none → Ends s (exec (.flsTimeout sel) s) fun e => e = s.dev)) ∧
    (∀ (d : Dev) (sel : Fin 2) (j : FlashJob), d.flashJob sel.val = some j →
      (j.erase = false → j.data.length ≤ 256 →
        (∀ i b, j.data[i]? = some b → (d.finishJob sel.val true).flashByte sel.val (j.addr + i) = d.flashByte sel.val (j.addr + i) &&& b) ∧
        (∀ q a, (∀ i < j.data.length, flashKey sel.val (j.addr + i) ≠ flashKey q a) → (d.finishJob sel.val true).flashByte q a = d.flashByte q a)) ∧
      (j.erase = true →
        (∀ i < 4096, (d.finishJob sel.val true).flashByte sel.val (sectorOf j.addr + i) = 0xFF) ∧
        (∀ q a, (∀ i < 4096, flashKey sel.val (sectorOf j.addr + i) ≠ flashKey q a) → (d.finishJob sel.val true).flashByte q a = d.flashByte q a))) ∧
    (∀ (win : Fin 2) (x : BitVec 28) (n : Fin 5) (fetch hit gap : Bool),
      (s.dev.get (if win.val = 0 then F.FLS_DMAP_SIZE else F.FLS_WMAP_SIZE) ≤ x.toNat ∨ (win.val = 1 ∧ fetch = true) →
        Ends s (exec (.windowRead win x n fetch hit gap) s) fun e =>
          e = s.dev.emit .accessFault 0 [(if win.val = 0 then 0x20000000 else 0x30000000) + x.toNat] []) ∧
      (x.toNat < s.dev.get (if win.val = 0 then F.FLS_DMAP_SIZE else F.FLS_WMAP_SIZE) → fetch = false →
        (s.dev.flashIdle (s.dev.windowSel win.val) = true → Ends s (exec (.windowRead win x n fetch hit gap) s) fun e =>
          (win.val = 1 → e = s.dev.emit .readData 0 [0x30000000 + x.toNat] (s.dev.windowBytes 1 x.toNat n.val)) ∧
          (win.val = 0 → e = s.dev.emit .readData 0 [0x20000000 + x.toNat]
            (((s.dev.windowBytes 0 (x.toNat - x.toNat % 8) 8).drop (x.toNat % 8)).take n.val))) ∧
        (s.dev.flashIdle (s.dev.windowSel win.val) = false → Ends s (exec (.windowRead win x n fetch hit gap) s) fun e =>
          e.fls.reads = s.dev.fls.reads ++ [⟨win.val, x.toNat, n.val, false⟩] ∧
          e.out = if s.dev.maySuspend (s.dev.windowSel win.val) gap then ⟨.flash, s.dev.windowSel win.val, [0x75, 0], []⟩ :: s.dev.out else s.dev.out)) ∧
      (x.toNat < s.dev.get F.FLS_DMAP_SIZE → win.val = 0 → fetch = true → hit = true → mapGet [] s.dev.stw.icache (x.toNat - x.toNat % 32) ≠ [] →
        Ends s (exec (.windowRead win x n fetch hit gap) s) fun e => e = s.dev.emit .readData 0 [0x20000000 + x.toNat]
          (((mapGet [] s.dev.stw.icache (x.toNat - x.toNat % 32)).drop (x.toNat % 32)).take n.val)) ∧
      (x.toNat < s.dev.get F.FLS_DMAP_SIZE → win.val = 0 → fetch = true → (hit = false ∨ mapGet [] s.dev.stw.icache (x.toNat - x.toNat % 32) = []) →
        s.dev.flashIdle (s.dev.windowSel 0) = true → Ends s (exec (.windowRead win x n fetch hit gap) s) fun e =>
          ∀ a line, a = x.toNat - x.toNat % 32 → line = s.dev.windowBytes 0 a 32 →
            e = (s.dev.fillLine a line).emit .readData 0 [0x20000000 + x.toNat] ((line.drop (x.toNat % 32)).take n.val))) ∧
    (∀ (d : Dev) (a : Nat) (line : List Byte), line ≠ [] → let e := d.fillLine a line
      mapGet [] e.stw.icache a = line ∧ (d.stw.icache.length ≤ 1024 → e.stw.icache.length ≤ 1024) ∧
      (∀ k, k ≠ a → mapGet [] e.stw.icache k = mapGet [] d.stw.icache k ∨ mapGet [] e.stw.icache k = [] ∨ ¬ (d.stw.icache.map (·.1)).Nodup) ∧
      e = { d with stw := { d.stw with icache := e.stw.icache }, free := e.free }) ∧
    (∀ sel : Fin 2,
      ((∀ j, s.dev.flashJob sel.val = some j → j.suspended = false) → Ends s (exec (.eraseResume sel) s) fun e => e = s.dev) ∧
      (∀ j, s.dev.flashJob sel.val = some j → j.suspended = true → Ends s (exec (.eraseResume sel) s) fun e =>
        e.flashJob sel.val = some { j with suspended := false } ∧ (∀ r ∈ e.fls.reads, s.dev.windowSel r.win ≠ sel.val) ∧
        ∃ l, e.out = ⟨.flash, sel.val, [0x7A, 0], []⟩ :: l))

/-- The Granary: a record as written reads back valid; GO is checked, waits for its spacing, and starts; the record takes the next sequence
number, its bank and its place; it ends verified or not; an erase-ahead counts wear; a scan finds the newest record and makes the Granary
READY (R435 to R442, R446, R450, R451).
Where the spec leaves a reading open this follows the model's own: log entry 61. -/
def Obligations.Granary : Prop :=
  (∀ (seq flags wear : Nat) (pay rest : List Byte), seq < 2 ^ 32 → flags < 8 → wear < 2 ^ 32 → pay.length ≤ 4076 →
    recordAt (recordBytes seq flags wear pay ++ rest) = some (seq, flags, pay.length, wear)) ∧
  ∀ s : State, s.dev.up = true →
    (∀ (w : Word) (elapsed : Bool), setsReserved R.GRN_COMMIT (withBit w 31) = false → Ends s (exec (.grnCommit w elapsed) s) fun e =>
      if 4076 < bits w.toNat 0 12 ∨ (bits w.toNat 12 1 = 1 ∧ 1004 < bits w.toNat 0 12) then RecordedGlb s.dev e 0x13008 .eRange
      else if s.dev.is F.GRN_STAT_READY = false then RecordedGlb s.dev e 0x13008 .eState
      else if s.dev.is F.GRN_STAT_WRITING = true then RecordedGlb s.dev e 0x13008 .eBusy
      else ∃ x : Dev, x.get F.GRN_COMMIT_LEN = bits w.toNat 0 12 ∧ x.get F.GRN_COMMIT_MIRROR = bits w.toNat 12 1 ∧
        x.get F.GRN_COMMIT_TWIN = bits w.toNat 13 1 ∧ x.get F.GRN_COMMIT_GO = 0 ∧
        s.dev.Only x [F.GRN_COMMIT_LEN, F.GRN_COMMIT_MIRROR, F.GRN_COMMIT_TWIN, F.GRN_COMMIT_GO, F.GRN_STAT_PENDING] ∧
        (s.dev.is F.GRN_STAT_FENCED = true → e = x.commitFenced ∧ x.commitFenced.get F.GRN_COMMIT_STATUS = statusCode .eFenced) ∧
        (s.dev.is F.GRN_STAT_FENCED = false → x.get F.GRN_STAT_PENDING = 1 ∧
          e = if s.dev.grn.begun = false ∨ elapsed = true ∨ s.dev.get F.SUP_STAT_STAGE ≠ 0 then x.startCommit else x)) ∧
    (s.dev.stw.rom ≠ .image ∨ s.dev.is F.GRN_STAT_PENDING = false ∨ s.dev.is F.GRN_STAT_SCANNING = true ∨ s.dev.is F.GRN_STAT_WRITING = true →
      Ends s (exec .grnCommitStart s) fun e => e = s.dev) ∧
    (s.dev.stw.rom = .image → s.dev.is F.GRN_STAT_PENDING = true → s.dev.is F.GRN_STAT_SCANNING = false → s.dev.is F.GRN_STAT_WRITING = false →
      s.dev.is F.GRN_STAT_FENCED = true → Ends s (exec .grnCommitStart s) fun e => e = s.dev.commitFenced) ∧
    (s.dev.stw.rom = .image → s.dev.is F.GRN_STAT_PENDING = true → s.dev.is F.GRN_STAT_SCANNING = false → s.dev.is F.GRN_STAT_WRITING = false →
      s.dev.is F.GRN_STAT_FENCED = false → ∀ len seq, len = s.dev.get F.GRN_COMMIT_LEN → seq = (s.dev.get F.GRN_LASTSEQ_SEQ + 1) % 2 ^ 32 →
      (s.dev.memBytes 1 1 (s.dev.get F.GRN_BUF_BASE) (8 * ceilDiv len 8)).2.2 = none → Ends s (exec .grnCommitStart s) fun e =>
        e.get F.GRN_STAT_PENDING = 0 ∧ e.get F.GRN_STAT_WRITING = 1 ∧ e.grn.begun = true ∧ ∃ c, e.grn.commit = some c ∧ c.seq = seq ∧ c.bank = seq % 2 ∧
          c.bytes = recordBytes seq (s.dev.get F.GRN_COMMIT_MIRROR + 4 * s.dev.get F.GRN_COMMIT_TWIN) (s.dev.get (wearFld (seq % 2)))
            ((s.dev.memBytes 1 1 (s.dev.get F.GRN_BUF_BASE) (8 * ceilDiv len 8)).2.1.take len) ∧
          (let p := mapGet (0, 0) s.dev.grn.next (seq % 2)
            if 4096 < p.2 + recordSize len then c.moved = true ∧ c.off = 4096 * ((p.1 + 1) % 16) ∧
              mapGet (0, 0) e.grn.next (seq % 2) = ((p.1 + 1) % 16, recordSize len)
            else c.moved = false ∧ c.off = 4096 * p.1 + p.2 ∧ mapGet (0, 0) e.grn.next (seq % 2) = (p.1, p.2 + recordSize len))) ∧
    (s.dev.grn.commit = none ∨ (∃ j ∈ s.dev.fls.jobs, j.who = 1) → Ends s (exec .grnDone s) fun e => e = s.dev) ∧
    (∀ c, s.dev.grn.commit = some c → (∀ j ∈ s.dev.fls.jobs, j.who ≠ 1) → ∀ good : Bool, good = (recordAt (s.dev.flashBytes (s.dev.get F.FLS_WMAP_SEL)
        (s.dev.grnAddr c.bank c.off) (4096 - c.off % 4096))).isSome → Ends s (exec .grnDone s) fun e =>
      e.get F.GRN_LASTSEQ_SEQ = c.seq % 2 ^ 32 ∧ e.get F.GRN_STAT_WRITING = 0 ∧ e.get F.GRN_INT_DONE = 1 ∧ e.grn.commit = none ∧
      e.get F.GRN_COMMIT_STATUS = (if good then 0 else statusCode .eInternal) ∧
      (good = false → e.get F.GRN_INT_VERIFY = 1 ∧ .fault 0x228 47 ∈ e.lar.due) ∧
      (c.moved = true → e.get F.GRN_STAT_ERASING = 1 ∧ ∃ j ∈ e.fls.jobs, j.erase = true ∧ j.who = 3 ∧ j.bank = c.bank ∧
        j.addr = s.dev.grnAddr c.bank (4096 * ((c.off / 4096 + 1) % 16))) ∧
      (s.dev.get F.SUP_STAT_STAGE = 3 → e.pow.s3Done = true)) ∧
    (s.dev.grn.aheadEnd = [] → Ends s (exec .grnEraseAheadDone s) fun e => e = s.dev) ∧
    (∀ b t, s.dev.grn.aheadEnd = b :: t → Ends s (exec .grnEraseAheadDone s) fun e => e.grn.aheadEnd = t ∧
      e.get (wearFld b) = satInc 0xFFFFFFFF (s.dev.get (wearFld b)) % 2 ^ 32 ∧
      e.get F.GRN_STAT_ERASING = bitNat (!t.isEmpty || s.dev.fls.jobs.any fun j => j.who == 3) ∧
      s.dev.Told { e with grn := s.dev.grn } [wearFld b, F.GRN_STAT_ERASING, F.GRN_INT_WEAR]) ∧
    (∀ w : Word, setsReserved R.GRN_CTRL (withBit w 2) = false → Ends s (exec (.grnScan w) s) fun e =>
      if s.dev.is F.GRN_STAT_WRITING = true ∨ s.dev.is F.GRN_STAT_PENDING = true ∨ s.dev.is F.GRN_STAT_ERASING = true then
        RecordedGlb s.dev e 0x13000 .eBusy
      else ∃ x : Dev, s.dev.Only x [F.GRN_CTRL_LOCK, F.GRN_CTRL_SCAN, F.GRN_CTRL_EN] ∧ x.get F.GRN_CTRL_SCAN = 0 ∧
        if s.dev.is F.GRN_STAT_SCANNING = true then e = x
        else e.get F.GRN_STAT_SCANNING = 1 ∧ e.grn.scan = some ⟨x.scanSelect, x.scanWear 0, x.scanWear 1⟩ ∧ ∀ b < 2, mapGet (0, 0) e.grn.next b = (x.scanSector b, 0)) ∧
    (s.dev.grn.scan = none ∨ (∃ j ∈ s.dev.fls.jobs, j.who = 4) → Ends s (exec .grnScanDone s) fun e => e = s.dev) ∧
    (∀ y, s.dev.grn.scan = some y → (∀ j ∈ s.dev.fls.jobs, j.who ≠ 4) → Ends s (exec .grnScanDone s) fun e =>
      e.get F.GRN_STAT_SCANNING = 0 ∧ e.get F.GRN_STAT_READY = 1 ∧ e.get F.GRN_INT_SCANDONE = 1 ∧ e.grn.scan = none ∧
      e.get F.GRN_WEARA_COUNT = y.wearA % 2 ^ 32 ∧ e.get F.GRN_WEARB_COUNT = y.wearB % 2 ^ 32 ∧
      (y.sel = none → e.get F.GRN_STAT_FOUND = 0 ∧ e.get F.GRN_LASTSEQ_SEQ = 0xFFFFFFFF) ∧
      (∀ a seq flags len, y.sel = some (a, seq, flags, len) → e.get F.GRN_STAT_FOUND = 1 ∧ e.get F.GRN_LASTSEQ_SEQ = seq % 2 ^ 32 ∧
        e.get F.GRN_SELADDR_ADDR = a % 2 ^ 24 ∧ e.get F.GRN_SELSEQ_SEQ = seq % 2 ^ 32 ∧ e.get F.GRN_SELINFO_FLAGS = flags % 8 ∧
        e.get F.GRN_SELINFO_LEN = len % 4096))

/-! ### Guarded memories (chapter 16) -/

/-- A word reads as written, and no other word changes; an uncorrectable word is not delivered and is recorded; a steward store of a low half is
held until its high half, another access or the idle time; loads deliver what is readable; beyond a memory there is a bus error (R455 to
R460, R466, R505).
Where the spec leaves a reading open this follows the model's own: log entries 5, 62. -/
def Obligations.GuardedMemory : Prop :=
  (∀ (d : Dev) (m w v req : Nat), d.is F.ECC_INJ_ARM = false →
    (d.memWrite m w v).memWord m w = ⟨v % 2 ^ 64, 0⟩ ∧ ((d.memWrite m w v).memRead m w req).2 = some (v % 2 ^ 64) ∧
    ∀ m' w', 1 ≤ m → m ≤ 3 → 1 ≤ m' → m' ≤ 3 → (m' ≠ m ∨ w' ≠ w) → (d.memWrite m w v).memWord m' w' = d.memWord m' w') ∧
  (∀ (d : Dev) (m w req : Nat), d.heldAt m = none → 2 ≤ eccClass (d.memWord m w).syn →
    (d.memRead m w req).2 = none ∧ (d.memRead m w req).1.memWord m w = d.memWord m w ∧
    (m = 1 ∨ m = 2 → (d.memRead m w req).1.get F.ECC_INT_UE = 1 ∧ .fault 0x244 50 ∈ (d.memRead m w req).1.lar.due ∧
      (d.is F.ECC_UEREC_VALID = false → (d.memRead m w req).1.get F.ECC_UEREC_VALID = 1 ∧ (d.memRead m w req).1.get F.ECC_UEREC_MEM = m ∧
        (d.memRead m w req).1.get F.ECC_UEADDR_ADDR = 8 * w % 2 ^ 22) ∧
      (d.is F.ECC_UEREC_VALID = true → (d.memRead m w req).1.get F.ECC_UEREC_MULTI = 1))) ∧
  (∀ (d : Dev) (m w req : Nat), d.heldAt m = none → (d.memWord m w).syn = 0 → d.memRead m w req = (d, some (d.memWord m w).data)) ∧
  ∀ s : State, s.dev.up = true → ∀ mem : Fin 3, ∀ m, m = mem.val + 1 →
    (∀ (kind : Fin 3) (a : BitVec 24) (n : Fin 5) (v : Word),
      s.dev.memSize m < a.toNat + n.val ∨ n.val = 0 ∨ (kind.val = 2 ∧ m ≠ 1) → Ends s (exec (.stewardMemoryAccess mem kind a n v) s) fun e =>
        e = s.dev.emit .accessFault 0 [memBase m + a.toNat] []) ∧
    (∀ (a : BitVec 24) (v : Word), a.toNat + 4 ≤ s.dev.memSize m →
      (a.toNat % 8 = 0 → s.dev.heldAt m = none → Ends s (exec (.stewardMemoryAccess mem 1 a 4 v) s) fun e =>
        e.heldAt m = some (a.toNat / 8, v.toNat) ∧ e = { s.dev with ecc := { s.dev.ecc with held := e.ecc.held } }) ∧
      (∀ lo, a.toNat % 8 = 4 → s.dev.heldAt m = some (a.toNat / 8, lo) → s.dev.is F.ECC_INJ_ARM = false →
        Ends s (exec (.stewardMemoryAccess mem 1 a 4 v) s) fun e => e.heldAt m = none ∧
          e.memWord m (a.toNat / 8) = ⟨(lo + v.toNat * 2 ^ 32) % 2 ^ 64, 0⟩ ∧ e = { s.dev with ecc := e.ecc })) ∧
    (∀ (kind : Fin 3) (a : BitVec 24) (n : Fin 5) (v : Word), a.toNat + n.val ≤ s.dev.memSize m → n.val ≠ 0 → kind.val ≠ 1 → (kind.val = 2 → m = 1) →
      s.dev.heldAt m = none → a.toNat % 8 + n.val ≤ 8 →
      ((s.dev.memWord m (a.toNat / 8)).syn = 0 → (m = 3 → s.dev.ecc.partPoison.contains (s.dev.lar.partBase + a.toNat / 64) = false) →
        Ends s (exec (.stewardMemoryAccess mem kind a n v) s) fun e => e = s.dev.emit .readData 0 [memBase m + a.toNat]
          (((leBytes 8 (s.dev.memWord m (a.toNat / 8)).data).drop (a.toNat % 8)).take n.val)) ∧
      (2 ≤ eccClass (s.dev.memWord m (a.toNat / 8)).syn → Ends s (exec (.stewardMemoryAccess mem kind a n v) s) fun e =>
        e = (s.dev.memRead m (a.toNat / 8) 0).1.emit .accessFault 0 [memBase m + a.toNat] [])) ∧
    (s.dev.heldAt m = none → Ends s (exec (.mergeIdleExpiry mem) s) fun e => e = s.dev) ∧
    (∀ w v, s.dev.heldAt m = some (w, v) → (s.dev.memWord m w).syn = 0 → s.dev.is F.ECC_INJ_ARM = false → Ends s (exec (.mergeIdleExpiry mem) s) fun e =>
      e.heldAt m = none ∧ e.memWord m w = ⟨mergeBytes (s.dev.memWord m w).data 0 4 v % 2 ^ 64, 0⟩ ∧ e = { s.dev with ecc := e.ecc })

/-- A read-modify-write whose read is classed WIPE or UE merges the new bytes and keeps the word's syndrome, so that the word keeps its class,
and its writer hears of no error. A WIPE read is not recorded, counted or raised anywhere; a UE read is recorded in ECC_UEREC with REQ 2
(RMW), and counted and raised for its memory as R466 says: steward SRAM and endpoint RAM with ECC_UE and ECC_UECNT, a partition cell with
ECC_LBCNTb, source 49 and the paced ECC_LAR_UE. A write of all 8 bytes makes the word readable (R459). -/
def Obligations.RmwKeepsClass : Prop :=
  ∀ (d : Dev) (m w b n v : Nat), m = 1 ∨ m = 2 ∨ m = 3 → ∀ (old : EccWord), d.memWord m w = old →
    let e := d.memRmw m w b n v
    (2 ≤ eccClass old.syn → e.memWord m w = ⟨mergeBytes old.data b n v, old.syn⟩ ∧ eccClass (e.memWord m w).syn = eccClass old.syn ∧
      e.out = d.out) ∧
    (eccClass old.syn = 2 → e = d.memSet m w ⟨mergeBytes old.data b n v, old.syn⟩) ∧
    (eccClass old.syn = 3 →
      (d.is F.ECC_UEREC_VALID = false → e.get F.ECC_UEREC_VALID = 1 ∧ e.get F.ECC_UEREC_REQ = 2 ∧ e.get F.ECC_UEREC_CLASS = 0 ∧
        e.get F.ECC_UEREC_MEM = m ∧ e.get F.ECC_UEADDR_ADDR = (if m = 3 then 64 * (d.lar.partBase + w / 8) + 8 * (w % 8) else 8 * w) % 2 ^ 22) ∧
      (d.is F.ECC_UEREC_VALID = true → e.get F.ECC_UEREC_MULTI = 1 ∧ ∀ f ∈ [F.ECC_UEREC_VALID, F.ECC_UEREC_REQ, F.ECC_UEREC_CLASS,
        F.ECC_UEREC_MEM, F.ECC_UEADDR_ADDR], e.get f = d.get f) ∧
      (m ≠ 3 → e.get F.ECC_UECNT_UE = satInc 0xFFFF (d.get F.ECC_UECNT_UE) % 0x10000 ∧ e.get F.ECC_INT_UE = 1) ∧
      (m = 3 → ∀ bank, bank = (d.lar.partBase + w / 8) / 4096 → bank < 16 →
        e.get (F.ECC_LBCNT_UE bank) = satInc 0xFFFF (d.get (F.ECC_LBCNT_UE bank)) % 0x10000 ∧ .fault (0x230 + bank) 49 ∈ e.lar.due ∧
        (mapGet 0 d.ecc.spacing bank = 0 → e.get F.ECC_INT_LARUE = 1 ∧ mapGet 0 e.ecc.spacing bank = 1) ∧
        (mapGet 0 d.ecc.spacing bank ≠ 0 → mapGet 0 e.ecc.spacing bank = 2))) ∧
    (d.is F.ECC_INJ_ARM = false → d.heldAt m = none → (d.memMerge m w 0 8 v).memWord m w = ⟨v % 2 ^ 64, 0⟩)

/-- Fills, injection, the Gleaner, the leaky buckets and their counters: a fill is checked, runs and leaves zeros; an injection is checked and armed;
a tick leaks every bucket by one; a paced notice goes out once a second; CLR and CNTCLR clear (R463, R464, R466, R467, R470, R473, R479).
Where the spec leaves a reading open this follows the model's own: log entry 62. -/
def Obligations.EccControls : Prop :=
  ∀ s : State, s.dev.up = true →
    (∀ w : Word, setsReserved R.ECC_FILL (withBit w 31) = false → ∀ m base len, m = bits w.toNat 24 2 → base = s.dev.get F.ECC_FILLBASE_BASE →
      len = s.dev.get F.ECC_FILLLEN_LEN → Ends s (exec (.eccFill w) s) fun e =>
        if base % 8 ≠ 0 ∨ len % 8 ≠ 0 then RecordedGlb s.dev e 0x14074 .eAlign
        else if m = 0 then RecordedGlb s.dev e 0x14074 .eField
        else if len = 0 ∨ ((m ≠ 3 ∨ s.dev.partBytes ≠ 0) ∧ s.dev.memSize m < base + len) then RecordedGlb s.dev e 0x14074 .eRange
        else if m = 3 ∧ s.dev.partBytes = 0 then RecordedGlb s.dev e 0x14074 .eState
        else if s.dev.is F.ECC_FILL_BUSY = true then RecordedGlb s.dev e 0x14074 .eBusy
        else e.get F.ECC_FILL_BUSY = 1 ∧ e.get F.ECC_FILL_GO = 0 ∧ e.get F.ECC_FILL_MEM = m ∧
          e.ecc = { s.dev.ecc with fillAt := base / 8, fillLeft := len / 8 } ∧
          s.dev.Only { e with ecc := s.dev.ecc } [F.ECC_FILL_BUSY, F.ECC_FILL_GO, F.ECC_FILL_MEM]) ∧
    (s.dev.is F.ECC_FILL_BUSY = false → Ends s (exec .eccFillDone s) fun e => e = s.dev) ∧
    (s.dev.is F.ECC_FILL_BUSY = true → Ends s (exec .eccFillDone s) fun e => e.get F.ECC_FILL_BUSY = 0 ∧ e.get F.ECC_FILL_STATUS = 0 ∧
      e.get F.ECC_INT_FILLDONE = 1 ∧ e.ecc.fillLeft = 0 ∧
      (s.dev.is F.ECC_INJ_ARM = false → ∀ i < s.dev.ecc.fillLeft, e.memWord (s.dev.get F.ECC_FILL_MEM) (s.dev.ecc.fillAt + i) = ⟨0, 0⟩)) ∧
    (Ends s (exec .eccLeakTick s) fun e => (∀ b < 16, e.get (lvlFld b) = (s.dev.get (lvlFld b) - 1) % 256) ∧
      s.dev.Only e ((List.range 16).map lvlFld)) ∧
    (∀ b < 16, s.dev.get (lvlFld b) + 1 ≤ s.dev.get F.ECC_LBCFG_CAP → s.dev.bucket b = s.dev.set (lvlFld b) (s.dev.get (lvlFld b) + 1)) ∧
    (∀ b : Fin 16, Ends s (exec (.eccLarUeNotice b) s) fun e =>
      if mapGet 0 s.dev.ecc.spacing b.val = 2 then mapGet 0 e.ecc.spacing b.val = 1 ∧ e.get F.ECC_INT_LARUE = 1 ∧
        s.dev.Told { e with ecc := s.dev.ecc } [F.ECC_INT_LARUE]
      else mapGet 0 e.ecc.spacing b.val = 0 ∧ e = { s.dev with ecc := { s.dev.ecc with spacing := e.ecc.spacing } }) ∧
    (∀ w : Word, setsReserved R.ECC_INJ (withBit w 31) = false → Ends s (exec (.eccInjArm w) s) fun e =>
      let mask := bits w.toNat 8 8
      if 18 < bits w.toNat 24 5 then RecordedGlb s.dev e 0x14070 .eField
      else if bits w.toNat 0 8 = 0 ∨ mask = 0 ∨ (synWeight mask % 2 = 1 ∧ synWeight mask ≠ 1) then RecordedGlb s.dev e 0x14070 .eRange
      else if s.dev.is F.ECC_INJ_ARM = true then RecordedGlb s.dev e 0x14070 .eBusy
      else e.is F.ECC_INJ_ARM = true ∧ e.get F.ECC_INJ_TARGET = bits w.toNat 24 5 ∧ e.get F.ECC_INJ_MASK = mask ∧ e.get F.ECC_INJ_COUNT = bits w.toNat 0 8 ∧
        s.dev.Only e [F.ECC_INJ_ARM, F.ECC_INJ_TARGET, F.ECC_INJ_MASK, F.ECC_INJ_COUNT]) ∧
    (∀ w : Word, setsReserved R.ECC_GLCLR (withBit w 0) = false → Ends s (exec (.eccGlclr w) s) fun e =>
      (∀ i < 16, e.get (F.ECC_GLW0_VALID i) = 0 ∧ e.get (F.ECC_GLW1_HITS i) = 0) ∧ e.get F.ECC_GLSTAT_COUNT = 0 ∧ e.get F.ECC_GLSTAT_OVF = 0 ∧
      e.get F.ECC_GLSTAT_OVFSAT = 0 ∧ e = { s.dev with fld := e.fld } ∧
      ∀ g : Fld, fldId g < 32 * 0x14080 ∨ 32 * 0x14200 ≤ fldId g → e.get g = s.dev.get g) ∧
    (∀ w : Word, setsReserved R.ECC_CTRL (withBit w 0) = false → Ends s (exec (.eccCntclr w) s) fun e =>
      (∀ i < 16, e.get (F.ECC_LBCNT_UE i) = 0 ∧ e.get (F.ECC_LBCNT_OVF i) = 0) ∧ e.get F.ECC_UECNT_UE = 0 ∧ e.get F.ECC_UECNT_WIPE = 0 ∧
      e = { s.dev with fld := e.fld } ∧
      ∀ g : Fld, (fldId g < 32 * 0x14020 ∨ 32 * 0x1406C ≤ fldId g) → fldId g ≠ fldId F.ECC_CTRL_LOCK → e.get g = s.dev.get g)

/-! ### Faults (chapter 17) -/

/-- A fault event of a unit: a COUNT source does nothing; the record takes its cause or merges it; below N it is counted in the window of its
source, at N it is severe; a severe FENCE source fences a unit that may be fenced, sticky from its LIMIT on; an event at a fenced unit
starts its fallow period again (R481, R482, R483, R485, R488).
Where the spec leaves a reading open this follows the model's own: log entry 9. -/
def Obligations.FaultEvents : Prop :=
  ∀ (d : Dev) (u i : Nat), u < 0x300 → u ≠ 0x246 → i < 64 →
    (d.get (F.FLT_SRC_CLASS i) = 0 → d.fault u i = d) ∧
    (d.get (F.FLT_SRC_CLASS i) ≠ 0 → ∀ r, r = recordEvent (d.urecOf u) i (d.get F.SUP_SECONDS_COUNT) (d.routed 0 i) (d.routed 1 i) →
      ((d.urecOf u).valid = true → r.valid = true ∧ r.multi = true ∧ r.last = i ∧ r.cause = (d.urecOf u).cause) ∧
      ((d.urecOf u).valid = false → r.valid = true ∧ r.multi = false ∧ r.cause = i ∧ r.last = i ∧ r.merged = 0 ∧
        r.time = d.get F.SUP_SECONDS_COUNT) ∧
      ((d.urecOf u).fenced = true → (d.fault u i).urecOf u =
        { r with remain := if (d.urecOf u).sticky then 0 else d.fallowPeriod ((unitKind u).getD 0) }) ∧
      ((d.urecOf u).fenced = false → mapGet 0 (d.urecOf u).wins i + 1 < d.get (F.FLT_SRC_N i) →
        (d.fault u i).urecOf u = { r with wins := mapPut 0 r.wins i (mapGet 0 (d.urecOf u).wins i + 1) } ∧
        d.Only { d.fault u i with urec := d.urec, alert := d.alert } [F.ALT_CFG_STATE 0, F.ALT_CFG_STATE 1]) ∧
      ((d.urecOf u).fenced = false → d.get (F.FLT_SRC_N i) ≤ mapGet 0 (d.urecOf u).wins i + 1 →
        d.get (F.FLT_SRC_CLASS i) ≠ 2 ∨ d.mayFence u = false →
        (d.fault u i).urecOf u = { r with sev := true, wins := mapErase r.wins i } ∧ (d.fault u i).get F.FLT_INT_SEVERE = 1) ∧
      ((d.urecOf u).fenced = false → d.get (F.FLT_SRC_N i) ≤ mapGet 0 (d.urecOf u).wins i + 1 → d.get (F.FLT_SRC_CLASS i) = 2 → d.mayFence u = true →
        (d.fault u i).unitFenced u = true ∧ ((d.fault u i).urecOf u).sev = true ∧ ((d.fault u i).urecOf u).wins = [] ∧
        ∀ k, unitKind u = some k → ((d.fault u i).urecOf u).sticky =
          (decide (d.get (F.FLT_FALLOW_LIMIT k) ≠ 0) && decide (d.get (F.FLT_FALLOW_LIMIT k) ≤ (d.urecOf u).fcnt))))

/-- The commands on units: a window closes with its count discarded; the fallow period of a fenced unit that is not sticky ends its fence and
counts one return; FLT_UCMD fences, releases and clears the count of the unit selected, with its checks; a record is cleared but for
its fence, its count and its windows (R482, R484, R485, R486, R491, R503). -/
def FaultCommandsRule : Prop :=
  ∀ s : State, s.dev.up = true →
    (∀ (u : BitVec 10) (i : Fin 64), Ends s (exec (.escalationWindowExpiry u i) s) fun e =>
      e.urecOf u.toNat = { s.dev.urecOf u.toNat with wins := mapErase (s.dev.urecOf u.toNat).wins i.val } ∧ mapGet 0 (e.urecOf u.toNat).wins i.val = 0 ∧
      (∀ v, v ≠ u.toNat → e.urecOf v = s.dev.urecOf v) ∧ e = { s.dev with urec := e.urec }) ∧
    (∀ (u q : BitVec 10),
      (u.toNat ≠ 0x246 → (s.dev.urecOf u.toNat).fenced = false ∨ (s.dev.urecOf u.toNat).sticky = true →
        Ends s (exec (.fallowExpiry u q) s) fun e => e = s.dev) ∧
      (u.toNat ≠ 0x246 → (s.dev.urecOf u.toNat).fenced = true → (s.dev.urecOf u.toNat).sticky = false →
        Ends s (exec (.fallowExpiry u q) s) fun e => ∃ x : Dev, e = returnEffect u.toNat (x.fltEvent 1 u.toNat 0) ∧
          x.urecOf u.toNat = countReturn { s.dev.urecOf u.toNat with fenced := false, sticky := false, remain := 0, wins := [] } ∧
          (x.urecOf u.toNat).fcnt = satInc 0xFFFF (s.dev.urecOf u.toNat).fcnt ∧
          x.bit (F.FLT_FENCED_FENCED (u.toNat / 32)) (u.toNat % 32) = false ∧ (x.fltEvent 1 u.toNat 0).get F.FLT_INT_RETURN = 1) ∧
      (u.toNat = 0x246 → s.dev.lar.qFenced.contains q.toNat = false → Ends s (exec (.fallowExpiry u q) s) fun e => e = s.dev) ∧
      (u.toNat = 0x246 → s.dev.lar.qFenced.contains q.toNat = true → Ends s (exec (.fallowExpiry u q) s) fun e =>
        e.lar.qFenced.contains q.toNat = false ∧ e.get F.FLT_INT_RETURN = 1 ∧
        (e.urecOf 0x246).fcnt = satInc 0xFFFF (s.dev.urecOf 0x246).fcnt ∧
        ((s.dev.lar.qFenced.filter (· != q.toNat)) = [] → (e.urecOf 0x246).fenced = false))) ∧
    (∀ (w : Word) (u : Nat) (k : Option Nat), u = s.dev.get F.FLT_USEL_UNIT → u < 0x400 → k = unitKind u →
      (setsReserved R.FLT_UCMD (ucmdWord w 1) = false → Ends s (exec (.fltUcmdFence w) s) fun e =>
        if k = none ∨ k = some 10 ∨ s.dev.unitFenced u = true ∨ (u < 256 ∧ s.dev.tenantExists u = false) then RecordedGlb s.dev e 0x15020 .eState
        else if k = some 9 ∧ s.dev.bankMayFence (u - 0x230) = false then RecordedGlb s.dev e 0x15020 .eNores
        else e.unitFenced u = true ∧ (e.urecOf u).valid = true ∧ (e.urecOf u).last = 0 ∧ (e.urecOf u).sev = true) ∧
      (setsReserved R.FLT_UCMD (ucmdWord w 2) = false → Ends s (exec (.fltUcmdRelease w) s) fun e =>
        if s.dev.unitFenced u = false then RecordedGlb s.dev e 0x15020 .eState
        else ∃ x : Dev, e = returnEffect u (x.fltEvent 1 u 0) ∧
          x.urecOf u = { s.dev.urecOf u with fenced := false, sticky := false, remain := 0, wins := [] } ∧ (u = 0x246 → x.lar.qFenced = [])) ∧
      (setsReserved R.FLT_UCMD (ucmdWord w 3) = false → Ends s (exec (.fltUcmdClrcnt w) s) fun e =>
        e.urecOf u = { s.dev.urecOf u with fcnt := 0, fcsat := false } ∧ (∀ v, v ≠ u → e.urecOf v = s.dev.urecOf v) ∧
        e = { s.dev with urec := e.urec }) ∧
      (setsReserved R.FLT_UREC0 (withBit w 31) = false → Ends s (exec (.fltRecordClear w) s) fun e =>
        e.urecOf u = { fenced := (s.dev.urecOf u).fenced, sticky := (s.dev.urecOf u).sticky, fcsat := (s.dev.urecOf u).fcsat,
                       fcnt := (s.dev.urecOf u).fcnt, remain := (s.dev.urecOf u).remain, wins := (s.dev.urecOf u).wins } ∧
        (∀ v, v ≠ u → e.urecOf v = s.dev.urecOf v) ∧
        s.dev.Only { e with urec := s.dev.urec } [F.FLT_UREC0_VALID, F.ALT_CFG_STATE 0, F.ALT_CFG_STATE 1]))

/-- Alert pins: a pulse ends in a held pin or a deasserted interval, and the interval's end starts a pulse that waited; a level pin shows its
records; a width out of range is rejected, a change of mode starts the pin afresh, and clearing HOLD lets a held pin go (R489 to R492, R585). -/
def AlertPinsRule : Prop :=
  ∀ (s : State) (x : Fin 2), s.dev.up = true →
    (s.dev.is (F.ALT_CFG_MODE x.val) = true ∨ (s.dev.pin x.val).pulsing = false → Ends s (exec (.alertPulseEnd x) s) fun e => e = s.dev) ∧
    (s.dev.is (F.ALT_CFG_MODE x.val) = false → (s.dev.pin x.val).pulsing = true → Ends s (exec (.alertPulseEnd x) s) fun e =>
      e.pin x.val = { s.dev.pin x.val with pulsing := false, held := s.dev.is (F.ALT_CFG_HOLD x.val), resting := !s.dev.is (F.ALT_CFG_HOLD x.val) } ∧
      e.get (F.ALT_CFG_STATE x.val) = bitNat (s.dev.is (F.ALT_CFG_HOLD x.val)) ∧
      s.dev.Only { e with alert := s.dev.alert } [F.ALT_CFG_STATE x.val]) ∧
    ((s.dev.pin x.val).resting = false → Ends s (exec (.alertDeassertEnd x) s) fun e => e = s.dev) ∧
    ((s.dev.pin x.val).resting = true → Ends s (exec (.alertDeassertEnd x) s) fun e =>
      e.pin x.val = { s.dev.pin x.val with resting := false, waiting := false, pulsing := (s.dev.pin x.val).waiting || (s.dev.pin x.val).pulsing } ∧
      (s.dev.is (F.ALT_CFG_MODE x.val) = false → (s.dev.pin x.val).waiting = true → e.get (F.ALT_CFG_STATE x.val) = 1) ∧
      (s.dev.is (F.ALT_CFG_MODE x.val) = true → e.get (F.ALT_CFG_STATE x.val) = bitNat (s.dev.levelOn x.val)) ∧
      s.dev.Only { e with alert := s.dev.alert } [F.ALT_CFG_STATE x.val]) ∧
    (∀ w : Word, setsReserved R.ALT_CFG w = false →
      (bits w.toNat 16 10 = 0 ∨ 1000 < bits w.toNat 16 10 → bits w.toNat 16 10 ≠ s.dev.get (F.ALT_CFG_WIDTH x.val) →
        Ends s (exec (.altCfgWrite x w) s) fun e => RecordedGlb s.dev e (0x15400 + 4 * x.val) .eRange) ∧
      (bits w.toNat 16 10 ≠ 0 → bits w.toNat 16 10 ≤ 1000 → Ends s (exec (.altCfgWrite x w) s) fun e =>
        e.get (F.ALT_CFG_WIDTH x.val) = bits w.toNat 16 10 ∧ e.get (F.ALT_CFG_HOLD x.val) = bits w.toNat 2 1 ∧
        e.get (F.ALT_CFG_SEVONLY x.val) = bits w.toNat 1 1 ∧ e.get (F.ALT_CFG_MODE x.val) = bits w.toNat 0 1 ∧
        (bits w.toNat 0 1 = bitNat (s.dev.is (F.ALT_CFG_MODE x.val)) → bits w.toNat 0 1 = 1 ∨ bits w.toNat 2 1 = 1 ∨ (s.dev.pin x.val).held = false →
          e.alert = s.dev.alert ∧ e.get (F.ALT_CFG_STATE x.val) = s.dev.get (F.ALT_CFG_STATE x.val)) ∧
        (s.dev.is (F.ALT_CFG_MODE x.val) = false → bits w.toNat 0 1 = 0 → bits w.toNat 2 1 = 0 → (s.dev.pin x.val).held = true →
          (e.pin x.val).held = false ∧ (e.pin x.val).resting = !(s.dev.pin x.val).pulsing) ∧
        (bits w.toNat 0 1 ≠ bitNat (s.dev.is (F.ALT_CFG_MODE x.val)) → (e.pin x.val).pulsing = false ∧ (e.pin x.val).held = false ∧
          (e.pin x.val).waiting = false ∧ (bits w.toNat 0 1 = 1 → e.get (F.ALT_CFG_STATE x.val) = bitNat (s.dev.pow.state == .stuck || e.levelOn x.val))) ∧
        s.dev.Only { e with alert := s.dev.alert } [F.ALT_CFG_WIDTH x.val, F.ALT_CFG_HOLD x.val, F.ALT_CFG_SEVONLY x.val, F.ALT_CFG_MODE x.val,
          F.ALT_CFG_STATE x.val]))

/-- The commands on units: a window closes with its count discarded; the fallow period of a fenced unit that is not sticky ends its fence and
counts one return; FLT_UCMD fences, releases and clears the count of the unit selected, with its checks; a record is cleared but for
its fence, its count and its windows (R482, R484, R485, R486, R491, R503).

Alert pins: a pulse ends in a held pin or a deasserted interval, and the interval's end starts a pulse that waited; a level pin shows its
records; a width out of range is rejected, a change of mode starts the pin afresh, and clearing HOLD lets a held pin go (R489 to R492, R585).
Where the spec leaves a reading open this follows the model's own: log entries 3, 63. -/
def Obligations.FaultCommandsAndPins : Prop :=
  FaultCommandsRule ∧ AlertPinsRule

/-! ### Steward core (chapter 18) -/

/-- Boot ROM: a search runs the first candidate that it accepts, in order of VERSION and slot; without one the part serves the mailbox, or, hosted
by the steward, tries again; a warm restart checks the image that ran and counts; its services answer while an image runs (R431, R507 to
R510, R523, R530, R544).
Where the spec leaves a reading open this follows the model's own: log entries 59, 64. -/
def Obligations.BootRom : Prop :=
  ∀ s : State, s.dev.up = true →
    (s.dev.stw.rom ≠ .busy ∨ s.dev.stw.failed = true ∨ s.dev.fuse.life = .blank → Ends s (exec .bootImageSearch s) fun e => e = s.dev) ∧
    (∀ sl, (∀ k, k ∈ s.dev.candidates ↔ k < 2 ∧ s.dev.slotKept k = true) ∧
      (s.dev.candidates.find? (fun k => s.dev.imageOk (slotBase k)) = some sl →
        (s.dev.stw.rom = .busy → s.dev.stw.failed = false → s.dev.fuse.life ≠ .blank → Ends s (exec .bootImageSearch s) fun e => e = s.dev.acceptImage (slotBase sl)) ∧
        (s.dev.stw.rom = .retrying → Ends s (exec .bootSearchRetry s) fun e => e = s.dev.acceptImage (slotBase sl)) ∧
        let e := s.dev.acceptImage (slotBase sl)
        let h := s.dev.flashBytes 0 (slotBase sl) 256
        e.stw.rom = .image ∧ e.get F.STW_BOOT_STATUS = 1 ∧ e.get F.STW_BOOT_SLOT = bitNat (slotBase sl != 0) ∧
        e.get F.STW_BOOTVER_VERSION = hdrFld h 12 4 % 2 ^ 32 ∧ e.get F.FLS_CTRL_LOCK = 1 ∧ e.get F.FLS_DMAP_SEL = 0 ∧
        e.get F.FLS_DBASE_BASE = (slotBase sl + hdrFld h 32 4) % 2 ^ 32 ∧ e.get F.FLS_DMAP_SIZE = hdrFld h 36 4 % 2 ^ 25 ∧
        e.get F.STW_WDTLEFT_MS = s.dev.get F.STW_WDT_PERIOD % 65536 ∧ e.fls.start = slotBase sl)) ∧
    (s.dev.candidates.find? (fun k => s.dev.imageOk (slotBase k)) = none →
      (s.dev.stw.rom = .busy → s.dev.stw.failed = false → s.dev.fuse.life ≠ .blank →
        Ends s (exec .bootImageSearch s) fun e => e = { s.dev with stw := { s.dev.stw with failed := true } }) ∧
      (s.dev.stw.rom = .retrying → Ends s (exec .bootSearchRetry s) fun e => e = { s.dev with stw := { s.dev.stw with failed := false } })) ∧
    (s.dev.stw.rom ≠ .retrying → Ends s (exec .bootSearchRetry s) fun e => e = s.dev) ∧
    (s.dev.stw.rom ≠ .busy ∨ s.dev.stw.failed = false → Ends s (exec .bootNoImage s) fun e => e = s.dev) ∧
    (s.dev.stw.rom = .busy → s.dev.stw.failed = true →
      (s.dev.code = 1 → s.dev.is F.GLB_CTRL_LOCK = true → s.dev.is F.GLB_CTRL_T0HOST = false → Ends s (exec .bootNoImage s) fun e =>
        e.stw.rom = .serving ∧ e.stw.failed = false ∧ e.get F.STW_BOOT_STATUS = 2 ∧
        (s.dev.is F.FLS_CTRL_WLOCK = false → e.get F.FLS_WMAP_SEL = 0 ∧ e.get F.FLS_WMAP_SIZE = 0x1000000 ∧ e.get F.FLS_WBASE_BASE = 0)) ∧
      (s.dev.code = 1 → s.dev.is F.GLB_CTRL_LOCK = false → s.dev.get F.GLB_CTRL_LOCK = 0 → Ends s (exec .bootNoImage s) fun e =>
        e.stw.rom = .serving ∧ e.is F.GLB_CTRL_LOCK = true) ∧
      (s.dev.code ≠ 1 ∨ (s.dev.is F.GLB_CTRL_LOCK = true ∧ s.dev.is F.GLB_CTRL_T0HOST = true) → Ends s (exec .bootNoImage s) fun e =>
        e.stw.rom = .retrying ∧ e.get F.STW_BOOT_STATUS = 2 ∧ s.dev.Only { e with stw := s.dev.stw } [F.STW_BOOT_STATUS])) ∧
    (∀ count : Word64,
      (s.dev.stw.rom ≠ .warm → Ends s (exec (.bootWarm count) s) fun e => e = s.dev) ∧
      (s.dev.stw.rom = .warm → ∀ t n, t = (s.dev.edgesTo count.toNat).xt.count →
        n = (if (match s.dev.stw.lastWarm with | none => false | some k => decide (t - k ≤ 60 * 24000000)) then
          satInc 255 (s.dev.get F.STW_BOOT_WARMCNT) % 256 else 1) → Ends s (exec (.bootWarm count) s) fun e =>
        e.xt.count = t ∧ e.almCnt = (s.dev.edgesTo count.toNat).almCnt ∧ e.get F.STW_BOOT_WARM = 1 ∧ e.get F.STW_BOOT_WARMCNT = n ∧ e.stw.lastWarm = some t ∧
        (8 ≤ n → e.stw.rom = .busy ∧ e.stw.failed = true) ∧
        (n < 8 → s.dev.is F.FLS_CTRL_LOCK = false → e.stw.rom = .busy ∧ e.stw.failed = false) ∧
        (n < 8 → s.dev.is F.FLS_CTRL_LOCK = true → s.dev.imageOk s.dev.fls.start = true → e.stw.rom = .image ∧ e.get F.STW_BOOT_STATUS = 1) ∧
        (n < 8 → s.dev.is F.FLS_CTRL_LOCK = true → s.dev.imageOk s.dev.fls.start = false → e.stw.rom = .busy ∧ e.stw.failed = true))) ∧
    (∀ (d : Dev) (c : Nat), d.xt.count < 2 ^ 64 → c < 2 ^ 64 → (d.edgesTo c).xt.count = max d.xt.count c) ∧
    (∀ (a n x out off : Word),
      (s.dev.stw.rom ≠ .image → ∀ c ∈ [Instr.romver, .crc32 a n x, .sha256 a n out, .p256verify a n x, .imagecheck off, .romRestart],
        Ends s (exec c s) fun e => e = s.dev) ∧
      (s.dev.stw.rom = .image →
        (Ends s (exec .romver s) fun e => e = s.dev.emit .rom 0 [0, Config.romVersion.toNat] []) ∧
        (s.dev.romPlace a.toNat n.toNat = none → Ends s (exec (.crc32 a n x) s) fun e => e = s.dev.emit .rom 1 [statusCode .eRange] []) ∧
        (∀ m p, s.dev.romPlace a.toNat n.toNat = some (m, p) → 1 < m → Ends s (exec (.crc32 a n x) s) fun e =>
          e = s.dev.emit .rom 1 [0, crcFrom x.toNat (s.dev.windowBytes (m - 2) p n.toNat)] []) ∧
        (∀ p l d', s.dev.romPlace a.toNat n.toNat = some (1, p) → s.dev.romRead 1 p n.toNat = (d', some l) → Ends s (exec (.crc32 a n x) s) fun e =>
          e = d'.emit .rom 1 [0, crcFrom x.toNat l] []) ∧
        (s.dev.romPlace out.toNat 32 = none → Ends s (exec (.sha256 a n out) s) fun e => e = s.dev.emit .rom 2 [statusCode .eRange] []) ∧
        (∀ m p q l d', s.dev.romPlace a.toNat n.toNat = some (m, p) → s.dev.romRead m p n.toNat = (d', some l) → s.dev.romPlace out.toNat 32 = some (1, q) →
          d'.romPlace out.toNat 32 = some (1, q) → Ends s (exec (.sha256 a n out) s) fun e =>
            e = (d'.romStore 1 q (fours (sha256 l))).emit .rom 2 [0] []) ∧
        (∀ p q r i j k, s.dev.romPlace a.toNat 32 = some (i, p) → s.dev.romPlace n.toNat 64 = some (j, q) → s.dev.romPlace x.toNat 64 = some (k, r) →
          1 < i → 1 < j → 1 < k → Ends s (exec (.p256verify a n x) s) fun e => e = s.dev.emit .rom 3
            [if signed (s.dev.windowBytes (i - 2) p 32) (s.dev.windowBytes (j - 2) q 64) (s.dev.windowBytes (k - 2) r 64) then 0 else statusCode .eField] []) ∧
        (Ends s (exec (.imagecheck off) s) fun e => e = if s.dev.imageOk off.toNat then
          s.dev.emit .rom 4 [0, hdrFld (s.dev.flashBytes 0 off.toNat 16) 12 4] [] else s.dev.emit .rom 4 [statusCode .eField] []) ∧
        (Ends s (exec .romRestart s) fun e => e = s.dev.watchdogReset)))

/-- The watchdog: a kick starts its count again; it warns and expires only while an image runs outside DOZE; its reset, which RESTART takes
too, restarts the core, empties the cache, wipes steward SRAM, stops the charger and ends what the steward had under way, while WDT keeps its settings (R83,
R136, R506, R514, R515, R520, Table 03.6).
Where the spec leaves a reading open this follows the model's own: log entries 3, 65. -/
def Obligations.StewardWatchdog : Prop :=
  (∀ d : Dev, let e := d.watchdogReset
    e.stw.rom = .warm ∧ e.stw.icache = [] ∧ e.stw.claimed = [] ∧ e.stw.latch = 0 ∧ e.ecc.sram = [] ∧ e.ecc.held = [] ∧ e.fls.reads = [] ∧
    e.get F.STW_CTRL_LOCK = d.get F.STW_CTRL_LOCK % 2 ∧ e.get F.STW_WDT_EN = d.get F.STW_WDT_EN % 2 ∧ e.get F.STW_WDT_PERIOD = d.get F.STW_WDT_PERIOD % 65536 ∧
    e.get F.STW_WDTLEFT_MS = d.get F.STW_WDT_PERIOD % 65536 ∧ e.get F.STW_BOOT_WARMCNT = d.get F.STW_BOOT_WARMCNT % 256 ∧
    e.get F.STW_MBCMD_BUSY = 0 ∧ e.get F.STW_MBMSG_BUSY = 0 ∧ e.is F.YOK_MTXCMD_BUSY = false ∧
    (d.is F.STW_MBCMD_BUSY = true → e.get F.STW_MBCMD_STATUS = statusCode .eFlushed ∧ e.get F.STW_INT_MBREPLY = 1) ∧
    (d.is F.STW_MBCMD_BUSY = false → e.get F.STW_INT_MBREPLY = 0) ∧
    e.pack.dead = true ∧ e.pack.sess = false ∧ (d.get F.SUP_STAT_STAGE = 3 → e.pow.s3Lost = true)) ∧
  ∀ s : State, s.dev.up = true →
    (Ends s (exec .stwWdtKick s) fun e => e.get F.STW_WDTLEFT_MS = s.dev.get F.STW_WDT_PERIOD % 65536 ∧ e.stw = { s.dev.stw with period := s.dev.get F.STW_WDT_PERIOD } ∧
      s.dev.Only { e with stw := s.dev.stw } [F.STW_WDTLEFT_MS]) ∧
    (∀ runs : Prop, (runs ↔ s.dev.is F.STW_WDT_EN = true ∧ s.dev.pow.state = .run ∧ s.dev.stw.rom = .image) →
      (runs → s.dev.get F.STW_WDT_WARN ≠ 0 → Ends s (exec .stwWdtWarn s) fun e => e.get F.STW_INT_WDTWARN = 1 ∧ s.dev.Only e [F.STW_INT_WDTWARN]) ∧
      (¬ runs ∨ s.dev.get F.STW_WDT_WARN = 0 → Ends s (exec .stwWdtWarn s) fun e => e = s.dev) ∧
      (runs → Ends s (exec .stwWdtExpiry s) fun e => e = (s.dev.oweFault 0x245 55).watchdogReset) ∧
      (¬ runs → Ends s (exec .stwWdtExpiry s) fun e => e = s.dev)) ∧
    (∀ w : Word,
      (setsReserved R.STW_CTRL (withBit w 0) = false → Ends s (exec (.stwRestart w) s) fun e => ∃ x : Dev, e = x.watchdogReset ∧
        s.dev.Only { x with stw := s.dev.stw } [F.STW_CTRL_LOCK, F.STW_CTRL_ICINV, F.STW_CTRL_RESTART]) ∧
      (setsReserved R.STW_CTRL (withBit w 1) = false → bits w.toNat 0 1 = 0 → Ends s (exec (.stwIcinv w) s) fun e =>
        e.stw = { s.dev.stw with icache := [] } ∧ e.get F.STW_CTRL_ICINV = 0 ∧
        s.dev.Only { e with stw := s.dev.stw } [F.STW_CTRL_LOCK, F.STW_CTRL_ICINV, F.STW_CTRL_RESTART]))

/-- The interrupt controller, the machine timer and the mailbox: a claim read answers the qualifying source of highest priority, lowest number on a
tie, and claims it until its completion is written; the mailbox passes a command to the steward, its reply back, and messages the other
way, each with its owner and its BUSY; boot ROM serves IDENT, FLASHERASE, FLASHWRITE and RESTART while it serves (R509, R511, R513, R516, R517, R586).
Where the spec leaves a reading open this follows the model's own: log entry 66. -/
def Obligations.StewardInterruptsAndMailbox : Prop :=
  (∀ d : Dev,
    (d.bestSource 48 ≠ 0 → d.bestSource 48 < 48 ∧ d.srcQualifies (d.bestSource 48) = true ∧ ∀ m < 48, d.srcQualifies m = true →
      d.get (F.STW_ICPRIO_PRIO m) ≤ d.get (F.STW_ICPRIO_PRIO (d.bestSource 48)) ∧
      (d.get (F.STW_ICPRIO_PRIO m) = d.get (F.STW_ICPRIO_PRIO (d.bestSource 48)) → d.bestSource 48 ≤ m)) ∧
    (d.bestSource 48 = 0 → ∀ m < 48, d.srcQualifies m = false)) ∧
  ∀ s : State, s.dev.up = true →
    (Ends s (exec .stwIcclaimRead s) fun e => e.out = ⟨.readData, 0, [s.dev.bestSource 48], []⟩ :: s.dev.out ∧
      (s.dev.bestSource 48 = 0 → e.stw = s.dev.stw) ∧ (s.dev.bestSource 48 ≠ 0 → e.stw.claimed = s.dev.bestSource 48 :: s.dev.stw.claimed ∧
        e.srcQualifies (s.dev.bestSource 48) = false) ∧ e = { s.dev with out := e.out, stw := e.stw }) ∧
    (∀ w : Word, setsReserved R.STW_ICCLAIM w = false → Ends s (exec (.stwIcclaimComplete w) s) fun e =>
      if s.dev.stw.claimed.contains (bits w.toNat 0 6) = false then RecordedGlb s.dev e 0x16210 .eState
      else e.stw = { s.dev.stw with claimed := s.dev.stw.claimed.filter (· != bits w.toNat 0 6) } ∧ s.dev.Only { e with stw := s.dev.stw } [F.STW_ICCLAIM_SRC]) ∧
    (Ends s (exec .stwMtimeMatch s) fun e => e = s.dev.edgesTo s.dev.mtimecmp ∧
      (s.dev.xt.count < 2 ^ 64 → s.dev.mtimecmp < 2 ^ 64 → e.xt.count = max s.dev.xt.count s.dev.mtimecmp ∧ e.mtip = true)) ∧
    (∀ (who : Fin 2) (w : Word) (len : Nat), len = bits w.toNat 8 5 →
      (setsReserved R.STW_MBCMD (withBit w 31) = false → Ends s (exec (.stwMbcmdGo who w) s) fun e =>
        if len ≠ s.dev.get F.STW_MBCMD_LEN ∧ 16 < len then RecordedGlb s.dev.rouse e 0x16300 .eRange
        else if who.val = 0 then RecordedGlb s.dev.rouse e 0x16300 .eOwner
        else if s.dev.is F.STW_MBCMD_BUSY = true then RecordedGlb s.dev.rouse e 0x16300 .eBusy
        else e.get F.STW_MBCMD_BUSY = 1 ∧ e.get F.STW_MBCMD_GO = 0 ∧ e.get F.STW_MBCMD_LEN = len ∧ e.get F.STW_MBCMD_OPCODE = bits w.toNat 0 8 ∧
          e.get F.STW_INT_MBCMD = 1 ∧ s.dev.rouse.Only e [F.STW_MBCMD_BUSY, F.STW_MBCMD_GO, F.STW_MBCMD_LEN, F.STW_MBCMD_OPCODE, F.STW_INT_MBCMD]) ∧
      (setsReserved R.STW_MBREPLY (withBit w 31) = false → Ends s (exec (.stwMbReply who w) s) fun e =>
        if len ≠ s.dev.get F.STW_MBREPLY_LEN ∧ 16 < len then RecordedGlb s.dev.rouse e 0x16304 .eRange
        else if who.val = 1 then RecordedGlb s.dev.rouse e 0x16304 .eOwner
        else if s.dev.is F.STW_MBCMD_BUSY = false then RecordedGlb s.dev.rouse e 0x16304 .eState
        else e.get F.STW_MBCMD_BUSY = 0 ∧ e.get F.STW_MBCMD_STATUS = bits w.toNat 16 8 ∧ e.get F.STW_MBCMD_LEN = len ∧ e.get F.STW_MBREPLY_DONE = 0 ∧
          e.get F.STW_INT_MBREPLY = 1 ∧ s.dev.rouse.Told e [F.STW_MBCMD_BUSY, F.STW_MBCMD_STATUS, F.STW_MBCMD_LEN, F.STW_MBREPLY_DONE, F.STW_MBREPLY_STATUS,
            F.STW_MBREPLY_LEN, F.STW_INT_MBREPLY]) ∧
      (setsReserved R.STW_MBMSG (withBit w 31) = false → bits w.toNat 29 1 = 0 → Ends s (exec (.stwMbMsg who w) s) fun e =>
        if len ≠ s.dev.get F.STW_MBMSG_LEN ∧ 16 < len then RecordedGlb s.dev.rouse e 0x16308 .eRange
        else if who.val = 1 then RecordedGlb s.dev.rouse e 0x16308 .eOwner
        else if s.dev.is F.STW_MBMSG_BUSY = true then RecordedGlb s.dev.rouse e 0x16308 .eBusy
        else e.get F.STW_MBMSG_BUSY = 1 ∧ e.get F.STW_MBMSG_LEN = len ∧ e.get F.STW_MBMSG_OPCODE = bits w.toNat 0 8 ∧ e.get F.STW_INT_MBMSG = 1 ∧
          s.dev.rouse.Told e [F.STW_MBMSG_BUSY, F.STW_MBMSG_GO, F.STW_MBMSG_ACK, F.STW_MBMSG_LEN, F.STW_MBMSG_OPCODE, F.STW_INT_MBMSG]) ∧
      (setsReserved R.STW_MBMSG (withBit w 29) = false → bits w.toNat 31 1 = 0 → Ends s (exec (.stwMbmsgAck who w) s) fun e =>
        if len ≠ s.dev.get F.STW_MBMSG_LEN ∧ 16 < len then RecordedGlb s.dev.rouse e 0x16308 .eRange
        else if who.val = 0 then RecordedGlb s.dev.rouse e 0x16308 .eOwner
        else if s.dev.is F.STW_MBMSG_BUSY = false then RecordedGlb s.dev.rouse e 0x16308 .eState
        else e.get F.STW_MBMSG_BUSY = 0 ∧ e.get F.STW_MBMSG_ACK = 0 ∧ e.get F.STW_INT_MBACK = 1 ∧
          s.dev.rouse.Only e [F.STW_MBMSG_BUSY, F.STW_MBMSG_GO, F.STW_MBMSG_ACK, F.STW_MBMSG_LEN, F.STW_MBMSG_OPCODE, F.STW_INT_MBACK])) ∧
    (∀ op, op = s.dev.get F.STW_MBCMD_OPCODE → ∀ on : Prop, (on ↔ s.dev.stw.rom = .serving ∧ s.dev.is F.STW_MBCMD_BUSY = true ∧ s.dev.stw.flashCmd = none) →
      (∀ k c, (k, c) ∈ [(1, Instr.ident), (2, .flasherase), (3, .flashwrite), (4, .mbRestart)] → ¬ on ∨ (k = 1 ∧ 2 ≤ op ∧ op ≤ 4) ∨ (k ≠ 1 ∧ op ≠ k) →
        Ends s (exec c s) fun e => e = s.dev) ∧
      (on → op = 1 → Ends s (exec .ident s) fun e => e.get F.STW_MBCMD_BUSY = 0 ∧ e.get F.STW_MBCMD_STATUS = 0 ∧ e.get F.STW_MBCMD_LEN = 3 ∧
        e.get F.STW_INT_MBREPLY = 1 ∧ e.get (F.STW_MBDATA_DATA 0) = s.dev.regWord R.STW_BOOT % 2 ^ 32 ∧
        e.get (F.STW_MBDATA_DATA 1) = s.dev.regWord R.STW_BOOTVER % 2 ^ 32 ∧ e.get (F.STW_MBDATA_DATA 2) = s.dev.regWord R.GLB_ID % 2 ^ 32) ∧
      (on → op = 0 ∨ 4 < op → Ends s (exec .ident s) fun e => e = s.dev.mbReply (statusCode .eField) 0) ∧
      (on → op = 2 → Ends s (exec .flasherase s) fun e =>
        let a := s.dev.get (F.STW_MBDATA_DATA 0)
        if s.dev.bankSector 0 a = true then e = s.dev.mbReply (statusCode .eLocked) 0
        else e.stw.flashCmd = some (1, false) ∧ e.get F.STW_MBCMD_BUSY = 1 ∧ ∃ j ∈ e.fls.jobs, j.sel = 0 ∧ j.addr = sectorOf a ∧ j.erase = true ∧ j.who = 5) ∧
      (on → op = 3 → Ends s (exec .flashwrite s) fun e =>
        let a := s.dev.get (F.STW_MBDATA_DATA 0)
        let k := s.dev.get F.STW_MBCMD_LEN - 1
        if a % 4 ≠ 0 then e = s.dev.mbReply (statusCode .eAlign) 0
        else if s.dev.windowReaches a (4 * k) = false ∨ (∃ i < k, s.dev.bankByte (a - s.dev.get F.FLS_WBASE_BASE + 4 * i) = true) then
          e = s.dev.mbReply (statusCode .eLocked) 0
        else if k = 0 then e = s.dev.mbReply 0 0
        else e.get F.STW_MBCMD_BUSY = 1 ∧ ∃ j ∈ e.fls.jobs, j.sel = 0 ∧ j.addr = a ∧ j.erase = false ∧ j.who = 5) ∧
      (on → op = 4 → Ends s (exec .mbRestart s) fun e => e = (s.dev.mbReply 0 0).watchdogReset))

/-! ### Life cycle (chapter 19) -/

/-- Requests: LCS_REQ is checked for its key, the lock, a warning, the transition, the image-key digest, what is busy, and the attempts and cycles
left; a passing request blows fuses, an unlock only with a valid token; a state that the readback shows takes the life-cycle change reset,
and one that it does not fails (R531 to R535, R538, R539, R542, R544).
Where the spec leaves a reading open this follows the model's own: log entries 4, 67. -/
def Obligations.LifeCycleRequests : Prop :=
  ∀ s : State, s.dev.up = true →
    (∀ (w : Word) (t : Nat) (c : Instr), (t, c) ∈ [(1, Instr.lcsReqDevelop w), (2, .lcsReqDeployed w), (3, .lcsReqReclaim w), (4, .lcsReqVoid w)] →
      setsReserved R.LCS_REQ (reqWord w t) = false → Ends s (exec c s) fun e =>
        if bits w.toNat 8 8 ≠ 0xA5 then RecordedGlb s.dev e 0x17020 .eField
        else if s.dev.is F.LCS_CTRL_LOCK = true ∨ (s.dev.fuse.life = .reclaim ∧ t = 1 ∧ 4 ≤ s.dev.key.fails) then RecordedGlb s.dev e 0x17020 .eLocked
        else if s.dev.is F.SUP_STAT_WARN = true ∨ mayPass s.dev.fuse.life (lifeOf t) = false ∨
          (s.dev.fuse.life = .develop ∧ t = 2 ∧ (s.dev.fuseField 1).prog = false) then RecordedGlb s.dev e 0x17020 .eState
        else if s.dev.lcsBusy = true then RecordedGlb s.dev e 0x17020 .eBusy
        else if s.dev.fuse.life = .reclaim ∧ t = 1 ∧ 3 ≤ s.dev.fuse.cycle then RecordedGlb s.dev e 0x17020 .eNores
        else ∃ x : Dev, x.get F.LCS_REQ_KEY = 0xA5 ∧ x.get F.LCS_REQ_TARGET = t ∧ x.get F.LCS_REQ_GO = 0 ∧
          s.dev.Only x [F.LCS_REQ_KEY, F.LCS_REQ_TARGET, F.LCS_REQ_GO] ∧
          (t ≠ 1 → e.get F.LCS_REQ_BUSY = 1 ∧ e.key = { s.dev.key with trans := some (lifeOf t) } ∧ x.Only { e with key := x.key } [F.LCS_REQ_BUSY]) ∧
          (t = 1 → ∀ r, r = x.memBytes 1 1 (x.get F.LCS_UNLOCK_ADDR) 192 →
            (r.2.2 = none → r.1.tokenValid r.2.1 = true → e.get F.LCS_REQ_BUSY = 1 ∧ e.key.trans = some .develop) ∧
            (r.2.2 ≠ none ∨ r.1.tokenValid r.2.1 = false → e.get F.LCS_REQ_BUSY = 0 ∧ e.get F.LCS_REQ_STATUS = statusCode .eField ∧
              e.get F.LCS_INT_REQFAIL = 1 ∧ e.key.trans = s.dev.key.trans ∧ e.key.fails = s.dev.key.fails + 1))) ∧
    (Ends s (exec .blankToDevelop s) fun e =>
      if s.dev.fuse.life = .blank ∧ s.dev.stw.rom = .busy ∧ s.dev.lcsBusy = false ∧ s.dev.is F.SUP_STAT_WARN = false then
        e.get F.LCS_REQ_BUSY = 1 ∧ e.key = { s.dev.key with trans := some .develop } ∧ s.dev.Only { e with key := s.dev.key } [F.LCS_REQ_BUSY]
      else e = s.dev) ∧
    (∀ ok sag : Bool, s.dev.key.trans = none → Ends s (exec (.lcsFusesBlown ok sag) s) fun e => e = s.dev) ∧
    (∀ (t : Life) (sag : Bool), s.dev.key.trans = some t →
      (Ends s (exec (.lcsFusesBlown true sag) s) fun e => e.fuse.life = t ∧ e.pow.state = .railUp ∧ e.pow.railEn = true ∧
        e.get F.SUP_RSTCAUSE_LCS = 1 ∧
        e.fuse.cycle = (if s.dev.fuse.life = .reclaim ∧ t = .develop then s.dev.fuse.cycle + 1 else s.dev.fuse.cycle)) ∧
      (Ends s (exec (.lcsFusesBlown false sag) s) fun e => e.key.trans = none ∧ e.fuse = s.dev.fuse ∧ e.get F.LCS_REQ_BUSY = 0 ∧
        e.get F.LCS_REQ_STATUS = statusCode .eInternal ∧ e.get F.LCS_INT_REQFAIL = 1))

/-- Provisioning and derivation: LCS_PROG is checked for the lock, a warning, the state that lists its field, what is programmed, the floor and its
slots; its end leaves the field programmed, or partly so; a derivation gives the key of DSK and the label, whose top byte is not 0xFF
(R526, R528, R529, R538, R539).
Where the spec leaves a reading open this follows the model's own: log entries 59, 67. -/
def Obligations.LifeCycleFields : Prop :=
  ∀ s : State, s.dev.up = true →
    (∀ (w : Word) (f : Nat) (c : Instr), (f, c) ∈ [(1, Instr.imgdig w), (2, .unldig w), (3, .kdev w), (4, .kprod w), (5, .floor w)] →
      setsReserved R.LCS_PROG (progWord w f) = false → Ends s (exec c s) fun e =>
        if f = 5 ∧ mapGet 0 s.dev.key.buf 0 ≤ s.dev.versionFloor then RecordedGlb s.dev e 0x17040 .eRange
        else if s.dev.is F.LCS_CTRL_LOCK = true then RecordedGlb s.dev e 0x17040 .eLocked
        else if s.dev.is F.SUP_STAT_WARN = true ∨ s.dev.fieldOpen f = false ∨ (s.dev.fuseField f).prog = true then RecordedGlb s.dev e 0x17040 .eState
        else if s.dev.lcsBusy = true then RecordedGlb s.dev e 0x17040 .eBusy
        else if f = 5 ∧ 16 ≤ s.dev.fuse.floors.length then RecordedGlb s.dev e 0x17040 .eNores
        else e.get F.LCS_PROG_BUSY = 1 ∧ e.get F.LCS_PROG_GO = 0 ∧ e.get F.LCS_PROG_FIELD = f ∧
          e.key = { s.dev.key with prog := some (f, if f = 5 then s.dev.keyBytes.take 4 else s.dev.keyBytes) } ∧
          s.dev.Only { e with key := s.dev.key } [F.LCS_PROG_BUSY, F.LCS_PROG_GO, F.LCS_PROG_FIELD]) ∧
    (∀ ok : Bool, s.dev.key.prog = none → Ends s (exec (.lcsProgDone ok) s) fun e => e = s.dev) ∧
    (∀ f v, s.dev.key.prog = some (f, v) →
      (Ends s (exec (.lcsProgDone true) s) fun e => e.key.prog = none ∧ e.get F.LCS_PROG_BUSY = 0 ∧ e.get F.LCS_PROG_STATUS = 0 ∧ e.get F.LCS_INT_PROGDONE = 1 ∧
        e.fuse.life = s.dev.fuse.life ∧ e.fuse.cycle = s.dev.fuse.cycle ∧
        (1 ≤ f → f ≤ 4 → e.fuseField f = { prog := true, partly := false, val := v } ∧ e.fuse.floors = s.dev.fuse.floors) ∧
        (4 < f → e.fuse.floors = s.dev.fuse.floors ++ [leNat (v.take 4)]) ∧
        (∀ g, 1 ≤ g → g ≤ 4 → g ≠ f → e.fuseField g = s.dev.fuseField g)) ∧
      (Ends s (exec (.lcsProgDone false) s) fun e => e.key.prog = none ∧ e.get F.LCS_PROG_BUSY = 0 ∧ e.get F.LCS_PROG_STATUS = statusCode .eInternal ∧
        e.get F.LCS_INT_PROGDONE = 1 ∧ (1 ≤ f → f ≤ 4 → (e.fuseField f).prog = true ∧ (e.fuseField f).partly = true) ∧
        (∀ g, 1 ≤ g → g ≤ 4 → g ≠ f → e.fuseField g = s.dev.fuseField g))) ∧
    (∀ w : Word, setsReserved R.LCS_DERIVE (withBit w 31) = false → Ends s (exec (.lcsDerive w) s) fun e =>
      if bits (s.dev.get (F.LCS_LABEL_LABEL 1)) 24 8 = 0xFF then RecordedGlb s.dev e 0x17088 .eField
      else if s.dev.is F.LCS_STAT_DSKOK = false then RecordedGlb s.dev e 0x17088 .eState
      else if s.dev.is F.LCS_DERIVE_BUSY = true then RecordedGlb s.dev e 0x17088 .eBusy
      else ∃ x : Dev, s.dev.Only x [F.LCS_DERIVE_GO] ∧ x.get F.LCS_DERIVE_GO = 0 ∧
        e = (x.putBytes F.LCS_DKEY_KEY 0 (hmac256 s.dev.key.dsk s.dev.label)).lcsEvent 2 ∧ e.get F.LCS_INT_DERIVEDONE = 1)
end

