-- ==== Sys2Proof/Laws/Maps.lean ====
section
/-!
SUPPORT. The sparse maps: what a key reads as after an update, and that every update keeps the canonical form.
-/
namespace Sys2Proof.Machine

open Sys2Proof

variable {α : Type}

/-! ### Reading after an update -/

@[simp] theorem mapFind_erase_same (m : Map α) (k : Nat) : mapFind (mapErase m k) k = none := by
  induction m with
  | nil => rfl
  | cons e t ih => obtain ⟨j, v⟩ := e; by_cases h : j = k <;> simp [mapErase, mapFind, h, ih]

theorem mapFind_erase_ne (m : Map α) {j k : Nat} (h : j ≠ k) : mapFind (mapErase m j) k = mapFind m k := by
  induction m with
  | nil => rfl
  | cons e t ih =>
    obtain ⟨i, v⟩ := e
    by_cases hi : i = j
    · subst hi; simp [mapErase, mapFind, h, ih]
    · simp [mapErase, mapFind, hi, ih]

theorem mapFind_insert_ne (m : Map α) {j k : Nat} (v : α) (h : j ≠ k) : mapFind (mapInsert m j v) k = mapFind m k := by
  induction m with
  | nil => simp [mapInsert, mapFind, h]
  | cons e t ih =>
    obtain ⟨i, w⟩ := e
    by_cases hi : j < i
    · simp [mapInsert, mapFind, hi, h]
    · simp [mapInsert, mapFind, hi, ih]

theorem mapFind_insert_same (m : Map α) (k : Nat) (v : α) (h : mapFind m k = none) : mapFind (mapInsert m k v) k = some v := by
  induction m with
  | nil => simp [mapInsert, mapFind]
  | cons e t ih =>
    obtain ⟨i, w⟩ := e
    have hi : i ≠ k := by rintro rfl; simp [mapFind] at h
    by_cases hk : k < i
    · simp [mapInsert, mapFind, hk]
    · simp only [mapFind, hi, if_false] at h
      simp [mapInsert, mapFind, hk, hi, ih h]

variable [DecidableEq α] {dflt : α}

/-- A key reads as what was written to it. -/
@[simp] theorem mapGet_put_same (m : Map α) (k : Nat) (v : α) : mapGet dflt (mapPut dflt m k v) k = v := by
  by_cases h : v = dflt
  · simp [mapGet, mapPut, h]
  · simp [mapGet, mapPut, h, mapFind_insert_same]

/-- A write leaves every other key alone. -/
theorem mapGet_put_ne (m : Map α) {e : α} {j k : Nat} (v : α) (h : j ≠ k) : mapGet e (mapPut dflt m j v) k = mapGet e m k := by
  by_cases hv : v = dflt
  · simp [mapGet, mapPut, hv, mapFind_erase_ne m h]
  · simp [mapGet, mapPut, hv, mapFind_insert_ne _ v h, mapFind_erase_ne m h]

/-! ### The canonical form -/

/-- The canonical form as a property: keys rise strictly, and no entry holds the default. -/
theorem mapWf_iff (m : Map α) :
    mapWf dflt m = true ↔ (m.Pairwise fun a b => a.1 < b.1) ∧ ∀ e ∈ m, e.2 ≠ dflt := by
  induction m with
  | nil => simp [mapWf]
  | cons e t ih =>
    obtain ⟨j, v⟩ := e
    cases t with
    | nil => simp [mapWf]
    | cons e' t' =>
      obtain ⟨k, w⟩ := e'
      simp only [mapWf, Bool.and_eq_true, decide_eq_true_eq, ih]
      constructor
      · rintro ⟨⟨hv, hjk⟩, hp, hd⟩
        refine ⟨List.pairwise_cons.mpr ⟨?_, hp⟩, ?_⟩
        · intro a ha
          rcases List.mem_cons.mp ha with rfl | ha
          · exact hjk
          · exact lt_trans hjk ((List.pairwise_cons.mp hp).1 a ha)
        · intro a ha
          rcases List.mem_cons.mp ha with rfl | ha
          · exact hv
          · exact hd a ha
      · rintro ⟨hp, hd⟩
        exact ⟨⟨hd (j, v) (by simp), (List.pairwise_cons.mp hp).1 (k, w) (by simp)⟩, (List.pairwise_cons.mp hp).2,
          fun a ha => hd a (by simp [ha])⟩

omit [DecidableEq α] in
theorem mapErase_eq_filter (m : Map α) (k : Nat) : mapErase m k = m.filter fun e => decide (e.1 ≠ k) := by
  induction m with
  | nil => rfl
  | cons e t ih => obtain ⟨j, v⟩ := e; by_cases h : j = k <;> simp [mapErase, h, ih]

/-- A filter keeps the canonical form. -/
theorem mapWf_filter (m : Map α) (p : Nat × α → Bool) (h : mapWf dflt m = true) : mapWf dflt (m.filter p) = true := by
  rw [mapWf_iff] at *
  exact ⟨h.1.filter p, fun e he => h.2 e (List.mem_of_mem_filter he)⟩

theorem mapWf_erase (m : Map α) (k : Nat) (h : mapWf dflt m = true) : mapWf dflt (mapErase m k) = true := by
  rw [mapErase_eq_filter]; exact mapWf_filter m _ h

theorem mapWf_dropRange (m : Map α) (lo hi : Nat) (h : mapWf dflt m = true) : mapWf dflt (mapDropRange m lo hi) = true :=
  mapWf_filter m _ h

omit [DecidableEq α] in
theorem mem_mapInsert (m : Map α) (k : Nat) (v : α) (e : Nat × α) : e ∈ mapInsert m k v ↔ e = (k, v) ∨ e ∈ m := by
  induction m with
  | nil => simp [mapInsert]
  | cons x t ih =>
    obtain ⟨j, w⟩ := x
    by_cases h : k < j
    · simp [mapInsert, h]
    · simp only [mapInsert, h, if_false, List.mem_cons, ih]; tauto

omit [DecidableEq α] in
theorem pairwise_mapInsert (m : Map α) (k : Nat) (v : α) (hm : m.Pairwise fun a b => a.1 < b.1) (hk : ∀ e ∈ m, e.1 ≠ k) :
    (mapInsert m k v).Pairwise fun a b => a.1 < b.1 := by
  induction m with
  | nil => simp [mapInsert]
  | cons x t ih =>
    obtain ⟨j, w⟩ := x
    obtain ⟨hx, ht⟩ := List.pairwise_cons.mp hm
    have hj : j ≠ k := hk (j, w) (by simp)
    by_cases h : k < j
    · simp only [mapInsert, h, if_true, List.pairwise_cons]
      refine ⟨?_, hx, ht⟩
      intro a ha
      rcases List.mem_cons.mp ha with rfl | ha
      · exact h
      · exact lt_trans h (hx a ha)
    · simp only [mapInsert, h, if_false, List.pairwise_cons]
      refine ⟨?_, ih ht fun e he => hk e (by simp [he])⟩
      intro a ha
      rcases (mem_mapInsert t k v a).mp ha with rfl | ha
      · simp only; omega
      · exact hx a ha

/-- Every write keeps the canonical form. -/
theorem mapWf_put (m : Map α) (k : Nat) (v : α) (h : mapWf dflt m = true) : mapWf dflt (mapPut dflt m k v) = true := by
  by_cases hv : v = dflt
  · simp only [mapPut, hv, if_true]; exact mapWf_erase m k h
  · simp only [mapPut, hv, if_false]
    have he := (mapWf_iff (dflt := dflt) _).mp (mapWf_erase m k h)
    refine (mapWf_iff _).mpr ⟨pairwise_mapInsert _ k v he.1 ?_, ?_⟩
    · intro e hmem
      rw [mapErase_eq_filter] at hmem
      simpa using (List.mem_filter.mp hmem).2
    · intro e hmem
      rcases (mem_mapInsert _ k v e).mp hmem with rfl | h'
      · exact hv
      · exact he.2 e h'

end Sys2Proof.Machine
end

