-- ==== Sys2Proof/Laws/State.lean ====
section
/-!
SUPPORT. Every field of the device after every plain update of it: the updated field, and that the others stay.
-/
namespace Sys2Proof.Machine

open Sys2Proof

variable (d : Dev)

@[simp] theorem Dev.set_code (f : Fld) (v : Nat) : (d.set f v).code = d.code := rfl
@[simp] theorem Dev.set_cross (f : Fld) (v : Nat) : (d.set f v).cross = d.cross := rfl
@[simp] theorem Dev.set_pow (f : Fld) (v : Nat) : (d.set f v).pow = d.pow := rfl
@[simp] theorem Dev.set_xt (f : Fld) (v : Nat) : (d.set f v).xt = d.xt := rfl
@[simp] theorem Dev.set_lar (f : Fld) (v : Nat) : (d.set f v).lar = d.lar := rfl
@[simp] theorem Dev.set_strm (f : Fld) (v : Nat) : (d.set f v).strm = d.strm := rfl
@[simp] theorem Dev.set_hif (f : Fld) (v : Nat) : (d.set f v).hif = d.hif := rfl
@[simp] theorem Dev.set_flr (f : Fld) (v : Nat) : (d.set f v).flr = d.flr := rfl
@[simp] theorem Dev.set_urec (f : Fld) (v : Nat) : (d.set f v).urec = d.urec := rfl
@[simp] theorem Dev.set_alert (f : Fld) (v : Nat) : (d.set f v).alert = d.alert := rfl
@[simp] theorem Dev.set_out (f : Fld) (v : Nat) : (d.set f v).out = d.out := rfl
@[simp] theorem Dev.set_free (f : Fld) (v : Nat) : (d.set f v).free = d.free := rfl
@[simp] theorem Dev.set_almCnt (f : Fld) (v : Nat) : (d.set f v).almCnt = d.almCnt := rfl
@[simp] theorem Dev.set_alm (f : Fld) (v : Nat) : (d.set f v).alm = d.alm := rfl
@[simp] theorem Dev.set_pd (f : Fld) (v : Nat) : (d.set f v).pd = d.pd := rfl
@[simp] theorem Dev.set_pack (f : Fld) (v : Nat) : (d.set f v).pack = d.pack := rfl
@[simp] theorem Dev.set_rat (f : Fld) (v : Nat) : (d.set f v).rat = d.rat := rfl
@[simp] theorem Dev.set_hub (f : Fld) (v : Nat) : (d.set f v).hub = d.hub := rfl
@[simp] theorem Dev.set_lhe (f : Fld) (v : Nat) : (d.set f v).lhe = d.lhe := rfl
@[simp] theorem Dev.set_tdm (f : Fld) (v : Nat) : (d.set f v).tdm = d.tdm := rfl
@[simp] theorem Dev.set_pllOn (f : Fld) (v : Nat) : (d.set f v).pllOn = d.pllOn := rfl
@[simp] theorem Dev.set_ecc (f : Fld) (v : Nat) : (d.set f v).ecc = d.ecc := rfl
@[simp] theorem Dev.set_hay (f : Fld) (v : Nat) : (d.set f v).hay = d.hay := rfl
@[simp] theorem Dev.set_yok (f : Fld) (v : Nat) : (d.set f v).yok = d.yok := rfl
@[simp] theorem Dev.set_stw (f : Fld) (v : Nat) : (d.set f v).stw = d.stw := rfl
@[simp] theorem Dev.set_flash (f : Fld) (v : Nat) : (d.set f v).flash = d.flash := rfl
@[simp] theorem Dev.set_fls (f : Fld) (v : Nat) : (d.set f v).fls = d.fls := rfl
@[simp] theorem Dev.set_grn (f : Fld) (v : Nat) : (d.set f v).grn = d.grn := rfl
@[simp] theorem Dev.set_fuse (f : Fld) (v : Nat) : (d.set f v).fuse = d.fuse := rfl
@[simp] theorem Dev.set_key (f : Fld) (v : Nat) : (d.set f v).key = d.key := rfl

@[simp] theorem Dev.setB_code (f : Fld) (b : Bool) : (d.setB f b).code = d.code := rfl
@[simp] theorem Dev.setB_cross (f : Fld) (b : Bool) : (d.setB f b).cross = d.cross := rfl
@[simp] theorem Dev.setB_pow (f : Fld) (b : Bool) : (d.setB f b).pow = d.pow := rfl
@[simp] theorem Dev.setB_xt (f : Fld) (b : Bool) : (d.setB f b).xt = d.xt := rfl
@[simp] theorem Dev.setB_lar (f : Fld) (b : Bool) : (d.setB f b).lar = d.lar := rfl
@[simp] theorem Dev.setB_strm (f : Fld) (b : Bool) : (d.setB f b).strm = d.strm := rfl
@[simp] theorem Dev.setB_hif (f : Fld) (b : Bool) : (d.setB f b).hif = d.hif := rfl
@[simp] theorem Dev.setB_flr (f : Fld) (b : Bool) : (d.setB f b).flr = d.flr := rfl
@[simp] theorem Dev.setB_urec (f : Fld) (b : Bool) : (d.setB f b).urec = d.urec := rfl
@[simp] theorem Dev.setB_alert (f : Fld) (b : Bool) : (d.setB f b).alert = d.alert := rfl
@[simp] theorem Dev.setB_out (f : Fld) (b : Bool) : (d.setB f b).out = d.out := rfl
@[simp] theorem Dev.setB_free (f : Fld) (b : Bool) : (d.setB f b).free = d.free := rfl
@[simp] theorem Dev.setB_almCnt (f : Fld) (b : Bool) : (d.setB f b).almCnt = d.almCnt := rfl
@[simp] theorem Dev.setB_alm (f : Fld) (b : Bool) : (d.setB f b).alm = d.alm := rfl
@[simp] theorem Dev.setB_pd (f : Fld) (b : Bool) : (d.setB f b).pd = d.pd := rfl
@[simp] theorem Dev.setB_pack (f : Fld) (b : Bool) : (d.setB f b).pack = d.pack := rfl
@[simp] theorem Dev.setB_rat (f : Fld) (b : Bool) : (d.setB f b).rat = d.rat := rfl
@[simp] theorem Dev.setB_hub (f : Fld) (b : Bool) : (d.setB f b).hub = d.hub := rfl
@[simp] theorem Dev.setB_lhe (f : Fld) (b : Bool) : (d.setB f b).lhe = d.lhe := rfl
@[simp] theorem Dev.setB_tdm (f : Fld) (b : Bool) : (d.setB f b).tdm = d.tdm := rfl
@[simp] theorem Dev.setB_pllOn (f : Fld) (b : Bool) : (d.setB f b).pllOn = d.pllOn := rfl
@[simp] theorem Dev.setB_ecc (f : Fld) (b : Bool) : (d.setB f b).ecc = d.ecc := rfl
@[simp] theorem Dev.setB_hay (f : Fld) (b : Bool) : (d.setB f b).hay = d.hay := rfl
@[simp] theorem Dev.setB_yok (f : Fld) (b : Bool) : (d.setB f b).yok = d.yok := rfl
@[simp] theorem Dev.setB_stw (f : Fld) (b : Bool) : (d.setB f b).stw = d.stw := rfl
@[simp] theorem Dev.setB_flash (f : Fld) (b : Bool) : (d.setB f b).flash = d.flash := rfl
@[simp] theorem Dev.setB_fls (f : Fld) (b : Bool) : (d.setB f b).fls = d.fls := rfl
@[simp] theorem Dev.setB_grn (f : Fld) (b : Bool) : (d.setB f b).grn = d.grn := rfl
@[simp] theorem Dev.setB_fuse (f : Fld) (b : Bool) : (d.setB f b).fuse = d.fuse := rfl
@[simp] theorem Dev.setB_key (f : Fld) (b : Bool) : (d.setB f b).key = d.key := rfl

@[simp] theorem Dev.bump_code (f : Fld) : (d.bump f).code = d.code := rfl
@[simp] theorem Dev.bump_cross (f : Fld) : (d.bump f).cross = d.cross := rfl
@[simp] theorem Dev.bump_pow (f : Fld) : (d.bump f).pow = d.pow := rfl
@[simp] theorem Dev.bump_xt (f : Fld) : (d.bump f).xt = d.xt := rfl
@[simp] theorem Dev.bump_lar (f : Fld) : (d.bump f).lar = d.lar := rfl
@[simp] theorem Dev.bump_strm (f : Fld) : (d.bump f).strm = d.strm := rfl
@[simp] theorem Dev.bump_hif (f : Fld) : (d.bump f).hif = d.hif := rfl
@[simp] theorem Dev.bump_flr (f : Fld) : (d.bump f).flr = d.flr := rfl
@[simp] theorem Dev.bump_urec (f : Fld) : (d.bump f).urec = d.urec := rfl
@[simp] theorem Dev.bump_alert (f : Fld) : (d.bump f).alert = d.alert := rfl
@[simp] theorem Dev.bump_out (f : Fld) : (d.bump f).out = d.out := rfl
@[simp] theorem Dev.bump_free (f : Fld) : (d.bump f).free = d.free := rfl
@[simp] theorem Dev.bump_almCnt (f : Fld) : (d.bump f).almCnt = d.almCnt := rfl
@[simp] theorem Dev.bump_alm (f : Fld) : (d.bump f).alm = d.alm := rfl
@[simp] theorem Dev.bump_pd (f : Fld) : (d.bump f).pd = d.pd := rfl
@[simp] theorem Dev.bump_pack (f : Fld) : (d.bump f).pack = d.pack := rfl
@[simp] theorem Dev.bump_rat (f : Fld) : (d.bump f).rat = d.rat := rfl
@[simp] theorem Dev.bump_hub (f : Fld) : (d.bump f).hub = d.hub := rfl
@[simp] theorem Dev.bump_lhe (f : Fld) : (d.bump f).lhe = d.lhe := rfl
@[simp] theorem Dev.bump_tdm (f : Fld) : (d.bump f).tdm = d.tdm := rfl
@[simp] theorem Dev.bump_pllOn (f : Fld) : (d.bump f).pllOn = d.pllOn := rfl
@[simp] theorem Dev.bump_ecc (f : Fld) : (d.bump f).ecc = d.ecc := rfl
@[simp] theorem Dev.bump_hay (f : Fld) : (d.bump f).hay = d.hay := rfl
@[simp] theorem Dev.bump_yok (f : Fld) : (d.bump f).yok = d.yok := rfl
@[simp] theorem Dev.bump_stw (f : Fld) : (d.bump f).stw = d.stw := rfl
@[simp] theorem Dev.bump_flash (f : Fld) : (d.bump f).flash = d.flash := rfl
@[simp] theorem Dev.bump_fls (f : Fld) : (d.bump f).fls = d.fls := rfl
@[simp] theorem Dev.bump_grn (f : Fld) : (d.bump f).grn = d.grn := rfl
@[simp] theorem Dev.bump_fuse (f : Fld) : (d.bump f).fuse = d.fuse := rfl
@[simp] theorem Dev.bump_key (f : Fld) : (d.bump f).key = d.key := rfl

@[simp] theorem Dev.resetRange_fld (lo hi : Nat) : (d.resetRange lo hi).fld = mapDropRange d.fld (32 * lo) (32 * hi) := rfl
@[simp] theorem Dev.resetRange_code (lo hi : Nat) : (d.resetRange lo hi).code = d.code := rfl
@[simp] theorem Dev.resetRange_cross (lo hi : Nat) : (d.resetRange lo hi).cross = d.cross := rfl
@[simp] theorem Dev.resetRange_pow (lo hi : Nat) : (d.resetRange lo hi).pow = d.pow := rfl
@[simp] theorem Dev.resetRange_xt (lo hi : Nat) : (d.resetRange lo hi).xt = d.xt := rfl
@[simp] theorem Dev.resetRange_lar (lo hi : Nat) : (d.resetRange lo hi).lar = d.lar := rfl
@[simp] theorem Dev.resetRange_strm (lo hi : Nat) : (d.resetRange lo hi).strm = d.strm := rfl
@[simp] theorem Dev.resetRange_hif (lo hi : Nat) : (d.resetRange lo hi).hif = d.hif := rfl
@[simp] theorem Dev.resetRange_flr (lo hi : Nat) : (d.resetRange lo hi).flr = d.flr := rfl
@[simp] theorem Dev.resetRange_urec (lo hi : Nat) : (d.resetRange lo hi).urec = d.urec := rfl
@[simp] theorem Dev.resetRange_alert (lo hi : Nat) : (d.resetRange lo hi).alert = d.alert := rfl
@[simp] theorem Dev.resetRange_out (lo hi : Nat) : (d.resetRange lo hi).out = d.out := rfl
@[simp] theorem Dev.resetRange_free (lo hi : Nat) : (d.resetRange lo hi).free = d.free := rfl
@[simp] theorem Dev.resetRange_almCnt (lo hi : Nat) : (d.resetRange lo hi).almCnt = d.almCnt := rfl
@[simp] theorem Dev.resetRange_alm (lo hi : Nat) : (d.resetRange lo hi).alm = d.alm := rfl
@[simp] theorem Dev.resetRange_pd (lo hi : Nat) : (d.resetRange lo hi).pd = d.pd := rfl
@[simp] theorem Dev.resetRange_pack (lo hi : Nat) : (d.resetRange lo hi).pack = d.pack := rfl
@[simp] theorem Dev.resetRange_rat (lo hi : Nat) : (d.resetRange lo hi).rat = d.rat := rfl
@[simp] theorem Dev.resetRange_hub (lo hi : Nat) : (d.resetRange lo hi).hub = d.hub := rfl
@[simp] theorem Dev.resetRange_lhe (lo hi : Nat) : (d.resetRange lo hi).lhe = d.lhe := rfl
@[simp] theorem Dev.resetRange_tdm (lo hi : Nat) : (d.resetRange lo hi).tdm = d.tdm := rfl
@[simp] theorem Dev.resetRange_pllOn (lo hi : Nat) : (d.resetRange lo hi).pllOn = d.pllOn := rfl
@[simp] theorem Dev.resetRange_ecc (lo hi : Nat) : (d.resetRange lo hi).ecc = d.ecc := rfl
@[simp] theorem Dev.resetRange_hay (lo hi : Nat) : (d.resetRange lo hi).hay = d.hay := rfl
@[simp] theorem Dev.resetRange_yok (lo hi : Nat) : (d.resetRange lo hi).yok = d.yok := rfl
@[simp] theorem Dev.resetRange_stw (lo hi : Nat) : (d.resetRange lo hi).stw = d.stw := rfl
@[simp] theorem Dev.resetRange_flash (lo hi : Nat) : (d.resetRange lo hi).flash = d.flash := rfl
@[simp] theorem Dev.resetRange_fls (lo hi : Nat) : (d.resetRange lo hi).fls = d.fls := rfl
@[simp] theorem Dev.resetRange_grn (lo hi : Nat) : (d.resetRange lo hi).grn = d.grn := rfl
@[simp] theorem Dev.resetRange_fuse (lo hi : Nat) : (d.resetRange lo hi).fuse = d.fuse := rfl
@[simp] theorem Dev.resetRange_key (lo hi : Nat) : (d.resetRange lo hi).key = d.key := rfl

@[simp] theorem Dev.emit_fld (k : OutKind) (u : Nat) (a : List Nat) (l : List Byte) : (d.emit k u a l).fld = d.fld := rfl
@[simp] theorem Dev.emit_code (k : OutKind) (u : Nat) (a : List Nat) (l : List Byte) : (d.emit k u a l).code = d.code := rfl
@[simp] theorem Dev.emit_cross (k : OutKind) (u : Nat) (a : List Nat) (l : List Byte) : (d.emit k u a l).cross = d.cross := rfl
@[simp] theorem Dev.emit_pow (k : OutKind) (u : Nat) (a : List Nat) (l : List Byte) : (d.emit k u a l).pow = d.pow := rfl
@[simp] theorem Dev.emit_xt (k : OutKind) (u : Nat) (a : List Nat) (l : List Byte) : (d.emit k u a l).xt = d.xt := rfl
@[simp] theorem Dev.emit_lar (k : OutKind) (u : Nat) (a : List Nat) (l : List Byte) : (d.emit k u a l).lar = d.lar := rfl
@[simp] theorem Dev.emit_strm (k : OutKind) (u : Nat) (a : List Nat) (l : List Byte) : (d.emit k u a l).strm = d.strm := rfl
@[simp] theorem Dev.emit_hif (k : OutKind) (u : Nat) (a : List Nat) (l : List Byte) : (d.emit k u a l).hif = d.hif := rfl
@[simp] theorem Dev.emit_flr (k : OutKind) (u : Nat) (a : List Nat) (l : List Byte) : (d.emit k u a l).flr = d.flr := rfl
@[simp] theorem Dev.emit_urec (k : OutKind) (u : Nat) (a : List Nat) (l : List Byte) : (d.emit k u a l).urec = d.urec := rfl
@[simp] theorem Dev.emit_alert (k : OutKind) (u : Nat) (a : List Nat) (l : List Byte) : (d.emit k u a l).alert = d.alert := rfl
@[simp] theorem Dev.emit_out (k : OutKind) (u : Nat) (a : List Nat) (l : List Byte) : (d.emit k u a l).out = ⟨k, u, a, l⟩ :: d.out := rfl
@[simp] theorem Dev.emit_free (k : OutKind) (u : Nat) (a : List Nat) (l : List Byte) : (d.emit k u a l).free = d.free := rfl
@[simp] theorem Dev.emit_almCnt (k : OutKind) (u : Nat) (a : List Nat) (l : List Byte) : (d.emit k u a l).almCnt = d.almCnt := rfl
@[simp] theorem Dev.emit_alm (k : OutKind) (u : Nat) (a : List Nat) (l : List Byte) : (d.emit k u a l).alm = d.alm := rfl
@[simp] theorem Dev.emit_pd (k : OutKind) (u : Nat) (a : List Nat) (l : List Byte) : (d.emit k u a l).pd = d.pd := rfl
@[simp] theorem Dev.emit_pack (k : OutKind) (u : Nat) (a : List Nat) (l : List Byte) : (d.emit k u a l).pack = d.pack := rfl
@[simp] theorem Dev.emit_rat (k : OutKind) (u : Nat) (a : List Nat) (l : List Byte) : (d.emit k u a l).rat = d.rat := rfl
@[simp] theorem Dev.emit_hub (k : OutKind) (u : Nat) (a : List Nat) (l : List Byte) : (d.emit k u a l).hub = d.hub := rfl
@[simp] theorem Dev.emit_lhe (k : OutKind) (u : Nat) (a : List Nat) (l : List Byte) : (d.emit k u a l).lhe = d.lhe := rfl
@[simp] theorem Dev.emit_tdm (k : OutKind) (u : Nat) (a : List Nat) (l : List Byte) : (d.emit k u a l).tdm = d.tdm := rfl
@[simp] theorem Dev.emit_pllOn (k : OutKind) (u : Nat) (a : List Nat) (l : List Byte) : (d.emit k u a l).pllOn = d.pllOn := rfl
@[simp] theorem Dev.emit_ecc (k : OutKind) (u : Nat) (a : List Nat) (l : List Byte) : (d.emit k u a l).ecc = d.ecc := rfl
@[simp] theorem Dev.emit_hay (k : OutKind) (u : Nat) (a : List Nat) (l : List Byte) : (d.emit k u a l).hay = d.hay := rfl
@[simp] theorem Dev.emit_yok (k : OutKind) (u : Nat) (a : List Nat) (l : List Byte) : (d.emit k u a l).yok = d.yok := rfl
@[simp] theorem Dev.emit_stw (k : OutKind) (u : Nat) (a : List Nat) (l : List Byte) : (d.emit k u a l).stw = d.stw := rfl
@[simp] theorem Dev.emit_flash (k : OutKind) (u : Nat) (a : List Nat) (l : List Byte) : (d.emit k u a l).flash = d.flash := rfl
@[simp] theorem Dev.emit_fls (k : OutKind) (u : Nat) (a : List Nat) (l : List Byte) : (d.emit k u a l).fls = d.fls := rfl
@[simp] theorem Dev.emit_grn (k : OutKind) (u : Nat) (a : List Nat) (l : List Byte) : (d.emit k u a l).grn = d.grn := rfl
@[simp] theorem Dev.emit_fuse (k : OutKind) (u : Nat) (a : List Nat) (l : List Byte) : (d.emit k u a l).fuse = d.fuse := rfl
@[simp] theorem Dev.emit_key (k : OutKind) (u : Nat) (a : List Nat) (l : List Byte) : (d.emit k u a l).key = d.key := rfl
@[simp] theorem Dev.emit_get (k : OutKind) (u : Nat) (a : List Nat) (l : List Byte) (g : Fld) : (d.emit k u a l).get g = d.get g := rfl

@[simp] theorem Dev.setBank_fld (b : Nat) (l : List (Nat × Nat)) : (d.setBank b l).fld = d.fld := rfl
@[simp] theorem Dev.setBank_code (b : Nat) (l : List (Nat × Nat)) : (d.setBank b l).code = d.code := rfl
@[simp] theorem Dev.setBank_cross (b : Nat) (l : List (Nat × Nat)) : (d.setBank b l).cross = d.cross := rfl
@[simp] theorem Dev.setBank_pow (b : Nat) (l : List (Nat × Nat)) : (d.setBank b l).pow = d.pow := rfl
@[simp] theorem Dev.setBank_xt (b : Nat) (l : List (Nat × Nat)) : (d.setBank b l).xt = d.xt := rfl
@[simp] theorem Dev.setBank_strm (b : Nat) (l : List (Nat × Nat)) : (d.setBank b l).strm = d.strm := rfl
@[simp] theorem Dev.setBank_hif (b : Nat) (l : List (Nat × Nat)) : (d.setBank b l).hif = d.hif := rfl
@[simp] theorem Dev.setBank_flr (b : Nat) (l : List (Nat × Nat)) : (d.setBank b l).flr = d.flr := rfl
@[simp] theorem Dev.setBank_urec (b : Nat) (l : List (Nat × Nat)) : (d.setBank b l).urec = d.urec := rfl
@[simp] theorem Dev.setBank_alert (b : Nat) (l : List (Nat × Nat)) : (d.setBank b l).alert = d.alert := rfl
@[simp] theorem Dev.setBank_out (b : Nat) (l : List (Nat × Nat)) : (d.setBank b l).out = d.out := rfl
@[simp] theorem Dev.setBank_free (b : Nat) (l : List (Nat × Nat)) : (d.setBank b l).free = d.free := rfl
@[simp] theorem Dev.setBank_almCnt (b : Nat) (l : List (Nat × Nat)) : (d.setBank b l).almCnt = d.almCnt := rfl
@[simp] theorem Dev.setBank_alm (b : Nat) (l : List (Nat × Nat)) : (d.setBank b l).alm = d.alm := rfl
@[simp] theorem Dev.setBank_pd (b : Nat) (l : List (Nat × Nat)) : (d.setBank b l).pd = d.pd := rfl
@[simp] theorem Dev.setBank_pack (b : Nat) (l : List (Nat × Nat)) : (d.setBank b l).pack = d.pack := rfl
@[simp] theorem Dev.setBank_rat (b : Nat) (l : List (Nat × Nat)) : (d.setBank b l).rat = d.rat := rfl
@[simp] theorem Dev.setBank_hub (b : Nat) (l : List (Nat × Nat)) : (d.setBank b l).hub = d.hub := rfl
@[simp] theorem Dev.setBank_lhe (b : Nat) (l : List (Nat × Nat)) : (d.setBank b l).lhe = d.lhe := rfl
@[simp] theorem Dev.setBank_tdm (b : Nat) (l : List (Nat × Nat)) : (d.setBank b l).tdm = d.tdm := rfl
@[simp] theorem Dev.setBank_pllOn (b : Nat) (l : List (Nat × Nat)) : (d.setBank b l).pllOn = d.pllOn := rfl
@[simp] theorem Dev.setBank_ecc (b : Nat) (l : List (Nat × Nat)) : (d.setBank b l).ecc = d.ecc := rfl
@[simp] theorem Dev.setBank_hay (b : Nat) (l : List (Nat × Nat)) : (d.setBank b l).hay = d.hay := rfl
@[simp] theorem Dev.setBank_yok (b : Nat) (l : List (Nat × Nat)) : (d.setBank b l).yok = d.yok := rfl
@[simp] theorem Dev.setBank_stw (b : Nat) (l : List (Nat × Nat)) : (d.setBank b l).stw = d.stw := rfl
@[simp] theorem Dev.setBank_flash (b : Nat) (l : List (Nat × Nat)) : (d.setBank b l).flash = d.flash := rfl
@[simp] theorem Dev.setBank_fls (b : Nat) (l : List (Nat × Nat)) : (d.setBank b l).fls = d.fls := rfl
@[simp] theorem Dev.setBank_grn (b : Nat) (l : List (Nat × Nat)) : (d.setBank b l).grn = d.grn := rfl
@[simp] theorem Dev.setBank_fuse (b : Nat) (l : List (Nat × Nat)) : (d.setBank b l).fuse = d.fuse := rfl
@[simp] theorem Dev.setBank_key (b : Nat) (l : List (Nat × Nat)) : (d.setBank b l).key = d.key := rfl
@[simp] theorem Dev.setBank_get (b : Nat) (l : List (Nat × Nat)) (g : Fld) : (d.setBank b l).get g = d.get g := rfl

@[simp] theorem Dev.setCharge_fld (o n : Nat) : (d.setCharge o n).fld = d.fld := rfl
@[simp] theorem Dev.setCharge_code (o n : Nat) : (d.setCharge o n).code = d.code := rfl
@[simp] theorem Dev.setCharge_cross (o n : Nat) : (d.setCharge o n).cross = d.cross := rfl
@[simp] theorem Dev.setCharge_pow (o n : Nat) : (d.setCharge o n).pow = d.pow := rfl
@[simp] theorem Dev.setCharge_xt (o n : Nat) : (d.setCharge o n).xt = d.xt := rfl
@[simp] theorem Dev.setCharge_strm (o n : Nat) : (d.setCharge o n).strm = d.strm := rfl
@[simp] theorem Dev.setCharge_hif (o n : Nat) : (d.setCharge o n).hif = d.hif := rfl
@[simp] theorem Dev.setCharge_flr (o n : Nat) : (d.setCharge o n).flr = d.flr := rfl
@[simp] theorem Dev.setCharge_urec (o n : Nat) : (d.setCharge o n).urec = d.urec := rfl
@[simp] theorem Dev.setCharge_alert (o n : Nat) : (d.setCharge o n).alert = d.alert := rfl
@[simp] theorem Dev.setCharge_out (o n : Nat) : (d.setCharge o n).out = d.out := rfl
@[simp] theorem Dev.setCharge_free (o n : Nat) : (d.setCharge o n).free = d.free := rfl
@[simp] theorem Dev.setCharge_almCnt (o n : Nat) : (d.setCharge o n).almCnt = d.almCnt := rfl
@[simp] theorem Dev.setCharge_alm (o n : Nat) : (d.setCharge o n).alm = d.alm := rfl
@[simp] theorem Dev.setCharge_pd (o n : Nat) : (d.setCharge o n).pd = d.pd := rfl
@[simp] theorem Dev.setCharge_pack (o n : Nat) : (d.setCharge o n).pack = d.pack := rfl
@[simp] theorem Dev.setCharge_rat (o n : Nat) : (d.setCharge o n).rat = d.rat := rfl
@[simp] theorem Dev.setCharge_hub (o n : Nat) : (d.setCharge o n).hub = d.hub := rfl
@[simp] theorem Dev.setCharge_lhe (o n : Nat) : (d.setCharge o n).lhe = d.lhe := rfl
@[simp] theorem Dev.setCharge_tdm (o n : Nat) : (d.setCharge o n).tdm = d.tdm := rfl
@[simp] theorem Dev.setCharge_pllOn (o n : Nat) : (d.setCharge o n).pllOn = d.pllOn := rfl
@[simp] theorem Dev.setCharge_ecc (o n : Nat) : (d.setCharge o n).ecc = d.ecc := rfl
@[simp] theorem Dev.setCharge_hay (o n : Nat) : (d.setCharge o n).hay = d.hay := rfl
@[simp] theorem Dev.setCharge_yok (o n : Nat) : (d.setCharge o n).yok = d.yok := rfl
@[simp] theorem Dev.setCharge_stw (o n : Nat) : (d.setCharge o n).stw = d.stw := rfl
@[simp] theorem Dev.setCharge_flash (o n : Nat) : (d.setCharge o n).flash = d.flash := rfl
@[simp] theorem Dev.setCharge_fls (o n : Nat) : (d.setCharge o n).fls = d.fls := rfl
@[simp] theorem Dev.setCharge_grn (o n : Nat) : (d.setCharge o n).grn = d.grn := rfl
@[simp] theorem Dev.setCharge_fuse (o n : Nat) : (d.setCharge o n).fuse = d.fuse := rfl
@[simp] theorem Dev.setCharge_key (o n : Nat) : (d.setCharge o n).key = d.key := rfl
@[simp] theorem Dev.setCharge_get (o n : Nat) (g : Fld) : (d.setCharge o n).get g = d.get g := rfl

@[simp] theorem Dev.setItems_fld (q : Nat) (l : List Item) : (d.setItems q l).fld = d.fld := rfl
@[simp] theorem Dev.setItems_code (q : Nat) (l : List Item) : (d.setItems q l).code = d.code := rfl
@[simp] theorem Dev.setItems_cross (q : Nat) (l : List Item) : (d.setItems q l).cross = d.cross := rfl
@[simp] theorem Dev.setItems_pow (q : Nat) (l : List Item) : (d.setItems q l).pow = d.pow := rfl
@[simp] theorem Dev.setItems_xt (q : Nat) (l : List Item) : (d.setItems q l).xt = d.xt := rfl
@[simp] theorem Dev.setItems_strm (q : Nat) (l : List Item) : (d.setItems q l).strm = d.strm := rfl
@[simp] theorem Dev.setItems_hif (q : Nat) (l : List Item) : (d.setItems q l).hif = d.hif := rfl
@[simp] theorem Dev.setItems_flr (q : Nat) (l : List Item) : (d.setItems q l).flr = d.flr := rfl
@[simp] theorem Dev.setItems_urec (q : Nat) (l : List Item) : (d.setItems q l).urec = d.urec := rfl
@[simp] theorem Dev.setItems_alert (q : Nat) (l : List Item) : (d.setItems q l).alert = d.alert := rfl
@[simp] theorem Dev.setItems_out (q : Nat) (l : List Item) : (d.setItems q l).out = d.out := rfl
@[simp] theorem Dev.setItems_free (q : Nat) (l : List Item) : (d.setItems q l).free = d.free := rfl
@[simp] theorem Dev.setItems_almCnt (q : Nat) (l : List Item) : (d.setItems q l).almCnt = d.almCnt := rfl
@[simp] theorem Dev.setItems_alm (q : Nat) (l : List Item) : (d.setItems q l).alm = d.alm := rfl
@[simp] theorem Dev.setItems_pd (q : Nat) (l : List Item) : (d.setItems q l).pd = d.pd := rfl
@[simp] theorem Dev.setItems_pack (q : Nat) (l : List Item) : (d.setItems q l).pack = d.pack := rfl
@[simp] theorem Dev.setItems_rat (q : Nat) (l : List Item) : (d.setItems q l).rat = d.rat := rfl
@[simp] theorem Dev.setItems_hub (q : Nat) (l : List Item) : (d.setItems q l).hub = d.hub := rfl
@[simp] theorem Dev.setItems_lhe (q : Nat) (l : List Item) : (d.setItems q l).lhe = d.lhe := rfl
@[simp] theorem Dev.setItems_tdm (q : Nat) (l : List Item) : (d.setItems q l).tdm = d.tdm := rfl
@[simp] theorem Dev.setItems_pllOn (q : Nat) (l : List Item) : (d.setItems q l).pllOn = d.pllOn := rfl
@[simp] theorem Dev.setItems_ecc (q : Nat) (l : List Item) : (d.setItems q l).ecc = d.ecc := rfl
@[simp] theorem Dev.setItems_hay (q : Nat) (l : List Item) : (d.setItems q l).hay = d.hay := rfl
@[simp] theorem Dev.setItems_yok (q : Nat) (l : List Item) : (d.setItems q l).yok = d.yok := rfl
@[simp] theorem Dev.setItems_stw (q : Nat) (l : List Item) : (d.setItems q l).stw = d.stw := rfl
@[simp] theorem Dev.setItems_flash (q : Nat) (l : List Item) : (d.setItems q l).flash = d.flash := rfl
@[simp] theorem Dev.setItems_fls (q : Nat) (l : List Item) : (d.setItems q l).fls = d.fls := rfl
@[simp] theorem Dev.setItems_grn (q : Nat) (l : List Item) : (d.setItems q l).grn = d.grn := rfl
@[simp] theorem Dev.setItems_fuse (q : Nat) (l : List Item) : (d.setItems q l).fuse = d.fuse := rfl
@[simp] theorem Dev.setItems_key (q : Nat) (l : List Item) : (d.setItems q l).key = d.key := rfl
@[simp] theorem Dev.setItems_get (q : Nat) (l : List Item) (g : Fld) : (d.setItems q l).get g = d.get g := rfl

@[simp] theorem Dev.owe_fld (l : List Due) : (d.owe l).fld = d.fld := rfl
@[simp] theorem Dev.owe_code (l : List Due) : (d.owe l).code = d.code := rfl
@[simp] theorem Dev.owe_cross (l : List Due) : (d.owe l).cross = d.cross := rfl
@[simp] theorem Dev.owe_pow (l : List Due) : (d.owe l).pow = d.pow := rfl
@[simp] theorem Dev.owe_xt (l : List Due) : (d.owe l).xt = d.xt := rfl
@[simp] theorem Dev.owe_strm (l : List Due) : (d.owe l).strm = d.strm := rfl
@[simp] theorem Dev.owe_hif (l : List Due) : (d.owe l).hif = d.hif := rfl
@[simp] theorem Dev.owe_flr (l : List Due) : (d.owe l).flr = d.flr := rfl
@[simp] theorem Dev.owe_urec (l : List Due) : (d.owe l).urec = d.urec := rfl
@[simp] theorem Dev.owe_alert (l : List Due) : (d.owe l).alert = d.alert := rfl
@[simp] theorem Dev.owe_out (l : List Due) : (d.owe l).out = d.out := rfl
@[simp] theorem Dev.owe_free (l : List Due) : (d.owe l).free = d.free := rfl
@[simp] theorem Dev.owe_almCnt (l : List Due) : (d.owe l).almCnt = d.almCnt := rfl
@[simp] theorem Dev.owe_alm (l : List Due) : (d.owe l).alm = d.alm := rfl
@[simp] theorem Dev.owe_pd (l : List Due) : (d.owe l).pd = d.pd := rfl
@[simp] theorem Dev.owe_pack (l : List Due) : (d.owe l).pack = d.pack := rfl
@[simp] theorem Dev.owe_rat (l : List Due) : (d.owe l).rat = d.rat := rfl
@[simp] theorem Dev.owe_hub (l : List Due) : (d.owe l).hub = d.hub := rfl
@[simp] theorem Dev.owe_lhe (l : List Due) : (d.owe l).lhe = d.lhe := rfl
@[simp] theorem Dev.owe_tdm (l : List Due) : (d.owe l).tdm = d.tdm := rfl
@[simp] theorem Dev.owe_pllOn (l : List Due) : (d.owe l).pllOn = d.pllOn := rfl
@[simp] theorem Dev.owe_ecc (l : List Due) : (d.owe l).ecc = d.ecc := rfl
@[simp] theorem Dev.owe_hay (l : List Due) : (d.owe l).hay = d.hay := rfl
@[simp] theorem Dev.owe_yok (l : List Due) : (d.owe l).yok = d.yok := rfl
@[simp] theorem Dev.owe_stw (l : List Due) : (d.owe l).stw = d.stw := rfl
@[simp] theorem Dev.owe_flash (l : List Due) : (d.owe l).flash = d.flash := rfl
@[simp] theorem Dev.owe_fls (l : List Due) : (d.owe l).fls = d.fls := rfl
@[simp] theorem Dev.owe_grn (l : List Due) : (d.owe l).grn = d.grn := rfl
@[simp] theorem Dev.owe_fuse (l : List Due) : (d.owe l).fuse = d.fuse := rfl
@[simp] theorem Dev.owe_key (l : List Due) : (d.owe l).key = d.key := rfl
@[simp] theorem Dev.owe_get (l : List Due) (g : Fld) : (d.owe l).get g = d.get g := rfl

@[simp] theorem Dev.setStream_fld (s : Nat) (x : Strm) : (d.setStream s x).fld = d.fld := rfl
@[simp] theorem Dev.setStream_code (s : Nat) (x : Strm) : (d.setStream s x).code = d.code := rfl
@[simp] theorem Dev.setStream_cross (s : Nat) (x : Strm) : (d.setStream s x).cross = d.cross := rfl
@[simp] theorem Dev.setStream_pow (s : Nat) (x : Strm) : (d.setStream s x).pow = d.pow := rfl
@[simp] theorem Dev.setStream_xt (s : Nat) (x : Strm) : (d.setStream s x).xt = d.xt := rfl
@[simp] theorem Dev.setStream_lar (s : Nat) (x : Strm) : (d.setStream s x).lar = d.lar := rfl
@[simp] theorem Dev.setStream_strm (s : Nat) (x : Strm) : (d.setStream s x).strm = mapPut {} d.strm s x := rfl
@[simp] theorem Dev.setStream_hif (s : Nat) (x : Strm) : (d.setStream s x).hif = d.hif := rfl
@[simp] theorem Dev.setStream_flr (s : Nat) (x : Strm) : (d.setStream s x).flr = d.flr := rfl
@[simp] theorem Dev.setStream_urec (s : Nat) (x : Strm) : (d.setStream s x).urec = d.urec := rfl
@[simp] theorem Dev.setStream_alert (s : Nat) (x : Strm) : (d.setStream s x).alert = d.alert := rfl
@[simp] theorem Dev.setStream_out (s : Nat) (x : Strm) : (d.setStream s x).out = d.out := rfl
@[simp] theorem Dev.setStream_free (s : Nat) (x : Strm) : (d.setStream s x).free = d.free := rfl
@[simp] theorem Dev.setStream_almCnt (s : Nat) (x : Strm) : (d.setStream s x).almCnt = d.almCnt := rfl
@[simp] theorem Dev.setStream_alm (s : Nat) (x : Strm) : (d.setStream s x).alm = d.alm := rfl
@[simp] theorem Dev.setStream_pd (s : Nat) (x : Strm) : (d.setStream s x).pd = d.pd := rfl
@[simp] theorem Dev.setStream_pack (s : Nat) (x : Strm) : (d.setStream s x).pack = d.pack := rfl
@[simp] theorem Dev.setStream_rat (s : Nat) (x : Strm) : (d.setStream s x).rat = d.rat := rfl
@[simp] theorem Dev.setStream_hub (s : Nat) (x : Strm) : (d.setStream s x).hub = d.hub := rfl
@[simp] theorem Dev.setStream_lhe (s : Nat) (x : Strm) : (d.setStream s x).lhe = d.lhe := rfl
@[simp] theorem Dev.setStream_tdm (s : Nat) (x : Strm) : (d.setStream s x).tdm = d.tdm := rfl
@[simp] theorem Dev.setStream_pllOn (s : Nat) (x : Strm) : (d.setStream s x).pllOn = d.pllOn := rfl
@[simp] theorem Dev.setStream_ecc (s : Nat) (x : Strm) : (d.setStream s x).ecc = d.ecc := rfl
@[simp] theorem Dev.setStream_hay (s : Nat) (x : Strm) : (d.setStream s x).hay = d.hay := rfl
@[simp] theorem Dev.setStream_yok (s : Nat) (x : Strm) : (d.setStream s x).yok = d.yok := rfl
@[simp] theorem Dev.setStream_stw (s : Nat) (x : Strm) : (d.setStream s x).stw = d.stw := rfl
@[simp] theorem Dev.setStream_flash (s : Nat) (x : Strm) : (d.setStream s x).flash = d.flash := rfl
@[simp] theorem Dev.setStream_fls (s : Nat) (x : Strm) : (d.setStream s x).fls = d.fls := rfl
@[simp] theorem Dev.setStream_grn (s : Nat) (x : Strm) : (d.setStream s x).grn = d.grn := rfl
@[simp] theorem Dev.setStream_fuse (s : Nat) (x : Strm) : (d.setStream s x).fuse = d.fuse := rfl
@[simp] theorem Dev.setStream_key (s : Nat) (x : Strm) : (d.setStream s x).key = d.key := rfl
@[simp] theorem Dev.setStream_get (s : Nat) (x : Strm) (g : Fld) : (d.setStream s x).get g = d.get g := rfl

@[simp] theorem Dev.setRec_fld (u : Nat) (r : URec) : (d.setRec u r).fld = d.fld := rfl
@[simp] theorem Dev.setRec_code (u : Nat) (r : URec) : (d.setRec u r).code = d.code := rfl
@[simp] theorem Dev.setRec_cross (u : Nat) (r : URec) : (d.setRec u r).cross = d.cross := rfl
@[simp] theorem Dev.setRec_pow (u : Nat) (r : URec) : (d.setRec u r).pow = d.pow := rfl
@[simp] theorem Dev.setRec_xt (u : Nat) (r : URec) : (d.setRec u r).xt = d.xt := rfl
@[simp] theorem Dev.setRec_lar (u : Nat) (r : URec) : (d.setRec u r).lar = d.lar := rfl
@[simp] theorem Dev.setRec_strm (u : Nat) (r : URec) : (d.setRec u r).strm = d.strm := rfl
@[simp] theorem Dev.setRec_hif (u : Nat) (r : URec) : (d.setRec u r).hif = d.hif := rfl
@[simp] theorem Dev.setRec_flr (u : Nat) (r : URec) : (d.setRec u r).flr = d.flr := rfl
@[simp] theorem Dev.setRec_urec (u : Nat) (r : URec) : (d.setRec u r).urec = mapPut {} d.urec u r := rfl
@[simp] theorem Dev.setRec_alert (u : Nat) (r : URec) : (d.setRec u r).alert = d.alert := rfl
@[simp] theorem Dev.setRec_out (u : Nat) (r : URec) : (d.setRec u r).out = d.out := rfl
@[simp] theorem Dev.setRec_free (u : Nat) (r : URec) : (d.setRec u r).free = d.free := rfl
@[simp] theorem Dev.setRec_almCnt (u : Nat) (r : URec) : (d.setRec u r).almCnt = d.almCnt := rfl
@[simp] theorem Dev.setRec_alm (u : Nat) (r : URec) : (d.setRec u r).alm = d.alm := rfl
@[simp] theorem Dev.setRec_pd (u : Nat) (r : URec) : (d.setRec u r).pd = d.pd := rfl
@[simp] theorem Dev.setRec_pack (u : Nat) (r : URec) : (d.setRec u r).pack = d.pack := rfl
@[simp] theorem Dev.setRec_rat (u : Nat) (r : URec) : (d.setRec u r).rat = d.rat := rfl
@[simp] theorem Dev.setRec_hub (u : Nat) (r : URec) : (d.setRec u r).hub = d.hub := rfl
@[simp] theorem Dev.setRec_lhe (u : Nat) (r : URec) : (d.setRec u r).lhe = d.lhe := rfl
@[simp] theorem Dev.setRec_tdm (u : Nat) (r : URec) : (d.setRec u r).tdm = d.tdm := rfl
@[simp] theorem Dev.setRec_pllOn (u : Nat) (r : URec) : (d.setRec u r).pllOn = d.pllOn := rfl
@[simp] theorem Dev.setRec_ecc (u : Nat) (r : URec) : (d.setRec u r).ecc = d.ecc := rfl
@[simp] theorem Dev.setRec_hay (u : Nat) (r : URec) : (d.setRec u r).hay = d.hay := rfl
@[simp] theorem Dev.setRec_yok (u : Nat) (r : URec) : (d.setRec u r).yok = d.yok := rfl
@[simp] theorem Dev.setRec_stw (u : Nat) (r : URec) : (d.setRec u r).stw = d.stw := rfl
@[simp] theorem Dev.setRec_flash (u : Nat) (r : URec) : (d.setRec u r).flash = d.flash := rfl
@[simp] theorem Dev.setRec_fls (u : Nat) (r : URec) : (d.setRec u r).fls = d.fls := rfl
@[simp] theorem Dev.setRec_grn (u : Nat) (r : URec) : (d.setRec u r).grn = d.grn := rfl
@[simp] theorem Dev.setRec_fuse (u : Nat) (r : URec) : (d.setRec u r).fuse = d.fuse := rfl
@[simp] theorem Dev.setRec_key (u : Nat) (r : URec) : (d.setRec u r).key = d.key := rfl
@[simp] theorem Dev.setRec_get (u : Nat) (r : URec) (g : Fld) : (d.setRec u r).get g = d.get g := rfl

@[simp] theorem Dev.setPin_fld (x : Nat) (p : AlertPin) : (d.setPin x p).fld = d.fld := rfl
@[simp] theorem Dev.setPin_code (x : Nat) (p : AlertPin) : (d.setPin x p).code = d.code := rfl
@[simp] theorem Dev.setPin_cross (x : Nat) (p : AlertPin) : (d.setPin x p).cross = d.cross := rfl
@[simp] theorem Dev.setPin_pow (x : Nat) (p : AlertPin) : (d.setPin x p).pow = d.pow := rfl
@[simp] theorem Dev.setPin_xt (x : Nat) (p : AlertPin) : (d.setPin x p).xt = d.xt := rfl
@[simp] theorem Dev.setPin_lar (x : Nat) (p : AlertPin) : (d.setPin x p).lar = d.lar := rfl
@[simp] theorem Dev.setPin_strm (x : Nat) (p : AlertPin) : (d.setPin x p).strm = d.strm := rfl
@[simp] theorem Dev.setPin_hif (x : Nat) (p : AlertPin) : (d.setPin x p).hif = d.hif := rfl
@[simp] theorem Dev.setPin_flr (x : Nat) (p : AlertPin) : (d.setPin x p).flr = d.flr := rfl
@[simp] theorem Dev.setPin_urec (x : Nat) (p : AlertPin) : (d.setPin x p).urec = d.urec := rfl
@[simp] theorem Dev.setPin_alert (x : Nat) (p : AlertPin) : (d.setPin x p).alert = mapPut {} d.alert x p := rfl
@[simp] theorem Dev.setPin_out (x : Nat) (p : AlertPin) : (d.setPin x p).out = d.out := rfl
@[simp] theorem Dev.setPin_free (x : Nat) (p : AlertPin) : (d.setPin x p).free = d.free := rfl
@[simp] theorem Dev.setPin_almCnt (x : Nat) (p : AlertPin) : (d.setPin x p).almCnt = d.almCnt := rfl
@[simp] theorem Dev.setPin_alm (x : Nat) (p : AlertPin) : (d.setPin x p).alm = d.alm := rfl
@[simp] theorem Dev.setPin_pd (x : Nat) (p : AlertPin) : (d.setPin x p).pd = d.pd := rfl
@[simp] theorem Dev.setPin_pack (x : Nat) (p : AlertPin) : (d.setPin x p).pack = d.pack := rfl
@[simp] theorem Dev.setPin_rat (x : Nat) (p : AlertPin) : (d.setPin x p).rat = d.rat := rfl
@[simp] theorem Dev.setPin_hub (x : Nat) (p : AlertPin) : (d.setPin x p).hub = d.hub := rfl
@[simp] theorem Dev.setPin_lhe (x : Nat) (p : AlertPin) : (d.setPin x p).lhe = d.lhe := rfl
@[simp] theorem Dev.setPin_tdm (x : Nat) (p : AlertPin) : (d.setPin x p).tdm = d.tdm := rfl
@[simp] theorem Dev.setPin_pllOn (x : Nat) (p : AlertPin) : (d.setPin x p).pllOn = d.pllOn := rfl
@[simp] theorem Dev.setPin_ecc (x : Nat) (p : AlertPin) : (d.setPin x p).ecc = d.ecc := rfl
@[simp] theorem Dev.setPin_hay (x : Nat) (p : AlertPin) : (d.setPin x p).hay = d.hay := rfl
@[simp] theorem Dev.setPin_yok (x : Nat) (p : AlertPin) : (d.setPin x p).yok = d.yok := rfl
@[simp] theorem Dev.setPin_stw (x : Nat) (p : AlertPin) : (d.setPin x p).stw = d.stw := rfl
@[simp] theorem Dev.setPin_flash (x : Nat) (p : AlertPin) : (d.setPin x p).flash = d.flash := rfl
@[simp] theorem Dev.setPin_fls (x : Nat) (p : AlertPin) : (d.setPin x p).fls = d.fls := rfl
@[simp] theorem Dev.setPin_grn (x : Nat) (p : AlertPin) : (d.setPin x p).grn = d.grn := rfl
@[simp] theorem Dev.setPin_fuse (x : Nat) (p : AlertPin) : (d.setPin x p).fuse = d.fuse := rfl
@[simp] theorem Dev.setPin_key (x : Nat) (p : AlertPin) : (d.setPin x p).key = d.key := rfl
@[simp] theorem Dev.setPin_get (x : Nat) (p : AlertPin) (g : Fld) : (d.setPin x p).get g = d.get g := rfl

@[simp] theorem Dev.setSpacing_fld (q k v : Nat) : (d.setSpacing q k v).fld = d.fld := rfl
@[simp] theorem Dev.setSpacing_code (q k v : Nat) : (d.setSpacing q k v).code = d.code := rfl
@[simp] theorem Dev.setSpacing_cross (q k v : Nat) : (d.setSpacing q k v).cross = d.cross := rfl
@[simp] theorem Dev.setSpacing_pow (q k v : Nat) : (d.setSpacing q k v).pow = d.pow := rfl
@[simp] theorem Dev.setSpacing_xt (q k v : Nat) : (d.setSpacing q k v).xt = d.xt := rfl
@[simp] theorem Dev.setSpacing_strm (q k v : Nat) : (d.setSpacing q k v).strm = d.strm := rfl
@[simp] theorem Dev.setSpacing_hif (q k v : Nat) : (d.setSpacing q k v).hif = d.hif := rfl
@[simp] theorem Dev.setSpacing_flr (q k v : Nat) : (d.setSpacing q k v).flr = d.flr := rfl
@[simp] theorem Dev.setSpacing_urec (q k v : Nat) : (d.setSpacing q k v).urec = d.urec := rfl
@[simp] theorem Dev.setSpacing_alert (q k v : Nat) : (d.setSpacing q k v).alert = d.alert := rfl
@[simp] theorem Dev.setSpacing_out (q k v : Nat) : (d.setSpacing q k v).out = d.out := rfl
@[simp] theorem Dev.setSpacing_free (q k v : Nat) : (d.setSpacing q k v).free = d.free := rfl
@[simp] theorem Dev.setSpacing_almCnt (q k v : Nat) : (d.setSpacing q k v).almCnt = d.almCnt := rfl
@[simp] theorem Dev.setSpacing_alm (q k v : Nat) : (d.setSpacing q k v).alm = d.alm := rfl
@[simp] theorem Dev.setSpacing_pd (q k v : Nat) : (d.setSpacing q k v).pd = d.pd := rfl
@[simp] theorem Dev.setSpacing_pack (q k v : Nat) : (d.setSpacing q k v).pack = d.pack := rfl
@[simp] theorem Dev.setSpacing_rat (q k v : Nat) : (d.setSpacing q k v).rat = d.rat := rfl
@[simp] theorem Dev.setSpacing_hub (q k v : Nat) : (d.setSpacing q k v).hub = d.hub := rfl
@[simp] theorem Dev.setSpacing_lhe (q k v : Nat) : (d.setSpacing q k v).lhe = d.lhe := rfl
@[simp] theorem Dev.setSpacing_tdm (q k v : Nat) : (d.setSpacing q k v).tdm = d.tdm := rfl
@[simp] theorem Dev.setSpacing_pllOn (q k v : Nat) : (d.setSpacing q k v).pllOn = d.pllOn := rfl
@[simp] theorem Dev.setSpacing_ecc (q k v : Nat) : (d.setSpacing q k v).ecc = d.ecc := rfl
@[simp] theorem Dev.setSpacing_hay (q k v : Nat) : (d.setSpacing q k v).hay = d.hay := rfl
@[simp] theorem Dev.setSpacing_yok (q k v : Nat) : (d.setSpacing q k v).yok = d.yok := rfl
@[simp] theorem Dev.setSpacing_stw (q k v : Nat) : (d.setSpacing q k v).stw = d.stw := rfl
@[simp] theorem Dev.setSpacing_flash (q k v : Nat) : (d.setSpacing q k v).flash = d.flash := rfl
@[simp] theorem Dev.setSpacing_fls (q k v : Nat) : (d.setSpacing q k v).fls = d.fls := rfl
@[simp] theorem Dev.setSpacing_grn (q k v : Nat) : (d.setSpacing q k v).grn = d.grn := rfl
@[simp] theorem Dev.setSpacing_fuse (q k v : Nat) : (d.setSpacing q k v).fuse = d.fuse := rfl
@[simp] theorem Dev.setSpacing_key (q k v : Nat) : (d.setSpacing q k v).key = d.key := rfl
@[simp] theorem Dev.setSpacing_get (q k v : Nat) (g : Fld) : (d.setSpacing q k v).get g = d.get g := rfl

@[simp] theorem Dev.setPort_fld (p : Nat) (x : PdPort) : (d.setPort p x).fld = d.fld := rfl
@[simp] theorem Dev.setPort_code (p : Nat) (x : PdPort) : (d.setPort p x).code = d.code := rfl
@[simp] theorem Dev.setPort_cross (p : Nat) (x : PdPort) : (d.setPort p x).cross = d.cross := rfl
@[simp] theorem Dev.setPort_pow (p : Nat) (x : PdPort) : (d.setPort p x).pow = d.pow := rfl
@[simp] theorem Dev.setPort_xt (p : Nat) (x : PdPort) : (d.setPort p x).xt = d.xt := rfl
@[simp] theorem Dev.setPort_lar (p : Nat) (x : PdPort) : (d.setPort p x).lar = d.lar := rfl
@[simp] theorem Dev.setPort_strm (p : Nat) (x : PdPort) : (d.setPort p x).strm = d.strm := rfl
@[simp] theorem Dev.setPort_hif (p : Nat) (x : PdPort) : (d.setPort p x).hif = d.hif := rfl
@[simp] theorem Dev.setPort_flr (p : Nat) (x : PdPort) : (d.setPort p x).flr = d.flr := rfl
@[simp] theorem Dev.setPort_urec (p : Nat) (x : PdPort) : (d.setPort p x).urec = d.urec := rfl
@[simp] theorem Dev.setPort_alert (p : Nat) (x : PdPort) : (d.setPort p x).alert = d.alert := rfl
@[simp] theorem Dev.setPort_out (p : Nat) (x : PdPort) : (d.setPort p x).out = d.out := rfl
@[simp] theorem Dev.setPort_free (p : Nat) (x : PdPort) : (d.setPort p x).free = d.free := rfl
@[simp] theorem Dev.setPort_almCnt (p : Nat) (x : PdPort) : (d.setPort p x).almCnt = d.almCnt := rfl
@[simp] theorem Dev.setPort_alm (p : Nat) (x : PdPort) : (d.setPort p x).alm = d.alm := rfl
@[simp] theorem Dev.setPort_pd (p : Nat) (x : PdPort) : (d.setPort p x).pd = mapPut {} d.pd p x := rfl
@[simp] theorem Dev.setPort_pack (p : Nat) (x : PdPort) : (d.setPort p x).pack = d.pack := rfl
@[simp] theorem Dev.setPort_rat (p : Nat) (x : PdPort) : (d.setPort p x).rat = d.rat := rfl
@[simp] theorem Dev.setPort_hub (p : Nat) (x : PdPort) : (d.setPort p x).hub = d.hub := rfl
@[simp] theorem Dev.setPort_lhe (p : Nat) (x : PdPort) : (d.setPort p x).lhe = d.lhe := rfl
@[simp] theorem Dev.setPort_tdm (p : Nat) (x : PdPort) : (d.setPort p x).tdm = d.tdm := rfl
@[simp] theorem Dev.setPort_pllOn (p : Nat) (x : PdPort) : (d.setPort p x).pllOn = d.pllOn := rfl
@[simp] theorem Dev.setPort_ecc (p : Nat) (x : PdPort) : (d.setPort p x).ecc = d.ecc := rfl
@[simp] theorem Dev.setPort_hay (p : Nat) (x : PdPort) : (d.setPort p x).hay = d.hay := rfl
@[simp] theorem Dev.setPort_yok (p : Nat) (x : PdPort) : (d.setPort p x).yok = d.yok := rfl
@[simp] theorem Dev.setPort_stw (p : Nat) (x : PdPort) : (d.setPort p x).stw = d.stw := rfl
@[simp] theorem Dev.setPort_flash (p : Nat) (x : PdPort) : (d.setPort p x).flash = d.flash := rfl
@[simp] theorem Dev.setPort_fls (p : Nat) (x : PdPort) : (d.setPort p x).fls = d.fls := rfl
@[simp] theorem Dev.setPort_grn (p : Nat) (x : PdPort) : (d.setPort p x).grn = d.grn := rfl
@[simp] theorem Dev.setPort_fuse (p : Nat) (x : PdPort) : (d.setPort p x).fuse = d.fuse := rfl
@[simp] theorem Dev.setPort_key (p : Nat) (x : PdPort) : (d.setPort p x).key = d.key := rfl
@[simp] theorem Dev.setPort_get (p : Nat) (x : PdPort) (g : Fld) : (d.setPort p x).get g = d.get g := rfl

@[simp] theorem Dev.modPort_fld (p : Nat) (f : PdPort → PdPort) : (d.modPort p f).fld = d.fld := rfl
@[simp] theorem Dev.modPort_code (p : Nat) (f : PdPort → PdPort) : (d.modPort p f).code = d.code := rfl
@[simp] theorem Dev.modPort_cross (p : Nat) (f : PdPort → PdPort) : (d.modPort p f).cross = d.cross := rfl
@[simp] theorem Dev.modPort_pow (p : Nat) (f : PdPort → PdPort) : (d.modPort p f).pow = d.pow := rfl
@[simp] theorem Dev.modPort_xt (p : Nat) (f : PdPort → PdPort) : (d.modPort p f).xt = d.xt := rfl
@[simp] theorem Dev.modPort_lar (p : Nat) (f : PdPort → PdPort) : (d.modPort p f).lar = d.lar := rfl
@[simp] theorem Dev.modPort_strm (p : Nat) (f : PdPort → PdPort) : (d.modPort p f).strm = d.strm := rfl
@[simp] theorem Dev.modPort_hif (p : Nat) (f : PdPort → PdPort) : (d.modPort p f).hif = d.hif := rfl
@[simp] theorem Dev.modPort_flr (p : Nat) (f : PdPort → PdPort) : (d.modPort p f).flr = d.flr := rfl
@[simp] theorem Dev.modPort_urec (p : Nat) (f : PdPort → PdPort) : (d.modPort p f).urec = d.urec := rfl
@[simp] theorem Dev.modPort_alert (p : Nat) (f : PdPort → PdPort) : (d.modPort p f).alert = d.alert := rfl
@[simp] theorem Dev.modPort_out (p : Nat) (f : PdPort → PdPort) : (d.modPort p f).out = d.out := rfl
@[simp] theorem Dev.modPort_free (p : Nat) (f : PdPort → PdPort) : (d.modPort p f).free = d.free := rfl
@[simp] theorem Dev.modPort_almCnt (p : Nat) (f : PdPort → PdPort) : (d.modPort p f).almCnt = d.almCnt := rfl
@[simp] theorem Dev.modPort_alm (p : Nat) (f : PdPort → PdPort) : (d.modPort p f).alm = d.alm := rfl
@[simp] theorem Dev.modPort_pd (p : Nat) (f : PdPort → PdPort) : (d.modPort p f).pd = mapPut {} d.pd p (f (d.port p)) := rfl
@[simp] theorem Dev.modPort_pack (p : Nat) (f : PdPort → PdPort) : (d.modPort p f).pack = d.pack := rfl
@[simp] theorem Dev.modPort_rat (p : Nat) (f : PdPort → PdPort) : (d.modPort p f).rat = d.rat := rfl
@[simp] theorem Dev.modPort_hub (p : Nat) (f : PdPort → PdPort) : (d.modPort p f).hub = d.hub := rfl
@[simp] theorem Dev.modPort_lhe (p : Nat) (f : PdPort → PdPort) : (d.modPort p f).lhe = d.lhe := rfl
@[simp] theorem Dev.modPort_tdm (p : Nat) (f : PdPort → PdPort) : (d.modPort p f).tdm = d.tdm := rfl
@[simp] theorem Dev.modPort_pllOn (p : Nat) (f : PdPort → PdPort) : (d.modPort p f).pllOn = d.pllOn := rfl
@[simp] theorem Dev.modPort_ecc (p : Nat) (f : PdPort → PdPort) : (d.modPort p f).ecc = d.ecc := rfl
@[simp] theorem Dev.modPort_hay (p : Nat) (f : PdPort → PdPort) : (d.modPort p f).hay = d.hay := rfl
@[simp] theorem Dev.modPort_yok (p : Nat) (f : PdPort → PdPort) : (d.modPort p f).yok = d.yok := rfl
@[simp] theorem Dev.modPort_stw (p : Nat) (f : PdPort → PdPort) : (d.modPort p f).stw = d.stw := rfl
@[simp] theorem Dev.modPort_flash (p : Nat) (f : PdPort → PdPort) : (d.modPort p f).flash = d.flash := rfl
@[simp] theorem Dev.modPort_fls (p : Nat) (f : PdPort → PdPort) : (d.modPort p f).fls = d.fls := rfl
@[simp] theorem Dev.modPort_grn (p : Nat) (f : PdPort → PdPort) : (d.modPort p f).grn = d.grn := rfl
@[simp] theorem Dev.modPort_fuse (p : Nat) (f : PdPort → PdPort) : (d.modPort p f).fuse = d.fuse := rfl
@[simp] theorem Dev.modPort_key (p : Nat) (f : PdPort → PdPort) : (d.modPort p f).key = d.key := rfl
@[simp] theorem Dev.modPort_get (p : Nat) (f : PdPort → PdPort) (g : Fld) : (d.modPort p f).get g = d.get g := rfl

@[simp] theorem Dev.modPack_fld (f : Pack → Pack) : (d.modPack f).fld = d.fld := rfl
@[simp] theorem Dev.modPack_code (f : Pack → Pack) : (d.modPack f).code = d.code := rfl
@[simp] theorem Dev.modPack_cross (f : Pack → Pack) : (d.modPack f).cross = d.cross := rfl
@[simp] theorem Dev.modPack_pow (f : Pack → Pack) : (d.modPack f).pow = d.pow := rfl
@[simp] theorem Dev.modPack_xt (f : Pack → Pack) : (d.modPack f).xt = d.xt := rfl
@[simp] theorem Dev.modPack_lar (f : Pack → Pack) : (d.modPack f).lar = d.lar := rfl
@[simp] theorem Dev.modPack_strm (f : Pack → Pack) : (d.modPack f).strm = d.strm := rfl
@[simp] theorem Dev.modPack_hif (f : Pack → Pack) : (d.modPack f).hif = d.hif := rfl
@[simp] theorem Dev.modPack_flr (f : Pack → Pack) : (d.modPack f).flr = d.flr := rfl
@[simp] theorem Dev.modPack_urec (f : Pack → Pack) : (d.modPack f).urec = d.urec := rfl
@[simp] theorem Dev.modPack_alert (f : Pack → Pack) : (d.modPack f).alert = d.alert := rfl
@[simp] theorem Dev.modPack_out (f : Pack → Pack) : (d.modPack f).out = d.out := rfl
@[simp] theorem Dev.modPack_free (f : Pack → Pack) : (d.modPack f).free = d.free := rfl
@[simp] theorem Dev.modPack_almCnt (f : Pack → Pack) : (d.modPack f).almCnt = d.almCnt := rfl
@[simp] theorem Dev.modPack_alm (f : Pack → Pack) : (d.modPack f).alm = d.alm := rfl
@[simp] theorem Dev.modPack_pd (f : Pack → Pack) : (d.modPack f).pd = d.pd := rfl
@[simp] theorem Dev.modPack_pack (f : Pack → Pack) : (d.modPack f).pack = f d.pack := rfl
@[simp] theorem Dev.modPack_rat (f : Pack → Pack) : (d.modPack f).rat = d.rat := rfl
@[simp] theorem Dev.modPack_hub (f : Pack → Pack) : (d.modPack f).hub = d.hub := rfl
@[simp] theorem Dev.modPack_lhe (f : Pack → Pack) : (d.modPack f).lhe = d.lhe := rfl
@[simp] theorem Dev.modPack_tdm (f : Pack → Pack) : (d.modPack f).tdm = d.tdm := rfl
@[simp] theorem Dev.modPack_pllOn (f : Pack → Pack) : (d.modPack f).pllOn = d.pllOn := rfl
@[simp] theorem Dev.modPack_ecc (f : Pack → Pack) : (d.modPack f).ecc = d.ecc := rfl
@[simp] theorem Dev.modPack_hay (f : Pack → Pack) : (d.modPack f).hay = d.hay := rfl
@[simp] theorem Dev.modPack_yok (f : Pack → Pack) : (d.modPack f).yok = d.yok := rfl
@[simp] theorem Dev.modPack_stw (f : Pack → Pack) : (d.modPack f).stw = d.stw := rfl
@[simp] theorem Dev.modPack_flash (f : Pack → Pack) : (d.modPack f).flash = d.flash := rfl
@[simp] theorem Dev.modPack_fls (f : Pack → Pack) : (d.modPack f).fls = d.fls := rfl
@[simp] theorem Dev.modPack_grn (f : Pack → Pack) : (d.modPack f).grn = d.grn := rfl
@[simp] theorem Dev.modPack_fuse (f : Pack → Pack) : (d.modPack f).fuse = d.fuse := rfl
@[simp] theorem Dev.modPack_key (f : Pack → Pack) : (d.modPack f).key = d.key := rfl
@[simp] theorem Dev.modPack_get (f : Pack → Pack) (g : Fld) : (d.modPack f).get g = d.get g := rfl

@[simp] theorem Dev.modPow_fld (f : Pow → Pow) : (d.modPow f).fld = d.fld := rfl
@[simp] theorem Dev.modPow_code (f : Pow → Pow) : (d.modPow f).code = d.code := rfl
@[simp] theorem Dev.modPow_cross (f : Pow → Pow) : (d.modPow f).cross = d.cross := rfl
@[simp] theorem Dev.modPow_pow (f : Pow → Pow) : (d.modPow f).pow = f d.pow := rfl
@[simp] theorem Dev.modPow_xt (f : Pow → Pow) : (d.modPow f).xt = d.xt := rfl
@[simp] theorem Dev.modPow_lar (f : Pow → Pow) : (d.modPow f).lar = d.lar := rfl
@[simp] theorem Dev.modPow_strm (f : Pow → Pow) : (d.modPow f).strm = d.strm := rfl
@[simp] theorem Dev.modPow_hif (f : Pow → Pow) : (d.modPow f).hif = d.hif := rfl
@[simp] theorem Dev.modPow_flr (f : Pow → Pow) : (d.modPow f).flr = d.flr := rfl
@[simp] theorem Dev.modPow_urec (f : Pow → Pow) : (d.modPow f).urec = d.urec := rfl
@[simp] theorem Dev.modPow_alert (f : Pow → Pow) : (d.modPow f).alert = d.alert := rfl
@[simp] theorem Dev.modPow_out (f : Pow → Pow) : (d.modPow f).out = d.out := rfl
@[simp] theorem Dev.modPow_free (f : Pow → Pow) : (d.modPow f).free = d.free := rfl
@[simp] theorem Dev.modPow_almCnt (f : Pow → Pow) : (d.modPow f).almCnt = d.almCnt := rfl
@[simp] theorem Dev.modPow_alm (f : Pow → Pow) : (d.modPow f).alm = d.alm := rfl
@[simp] theorem Dev.modPow_pd (f : Pow → Pow) : (d.modPow f).pd = d.pd := rfl
@[simp] theorem Dev.modPow_pack (f : Pow → Pow) : (d.modPow f).pack = d.pack := rfl
@[simp] theorem Dev.modPow_rat (f : Pow → Pow) : (d.modPow f).rat = d.rat := rfl
@[simp] theorem Dev.modPow_hub (f : Pow → Pow) : (d.modPow f).hub = d.hub := rfl
@[simp] theorem Dev.modPow_lhe (f : Pow → Pow) : (d.modPow f).lhe = d.lhe := rfl
@[simp] theorem Dev.modPow_tdm (f : Pow → Pow) : (d.modPow f).tdm = d.tdm := rfl
@[simp] theorem Dev.modPow_pllOn (f : Pow → Pow) : (d.modPow f).pllOn = d.pllOn := rfl
@[simp] theorem Dev.modPow_ecc (f : Pow → Pow) : (d.modPow f).ecc = d.ecc := rfl
@[simp] theorem Dev.modPow_hay (f : Pow → Pow) : (d.modPow f).hay = d.hay := rfl
@[simp] theorem Dev.modPow_yok (f : Pow → Pow) : (d.modPow f).yok = d.yok := rfl
@[simp] theorem Dev.modPow_stw (f : Pow → Pow) : (d.modPow f).stw = d.stw := rfl
@[simp] theorem Dev.modPow_flash (f : Pow → Pow) : (d.modPow f).flash = d.flash := rfl
@[simp] theorem Dev.modPow_fls (f : Pow → Pow) : (d.modPow f).fls = d.fls := rfl
@[simp] theorem Dev.modPow_grn (f : Pow → Pow) : (d.modPow f).grn = d.grn := rfl
@[simp] theorem Dev.modPow_fuse (f : Pow → Pow) : (d.modPow f).fuse = d.fuse := rfl
@[simp] theorem Dev.modPow_key (f : Pow → Pow) : (d.modPow f).key = d.key := rfl
@[simp] theorem Dev.modPow_get (f : Pow → Pow) (g : Fld) : (d.modPow f).get g = d.get g := rfl

@[simp] theorem Dev.modXt_fld (f : Xt → Xt) : (d.modXt f).fld = d.fld := rfl
@[simp] theorem Dev.modXt_code (f : Xt → Xt) : (d.modXt f).code = d.code := rfl
@[simp] theorem Dev.modXt_cross (f : Xt → Xt) : (d.modXt f).cross = d.cross := rfl
@[simp] theorem Dev.modXt_pow (f : Xt → Xt) : (d.modXt f).pow = d.pow := rfl
@[simp] theorem Dev.modXt_xt (f : Xt → Xt) : (d.modXt f).xt = f d.xt := rfl
@[simp] theorem Dev.modXt_lar (f : Xt → Xt) : (d.modXt f).lar = d.lar := rfl
@[simp] theorem Dev.modXt_strm (f : Xt → Xt) : (d.modXt f).strm = d.strm := rfl
@[simp] theorem Dev.modXt_hif (f : Xt → Xt) : (d.modXt f).hif = d.hif := rfl
@[simp] theorem Dev.modXt_flr (f : Xt → Xt) : (d.modXt f).flr = d.flr := rfl
@[simp] theorem Dev.modXt_urec (f : Xt → Xt) : (d.modXt f).urec = d.urec := rfl
@[simp] theorem Dev.modXt_alert (f : Xt → Xt) : (d.modXt f).alert = d.alert := rfl
@[simp] theorem Dev.modXt_out (f : Xt → Xt) : (d.modXt f).out = d.out := rfl
@[simp] theorem Dev.modXt_free (f : Xt → Xt) : (d.modXt f).free = d.free := rfl
@[simp] theorem Dev.modXt_almCnt (f : Xt → Xt) : (d.modXt f).almCnt = d.almCnt := rfl
@[simp] theorem Dev.modXt_alm (f : Xt → Xt) : (d.modXt f).alm = d.alm := rfl
@[simp] theorem Dev.modXt_pd (f : Xt → Xt) : (d.modXt f).pd = d.pd := rfl
@[simp] theorem Dev.modXt_pack (f : Xt → Xt) : (d.modXt f).pack = d.pack := rfl
@[simp] theorem Dev.modXt_rat (f : Xt → Xt) : (d.modXt f).rat = d.rat := rfl
@[simp] theorem Dev.modXt_hub (f : Xt → Xt) : (d.modXt f).hub = d.hub := rfl
@[simp] theorem Dev.modXt_lhe (f : Xt → Xt) : (d.modXt f).lhe = d.lhe := rfl
@[simp] theorem Dev.modXt_tdm (f : Xt → Xt) : (d.modXt f).tdm = d.tdm := rfl
@[simp] theorem Dev.modXt_pllOn (f : Xt → Xt) : (d.modXt f).pllOn = d.pllOn := rfl
@[simp] theorem Dev.modXt_ecc (f : Xt → Xt) : (d.modXt f).ecc = d.ecc := rfl
@[simp] theorem Dev.modXt_hay (f : Xt → Xt) : (d.modXt f).hay = d.hay := rfl
@[simp] theorem Dev.modXt_yok (f : Xt → Xt) : (d.modXt f).yok = d.yok := rfl
@[simp] theorem Dev.modXt_stw (f : Xt → Xt) : (d.modXt f).stw = d.stw := rfl
@[simp] theorem Dev.modXt_flash (f : Xt → Xt) : (d.modXt f).flash = d.flash := rfl
@[simp] theorem Dev.modXt_fls (f : Xt → Xt) : (d.modXt f).fls = d.fls := rfl
@[simp] theorem Dev.modXt_grn (f : Xt → Xt) : (d.modXt f).grn = d.grn := rfl
@[simp] theorem Dev.modXt_fuse (f : Xt → Xt) : (d.modXt f).fuse = d.fuse := rfl
@[simp] theorem Dev.modXt_key (f : Xt → Xt) : (d.modXt f).key = d.key := rfl
@[simp] theorem Dev.modXt_get (f : Xt → Xt) (g : Fld) : (d.modXt f).get g = d.get g := rfl

@[simp] theorem Dev.modStw_fld (f : Stw → Stw) : (d.modStw f).fld = d.fld := rfl
@[simp] theorem Dev.modStw_code (f : Stw → Stw) : (d.modStw f).code = d.code := rfl
@[simp] theorem Dev.modStw_cross (f : Stw → Stw) : (d.modStw f).cross = d.cross := rfl
@[simp] theorem Dev.modStw_pow (f : Stw → Stw) : (d.modStw f).pow = d.pow := rfl
@[simp] theorem Dev.modStw_xt (f : Stw → Stw) : (d.modStw f).xt = d.xt := rfl
@[simp] theorem Dev.modStw_lar (f : Stw → Stw) : (d.modStw f).lar = d.lar := rfl
@[simp] theorem Dev.modStw_strm (f : Stw → Stw) : (d.modStw f).strm = d.strm := rfl
@[simp] theorem Dev.modStw_hif (f : Stw → Stw) : (d.modStw f).hif = d.hif := rfl
@[simp] theorem Dev.modStw_flr (f : Stw → Stw) : (d.modStw f).flr = d.flr := rfl
@[simp] theorem Dev.modStw_urec (f : Stw → Stw) : (d.modStw f).urec = d.urec := rfl
@[simp] theorem Dev.modStw_alert (f : Stw → Stw) : (d.modStw f).alert = d.alert := rfl
@[simp] theorem Dev.modStw_out (f : Stw → Stw) : (d.modStw f).out = d.out := rfl
@[simp] theorem Dev.modStw_free (f : Stw → Stw) : (d.modStw f).free = d.free := rfl
@[simp] theorem Dev.modStw_almCnt (f : Stw → Stw) : (d.modStw f).almCnt = d.almCnt := rfl
@[simp] theorem Dev.modStw_alm (f : Stw → Stw) : (d.modStw f).alm = d.alm := rfl
@[simp] theorem Dev.modStw_pd (f : Stw → Stw) : (d.modStw f).pd = d.pd := rfl
@[simp] theorem Dev.modStw_pack (f : Stw → Stw) : (d.modStw f).pack = d.pack := rfl
@[simp] theorem Dev.modStw_rat (f : Stw → Stw) : (d.modStw f).rat = d.rat := rfl
@[simp] theorem Dev.modStw_hub (f : Stw → Stw) : (d.modStw f).hub = d.hub := rfl
@[simp] theorem Dev.modStw_lhe (f : Stw → Stw) : (d.modStw f).lhe = d.lhe := rfl
@[simp] theorem Dev.modStw_tdm (f : Stw → Stw) : (d.modStw f).tdm = d.tdm := rfl
@[simp] theorem Dev.modStw_pllOn (f : Stw → Stw) : (d.modStw f).pllOn = d.pllOn := rfl
@[simp] theorem Dev.modStw_ecc (f : Stw → Stw) : (d.modStw f).ecc = d.ecc := rfl
@[simp] theorem Dev.modStw_hay (f : Stw → Stw) : (d.modStw f).hay = d.hay := rfl
@[simp] theorem Dev.modStw_yok (f : Stw → Stw) : (d.modStw f).yok = d.yok := rfl
@[simp] theorem Dev.modStw_stw (f : Stw → Stw) : (d.modStw f).stw = f d.stw := rfl
@[simp] theorem Dev.modStw_flash (f : Stw → Stw) : (d.modStw f).flash = d.flash := rfl
@[simp] theorem Dev.modStw_fls (f : Stw → Stw) : (d.modStw f).fls = d.fls := rfl
@[simp] theorem Dev.modStw_grn (f : Stw → Stw) : (d.modStw f).grn = d.grn := rfl
@[simp] theorem Dev.modStw_fuse (f : Stw → Stw) : (d.modStw f).fuse = d.fuse := rfl
@[simp] theorem Dev.modStw_key (f : Stw → Stw) : (d.modStw f).key = d.key := rfl
@[simp] theorem Dev.modStw_get (f : Stw → Stw) (g : Fld) : (d.modStw f).get g = d.get g := rfl

@[simp] theorem Dev.modFls_fld (f : Fls → Fls) : (d.modFls f).fld = d.fld := rfl
@[simp] theorem Dev.modFls_code (f : Fls → Fls) : (d.modFls f).code = d.code := rfl
@[simp] theorem Dev.modFls_cross (f : Fls → Fls) : (d.modFls f).cross = d.cross := rfl
@[simp] theorem Dev.modFls_pow (f : Fls → Fls) : (d.modFls f).pow = d.pow := rfl
@[simp] theorem Dev.modFls_xt (f : Fls → Fls) : (d.modFls f).xt = d.xt := rfl
@[simp] theorem Dev.modFls_lar (f : Fls → Fls) : (d.modFls f).lar = d.lar := rfl
@[simp] theorem Dev.modFls_strm (f : Fls → Fls) : (d.modFls f).strm = d.strm := rfl
@[simp] theorem Dev.modFls_hif (f : Fls → Fls) : (d.modFls f).hif = d.hif := rfl
@[simp] theorem Dev.modFls_flr (f : Fls → Fls) : (d.modFls f).flr = d.flr := rfl
@[simp] theorem Dev.modFls_urec (f : Fls → Fls) : (d.modFls f).urec = d.urec := rfl
@[simp] theorem Dev.modFls_alert (f : Fls → Fls) : (d.modFls f).alert = d.alert := rfl
@[simp] theorem Dev.modFls_out (f : Fls → Fls) : (d.modFls f).out = d.out := rfl
@[simp] theorem Dev.modFls_free (f : Fls → Fls) : (d.modFls f).free = d.free := rfl
@[simp] theorem Dev.modFls_almCnt (f : Fls → Fls) : (d.modFls f).almCnt = d.almCnt := rfl
@[simp] theorem Dev.modFls_alm (f : Fls → Fls) : (d.modFls f).alm = d.alm := rfl
@[simp] theorem Dev.modFls_pd (f : Fls → Fls) : (d.modFls f).pd = d.pd := rfl
@[simp] theorem Dev.modFls_pack (f : Fls → Fls) : (d.modFls f).pack = d.pack := rfl
@[simp] theorem Dev.modFls_rat (f : Fls → Fls) : (d.modFls f).rat = d.rat := rfl
@[simp] theorem Dev.modFls_hub (f : Fls → Fls) : (d.modFls f).hub = d.hub := rfl
@[simp] theorem Dev.modFls_lhe (f : Fls → Fls) : (d.modFls f).lhe = d.lhe := rfl
@[simp] theorem Dev.modFls_tdm (f : Fls → Fls) : (d.modFls f).tdm = d.tdm := rfl
@[simp] theorem Dev.modFls_pllOn (f : Fls → Fls) : (d.modFls f).pllOn = d.pllOn := rfl
@[simp] theorem Dev.modFls_ecc (f : Fls → Fls) : (d.modFls f).ecc = d.ecc := rfl
@[simp] theorem Dev.modFls_hay (f : Fls → Fls) : (d.modFls f).hay = d.hay := rfl
@[simp] theorem Dev.modFls_yok (f : Fls → Fls) : (d.modFls f).yok = d.yok := rfl
@[simp] theorem Dev.modFls_stw (f : Fls → Fls) : (d.modFls f).stw = d.stw := rfl
@[simp] theorem Dev.modFls_flash (f : Fls → Fls) : (d.modFls f).flash = d.flash := rfl
@[simp] theorem Dev.modFls_fls (f : Fls → Fls) : (d.modFls f).fls = f d.fls := rfl
@[simp] theorem Dev.modFls_grn (f : Fls → Fls) : (d.modFls f).grn = d.grn := rfl
@[simp] theorem Dev.modFls_fuse (f : Fls → Fls) : (d.modFls f).fuse = d.fuse := rfl
@[simp] theorem Dev.modFls_key (f : Fls → Fls) : (d.modFls f).key = d.key := rfl
@[simp] theorem Dev.modFls_get (f : Fls → Fls) (g : Fld) : (d.modFls f).get g = d.get g := rfl

@[simp] theorem Dev.modGrn_fld (f : Grn → Grn) : (d.modGrn f).fld = d.fld := rfl
@[simp] theorem Dev.modGrn_code (f : Grn → Grn) : (d.modGrn f).code = d.code := rfl
@[simp] theorem Dev.modGrn_cross (f : Grn → Grn) : (d.modGrn f).cross = d.cross := rfl
@[simp] theorem Dev.modGrn_pow (f : Grn → Grn) : (d.modGrn f).pow = d.pow := rfl
@[simp] theorem Dev.modGrn_xt (f : Grn → Grn) : (d.modGrn f).xt = d.xt := rfl
@[simp] theorem Dev.modGrn_lar (f : Grn → Grn) : (d.modGrn f).lar = d.lar := rfl
@[simp] theorem Dev.modGrn_strm (f : Grn → Grn) : (d.modGrn f).strm = d.strm := rfl
@[simp] theorem Dev.modGrn_hif (f : Grn → Grn) : (d.modGrn f).hif = d.hif := rfl
@[simp] theorem Dev.modGrn_flr (f : Grn → Grn) : (d.modGrn f).flr = d.flr := rfl
@[simp] theorem Dev.modGrn_urec (f : Grn → Grn) : (d.modGrn f).urec = d.urec := rfl
@[simp] theorem Dev.modGrn_alert (f : Grn → Grn) : (d.modGrn f).alert = d.alert := rfl
@[simp] theorem Dev.modGrn_out (f : Grn → Grn) : (d.modGrn f).out = d.out := rfl
@[simp] theorem Dev.modGrn_free (f : Grn → Grn) : (d.modGrn f).free = d.free := rfl
@[simp] theorem Dev.modGrn_almCnt (f : Grn → Grn) : (d.modGrn f).almCnt = d.almCnt := rfl
@[simp] theorem Dev.modGrn_alm (f : Grn → Grn) : (d.modGrn f).alm = d.alm := rfl
@[simp] theorem Dev.modGrn_pd (f : Grn → Grn) : (d.modGrn f).pd = d.pd := rfl
@[simp] theorem Dev.modGrn_pack (f : Grn → Grn) : (d.modGrn f).pack = d.pack := rfl
@[simp] theorem Dev.modGrn_rat (f : Grn → Grn) : (d.modGrn f).rat = d.rat := rfl
@[simp] theorem Dev.modGrn_hub (f : Grn → Grn) : (d.modGrn f).hub = d.hub := rfl
@[simp] theorem Dev.modGrn_lhe (f : Grn → Grn) : (d.modGrn f).lhe = d.lhe := rfl
@[simp] theorem Dev.modGrn_tdm (f : Grn → Grn) : (d.modGrn f).tdm = d.tdm := rfl
@[simp] theorem Dev.modGrn_pllOn (f : Grn → Grn) : (d.modGrn f).pllOn = d.pllOn := rfl
@[simp] theorem Dev.modGrn_ecc (f : Grn → Grn) : (d.modGrn f).ecc = d.ecc := rfl
@[simp] theorem Dev.modGrn_hay (f : Grn → Grn) : (d.modGrn f).hay = d.hay := rfl
@[simp] theorem Dev.modGrn_yok (f : Grn → Grn) : (d.modGrn f).yok = d.yok := rfl
@[simp] theorem Dev.modGrn_stw (f : Grn → Grn) : (d.modGrn f).stw = d.stw := rfl
@[simp] theorem Dev.modGrn_flash (f : Grn → Grn) : (d.modGrn f).flash = d.flash := rfl
@[simp] theorem Dev.modGrn_fls (f : Grn → Grn) : (d.modGrn f).fls = d.fls := rfl
@[simp] theorem Dev.modGrn_grn (f : Grn → Grn) : (d.modGrn f).grn = f d.grn := rfl
@[simp] theorem Dev.modGrn_fuse (f : Grn → Grn) : (d.modGrn f).fuse = d.fuse := rfl
@[simp] theorem Dev.modGrn_key (f : Grn → Grn) : (d.modGrn f).key = d.key := rfl
@[simp] theorem Dev.modGrn_get (f : Grn → Grn) (g : Fld) : (d.modGrn f).get g = d.get g := rfl

@[simp] theorem Dev.modYok_fld (f : Yok → Yok) : (d.modYok f).fld = d.fld := rfl
@[simp] theorem Dev.modYok_code (f : Yok → Yok) : (d.modYok f).code = d.code := rfl
@[simp] theorem Dev.modYok_cross (f : Yok → Yok) : (d.modYok f).cross = d.cross := rfl
@[simp] theorem Dev.modYok_pow (f : Yok → Yok) : (d.modYok f).pow = d.pow := rfl
@[simp] theorem Dev.modYok_xt (f : Yok → Yok) : (d.modYok f).xt = d.xt := rfl
@[simp] theorem Dev.modYok_lar (f : Yok → Yok) : (d.modYok f).lar = d.lar := rfl
@[simp] theorem Dev.modYok_strm (f : Yok → Yok) : (d.modYok f).strm = d.strm := rfl
@[simp] theorem Dev.modYok_hif (f : Yok → Yok) : (d.modYok f).hif = d.hif := rfl
@[simp] theorem Dev.modYok_flr (f : Yok → Yok) : (d.modYok f).flr = d.flr := rfl
@[simp] theorem Dev.modYok_urec (f : Yok → Yok) : (d.modYok f).urec = d.urec := rfl
@[simp] theorem Dev.modYok_alert (f : Yok → Yok) : (d.modYok f).alert = d.alert := rfl
@[simp] theorem Dev.modYok_out (f : Yok → Yok) : (d.modYok f).out = d.out := rfl
@[simp] theorem Dev.modYok_free (f : Yok → Yok) : (d.modYok f).free = d.free := rfl
@[simp] theorem Dev.modYok_almCnt (f : Yok → Yok) : (d.modYok f).almCnt = d.almCnt := rfl
@[simp] theorem Dev.modYok_alm (f : Yok → Yok) : (d.modYok f).alm = d.alm := rfl
@[simp] theorem Dev.modYok_pd (f : Yok → Yok) : (d.modYok f).pd = d.pd := rfl
@[simp] theorem Dev.modYok_pack (f : Yok → Yok) : (d.modYok f).pack = d.pack := rfl
@[simp] theorem Dev.modYok_rat (f : Yok → Yok) : (d.modYok f).rat = d.rat := rfl
@[simp] theorem Dev.modYok_hub (f : Yok → Yok) : (d.modYok f).hub = d.hub := rfl
@[simp] theorem Dev.modYok_lhe (f : Yok → Yok) : (d.modYok f).lhe = d.lhe := rfl
@[simp] theorem Dev.modYok_tdm (f : Yok → Yok) : (d.modYok f).tdm = d.tdm := rfl
@[simp] theorem Dev.modYok_pllOn (f : Yok → Yok) : (d.modYok f).pllOn = d.pllOn := rfl
@[simp] theorem Dev.modYok_ecc (f : Yok → Yok) : (d.modYok f).ecc = d.ecc := rfl
@[simp] theorem Dev.modYok_hay (f : Yok → Yok) : (d.modYok f).hay = d.hay := rfl
@[simp] theorem Dev.modYok_yok (f : Yok → Yok) : (d.modYok f).yok = f d.yok := rfl
@[simp] theorem Dev.modYok_stw (f : Yok → Yok) : (d.modYok f).stw = d.stw := rfl
@[simp] theorem Dev.modYok_flash (f : Yok → Yok) : (d.modYok f).flash = d.flash := rfl
@[simp] theorem Dev.modYok_fls (f : Yok → Yok) : (d.modYok f).fls = d.fls := rfl
@[simp] theorem Dev.modYok_grn (f : Yok → Yok) : (d.modYok f).grn = d.grn := rfl
@[simp] theorem Dev.modYok_fuse (f : Yok → Yok) : (d.modYok f).fuse = d.fuse := rfl
@[simp] theorem Dev.modYok_key (f : Yok → Yok) : (d.modYok f).key = d.key := rfl
@[simp] theorem Dev.modYok_get (f : Yok → Yok) (g : Fld) : (d.modYok f).get g = d.get g := rfl

@[simp] theorem Dev.setTdm_fld (p : Nat) (x : Tdm) : (d.setTdm p x).fld = d.fld := rfl
@[simp] theorem Dev.setTdm_code (p : Nat) (x : Tdm) : (d.setTdm p x).code = d.code := rfl
@[simp] theorem Dev.setTdm_cross (p : Nat) (x : Tdm) : (d.setTdm p x).cross = d.cross := rfl
@[simp] theorem Dev.setTdm_pow (p : Nat) (x : Tdm) : (d.setTdm p x).pow = d.pow := rfl
@[simp] theorem Dev.setTdm_xt (p : Nat) (x : Tdm) : (d.setTdm p x).xt = d.xt := rfl
@[simp] theorem Dev.setTdm_lar (p : Nat) (x : Tdm) : (d.setTdm p x).lar = d.lar := rfl
@[simp] theorem Dev.setTdm_strm (p : Nat) (x : Tdm) : (d.setTdm p x).strm = d.strm := rfl
@[simp] theorem Dev.setTdm_hif (p : Nat) (x : Tdm) : (d.setTdm p x).hif = d.hif := rfl
@[simp] theorem Dev.setTdm_flr (p : Nat) (x : Tdm) : (d.setTdm p x).flr = d.flr := rfl
@[simp] theorem Dev.setTdm_urec (p : Nat) (x : Tdm) : (d.setTdm p x).urec = d.urec := rfl
@[simp] theorem Dev.setTdm_alert (p : Nat) (x : Tdm) : (d.setTdm p x).alert = d.alert := rfl
@[simp] theorem Dev.setTdm_out (p : Nat) (x : Tdm) : (d.setTdm p x).out = d.out := rfl
@[simp] theorem Dev.setTdm_free (p : Nat) (x : Tdm) : (d.setTdm p x).free = d.free := rfl
@[simp] theorem Dev.setTdm_almCnt (p : Nat) (x : Tdm) : (d.setTdm p x).almCnt = d.almCnt := rfl
@[simp] theorem Dev.setTdm_alm (p : Nat) (x : Tdm) : (d.setTdm p x).alm = d.alm := rfl
@[simp] theorem Dev.setTdm_pd (p : Nat) (x : Tdm) : (d.setTdm p x).pd = d.pd := rfl
@[simp] theorem Dev.setTdm_pack (p : Nat) (x : Tdm) : (d.setTdm p x).pack = d.pack := rfl
@[simp] theorem Dev.setTdm_rat (p : Nat) (x : Tdm) : (d.setTdm p x).rat = d.rat := rfl
@[simp] theorem Dev.setTdm_hub (p : Nat) (x : Tdm) : (d.setTdm p x).hub = d.hub := rfl
@[simp] theorem Dev.setTdm_lhe (p : Nat) (x : Tdm) : (d.setTdm p x).lhe = d.lhe := rfl
@[simp] theorem Dev.setTdm_tdm (p : Nat) (x : Tdm) : (d.setTdm p x).tdm = mapPut {} d.tdm p x := rfl
@[simp] theorem Dev.setTdm_pllOn (p : Nat) (x : Tdm) : (d.setTdm p x).pllOn = d.pllOn := rfl
@[simp] theorem Dev.setTdm_ecc (p : Nat) (x : Tdm) : (d.setTdm p x).ecc = d.ecc := rfl
@[simp] theorem Dev.setTdm_hay (p : Nat) (x : Tdm) : (d.setTdm p x).hay = d.hay := rfl
@[simp] theorem Dev.setTdm_yok (p : Nat) (x : Tdm) : (d.setTdm p x).yok = d.yok := rfl
@[simp] theorem Dev.setTdm_stw (p : Nat) (x : Tdm) : (d.setTdm p x).stw = d.stw := rfl
@[simp] theorem Dev.setTdm_flash (p : Nat) (x : Tdm) : (d.setTdm p x).flash = d.flash := rfl
@[simp] theorem Dev.setTdm_fls (p : Nat) (x : Tdm) : (d.setTdm p x).fls = d.fls := rfl
@[simp] theorem Dev.setTdm_grn (p : Nat) (x : Tdm) : (d.setTdm p x).grn = d.grn := rfl
@[simp] theorem Dev.setTdm_fuse (p : Nat) (x : Tdm) : (d.setTdm p x).fuse = d.fuse := rfl
@[simp] theorem Dev.setTdm_key (p : Nat) (x : Tdm) : (d.setTdm p x).key = d.key := rfl
@[simp] theorem Dev.setTdm_get (p : Nat) (x : Tdm) (g : Fld) : (d.setTdm p x).get g = d.get g := rfl

@[simp] theorem Dev.setFlr_fld (t : Nat) (x : Flr) : (d.setFlr t x).fld = d.fld := rfl
@[simp] theorem Dev.setFlr_code (t : Nat) (x : Flr) : (d.setFlr t x).code = d.code := rfl
@[simp] theorem Dev.setFlr_cross (t : Nat) (x : Flr) : (d.setFlr t x).cross = d.cross := rfl
@[simp] theorem Dev.setFlr_pow (t : Nat) (x : Flr) : (d.setFlr t x).pow = d.pow := rfl
@[simp] theorem Dev.setFlr_xt (t : Nat) (x : Flr) : (d.setFlr t x).xt = d.xt := rfl
@[simp] theorem Dev.setFlr_lar (t : Nat) (x : Flr) : (d.setFlr t x).lar = d.lar := rfl
@[simp] theorem Dev.setFlr_strm (t : Nat) (x : Flr) : (d.setFlr t x).strm = d.strm := rfl
@[simp] theorem Dev.setFlr_hif (t : Nat) (x : Flr) : (d.setFlr t x).hif = d.hif := rfl
@[simp] theorem Dev.setFlr_flr (t : Nat) (x : Flr) : (d.setFlr t x).flr = mapPut {} d.flr t x := rfl
@[simp] theorem Dev.setFlr_urec (t : Nat) (x : Flr) : (d.setFlr t x).urec = d.urec := rfl
@[simp] theorem Dev.setFlr_alert (t : Nat) (x : Flr) : (d.setFlr t x).alert = d.alert := rfl
@[simp] theorem Dev.setFlr_out (t : Nat) (x : Flr) : (d.setFlr t x).out = d.out := rfl
@[simp] theorem Dev.setFlr_free (t : Nat) (x : Flr) : (d.setFlr t x).free = d.free := rfl
@[simp] theorem Dev.setFlr_almCnt (t : Nat) (x : Flr) : (d.setFlr t x).almCnt = d.almCnt := rfl
@[simp] theorem Dev.setFlr_alm (t : Nat) (x : Flr) : (d.setFlr t x).alm = d.alm := rfl
@[simp] theorem Dev.setFlr_pd (t : Nat) (x : Flr) : (d.setFlr t x).pd = d.pd := rfl
@[simp] theorem Dev.setFlr_pack (t : Nat) (x : Flr) : (d.setFlr t x).pack = d.pack := rfl
@[simp] theorem Dev.setFlr_rat (t : Nat) (x : Flr) : (d.setFlr t x).rat = d.rat := rfl
@[simp] theorem Dev.setFlr_hub (t : Nat) (x : Flr) : (d.setFlr t x).hub = d.hub := rfl
@[simp] theorem Dev.setFlr_lhe (t : Nat) (x : Flr) : (d.setFlr t x).lhe = d.lhe := rfl
@[simp] theorem Dev.setFlr_tdm (t : Nat) (x : Flr) : (d.setFlr t x).tdm = d.tdm := rfl
@[simp] theorem Dev.setFlr_pllOn (t : Nat) (x : Flr) : (d.setFlr t x).pllOn = d.pllOn := rfl
@[simp] theorem Dev.setFlr_ecc (t : Nat) (x : Flr) : (d.setFlr t x).ecc = d.ecc := rfl
@[simp] theorem Dev.setFlr_hay (t : Nat) (x : Flr) : (d.setFlr t x).hay = d.hay := rfl
@[simp] theorem Dev.setFlr_yok (t : Nat) (x : Flr) : (d.setFlr t x).yok = d.yok := rfl
@[simp] theorem Dev.setFlr_stw (t : Nat) (x : Flr) : (d.setFlr t x).stw = d.stw := rfl
@[simp] theorem Dev.setFlr_flash (t : Nat) (x : Flr) : (d.setFlr t x).flash = d.flash := rfl
@[simp] theorem Dev.setFlr_fls (t : Nat) (x : Flr) : (d.setFlr t x).fls = d.fls := rfl
@[simp] theorem Dev.setFlr_grn (t : Nat) (x : Flr) : (d.setFlr t x).grn = d.grn := rfl
@[simp] theorem Dev.setFlr_fuse (t : Nat) (x : Flr) : (d.setFlr t x).fuse = d.fuse := rfl
@[simp] theorem Dev.setFlr_key (t : Nat) (x : Flr) : (d.setFlr t x).key = d.key := rfl
@[simp] theorem Dev.setFlr_get (t : Nat) (x : Flr) (g : Fld) : (d.setFlr t x).get g = d.get g := rfl

@[simp] theorem Dev.setLane_fld (n : Nat) (x : HLane) : (d.setLane n x).fld = d.fld := rfl
@[simp] theorem Dev.setLane_code (n : Nat) (x : HLane) : (d.setLane n x).code = d.code := rfl
@[simp] theorem Dev.setLane_cross (n : Nat) (x : HLane) : (d.setLane n x).cross = d.cross := rfl
@[simp] theorem Dev.setLane_pow (n : Nat) (x : HLane) : (d.setLane n x).pow = d.pow := rfl
@[simp] theorem Dev.setLane_xt (n : Nat) (x : HLane) : (d.setLane n x).xt = d.xt := rfl
@[simp] theorem Dev.setLane_lar (n : Nat) (x : HLane) : (d.setLane n x).lar = d.lar := rfl
@[simp] theorem Dev.setLane_strm (n : Nat) (x : HLane) : (d.setLane n x).strm = d.strm := rfl
@[simp] theorem Dev.setLane_hif (n : Nat) (x : HLane) : (d.setLane n x).hif = d.hif := rfl
@[simp] theorem Dev.setLane_flr (n : Nat) (x : HLane) : (d.setLane n x).flr = d.flr := rfl
@[simp] theorem Dev.setLane_urec (n : Nat) (x : HLane) : (d.setLane n x).urec = d.urec := rfl
@[simp] theorem Dev.setLane_alert (n : Nat) (x : HLane) : (d.setLane n x).alert = d.alert := rfl
@[simp] theorem Dev.setLane_out (n : Nat) (x : HLane) : (d.setLane n x).out = d.out := rfl
@[simp] theorem Dev.setLane_free (n : Nat) (x : HLane) : (d.setLane n x).free = d.free := rfl
@[simp] theorem Dev.setLane_almCnt (n : Nat) (x : HLane) : (d.setLane n x).almCnt = d.almCnt := rfl
@[simp] theorem Dev.setLane_alm (n : Nat) (x : HLane) : (d.setLane n x).alm = d.alm := rfl
@[simp] theorem Dev.setLane_pd (n : Nat) (x : HLane) : (d.setLane n x).pd = d.pd := rfl
@[simp] theorem Dev.setLane_pack (n : Nat) (x : HLane) : (d.setLane n x).pack = d.pack := rfl
@[simp] theorem Dev.setLane_rat (n : Nat) (x : HLane) : (d.setLane n x).rat = d.rat := rfl
@[simp] theorem Dev.setLane_hub (n : Nat) (x : HLane) : (d.setLane n x).hub = d.hub := rfl
@[simp] theorem Dev.setLane_lhe (n : Nat) (x : HLane) : (d.setLane n x).lhe = d.lhe := rfl
@[simp] theorem Dev.setLane_tdm (n : Nat) (x : HLane) : (d.setLane n x).tdm = d.tdm := rfl
@[simp] theorem Dev.setLane_pllOn (n : Nat) (x : HLane) : (d.setLane n x).pllOn = d.pllOn := rfl
@[simp] theorem Dev.setLane_ecc (n : Nat) (x : HLane) : (d.setLane n x).ecc = d.ecc := rfl
@[simp] theorem Dev.setLane_yok (n : Nat) (x : HLane) : (d.setLane n x).yok = d.yok := rfl
@[simp] theorem Dev.setLane_stw (n : Nat) (x : HLane) : (d.setLane n x).stw = d.stw := rfl
@[simp] theorem Dev.setLane_flash (n : Nat) (x : HLane) : (d.setLane n x).flash = d.flash := rfl
@[simp] theorem Dev.setLane_fls (n : Nat) (x : HLane) : (d.setLane n x).fls = d.fls := rfl
@[simp] theorem Dev.setLane_grn (n : Nat) (x : HLane) : (d.setLane n x).grn = d.grn := rfl
@[simp] theorem Dev.setLane_fuse (n : Nat) (x : HLane) : (d.setLane n x).fuse = d.fuse := rfl
@[simp] theorem Dev.setLane_key (n : Nat) (x : HLane) : (d.setLane n x).key = d.key := rfl
@[simp] theorem Dev.setLane_get (n : Nat) (x : HLane) (g : Fld) : (d.setLane n x).get g = d.get g := rfl

@[simp] theorem Dev.setFlow_fld (f : Nat) (x : Flow) : (d.setFlow f x).fld = d.fld := rfl
@[simp] theorem Dev.setFlow_code (f : Nat) (x : Flow) : (d.setFlow f x).code = d.code := rfl
@[simp] theorem Dev.setFlow_cross (f : Nat) (x : Flow) : (d.setFlow f x).cross = d.cross := rfl
@[simp] theorem Dev.setFlow_pow (f : Nat) (x : Flow) : (d.setFlow f x).pow = d.pow := rfl
@[simp] theorem Dev.setFlow_xt (f : Nat) (x : Flow) : (d.setFlow f x).xt = d.xt := rfl
@[simp] theorem Dev.setFlow_lar (f : Nat) (x : Flow) : (d.setFlow f x).lar = d.lar := rfl
@[simp] theorem Dev.setFlow_strm (f : Nat) (x : Flow) : (d.setFlow f x).strm = d.strm := rfl
@[simp] theorem Dev.setFlow_hif (f : Nat) (x : Flow) : (d.setFlow f x).hif = d.hif := rfl
@[simp] theorem Dev.setFlow_flr (f : Nat) (x : Flow) : (d.setFlow f x).flr = d.flr := rfl
@[simp] theorem Dev.setFlow_urec (f : Nat) (x : Flow) : (d.setFlow f x).urec = d.urec := rfl
@[simp] theorem Dev.setFlow_alert (f : Nat) (x : Flow) : (d.setFlow f x).alert = d.alert := rfl
@[simp] theorem Dev.setFlow_out (f : Nat) (x : Flow) : (d.setFlow f x).out = d.out := rfl
@[simp] theorem Dev.setFlow_free (f : Nat) (x : Flow) : (d.setFlow f x).free = d.free := rfl
@[simp] theorem Dev.setFlow_almCnt (f : Nat) (x : Flow) : (d.setFlow f x).almCnt = d.almCnt := rfl
@[simp] theorem Dev.setFlow_alm (f : Nat) (x : Flow) : (d.setFlow f x).alm = d.alm := rfl
@[simp] theorem Dev.setFlow_pd (f : Nat) (x : Flow) : (d.setFlow f x).pd = d.pd := rfl
@[simp] theorem Dev.setFlow_pack (f : Nat) (x : Flow) : (d.setFlow f x).pack = d.pack := rfl
@[simp] theorem Dev.setFlow_rat (f : Nat) (x : Flow) : (d.setFlow f x).rat = d.rat := rfl
@[simp] theorem Dev.setFlow_hub (f : Nat) (x : Flow) : (d.setFlow f x).hub = d.hub := rfl
@[simp] theorem Dev.setFlow_lhe (f : Nat) (x : Flow) : (d.setFlow f x).lhe = d.lhe := rfl
@[simp] theorem Dev.setFlow_tdm (f : Nat) (x : Flow) : (d.setFlow f x).tdm = d.tdm := rfl
@[simp] theorem Dev.setFlow_pllOn (f : Nat) (x : Flow) : (d.setFlow f x).pllOn = d.pllOn := rfl
@[simp] theorem Dev.setFlow_ecc (f : Nat) (x : Flow) : (d.setFlow f x).ecc = d.ecc := rfl
@[simp] theorem Dev.setFlow_yok (f : Nat) (x : Flow) : (d.setFlow f x).yok = d.yok := rfl
@[simp] theorem Dev.setFlow_stw (f : Nat) (x : Flow) : (d.setFlow f x).stw = d.stw := rfl
@[simp] theorem Dev.setFlow_flash (f : Nat) (x : Flow) : (d.setFlow f x).flash = d.flash := rfl
@[simp] theorem Dev.setFlow_fls (f : Nat) (x : Flow) : (d.setFlow f x).fls = d.fls := rfl
@[simp] theorem Dev.setFlow_grn (f : Nat) (x : Flow) : (d.setFlow f x).grn = d.grn := rfl
@[simp] theorem Dev.setFlow_fuse (f : Nat) (x : Flow) : (d.setFlow f x).fuse = d.fuse := rfl
@[simp] theorem Dev.setFlow_key (f : Nat) (x : Flow) : (d.setFlow f x).key = d.key := rfl
@[simp] theorem Dev.setFlow_get (f : Nat) (x : Flow) (g : Fld) : (d.setFlow f x).get g = d.get g := rfl

@[simp] theorem Dev.setCtx_fld (c : Nat) (x : Ctx) : (d.setCtx c x).fld = d.fld := rfl
@[simp] theorem Dev.setCtx_code (c : Nat) (x : Ctx) : (d.setCtx c x).code = d.code := rfl
@[simp] theorem Dev.setCtx_cross (c : Nat) (x : Ctx) : (d.setCtx c x).cross = d.cross := rfl
@[simp] theorem Dev.setCtx_pow (c : Nat) (x : Ctx) : (d.setCtx c x).pow = d.pow := rfl
@[simp] theorem Dev.setCtx_xt (c : Nat) (x : Ctx) : (d.setCtx c x).xt = d.xt := rfl
@[simp] theorem Dev.setCtx_lar (c : Nat) (x : Ctx) : (d.setCtx c x).lar = d.lar := rfl
@[simp] theorem Dev.setCtx_strm (c : Nat) (x : Ctx) : (d.setCtx c x).strm = d.strm := rfl
@[simp] theorem Dev.setCtx_hif (c : Nat) (x : Ctx) : (d.setCtx c x).hif = d.hif := rfl
@[simp] theorem Dev.setCtx_flr (c : Nat) (x : Ctx) : (d.setCtx c x).flr = d.flr := rfl
@[simp] theorem Dev.setCtx_urec (c : Nat) (x : Ctx) : (d.setCtx c x).urec = d.urec := rfl
@[simp] theorem Dev.setCtx_alert (c : Nat) (x : Ctx) : (d.setCtx c x).alert = d.alert := rfl
@[simp] theorem Dev.setCtx_out (c : Nat) (x : Ctx) : (d.setCtx c x).out = d.out := rfl
@[simp] theorem Dev.setCtx_free (c : Nat) (x : Ctx) : (d.setCtx c x).free = d.free := rfl
@[simp] theorem Dev.setCtx_almCnt (c : Nat) (x : Ctx) : (d.setCtx c x).almCnt = d.almCnt := rfl
@[simp] theorem Dev.setCtx_alm (c : Nat) (x : Ctx) : (d.setCtx c x).alm = d.alm := rfl
@[simp] theorem Dev.setCtx_pd (c : Nat) (x : Ctx) : (d.setCtx c x).pd = d.pd := rfl
@[simp] theorem Dev.setCtx_pack (c : Nat) (x : Ctx) : (d.setCtx c x).pack = d.pack := rfl
@[simp] theorem Dev.setCtx_rat (c : Nat) (x : Ctx) : (d.setCtx c x).rat = d.rat := rfl
@[simp] theorem Dev.setCtx_hub (c : Nat) (x : Ctx) : (d.setCtx c x).hub = d.hub := rfl
@[simp] theorem Dev.setCtx_tdm (c : Nat) (x : Ctx) : (d.setCtx c x).tdm = d.tdm := rfl
@[simp] theorem Dev.setCtx_pllOn (c : Nat) (x : Ctx) : (d.setCtx c x).pllOn = d.pllOn := rfl
@[simp] theorem Dev.setCtx_ecc (c : Nat) (x : Ctx) : (d.setCtx c x).ecc = d.ecc := rfl
@[simp] theorem Dev.setCtx_hay (c : Nat) (x : Ctx) : (d.setCtx c x).hay = d.hay := rfl
@[simp] theorem Dev.setCtx_yok (c : Nat) (x : Ctx) : (d.setCtx c x).yok = d.yok := rfl
@[simp] theorem Dev.setCtx_stw (c : Nat) (x : Ctx) : (d.setCtx c x).stw = d.stw := rfl
@[simp] theorem Dev.setCtx_flash (c : Nat) (x : Ctx) : (d.setCtx c x).flash = d.flash := rfl
@[simp] theorem Dev.setCtx_fls (c : Nat) (x : Ctx) : (d.setCtx c x).fls = d.fls := rfl
@[simp] theorem Dev.setCtx_grn (c : Nat) (x : Ctx) : (d.setCtx c x).grn = d.grn := rfl
@[simp] theorem Dev.setCtx_fuse (c : Nat) (x : Ctx) : (d.setCtx c x).fuse = d.fuse := rfl
@[simp] theorem Dev.setCtx_key (c : Nat) (x : Ctx) : (d.setCtx c x).key = d.key := rfl
@[simp] theorem Dev.setCtx_get (c : Nat) (x : Ctx) (g : Fld) : (d.setCtx c x).get g = d.get g := rfl

@[simp] theorem Dev.modHubPort_fld (p : Nat) (f : HubPort → HubPort) : (d.modHubPort p f).fld = d.fld := rfl
@[simp] theorem Dev.modHubPort_code (p : Nat) (f : HubPort → HubPort) : (d.modHubPort p f).code = d.code := rfl
@[simp] theorem Dev.modHubPort_cross (p : Nat) (f : HubPort → HubPort) : (d.modHubPort p f).cross = d.cross := rfl
@[simp] theorem Dev.modHubPort_pow (p : Nat) (f : HubPort → HubPort) : (d.modHubPort p f).pow = d.pow := rfl
@[simp] theorem Dev.modHubPort_xt (p : Nat) (f : HubPort → HubPort) : (d.modHubPort p f).xt = d.xt := rfl
@[simp] theorem Dev.modHubPort_lar (p : Nat) (f : HubPort → HubPort) : (d.modHubPort p f).lar = d.lar := rfl
@[simp] theorem Dev.modHubPort_strm (p : Nat) (f : HubPort → HubPort) : (d.modHubPort p f).strm = d.strm := rfl
@[simp] theorem Dev.modHubPort_hif (p : Nat) (f : HubPort → HubPort) : (d.modHubPort p f).hif = d.hif := rfl
@[simp] theorem Dev.modHubPort_flr (p : Nat) (f : HubPort → HubPort) : (d.modHubPort p f).flr = d.flr := rfl
@[simp] theorem Dev.modHubPort_urec (p : Nat) (f : HubPort → HubPort) : (d.modHubPort p f).urec = d.urec := rfl
@[simp] theorem Dev.modHubPort_alert (p : Nat) (f : HubPort → HubPort) : (d.modHubPort p f).alert = d.alert := rfl
@[simp] theorem Dev.modHubPort_out (p : Nat) (f : HubPort → HubPort) : (d.modHubPort p f).out = d.out := rfl
@[simp] theorem Dev.modHubPort_free (p : Nat) (f : HubPort → HubPort) : (d.modHubPort p f).free = d.free := rfl
@[simp] theorem Dev.modHubPort_almCnt (p : Nat) (f : HubPort → HubPort) : (d.modHubPort p f).almCnt = d.almCnt := rfl
@[simp] theorem Dev.modHubPort_alm (p : Nat) (f : HubPort → HubPort) : (d.modHubPort p f).alm = d.alm := rfl
@[simp] theorem Dev.modHubPort_pd (p : Nat) (f : HubPort → HubPort) : (d.modHubPort p f).pd = d.pd := rfl
@[simp] theorem Dev.modHubPort_pack (p : Nat) (f : HubPort → HubPort) : (d.modHubPort p f).pack = d.pack := rfl
@[simp] theorem Dev.modHubPort_rat (p : Nat) (f : HubPort → HubPort) : (d.modHubPort p f).rat = d.rat := rfl
@[simp] theorem Dev.modHubPort_lhe (p : Nat) (f : HubPort → HubPort) : (d.modHubPort p f).lhe = d.lhe := rfl
@[simp] theorem Dev.modHubPort_tdm (p : Nat) (f : HubPort → HubPort) : (d.modHubPort p f).tdm = d.tdm := rfl
@[simp] theorem Dev.modHubPort_pllOn (p : Nat) (f : HubPort → HubPort) : (d.modHubPort p f).pllOn = d.pllOn := rfl
@[simp] theorem Dev.modHubPort_ecc (p : Nat) (f : HubPort → HubPort) : (d.modHubPort p f).ecc = d.ecc := rfl
@[simp] theorem Dev.modHubPort_hay (p : Nat) (f : HubPort → HubPort) : (d.modHubPort p f).hay = d.hay := rfl
@[simp] theorem Dev.modHubPort_yok (p : Nat) (f : HubPort → HubPort) : (d.modHubPort p f).yok = d.yok := rfl
@[simp] theorem Dev.modHubPort_stw (p : Nat) (f : HubPort → HubPort) : (d.modHubPort p f).stw = d.stw := rfl
@[simp] theorem Dev.modHubPort_flash (p : Nat) (f : HubPort → HubPort) : (d.modHubPort p f).flash = d.flash := rfl
@[simp] theorem Dev.modHubPort_fls (p : Nat) (f : HubPort → HubPort) : (d.modHubPort p f).fls = d.fls := rfl
@[simp] theorem Dev.modHubPort_grn (p : Nat) (f : HubPort → HubPort) : (d.modHubPort p f).grn = d.grn := rfl
@[simp] theorem Dev.modHubPort_fuse (p : Nat) (f : HubPort → HubPort) : (d.modHubPort p f).fuse = d.fuse := rfl
@[simp] theorem Dev.modHubPort_key (p : Nat) (f : HubPort → HubPort) : (d.modHubPort p f).key = d.key := rfl
@[simp] theorem Dev.modHubPort_get (p : Nat) (f : HubPort → HubPort) (g : Fld) : (d.modHubPort p f).get g = d.get g := rfl

@[simp] theorem Dev.setRead_fld (t q : Nat) (r : FetchRd) : (d.setRead t q r).fld = d.fld := rfl
@[simp] theorem Dev.setRead_code (t q : Nat) (r : FetchRd) : (d.setRead t q r).code = d.code := rfl
@[simp] theorem Dev.setRead_cross (t q : Nat) (r : FetchRd) : (d.setRead t q r).cross = d.cross := rfl
@[simp] theorem Dev.setRead_pow (t q : Nat) (r : FetchRd) : (d.setRead t q r).pow = d.pow := rfl
@[simp] theorem Dev.setRead_xt (t q : Nat) (r : FetchRd) : (d.setRead t q r).xt = d.xt := rfl
@[simp] theorem Dev.setRead_lar (t q : Nat) (r : FetchRd) : (d.setRead t q r).lar = d.lar := rfl
@[simp] theorem Dev.setRead_strm (t q : Nat) (r : FetchRd) : (d.setRead t q r).strm = d.strm := rfl
@[simp] theorem Dev.setRead_flr (t q : Nat) (r : FetchRd) : (d.setRead t q r).flr = d.flr := rfl
@[simp] theorem Dev.setRead_urec (t q : Nat) (r : FetchRd) : (d.setRead t q r).urec = d.urec := rfl
@[simp] theorem Dev.setRead_alert (t q : Nat) (r : FetchRd) : (d.setRead t q r).alert = d.alert := rfl
@[simp] theorem Dev.setRead_out (t q : Nat) (r : FetchRd) : (d.setRead t q r).out = d.out := rfl
@[simp] theorem Dev.setRead_free (t q : Nat) (r : FetchRd) : (d.setRead t q r).free = d.free := rfl
@[simp] theorem Dev.setRead_almCnt (t q : Nat) (r : FetchRd) : (d.setRead t q r).almCnt = d.almCnt := rfl
@[simp] theorem Dev.setRead_alm (t q : Nat) (r : FetchRd) : (d.setRead t q r).alm = d.alm := rfl
@[simp] theorem Dev.setRead_pd (t q : Nat) (r : FetchRd) : (d.setRead t q r).pd = d.pd := rfl
@[simp] theorem Dev.setRead_pack (t q : Nat) (r : FetchRd) : (d.setRead t q r).pack = d.pack := rfl
@[simp] theorem Dev.setRead_rat (t q : Nat) (r : FetchRd) : (d.setRead t q r).rat = d.rat := rfl
@[simp] theorem Dev.setRead_hub (t q : Nat) (r : FetchRd) : (d.setRead t q r).hub = d.hub := rfl
@[simp] theorem Dev.setRead_lhe (t q : Nat) (r : FetchRd) : (d.setRead t q r).lhe = d.lhe := rfl
@[simp] theorem Dev.setRead_tdm (t q : Nat) (r : FetchRd) : (d.setRead t q r).tdm = d.tdm := rfl
@[simp] theorem Dev.setRead_pllOn (t q : Nat) (r : FetchRd) : (d.setRead t q r).pllOn = d.pllOn := rfl
@[simp] theorem Dev.setRead_ecc (t q : Nat) (r : FetchRd) : (d.setRead t q r).ecc = d.ecc := rfl
@[simp] theorem Dev.setRead_hay (t q : Nat) (r : FetchRd) : (d.setRead t q r).hay = d.hay := rfl
@[simp] theorem Dev.setRead_yok (t q : Nat) (r : FetchRd) : (d.setRead t q r).yok = d.yok := rfl
@[simp] theorem Dev.setRead_stw (t q : Nat) (r : FetchRd) : (d.setRead t q r).stw = d.stw := rfl
@[simp] theorem Dev.setRead_flash (t q : Nat) (r : FetchRd) : (d.setRead t q r).flash = d.flash := rfl
@[simp] theorem Dev.setRead_fls (t q : Nat) (r : FetchRd) : (d.setRead t q r).fls = d.fls := rfl
@[simp] theorem Dev.setRead_grn (t q : Nat) (r : FetchRd) : (d.setRead t q r).grn = d.grn := rfl
@[simp] theorem Dev.setRead_fuse (t q : Nat) (r : FetchRd) : (d.setRead t q r).fuse = d.fuse := rfl
@[simp] theorem Dev.setRead_key (t q : Nat) (r : FetchRd) : (d.setRead t q r).key = d.key := rfl
@[simp] theorem Dev.setRead_get (t q : Nat) (r : FetchRd) (g : Fld) : (d.setRead t q r).get g = d.get g := rfl

@[simp] theorem Dev.setFetched_fld (t q : Nat) (l : List Tkt) : (d.setFetched t q l).fld = d.fld := rfl
@[simp] theorem Dev.setFetched_code (t q : Nat) (l : List Tkt) : (d.setFetched t q l).code = d.code := rfl
@[simp] theorem Dev.setFetched_cross (t q : Nat) (l : List Tkt) : (d.setFetched t q l).cross = d.cross := rfl
@[simp] theorem Dev.setFetched_pow (t q : Nat) (l : List Tkt) : (d.setFetched t q l).pow = d.pow := rfl
@[simp] theorem Dev.setFetched_xt (t q : Nat) (l : List Tkt) : (d.setFetched t q l).xt = d.xt := rfl
@[simp] theorem Dev.setFetched_lar (t q : Nat) (l : List Tkt) : (d.setFetched t q l).lar = d.lar := rfl
@[simp] theorem Dev.setFetched_strm (t q : Nat) (l : List Tkt) : (d.setFetched t q l).strm = d.strm := rfl
@[simp] theorem Dev.setFetched_flr (t q : Nat) (l : List Tkt) : (d.setFetched t q l).flr = d.flr := rfl
@[simp] theorem Dev.setFetched_urec (t q : Nat) (l : List Tkt) : (d.setFetched t q l).urec = d.urec := rfl
@[simp] theorem Dev.setFetched_alert (t q : Nat) (l : List Tkt) : (d.setFetched t q l).alert = d.alert := rfl
@[simp] theorem Dev.setFetched_out (t q : Nat) (l : List Tkt) : (d.setFetched t q l).out = d.out := rfl
@[simp] theorem Dev.setFetched_free (t q : Nat) (l : List Tkt) : (d.setFetched t q l).free = d.free := rfl
@[simp] theorem Dev.setFetched_almCnt (t q : Nat) (l : List Tkt) : (d.setFetched t q l).almCnt = d.almCnt := rfl
@[simp] theorem Dev.setFetched_alm (t q : Nat) (l : List Tkt) : (d.setFetched t q l).alm = d.alm := rfl
@[simp] theorem Dev.setFetched_pd (t q : Nat) (l : List Tkt) : (d.setFetched t q l).pd = d.pd := rfl
@[simp] theorem Dev.setFetched_pack (t q : Nat) (l : List Tkt) : (d.setFetched t q l).pack = d.pack := rfl
@[simp] theorem Dev.setFetched_rat (t q : Nat) (l : List Tkt) : (d.setFetched t q l).rat = d.rat := rfl
@[simp] theorem Dev.setFetched_hub (t q : Nat) (l : List Tkt) : (d.setFetched t q l).hub = d.hub := rfl
@[simp] theorem Dev.setFetched_lhe (t q : Nat) (l : List Tkt) : (d.setFetched t q l).lhe = d.lhe := rfl
@[simp] theorem Dev.setFetched_tdm (t q : Nat) (l : List Tkt) : (d.setFetched t q l).tdm = d.tdm := rfl
@[simp] theorem Dev.setFetched_pllOn (t q : Nat) (l : List Tkt) : (d.setFetched t q l).pllOn = d.pllOn := rfl
@[simp] theorem Dev.setFetched_ecc (t q : Nat) (l : List Tkt) : (d.setFetched t q l).ecc = d.ecc := rfl
@[simp] theorem Dev.setFetched_hay (t q : Nat) (l : List Tkt) : (d.setFetched t q l).hay = d.hay := rfl
@[simp] theorem Dev.setFetched_yok (t q : Nat) (l : List Tkt) : (d.setFetched t q l).yok = d.yok := rfl
@[simp] theorem Dev.setFetched_stw (t q : Nat) (l : List Tkt) : (d.setFetched t q l).stw = d.stw := rfl
@[simp] theorem Dev.setFetched_flash (t q : Nat) (l : List Tkt) : (d.setFetched t q l).flash = d.flash := rfl
@[simp] theorem Dev.setFetched_fls (t q : Nat) (l : List Tkt) : (d.setFetched t q l).fls = d.fls := rfl
@[simp] theorem Dev.setFetched_grn (t q : Nat) (l : List Tkt) : (d.setFetched t q l).grn = d.grn := rfl
@[simp] theorem Dev.setFetched_fuse (t q : Nat) (l : List Tkt) : (d.setFetched t q l).fuse = d.fuse := rfl
@[simp] theorem Dev.setFetched_key (t q : Nat) (l : List Tkt) : (d.setFetched t q l).key = d.key := rfl
@[simp] theorem Dev.setFetched_get (t q : Nat) (l : List Tkt) (g : Fld) : (d.setFetched t q l).get g = d.get g := rfl

@[simp] theorem Dev.setCrossing_fld (n : Nat) (x : Crossing) : (d.setCrossing n x).fld = d.fld := rfl
@[simp] theorem Dev.setCrossing_code (n : Nat) (x : Crossing) : (d.setCrossing n x).code = d.code := rfl
@[simp] theorem Dev.setCrossing_pow (n : Nat) (x : Crossing) : (d.setCrossing n x).pow = d.pow := rfl
@[simp] theorem Dev.setCrossing_xt (n : Nat) (x : Crossing) : (d.setCrossing n x).xt = d.xt := rfl
@[simp] theorem Dev.setCrossing_lar (n : Nat) (x : Crossing) : (d.setCrossing n x).lar = d.lar := rfl
@[simp] theorem Dev.setCrossing_strm (n : Nat) (x : Crossing) : (d.setCrossing n x).strm = d.strm := rfl
@[simp] theorem Dev.setCrossing_hif (n : Nat) (x : Crossing) : (d.setCrossing n x).hif = d.hif := rfl
@[simp] theorem Dev.setCrossing_flr (n : Nat) (x : Crossing) : (d.setCrossing n x).flr = d.flr := rfl
@[simp] theorem Dev.setCrossing_urec (n : Nat) (x : Crossing) : (d.setCrossing n x).urec = d.urec := rfl
@[simp] theorem Dev.setCrossing_alert (n : Nat) (x : Crossing) : (d.setCrossing n x).alert = d.alert := rfl
@[simp] theorem Dev.setCrossing_out (n : Nat) (x : Crossing) : (d.setCrossing n x).out = d.out := rfl
@[simp] theorem Dev.setCrossing_free (n : Nat) (x : Crossing) : (d.setCrossing n x).free = d.free := rfl
@[simp] theorem Dev.setCrossing_almCnt (n : Nat) (x : Crossing) : (d.setCrossing n x).almCnt = d.almCnt := rfl
@[simp] theorem Dev.setCrossing_alm (n : Nat) (x : Crossing) : (d.setCrossing n x).alm = d.alm := rfl
@[simp] theorem Dev.setCrossing_pd (n : Nat) (x : Crossing) : (d.setCrossing n x).pd = d.pd := rfl
@[simp] theorem Dev.setCrossing_pack (n : Nat) (x : Crossing) : (d.setCrossing n x).pack = d.pack := rfl
@[simp] theorem Dev.setCrossing_rat (n : Nat) (x : Crossing) : (d.setCrossing n x).rat = d.rat := rfl
@[simp] theorem Dev.setCrossing_hub (n : Nat) (x : Crossing) : (d.setCrossing n x).hub = d.hub := rfl
@[simp] theorem Dev.setCrossing_lhe (n : Nat) (x : Crossing) : (d.setCrossing n x).lhe = d.lhe := rfl
@[simp] theorem Dev.setCrossing_tdm (n : Nat) (x : Crossing) : (d.setCrossing n x).tdm = d.tdm := rfl
@[simp] theorem Dev.setCrossing_pllOn (n : Nat) (x : Crossing) : (d.setCrossing n x).pllOn = d.pllOn := rfl
@[simp] theorem Dev.setCrossing_ecc (n : Nat) (x : Crossing) : (d.setCrossing n x).ecc = d.ecc := rfl
@[simp] theorem Dev.setCrossing_hay (n : Nat) (x : Crossing) : (d.setCrossing n x).hay = d.hay := rfl
@[simp] theorem Dev.setCrossing_yok (n : Nat) (x : Crossing) : (d.setCrossing n x).yok = d.yok := rfl
@[simp] theorem Dev.setCrossing_stw (n : Nat) (x : Crossing) : (d.setCrossing n x).stw = d.stw := rfl
@[simp] theorem Dev.setCrossing_flash (n : Nat) (x : Crossing) : (d.setCrossing n x).flash = d.flash := rfl
@[simp] theorem Dev.setCrossing_fls (n : Nat) (x : Crossing) : (d.setCrossing n x).fls = d.fls := rfl
@[simp] theorem Dev.setCrossing_grn (n : Nat) (x : Crossing) : (d.setCrossing n x).grn = d.grn := rfl
@[simp] theorem Dev.setCrossing_fuse (n : Nat) (x : Crossing) : (d.setCrossing n x).fuse = d.fuse := rfl
@[simp] theorem Dev.setCrossing_key (n : Nat) (x : Crossing) : (d.setCrossing n x).key = d.key := rfl

@[simp] theorem Dev.edges_fld (n : Nat) : (d.edges n).fld = d.fld := rfl
@[simp] theorem Dev.edges_code (n : Nat) : (d.edges n).code = d.code := rfl
@[simp] theorem Dev.edges_pow (n : Nat) : (d.edges n).pow = d.pow := rfl
@[simp] theorem Dev.edges_cross (n : Nat) : (d.edges n).cross = d.cross := rfl
@[simp] theorem Dev.edges_lar (n : Nat) : (d.edges n).lar = d.lar := rfl
@[simp] theorem Dev.edges_strm (n : Nat) : (d.edges n).strm = d.strm := rfl
@[simp] theorem Dev.edges_hif (n : Nat) : (d.edges n).hif = d.hif := rfl
@[simp] theorem Dev.edges_flr (n : Nat) : (d.edges n).flr = d.flr := rfl
@[simp] theorem Dev.edges_urec (n : Nat) : (d.edges n).urec = d.urec := rfl
@[simp] theorem Dev.edges_alert (n : Nat) : (d.edges n).alert = d.alert := rfl
@[simp] theorem Dev.edges_out (n : Nat) : (d.edges n).out = d.out := rfl
@[simp] theorem Dev.edges_free (n : Nat) : (d.edges n).free = d.free := rfl
@[simp] theorem Dev.edges_alm (n : Nat) : (d.edges n).alm = d.alm := rfl
@[simp] theorem Dev.edges_pd (n : Nat) : (d.edges n).pd = d.pd := rfl
@[simp] theorem Dev.edges_pack (n : Nat) : (d.edges n).pack = d.pack := rfl
@[simp] theorem Dev.edges_rat (n : Nat) : (d.edges n).rat = d.rat := rfl
@[simp] theorem Dev.edges_hub (n : Nat) : (d.edges n).hub = d.hub := rfl
@[simp] theorem Dev.edges_lhe (n : Nat) : (d.edges n).lhe = d.lhe := rfl
@[simp] theorem Dev.edges_tdm (n : Nat) : (d.edges n).tdm = d.tdm := rfl
@[simp] theorem Dev.edges_pllOn (n : Nat) : (d.edges n).pllOn = d.pllOn := rfl
@[simp] theorem Dev.edges_ecc (n : Nat) : (d.edges n).ecc = d.ecc := rfl
@[simp] theorem Dev.edges_hay (n : Nat) : (d.edges n).hay = d.hay := rfl
@[simp] theorem Dev.edges_yok (n : Nat) : (d.edges n).yok = d.yok := rfl
@[simp] theorem Dev.edges_stw (n : Nat) : (d.edges n).stw = d.stw := rfl
@[simp] theorem Dev.edges_flash (n : Nat) : (d.edges n).flash = d.flash := rfl
@[simp] theorem Dev.edges_fls (n : Nat) : (d.edges n).fls = d.fls := rfl
@[simp] theorem Dev.edges_grn (n : Nat) : (d.edges n).grn = d.grn := rfl
@[simp] theorem Dev.edges_fuse (n : Nat) : (d.edges n).fuse = d.fuse := rfl
@[simp] theorem Dev.edges_key (n : Nat) : (d.edges n).key = d.key := rfl

end Sys2Proof.Machine
end

