-- ==== Sys2Proof/Laws/Ops.lean ====
section
/-!
SUPPORT. The register fields after an update, the end of a command, and the shape of a meaning.
-/
namespace Sys2Proof.Machine

open Sys2Proof

variable (d : Dev)

/-! ### Register fields -/

/-- A field reads as what was written, less what its width drops. -/
@[simp] theorem Dev.get_set_same (f : Fld) (v : Nat) : (d.set f v).get f = v % 2 ^ f.w := by
  by_cases h : d.get f = v % 2 ^ f.w
  · unfold Dev.set; rw [if_pos h]; exact h
  · unfold Dev.set; rw [if_neg h]; simp [Dev.get]

/-- A write of a field leaves every other field alone. -/
theorem Dev.get_set_ne {f g : Fld} (v : Nat) (h : fldId f ≠ fldId g) : (d.set f v).get g = d.get g := by
  by_cases hv : d.get f = v % 2 ^ f.w
  · unfold Dev.set; rw [if_pos hv]
  · unfold Dev.set; rw [if_neg hv]; exact mapGet_put_ne _ _ h

/-- Writing a field with what it reads changes nothing. -/
theorem Dev.set_self {f : Fld} {v : Nat} (h : d.get f = v % 2 ^ f.w) : d.set f v = d := by
  unfold Dev.set; rw [if_pos h]

theorem Dev.setB_get_ne {f g : Fld} (b : Bool) (h : fldId f ≠ fldId g) : (d.setB f b).get g = d.get g := d.get_set_ne _ h

theorem Dev.bump_get_ne {f g : Fld} (h : fldId f ≠ fldId g) : (d.bump f).get g = d.get g := d.get_set_ne _ h

theorem Dev.setBit_get_ne {f g : Fld} (i : Nat) (b : Bool) (h : fldId f ≠ fldId g) : (d.setBit f i b).get g = d.get g := by
  unfold Dev.setBit; split_ifs <;> first | rfl | exact d.get_set_ne _ h

/-- A one-bit field reads as what `setB` gave it. -/
theorem Dev.setB_is {f : Fld} (b : Bool) (h : f.w = 1) : (d.setB f b).is f = b := by
  cases b <;> simp [Dev.is, Dev.setB, bitNat, h]

/-- A one-bit field with the value it has is written with no change. -/
theorem Dev.setB_self {f : Fld} {b : Bool} (hw : f.w = 1) (hb : d.get f = bitNat b) : d.setB f b = d := by
  apply d.set_self; rw [hb, hw]; cases b <;> rfl

/-! ### The end of a command -/

theorem Dev.settleN_nil (n : Nat) (h : d.lar.due = []) : d.settleN n = d := by
  cases n with
  | zero => rw [Dev.settleN, ← h]
  | succ n => simp [Dev.settleN, h]

/-- Accounting leaves nothing owed. -/
theorem Dev.settleN_due (n : Nat) : (d.settleN n).lar.due = [] := by
  induction n generalizing d with
  | zero => rfl
  | succ n ih =>
    unfold Dev.settleN
    split
    · assumption
    · exact ih _

/-- No stage of a shutdown and no abort waits for its end. -/
theorem Dev.progress_id (h2 : d.get F.SUP_STAT_STAGE ≠ 2) (ha : d.pow.aborting = none) (hw : d.pow.abortWait = false) :
    d.progress = d := by
  simp [Dev.progress, h2, ha, hw]

/-- Input that is shown already, or that nothing holds, makes no edge. -/
theorem Dev.inputEdge_id (h : d.get F.SUP_STAT_INPUT = bitNat d.inputHolds) : d.inputEdge = d := by
  unfold Dev.inputEdge
  cases hi : d.inputHolds <;> simp [Dev.is, h, hi, bitNat]

/-! ### Waking the steward -/

theorem Dev.rouse_eq : d.rouse = { d with pow := d.rouse.pow } := by unfold Dev.rouse; split_ifs <;> rfl

@[simp] theorem Dev.rouse_fld : d.rouse.fld = d.fld := by unfold Dev.rouse; split_ifs <;> rfl

@[simp] theorem Dev.rouse_get (g : Fld) : d.rouse.get g = d.get g := by simp [Dev.get]

/-- Out of DOZE nothing is roused. -/
theorem Dev.rouse_id (h : d.pow.state ≠ .doze) : d.rouse = d := by simp [Dev.rouse, h]

@[simp] theorem Dev.rouse_up : d.rouse.up = d.up := by
  unfold Dev.rouse; split_ifs with h
  · simp [Dev.up, h]
  · rfl

@[simp] theorem Dev.rouse_coreOn : d.rouse.coreOn = d.coreOn := by
  unfold Dev.rouse; split_ifs with h
  · simp [Dev.coreOn, h]
  · rfl

/-- What wakes the steward hangs on no power state. -/
@[simp] theorem Dev.rouse_stewardWake : d.rouse.stewardWake = d.stewardWake := by rw [Dev.rouse_eq]; rfl

theorem Dev.rouse_state : d.rouse.pow.state ≠ .doze := by
  unfold Dev.rouse; split_ifs with h
  · simp
  · exact h

@[simp] theorem Dev.wakeSteward_fld : d.wakeSteward.fld = d.fld := by unfold Dev.wakeSteward; split_ifs <;> simp

@[simp] theorem Dev.wakeSteward_get (g : Fld) : d.wakeSteward.get g = d.get g := by simp [Dev.get]

/-- Afterwards nothing wakes the steward in DOZE. -/
theorem Dev.wakeSteward_awake (h : d.wakeSteward.stewardWake = true) : d.wakeSteward.pow.state ≠ .doze := by
  unfold Dev.wakeSteward at h ⊢
  split_ifs with hw
  · exact d.rouse_state
  · rw [if_neg hw] at h; exact absurd h hw

/-! ### The power path and the modes of Ration -/

/-- The power path's level hangs on no switch and no set-point. -/
theorem Dev.pathLevel_pack (a b : Bool) (i j : Nat) :
    ({ d with pack := { d.pack with ppi := a, ppb := b, iset := i, iin := j } } : Dev).pathLevel = d.pathLevel := rfl

@[simp] theorem Dev.rouse_pathLevel : d.rouse.pathLevel = d.pathLevel := by
  have h : d.rouse.pathDriven = d.pathDriven := by
    simp only [Dev.pathDriven, Dev.rouse_coreOn, Dev.rouse_get]
    rw [Dev.rouse_eq]
  unfold Dev.pathLevel
  rw [h, Dev.rouse_eq]
  rfl

/-- RAT_STAT shows its modes already. -/
theorem Dev.ratModes_id (hl : d.get F.RAT_STAT_LEAN = bitNat d.leanMode) (hi : d.get F.RAT_STAT_INONLY = bitNat d.inputOnly)
    (hs : d.get F.RAT_STAT_STKONLY = bitNat d.anyOpen) : d.ratModes = d := by
  unfold Dev.ratModes
  rw [Dev.setB_self d rfl hl, Dev.setB_self d rfl hi, Dev.setB_self d rfl hs]
  simp

/-- Showing the modes leaves every other register alone. -/
theorem Dev.ratModes_get_ne {g : Fld} (h : g.key ≠ F.RAT_STAT_LEAN.key) (hg : g.lo < 32) : d.ratModes.get g = d.get g := by
  have hk : ∀ f ∈ [F.RAT_STAT_LEAN, F.RAT_STAT_INONLY, F.RAT_STAT_STKONLY], fldId f ≠ fldId g := by
    intro f hf
    simp only [List.mem_cons, List.not_mem_nil, or_false] at hf
    rcases hf with rfl | rfl | rfl <;> simp [fldId, F.RAT_STAT_LEAN, F.RAT_STAT_INONLY, F.RAT_STAT_STKONLY] at h ⊢ <;> omega
  unfold Dev.ratModes
  split_ifs
  · rw [Dev.setB_get_ne _ _ (hk _ (by simp)), Dev.setB_get_ne _ _ (hk _ (by simp)), Dev.setB_get_ne _ _ (hk _ (by simp))]
  · rfl

/-- The levels hang on these fields and the ports alone. -/
theorem Dev.inputHolds_congr {d e : Dev} (hp : d.pd = e.pd)
    (hg : ∀ g ∈ [F.CEL_STAT_PRESENT, F.CEL_STAT_LOWEST, F.SUP_PACKCFG_RESTART], d.get g = e.get g)
    (hs : ∀ p, d.get (F.PD_STAT_TCSTATE p) = e.get (F.PD_STAT_TCSTATE p) ∧ d.get (F.PD_STAT_FENCED p) = e.get (F.PD_STAT_FENCED p) ∧
      d.get (F.PD_STAT_CONTRACT p) = e.get (F.PD_STAT_CONTRACT p)) : d.inputHolds = e.inputHolds := by
  have h1 : d.packInput = e.packInput := by
    simp only [Dev.packInput, Dev.is]
    rw [hg F.CEL_STAT_PRESENT (by simp), hg F.CEL_STAT_LOWEST (by simp), hg F.SUP_PACKCFG_RESTART (by simp)]
  have h2 : d.portPower = e.portPower := by
    funext p
    obtain ⟨a, b, c⟩ := hs p
    simp only [Dev.portPower, Dev.portInput, Dev.isSink, Dev.tcState, Dev.is, Dev.port, a, b, c, hp]
  simp only [Dev.inputHolds, h1, h2]

/-- Writing SUP_STAT.INPUT or LOWPACK leaves alone what decides them. -/
theorem Dev.inputHolds_set_stat (f : Fld) (v : Nat) (h : f.key = 0x1028) (hl : f.lo < 32) : (d.set f v).inputHolds = d.inputHolds := by
  refine Dev.inputHolds_congr (d := d.set f v) (e := d) rfl ?_ ?_
  · intro g hg
    apply d.get_set_ne
    simp only [List.mem_cons, List.not_mem_nil, or_false] at hg
    rcases hg with rfl | rfl | rfl <;> simp [fldId, h, F.CEL_STAT_PRESENT, F.CEL_STAT_LOWEST, F.SUP_PACKCFG_RESTART] <;> omega
  · intro p
    refine ⟨?_, ?_, ?_⟩ <;> apply d.get_set_ne <;>
      simp [fldId, h, F.PD_STAT_TCSTATE, F.PD_STAT_FENCED, F.PD_STAT_CONTRACT] <;> omega

end Sys2Proof.Machine
end

