-- ==== Sys2Proof/Laws/Events.lean ====
section
/-!
SUPPORT. Queueing event entries: what it leaves alone.
-/
namespace Sys2Proof.Machine

open Sys2Proof

/-! ### Only the fields listed, or those and the event entries -/

theorem Dev.Told.refl (d : Dev) (fs : List Fld) : d.Told d fs := ⟨rfl, fun _ _ _ => rfl⟩

theorem Dev.Told.trans {d e x : Dev} {fs gs : List Fld} (h : d.Told e fs) (k : e.Told x gs) : d.Told x (fs ++ gs) := by
  obtain ⟨h1, h2⟩ := h
  obtain ⟨k1, k2⟩ := k
  refine ⟨by rw [k1, h1], fun g hp hg => ?_⟩
  rw [k2 g hp fun f hf => hg f (List.mem_append_right _ hf), h2 g hp fun f hf => hg f (List.mem_append_left _ hf)]

theorem Dev.Told.step {d e x : Dev} {fs : List Fld} (h : d.Told e fs) (k : e.Told x []) : d.Told x fs := by
  simpa using h.trans k

theorem Dev.Told.mono {d e : Dev} {fs gs : List Fld} (h : d.Told e fs) (hs : fs ⊆ gs) : d.Told e gs :=
  ⟨h.1, fun g hp hg => h.2 g hp fun f hf => hg f (hs hf)⟩

theorem Dev.Only.told {d e : Dev} {fs : List Fld} (h : d.Only e fs) : d.Told e fs := by
  refine ⟨?_, fun g _ hg => h.2 g hg⟩
  conv_lhs => rw [h.1]
  have hl : e.lar = d.lar := by rw [h.1]
  rw [hl]

theorem Dev.Only.refl (d : Dev) (fs : List Fld) : d.Only d fs := ⟨rfl, fun _ _ => rfl⟩

theorem Dev.Only.trans {d e x : Dev} {fs gs : List Fld} (h : d.Only e fs) (k : e.Only x gs) : d.Only x (fs ++ gs) := by
  obtain ⟨h1, h2⟩ := h
  obtain ⟨k1, k2⟩ := k
  refine ⟨by rw [k1, h1], fun g hg => ?_⟩
  rw [k2 g fun f hf => hg f (List.mem_append_right _ hf), h2 g fun f hf => hg f (List.mem_append_left _ hf)]

theorem Dev.Only.mono {d e : Dev} {fs gs : List Fld} (h : d.Only e fs) (hs : fs ⊆ gs) : d.Only e gs :=
  ⟨h.1, fun g hg => h.2 g fun f hf => hg f (hs hf)⟩

theorem Dev.only_set (d : Dev) (f : Fld) (v : Nat) : d.Only (d.set f v) [f] :=
  ⟨rfl, fun g hg => d.get_set_ne v (hg f (by simp))⟩

theorem Dev.only_setB (d : Dev) (f : Fld) (b : Bool) : d.Only (d.setB f b) [f] := d.only_set f _

theorem Dev.only_bump (d : Dev) (f : Fld) : d.Only (d.bump f) [f] := d.only_set f _

theorem Dev.only_setBit (d : Dev) (f : Fld) (i : Nat) (b : Bool) : d.Only (d.setBit f i b) [f] := by
  unfold Dev.setBit; split_ifs <;> first | exact Dev.Only.refl _ _ | exact d.only_set _ _

/-- A field that no event entry touches may be written on the way. -/
theorem Dev.told_set (d : Dev) {f : Fld} (v : Nat) (h : ∀ g, PlainFld g → fldId f ≠ fldId g) : d.Told (d.set f v) [] :=
  ⟨rfl, fun g hp _ => d.get_set_ne v (h g hp)⟩

/-- Changing the Larder alone. -/
theorem Dev.told_lar (d : Dev) (x : Larder) : d.Told { d with lar := x } [] := ⟨rfl, fun _ _ _ => rfl⟩

/-! ### The operations on cells and queues -/

theorem Dev.told_injUse (d : Dev) (k : Nat) : d.Told (d.injUse k) [] := by
  unfold Dev.injUse
  have h1 := d.told_set (f := F.ECC_INJ_COUNT) (d.get F.ECC_INJ_COUNT - k) fun _ hp => hp.2.2.1
  split_ifs
  · exact Dev.Told.refl _ _
  · exact h1.step (Dev.told_set _ 0 fun _ hp => hp.2.2.2)
  · exact h1

theorem Dev.told_linkWrite (d : Dev) (c : Nat) : d.Told (d.linkWrite c) [] := by
  unfold Dev.linkWrite
  simp only
  split_ifs <;> first | exact d.told_injUse _ | exact (d.told_injUse _).step (Dev.told_lar _ _)

theorem Dev.told_leakBank (d : Dev) (b : Nat) : d.Told (d.leakBank b) [] :=
  ((d.told_lar _).step (Dev.told_set _ _ fun _ hp => hp.2.1)).step (Dev.told_lar _ _)

theorem Dev.told_takeCell (d : Dev) (n : Nat) {c : Nat} {e : Dev} (h : d.takeCell n = some (c, e)) : d.Told e [] := by
  induction n generalizing d with
  | zero => simp [Dev.takeCell] at h
  | succ n ih =>
    simp only [Dev.takeCell] at h
    split_ifs at h
    split at h
    · simp at h
    · split at h
      · obtain ⟨-, rfl⟩ := (Prod.mk.injEq ..).mp (Option.some.inj h)
        exact (d.told_lar _).step (Dev.told_linkWrite _ _)
      · obtain ⟨-, rfl⟩ := (Prod.mk.injEq ..).mp (Option.some.inj h)
        exact ((d.told_lar _).step (Dev.told_linkWrite _ _)).step (Dev.told_lar _ _)
      · exact (d.told_leakBank _).step (ih _ h)

theorem Dev.told_takeCells (d : Dev) (k : Nat) {l : List Nat} {e : Dev} (h : d.takeCells k = some (l, e)) : d.Told e [] := by
  induction k generalizing d l e with
  | zero =>
    obtain ⟨-, rfl⟩ := (Prod.mk.injEq ..).mp (Option.some.inj h)
    exact Dev.Told.refl _ _
  | succ k ih =>
    simp only [Dev.takeCells] at h
    split at h
    · simp at h
    · rename_i c d' hc
      split at h
      · simp at h
      · rename_i l' d'' hl
        obtain ⟨-, rfl⟩ := (Prod.mk.injEq ..).mp (Option.some.inj h)
        exact (d.told_takeCell _ hc).step (ih _ hl)

theorem Dev.told_giveCell (d : Dev) (c : Nat) : d.Told (d.giveCell c) [] := (d.told_lar _).step (Dev.told_linkWrite _ _)

theorem Dev.told_giveCells (d : Dev) (l : List Nat) : d.Told (d.giveCells l) [] := by
  induction l generalizing d with
  | nil => exact Dev.Told.refl _ _
  | cons c t ih => exact (d.told_giveCell c).step (ih _)

theorem Dev.told_removeItem (d : Dev) (q j : Nat) (hq : q < 512) : d.Told (d.removeItem q j) [] := by
  unfold Dev.removeItem
  split
  · exact Dev.Told.refl _ _
  · have h : (512 ≤ q && q < 768 : Bool) = false := by simp; omega
    simp only [h]
    exact ((d.told_lar _).step (Dev.told_giveCells _ _)).step (Dev.told_lar _ _)

theorem Dev.told_makeRoom (d : Dev) (q k prio n : Nat) (hq : q < 512) {e : Dev} {m : Nat} (h : d.makeRoom q k prio n = some (e, m)) :
    d.Told e [] := by
  induction n generalizing d e m with
  | zero =>
    simp only [Dev.makeRoom] at h
    split_ifs at h
    obtain ⟨rfl, -⟩ := (Prod.mk.injEq ..).mp (Option.some.inj h)
    exact Dev.Told.refl _ _
  | succ n ih =>
    simp only [Dev.makeRoom] at h
    split_ifs at h
    · obtain ⟨rfl, -⟩ := (Prod.mk.injEq ..).mp (Option.some.inj h)
      exact Dev.Told.refl _ _
    · split at h
      · simp at h
      · split at h
        · simp at h
        · rename_i d' m' hm
          obtain ⟨rfl, -⟩ := (Prod.mk.injEq ..).mp (Option.some.inj h)
          exact (d.told_removeItem q _ hq).step (ih _ hm)

theorem Dev.told_countLostAs (d : Dev) (q n : Nat) (l : List Due) : d.Told (d.countLostAs q n l) [] := by
  unfold Dev.countLostAs
  have h1 : ∀ v, d.Told (d.set (F.QUE_W2_LOST q) v) [] := fun v => d.told_set v fun _ hp => (hp.1 q).1
  have h2 : ∀ v, d.Told ((d.set (F.QUE_W2_LOST q) v).set (F.QUE_W1_LOSTSAT q) 1) [] := fun v =>
    (h1 v).step (Dev.told_set _ 1 fun _ hp => (hp.1 q).2)
  have h3 : ∀ e : Dev, d.Told e [] → d.Told (if q < 256 then
      { e.owe l with lar := { (e.owe l).lar with lostEv := mapPut false (e.owe l).lar.lostEv q true } } else e.owe l) [] := by
    intro e h
    split_ifs
    · exact (h.step (Dev.told_lar _ _)).step (Dev.told_lar _ _)
    · exact h.step (Dev.told_lar _ _)
  by_cases hn : n = 0
  · rw [if_pos hn]; exact Dev.Told.refl _ _
  · rw [if_neg hn]
    by_cases hc : d.get (F.QUE_W2_LOST q) + n < 2 ^ 32 - 1
    · simp only [hc, if_true]; exact h3 _ (h1 _)
    · simp only [hc, if_false]; exact h3 _ (h2 _)

theorem Dev.told_countLost (d : Dev) (q n : Nat) : d.Told (d.countLost q n) [] := d.told_countLostAs q n _

theorem Dev.told_storeCells (d : Dev) (l : List Nat) (len : Nat) : d.Told (d.storeCells l len).1 [] := by
  induction l generalizing d len with
  | nil => exact Dev.Told.refl _ _
  | cons c t ih => exact (d.told_injUse _).step (ih _ _)

theorem Dev.told_putItem (d : Dev) (q k : Nat) (data : List Byte) (prio stamp : Nat) (bad : Nat → Bool) {e : Dev}
    (h : d.putItem q k data prio stamp bad = some e) : d.Told e [] := by
  unfold Dev.putItem at h
  split at h
  · simp at h
  · rename_i cs d2 ht
    obtain rfl := Option.some.inj h
    exact (((Dev.told_takeCells _ _ ht).step (Dev.told_storeCells _ _ _)).step (Dev.told_lar _ _)).step (Dev.told_lar _ _)

/-- Queueing an item in a queue of no stream. -/
theorem Dev.told_enqueueN (q : Nat) (data : List Byte) (prio stamp : Nat) (bad : Nat → Bool) (hq : q < 512) (f : Nat) (d : Dev) (m : Nat) :
    d.Told (Dev.enqueueN q data prio stamp bad f d m).1 [] := by
  induction f generalizing d m with
  | zero => exact d.told_countLost q (m + 1)
  | succ f ih =>
    simp only [Dev.enqueueN]
    split
    · exact d.told_countLost q (m + 1)
    · rename_i d1 n hm
      have h1 := d.told_makeRoom _ _ _ _ hq hm
      split
      · exact (h1.step (Dev.told_leakBank _ _)).step (ih _ _)
      · split
        · exact h1.step (Dev.told_countLost d1 q (m + n + 1))
        · rename_i d2 hp
          exact (h1.step (Dev.told_putItem _ _ _ _ _ _ _ hp)).step (Dev.told_countLost d2 q (m + n))

theorem Dev.told_enqueue (d : Dev) (q : Nat) (data : List Byte) (prio stamp : Nat) (b : Bool) (hq : q < 512) :
    d.Told (d.enqueue q data prio stamp b).1 [] := Dev.told_enqueueN q data prio stamp _ hq 17 d 0

/-! ### Events -/

theorem Dev.told_notify (d : Dev) (t code inst arg count : Nat) (ht : t < 512) : d.Told (d.notify t code inst arg count) [] := by
  unfold Dev.notify
  split_ifs
  · exact Dev.Told.refl _ _
  · exact d.told_lar _
  · exact d.told_enqueue _ _ _ _ _ ht

/-- Telling tenants of an event changes no register field but those that count lost items and used cells. -/
theorem Dev.told_notifyAll (d : Dev) (ts : List Nat) (code inst arg count : Nat) (ht : ∀ t ∈ ts, t < 512) :
    d.Told (d.notifyAll ts code inst arg count) [] := by
  induction ts generalizing d with
  | nil => exact Dev.Told.refl _ _
  | cons t l ih =>
    exact (d.told_notify t _ _ _ _ (ht t (by simp))).step (ih _ fun t h => ht t (by simp [h]))

/-- Raising an event sets its interrupt bit and tells its recipients. -/
theorem Dev.told_raise (d : Dev) (int : Fld) (code : Nat) (ts : List Nat) (inst arg count : Nat) (ht : ∀ t ∈ ts, t < 512) :
    d.Told (d.raise int code ts inst arg count) [int] :=
  (d.only_set int 1).told.step (Dev.told_notifyAll _ ts _ _ _ _ ht)

theorem Dev.tenants_lt (d : Dev) : ∀ t ∈ d.tenants, t < 512 := by
  intro t h
  have := List.mem_range.mp (List.mem_of_mem_filter h)
  omega

/-- Raising a SUP event sets its bit for the steward and tells its recipients. -/
theorem Dev.told_supEvent (d : Dev) (n : Nat) (ts : List Nat) (arg count : Nat) (ht : ∀ t ∈ ts, t < 512) :
    d.Told (d.supEvent n ts arg count) [F.STW_SUPEV_EV] :=
  (d.only_setBit _ _ _).told.step (Dev.told_notifyAll _ ts _ _ _ _ ht)

end Sys2Proof.Machine
end

