-- ==== Sys2Proof/Laws/Step.lean ====
section
/-!
SUPPORT. Every command is a change of the device that happens while the core is up, or one that happens in any power state.
-/
namespace Sys2Proof.Machine

open Sys2Proof

/-- While the core is up a command of the first shape has its effect. -/
theorem act_up {s : State} (f : Dev → Dev) (h : s.dev.up = true) : act s f = .next { s with dev := (f s.dev).settle } := by
  simp [act, h, State.onDev]

/-- In any other power state it leaves the state as it is. -/
theorem act_down {s : State} (f : Dev → Dev) (h : s.dev.up = false) : act s f = .next s := by simp [act, h]

theorem always_next (s : State) (f : Dev → Dev) : always s f = .next { s with dev := (f s.dev).settle } := rfl

theorem Ends.of_act {s : State} {f : Dev → Dev} {P : Dev → Prop} (h : s.dev.up = true) (hp : P (f s.dev)) : Ends s (act s f) P :=
  ⟨_, act_up f h, hp⟩

theorem Ends.of_always {s : State} {f : Dev → Dev} {P : Dev → Prop} (hp : P (f s.dev)) : Ends s (always s f) P := ⟨_, rfl, hp⟩

/-- Every meaning has one of the two shapes. -/
theorem exec_shape (c : Instr) (s : State) : (∃ f, exec c s = act s f) ∨ (∃ f, exec c s = always s f) := by
  cases c with
  | registerWrite => exact .inl ⟨_, rfl⟩
  | cfgerrClear => exact .inl ⟨_, rfl⟩
  | glbCtrlLock => exact .inl ⟨_, rfl⟩
  | crossingInbound => exact .inl ⟨_, rfl⟩
  | crossingTxBoundary => exact .inl ⟨_, rfl⟩
  | supXclr => exact .inl ⟨_, rfl⟩
  | xtcountCaptureRead => exact .inl ⟨_, rfl⟩
  | paceWindowEnd => exact .inr ⟨_, rfl⟩
  | paceMinclr => exact .inl ⟨_, rfl⟩
  | xt24Lost => exact .inr ⟨_, rfl⟩
  | xt24Back => exact .inr ⟨_, rfl⟩
  | xt24Qualified => exact .inr ⟨_, rfl⟩
  | xt24QualifyTimeout => exact .inr ⟨_, rfl⟩
  | xt32Lost => exact .inr ⟨_, rfl⟩
  | xt32Back => exact .inr ⟨_, rfl⟩
  | dozeRequest => exact .inl ⟨_, rfl⟩
  | dozeExit => exact .inl ⟨_, rfl⟩
  | wake => exact .inr ⟨_, rfl⟩
  | secondsTick => exact .inr ⟨_, rfl⟩
  | supWarn => exact .inr ⟨_, rfl⟩
  | supWarnClear => exact .inr ⟨_, rfl⟩
  | supplyReset => exact .inr ⟨_, rfl⟩
  | resetReleaseHoldEnd => exact .inr ⟨_, rfl⟩
  | dormantSupplyReset => exact .inr ⟨_, rfl⟩
  | por => exact .inr ⟨_, rfl⟩
  | resetNAssert => exact .inr ⟨_, rfl⟩
  | supPhyHold => exact .inr ⟨_, rfl⟩
  | supPhyRelease => exact .inr ⟨_, rfl⟩
  | warndlyExpiry => exact .inl ⟨_, rfl⟩
  | lowpackExpiry => exact .inl ⟨_, rfl⟩
  | shutdownGo => exact .inl ⟨_, rfl⟩
  | shutdownSkip => exact .inl ⟨_, rfl⟩
  | shutdownGraceExpiry => exact .inl ⟨_, rfl⟩
  | shutdownS2TicketTimeout => exact .inl ⟨_, rfl⟩
  | shutdownCommitDone => exact .inl ⟨_, rfl⟩
  | shutdownCommitTimeout => exact .inl ⟨_, rfl⟩
  | shutdownS5 => exact .inl ⟨_, rfl⟩
  | dischargeHoldEnd => exact .inr ⟨_, rfl⟩
  | inputPresent => exact .inr ⟨_, rfl⟩
  | shutdownCancel => exact .inl ⟨_, rfl⟩
  | railsGood => exact .inr ⟨_, rfl⟩
  | railGoodTimeout => exact .inr ⟨_, rfl⟩
  | railFailure => exact .inr ⟨_, rfl⟩
  | checkerSelfTest => exact .inr ⟨_, rfl⟩
  | startupWipeDone => exact .inr ⟨_, rfl⟩
  | typecAttach => exact .inl ⟨_, rfl⟩
  | typecDetach => exact .inl ⟨_, rfl⟩
  | pdMessageRx => exact .inl ⟨_, rfl⟩
  | pdRxPop => exact .inl ⟨_, rfl⟩
  | pdTxMessage => exact .inl ⟨_, rfl⟩
  | pdTxHardReset => exact .inl ⟨_, rfl⟩
  | pdTxCableReset => exact .inl ⟨_, rfl⟩
  | pdRetryTimeout => exact .inl ⟨_, rfl⟩
  | pdTxComplete => exact .inl ⟨_, rfl⟩
  | pdHardReset => exact .inl ⟨_, rfl⟩
  | pdSrcSetpoint => exact .inl ⟨_, rfl⟩
  | pdSrcPsRdy => exact .inl ⟨_, rfl⟩
  | pdSrcSlow => exact .inl ⟨_, rfl⟩
  | pdSrcRecoveryEnd => exact .inl ⟨_, rfl⟩
  | pdSnkSettled => exact .inl ⟨_, rfl⟩
  | pdSnkSlow => exact .inl ⟨_, rfl⟩
  | pdOvp => exact .inl ⟨_, rfl⟩
  | pdOcp => exact .inl ⟨_, rfl⟩
  | eprKeepalive => exact .inl ⟨_, rfl⟩
  | ppsRequestRepeat => exact .inl ⟨_, rfl⟩
  | pdMoistureMeasure => exact .inl ⟨_, rfl⟩
  | celScan => exact .inl ⟨_, rfl⟩
  | celPackBack => exact .inl ⟨_, rfl⟩
  | owTestGo => exact .inl ⟨_, rfl⟩
  | owTestPeriodic => exact .inl ⟨_, rfl⟩
  | owPinDone => exact .inl ⟨_, rfl⟩
  | packLoss => exact .inl ⟨_, rfl⟩
  | chgSessionOpen => exact .inl ⟨_, rfl⟩
  | chgPrechgFail => exact .inl ⟨_, rfl⟩
  | chgDone => exact .inl ⟨_, rfl⟩
  | chgRecharge => exact .inl ⟨_, rfl⟩
  | chgSafety => exact .inl ⟨_, rfl⟩
  | chgKick => exact .inl ⟨_, rfl⟩
  | chgWdtExpiry => exact .inl ⟨_, rfl⟩
  | chgDisable => exact .inl ⟨_, rfl⟩
  | chgOcp => exact .inl ⟨_, rfl⟩
  | chgOcpResume => exact .inl ⟨_, rfl⟩
  | chgInputLost => exact .inl ⟨_, rfl⟩
  | gaugeClear => exact .inl ⟨_, rfl⟩
  | gaugeCaptureRead => exact .inl ⟨_, rfl⟩
  | burstRequest => exact .inl ⟨_, rfl⟩
  | grantEnd => exact .inl ⟨_, rfl⟩
  | ratAbort => exact .inl ⟨_, rfl⟩
  | ratHoldEnd => exact .inl ⟨_, rfl⟩
  | ratEnable => exact .inl ⟨_, rfl⟩
  | ratCntclr => exact .inl ⟨_, rfl⟩
  | hubRequest => exact .inl ⟨_, rfl⟩
  | hubCtlReq => exact .inl ⟨_, rfl⟩
  | hubCtlreplyAct => exact .inl ⟨_, rfl⟩
  | hubCtlTimeout => exact .inl ⟨_, rfl⟩
  | funcSetup => exact .inl ⟨_, rfl⟩
  | funcToken => exact .inl ⟨_, rfl⟩
  | funcIsoMicroframe => exact .inl ⟨_, rfl⟩
  | feedbackUpdate => exact .inl ⟨_, rfl⟩
  | epmBankWrite => exact .inl ⟨_, rfl⟩
  | hubSuspend => exact .inl ⟨_, rfl⟩
  | hubResume => exact .inl ⟨_, rfl⟩
  | hubRwake => exact .inl ⟨_, rfl⟩
  | hubRemoteWake => exact .inl ⟨_, rfl⟩
  | portResumeDone => exact .inl ⟨_, rfl⟩
  | portResetDone => exact .inl ⟨_, rfl⟩
  | portPowerGood => exact .inl ⟨_, rfl⟩
  | portOverCurrent => exact .inl ⟨_, rfl⟩
  | portOverCurrentClear => exact .inl ⟨_, rfl⟩
  | portConnectChange => exact .inl ⟨_, rfl⟩
  | portBabble => exact .inl ⟨_, rfl⟩
  | hubBusreset => exact .inl ⟨_, rfl⟩
  | hubDisconnect => exact .inl ⟨_, rfl⟩
  | hubEnable => exact .inl ⟨_, rfl⟩
  | hubCntclr => exact .inl ⟨_, rfl⟩
  | prtSteerGo => exact .inl ⟨_, rfl⟩
  | steer => exact .inl ⟨_, rfl⟩
  | steerQuiesceDone => exact .inl ⟨_, rfl⟩
  | steerHoldEnd => exact .inl ⟨_, rfl⟩
  | prtSteerDone => exact .inl ⟨_, rfl⟩
  | portcmdReset => exact .inl ⟨_, rfl⟩
  | localPortResetDone => exact .inl ⟨_, rfl⟩
  | portcmdSuspend => exact .inl ⟨_, rfl⟩
  | portcmdResume => exact .inl ⟨_, rfl⟩
  | portcmdPowerOff => exact .inl ⟨_, rfl⟩
  | portcmdPowerOn => exact .inl ⟨_, rfl⟩
  | lhePortResume => exact .inl ⟨_, rfl⟩
  | localMicroframe => exact .inl ⟨_, rfl⟩
  | ctxopen => exact .inl ⟨_, rfl⟩
  | ctxclose => exact .inl ⟨_, rfl⟩
  | ctxreset => exact .inl ⟨_, rfl⟩
  | xfer => exact .inl ⟨_, rfl⟩
  | lheTransaction => exact .inl ⟨_, rfl⟩
  | lhePortAttach => exact .inl ⟨_, rfl⟩
  | lhePortDetach => exact .inl ⟨_, rfl⟩
  | bind => exact .inl ⟨_, rfl⟩
  | attach => exact .inl ⟨_, rfl⟩
  | detach => exact .inl ⟨_, rfl⟩
  | start => exact .inl ⟨_, rfl⟩
  | flush => exact .inl ⟨_, rfl⟩
  | flushDrained => exact .inl ⟨_, rfl⟩
  | flushDone => exact .inl ⟨_, rfl⟩
  | unbind => exact .inl ⟨_, rfl⟩
  | buf => exact .inl ⟨_, rfl⟩
  | streamItemIn => exact .inl ⟨_, rfl⟩
  | streamSinkPacket => exact .inl ⟨_, rfl⟩
  | strSourceLost => exact .inl ⟨_, rfl⟩
  | noticeSpacingEnd => exact .inl ⟨_, rfl⟩
  | larLock => exact .inl ⟨_, rfl⟩
  | partitionSetAsideDone => exact .inl ⟨_, rfl⟩
  | larCntclr => exact .inl ⟨_, rfl⟩
  | queLostsatClear => exact .inl ⟨_, rfl⟩
  | queCntclr => exact .inl ⟨_, rfl⟩
  | tdmEnable => exact .inl ⟨_, rfl⟩
  | tdmCntclr => exact .inl ⟨_, rfl⟩
  | tdmPllLock => exact .inl ⟨_, rfl⟩
  | tdmBankEnd => exact .inl ⟨_, rfl⟩
  | tdmFserr => exact .inl ⟨_, rfl⟩
  | tdmClkLoss => exact .inl ⟨_, rfl⟩
  | tdmClkBack => exact .inl ⟨_, rfl⟩
  | doorbell => exact .inl ⟨_, rfl⟩
  | fetch => exact .inl ⟨_, rfl⟩
  | fetchCompletion => exact .inl ⟨_, rfl⟩
  | pcieCplTimeout => exact .inl ⟨_, rfl⟩
  | pcieErrorCompletion => exact .inl ⟨_, rfl⟩
  | pciePoisonedWrite => exact .inl ⟨_, rfl⟩
  | dispatch => exact .inl ⟨_, rfl⟩
  | nop => exact .inl ⟨_, rfl⟩
  | completionWrite => exact .inl ⟨_, rfl⟩
  | eventDeliver => exact .inl ⟨_, rfl⟩
  | msixHoldoffExpiry => exact .inl ⟨_, rfl⟩
  | msixUnmask => exact .inl ⟨_, rfl⟩
  | ringEnable => exact .inl ⟨_, rfl⟩
  | pcieLinkDown => exact .inl ⟨_, rfl⟩
  | vfEnable => exact .inl ⟨_, rfl⟩
  | flr => exact .inl ⟨_, rfl⟩
  | tenGflr => exact .inl ⟨_, rfl⟩
  | flrTicketsEnded => exact .inl ⟨_, rfl⟩
  | flrStreamsFlushed => exact .inl ⟨_, rfl⟩
  | flrCellsWiped => exact .inl ⟨_, rfl⟩
  | tenFlrDone => exact .inl ⟨_, rfl⟩
  | hayLaneUp => exact .inl ⟨_, rfl⟩
  | hayTrainTimeout => exact .inl ⟨_, rfl⟩
  | hayBaleRx => exact .inl ⟨_, rfl⟩
  | audio => exact .inl ⟨_, rfl⟩
  | control => exact .inl ⟨_, rfl⟩
  | null => exact .inl ⟨_, rfl⟩
  | resvReq => exact .inl ⟨_, rfl⟩
  | resvAck => exact .inl ⟨_, rfl⟩
  | resvNak => exact .inl ⟨_, rfl⟩
  | resvFree => exact .inl ⟨_, rfl⟩
  | app => exact .inl ⟨_, rfl⟩
  | sync => exact .inl ⟨_, rfl⟩
  | dreq => exact .inl ⟨_, rfl⟩
  | dresp => exact .inl ⟨_, rfl⟩
  | announce => exact .inl ⟨_, rfl⟩
  | ahead => exact .inl ⟨_, rfl⟩
  | hello => exact .inl ⟨_, rfl⟩
  | roll => exact .inl ⟨_, rfl⟩
  | reject => exact .inl ⟨_, rfl⟩
  | bcast => exact .inl ⟨_, rfl⟩
  | hayHelloTx => exact .inl ⟨_, rfl⟩
  | announceTx => exact .inl ⟨_, rfl⟩
  | syncTx => exact .inl ⟨_, rfl⟩
  | dreqTx => exact .inl ⟨_, rfl⟩
  | rollTx => exact .inl ⟨_, rfl⟩
  | routeEntryExpiry => exact .inl ⟨_, rfl⟩
  | gmseqTimeout => exact .inl ⟨_, rfl⟩
  | helloTimeout => exact .inl ⟨_, rfl⟩
  | hayLaneDown => exact .inl ⟨_, rfl⟩
  | keepExpiry => exact .inl ⟨_, rfl⟩
  | controlResend => exact .inl ⟨_, rfl⟩
  | nullAckTx => exact .inl ⟨_, rfl⟩
  | aheadRepeat => exact .inl ⟨_, rfl⟩
  | almStep => exact .inl ⟨_, rfl⟩
  | hayMicroframeSend => exact .inl ⟨_, rfl⟩
  | resvRefresh => exact .inl ⟨_, rfl⟩
  | resvExpiry => exact .inl ⟨_, rfl⟩
  | hayopen => exact .inl ⟨_, rfl⟩
  | hayopenTimeout => exact .inl ⟨_, rfl⟩
  | hayclose => exact .inl ⟨_, rfl⟩
  | rerouteRetry => exact .inl ⟨_, rfl⟩
  | hayCtxSend => exact .inl ⟨_, rfl⟩
  | hayCtxTimeout => exact .inl ⟨_, rfl⟩
  | hayCrxpop => exact .inl ⟨_, rfl⟩
  | hayCntclr => exact .inl ⟨_, rfl⟩
  | almTimeCaptureRead => exact .inl ⟨_, rfl⟩
  | yokEnable => exact .inl ⟨_, rfl⟩
  | yokClaim => exact .inl ⟨_, rfl⟩
  | yokYield => exact .inl ⟨_, rfl⟩
  | yokClaimConfirm => exact .inl ⟨_, rfl⟩
  | yokBeatTx => exact .inl ⟨_, rfl⟩
  | lbeat => exact .inl ⟨_, rfl⟩
  | wbeat => exact .inl ⟨_, rfl⟩
  | mirror => exact .inl ⟨_, rfl⟩
  | yokLossTimeout => exact .inl ⟨_, rfl⟩
  | yokBeatStale => exact .inl ⟨_, rfl⟩
  | yokHandover => exact .inl ⟨_, rfl⟩
  | yokTokenFault => exact .inl ⟨_, rfl⟩
  | yokMirrorTx => exact .inl ⟨_, rfl⟩
  | yokMirrorResend => exact .inl ⟨_, rfl⟩
  | yokMtxcmd => exact .inl ⟨_, rfl⟩
  | yokMrxPop => exact .inl ⟨_, rfl⟩
  | yokCntclr => exact .inl ⟨_, rfl⟩
  | readId => exact .inl ⟨_, rfl⟩
  | readSfdp => exact .inl ⟨_, rfl⟩
  | readStatus => exact .inl ⟨_, rfl⟩
  | sectorErase => exact .inl ⟨_, rfl⟩
  | deepPowerDown => exact .inl ⟨_, rfl⟩
  | release => exact .inl ⟨_, rfl⟩
  | flashReset => exact .inl ⟨_, rfl⟩
  | flsCmdDone => exact .inl ⟨_, rfl⟩
  | windowWWrite => exact .inl ⟨_, rfl⟩
  | gatherIdleTimeout => exact .inl ⟨_, rfl⟩
  | flsFlush => exact .inl ⟨_, rfl⟩
  | flashPoll => exact .inl ⟨_, rfl⟩
  | flsTimeout => exact .inl ⟨_, rfl⟩
  | windowRead => exact .inl ⟨_, rfl⟩
  | eraseResume => exact .inl ⟨_, rfl⟩
  | grnCommit => exact .inl ⟨_, rfl⟩
  | grnCommitStart => exact .inl ⟨_, rfl⟩
  | grnDone => exact .inl ⟨_, rfl⟩
  | grnEraseAheadDone => exact .inl ⟨_, rfl⟩
  | grnScan => exact .inl ⟨_, rfl⟩
  | grnScanDone => exact .inl ⟨_, rfl⟩
  | mergeIdleExpiry => exact .inl ⟨_, rfl⟩
  | eccFill => exact .inl ⟨_, rfl⟩
  | eccFillDone => exact .inl ⟨_, rfl⟩
  | eccLeakTick => exact .inl ⟨_, rfl⟩
  | eccLarUeNotice => exact .inl ⟨_, rfl⟩
  | eccInjArm => exact .inl ⟨_, rfl⟩
  | eccGlclr => exact .inl ⟨_, rfl⟩
  | eccCntclr => exact .inl ⟨_, rfl⟩
  | escalationWindowExpiry => exact .inl ⟨_, rfl⟩
  | fallowExpiry => exact .inl ⟨_, rfl⟩
  | fltUcmdFence => exact .inl ⟨_, rfl⟩
  | fltUcmdRelease => exact .inl ⟨_, rfl⟩
  | fltUcmdClrcnt => exact .inl ⟨_, rfl⟩
  | fltRecordClear => exact .inl ⟨_, rfl⟩
  | alertPulseEnd => exact .inl ⟨_, rfl⟩
  | alertDeassertEnd => exact .inl ⟨_, rfl⟩
  | altCfgWrite => exact .inl ⟨_, rfl⟩
  | bootImageSearch => exact .inl ⟨_, rfl⟩
  | bootWarm => exact .inl ⟨_, rfl⟩
  | bootNoImage => exact .inl ⟨_, rfl⟩
  | bootSearchRetry => exact .inl ⟨_, rfl⟩
  | romver => exact .inl ⟨_, rfl⟩
  | crc32 => exact .inl ⟨_, rfl⟩
  | sha256 => exact .inl ⟨_, rfl⟩
  | p256verify => exact .inl ⟨_, rfl⟩
  | imagecheck => exact .inl ⟨_, rfl⟩
  | romRestart => exact .inl ⟨_, rfl⟩
  | stwWdtKick => exact .inl ⟨_, rfl⟩
  | stwWdtWarn => exact .inl ⟨_, rfl⟩
  | stwWdtExpiry => exact .inl ⟨_, rfl⟩
  | stwRestart => exact .inl ⟨_, rfl⟩
  | stwIcinv => exact .inl ⟨_, rfl⟩
  | stwIcclaimRead => exact .inl ⟨_, rfl⟩
  | stwIcclaimComplete => exact .inl ⟨_, rfl⟩
  | stwMtimeMatch => exact .inl ⟨_, rfl⟩
  | stwMbcmdGo => exact .inl ⟨_, rfl⟩
  | stwMbReply => exact .inl ⟨_, rfl⟩
  | stwMbMsg => exact .inl ⟨_, rfl⟩
  | stwMbmsgAck => exact .inl ⟨_, rfl⟩
  | ident => exact .inl ⟨_, rfl⟩
  | flasherase => exact .inl ⟨_, rfl⟩
  | flashwrite => exact .inl ⟨_, rfl⟩
  | mbRestart => exact .inl ⟨_, rfl⟩
  | lcsReqDeployed => exact .inl ⟨_, rfl⟩
  | lcsReqReclaim => exact .inl ⟨_, rfl⟩
  | lcsReqVoid => exact .inl ⟨_, rfl⟩
  | lcsReqDevelop => exact .inl ⟨_, rfl⟩
  | blankToDevelop => exact .inl ⟨_, rfl⟩
  | lcsFusesBlown => exact .inl ⟨_, rfl⟩
  | imgdig => exact .inl ⟨_, rfl⟩
  | unldig => exact .inl ⟨_, rfl⟩
  | kdev => exact .inl ⟨_, rfl⟩
  | kprod => exact .inl ⟨_, rfl⟩
  | floor => exact .inl ⟨_, rfl⟩
  | lcsProgDone => exact .inl ⟨_, rfl⟩
  | lcsDerive => exact .inl ⟨_, rfl⟩
  | pcieLinkUp => exact .inl ⟨_, rfl⟩
  | pcieConfigRequest => exact .inr ⟨_, rfl⟩
  | stewardMemoryAccess => exact .inl ⟨_, rfl⟩
  | splitTransaction => exact .inl ⟨_, rfl⟩
  | portRemoteWake => exact .inl ⟨_, rfl⟩
  | localResumeDone => exact .inl ⟨_, rfl⟩
  | hubStatusChangeIn => exact .inl ⟨_, rfl⟩

end Sys2Proof.Machine
end

