-- ==== Sys2Proof/WellFormed.lean ====
section
/-!
DEFINITION. Which operands a command of the table can carry: the lengths that its wire, memory or bus bounds, and the port numbers of
the downstream ports. The widths of the other operands are in their types.
-/
namespace Sys2Proof

/-- A command whose operands its row admits. -/
def Instr.wf (c : Instr) : Bool :=
  match c with
  | .registerWrite _ _ _ n _ => decide (1 ≤ n.val)
  | .cfgerrClear _ _ => true
  | .glbCtrlLock _ => true
  | .crossingInbound _ len _ => decide (len ≤ 4096)
  | .crossingTxBoundary _ _ => true
  | .supXclr _ => true
  | .xtcountCaptureRead _ _ => true
  | .paceWindowEnd _ => true
  | .paceMinclr _ => true
  | .xt24Lost => true
  | .xt24Back _ => true
  | .xt24Qualified => true
  | .xt24QualifyTimeout => true
  | .xt32Lost => true
  | .xt32Back => true
  | .dozeRequest _ => true
  | .dozeExit => true
  | .wake _ _ => true
  | .secondsTick _ => true
  | .supWarn => true
  | .supWarnClear => true
  | .supplyReset => true
  | .resetReleaseHoldEnd _ _ => true
  | .dormantSupplyReset => true
  | .por => true
  | .resetNAssert _ => true
  | .supPhyHold => true
  | .supPhyRelease _ => true
  | .warndlyExpiry => true
  | .lowpackExpiry => true
  | .shutdownGo _ => true
  | .shutdownSkip _ => true
  | .shutdownGraceExpiry => true
  | .shutdownS2TicketTimeout => true
  | .shutdownCommitDone => true
  | .shutdownCommitTimeout => true
  | .shutdownS5 => true
  | .dischargeHoldEnd _ => true
  | .inputPresent _ _ _ => true
  | .shutdownCancel _ => true
  | .railsGood => true
  | .railGoodTimeout => true
  | .railFailure => true
  | .checkerSelfTest _ => true
  | .startupWipeDone => true
  | .typecAttach _ _ _ _ => true
  | .typecDetach _ => true
  | .pdMessageRx _ _ msg => decide (2 ≤ msg.length) && decide (msg.length ≤ 30)
  | .pdRxPop _ _ => true
  | .pdTxMessage _ _ _ => true
  | .pdTxHardReset _ _ => true
  | .pdTxCableReset _ _ => true
  | .pdRetryTimeout _ => true
  | .pdTxComplete _ _ => true
  | .pdHardReset _ => true
  | .pdSrcSetpoint _ => true
  | .pdSrcPsRdy _ _ _ => true
  | .pdSrcSlow _ _ => true
  | .pdSrcRecoveryEnd _ _ => true
  | .pdSnkSettled _ _ _ => true
  | .pdSnkSlow _ => true
  | .pdOvp _ => true
  | .pdOcp _ => true
  | .eprKeepalive _ => true
  | .ppsRequestRepeat _ => true
  | .pdMoistureMeasure _ _ _ _ _ => true
  | .celScan cells _ _ _ _ _ _ => decide (cells.length ≤ 8)
  | .celPackBack => true
  | .owTestGo _ => true
  | .owTestPeriodic => true
  | .owPinDone _ => true
  | .packLoss _ _ => true
  | .chgSessionOpen => true
  | .chgPrechgFail => true
  | .chgDone => true
  | .chgRecharge => true
  | .chgSafety => true
  | .chgKick _ => true
  | .chgWdtExpiry => true
  | .chgDisable _ => true
  | .chgOcp => true
  | .chgOcpResume => true
  | .chgInputLost => true
  | .gaugeClear _ => true
  | .gaugeCaptureRead _ => true
  | .burstRequest _ _ _ _ => true
  | .grantEnd => true
  | .ratAbort => true
  | .ratHoldEnd => true
  | .ratEnable _ => true
  | .ratCntclr _ => true
  | .hubRequest _ => true
  | .hubCtlReq => true
  | .hubCtlreplyAct _ => true
  | .hubCtlTimeout => true
  | .funcSetup _ => true
  | .funcToken _ _ _ data _ => decide (data.length ≤ 1024)
  | .funcIsoMicroframe _ _ pkts => decide (pkts.length ≤ 3) && pkts.all fun p => decide (p.2.length ≤ 1024)
  | .feedbackUpdate ns => decide (0 < ns)
  | .epmBankWrite _ _ => true
  | .hubSuspend => true
  | .hubResume => true
  | .hubRwake _ => true
  | .hubRemoteWake port => decide (port ≠ 0)
  | .portResumeDone port => decide (port ≠ 0)
  | .portResetDone port => decide (port ≠ 0)
  | .portPowerGood port => decide (port ≠ 0)
  | .portOverCurrent port => decide (port ≠ 0)
  | .portOverCurrentClear port => decide (port ≠ 0)
  | .portConnectChange port _ => decide (port ≠ 0)
  | .portBabble port => decide (port ≠ 0)
  | .hubBusreset _ => true
  | .hubDisconnect => true
  | .hubEnable _ => true
  | .hubCntclr _ => true
  | .prtSteerGo port _ => decide (port ≠ 0)
  | .steer _ _ => true
  | .steerQuiesceDone port => decide (port ≠ 0)
  | .steerHoldEnd port => decide (port ≠ 0)
  | .prtSteerDone port => decide (port ≠ 0)
  | .portcmdReset _ _ => true
  | .localPortResetDone port => decide (port ≠ 0)
  | .portcmdSuspend _ _ => true
  | .portcmdResume _ _ => true
  | .portcmdPowerOff _ _ => true
  | .portcmdPowerOn _ _ => true
  | .lhePortResume port => decide (port ≠ 0)
  | .localMicroframe => true
  | .ctxopen _ _ => true
  | .ctxclose _ _ => true
  | .ctxreset _ _ => true
  | .xfer _ _ => true
  | .lheTransaction _ _ data _ => decide (data.length ≤ 3072)
  | .lhePortAttach port _ => decide (port ≠ 0)
  | .lhePortDetach port _ => decide (port ≠ 0)
  | .bind _ _ => true
  | .attach _ _ => true
  | .detach _ _ => true
  | .start _ _ => true
  | .flush _ _ => true
  | .flushDrained _ => true
  | .flushDone _ => true
  | .unbind _ _ => true
  | .buf _ _ => true
  | .streamItemIn _ data _ _ => decide (data.length ≤ 3072)
  | .streamSinkPacket _ _ _ => true
  | .strSourceLost _ => true
  | .noticeSpacingEnd _ _ => true
  | .larLock _ => true
  | .partitionSetAsideDone => true
  | .larCntclr _ => true
  | .queLostsatClear _ _ => true
  | .queCntclr _ _ => true
  | .tdmEnable _ _ => true
  | .tdmCntclr _ _ => true
  | .tdmPllLock => true
  | .tdmBankEnd _ _ di => decide (di.length ≤ 128)
  | .tdmFserr _ _ => true
  | .tdmClkLoss _ => true
  | .tdmClkBack _ => true
  | .doorbell _ _ _ => true
  | .fetch => true
  | .fetchCompletion _ _ data _ => decide (data.length % 32 = 0) && decide (data.length ≤ 256)
  | .pcieCplTimeout _ _ _ _ => true
  | .pcieErrorCompletion _ _ _ _ => true
  | .pciePoisonedWrite _ => true
  | .dispatch _ _ => true
  | .nop _ _ => true
  | .completionWrite _ _ => true
  | .eventDeliver _ => true
  | .msixHoldoffExpiry _ _ => true
  | .msixUnmask _ _ => true
  | .ringEnable _ _ _ => true
  | .pcieLinkDown => true
  | .vfEnable _ numVfs _ => decide (numVfs.toNat ≤ 255)
  | .flr _ => true
  | .tenGflr _ => true
  | .flrTicketsEnded _ => true
  | .flrStreamsFlushed _ => true
  | .flrCellsWiped _ => true
  | .tenFlrDone _ => true
  | .hayLaneUp _ _ => true
  | .hayTrainTimeout _ => true
  | .hayBaleRx _ _ _ raw => decide (20 ≤ raw.length) && decide (raw.length ≤ 532)
  | .audio _ bale => decide (16 ≤ bale.length) && decide (bale.length ≤ 528)
  | .control _ bale => decide (16 ≤ bale.length) && decide (bale.length ≤ 528)
  | .null _ bale => decide (16 ≤ bale.length) && decide (bale.length ≤ 528)
  | .resvReq _ bale => decide (16 ≤ bale.length) && decide (bale.length ≤ 528)
  | .resvAck _ bale => decide (16 ≤ bale.length) && decide (bale.length ≤ 528)
  | .resvNak _ bale => decide (16 ≤ bale.length) && decide (bale.length ≤ 528)
  | .resvFree _ bale => decide (16 ≤ bale.length) && decide (bale.length ≤ 528)
  | .app _ bale => decide (16 ≤ bale.length) && decide (bale.length ≤ 528)
  | .sync _ _ bale => decide (16 ≤ bale.length) && decide (bale.length ≤ 528)
  | .dreq _ _ _ bale => decide (16 ≤ bale.length) && decide (bale.length ≤ 528)
  | .dresp _ _ bale => decide (16 ≤ bale.length) && decide (bale.length ≤ 528)
  | .announce _ bale => decide (16 ≤ bale.length) && decide (bale.length ≤ 528)
  | .ahead _ _ bale => decide (16 ≤ bale.length) && decide (bale.length ≤ 528)
  | .hello _ bale => decide (16 ≤ bale.length) && decide (bale.length ≤ 528)
  | .roll _ bale => decide (16 ≤ bale.length) && decide (bale.length ≤ 528)
  | .reject _ bale => decide (16 ≤ bale.length) && decide (bale.length ≤ 528)
  | .bcast _ bale => decide (16 ≤ bale.length) && decide (bale.length ≤ 528)
  | .hayHelloTx => true
  | .announceTx => true
  | .syncTx _ => true
  | .dreqTx _ => true
  | .rollTx => true
  | .routeEntryExpiry _ => true
  | .gmseqTimeout => true
  | .helloTimeout _ => true
  | .hayLaneDown _ _ _ => true
  | .keepExpiry _ => true
  | .controlResend _ => true
  | .nullAckTx _ => true
  | .aheadRepeat _ => true
  | .almStep => true
  | .hayMicroframeSend => true
  | .resvRefresh _ => true
  | .resvExpiry _ _ _ => true
  | .hayopen _ _ => true
  | .hayopenTimeout _ => true
  | .hayclose _ _ => true
  | .rerouteRetry _ => true
  | .hayCtxSend _ => true
  | .hayCtxTimeout => true
  | .hayCrxpop _ => true
  | .hayCntclr _ => true
  | .almTimeCaptureRead _ => true
  | .yokEnable _ _ => true
  | .yokClaim => true
  | .yokYield => true
  | .yokClaimConfirm => true
  | .yokBeatTx => true
  | .lbeat bale => decide (16 ≤ bale.length) && decide (bale.length ≤ 528)
  | .wbeat bale => decide (16 ≤ bale.length) && decide (bale.length ≤ 528)
  | .mirror bale => decide (16 ≤ bale.length) && decide (bale.length ≤ 528)
  | .yokLossTimeout => true
  | .yokBeatStale => true
  | .yokHandover _ => true
  | .yokTokenFault => true
  | .yokMirrorTx => true
  | .yokMirrorResend => true
  | .yokMtxcmd _ => true
  | .yokMrxPop _ => true
  | .yokCntclr _ => true
  | .readId _ => true
  | .readSfdp _ => true
  | .readStatus _ => true
  | .sectorErase _ => true
  | .deepPowerDown _ => true
  | .release _ => true
  | .flashReset _ => true
  | .flsCmdDone data => decide (data.length ≤ 256)
  | .windowWWrite _ _ n _ => decide (1 ≤ n.val)
  | .gatherIdleTimeout => true
  | .flsFlush _ => true
  | .flashPoll _ _ _ => true
  | .flsTimeout _ => true
  | .windowRead _ _ n _ _ _ => decide (1 ≤ n.val)
  | .eraseResume _ => true
  | .grnCommit _ _ => true
  | .grnCommitStart => true
  | .grnDone => true
  | .grnEraseAheadDone => true
  | .grnScan _ => true
  | .grnScanDone => true
  | .mergeIdleExpiry _ => true
  | .eccFill _ => true
  | .eccFillDone => true
  | .eccLeakTick => true
  | .eccLarUeNotice _ => true
  | .eccInjArm _ => true
  | .eccGlclr _ => true
  | .eccCntclr _ => true
  | .escalationWindowExpiry _ _ => true
  | .fallowExpiry _ _ => true
  | .fltUcmdFence _ => true
  | .fltUcmdRelease _ => true
  | .fltUcmdClrcnt _ => true
  | .fltRecordClear _ => true
  | .alertPulseEnd _ => true
  | .alertDeassertEnd _ => true
  | .altCfgWrite _ _ => true
  | .bootImageSearch => true
  | .bootWarm _ => true
  | .bootNoImage => true
  | .bootSearchRetry => true
  | .romver => true
  | .crc32 _ _ _ => true
  | .sha256 _ _ _ => true
  | .p256verify _ _ _ => true
  | .imagecheck _ => true
  | .romRestart => true
  | .stwWdtKick => true
  | .stwWdtWarn => true
  | .stwWdtExpiry => true
  | .stwRestart _ => true
  | .stwIcinv _ => true
  | .stwIcclaimRead => true
  | .stwIcclaimComplete _ => true
  | .stwMtimeMatch => true
  | .stwMbcmdGo _ _ => true
  | .stwMbReply _ _ => true
  | .stwMbMsg _ _ => true
  | .stwMbmsgAck _ _ => true
  | .ident => true
  | .flasherase => true
  | .flashwrite => true
  | .mbRestart => true
  | .lcsReqDeployed _ => true
  | .lcsReqReclaim _ => true
  | .lcsReqVoid _ => true
  | .lcsReqDevelop _ => true
  | .blankToDevelop => true
  | .lcsFusesBlown _ _ => true
  | .imgdig _ => true
  | .unldig _ => true
  | .kdev _ => true
  | .kprod _ => true
  | .floor _ => true
  | .lcsProgDone _ => true
  | .lcsDerive _ => true
  | .pcieLinkUp _ => true
  | .pcieConfigRequest _ => true
  | .stewardMemoryAccess _ _ _ n _ => [1, 2, 4].contains n.val
  | .splitTransaction port _ _ _ _ _ _ _ data => decide (port ≠ 0) && decide (data.length ≤ 1024)
  | .portRemoteWake port => decide (port ≠ 0)
  | .localResumeDone port => decide (port ≠ 0)
  | .hubStatusChangeIn => true

end Sys2Proof
end

