-- ==== Sys2Proof/Tests/Slice0.lean ====
section
/-!
SUPPORT. The small states that tests and witnesses start from, and an ill-formed term for each check of WellFormed.
-/
namespace Sys2Proof.Tests

set_option Elab.async false

open Sys2Proof Sys2Proof.Machine

/-- A running device as reset leaves its registers. -/
def upDev : Dev := { pow := { state := .run } }

/-- Register fields given values. -/
def Dev.sets (d : Dev) (l : List (Fld × Nat)) : Dev := l.foldl (fun d p => d.set p.1 p.2) d

/-- A running device with some register fields given values. -/
def on (l : List (Fld × Nat)) : Dev := Dev.sets upDev l

/-- As `on`, with the 24 MHz crystal good, so that no PHY is held. -/
def live (l : List (Fld × Nat)) : Dev := on ((F.SUP_XTSTAT_BACKUP, 0) :: l)

/-- A running machine with an empty queue. -/
def st (d : Dev) : State := { dev := d }

/-- The device after a command; the one before where the command stops. -/
def after (c : Instr) (d : Dev) : Dev :=
  match exec c (st d) with
  | .next t => t.dev
  | _ => d

/-! ### Well-formed commands -/

/-- Bytes of zeros. -/
def zeros (n : Nat) : List Byte := List.replicate n 0

theorem test_wf_crossing : Instr.wf (.crossingInbound 0 4097 0) = false ∧ Instr.wf (.crossingInbound 0 4096 2) = true := by decide +kernel
theorem test_wf_width : Instr.wf (.registerWrite 0 none 0 0 0) = false ∧ Instr.wf (.registerWrite 0 none 0 4 0) = true := by decide +kernel
theorem test_wf_pd_message : Instr.wf (.pdMessageRx 0 0 (zeros 1)) = false ∧ Instr.wf (.pdMessageRx 0 0 (zeros 31)) = false ∧
    Instr.wf (.pdMessageRx 0 0 (zeros 30)) = true := by decide +kernel
theorem test_wf_scan : Instr.wf (.celScan (List.replicate 9 0) 0 0 0 0 0 false) = false := by decide +kernel
theorem test_wf_token : Instr.wf (.funcToken 3 1 false (zeros 1025) true) = false := by decide +kernel
theorem test_wf_iso : Instr.wf (.funcIsoMicroframe 3 0 [(0, []), (1, []), (2, []), (3, [])]) = false ∧
    Instr.wf (.funcIsoMicroframe 3 0 [(0, zeros 1025)]) = false := by decide +kernel
theorem test_wf_feedback : Instr.wf (.feedbackUpdate 0) = false := by decide +kernel
theorem test_wf_ports : ∀ c ∈ [Instr.hubRemoteWake 0, .portRemoteWake 0, .portResumeDone 0, .portResetDone 0, .portPowerGood 0, .portOverCurrent 0,
    .portOverCurrentClear 0, .portConnectChange 0 1, .portBabble 0, .prtSteerGo 0 0, .steerQuiesceDone 0, .steerHoldEnd 0, .prtSteerDone 0,
    .localPortResetDone 0, .localResumeDone 0, .lhePortResume 0, .lhePortAttach 0 1, .lhePortDetach 0 false,
    .splitTransaction 0 true 0 0 0 false 0 0 []], Instr.wf c = false := by decide +kernel
theorem test_wf_packets : Instr.wf (.lheTransaction 0 0 (zeros 3073) false) = false ∧ Instr.wf (.splitTransaction 1 true 0 0 0 false 0 0 (zeros 1025)) = false := by
  decide +kernel
theorem test_wf_item : Instr.wf (.streamItemIn 0 (zeros 3073) 0 []) = false := by decide +kernel
theorem test_wf_bank : Instr.wf (.tdmBankEnd 0 0 (List.replicate 129 0)) = false := by decide +kernel
theorem test_wf_fetch : Instr.wf (.fetchCompletion 0 0 (zeros 33) false) = false ∧ Instr.wf (.fetchCompletion 0 0 (zeros 288) false) = false ∧
    Instr.wf (.fetchCompletion 0 0 (zeros 256) false) = true := by decide +kernel
theorem test_wf_vfs : Instr.wf (.vfEnable true 256 true) = false ∧ Instr.wf (.vfEnable true 255 true) = true := by decide +kernel
theorem test_wf_raw : Instr.wf (.hayBaleRx 0 0 0 (zeros 19)) = false ∧ Instr.wf (.hayBaleRx 0 0 0 (zeros 533)) = false := by decide +kernel
theorem test_wf_bales : ∀ l ∈ [zeros 15, zeros 529], ∀ c ∈ [Instr.audio 0 l, .control 0 l, .null 0 l, .resvReq 0 l, .resvAck 0 l, .resvNak 0 l,
    .resvFree 0 l, .app 0 l, .sync 0 0 l, .dreq 0 0 0 l, .dresp 0 0 l, .announce 0 l, .ahead 0 0 l, .hello 0 l, .roll 0 l, .reject 0 l,
    .bcast 0 l, .lbeat l, .wbeat l, .mirror l], Instr.wf c = false := by decide +kernel
theorem test_wf_flash : Instr.wf (.flsCmdDone (zeros 257)) = false ∧ Instr.wf (.windowWWrite 1 0 0 0) = false ∧
    Instr.wf (.windowRead 0 0 0 false false false) = false := by decide +kernel
theorem test_wf_memory : Instr.wf (.stewardMemoryAccess 0 0 0 3 0) = false ∧ Instr.wf (.stewardMemoryAccess 0 0 0 4 0) = true := by decide +kernel

end Sys2Proof.Tests
end

