-- ==== Sys2Proof/Tests/Behaviour.lean ====
section
/-!
SUPPORT. Single commands and formulas against the numbers of the spec's worked examples.
-/
namespace Sys2Proof.Tests

set_option Elab.async false

open Sys2Proof Sys2Proof.Machine

/-- Worked example of chapter 21: FLT_SRC30 and PD_MOISTCFG of DS3 after reset. -/
theorem test_reset_words : upDev.get (F.FLT_SRC_CLASS 30) = 2 ∧ upDev.get (F.FLT_SRC_N 30) = 16 ∧ upDev.get (F.FLT_SRC_W 30) = 0x64 ∧
    upDev.get (F.PD_MOISTCFG_EN 3) = 1 ∧ upDev.get (F.PD_MOISTCFG_CLEARN 3) = 3 ∧ upDev.get (F.PD_MOISTCFG_ACTLIM 3) = 3 ∧
    upDev.get (F.PD_MOISTCFG_LIMIT 3) = 2 := by decide +kernel
/-- The same example: a 16-bit store is recorded with E_ALIGN and its offset. -/
theorem test_short_store : let d := after (.registerWrite 0 none 0x2634 2 0) upDev; d.get F.GLB_CFGERR_CODE = 0x0E ∧ d.get F.GLB_CFGERR_OFFSET = 0x2634 ∧ d.get (F.PD_MOISTCFG_EN 3) = 1 := by decide +kernel
/-- Worked example of chapter 07: slot 5 at BASE 48 meets slot 4. -/
def carved : Dev :=
  after (.registerWrite 0 none 0x5824 4 0x8C480030) -- EN, IN, bulk, EPNUM 2, MPS 512, BASE 48
    (on [(F.EPM_SLOT_EN 4, 1), (F.EPM_SLOT_TYPE 4, 2), (F.EPM_SLOT_EPNUM 4, 1), (F.EPM_SLOT_MPS 4, 512), (F.EPM_SLOT_BASE 4, 37)])
theorem test_carving_overlap : carved.get F.GLB_CFGERR_CODE = 0x02 ∧ carved.get F.GLB_CFGERR_OFFSET = 0x5824 ∧ carved.get (F.EPM_SLOT_EN 5) = 0 := by
  decide +kernel
/-- Worked examples of chapters 08 and 12: costs in byte-times. -/
theorem test_costs : ctxCost 3 1 1024 2 = 3729 ∧ ctxCost 3 3 64 0 = 139 ∧ ctxCost 3 1 1024 1 = 2486 ∧ ctxCost 3 1 512 0 = 646 ∧ ctxCost 3 3 8 0 = 74 ∧
    peakBytes 7 1 1 8000 = 36 ∧ funcCost true 36 = 90 ∧ laneCost 36 = 76 := by decide +kernel
/-- Worked example of chapter 10: 1,002,050,000 ns seen from the bank boundary at frame 48,096 is frame 48,098. -/
theorem test_align : alignFrames 1002000000 1000000000 2050 48000 = 48098 - 48096 := by decide +kernel
/-- The 4S pack of chapter 06. -/
def pack4 : Dev :=
  { on [(F.CEL_CFG_NCELL, 4), (F.CEL_STAT_PRESENT, 1), (F.RAT_RPACK_REST, 80), (F.CEL_PACK_CODE, 5898), (F.CEL_CUR_CUR, 64336), (F.CEL_STAT_LOWEST, 11731), (F.CEL_CELLLIM_UV, 8192),
      (F.RAT_RAIL_VFLOOR, 1100), (F.RAT_STORE_IMAX, 1500), (F.RAT_STORE_CBULK, 47), (F.RAT_LVL_DRAW 4, 320), (F.RAT_LVL_DRAW 5, 400), (F.RAT_LVL_DRAW 6, 500),
      (F.RAT_CTRL_EN, 1), (F.TDM_STAT_RUNNING 0, 1)] with rat := { ready := true } }
/-- Level 7 for 200 ms is asked and level 5 for 200 ms fits. -/
theorem test_reduced_grant : pack4.admitLevel (pack4.ratModel 5857) 3 7 = some (5, 3) := by decide +kernel
/-- Worked example of chapter 23: 0xB351 on the 2S pack asks level 3 for 200 ms, and nothing fits. -/
def pack2 : Dev :=
  on [(F.CEL_CFG_NCELL, 2), (F.CEL_STAT_PRESENT, 1), (F.RAT_RPACK_REST, 120), (F.CEL_PACK_CODE, 2703), (F.CEL_CUR_CUR, 64936), (F.CEL_STAT_LOWEST, 10748), (F.CEL_CELLLIM_UV, 8192),
    (F.RAT_RAIL_VFLOOR, 640), (F.RAT_STORE_IMAX, 600), (F.RAT_STORE_CBULK, 22), (F.RAT_LVL_DRAW 0, 24), (F.RAT_LVL_DRAW 1, 40), (F.RAT_LVL_DRAW 2, 60),
    (F.CHG_STAT_INPORT, 1), (F.SUP_STAT_INPUT, 1), (F.PD_STAT_TCSTATE 0, 2), (F.PD_VBUS_VOLT 0, 250), (F.PD_VBUS_CUR 0, 50)]
/-- Its grant word carries ENERGY, TAG 5 and even parity; its headroom of 9.492 W lies between draws of 9.0 W and 9.5 W. -/
theorem test_energy : pack2.admitLevel (pack2.ratModel 2683) 3 3 = none ∧ bits 0xB351 12 3 = 3 ∧ bits 0xB351 8 4 = 3 ∧ parity16 0xB351 = 0 ∧
    ((pack2.ratModel 2683).fits 18 100000 = true ∧ (pack2.ratModel 2683).fits 19 100000 = false) ∧
    (Dev.sets pack2 [(F.RAT_STAT_TAG, 5), (F.RAT_STAT_REASON, 1)]).grantWord = 0x0151 := by decide +kernel
/-- Worked example of chapter 13: the header of one AUDIO bale. -/
def audioHeader : List Byte := [0x11, 0x00, 0x03, 0xA7, 0x00, 0x12, 0x70, 0x24, 0x01, 0xF4, 0x03, 0x21, 0x3B, 0x9A, 0xCA, 0x00]
theorem test_audio_bale : let b := parseBale (audioHeader ++ zeros 36); b.type = 1 ∧ b.dst = 0x3A7 ∧ b.src = 0x012 ∧ b.rate = 7 ∧ b.seq = 0x1F4 ∧ b.hd 2 1 = 3 ∧ b.hd 3 1 = 0x21 ∧ b.hd 4 4 = 1000000000 ∧
    b.bytes = audioHeader ++ zeros 36 ∧ wireOk (wireBale b.bytes) = true := by decide +kernel
/-- Worked example of chapter 13: the measured delay of one hop is 310 ns, in eighths of a nanosecond. -/
theorem test_hop_delay : (diff8 (8 * 1003620) (8 * 1000000) - diff8 (8 * 1003540) (8 * 1000540)) / 2 = 8 * 310 := by decide +kernel
/-- Worked example of chapter 17: the 16th TDM_FSERR within its window fences TDMB. -/
theorem test_noisy_sync : let r := ((Dev.fault { upDev with urec := [(0x21B, { valid := true, cause := 30, last := 30, merged := 14, wins := [(30, 15)] })] } 0x21B 30).urecOf 0x21B);
    r.fenced = true ∧ r.sev = true ∧ r.merged = 15 ∧ r.cause = 30 := by decide +kernel
theorem test_noisy_sync_earlier : let r := ((Dev.fault { upDev with urec := [(0x21B, { valid := true, cause := 30, last := 30, merged := 13, wins := [(30, 14)] })] } 0x21B 30).urecOf 0x21B);
    r.fenced = false ∧ r.merged = 14 := by decide +kernel
/-- Worked example of chapter 19: the bytes of a UID in a token. -/
theorem test_token_uid : hdrFld (zeros 8 ++ [0x91, 0x22, 0x4D, 0xC0, 0x3A, 0x1F, 0, 0]) 8 8 = 0x1F3AC04D2291 := by decide +kernel
/-- The published example for P-256 with SHA-256 (RFC 6979, A.2.5): the message "sample". -/
theorem test_ecdsa : p256Verify (sha256 [0x73, 0x61, 0x6D, 0x70, 0x6C, 0x65])
    0x60FED4BA255A9D31C961EB74C6356D68C049B8923B61FA6CE669622E60F29FB6 0x7903FE1008B8BC99A41AE9E95628BC64F2F1B20C2D7E9F5177A3C294D4462299
    0xEFD48B2AACB6A8FD1140DD9CD45E81D69D2C877B56AAF991C34D0EA84EAF3716 0xF7CB1C942D657C41D436C7A1B6E29F65F3E900DBB9AFF4064DC4AB2F843ACDA8 = true := by
  decide +kernel

end Sys2Proof.Tests
end

