-- ==== Sys2Proof/Tests/WitnessA.lean ====
section
/-!
SUPPORT. Witnesses: for each statement of Obligations.lean with hypotheses, states and operands that meet the hypotheses of each clause.
-/
namespace Sys2Proof.Tests

set_option Elab.async false

open Sys2Proof Sys2Proof.Machine

/-! ### The block as a whole, register writes, crossings and crystals -/

theorem witness_EveryCommandCompletes : ∃ s : State, s.dev.lar.due = [] := ⟨State.reset, by decide +kernel⟩
theorem witness_Idle : State.reset.pending = [] ∧ State.reset.dev.coreOn = false ∧ (st upDev).pending = [] ∧ (st upDev).dev.coreOn = true := by
  decide +kernel
theorem witness_NothingBeforeRelease : State.reset.dev.up = false := by decide +kernel

/-- A running device that is level. -/
def levelDev : Dev := on [(F.RAT_STAT_INONLY, 1), (F.RAT_STAT_LIMIT, 1)]

theorem witness_StepKeepsLevel : levelDev.settle.Level := by unfold Dev.Level; decide +kernel
theorem witness_StepKeepsLevel_next : ({ pending := [.por] } : State).dev.Level ∧ ({ pending := [.por] } : State).pending ≠ [] := by
  unfold Dev.Level; decide +kernel
theorem witness_FieldReadsAsWritten : ∃ (d : Dev) (v : Nat), d.get F.SUP_PACE_MIN = v % 2 ^ F.SUP_PACE_MIN.w := ⟨upDev, 0xFFF, by decide +kernel⟩
theorem witness_MapWrites : ∃ m : Map EccWord, mapWf {} m = true ∧ m ≠ [] := ⟨[(3, ⟨0, 0⟩)], by decide +kernel⟩

/-- One word for every path of REGISTER_WRITE: size, alignment, a reserved offset, a read-only row, a register with a writer of its own,
one that is applied, one that is rejected. -/
theorem witness_RegisterWriteBar0 : ∃ s : State, s.dev.up = true ∧ s.dev.reaches 0 none = true ∧ s.dev.reaches 1 none = true ∧
    findRow 0x8 bar0Rows = none ∧ (∃ r i, findRow 0 bar0Rows = some (r, i) ∧ allRo r = true) ∧
    (∃ r i, findRow 0x1C18 bar0Rows = some (r, i)) :=
  ⟨st (on [(F.GLB_CTRL_LOCK, 1), (F.HIF_STAT_LINKUP, 1)]), by decide +kernel, by decide +kernel, by decide +kernel, by decide +kernel, ⟨_, _, rfl, by decide +kernel⟩, ⟨_, _, rfl⟩⟩
theorem witness_RegisterWritePage : (let d : Dev := on [(F.GLB_CTRL_LOCK, 1), (F.HIF_STAT_LINKUP, 1), (F.TEN_GSTAT_EXISTS 0, 1)];
      d.up = true ∧ d.reaches 1 (some 0) = true ∧ d.tenantExists 0 = true ∧ d.flrBusy 0 = false) ∧
    (let d : Dev := on [(F.GLB_CTRL_LOCK, 1), (F.GLB_CTRL_T0HOST, 1), (F.TEN_GSTAT_EXISTS 0, 1)];
      d.reaches 0 (some 0) = true ∧ d.tenantExists 0 = true) := by decide +kernel
theorem witness_HostAndLink : upDev.up = true ∧ (0 : Word).toNat < 4 ∧ (3 : Word).toNat < 4 ∧ upDev.code = 1 ∧ upDev.get F.GLB_CTRL_LOCK = 0 ∧
    (on [(F.GLB_CTRL_LOCK, 1)]).up = true ∧ (on [(F.GLB_CTRL_LOCK, 1)]).code = 1 ∧ (on [(F.GLB_CTRL_LOCK, 1)]).get F.GLB_CTRL_LOCK = 1 ∧
    bits (3 : Word).toNat 1 1 ≠ (on [(F.GLB_CTRL_LOCK, 1)]).get F.GLB_CTRL_T0HOST ∧
    (live []).up = true ∧ (live []).endpoint = true ∧ (live []).pcieHeld = false ∧
    (on [(F.SUP_STAT_PHYHOLD, 1)]).up = true ∧ (on [(F.SUP_STAT_PHYHOLD, 1)]).pcieHeld = true := by decide +kernel
/-- Crossing 9 is a FIFO and crossing 21 a pair of banks: each with room, and each with something ready. -/
theorem witness_Buffers : pingPong 9 = false ∧ pingPong 21 = true ∧ ({} : CrossDir).roomFor 9 true 0 1 = true ∧
    ({} : CrossDir).roomFor 21 true 0 512 = true ∧ (({} : CrossDir).put 9 1).ready 9 0 = true ∧ (({} : CrossDir).put 21 1).ready 21 0 = true := by
  decide +kernel
theorem witness_up : ∃ s : State, s.dev.up = true := ⟨st upDev, by decide +kernel⟩
theorem witness_XclrClears : upDev.up = true ∧ (0x2000000 : Word).toNat < 2 ^ 26 ∧ bitOf (0x2000000 : Word).toNat 25 = true ∧
    bitOf (0x2000000 : Word).toNat 0 = false ∧ 2 ^ 26 ≤ (0x4000000 : Word).toNat := by decide +kernel
theorem witness_CountCaptures : upDev.up = true ∧ upDev.xt.count < 2 ^ 64 := by decide +kernel
theorem witness_UncapturedReadsZero : ∃ d : Dev, mapFind d.xt.cap 0 = none := ⟨upDev, by decide +kernel⟩
theorem witness_Pace : (let d : Dev := Dev.sets { upDev with xt := { lowRun := 15 } } [(F.SUP_PACECFG_FLOOR, 0xFFF), (F.SUP_PACECFG_RUN, 15), (F.SUP_PACECFG_EN, 1)];
      d.coreOn = true ∧ d.xt.armed = true ∧ min (0xFFE : BitVec 16).toNat 0xFFF < d.get F.SUP_PACECFG_FLOOR ∧
      d.get F.SUP_PACECFG_RUN ≤ satInc 15 d.xt.lowRun ∧ d.is F.SUP_PACECFG_EN = true) ∧
    ({ upDev with xt := { armed := false } } : Dev).coreOn = true ∧ ({ upDev with xt := { armed := false } } : Dev).xt.armed = false ∧
    setsReserved R.SUP_PACECFG (withBit (0x1000 : Word) 31) = false ∧ bits (0x1000 : Word).toNat 12 4 ≠ 0 := by decide +kernel
theorem witness_Crystals : (∃ s : State, s.dev.coreOn = true ∧ s.dev.is F.SUP_XTSTAT_BACKUP = false) ∧
    (∃ s : State, s.dev.coreOn = true ∧ s.dev.is F.SUP_XTSTAT_BACKUP = true ∧ s.dev.xt.lost24 = true) ∧
    (∃ s : State, s.dev.coreOn = true ∧ s.dev.is F.SUP_XTSTAT_BACKUP = true ∧ s.dev.xt.lost24 = false) ∧
    (∃ s : State, s.dev.coreOn = true ∧ s.dev.is F.SUP_XTSTAT_XT32OK = true) ∧
    (∃ s : State, s.dev.coreOn = true ∧ s.dev.is F.SUP_XTSTAT_XT32OK = false ∧ s.dev.xt.lost32 = true) ∧
    (∃ s : State, s.dev.coreOn = true ∧ s.dev.is F.SUP_XTSTAT_XT32OK = false ∧ s.dev.xt.lost32 = false) :=
  ⟨⟨st (on [(F.SUP_XTSTAT_BACKUP, 0)]), by decide +kernel⟩,
   ⟨st (Dev.sets { upDev with xt := { lost24 := true } } [(F.SUP_XTSTAT_BACKUP, 1)]), by decide +kernel⟩,
   ⟨st (on [(F.SUP_XTSTAT_BACKUP, 1)]), by decide +kernel⟩, ⟨st (on [(F.SUP_XTSTAT_XT32OK, 1)]), by decide +kernel⟩,
   ⟨st (Dev.sets { upDev with xt := { lost32 := true } } [(F.SUP_XTSTAT_XT32OK, 0)]), by decide +kernel⟩,
   ⟨st (on [(F.SUP_XTSTAT_XT32OK, 0)]), by decide +kernel⟩⟩

/-! ### Power, resets and shutdown -/

/-- A device in a given power state. -/
def inPower (p : Power) : Dev := { pow := { state := p } }

theorem witness_Resets : (inPower .held).power ∉ [.off, .dormant, .dormantTime, .heldDormant] ∧ (inPower .off).power = .off ∧
    (inPower .heldDormant).power ∈ [.dormant, .dormantTime, .heldDormant] ∧ upDev.power ∉ [.dormant, .dormantTime, .heldDormant] ∧
    upDev.power ∉ [.off, .dormant, .dormantTime, .heldDormant, .held] ∧ (inPower .held).power = .held ∧
    (inPower .off).power ∈ [.off, .dormant, .dormantTime, .heldDormant] ∧ (inPower .railUp).power = .railUp ∧ upDev.power ≠ .railUp ∧
    upDev.coreOn = true ∧ (inPower .railUp).coreOn = false ∧ upDev.key.trans = none ∧ upDev.key.prog = none ∧
    ∀ j ∈ upDev.fls.jobs, j.started = false := by decide +kernel
theorem witness_StartUp : (inPower .held).power = .held ∧ (inPower .heldDormant).power = .heldDormant ∧ upDev.power ∉ [.held, .heldDormant] ∧
    (inPower .railUp).power = .railUp ∧ upDev.power ≠ .railUp ∧ (inPower .released).power = .released ∧ (3 : Fin 4) ≠ 0 ∧
    upDev.power ≠ .released ∧ (inPower .tested).power = .tested ∧ upDev.power ≠ .tested := by decide +kernel
theorem witness_Wakes : (let d : Dev := { pow := { state := .run }, pd := [(4, { wakeMasked := true })] : Dev }; d.mayFire 4 = false) ∧
    (inPower .dormant).isDormant = true ∧ (inPower .dormant).mayFire 0 = true ∧ (inPower .dormant).mayFire 8 = true ∧
    (inPower .doze).up = true ∧ (inPower .doze).mayFire 8 = true ∧ (inPower .railUp).isDormant = false ∧ (inPower .railUp).up = false ∧
    ({ pow := { state := .dormant, discharge := true, inputLatched := true } } : Dev).pow.discharge = true ∧ upDev.pow.discharge = false := by
  decide +kernel
theorem witness_Seconds : (on [(F.SUP_SECONDS_COUNT, 0xFFFFFFFF)]).up = true ∧ (inPower .dormantTime).power = .dormantTime ∧
    (inPower .dormant).up = false ∧ (inPower .dormant).power ≠ .dormantTime := by decide +kernel
theorem witness_Latch : (0 : Fin 9).val < 5 ∧ 5 ≤ (8 : Fin 9).val := by decide +kernel
theorem witness_WarningAndHold : upDev.supOn = true ∧ upDev.is F.SUP_STAT_WARN = false ∧ (inPower .off).supOn = false ∧
    (on [(F.SUP_STAT_WARN, 1)]).supOn = true ∧ (on [(F.SUP_STAT_WARN, 1)]).is F.SUP_STAT_WARN = true ∧
    upDev.coreOn = true ∧ upDev.is F.SUP_STAT_PHYHOLD = false ∧ (inPower .off).coreOn = false ∧
    (on [(F.SUP_STAT_PHYHOLD, 1)]).coreOn = true ∧ (on [(F.SUP_STAT_PHYHOLD, 1)]).is F.SUP_STAT_PHYHOLD = true := by decide +kernel
theorem witness_ShutdownStarts : upDev.up = true ∧ setsReserved R.SUP_SHUT (withBit (1 : Word) 0) = false ∧ bits (1 : Word).toNat 1 2 = 0 := by
  decide +kernel
/-- A device in a shutdown sequence. -/
def inStage (n : Nat) (l : List (Fld × Nat)) : Dev := on ((F.SUP_STAT_STAGE, n) :: l)
/-- One in which an abort waits for a commit, and one in which an abort waits for the flushes of S2. -/
def waitDev : Dev := Dev.sets { pow := { state := .run, abortWait := true } } [(F.SUP_STAT_STAGE, 3)]
def abortDev : Dev := { pow := { state := .run, aborting := some 2 } }
theorem witness_ShutdownProgress : (inStage 2 []).get F.SUP_STAT_STAGE = 2 ∧ (inStage 2 []).s2Busy = false ∧ (inStage 2 []).pow.abortWait = false ∧
    (inStage 2 []).pow.aborting = none ∧ waitDev.pow.abortWait = true ∧ waitDev.grn.commit = none ∧
    abortDev.get F.SUP_STAT_STAGE = 0 ∧ abortDev.pow.abortWait = false ∧ abortDev.pow.aborting = some 2 ∧
    upDev.get F.SUP_STAT_STAGE ≠ 2 ∧ upDev.pow.abortWait = false ∧ upDev.pow.aborting = none := by decide +kernel
theorem witness_ShutdownSequence : setsReserved R.SUP_SHUT (withBit (2 : Word) 1) = false ∧ bitOf (2 : Word).toNat 0 = false ∧
    bitOf (2 : Word).toNat 2 = false ∧ setsReserved R.SUP_SHUT (withBit (4 : Word) 2) = false ∧ bits (4 : Word).toNat 0 2 = 0 := by decide +kernel
theorem witness_InputPresent : upDev.up = true ∧ (inPower .dormant).up = false := by decide +kernel
/-- A pack that counts as input. -/
def packIn : List (Fld × Nat) := [(F.CEL_STAT_PRESENT, 1), (F.CEL_STAT_LOWEST, 0x3FFF)]
theorem witness_InputEdge : (inPower .off).up = false ∧ (on [(F.SUP_STAT_INPUT, 1)]).is F.SUP_STAT_INPUT = true ∧ upDev.inputHolds = false ∧
    (on packIn).up = true ∧ (on packIn).is F.SUP_STAT_INPUT = false ∧ (on packIn).inputHolds = true ∧ (on packIn).get F.SUP_STAT_STAGE = 0 ∧
    (inStage 4 packIn).get F.SUP_STAT_STAGE = 4 ∧ (inStage 4 packIn).inputHolds = true ∧ (inStage 4 packIn).packInput = true ∧
    (inStage 4 packIn).is F.SUP_STAT_INPUT = false ∧
    (inStage 3 packIn).inputHolds = true ∧ (inStage 3 packIn).get F.SUP_STAT_STAGE ≠ 0 ∧ (inStage 3 packIn).get F.SUP_STAT_STAGE ≠ 4 ∧
    (inStage 3 packIn).is F.SUP_STAT_INPUT = false := by decide +kernel
theorem witness_Doze : upDev.up = true ∧ setsReserved R.SUP_STATE (BitVec.ofNat 32 ((0 : Word).toNat - bits (0 : Word).toNat 4 4 * 16 + 16)) = false := by
  decide +kernel

/-! ### Type-C and Power Delivery -/

theorem witness_TypeCAttach : upDev.up = true ∧ (on [(F.PD_STAT_TCSTATE 4, 6)]).rouse.tcState 4 ∉ [0, 1, 4] ∧
    (on [(F.PD_STAT_TCSTATE 0, 4)]).rouse.tcState 0 ∈ [0, 1, 4] := by decide +kernel
theorem witness_PdPop : upDev.up = true ∧ setsReserved R.PD_RXSTAT ((0 : Word) ||| 0x100) = false ∧
    upDev.get (F.PD_RXSTAT_COUNT 4) = 0 ∧ (on [(F.PD_RXSTAT_COUNT 4, 4)]).get (F.PD_RXSTAT_COUNT 4) = 4 := by decide +kernel
theorem witness_PdTransmit : upDev.up = true ∧ (2 : Fin 32).val ≤ 30 ∧ 2 ≤ (30 : Fin 32).val ∧ (on [(F.PD_TXCMD_BUSY 0, 1)]).is (F.PD_TXCMD_BUSY 0) = true ∧
    upDev.is (F.PD_TXCMD_BUSY 4) = false ∧ (1 : Fin 32).val < 2 ∧ (1 : Fin 32).val ≠ upDev.get (F.PD_TXCMD_LEN 0) ∧
    (31 : Fin 32).val ≠ upDev.get (F.PD_TXCMD_LEN 0) := by decide +kernel
theorem witness_PdTransmitAccept : (let d : Dev := Dev.sets { upDev with pd := [(0, { reqIn := true })] } [(F.PD_STAT_TCSTATE 0, 3)];
    (d.port 0).reqIn = true ∧ d.isSource 0 = true ∧ isControl [0x43, 0] 3 = true) := by decide +kernel
theorem witness_PdFaults : (let d : Dev := Dev.sets { upDev with pd := [(4, { vbg := true })] } [(F.PD_STAT_TCSTATE 4, 3)];
    d.up = true ∧ d.isSource 4 = true ∧ (d.port 4).vbg = true ∧ (upDev.port 4).vbg = false) := by decide +kernel

end Sys2Proof.Tests
end

