-- ==== Sys2Proof/Tests/WitnessB.lean ====
section
/-!
SUPPORT. Witnesses: for each statement of Obligations.lean with hypotheses, states and operands that meet the hypotheses of each clause.
-/
namespace Sys2Proof.Tests

set_option Elab.async false

open Sys2Proof Sys2Proof.Machine

/-! ### Charger, cell monitor and Ration -/

/-- Any single fields given, the conditions under which the charger may run (R134). -/
def chargeable (l : List (Fld × Nat)) : Dev :=
  { on ([(F.CHG_CTRL_EN, 1), (F.CHG_STAT_INPORT, 1), (F.PD_STAT_CONTRACT 0, 1), (F.CEL_CFG_NCELL, 8), (F.CEL_STAT_PRESENT, 1), (F.CHG_STAT_TBAND, 2)] ++ l) with
    stw := { rom := .image } }
/-- A device with an open charge session. -/
def session (l : List (Fld × Nat)) : Dev := { on l with pack := { sess := true } }

theorem witness_Pack : upDev.up = true := by decide +kernel
theorem witness_SessionRecord : (session []).pack.sess = true ∧ 1 ≤ 8 ∧ 0 < 16 ∧ upDev.pack.sess = false := by decide +kernel
theorem witness_ChargeSessions : (chargeable []).mayCharge = true ∧ (chargeable []).up = true ∧
    setsReserved R.CHG_CTRL ((0x52 : Word) ||| 0x10000) = false ∧ setsReserved R.CHG_CTRL ((2 : Word) &&& 0xFFFFFFFD) = false := by decide +kernel
theorem witness_CellScan : (let d : Dev := { on [(F.CEL_CFG_NCELL, 8), (F.CEL_STAT_OWBUSY, 1)] with pack := { owPin := 8, gauge := 2 ^ 47 - 2 } };
      d.up = true ∧ (7 : Fin 8).val < d.nCells ∧ d.withheld 7 = true ∧ d.withheld 0 = false ∧ (2 ^ 47 - 1 : Int) ≤ d.pack.gauge + 1 ∧ (0 : Int) < 1 ∧
      -(2 ^ 47 : Int) < d.pack.gauge + 0 ∧ d.pack.gauge + 0 < (2 ^ 47 - 1 : Int)) ∧
    (let d : Dev := { pack := { gauge := 1 - 2 ^ 47 } }; d.pack.gauge + (-1) ≤ -(2 ^ 47 : Int) ∧ (-1 : Int) < 0) := by decide +kernel
theorem witness_ScanFollows : (let d : Dev := session [(F.CHG_STAT_STATE, 3), (F.CHG_STAT_TBAND, 4)];
      d.pack.sess = true ∧ d.get F.CHG_STAT_SUSP ≠ 4 ∧ d.suspReason ≠ 0) ∧
    (let d : Dev := Dev.sets { upDev with pack := { sess := true }, stw := { rom := .image } } [(F.CHG_STAT_STATE, 6), (F.CHG_STAT_TBAND, 2), (F.CHG_STAT_SUSP, 1)];
      d.pack.sess = true ∧ d.get F.CHG_STAT_SUSP ≠ 4 ∧ d.suspReason = 0 ∧ d.get F.CHG_STAT_STATE = 6 ∧ d.stewardRuns = true ∧ d.pack.dead = false) ∧
    (session [(F.CHG_STAT_SUSP, 4)]).get F.CHG_STAT_SUSP = 4 ∧ upDev.pack.sess = false := by decide +kernel
theorem witness_OpenWireTest : upDev.up = true ∧ setsReserved R.CEL_OWCFG ((0 : Word) ||| 0x100) = false ∧
    8 ≤ (on [(F.CEL_CFG_NCELL, 8)]).nCells ∧ (on [(F.CEL_CFG_NCELL, 8)]).nCells ≤ 8 ∧ (0 : Nat) ≤ upDev.nCells ∧ upDev.nCells ≤ 8 ∧
    setsReserved R.CEL_GAUGEH ((0 : Word) ||| 0x40000000) = false := by decide +kernel

/-- The seven draws strictly increasing and the settings that EN asks for. -/
def rated (l : List (Fld × Nat)) : Dev :=
  on ((List.range 7).map (fun i => (F.RAT_LVL_DRAW i, i)) ++ [(F.RAT_STORE_CBULK, 1), (F.RAT_RAIL_VFLOOR, 1), (F.RAT_RPACK_RCFG, 1)] ++ l)

theorem witness_BurstRequest : upDev.up = true ∧ upDev.is (F.TDM_STAT_RUNNING (upDev.get F.RAT_CTRL_PORT)) = false ∧
    (on [(F.RAT_CTRL_PORT, 1), (F.TDM_STAT_RUNNING 1, 1)]).up = true ∧
    (on [(F.RAT_CTRL_PORT, 1), (F.TDM_STAT_RUNNING 1, 1)]).is (F.TDM_STAT_RUNNING ((on [(F.RAT_CTRL_PORT, 1), (F.TDM_STAT_RUNNING 1, 1)]).get F.RAT_CTRL_PORT)) = true := by
  decide +kernel
theorem witness_BurstDecision : (∃ (d : Dev) (w : Nat), w < 2 ^ 16 ∧ bits w 12 3 = 0 ∧ d.is F.RAT_STAT_ACTIVE = true) ∧
    (∃ (d : Dev) (w r : Nat), w < 2 ^ 16 ∧ bits w 12 3 ≠ 0 ∧ d.preReason = some r ∧ r < 16 ∧ d.is F.RAT_STAT_ACTIVE = false) ∧
    (∃ (d : Dev) (w vr l t : Nat), w < 2 ^ 16 ∧ bits w 12 3 ≠ 0 ∧ d.preReason = none ∧ d.admitLevel (d.ratModel vr) (bits w 8 4) (bits w 12 3) = some (l, t)) ∧
    (∃ (d : Dev) (w vr : Nat), w < 2 ^ 16 ∧ bits w 12 3 ≠ 0 ∧ d.preReason = none ∧ d.admitLevel (d.ratModel vr) (bits w 8 4) (bits w 12 3) = none ∧
      d.is F.RAT_STAT_ACTIVE = false) :=
  ⟨⟨on [(F.RAT_STAT_ACTIVE, 1)], 0x8FF0, by decide +kernel⟩, ⟨on [(F.SUP_STAT_STAGE, 1)], 0xFFF0, 3, by decide +kernel⟩,
   ⟨{ rated [(F.RAT_CTRL_EN, 1), (F.CEL_STAT_PRESENT, 1), (F.CEL_PACK_CODE, 0x3FFF), (F.CEL_CFG_NCELL, 8), (F.CEL_STAT_LOWEST, 0x3FFF), (F.RAT_RPACK_REST, 1)] with rat := { ready := true } }, 0xFF00, 0, 7, 15, by decide +kernel⟩,
   ⟨{ rated [(F.RAT_CTRL_EN, 1), (F.RAT_LVL_DRAW 0, 0x3FF), (F.RAT_RPACK_REST, 1)] with rat := { ready := true } }, 0x9000, 0, by decide +kernel⟩⟩
theorem witness_AdmittedLevelFits : ∃ (d : Dev) (l t : Nat), d.admitLevel (d.ratModel 0) 15 7 = some (l, t) :=
  ⟨{ rated [(F.RAT_CTRL_EN, 1), (F.CEL_STAT_PRESENT, 1), (F.CEL_PACK_CODE, 0x3FFF), (F.CEL_CFG_NCELL, 8), (F.CEL_STAT_LOWEST, 0x3FFF), (F.RAT_RPACK_REST, 1)] with rat := { ready := true } }, 7, 15, by decide +kernel⟩
theorem witness_GrantWordParity : ∃ d : Dev, d.get F.RAT_STAT_LEVEL = 7 ∧ d.get F.RAT_STAT_REASON = 15 ∧ d.get F.RAT_STAT_TAG = 15 ∧ d.rat.dur < 16 :=
  ⟨{ on [(F.RAT_STAT_LEVEL, 7), (F.RAT_STAT_REASON, 15), (F.RAT_STAT_TAG, 15)] with rat := { dur := 15 } }, by decide +kernel⟩
theorem witness_RationEnable : (∃ (s : State) (w : Word), s.dev.up = true ∧ setsReserved R.RAT_CTRL (w ||| 1) = false ∧ bits (w ||| 1).toNat 16 8 = 0) ∧
    (∃ (s : State) (w : Word), s.dev.up = true ∧ setsReserved R.RAT_CTRL (w ||| 1) = false ∧ bits (w ||| 1).toNat 16 8 ≠ 0 ∧
      s.dev.changesLocked .bar0 R.RAT_CTRL 0 (w ||| 1) = false ∧ s.dev.is F.RAT_CTRL_EN = false ∧
      ∃ i < 6, s.dev.get (F.RAT_LVL_DRAW (i + 1)) ≤ s.dev.get (F.RAT_LVL_DRAW i)) ∧
    (∃ (s : State) (w : Word), s.dev.up = true ∧ setsReserved R.RAT_CTRL (w ||| 1) = false ∧ bits (w ||| 1).toNat 16 8 ≠ 0 ∧
      s.dev.changesLocked .bar0 R.RAT_CTRL 0 (w ||| 1) = false ∧ s.dev.is F.RAT_CTRL_EN = false ∧
      (∀ i < 6, s.dev.get (F.RAT_LVL_DRAW i) < s.dev.get (F.RAT_LVL_DRAW (i + 1))) ∧ s.dev.get F.RAT_STORE_CBULK ≠ 0 ∧
      s.dev.get F.RAT_RAIL_VFLOOR ≠ 0 ∧ s.dev.get F.RAT_RPACK_RCFG ≠ 0 ∧
      bits w.toNat 4 1 ≠ s.dev.get F.RAT_CTRL_PORT ∧ bitOf w.toNat 1 = false) :=
  ⟨⟨st upDev, 1, by decide +kernel⟩, ⟨st upDev, 0x10001, by decide +kernel⟩, ⟨st (rated []), 0xFF0011, by decide +kernel⟩⟩
theorem witness_Grants : upDev.up = true ∧ setsReserved R.RAT_CTRL ((0x640010 : Word) ||| 2) = false ∧ bits ((0x640010 : Word) ||| 2).toNat 16 8 ≠ 0 ∧
    upDev.changesLocked .bar0 R.RAT_CTRL 0 ((0x640010 : Word) ||| 2) = false ∧ bitOf ((0x640010 : Word) ||| 2).toNat 0 = upDev.is F.RAT_CTRL_EN := by
  decide +kernel

/-! ### Hub path -/

/-- A hub connected to a running host. -/
def hubbed (l : List (Fld × Nat)) : Dev := live ((F.PRT_STAT_STATUS 0, 1) :: l)
/-- And its audio function with slot `n` enabled. -/
def funcd (n : Nat) (l : List (Fld × Nat)) : Dev :=
  hubbed ([(F.HUB_CTRL_FNEN, 1), (F.PRT_STAT_STATUS 9, 1), (F.HUB_STAT_FNCFG, 1), (F.EPM_SLOT_EN n, 1), (F.EPM_SLOT_MPS n, 8)] ++ l)

/-- SETUP packets: SET_ADDRESS, SET_CONFIGURATION, GET_STATUS and SET_FEATURE(PORT_RESET) of ports at both ends of their ranges, a reserved type. -/
theorem witness_HubControl : (hubbed []).up = true ∧ (hubbed []).hubLive = true ∧ suType 0x0500 = 0 ∧ suReq 0x0500 = 5 ∧ suReq 0x0900 = 9 ∧
    suType 0x00000009000000A3 = 0xA3 ∧ suReq 0x00000009000000A3 = 0 ∧ suIndex 0x00000009000000A3 % 256 = 9 ∧ suIndex 0x00000001000000A3 % 256 = 1 ∧
    suType 0x0000000800040323 = 0x23 ∧ suReq 0x0000000800040323 = 3 ∧ suValue 0x0000000800040323 = 4 ∧ suIndex 0x0000000800040323 % 256 = 8 ∧
    (hubbed [(F.PRT_STAT_STATUS 8, 0x100)]).st 8 8 = true ∧ bits 0x60 5 2 = 3 ∧
    ({ funcd 2 [] with hub := { setup := some 0x0500 } } : Dev).fnLive = true ∧ ({ funcd 2 [] with hub := { setup := some 0x0500 } } : Dev).up = true ∧
    fnForwarded 0x0500 = false ∧ fnForwarded 0x0900 = true ∧ (hubbed []).hub.setup = none ∧ (hubbed []).fnLive = false ∧
    upDev.up = true ∧ upDev.hubLive = false ∧ upDev.fnLive = false ∧ setsReserved R.HUB_CTLREPLY (2 : Word) = false := by decide +kernel
theorem witness_FunctionEndpoints : upDev.up = true ∧ 2 ≤ (15 : Fin 16).val ∧ setsReserved R.EPM_BANK (0x80088008 : Word) = false ∧ (1 : Fin 16).val < 2 := by
  decide +kernel
theorem witness_HubUpstream : upDev.up = true ∧
    (∀ i ∈ [8, 0, 1], setsReserved R.HUB_CTRL (withBit (5 : Word) i) = false ∧
      (hubbed [(F.EPM_DIR_COUNT, 1)]).changesLocked .bar0 R.HUB_CTRL 0 (withBit (5 : Word) i) = false) ∧
    (let d : Dev := live [(F.HUB_CTRL_EN, 1), (F.PD_STAT_TCSTATE 0, 2)];
      d.is F.HUB_CTRL_EN = true ∧ d.usbAllowed 0 = true ∧ d.is (F.PRT_STAT_FENCED 0) = false) := by decide +kernel
theorem witness_HubPorts : upDev.up = true ∧ (8 : Fin 9).val ≠ 0 ∧ (live []).isLocal 8 = false ∧ (live [(F.PRT_STAT_SIDE 8, 1)]).isLocal 8 = true := by
  decide +kernel

/-! ### Port steering and the local host engine -/

/-- A port steered to the local host engine, owned by T000 and powered. -/
def localled (p : Nat) (l : List (Fld × Nat)) : Dev :=
  live ([(F.PRT_STAT_SIDE p, 1), (F.PRT_LSTAT_PARKED (p - 1), 0), (F.PRT_LSTAT_POWER (p - 1), 1), (F.LHE_CTRL_EN, 1)] ++ l)
/-- A steer of a port at a step. -/
def steered (p : Nat) (x : Steer) (l : List (Fld × Nat)) : Dev := { live l with lhe := { steer := [(p, x)] } }
/-- A bulk IN context on DS8 with a transfer of 16 bytes. -/
def transferring : Dev :=
  { localled 8 [(F.PRT_LSTAT_ENABLED 7, 1), (F.PRT_LSTAT_CONN 7, 1), (F.PRT_LSTAT_SPEED 7, 3), (F.LHE_CTXW0_VALID 127, 1), (F.LHE_CTXW0_PORT 127, 8), (F.LHE_CTXW0_STATE 127, 1),
      (F.LHE_CTXW0_TYPE 127, 2), (F.LHE_CTXW0_DIR 127, 1), (F.LHE_CTXW1_MPS 127, 8)] with
    hif := { running := [{ t := 0, sq := 0, idx := 0, op := 0x06, w := [127, 0x1000, 0, 16, 0, 0, 0] }] } }

theorem witness_Steering : upDev.up = true ∧ 1 ≤ (8 : Fin 10).val ∧ (8 : Fin 10).val ≤ 8 ∧ setsReserved R.PRT_STEER (withBit (0x1000000 : Word) 31) = false ∧
    (let d : Dev := live [(F.LHE_CTRL_EN, 1)];
      firstByRank (d.steerChecks 8 (bitOf (withBit (0x1000000 : Word) 31).toNat 24) (bits (withBit (0x1000000 : Word) 31).toNat 0 8)) = .done) ∧
    (0 : Fin 10).val = 0 ∧ (9 : Fin 10).val = 9 ∧
    (let d : Dev := { live [(F.LHE_CTRL_EN, 1)] with urec := [(0, { fenced := true })] };
      d.unitFenced 0 = true ∧ d.is (F.PRT_STEER_BUSY (8 - 1)) = false ∧ firstByRank (d.steerWrong 8 true 0) = .done) ∧ (8 : Fin 9).val ≠ 0 := by
  decide +kernel
theorem witness_LocalPorts : upDev.up = true := by decide +kernel
/-- A control context on DS1 with a transfer at a stage. -/
def control (stage op : Nat) : Dev × Tkt :=
  let tk : Tkt := { t := 0, sq := 0, idx := 0, op := op, w := [127, 0x1000, 0, 16, 0, 0, 0], stage := stage };
  ({ Dev.sets transferring [(F.LHE_CTXW0_TYPE 127, 0)] with hif := { running := [tk] } }, tk)
/-- A transaction that is in its place; the stages of a control transfer; a bulk IN and a bulk OUT transfer; a halt of each cause. -/
theorem witness_LocalTransactions : transferring.up = true ∧ transferring.starts 127 = true ∧ upDev.starts 127 = false ∧
    (∃ tk t, transferring.live (isXfer 127) = tk :: t ∧ transferring.inPart tk.t = false ∧ transferring.xferIn 127 tk = true ∧
      transferring.get (F.LHE_CTXW0_TYPE 127) = 2 ∧ (Dev.sets transferring [(F.LHE_CTXW0_DIR 127, 0)]).xferIn 127 tk = false) ∧
    (∀ k ∈ [0, 1, 2], (control k 6).1.inPart (control k 6).2.t = false ∧ ((control k 6).1.get (F.LHE_CTXW0_TYPE 127) == 0) = true ∧
      (control k 6).2.stage = k) ∧
    transferring.get (F.LHE_CTXW0_PORT 127) < 9 ∧ (3 : Nat) < 4 := by
  refine ⟨by decide +kernel, by decide +kernel, by decide +kernel, ⟨_, _, rfl, by decide +kernel⟩, by decide +kernel, by decide +kernel, by decide +kernel⟩
theorem witness_LocalMicroframes : upDev.up = true ∧ upDev.lhe.sofAt = none ∧ ({ upDev with lhe := { sofAt := some 3000 } } : Dev).lhe.sofAt = some 3000 := by
  decide +kernel

end Sys2Proof.Tests
end

