-- ==== Sys2Proof/Tests/WitnessC.lean ====
section
/-!
SUPPORT. Witnesses: for each statement of Obligations.lean with hypotheses, states and operands that meet the hypotheses of each clause.
-/
namespace Sys2Proof.Tests

set_option Elab.async false

open Sys2Proof Sys2Proof.Machine

/-! ### Streams, the Larder, the serial audio ports -/

/-- Stream `s` in a state with a source code, and one sink at place 0. -/
def streaming (s state source sink : Nat) (l : List (Fld × Nat)) : Dev :=
  { live ([(F.STR_W0_STATE s, state), (F.STR_W0_SOURCE s, source), (F.STR_W2_SINK0 s, sink), (F.LAR_CTRL_LOCK, 1)] ++ l) with
    strm := [(s, { sinks := [(0, {})] })] }
/-- A descriptor of T000 on SQ0. -/
def descr (op : Nat) (w : List Nat) : Tkt := { t := 0, sq := 0, idx := 0, op := op, w := w ++ [0, 0, 0, 0, 0, 0, 0] }

theorem witness_QueueTakesWhole : (∃ d : Dev, d.get (F.QUE_W0_MODE 1023) = 0 ∧ (d.enqueueAs 1023 (zeros 65) 0 0 fun _ => false).2 = 0) ∧
    (∃ d : Dev, d.get (F.QUE_W0_MODE 1023) = 0 ∧ (d.enqueueAs 1023 (zeros 65) 0 0 fun _ => false).2 = 1) :=
  ⟨⟨on [(F.QUE_W0_MODE 1023, 0), (F.QUE_W0_DEPTH 1023, 2)], by decide +kernel⟩, ⟨on [(F.QUE_W0_MODE 1023, 0), (F.QUE_W0_DEPTH 1023, 1)], by decide +kernel⟩⟩
theorem witness_Streams : (∃ s : State, s.dev.up = true ∧ epKind (s.dev.srcCode 255) ≠ 5 ∧ s.dev.sourceHeld 255 = false ∧ s.dev.strState 255 ∈ [2, 3] ∧
      (s.dev.stream 255).srcLost = false) ∧
    (∃ (s : State) (tk : Tkt) (t : List Tkt), s.dev.up = true ∧ epKind (s.dev.srcCode 0) = 5 ∧
      s.dev.live (isBuf (ringTenant (s.dev.srcCode 0)) (ringSq (s.dev.srcCode 0))) = tk :: t ∧ s.dev.ringPaused (s.dev.srcCode 0) = false ∧
      s.dev.strState 0 ∈ [2, 3] ∧ s.dev.inPart tk.t = false ∧ s.dev.fits 512 (ceilDiv tk.len 64) = true) ∧
    (∃ d : Dev, d.strState 255 = 2 ∧ d.get (F.STR_W1_PREFILL 255) ≤ d.qCells (512 + 255)) ∧ (∃ s : State, s.dev.up = true ∧ s.dev.strState 0 ≠ 0) ∧
    (∃ s : State, s.dev.up = true ∧ s.dev.strState 0 = 0 ∧ s.dev.flushing 0 = false) ∧ (∃ s : State, s.dev.up = true ∧ s.dev.flushing 0 = true) ∧
    (∃ s : State, s.dev.up = true ∧ s.dev.strState 0 = 4 ∧ (s.dev.stream 0).drained = true) :=
  ⟨⟨st (streaming 255 3 (1 * 8192 + 3) 0 []), by decide +kernel⟩,
   ⟨st { streaming 0 2 (5 * 8192) 0 [(F.QUE_W0_DEPTH 512, 16)] with hif := { running := [descr 0x16 [0, 0x1000, 0, 64]] } }, descr 0x16 [0, 0x1000, 0, 64], [],
      by decide +kernel⟩,
   ⟨streaming 255 2 0x2003 0 [], by decide +kernel⟩, ⟨st (streaming 0 1 0x2003 0 []), by decide +kernel⟩, ⟨st upDev, by decide +kernel⟩,
   ⟨st (streaming 0 4 0x2003 0 []), by decide +kernel⟩, ⟨st { streaming 0 4 0x2003 0 [] with strm := [(0, { drained := true })] }, by decide +kernel⟩⟩
theorem witness_Streams_ring : upDev.up = true ∧ upDev.live (isBuf (ringTenant (upDev.srcCode 0)) (ringSq (upDev.srcCode 0))) = [] := by decide +kernel
theorem witness_LarderRegisters : (∃ (s : State) (w : Word), s.dev.up = true ∧ setsReserved R.LAR_CTRL (withBit w 31) = false ∧
      bitOf (withBit w 31).toNat 0 = false ∧ s.dev.quotaSum (bits (withBit w 31).toNat 16 12) (s.dev.get F.LAR_PART_COUNT) = 3840 ∧
      s.dev.is F.LAR_CTRL_LOCK = false ∧ s.dev.is F.GLB_CTRL_LOCK = true ∧ s.dev.stewardHost = true ∧ s.dev.is F.LAR_CTRL_PARTOK = false) ∧
    (∃ s : State, s.dev.up = true ∧ s.dev.lar.settingAside = true) ∧ (∃ s : State, s.dev.up = true ∧ s.dev.lar.settingAside = false) ∧
    (∃ (s : State) (w : Word), s.dev.up = true ∧ setsReserved R.LAR_CTRL (withBit w 0) = false ∧ bitOf (withBit w 0).toNat 31 = false ∧
      s.dev.get F.LAR_CTRL_LOCK < 2 ∧ s.dev.quotaSum (bits (withBit w 0).toNat 16 12) (s.dev.get F.LAR_PART_COUNT) ≤ 3840) ∧
    (∃ w : Word, setsReserved R.QUE_W1 (withBit w 31) = false ∧ bitOf (withBit w 31).toNat 30 = false) ∧
    (∃ w : Word, setsReserved R.QUE_W1 (withBit w 30) = false ∧ bitOf (withBit w 30).toNat 31 = false) :=
  ⟨⟨st (on [(F.GLB_CTRL_LOCK, 1), (F.GLB_CTRL_T0HOST, 1)]), 0x0E000000, by decide +kernel⟩, ⟨st { upDev with lar := { settingAside := true } }, by decide +kernel⟩,
   ⟨st upDev, by decide +kernel⟩, ⟨st upDev, 0, by decide +kernel⟩, ⟨0, by decide +kernel⟩, ⟨0, by decide +kernel⟩⟩

/-- A serial audio port enabled as master of 48 kHz with the PLL locked. -/
def serial (p : Nat) (l : List (Fld × Nat)) : Dev :=
  live ([(F.TDM_CFG_MASTER p, 1), (F.TDM_CFG_RATE p, 7), (F.TDM_CTRL_EN p, 1), (F.TDM_PLL_LOCKED, 1), (F.SUP_XTSTAT_XT24OK, 1)] ++ l)

theorem witness_SerialPorts : (∃ (s : State) (w : Word), s.dev.up = true ∧ setsReserved R.TDM_CTRL w = false ∧ bitOf w.toNat 1 = false ∧ bitOf w.toNat 0 = true ∧
      s.dev.is (F.TDM_CTRL_EN 1) = false ∧ s.dev.tdmBadClock 1 = false ∧ s.dev.tdmMaster 1 = true ∧ s.dev.rateInFamily 1 = true ∧
      s.dev.is F.TDM_PLL_LOCKED = true ∧ s.dev.is (F.TDM_STAT_FENCED 1) = false) ∧
    (∃ (s : State) (w : Word), s.dev.up = true ∧ setsReserved R.TDM_CTRL (withBit w 1) = false ∧ bitOf (withBit w 1).toNat 0 = s.dev.is (F.TDM_CTRL_EN 0)) ∧
    (∃ s : State, s.dev.up = true ∧ s.dev.is F.TDM_PLL_LOCKED = false ∧ s.dev.pllWanted = true ∧ s.dev.is (F.TDM_CTRL_EN 0) = true ∧ s.dev.tdmMaster 0 = true ∧
      s.dev.is (F.TDM_STAT_CLKLOST 0) = false ∧ s.dev.is (F.TDM_STAT_FENCED 0) = false) ∧
    (∃ s : State, s.dev.up = true ∧ s.dev.is F.TDM_PLL_LOCKED = true ∧ s.dev.is (F.TDM_STAT_RUNNING 0) = false) ∧
    (∃ s : State, s.dev.up = true ∧ s.dev.is (F.TDM_STAT_RUNNING 1) = true ∧ s.dev.tdmMaster 1 = false) ∧
    (∃ s : State, s.dev.up = true ∧ s.dev.is (F.TDM_CTRL_EN 1) = true ∧ s.dev.is (F.TDM_STAT_CLKLOST 1) = false) ∧
    (∃ s : State, s.dev.up = true ∧ s.dev.is (F.TDM_CTRL_EN 1) = false) ∧
    (∃ s : State, s.dev.up = true ∧ s.dev.is (F.TDM_CTRL_EN 1) = true ∧ s.dev.is (F.TDM_STAT_FENCED 1) = false ∧ s.dev.is (F.TDM_STAT_RUNNING 1) = false ∧
      s.dev.tdmClocked 1 = true ∧ s.dev.is (F.TDM_STAT_CLKLOST 1) = true) :=
  ⟨⟨st (serial 1 [(F.TDM_CTRL_EN 1, 0)]), 1, by decide +kernel⟩, ⟨st (serial 0 []), 1, by decide +kernel⟩,
   ⟨st (serial 0 [(F.TDM_PLL_LOCKED, 0)]), by decide +kernel⟩, ⟨st (serial 0 []), by decide +kernel⟩,
   ⟨st (on [(F.TDM_STAT_RUNNING 1, 1), (F.TDM_CFG_MASTER 1, 0)]), by decide +kernel⟩, ⟨st (serial 1 []), by decide +kernel⟩, ⟨st upDev, by decide +kernel⟩,
   ⟨st (serial 1 [(F.TDM_STAT_CLKLOST 1, 1)]), by decide +kernel⟩⟩

/-! ### Rings, descriptors and tenants -/

/-- The host trained and T000 as well as the tenant `t` present, with ring `r` of `t` enabled at 16 entries. -/
def ringed (t r : Nat) (l : List (Fld × Nat)) : Dev :=
  live ([(F.GLB_CTRL_LOCK, 1), (F.HIF_STAT_LINKUP, 1), (F.TEN_GSTAT_EXISTS t, 1), (F.HIF_RCFG_EN t r, 1), (F.HIF_RCFG_LOG2SIZE t r, 4),
    (F.HIF_TKT_MIN t, 8)] ++ l)

/-- Two tenants with work, and a weight of T000. -/
def twoRings (w : Nat) : Dev :=
  ringed 255 7 [(F.HIF_RIDX_P 255 7, 15), (F.HIF_RCFG_EN 0 0, 1), (F.HIF_RCFG_LOG2SIZE 0 0, 4), (F.HIF_TKT_MIN 0, 8), (F.HIF_RIDX_P 0 0, 15),
    (F.TEN_GISO_WEIGHT 0, w)]

theorem witness_Rings : (∃ (s : State) (w : Word), s.dev.up = true ∧ setsReserved R.HIF_DB w = false ∧ s.dev.tenantExists 255 = true ∧ s.dev.flrBusy 255 = false ∧
      bits w.toNat 0 5 = 7 ∧ s.dev.ringFill 255 7 ≤ (bits w.toNat 16 16 + 65536 - s.dev.get (F.HIF_RIDX_C 255 7)) % 65536 ∧
      (bits w.toNat 16 16 + 65536 - s.dev.get (F.HIF_RIDX_C 255 7)) % 65536 = ringSize s.dev 255 7 - 1 ∧ s.dev.is (F.HIF_RCFG_EN 255 7) = true) ∧
    (∃ s : State, s.dev.up = true ∧ s.dev.tenantExists 255 = false) ∧
    (∃ (s : State) (w : Word), s.dev.up = true ∧ setsReserved R.HIF_RCFG w = false ∧ s.dev.tenantExists 0 = true ∧ s.dev.flrBusy 0 = false ∧
      firstByRank (s.dev.rcfgChecks 0 16 w.toNat) = .done ∧ s.dev.is (F.HIF_RCFG_EN 0 16) = false ∧ bitOf w.toNat 31 = true) ∧
    (∃ s : State, s.dev.up = true ∧ s.dev.fetchers = []) ∧
    (∃ s : State, s.dev.up = true ∧ s.dev.fetchers = [(255, 7)] ∧ s.dev.inPart 255 = false ∧ s.dev.tagLimit ≤ s.dev.tagsUsed) ∧
    (∃ s : State, s.dev.up = true ∧ min 8 (min (s.dev.ringFill 255 7) (ringSize s.dev 255 7 - s.dev.get (F.HIF_RIDX_C 255 7) % ringSize s.dev 255 7)) = 8 ∧
      s.dev.fetchers = [(255, 7)] ∧ s.dev.inPart 255 = false ∧ s.dev.tagsUsed < s.dev.tagLimit ∧ s.dev.tktRoom 255 8 = 8 ∧
      1 ≤ s.dev.get (F.TEN_GISO_WEIGHT 255)) ∧
    (∃ s : State, s.dev.up = true ∧ s.dev.fetchers = [(0, 0), (255, 7)] ∧ s.dev.hif.last = 255 ∧ s.dev.hif.inTurn = false ∧ s.dev.hif.tagHeld = [] ∧
      s.dev.tagFree 0 = true ∧ s.dev.tagFree 255 = true ∧ s.dev.tktRoom 0 (s.dev.fetchWant 0 0) = 8 ∧ s.dev.tktRoom 255 (s.dev.fetchWant 255 7) = 8 ∧
      8 ≤ mapGet 0 s.dev.hif.credit 0 + s.dev.get (F.TEN_GISO_WEIGHT 0)) ∧
    (∃ s : State, s.dev.up = true ∧ s.dev.fetchers = [(0, 0), (255, 7)] ∧ s.dev.hif.last = 255 ∧ s.dev.hif.inTurn = false ∧ s.dev.hif.tagHeld = [] ∧
      s.dev.tagFree 0 = true ∧ s.dev.tagFree 255 = true ∧ s.dev.tktRoom 0 (s.dev.fetchWant 0 0) = 8 ∧ s.dev.tktRoom 255 (s.dev.fetchWant 255 7) = 8 ∧
      mapGet 0 s.dev.hif.credit 0 + s.dev.get (F.TEN_GISO_WEIGHT 0) = 7 ∧ 8 ≤ mapGet 0 s.dev.hif.credit 255 + s.dev.get (F.TEN_GISO_WEIGHT 255)) ∧
    (∃ s : State, s.dev.up = true ∧ (s.dev.read 255 7).n = 8 ∧ s.dev.inPart 255 = false ∧ s.dev.unitFenced 255 = false ∧ (s.dev.read 255 7).retried = true) ∧
    (∃ s : State, s.dev.up = true ∧ (s.dev.read 255 7).n = 0) ∧
    (∃ (s : State) (tk : Tkt), s.dev.up = true ∧ s.dev.inPart 0 = false ∧ s.dev.dataReader 0 0 0 = some tk ∧ tk.op = 0x16) ∧
    (∃ s : State, s.dev.up = true ∧ s.dev.stewardHost = true) ∧ (∃ s : State, s.dev.up = true ∧ s.dev.stewardHost = false ∧ s.dev.tenantExists 255 = true) :=
  ⟨⟨st (ringed 255 7 []), 0x000F0007, by decide +kernel⟩, ⟨st upDev, by decide +kernel⟩, ⟨st (ringed 0 15 []), 0x80040000, by decide +kernel⟩,
   ⟨st upDev, by decide +kernel⟩,
   ⟨st { ringed 255 7 [(F.HIF_RIDX_P 255 7, 15)] with hif := { abandoned := 32 } }, by decide +kernel⟩,
   ⟨st (ringed 255 7 [(F.HIF_RIDX_P 255 7, 15)]), by decide +kernel⟩, ⟨st (twoRings 16), by decide +kernel⟩, ⟨st (twoRings 7), by decide +kernel⟩,
   ⟨st { ringed 255 7 [] with hif := { reads := [(2047, ⟨8, true⟩)] } }, by decide +kernel⟩, ⟨st upDev, by decide +kernel⟩,
   ⟨st { streaming 0 2 (5 * 8192) 0 [] with hif := { running := [descr 0x16 [0, 0x1000, 0, 64]] } }, descr 0x16 [0, 0x1000, 0, 64], by decide +kernel⟩,
   ⟨st (on [(F.GLB_CTRL_LOCK, 1), (F.GLB_CTRL_T0HOST, 1)]), by decide +kernel⟩, ⟨st (ringed 255 7 []), by decide +kernel⟩⟩
theorem witness_Rings_more : (let d : Dev := ringed 255 16 [(F.TEN_GSTAT_FLRBUSY 255, 1)]; d.up = true ∧ d.tenantExists 255 = true ∧ d.flrBusy 255 = true) ∧
    (255, 7) ∈ (ringed 255 7 [(F.HIF_RIDX_P 255 7, 15)]).fetchers ∧ upDev.inPart 255 = false ∧ (upDev.read 255 7).n = 0 ∧
    upDev.dataReader 255 7 65535 = none := by decide +kernel
theorem witness_CompletionsAndVectors : (∃ (s : State) (x : Cpl), s.dev.up = true ∧
      s.dev.hif.cpls.find? (fun y => y.tk.t == 0 && s.dev.get (F.HIF_RCFG_CQ 0 y.tk.sq) == 7) = some x ∧
      (s.dev.ringsReach 0 && s.dev.ringRoom 0 (8 + 7)) = true ∧ s.dev.inPart 0 = false) ∧
    (∃ s : State, s.dev.up = true ∧ (s.dev.ringsReach 0 && s.dev.ringRoom 0 (8 + 7)) = false ∧ (s.dev.ringsReach 0 && s.dev.ringRoom 0 16) = false) ∧
    (∃ (s : State) (j : Nat) (x : Dev) (it : Item), s.dev.up = true ∧ (s.dev.ringsReach 255 && s.dev.ringRoom 255 16) = true ∧
      s.dev.lar.qFenced.contains 255 = false ∧ s.dev.nextItem 255 = some j ∧ s.dev.dequeue 255 j = (x, some it) ∧ x.inPart 255 = false) ∧
    (∃ s : State, s.dev.up = true ∧ s.dev.holding 0 7 = false ∧ s.dev.inPart 0 = false ∧ s.dev.tenantExists 0 = true ∧ s.dev.flrBusy 0 = false) ∧
    (∃ s : State, s.dev.up = true ∧ s.dev.holding 255 7 = true) :=
  ⟨⟨st { ringed 0 15 [(F.HIF_RCFG_CQ 0 0, 7)] with hif := { cpls := [⟨descr 0 [], .done, 0, 0⟩] } }, ⟨descr 0 [], .done, 0, 0⟩, by decide +kernel⟩,
   ⟨st upDev, by decide +kernel⟩,
   ⟨st { ringed 255 16 [] with lar := { queues := [(255, [{ cells := [0], data := zeros 16 }])] } }, 0, _, _, by decide +kernel, by decide +kernel, by decide +kernel,
      by decide +kernel, rfl, by decide +kernel⟩,
   ⟨st (ringed 0 15 []), by decide +kernel⟩, ⟨st { upDev with hif := { holdoff := [(2047, true)] } }, by decide +kernel⟩⟩
theorem witness_DescriptorDispatch : (∃ (s : State) (tk : Tkt) (rest : List Tkt), s.dev.up = true ∧ s.dev.fetched 0 0 = tk :: rest ∧ tk.t = 0 ∧ tk.op ≠ 0x21 ∧
      s.dev.flrBusy 0 = false ∧ s.dev.fenceHolds tk = false ∧ s.dev.unitFenced 0 = false ∧ s.dev.atBound tk = false) ∧
    (∃ s : State, s.dev.up = true ∧ s.dev.fetched 255 7 = []) ∧ (∃ s : State, s.dev.up = true ∧ mapFind (s.dev.stream 255).sinks 7 = none) ∧
    (∃ s : State, s.dev.up = true ∧ mapFind (s.dev.stream 0).sinks 0 = some {} ∧ epKind (s.dev.sinkCode 0 0) = 5) ∧
    (∃ s : State, s.dev.up = true ∧ s.dev.strState 0 = 3 ∧ (s.dev.sink 0 0).active = true ∧ s.dev.waiting 0 0 < 1) :=
  ⟨⟨st { ringed 0 0 [] with hif := { fetched := [(0, [descr 0 []])] } }, descr 0 [], [], by decide +kernel⟩, ⟨st upDev, by decide +kernel⟩,
   ⟨st upDev, by decide +kernel⟩, ⟨st (streaming 0 3 0x2003 (5 * 8192) []), by decide +kernel⟩,
   ⟨st { streaming 0 3 0x2003 (5 * 8192) [] with strm := [(0, { sinks := [(0, { active := true })] })] }, by decide +kernel⟩⟩

theorem witness_DescriptorDispatch_other :
    (({ upDev with hif := { fetched := [(2047, [descr 0x21 []])] } } : Dev).fetched 255 7) = [descr 0x21 []] ∧ (descr 0x21 []).op ≠ 0x02 ∧
      Instr.portcmdPowerOn 255 7 ≠ .dispatch 255 7 := by decide +kernel
/-- A device on which a descriptor of each opcode passes its checks. -/
def passing : List (Dev × Tkt) :=
  [(upDev, descr 0 []),
   (live [(F.LHE_CTRL_EN, 1)], descr 0x01 [0x00000108]),
   (localled 8 [], descr 0x02 [0x0108]), (localled 8 [], descr 0x02 [0x0508]),
   (localled 8 [(F.PRT_LSTAT_CONN 7, 1), (F.PRT_LSTAT_ENABLED 7, 1), (F.PRT_LSTAT_SPEED 7, 3)], descr 0x02 [0x0208]),
   (localled 8 [(F.PRT_LSTAT_CONN 7, 1), (F.PRT_LSTAT_ENABLED 7, 1), (F.PRT_LSTAT_SUSP 7, 1)], descr 0x02 [0x0308]), (localled 8 [], descr 0x02 [0x0408]),
   (localled 8 [(F.PRT_LSTAT_CONN 7, 1), (F.PRT_LSTAT_ENABLED 7, 1), (F.PRT_LSTAT_SPEED 7, 3)], descr 0x03 [0x08000800, 512 * 1024]),
   (transferring, descr 0x04 [127]), (transferring, descr 0x05 [127]), (transferring, descr 0x06 [127, 0x1000, 0, 16]),
   (on [(F.LAR_CTRL_LOCK, 1)], descr 0x10 [0xA0000000, 0x07, 0x0FFFF]),
   (streaming 0 1 0x2003 0 [], descr 0x11 [0xA0000000]), (streaming 0 1 0x2003 (5 * 8192 + 1) [], descr 0x12 [0]),
   (streaming 0 1 0x2003 (5 * 8192 + 1) [], descr 0x13 [0]), (streaming 0 3 0x2003 (5 * 8192 + 1) [], descr 0x14 [0]),
   (streaming 0 1 0x2003 (5 * 8192 + 1) [], descr 0x15 [0]), (streaming 0 3 (5 * 8192) 0 [], descr 0x16 [0, 0x1000, 0, 64]),
   (on [(F.HAY_CTRL_EN, 1)], descr 0x20 [0x00010100, 0x00100000]), (on [(F.HAY_CTRL_EN, 1), (F.HAY_FLOW_OPEN 0, 1)], descr 0x21 [0])]
theorem witness_DescriptorEffects_done : ∀ x ∈ passing, firstByRank (x.1.opChecks x.2) = .done := by decide +kernel
theorem witness_DescriptorEffects : (∃ (d : Dev) (tk : Tkt), tk.t < 256 ∧ tk.sq < 8 ∧ firstByRank (d.opChecks tk) ≠ .done) ∧
    (∃ (d : Dev) (tk : Tkt), d.hif.running = [tk] ∧ tk.result = none ∧ tk.nocmp = false) ∧
    (∃ (d : Dev) (a tk : Tkt), d.hif.running = [a, tk] ∧ a.result = none ∧ tk.result = none ∧ a.key = tk.key ∧ tk.key ≠ 0 ∧ a.same tk = false) :=
  ⟨⟨upDev, descr 0x13 [255], by decide +kernel⟩, ⟨{ hif := { running := [descr 0 []] } }, descr 0 [], by decide +kernel⟩,
   ⟨{ hif := { running := [descr 0x16 [0], { descr 0x16 [0] with idx := 1 }] } }, descr 0x16 [0], { descr 0x16 [0] with idx := 1 }, by decide +kernel⟩⟩
theorem witness_Tenants : (∃ s : State, s.dev.up = true ∧ s.dev.cfgServed = true ∧ s.dev.is F.HIF_STAT_LINKUP = true ∧ vfExists true 255 true 255 = true ∧
      vfExists true 255 false 255 = false ∧ s.dev.tenantExists 255 = true ∧ s.dev.tenantExists 1 = false ∧ s.dev.flrBusy 255 = false) ∧
    (∃ s : State, s.dev.up = true ∧ s.dev.cfgServed = false) ∧ (∃ s : State, s.dev.up = true ∧ (s.dev.flrOf 255).step = 1) ∧
    (∃ s : State, s.dev.up = true ∧ (s.dev.flrOf 255).step = 3) ∧ (∃ s : State, s.dev.up = true ∧ (s.dev.flrOf 255).step = 5) ∧
    (∃ s : State, s.dev.up = true ∧ (s.dev.flrOf 255).step = 6) ∧ (∃ s : State, s.dev.up = true ∧ (s.dev.flrOf 255).step = 0) ∧
    (∃ w : Word, setsReserved R.TEN_GFLR (withBit w 31) = false ∧ bits (withBit w 31).toNat 0 8 = 255) :=
  ⟨⟨st (ringed 255 0 []), by decide +kernel⟩, ⟨st upDev, by decide +kernel⟩, ⟨st { upDev with flr := [(255, { step := 1 })] }, by decide +kernel⟩,
   ⟨st { upDev with flr := [(255, { step := 3 })] }, by decide +kernel⟩, ⟨st { upDev with flr := [(255, { step := 5 })] }, by decide +kernel⟩,
   ⟨st { upDev with flr := [(255, { step := 6 })] }, by decide +kernel⟩, ⟨st upDev, by decide +kernel⟩, ⟨255, by decide +kernel⟩⟩

/-! ### Haywain -/

/-- Haywain enabled with lane `n` UP in a role, unit 5, and the rest as given. -/
def hayed (n role : Nat) (l : List (Fld × Nat)) : Dev :=
  live ([(F.HAY_CTRL_EN, 1), (F.HAY_LANE0_STATE n, 3), (F.HAY_LANE0_ROLE n, role), (F.HAY_UNIT_ID, 5), (F.HAY_LANE4_ABUDGET n, 1000)] ++ l)
/-- The bytes of a bale of each kind that passes every check. -/
def audioBale : List Byte := ({ type := 1, dst := 9, src := 7, rate := 7, h := [0, 1, 0, 0, 0, 0, 0, 0], data := zeros 4 } : Bale).bytes
def controlBale (kind : Nat) (data : List Byte) : List Byte :=
  ({ type := 2, dst := 5, src := 7, h := [0, 0, 0, 0, 0, 0, BitVec.ofNat 8 kind, 0], data := data } : Bale).bytes
def localBale (type kind : Nat) (data : List Byte) : List Byte := ({ type := type, src := 7, h := [BitVec.ofNat 8 kind, 0, 0, 0, 0, 0, 0, 0], data := data } : Bale).bytes
/-- A reservation from unit 7 to unit 9 that came in on lane 0 and leaves on lane 1. -/
def heldResv : Resv := ⟨7, 9, 0, 0, 1, 16, 268⟩

theorem witness_HayBales : (∃ (s : State) (l : List Byte), s.dev.up = true ∧ s.dev.laneUp 0 = true ∧ s.dev.phyHeld = false ∧ wireOk (wireBale l) = true ∧
      (parseBale l).type = 1 ∧ s.dev.laneRole 0 ≠ 3 ∧ s.dev.isMe (parseBale l).dst = false ∧ s.dev.nextHop (parseBale l).dst = some 1 ∧
      s.dev.findResv (parseBale l).src (parseBale l).dst ((parseBale l).hd 2 1) = some heldResv ∧ s.dev.lar.qFenced.contains heldResv.queue = false) ∧
    (∃ s : State, s.dev.up = true ∧ s.dev.laneUp 5 = false) ∧
    (∀ l ∈ [controlBale 0 [], controlBale 1 [0, 16, 0, 0], controlBale 2 [0, 16, 0, 0], controlBale 3 [0, 16, 0, 1],
      controlBale 4 [0, 16, 0, 0], controlBale 16 (zeros 512)], wireOk (wireBale l) = true ∧ (parseBale l).type = 2) ∧
    (∃ (d : Dev) (b : Bale), (d.flow 255).ref = none ∧ d.flowStream 255 = none ∧ b.hd 0 2 = 65535) ∧
    (∃ (d : Dev) (b : Bale), (d.flow 255).ref = some (65535, 4, 0) ∧ d.flowStream 255 = some 0 ∧ d.wrongFormat 0 b = false ∧
      (b.hd 0 2 + 65536 - 65535) % 65536 = 1) :=
  ⟨⟨st { hayed 0 2 [(F.HAY_STAT_PARENT, 1)] with hay := { resv := [heldResv] } }, audioBale, by decide +kernel⟩, ⟨st upDev, by decide +kernel⟩, by decide +kernel,
   ⟨upDev, { type := 1, h := [255, 255, 0, 0, 0, 0, 0, 0], data := zeros 4 }, by decide +kernel⟩,
   ⟨{ streaming 0 3 (4 * 8192 + 255) 0 [(F.STR_W1_RATE 0, 7)] with hay := { flow := [(255, { ref := some (65535, 4, 0) })] } },
      { type := 1, rate := 7, h := [0, 0, 255, 0, 0, 0, 0, 0], data := zeros 4 }, by decide +kernel⟩⟩
theorem witness_HayReservations : (∃ (d : Dev) (b : Bale), d.isMe b.src = false ∧ d.isMe b.dst = false ∧ b.hops < 24 ∧ d.nextHop b.dst = some 1 ∧
      d.get (F.HAY_LANE4_ABUDGET 1) < d.reserved 1 (resvIs b.src b.dst (b.pay 2 1)) + laneCost (b.pay 0 2)) ∧
    (∃ (d : Dev) (b : Bale), d.isMe b.src = false ∧ d.isMe b.dst = false ∧ b.hops = 23 ∧ d.nextHop b.dst = some 1 ∧
      (d.takeResv b.src b.dst (b.pay 2 1) 0 1 (b.pay 0 2)).isRight = true) ∧
    (∃ (d : Dev) (b : Bale), d.isMe b.src = false ∧ d.isMe b.dst = false ∧ b.hops < 24 ∧ d.nextHop b.dst = none) ∧
    (∃ (d : Dev) (b : Bale), d.isMe b.src = false ∧ d.isMe b.dst = true ∧ d.flowOf b.src (b.pay 2 1) = none ∧ d.lar.qFenced.contains 262 = false) ∧
    (∃ (d : Dev) (b : Bale), d.isMe b.dst = true ∧ d.flowOf b.src (b.pay 2 1) = some 255 ∧ (d.flow 255).opening = true) ∧
    (∃ (d : Dev) (b : Bale), d.findResv b.src b.dst (b.pay 2 1) = some ⟨7, 5, 0, 0, 6, 16, 0⟩ ∧ d.isMe b.dst = true) :=
  ⟨⟨hayed 1 1 [(F.HAY_STAT_PARENT, 1), (F.HAY_LANE4_ABUDGET 1, 43)], { type := 2, src := 7, dst := 9, data := [0, 16, 0, 0] }, by decide +kernel⟩,
   ⟨hayed 1 1 [(F.HAY_STAT_PARENT, 1), (F.HAY_LANE4_ABUDGET 1, 44)], { type := 2, src := 7, dst := 9, hops := 23, data := [0, 16, 0, 0] }, by decide +kernel⟩,
   ⟨hayed 1 2 [(F.HAY_STAT_PARENT, 7)], { type := 2, src := 7, dst := 9 }, by decide +kernel⟩,
   ⟨hayed 1 2 [], { type := 2, src := 7, dst := 5 }, by decide +kernel⟩,
   ⟨{ hayed 1 2 [(F.HAY_FLOW_UNIT 255, 7)] with hay := { flow := [(255, { opening := true })] } }, { type := 2, src := 7, dst := 5 }, by decide +kernel⟩,
   ⟨{ hayed 1 2 [] with hay := { resv := [⟨7, 5, 0, 0, 6, 16, 0⟩] } }, { type := 2, src := 7, dst := 5 }, by decide +kernel⟩⟩
theorem witness_HayTree : (∀ l ∈ [localBale 3 1 (zeros 8), localBale 3 2 (zeros 8), localBale 3 3 (zeros 24), localBale 3 4 (zeros 12), localBale 3 5 (zeros 12),
      localBale 4 1 [], localBale 4 2 (beBytes 2 7), localBale 4 3 (beBytes 2 5), localBale 4 4 (zeros 8)], wireOk (wireBale l) = true) ∧
    (∃ s : State, s.dev.up = true ∧ s.dev.laneUp 0 = true ∧ s.dev.phyHeld = false ∧ s.dev.parentLane = some 0 ∧ s.dev.laneRole 0 = 1) ∧
    (∃ s : State, s.dev.up = true ∧ s.dev.laneUp 5 = true ∧ s.dev.phyHeld = false ∧ s.dev.parentLane = none ∧ s.dev.laneRole 5 = 2 ∧
      (s.dev.lane 5).dreq = some 0) ∧
    (∃ (d : Dev) (i : Nat), d.laneUp 5 = true ∧ d.phyHeld = false ∧ d.isMe i = false ∧ mapFind d.hay.route i = none) ∧
    (∃ (d : Dev) (i : Nat), d.laneUp 5 = true ∧ d.phyHeld = false ∧ mapFind d.hay.route i = some (1, false)) ∧
    (∃ d : Dev, 15 ≤ d.alm.good ∧ d.is F.ALM_STAT_LOCKED = false) ∧ (∃ d : Dev, 3 ≤ d.alm.bad ∧ d.is F.ALM_STAT_LOCKED = true ∧ d.get F.ALM_STAT_CLASS ≠ 0) :=
  ⟨by decide +kernel, ⟨st (hayed 0 1 [(F.HAY_STAT_PARENT, 0)]), by decide +kernel⟩,
   ⟨st { hayed 5 2 [] with hay := { lane := [(5, { dreq := some 0 })] } }, by decide +kernel⟩, ⟨hayed 5 2 [], 7, by decide +kernel⟩,
   ⟨{ hayed 5 2 [] with hay := { route := [(7, 1, false)] } }, 7, by decide +kernel⟩, ⟨{ alm := { good := 15 } }, by decide +kernel⟩,
   ⟨{ on [(F.ALM_STAT_LOCKED, 1), (F.ALM_STAT_CLASS, 1)] with alm := { bad := 3 } }, by decide +kernel⟩⟩
theorem witness_HayLanes : (∃ s : State, s.dev.up = true ∧ s.dev.phyHeld = false ∧ s.dev.parentLane = some 0 ∧ s.dev.laneUp 0 = true) ∧
    (∃ s : State, s.dev.up = true ∧ s.dev.parentLane = none) ∧
    (∃ s : State, s.dev.up = true ∧ mapFind s.dev.hay.route 4095 = some (5 + 1, true) ∧ mapFind s.dev.hay.route 0 = none) ∧
    (∃ s : State, s.dev.up = true ∧ s.dev.laneEnabled 5 = true ∧ s.dev.phyHeld = false ∧ s.dev.laneUp 5 = false) ∧
    (∃ s : State, s.dev.up = true ∧ s.dev.laneUp 5 = true ∧ s.dev.phyHeld = false ∧ (s.dev.lane 5).unacked ≠ [] ∧ (s.dev.lane 5).resends = 7) ∧
    (∃ s : State, s.dev.up = true ∧ s.dev.laneUp 0 = false ∧ s.dev.laneRole 0 = 1) :=
  ⟨⟨st (hayed 0 1 [(F.HAY_STAT_PARENT, 0)]), by decide +kernel⟩, ⟨st (hayed 0 2 [(F.HAY_STAT_PARENT, 7)]), by decide +kernel⟩,
   ⟨st { hayed 5 2 [] with hay := { route := [(4095, 6, true)] } }, by decide +kernel⟩,
   ⟨st (live [(F.HAY_CTRL_EN, 1), (F.HAY_LANE0_EN 5, 1), (F.YOK_CTRL_EN, 1)]), by decide +kernel⟩,
   ⟨st { hayed 5 2 [] with hay := { lane := [(5, { unacked := [(0, zeros 16, false)], resends := 7 })] } }, by decide +kernel⟩,
   ⟨st (on [(F.HAY_LANE0_ROLE 0, 1)]), by decide +kernel⟩⟩
theorem witness_HayLanes_step : upDev.is F.ALM_STAT_PAUSED = false ∧ 0 < upDev.alm.inc ∧ upDev.up = true ∧
    (let d : Dev := { serial 1 [] with tdm := [(1, { inBank := true })] }; d.tdmMaster 1 = true ∧ (d.tdmOf 1).inBank = true ∧
      d.tdmMaster 0 = false ∧ (d.tdmOf 0).inBank = false) := by decide +kernel
/-- A bale that repeats the last one, one at each end of the gaps that are concealed, and one beyond them. -/
theorem witness_HayBales_gaps : (∀ g ∈ [0, 1, 2, 9, 10, 32767, 32768], (g + 5 + 65536 - 5) % 65536 = g) ∧
    ({ hay := { flow := [(255, { ref := some (5, 4, 0) })] } } : Dev).flow 255 = { ref := some (5, 4, 0) } ∧
    (streaming 0 3 (4 * 8192 + 255) 0 [(F.STR_W1_RATE 0, 7)]).flowStream 255 = some 0 ∧
    (streaming 0 3 (4 * 8192 + 255) 0 [(F.STR_W1_RATE 0, 7)]).wrongFormat 0 { type := 1, rate := 6, data := zeros 4 } = true := by decide +kernel
theorem witness_HayFlows : (∃ (d : Dev) (rest : List (Nat × Nat)), d.flowOpen 255 = true ∧ d.is (F.HAY_FLOW_DIR 255) = false ∧ d.phyHeld = false ∧
      d.sinkUses (4 * 8192 + 255) = (0, 0) :: rest ∧ d.strState 0 = 3 ∧ d.waiting 0 0 < d.frameBytes 0 ∧ (d.sink 0 0).active = true) ∧
    (∃ d : Dev, d.flowOpen 0 = false) ∧ (∃ (d : Dev) (r : Nat), d.requestPath 255 = .inl r) ∧
    (∃ s : State, s.dev.up = true ∧ s.dev.flowOpen 255 = true ∧ s.dev.is (F.HAY_FLOW_DIR 255) = false ∧ s.dev.is (F.HAY_FLOW_REROUTING 255) = false ∧
      s.dev.isMe (s.dev.get (F.HAY_FLOW_UNIT 255)) = false) ∧
    (∃ s : State, s.dev.up = true ∧ s.dev.flowOpen 255 = true ∧ s.dev.is (F.HAY_FLOW_REROUTING 255) = true ∧ (s.dev.flow 255).tries = 3) ∧
    (∃ s : State, s.dev.up = true ∧ s.dev.flowOpen 0 = true ∧ s.dev.is (F.HAY_FLOW_REROUTING 0) = true ∧ (s.dev.flow 0).tries = 2) ∧
    (∃ w : Word, setsReserved R.HAY_CTXCMD (withBit w 31) = false ∧ bits (withBit w 31).toNat 0 10 = 512) ∧
    (∃ d : Dev, d.get F.HAY_CTXCMD_BUSY = 0 ∧ d.is F.HAY_CTXCMD_BCAST = false ∧ d.isMe (d.get F.HAY_CTXCMD_DST) = true) ∧
    (∃ d : Dev, d.get F.HAY_CTXCMD_BUSY = 0 ∧ d.is F.HAY_CTXCMD_BCAST = true) ∧
    (∃ s : State, s.dev.up = true ∧ s.dev.is F.HAY_CTXCMD_BUSY = true) ∧ (∃ s : State, s.dev.up = true ∧ s.dev.is F.HAY_CTXCMD_BUSY = false) ∧
    (∃ w : Word, setsReserved R.HAY_CRXPOP (withBit w 0) = false) ∧
    (∃ (s : State) (w : Word), s.dev.up = true ∧ setsReserved R.HAY_CTRL (withBit w 1) = false ∧ bits w.toNat 0 1 = s.dev.get F.HAY_CTRL_EN) :=
  ⟨⟨{ streaming 0 3 0x2003 (4 * 8192 + 255) [(F.HAY_FLOW_OPEN 255, 1)] with strm := [(0, { sinks := [(0, { active := true })] })] }, [], by decide +kernel⟩,
   ⟨upDev, by decide +kernel⟩, ⟨{ hayed 0 2 [(F.HAY_FLOW_UNIT 255, 9), (F.HAY_STAT_PARENT, 7)] with pd := [] }, 4, rfl⟩,
   ⟨st (hayed 0 2 [(F.HAY_FLOW_OPEN 255, 1), (F.HAY_FLOW_UNIT 255, 9)]), by decide +kernel⟩,
   ⟨st { hayed 0 2 [(F.HAY_FLOW_OPEN 255, 1), (F.HAY_FLOW_REROUTING 255, 1)] with hay := { flow := [(255, { tries := 3 })] } }, by decide +kernel⟩,
   ⟨st { hayed 0 2 [(F.HAY_FLOW_OPEN 0, 1), (F.HAY_FLOW_REROUTING 0, 1)] with hay := { flow := [(0, { tries := 2 })] } }, by decide +kernel⟩,
   ⟨512, by decide +kernel⟩, ⟨hayed 0 2 [(F.HAY_CTXCMD_DST, 5)], by decide +kernel⟩, ⟨hayed 0 2 [(F.HAY_CTXCMD_BCAST, 1)], by decide +kernel⟩,
   ⟨st (on [(F.HAY_CTXCMD_BUSY, 1)]), by decide +kernel⟩, ⟨st upDev, by decide +kernel⟩, ⟨0, by decide +kernel⟩,
   ⟨st (on [(F.HAY_CTRL_EN, 1)]), 1, by decide +kernel⟩⟩

end Sys2Proof.Tests
end

