-- ==== Sys2Proof/Tests/WitnessD.lean ====
section
/-!
SUPPORT. Witnesses: for each statement of Obligations.lean with hypotheses, states and operands that meet the hypotheses of each clause.
-/
namespace Sys2Proof.Tests

set_option Elab.async false

open Sys2Proof Sys2Proof.Machine

/-! ### Yoked twins -/

/-- The yoke enabled in a role with HLY UP. -/
def yoked (role : Nat) (l : List (Fld × Nat)) : Dev :=
  hayed 5 2 ([(F.YOK_CTRL_EN, 1), (F.YOK_STAT_ROLE, role), (F.YOK_CFG_ALIAS, 6), (F.HAY_LANE0_NBR 5, 7)] ++ l)
/-- The bytes of a YOKE bale that passes every check. -/
def yokeBale (kind : Nat) (data : List Byte) : List Byte :=
  ({ type := 5, src := 7, h := [0, 0, 0, 1, BitVec.ofNat 8 kind, 0, 0, 0], data := data } : Bale).bytes

theorem witness_YokeToken : (∃ (s : State) (w : Word), s.dev.up = true ∧ setsReserved R.YOK_CTRL w = false ∧ bits w.toNat 8 1 = 0 ∧
      s.dev.is F.YOK_CTRL_EN = false ∧ bits w.toNat 0 1 = 1 ∧ s.dev.get F.YOK_CFG_ALIAS ≠ s.dev.unitId ∧ s.dev.is F.YOK_CTRL_LOCK = true) ∧
    (∃ (s : State) (w : Word), s.dev.up = true ∧ setsReserved R.YOK_CTRL w = false ∧ bits w.toNat 8 1 = 0 ∧ s.dev.is F.YOK_CTRL_EN = true ∧
      bits w.toNat 0 1 = 0 ∧ s.dev.yokRole = 3) ∧
    (∃ s : State, s.dev.up = true ∧ s.dev.yok.claimed = false ∧ s.dev.yokRole = 1) ∧
    (∃ s : State, s.dev.up = true ∧ s.dev.yok.claimed = true ∧ s.dev.get F.YOK_CFG_SIDE = 1) ∧
    (∃ s : State, s.dev.up = true ∧ s.dev.laneUp 5 = false) ∧
    (∃ s : State, s.dev.up = true ∧ s.dev.laneUp 5 = true ∧ s.dev.phyHeld = false ∧ s.dev.yokRole = 3) ∧
    (∃ s : State, s.dev.up = true ∧ s.dev.laneUp 5 = true ∧ s.dev.phyHeld = false ∧ s.dev.yokRole = 2 ∧ s.dev.is F.YOK_STAT_DRIVE = true) ∧
    (∃ s : State, s.dev.up = true ∧ s.dev.laneUp 5 = true ∧ s.dev.phyHeld = false ∧ s.dev.yokRole ≠ 2 ∧ s.dev.yokRole ≠ 3) ∧
    (∃ (s : State) (w : Word), s.dev.up = true ∧ setsReserved R.YOK_CTRL (withBit w 8) = false ∧ bits w.toNat 0 1 = s.dev.get F.YOK_CTRL_EN ∧ s.dev.yokRole = 2 ∧
      s.dev.is F.YOK_STAT_PAIRED = true ∧ s.dev.is F.YOK_STAT_MSYNC = true) ∧
    (∃ (s : State) (w : Word), s.dev.up = true ∧ setsReserved R.YOK_CTRL (withBit w 1) = false ∧ bits w.toNat 8 1 = 0 ∧
      bits w.toNat 0 1 = s.dev.get F.YOK_CTRL_EN) :=
  ⟨⟨st (on [(F.YOK_CFG_ALIAS, 6), (F.YOK_CTRL_LOCK, 1)]), 1, by decide +kernel⟩, ⟨st (yoked 3 []), 0, by decide +kernel⟩, ⟨st (yoked 1 []), by decide +kernel⟩,
   ⟨st { yoked 1 [(F.YOK_CFG_SIDE, 1)] with yok := { claimed := true } }, by decide +kernel⟩, ⟨st upDev, by decide +kernel⟩, ⟨st (yoked 3 []), by decide +kernel⟩,
   ⟨st (yoked 2 [(F.YOK_STAT_DRIVE, 1)]), by decide +kernel⟩, ⟨st (yoked 1 []), by decide +kernel⟩,
   ⟨st (yoked 2 [(F.YOK_STAT_PAIRED, 1), (F.YOK_STAT_MSYNC, 1)]), 1, by decide +kernel⟩, ⟨st (yoked 2 []), 1, by decide +kernel⟩⟩
theorem mapFind_range (f : Nat → List Nat) : ∀ n a i, a ≤ i → i < a + n → mapFind ((List.range' a n).map fun i => (i, f i)) i = some (f i)
  | 0, a, i, h, h' => by omega
  | n + 1, a, i, h, h' => by
    by_cases e : a = i
    · subst e; simp [List.range'_succ, mapFind]
    · simp [List.range'_succ, mapFind, e, mapFind_range f n (a + 1) i (by omega) (by omega)]
/-- A lead that has sent every entry as it stands. -/
def sentAll (d : Dev) : Dev := { d with yok := { sent := (List.range' 0 256).map fun i => (i, d.strWords i) } }
theorem sentAll_sent (d : Dev) (i : Nat) (h : i < 256) : mapGet [] (sentAll d).yok.sent i = (sentAll d).strWords i := by
  have e : (sentAll d).strWords i = d.strWords i := rfl
  have g : (sentAll d).yok.sent = (List.range' 0 256).map fun i => (i, d.strWords i) := rfl
  rw [e, g, mapGet, mapFind_range _ 256 0 i (by omega) (by omega)]; rfl
def allSent : Dev := sentAll (yoked 2 [(F.YOK_STAT_PAIRED, 1)])
theorem witness_YokeMirror : (∃ d : Dev, d.yokPeer = none ∧ d.is F.YOK_STAT_PAIRED = true) ∧
    (∃ d : Dev, d.yokPeer = some (d.get F.YOK_CFG_ALIAS, 1) ∧ 1 ≠ d.get F.YOK_CFG_SIDE ∧ d.is F.YOK_STAT_PAIRED = false) ∧
    (∃ d : Dev, d.yokPeer = some (7, 0) ∧ 7 ≠ d.get F.YOK_CFG_ALIAS ∧ d.is F.YOK_STAT_MISMATCH = false) ∧
    (∃ s : State, s.dev.up = true ∧ s.dev.laneUp 5 = false) ∧
    (∀ l ∈ [yokeBale 1 (zeros 16), yokeBale 2 (zeros 16), yokeBale 3 ([0, 0, 0, 1, 1, 0, 0, 0] ++ zeros 32), yokeBale 3 ([0, 0, 0, 1, 2, 0, 0x80, 0] ++ zeros 504),
      yokeBale 3 [0, 0, 0, 1, 3, 0, 0, 0]], wireOk (wireBale l) = true) ∧
    (∃ (s : State) (b : Bale), s.dev.up = true ∧ s.dev.laneUp 5 = true ∧ s.dev.phyHeld = false ∧ s.dev.is F.YOK_CTRL_EN = true ∧ s.dev.yokRole = 3 ∧
      b = parseBale (yokeBale 3 ([0, 0, 0, 1, 2, 0, 0x80, 0] ++ zeros 504)) ∧ b.type = 5 ∧ b.sub = 3 ∧ s.dev.is F.YOK_STAT_PAIRED = true ∧
      b.pay 0 4 = nextGen (s.dev.get F.YOK_MGEN_MGEN) ∧ b.pay 4 1 = 2 ∧ s.dev.is F.YOK_MRXSTAT_VALID = false ∧ 8 < b.data.length ∧
      b.pay 6 2 % 32768 + (b.data.length - 8) ≤ 1024 ∧ 32768 ≤ b.pay 6 2) ∧
    (∃ d : Dev, d.yok.unacked = [(5, [], 1), (6, [], 2)] ∧ newer32 6 (d.get F.YOK_MGEN_MGEN) = false) ∧
    (∃ s : State, s.dev.up = true ∧ s.dev.yokRole = 2 ∧ s.dev.is F.YOK_STAT_PAIRED = true ∧ s.dev.phyHeld = false ∧ s.dev.yok.unacked.length < 16 ∧
      s.dev.yok.next = 256) ∧
    (∃ s : State, s.dev.up = true ∧ s.dev.yokRole = 2 ∧ s.dev.is F.YOK_STAT_PAIRED = true ∧ s.dev.phyHeld = false ∧ s.dev.yok.unacked.length < 16 ∧
      256 < s.dev.yok.next ∧ s.dev.yok.recAt = some 1008) ∧
    (∃ s : State, s.dev.up = true ∧ s.dev.yokRole = 2 ∧ s.dev.is F.YOK_STAT_PAIRED = true ∧ s.dev.phyHeld = false ∧ s.dev.yok.unacked.length < 16 ∧
      256 < s.dev.yok.next ∧ s.dev.yok.recAt = none ∧ ∀ i < 256, mapGet [] s.dev.yok.sent i = s.dev.strWords i) ∧
    (∃ w : Word, setsReserved R.YOK_MTXCMD (withBit w 31) = false ∧ bits w.toNat 0 11 = 1024) ∧ (∃ w : Word, setsReserved R.YOK_MRXSTAT (withBit w 30) = false) :=
  ⟨⟨yoked 2 [(F.YOK_STAT_PAIRED, 1)], by decide +kernel⟩, ⟨{ yoked 2 [] with yok := { peer := some (false, 6, 1) } }, by decide +kernel⟩,
   ⟨{ yoked 3 [] with yok := { peer := some (true, 7, 0) } }, by decide +kernel⟩, ⟨st upDev, by decide +kernel⟩, by decide +kernel,
   ⟨st (yoked 3 [(F.YOK_STAT_PAIRED, 1)]), parseBale (yokeBale 3 ([0, 0, 0, 1, 2, 0, 0x80, 0] ++ zeros 504)), by decide +kernel⟩, ⟨{ on [(F.YOK_MGEN_MGEN, 6)] with yok := { unacked := [(5, [], 1), (6, [], 2)] } }, by decide +kernel⟩,
   ⟨st { yoked 2 [(F.YOK_STAT_PAIRED, 1)] with yok := { next := 256 } }, by decide +kernel⟩,
   ⟨st { yoked 2 [(F.YOK_STAT_PAIRED, 1)] with yok := { recAt := some 1008 } }, by decide +kernel⟩,
   ⟨st allSent, by decide +kernel, by decide +kernel, by decide +kernel, by decide +kernel, by decide +kernel, by decide +kernel, rfl, sentAll_sent _⟩,
   ⟨1024, by decide +kernel⟩, ⟨0, by decide +kernel⟩⟩

/-! ### Flash port and Granary -/

/-- A program of two bytes at 0 of select 0, and a sector erase of select 1, both under way. -/
def flashJobs : List FlashJob :=
  [{ sel := 0, addr := 0, data := zeros 2, who := 0, started := true }, { sel := 1, addr := 4096, erase := true, who := 2, started := true }]

theorem witness_FlashCommands : (∀ op ∈ [1, 2, 3, 4, 5, 6, 7], setsReserved R.FLS_CMD (flsWord 256 op) = false) ∧
    (∃ s : State, s.dev.up = true ∧ s.dev.fls.op = none) ∧ (∃ s : State, s.dev.up = true ∧ s.dev.fls.op = some (4, 0) ∧ s.dev.fls.cmdEnd = none) ∧
    (∃ (s : State) (st : Status), s.dev.up = true ∧ s.dev.fls.op = some (4, 0) ∧ s.dev.fls.cmdEnd = some st) ∧
    (∃ (s : State) (data : List Byte), s.dev.up = true ∧ s.dev.fls.op = some (2, 256) ∧ flsReturned 2 256 ≤ data.length) :=
  ⟨by decide +kernel, ⟨st upDev, by decide +kernel⟩, ⟨st { upDev with fls := { op := some (4, 0) } }, by decide +kernel⟩,
   ⟨st { upDev with fls := { op := some (4, 0), cmdEnd := some .done } }, .done, by decide +kernel⟩,
   ⟨st { upDev with fls := { op := some (2, 256) } }, zeros 256, by decide +kernel⟩⟩
theorem witness_FlashWindows : (∃ (s : State) (x : BitVec 28), s.dev.up = true ∧ x.toNat % 4 = 0 ∧ x.toNat < s.dev.get F.FLS_WMAP_SIZE ∧ s.dev.bankByte x.toNat = false ∧
      (s.dev.get F.FLS_WBASE_BASE + x.toNat) % 256 = 252 ∧ s.dev.fls.gather = none) ∧
    (∃ (s : State) (x : BitVec 28), s.dev.up = true ∧ x.toNat < s.dev.get F.FLS_WMAP_SIZE ∧ s.dev.bankByte x.toNat = false ∧
      s.dev.fls.gather = some (s.dev.get F.FLS_WMAP_SEL, 0, zeros 4) ∧ s.dev.get F.FLS_WBASE_BASE + x.toNat = 4) ∧
    (∃ (s : State) (x : BitVec 28), s.dev.up = true ∧ x.toNat < s.dev.get F.FLS_WMAP_SIZE ∧ s.dev.bankByte x.toNat = false ∧
      s.dev.fls.gather = some (1 - s.dev.get F.FLS_WMAP_SEL, 0, zeros 4)) ∧
    (∃ w : Word, setsReserved R.FLS_CTRL (withBit w 1) = false) ∧
    (∃ s : State, s.dev.up = true ∧ (s.dev.flashJob 0).map (·.started) = some true ∧ (s.dev.flashJob 1).map (·.erase) = some true) ∧
    (∃ s : State, s.dev.up = true ∧ s.dev.flashJob 0 = none ∧ s.dev.fls.gather = none ∧ s.dev.flashIdle (s.dev.windowSel 1) = true) ∧
    (∃ s : State, s.dev.up = true ∧ (s.dev.flashJob 0).map (·.started) = some false) ∧
    (∃ s : State, s.dev.up = true ∧ (s.dev.flashJob 0).map (·.suspended) = some true ∧ s.dev.flashIdle (s.dev.windowSel 0) = false) ∧
    (∃ (s : State) (x : BitVec 28), s.dev.up = true ∧ x.toNat < s.dev.get F.FLS_DMAP_SIZE ∧ mapGet [] s.dev.stw.icache (x.toNat - x.toNat % 32) ≠ []) :=
  ⟨⟨st (on [(F.FLS_WMAP_SIZE, 256)]), 252, by decide +kernel⟩,
   ⟨st { on [(F.FLS_WMAP_SIZE, 256)] with fls := { gather := some (0, 0, zeros 4) } }, 4, by decide +kernel⟩,
   ⟨st { on [(F.FLS_WMAP_SIZE, 256)] with fls := { gather := some (1, 0, zeros 4) } }, 4, by decide +kernel⟩, ⟨0, by decide +kernel⟩,
   ⟨st { upDev with fls := { jobs := flashJobs } }, by decide +kernel⟩, ⟨st upDev, by decide +kernel⟩,
   ⟨st { upDev with fls := { jobs := [{ sel := 0, addr := 0 }] } }, by decide +kernel⟩,
   ⟨st { upDev with fls := { jobs := [{ sel := 0, addr := 0, erase := true, started := true, suspended := true }] } }, by decide +kernel⟩,
   ⟨st { on [(F.FLS_DMAP_SIZE, 64)] with stw := { icache := [(32, zeros 32)] } }, 63, by decide +kernel⟩⟩
theorem witness_FlashWindows_line : zeros 32 ≠ [] ∧ (upDev.stw.icache.length ≤ 1024) ∧ (let d : Dev := on [(F.FLS_DMAP_SIZE, 64)]; d.up = true ∧
    (63 : Nat) < d.get F.FLS_DMAP_SIZE ∧ mapGet [] d.stw.icache 32 = [] ∧ d.flashIdle (d.windowSel 0) = true) := by decide +kernel
/-- A commit written at the second place of bank A. -/
def committing : Commit := { seq := 4, bank := 0, off := 4096, bytes := [], moved := true }
theorem witness_Granary : (∃ seq flags wear : Nat, seq < 2 ^ 32 ∧ flags < 8 ∧ wear < 2 ^ 32 ∧ (zeros 4076).length ≤ 4076) ∧
    (∃ (s : State) (w : Word), s.dev.up = true ∧ setsReserved R.GRN_COMMIT (withBit w 31) = false ∧ bits w.toNat 0 12 = 4076 ∧ bits w.toNat 12 1 = 0 ∧
      s.dev.is F.GRN_STAT_READY = true ∧ s.dev.is F.GRN_STAT_WRITING = false ∧ s.dev.is F.GRN_STAT_FENCED = false) ∧
    (∃ s : State, s.dev.up = true ∧ s.dev.is F.GRN_STAT_PENDING = false ∧ s.dev.grn.commit = none ∧ s.dev.grn.scan = none ∧ s.dev.grn.aheadEnd = []) ∧
    (∃ s : State, s.dev.up = true ∧ s.dev.stw.rom = .image ∧ s.dev.is F.GRN_STAT_PENDING = true ∧ s.dev.is F.GRN_STAT_SCANNING = false ∧ s.dev.is F.GRN_STAT_WRITING = false ∧
      s.dev.is F.GRN_STAT_FENCED = false ∧ (s.dev.memBytes 1 1 (s.dev.get F.GRN_BUF_BASE) (8 * ceilDiv (s.dev.get F.GRN_COMMIT_LEN) 8)).2.2 = none) ∧
    (∃ (s : State) (c : Commit), s.dev.up = true ∧ s.dev.grn.commit = some c ∧ (∀ j ∈ s.dev.fls.jobs, j.who ≠ 1) ∧ c.moved = true ∧ s.dev.get F.SUP_STAT_STAGE = 3 ∧
      (recordAt (s.dev.flashBytes (s.dev.get F.FLS_WMAP_SEL) (s.dev.grnAddr c.bank c.off) 20)).isSome = false) ∧
    (∃ (s : State) (t : List Nat), s.dev.up = true ∧ s.dev.grn.aheadEnd = 1 :: t) ∧
    (∃ w : Word, setsReserved R.GRN_CTRL (withBit w 2) = false) ∧
    (∃ (s : State) (y : ScanEnd), s.dev.up = true ∧ s.dev.grn.scan = some y ∧ (∀ j ∈ s.dev.fls.jobs, j.who ≠ 4) ∧ y.sel = some (0, 5, 1, 16)) ∧
    (∃ (s : State) (y : ScanEnd), s.dev.up = true ∧ s.dev.grn.scan = some y ∧ (∀ j ∈ s.dev.fls.jobs, j.who ≠ 4) ∧ y.sel = none) :=
  ⟨⟨0, 7, 0, by decide +kernel⟩, ⟨st (on [(F.GRN_STAT_READY, 1)]), 4076, by decide +kernel⟩, ⟨st upDev, by decide +kernel⟩,
   ⟨st { on [(F.GRN_STAT_PENDING, 1), (F.GRN_STAT_SCANNING, 0)] with stw := { rom := .image } }, by decide +kernel⟩,
   ⟨st { on [(F.SUP_STAT_STAGE, 3)] with grn := { commit := some committing } }, committing, by decide +kernel⟩,
   ⟨st { upDev with grn := { aheadEnd := [1] } }, [], by decide +kernel⟩, ⟨0, by decide +kernel⟩,
   ⟨st { upDev with grn := { scan := some ⟨some (0, 5, 1, 16), 0, 0⟩ } }, _, by decide +kernel, rfl, by decide +kernel⟩,
   ⟨st { upDev with grn := { scan := some ⟨none, 0, 0⟩ } }, _, by decide +kernel, rfl, by decide +kernel⟩⟩
theorem witness_Granary_fenced : (let d : Dev := { on [(F.GRN_STAT_PENDING, 1), (F.GRN_STAT_SCANNING, 0), (F.GRN_STAT_FENCED, 1)] with stw := { rom := .image } };
    d.up = true ∧ d.stw.rom = .image ∧ d.is F.GRN_STAT_PENDING = true ∧ d.is F.GRN_STAT_SCANNING = false ∧ d.is F.GRN_STAT_WRITING = false ∧
      d.is F.GRN_STAT_FENCED = true) ∧ upDev.stw.rom ≠ .image := by decide +kernel
/-- A record as written reads back valid: the verification that ends a commit can succeed. -/
theorem witness_Granary_verifies : (recordAt (recordBytes 4 1 0 (zeros 3))).isSome = true := by decide +kernel

end Sys2Proof.Tests
end

