-- ==== Sys2Proof/Tests/WitnessE.lean ====
section
/-!
SUPPORT. Witnesses: for each statement of Obligations.lean with hypotheses, states and operands that meet the hypotheses of each clause.
-/
namespace Sys2Proof.Tests

set_option Elab.async false

open Sys2Proof Sys2Proof.Machine

/-! ### Guarded memories, faults, steward core and life cycle -/

theorem witness_GuardedMemory : (∃ d : Dev, d.is F.ECC_INJ_ARM = false) ∧
    (∃ (d : Dev) (w : Nat), d.heldAt 1 = none ∧ 2 ≤ eccClass (d.memWord 1 w).syn ∧ d.is F.ECC_UEREC_VALID = false) ∧
    (∃ (d : Dev) (w : Nat), d.heldAt 2 = none ∧ (d.memWord 2 w).syn = 0) ∧
    (∃ (s : State) (a : BitVec 24) (n : Fin 5), s.dev.up = true ∧ s.dev.memSize 1 < a.toNat + n.val) ∧
    (∃ (s : State) (a : BitVec 24), s.dev.up = true ∧ a.toNat + 4 = s.dev.memSize 1 ∧ a.toNat % 8 = 4 ∧ s.dev.heldAt 1 = some (a.toNat / 8, 7) ∧
      s.dev.is F.ECC_INJ_ARM = false) ∧
    (∃ (s : State) (a : BitVec 24), s.dev.up = true ∧ a.toNat + 4 ≤ s.dev.memSize 2 ∧ a.toNat % 8 = 0 ∧ s.dev.heldAt 2 = none) ∧
    (∃ (s : State) (a : BitVec 24) (n : Fin 5), s.dev.up = true ∧ a.toNat + n.val ≤ s.dev.memSize 3 ∧ n.val ≠ 0 ∧ s.dev.heldAt 3 = none ∧ a.toNat % 8 + n.val = 8 ∧
      (s.dev.memWord 3 (a.toNat / 8)).syn = 0 ∧ s.dev.ecc.partPoison.contains (s.dev.lar.partBase + a.toNat / 64) = false) ∧
    (∃ (s : State) (w v : Nat), s.dev.up = true ∧ s.dev.heldAt 2 = some (w, v) ∧ (s.dev.memWord 2 w).syn = 0 ∧ s.dev.is F.ECC_INJ_ARM = false) :=
  ⟨⟨upDev, by decide +kernel⟩, ⟨upDev, 32767, by decide +kernel⟩, ⟨{ upDev with ecc := { epm := [(0, ⟨0, 0⟩)] } }, 0, by decide +kernel⟩,
   ⟨st upDev, 0x3FFFD, 4, by decide +kernel⟩, ⟨st { upDev with ecc := { held := [(1, some (32767, 7))] } }, 0x3FFFC, by decide +kernel⟩,
   ⟨st upDev, 0xFFF8, by decide +kernel⟩, ⟨st { upDev with lar := { partCells := 1 }, ecc := { part := [(7, ⟨0, 0⟩)] } }, 60, 4, by decide +kernel⟩,
   ⟨st { upDev with ecc := { epm := [(0, ⟨0, 0⟩)], held := [(2, some (0, 7))] } }, 0, 7, by decide +kernel⟩⟩
/-- A word never written is WIPE; a syndrome of even weight other than 3 is UE. -/
theorem witness_RmwKeepsClass : (∃ d : Dev, eccClass (d.memWord 1 0).syn = 2) ∧
    (∃ d : Dev, eccClass (d.memWord 2 8191).syn = 3 ∧ d.is F.ECC_UEREC_VALID = false) ∧
    (∃ d : Dev, eccClass (d.memWord 3 0).syn = 3 ∧ d.is F.ECC_UEREC_VALID = true ∧ (d.lar.partBase + 0 / 8) / 4096 < 16 ∧ mapGet 0 d.ecc.spacing 15 = 1) ∧
    (∃ d : Dev, d.is F.ECC_INJ_ARM = false ∧ d.heldAt 1 = none) :=
  ⟨⟨upDev, by decide +kernel⟩, ⟨{ upDev with ecc := { epm := [(8191, ⟨0, 5⟩)] } }, by decide +kernel⟩,
   ⟨{ on [(F.ECC_UEREC_VALID, 1)] with lar := { partBase := 65472 }, ecc := { part := [(0, ⟨0, 5⟩)], spacing := [(15, 1)] } }, by decide +kernel⟩,
   ⟨upDev, by decide +kernel⟩⟩
theorem witness_EccControls : (∃ w : Word, setsReserved R.ECC_FILL (withBit w 31) = false ∧ bits w.toNat 24 2 = 3) ∧
    (∃ s : State, s.dev.up = true ∧ s.dev.is F.ECC_FILL_BUSY = true ∧ s.dev.is F.ECC_INJ_ARM = false ∧ s.dev.ecc.fillLeft = 2) ∧
    (∃ s : State, s.dev.up = true ∧ s.dev.is F.ECC_FILL_BUSY = false) ∧ (∃ d : Dev, d.get (lvlFld 15) + 1 ≤ d.get F.ECC_LBCFG_CAP) ∧
    (∃ w : Word, setsReserved R.ECC_INJ (withBit w 31) = false ∧ bits w.toNat 24 5 = 18) ∧ (∃ w : Word, setsReserved R.ECC_GLCLR (withBit w 0) = false) ∧
    (∃ w : Word, setsReserved R.ECC_CTRL (withBit w 0) = false) :=
  ⟨⟨0x03000000, by decide +kernel⟩, ⟨st { on [(F.ECC_FILL_BUSY, 1), (F.ECC_FILL_MEM, 1)] with ecc := { fillLeft := 2 } }, by decide +kernel⟩,
   ⟨st upDev, by decide +kernel⟩, ⟨upDev, by decide +kernel⟩, ⟨0x12000101, by decide +kernel⟩, ⟨0, by decide +kernel⟩, ⟨0, by decide +kernel⟩⟩

theorem witness_FaultEvents : (∃ (d : Dev) (i : Nat), i < 64 ∧ d.get (F.FLT_SRC_CLASS i) = 0) ∧
    (∃ (d : Dev) (i : Nat), i < 64 ∧ d.get (F.FLT_SRC_CLASS i) ≠ 0 ∧ (d.urecOf 0x228).fenced = true ∧ (d.urecOf 0x228).valid = true) ∧
    (∃ (d : Dev) (i : Nat), i < 64 ∧ d.get (F.FLT_SRC_CLASS i) ≠ 0 ∧ (d.urecOf 0x2FF).fenced = false ∧ (d.urecOf 0x2FF).valid = false ∧
      mapGet 0 (d.urecOf 0x2FF).wins i + 1 < d.get (F.FLT_SRC_N i)) ∧
    (∃ (d : Dev) (i : Nat), i < 64 ∧ (d.urecOf 0x2FF).fenced = false ∧ d.get (F.FLT_SRC_N i) ≤ mapGet 0 (d.urecOf 0x2FF).wins i + 1 ∧ d.get (F.FLT_SRC_CLASS i) = 1) ∧
    (∃ (d : Dev) (i : Nat), i < 64 ∧ (d.urecOf 0).fenced = false ∧ d.get (F.FLT_SRC_N i) ≤ mapGet 0 (d.urecOf 0).wins i + 1 ∧ d.get (F.FLT_SRC_CLASS i) = 2 ∧
      d.mayFence 0 = true) :=
  ⟨⟨on [(F.FLT_SRC_CLASS 63, 0)], 63, by decide +kernel⟩, ⟨{ on [(F.FLT_SRC_CLASS 47, 1)] with urec := [(0x228, { fenced := true, valid := true })] }, 47, by decide +kernel⟩,
   ⟨on [(F.FLT_SRC_CLASS 0, 2), (F.FLT_SRC_N 0, 2)], 0, by decide +kernel⟩, ⟨on [(F.FLT_SRC_CLASS 0, 1), (F.FLT_SRC_N 0, 1)], 0, by decide +kernel⟩,
   ⟨on [(F.FLT_SRC_CLASS 34, 2), (F.FLT_SRC_N 34, 1)], 34, by decide +kernel⟩⟩
theorem witness_FaultCommands : (∃ s : State, s.dev.up = true ∧ (s.dev.urecOf 0x225).fenced = true ∧ (s.dev.urecOf 0x225).sticky = false) ∧
    (∃ s : State, s.dev.up = true ∧ (s.dev.urecOf 0x225).fenced = false) ∧ (∃ s : State, s.dev.up = true ∧ s.dev.lar.qFenced.contains 1023 = true) ∧
    (∃ s : State, s.dev.up = true ∧ s.dev.lar.qFenced.contains 0 = false) ∧
    (∃ (s : State) (w : Word), s.dev.up = true ∧ s.dev.get F.FLT_USEL_UNIT = 0x23F ∧ unitKind 0x23F = some 9 ∧ s.dev.unitFenced 0x23F = false ∧
      s.dev.bankMayFence (0x23F - 0x230) = true ∧ (∀ k ∈ [1, 2, 3], setsReserved R.FLT_UCMD (ucmdWord w k) = false) ∧
      setsReserved R.FLT_UREC0 (withBit w 31) = false) :=
  ⟨⟨st { upDev with urec := [(0x225, { fenced := true })] }, by decide +kernel⟩, ⟨st upDev, by decide +kernel⟩,
   ⟨st { upDev with lar := { qFenced := [1023] } }, by decide +kernel⟩, ⟨st upDev, by decide +kernel⟩,
   ⟨st (on [(F.FLT_USEL_UNIT, 0x23F)]), 0, by decide +kernel⟩⟩
theorem witness_AlertPins : (∃ s : State, s.dev.up = true ∧ s.dev.is (F.ALT_CFG_MODE 1) = false ∧ (s.dev.pin 1).pulsing = true) ∧
    (∃ s : State, s.dev.up = true ∧ (s.dev.pin 1).resting = true ∧ (s.dev.pin 1).waiting = true) ∧ (∃ s : State, s.dev.up = true ∧ (s.dev.pin 0).resting = false) ∧
    (∃ (s : State) (w : Word), s.dev.up = true ∧ setsReserved R.ALT_CFG w = false ∧ bits w.toNat 16 10 = 1001 ∧ 1001 ≠ s.dev.get (F.ALT_CFG_WIDTH 0)) ∧
    (∃ (s : State) (w : Word), s.dev.up = true ∧ setsReserved R.ALT_CFG w = false ∧ bits w.toNat 16 10 = 1000 ∧ s.dev.is (F.ALT_CFG_MODE 0) = false ∧
      bits w.toNat 0 1 = 0 ∧ bits w.toNat 2 1 = 0 ∧ (s.dev.pin 0).held = true) ∧
    (∃ (s : State) (w : Word), s.dev.up = true ∧ setsReserved R.ALT_CFG w = false ∧ bits w.toNat 16 10 = 1 ∧ bits w.toNat 0 1 ≠ bitNat (s.dev.is (F.ALT_CFG_MODE 0))) :=
  ⟨⟨st { on [(F.ALT_CFG_MODE 1, 0)] with alert := [(1, { pulsing := true })] }, by decide +kernel⟩, ⟨st { upDev with alert := [(1, { resting := true, waiting := true })] }, by decide +kernel⟩,
   ⟨st upDev, by decide +kernel⟩, ⟨st upDev, 0x03E90000, by decide +kernel⟩, ⟨st { upDev with alert := [(0, { held := true })] }, 0x03E80000, by decide +kernel⟩,
   ⟨st upDev, 0x00010001, by decide +kernel⟩⟩

/-- The generator of P-256 as a public key, which is the key whose secret is 1. -/
def keyG : List Byte :=
  [0x96, 0xC2, 0x98, 0xD8, 0x45, 0x39, 0xA1, 0xF4, 0xA0, 0x33, 0xEB, 0x2D, 0x81, 0x7D, 0x03, 0x77, 0xF2, 0x40, 0xA4, 0x63, 0xE5, 0xE6, 0xBC, 0xF8, 0x47, 0x42, 0x2C, 0xE1, 0xF2, 0xD1, 0x17, 0x6B,
   0xF5, 0x51, 0xBF, 0x37, 0x68, 0x40, 0xB6, 0xCB, 0xCE, 0x5E, 0x31, 0x6B, 0x57, 0x33, 0xCE, 0x2B, 0x16, 0x9E, 0x0F, 0x7C, 0x4A, 0xEB, 0xE7, 0x8E, 0x9B, 0x7F, 0x1A, 0xFE, 0xE2, 0x42, 0xE3, 0x4F]
/-- A plain image of 336 bytes with VERSION 1, signed with that key. -/
def smallImage : List Byte :=
  [0x50, 0x4C, 0x50, 0x58, 0x01, 0x00, 0x00, 0x01, 0x50, 0x01, 0x00, 0x00, 0x01, 0x00, 0x00, 0x00, 0x00, 0x00, 0x00, 0x00, 0x00, 0x00, 0x00, 0x00, 0x00, 0x00, 0x00, 0x00, 0x00, 0x00, 0x00, 0x00,
   0x00, 0x01, 0x00, 0x00, 0x10, 0x00, 0x00, 0x00, 0x00, 0x00, 0x00, 0x00, 0x00, 0x00, 0x00, 0x00, 0x00, 0x00, 0x00, 0x00, 0x00, 0x00, 0x00, 0x00] ++ keyG ++ zeros 132 ++
  [0x95, 0x06, 0x7A, 0x2E] ++ zeros 16 ++
  [0x96, 0xC2, 0x98, 0xD8, 0x45, 0x39, 0xA1, 0xF4, 0xA0, 0x33, 0xEB, 0x2D, 0x81, 0x7D, 0x03, 0x77, 0xF2, 0x40, 0xA4, 0x63, 0xE5, 0xE6, 0xBC, 0xF8, 0x47, 0x42, 0x2C, 0xE1, 0xF2, 0xD1, 0x17, 0x6B,
   0xD5, 0x23, 0x98, 0x67, 0x28, 0xA5, 0x63, 0xE0, 0xEE, 0xD3, 0x0D, 0xF7, 0x19, 0x1C, 0x88, 0x94, 0xEA, 0x53, 0xF1, 0xD9, 0x59, 0xC4, 0x3E, 0x1D, 0x80, 0x8C, 0x3F, 0x74, 0x52, 0x69, 0x5B, 0x9A]
/-- A part in DEVELOP whose flash holds that image in slot 0. -/
def imaged : Dev :=
  { upDev with fuse := { life := .develop }, flash := (smallImage.zipIdx.map fun e => (e.2, e.1)) }
/-- An unlock token of 192 bytes for cycle 0 of unit 0 and a challenge of zeros, signed with that key. -/
def smallToken : List Byte :=
  [0x55, 0x4E, 0x4C, 0x4B, 0x01, 0x00, 0x00, 0x00, 0x00, 0x00, 0x00, 0x00, 0x00, 0x00, 0x00, 0x00, 0x00, 0x00, 0x00, 0x00, 0x00, 0x00, 0x00, 0x00, 0x00, 0x00, 0x00, 0x00, 0x00, 0x00, 0x00, 0x00,
   0x01, 0x00, 0x00, 0x00, 0x00, 0x00, 0x00, 0x00, 0x00, 0x00, 0x00, 0x00, 0x00, 0x00, 0x00, 0x00, 0x00, 0x00, 0x00, 0x00, 0x00, 0x00, 0x00, 0x00] ++ keyG ++ zeros 8 ++
  [0x96, 0xC2, 0x98, 0xD8, 0x45, 0x39, 0xA1, 0xF4, 0xA0, 0x33, 0xEB, 0x2D, 0x81, 0x7D, 0x03, 0x77, 0xF2, 0x40, 0xA4, 0x63, 0xE5, 0xE6, 0xBC, 0xF8, 0x47, 0x42, 0x2C, 0xE1, 0xF2, 0xD1, 0x17, 0x6B,
   0xFF, 0x48, 0xD7, 0x5C, 0x04, 0x87, 0x96, 0x49, 0x90, 0x0F, 0x75, 0x27, 0xAB, 0xA8, 0x40, 0xB3, 0xD1, 0x3F, 0x22, 0xB6, 0x7D, 0x77, 0x77, 0x68, 0x77, 0x81, 0x82, 0xBA, 0xC2, 0x6E, 0xD6, 0x4A]
/-- The digest of that key. -/
def digestG : List Byte :=
  [0xA9, 0x55, 0x51, 0x5B, 0x71, 0xFB, 0x24, 0x29, 0x10, 0x18, 0x80, 0x55, 0x2C, 0x64, 0x11, 0x9D, 0x66, 0x49, 0xBF, 0x02, 0xB4, 0x27, 0xDE, 0xAF, 0xAE, 0x39, 0xB3, 0xE5, 0xFC, 0x12, 0x07, 0x97]
/-- Words of eight bytes. -/
def wordsOf : Nat → List Byte → List Nat
  | 0, _ => []
  | n + 1, l => leNat (l.take 8) :: wordsOf n (l.drop 8)
/-- A part in RECLAIM whose steward SRAM holds the token and whose fuses hold the digest of its key. -/
def unlockable : Dev :=
  { on [(F.LCS_UNLOCK_ADDR, 0)] with
    fuse := { life := .reclaim, unldig := { prog := true, val := digestG } }
    ecc := { sram := (wordsOf 24 smallToken).zipIdx.map fun e => (e.2, ⟨e.1, 0⟩) } }

/-- The signature of the image is valid (the long part of its acceptance, apart). -/
theorem witness_BootRom_signed : signed (sha256 (smallImage.take 272)) keyG (smallImage.drop 272) = true := by decide +kernel
theorem mapFind_zip : ∀ (l : List Byte) (k j : Nat), k ≤ j → mapFind ((l.zipIdx k).map fun e => (e.2, e.1)) j = l[j - k]?
  | [], k, j, _ => by simp [mapFind]
  | b :: t, k, j, h => by
    by_cases e : k = j
    · subst e; simp [mapFind]
    · have : j - k = (j - (k + 1)) + 1 := by omega
      simp [mapFind, e, mapFind_zip t (k + 1) j (by omega), this]
/-- A flash that holds a list of bytes from 0 on reads as that list. -/
theorem flashBytes_zip (d : Dev) (l : List Byte) (hf : d.flash = l.zipIdx.map fun e => (e.2, e.1)) (a n : Nat) (h : a + n ≤ l.length)
    (hl : l.length < 2 ^ 32) : d.flashBytes 0 a n = (l.drop a).take n := by
  apply List.ext_getElem
  · simp [Dev.flashBytes]; omega
  · intro i h1 h2
    have hi : i < n := by simpa [Dev.flashBytes] using h1
    have e : flashKey 0 (a + i) = a + i := by simp only [flashKey]; omega
    simp [Dev.flashBytes, Dev.flashByte, e, mapGet, hf, mapFind_zip l 0 (a + i) (by omega), List.getElem?_eq_getElem (show a + i < l.length by omega)]
theorem imaged_bytes (a n : Nat) (h : a + n ≤ 336) : imaged.flashBytes 0 a n = (smallImage.drop a).take n :=
  flashBytes_zip imaged smallImage rfl a n (by rw [show smallImage.length = 336 by decide +kernel]; exact h) (by decide +kernel)
theorem slot_zero : slotBase 0 = 0 := rfl
/-- The header of the image has every field in order. -/
theorem witness_BootRom_header : hdrKept (smallImage.take 256) = true ∧ hdrMeets (smallImage.take 256) = true ∧
    imaged.encOk (hdrFld (smallImage.take 256) 22 2 == 1) = true ∧ imaged.digestOk (smallImage.take 256) = true ∧
    hdrFld (smallImage.take 256) 8 4 = 336 ∧ hdrFld (smallImage.take 256) 32 4 = 256 ∧ imaged.versionFloor ≤ hdrFld (smallImage.take 256) 12 4 := by
  decide +kernel
/-- Boot ROM finds the image in slot 0, and none in slot 1. -/
theorem witness_BootRom_candidate : imaged.candidates = [0] := by
  have h1 : imaged.slotKept 1 = false := by decide +kernel
  have h0 : imaged.slotKept 0 = true := by
    obtain ⟨k, -, -, -, -, -, f⟩ := witness_BootRom_header
    simp [Dev.slotKept, slot_zero, imaged_bytes 0 256 (by omega), k, f]
  unfold Dev.candidates
  by_cases h : hdrFld (imaged.flashBytes 0 (slotBase 0) 16) 12 4 < hdrFld (imaged.flashBytes 0 (slotBase 1) 16) 12 4 <;> simp [h, h0, h1]
/-- The image is accepted. -/
theorem witness_BootRom_accepted : imaged.imageOk (slotBase 0) = true := by
  obtain ⟨h1, h2, h3, h4, h5, h6, -⟩ := witness_BootRom_header
  have hh : imaged.flashBytes 0 0 256 = smallImage.take 256 := imaged_bytes 0 256 (by omega)
  have hb : imaged.flashBytes 0 0 272 = smallImage.take 272 := imaged_bytes 0 272 (by omega)
  have hs : imaged.flashBytes 0 272 64 = smallImage.drop 272 := by rw [imaged_bytes 272 64 (by omega)]; decide +kernel
  have hz : imaged.flashBytes 0 256 0 = [] := rfl
  have hk : ((smallImage.take 256).drop 56).take 64 = keyG := by decide +kernel
  simp [Dev.imageOk, slot_zero, hh, hb, hs, hz, hk, h1, h2, h3, h4, h5, h6, witness_BootRom_signed]

end Sys2Proof.Tests
end

