-- ==== Sys2Proof/Tests/WitnessF.lean ====
section
/-!
SUPPORT. Witnesses: for each statement of Obligations.lean with hypotheses, states and operands that meet the hypotheses of each clause.
-/
namespace Sys2Proof.Tests

set_option Elab.async false

open Sys2Proof Sys2Proof.Machine

theorem witness_BootRom_search : (∃ s : State, s.dev.up = true ∧ s.dev.stw.rom = .busy ∧ s.dev.stw.failed = false ∧ s.dev.fuse.life ≠ .blank ∧
      s.dev.candidates.find? (fun k => s.dev.imageOk (slotBase k)) = some 0) :=
  ⟨st imaged, by decide +kernel, by decide +kernel, by decide +kernel, by decide +kernel, by
    show imaged.candidates.find? (fun k => imaged.imageOk (slotBase k)) = some 0
    rw [witness_BootRom_candidate]; simp [witness_BootRom_accepted]⟩
/-- A part in DEVELOP with empty flashes. -/
def bare (r : Rom) (failed : Bool) (l : List (Fld × Nat)) : Dev := { on l with fuse := { life := .develop }, stw := { rom := r, failed := failed } }
theorem witness_BootRom : (∃ s : State, s.dev.up = true ∧ s.dev.fuse.life = .blank) ∧
    (∃ s : State, s.dev.up = true ∧ s.dev.candidates.find? (fun k => s.dev.imageOk (slotBase k)) = none ∧ s.dev.stw.rom = .busy ∧ s.dev.stw.failed = false ∧
      s.dev.fuse.life ≠ .blank) ∧
    (∃ s : State, s.dev.up = true ∧ s.dev.candidates.find? (fun k => s.dev.imageOk (slotBase k)) = none ∧ s.dev.stw.rom = .retrying) ∧
    (∃ s : State, s.dev.up = true ∧ s.dev.stw.rom = .busy ∧ s.dev.stw.failed = true ∧ s.dev.code = 1 ∧ s.dev.is F.GLB_CTRL_LOCK = true ∧
      s.dev.is F.GLB_CTRL_T0HOST = false ∧ s.dev.is F.FLS_CTRL_WLOCK = false) ∧
    (∃ s : State, s.dev.up = true ∧ s.dev.stw.rom = .busy ∧ s.dev.stw.failed = true ∧ s.dev.code = 1 ∧ s.dev.is F.GLB_CTRL_LOCK = false ∧ s.dev.get F.GLB_CTRL_LOCK = 0) ∧
    (∃ s : State, s.dev.up = true ∧ s.dev.stw.rom = .busy ∧ s.dev.stw.failed = true ∧ s.dev.code ≠ 1) ∧
    (∃ s : State, s.dev.up = true ∧ s.dev.stw.rom = .warm ∧ s.dev.stw.lastWarm = some 0 ∧
      8 ≤ satInc 255 (s.dev.get F.STW_BOOT_WARMCNT) % 256) ∧
    (∃ s : State, s.dev.up = true ∧ s.dev.stw.rom = .warm ∧ s.dev.stw.lastWarm = none ∧ s.dev.is F.FLS_CTRL_LOCK = false) ∧
    (∃ s : State, s.dev.up = true ∧ s.dev.stw.rom = .warm ∧ s.dev.stw.lastWarm = none ∧ s.dev.is F.FLS_CTRL_LOCK = true ∧ s.dev.imageOk s.dev.fls.start = false) :=
  ⟨⟨st upDev, by decide +kernel⟩, ⟨st (bare .busy false []), by decide +kernel⟩, ⟨st (bare .retrying false []), by decide +kernel⟩,
   ⟨st (bare .busy true [(F.GLB_CTRL_LOCK, 1)]), by decide +kernel⟩, ⟨st (bare .busy true [(F.GLB_CTRL_LOCK, 0)]), by decide +kernel⟩,
   ⟨st { bare .busy true [] with code := 2 }, by decide +kernel⟩,
   ⟨st { on [(F.STW_BOOT_WARMCNT, 7)] with stw := { rom := .warm, lastWarm := some 0 } }, by decide +kernel⟩,
   ⟨st (bare .warm false []), by decide +kernel⟩, ⟨st (bare .warm false [(F.FLS_CTRL_LOCK, 1)]), by decide +kernel⟩⟩
/-- A warm restart whose locked image still is accepted. -/
theorem witness_BootRom_warm : ∃ s : State, s.dev.up = true ∧ s.dev.stw.rom = .warm ∧ s.dev.is F.FLS_CTRL_LOCK = true ∧ s.dev.stw.lastWarm = none ∧
    s.dev.imageOk s.dev.fls.start = true :=
  ⟨st { (imaged.set F.FLS_CTRL_LOCK 1) with stw := { rom := .warm } }, by decide +kernel, rfl, by decide +kernel, rfl, witness_BootRom_accepted⟩
theorem witness_BootWarm_edges : upDev.xt.count < 2 ^ 64 ∧ (0xFFFFFFFFFFFFFFFF : Word64).toNat < 2 ^ 64 ∧ upDev.mtimecmp < 2 ^ 64 := by decide +kernel
/-- An image that runs, with SRAM given and Window D mapped. -/
def served : Dev := { bare .image false [(F.FLS_DMAP_SIZE, 0x1000)] with ecc := { sram := (List.range 16).map fun i => (i, ⟨i, 0⟩) } }
theorem witness_BootRom_services : served.up = true ∧ served.stw.rom = .image ∧ served.romPlace 0x1003FFF0 32 = none ∧ served.romPlace 0x20000FE0 32 = some (2, 0xFE0) ∧
    served.romPlace 0x20000000 64 = some (2, 0) ∧ served.romPlace 0x10000000 32 = some (1, 0) ∧ (served.romRead 1 0 32).2.isSome = true ∧
    (served.romRead 1 0 32).1.romPlace 0x10000040 32 = some (1, 64) := by decide +kernel

theorem witness_StewardWatchdog : (∃ d : Dev, d.is F.STW_MBCMD_BUSY = true) ∧ (∃ d : Dev, d.is F.STW_MBCMD_BUSY = false) ∧
    (∃ s : State, s.dev.up = true ∧ s.dev.is F.STW_WDT_EN = true ∧ s.dev.pow.state = .run ∧ s.dev.stw.rom = .image ∧ s.dev.get F.STW_WDT_WARN ≠ 0) ∧
    (∃ s : State, s.dev.up = true ∧ ¬ (s.dev.is F.STW_WDT_EN = true ∧ s.dev.pow.state = .run ∧ s.dev.stw.rom = .image)) ∧
    (∃ w : Word, setsReserved R.STW_CTRL (withBit w 0) = false) ∧ (∃ w : Word, setsReserved R.STW_CTRL (withBit w 1) = false ∧ bits w.toNat 0 1 = 0) :=
  ⟨⟨on [(F.STW_MBCMD_BUSY, 1)], by decide +kernel⟩, ⟨upDev, by decide +kernel⟩, ⟨st (bare .image false [(F.STW_WDT_EN, 1), (F.STW_WDT_WARN, 1)]), by decide +kernel⟩,
   ⟨st upDev, by decide +kernel⟩, ⟨0, by decide +kernel⟩, ⟨0, by decide +kernel⟩⟩
/-- A part that serves the mailbox with a command in it. -/
def asked (op len a : Nat) : State := st (bare .serving false [(F.STW_MBCMD_BUSY, 1), (F.STW_MBCMD_OPCODE, op), (F.STW_MBCMD_LEN, len),
  (F.STW_MBDATA_DATA 0, a), (F.FLS_WMAP_SIZE, 0x1000000)])
theorem witness_StewardInterruptsAndMailbox :
    (∃ d : Dev, d.bestSource 48 ≠ 0) ∧ (∃ d : Dev, d.bestSource 48 = 0) ∧
    (∃ (s : State) (w : Word), s.dev.up = true ∧ setsReserved R.STW_ICCLAIM w = false ∧ s.dev.stw.claimed.contains (bits w.toNat 0 6) = true) ∧
    (∃ (s : State) (w : Word), s.dev.up = true ∧ setsReserved R.STW_MBCMD (withBit w 31) = false ∧ bits w.toNat 8 5 = 16 ∧ s.dev.is F.STW_MBCMD_BUSY = false) ∧
    (∃ (s : State) (w : Word), s.dev.up = true ∧ setsReserved R.STW_MBREPLY (withBit w 31) = false ∧ bits w.toNat 8 5 = 16 ∧ s.dev.is F.STW_MBCMD_BUSY = true) ∧
    (∃ (s : State) (w : Word), s.dev.up = true ∧ setsReserved R.STW_MBMSG (withBit w 31) = false ∧ bits w.toNat 29 1 = 0 ∧ bits w.toNat 8 5 = 17) ∧
    (∃ (s : State) (w : Word), s.dev.up = true ∧ setsReserved R.STW_MBMSG (withBit w 29) = false ∧ bits w.toNat 31 1 = 0 ∧ s.dev.is F.STW_MBMSG_BUSY = true) ∧
    (∀ op ∈ [0, 1, 2, 3, 4, 5, 255], (asked op 2 0).dev.up = true ∧ (asked op 2 0).dev.get F.STW_MBCMD_OPCODE = op ∧ (asked op 2 0).dev.stw.rom = .serving ∧
      (asked op 2 0).dev.is F.STW_MBCMD_BUSY = true ∧ (asked op 2 0).dev.stw.flashCmd = none) ∧
    ((asked 3 1 2).dev.get (F.STW_MBDATA_DATA 0) = 2 ∧ (asked 3 2 0x0FFFFFC).dev.windowReaches 0x0FFFFFC 4 = true ∧
      (asked 3 3 0x0FFFFFC).dev.windowReaches 0x0FFFFFC 8 = false) ∧
    (∃ s : State, s.dev.up = true ∧ s.dev.stw.rom = .serving ∧ s.dev.bankSector 0 (s.dev.get (F.STW_MBDATA_DATA 0)) = true) :=
  ⟨⟨on [(F.STW_INT_MBCMD, 1), (F.STW_ICPRIO_PRIO 32, 1)], by decide +kernel⟩, ⟨upDev, by decide +kernel⟩,
   ⟨st { upDev with stw := { claimed := [47] } }, 47, by decide +kernel⟩, ⟨st upDev, 0x1000, by decide +kernel⟩, ⟨st (on [(F.STW_MBCMD_BUSY, 1)]), 0x1000, by decide +kernel⟩,
   ⟨st upDev, 0x1100, by decide +kernel⟩, ⟨st (on [(F.STW_MBMSG_BUSY, 1)]), 0, by decide +kernel⟩, by decide +kernel, by decide +kernel,
   ⟨st ((bare .serving false [(F.GRN_CTRL_EN, 1), (F.FLS_WMAP_SIZE, 0x1000000)])), by decide +kernel⟩⟩

/-! ### Life cycle -/

/-- The token's signature is valid (the long part of the unlock, apart). -/
theorem witness_Unlock_signed : signed (sha256 (smallToken.take 128)) ((smallToken.drop 56).take 64) ((smallToken.drop 128).take 64) = true := by decide +kernel
theorem witness_Unlock_valid : unlockable.tokenValid smallToken = true := by
  have h : (unlockable.fuseField 2).val == sha256 ((smallToken.drop 56).take 64) := by decide +kernel
  have h1 : hdrFld smallToken 0 4 = 0x4B4C4E55 ∧ hdrFld smallToken 4 2 = 1 ∧ hdrFld smallToken 6 2 = 0 ∧ hdrFld smallToken 8 8 = unlockable.fuse.uid ∧
      ((smallToken.drop 16).take 16 == ((List.range 4).map fun i => leBytes 4 (unlockable.get (F.LCS_CHAL_CHAL i))).flatten) = true ∧
      hdrFld smallToken 32 1 = unlockable.fuse.cycle + 1 ∧ hdrFld smallToken 33 23 = 0 ∧ hdrFld smallToken 120 8 = 0 ∧
      (unlockable.fuseField 2).prog = true ∧ (unlockable.fuseField 2).partly = false := by decide +kernel
  obtain ⟨a, b, c, e, f, g, i, j, k, l⟩ := h1
  unfold Dev.tokenValid
  simp only [a, b, c, e, f, g, i, j, k, l, h, witness_Unlock_signed]
  rfl
theorem witness_Unlock_read : (unlockable.memBytes 1 1 (unlockable.get F.LCS_UNLOCK_ADDR) 192).2 = (smallToken, none) := by decide +kernel
/-- A part in a life-cycle state. -/
def living (l : Life) (w : List (Fld × Nat)) : Dev := { on w with fuse := { life := l } }
theorem witness_LifeCycleRequests : (∃ w : Word, bits w.toNat 8 8 = 0xA5 ∧ ∀ t ∈ [1, 2, 3, 4], setsReserved R.LCS_REQ (reqWord w t) = false) ∧
    (∃ s : State, s.dev.up = true ∧ s.dev.fuse.life = .reclaim ∧ 4 ≤ s.dev.key.fails) ∧ (∃ s : State, s.dev.up = true ∧ s.dev.is F.LCS_CTRL_LOCK = true) ∧
    (∃ s : State, s.dev.up = true ∧ s.dev.is F.SUP_STAT_WARN = true) ∧ (∃ s : State, s.dev.up = true ∧ s.dev.lcsBusy = true) ∧
    (∃ s : State, s.dev.up = true ∧ s.dev.fuse.life = .reclaim ∧ 3 ≤ s.dev.fuse.cycle) ∧
    (∃ s : State, s.dev.up = true ∧ s.dev.fuse.life = .develop ∧ (s.dev.fuseField 1).prog = true ∧ mayPass .develop (lifeOf 2) = true ∧ s.dev.is F.LCS_CTRL_LOCK = false ∧
      s.dev.is F.SUP_STAT_WARN = false ∧ s.dev.lcsBusy = false) ∧
    (∃ s : State, s.dev.up = true ∧ s.dev.fuse.life = .reclaim ∧ s.dev.lcsBusy = false ∧ s.dev.is F.LCS_CTRL_LOCK = false ∧ s.dev.is F.SUP_STAT_WARN = false ∧
      s.dev.key.fails < 4 ∧ s.dev.fuse.cycle < 3 ∧ (s.dev.memBytes 1 1 (s.dev.get F.LCS_UNLOCK_ADDR) 192).2.2 ≠ none) ∧
    (∃ s : State, s.dev.up = true ∧ s.dev.fuse.life = .blank ∧ s.dev.stw.rom = .busy ∧ s.dev.lcsBusy = false ∧ s.dev.is F.SUP_STAT_WARN = false) ∧
    (∃ s : State, s.dev.up = true ∧ s.dev.key.trans = none) ∧ (∃ s : State, s.dev.up = true ∧ s.dev.key.trans = some .develop ∧ s.dev.fuse.life = .reclaim) :=
  ⟨⟨0xA500, by decide +kernel⟩, ⟨st { living .reclaim [] with key := { fails := 4 } }, by decide +kernel⟩, ⟨st (living .develop [(F.LCS_CTRL_LOCK, 1)]), by decide +kernel⟩,
   ⟨st (living .develop [(F.SUP_STAT_WARN, 1)]), by decide +kernel⟩, ⟨st (living .develop [(F.LCS_PROG_BUSY, 1)]), by decide +kernel⟩,
   ⟨st { upDev with fuse := { life := .reclaim, cycle := 3 } }, by decide +kernel⟩,
   ⟨st { upDev with fuse := { life := .develop, imgdig := [(0, { prog := true })] } }, by decide +kernel⟩, ⟨st (living .reclaim []), by decide +kernel⟩,
   ⟨st upDev, by decide +kernel⟩, ⟨st upDev, by decide +kernel⟩, ⟨st { living .reclaim [] with key := { trans := some .develop } }, by decide +kernel⟩⟩
theorem witness_LifeCycleRequests_unlock : unlockable.up = true ∧ unlockable.fuse.life = .reclaim ∧ unlockable.lcsBusy = false ∧ unlockable.is F.LCS_CTRL_LOCK = false ∧
    unlockable.is F.SUP_STAT_WARN = false ∧ unlockable.key.fails < 4 ∧ unlockable.fuse.cycle < 3 := by decide +kernel
theorem witness_LifeCycleFields : (∃ w : Word, ∀ f ∈ [1, 2, 3, 4, 5], setsReserved R.LCS_PROG (progWord w f) = false) ∧
    (∃ s : State, s.dev.up = true ∧ s.dev.versionFloor < mapGet 0 s.dev.key.buf 0 ∧ (∀ f ∈ [1, 2, 3, 4, 5], s.dev.fieldOpen f = true ∧ (s.dev.fuseField f).prog = false) ∧
      s.dev.is F.LCS_CTRL_LOCK = false ∧ s.dev.is F.SUP_STAT_WARN = false ∧ s.dev.lcsBusy = false ∧ s.dev.fuse.floors.length = 15) ∧
    (∃ s : State, s.dev.up = true ∧ mapGet 0 s.dev.key.buf 0 ≤ s.dev.versionFloor) ∧ (∃ s : State, s.dev.up = true ∧ 16 ≤ s.dev.fuse.floors.length) ∧
    (∃ s : State, s.dev.up = true ∧ s.dev.fieldOpen 2 = false ∧ s.dev.fuse.life = .develop) ∧
    (∃ s : State, s.dev.up = true ∧ s.dev.key.prog = none) ∧ (∀ f ∈ [1, 4, 5], ∃ (s : State) (v : List Byte), s.dev.up = true ∧ s.dev.key.prog = some (f, v)) ∧
    (∃ w : Word, setsReserved R.LCS_DERIVE (withBit w 31) = false) ∧ (∃ s : State, s.dev.up = true ∧ bits (s.dev.get (F.LCS_LABEL_LABEL 1)) 24 8 = 0xFF) ∧
    (∃ s : State, s.dev.up = true ∧ bits (s.dev.get (F.LCS_LABEL_LABEL 1)) 24 8 = 0xFE ∧ s.dev.is F.LCS_STAT_DSKOK = true ∧ s.dev.is F.LCS_DERIVE_BUSY = false) ∧
    (∃ s : State, s.dev.up = true ∧ bits (s.dev.get (F.LCS_LABEL_LABEL 1)) 24 8 ≠ 0xFF ∧ s.dev.is F.LCS_STAT_DSKOK = true ∧ s.dev.is F.LCS_DERIVE_BUSY = true) :=
  ⟨⟨0, by decide +kernel⟩, ⟨st { upDev with fuse := { life := .develop, floors := List.replicate 15 1 }, key := { buf := [(0, 2)] } }, by decide +kernel⟩,
   ⟨st upDev, by decide +kernel⟩, ⟨st { upDev with fuse := { floors := List.replicate 16 0 } }, by decide +kernel⟩,
   ⟨st { upDev with fuse := { life := .develop, cycle := 1 } }, by decide +kernel⟩, ⟨st upDev, by decide +kernel⟩,
   fun f _ => ⟨st { upDev with key := { prog := some (f, zeros 32) } }, zeros 32, rfl, rfl⟩, ⟨0, by decide +kernel⟩,
   ⟨st (on [(F.LCS_LABEL_LABEL 1, 0xFF000000)]), by decide +kernel⟩, ⟨st (on [(F.LCS_LABEL_LABEL 1, 0xFE000000), (F.LCS_STAT_DSKOK, 1)]), by decide +kernel⟩,
   ⟨st (on [(F.LCS_STAT_DSKOK, 1), (F.LCS_DERIVE_BUSY, 1)]), by decide +kernel⟩⟩

end Sys2Proof.Tests
end

/-!
SUPPORT. What an access, a rejected and an applied register write do; then the captures of the running counts and SUP_XCLR
(chapter 02).
-/
namespace Sys2Proof.Machine

open Sys2Proof

/-! ### An access and the power state (R61) -/

/-- An access changes at most the power state, which it brings out of DOZE (R61). -/
theorem Dev.accessBy_eq (d : Dev) (who : Nat) : d.accessBy who = { d with pow := (d.accessBy who).pow } := by
  unfold Dev.accessBy
  split_ifs
  · exact d.rouse_eq
  · rfl

@[simp] theorem Dev.accessBy_xt (d : Dev) (who : Nat) : (d.accessBy who).xt = d.xt := by rw [d.accessBy_eq who]

@[simp] theorem Dev.accessBy_out (d : Dev) (who : Nat) : (d.accessBy who).out = d.out := by rw [d.accessBy_eq who]

@[simp] theorem Dev.accessBy_pack (d : Dev) (who : Nat) : (d.accessBy who).pack = d.pack := by rw [d.accessBy_eq who]

@[simp] theorem Dev.accessBy_almTime (d : Dev) (who : Nat) : (d.accessBy who).almTime = d.almTime := by
  rw [d.accessBy_eq who]; rfl

@[simp] theorem Dev.accessBy_get (d : Dev) (who : Nat) (g : Fld) : (d.accessBy who).get g = d.get g := by
  rw [d.accessBy_eq who]; rfl

/-! ### A register write that is rejected, and one that is applied (R7, R8, R9) -/

theorem statusCode_lt (st : Status) : statusCode st < 2 ^ 8 := by cases st <;> decide

/-- The first rejection is recorded with its offset and status, a later one as MULTI alone. -/
theorem recordedGlb_recordGlb (d : Dev) (off : Nat) (st : Status) : RecordedGlb d (d.recordGlb off st) off st := by
  unfold RecordedGlb Dev.recordGlb
  by_cases hv : d.is F.GLB_CFGERR_VALID = true
  · have h : d.Only (d.set F.GLB_CFGERR_MULTI 1) [F.GLB_CFGERR_MULTI] := d.only_set _ _
    rw [if_pos hv, if_pos hv]
    exact ⟨h.mono (by simp [glbCfgerrFlds]), Dev.get_set_same .., h⟩
  · rw [if_neg hv, if_neg hv]
    refine ⟨?_, ?_, ?_, ?_⟩
    · exact (((d.only_set _ _).trans (Dev.only_set _ _ _)).trans (Dev.only_set _ _ _)).mono (by simp [glbCfgerrFlds])
    · exact ((Dev.get_set_ne _ _ (by decide)).trans (Dev.get_set_ne _ _ (by decide))).trans (Dev.get_set_same ..)
    · exact (Dev.get_set_ne _ _ (by decide)).trans (Dev.get_set_same ..)
    · rw [Dev.get_set_same]; exact Nat.mod_eq_of_lt (statusCode_lt st)

/-- A write that passes its checks is applied field by field, and its effect follows. -/
theorem Dev.regWrite_done {d : Dev} {sp : Space} {row : RegRow} {i : Nat} {w : Word} {checks : List (Bool × Status)} {eff : Dev → Dev}
    (hup : d.up = true)
    (h : firstByRank ((setsReserved row w, .eField) :: (d.changesLocked sp row i w, .eLocked) :: checks) = .done) :
    d.regWrite sp row i w checks eff = eff (d.writeRow sp row i w) := by
  simp only [Dev.regWrite, Dev.regsOpen, hup, h, Bool.not_true, Bool.false_eq_true, if_false]

/-- A write that fails a check is rejected with the first status in the order of R328. -/
theorem Dev.regWrite_rejected {d : Dev} {sp : Space} {row : RegRow} {i : Nat} {w : Word} {checks : List (Bool × Status)}
    {eff : Dev → Dev} {st : Status} (hup : d.up = true) (hst : st ≠ .done)
    (h : firstByRank ((setsReserved row w, .eField) :: (d.changesLocked sp row i w, .eLocked) :: checks) = st) :
    d.regWrite sp row i w checks eff = d.reject sp (row.base + row.stride * i) st := by
  simp only [Dev.regWrite, Dev.regsOpen, hup, h, Bool.not_true, Bool.false_eq_true, if_false]

/-! ### Fields apart, and walks over a list -/

/-- Fields of different registers have different keys. -/
theorem fldId_ne_of_key {f g : Fld} (hf : f.lo < 32) (hg : g.lo < 32) (h : f.key ≠ g.key) : fldId f ≠ fldId g := by
  unfold fldId; omega

/-- A walk over a list each step of which changes only its own fields changes only the fields of all its steps. -/
theorem Dev.only_foldl {β : Type} {step : Dev → β → Dev} {flds : β → List Fld}
    (h : ∀ (d : Dev) (b : β), d.Only (step d b) (flds b)) (l : List β) (d : Dev) : d.Only (l.foldl step d) (l.flatMap flds) := by
  induction l generalizing d with
  | nil => exact Dev.Only.refl _ _
  | cons b t ih => exact (h d b).trans (ih _)

/-! ### Reads of the registers that show captured words (R44, R381) -/

/-- A part of a register table that holds nothing at an offset is passed over. -/
theorem findRow_append {off : Nat} {l : List RegRow} (m : List RegRow) (h : findRow off l = none) :
    findRow off (l ++ m) = findRow off m := by
  induction l with
  | nil => rfl
  | cons row t ih =>
    simp only [findRow] at h
    split at h
    · simp at h
    · next he => simp only [List.cons_append, findRow, he, ih h]

theorem findRow_xtcounth : findRow 0x1C1C bar0Rows = some (R.SUP_XTCOUNTH, 0) := rfl

theorem findRow_timeh : findRow 0x10014 bar0Rows = some (R.ALM_TIMEH, 0) := by
  simp only [bar0Rows, List.append_assoc]
  rw [findRow_append _ (l := bar0Rows0) rfl, findRow_append _ (l := bar0Rows1) rfl, findRow_append _ (l := bar0Rows2) rfl,
    findRow_append _ (l := bar0Rows3) rfl]
  rfl

/-- SUP_XTCOUNTH reads as the word captured for the requester (R44). -/
theorem Dev.readBar0_xtcounth (d : Dev) (who : Nat) : d.readBar0 who 0x1C1C = mapGet 0 d.xt.cap who := by
  simp only [Dev.readBar0, findRow_xtcounth]
  rfl

/-- ALM_TIMEH reads as the word captured for the requester (R381). -/
theorem Dev.readBar0_timeh (d : Dev) (who : Nat) : d.readBar0 who 0x10014 = mapGet 0 d.xt.almCap who := by
  simp only [Dev.readBar0, findRow_timeh]
  rfl

/-! ### The captures (R44, R141, R381) -/

@[simp] theorem Dev.edgesTo_get (d : Dev) (c : Nat) (g : Fld) : (d.edgesTo c).get g = d.get g := rfl

/-- Edges up to a count not yet reached bring the count there; it never goes back. -/
theorem Dev.edgesTo_xt (d : Dev) {c : Nat} (hd : d.xt.count < 2 ^ 64) (hc : c < 2 ^ 64) :
    (d.edgesTo c).xt = { d.xt with count := max d.xt.count c } := by
  have h : (d.xt.count + (c - d.xt.count)) % 2 ^ 64 = max d.xt.count c := by omega
  simp only [Dev.edgesTo, Dev.edges, h]

/-- XTCOUNT_CAPTURE_READ advances the count and captures its upper word for the requester. -/
theorem Dev.xtRead_xt (d : Dev) (who : Nat) {c : Nat} (hd : d.xt.count < 2 ^ 64) (hc : c < 2 ^ 64) :
    (d.xtRead who c).xt = { d.xt with count := max d.xt.count c, cap := mapPut 0 d.xt.cap who (max d.xt.count c / 2 ^ 32) } := by
  have h := (d.accessBy who).edgesTo_xt (by simpa using hd) hc
  simp only [Dev.xtRead, Dev.emit_xt, Dev.modXt_xt, h, Dev.accessBy_xt]

/-- XTCOUNT_CAPTURE_READ answers the low word of the count it has brought about. -/
theorem Dev.xtRead_out (d : Dev) (who c : Nat) :
    (d.xtRead who c).out = ⟨.readData, who, [(d.xtRead who c).xt.count % 2 ^ 32], []⟩ :: d.out := by
  simp [Dev.xtRead, Dev.edgesTo]

@[simp] theorem Dev.xtRead_get (d : Dev) (who c : Nat) (g : Fld) : (d.xtRead who c).get g = d.get g := by simp [Dev.xtRead]

/-- ALM_TIME_CAPTURE_READ captures the upper word of Almanac time for the requester, and nothing else of the timebase changes. -/
@[simp] theorem Dev.almCapture_xt (d : Dev) (who : Nat) :
    (d.almCapture who).xt = { d.xt with almCap := mapPut 0 d.xt.almCap who (d.almTime / 2 ^ 32) } := rfl

@[simp] theorem Dev.almCapture_almTime (d : Dev) (who : Nat) : (d.almCapture who).almTime = d.almTime := d.accessBy_almTime who

@[simp] theorem Dev.almCapture_out (d : Dev) (who : Nat) :
    (d.almCapture who).out = ⟨.readData, who, [d.almTime % 2 ^ 32], []⟩ :: d.out := by simp [Dev.almCapture]

@[simp] theorem Dev.almCapture_get (d : Dev) (who : Nat) (g : Fld) : (d.almCapture who).get g = d.get g := d.accessBy_get who g

/-- GAUGE_CAPTURE_READ captures the upper bits of the gauge for the requester, and nothing else of the timebase changes. -/
@[simp] theorem Dev.gaugeRead_xt (d : Dev) (who : Nat) :
    (d.gaugeRead who).xt = { d.xt with gaugeCap := mapPut 0 d.xt.gaugeCap who (d.gaugeBits / 2 ^ 32) } := rfl

@[simp] theorem Dev.gaugeRead_pack (d : Dev) (who : Nat) : (d.gaugeRead who).pack = d.pack := d.accessBy_pack who

@[simp] theorem Dev.gaugeRead_out (d : Dev) (who : Nat) :
    (d.gaugeRead who).out = ⟨.readData, who, [d.gaugeBits % 2 ^ 32], []⟩ :: d.out := by simp [Dev.gaugeRead]

@[simp] theorem Dev.gaugeRead_get (d : Dev) (who : Nat) (g : Fld) : (d.gaugeRead who).get g = d.get g := d.accessBy_get who g

/-- Each of the three captures takes effect for its requester alone. -/
theorem countCapturesRule : CountCapturesRule := by
  intro s who hup
  refine ⟨fun c hcount => Ends.of_act hup ?_, Ends.of_act hup ?_, Ends.of_act hup ?_⟩
  · have hx := s.dev.xtRead_xt who.val hcount c.isLt
    refine ⟨by rw [hx], ?_, s.dev.xtRead_out who.val c.toNat, s.dev.xtRead_get who.val c.toNat, fun o ho => ?_⟩
    · rw [Dev.readBar0_xtcounth, hx, mapGet_put_same]
    · rw [hx, mapGet_put_ne _ _ ho.symm]
  · refine ⟨by simp, ?_, by simp, by simp, fun o ho => ?_⟩
    · rw [Dev.readBar0_timeh, Dev.almCapture_xt, mapGet_put_same]
    · rw [Dev.almCapture_xt, mapGet_put_ne _ _ ho.symm]
  · refine ⟨by simp, ?_, by simp, by simp, fun o ho => ?_⟩
    · rw [Dev.gaugeRead_xt, mapGet_put_same]
    · rw [Dev.gaugeRead_xt, mapGet_put_ne _ _ ho.symm]

/-- What a requester has not captured reads as 0. -/
theorem uncapturedReadsZeroRule : UncapturedReadsZeroRule := by
  intro d who
  refine ⟨d.readBar0_xtcounth who.val, fun hnone => ?_⟩
  rw [Dev.readBar0_xtcounth, mapGet, hnone, Option.getD_none]

/-- Settles O10: each capture is a write of the requester's own entry, which is what the upper word reads. -/
theorem countCaptures : Obligations.CountCaptures := ⟨countCapturesRule, uncapturedReadsZeroRule⟩

/-! ### SUP_XCLR (R57) -/

/-- The word sets a reserved bit of SUP_XCLR, one of bits 31:26. -/
theorem setsReserved_xclr (w : Word) : setsReserved R.SUP_XCLR w = decide (2 ^ 26 ≤ w.toNat) := by
  have hsum : (R.SUP_XCLR.fields.map fun f => wordFld w f * 2 ^ f.lo).foldl (· + ·) 0 = w.toNat % 2 ^ 26 := by
    simp [R.SUP_XCLR, wordFld, bits]
  rw [setsReserved, hsum]
  exact decide_eq_decide.mpr (by omega)

/-- The two counts of crossing `n`. -/
def xdropFlds (n : Nat) : List Fld := [F.SUP_XDROP_IN n, F.SUP_XDROP_OUT n]

/-- What a write of SUP_XCLR does for crossing `i`. -/
def Dev.xclrOne (w : Word) (d : Dev) (i : Nat) : Dev :=
  if bitOf w.toNat i then (d.set (F.SUP_XDROP_IN i) 0).set (F.SUP_XDROP_OUT i) 0 else d

/-- A write of SUP_XCLR that sets no reserved bit does this crossing by crossing. -/
theorem Dev.writeXclr_of_lt {d : Dev} {w : Word} (hup : d.up = true) (hw : w.toNat < 2 ^ 26) :
    d.writeXclr w = (List.range 26).foldl (Dev.xclrOne w) d := by
  have hr : setsReserved R.SUP_XCLR w = false := by rw [setsReserved_xclr]; exact decide_eq_false (by omega)
  have hwo : d.writeRow .bar0 R.SUP_XCLR 0 w = d := rfl
  rw [Dev.writeXclr, Dev.regWrite_done hup (by rw [hr]; rfl), hwo]
  rfl

/-- A write of SUP_XCLR that sets a reserved bit is recorded, and does nothing else. -/
theorem Dev.writeXclr_of_ge {d : Dev} {w : Word} (hup : d.up = true) (hw : 2 ^ 26 ≤ w.toNat) :
    d.writeXclr w = d.recordGlb 0x1C30 .eField := by
  have hr : setsReserved R.SUP_XCLR w = true := by rw [setsReserved_xclr]; exact decide_eq_true hw
  refine Dev.regWrite_rejected hup (st := .eField) (by decide) ?_
  rw [hr]
  rfl

theorem Dev.only_xclrOne (w : Word) (d : Dev) (i : Nat) : d.Only (d.xclrOne w i) (xdropFlds i) := by
  unfold Dev.xclrOne
  split_ifs
  · exact (d.only_set _ _).trans (Dev.only_set _ _ _)
  · exact Dev.Only.refl _ _

/-- Both counts of crossing `n` lie in its own register SUP_XDROPn. -/
theorem key_of_mem_xdropFlds {n : Nat} {f : Fld} (hf : f ∈ xdropFlds n) : f.key = 0x1C40 + 4 * n ∧ f.lo < 32 := by
  simp only [xdropFlds, List.mem_cons, List.not_mem_nil, or_false] at hf
  rcases hf with rfl | rfl <;> simp [F.SUP_XDROP_IN, F.SUP_XDROP_OUT]

theorem fldId_xdropFlds_ne {i n : Nat} {f g : Fld} (h : i ≠ n) (hf : f ∈ xdropFlds i) (hg : g ∈ xdropFlds n) : fldId f ≠ fldId g := by
  obtain ⟨hfk, hfl⟩ := key_of_mem_xdropFlds hf
  obtain ⟨hgk, hgl⟩ := key_of_mem_xdropFlds hg
  exact fldId_ne_of_key hfl hgl (by omega)

/-- Where the bit of a crossing is 1 its step clears both its counts. -/
theorem Dev.xclrOne_get_same {w : Word} {n : Nat} {g : Fld} (d : Dev) (hb : bitOf w.toNat n = true) (hg : g ∈ xdropFlds n) :
    (d.xclrOne w n).get g = 0 := by
  have hne : fldId (F.SUP_XDROP_OUT n) ≠ fldId (F.SUP_XDROP_IN n) := by simp only [fldId, F.SUP_XDROP_IN, F.SUP_XDROP_OUT]; omega
  simp only [xdropFlds, List.mem_cons, List.not_mem_nil, or_false] at hg
  simp only [Dev.xclrOne, hb, if_true]
  rcases hg with rfl | rfl
  · rw [Dev.get_set_ne _ _ hne, Dev.get_set_same, Nat.zero_mod]
  · rw [Dev.get_set_same, Nat.zero_mod]

/-- After the walk a count of crossing `n` is 0 where the walk has met `n` and its bit is 1, and as before otherwise. -/
theorem Dev.foldl_xclrOne_get (w : Word) {n : Nat} {g : Fld} (hg : g ∈ xdropFlds n) (l : List Nat) (d : Dev) :
    (l.foldl (Dev.xclrOne w) d).get g = if n ∈ l ∧ bitOf w.toNat n = true then 0 else d.get g := by
  induction l generalizing d with
  | nil => simp
  | cons i t ih =>
    rw [List.foldl_cons, ih]
    by_cases hi : i = n
    · subst hi
      by_cases hb : bitOf w.toNat i = true
      · simp [hb, d.xclrOne_get_same hb hg]
      · simp [hb, Dev.xclrOne]
    · have hkeep : (d.xclrOne w i).get g = d.get g :=
        (d.only_xclrOne w i).2 g fun f hf => fldId_xdropFlds_ne hi hf hg
      simp [hkeep, Ne.symm hi]

/-- Settles O9: the counts are cleared crossing by crossing, each step touching the two counts of its own crossing alone. -/
theorem xclrClears : Obligations.XclrClears := by
  intro s w hup
  refine ⟨fun hw => Ends.of_act hup ?_, fun hw => Ends.of_act hup ?_⟩
  · rw [Dev.writeXclr_of_lt hup hw]
    refine ⟨Dev.only_foldl (Dev.only_xclrOne w) _ _, fun n hn => ?_⟩
    have hget : ∀ g ∈ xdropFlds n,
        ((List.range 26).foldl (Dev.xclrOne w) s.dev).get g = if bitOf w.toNat n = true then 0 else s.dev.get g :=
      fun g hg => by simp [Dev.foldl_xclrOne_get w hg, hn]
    have hin := hget (F.SUP_XDROP_IN n) (by simp [xdropFlds])
    have hout := hget (F.SUP_XDROP_OUT n) (by simp [xdropFlds])
    exact ⟨fun hb => by simp [hin, hout, hb], fun hb => by simp [hin, hout, hb]⟩
  · rw [Dev.writeXclr_of_ge hup hw]
    exact recordedGlb_recordGlb _ _ _

end Sys2Proof.Machine

/-!
SUPPORT. What a write of a register gives its fields; then the write that enables Ration (chapter 06).
-/
namespace Sys2Proof.Machine

open Sys2Proof

/-! ### The fields of a row after a write (R7, R583) -/

/-- The field that a write of a row gives a value through this row of its table: none where it is RO or WO. -/
def writtenFlds (sp : Space) (row : RegRow) (i : Nat) (f : FldRow) : List Fld :=
  match f.acc with
  | .ro | .wo => []
  | .rw | .rwl | .w1c | .w1s => [rowFld sp row i f]

theorem Dev.only_writeFld (d : Dev) (sp : Space) (row : RegRow) (i : Nat) (w : Word) (f : FldRow) :
    d.Only (d.writeFld sp row i w f) (writtenFlds sp row i f) := by
  unfold Dev.writeFld writtenFlds
  cases f.acc with
  | ro | wo => exact Dev.Only.refl _ _
  | rw | rwl | w1c | w1s => exact d.only_set _ _

theorem Dev.only_writeRow (d : Dev) (sp : Space) (row : RegRow) (i : Nat) (w : Word) :
    d.Only (d.writeRow sp row i w) (row.fields.flatMap (writtenFlds sp row i)) :=
  Dev.only_foldl (fun d f => d.only_writeFld sp row i w f) _ _

/-- A field that is RW, or RWL, reads as the word gives it. -/
theorem Dev.writeFld_get_same {sp : Space} {row : RegRow} {i : Nat} {w : Word} {f : FldRow} (d : Dev)
    (h : f.acc = .rw ∨ f.acc = .rwl) : (d.writeFld sp row i w f).get (rowFld sp row i f) = wordFld w f := by
  have hset : d.writeFld sp row i w f = d.set (rowFld sp row i f) (wordFld w f) := by
    rcases h with h | h <;> simp [Dev.writeFld, h]
  rw [hset, Dev.get_set_same]
  exact Nat.mod_mod _ _

theorem Dev.writeFld_get_ne {sp : Space} {row : RegRow} {i : Nat} {w : Word} {f g : FldRow} (d : Dev)
    (h : f.lo ≠ g.lo) : (d.writeFld sp row i w f).get (rowFld sp row i g) = d.get (rowFld sp row i g) := by
  refine (d.only_writeFld sp row i w f).2 _ fun x hx => ?_
  have hxf : x = rowFld sp row i f := by
    unfold writtenFlds at hx
    split at hx <;> simp_all
  rw [hxf]
  simp only [fldId, rowFld]
  omega

/-- The walk over the fields leaves alone a field that it does not meet. -/
theorem Dev.foldl_writeFld_get_ne {sp : Space} {row : RegRow} {i : Nat} {w : Word} {g : FldRow} {l : List FldRow} (d : Dev)
    (h : ∀ f ∈ l, f.lo ≠ g.lo) :
    (l.foldl (fun d f => d.writeFld sp row i w f) d).get (rowFld sp row i g) = d.get (rowFld sp row i g) := by
  induction l generalizing d with
  | nil => rfl
  | cons f t ih =>
    rw [List.foldl_cons, ih _ fun x hx => h x (List.mem_cons_of_mem _ hx)]
    exact d.writeFld_get_ne (h f List.mem_cons_self)

/-- After a write of a row, a field of it that is RW, or RWL, reads as the word gives it. -/
theorem Dev.writeRow_get {sp : Space} {row : RegRow} {i : Nat} {w : Word} {g : FldRow} (d : Dev) (hg : g ∈ row.fields)
    (hapart : row.fields.Pairwise fun f g => g.lo ≠ f.lo) (hacc : g.acc = .rw ∨ g.acc = .rwl) :
    (d.writeRow sp row i w).get (rowFld sp row i g) = wordFld w g := by
  obtain ⟨pre, post, hl⟩ := List.append_of_mem hg
  rw [hl] at hapart
  have hpost : ∀ f ∈ post, f.lo ≠ g.lo := (List.pairwise_cons.mp (List.pairwise_append.mp hapart).2.1).1
  rw [Dev.writeRow, hl, List.foldl_append, List.foldl_cons, Dev.foldl_writeFld_get_ne _ hpost]
  exact Dev.writeFld_get_same _ hacc

/-! ### The word of RAT_ENABLE -/

theorem bitOf_eq_testBit (n i : Nat) : bitOf n i = n.testBit i := by
  rw [bitOf, Nat.testBit_eq_decide_div_mod_eq, beq_eq_decide]

theorem bits_one_eq (n i : Nat) : bits n i 1 = bitNat (bitOf n i) := by
  unfold bits bitOf bitNat
  grind

@[simp] theorem bitOf_or_one_zero (w : Word) : bitOf (w ||| 1).toNat 0 = true := by
  simp [bitOf_eq_testBit]

theorem bitOf_or_one (w : Word) {i : Nat} (hi : i ≠ 0) : bitOf (w ||| 1).toNat i = bitOf w.toNat i := by
  simp [bitOf_eq_testBit, Nat.testBit_or, Nat.testBit_one_eq_true_iff_self_eq_zero, hi]

/-- RAT_ENABLE gives PORT what its operand gives it. -/
theorem bits_port_or_one (w : Word) : bits (w ||| 1).toNat 4 1 = bits w.toNat 4 1 := by
  rw [bits_one_eq, bits_one_eq, bitOf_or_one w (by decide)]

/-! ### A write of RAT_CTRL that sets EN (R180, R583) -/

/-- A setting that EN asks for is missing (R180). -/
def Dev.enUnmet (d : Dev) : Bool :=
  !d.levelsRise || d.get F.RAT_STORE_CBULK == 0 || d.get F.RAT_RAIL_VFLOOR == 0 || d.get F.RAT_RPACK_RCFG == 0

theorem Dev.levelsRise_iff (d : Dev) :
    d.levelsRise = true ↔ ∀ i < 6, d.get (F.RAT_LVL_DRAW i) < d.get (F.RAT_LVL_DRAW (i + 1)) := by
  simp [Dev.levelsRise]

theorem Dev.enUnmet_iff (d : Dev) :
    d.enUnmet = true ↔ (∃ i < 6, d.get (F.RAT_LVL_DRAW (i + 1)) ≤ d.get (F.RAT_LVL_DRAW i)) ∨ d.get F.RAT_STORE_CBULK = 0 ∨
      d.get F.RAT_RAIL_VFLOOR = 0 ∨ d.get F.RAT_RPACK_RCFG = 0 := by
  have hrise : (!d.levelsRise) = true ↔ ∃ i < 6, d.get (F.RAT_LVL_DRAW (i + 1)) ≤ d.get (F.RAT_LVL_DRAW i) := by
    rw [Bool.not_eq_true', ← Bool.not_eq_true, d.levelsRise_iff]
    push Not
    rfl
  simp only [Dev.enUnmet, Bool.or_eq_true, hrise, beq_iff_eq, or_assoc]

/-- The settings that EN asks for are all there. -/
theorem Dev.enUnmet_eq_false {d : Dev} (hlvl : ∀ i < 6, d.get (F.RAT_LVL_DRAW i) < d.get (F.RAT_LVL_DRAW (i + 1)))
    (hbulk : d.get F.RAT_STORE_CBULK ≠ 0) (hfloor : d.get F.RAT_RAIL_VFLOOR ≠ 0) (hrcfg : d.get F.RAT_RPACK_RCFG ≠ 0) :
    d.enUnmet = false := by
  simp [Dev.enUnmet, d.levelsRise_iff.mpr hlvl, hbulk, hfloor, hrcfg]

/-- What CNTCLR does (Table 06.9). -/
def Dev.clearRatCounts (d : Dev) : Dev :=
  (((d.set F.RAT_CNT0_GRANTS 0).set F.RAT_CNT0_REFUSALS 0).set F.RAT_CNT1_ABORTS 0).set F.RAT_CNT1_PARERR 0

theorem Dev.only_clearRatCounts (d : Dev) (cntclr : Bool) :
    d.Only (if cntclr = true then d.clearRatCounts else d)
      [F.RAT_CNT0_GRANTS, F.RAT_CNT0_REFUSALS, F.RAT_CNT1_ABORTS, F.RAT_CNT1_PARERR] := by
  split_ifs
  · exact (((d.only_set _ _).trans (Dev.only_set _ _ _)).trans (Dev.only_set _ _ _)).trans (Dev.only_set _ _ _)
  · exact Dev.Only.refl _ _

/-- Ration as the word `w` starts it: the fields of RAT_CTRL, and EN risen. -/
def Dev.ratStarted (d : Dev) (w : Word) : Dev := (d.writeRow .bar0 R.RAT_CTRL 0 w).ratSwitch false true

section RatCtrlWrite

variable {d : Dev} {w : Word} (hup : d.up = true) (hres : setsReserved R.RAT_CTRL w = false)

include hup hres

/-- LIMHOLD 0 is rejected with E_RANGE, which stands before E_LOCKED and E_STATE in the order of R328. -/
theorem Dev.writeRatCtrl_limhold (hhold : bits w.toNat 16 8 = 0) : d.writeRatCtrl w = d.recordGlb 0x3C00 .eRange := by
  have hrank : ∀ locked unmet : Bool,
      firstByRank [(false, .eField), (locked, .eLocked), (unmet, .eState), (true, .eRange)] = .eRange := by decide
  unfold Dev.writeRatCtrl
  rw [Dev.regWrite_rejected (st := .eRange) hup (by decide)]
  · rfl
  · rw [hres, hhold]
    exact hrank _ _

variable (hlock : d.changesLocked .bar0 R.RAT_CTRL 0 w = false) (hhold : bits w.toNat 16 8 ≠ 0) (hoff : d.is F.RAT_CTRL_EN = false)
  (hen : bitOf w.toNat 0 = true)

include hlock hhold hoff hen

/-- Raising EN without the settings it asks for is rejected with E_STATE. -/
theorem Dev.writeRatCtrl_unmet (hunmet : d.enUnmet = true) : d.writeRatCtrl w = d.recordGlb 0x3C00 .eState := by
  unfold Dev.writeRatCtrl
  rw [Dev.regWrite_rejected (st := .eState) hup (by decide)]
  · rfl
  · rw [hres, hlock, hoff, hen, beq_eq_false_iff_ne.mpr hhold, show (_ || _ || _ || _) = true from hunmet]
    rfl

/-- Raising EN with the settings it asks for starts Ration, follows a PORT written anew and clears the counts where CNTCLR is 1. -/
theorem Dev.writeRatCtrl_starts (hmet : d.enUnmet = false) :
    d.writeRatCtrl w =
      let y := if bits w.toNat 4 1 = d.get F.RAT_CTRL_PORT then d.ratStarted w else (d.ratStarted w).ratRebind
      if bitOf w.toNat 1 = true then y.clearRatCounts else y := by
  unfold Dev.writeRatCtrl
  rw [Dev.regWrite_done hup]
  · simp only [hoff, hen]
    rfl
  · rw [hres, hlock, hoff, hen, beq_eq_false_iff_ne.mpr hhold, show (_ || _ || _ || _) = false from hmet]
    rfl

end RatCtrlWrite

/-! ### Ration as it starts (R163, R178, R179) -/

/-- Ration without tag and not ready, nothing holding LIMIT_N low after a trip, its words flowing. -/
def Dev.ratFresh (d : Dev) : Dev := { d with rat := { d.rat with tag := none, ready := false, hold := false, quiet := false } }

theorem Dev.Only.ratFresh {d e : Dev} {fs : List Fld} (h : d.Only e fs) : d.ratFresh.Only e.ratFresh fs := by
  obtain ⟨heq, hget⟩ := h
  exact ⟨by rw [heq]; rfl, hget⟩

theorem Dev.only_ratSwitch_rise (d : Dev) : d.ratFresh.Only (d.ratSwitch false true) [F.RAT_STAT_TAG, F.RAT_STAT_REASON] :=
  (d.only_set F.RAT_STAT_TAG 0).ratFresh.trans (Dev.only_set _ _ _)

theorem Dev.ratSwitch_rise_tag (d : Dev) : (d.ratSwitch false true).get F.RAT_STAT_TAG = 0 :=
  (Dev.get_set_ne _ _ (by decide)).trans (Dev.get_set_same ..)

/-- With EN at 1 the words of a Ration that is not ready carry FENCED or NOTREADY (Table 06.4). -/
theorem Dev.restReason_notReady {d : Dev} (hen : d.is F.RAT_CTRL_EN = true) (hready : d.rat.ready = false) :
    d.restReason = if d.ratFenced then 4 else 6 := by
  simp [Dev.restReason, hen, hready]

theorem Dev.ratSwitch_rise_reason {d : Dev} (hen : d.is F.RAT_CTRL_EN = true) :
    (d.ratSwitch false true).get F.RAT_STAT_REASON = if d.ratFenced then 4 else 6 := by
  have hen' : (d.set F.RAT_STAT_TAG 0).ratFresh.is F.RAT_CTRL_EN = true := by
    rw [← hen]; exact congrArg (· == 1) (d.get_set_ne 0 (by decide))
  have hreason : (d.set F.RAT_STAT_TAG 0).ratFresh.restReason = if d.ratFenced then 4 else 6 :=
    Dev.restReason_notReady hen' rfl
  calc (d.ratSwitch false true).get F.RAT_STAT_REASON
    _ = (d.set F.RAT_STAT_TAG 0).ratFresh.restReason % 2 ^ 4 := Dev.get_set_same ..
    _ = if d.ratFenced then 4 else 6 := by rw [hreason]; split_ifs <;> rfl

/-! ### RAT_CTRL as the word gives it -/

/-- The fields of RAT_CTRL that a write gives values: all but CNTCLR. -/
def ratCtrlFlds : List Fld := [F.RAT_CTRL_LOCK, F.RAT_CTRL_LIMHOLD, F.RAT_CTRL_LEANMAX, F.RAT_CTRL_PORT, F.RAT_CTRL_EN]

theorem Dev.only_writeRow_ratCtrl (d : Dev) (w : Word) : d.Only (d.writeRow .bar0 R.RAT_CTRL 0 w) ratCtrlFlds :=
  d.only_writeRow .bar0 R.RAT_CTRL 0 w

theorem ratCtrl_fields_apart : R.RAT_CTRL.fields.Pairwise fun f g => g.lo ≠ f.lo := by simp [R.RAT_CTRL]

theorem Dev.writeRow_ratCtrl_en (d : Dev) (w : Word) : (d.writeRow .bar0 R.RAT_CTRL 0 w).get F.RAT_CTRL_EN = bits w.toNat 0 1 :=
  d.writeRow_get (g := ⟨0, 1, .rw, fun _ => 0⟩) (by simp [R.RAT_CTRL]) ratCtrl_fields_apart (.inl rfl)

theorem Dev.writeRow_ratCtrl_port (d : Dev) (w : Word) : (d.writeRow .bar0 R.RAT_CTRL 0 w).get F.RAT_CTRL_PORT = bits w.toNat 4 1 :=
  d.writeRow_get (g := ⟨4, 1, .rwl, fun _ => 0⟩) (by simp [R.RAT_CTRL]) ratCtrl_fields_apart (.inr rfl)

theorem Dev.only_ratStarted (d : Dev) (w : Word) :
    d.ratFresh.Only (d.ratStarted w) (ratCtrlFlds ++ [F.RAT_STAT_TAG, F.RAT_STAT_REASON]) :=
  (d.only_writeRow_ratCtrl w).ratFresh.trans (Dev.only_ratSwitch_rise _)

/-- Starting Ration leaves RAT_CTRL as the word gives it. -/
theorem Dev.ratSwitch_rise_ratCtrl (d : Dev) {g : Fld} (hg : g ∈ ratCtrlFlds) : (d.ratSwitch false true).get g = d.get g := by
  refine d.only_ratSwitch_rise.2 g fun f hf => ?_
  revert f g
  decide

theorem Dev.ratStarted_port (d : Dev) (w : Word) : (d.ratStarted w).get F.RAT_CTRL_PORT = bits w.toNat 4 1 :=
  (Dev.ratSwitch_rise_ratCtrl _ (by decide)).trans (d.writeRow_ratCtrl_port w)

theorem Dev.writeRow_ratCtrl_en_one (d : Dev) {w : Word} (hen : bitOf w.toNat 0 = true) :
    (d.writeRow .bar0 R.RAT_CTRL 0 w).get F.RAT_CTRL_EN = 1 := by
  rw [d.writeRow_ratCtrl_en, bits_one_eq, hen]; rfl

theorem Dev.ratStarted_en (d : Dev) {w : Word} (hen : bitOf w.toNat 0 = true) : (d.ratStarted w).get F.RAT_CTRL_EN = 1 :=
  (Dev.ratSwitch_rise_ratCtrl _ (by decide)).trans (d.writeRow_ratCtrl_en_one hen)

theorem Dev.ratStarted_reason (d : Dev) {w : Word} (hen : bitOf w.toNat 0 = true) :
    (d.ratStarted w).get F.RAT_STAT_REASON = if d.ratFenced then 4 else 6 := by
  have hfence : (d.writeRow .bar0 R.RAT_CTRL 0 w).ratFenced = d.ratFenced := by rw [(d.only_writeRow_ratCtrl w).1]; rfl
  rw [← hfence]
  exact Dev.ratSwitch_rise_reason (beq_iff_eq.mpr (d.writeRow_ratCtrl_en_one hen))

/-- Settles O25: the checks of R180 in the order of R328, then what the rise of EN leaves of Ration. -/
theorem rationEnable : Obligations.RationEnable := by
  intro s w hup hres
  have hen := bitOf_or_one_zero w
  refine ⟨fun hhold => Ends.of_act hup ?_, fun hhold hlock hoff =>
    ⟨fun hunmet => Ends.of_act hup ?_, fun hlvl hbulk hfloor hrcfg => Ends.of_act hup ?_⟩⟩
  · rw [Dev.writeRatCtrl_limhold hup hres hhold]
    exact recordedGlb_recordGlb _ _ _
  · rw [Dev.writeRatCtrl_unmet hup hres hlock hhold hoff hen (s.dev.enUnmet_iff.mpr hunmet)]
    exact recordedGlb_recordGlb _ _ _
  · rw [Dev.writeRatCtrl_starts hup hres hlock hhold hoff hen (Dev.enUnmet_eq_false hlvl hbulk hfloor hrcfg),
      bits_port_or_one, bitOf_or_one w one_ne_zero]
    refine ⟨s.dev.ratStarted (w ||| 1), _, s.dev.ratStarted_en hen, ?_, s.dev.ratStarted_reason hen,
      Dev.ratSwitch_rise_tag _, (s.dev.only_ratStarted _).mono (by decide), rfl, fun hclr => ?_, ?_⟩
    · rw [s.dev.ratStarted_port, bits_port_or_one]
    · rw [hclr]; rfl
    · exact Dev.only_clearRatCounts _ _

end Sys2Proof.Machine

/-!
SUPPORT. What queueing event entries leaves owed; then a read-modify-write of an uncorrectable word (chapter 16).
-/
namespace Sys2Proof.Machine

open Sys2Proof

/-! ### What is owed stays owed while event entries are queued -/

@[simp] theorem Dev.injUse_lar (d : Dev) (k : Nat) : (d.injUse k).lar = d.lar := by
  unfold Dev.injUse
  split_ifs <;> rfl

@[simp] theorem Dev.injUse_ecc (d : Dev) (k : Nat) : (d.injUse k).ecc = d.ecc := by
  unfold Dev.injUse
  split_ifs <;> rfl

@[simp] theorem Dev.linkWrite_due (d : Dev) (c : Nat) : (d.linkWrite c).lar.due = d.lar.due := by
  unfold Dev.linkWrite
  simp only
  split_ifs <;> simp

theorem Dev.leakBank_due (d : Dev) (b : Nat) : d.lar.due <+: (d.leakBank b).lar.due := List.prefix_append _ _

theorem Dev.takeCell_due (d : Dev) (n : Nat) {c : Nat} {e : Dev} (h : d.takeCell n = some (c, e)) : d.lar.due <+: e.lar.due := by
  induction n generalizing d with
  | zero => simp [Dev.takeCell] at h
  | succ n ih =>
    simp only [Dev.takeCell] at h
    split_ifs at h
    split at h
    · simp at h
    · split at h
      · obtain ⟨-, rfl⟩ := (Prod.mk.injEq ..).mp (Option.some.inj h)
        rw [Dev.linkWrite_due]
        exact List.prefix_rfl
      · obtain ⟨-, rfl⟩ := (Prod.mk.injEq ..).mp (Option.some.inj h)
        simp only [Dev.linkWrite_due]
        exact List.prefix_append _ _
      · exact (d.leakBank_due _).trans (ih _ h)

theorem Dev.takeCells_due (d : Dev) (k : Nat) {l : List Nat} {e : Dev} (h : d.takeCells k = some (l, e)) :
    d.lar.due <+: e.lar.due := by
  induction k generalizing d l e with
  | zero =>
    obtain ⟨-, rfl⟩ := (Prod.mk.injEq ..).mp (Option.some.inj h)
    exact List.prefix_rfl
  | succ k ih =>
    simp only [Dev.takeCells] at h
    split at h
    · simp at h
    · next hc =>
      split at h
      · simp at h
      · next hl =>
        obtain ⟨-, rfl⟩ := (Prod.mk.injEq ..).mp (Option.some.inj h)
        exact (d.takeCell_due _ hc).trans (ih _ hl)

@[simp] theorem Dev.giveCells_due (d : Dev) (l : List Nat) : (d.giveCells l).lar.due = d.lar.due := by
  induction l generalizing d with
  | nil => rfl
  | cons c t ih => exact (ih _).trans (Dev.linkWrite_due _ _)

@[simp] theorem Dev.removeItem_due (d : Dev) (q j : Nat) : (d.removeItem q j).lar.due = d.lar.due := by
  unfold Dev.removeItem
  split
  · rfl
  · simp only
    split_ifs <;> exact Dev.giveCells_due _ _

theorem Dev.makeRoom_due (d : Dev) (q k prio n : Nat) {e : Dev} {m : Nat} (h : d.makeRoom q k prio n = some (e, m)) :
    e.lar.due = d.lar.due := by
  induction n generalizing d e m with
  | zero =>
    simp only [Dev.makeRoom] at h
    split_ifs at h
    obtain ⟨rfl, -⟩ := (Prod.mk.injEq ..).mp (Option.some.inj h)
    rfl
  | succ n ih =>
    simp only [Dev.makeRoom] at h
    split_ifs at h
    · obtain ⟨rfl, -⟩ := (Prod.mk.injEq ..).mp (Option.some.inj h)
      rfl
    · split at h
      · simp at h
      · split at h
        · simp at h
        · next hm =>
          obtain ⟨rfl, -⟩ := (Prod.mk.injEq ..).mp (Option.some.inj h)
          exact (ih _ hm).trans (d.removeItem_due q _)

theorem Dev.countLost_due (d : Dev) (q n : Nat) : d.lar.due <+: (d.countLost q n).lar.due := by
  simp only [Dev.countLost, Dev.countLostAs]
  split_ifs <;> simp [Dev.owe]

@[simp] theorem Dev.storeCells_lar (d : Dev) (l : List Nat) (len : Nat) : (d.storeCells l len).1.lar = d.lar := by
  induction l generalizing d len with
  | nil => rfl
  | cons c t ih => exact (ih _ _).trans (d.injUse_lar _)

theorem Dev.putItem_due (d : Dev) (q k : Nat) (data : List Byte) (prio stamp : Nat) (bad : Nat → Bool) {e : Dev}
    (h : d.putItem q k data prio stamp bad = some e) : d.lar.due <+: e.lar.due := by
  unfold Dev.putItem at h
  split at h
  · simp at h
  · next cs d2 ht =>
    obtain rfl := Option.some.inj h
    have hstore : (d2.storeCells cs data.length).1.lar.due = d2.lar.due := congrArg Larder.due (d2.storeCells_lar _ _)
    exact hstore.symm ▸ d.takeCells_due _ ht

theorem Dev.enqueueN_due (q : Nat) (data : List Byte) (prio stamp : Nat) (bad : Nat → Bool) (f : Nat) (d : Dev) (m : Nat) :
    d.lar.due <+: (Dev.enqueueN q data prio stamp bad f d m).1.lar.due := by
  induction f generalizing d m with
  | zero => exact d.countLost_due q (m + 1)
  | succ f ih =>
    simp only [Dev.enqueueN]
    split
    · exact d.countLost_due q (m + 1)
    · next d1 n hm =>
      rw [← d.makeRoom_due _ _ _ _ hm]
      split
      · exact (d1.leakBank_due _).trans (ih _ _)
      · split
        · exact d1.countLost_due q _
        · next hp => exact (d1.putItem_due _ _ _ _ _ _ hp).trans (Dev.countLost_due _ q _)

theorem Dev.notify_due (d : Dev) (t code inst arg count : Nat) : d.lar.due <+: (d.notify t code inst arg count).lar.due := by
  unfold Dev.notify
  split_ifs
  · exact List.prefix_rfl
  · exact List.prefix_rfl
  · exact Dev.enqueueN_due ..

theorem Dev.notifyAll_due (d : Dev) (ts : List Nat) (code inst arg count : Nat) :
    d.lar.due <+: (d.notifyAll ts code inst arg count).lar.due := by
  induction ts generalizing d with
  | nil => exact List.prefix_rfl
  | cons t l ih => exact (d.notify_due t _ _ _ _).trans (ih _)

theorem Dev.raise_due (d : Dev) (int : Fld) (code : Nat) (ts : List Nat) (inst arg count : Nat) :
    d.lar.due <+: (d.raise int code ts inst arg count).lar.due := (d.set int 1).notifyAll_due ..

/-! ### Fields that queueing event entries leaves alone -/

/-- A field is plain by its place: queue registers stand at offsets 4 and 8 of every 16 bytes, their counts at bits 0 and 31. -/
theorem plainFld_of_fldId {g : Fld} (hlost : fldId g % 512 ≠ 256) (hsat : fldId g % 512 ≠ 159)
    (h : ∀ f ∈ [F.LAR_LEAK_COUNT, F.ECC_INJ_COUNT, F.ECC_INJ_ARM], fldId f ≠ fldId g) : PlainFld g := by
  refine ⟨fun q => ⟨?_, ?_⟩, h _ (by simp), h _ (by simp), h _ (by simp)⟩
  · simp only [fldId, F.QUE_W2_LOST] at hlost ⊢; omega
  · simp only [fldId, F.QUE_W1_LOSTSAT] at hsat ⊢; omega

/-- The fields of ECC_UEREC and ECC_UEADDR, MULTI first. -/
def ueFlds : List Fld :=
  [F.ECC_UEREC_MULTI, F.ECC_UEREC_VALID, F.ECC_UEREC_REQ, F.ECC_UEREC_CLASS, F.ECC_UEREC_MEM, F.ECC_UEADDR_ADDR]

theorem plainFld_of_mem_ueFlds {g : Fld} (hg : g ∈ ueFlds) : PlainFld g := by
  refine plainFld_of_fldId ?_ ?_ ?_ <;> revert g <;> decide

/-- From `d` to `e` an uncorrectable read has been recorded in ECC_UEREC: the first one whole, a later one as MULTI alone (R9, R466). -/
def Dev.UeRecorded (d e : Dev) (cls mem req addr : Nat) : Prop :=
  (d.is F.ECC_UEREC_VALID = false → e.get F.ECC_UEREC_VALID = 1 ∧ e.get F.ECC_UEREC_REQ = req ∧ e.get F.ECC_UEREC_CLASS = cls ∧
    e.get F.ECC_UEREC_MEM = mem ∧ e.get F.ECC_UEADDR_ADDR = addr) ∧
  (d.is F.ECC_UEREC_VALID = true → e.get F.ECC_UEREC_MULTI = 1 ∧ ∀ f ∈ [F.ECC_UEREC_VALID, F.ECC_UEREC_REQ, F.ECC_UEREC_CLASS,
    F.ECC_UEREC_MEM, F.ECC_UEADDR_ADDR], e.get f = d.get f)

theorem Dev.UeRecorded.congr {d e x : Dev} {cls mem req addr : Nat} (h : d.UeRecorded e cls mem req addr)
    (hx : ∀ f ∈ ueFlds, x.get f = e.get f) : d.UeRecorded x cls mem req addr := by
  simp only [ueFlds, List.forall_mem_cons] at hx
  obtain ⟨hmulti, hvalid, hreq, hcls, hmem, haddr, -⟩ := hx
  simpa [Dev.UeRecorded, hmulti, hvalid, hreq, hcls, hmem, haddr] using h

theorem Dev.ueRecorded_ueRecord (d : Dev) (cls mem req addr : Nat) :
    d.UeRecorded (d.ueRecord cls mem req addr) (cls % 2 ^ 2) (mem % 2 ^ 4) (req % 2 ^ 8) (addr % 2 ^ 22) := by
  unfold Dev.UeRecorded Dev.ueRecord
  by_cases hv : d.is F.ECC_UEREC_VALID = true
  · simp only [hv, if_true]
    refine ⟨nofun, fun _ => ⟨Dev.get_set_same .., fun f hf => Dev.get_set_ne _ _ ?_⟩⟩
    revert f
    decide
  · simp only [hv, Bool.false_eq_true, if_false, false_imp_iff, and_true]
    simp (disch := decide) only [Dev.get_set_ne, Dev.get_set_same]
    exact fun _ => ⟨rfl, rfl, rfl, rfl, rfl⟩

theorem Dev.only_ueRecord (d : Dev) (cls mem req addr : Nat) : d.Only (d.ueRecord cls mem req addr) ueFlds := by
  unfold Dev.ueRecord
  split_ifs
  · exact (d.only_set _ _).mono (by simp [ueFlds])
  · exact (((((d.only_set _ _).trans (Dev.only_set _ _ _)).trans (Dev.only_set _ _ _)).trans (Dev.only_set _ _ _)).trans
      (Dev.only_set _ _ _)).mono (by simp [ueFlds])

@[simp] theorem Dev.ueRecord_out (d : Dev) (cls mem req addr : Nat) : (d.ueRecord cls mem req addr).out = d.out := by
  rw [(d.only_ueRecord cls mem req addr).1]

@[simp] theorem Dev.ueRecord_ecc (d : Dev) (cls mem req addr : Nat) : (d.ueRecord cls mem req addr).ecc = d.ecc := by
  rw [(d.only_ueRecord cls mem req addr).1]

/-! ### A word of steward SRAM, endpoint RAM or the partition -/

@[simp] theorem Dev.memSet_get (d : Dev) (m w : Nat) (x : EccWord) (g : Fld) : (d.memSet m w x).get g = d.get g := rfl

@[simp] theorem Dev.memSet_out (d : Dev) (m w : Nat) (x : EccWord) : (d.memSet m w x).out = d.out := rfl

@[simp] theorem Dev.memSet_lar (d : Dev) (m w : Nat) (x : EccWord) : (d.memSet m w x).lar = d.lar := rfl

@[simp] theorem Dev.memSet_spacing (d : Dev) (m w : Nat) (x : EccWord) : (d.memSet m w x).ecc.spacing = d.ecc.spacing := by
  unfold Dev.memSet
  split_ifs <;> rfl

/-- A word reads as what was stored in it. -/
@[simp] theorem Dev.memWord_memSet_same (d : Dev) (m w : Nat) (x : EccWord) : (d.memSet m w x).memWord m w = x := by
  by_cases h1 : m = 1
  · simp [Dev.memWord, Dev.mem, Dev.memSet, h1]
  · by_cases h2 : m = 2 <;> simp [Dev.memWord, Dev.mem, Dev.memSet, h1, h2]

/-- A whole word is stored with check bits that fit while no injection is armed (R467). -/
theorem Dev.memMerge_whole (d : Dev) {m w v : Nat} (harm : d.is F.ECC_INJ_ARM = false) (hheld : d.heldAt m = none) :
    (d.memMerge m w 0 8 v).memWord m w = ⟨v % 2 ^ 64, 0⟩ := by
  have hyield : d.yieldHeld m w = d := by simp [Dev.yieldHeld, hheld]
  have hinj : d.injects (d.injTarget m w) 1 = 0 := by simp [Dev.injects, harm]
  simp [Dev.memMerge, Dev.memWrite, Dev.memPut, hyield, hinj]

/-! ### Raising an event -/

/-- The interrupt bit of an event that has been raised is set. -/
theorem Dev.raise_get_int (d : Dev) {int : Fld} (code : Nat) (ts : List Nat) (inst arg count : Nat) (hint : PlainFld int)
    (ht : ∀ t ∈ ts, t < 512) : (d.raise int code ts inst arg count).get int = 1 % 2 ^ int.w :=
  ((Dev.told_notifyAll _ ts _ _ _ _ ht).2 int hint (by simp)).trans (Dev.get_set_same ..)

/-- The one recipient of an ECC event is T000. -/
theorem t000_lt : ∀ t ∈ [0], t < 512 := by simp

@[simp] theorem Dev.raise_t000_out (d : Dev) (int : Fld) (code inst arg count : Nat) :
    (d.raise int code [0] inst arg count).out = d.out := by
  rw [(d.told_raise int code [0] inst arg count t000_lt).1]

/-! ### An uncorrectable read of steward SRAM or endpoint RAM (R466) -/

/-- Recorded and counted, source 50 owed: all of a UE read of memory `m` but its event. -/
def Dev.ramUeCounted (d : Dev) (m req w : Nat) : Dev :=
  ((d.ueRecord 0 m req (8 * w)).bump F.ECC_UECNT_UE).oweFault 0x244 50

def Dev.ramUe (d : Dev) (m req w : Nat) : Dev := (d.ramUeCounted m req w).raise F.ECC_INT_UE 0x1504 [0] 0 0 0

theorem Dev.memClass_ue_ram (d : Dev) {m syn : Nat} (w req : Nat) (hm : m ≠ 3) (h : eccClass syn = 3) :
    d.memClass m w syn req = d.ramUe m req w := by
  simp only [Dev.memClass, h, hm, if_false]
  rfl

theorem Dev.ramUe_out (d : Dev) (m req w : Nat) : (d.ramUe m req w).out = d.out := by
  simp [Dev.ramUe, Dev.ramUeCounted, Dev.oweFault]

theorem Dev.ramUe_get (d : Dev) (m req w : Nat) {g : Fld} (hg : g ∈ F.ECC_UECNT_UE :: ueFlds) :
    (d.ramUe m req w).get g = (d.ramUeCounted m req w).get g := by
  refine (Dev.told_raise _ _ _ _ _ _ _ t000_lt).2 g (plainFld_of_fldId ?_ ?_ ?_) ?_ <;> revert g <;> decide

theorem Dev.ramUe_recorded (d : Dev) (m req w : Nat) :
    d.UeRecorded (d.ramUe m req w) 0 (m % 2 ^ 4) (req % 2 ^ 8) (8 * w % 2 ^ 22) := by
  refine (d.ueRecorded_ueRecord 0 m req (8 * w)).congr fun f hf => ?_
  refine (d.ramUe_get m req w (List.mem_cons_of_mem _ hf)).trans (Dev.bump_get_ne _ ?_)
  revert f
  decide

/-- The read is counted in ECC_UECNT and raises ECC_UE. -/
def Dev.RamUeTold (d e : Dev) : Prop :=
  e.get F.ECC_UECNT_UE = satInc 0xFFFF (d.get F.ECC_UECNT_UE) % 0x10000 ∧ e.get F.ECC_INT_UE = 1

theorem Dev.ramUe_told (d : Dev) (m req w : Nat) : d.RamUeTold (d.ramUe m req w) := by
  constructor
  · have hkeep : (d.ueRecord 0 m req (8 * w)).get F.ECC_UECNT_UE = d.get F.ECC_UECNT_UE := (d.only_ueRecord ..).2 _ (by decide)
    calc (d.ramUe m req w).get F.ECC_UECNT_UE
      _ = (d.ramUeCounted m req w).get F.ECC_UECNT_UE := d.ramUe_get m req w List.mem_cons_self
      _ = satInc 0xFFFF ((d.ueRecord 0 m req (8 * w)).get F.ECC_UECNT_UE) % 0x10000 := Dev.get_set_same ..
      _ = _ := by rw [hkeep]
  · exact Dev.raise_get_int _ _ _ _ _ _ (plainFld_of_fldId (by decide) (by decide) (by decide)) t000_lt

/-! ### An uncorrectable read of a Larder cell (R466) -/

/-- Recorded and counted, source 49 owed: all of an uncorrectable cell read but its notice. -/
def Dev.larUeCounted (d : Dev) (cls req c w : Nat) : Dev :=
  ((d.ueRecord cls 3 req (64 * c + 8 * w)).bump (F.ECC_LBCNT_UE (c / 4096))).oweFault (0x230 + c / 4096) 49

/-- The notice of bank `b` goes out at once where no spacing runs and is gathered where one does. -/
def Dev.larUePaced (d : Dev) (b : Nat) : Dev :=
  if mapGet 0 d.ecc.spacing b = 0 then
    let x := d.raise F.ECC_INT_LARUE 0x1501 [0] b 0 (d.get (F.ECC_LBCNT_UE b))
    { x with ecc := { x.ecc with spacing := mapPut 0 x.ecc.spacing b 1 } }
  else { d with ecc := { d.ecc with spacing := mapPut 0 d.ecc.spacing b 2 } }

theorem Dev.larUe_eq (d : Dev) (cls req c w : Nat) : d.larUe cls req c w = (d.larUeCounted cls req c w).larUePaced (c / 4096) := rfl

theorem Dev.memClass_ue_part (d : Dev) {syn : Nat} (w : Nat) (h : eccClass syn = 3) :
    d.memClass 3 w syn 2 = d.larUe 0 2 (d.lar.partBase + w / 8) (w % 8) := by
  simp [Dev.memClass, h]

theorem Dev.larUePaced_get (d : Dev) (b : Nat) {g : Fld} (hp : PlainFld g) (hg : fldId F.ECC_INT_LARUE ≠ fldId g) :
    (d.larUePaced b).get g = d.get g := by
  unfold Dev.larUePaced
  split_ifs
  · exact (d.told_raise _ _ _ _ _ _ t000_lt).2 g hp (by simpa using hg)
  · rfl

theorem Dev.larUePaced_out (d : Dev) (b : Nat) : (d.larUePaced b).out = d.out := by
  unfold Dev.larUePaced
  split_ifs <;> simp

theorem Dev.larUePaced_due (d : Dev) (b : Nat) : d.lar.due <+: (d.larUePaced b).lar.due := by
  unfold Dev.larUePaced
  split_ifs
  · exact d.raise_due ..
  · exact List.prefix_rfl

theorem Dev.larUePaced_idle (d : Dev) {b : Nat} (h : mapGet 0 d.ecc.spacing b = 0) :
    (d.larUePaced b).get F.ECC_INT_LARUE = 1 ∧ mapGet 0 (d.larUePaced b).ecc.spacing b = 1 := by
  simp only [Dev.larUePaced, h, if_true, mapGet_put_same, and_true]
  exact d.raise_get_int _ _ _ _ _ (plainFld_of_fldId (by decide) (by decide) (by decide)) t000_lt

theorem Dev.larUePaced_running (d : Dev) {b : Nat} (h : mapGet 0 d.ecc.spacing b ≠ 0) :
    mapGet 0 (d.larUePaced b).ecc.spacing b = 2 := by
  simp only [Dev.larUePaced, h, if_false, mapGet_put_same]

theorem Dev.larUeCounted_out (d : Dev) (cls req c w : Nat) : (d.larUeCounted cls req c w).out = d.out := by
  simp [Dev.larUeCounted, Dev.oweFault]

theorem Dev.larUeCounted_ecc (d : Dev) (cls req c w : Nat) : (d.larUeCounted cls req c w).ecc = d.ecc := by
  simp [Dev.larUeCounted, Dev.oweFault]

theorem plainFld_lbcntUe (b : Nat) : PlainFld (F.ECC_LBCNT_UE b) := by
  refine plainFld_of_fldId ?_ ?_ fun f hf => ?_
  · simp only [fldId, F.ECC_LBCNT_UE]; omega
  · simp only [fldId, F.ECC_LBCNT_UE]; omega
  · simp only [List.mem_cons, List.not_mem_nil, or_false] at hf
    rcases hf with rfl | rfl | rfl <;>
      simp only [fldId, F.ECC_LBCNT_UE, F.LAR_LEAK_COUNT, F.ECC_INJ_COUNT, F.ECC_INJ_ARM] <;> omega

/-- The counts of the sixteen banks stand before the record. -/
theorem fldId_lbcntUe_lt {b : Nat} (hb : b < 16) : fldId (F.ECC_LBCNT_UE b) < fldId F.ECC_UEREC_REQ := by
  simp only [fldId, F.ECC_LBCNT_UE, F.ECC_UEREC_REQ]; omega

theorem fldId_ueFlds_ge {f : Fld} (hf : f ∈ ueFlds) : fldId F.ECC_UEREC_REQ ≤ fldId f := by
  revert f; decide

theorem Dev.larUe_recorded (d : Dev) (cls req w : Nat) {c : Nat} (hb : c / 4096 < 16) :
    d.UeRecorded (d.larUe cls req c w) (cls % 2 ^ 2) 3 (req % 2 ^ 8) ((64 * c + 8 * w) % 2 ^ 22) := by
  refine (d.ueRecorded_ueRecord cls 3 req (64 * c + 8 * w)).congr fun f hf => ?_
  have hcount : fldId (F.ECC_LBCNT_UE (c / 4096)) ≠ fldId f := ((fldId_lbcntUe_lt hb).trans_le (fldId_ueFlds_ge hf)).ne
  have hint : fldId F.ECC_INT_LARUE ≠ fldId f := (lt_of_lt_of_le (by decide) (fldId_ueFlds_ge hf)).ne
  exact (Dev.larUePaced_get _ _ (plainFld_of_mem_ueFlds hf) hint).trans (Dev.bump_get_ne _ hcount)

/-- The read is counted for bank `b`, source 49 is owed, and the notice of the bank is paced. -/
def Dev.LarUeTold (d e : Dev) (b : Nat) : Prop :=
  e.get (F.ECC_LBCNT_UE b) = satInc 0xFFFF (d.get (F.ECC_LBCNT_UE b)) % 0x10000 ∧ .fault (0x230 + b) 49 ∈ e.lar.due ∧
    (mapGet 0 d.ecc.spacing b = 0 → e.get F.ECC_INT_LARUE = 1 ∧ mapGet 0 e.ecc.spacing b = 1) ∧
    (mapGet 0 d.ecc.spacing b ≠ 0 → mapGet 0 e.ecc.spacing b = 2)

theorem Dev.larUe_told (d : Dev) (cls req w : Nat) {c : Nat} (hb : c / 4096 < 16) :
    d.LarUeTold (d.larUe cls req c w) (c / 4096) := by
  have hecc := d.larUeCounted_ecc cls req c w
  refine ⟨?_, ?_, fun h => Dev.larUePaced_idle _ (hecc ▸ h), fun h => Dev.larUePaced_running _ (hecc ▸ h)⟩
  · have hkeep : (d.ueRecord cls 3 req (64 * c + 8 * w)).get (F.ECC_LBCNT_UE (c / 4096)) = d.get (F.ECC_LBCNT_UE (c / 4096)) :=
      (d.only_ueRecord ..).2 _ fun f hf => ((fldId_lbcntUe_lt hb).trans_le (fldId_ueFlds_ge hf)).ne'
    have hint : fldId F.ECC_INT_LARUE ≠ fldId (F.ECC_LBCNT_UE (c / 4096)) := by
      simp only [fldId, F.ECC_INT_LARUE, F.ECC_LBCNT_UE]; omega
    calc (d.larUe cls req c w).get (F.ECC_LBCNT_UE (c / 4096))
      _ = (d.larUeCounted cls req c w).get (F.ECC_LBCNT_UE (c / 4096)) := Dev.larUePaced_get _ _ (plainFld_lbcntUe _) hint
      _ = satInc 0xFFFF ((d.ueRecord cls 3 req (64 * c + 8 * w)).get (F.ECC_LBCNT_UE (c / 4096))) % 0x10000 := Dev.get_set_same ..
      _ = _ := by rw [hkeep]
  · exact (Dev.larUePaced_due _ _).subset (List.mem_append_right _ (List.mem_singleton_self _))

/-! ### A read-modify-write of an uncorrectable word (R459) -/

theorem eccClass_uncorrectable {syn : Nat} (h : 2 ≤ eccClass syn) : eccClass syn = 2 ∨ eccClass syn = 3 := by
  unfold eccClass at h ⊢
  split_ifs at h ⊢ <;> simp_all

theorem Dev.memRmw_wipe (d : Dev) {m w : Nat} (b n v : Nat) (h : eccClass (d.memWord m w).syn = 2) :
    d.memRmw m w b n v = d.memSet m w ⟨mergeBytes (d.memWord m w).data b n v, (d.memWord m w).syn⟩ := by
  simp only [Dev.memRmw, h]

theorem Dev.memRmw_ue (d : Dev) {m w : Nat} (b n v : Nat) (h : eccClass (d.memWord m w).syn = 3) :
    d.memRmw m w b n v = (d.memClass m w (d.memWord m w).syn 2).memSet m w
      ⟨mergeBytes (d.memWord m w).data b n v, (d.memWord m w).syn⟩ := by
  simp only [Dev.memRmw, h]

theorem Dev.memClass_ue_out (d : Dev) {m syn : Nat} (w : Nat) (h : eccClass syn = 3) : (d.memClass m w syn 2).out = d.out := by
  by_cases hm : m = 3
  · rw [hm, d.memClass_ue_part w h, Dev.larUe_eq, Dev.larUePaced_out, Dev.larUeCounted_out]
  · rw [d.memClass_ue_ram w 2 hm h, Dev.ramUe_out]

theorem Dev.UeRecorded.memSet {d e : Dev} {cls mem req addr : Nat} (h : d.UeRecorded e cls mem req addr) (m w : Nat) (x : EccWord) :
    d.UeRecorded (e.memSet m w x) cls mem req addr := h.congr fun _ _ => rfl

theorem Dev.RamUeTold.memSet {d e : Dev} (h : d.RamUeTold e) (m w : Nat) (x : EccWord) : d.RamUeTold (e.memSet m w x) := h

theorem Dev.LarUeTold.memSet {d e : Dev} {b : Nat} (h : d.LarUeTold e b) (m w : Nat) (x : EccWord) :
    d.LarUeTold (e.memSet m w x) b := by
  simpa only [Dev.LarUeTold, Dev.memSet_get, Dev.memSet_lar, Dev.memSet_spacing] using h

/-- What O52 says of one read-modify-write (R459), in the terms above. -/
def RmwKeepsClassAt (d : Dev) (m w b n v : Nat) : Prop :=
  let old := d.memWord m w
  let e := d.memRmw m w b n v
  (2 ≤ eccClass old.syn → e.memWord m w = ⟨mergeBytes old.data b n v, old.syn⟩ ∧
    eccClass (e.memWord m w).syn = eccClass old.syn ∧ e.out = d.out) ∧
  (eccClass old.syn = 2 → e = d.memSet m w ⟨mergeBytes old.data b n v, old.syn⟩) ∧
  (eccClass old.syn = 3 →
    d.UeRecorded e 0 m 2 ((if m = 3 then 64 * (d.lar.partBase + w / 8) + 8 * (w % 8) else 8 * w) % 2 ^ 22) ∧
    (m ≠ 3 → d.RamUeTold e) ∧ (m = 3 → d.partBank w < 16 → d.LarUeTold e (d.partBank w))) ∧
  (d.is F.ECC_INJ_ARM = false → d.heldAt m = none → (d.memMerge m w 0 8 v).memWord m w = ⟨v % 2 ^ 64, 0⟩)

theorem rmwKeepsClass_iff : Obligations.RmwKeepsClass ↔
    ∀ (d : Dev) (m w b n v : Nat), m = 1 ∨ m = 2 ∨ m = 3 → RmwKeepsClassAt d m w b n v := by
  constructor
  · intro h d m w b n v hm
    obtain ⟨hkeep, hwipe, hue, hwhole⟩ := h d m w b n v hm _ rfl
    refine ⟨hkeep, hwipe, fun hcls => ?_, hwhole⟩
    obtain ⟨hfirst, hlater, hram, hpart⟩ := hue hcls
    exact ⟨⟨hfirst, hlater⟩, hram, fun h3 hb => hpart h3 _ rfl hb⟩
  · rintro h d m w b n v hm old rfl
    obtain ⟨hkeep, hwipe, hue, hwhole⟩ := h d m w b n v hm
    refine ⟨hkeep, hwipe, fun hcls => ?_, hwhole⟩
    obtain ⟨⟨hfirst, hlater⟩, hram, hpart⟩ := hue hcls
    refine ⟨hfirst, hlater, hram, ?_⟩
    rintro h3 bank rfl hb
    exact hpart h3 hb

/-- All of it holds of steward SRAM, endpoint RAM and every partition word that lies in one of the pool's sixteen banks. -/
theorem rmwKeepsClassAt_of_partBank_lt (d : Dev) (m w b n v : Nat) (hm : m = 1 ∨ m = 2 ∨ m = 3) (hb : m = 3 → d.partBank w < 16) :
    RmwKeepsClassAt d m w b n v := by
  refine ⟨fun h => ?_, d.memRmw_wipe b n v, fun h => ?_, d.memMerge_whole⟩
  · rcases eccClass_uncorrectable h with h | h
    · rw [d.memRmw_wipe b n v h]; simp
    · rw [d.memRmw_ue b n v h]; simp [d.memClass_ue_out w h]
  · rw [d.memRmw_ue b n v h]
    by_cases h3 : m = 3
    · subst h3
      rw [d.memClass_ue_part w h]
      exact ⟨(d.larUe_recorded 0 2 _ (hb rfl)).memSet .., fun hne => absurd rfl hne,
        fun _ hbank => (d.larUe_told 0 2 _ hbank).memSet ..⟩
    · have hrec := d.ramUe_recorded m 2 w
      rw [Nat.mod_eq_of_lt (by omega : m < 2 ^ 4)] at hrec
      rw [d.memClass_ue_ram w 2 h3 h, if_neg h3]
      exact ⟨hrec.memSet .., fun _ => (d.ramUe_told m 2 w).memSet .., fun h => absurd h h3⟩

/-! ### A count beyond the pool's last bank -/

/-- A device whose partition begins at cell 0 and whose word 524,288, the first past the pool's 65,536 cells, reads as UE. The notice of
that word's bank is spaced already. -/
def ueBeyondPool : Dev := { ecc := { part := [(524288, ⟨0, 5⟩)], spacing := [(16, 1)] } }

/-- REQ is recorded as 2, and the UE count of the word's bank, a 17th, is kept in the same bits and goes from 2 to 3. -/
theorem ueBeyondPool_memRmw_req : (ueBeyondPool.memRmw 3 524288 0 1 0).get F.ECC_UEREC_REQ = 3 := by decide

theorem not_rmwKeepsClassAt_ueBeyondPool : ¬ RmwKeepsClassAt ueBeyondPool 3 524288 0 1 0 := by
  rintro ⟨-, -, hue, -⟩
  obtain ⟨⟨hfirst, -⟩, -⟩ := hue (by decide)
  obtain ⟨-, hreq, -⟩ := hfirst (by decide)
  rw [ueBeyondPool_memRmw_req] at hreq
  exact absurd hreq (by decide)

/-- Refutes O52: its clause for the first UE read bounds no bank, and past the last one the count of the bank overwrites REQ. -/
theorem not_rmwKeepsClass : ¬ Obligations.RmwKeepsClass := fun h =>
  not_rmwKeepsClassAt_ueBeyondPool (rmwKeepsClass_iff.mp h _ _ _ _ _ _ (.inr (.inr rfl)))

end Sys2Proof.Machine

/-!
SUPPORT. What holds between commands: how a command's end shows it and an edge keeps it; then the block as a whole (chapter 00).
-/
namespace Sys2Proof.Machine

open Sys2Proof

/-! ### What is shown between commands -/

/-- What `Dev.Level` says of registers, switches and the account: all but the wake of DOZE. -/
def Dev.Shown (d : Dev) : Prop :=
  d.lar.due = [] ∧ d.get F.SUP_STAT_INPUT = bitNat d.inputHolds ∧ d.get F.SUP_STAT_LOWPACK = bitNat d.lowpack ∧
    (d.coreOn = true → d.get F.RAT_STAT_LEAN = bitNat d.leanMode ∧ d.get F.RAT_STAT_INONLY = bitNat d.inputOnly ∧
      d.get F.RAT_STAT_STKONLY = bitNat d.anyOpen) ∧
    d.pathLevel = d.pack

theorem bitNat_lt (b : Bool) : bitNat b < 2 := by cases b <;> decide

theorem Dev.setB_get_same (d : Dev) {f : Fld} (b : Bool) (h : f.w = 1) : (d.setB f b).get f = bitNat b := by
  rw [Dev.setB, Dev.get_set_same, h]; exact Nat.mod_eq_of_lt (bitNat_lt b)

/-- The condition of stack-only mode hangs on the cell registers alone. -/
theorem Dev.anyOpen_congr {d e : Dev} (hn : d.get F.CEL_CFG_NCELL = e.get F.CEL_CFG_NCELL)
    (hs : ∀ k, d.get (F.CEL_CELL_STATE k) = e.get (F.CEL_CELL_STATE k)) : d.anyOpen = e.anyOpen := by
  simp only [Dev.anyOpen, Dev.nCells, Dev.cellState, hn, hs]

/-- A mode bit of RAT_STAT. -/
def modeFlds : List Fld := [F.RAT_STAT_LEAN, F.RAT_STAT_INONLY, F.RAT_STAT_STKONLY]

theorem Dev.only_ratModes (d : Dev) : d.Only d.ratModes modeFlds := by
  unfold Dev.ratModes
  split_ifs
  · exact ((d.only_setB _ _).trans (Dev.only_setB _ _ _)).trans (Dev.only_setB _ _ _)
  · exact Dev.Only.refl _ _

theorem fldId_mode_ne_cell (k : Nat) : ∀ f ∈ modeFlds, fldId f ≠ fldId (F.CEL_CELL_STATE k) := by
  simp only [modeFlds, List.forall_mem_cons]
  simp only [fldId, F.RAT_STAT_LEAN, F.RAT_STAT_INONLY, F.RAT_STAT_STKONLY, F.CEL_CELL_STATE]
  refine ⟨?_, ?_, ?_, by simp⟩ <;> omega

/-- Showing the modes changes none of them. -/
theorem Dev.ratModes_modes (d : Dev) : d.ratModes.leanMode = d.leanMode ∧ d.ratModes.inputOnly = d.inputOnly ∧ d.ratModes.anyOpen = d.anyOpen := by
  have h := d.only_ratModes.2
  refine ⟨?_, ?_, Dev.anyOpen_congr (h _ (by decide)) fun k => h _ (fldId_mode_ne_cell k)⟩
  · simp only [Dev.leanMode, Dev.is]; rw [h _ (by decide)]
  · simp only [Dev.inputOnly, Dev.is]; rw [h _ (by decide)]

theorem Dev.ratModes_coreOn (d : Dev) : d.ratModes.coreOn = d.coreOn := by
  rw [d.only_ratModes.1]; rfl

theorem Dev.ratModes_shows (d : Dev) (h : d.coreOn = true) : d.ratModes.get F.RAT_STAT_LEAN = bitNat d.leanMode ∧
    d.ratModes.get F.RAT_STAT_INONLY = bitNat d.inputOnly ∧ d.ratModes.get F.RAT_STAT_STKONLY = bitNat d.anyOpen := by
  simp only [Dev.ratModes, h, if_true]
  simp (disch := decide) only [Dev.setB_get_same, Dev.setB_get_ne, and_self]

theorem Dev.shown_iff_ratModes (d : Dev) : d.ratModes = d ↔ (d.coreOn = true → d.get F.RAT_STAT_LEAN = bitNat d.leanMode ∧
    d.get F.RAT_STAT_INONLY = bitNat d.inputOnly ∧ d.get F.RAT_STAT_STKONLY = bitNat d.anyOpen) := by
  constructor
  · intro h hc
    have hs := d.ratModes_shows hc
    rwa [h] at hs
  · intro h
    by_cases hc : d.coreOn = true
    · obtain ⟨hl, hi, hs⟩ := h hc
      exact d.ratModes_id hl hi hs
    · simp [Dev.ratModes, hc]

theorem Dev.level_iff (d : Dev) : d.Level ↔ d.Shown ∧ (d.stewardWake = true → d.pow.state ≠ .doze) := by
  unfold Dev.Level Dev.Shown
  rw [d.shown_iff_ratModes]
  simp only [and_assoc]

/-- Leaving DOZE changes nothing of what is shown. -/
theorem Dev.Shown.rouse {d : Dev} (h : d.Shown) : d.rouse.Shown := by
  obtain ⟨hdue, hin, hlow, hmode, hpath⟩ := h
  refine ⟨?_, ?_, ?_, ?_, ?_⟩
  · rw [Dev.rouse_eq]; exact hdue
  · rw [Dev.rouse_eq]; exact hin
  · rw [Dev.rouse_eq]; exact hlow
  · rw [Dev.rouse_coreOn, Dev.rouse_eq]; exact hmode
  · rw [Dev.rouse_pathLevel, hpath, Dev.rouse_eq]

/-- Once what wakes the steward has ended DOZE, what is shown is all that holds between commands. -/
theorem Dev.Shown.level_wakeSteward {d : Dev} (h : d.Shown) : d.wakeSteward.Level := by
  refine d.wakeSteward.level_iff.mpr ⟨?_, d.wakeSteward_awake⟩
  unfold Dev.wakeSteward
  split_ifs
  · exact h.rouse
  · exact h

/-! ### The end of a command -/

@[simp] theorem Dev.ratModes_lar (d : Dev) : d.ratModes.lar = d.lar := by rw [d.only_ratModes.1]

@[simp] theorem Dev.ratModes_pd (d : Dev) : d.ratModes.pd = d.pd := by rw [d.only_ratModes.1]

theorem Dev.ratModes_inputHolds (d : Dev) : d.ratModes.inputHolds = d.inputHolds := by
  have h := d.only_ratModes.2
  refine Dev.inputHolds_congr d.ratModes_pd (fun g hg => h g ?_) fun p => ⟨h _ ?_, h _ ?_, h _ ?_⟩
  · revert g; decide
  all_goals
    simp only [modeFlds, List.forall_mem_cons]
    simp only [fldId, F.RAT_STAT_LEAN, F.RAT_STAT_INONLY, F.RAT_STAT_STKONLY, F.PD_STAT_TCSTATE, F.PD_STAT_FENCED, F.PD_STAT_CONTRACT]
    refine ⟨?_, ?_, ?_, by simp⟩ <;> omega

theorem Dev.ratModes_lowpack (d : Dev) : d.ratModes.lowpack = d.lowpack := by
  have h := d.only_ratModes.2
  simp only [Dev.lowpack, Dev.is]
  rw [h F.CEL_STAT_PRESENT (by decide), h F.SUP_STAT_INPUT (by decide), h F.CEL_STAT_LOWEST (by decide), h F.SUP_PACKCFG_CUT (by decide)]

/-- SUP_STAT.LOWPACK is not among what decides it. -/
theorem Dev.lowpack_setB_lowpack (d : Dev) (b : Bool) : (d.setB F.SUP_STAT_LOWPACK b).lowpack = d.lowpack := by
  simp only [Dev.lowpack, Dev.is]
  simp (disch := decide) only [Dev.setB_get_ne]

/-- INPUT and LOWPACK as their conditions stand. -/
def Dev.statShown (d : Dev) : Dev :=
  let d1 := d.setB F.SUP_STAT_INPUT d.inputHolds
  d1.setB F.SUP_STAT_LOWPACK d1.lowpack

theorem Dev.statShown_input (d : Dev) : d.statShown.get F.SUP_STAT_INPUT = bitNat d.statShown.inputHolds := by
  have hin : d.statShown.inputHolds = d.inputHolds :=
    (Dev.inputHolds_set_stat _ _ _ rfl (by decide)).trans (d.inputHolds_set_stat _ _ rfl (by decide))
  rw [hin, Dev.statShown, Dev.setB_get_ne _ _ (by decide), Dev.setB_get_same _ _ rfl]

theorem Dev.statShown_lowpack (d : Dev) : d.statShown.get F.SUP_STAT_LOWPACK = bitNat d.statShown.lowpack := by
  rw [Dev.statShown, Dev.lowpack_setB_lowpack, Dev.setB_get_same _ _ rfl]

/-- The modes and the power path as their rules hold them. -/
def Dev.pathShown (d : Dev) : Dev := { d.ratModes with pack := d.ratModes.pathLevel }

theorem Dev.pathShown_shown {d : Dev} (hdue : d.lar.due = []) (hin : d.get F.SUP_STAT_INPUT = bitNat d.inputHolds)
    (hlow : d.get F.SUP_STAT_LOWPACK = bitNat d.lowpack) : d.pathShown.Shown := by
  have hget := d.only_ratModes.2
  refine ⟨(congrArg Larder.due d.ratModes_lar).trans hdue, ?_, ?_, fun hc => ?_, rfl⟩
  · exact ((hget _ (by decide)).trans hin).trans (congrArg bitNat d.ratModes_inputHolds.symm)
  · exact ((hget _ (by decide)).trans hlow).trans (congrArg bitNat d.ratModes_lowpack.symm)
  · obtain ⟨hlean, honly, hopen⟩ := d.ratModes_modes
    obtain ⟨a, b, c⟩ := d.ratModes_shows (d.ratModes_coreOn.symm.trans hc)
    exact ⟨a.trans (congrArg bitNat hlean.symm), b.trans (congrArg bitNat honly.symm), c.trans (congrArg bitNat hopen.symm)⟩

theorem Dev.statShown_lar (d : Dev) : d.statShown.lar = d.lar := rfl

theorem Dev.levels_eq (d : Dev) : d.levels = d.statShown.pathShown.wakeSteward := rfl

theorem Dev.levels_level {d : Dev} (h : d.lar.due = []) : d.levels.Level := by
  rw [Dev.levels_eq]
  exact (Dev.pathShown_shown (d.statShown_lar ▸ h) d.statShown_input d.statShown_lowpack).level_wakeSteward

/-- After every command what holds between commands holds. -/
theorem Dev.settle_level (d : Dev) : d.settle.Level := by
  rw [Dev.settle]
  exact Dev.levels_level (Dev.settleN_due _ 4)

@[simp] theorem Dev.settle_due (d : Dev) : d.settle.lar.due = [] := d.settle_level.1

/-! ### An edge of the 24 MHz count -/

theorem Dev.feedCrossing_eq (d : Dev) (n : Nat) : d.feedCrossing n = { d with cross := (d.feedCrossing n).cross } := rfl

theorem Dev.crossAll_eq (d : Dev) : d.crossAll = { d with cross := d.crossAll.cross } := by
  unfold Dev.crossAll
  generalize List.range 26 = l
  induction l generalizing d with
  | nil => rfl
  | cons n t ih => rw [List.foldl_cons, ih]; rfl

/-- Counting an edge and passing items on changes nothing of what is shown. -/
theorem Dev.Shown.edge {d : Dev} (h : d.Shown) : (d.edges 1).crossAll.Shown := by
  rw [Dev.crossAll_eq]; exact h

theorem Dev.tick_level {d : Dev} (h : d.Level) : d.tick.Level := by
  unfold Dev.tick
  split_ifs
  · exact (d.level_iff.mp h).1.edge.level_wakeSteward
  · exact h

/-! ### The block as a whole -/

/-- A command either leaves the state as it is, which only one that waits for the core can do, or ends with its device accounted for. -/
theorem exec_cases (c : Instr) (s : State) : exec c s = .next s ∨ ∃ d : Dev, exec c s = .next { s with dev := d.settle } := by
  rcases exec_shape c s with ⟨f, h⟩ | ⟨f, h⟩
  · by_cases hup : s.dev.up = true
    · exact .inr ⟨_, h.trans (act_up f hup)⟩
    · exact .inl (h.trans (act_down f (Bool.eq_false_iff.mpr hup)))
  · exact .inr ⟨_, h.trans (always_next s f)⟩

/-- Settles O5: a command's end shows every level anew, and an edge changes nothing that they hang on. -/
theorem stepKeepsLevel : Obligations.StepKeepsLevel := by
  intro s t h hstep
  unfold step at hstep
  split at hstep
  · obtain rfl := (Host.Outcome.next.inj hstep).symm
    exact Dev.tick_level h
  · next c rest _ =>
    rcases exec_cases c { s with pending := rest } with hc | ⟨d, hc⟩
    · rw [hc] at hstep
      obtain rfl := (Host.Outcome.next.inj hstep).symm
      exact h
    · rw [hc] at hstep
      obtain rfl := (Host.Outcome.next.inj hstep).symm
      exact d.settle_level

/-- Settles O3, by the two shapes of a meaning. -/
theorem everyCommandCompletes : Obligations.EveryCommandCompletes := by
  intro c s h
  rcases exec_cases c s with hc | ⟨d, hc⟩
  · exact ⟨s, hc, rfl, h⟩
  · exact ⟨_, hc, rfl, d.settle_due⟩

/-- Settles O4: every other command waits for the core. -/
theorem nothingBeforeRelease : Obligations.NothingBeforeRelease := by
  intro c s h
  cases c
  case por | supplyReset | dormantSupplyReset | resetNAssert | resetReleaseHoldEnd | railsGood | railGoodTimeout | railFailure | checkerSelfTest
      | startupWipeDone | wake | secondsTick | dischargeHoldEnd | inputPresent | supWarn | supWarnClear | supPhyHold | supPhyRelease | xt24Lost
      | xt24Back | xt24Qualified | xt24QualifyTimeout | xt32Lost | xt32Back | paceWindowEnd | pcieConfigRequest => trivial
  all_goals exact act_down _ h

/-- Settles O1: what a step does with a queue that is not empty. -/
theorem stepRunsFront : Obligations.StepRunsFront := fun _ _ => rfl

/-- Settles O6: the state at reset, evaluated. -/
theorem resetIsLevel : Obligations.ResetIsLevel := by
  refine ⟨?_, rfl⟩
  unfold Dev.Level
  decide

/-! ### With nothing waiting -/

/-- A drained direction holds no whole item. -/
theorem CrossDir.ready_drain (x : CrossDir) (n : Nat) (slack : Fin 3) : (x.drain n).ready n slack = false := by
  by_cases h : pingPong n = true
  · cases x.wnext <;> simp [CrossDir.drain, CrossDir.ready, CrossDir.bank, Bank.ofReader, h]
  · simp [CrossDir.drain, CrossDir.ready, h]

@[simp] theorem Dev.crossing_setCrossing_same (d : Dev) (n : Nat) (x : Crossing) : (d.setCrossing n x).crossing n = x :=
  mapGet_put_same ..

theorem Dev.crossing_setCrossing_ne (d : Dev) {m n : Nat} (x : Crossing) (h : m ≠ n) :
    (d.setCrossing m x).crossing n = d.crossing n := mapGet_put_ne _ _ h

/-- Writing out leaves every inbound buffer alone. -/
theorem Dev.feedCrossing_inn (d : Dev) (m n : Nat) : ((d.feedCrossing m).crossing n).inn = (d.crossing n).inn := by
  unfold Dev.feedCrossing
  by_cases h : m = n
  · subst h; simp
  · exact congrArg Crossing.inn (d.crossing_setCrossing_ne _ h)

theorem Dev.drainCrossing_inn (d : Dev) (m n : Nat) : ((d.drainCrossing m).crossing n).inn =
    if m = n then (d.crossing n).inn.drain n else (d.crossing n).inn := by
  unfold Dev.drainCrossing
  split_ifs with h
  · subst h; simp
  · exact congrArg Crossing.inn (d.crossing_setCrossing_ne _ h)

theorem Dev.crossAll_inn_ready (d : Dev) {n : Nat} (hn : n < 26) (slack : Fin 3) : (d.crossAll.crossing n).inn.ready n slack = false := by
  have key : ∀ (l : List Nat) (d : Dev), n ∈ l ∨ (d.crossing n).inn.ready n slack = false →
      ((l.foldl (fun d n => (d.drainCrossing n).feedCrossing n) d).crossing n).inn.ready n slack = false := by
    intro l
    induction l with
    | nil => exact fun d h => h.resolve_left (by simp)
    | cons m t ih =>
      intro d h
      refine ih _ ?_
      rw [Dev.feedCrossing_inn, Dev.drainCrossing_inn]
      split_ifs with hm
      · exact .inr (CrossDir.ready_drain ..)
      · exact h.imp_left fun hmem => (List.mem_cons.mp hmem).resolve_left (Ne.symm hm)
  exact key _ d (.inl (List.mem_range.mpr hn))

theorem Dev.wakeSteward_pow (d : Dev) : d.wakeSteward.pow =
    if d.wakeSteward.stewardWake = true ∧ d.pow.state = .doze then { d.pow with state := .run } else d.pow := by
  have hw : d.wakeSteward.stewardWake = d.stewardWake := by
    unfold Dev.wakeSteward
    split_ifs
    · exact d.rouse_stewardWake
    · rfl
  rw [hw]
  unfold Dev.wakeSteward Dev.rouse
  grind

theorem Dev.wakeSteward_eq (d : Dev) : d.wakeSteward = { d with pow := d.wakeSteward.pow } := by
  unfold Dev.wakeSteward
  split_ifs
  · exact d.rouse_eq
  · rfl

/-- An edge changes the two counts, the crossings' buffers and, where the steward wakes, the power state. -/
theorem Dev.tick_eq {d : Dev} (h : d.coreOn = true) : d.tick = { d.edges 1 with cross := d.tick.cross, pow := d.tick.pow } := by
  have htick : d.tick = (d.edges 1).crossAll.wakeSteward := if_pos h
  have hwake := (d.edges 1).crossAll.wakeSteward_eq
  have hcross := (d.edges 1).crossAll_eq
  rw [← htick] at hwake
  generalize d.tick = t at *
  generalize (d.edges 1).crossAll = x at *
  generalize d.edges 1 = z at *
  have hc : t.cross = x.cross := by rw [hwake]
  rw [hc]
  exact hwake.trans (congrArg (fun y : Dev => { y with pow := t.pow }) hcross)

theorem Dev.tick_pow {d : Dev} (h : d.coreOn = true) : d.tick.pow =
    if d.tick.stewardWake = true ∧ d.pow.state = .doze then { d.pow with state := .run } else d.pow := by
  have htick : d.tick = (d.edges 1).crossAll.wakeSteward := if_pos h
  have hpow : (d.edges 1).crossAll.pow = d.pow := by rw [Dev.crossAll_eq]; rfl
  rw [htick, Dev.wakeSteward_pow, hpow]

theorem Dev.tick_inn_ready {d : Dev} (h : d.coreOn = true) {n : Nat} (hn : n < 26) (slack : Fin 3) :
    (d.tick.crossing n).inn.ready n slack = false := by
  have htick : d.tick = (d.edges 1).crossAll.wakeSteward := if_pos h
  have hcross : d.tick.cross = (d.edges 1).crossAll.cross := by
    rw [htick, Dev.wakeSteward_eq]
  rw [Dev.crossing, hcross]
  exact Dev.crossAll_inn_ready _ hn slack

theorem emptyQueueTicksRule : EmptyQueueTicksRule := by
  intro s hs
  have hstep : step s = .next { s with dev := s.dev.tick } := by rw [step, hs]
  refine ⟨fun hoff => ?_, fun hon => ⟨s.dev.tick, hstep, ?_, ?_, ?_, fun n hn slack => Dev.tick_inn_ready hon hn slack, Dev.tick_pow hon⟩⟩
  · rw [hstep, Dev.tick, if_neg (by simp [hoff])]
  · rw [Dev.tick_eq hon]; rfl
  · rw [Dev.tick_eq hon]; rfl
  · rw [Dev.tick_eq hon]; simp [Dev.edges]

/-- Settles O2: the parts of an edge, and the empty table of words. -/
theorem idle : Obligations.Idle := ⟨emptyQueueTicksRule, fun _ _ _ => ⟨rfl, rfl⟩⟩

end Sys2Proof.Machine

/-!
SUPPORT. REGISTER_WRITE and CFGERR_CLEAR; then the host of T000 and the PCI Express link (chapters 01 and 11).
-/
namespace Sys2Proof.Machine

open Sys2Proof

/-! ### Accesses that are answered (R61, R331, R343) -/

@[simp] theorem Dev.accessBy_up (d : Dev) (who : Nat) : (d.accessBy who).up = d.up := by
  unfold Dev.accessBy; split_ifs
  · exact d.rouse_up
  · rfl

@[simp] theorem Dev.pageRouse_up (d : Dev) (t : Nat) : (d.pageRouse t).up = d.up := by
  unfold Dev.pageRouse; split_ifs
  · rfl
  · exact d.rouse_up

@[simp] theorem Dev.accessBy_is (d : Dev) (who : Nat) (g : Fld) : (d.accessBy who).is g = d.is g := by
  simp [Dev.is]

/-- A page that is there and not being reset answers. -/
theorem Dev.onPage_answers {d : Dev} {t : Nat} (off : Nat) (k : Dev → Dev) (hex : d.tenantExists t = true) (hflr : d.flrBusy t = false) :
    d.onPage t off k = k (d.pageRouse t) := by simp [Dev.onPage, hex, hflr]

theorem pageOf_val (t : Fin 256) : pageOf t.val = .page t := by simp [pageOf]

/-! ### A rejection recorded in a page (R9, R355) -/

theorem tenCfgerr_apart (t : Nat) : (tenCfgerrFlds t).Pairwise fun f g => fldId f ≠ fldId g := by
  simp [tenCfgerrFlds, fldId, F.TEN_CFGERR_VALID, F.TEN_CFGERR_MULTI, F.TEN_CFGERR_OFFSET, F.TEN_CFGERR_CODE]

/-- The record of a tenant's rejection, before its fault event. -/
theorem recordedTen_recordTen (d : Dev) (t off : Nat) (st : Status) : RecordedTen d ((d.recordTen t off st).fault t 34) t off st := by
  refine ⟨_, rfl, ?_⟩
  unfold Dev.recordTen
  obtain ⟨hv, hm, ho, -⟩ := by simpa only [tenCfgerrFlds, List.pairwise_cons, List.forall_mem_cons] using tenCfgerr_apart t
  by_cases hvalid : d.is (F.TEN_CFGERR_VALID t) = true
  · have h := d.only_set (F.TEN_CFGERR_MULTI t) 1
    rw [if_pos hvalid, if_pos hvalid]
    exact ⟨h.mono (by simp [tenCfgerrFlds]), Dev.get_set_same .., h⟩
  · rw [if_neg hvalid, if_neg hvalid]
    refine ⟨?_, ?_, ?_, ?_⟩
    · exact (((d.only_set _ _).trans (Dev.only_set _ _ _)).trans (Dev.only_set _ _ _)).mono (by simp [tenCfgerrFlds])
    · exact ((Dev.get_set_ne _ _ hv.2.2.1.symm).trans (Dev.get_set_ne _ _ hv.2.1.symm)).trans (Dev.get_set_same ..)
    · exact (Dev.get_set_ne _ _ ho.1.symm).trans (Dev.get_set_same ..)
    · rw [Dev.get_set_same]; exact Nat.mod_eq_of_lt (statusCode_lt st)

/-! ### REGISTER_WRITE (R6 to R9) -/

theorem Dev.bar0Word_ruled {d : Dev} {who off i : Nat} {w : Word} {row : RegRow} (hup : d.up = true)
    (hrow : findRow off bar0Rows = some (row, i)) (hro : allRo row = false) (hown : d.ownWriter who row.base i w = none) :
    let r := d.writeRule row.base i w
    let st := firstByRank ((setsReserved row w, .eField) :: (d.changesLocked .bar0 row i w, .eLocked) :: r.1)
    if st = .done then d.bar0Word who off w = r.2 (d.writeRow .bar0 row i w)
    else RecordedGlb d (d.bar0Word who off w) (row.base + row.stride * i) st := by
  have h : d.bar0Word who off w = d.regWrite .bar0 row i w (d.writeRule row.base i w).1 (d.writeRule row.base i w).2 := by
    simp only [Dev.bar0Word, hrow, hro, hown, Bool.false_eq_true, if_false]
  intro r st
  split_ifs with hst
  · exact h.trans (Dev.regWrite_done hup hst)
  · rw [h, Dev.regWrite_rejected hup hst rfl]
    exact recordedGlb_recordGlb _ _ _

theorem registerWriteBar0Rule : RegisterWriteBar0Rule := by
  intro s who off n w hup hreach d
  refine Ends.of_act hup ?_
  have hdup : d.up = true := (s.dev.accessBy_up who.val).trans hup
  have hwrite : s.dev.registerWrite who.val none off.toNat n.val w =
      if n.val ≠ 4 ∨ off.toNat % 4 ≠ 0 then d.reject .bar0 off.toNat .eAlign else d.bar0Word who.val off.toNat w := by
    simp only [Dev.registerWrite, hreach, Bool.not_true, Bool.false_eq_true, if_false]
    rfl
  rw [hwrite]
  split_ifs with halign
  · exact recordedGlb_recordGlb _ _ _
  · cases hrow : findRow off.toNat bar0Rows with
    | none => simp only [Dev.bar0Word, hrow]; exact recordedGlb_recordGlb _ _ _
    | some p =>
      obtain ⟨row, i⟩ := p
      by_cases hro : allRo row = true
      · simp only [Dev.bar0Word, hrow, hro, if_true]
      · cases hown : d.ownWriter who.val row.base i w with
        | some x => simp only [Dev.bar0Word, hrow, hro, hown, Bool.false_eq_true, if_false]
        | none =>
          have := Dev.bar0Word_ruled hdup hrow (Bool.eq_false_iff.mpr hro) hown
          simpa only [hro, hown, Bool.false_eq_true, if_false] using this

theorem Dev.pageWord_ruled {d : Dev} {t : Fin 256} {off i : Nat} {w : Word} {row : RegRow} (hup : d.up = true)
    (hex : d.tenantExists t.val = true) (hflr : d.flrBusy t.val = false)
    (hrow : findRow off pageRows = some (row, i)) (hro : allRo row = false) (hown : d.ownPageWriter t.val row.base i w = none) :
    let x := d.pageRouse t.val
    let st := firstByRank ((setsReserved row w, .eField) :: (x.changesLocked (.page t) row i w, .eLocked) :: x.pageRule t.val row.base i w)
    if st = .done then d.pageWord t.val off w = x.writeRow (.page t) row i w
    else RecordedTen x (d.pageWord t.val off w) t.val (row.base + row.stride * i) st := by
  intro x st
  have hxup : x.up = true := (d.pageRouse_up t.val).trans hup
  have h : d.pageWord t.val off w = x.regWrite (.page t) row i w (x.pageRule t.val row.base i w) id := by
    simp only [Dev.pageWord, hrow, hro, hown, Bool.false_eq_true, if_false, Dev.onPage_answers _ _ hex hflr, pageOf_val]
    rfl
  split_ifs with hst
  · exact h.trans (Dev.regWrite_done hxup hst)
  · rw [h, Dev.regWrite_rejected hxup hst rfl]
    exact recordedTen_recordTen _ _ _ _

theorem registerWritePageRule : RegisterWritePageRule := by
  intro s who t off n w hup hreach hex hflr d x
  refine Ends.of_act hup ?_
  have hup' : (s.dev.accessBy who.val).up = true := (s.dev.accessBy_up who.val).trans hup
  have hex' : (s.dev.accessBy who.val).tenantExists t.val = true := (s.dev.accessBy_is who.val _).trans hex
  have hflr' : (s.dev.accessBy who.val).flrBusy t.val = false := (s.dev.accessBy_is who.val _).trans hflr
  have hwrite : s.dev.registerWrite who.val (some t) off.toNat n.val w =
      if n.val ≠ 4 ∨ x % 4 ≠ 0 then d.reject (.page t) x .eAlign else (s.dev.accessBy who.val).pageWord t.val x w := by
    simp only [Dev.registerWrite, hreach, Bool.not_true, Bool.false_eq_true, if_false, Dev.onPage_answers _ _ hex' hflr']
    rfl
  rw [hwrite]
  split_ifs with halign
  · exact recordedTen_recordTen _ _ _ _
  · cases hrow : findRow x pageRows with
    | none =>
      simp only [Dev.pageWord, hrow, Dev.onPage_answers _ _ hex' hflr', pageOf_val]
      exact recordedTen_recordTen _ _ _ _
    | some p =>
      obtain ⟨row, i⟩ := p
      by_cases hro : allRo row = true
      · simp only [Dev.pageWord, hrow, hro, if_true]
      · cases hown : (s.dev.accessBy who.val).ownPageWriter t.val row.base i w with
        | some y => simp only [Dev.pageWord, hrow, hro, hown, Bool.false_eq_true, if_false]
        | none =>
          have := Dev.pageWord_ruled hup' hex' hflr' hrow (Bool.eq_false_iff.mpr hro) hown
          simpa only [hro, hown, Bool.false_eq_true, if_false] using this

/-! ### CFGERR_CLEAR (R31) -/

/-- The word with VALID set: VALID itself is 1, and the rest is as the operand gives it. -/
theorem withBit_valid (w : Word) : bitOf (withBit w 31).toNat 31 = true ∧ (withBit w 31).toNat % 2 ^ 31 = w.toNat % 2 ^ 31 := by
  have hw : (withBit w 31).toNat = w.toNat ||| 2 ^ 31 := by simp [withBit]
  rw [hw]
  constructor
  · simp only [bitOf_eq_testBit, Nat.testBit_or, Nat.testBit_two_pow_self, Bool.or_true]
  · apply Nat.eq_of_testBit_eq
    intro i
    by_cases hi : i < 31
    · simp only [Nat.testBit_mod_two_pow, hi, decide_true, Bool.true_and, Nat.testBit_or, Nat.testBit_two_pow]
      simp [show 31 ≠ i by omega]
    · simp only [Nat.testBit_mod_two_pow, hi, decide_false, Bool.false_and]

/-- A word that clears a record sets VALID alone. -/
theorem withBit_valid_alone {w : Word} (h : w.toNat % 2 ^ 31 = 0) : withBit w 31 = 0x80000000#32 := by
  obtain ⟨hv, hrest⟩ := withBit_valid w
  have hlt := (withBit w 31).isLt
  apply BitVec.eq_of_toNat_eq
  simp only [bitOf, beq_iff_eq] at hv
  simp only [BitVec.toNat_ofNat]
  omega

/-- Gives 0 to every field listed. -/
def Dev.zeroed (d : Dev) (fs : List Fld) : Dev := fs.foldl (fun d f => d.set f 0) d

theorem Dev.only_zeroed (d : Dev) (fs : List Fld) : d.Only (d.zeroed fs) fs := by
  have h := Dev.only_foldl (fun d f => d.only_set f 0) fs d
  simpa [Dev.zeroed] using h

theorem Dev.zeroed_get (d : Dev) {fs : List Fld} (hfs : fs.Pairwise fun f g => fldId f ≠ fldId g) {f : Fld} (hf : f ∈ fs) :
    (d.zeroed fs).get f = 0 := by
  induction fs generalizing d with
  | nil => simp at hf
  | cons g t ih =>
    obtain ⟨hg, ht⟩ := List.pairwise_cons.mp hfs
    rcases List.mem_cons.mp hf with rfl | hf
    · have hkeep := ((d.set f 0).only_zeroed t).2 f fun x hx => (hg x hx).symm
      exact hkeep.trans ((d.get_set_same f 0).trans (Nat.zero_mod _))
    · exact ih _ ht hf

theorem Dev.writeGlbCfgerr_clear {d : Dev} {w : Word} (hup : d.up = true) (h : w.toNat % 2 ^ 31 = 0) :
    d.writeGlbCfgerr (withBit w 31) = d.zeroed glbCfgerrFlds := by
  have hrow : d.writeRow .bar0 R.GLB_CFGERR 0 0x80000000#32 = d.set F.GLB_CFGERR_VALID 0 :=
    congrArg (d.set F.GLB_CFGERR_VALID) (Nat.and_zero _)
  rw [withBit_valid_alone h, Dev.writeGlbCfgerr, Dev.regWrite_done hup rfl, hrow]
  rfl

theorem Dev.writeTenCfgerr_clear {d : Dev} {t : Fin 256} {w : Word} (hup : d.up = true) (hex : d.tenantExists t.val = true)
    (hflr : d.flrBusy t.val = false) (h : w.toNat % 2 ^ 31 = 0) :
    d.writeTenCfgerr t.val (withBit w 31) = (d.pageRouse t.val).zeroed (tenCfgerrFlds t.val) := by
  have hfld : rowFld (.page t) R.TEN_CFGERR 0 ⟨31, 1, .w1c, fun _ => 0⟩ = F.TEN_CFGERR_VALID t.val := by
    simp only [rowFld, rowKey, R.TEN_CFGERR, F.TEN_CFGERR_VALID, Fld.mk.injEq, and_true]; omega
  have hrow (d : Dev) : d.writeRow (.page t) R.TEN_CFGERR 0 0x80000000#32 = d.set (F.TEN_CFGERR_VALID t.val) 0 := by
    rw [← hfld]
    exact congrArg (d.set _) (Nat.and_zero _)
  rw [withBit_valid_alone h, Dev.writeTenCfgerr, Dev.onPage_answers _ _ hex hflr, pageOf_val,
    Dev.regWrite_done ((d.pageRouse_up _).trans hup) rfl, hrow]
  rfl

/-- A word that sets a bit beside VALID fails with E_FIELD, whatever else. -/
theorem cfgerrCheck_field {w : Word} {sets : Bool} (h : w.toNat % 2 ^ 31 ≠ 0) :
    firstByRank [(sets, .eField), (false, .eLocked), ((withBit w 31).toNat % 2 ^ 31 != 0, .eField)] = .eField := by
  rw [(withBit_valid w).2, bne_iff_ne.mpr h]
  cases sets <;> rfl

theorem cfgerrClearRule : CfgerrClearRule := by
  intro s w hup
  refine ⟨Ends.of_act hup ?_, fun t hex hflr => Ends.of_act hup ?_⟩
  · split_ifs with h
    · rw [Dev.writeGlbCfgerr_clear hup h]
      exact ⟨s.dev.only_zeroed _, fun f hf => s.dev.zeroed_get (by decide) hf⟩
    · have hw : s.dev.writeGlbCfgerr (withBit w 31) = s.dev.recordGlb 0x20 .eField :=
        Dev.regWrite_rejected hup (by decide) (cfgerrCheck_field h)
      simp only [hw]
      exact recordedGlb_recordGlb _ _ _
  · dsimp only
    split_ifs with h
    · rw [Dev.writeTenCfgerr_clear hup hex hflr h]
      exact ⟨Dev.only_zeroed _ _, fun f hf => Dev.zeroed_get _ (tenCfgerr_apart _) hf⟩
    · have hw : s.dev.writeTenCfgerr t.val (withBit w 31) = ((s.dev.pageRouse t.val).recordTen t.val 0x8 .eField).fault t.val 34 := by
        rw [Dev.writeTenCfgerr, Dev.onPage_answers _ _ hex hflr, pageOf_val]
        exact Dev.regWrite_rejected ((s.dev.pageRouse_up _).trans hup) (by decide) (cfgerrCheck_field h)
      simp only [hw]
      exact recordedTen_recordTen _ _ _ _

/-- Settles O7: the checks of a write in their order, in BAR0 and in a page, and the clear of a record. -/
theorem registerWrites : Obligations.RegisterWrites := ⟨registerWriteBar0Rule, registerWritePageRule, cfgerrClearRule⟩

/-! ### GLB_CTRL (R18, R19) -/

/-- A word of GLB_CTRL with LOCK set: no reserved bit, LOCK 1, T0HOST as the operand gives it. -/
theorem withBit_lock {w : Word} (h : w.toNat < 4) : setsReserved R.GLB_CTRL (withBit w 0) = false ∧
    bits (withBit w 0).toNat 0 1 = 1 ∧ bits (withBit w 0).toNat 1 1 = bits w.toNat 1 1 := by
  have hw : w.toNat = 0 ∨ w.toNat = 1 ∨ w.toNat = 2 ∨ w.toNat = 3 := by omega
  have hval : ∀ n < 4, w.toNat = n → w = BitVec.ofNat 32 n := fun n hn he =>
    BitVec.eq_of_toNat_eq (by rw [he, BitVec.toNat_ofNat, Nat.mod_eq_of_lt (by omega)])
  rcases hw with h | h | h | h <;> rw [hval _ (by decide) h] <;> decide

theorem Dev.told_startSetAside (d : Dev) : d.Told d.startSetAside [] := by
  unfold Dev.startSetAside
  split_ifs
  · exact d.told_lar _
  · exact Dev.Told.refl _ _

@[simp] theorem Dev.startSetAside_get (d : Dev) (g : Fld) : d.startSetAside.get g = d.get g := by
  unfold Dev.startSetAside
  split_ifs <;> rfl

/-- Fixing the host changes at most what shows the link. -/
theorem Dev.told_hostFixed (d : Dev) : d.Told d.hostFixed [F.HIF_STAT_LINKUP, F.HIF_STAT_EXTTAG] := by
  unfold Dev.hostFixed
  split_ifs
  · exact (((d.only_set _ _).trans (Dev.only_set _ _ _)).told).step (Dev.told_startSetAside _)
  · exact (d.told_startSetAside).mono (by simp)

/-- What a write of GLB_CTRL gives its two fields before its effect. -/
def Dev.ctrlWritten (d : Dev) (host : Nat) : Dev := (d.set F.GLB_CTRL_T0HOST host).set F.GLB_CTRL_LOCK 1

theorem Dev.ctrlWritten_get (d : Dev) {host : Nat} (h : host < 2) :
    (d.ctrlWritten host).get F.GLB_CTRL_LOCK = 1 ∧ (d.ctrlWritten host).get F.GLB_CTRL_T0HOST = host := by
  unfold Dev.ctrlWritten
  simp (disch := decide) only [Dev.get_set_ne, Dev.get_set_same]
  exact ⟨rfl, Nat.mod_eq_of_lt h⟩

/-- GLB_CTRL_LOCK on a part that is not locked: the selection that the write makes takes effect. -/
theorem Dev.writeGlbCtrl_locks {d : Dev} {w : Word} (hup : d.up = true) (hw : w.toNat < 4) (hcode : d.code = 1)
    (hlock : d.get F.GLB_CTRL_LOCK = 0) : d.writeGlbCtrl (withBit w 0) = (d.ctrlWritten (bits w.toNat 1 1)).hostFixed := by
  obtain ⟨hres, hone, hhost⟩ := withBit_lock hw
  have hopen : d.is F.GLB_CTRL_LOCK = false := by rw [Dev.is, hlock]; rfl
  have hset : (d.ctrlWritten (bits w.toNat 1 1)).is F.GLB_CTRL_LOCK = true := by
    rw [Dev.is, (d.ctrlWritten_get (host := bits w.toNat 1 1) (Nat.mod_lt _ (by decide))).1]; rfl
  have hrow : d.writeRow .bar0 R.GLB_CTRL 0 (withBit w 0) = d.ctrlWritten (bits w.toNat 1 1) := by
    have hfields : d.writeRow .bar0 R.GLB_CTRL 0 (withBit w 0) = (d.set F.GLB_CTRL_T0HOST (bits (withBit w 0).toNat 1 1)).set F.GLB_CTRL_LOCK
      ((d.set F.GLB_CTRL_T0HOST (bits (withBit w 0).toNat 1 1)).get F.GLB_CTRL_LOCK ||| bits (withBit w 0).toNat 0 1) := rfl
    rw [hfields, hone, hhost, Dev.get_set_ne _ _ (by decide), hlock]
    rfl
  rw [Dev.writeGlbCtrl, Dev.regWrite_done hup, hrow, hset, hopen]
  · rfl
  · have hfree : d.changesLocked .bar0 R.GLB_CTRL 0 (withBit w 0) = false := by simp [Dev.changesLocked, R.GLB_CTRL, hopen]
    rw [hres, hfree, hcode]
    rfl

/-- A second write that would change the selection is rejected. -/
theorem Dev.writeGlbCtrl_locked {d : Dev} {w : Word} (hup : d.up = true) (hw : w.toNat < 4) (hcode : d.code = 1)
    (hlock : d.get F.GLB_CTRL_LOCK = 1) (hne : bits w.toNat 1 1 ≠ d.get F.GLB_CTRL_T0HOST) :
    d.writeGlbCtrl (withBit w 0) = d.recordGlb 0x10 .eLocked := by
  obtain ⟨hres, -, hhost⟩ := withBit_lock hw
  have hchg : d.changesLocked .bar0 R.GLB_CTRL 0 (withBit w 0) = true := by
    have hd : (wordFld (withBit w 0) ⟨1, 1, .rwl, fun _ => 0⟩ != d.get F.GLB_CTRL_T0HOST) = true := by
      rw [wordFld, hhost]; exact bne_iff_ne.mpr hne
    have hl : d.is F.GLB_CTRL_LOCK = true := by rw [Dev.is, hlock]; rfl
    simp only [Dev.changesLocked, R.GLB_CTRL, hl, Bool.true_and, List.any_cons]
    exact Bool.or_eq_true _ _ ▸ .inl hd
  refine Dev.regWrite_rejected hup (by decide) ?_
  rw [hres, hchg, hcode]
  rfl

theorem Dev.linkUp_get {d : Dev} {gen : Fin 3} (hend : d.endpoint = true) (hheld : d.pcieHeld = false) :
    d.linkUp (gen.val + 1) = (d.set F.HIF_STAT_LINKUP 1).set F.HIF_STAT_SPEED (gen.val + 1) := by
  simp [Dev.linkUp, hend, hheld]

/-- Settles O8: the write of GLB_CTRL before and after LOCK, and the conditions of the link and of its configuration requests. -/
theorem hostAndLink : Obligations.HostAndLink := by
  intro s hup
  refine ⟨fun w hw hcode hlock => Ends.of_act hup ?_, fun w hw hcode hlock hne => Ends.of_act hup ?_, fun gen hend hheld => Ends.of_act hup ?_,
    fun b hend hheld => Ends.of_always ?_, fun b hheld => Ends.of_always ?_⟩
  · rw [Dev.writeGlbCtrl_locks hup hw hcode hlock]
    obtain ⟨hl, hh⟩ := s.dev.ctrlWritten_get (Nat.mod_lt _ (by decide) : bits w.toNat 1 1 < 2)
    have htold := (s.dev.ctrlWritten (bits w.toNat 1 1)).told_hostFixed
    refine ⟨(htold.2 _ ?_ (by decide)).trans hl, (htold.2 _ ?_ (by decide)).trans hh, ?_⟩
    · exact plainFld_of_fldId (by decide) (by decide) (by decide)
    · exact plainFld_of_fldId (by decide) (by decide) (by decide)
    · exact ((((s.dev.only_set _ _).trans (Dev.only_set _ _ _)).told).trans htold).mono (by simp)
  · rw [Dev.writeGlbCtrl_locked hup hw hcode hlock hne]
    exact recordedGlb_recordGlb _ _ _
  · rw [Dev.linkUp_get hend hheld]
    have hgen : (gen.val + 1) % 2 ^ F.HIF_STAT_SPEED.w = gen.val + 1 := Nat.mod_eq_of_lt (show gen.val + 1 < 4 by omega)
    exact ⟨(Dev.get_set_ne _ _ (by decide)).trans (Dev.get_set_same ..), (Dev.get_set_same ..).trans hgen,
      (s.dev.only_set _ _).trans (Dev.only_set _ _ _)⟩
  · simp only [hup, Bool.true_or, if_true, Dev.configRequest, hend, hheld, Bool.not_true, Bool.or_self, Bool.false_eq_true, if_false]
    by_cases hserved : s.dev.cfgServed = true
    · simp only [hserved, Bool.not_true, Bool.false_eq_true, if_false, if_true]
      cases b with
      | none => exact ⟨_, rfl, rfl⟩
      | some v => exact ⟨_, rfl, Dev.setB_get_same _ _ rfl, Dev.only_setB _ _ _⟩
    · simp only [hserved, Bool.not_false, if_true, Bool.false_eq_true, if_false]
  · simp only [hup, Bool.true_or, if_true, Dev.configRequest, hheld, Bool.or_true]

end Sys2Proof.Machine

/-!
SUPPORT. The word of a command with its own bit set; then crossings, their buffers and pace windows (chapter 02).
-/
namespace Sys2Proof.Machine

open Sys2Proof

/-! ### The word of a command with its own bit set -/

theorem toNat_withBit (w : Word) {i : Nat} (hi : i < 32) : (withBit w i).toNat = w.toNat ||| 2 ^ i := by
  have h : 2 ^ i < 2 ^ 32 := Nat.pow_lt_pow_right (by decide) hi
  simp only [withBit, BitVec.toNat_or, BitVec.toNat_ofNat, Nat.mod_eq_of_lt h]

theorem bitOf_withBit_same (w : Word) {i : Nat} (hi : i < 32) : bitOf (withBit w i).toNat i = true := by
  simp only [toNat_withBit w hi, bitOf_eq_testBit, Nat.testBit_or, Nat.testBit_two_pow_self, Bool.or_true]

theorem bits_withBit_same (w : Word) {i : Nat} (hi : i < 32) : bits (withBit w i).toNat i 1 = 1 :=
  by rw [bits_one_eq, bitOf_withBit_same w hi]; rfl

theorem testBit_bits (n lo k j : Nat) : (bits n lo k).testBit j = (decide (j < k) && n.testBit (lo + j)) := by
  rw [bits, Nat.testBit_mod_two_pow, Nat.testBit_div_two_pow, Nat.add_comm]

/-- The other bits are as the operand gives them. -/
theorem bits_withBit_ne (w : Word) {i lo k : Nat} (hi : i < 32) (h : i < lo ∨ lo + k ≤ i) :
    bits (withBit w i).toNat lo k = bits w.toNat lo k := by
  apply Nat.eq_of_testBit_eq
  intro j
  rw [testBit_bits, testBit_bits, toNat_withBit w hi, Nat.testBit_or, Nat.testBit_two_pow]
  by_cases hj : j < k
  · rw [decide_eq_false (by omega : ¬ i = lo + j), Bool.or_false]
  · simp only [hj, decide_false, Bool.false_and]

theorem bitOf_withBit_ne (w : Word) {i j : Nat} (hi : i < 32) (h : i ≠ j) : bitOf (withBit w i).toNat j = bitOf w.toNat j := by
  simp only [toNat_withBit w hi, bitOf_eq_testBit, Nat.testBit_or, Nat.testBit_two_pow, h, decide_false, Bool.or_false]

/-! ### Whole items through the crossings (R34, R47, R48) -/

@[simp] theorem Dev.feedCrossing_get (d : Dev) (n : Nat) (g : Fld) : (d.feedCrossing n).get g = d.get g := rfl

theorem crossingsRule : CrossingsRule := by
  intro s n slack hup
  refine ⟨fun len => Ends.of_act hup ?_, Ends.of_act hup ?_⟩
  · simp only [Dev.crossIn]
    split_ifs
    · rfl
    · exact ⟨_, rfl, Dev.get_set_same .., s.dev.only_bump _⟩
  · simp only [Dev.crossOut]
    split_ifs
    · rfl
    · rfl
    · exact ⟨_, rfl, Dev.get_set_same .., Dev.only_bump _ _⟩

/-! ### The buffers (R34, R35, R43) -/

theorem CrossDir.fill_eq_sum (x : CrossDir) : x.fill = x.fifo.sum := List.sum_eq_foldl.symm

theorem entriesOf_pos (n len : Nat) : 0 < entriesOf n len := by unfold entriesOf; omega

theorem CrossDir.put_fifo {n : Nat} (x : CrossDir) (len : Nat) (h : pingPong n = false) : (x.put n len).fifo = x.fifo ++ [entriesOf n len] := by
  simp [CrossDir.put, h]

theorem CrossDir.fill_put {n : Nat} (x : CrossDir) (len : Nat) (h : pingPong n = false) : (x.put n len).fill = x.fill + entriesOf n len := by
  simp only [CrossDir.fill_eq_sum, x.put_fifo len h, List.sum_append, List.sum_singleton]

theorem CrossDir.bank_put {n : Nat} (x : CrossDir) (len : Nat) (h : pingPong n = true) (b : Bool) :
    (x.put n len).bank b = if b = x.wnext then ⟨some len⟩ else x.bank b := by
  cases b <;> cases hw : x.wnext <;> simp [CrossDir.put, CrossDir.bank, CrossDir.setBank, h, hw]

theorem CrossDir.bank_take {n : Nat} (x : CrossDir) (h : pingPong n = true) (b : Bool) :
    (x.take n).bank b = if b = x.rnext then {} else x.bank b := by
  cases b <;> cases hr : x.rnext <;> simp [CrossDir.take, CrossDir.bank, CrossDir.setBank, h, hr]

theorem buffersRule : BuffersRule := by
  intro n x slack
  refine ⟨fun inn len hfifo hroom => ?_, fun hfifo hready => ?_, fun inn len hbank hroom => ?_, fun hbank hready => ?_⟩
  · have hfit : x.fill + slack.val + entriesOf n.val len ≤ fifoDepth n.val inn := by simpa [CrossDir.roomFor, hfifo] using hroom
    have hpos := entriesOf_pos n.val len
    have hfill := x.fill_put len hfifo
    refine ⟨hfill, by omega, ?_⟩
    simp only [CrossDir.fullFlag, decide_eq_false_iff_not]
    omega
  · obtain ⟨hne, hflag⟩ : x.fifo ≠ [] ∧ x.emptyFlag slack = false := by simpa [CrossDir.ready, hfifo] using hready
    obtain ⟨k, t, hx⟩ := List.exists_cons_of_ne_nil hne
    have htake : (x.take n.val).fifo = t := by simp [CrossDir.take, hfifo, hx]
    exact ⟨hflag, k, t, hx, htake, by rw [CrossDir.fill_eq_sum, CrossDir.fill_eq_sum, htake, hx, List.sum_cons]⟩
  · obtain ⟨hown, hlen⟩ : (x.bank x.wnext).ofReader = false ∧ len ≤ bankBytes n.val := by simpa [CrossDir.roomFor, hbank] using hroom
    exact ⟨hown, by simp [x.bank_put len hbank, Bank.ofReader], by simp [x.bank_put len hbank], hlen⟩
  · exact ⟨by simpa [CrossDir.ready, hbank] using hready, by simp [x.bank_take hbank, Bank.ofReader], by simp [x.bank_take hbank]⟩

/-! ### Pace windows (R41, R46, R56) -/

/-- NOW and MIN after a window of `n` laps. -/
def Dev.paceShown (d : Dev) (n : Nat) : Dev := (d.set F.SUP_PACE_NOW n).set F.SUP_PACE_MIN (min n (d.get F.SUP_PACE_MIN))

theorem Dev.only_paceShown (d : Dev) (n : Nat) : d.Only (d.paceShown n) [F.SUP_PACE_NOW, F.SUP_PACE_MIN] :=
  (d.only_set _ _).trans (Dev.only_set _ _ _)

theorem Dev.paceShown_get (d : Dev) {n : Nat} (h : n ≤ 0xFFF) : (d.paceShown n).get F.SUP_PACE_NOW = n ∧
    (d.paceShown n).get F.SUP_PACE_MIN = min n (d.get F.SUP_PACE_MIN) % 0x1000 :=
  ⟨((Dev.get_set_ne _ _ (by decide)).trans (Dev.get_set_same ..)).trans (Nat.mod_eq_of_lt (show n < 2 ^ 12 by omega)), Dev.get_set_same ..⟩

/-- The runs after a window of `n` laps. -/
def Dev.ranXt (d : Dev) (n : Nat) : Xt :=
  { d.xt with lowRun := if n < d.get F.SUP_PACECFG_FLOOR then satInc 15 d.xt.lowRun else 0
              highRun := if d.get F.SUP_PACECFG_FLOOR + 16 ≤ n then satInc 15 d.xt.highRun else 0 }

/-- A device with another timebase. -/
def Dev.withXt (d : Dev) (x : Xt) : Dev := { d with xt := x }

theorem Dev.Only.withXt {d e : Dev} {fs : List Fld} (h : d.Only e fs) (x : Xt) : (d.withXt x).Only (e.withXt x) fs := by
  obtain ⟨heq, hget⟩ := h
  exact ⟨by rw [heq]; rfl, hget⟩

/-- A window's end, its cases made plain. -/
theorem Dev.paceWindow_eq (d : Dev) (laps : Nat) :
    let n := min laps 0xFFF
    let x := d.ranXt n
    let fires := d.xt.armed = true ∧ d.get F.SUP_PACECFG_RUN ≤ x.lowRun ∧ d.is F.SUP_PACECFG_EN = true
    d.paceWindow laps = if fires then ((d.paceShown n).withXt { x with armed := false }).supEvent 8 [0] 0 0
      else (d.paceShown n).withXt { x with armed := d.xt.armed || decide (d.get F.SUP_PACECFG_RUN ≤ x.highRun) } := by
  intro n x fires
  have hkeep : ∀ g ∈ [F.SUP_PACECFG_FLOOR, F.SUP_PACECFG_RUN, F.SUP_PACECFG_EN], (d.paceShown n).get g = d.get g := fun g hg =>
    (d.only_paceShown n).2 g (by revert g; decide)
  have hruns : (d.paceShown n).paceRuns n = (d.paceShown n).withXt x := by
    simp only [Dev.paceRuns, hkeep F.SUP_PACECFG_FLOOR (by simp), decide_eq_true_eq]
    rfl
  have hrun : ((d.paceShown n).withXt x).get F.SUP_PACECFG_RUN = d.get F.SUP_PACECFG_RUN := hkeep _ (by simp)
  have hen : ((d.paceShown n).withXt x).is F.SUP_PACECFG_EN = d.is F.SUP_PACECFG_EN := congrArg (· == 1) (hkeep F.SUP_PACECFG_EN (by simp))
  have hdef : d.paceWindow laps =
      let d1 := (d.paceShown n).paceRuns n
      if d1.xt.armed then
        if d1.get F.SUP_PACECFG_RUN ≤ d1.xt.lowRun ∧ d1.is F.SUP_PACECFG_EN then (d1.modXt fun x => { x with armed := false }).supEvent 8 [0] 0 0 else d1
      else if d1.get F.SUP_PACECFG_RUN ≤ d1.xt.highRun then d1.modXt fun x => { x with armed := true } else d1 := rfl
  rw [hdef, hruns]
  simp only [hrun, hen]
  have harm : ((d.paceShown n).withXt x).xt = x := rfl
  have hx : x.armed = d.xt.armed := rfl
  rw [harm]
  by_cases ha : d.xt.armed = true
  · have hsame : ({ x with armed := true } : Xt) = x := by rw [← ha, ← hx]
    simp only [fires, hx, ha, true_and, if_true, Bool.true_or, hsame]
    rfl
  · have ha' := Bool.eq_false_iff.mpr ha
    have hsame : ({ x with armed := false } : Xt) = x := by rw [← ha', ← hx]
    simp only [fires, hx, ha', Bool.false_eq_true, false_and, if_false, Bool.false_or]
    split_ifs with hr
    · simp only [hr, decide_true]; rfl
    · simp only [hr, decide_false, hsame]

theorem paceWindowRule (d : Dev) (laps : BitVec 16) :
    let n := min laps.toNat 0xFFF
    let x := d.ranXt n
    let fires := d.xt.armed = true ∧ d.get F.SUP_PACECFG_RUN ≤ x.lowRun ∧ d.is F.SUP_PACECFG_EN = true
    ∃ y : Dev, y.get F.SUP_PACE_NOW = n ∧ y.get F.SUP_PACE_MIN = min n (d.get F.SUP_PACE_MIN) % 0x1000 ∧
      (d.withXt y.xt).Only y [F.SUP_PACE_NOW, F.SUP_PACE_MIN] ∧
      (fires → y.xt = { x with armed := false } ∧ d.paceWindow laps.toNat = y.supEvent 8 [0] 0 0) ∧
      (¬ fires → y.xt = { x with armed := d.xt.armed || decide (d.get F.SUP_PACECFG_RUN ≤ x.highRun) } ∧ d.paceWindow laps.toNat = y) := by
  intro n x fires
  obtain ⟨hnow, hmin⟩ := d.paceShown_get (n := n) (Nat.min_le_right ..)
  have heq := d.paceWindow_eq laps.toNat
  by_cases hf : fires
  · exact ⟨(d.paceShown n).withXt { x with armed := false }, hnow, hmin, (d.only_paceShown n).withXt _,
      fun _ => ⟨rfl, heq.trans (if_pos hf)⟩, fun h => absurd hf h⟩
  · exact ⟨(d.paceShown n).withXt { x with armed := d.xt.armed || decide (d.get F.SUP_PACECFG_RUN ≤ x.highRun) }, hnow, hmin,
      (d.only_paceShown n).withXt _, fun h => absurd h hf, fun _ => ⟨rfl, heq.trans (if_neg hf)⟩⟩

/-! ### A write of SUP_PACECFG (R46, R56, R583) -/

/-- EN, RUN and FLOOR as a word gives them. -/
def Dev.paceSet (d : Dev) (w : Word) : Dev :=
  ((d.set F.SUP_PACECFG_EN (bits w.toNat 16 1)).set F.SUP_PACECFG_RUN (bits w.toNat 12 4)).set F.SUP_PACECFG_FLOOR (bits w.toNat 0 12)

/-- The runs after a write of SUP_PACECFG: they start again where it changes EN, RUN or FLOOR. -/
def Dev.paceXt (d : Dev) (w : Word) : Xt :=
  if bits w.toNat 16 1 = d.get F.SUP_PACECFG_EN ∧ bits w.toNat 12 4 = d.get F.SUP_PACECFG_RUN ∧ bits w.toNat 0 12 = d.get F.SUP_PACECFG_FLOOR
  then d.xt else { d.xt with lowRun := 0, highRun := 0 }

/-- PACE_MINCLR that passes its checks. -/
theorem Dev.writePacecfg_minclr {d : Dev} {w : Word} (hup : d.up = true) (hres : setsReserved R.SUP_PACECFG (withBit w 31) = false)
    (hrun : bits w.toNat 12 4 ≠ 0) : d.writePacecfg (withBit w 31) = ((d.paceSet w).set F.SUP_PACE_MIN 0xFFF).withXt (d.paceXt w) := by
  have hen := bits_withBit_ne w (i := 31) (lo := 16) (k := 1) (by decide) (.inr (by decide))
  have hr := bits_withBit_ne w (i := 31) (lo := 12) (k := 4) (by decide) (.inr (by decide))
  have hfl := bits_withBit_ne w (i := 31) (lo := 0) (k := 12) (by decide) (.inr (by decide))
  have hrow : d.writeRow .bar0 R.SUP_PACECFG 0 (withBit w 31) = d.paceSet w := by
    simp only [Dev.paceSet, ← hen, ← hr, ← hfl]; rfl
  rw [Dev.writePacecfg, Dev.regWrite_done hup, hrow, bitOf_withBit_same w (by decide), hen, hr, hfl]
  · simp only [if_true, Bool.and_eq_true, beq_iff_eq, and_assoc, Dev.paceXt]
    split_ifs <;> rfl
  · rw [hres, hr, beq_eq_false_iff_ne.mpr hrun]; rfl

theorem paceRule : PaceRule := by
  intro s
  refine ⟨fun laps hon => Ends.of_always ?_, fun w hup hres hrun => Ends.of_act hup ?_⟩
  · simp only [hon, if_true]
    exact paceWindowRule s.dev laps
  · rw [Dev.writePacecfg_minclr hup hres hrun]
    have hget (g : Fld) : (((s.dev.paceSet w).set F.SUP_PACE_MIN 0xFFF).withXt (s.dev.paceXt w)).get g =
      ((s.dev.paceSet w).set F.SUP_PACE_MIN 0xFFF).get g := rfl
    have hbits (lo k : Nat) : bits w.toNat lo k % 2 ^ k = bits w.toNat lo k := Nat.mod_mod _ _
    have hset : s.dev.Only ((s.dev.paceSet w).set F.SUP_PACE_MIN 0xFFF) [F.SUP_PACECFG_EN, F.SUP_PACECFG_RUN, F.SUP_PACECFG_FLOOR, F.SUP_PACE_MIN] :=
      (((s.dev.only_set _ _).trans (Dev.only_set _ _ _)).trans (Dev.only_set _ _ _)).trans (Dev.only_set _ _ _)
    simp only [hget]
    refine ⟨Dev.get_set_same .., ?_, ?_, ?_, (hset.mono (by decide)).withXt _, rfl⟩
    all_goals
      simp (disch := decide) only [Dev.paceSet, Dev.get_set_ne, Dev.get_set_same]
      exact hbits _ _

/-- Settles O11: whole items at the crossings, the buffers' arithmetic, and the cases of a pace window. -/
theorem crossingsAndPace : Obligations.CrossingsAndPace := ⟨crossingsRule, buffersRule, paceRule⟩

end Sys2Proof.Machine

/-!
SUPPORT. Loss and return of the two crystals (chapter 02).
-/
namespace Sys2Proof.Machine

open Sys2Proof

/-! ### Loss and return of the crystals (R49 to R55) -/

theorem Dev.only_modXt {d e : Dev} {fs : List Fld} (h : d.Only e fs) (f : Xt → Xt) (hx : e.xt = d.xt) :
    ({ d with xt := f d.xt } : Dev).Only (e.modXt f) fs := by
  obtain ⟨heq, hget⟩ := h
  exact ⟨by rw [← hx, heq]; rfl, hget⟩

/-- A short hold leaves the local ports as they are (R239). -/
theorem Dev.lheAfterHold_short (d : Dev) : d.lheAfterHold false = d := rfl

/-- The 24 MHz crystal is on backup, lost. -/
def Dev.xt24Off (d : Dev) : Dev :=
  (((d.set F.SUP_XTSTAT_BACKUP 1).set F.SUP_XTSTAT_XT24LOST 1).set F.SUP_XTSTAT_XT24OK 0).modXt fun x => { x with lost24 := true }

theorem Dev.only_xt24Off (d : Dev) : ({ d with xt := { d.xt with lost24 := true } } : Dev).Only d.xt24Off
    [F.SUP_XTSTAT_BACKUP, F.SUP_XTSTAT_XT24LOST, F.SUP_XTSTAT_XT24OK] :=
  Dev.only_modXt (((d.only_set _ _).trans (Dev.only_set _ _ _)).trans (Dev.only_set _ _ _)) _ rfl

theorem Dev.xt24Off_get (d : Dev) : d.xt24Off.get F.SUP_XTSTAT_BACKUP = 1 ∧ d.xt24Off.get F.SUP_XTSTAT_XT24LOST = 1 ∧
    d.xt24Off.get F.SUP_XTSTAT_XT24OK = 0 := by
  simp only [Dev.xt24Off, Dev.modXt_get]
  simp (disch := decide) only [Dev.get_set_ne, Dev.get_set_same]
  exact ⟨rfl, rfl, rfl⟩

/-- The 24 MHz crystal is in use again. -/
def Dev.xt24On (d : Dev) : Dev :=
  ((d.set F.SUP_XTSTAT_BACKUP 0).set F.SUP_XTSTAT_XT24OK 1).modXt fun x => { x with lost24 := false }

theorem Dev.only_xt24On (d : Dev) : ({ d with xt := { d.xt with lost24 := false } } : Dev).Only d.xt24On
    [F.SUP_XTSTAT_BACKUP, F.SUP_XTSTAT_XT24OK] :=
  Dev.only_modXt ((d.only_set _ _).trans (Dev.only_set _ _ _)) _ rfl

theorem Dev.xt24On_get (d : Dev) : d.xt24On.get F.SUP_XTSTAT_BACKUP = 0 ∧ d.xt24On.get F.SUP_XTSTAT_XT24OK = 1 := by
  simp only [Dev.xt24On, Dev.modXt_get]
  simp (disch := decide) only [Dev.get_set_ne, Dev.get_set_same]
  exact ⟨rfl, rfl⟩

/-- A qualified crystal releases what its absence held. -/
def Dev.xt24Released (d : Dev) (long : Bool) : Dev :=
  let z := (d.xt24On.setClass 0).pllStart
  if z.phyHeld then z else (z.lheAfterHold long).pdAfterHold

theorem Dev.xt24Good_backup {d : Dev} (long : Bool) (hon : d.coreOn = true) (hb : d.is F.SUP_XTSTAT_BACKUP = true) :
    d.xt24Good long = if d.xt.lost24 then (d.xt24Released long).supEvent 7 d.tenants 0 0 else d.xt24Released long := by
  simp only [Dev.xt24Good, hon, hb, Bool.not_true, Bool.or_self, Bool.false_eq_true, if_false]
  rfl

theorem xt32Lost_get (d : Dev) : let x := ((d.set F.SUP_XTSTAT_XT32OK 0).set F.SUP_XTSTAT_XT32LOST 1)
    x.get F.SUP_XTSTAT_XT32OK = 0 ∧ x.get F.SUP_XTSTAT_XT32LOST = 1 := by
  simp (disch := decide) only [Dev.get_set_ne, Dev.get_set_same]
  exact ⟨rfl, rfl⟩

/-- Settles O12: each crystal command on both sides of its condition. -/
theorem crystals : Obligations.Crystals := by
  intro s hon
  refine ⟨fun hb => Ends.of_always ?_, fun hb => Ends.of_always ?_, fun long hb hl => Ends.of_always ?_, fun long h => Ends.of_always ?_,
    fun hb hl => Ends.of_always ?_, fun hb hl => Ends.of_always ?_, fun h => Ends.of_always ?_, fun hok => Ends.of_always ?_,
    fun hok => Ends.of_always ?_, fun hok => Ends.of_always ?_, fun hok => Ends.of_always ?_⟩
  · have hlost : s.dev.xt24Lost = ((((s.dev.xt24Off).holdLanes.pllHold).setClass 1).set F.ALM_STAT_HOLDOVER 1).supEvent 6 s.dev.tenants 0 0 := by
      simp only [Dev.xt24Lost, hon, hb, Bool.not_true, Bool.or_self, Bool.false_eq_true, if_false]
      rfl
    obtain ⟨h1, h2, h3⟩ := s.dev.xt24Off_get
    exact ⟨s.dev.xt24Off, _, hlost, Dev.get_set_same .., Dev.only_set _ _ _, h1, h2, h3, s.dev.only_xt24Off⟩
  · simp only [Dev.xt24Lost, hb, Bool.or_true, if_true]
  · obtain ⟨h1, h2⟩ := s.dev.xt24On_get
    simp only [hl, if_true, Dev.xt24Good_backup long hon hb]
    exact ⟨s.dev.xt24On, _, rfl, h1, h2, s.dev.only_xt24On, rfl⟩
  · rcases h with h | h
    · simp only [Dev.xt24Good, h, Bool.not_false, Bool.or_true, if_true, ite_self]
    · simp only [h, Bool.false_eq_true, if_false]
  · obtain ⟨h1, h2⟩ := s.dev.xt24On_get
    have honly := s.dev.only_xt24On
    have hsame : ({ s.dev with xt := { s.dev.xt with lost24 := false } } : Dev) = s.dev := by rw [← hl]
    rw [hsame] at honly
    refine ⟨s.dev.xt24On, h1, h2, honly, ?_⟩
    simp only [Dev.xt24Good_backup false hon hb, hl, Bool.false_eq_true, if_false]
    rfl
  · have hlate : s.dev.xt24Late = ((s.dev.set F.SUP_XTSTAT_XT24LOST 1).modXt fun x => { x with lost24 := true }).supEvent 6 s.dev.tenants 0 0 := by
      simp only [Dev.xt24Late, hon, hb, hl, Bool.not_true, Bool.or_self, Bool.false_eq_true, if_false]
    exact ⟨_, hlate, s.dev.get_set_same .., Dev.only_modXt (s.dev.only_set _ _) _ rfl⟩
  · rcases h with h | h
    · simp only [Dev.xt24Late, h, Bool.not_false, Bool.or_true, Bool.true_or, if_true]
    · simp only [Dev.xt24Late, h, Bool.or_true, if_true]
  · obtain ⟨h1, h2⟩ := xt32Lost_get s.dev
    have hlost : s.dev.xt32Lost = (((s.dev.set F.SUP_XTSTAT_XT32OK 0).set F.SUP_XTSTAT_XT32LOST 1).modXt
        fun x => { x with lost32 := true, slowOn24 := true }).supEvent 9 [0] 0 0 := by
      simp only [Dev.xt32Lost, hon, hok, Bool.not_true, Bool.or_self, Bool.false_eq_true, if_false]
    exact ⟨_, hlost, h1, h2, Dev.only_modXt ((s.dev.only_set _ _).trans (Dev.only_set _ _ _)) _ rfl⟩
  · simp only [Dev.xt32Lost, hok, Bool.not_false, Bool.or_true, if_true]
  · have hgood : s.dev.xt32Good =
        let x := (s.dev.set F.SUP_XTSTAT_XT32OK 1).modXt fun x => { x with lost32 := false, slowOn24 := s.dev.is F.SUP_XTCFG_SLOWSRC }
        if s.dev.xt.lost32 then x.supEvent 10 [0] 0 0 else x := by
      simp only [Dev.xt32Good, hon, hok, Bool.not_true, Bool.or_self, Bool.false_eq_true, if_false]
    exact ⟨_, hgood, s.dev.get_set_same .., Dev.only_modXt (s.dev.only_set _ _) _ rfl⟩
  · simp only [Dev.xt32Good, hok, Bool.or_true, if_true]

end Sys2Proof.Machine

/-!
SUPPORT. What a reset cuts off and leaves; then resets, start-up, wakes and the seconds count (chapter 03).
-/
namespace Sys2Proof.Machine

open Sys2Proof

/-! ### What a reset cuts off (R444, R529, R540) -/

/-- From `d` to `e` only flash bytes and the count of free values have changed. -/
def Dev.Torn (d e : Dev) : Prop := ∃ n m, e = { d with free := n, flash := m }

theorem Dev.Torn.trans {d e x : Dev} (h : d.Torn e) (k : e.Torn x) : d.Torn x := by
  obtain ⟨n, m, rfl⟩ := h
  obtain ⟨n', m', rfl⟩ := k
  exact ⟨n', m', rfl⟩

theorem Dev.torn_flashPut (d : Dev) (sel a : Nat) (l : List Byte) : d.Torn (d.flashPut sel a l) := by
  induction l generalizing d a with
  | nil => exact ⟨d.free, d.flash, rfl⟩
  | cons b t ih => exact Dev.Torn.trans ⟨d.free, _, rfl⟩ (ih _ _)

theorem Dev.torn_flashTear (d : Dev) (j : FlashJob) : d.Torn (d.flashTear j) :=
  Dev.Torn.trans ⟨_, d.flash, rfl⟩ (Dev.torn_flashPut _ _ _ _)

theorem Dev.torn_foldl_flashTear (l : List FlashJob) (d : Dev) : d.Torn (l.foldl Dev.flashTear d) := by
  induction l generalizing d with
  | nil => exact ⟨d.free, d.flash, rfl⟩
  | cons j t ih => exact (d.torn_flashTear j).trans (ih _)

theorem Dev.cutJobs_eq (d : Dev) : ∃ n m f, d.cutJobs = { d with free := n, flash := m, fls := f } := by
  obtain ⟨n, m, h⟩ := Dev.torn_foldl_flashTear (([0, 1].filterMap d.flashJob).filter fun j => j.started) d
  exact ⟨n, m, _, by rw [Dev.cutJobs, h]; rfl⟩

theorem Dev.cutJobs_flash {d : Dev} (h : ∀ j ∈ d.fls.jobs, j.started = false) : d.cutJobs.flash = d.flash := by
  have hnone : ([0, 1].filterMap d.flashJob).filter (fun j => j.started) = [] := by
    refine List.filter_eq_nil_iff.mpr fun j hj => ?_
    obtain ⟨k, -, hk⟩ := List.mem_filterMap.mp hj
    rw [h j (List.mem_of_find?_eq_some hk)]
    exact Bool.false_ne_true
  rw [Dev.cutJobs, hnone]
  rfl

theorem Dev.cutFuses_eq (d : Dev) : ∃ n z, d.cutFuses = { d with free := n, fuse := z } := by
  unfold Dev.cutFuses
  cases d.key.trans <;> rcases d.key.prog with _ | ⟨f, v⟩
  · exact ⟨_, _, rfl⟩
  · exact ⟨_, _, rfl⟩
  · simp only; split_ifs <;> exact ⟨_, _, rfl⟩
  · simp only; split_ifs <;> exact ⟨_, _, rfl⟩

theorem Dev.cutFuses_none {d : Dev} (ht : d.key.trans = none) (hp : d.key.prog = none) : d.cutFuses = d := by
  simp only [Dev.cutFuses, ht, hp]

/-- Everything that a reset cuts off. -/
theorem Dev.cut_eq (d : Dev) : ∃ n f z, d.cutJobs.cutFuses = { d with free := n, flash := d.cutJobs.flash, fls := f, fuse := z } ∧
    (d.key.trans = none → d.key.prog = none → z = d.fuse) := by
  obtain ⟨n, m, f, hj⟩ := d.cutJobs_eq
  obtain ⟨n', z, hf⟩ := d.cutJobs.cutFuses_eq
  refine ⟨n', f, z, ?_, fun ht hp => ?_⟩
  · rw [hf, hj]
  · have hnone : d.cutJobs.cutFuses = d.cutJobs := Dev.cutFuses_none (by rw [hj]; exact ht) (by rw [hj]; exact hp)
    calc z = d.cutJobs.cutFuses.fuse := by rw [hf]
      _ = d.fuse := by rw [hnone, hj]

/-! ### What a reset shows (R76 to R78) -/

theorem Dev.Only.eq_with {d e : Dev} {fs : List Fld} (h : d.Only e fs) : ∃ m, e = { d with fld := m } := ⟨e.fld, h.1⟩

/-- Showing the fuses changes the fields that show them. -/
theorem Dev.only_showLcs (d : Dev) : d.Only d.showLcs fuseShown := by
  have h : d.Only d.showLcs _ := ((((((((((d.only_setB _ _).trans (Dev.only_setB _ _ _)).trans (Dev.only_setB _ _ _)).trans (Dev.only_setB _ _ _)).trans
    (Dev.only_setB _ _ _)).trans (Dev.only_set _ _ _)).trans (Dev.only_set _ _ _)).trans (Dev.only_set _ _ _)).trans (Dev.only_set _ _ _)).trans
    (Dev.only_set _ _ _)).trans (Dev.only_set _ _ _)
  exact h.mono (by decide)

theorem Dev.only_showFuses (d : Dev) : d.Only d.showFuses fuseShown :=
  (((d.only_set _ _).trans (Dev.only_set _ _ _)).trans (Dev.only_showLcs _)).mono (by decide)

/-- A map without the entries whose key is ruled out. -/
theorem mapFind_filter {α : Type} (p : Nat → Bool) (m : Map α) (k : Nat) :
    mapFind (m.filter fun e => p e.1) k = if p k then mapFind m k else none := by
  induction m with
  | nil => simp [mapFind]
  | cons e t ih =>
    obtain ⟨j, v⟩ := e
    by_cases hj : j = k
    · subst hj
      by_cases hp : p j = true <;> simp [mapFind, hp, ih]
    · by_cases hp : p j = true <;> simp [mapFind, hp, hj, ih]

/-- The device right after a reset, before it shows the fuses. -/
def Dev.bareReset (d : Dev) (keep : Bool) : Dev :=
  let c := d.cutJobs.cutFuses
  { fld := if keep then c.fld.filter fun e => alwaysOn e.1 else [], code := c.code, out := c.out, free := c.free,
    flash := c.flash, fuse := c.fuse, pow := { railFault := keep && c.pow.railFault },
    cross := { base := c.out.length }, rat := { quiet := keep } }

theorem Dev.wholeReset_eq (d : Dev) (keep : Bool) : d.wholeReset keep = (d.bareReset keep).showFuses := rfl

theorem Dev.bareReset_get (d : Dev) (keep : Bool) (g : Fld) :
    (d.bareReset keep).get g = if keep && alwaysOn (fldId g) then d.get g else g.rst := by
  have hfld : (d.bareReset keep).fld = if keep then d.fld.filter fun e => alwaysOn e.1 else [] := by
    obtain ⟨n, f, z, h, -⟩ := d.cut_eq
    simp only [Dev.bareReset, h]
  simp only [Dev.get, mapGet, hfld]
  cases keep with
  | false => rfl
  | true =>
    simp only [if_true, mapFind_filter, Bool.true_and]
    split_ifs <;> rfl

theorem Dev.bareReset_eq (d : Dev) (keep : Bool) : ∃ n z, (d.key.trans = none → d.key.prog = none → z = d.fuse) ∧ d.bareReset keep =
    { fld := (d.bareReset keep).fld, code := d.code, out := d.out, free := n, flash := d.cutJobs.flash, fuse := z,
      pow := { railFault := keep && d.pow.railFault }, cross := { base := d.out.length }, rat := { quiet := keep } } := by
  obtain ⟨n, f, z, hcut, hfuse⟩ := d.cut_eq
  exact ⟨n, z, hfuse, by simp only [Dev.bareReset, hcut]⟩

/-- A device in another state of its power life. -/
def Dev.withPow (d : Dev) (p : Pow) : Dev := { d with pow := p }

theorem Dev.withPow_self {d : Dev} {p : Pow} (h : d.pow = p) : d.withPow p = d := by subst h; rfl

theorem Dev.withPow_get (d : Dev) (p : Pow) (g : Fld) : (d.withPow p).get g = d.get g := rfl

theorem Dev.Only.withPow {d e : Dev} {fs : List Fld} (h : d.Only e fs) (p : Pow) : (d.withPow p).Only (e.withPow p) fs := by
  obtain ⟨m, rfl⟩ := h.eq_with
  exact ⟨rfl, h.2⟩

/-- A reset with further causes set, and another power state. -/
theorem afterReset_of_only {d e : Dev} {keep : Bool} {causes : List Fld} (p : Pow) (h : (d.wholeReset keep).Only e causes)
    (hc : ∀ f ∈ causes, e.get f = 1) : AfterReset d (e.withPow p) keep causes p := by
  have hshow : (d.bareReset keep).Only (d.wholeReset keep) fuseShown := (d.bareReset keep).only_showFuses
  obtain ⟨n, z, hfuse, hbare⟩ := d.bareReset_eq keep
  obtain ⟨m, hm⟩ := hshow.eq_with
  obtain ⟨m', hm'⟩ := h.eq_with
  have he : e.withPow p = { fld := m', code := d.code, out := d.out, free := n, flash := d.cutJobs.flash, fuse := z, pow := p,
                            cross := { base := d.out.length }, rat := { quiet := keep } } := by
    rw [Dev.withPow, hm', hm, hbare]
  refine ⟨?_, hc, fun g hg => ?_, fun ht hpr => ?_, fun hj => ?_⟩
  · rw [he]
  · rw [Dev.withPow_get, h.2 g fun f hf => hg f (List.mem_append_left _ hf), hshow.2 g fun f hf => hg f (List.mem_append_right _ hf)]
    exact d.bareReset_get keep g
  · rw [he]; exact hfuse ht hpr
  · rw [he]; exact Dev.cutJobs_flash hj

theorem Dev.wholeReset_pow (d : Dev) (keep : Bool) : (d.wholeReset keep).pow = { railFault := keep && d.pow.railFault } := by
  obtain ⟨n, z, -, hbare⟩ := d.bareReset_eq keep
  rw [d.wholeReset_eq, (d.bareReset keep).only_showFuses.1, hbare]

/-- A reset that sets one cause and leaves a power state of its own. -/
theorem afterReset_cause (d : Dev) (keep : Bool) {c : Fld} (hc : c.w = 1) (p : Pow) :
    AfterReset d (((d.wholeReset keep).set c 1).withPow p) keep [c] p := by
  refine afterReset_of_only p (Dev.only_set _ _ _) fun f hf => ?_
  rw [List.mem_singleton.mp hf, Dev.get_set_same, hc]; rfl

/-- A reset that sets one cause and stays held. -/
theorem afterReset_held (d : Dev) (keep : Bool) {c : Fld} (hc : c.w = 1) :
    AfterReset d ((d.wholeReset keep).set c 1) keep [c] { railFault := keep && d.pow.railFault } := by
  have h := afterReset_cause d keep hc { railFault := keep && d.pow.railFault }
  rwa [Dev.withPow_self ((Dev.set_pow ..).trans (d.wholeReset_pow keep))] at h

/-! ### The resets (R65, R76 to R78, R88, R566, R567) -/

/-- RAIL_EN rises after a reset. -/
theorem Dev.railsUp_reset (d : Dev) (c : Fld) : ((d.wholeReset true).set c 1).railsUp =
    ((d.wholeReset true).set c 1).withPow { railFault := d.pow.railFault, state := .railUp, railEn := true } := by
  have h := d.wholeReset_pow true
  unfold Dev.railsUp Dev.modPow Dev.withPow
  rw [Dev.set_pow, h]
  rfl

/-- Reset is released with WARN as the level of VIN_SYS gives it (R80). -/
theorem released_release (d : Dev) (sag : Bool) : Released d.railsUp (d.release sag) sag := by
  unfold Released Dev.release
  cases sag with
  | false => simp
  | true =>
    by_cases hw : d.railsUp.is F.SUP_STAT_WARN = true
    · simp [Dev.warnOn, hw]
    · simp only [Dev.warnOn, hw, if_true, true_and]
      exact ⟨_, rfl, Dev.get_set_same .., Dev.only_set _ _ _⟩

theorem Dev.dormantReset_after (d : Dev) : AfterReset d d.dormantReset true [F.SUP_RSTCAUSE_SUPPLY]
    { railFault := d.pow.railFault, state := .heldDormant, discharge := d.pow.discharge } := by
  have h := afterReset_cause d true (c := F.SUP_RSTCAUSE_SUPPLY) rfl
    { railFault := d.pow.railFault, state := .heldDormant, discharge := d.pow.discharge }
  have hp := d.wholeReset_pow true
  unfold Dev.dormantReset Dev.modPow
  rw [Dev.set_pow, hp]
  exact h

theorem Dev.railFail_after (d : Dev) : AfterReset d d.railFail true [F.SUP_RSTCAUSE_RAILFAIL]
    { state := .dormant, newFiring := true, discharge := true, railFault := true } := by
  have h := afterReset_cause d true (c := F.SUP_RSTCAUSE_RAILFAIL) rfl { state := .dormant, newFiring := true, discharge := true, railFault := true }
  have hp := d.wholeReset_pow true
  unfold Dev.railFail Dev.modPow
  simp only
  rw [Dev.set_pow, hp]
  exact h

theorem Dev.por_after (d : Dev) : AfterReset d d.por false [] {} := by
  have h := afterReset_of_only (d := d) (keep := false) {} (Dev.Only.refl _ _) (causes := []) (by simp)
  rwa [Dev.withPow_self (p := {}) (d.wholeReset_pow false)] at h

theorem Dev.woken_wakeUp (d : Dev) (sag : Bool) : Woken d (d.wakeUp sag) sag := by
  refine ⟨_, released_release _ sag, ?_⟩
  rw [Dev.railsUp_reset]
  exact afterReset_cause d true rfl _

theorem resetsRule : ResetsRule := by
  intro s
  refine ⟨Ends.of_always s.dev.por_after, fun hp => Ends.of_always ?_, fun hp => Ends.of_always ?_, fun c hc hp => ?_, fun hp => Ends.of_always ?_,
    fun sag hp => Ends.of_always ?_, fun sag hp => Ends.of_always ?_, fun sag hp => Ends.of_always ?_, fun hp => Ends.of_always ?_,
    fun hp => Ends.of_always ?_, fun hon => Ends.of_always ?_, fun hon => Ends.of_always ?_⟩
  · have hreset : s.dev.supplyReset = (s.dev.wholeReset true).set F.SUP_RSTCAUSE_SUPPLY 1 := by
      unfold Dev.supplyReset
      split <;> simp_all
    rw [hreset]
    exact afterReset_held s.dev true rfl
  · simp only [Dev.supplyReset, hp]
  · have hreset : s.dev.supplyReset = s.dev.dormantReset := by
      unfold Dev.supplyReset
      split <;> simp_all
    have hdormant : (s.dev.isDormant || s.dev.power == .heldDormant) = true := by
      unfold Dev.isDormant
      cases h : s.dev.power <;> simp_all
    rcases List.mem_pair.mp hc with rfl | rfl
    · exact Ends.of_always (hreset ▸ s.dev.dormantReset_after)
    · exact Ends.of_always (by simp only [hdormant, if_true]; exact s.dev.dormantReset_after)
  · have hdormant : (s.dev.isDormant || s.dev.power == .heldDormant) = false := by
      unfold Dev.isDormant
      cases h : s.dev.power <;> simp_all
    simp only [hdormant, Bool.false_eq_true, if_false]
  · have hreset : s.dev.resetN sag = ((s.dev.wholeReset true).set F.SUP_RSTCAUSE_RESETN 1).release sag := by
      unfold Dev.resetN
      split <;> simp_all
    rw [hreset]
    refine ⟨_, released_release _ sag, ?_⟩
    rw [Dev.railsUp_reset]
    exact afterReset_cause s.dev true rfl _
  · simp only [Dev.resetN, hp]
    exact afterReset_held s.dev true rfl
  · unfold Dev.resetN
    split <;> simp_all
  · simp only [hp, beq_self_eq_true, if_true]
    exact s.dev.railFail_after
  · simp only [beq_eq_false_iff_ne.mpr hp, Bool.false_eq_true, if_false]
  · simp only [hon, if_true]
    exact s.dev.railFail_after
  · simp only [hon, Bool.false_eq_true, if_false]

/-! ### A source shown in SUP_WAKESRC -/

theorem Dev.only_latchSrc (d : Dev) (i : Nat) : d.Only (d.latchSrc i) [srcFld i] := by
  unfold Dev.latchSrc
  split_ifs
  · exact d.only_setBit _ _ _
  · exact d.only_set _ _

theorem Dev.latchSrc_pow (d : Dev) (i : Nat) : (d.latchSrc i).pow = d.pow := by rw [(d.only_latchSrc i).1]

theorem Dev.foldl_latchSrc_pow (l : List Nat) (d : Dev) : (l.foldl Dev.latchSrc d).pow = d.pow := by
  induction l generalizing d with
  | nil => rfl
  | cons i t ih => exact (ih _).trans (d.latchSrc_pow i)

/-- Adding a power of two whose bit is 0 sets that bit. -/
theorem add_two_pow_eq_or {n i : Nat} (h : n.testBit i = false) : n + 2 ^ i = n ||| 2 ^ i := by
  have hr : n % 2 ^ i < 2 ^ i := Nat.mod_lt _ (Nat.two_pow_pos i)
  have hlow : n % 2 ^ (i + 1) = n % 2 ^ i := by
    have hbit : n / 2 ^ i % 2 = 0 := by
      rw [Nat.testBit_eq_decide_div_mod_eq] at h
      have := of_decide_eq_false h
      omega
    rw [Nat.mod_pow_succ, hbit, Nat.mul_zero, Nat.add_zero]
  have hn : 2 ^ (i + 1) * (n / 2 ^ (i + 1)) + n % 2 ^ i = n := hlow ▸ Nat.div_add_mod n _
  have hor : 2 ^ i * 1 + n % 2 ^ i = 2 ^ i * 1 ||| n % 2 ^ i := Nat.two_pow_add_eq_or_of_lt hr 1
  have hsum : 2 ^ (i + 1) * (n / 2 ^ (i + 1)) + (2 ^ i + n % 2 ^ i) = 2 ^ (i + 1) * (n / 2 ^ (i + 1)) ||| (2 ^ i + n % 2 ^ i) :=
    Nat.two_pow_add_eq_or_of_lt (by rw [Nat.pow_succ]; omega) _
  have hhigh : 2 ^ (i + 1) * (n / 2 ^ (i + 1)) + n % 2 ^ i = 2 ^ (i + 1) * (n / 2 ^ (i + 1)) ||| n % 2 ^ i :=
    Nat.two_pow_add_eq_or_of_lt (by rw [Nat.pow_succ]; omega) _
  rw [Nat.mul_one] at hor
  calc n + 2 ^ i = 2 ^ (i + 1) * (n / 2 ^ (i + 1)) + (2 ^ i + n % 2 ^ i) := by omega
    _ = (2 ^ (i + 1) * (n / 2 ^ (i + 1)) ||| n % 2 ^ i) ||| 2 ^ i := by rw [hsum, hor, Nat.or_comm (2 ^ i), Nat.or_assoc]
    _ = n ||| 2 ^ i := by rw [← hhigh, hn]

/-- Setting one bit of a field that holds its width sets that bit alone. -/
theorem Dev.setBit_true_bit (d : Dev) {f : Fld} {i j : Nat} (hi : i < f.w) (hj : j < f.w) :
    (d.setBit f i true).bit f j = (decide (j = i) || d.bit f j) := by
  unfold Dev.setBit
  simp only [if_true]
  split_ifs with h
  · by_cases hji : j = i
    · subst hji; simp [h]
    · simp [hji]
  · have hbit : (d.get f).testBit i = false := by simpa [Dev.bit, bitOf_eq_testBit] using h
    have hadd := add_two_pow_eq_or hbit
    simp only [Dev.bit, bitOf_eq_testBit, Dev.get_set_same, hadd, Nat.testBit_mod_two_pow, Nat.testBit_or, Nat.testBit_two_pow, hj,
      decide_true, Bool.true_and]
    rw [Bool.or_comm]
    simp [eq_comm]

theorem latchRule : LatchRule := by
  intro d i
  refine ⟨d.only_latchSrc _, fun hi j hj => ?_, fun hi => ?_⟩
  · have hlatch : d.latchSrc i.val = d.setBit F.SUP_WAKESRC_VBUS i.val true := by simp [Dev.latchSrc, srcFld, hi]
    rw [hlatch]
    exact d.setBit_true_bit hi hj
  · have hlatch : d.latchSrc i.val = d.set (bitFld 0x1014 i.val) 1 := by simp [Dev.latchSrc, srcFld, Nat.not_lt.mpr hi]
    rw [hlatch, Dev.get_set_same]
    rfl

/-! ### Wakes and seconds (R62, R63, R74, R88) -/

/-- A source that fires in a dormant part. -/
theorem Dev.wakeFires_dormant {d : Dev} {i : Nat} (sag : Bool) (hd : d.isDormant = true) (hf : d.mayFire i = true) :
    FiredDormant d (d.wakeFires i sag) i sag := by
  have hw : d.wakeFires i sag = if !d.pow.discharge then (if d.wakeEnabled i then (d.latchSrc i).wakeUp sag else d.latchSrc i)
      else if d.pow.newFiring then d.latchSrc i else (d.latchSrc i).addFired i := by
    simp only [Dev.wakeFires, hf, hd, Bool.not_true, Bool.false_eq_true, if_false, if_true]
  have hpow := d.latchSrc_pow i
  unfold FiredDormant
  by_cases hdis : d.pow.discharge = true
  · rw [hw, if_pos hdis, if_neg (by simp [hdis])]
    split_ifs
    · exact (Dev.withPow_self hpow).symm
    · rw [Dev.addFired, Dev.modPow, hpow]
  · rw [if_neg hdis, hw, if_pos (show (!d.pow.discharge) = true by simpa using hdis)]
    split_ifs
    · exact Dev.woken_wakeUp _ sag
    · rfl

theorem Dev.isDormant_of_up {d : Dev} (h : d.up = true) : d.isDormant = false := by
  simp only [Dev.up, Dev.isDormant, Dev.power] at *
  cases hp : d.pow.state <;> simp_all

/-- Leaving DOZE is being in RUN, for a part that is up. -/
theorem Dev.rouse_of_up {d : Dev} (h : d.up = true) : d.rouse = { d with pow := { d.pow with state := .run } } := by
  unfold Dev.rouse
  split_ifs with hz
  · rfl
  · have hrun : d.pow.state = .run := by
      simp only [Dev.up] at h
      cases hp : d.pow.state <;> simp_all
    rw [← hrun]

theorem wakesRule : WakesRule := by
  intro s
  refine ⟨fun i sag hf => Ends.of_always ?_, fun i sag hd hf => Ends.of_always (Dev.wakeFires_dormant sag hd hf), fun i sag hup hf => Ends.of_always ?_,
    fun i sag hd hup => Ends.of_always ?_, fun sag hdis => Ends.of_always ?_, fun sag hdis => Ends.of_always ?_⟩
  · simp only [Dev.wakeFires, hf, Bool.not_false, if_true]
  · simp only [Dev.wakeFires, hf, Dev.isDormant_of_up hup, hup, Bool.not_true, Bool.false_eq_true, if_false]
    by_cases hst : s.dev.get F.SUP_STAT_STAGE = 0
    · simp only [hst, ne_eq, not_true_eq_false, if_false, if_true]
      split_ifs
      · exact Dev.rouse_of_up hup
      · rfl
    · simp only [hst, ne_eq, not_false_eq_true, if_false, if_true]
      rw [Dev.addFired, Dev.modPow, Dev.latchSrc_pow]
  · simp only [Dev.wakeFires, hd, hup, Bool.not_false, Bool.false_eq_true, if_false, if_true, ite_self]
  · simp only [Dev.holdEnd, hdis, Bool.not_true, Bool.false_eq_true, if_false]
    have hsame : ((s.dev.modPow fun x => { x with discharge := false }).isDormant && (s.dev.modPow fun x => { x with discharge := false }).wakeDue) =
        (s.dev.isDormant && s.dev.wakeDue) := rfl
    simp only [hsame, Bool.and_eq_true]
    split_ifs
    · exact Dev.woken_wakeUp _ sag
    · rfl
  · simp only [Dev.holdEnd, hdis, Bool.not_false, if_true]

theorem secondsRule : SecondsRule := by
  intro s sag
  refine ⟨fun hup => Ends.of_always ?_, fun hp => Ends.of_always ?_, fun hup hp => Ends.of_always ?_⟩
  · simp only [Dev.secondsTick, hup, if_true]
    exact ⟨Dev.get_set_same .., Dev.only_set _ _ _⟩
  · have hup : s.dev.up = false := by simp only [Dev.up, Dev.power] at hp ⊢; rw [hp]; rfl
    have htick : s.dev.secondsTick sag = (s.dev.set F.SUP_SECONDS_COUNT (s.dev.get F.SUP_SECONDS_COUNT + 1)).wakeFires 7 sag := by
      simp only [Dev.secondsTick, hup, hp, Bool.false_eq_true, if_false, beq_self_eq_true, if_true]
    have halarm := s.dev.get_set_ne (f := F.SUP_SECONDS_COUNT) (g := F.SUP_ALARM_COUNT) (s.dev.get F.SUP_SECONDS_COUNT + 1) (by decide)
    have hx := s.dev.only_set F.SUP_SECONDS_COUNT (s.dev.get F.SUP_SECONDS_COUNT + 1)
    rw [htick]
    refine ⟨_, s.dev.get_set_same .., hx, ?_⟩
    have hpx : (s.dev.set F.SUP_SECONDS_COUNT (s.dev.get F.SUP_SECONDS_COUNT + 1)).power = .dormantTime := hp
    generalize s.dev.set F.SUP_SECONDS_COUNT (s.dev.get F.SUP_SECONDS_COUNT + 1) = x at *
    have hfire : x.mayFire 7 = decide (x.get F.SUP_SECONDS_COUNT = s.dev.get F.SUP_ALARM_COUNT) := by
      simp [Dev.mayFire, hpx, halarm, beq_eq_decide]
    split_ifs with h
    · exact Dev.wakeFires_dormant sag (by simp [Dev.isDormant, hpx]) (by rw [hfire, decide_eq_true h])
    · simp [Dev.wakeFires, hfire, h]
  · simp only [Dev.secondsTick, hup, beq_eq_false_iff_ne.mpr hp, Bool.false_eq_true, if_false]

/-! ### Start-up (R29, R52, R58, R89, R91) -/

/-- Each source of a list kept for the end of the discharge hold. -/
theorem Dev.foldl_addFired (l : List Nat) (d : Dev) :
    l.foldl Dev.addFired d = d.withPow { d.pow with fired := l.foldl (fun a i => a ||| 2 ^ i) d.pow.fired } := by
  induction l generalizing d with
  | nil => rfl
  | cons i t ih => rw [List.foldl_cons, ih]; rfl

/-- The release of a reset held while dormant (R65, R584). -/
theorem Dev.releaseHold_dormant {d : Dev} (sag : Bool) (holds : Nat) (hp : d.power = .heldDormant) {d1 : Dev} (hd1 : d1 = d.setPower d.dormantKind)
    {on : List Nat} (hon : on = (List.range 9).filter fun i => bitOf holds i && d1.mayFire i && d1.wakeEnabled i) :
    d.releaseHold sag holds = if on = [] then d1
      else if d.pow.discharge = true then (on.foldl Dev.latchSrc d1).withPow { d1.pow with fired := on.foldl (fun a i => a ||| 2 ^ i) d.pow.fired }
      else (on.foldl Dev.latchSrc d1).wakeUp sag := by
  have hpow := Dev.foldl_latchSrc_pow on d1
  have hdis : d1.pow.discharge = d.pow.discharge := by rw [hd1]; rfl
  have hrel : d.releaseHold sag holds = if (on.foldl Dev.latchSrc d1).pow.discharge then on.foldl Dev.addFired (on.foldl Dev.latchSrc d1)
      else if !on.isEmpty then (on.foldl Dev.latchSrc d1).wakeUp sag else on.foldl Dev.latchSrc d1 := by
    simp only [Dev.releaseHold, hp, hon, hd1]
  have hfired : d1.pow.fired = d.pow.fired := by rw [hd1]; rfl
  rw [hrel, Dev.foldl_addFired, hpow, hdis, hfired]
  cases on with
  | nil => simp [Dev.withPow, ← hfired]
  | cons i t => simp

/-- A register field after the registers of a range are reset. -/
theorem Dev.resetRange_get (d : Dev) (lo hi : Nat) (g : Fld) :
    (d.resetRange lo hi).get g = if fldId g < 32 * lo ∨ 32 * hi ≤ fldId g then d.get g else g.rst := by
  have hfind := mapFind_filter (fun k => decide (k < 32 * lo) || decide (32 * hi ≤ k)) d.fld (fldId g)
  simp only [Dev.get, mapGet, Dev.resetRange, mapDropRange, hfind, Bool.or_eq_true, decide_eq_true_eq]
  split_ifs <;> rfl

/-- From `d` to `e` only registers of the key block have changed, and the count of free values. -/
def Dev.KeyRegs (d e : Dev) : Prop :=
  (∃ m n, e = { d with fld := m, free := n }) ∧ ∀ g : Fld, fldId g / 32 < 0x17000 ∨ 0x17100 ≤ fldId g / 32 → e.get g = d.get g

theorem Dev.KeyRegs.trans {d e x : Dev} (h : d.KeyRegs e) (k : e.KeyRegs x) : d.KeyRegs x := by
  obtain ⟨⟨m, n, rfl⟩, hg⟩ := h
  obtain ⟨⟨m', n', rfl⟩, hk⟩ := k
  exact ⟨⟨m', n', rfl⟩, fun g hout => (hk g hout).trans (hg g hout)⟩

theorem Dev.Only.keyRegs {d e : Dev} {fs : List Fld} (h : d.Only e fs) (hfs : ∀ f ∈ fs, 0x17000 ≤ fldId f / 32 ∧ fldId f / 32 < 0x17100) :
    d.KeyRegs e := by
  obtain ⟨m, rfl⟩ := h.eq_with
  refine ⟨⟨m, d.free, rfl⟩, fun g hg => h.2 g fun f hf hfg => ?_⟩
  have := hfs f hf
  rw [hfg] at this
  omega

theorem Dev.keyRegs_resetRange (d : Dev) {lo hi : Nat} (hlo : 0x17000 ≤ lo) (hhi : hi ≤ 0x17100) : d.KeyRegs (d.resetRange lo hi) := by
  refine ⟨⟨_, _, rfl⟩, fun g hg => ?_⟩
  rw [Dev.resetRange_get, if_pos (by omega)]

/-- The registers that show the key fuses. -/
def lcsShown : List Fld := fuseShown.drop 2

theorem Dev.only_showLcs' (d : Dev) : d.Only d.showLcs lcsShown := by
  have h : d.Only d.showLcs _ := ((((((((((d.only_setB _ _).trans (Dev.only_setB _ _ _)).trans (Dev.only_setB _ _ _)).trans (Dev.only_setB _ _ _)).trans
    (Dev.only_setB _ _ _)).trans (Dev.only_set _ _ _)).trans (Dev.only_set _ _ _)).trans (Dev.only_set _ _ _)).trans (Dev.only_set _ _ _)).trans
    (Dev.only_set _ _ _)).trans (Dev.only_set _ _ _)
  exact h.mono (by decide)

/-- The challenge registers alone are drawn anew. -/
theorem Dev.drawChal_keeps (d : Dev) : d.KeyRegs d.drawChal ∧ ∀ f ∈ [F.LCS_STAT_KD, F.LCS_STAT_DSKOK], d.drawChal.get f = d.get f := by
  unfold Dev.drawChal
  split_ifs
  · have h := Dev.only_foldl (flds := fun i => [F.LCS_CHAL_CHAL i])
      (fun x i => x.only_set (F.LCS_CHAL_CHAL i) (Config.fresh (d.free + i) 32).toNat) (List.range 4) d
    obtain ⟨⟨m, n, heq⟩, hkeep⟩ := h.keyRegs (by decide)
    refine ⟨⟨⟨m, d.free + 4, by rw [heq]⟩, hkeep⟩, fun f hf => h.2 f ?_⟩
    rcases List.mem_pair.mp hf with rfl | rfl <;> decide
  · refine ⟨d.keyRegs_resetRange (by decide) (by decide), fun f hf => ?_⟩
    rw [Dev.resetRange_get]
    rcases List.mem_pair.mp hf with rfl | rfl <;> exact if_pos (by decide)

/-- A pin while a failed self-test holds both (R492). -/
theorem Dev.showPin_stuck {d : Dev} (h : d.pow.state = .stuck) (x : Nat) : d.showPin x = d.setB (F.ALT_CFG_STATE x) true := by
  simp only [Dev.showPin, h, beq_self_eq_true, Bool.true_or]

theorem Dev.selfTest_failed {d : Dev} {chk : Fin 4} (hchk : chk ≠ 0) (hp : d.power = .released) :
    d.selfTest chk.val = (((((d.setPower .stuck).set F.SUP_BOOT_STFAIL 1).set F.SUP_BOOT_CHK chk.val).setB (F.ALT_CFG_STATE 0) true).setB
      (F.ALT_CFG_STATE 1) true) := by
  have hne : chk.val ≠ 0 := fun h => hchk (Fin.ext h)
  have hstep : d.selfTest chk.val = ((((d.setPower .stuck).set F.SUP_BOOT_STFAIL 1).set F.SUP_BOOT_CHK chk.val).showPin 0).showPin 1 := by
    simp only [Dev.selfTest, hp, bne_self_eq_false, Bool.false_eq_true, if_false, hne]
    rfl
  rw [hstep, Dev.showPin_stuck (d := ((d.setPower .stuck).set F.SUP_BOOT_STFAIL 1).set F.SUP_BOOT_CHK chk.val) rfl, Dev.showPin_stuck rfl]

/-- What the wipe of the key store leaves (R533). -/
theorem Dev.wipeKeys_is (d : Dev) : (∃ m n, d.wipeKeys = { d with
      fld := m, free := n, fuse := d.retireSlots.fuse, key := { d.key with kd := none, dsk := d.deriveDsk.key.dsk, buf := [] } }) ∧
    (∀ g : Fld, fldId g / 32 < 0x17000 ∨ 0x17100 ≤ fldId g / 32 → d.wipeKeys.get g = d.get g) ∧
    d.wipeKeys.get F.LCS_STAT_KD = 0 ∧ d.wipeKeys.get F.LCS_STAT_DSKOK = 1 := by
  obtain ⟨a, ha⟩ : ∃ a : Dev, a = (d.resetRange 0x170A0 0x170C0).set F.LCS_STAT_KD 0 := ⟨_, rfl⟩
  obtain ⟨b, hb⟩ : ∃ b : Dev, b = a.set F.LCS_STAT_DSKOK 1 := ⟨_, rfl⟩
  obtain ⟨x, hx⟩ : ∃ x : Dev, x = { b with
      fuse := d.retireSlots.fuse, key := { d.key with kd := none, dsk := d.deriveDsk.key.dsk, buf := [] } } := ⟨_, rfl⟩
  have hwipe : d.wipeKeys = x.showLcs := by rw [hx, hb, ha]; rfl
  have hreg : d.KeyRegs b := by
    rw [hb, ha]
    exact ((d.keyRegs_resetRange (by decide) (by decide)).trans ((Dev.only_set _ _ _).keyRegs (by decide))).trans
      ((Dev.only_set _ _ _).keyRegs (by decide))
  have hshow := x.only_showLcs'
  have hget : ∀ g, x.get g = b.get g := fun g => by rw [hx]; rfl
  obtain ⟨⟨m, n, hbd⟩, hkeep⟩ := hreg
  obtain ⟨m', hm'⟩ := hshow.eq_with
  rw [hwipe]
  refine ⟨⟨m', n, by rw [hm', hx, hbd]⟩, fun g hg => ?_, ?_, ?_⟩
  · rw [(hshow.keyRegs (by decide)).2 g hg, hget, hkeep g hg]
  · rw [hshow.2 _ (by decide), hget, hb, Dev.get_set_ne _ _ (by decide), ha, Dev.get_set_same]
    rfl
  · rw [hshow.2 _ (by decide), hget, hb, Dev.get_set_same]
    rfl

/-- The end of the start-up wipe, before a rail failure's event. -/
theorem Dev.wiped_is (d : Dev) : ∃ x : Dev, d.wipeKeys.drawChal = x ∧ (∃ m n, x = { d with
      fld := m, free := n, fuse := d.retireSlots.fuse, key := { d.key with kd := none, dsk := d.deriveDsk.key.dsk, buf := [] } }) ∧
    (∀ g : Fld, fldId g / 32 < 0x17000 ∨ 0x17100 ≤ fldId g / 32 → x.get g = d.get g) ∧ x.get F.LCS_STAT_KD = 0 ∧ x.get F.LCS_STAT_DSKOK = 1 := by
  obtain ⟨⟨m, n, hm⟩, hkeep, hkd, hdsk⟩ := d.wipeKeys_is
  obtain ⟨⟨⟨m', n', hm'⟩, hkeep'⟩, hflds⟩ := d.wipeKeys.drawChal_keeps
  refine ⟨_, rfl, ⟨m', n', by rw [hm', hm]⟩, fun g hg => (hkeep' g hg).trans (hkeep g hg), ?_, ?_⟩
  · rw [hflds _ (by simp), hkd]
  · rw [hflds _ (by simp), hdsk]

theorem startUpRule : StartUpRule := by
  intro s
  refine ⟨fun sag holds hp => Ends.of_always ?_, fun sag holds hp => Ends.of_always ?_, fun sag holds hp => Ends.of_always ?_,
    fun hp => Ends.of_always ?_, fun hp => Ends.of_always ?_, fun hp => Ends.of_always ?_, fun chk hchk hp => Ends.of_always ?_,
    fun chk hp => Ends.of_always ?_, fun hp => Ends.of_always ?_, fun hp => Ends.of_always ?_⟩
  · simp only [Dev.releaseHold, hp]
    exact released_release s.dev sag
  · intro d1 on d2
    rw [Dev.releaseHold_dormant sag holds.toNat hp (d1 := d1) rfl (on := on) rfl]
    split_ifs with hnil hdis
    · rfl
    · rfl
    · exact Dev.woken_wakeUp _ sag
  · unfold Dev.releaseHold
    split <;> simp_all
  · simp only [hp, beq_self_eq_true, if_true]
    rfl
  · simp only [beq_eq_false_iff_ne.mpr hp, Bool.false_eq_true, if_false]
  · simp only [Dev.selfTest, hp]
    rfl
  · have hchanged := ((((s.dev.setPower .stuck).only_set F.SUP_BOOT_STFAIL 1).trans (Dev.only_set _ F.SUP_BOOT_CHK chk.val)).trans
      (Dev.only_setB _ (F.ALT_CFG_STATE 0) true)).trans (Dev.only_setB _ (F.ALT_CFG_STATE 1) true)
    rw [Dev.selfTest_failed hchk hp]
    refine ⟨?_, ?_, ?_, Dev.setB_get_same _ _ rfl, hchanged⟩
    · simp (disch := decide) only [Dev.setB_get_ne, Dev.get_set_ne, Dev.get_set_same]
      rfl
    · simp (disch := decide) only [Dev.setB_get_ne, Dev.get_set_same]
      exact Nat.mod_eq_of_lt (b := 16) (chk.isLt.trans (by decide))
    · simp (disch := decide) only [Dev.setB_get_ne]
      exact Dev.setB_get_same _ _ rfl
  · simp only [Dev.selfTest, bne_iff_ne.mpr hp, if_true]
  · obtain ⟨x, hx, ⟨m, n, heq⟩, hkeep, hkd, hdsk⟩ := Dev.wiped_is
      { s.dev with ecc := { s.dev.ecc with sram := [], epm := [], part := [], partPoison := [] } }
    have hdone : s.dev.wipeDone = if s.dev.pow.railFault then (x.modPow fun x => { x with state := .run, railFault := false }).fault 0x240 53
        else x.modPow fun x => { x with state := .run, railFault := false } := by
      simp only [Dev.wipeDone, hp, bne_self_eq_false, Bool.false_eq_true, if_false, hx]
    refine ⟨_, hdone, ?_, hkeep, hkd, hdsk⟩
    rw [heq]
    rfl
  · simp only [Dev.wipeDone, bne_iff_ne.mpr hp, if_true]

/-- Settles O13. -/
theorem resetsAndWakes : Obligations.ResetsAndWakes := ⟨resetsRule, startUpRule, latchRule, wakesRule, secondsRule⟩

end Sys2Proof.Machine

/-!
SUPPORT. The shutdown sequence: its stages, SUP_SHUT and what follows by itself (chapter 03).
-/
namespace Sys2Proof.Machine

open Sys2Proof

/-! ### The stages of a shutdown (R71, R73, R85, R175, R419, R439) -/

theorem Dev.only_limitRise (d : Dev) : d.Only d.limitRise [F.RAT_STAT_LIMIT] := by
  unfold Dev.limitRise
  split_ifs
  · exact d.only_set _ _
  · exact Dev.Only.refl _ _

/-- What S1 shows, before it tells anybody. -/
def Dev.s1Shown (d : Dev) : Dev :=
  (((d.setPower .run).set F.SUP_STAT_STAGE 1).set F.SUP_STATE_CUR 5).modPow fun x => { x with inputLatched := false, fired := 0 }

theorem Dev.only_s1Shown (d : Dev) :
    ({ d with pow := { d.pow with state := .run, inputLatched := false, fired := 0 } } : Dev).Only d.s1Shown [F.SUP_STAT_STAGE, F.SUP_STATE_CUR] :=
  ((d.only_set F.SUP_STAT_STAGE 1).trans (Dev.only_set _ F.SUP_STATE_CUR 5)).withPow _

theorem Dev.s1Shown_get (d : Dev) : d.s1Shown.get F.SUP_STAT_STAGE = 1 ∧ d.s1Shown.get F.SUP_STATE_CUR = 5 :=
  ⟨(Dev.get_set_ne _ 5 (by decide)).trans (Dev.get_set_same ..), Dev.get_set_same ..⟩

/-- The abort's own registers, before LIMIT_N may rise. -/
def Dev.abortShown (d : Dev) : Dev :=
  { ((((d.set F.SUP_STAT_STAGE 0).set F.SUP_STATE_CUR 4).set F.SUP_SHUT_CAUSE_SOFT 0).set F.SUP_SHUT_CAUSE_LOWPACK 0).set F.SUP_SHUT_CAUSE_WARNDLY 0 with
    pow := { d.pow with aborting := some d.causes, abortWait := false, inputLatched := false, fired := 0 } }

theorem Dev.leaveShutdown_eq (d : Dev) : d.leaveShutdown = d.abortShown.limitRise := rfl

theorem Dev.only_abortShown (d : Dev) :
    ({ d with pow := { d.pow with aborting := some d.causes, abortWait := false, inputLatched := false, fired := 0 } } : Dev).Only d.abortShown
      [F.SUP_STAT_STAGE, F.SUP_STATE_CUR, F.SUP_SHUT_CAUSE_SOFT, F.SUP_SHUT_CAUSE_LOWPACK, F.SUP_SHUT_CAUSE_WARNDLY] :=
  (((((d.only_set _ _).trans (Dev.only_set _ _ _)).trans (Dev.only_set _ _ _)).trans (Dev.only_set _ _ _)).trans (Dev.only_set _ _ _)).withPow _

theorem Dev.abortShown_get (d : Dev) : d.abortShown.get F.SUP_STAT_STAGE = 0 ∧ d.abortShown.get F.SUP_STATE_CUR = 4 ∧
    d.abortShown.get F.SUP_SHUT_CAUSE_SOFT = 0 ∧ d.abortShown.get F.SUP_SHUT_CAUSE_LOWPACK = 0 ∧ d.abortShown.get F.SUP_SHUT_CAUSE_WARNDLY = 0 := by
  have hget (g : Fld) : d.abortShown.get g = (((((d.set F.SUP_STAT_STAGE 0).set F.SUP_STATE_CUR 4).set F.SUP_SHUT_CAUSE_SOFT 0).set
    F.SUP_SHUT_CAUSE_LOWPACK 0).set F.SUP_SHUT_CAUSE_WARNDLY 0).get g := rfl
  simp (disch := decide) only [hget, Dev.get_set_ne, Dev.get_set_same]
  decide

theorem Dev.leaveShutdown_keeps (d : Dev) {g : Fld} (hg : fldId F.RAT_STAT_LIMIT ≠ fldId g) : d.leaveShutdown.get g = d.abortShown.get g :=
  d.abortShown.only_limitRise.2 g fun f hf => by rwa [List.mem_singleton.mp hf]

theorem Dev.leaveShutdown_pow (d : Dev) :
    d.leaveShutdown.pow = { d.pow with aborting := some d.causes, abortWait := false, inputLatched := false, fired := 0 } := by
  rw [d.leaveShutdown_eq, d.abortShown.only_limitRise.1, d.only_abortShown.1]

/-- No cause stands where none of its bits is set. -/
theorem Dev.causes_zero {d : Dev} (hs : d.get F.SUP_SHUT_CAUSE_SOFT = 0) (hl : d.get F.SUP_SHUT_CAUSE_LOWPACK = 0)
    (hw : d.get F.SUP_SHUT_CAUSE_WARNDLY = 0) : d.causes = 0 := by
  simp only [Dev.causes, Dev.is, hs, hl, hw]
  rfl

theorem shutdownStagesRule : ShutdownStagesRule := by
  intro d
  refine ⟨⟨d.s1Shown, d.s1Shown_get.1, d.s1Shown_get.2, d.only_s1Shown, rfl⟩, ?_, ?_, ?_⟩
  · intro run
    have hrun : ((List.range 256).filter fun s => d.strState s == 2 || d.strState s == 3) = run :=
      List.filter_congr fun i _ => by simp [beq_eq_decide]
    refine ⟨(d.set F.SUP_STAT_STAGE 2).modPow fun x => { x with s2Streams := x.s2Streams ++ run }, d.startS2, rfl, Dev.get_set_same ..,
      (d.only_set F.SUP_STAT_STAGE 2).withPow _, ?_, ?_⟩ <;> rw [Dev.startS2, hrun]
    · exact Dev.only_set _ _ _
    · exact Dev.get_set_same ..
  · unfold Dev.abortShutdown
    split_ifs <;> rfl
  · obtain ⟨hst, hcur, hs, hl, hw⟩ := d.abortShown_get
    refine ⟨?_, ?_, Dev.causes_zero ?_ ?_ ?_, ?_⟩
    · rw [d.leaveShutdown_keeps (by decide), hst]
    · rw [d.leaveShutdown_keeps (by decide), hcur]
    · rw [d.leaveShutdown_keeps (by decide), hs]
    · rw [d.leaveShutdown_keeps (by decide), hl]
    · rw [d.leaveShutdown_keeps (by decide), hw]
    · exact d.only_abortShown.trans (d.abortShown.only_limitRise)

/-! ### What follows by itself (R71, R73) -/

/-- What an abort that has left the sequence does at a command's end. -/
def Dev.afterAbort (d : Dev) : Dev :=
  match d.pow.aborting with
  | some c => if d.s2Flushing then d else d.endAbort c
  | none => d

/-- Where S2 still runs, or none does, and no abort waits, only one that has left the sequence goes on. -/
theorem Dev.progress_of_idle {d : Dev} (hst : (d.get F.SUP_STAT_STAGE = 2 && !d.s2Busy && !d.pow.abortWait) = false)
    (hw : (d.pow.abortWait && d.grn.commit.isNone) = false) : d.progress = d.afterAbort := by
  simp only [Dev.progress, hst, hw, Bool.false_eq_true, if_false]
  rfl

theorem Dev.progress_of_s3 {d : Dev} (hst : d.get F.SUP_STAT_STAGE = 2) (hb : d.s2Busy = false) (hw : d.pow.abortWait = false)
    (ha : d.pow.aborting = none) : d.progress = d.startS3 := by
  have hwait : d.startS3.pow.abortWait = false := hw
  have habort : d.startS3.pow.aborting = none := ha
  simp only [Dev.progress, hst, hb, hw, hwait, habort, decide_true, Bool.not_false, Bool.and_self, Bool.false_and, Bool.false_eq_true, if_true, if_false]

theorem Dev.progress_of_wait {d : Dev} (hw : d.pow.abortWait = true) (hc : d.grn.commit = none) : d.progress = d.leaveShutdown.afterAbort := by
  simp only [Dev.progress, hw, hc, Bool.not_true, Bool.and_false, Bool.false_eq_true, if_false, Option.isNone_none, Bool.and_self, if_true]
  rfl

theorem shutdownProgressRule : ShutdownProgressRule := by
  intro d
  refine ⟨fun hst hb hw ha => ?_, fun hw hc => ?_, fun c hst hw ha => ?_, fun hst hw ha => ?_⟩
  · rw [Dev.progress_of_s3 hst hb hw ha]
    exact ⟨Dev.get_set_same .., (d.only_set F.SUP_STAT_STAGE 3).withPow _⟩
  · rw [Dev.progress_of_wait hw hc]
    simp only [Dev.afterAbort, d.leaveShutdown_pow]
  · rw [Dev.progress_of_idle (by rw [hst]; rfl) (by rw [hw]; rfl)]
    simp only [Dev.afterAbort, ha]
    rfl
  · rw [Dev.progress_of_idle (by rw [decide_eq_false hst]; rfl) (by rw [hw]; rfl)]
    simp only [Dev.afterAbort, ha]

/-! ### SUP_SHUT: GO, SKIP and CANCEL (R69, R75) -/

/-- The registers after a write of SUP_SHUT, before it acts. -/
def Dev.shutWritten (d : Dev) (w : Word) : Dev :=
  (((d.writeRow .bar0 R.SUP_SHUT 0 w).set F.SUP_SHUT_GO 0).set F.SUP_SHUT_SKIP 0).set F.SUP_SHUT_CANCEL 0

theorem Dev.only_shutWritten (d : Dev) (w : Word) : d.Only (d.shutWritten w) [F.SUP_SHUT_GO, F.SUP_SHUT_SKIP, F.SUP_SHUT_CANCEL] :=
  ((((d.only_writeRow .bar0 R.SUP_SHUT 0 w).trans (Dev.only_set _ _ _)).trans (Dev.only_set _ _ _)).trans (Dev.only_set _ _ _)).mono (by decide)

/-- A cause that starts S1 where no sequence runs. -/
theorem Dev.shutCause_is (d : Dev) {f : Fld} (hf : f.w = 1) : ∃ x : Dev, d.shutCause f = (if d.get F.SUP_STAT_STAGE = 0 then x.startS1 else x) ∧
    x.get f = 1 ∧ d.Only x [f] :=
  ⟨d.set f 1, rfl, by rw [Dev.get_set_same, hf]; rfl, d.only_set _ _⟩

/-- What a write of SUP_SHUT does, its own bits clear again. -/
def Dev.shutAct (n1 : Dev) (w : Word) : Dev :=
  let n2 := if bitOf w.toNat 0 then n1.shutCause F.SUP_SHUT_CAUSE_SOFT else n1
  let n3 := if bitOf w.toNat 1 then n2.startS2 else n2
  if bitOf w.toNat 2 then
    let n4 := n3.set F.SUP_SHUT_CAUSE_SOFT 0
    if n4.causes = 0 then n4.abortShutdown else n4
  else n3

theorem Dev.writeShut_eq (d : Dev) (w : Word) : d.writeShut w = d.regWrite .bar0 R.SUP_SHUT 0 w
    [(bitOf w.toNat 1 && d.get F.SUP_STAT_STAGE != 1, .eState),
     (bitOf w.toNat 2 && (d.get F.SUP_STAT_STAGE == 0 || d.get F.SUP_STAT_STAGE == 4), .eState)]
    fun n => (((n.set F.SUP_SHUT_GO 0).set F.SUP_SHUT_SKIP 0).set F.SUP_SHUT_CANCEL 0).shutAct w := rfl

/-- A write of SUP_SHUT acts where SKIP comes in S1 and CANCEL in S1 to S3, and is rejected with E_STATE otherwise. -/
theorem Dev.writeShut_is {d : Dev} {w : Word} (hup : d.up = true) (hres : setsReserved R.SUP_SHUT w = false) :
    d.writeShut w = if (bitOf w.toNat 1 && d.get F.SUP_STAT_STAGE != 1 ||
        bitOf w.toNat 2 && (d.get F.SUP_STAT_STAGE == 0 || d.get F.SUP_STAT_STAGE == 4)) = true then d.recordGlb 0x1034 .eState
      else (d.shutWritten w).shutAct w := by
  rw [d.writeShut_eq]
  generalize (bitOf w.toNat 1 && d.get F.SUP_STAT_STAGE != 1) = skip
  generalize (bitOf w.toNat 2 && (d.get F.SUP_STAT_STAGE == 0 || d.get F.SUP_STAT_STAGE == 4)) = cancel
  by_cases hbad : (skip || cancel) = true
  · rw [if_pos hbad, Dev.regWrite_rejected hup (st := .eState) (by decide)]
    · rfl
    · rw [hres]
      cases skip with
      | true => cases cancel <;> rfl
      | false => rw [Bool.false_or] at hbad; rw [hbad]; rfl
  · have hnone : skip = false ∧ cancel = false := by simpa using hbad
    rw [if_neg hbad, Dev.regWrite_done hup]
    · rfl
    · rw [hres, hnone.1, hnone.2]
      rfl

theorem Dev.writeShut_go {d : Dev} {w : Word} (hup : d.up = true) (hres : setsReserved R.SUP_SHUT w = false) (h0 : bitOf w.toNat 0 = true)
    (h1 : bitOf w.toNat 1 = false) (h2 : bitOf w.toNat 2 = false) : d.writeShut w = (d.shutWritten w).shutCause F.SUP_SHUT_CAUSE_SOFT := by
  rw [Dev.writeShut_is hup hres, Dev.shutAct, h0, h1, h2]
  simp only [Bool.false_and, Bool.or_self, Bool.false_eq_true, if_false, if_true]

theorem Dev.writeShut_skip {d : Dev} {w : Word} (hup : d.up = true) (hres : setsReserved R.SUP_SHUT w = false) (h0 : bitOf w.toNat 0 = false)
    (h1 : bitOf w.toNat 1 = true) (h2 : bitOf w.toNat 2 = false) :
    d.writeShut w = if d.get F.SUP_STAT_STAGE = 1 then (d.shutWritten w).startS2 else d.recordGlb 0x1034 .eState := by
  rw [Dev.writeShut_is hup hres, Dev.shutAct, h0, h1, h2]
  simp only [Bool.false_and, Bool.true_and, Bool.or_false, bne_iff_ne, Bool.false_eq_true, if_false, if_true, ne_eq, ite_not]

theorem Dev.writeShut_cancel {d : Dev} {w : Word} (hup : d.up = true) (hres : setsReserved R.SUP_SHUT w = false) (h0 : bitOf w.toNat 0 = false)
    (h1 : bitOf w.toNat 1 = false) (h2 : bitOf w.toNat 2 = true) :
    d.writeShut w = if d.get F.SUP_STAT_STAGE = 0 ∨ d.get F.SUP_STAT_STAGE = 4 then d.recordGlb 0x1034 .eState
      else if ((d.shutWritten w).set F.SUP_SHUT_CAUSE_SOFT 0).causes = 0 then ((d.shutWritten w).set F.SUP_SHUT_CAUSE_SOFT 0).abortShutdown
      else (d.shutWritten w).set F.SUP_SHUT_CAUSE_SOFT 0 := by
  rw [Dev.writeShut_is hup hres, Dev.shutAct, h0, h1, h2]
  simp only [Bool.false_and, Bool.true_and, Bool.false_or, Bool.or_eq_true, beq_iff_eq, Bool.false_eq_true, if_false, if_true]

theorem bitOf_of_bits {n lo k j : Nat} (h : bits n lo k = 0) (hj : j < k) : bitOf n (lo + j) = false := by
  have ht := testBit_bits n lo k j
  rw [h, Nat.zero_testBit, decide_eq_true hj, Bool.true_and] at ht
  rw [bitOf_eq_testBit, ← ht]

/-- With SOFT clear, the sequence has no cause where neither LOWPACK nor WARNDLY stands. -/
theorem Dev.causes_withoutSoft {d : Dev} (h : d.get F.SUP_SHUT_CAUSE_SOFT = 0) :
    d.causes = 0 ↔ (d.is F.SUP_SHUT_CAUSE_LOWPACK || d.is F.SUP_SHUT_CAUSE_WARNDLY) = false := by
  have hs : d.is F.SUP_SHUT_CAUSE_SOFT = false := by rw [Dev.is, h]; rfl
  simp only [Dev.causes, hs]
  cases d.is F.SUP_SHUT_CAUSE_LOWPACK <;> cases d.is F.SUP_SHUT_CAUSE_WARNDLY <;> decide

theorem shutdownStartsRule : ShutdownStartsRule := by
  intro s hup
  refine ⟨fun w hres hw => Ends.of_act hup ?_, Ends.of_act hup ?_, Ends.of_act hup ?_⟩
  · have h1 : bitOf w.toNat 1 = false := bitOf_of_bits (j := 0) hw (by decide)
    have h2 : bitOf w.toNat 2 = false := bitOf_of_bits (j := 1) hw (by decide)
    rw [Dev.writeShut_go hup hres (bitOf_withBit_same w (by decide)) (by rw [bitOf_withBit_ne w (by decide) (by decide), h1])
      (by rw [bitOf_withBit_ne w (by decide) (by decide), h2])]
    obtain ⟨x, hx, hsoft, honly⟩ := (s.dev.shutWritten (withBit w 0)).shutCause_is (f := F.SUP_SHUT_CAUSE_SOFT) rfl
    have hw := s.dev.only_shutWritten (withBit w 0)
    rw [hw.2 _ (by decide)] at hx
    exact ⟨x, hx, hsoft, (hw.trans honly).mono (by decide)⟩
  · simp only [Bool.and_eq_true, bne_iff_ne]
    by_cases hw : s.dev.is F.SUP_STAT_WARN = true ∧ s.dev.get F.SUP_WARNCFG_SHUTDLY ≠ 0
    · rw [if_pos hw, if_pos hw]
      exact s.dev.shutCause_is (f := F.SUP_SHUT_CAUSE_WARNDLY) rfl
    · rw [if_neg hw, if_neg hw]
  · simp only [Bool.and_eq_true]
    by_cases hp : s.dev.is F.SUP_PACKCFG_EN = true ∧ s.dev.lowpack = true
    · rw [if_pos hp, if_pos hp]
      obtain ⟨x, hx, hc, honly⟩ := s.dev.shutCause_is (f := F.SUP_SHUT_CAUSE_LOWPACK) rfl
      exact ⟨x, by rw [hx], hc, honly⟩
    · rw [if_neg hp, if_neg hp]

/-! ### The stages follow each other (R58, R71 to R73, R83) -/

theorem Dev.atStage_iff (d : Dev) (n : Nat) : d.atStage n = true ↔ d.get F.SUP_STAT_STAGE = n ∧ d.pow.abortWait = false := by
  simp [Dev.atStage]

theorem shutdownSequenceRule : ShutdownSequenceRule := by
  intro s hup
  refine ⟨Ends.of_act hup ?_, fun w hres h0 h2 => Ends.of_act hup ?_, Ends.of_act hup ?_, Ends.of_act hup ?_, Ends.of_act hup ?_,
    Ends.of_act hup ?_, fun w hres hw => Ends.of_act hup ?_⟩
  · simp only [Dev.atStage_iff]
  · rw [Dev.writeShut_skip hup hres (by rw [bitOf_withBit_ne w (by decide) (by decide), h0]) (bitOf_withBit_same w (by decide))
      (by rw [bitOf_withBit_ne w (by decide) (by decide), h2])]
    split_ifs
    · exact ⟨_, rfl, s.dev.only_shutWritten _⟩
    · exact recordedGlb_recordGlb _ _ _
  · simp only [Dev.atStage_iff]
  · simp only [Bool.and_eq_true, Dev.atStage_iff, Bool.not_eq_true', and_assoc]
    split_ifs
    · exact ⟨_, rfl, Dev.get_set_same .., s.dev.only_set _ _⟩
    · rfl
  · simp only [Dev.atStage_iff]
    split_ifs
    · exact ⟨_, rfl, Dev.get_set_same .., s.dev.only_set _ _⟩
    · rfl
  · simp only [Dev.startS5]
    split_ifs
    · exact ⟨Dev.get_set_same .., (s.dev.only_set F.SUP_STAT_STAGE 0).withPow _⟩
    · rfl
  · have h0 : bitOf w.toNat 0 = false := bitOf_of_bits (j := 0) hw (by decide)
    have h1 : bitOf w.toNat 1 = false := bitOf_of_bits (j := 1) hw (by decide)
    rw [Dev.writeShut_cancel hup hres (by rw [bitOf_withBit_ne w (by decide) (by decide), h0])
      (by rw [bitOf_withBit_ne w (by decide) (by decide), h1]) (bitOf_withBit_same w (by decide))]
    by_cases hst : s.dev.get F.SUP_STAT_STAGE = 0 ∨ s.dev.get F.SUP_STAT_STAGE = 4
    · rw [if_pos hst, if_pos hst]
      exact recordedGlb_recordGlb _ _ _
    · rw [if_neg hst, if_neg hst]
      have hx := (s.dev.only_shutWritten (withBit w 2)).trans (Dev.only_set _ F.SUP_SHUT_CAUSE_SOFT 0)
      have hsoft := (s.dev.shutWritten (withBit w 2)).get_set_same F.SUP_SHUT_CAUSE_SOFT 0
      have hl : ((s.dev.shutWritten (withBit w 2)).set F.SUP_SHUT_CAUSE_SOFT 0).is F.SUP_SHUT_CAUSE_LOWPACK = s.dev.is F.SUP_SHUT_CAUSE_LOWPACK :=
        congrArg (· == 1) (hx.2 _ (by decide))
      have hw : ((s.dev.shutWritten (withBit w 2)).set F.SUP_SHUT_CAUSE_SOFT 0).is F.SUP_SHUT_CAUSE_WARNDLY = s.dev.is F.SUP_SHUT_CAUSE_WARNDLY :=
        congrArg (· == 1) (hx.2 _ (by decide))
      refine ⟨_, hsoft, hx.mono (by decide), ?_⟩
      simp only [Dev.causes_withoutSoft hsoft, hl, hw]
      split_ifs <;> simp_all

/-- Settles O14. -/
theorem shutdown : Obligations.Shutdown := ⟨shutdownStartsRule, shutdownStagesRule, shutdownProgressRule, shutdownSequenceRule⟩

end Sys2Proof.Machine

/-!
SUPPORT. Supply warning, PHY hold, returning input and DOZE (chapter 03).
-/
namespace Sys2Proof.Machine

open Sys2Proof

/-! ### Supply warning and PHY hold (R64, R66, R67, R80) -/

theorem warningAndHoldRule : WarningAndHoldRule := by
  intro s
  refine ⟨fun hon hw => Ends.of_always ?_, fun h => Ends.of_always ?_, fun hon hw => Ends.of_always ?_, fun h => Ends.of_always ?_,
    fun hon hh => Ends.of_always ?_, fun h => Ends.of_always ?_, fun long hon hh => Ends.of_always ?_, fun long h => Ends.of_always ?_⟩
  · simp only [Dev.warnOn, hon, hw, Bool.false_eq_true, if_true, if_false]
    exact ⟨_, rfl, Dev.get_set_same .., s.dev.only_set _ _⟩
  · rcases h with h | h <;> simp only [Dev.warnOn, h, Bool.false_eq_true, if_true, if_false, ite_self]
  · simp only [Dev.warnOff, hon, hw, if_true]
    exact ⟨_, rfl, Dev.get_set_same .., s.dev.only_set _ _⟩
  · rcases h with h | h <;> simp only [Dev.warnOff, h, Bool.false_eq_true, if_false, ite_self]
  · simp only [Dev.phyOn, hon, hh, Bool.not_false, Bool.and_self, if_true]
    exact ⟨_, rfl, Dev.get_set_same .., s.dev.only_set _ _⟩
  · rcases h with h | h <;> simp only [h, Bool.not_true, Bool.false_and, Bool.and_false, Bool.false_eq_true, if_false]
  · simp only [hon, hh, Bool.and_self, if_true]
    exact ⟨_, _, Dev.get_set_same .., s.dev.only_set _ _, rfl, rfl⟩
  · rcases h with h | h <;> simp only [h, Bool.false_and, Bool.and_false, Bool.false_eq_true, if_false]

/-! ### Input (R70, R73, R74, R130) -/

/-- The VBUS sense of a port as the charger samples it. -/
theorem Dev.vbusSample_is (d : Dev) {p v c : Nat} (hv : v < 4096) (hc : c < 4096) :
    (d.vbusSample p v c).get (F.PD_VBUS_VOLT p) = v ∧ (d.vbusSample p v c).get (F.PD_VBUS_CUR p) = c ∧
      d.Only (d.vbusSample p v c) [F.PD_VBUS_VOLT p, F.PD_VBUS_CUR p] := by
  have hne : fldId (F.PD_VBUS_CUR p) ≠ fldId (F.PD_VBUS_VOLT p) := by simp only [fldId, F.PD_VBUS_CUR, F.PD_VBUS_VOLT]; omega
  refine ⟨?_, ?_, (d.only_set _ _).trans (Dev.only_set _ _ _)⟩
  · rw [Dev.vbusSample, Dev.get_set_ne _ _ hne, Dev.get_set_same]
    exact Nat.mod_eq_of_lt hv
  · rw [Dev.vbusSample, Dev.get_set_same]
    exact Nat.mod_eq_of_lt hc

theorem inputPresentRule : InputPresentRule := by
  intro s src volt cur
  refine ⟨fun hup => Ends.of_always ?_, fun hup => Ends.of_always ?_⟩
  · simp only [hup, Bool.true_and, decide_eq_true_eq]
    by_cases hsrc : src.val < 5
    · obtain ⟨hv, hc, honly⟩ := s.dev.vbusSample_is (p := src.val) volt.isLt cur.isLt
      have hup' : (s.dev.vbusSample src.val volt.val cur.val).up = true := hup
      simp only [hsrc, if_true, Dev.inputPresent, hup']
      exact ⟨_, hv, hc, honly, rfl⟩
    · simp only [hsrc, if_false, Dev.inputPresent, hup, if_true]
  · simp only [hup, Bool.false_and, Bool.false_eq_true, if_false, Dev.inputPresent, Bool.and_eq_true, Bool.not_eq_true', and_assoc]
    split_ifs
    · rw [Dev.modPow, Dev.latchSrc_pow]
    · rw [Dev.modPow, Dev.latchSrc_pow]
    · rfl

/-- INPUT is no part of a port's condition. -/
theorem Dev.portPower_of_only {d x : Dev} (h : d.Only x [F.SUP_STAT_INPUT]) {p : Nat} (hp : p < 5) : x.portPower p = d.portPower p := by
  have hpd : x.pd = d.pd := by rw [h.1]
  have hget : ∀ g ∈ [F.PD_STAT_TCSTATE p, F.PD_STAT_FENCED p, F.PD_STAT_CONTRACT p], x.get g = d.get g := fun g hg =>
    h.2 g (by revert g; revert p; decide)
  simp only [Dev.portPower, Dev.portInput, Dev.isSink, Dev.tcState, Dev.port, Dev.is, hpd, hget (F.PD_STAT_TCSTATE p) (by simp),
    hget (F.PD_STAT_FENCED p) (by simp), hget (F.PD_STAT_CONTRACT p) (by simp)]

/-- Every source of a list is shown. -/
theorem Dev.foldl_latchSrc_bit (l : List Nat) (d : Dev) (hl : ∀ i ∈ l, i < 5) {p : Nat} (hp : p < 5) :
    (l.foldl Dev.latchSrc d).bit F.SUP_WAKESRC_VBUS p = (d.bit F.SUP_WAKESRC_VBUS p || decide (p ∈ l)) := by
  induction l generalizing d with
  | nil => simp
  | cons i t ih =>
    obtain ⟨hi, ht⟩ := List.forall_mem_cons.mp hl
    have hstep : (d.latchSrc i).bit F.SUP_WAKESRC_VBUS p = (decide (p = i) || d.bit F.SUP_WAKESRC_VBUS p) :=
      (latchRule d ⟨i, by omega⟩).2.1 hi p hp
    rw [List.foldl_cons, ih _ ht, hstep, Bool.or_comm (decide _), Bool.or_assoc]
    simp [List.mem_cons]

theorem Dev.only_foldl_latchSrc (l : List Nat) (d : Dev) (hl : ∀ i ∈ l, i < 5) : d.Only (l.foldl Dev.latchSrc d) [F.SUP_WAKESRC_VBUS] := by
  refine (Dev.only_foldl (fun x i => x.only_latchSrc i) l d).mono fun f hf => ?_
  obtain ⟨i, hi, hfi⟩ := List.mem_flatMap.mp hf
  rw [List.mem_singleton.mp hfi, srcFld, if_pos (hl i hi)]
  exact List.mem_singleton_self _

/-- Returned input latched as a wake source. -/
theorem Dev.latchInput_is (d : Dev) : ({ d with pow := { d.pow with inputLatched := true } } : Dev).Only d.latchInput
      [F.SUP_WAKESRC_VBUS, F.SUP_WAKESRC_BATID] ∧
    (∀ p < 5, d.latchInput.bit F.SUP_WAKESRC_VBUS p = (d.bit F.SUP_WAKESRC_VBUS p || d.portPower p)) ∧
    (d.packInput = true → d.latchInput.get F.SUP_WAKESRC_BATID = 1) := by
  have hl : ∀ i ∈ (List.range 5).filter d.portPower, i < 5 := fun i hi => List.mem_range.mp (List.mem_filter.mp hi).1
  obtain ⟨x, hx⟩ : ∃ x, x = ((List.range 5).filter d.portPower).foldl Dev.latchSrc d := ⟨_, rfl⟩
  have honly : d.Only x [F.SUP_WAKESRC_VBUS] := hx ▸ d.only_foldl_latchSrc _ hl
  have hbit : ∀ p < 5, x.bit F.SUP_WAKESRC_VBUS p = (d.bit F.SUP_WAKESRC_VBUS p || d.portPower p) := fun p hp => by
    rw [hx, Dev.foldl_latchSrc_bit _ d hl hp]
    simp [List.mem_filter, hp]
  obtain ⟨y, hy, hyon, hbat⟩ : ∃ y, (if d.packInput then x.latchSrc 6 else x) = y ∧ x.Only y [F.SUP_WAKESRC_BATID] ∧
      (d.packInput = true → y.get F.SUP_WAKESRC_BATID = 1) := by
    refine ⟨_, rfl, ?_, fun hp => ?_⟩
    · split_ifs
      · exact x.only_latchSrc 6
      · exact Dev.Only.refl _ _
    · rw [if_pos hp]
      exact Dev.get_set_same ..
  have hall : d.Only y [F.SUP_WAKESRC_VBUS, F.SUP_WAKESRC_BATID] := honly.trans hyon
  have hlatch : d.latchInput = y.withPow { d.pow with inputLatched := true } := by
    have hpow : y.pow = d.pow := by rw [hall.1]
    rw [← hpow, ← hy, hx]
    rfl
  rw [hlatch]
  refine ⟨hall.withPow _, fun p hp => ?_, hbat⟩
  rw [← hbit p hp]
  exact congrArg (bitOf · p) (hyon.2 _ (by decide))

theorem inputEdgeRule : InputEdgeRule := by
  intro d
  refine ⟨fun h => ?_, fun hup hin hh => ?_⟩
  · rcases h with h | h | h <;> simp [Dev.inputEdge, h]
  · have hedge : d.inputEdge = if d.get F.SUP_STAT_STAGE = 4 then (d.set F.SUP_STAT_INPUT 1).latchInput
        else if d.get F.SUP_STAT_STAGE ≠ 0 ∧ !d.is F.SUP_SHUT_CAUSE_SOFT then (d.set F.SUP_STAT_INPUT 1).abortShutdown
        else d.set F.SUP_STAT_INPUT 1 := by
      simp only [Dev.inputEdge, hup, hin, hh, Bool.not_true, Bool.or_self, Bool.false_eq_true, if_false]
    have hx := d.only_set F.SUP_STAT_INPUT 1
    refine ⟨d.set F.SUP_STAT_INPUT 1, Dev.get_set_same .., hx, fun hst => ?_, fun hst => ?_, fun hst hst' => ?_⟩
    · simp only [hedge, hst]; rfl
    · obtain ⟨honly, hbit, hbat⟩ := (d.set F.SUP_STAT_INPUT 1).latchInput_is
      rw [hedge, if_pos hst]
      refine ⟨honly, fun p hp => ?_, fun hp => hbat ?_⟩
      · rw [hbit p hp, Dev.portPower_of_only hx hp]
        exact congrArg (bitOf · p || d.portPower p) (hx.2 _ (by decide))
      · simp only [Dev.packInput, Dev.is] at hp ⊢
        simp (disch := decide) only [Dev.get_set_ne, hp]
    · rw [hedge, if_neg hst']
      cases hs : d.is F.SUP_SHUT_CAUSE_SOFT <;> simp [hst]

/-! ### DOZE (R60, R61) -/

theorem dozeRule : DozeRule := by
  intro s hup
  refine ⟨fun w hres => Ends.of_act hup ?_, Ends.of_act hup (Dev.rouse_of_up hup)⟩
  have hreq : bits (BitVec.ofNat 32 (w.toNat - bits w.toNat 4 4 * 16 + 16)).toNat 4 4 = 1 := by
    have hw := w.isLt
    simp only [bits, BitVec.toNat_ofNat]
    omega
  generalize BitVec.ofNat 32 (w.toNat - bits w.toNat 4 4 * 16 + 16) = v at *
  have hcheck : firstByRank ((setsReserved R.SUP_STATE v, .eField) :: (s.dev.changesLocked .bar0 R.SUP_STATE 0 v, .eLocked) ::
      [(decide (2 ≤ bits v.toNat 4 4), .eField), (bits v.toNat 4 4 == 1 && (s.dev.get F.SUP_STAT_STAGE != 0 || s.dev.dozeBlocked), .eState)]) =
      if s.dev.get F.SUP_STAT_STAGE ≠ 0 ∨ s.dev.dozeBlocked = true then .eState else .done := by
    rw [hres, hreq]
    by_cases hbad : s.dev.get F.SUP_STAT_STAGE ≠ 0 ∨ s.dev.dozeBlocked = true
    · have hbool : (s.dev.get F.SUP_STAT_STAGE != 0 || s.dev.dozeBlocked) = true := by simpa using hbad
      rw [if_pos hbad, hbool]; rfl
    · have hbool : (s.dev.get F.SUP_STAT_STAGE != 0 || s.dev.dozeBlocked) = false := by simpa using hbad
      rw [if_neg hbad, hbool]; rfl
  by_cases hbad : s.dev.get F.SUP_STAT_STAGE ≠ 0 ∨ s.dev.dozeBlocked = true
  · rw [if_pos hbad] at hcheck ⊢
    rw [Dev.writeState, Dev.regWrite_rejected hup (by decide) hcheck]
    exact recordedGlb_recordGlb _ _ _
  · rw [if_neg hbad] at hcheck ⊢
    rw [Dev.writeState, Dev.regWrite_done hup hcheck, hreq]
    rfl

/-- Settles O15. -/
theorem warningInputAndDoze : Obligations.WarningInputAndDoze := ⟨warningAndHoldRule, inputPresentRule, inputEdgeRule, dozeRule⟩

end Sys2Proof.Machine

/-!
SUPPORT. The Type-C ports: what their operations leave alone; then attach and detach (chapter 04).
-/
namespace Sys2Proof.Machine

open Sys2Proof

/-! ### Maps, and fields given values one after another -/

section Maps
variable {α : Type} [DecidableEq α] {dflt : α}

omit [DecidableEq α] in
theorem mapErase_erase (m : Map α) (k : Nat) : mapErase (mapErase m k) k = mapErase m k := by
  simp only [mapErase_eq_filter, List.filter_filter, Bool.and_self]

omit [DecidableEq α] in
theorem mapErase_insert (m : Map α) (k : Nat) (v : α) : mapErase (mapInsert m k v) k = mapErase m k := by
  induction m with
  | nil => simp [mapInsert, mapErase]
  | cons e t ih =>
    obtain ⟨j, w⟩ := e
    unfold mapInsert
    split_ifs with hlt
    · simp [mapErase]
    · simp only [mapErase, ih]

/-- The last write of a key counts. -/
theorem mapPut_put_same (m : Map α) (k : Nat) (u v : α) : mapPut dflt (mapPut dflt m k u) k v = mapPut dflt m k v := by
  have h : mapErase (mapPut dflt m k u) k = mapErase m k := by
    unfold mapPut
    split_ifs
    · exact mapErase_erase m k
    · rw [mapErase_insert, mapErase_erase]
  rw [mapPut, h, mapPut]

end Maps

/-- Fields given values one after another. -/
def Dev.setAll (d : Dev) (l : List (Fld × Nat)) : Dev := l.foldl (fun d e => d.set e.1 e.2) d

theorem Dev.only_setAll (d : Dev) (l : List (Fld × Nat)) : d.Only (d.setAll l) (l.map Prod.fst) := by
  have h := Dev.only_foldl (flds := fun e : Fld × Nat => [e.1]) (fun d e => d.only_set e.1 e.2) l d
  rwa [← List.map_eq_flatMap] at h

theorem Dev.setAll_get (d : Dev) {l : List (Fld × Nat)} (hl : (l.map Prod.fst).Pairwise fun f g => fldId f ≠ fldId g) {f : Fld} {v : Nat}
    (hf : (f, v) ∈ l) : (d.setAll l).get f = v % 2 ^ f.w := by
  induction l generalizing d with
  | nil => cases hf
  | cons e t ih =>
    obtain ⟨hne, ht⟩ := List.pairwise_cons.mp hl
    rcases List.mem_cons.mp hf with rfl | hmem
    · exact (((d.set f v).only_setAll t).2 f fun g hg => (hne g hg).symm).trans (d.get_set_same f v)
    · exact ih (d.set e.1 e.2) ht hmem

theorem Dev.setAll_val (d : Dev) {l : List (Fld × Nat)} (hl : (l.map Prod.fst).Pairwise fun f g => fldId f ≠ fldId g) {f : Fld} (v : Nat)
    (hf : (f, v) ∈ l) (hv : v < 2 ^ f.w) : (d.setAll l).get f = v := (d.setAll_get hl hf).trans (Nat.mod_eq_of_lt hv)

/-! ### The state of a Type-C port -/

theorem Dev.port_modPort_same (d : Dev) (p : Nat) (f : PdPort → PdPort) : (d.modPort p f).port p = f (d.port p) := mapGet_put_same _ _ _

theorem Dev.port_modPort_ne (d : Dev) {p o : Nat} (f : PdPort → PdPort) (h : o ≠ p) : (d.modPort p f).port o = d.port o :=
  mapGet_put_ne _ _ h.symm

theorem Dev.modPort_modPort (d : Dev) (p : Nat) (f g : PdPort → PdPort) : (d.modPort p f).modPort p g = d.modPort p (fun x => g (f x)) := by
  have hport : (d.modPort p f).port p = f (d.port p) := d.port_modPort_same p f
  unfold Dev.modPort Dev.setPort at *
  simp only at *
  rw [hport, mapPut_put_same]

/-- Two states with the same ports behind their registers. -/
theorem Dev.port_congr {d e : Dev} (h : e.pd = d.pd) (p : Nat) : e.port p = d.port p := by rw [Dev.port, Dev.port, h]

/-- The registers by which USB data pass on a port. -/
theorem Dev.usbAllowed_congr {d e : Dev} {p : Nat} (htc : e.get (F.PD_STAT_TCSTATE p) = d.get (F.PD_STAT_TCSTATE p))
    (hdr : e.get (F.PD_STAT_DATAROLE p) = d.get (F.PD_STAT_DATAROLE p)) (hl : (e.port p).lost = (d.port p).lost) : e.usbAllowed p = d.usbAllowed p := by
  unfold Dev.usbAllowed Dev.attached Dev.tcState
  split_ifs with h0
  · subst h0; rw [htc, hdr, hl]
  · rw [htc, hdr]
  · rfl

/-- No USB data pass on a Type-C port that is not attached. -/
theorem Dev.usbAllowed_unattached {d : Dev} {p : Nat} (hp : p ≤ 4) (h : d.attached p = false) : d.usbAllowed p = false := by
  unfold Dev.usbAllowed
  split_ifs with h0
  · subst h0; rw [h]; rfl
  · rw [h]; rfl

theorem Dev.followUsb_of_same {d e : Dev} {p : Nat} (h : e.usbAllowed p = d.usbAllowed p) : d.followUsb e p = e := by
  rw [Dev.followUsb, h]
  cases d.usbAllowed p <;> rfl

theorem Dev.followUsb_self (d : Dev) (p : Nat) : d.followUsb d p = d := Dev.followUsb_of_same rfl

/-- Only a port that sources VBUS before and not after loses it. -/
theorem Dev.followPort_eq {d e : Dev} {p : Nat} (h : ¬ (p ≠ 0 ∧ d.isSource p = true ∧ (d.port p).vbg = true ∧ (e.port p).vbg = false)) :
    d.followPort e p = d.followUsb e p := by
  unfold Dev.followPort
  rw [if_neg (by simpa using h)]

theorem Dev.followPort_self (d : Dev) (p : Nat) : d.followPort d p = d := by
  rw [Dev.followPort_eq fun ⟨_, _, hon, hoff⟩ => absurd hon (by rw [hoff]; exact Bool.false_ne_true), Dev.followUsb_self]

/-! ### What selecting the input and closing a session leave alone (R130, R155) -/

/-- The sink switches driven one by one. -/
theorem Dev.foldl_vbs (v : Nat → Bool) (l : List Nat) (d : Dev) :
    ∃ q, l.foldl (fun d p => d.modPort p fun x => { x with vbs := v p }) d = { d with pd := q } ∧
      ∀ p, ∃ b, mapGet {} q p = { d.port p with vbs := b } := by
  induction l generalizing d with
  | nil => exact ⟨d.pd, rfl, fun p => ⟨(d.port p).vbs, rfl⟩⟩
  | cons a t ih =>
    obtain ⟨q, heq, hq⟩ := ih (d.modPort a fun x => { x with vbs := v a })
    refine ⟨q, heq, fun p => ?_⟩
    obtain ⟨b, hb⟩ := hq p
    refine ⟨b, hb.trans ?_⟩
    by_cases hpa : p = a
    · subst hpa; rw [Dev.port_modPort_same]
    · rw [Dev.port_modPort_ne _ _ hpa]

theorem Dev.selectInput_is (d : Dev) : ∃ n q, d.selectInput = { d.set F.CHG_STAT_INPORT n with pd := q } ∧
    ∀ p, ∃ b, mapGet {} q p = { d.port p with vbs := b } := by
  obtain ⟨q, heq, hq⟩ := Dev.foldl_vbs (fun p => (if d.get F.CHG_STAT_STATE = 7 then 0 else if d.get F.CHG_CTRL_INSEL = 0 then bestInput d.offerMw 5
    else if d.offerMw (d.get F.CHG_CTRL_INSEL - 1) = 0 then 0 else d.get F.CHG_CTRL_INSEL) == p + 1) (List.range 5)
    (d.set F.CHG_STAT_INPORT (if d.get F.CHG_STAT_STATE = 7 then 0 else if d.get F.CHG_CTRL_INSEL = 0 then bestInput d.offerMw 5
      else if d.offerMw (d.get F.CHG_CTRL_INSEL - 1) = 0 then 0 else d.get F.CHG_CTRL_INSEL))
  exact ⟨_, q, heq, hq⟩

theorem Dev.selectInput_port (d : Dev) (p : Nat) : ∃ b, d.selectInput.port p = { d.port p with vbs := b } := by
  obtain ⟨n, q, heq, hq⟩ := d.selectInput_is
  rw [heq]
  exact hq p

theorem Dev.selectInput_get (d : Dev) {g : Fld} (h : fldId F.CHG_STAT_INPORT ≠ fldId g) : d.selectInput.get g = d.get g := by
  obtain ⟨n, q, heq, -⟩ := d.selectInput_is
  rw [heq]
  exact d.get_set_ne n h

theorem Dev.closeSession_pd (d : Dev) (cause state : Nat) : (d.closeSession cause state).pd = d.pd := by
  unfold Dev.closeSession
  split_ifs
  · rfl
  · refine (congrArg Dev.pd (Dev.told_notifyAll _ [0] _ 0 cause 0 (by simp)).1).trans ((congrArg Dev.pd (Dev.only_setBit _ _ _ _).1).trans ?_)
    simp only [Dev.set_pd]

/-! ### Attach and detach (R97, R99, R100, R109, R115) -/

theorem Dev.sourceOn_port (d : Dev) (p : Nat) : ((d.sourceOn p).port p).vbg = true ∧ ((d.sourceOn p).port p).mv = 5000 ∧
    (p ≠ 0 → ((d.sourceOn p).port p).resv = if d.get F.SUP_STAT_STAGE = 4 then 0 else typecWatts (d.get (F.PD_CTRL_RPVAL p))) := by
  by_cases hp : p = 0
  · subst hp
    obtain ⟨x, hx⟩ : ∃ x, x = (d.reserve 0 (typecWatts (d.get (F.PD_CTRL_RPVAL 0)))).modPort 0 fun y => { y with vbg := true, mv := 5000 } := ⟨_, rfl⟩
    have hrev : ∃ y : Dev, d.sourceOn 0 = y.selectInput ∧ y.pd = x.pd := by
      by_cases hs : x.pack.sess = true
      · refine ⟨(x.closeSession 3 7).oweFault 0x218 9, ?_, x.closeSession_pd 3 7⟩
        rw [Dev.sourceOn, ← hx, if_pos rfl, Dev.startReverse, if_pos hs]
      · refine ⟨x.set F.CHG_STAT_STATE 7, ?_, rfl⟩
        rw [Dev.sourceOn, ← hx, if_pos rfl, Dev.startReverse, if_neg hs]
    obtain ⟨y, hy, hpd⟩ := hrev
    obtain ⟨b, hb⟩ := y.selectInput_port 0
    rw [hy, hb, Dev.port_congr hpd, hx, Dev.port_modPort_same]
    exact ⟨rfl, rfl, fun h => absurd rfl h⟩
  · have hon : d.sourceOn p = (d.reserve p (typecWatts (d.get (F.PD_CTRL_RPVAL p)))).modPort p fun y => { y with vbg := true, mv := 5000 } := by
      rw [Dev.sourceOn, if_neg hp]
    rw [hon, Dev.port_modPort_same, Dev.reserve, if_neg hp, Dev.port_modPort_same]
    exact ⟨rfl, rfl, fun _ => rfl⟩

theorem attachFlds_apart {p : Nat} (hp : p < 5) : [F.PD_STAT_TCSTATE p, F.PD_STAT_ORIENT p, F.PD_STAT_PWRROLE p, F.PD_STAT_DATAROLE p,
    F.PD_INT_ATTACH p].Pairwise fun f g => fldId f ≠ fldId g := by
  revert p; decide

theorem attachSourceFlds_apart {p : Nat} (hp : p < 5) : [F.PD_STAT_TCSTATE p, F.PD_STAT_ORIENT p, F.PD_STAT_PWRROLE p, F.PD_STAT_DATAROLE p,
    F.PD_STAT_VCONN p, F.PD_INT_ATTACH p].Pairwise fun f g => fldId f ≠ fldId g := by
  revert p; decide

/-- What an attach as a sink shows. -/
def Dev.sinkShown (d : Dev) (p orient : Nat) : Dev :=
  d.setAll [(F.PD_STAT_TCSTATE p, 2), (F.PD_STAT_ORIENT p, orient), (F.PD_STAT_PWRROLE p, 0), (F.PD_STAT_DATAROLE p, 0), (F.PD_INT_ATTACH p, 1)]

/-- What an attach as a source shows. -/
def Dev.sourceShown (d : Dev) (p tc orient : Nat) : Dev :=
  d.setAll [(F.PD_STAT_TCSTATE p, tc), (F.PD_STAT_ORIENT p, orient), (F.PD_STAT_PWRROLE p, 1), (F.PD_STAT_DATAROLE p, 1),
    (F.PD_STAT_VCONN p, if tc = 5 then 0 else 1), (F.PD_INT_ATTACH p, 1)]

theorem Dev.attachSource_eq (d : Dev) (p tc orient : Nat) : d.attachSource p tc orient = (d.sourceShown p tc orient).sourceOn p := rfl

theorem Dev.attachSink_eq (d : Dev) (p orient adv : Nat) : d.attachSink p orient adv = ((d.sinkShown p orient).modPort p fun y =>
    { y with adv := adv, limited := false, ovp := false, vin := false, lost := false }).selectInput := rfl

/-- A source attached in state `tc`. -/
theorem Dev.attachSource_is (d : Dev) {p tc orient : Nat} (hp : p < 5) (htc : tc < 8) (ho : orient < 2) :
    let x := d.sourceShown p tc orient
    let y := d.attachSource p tc orient
    y = x.sourceOn p ∧ x.tcState p = tc ∧ x.get (F.PD_STAT_ORIENT p) = orient ∧ x.get (F.PD_STAT_PWRROLE p) = 1 ∧
      x.get (F.PD_STAT_DATAROLE p) = 1 ∧ x.get (F.PD_STAT_VCONN p) = (if tc = 5 then 0 else 1) ∧ x.get (F.PD_INT_ATTACH p) = 1 ∧
      d.Only x [F.PD_STAT_TCSTATE p, F.PD_STAT_ORIENT p, F.PD_STAT_PWRROLE p, F.PD_STAT_DATAROLE p, F.PD_STAT_VCONN p, F.PD_INT_ATTACH p] ∧
      (y.port p).vbg = true ∧ (y.port p).mv = 5000 ∧
      (p ≠ 0 → (y.port p).resv = if d.get F.SUP_STAT_STAGE = 4 then 0 else typecWatts (d.get (F.PD_CTRL_RPVAL p))) := by
  intro x y
  have hget {f : Fld} (v : Nat) := d.setAll_val (l := [(F.PD_STAT_TCSTATE p, tc), (F.PD_STAT_ORIENT p, orient), (F.PD_STAT_PWRROLE p, 1),
    (F.PD_STAT_DATAROLE p, 1), (F.PD_STAT_VCONN p, if tc = 5 then 0 else 1), (F.PD_INT_ATTACH p, 1)]) (attachSourceFlds_apart hp) (f := f) v
  have honly : d.Only x [F.PD_STAT_TCSTATE p, F.PD_STAT_ORIENT p, F.PD_STAT_PWRROLE p, F.PD_STAT_DATAROLE p, F.PD_STAT_VCONN p, F.PD_INT_ATTACH p] :=
    d.only_setAll _
  have hstage : x.get F.SUP_STAT_STAGE = d.get F.SUP_STAT_STAGE := honly.2 _ (by clear * - hp; revert p; decide)
  have hrp : x.get (F.PD_CTRL_RPVAL p) = d.get (F.PD_CTRL_RPVAL p) := honly.2 _ (by clear * - hp; revert p; decide)
  obtain ⟨hvbg, hmv, hresv⟩ := x.sourceOn_port p
  rw [hstage, hrp] at hresv
  exact ⟨rfl, hget (f := F.PD_STAT_TCSTATE p) tc (by simp) htc, hget (f := F.PD_STAT_ORIENT p) orient (by simp) ho,
    hget (f := F.PD_STAT_PWRROLE p) 1 (by simp) Nat.one_lt_two, hget (f := F.PD_STAT_DATAROLE p) 1 (by simp) Nat.one_lt_two,
    hget (f := F.PD_STAT_VCONN p) (if tc = 5 then 0 else 1) (by simp) (show (if tc = 5 then 0 else 1) < 2 by split_ifs <;> decide),
    hget (f := F.PD_INT_ATTACH p) 1 (by simp) Nat.one_lt_two, honly, hvbg, hmv, hresv⟩

/-- A sink attached, before its input counts. -/
theorem Dev.sinkShown_is (d : Dev) {p orient : Nat} (hp : p < 5) (ho : orient < 2) :
    (d.sinkShown p orient).tcState p = 2 ∧ (d.sinkShown p orient).get (F.PD_STAT_ORIENT p) = orient ∧
      (d.sinkShown p orient).get (F.PD_STAT_PWRROLE p) = 0 ∧ (d.sinkShown p orient).get (F.PD_STAT_DATAROLE p) = 0 ∧
      (d.sinkShown p orient).get (F.PD_INT_ATTACH p) = 1 ∧ d.Only (d.sinkShown p orient)
        [F.PD_STAT_TCSTATE p, F.PD_STAT_ORIENT p, F.PD_STAT_PWRROLE p, F.PD_STAT_DATAROLE p, F.PD_INT_ATTACH p] := by
  have hget {f : Fld} (v : Nat) := d.setAll_val (l := [(F.PD_STAT_TCSTATE p, 2), (F.PD_STAT_ORIENT p, orient), (F.PD_STAT_PWRROLE p, 0),
    (F.PD_STAT_DATAROLE p, 0), (F.PD_INT_ATTACH p, 1)]) (attachFlds_apart hp) (f := f) v
  exact ⟨hget (f := F.PD_STAT_TCSTATE p) 2 (by simp) (by decide : 2 < 8), hget (f := F.PD_STAT_ORIENT p) orient (by simp) ho,
    hget (f := F.PD_STAT_PWRROLE p) 0 (by simp) Nat.two_pos, hget (f := F.PD_STAT_DATAROLE p) 0 (by simp) Nat.two_pos,
    hget (f := F.PD_INT_ATTACH p) 1 (by simp) Nat.one_lt_two, d.only_setAll _⟩

/-- A port in a state from which it may attach. -/
theorem Dev.unattached_of_mem {d : Dev} {p : Nat} (h : d.tcState p ∈ [0, 1, 4]) : d.attached p = false ∧ d.isSource p = false := by
  unfold Dev.attached Dev.isSource
  simp only [List.mem_cons, List.not_mem_nil, or_false] at h
  rcases h with h | h | h <;> rw [h] <;> decide

theorem Dev.typecAttach_other {d : Dev} {p : Nat} (develop : Bool) (kind orient adv : Nat) (h : d.tcState p ∉ [0, 1, 4]) :
    d.typecAttach develop p kind orient adv = d := by
  have hne : d.tcState p ≠ 0 ∧ d.tcState p ≠ 1 ∧ d.tcState p ≠ 4 := by simpa using h
  unfold Dev.typecAttach
  exact if_pos hne

/-- A port that may attach does by its partner's termination. -/
theorem Dev.typecAttach_eq {d : Dev} {p : Nat} (develop : Bool) (orient adv : Nat) (h : d.tcState p ∈ [0, 1, 4]) :
    d.typecAttach develop p 0 orient adv =
      (if d.is (F.PD_STAT_FENCED p) = true ∨ roleAllows (d.get (F.PD_CTRL_ROLE p)) false = true then d.attachSink p orient adv else d) ∧
    d.typecAttach develop p 1 orient adv =
      (if d.is (F.PD_STAT_FENCED p) = false ∧ roleAllows (d.get (F.PD_CTRL_ROLE p)) true = true ∧ d.maySource p = true then
        if d.tcState p ≠ 4 ∧ d.get (F.PD_CTRL_ROLE p) = 2 ∧ d.is (F.PD_CTRL_TRYSNK p) = true then d.set (F.PD_STAT_TCSTATE p) 4
        else d.attachSource p 3 orient
      else d) ∧
    d.typecAttach develop p 2 orient adv =
      (if (d.is (F.PD_STAT_FENCED p) = false ∧ roleAllows (d.get (F.PD_CTRL_ROLE p)) true = true ∧ d.maySource p = true) ∧ develop = true ∧
          d.is (F.PD_CTRL_DBGACC p) = true then d.attachSource p 5 orient else d) ∧
    d.typecAttach develop p 3 orient adv = d := by
  have hne : ¬ (d.tcState p ≠ 0 ∧ d.tcState p ≠ 1 ∧ d.tcState p ≠ 4) := by simpa [or_iff_not_imp_left] using h
  refine ⟨?_, ?_, ?_, ?_⟩ <;> refine (if_neg hne).trans ?_
  · simp only [Bool.or_eq_true]
  · simp only [Bool.and_eq_true, Bool.not_eq_true', and_assoc]
  · refine if_congr ?_ rfl rfl
    simp only [Bool.and_eq_true, Bool.not_eq_true']
    tauto
  · rfl

/-- What follows for USB data where a port that did not source changes. -/
theorem Dev.followPort_unattached {d : Dev} {p : Nat} (e : Dev) (h : d.isSource p = false) : d.followPort e p = d.followUsb e p :=
  Dev.followPort_eq fun ⟨_, hs, _⟩ => absurd hs (by rw [h]; exact Bool.false_ne_true)

theorem typeCAttachRule : TypeCAttachRule := by
  intro s p orient adv hup
  dsimp only
  have hdev : (s.dev.fuse.life == .develop) = true ↔ s.dev.fuse.life = .develop := beq_iff_eq
  have hp : p.val < 5 := p.isLt
  generalize hd : s.dev.rouse = d
  refine ⟨fun htc kind => Ends.of_act hup ?_, fun htc => ⟨Ends.of_act hup ?_, Ends.of_act hup ?_, Ends.of_act hup ?_, Ends.of_act hup ?_⟩⟩
  all_goals rw [hd]
  · rw [Dev.typecAttach_other _ _ _ _ htc, Dev.followPort_self]
  all_goals
    obtain ⟨hatt, hsrc⟩ := Dev.unattached_of_mem htc
    obtain ⟨h0, h1, h2, h3⟩ := Dev.typecAttach_eq (s.dev.fuse.life == .develop) orient.val adv.val htc
    rw [Dev.followPort_unattached _ hsrc]
  · rw [show (0 : Fin 4).val = 0 from rfl, h0]
    by_cases hrole : d.is (F.PD_STAT_FENCED p.val) = true ∨ roleAllows (d.get (F.PD_CTRL_ROLE p.val)) false = true
    · rw [if_pos hrole, if_pos hrole]
      obtain ⟨htc', hor, hpr, hdr, hint, honly⟩ := d.sinkShown_is hp orient.isLt
      exact ⟨_, congrArg (d.followUsb · p.val) (d.attachSink_eq _ _ _), htc', hor, hpr, hdr, hint, honly⟩
    · rw [if_neg hrole, if_neg hrole]
      exact d.followUsb_self _
  · rw [show (1 : Fin 4).val = 1 from rfl, h1]
    by_cases hfree : d.is (F.PD_STAT_FENCED p.val) = false ∧ roleAllows (d.get (F.PD_CTRL_ROLE p.val)) true = true ∧ d.maySource p.val = true
    · rw [if_pos hfree, if_pos hfree]
      by_cases htry : d.tcState p.val ≠ 4 ∧ d.get (F.PD_CTRL_ROLE p.val) = 2 ∧ d.is (F.PD_CTRL_TRYSNK p.val) = true
      · rw [if_pos htry, if_pos htry]
        have htc4 : (d.set (F.PD_STAT_TCSTATE p.val) 4).tcState p.val = 4 := d.get_set_same _ _
        have hatt' : (d.set (F.PD_STAT_TCSTATE p.val) 4).attached p.val = false := by rw [Dev.attached, htc4]; rfl
        rw [Dev.followUsb_of_same ((Dev.usbAllowed_unattached (by omega) hatt').trans (Dev.usbAllowed_unattached (by omega) hatt).symm)]
        exact ⟨htc4, d.only_set _ _⟩
      · rw [if_neg htry, if_neg htry]
        exact ⟨_, _, rfl, d.attachSource_is hp (tc := 3) (by decide) orient.isLt⟩
    · rw [if_neg hfree, if_neg hfree]
      exact d.followUsb_self _
  · rw [show (2 : Fin 4).val = 2 from rfl, h2]
    simp only [hdev]
    by_cases hdbg : (d.is (F.PD_STAT_FENCED p.val) = false ∧ roleAllows (d.get (F.PD_CTRL_ROLE p.val)) true = true ∧ d.maySource p.val = true) ∧
        s.dev.fuse.life = .develop ∧ d.is (F.PD_CTRL_DBGACC p.val) = true
    · rw [if_pos hdbg, if_pos hdbg]
      exact ⟨_, _, rfl, d.attachSource_is hp (tc := 5) (by decide) orient.isLt⟩
    · rw [if_neg hdbg, if_neg hdbg]
      exact d.followUsb_self _
  · rw [show (3 : Fin 4).val = 3 from rfl, h3]
    exact d.followUsb_self _

/-! ### Detach (R97, R109, R115) -/

theorem Dev.reserve_get (d : Dev) (p n : Nat) {g : Fld} (h : fldId F.PD_BUDGET_USED ≠ fldId g) : (d.reserve p n).get g = d.get g := by
  by_cases hp : p = 0
  · rw [Dev.reserve, if_pos hp]
  · rw [Dev.reserve, if_neg hp]
    exact d.get_set_ne _ h

theorem Dev.reserve_port (d : Dev) {p : Nat} (n : Nat) (hp : p ≠ 0) :
    (d.reserve p n).port p = { d.port p with resv := if d.get F.SUP_STAT_STAGE = 4 then 0 else n } := by
  rw [Dev.reserve, if_neg hp, Dev.port_modPort_same]
  rfl

/-- The fields of an explicit contract. -/
theorem Dev.endContract_get (d : Dev) {p : Nat} (hp : p < 5) : (d.endContract p).get (F.PD_STAT_CONTRACT p) = 0 ∧
    (d.endContract p).get (F.PD_STAT_PPS p) = 0 ∧ (d.endContract p).get (F.PD_STAT_EPR p) = 0 := by
  have hset : ∀ g, (d.endContract p).get g = (d.setAll [(F.PD_STAT_CONTRACT p, 0), (F.PD_STAT_PPS p, 0), (F.PD_STAT_EPR p, 0)]).get g := fun _ => rfl
  have hapart : ([(F.PD_STAT_CONTRACT p, 0), (F.PD_STAT_PPS p, 0), (F.PD_STAT_EPR p, 0)].map Prod.fst).Pairwise
      fun f g => fldId f ≠ fldId g := by
    clear * - hp; revert p; decide
  refine ⟨?_, ?_, ?_⟩ <;> rw [hset] <;> exact d.setAll_val hapart 0 (by simp) Nat.two_pos

/-- What a partner's going ends, before the port's roles. -/
def Dev.detachEnded (d : Dev) (p : Nat) : Dev := (((d.txFlush p .eLink).leaveMode p).endContract p).reserve p 0

/-- A port whose roles have gone. -/
def Dev.detachShown (d : Dev) (p : Nat) : Dev :=
  d.setAll [(F.PD_STAT_TCSTATE p, 0), (F.PD_STAT_VCONN p, 0), (F.PD_STAT_PWRROLE p, 0), (F.PD_STAT_DATAROLE p, 0)]

/-- A port as its partner's going leaves it behind the registers. -/
def PdPort.gone (x : PdPort) : PdPort :=
  { x.freshIds with vbg := false, vbs := false, limited := false, recovering := false, notLow := false, adv := 0, ovp := false, vin := false,
                    lost := false, caps := [], ownCaps := [], cable := {}, farHay := false, farMode := none, hrDue := false, psRdyDue := false }

theorem Dev.portDetach_eq (d : Dev) (p : Nat) : ∃ x, d.portDetach p = (x.modPort p PdPort.gone).selectInput ∧
    ((d.detachEnded p).detachShown p).Only x [F.CHG_STAT_STATE] := by
  obtain ⟨y, hy⟩ : ∃ y, y = (d.detachEnded p).detachShown p := ⟨_, rfl⟩
  have heq : d.portDetach p = ((if p = 0 ∧ y.get F.CHG_STAT_STATE = 7 then y.set F.CHG_STAT_STATE 0 else y).modPort p PdPort.gone).selectInput := by
    rw [hy]; rfl
  rw [← hy]
  refine ⟨_, heq, ?_⟩
  split_ifs
  · exact y.only_set _ _
  · exact Dev.Only.refl _ _

/-- What a detach leaves of a port. -/
theorem Dev.portDetach_is (d : Dev) {p : Nat} (hp : p < 5) : (d.portDetach p).tcState p = 0 ∧ (d.portDetach p).get (F.PD_STAT_CONTRACT p) = 0 ∧
    (d.portDetach p).get (F.PD_STAT_VCONN p) = 0 ∧ (d.portDetach p).get (F.PD_STAT_PWRROLE p) = 0 ∧
    (d.portDetach p).get (F.PD_STAT_DATAROLE p) = 0 ∧ ((d.portDetach p).port p).vbg = false ∧
    (p ≠ 0 → ((d.portDetach p).port p).resv = 0) := by
  obtain ⟨x, heq, hx⟩ := d.portDetach_eq p
  have hshown : (d.detachEnded p).Only ((d.detachEnded p).detachShown p)
      [F.PD_STAT_TCSTATE p, F.PD_STAT_VCONN p, F.PD_STAT_PWRROLE p, F.PD_STAT_DATAROLE p] := Dev.only_setAll _ _
  have hkeep : ∀ g ∈ [F.PD_STAT_TCSTATE p, F.PD_STAT_VCONN p, F.PD_STAT_PWRROLE p, F.PD_STAT_DATAROLE p, F.PD_STAT_CONTRACT p],
      (d.portDetach p).get g = ((d.detachEnded p).detachShown p).get g := fun g hg => by
    rw [heq, Dev.selectInput_get _ (by clear * - hp hg; revert g; revert p; decide), Dev.modPort_get,
      hx.2 g (by clear * - hp hg; revert g; revert p; decide)]
  have hget {f : Fld} := (d.detachEnded p).setAll_val (l := [(F.PD_STAT_TCSTATE p, 0), (F.PD_STAT_VCONN p, 0), (F.PD_STAT_PWRROLE p, 0),
    (F.PD_STAT_DATAROLE p, 0)]) (by clear * - hp; revert p; decide) (f := f) 0
  have hcon : (d.portDetach p).get (F.PD_STAT_CONTRACT p) = 0 := by
    rw [hkeep _ (by simp), hshown.2 _ (by clear * - hp; revert p; decide), Dev.detachEnded,
      Dev.reserve_get _ _ _ (by clear * - hp; revert p; decide)]
    exact (Dev.endContract_get _ hp).1
  obtain ⟨b, hb⟩ := (x.modPort p PdPort.gone).selectInput_port p
  rw [← heq, Dev.port_modPort_same] at hb
  refine ⟨(hkeep (F.PD_STAT_TCSTATE p) (by simp)).trans (hget (f := F.PD_STAT_TCSTATE p) (by simp) (by decide : 0 < 8)), hcon,
    (hkeep (F.PD_STAT_VCONN p) (by simp)).trans (hget (f := F.PD_STAT_VCONN p) (by simp) Nat.two_pos),
    (hkeep (F.PD_STAT_PWRROLE p) (by simp)).trans (hget (f := F.PD_STAT_PWRROLE p) (by simp) Nat.two_pos),
    (hkeep (F.PD_STAT_DATAROLE p) (by simp)).trans (hget (f := F.PD_STAT_DATAROLE p) (by simp) Nat.two_pos), by rw [hb]; rfl, fun h0 => ?_⟩
  have hres : (x.port p).resv = 0 := by
    rw [Dev.port_congr (d := d.detachEnded p) (by rw [hx.1, hshown.1]), Dev.detachEnded, Dev.reserve_port _ _ h0]
    exact ite_self _
  rw [hb]
  exact hres

theorem typeCDetachRule : TypeCDetachRule := by
  intro s p hup
  refine Ends.of_act hup ?_
  dsimp only
  have hp : p.val < 5 := p.isLt
  generalize s.dev.rouse = d
  unfold Dev.typecDetach
  by_cases hatt : d.attached p.val = true
  · obtain ⟨htc, hcon, hvc, hpr, hdr, hvbg, hres⟩ := d.portDetach_is hp
    rw [if_pos hatt, if_pos hatt]
    generalize d.portDetach p.val = y at *
    have hset := y.only_set (F.PD_INT_ATTACH p.val) 1
    have hkeep : ∀ g ∈ [F.PD_STAT_TCSTATE p.val, F.PD_STAT_CONTRACT p.val, F.PD_STAT_VCONN p.val, F.PD_STAT_PWRROLE p.val,
        F.PD_STAT_DATAROLE p.val], (y.set (F.PD_INT_ATTACH p.val) 1).get g = y.get g := fun g hg =>
      hset.2 g (by clear * - hg; revert g; revert p; decide)
    exact ⟨_, rfl, (hkeep _ (by simp)).trans htc, (hkeep _ (by simp)).trans hcon, (hkeep _ (by simp)).trans hvc,
      (hkeep _ (by simp)).trans hpr, (hkeep _ (by simp)).trans hdr, Dev.get_set_same .., hvbg, hres, hset⟩
  · rw [if_neg hatt, if_neg hatt]
    by_cases h4 : d.tcState p.val = 4
    · have htc : (d.set (F.PD_STAT_TCSTATE p.val) 0).tcState p.val = 0 := d.get_set_same _ _
      have hatt' : (d.set (F.PD_STAT_TCSTATE p.val) 0).attached p.val = false := by rw [Dev.attached, htc]; rfl
      rw [if_pos h4, if_pos h4, Dev.followUsb_of_same ((Dev.usbAllowed_unattached (by omega) hatt').trans
        (Dev.usbAllowed_unattached (by omega) (by simpa using hatt)).symm)]
      exact ⟨htc, d.only_set _ _⟩
    · rw [if_neg h4, if_neg h4, Dev.followUsb_self]

/-- Settles O16: each partner's termination, the roles that may attach, and what a detach ends. -/
theorem typeC : Obligations.TypeC := ⟨typeCAttachRule, typeCDetachRule⟩

end Sys2Proof.Machine

/-!
SUPPORT. Power Delivery messages received and released (chapter 04).
-/
namespace Sys2Proof.Machine

open Sys2Proof

/-! ### Messages received (R101 to R103) -/

theorem PdPort.setLastId_lost (x : PdPort) (sop n : Nat) : (x.setLastId sop n).lost = x.lost := by
  unfold PdPort.setLastId; split_ifs <;> rfl

theorem Dev.pdSendOwn_lost (d : Dev) (p : Nat) (m : List Byte) : ((d.pdSendOwn p m).port p).lost = (d.port p).lost := by
  rw [Dev.pdSendOwn, Dev.port_modPort_same]
  rfl

/-- What a message taken from the wire leaves. -/
def Dev.rxTaken (d : Dev) (p sop : Nat) (m : List Byte) : Dev :=
  (d.emit .pdSignal p [0] []).modPort p fun x => x.setLastId sop (if isControl m 13 then 8 else hdrId (pdHeader m))

theorem Dev.rxTaken_lost (d : Dev) (p sop : Nat) (m : List Byte) : ((d.rxTaken p sop m).port p).lost = (d.port p).lost := by
  rw [Dev.rxTaken, Dev.port_modPort_same, PdPort.setLastId_lost]
  rfl

/-- A message held for the steward as the FIFO's newest entry. -/
def Dev.rxHeld (d : Dev) (p sop : Nat) (m : List Byte) : Dev :=
  let e := (d.get (F.PD_RXSTAT_HEAD p) + d.get (F.PD_RXSTAT_COUNT p)) % 4
  (((d.rxTaken p sop m).putBytes (F.PD_RXBUF_DATA p) (32 * e) (m.take 32)).set (F.PD_RXSTAT_COUNT p) (d.get (F.PD_RXSTAT_COUNT p) + 1)).set
    (F.PD_INT_RX p) 1

theorem Dev.rxHeld_is (d : Dev) {p : Nat} (hp : p < 5) (sop : Nat) (m : List Byte) :
    (d.rxHeld p sop m).get (F.PD_RXSTAT_COUNT p) = (d.get (F.PD_RXSTAT_COUNT p) + 1) % 8 ∧ (d.rxHeld p sop m).get (F.PD_INT_RX p) = 1 ∧
      ((d.rxTaken p sop m).putBytes (F.PD_RXBUF_DATA p) (32 * ((d.get (F.PD_RXSTAT_HEAD p) + d.get (F.PD_RXSTAT_COUNT p)) % 4)) (m.take 32)).Only
        (d.rxHeld p sop m) [F.PD_RXSTAT_COUNT p, F.PD_INT_RX p] := by
  obtain ⟨y, hy⟩ : ∃ y, y = (d.rxTaken p sop m).putBytes (F.PD_RXBUF_DATA p)
      (32 * ((d.get (F.PD_RXSTAT_HEAD p) + d.get (F.PD_RXSTAT_COUNT p)) % 4)) (m.take 32) := ⟨_, rfl⟩
  have heq : d.rxHeld p sop m = (y.set (F.PD_RXSTAT_COUNT p) (d.get (F.PD_RXSTAT_COUNT p) + 1)).set (F.PD_INT_RX p) 1 := by rw [hy]; rfl
  rw [heq, ← hy]
  refine ⟨?_, Dev.get_set_same .., (y.only_set _ _).trans (Dev.only_set _ _ _)⟩
  rw [Dev.get_set_ne _ _ (by clear * - hp; revert p; decide), Dev.get_set_same]
  rfl

theorem Dev.pdReceive_eq (d : Dev) (p sop : Nat) (m : List Byte) : d.pdReceive p sop m =
    if d.pdDeaf p = true ∨ d.get (F.PD_RXSTAT_COUNT p) = 4 ∨ (sop ≠ 0 ∧ d.is (F.PD_STAT_VCONN p) = false) then d
    else if (d.port p).lastId sop = hdrId (pdHeader m) ∧ isControl m 13 = false then d.emit .pdSignal p [0] []
    else if pdSupported m = false then (d.rxTaken p sop m).pdSendControl p 16
    else if hdrExt (pdHeader m) = true ∧ bitOf (extHeader m) 10 = true then d.rxTaken p sop m
    else if sop = 0 then ((d.rxHeld p sop m).pdAct p m).askChunk p m else (d.rxHeld p sop m).cableAct p sop m := by
  have hdef : d.pdReceive p sop m =
      if (d.pdDeaf p || d.get (F.PD_RXSTAT_COUNT p) = 4 || (sop != 0 && !d.is (F.PD_STAT_VCONN p))) = true then d
      else if ((d.port p).lastId sop = hdrId (pdHeader m) && !isControl m 13) = true then d.emit .pdSignal p [0] []
      else if (!pdSupported m) = true then (d.rxTaken p sop m).pdSendControl p 16
      else if (hdrExt (pdHeader m) && bitOf (extHeader m) 10) = true then d.rxTaken p sop m
      else if sop = 0 then ((d.rxHeld p sop m).pdAct p m).askChunk p m else (d.rxHeld p sop m).cableAct p sop m := rfl
  simp only [hdef, Bool.or_eq_true, Bool.and_eq_true, decide_eq_true_eq, bne_iff_ne, Bool.not_eq_true', or_assoc]

theorem pdReceiveRule : PdReceiveRule := by
  intro s p sop m hup
  refine Ends.of_act hup ?_
  generalize s.dev = d
  have hfold : ((d.emit .pdSignal p.val [0] []).modPort p.val fun x => x.setLastId sop.val (if isControl m 13 then 8 else hdrId (pdHeader m))) =
      d.rxTaken p.val sop.val m := rfl
  dsimp only
  rw [d.pdReceive_eq, hfold]
  by_cases hdeaf : d.pdDeaf p.val = true ∨ d.get (F.PD_RXSTAT_COUNT p.val) = 4 ∨ (sop.val ≠ 0 ∧ d.is (F.PD_STAT_VCONN p.val) = false)
  · rw [if_pos hdeaf, if_pos hdeaf, Dev.followUsb_self]
  rw [if_neg hdeaf, if_neg hdeaf]
  by_cases hrep : (d.port p.val).lastId sop.val = hdrId (pdHeader m) ∧ isControl m 13 = false
  · simp only [hrep, and_self, if_true]
    exact Dev.followUsb_of_same (Dev.usbAllowed_congr rfl rfl rfl)
  simp only [hrep, if_false]
  by_cases hsup : pdSupported m = false
  · simp only [hsup, if_true]
    refine Dev.followUsb_of_same (Dev.usbAllowed_congr rfl rfl ?_)
    rw [Dev.pdSendControl, Dev.pdSendOwn_lost, d.rxTaken_lost]
  simp only [hsup]
  by_cases hext : hdrExt (pdHeader m) = true ∧ bitOf (extHeader m) 10 = true
  · simp only [hext, and_self, if_true]
    exact Dev.followUsb_of_same (Dev.usbAllowed_congr rfl rfl (d.rxTaken_lost _ _ _))
  simp only [hext, if_false]
  obtain ⟨hcnt, hrx, honly⟩ := d.rxHeld_is p.isLt sop.val m
  exact ⟨d.rxHeld p.val sop.val m, hcnt, hrx, honly, rfl⟩

/-- POP as a word of PD_RXSTAT sets it. -/
theorem bitOf_or_pop (w : Word) : bitOf (w ||| 0x100).toNat 8 = true := bitOf_withBit_same w (i := 8) (by decide)

theorem Dev.writeRow_rxstat (d : Dev) (p : Nat) (w : Word) : d.writeRow .bar0 R.PD_RXSTAT p w = d := rfl

theorem pdPopRule : PdPopRule := by
  intro s p w hup hres hcnt
  refine Ends.of_act hup ?_
  rw [Dev.writeRxstat, Dev.regWrite_done hup (by rw [hres]; rfl), Dev.writeRow_rxstat, bitOf_or_pop, Bool.true_and]
  generalize s.dev = d at *
  have hhead : d.Only (d.set (F.PD_RXSTAT_COUNT p.val) (d.get (F.PD_RXSTAT_COUNT p.val) - 1)) _ := d.only_set _ _
  by_cases h0 : d.get (F.PD_RXSTAT_COUNT p.val) = 0
  · simp only [h0, bne_self_eq_false, Bool.false_eq_true, if_false, if_true]
    exact Dev.Only.refl _ _
  · rw [if_neg h0, if_pos (bne_iff_ne.mpr h0)]
    refine ⟨?_, ?_, (Dev.only_set _ _ _).trans (Dev.only_set _ _ _)⟩
    · rw [Dev.get_set_ne _ _ (by clear * -; revert p; decide), Dev.get_set_same]
      exact Nat.mod_eq_of_lt (show _ < 8 by omega)
    · rw [Dev.get_set_same]
      exact Nat.mod_eq_of_lt (show _ < 4 from Nat.mod_lt _ (by decide))

/-- Settles O17: a message by each test it meets, and POP of an empty and a filled FIFO. -/
theorem pdReceive : Obligations.PdReceive := ⟨pdReceiveRule, pdPopRule⟩

end Sys2Proof.Machine

/-!
SUPPORT. Power Delivery transmissions: PD_TXCMD and how each ends (chapter 04).
-/
namespace Sys2Proof.Machine

open Sys2Proof

/-! ### A write of PD_TXCMD with GO (R128, Table 04.14) -/

/-- The word that a transmission writes to PD_TXCMD. -/
def txWord (sop len : Nat) : Word := BitVec.ofNat 32 (65536 * sop + 256 * len + 1)

theorem toNat_txWord {sop len : Nat} (hs : sop < 8) (hl : len < 32) : (txWord sop len).toNat = 65536 * sop + 256 * len + 1 := by
  rw [txWord, BitVec.toNat_ofNat]; omega

theorem bits_txWord {sop len : Nat} (hs : sop < 8) (hl : len < 32) : bits (txWord sop len).toNat 16 3 = sop ∧ bits (txWord sop len).toNat 8 5 = len ∧
    bitOf (txWord sop len).toNat 0 = true ∧ setsReserved R.PD_TXCMD (txWord sop len) = false := by
  have h := toNat_txWord hs hl
  have hsop : bits (txWord sop len).toNat 16 3 = sop := by rw [h, bits]; omega
  have hlen : bits (txWord sop len).toNat 8 5 = len := by rw [h, bits]; omega
  have hst : bits (txWord sop len).toNat 24 8 = 0 := by rw [h, bits]; omega
  have hbusy : bits (txWord sop len).toNat 23 1 = 0 := by rw [h, bits]; omega
  have hgo : bits (txWord sop len).toNat 0 1 = 1 := by rw [h, bits]; omega
  refine ⟨hsop, hlen, ?_, ?_⟩
  · rw [bits_one_eq] at hgo
    cases hb : bitOf (txWord sop len).toNat 0 <;> simp_all [bitNat]
  · simp only [setsReserved, R.PD_TXCMD, wordFld, List.map_cons, List.map_nil, List.foldl_cons, List.foldl_nil, hst, hbusy, hsop, hlen, hgo]
    rw [h]
    refine decide_eq_false (not_not_intro ?_)
    omega

/-- The registers after a write of PD_TXCMD with GO, before it acts. -/
def Dev.txTaken (d : Dev) (p sop len : Nat) : Dev := (d.writeRow .bar0 R.PD_TXCMD p (txWord sop len)).set (F.PD_TXCMD_GO p) 0

theorem Dev.txTaken_is (d : Dev) {p sop len : Nat} (hp : p < 5) (hs : sop < 8) (hl : len < 32) :
    (d.txTaken p sop len).get (F.PD_TXCMD_SOP p) = sop ∧ (d.txTaken p sop len).get (F.PD_TXCMD_LEN p) = len ∧
      (d.txTaken p sop len).get (F.PD_TXCMD_GO p) = 0 ∧
      d.Only (d.txTaken p sop len) [F.PD_TXCMD_SOP p, F.PD_TXCMD_LEN p, F.PD_TXCMD_GO p] := by
  obtain ⟨hsop, hlen, -, -⟩ := bits_txWord hs hl
  have hapart : R.PD_TXCMD.fields.Pairwise fun f g => g.lo ≠ f.lo := by simp [R.PD_TXCMD]
  have hset := (d.writeRow .bar0 R.PD_TXCMD p (txWord sop len)).only_set (F.PD_TXCMD_GO p) 0
  refine ⟨?_, ?_, Dev.get_set_same .., ?_⟩
  · refine (hset.2 _ (by clear * - hp; revert p; decide)).trans ?_
    exact (d.writeRow_get (g := ⟨16, 3, .rw, fun _ => 0⟩) (by simp [R.PD_TXCMD]) hapart (.inl rfl)).trans hsop
  · refine (hset.2 _ (by clear * - hp; revert p; decide)).trans ?_
    exact (d.writeRow_get (g := ⟨8, 5, .rw, fun _ => 0⟩) (by simp [R.PD_TXCMD]) hapart (.inl rfl)).trans hlen
  · refine ((d.only_writeRow .bar0 R.PD_TXCMD p (txWord sop len)).trans hset).mono fun f hf => ?_
    have hrow : R.PD_TXCMD.fields.flatMap (writtenFlds .bar0 R.PD_TXCMD p) = [F.PD_TXCMD_SOP p, F.PD_TXCMD_LEN p, F.PD_TXCMD_GO p] := by
      simp [R.PD_TXCMD, writtenFlds, rowFld, rowKey, F.PD_TXCMD_SOP, F.PD_TXCMD_LEN, F.PD_TXCMD_GO]
    rw [hrow] at hf
    simpa using hf

/-- What GO does with a message or a signal. -/
def Dev.txGo (d : Dev) (p sop : Nat) : Dev :=
  if sop = 3 then d.followPort (d.txHardReset p) p else if sop = 4 then d.txCableReset p else d.pdTransmit p

theorem Dev.writeTxcmd_eq (d : Dev) (p : Nat) (w : Word) : d.writeTxcmd p w = d.regWrite .bar0 R.PD_TXCMD p w
    [(decide (4 < bits w.toNat 16 3), .eField),
     (bits w.toNat 8 5 != d.get (F.PD_TXCMD_LEN p) && (decide (bits w.toNat 8 5 < 2) || decide (30 < bits w.toNat 8 5)), .eRange),
     (bitOf w.toNat 0 && d.is (F.PD_TXCMD_BUSY p), .eBusy)]
    fun d => if !bitOf w.toNat 0 then d.set (F.PD_TXCMD_GO p) 0 else (d.set (F.PD_TXCMD_GO p) 0).txGo p (bits w.toNat 16 3) := rfl

theorem Dev.writeTxcmd_go {d : Dev} {p sop len : Nat} (hup : d.up = true) (hs : sop < 5) (hl : len < 32)
    (hlen : len = d.get (F.PD_TXCMD_LEN p) ∨ (2 ≤ len ∧ len ≤ 30)) (hb : d.is (F.PD_TXCMD_BUSY p) = false) :
    d.writeTxcmd p (txWord sop len) = (d.txTaken p sop len).txGo p sop := by
  obtain ⟨hsop, hlw, hgo, hres⟩ := bits_txWord (sop := sop) (len := len) (by omega) hl
  have hok : (len != d.get (F.PD_TXCMD_LEN p) && (decide (len < 2) || decide (30 < len))) = false := by
    rcases hlen with h | ⟨h2, h30⟩
    · rw [← h, bne_self_eq_false]; rfl
    · rw [decide_eq_false (by omega : ¬ len < 2), decide_eq_false (by omega : ¬ 30 < len)]
      exact Bool.and_false _
  rw [Dev.writeTxcmd_eq, hsop, hlw, hgo, hb, hok, Dev.regWrite_done hup]
  · rfl
  · rw [hres, decide_eq_false (by omega : ¬ 4 < sop)]; rfl

theorem Dev.writeTxcmd_rejected {d : Dev} {p sop len : Nat} (hup : d.up = true) (hs : sop < 5) (hl : len < 32) :
    (2 ≤ len → len ≤ 30 → d.is (F.PD_TXCMD_BUSY p) = true →
      d.writeTxcmd p (txWord sop len) = d.recordGlb (R.PD_TXCMD.base + R.PD_TXCMD.stride * p) .eBusy) ∧
    (len ≠ d.get (F.PD_TXCMD_LEN p) → (len < 2 ∨ len = 31) → d.is (F.PD_TXCMD_BUSY p) = false →
      d.writeTxcmd p (txWord sop len) = d.recordGlb (R.PD_TXCMD.base + R.PD_TXCMD.stride * p) .eRange) := by
  obtain ⟨hsop, hlw, hgo, hres⟩ := bits_txWord (sop := sop) (len := len) (by omega) hl
  refine ⟨fun h2 h30 hb => ?_, fun hne hbad hb => ?_⟩
  · rw [Dev.writeTxcmd_eq, hsop, hlw, hgo, hb, Dev.regWrite_rejected hup (st := .eBusy) (by decide)]
    · rfl
    · rw [hres, decide_eq_false (by omega : ¬ 4 < sop), decide_eq_false (by omega : ¬ len < 2), decide_eq_false (by omega : ¬ 30 < len),
        Bool.or_self, Bool.and_false]
      rfl
  · have hrange : (len != d.get (F.PD_TXCMD_LEN p) && (decide (len < 2) || decide (30 < len))) = true := by
      rw [bne_iff_ne.mpr hne]
      rcases hbad with h | h
      · rw [decide_eq_true h]; rfl
      · rw [h]; rfl
    rw [Dev.writeTxcmd_eq, hsop, hlw, hgo, hb, hrange, Dev.regWrite_rejected hup (st := .eRange) (by decide)]
    · rfl
    · rw [hres, decide_eq_false (by omega : ¬ 4 < sop)]
      rfl

/-! ### A message on its way (R101, R110) -/

theorem PdPort.nextId_setNextId (x : PdPort) (sop n : Nat) : (x.setNextId sop n).nextId sop = n := by
  unfold PdPort.setNextId PdPort.nextId
  split_ifs <;> rfl

/-- A port whose message has just gone out, `b` being the message without its MessageID. -/
def PdPort.sending (y : PdPort) (sop : Nat) (b : List Byte) : PdPort :=
  let z := if isControl b 13 then y.setNextId sop 0 else y
  { z with tx := withId b (z.nextId sop), txSop := sop, tries := 1, oldResv := z.resv }

theorem PdPort.sending_is (y : PdPort) (sop : Nat) (b : List Byte) :
    let n := if isControl b 13 then 0 else y.nextId sop
    (y.sending sop b).tx = withId b n ∧ (y.sending sop b).txSop = sop ∧ (y.sending sop b).tries = 1 ∧ (y.sending sop b).nextId sop = n ∧
      (y.sending sop b).resv = y.resv := by
  have hresv : (y.setNextId sop 0).resv = y.resv := by unfold PdPort.setNextId; split_ifs <;> rfl
  unfold PdPort.sending
  by_cases h : isControl b 13 = true
  · simp only [h, if_true]
    exact ⟨congrArg _ (y.nextId_setNextId sop 0), trivial, trivial, y.nextId_setNextId sop 0, hresv⟩
  · simp only [h]
    exact ⟨rfl, trivial, trivial, rfl, rfl⟩

/-- A transmission started: BUSY, the port's record, and the message on the wire unless the PHYs are held. -/
def Dev.txStart (x : Dev) (p sop : Nat) (b : List Byte) : Dev :=
  let y := (x.set (F.PD_TXCMD_BUSY p) 1).modPort p fun q => q.sending sop b
  if x.phyHeld then y else y.emit .pdMsg p [sop] (y.port p).tx

theorem Dev.txStart_is (x : Dev) (p sop : Nat) (b : List Byte) : (∀ g, (x.txStart p sop b).get g = (x.set (F.PD_TXCMD_BUSY p) 1).get g) ∧
    (∃ m q o, x.txStart p sop b = { x with fld := m, pd := q, out := o }) ∧
    (x.txStart p sop b).out = (if x.phyHeld then x.out else ⟨.pdMsg, p, [sop], ((x.port p).sending sop b).tx⟩ :: x.out) ∧
    (x.txStart p sop b).port p = (x.port p).sending sop b ∧ ∀ o, o ≠ p → (x.txStart p sop b).port o = x.port o := by
  obtain ⟨y, hy⟩ : ∃ y, y = (x.set (F.PD_TXCMD_BUSY p) 1).modPort p fun q => q.sending sop b := ⟨_, rfl⟩
  have hp : y.port p = (x.port p).sending sop b := by rw [hy, Dev.port_modPort_same]; rfl
  have ho : ∀ o, o ≠ p → y.port o = x.port o := fun o h => by rw [hy, Dev.port_modPort_ne _ _ h]; rfl
  have hdef : x.txStart p sop b = if x.phyHeld then y else y.emit .pdMsg p [sop] (y.port p).tx := by rw [hy]; rfl
  rw [hdef, hp]
  cases x.phyHeld
  · exact ⟨fun g => by rw [hy]; rfl, ⟨_, _, _, by rw [hy]; rfl⟩, by rw [hy]; rfl, hp, ho⟩
  · exact ⟨fun g => by rw [hy]; rfl, ⟨_, _, _, by rw [hy]; rfl⟩, by rw [hy]; rfl, hp, ho⟩

theorem Dev.modPort_congr {d : Dev} {p : Nat} {f g : PdPort → PdPort} (h : f (d.port p) = g (d.port p)) : d.modPort p f = d.modPort p g := by
  rw [Dev.modPort, h, Dev.modPort]

theorem Dev.txStart_eq (x : Dev) (p sop : Nat) (b : List Byte) :
    (let d0 := if isControl b 13 then x.modPort p fun x => x.setNextId sop 0 else x
     let m := withId b ((d0.port p).nextId sop)
     let d1 := (d0.set (F.PD_TXCMD_BUSY p) 1).modPort p fun x => { x with tx := m, txSop := sop, tries := 1, oldResv := x.resv }
     if x.phyHeld then d1 else d1.pdSend p sop m) = x.txStart p sop b := by
  obtain ⟨z, hz⟩ : ∃ z : PdPort → PdPort, z = fun q => if isControl b 13 then q.setNextId sop 0 else q := ⟨_, rfl⟩
  have hd0 : (if isControl b 13 then x.modPort p fun x => x.setNextId sop 0 else x).set (F.PD_TXCMD_BUSY p) 1 =
        if isControl b 13 then (x.set (F.PD_TXCMD_BUSY p) 1).modPort p z else x.set (F.PD_TXCMD_BUSY p) 1 := by
    rw [hz]
    by_cases h : isControl b 13 = true
    · simp only [h, if_true]; rfl
    · simp only [h]; rfl
  have hport : (if isControl b 13 then x.modPort p fun x => x.setNextId sop 0 else x).port p = z (x.port p) := by
    rw [hz]
    by_cases h : isControl b 13 = true
    · simp only [h, if_true, Dev.port_modPort_same]
    · simp only [h]; rfl
  have hy : ((if isControl b 13 then x.modPort p fun x => x.setNextId sop 0 else x).set (F.PD_TXCMD_BUSY p) 1).modPort p
      (fun q => { q with tx := withId b ((z (x.port p)).nextId sop), txSop := sop, tries := 1, oldResv := q.resv }) =
      (x.set (F.PD_TXCMD_BUSY p) 1).modPort p fun q => q.sending sop b := by
    have hat : (x.set (F.PD_TXCMD_BUSY p) 1).port p = x.port p := rfl
    rw [hd0]
    by_cases h : isControl b 13 = true
    · rw [if_pos h, Dev.modPort_modPort]
      refine Dev.modPort_congr ?_
      rw [hat, PdPort.sending, hz]
    · rw [if_neg h]
      refine Dev.modPort_congr ?_
      rw [hat, PdPort.sending, hz]
      simp only [h]
      rfl
  dsimp only
  rw [hport, hy, Dev.txStart, Dev.port_modPort_same]
  have hat : (x.set (F.PD_TXCMD_BUSY p) 1).port p = x.port p := rfl
  rw [hat, PdPort.sending, hz]
  rfl

/-- What PD_TXCMD does with a message. -/
theorem Dev.pdTransmit_eq {x : Dev} {p sop : Nat} {b : List Byte} (hs : x.get (F.PD_TXCMD_SOP p) = sop)
    (hb : x.getBytes (F.PD_TXBUF_DATA p) (x.get (F.PD_TXCMD_LEN p)) = b) : x.pdTransmit p =
    if x.attached p = false then x.set (F.PD_TXCMD_STATUS p) (statusCode .eLink)
    else if sop ≠ 0 ∧ x.is (F.PD_STAT_VCONN p) = false then x.set (F.PD_TXCMD_STATUS p) (statusCode .eState)
    else if x.mayTransmit p sop b = false then x.set (F.PD_TXCMD_STATUS p) (statusCode .eState)
    else if sop = 0 ∧ isControl b 3 = true ∧ x.budgetFails p = true then x.set (F.PD_TXCMD_STATUS p) (statusCode .eNores)
    else if sop = 0 ∧ isControl b 3 = true ∧ (x.port p).reqIn = true ∧ x.isSource p = true then
      (x.txStart p sop b).reserve p (watts (x.port p).reqMv (x.port p).reqMa)
    else x.txStart p sop b := by
  have hstart : (let d0 := if isControl b 13 then x.modPort p fun x => x.setNextId sop 0 else x
      let m := withId b ((d0.port p).nextId sop)
      let d1 := (d0.set (F.PD_TXCMD_BUSY p) 1).modPort p fun x => { x with tx := m, txSop := sop, tries := 1, oldResv := x.resv }
      if x.phyHeld then d1 else d1.pdSend p sop m) = x.txStart p sop b := x.txStart_eq p sop b
  rw [← hstart, Dev.pdTransmit, hs, hb]
  simp only [Bool.not_eq_true']

theorem Dev.reserve_is (d : Dev) (p n : Nat) : ∃ m q, d.reserve p n = { d with fld := m, pd := q } := by
  by_cases hp : p = 0
  · exact ⟨d.fld, d.pd, by rw [Dev.reserve, if_pos hp]⟩
  · exact ⟨_, _, by rw [Dev.reserve, if_neg hp]; rfl⟩

theorem Dev.reserve_port_ne (d : Dev) (p n : Nat) {o : Nat} (h : o ≠ p) : (d.reserve p n).port o = d.port o := by
  by_cases hp : p = 0
  · rw [Dev.reserve, if_pos hp]
  · rw [Dev.reserve, if_neg hp, Dev.port_modPort_ne _ _ h]
    rfl

/-- A reservation gives the port's record another value and keeps the rest of it. -/
theorem Dev.reserve_port_resv (d : Dev) (p n : Nat) : (d.reserve p n).port p =
    { d.port p with resv := if p ≠ 0 then if d.get F.SUP_STAT_STAGE = 4 then 0 else n else (d.port p).resv } := by
  by_cases hp : p = 0
  · rw [Dev.reserve, if_pos hp, if_neg (not_not_intro hp)]
  · rw [Dev.reserve_port _ _ hp, if_pos hp]

/-- From `x` to `e` a message goes out of port `p`. -/
def Dev.Sends (x e : Dev) (p sop : Nat) (b : List Byte) (resv : Nat) : Prop :=
  e.get (F.PD_TXCMD_BUSY p) = 1 ∧ ({ x with pd := e.pd, out := e.out } : Dev).Only e [F.PD_TXCMD_BUSY p, F.PD_BUDGET_USED] ∧
    e.out = (if x.phyHeld then x.out else ⟨.pdMsg, p, [sop], ((x.port p).sending sop b).tx⟩ :: x.out) ∧
    e.port p = { (x.port p).sending sop b with resv := resv } ∧ ∀ o, o ≠ p → e.port o = x.port o

theorem Dev.txStart_sends (x : Dev) {p : Nat} (hp : p < 5) (sop : Nat) (b : List Byte) : x.Sends (x.txStart p sop b) p sop b (x.port p).resv ∧
    (x.txStart p sop b).get F.PD_BUDGET_USED = x.get F.PD_BUDGET_USED := by
  obtain ⟨hget, ⟨m, q, o, heq⟩, hout, hport, hother⟩ := x.txStart_is p sop b
  have hset := x.only_set (F.PD_TXCMD_BUSY p) 1
  refine ⟨⟨by rw [hget]; exact Dev.get_set_same .., ⟨by rw [heq], fun g hg => ?_⟩, hout, ?_, hother⟩, ?_⟩
  · rw [hget]; exact hset.2 g fun f hf => hg f (by simp_all)
  · obtain ⟨-, -, -, -, hresv⟩ := (x.port p).sending_is sop b
    rw [hport, ← hresv]
  · rw [hget]; exact hset.2 _ (by clear * - hp; revert p; decide)

theorem Dev.Sends.reserve {x e : Dev} {p sop r : Nat} {b : List Byte} (h : x.Sends e p sop b r) (hp : p < 5) (n : Nat) :
    x.Sends (e.reserve p n) p sop b (if p ≠ 0 then if x.get F.SUP_STAT_STAGE = 4 then 0 else n else r) := by
  obtain ⟨hbusy, ⟨heq, hkeep⟩, hout, hport, hother⟩ := h
  obtain ⟨m, q, hres⟩ := e.reserve_is p n
  have hget {g : Fld} (hg : fldId F.PD_BUDGET_USED ≠ fldId g) : (e.reserve p n).get g = e.get g := e.reserve_get p n hg
  have hst : e.get F.SUP_STAT_STAGE = x.get F.SUP_STAT_STAGE := hkeep _ (by clear * - hp; revert p; decide)
  refine ⟨(hget (by clear * - hp; revert p; decide)).trans hbusy, ⟨?_, fun g hg => ?_⟩, ?_, ?_, fun o ho => ?_⟩
  · rw [hres, heq]
  · exact (hget (hg _ (by simp))).trans (hkeep g hg)
  · rw [hres]; exact hout
  · rw [Dev.reserve_port_resv, hst, hport]
  · rw [Dev.reserve_port_ne _ _ _ ho, hother o ho]

/-! ### The results of PD_TXCMD (R96, R101, R103, R108, R110, R128) -/

/-- A state right after PD_TXCMD was written reads as the one before, but for that register. -/
theorem Dev.txTaken_reads {d x : Dev} {p : Nat} (hp : p < 5) (h : d.Only x [F.PD_TXCMD_SOP p, F.PD_TXCMD_LEN p, F.PD_TXCMD_GO p]) :
    x.attached p = d.attached p ∧ x.is (F.PD_STAT_VCONN p) = d.is (F.PD_STAT_VCONN p) ∧ x.budgetFails p = d.budgetFails p ∧
      (∀ o, x.port o = d.port o) ∧ x.isSource p = d.isSource p ∧ x.phyHeld = d.phyHeld ∧ x.out = d.out ∧
      x.get F.SUP_STAT_STAGE = d.get F.SUP_STAT_STAGE ∧ x.get F.PD_BUDGET_USED = d.get F.PD_BUDGET_USED := by
  have hget : ∀ g ∈ [F.PD_STAT_TCSTATE p, F.PD_STAT_VCONN p, F.PD_BUDGET_TOTAL, F.PD_BUDGET_USED, F.SUP_STAT_STAGE, F.SUP_STAT_PHYHOLD,
      F.SUP_XTSTAT_BACKUP], x.get g = d.get g := fun g hg => h.2 g (by clear * - hp hg; revert g; revert p; decide)
  have hport : ∀ o, x.port o = d.port o := fun o => Dev.port_congr (by rw [h.1]) o
  have hpow : x.pow = d.pow := by rw [h.1]
  have hfuse : x.fuse = d.fuse := by rw [h.1]
  have htc := hget (F.PD_STAT_TCSTATE p) (by simp)
  have hst := hget F.SUP_STAT_STAGE (by simp)
  refine ⟨?_, congrArg (· == 1) (hget (F.PD_STAT_VCONN p) (by simp)), ?_, hport, ?_, ?_, by rw [h.1], hst, hget F.PD_BUDGET_USED (by simp)⟩
  · simp only [Dev.attached, Dev.tcState, htc]
  · simp only [Dev.budgetFails, hport, hget F.PD_BUDGET_TOTAL (by simp), hget F.PD_BUDGET_USED (by simp)]
  · simp only [Dev.isSource, Dev.tcState, htc]
  · simp only [Dev.phyHeld, Dev.is, hpow, hfuse, hst, hget F.SUP_STAT_PHYHOLD (by simp), hget F.SUP_XTSTAT_BACKUP (by simp)]

theorem Dev.txTaken_bytes {d x : Dev} {p : Nat} (hp : p < 5) (h : d.Only x [F.PD_TXCMD_SOP p, F.PD_TXCMD_LEN p, F.PD_TXCMD_GO p]) {len : Nat}
    (hl : len ≤ 30) : x.getBytes (F.PD_TXBUF_DATA p) len = d.getBytes (F.PD_TXBUF_DATA p) len := by
  refine List.map_congr_left fun i hi => ?_
  have hi8 : i / 4 < 8 := by have := List.mem_range.mp hi; omega
  rw [h.2 _ (by generalize i / 4 = j at hi8; clear * - hp hi8; revert j; revert p; decide)]

/-- A message's result, or its start. -/
theorem Dev.pdTransmit_result {d x : Dev} {p sop len : Nat} (hp : p < 5) (hl : len ≤ 30) (hsop : x.get (F.PD_TXCMD_SOP p) = sop)
    (hlen : x.get (F.PD_TXCMD_LEN p) = len) (honly : d.Only x [F.PD_TXCMD_SOP p, F.PD_TXCMD_LEN p, F.PD_TXCMD_GO p]) :
    let b := d.getBytes (F.PD_TXBUF_DATA p) len
    let e := x.pdTransmit p
    let at_once := fun st : Status => e.get (F.PD_TXCMD_STATUS p) = statusCode st ∧ x.Only e [F.PD_TXCMD_STATUS p]
    let accepts := sop = 0 ∧ isControl b 3 = true ∧ (d.port p).reqIn = true ∧ d.isSource p = true
    if d.attached p = false then at_once .eLink
    else if sop ≠ 0 ∧ d.is (F.PD_STAT_VCONN p) = false then at_once .eState
    else if x.mayTransmit p sop b = false then at_once .eState
    else if sop = 0 ∧ isControl b 3 = true ∧ d.budgetFails p = true then at_once .eNores
    else x.Sends e p sop b (if accepts ∧ p ≠ 0 then if d.get F.SUP_STAT_STAGE = 4 then 0 else watts (d.port p).reqMv (d.port p).reqMa
        else (d.port p).resv) ∧ (¬ accepts → e.get F.PD_BUDGET_USED = d.get F.PD_BUDGET_USED) := by
  intro b e at_once accepts
  obtain ⟨hatt, hvc, hbud, hport, hsrc, hphy, hout, hst, hused⟩ := Dev.txTaken_reads hp honly
  have hbytes : x.getBytes (F.PD_TXBUF_DATA p) (x.get (F.PD_TXCMD_LEN p)) = b := by rw [hlen]; exact Dev.txTaken_bytes hp honly hl
  have hone : ∀ st, (x.set (F.PD_TXCMD_STATUS p) (statusCode st)).get (F.PD_TXCMD_STATUS p) = statusCode st ∧
      x.Only (x.set (F.PD_TXCMD_STATUS p) (statusCode st)) [F.PD_TXCMD_STATUS p] := fun st =>
    ⟨(x.get_set_same _ _).trans (Nat.mod_eq_of_lt (statusCode_lt st)), x.only_set _ _⟩
  have heq := Dev.pdTransmit_eq hsop hbytes
  rw [hatt, hvc, hbud, hport, hsrc] at heq
  simp only [at_once, e]
  rw [heq]
  by_cases h1 : d.attached p = false
  · rw [if_pos h1, if_pos h1]; exact hone _
  rw [if_neg h1, if_neg h1]
  by_cases h2 : sop ≠ 0 ∧ d.is (F.PD_STAT_VCONN p) = false
  · rw [if_pos h2, if_pos h2]; exact hone _
  rw [if_neg h2, if_neg h2]
  by_cases h3 : x.mayTransmit p sop b = false
  · rw [if_pos h3, if_pos h3]; exact hone _
  rw [if_neg h3, if_neg h3]
  by_cases h4 : sop = 0 ∧ isControl b 3 = true ∧ d.budgetFails p = true
  · rw [if_pos h4, if_pos h4]; exact hone _
  rw [if_neg h4, if_neg h4]
  obtain ⟨hsends, hsame⟩ := x.txStart_sends hp sop b
  rw [hport] at hsends
  by_cases hacc : accepts
  · rw [if_pos hacc]
    refine ⟨?_, fun h => absurd hacc h⟩
    have h := hsends.reserve hp (watts (d.port p).reqMv (d.port p).reqMa)
    rw [hst] at h
    rwa [if_congr (P := accepts ∧ p ≠ 0) (Q := p ≠ 0) (and_iff_right hacc) rfl rfl]
  · rw [if_neg hacc]
    exact ⟨by rwa [if_neg fun h => hacc h.1], fun _ => hsame.trans hused⟩

theorem pdTransmitRule : PdTransmitRule := by
  intro s p len hup h2 h30
  refine ⟨fun hb => ⟨fun sop => Ends.of_act hup ?_, Ends.of_act hup ?_, Ends.of_act hup ?_⟩, fun hb => ?_, fun n sop hn hne hb => Ends.of_act hup ?_⟩
  · rw [← txWord, (Dev.writeTxcmd_rejected (sop := sop.val) hup (by omega) len.isLt).1 h2 h30 hb]
    exact recordedGlb_recordGlb _ _ _
  · rw [← txWord, (Dev.writeTxcmd_rejected (sop := 3) hup (by decide) len.isLt).1 h2 h30 hb]
    exact recordedGlb_recordGlb _ _ _
  · rw [← txWord, (Dev.writeTxcmd_rejected (sop := 4) hup (by decide) len.isLt).1 h2 h30 hb]
    exact recordedGlb_recordGlb _ _ _
  · intro taken
    have htaken : ∀ sop, sop < 8 → taken (s.dev.txTaken p.val sop len.val) sop := fun sop hs => s.dev.txTaken_is p.isLt hs len.isLt
    refine ⟨fun sop => Ends.of_act hup ?_, Ends.of_act hup ?_, Ends.of_act hup ?_⟩
    · have hs : sop.val < 8 := by omega
      obtain ⟨hS, hL, -, honly⟩ := htaken sop.val hs
      obtain ⟨-, -, -, hport, -, hphy, hout, -, -⟩ := Dev.txTaken_reads p.isLt honly
      have hres := Dev.pdTransmit_result p.isLt h30 hS hL honly
      have hgo : (s.dev.txTaken p.val sop.val len.val).txGo p.val sop.val = (s.dev.txTaken p.val sop.val len.val).pdTransmit p.val := by
        rw [Dev.txGo, if_neg (by omega), if_neg (by omega)]
      rw [← txWord, Dev.writeTxcmd_go (sop := sop.val) hup (by omega) len.isLt (.inr ⟨h2, h30⟩) hb, hgo]
      refine ⟨_, htaken sop.val hs, ?_⟩
      generalize s.dev.txTaken p.val sop.val len.val = x at *
      clear hgo htaken
      dsimp only at hres ⊢
      generalize x.pdTransmit p.val = e at *
      generalize s.dev.getBytes (F.PD_TXBUF_DATA p.val) len.val = b at *
      obtain ⟨htx, htxs, htries, hid, -⟩ := (s.dev.port p.val).sending_is sop.val b
      by_cases h1 : s.dev.attached p.val = false
      · rwa [if_pos h1] at hres ⊢
      rw [if_neg h1] at hres ⊢
      by_cases h2 : sop.val ≠ 0 ∧ s.dev.is (F.PD_STAT_VCONN p.val) = false
      · rwa [if_pos h2] at hres ⊢
      rw [if_neg h2] at hres ⊢
      by_cases h3 : x.mayTransmit p.val sop.val b = false
      · rwa [if_pos h3] at hres ⊢
      rw [if_neg h3] at hres ⊢
      by_cases h4 : sop.val = 0 ∧ isControl b 3 = true ∧ s.dev.budgetFails p.val = true
      · rwa [if_pos h4] at hres ⊢
      rw [if_neg h4] at hres ⊢
      obtain ⟨⟨hbusy, hon, hout', hport', hother⟩, hused⟩ := hres
      rw [hphy, hout, hport, htx] at hout'
      rw [hport] at hport'
      exact ⟨hbusy, hon, hout', by rw [hport']; exact htx, by rw [hport']; exact htxs, by rw [hport']; exact htries, by rw [hport']; exact hid,
        by rw [hport'], hused, fun o ho => (hother o ho).trans (hport o)⟩
    · rw [← txWord, Dev.writeTxcmd_go (sop := 3) hup (by decide) len.isLt (.inr ⟨h2, h30⟩) hb]
      exact ⟨_, htaken 3 (by decide), rfl⟩
    · rw [← txWord, Dev.writeTxcmd_go (sop := 4) hup (by decide) len.isLt (.inr ⟨h2, h30⟩) hb]
      refine ⟨_, htaken 4 (by decide), ?_⟩
      obtain ⟨-, -, -, honly⟩ := htaken 4 (by decide)
      obtain ⟨-, hvc, -, -, -, -, -, -, -⟩ := Dev.txTaken_reads p.isLt honly
      have hgo : (s.dev.txTaken p.val 4 len.val).txGo p.val 4 = (s.dev.txTaken p.val 4 len.val).txCableReset p.val := rfl
      rw [hgo, Dev.txCableReset, hvc]
      generalize s.dev.txTaken p.val 4 len.val = x
      by_cases hv : s.dev.is (F.PD_STAT_VCONN p.val) = true
      · rw [if_pos hv, if_pos hv]
        exact ⟨Dev.get_set_same .., Dev.only_set _ _ _⟩
      · rw [if_neg hv, if_neg hv]
        exact ⟨(x.get_set_same _ _).trans (Nat.mod_eq_of_lt (statusCode_lt _)), Dev.only_set _ _ _⟩
  · rw [← txWord, (Dev.writeTxcmd_rejected (sop := sop.val) hup (by omega) n.isLt).2 hne hn hb]
    exact recordedGlb_recordGlb _ _ _

/-! ### How a transmission ends (R101, R104, R110, R118, R119) -/

theorem Dev.txEnd_is (d : Dev) {p : Nat} (hp : p < 5) (st : Status) : (d.txEnd p st).get (F.PD_TXCMD_BUSY p) = 0 ∧
    (d.txEnd p st).get (F.PD_TXCMD_STATUS p) = statusCode st ∧
    ({ d with pd := (d.txEnd p st).pd } : Dev).Only (d.txEnd p st) [F.PD_TXCMD_BUSY p, F.PD_TXCMD_STATUS p] ∧
    (d.txEnd p st).port p = { d.port p with tx := [], tries := 0 } ∧ ∀ o, o ≠ p → (d.txEnd p st).port o = d.port o := by
  have hset := (d.only_set (F.PD_TXCMD_BUSY p) 0).trans (Dev.only_set _ (F.PD_TXCMD_STATUS p) (statusCode st))
  refine ⟨?_, ?_, ⟨rfl, hset.2⟩, ?_, fun o ho => ?_⟩
  · exact (Dev.get_set_ne _ _ (by clear * - hp; revert p; decide)).trans (Dev.get_set_same ..)
  · exact (Dev.get_set_same ..).trans (Nat.mod_eq_of_lt (statusCode_lt st))
  · rw [Dev.txEnd, Dev.port_modPort_same]; rfl
  · rw [Dev.txEnd, Dev.port_modPort_ne _ _ ho]; rfl

theorem Dev.usbAllowed_txEnd (d : Dev) {p : Nat} (hp : p < 5) (st : Status) : (d.txEnd p st).usbAllowed p = d.usbAllowed p := by
  obtain ⟨-, -, ⟨-, hkeep⟩, hport, -⟩ := d.txEnd_is hp st
  exact Dev.usbAllowed_congr (hkeep _ (by clear * - hp; revert p; decide)) (hkeep _ (by clear * - hp; revert p; decide)) (by rw [hport])

theorem Dev.usbAllowed_reserve (d : Dev) {p : Nat} (hp : p < 5) (n : Nat) : (d.reserve p n).usbAllowed p = d.usbAllowed p :=
  Dev.usbAllowed_congr (d.reserve_get p n (by clear * - hp; revert p; decide)) (d.reserve_get p n (by clear * - hp; revert p; decide))
    (by rw [Dev.reserve_port_resv])

/-- The reservation that an Accept made is undone. -/
def Dev.txUndone (d : Dev) (p : Nat) : Dev :=
  if isControl (d.port p).tx 3 && (d.port p).txSop == 0 then d.reserve p (d.port p).oldResv else d

theorem Dev.txUndone_is (d : Dev) {p : Nat} (hp : p < 5) : (d.txUndone p).usbAllowed p = d.usbAllowed p ∧
    (∀ o, o ≠ p → (d.txUndone p).port o = d.port o) ∧ ((d.txUndone p).port p).cable = (d.port p).cable := by
  unfold Dev.txUndone
  split_ifs
  · exact ⟨d.usbAllowed_reserve hp _, fun o ho => d.reserve_port_ne _ _ ho, by rw [Dev.reserve_port_resv]⟩
  · exact ⟨rfl, fun _ _ => rfl, rfl⟩

theorem PdPort.setNextId_lost (x : PdPort) (sop n : Nat) : (x.setNextId sop n).lost = x.lost := by
  unfold PdPort.setNextId; split_ifs <;> rfl

/-- The third transmission without an answer: the reservation undone and a silent cable unmarked. -/
def Dev.txSilent (d : Dev) (p : Nat) : Dev :=
  if (d.port p).txSop = 1 ∧ isVdm (d.port p).tx 0xFF00 1 0 then (d.txUndone p).modPort p fun x => { x with cable := {} } else d.txUndone p

theorem Dev.txSilent_is (d : Dev) (p : Nat) : (∃ m, d.txSilent p = { d.txUndone p with pd := m }) ∧
    (d.txSilent p).port p = { (d.txUndone p).port p with
      cable := if (d.port p).txSop = 1 ∧ isVdm (d.port p).tx 0xFF00 1 0 = true then {} else ((d.txUndone p).port p).cable } ∧
    ∀ o, o ≠ p → (d.txSilent p).port o = (d.txUndone p).port o := by
  unfold Dev.txSilent
  split_ifs
  · exact ⟨⟨_, rfl⟩, Dev.port_modPort_same _ _ _, fun o ho => Dev.port_modPort_ne _ _ ho⟩
  · exact ⟨⟨_, rfl⟩, rfl, fun _ _ => rfl⟩

theorem Dev.retryTimeout_eq {d : Dev} {p : Nat} (hb : d.is (F.PD_TXCMD_BUSY p) = true) : d.retryTimeout p =
    if (d.port p).tries < 3 then
      if d.phyHeld then d.modPort p fun x => { x with tries := x.tries + 1 }
      else (d.modPort p fun x => { x with tries := x.tries + 1 }).emit .pdMsg p [(d.port p).txSop] (d.port p).tx
    else (d.txSilent p).txEnd p .eTimeout := by
  rw [Dev.retryTimeout, hb]
  rfl

theorem Dev.txComplete_eq {d : Dev} {p : Nat} (hb : d.is (F.PD_TXCMD_BUSY p) = true) :
    d.txComplete p false = (d.txUndone p).txEnd p .eFlushed ∧
    d.txComplete p true =
      (let x := (d.modPort p fun x => x.setNextId (d.port p).txSop ((x.nextId (d.port p).txSop + 1) % 8)).txEnd p .done
       if (d.port p).txSop = 0 then x.sent p (d.port p).tx
       else if isControl (d.port p).tx 13 then x.modPort p fun x => x.setLastId (d.port p).txSop 8 else x) := by
  rw [Dev.txComplete, Dev.txComplete, hb]
  exact ⟨rfl, rfl⟩

theorem pdTransmitEndsRule : PdTransmitEndsRule := by
  intro s p hup
  refine ⟨fun hb => ⟨Ends.of_act hup ?_, fun acked => Ends.of_act hup ?_⟩, fun hb => ?_⟩
  · simp only [Dev.retryTimeout, hb, Bool.not_false, if_true]
  · simp only [Dev.txComplete, hb, Bool.not_false, if_true, Dev.followUsb_self]
  intro q undone
  have hundone : undone = s.dev.txUndone p.val := rfl
  obtain ⟨husb, hothers, hcable⟩ := s.dev.txUndone_is p.isLt
  rw [hundone]
  clear_value undone
  obtain ⟨hflush, hacked⟩ := Dev.txComplete_eq hb
  have hq : q = s.dev.port p.val := rfl
  refine ⟨Ends.of_act hup ?_, Ends.of_act hup ?_, Ends.of_act hup ?_⟩
  · rw [Dev.retryTimeout_eq hb]
    by_cases htry : q.tries < 3
    · rw [if_pos htry, if_pos htry]
    · rw [if_neg htry, if_neg htry]
      obtain ⟨⟨m, heq⟩, hcab, hoth⟩ := s.dev.txSilent_is p.val
      obtain ⟨hbusy, hst, hon, hport, hother⟩ := (s.dev.txSilent p.val).txEnd_is p.isLt .eTimeout
      generalize (s.dev.txSilent p.val).txEnd p.val .eTimeout = e at *
      refine ⟨hbusy, hst, by rwa [heq] at hon, ?_, fun o ho => (hother o ho).trans ((hoth o ho).trans (hothers o ho))⟩
      rw [hport, hcab, hcable]
  · rw [hacked]
    obtain ⟨hbusy, hst, hon, hport, hother⟩ := (s.dev.modPort p.val fun x =>
      x.setNextId (s.dev.port p.val).txSop ((x.nextId (s.dev.port p.val).txSop + 1) % 8)).txEnd_is p.isLt .done
    refine ⟨_, hbusy, hst, hon, ?_, fun o ho => ?_, rfl⟩
    · rw [hport, Dev.port_modPort_same]
    · rw [hother o ho, Dev.port_modPort_ne _ _ ho]
  · rw [hflush, Dev.followUsb_of_same ((Dev.usbAllowed_txEnd _ p.isLt _).trans husb)]
    obtain ⟨hbusy, hst, hon, hport, hother⟩ := (s.dev.txUndone p.val).txEnd_is p.isLt .eFlushed
    exact ⟨hbusy, hst, hon, hport, fun o ho => (hother o ho).trans (hothers o ho)⟩

/-- Settles O18: the checks of PD_TXCMD in their order, and each end of a transmission. -/
theorem pdTransmissions : Obligations.PdTransmissions := ⟨pdTransmitRule, pdTransmitEndsRule⟩

end Sys2Proof.Machine

/-!
SUPPORT. Power Delivery faults, VBUS transitions, keepalives and moisture (chapter 04).
-/
namespace Sys2Proof.Machine

open Sys2Proof

/-! ### Hard resets and what each fault does (R107, R108, R115, R189) -/

/-- From `d` to `e` no plain register field has changed but those listed. -/
def Dev.Keeps (d e : Dev) (fs : List Fld) : Prop := ∀ g : Fld, PlainFld g → (∀ f ∈ fs, fldId f ≠ fldId g) → e.get g = d.get g

theorem Dev.Keeps.trans {d e x : Dev} {fs gs : List Fld} (h : d.Keeps e fs) (k : e.Keeps x gs) : d.Keeps x (fs ++ gs) := fun g hg hne =>
  (k g hg fun f hf => hne f (List.mem_append_right _ hf)).trans (h g hg fun f hf => hne f (List.mem_append_left _ hf))

theorem Dev.Keeps.mono {d e : Dev} {fs gs : List Fld} (h : d.Keeps e fs) (hs : fs ⊆ gs) : d.Keeps e gs := fun g hg hne =>
  h g hg fun f hf => hne f (hs hf)

theorem Dev.Keeps.refl (d : Dev) (fs : List Fld) : d.Keeps d fs := fun _ _ _ => rfl

theorem Dev.Told.keeps {d e : Dev} {fs : List Fld} (h : d.Told e fs) : d.Keeps e fs := h.2

theorem Dev.Only.keeps {d e : Dev} {fs : List Fld} (h : d.Only e fs) : d.Keeps e fs := fun g _ hne => h.2 g hne

/-- Parts beside the registers may change as well. -/
theorem Dev.keeps_of_get {d e : Dev} (h : ∀ g, e.get g = d.get g) (fs : List Fld) : d.Keeps e fs := fun g _ _ => h g

theorem Dev.keeps_pdEvent (d : Dev) (p bit arg : Nat) : d.Keeps (d.pdEvent p bit arg) [bitFld (0x2028 + 0x200 * p) bit] :=
  (d.told_raise _ _ [0] _ _ _ (by simp)).keeps

theorem Dev.keeps_selectInput (d : Dev) : d.Keeps d.selectInput [F.CHG_STAT_INPORT] := fun _ _ hne =>
  d.selectInput_get (hne _ (List.mem_singleton_self _))

theorem Dev.keeps_reserve (d : Dev) (p n : Nat) : d.Keeps (d.reserve p n) [F.PD_BUDGET_USED] := fun _ _ hne =>
  d.reserve_get p n (hne _ (List.mem_singleton_self _))

theorem Dev.keeps_leaveMode (d : Dev) (p : Nat) :
    d.Keeps (d.leaveMode p) [F.PD_STAT_ALTMODE p, F.HAY_LANE0_STATE p, bitFld (0x2028 + 0x200 * p) 10] := by
  unfold Dev.leaveMode
  by_cases h : d.is (F.PD_STAT_ALTMODE p) = true
  · rw [if_pos h]
    have hlane : (d.set (F.PD_STAT_ALTMODE p) 0).Keeps ((d.set (F.PD_STAT_ALTMODE p) 0).laneIdle p) [F.HAY_LANE0_STATE p] := by
      unfold Dev.laneIdle
      split_ifs
      · exact Dev.Keeps.refl _ _
      · exact (Dev.only_set _ _ _).keeps
    exact ((d.only_set _ _).keeps.trans hlane).trans (Dev.keeps_pdEvent _ _ _ _)
  · rw [if_neg h]
    exact Dev.Keeps.refl _ _

theorem Dev.hardReset_eq (d : Dev) (p : Nat) : ∃ x y : Dev, x.get (F.PD_RXSTAT_COUNT p) = 0 ∧ y = (x.leaveMode p).endContract p ∧
    d.hardReset p =
      if d.isSource p then ((y.modPort p fun x => { x.freshIds with vin := false, psRdyDue := false }).reserve p
          (typecWatts (d.get (F.PD_CTRL_RPVAL p)))).modPort p fun x => { x with vbg := false, recovering := true }
      else ((y.modPort p fun x => { x.freshIds with vin := false, psRdyDue := false }).modPort p fun x => { x with limited := true }).selectInput :=
  ⟨(d.txFlush p .eFlushed).set (F.PD_RXSTAT_COUNT p) 0, _, Dev.get_set_same .., rfl, rfl⟩

/-- The fields of a port that a hard reset clears. -/
def clearedFlds (p : Nat) : List Fld := [F.PD_RXSTAT_COUNT p, F.PD_STAT_CONTRACT p, F.PD_STAT_PPS p, F.PD_STAT_EPR p]

theorem clearedFlds_plain {p : Nat} (hp : p < 5) : ∀ g ∈ clearedFlds p, PlainFld g := fun g hg =>
  plainFld_of_fldId (by revert g; revert p; decide) (by revert g; revert p; decide) (by revert g; revert p; decide)

/-- What a hard reset clears and switches. -/
theorem Dev.hardReset_is (d : Dev) {p : Nat} (hp : p < 5) : (∀ g ∈ clearedFlds p, (d.hardReset p).get g = 0) ∧
    if d.isSource p then ((d.hardReset p).port p).vbg = false ∧ ((d.hardReset p).port p).recovering = true
    else ((d.hardReset p).port p).limited = true := by
  obtain ⟨x, y, hx, hy, heq⟩ := d.hardReset_eq p
  have hcleared : ∀ g ∈ clearedFlds p, y.get g = 0 := by
    obtain ⟨hcon, hpps, hepr⟩ := (x.leaveMode p).endContract_get hp
    have hcnt : y.get (F.PD_RXSTAT_COUNT p) = 0 := by
      have hset : (x.leaveMode p).Only ((x.leaveMode p).setAll [(F.PD_STAT_CONTRACT p, 0), (F.PD_STAT_PPS p, 0), (F.PD_STAT_EPR p, 0)]) _ :=
        Dev.only_setAll _ _
      have hmode := x.keeps_leaveMode p (F.PD_RXSTAT_COUNT p) (clearedFlds_plain hp _ (by simp [clearedFlds])) (by clear * - hp; revert p; decide)
      rw [hy]
      exact (hset.2 (F.PD_RXSTAT_COUNT p) (by clear * - hp; revert p; decide)).trans (hmode.trans hx)
    intro g hg
    simp only [clearedFlds, List.mem_cons, List.not_mem_nil, or_false] at hg
    rcases hg with rfl | rfl | rfl | rfl
    · exact hcnt
    · rw [hy]; exact hcon
    · rw [hy]; exact hpps
    · rw [hy]; exact hepr
  rw [heq]
  cases hs : d.isSource p
  · simp only [Bool.false_eq_true, if_false]
    refine ⟨fun g hg => ?_, ?_⟩
    · rw [Dev.selectInput_get _ (by clear * - hp hg; revert g; revert p; decide)]
      exact hcleared g hg
    · obtain ⟨b, hb⟩ := ((y.modPort p fun x => { x.freshIds with vin := false, psRdyDue := false }).modPort p
        fun x => { x with limited := true }).selectInput_port p
      rw [hb, Dev.port_modPort_same]
  · simp only [if_true]
    refine ⟨fun g hg => ?_, ?_⟩
    · rw [Dev.modPort_get, Dev.reserve_get _ _ _ (by clear * - hp hg; revert g; revert p; decide)]
      exact hcleared g hg
    · rw [Dev.port_modPort_same]
      exact ⟨rfl, rfl⟩

theorem Dev.followPort_ite {d e : Dev} {p : Nat} {c : Prop} [Decidable c] :
    d.followPort (if c then e else d) p = if c then d.followPort e p else d := by
  split_ifs
  · rfl
  · exact d.followPort_self p

theorem Dev.srcSlow_eq {d : Dev} {p : Nat} :
    d.srcSlow p false = (if d.isSource p = true ∧ ((d.port p).trans = 2 ∨ (d.port p).trans = 8) then
      ((d.sendHardReset p).pdFault p 4 0 2).pdFault p 3 0 1 else d) ∧
    d.srcSlow p true = (if d.isSource p = true ∧ ((d.port p).recovering = true ∨ (d.port p).trans = 5) then
      (d.modPort p fun y => { y with notLow := true, vbg := false }).pdFault p 4 0 2 else d) := by
  unfold Dev.srcSlow
  cases d.isSource p
  · exact ⟨rfl, rfl⟩
  · simp only [Bool.not_true, Bool.false_eq_true, if_false, true_and, if_true, Bool.or_eq_true, beq_iff_eq, and_self]

theorem pdFaultsRule : PdFaultsRule := by
  intro s p hup
  have hcleared := s.dev.hardReset_is p.isLt
  refine ⟨?_, Ends.of_act hup ?_, Ends.of_act hup ?_, Ends.of_act hup ?_, Ends.of_act hup ?_, Ends.of_act hup ?_, Ends.of_act hup ?_,
    fun hp d hsrc hon hoff => ?_⟩
  · obtain ⟨hget, hport⟩ := hcleared
    exact ⟨hget _ (by simp [clearedFlds]), hget _ (by simp [clearedFlds]), hget _ (by simp [clearedFlds]), hget _ (by simp [clearedFlds]), hport⟩
  · unfold Dev.pdHardReset
    cases s.dev.pdDeaf p.val
    · rfl
    · exact s.dev.followPort_self _
  · rw [Dev.srcSlow_eq.1, Dev.followPort_ite]
  · rw [Dev.srcSlow_eq.2, Dev.followPort_ite]
  · rw [Dev.snkSlow, ← Dev.followPort_ite]
    simp only [Bool.and_eq_true, List.contains_iff_mem]
  · simp only [Dev.pdOvp, Dev.followPort_ite]
  · simp only [Dev.pdOcp, Dev.followPort_ite, Bool.and_eq_true]
  · unfold Dev.followPort
    rw [if_pos ⟨hp, hsrc, hon, by rw [hoff]; rfl⟩]

/-! ### VBUS transitions (R96, R105 to R108, R119) -/

/-- A state in which VBUS of a port has just been read acts on that port as the one before. -/
theorem Dev.vbusRead_reads {d x : Dev} {p : Nat} (hp : p < 5) (h : d.Only x [F.PD_VBUS_VOLT p, F.PD_VBUS_CUR p]) :
    (∀ o, x.port o = d.port o) ∧ x.isSource p = d.isSource p ∧ x.isSink p = d.isSink p ∧ x.phyHeld = d.phyHeld ∧
      x.is (F.PD_CTRL_PPSEN 0) = d.is (F.PD_CTRL_PPSEN 0) := by
  have hget : ∀ g ∈ [F.PD_STAT_TCSTATE p, F.PD_CTRL_PPSEN 0, F.SUP_STAT_STAGE, F.SUP_STAT_PHYHOLD, F.SUP_XTSTAT_BACKUP], x.get g = d.get g :=
    fun g hg => h.2 g (by clear * - hp hg; revert g; revert p; decide)
  have hpow : x.pow = d.pow := by rw [h.1]
  have hfuse : x.fuse = d.fuse := by rw [h.1]
  have htc := hget (F.PD_STAT_TCSTATE p) (by simp)
  refine ⟨fun o => Dev.port_congr (by rw [h.1]) o, ?_, ?_, ?_, congrArg (· == 1) (hget (F.PD_CTRL_PPSEN 0) (by simp))⟩
  · simp only [Dev.isSource, Dev.tcState, htc]
  · simp only [Dev.isSink, Dev.tcState, htc]
  · simp only [Dev.phyHeld, Dev.is, hpow, hfuse, hget F.SUP_STAT_STAGE (by simp), hget F.SUP_STAT_PHYHOLD (by simp),
      hget F.SUP_XTSTAT_BACKUP (by simp)]

/-- VBUS in its window, on a port that sources and waits for it. -/
theorem Dev.srcPsRdy_eq {d : Dev} {p : Nat} :
    (d.isSource p = false ∨ (d.port p).trans ∉ [2, 5, 8] → d.srcPsRdy p = d) ∧
    (d.isSource p = true → (d.port p).trans ∈ [2, 5, 8] → d.phyHeld = true → d.srcPsRdy p = d.modPort p fun y => { y with psRdyDue := true }) ∧
    (d.isSource p = true → d.phyHeld = false →
      ((d.port p).trans = 2 → d.srcPsRdy p = (((d.pdSendControl p 6).modPort p fun z => { z with trans := 0, mv := z.reqMv, ma := z.reqMa }).set
        (F.PD_STAT_CONTRACT p) 1).pdEvent p 2 0) ∧
      ((d.port p).trans = 5 → d.srcPsRdy p = d.prSwapSink p) ∧
      ((d.port p).trans = 8 → d.srcPsRdy p = (d.pdSendControl p 6).modPort p fun z => { z with trans := 0 })) := by
  unfold Dev.srcPsRdy
  refine ⟨fun h => ?_, fun hs ht hh => ?_, fun hs hh => ⟨fun ht => ?_, fun ht => ?_, fun ht => ?_⟩⟩
  · rcases h with h | h
    · rw [h]; rfl
    · simp only [List.mem_cons, List.not_mem_nil, or_false, not_or] at h
      obtain ⟨h2, h5, h8⟩ := h
      simp [h2, h5, h8]
  · simp only [List.mem_cons, List.not_mem_nil, or_false] at ht
    simp [hs, ht, hh]
  all_goals simp [hs, ht, hh]

theorem pdVbusRule : PdVbusRule := by
  intro s p hup q seen
  have hseen : ∀ volt cur : Fin 4096, seen (s.dev.vbusSample p.val volt.val cur.val) volt cur := fun volt cur =>
    s.dev.vbusSample_is volt.isLt cur.isLt
  refine ⟨Ends.of_act hup ?_, fun volt cur => Ends.of_act hup ?_, fun low => Ends.of_act hup ?_, fun volt cur => Ends.of_act hup ?_⟩
  · simp only [Dev.srcSetpoint, Bool.and_eq_true, beq_iff_eq]
    rfl
  · refine ⟨_, hseen volt cur, ?_⟩
    obtain ⟨hport, hsrc, -, hphy, -⟩ := Dev.vbusRead_reads p.isLt (hseen volt cur).2.2
    generalize s.dev.vbusSample p.val volt.val cur.val = x at *
    rw [← hsrc, ← hphy, show q = x.port p.val from (hport p.val).symm]
    obtain ⟨hidle, hheld, hgo⟩ := Dev.srcPsRdy_eq (d := x) (p := p.val)
    by_cases hno : x.isSource p.val = false ∨ (x.port p.val).trans ∉ [2, 5, 8]
    · rw [if_pos hno]; exact hidle hno
    rw [if_neg hno]
    rw [not_or, Bool.not_eq_false, not_not] at hno
    obtain ⟨hs, ht⟩ := hno
    by_cases hh : x.phyHeld = true
    · rw [if_pos hh]; exact hheld hs ht hh
    rw [if_neg hh]
    obtain ⟨h2, h5, h8⟩ := hgo hs (by simpa using hh)
    by_cases ht2 : (x.port p.val).trans = 2
    · rw [if_pos ht2]
      exact ⟨_, h2 ht2, Dev.get_set_same .., Dev.only_set _ _ _⟩
    rw [if_neg ht2]
    by_cases ht5 : (x.port p.val).trans = 5
    · rw [if_pos ht5]
      refine ⟨(x.set (F.PD_STAT_TCSTATE p.val) 2).set (F.PD_STAT_PWRROLE p.val) 0, ?_, Dev.get_set_same ..,
        (x.only_set _ _).trans (Dev.only_set _ _ _), h5 ht5⟩
      exact (Dev.get_set_ne _ _ (by clear * -; revert p; decide)).trans (Dev.get_set_same ..)
    rw [if_neg ht5]
    refine h8 ?_
    simpa [ht2, ht5] using ht
  · simp only [Dev.srcRecovered, Bool.and_eq_true, Bool.not_eq_true', and_assoc]
    by_cases h : s.dev.isSource p.val = true ∧ (s.dev.port p.val).recovering = true ∧ low = true ∧ s.dev.is (F.PD_STAT_FENCED p.val) = false ∧
        s.dev.maySource p.val = true
    · rw [if_pos h, if_pos h]
    · rw [if_neg h, if_neg h]
  · refine ⟨_, hseen volt cur, ?_⟩
    obtain ⟨hport, -, hsnk, -, hpps⟩ := Dev.vbusRead_reads p.isLt (hseen volt cur).2.2
    generalize s.dev.vbusSample p.val volt.val cur.val = x at *
    rw [← hsnk, ← hpps, show q = x.port p.val from (hport p.val).symm]
    simp only [Dev.snkSettled, Bool.and_eq_true, Bool.or_eq_true, beq_iff_eq, Bool.not_eq_true', and_assoc]
    by_cases h : x.isSink p.val = true ∧ (x.port p.val).trans = 4 ∧ ((x.port p.val).reqPps = false ∨ (p.val = 0 ∧ x.is (F.PD_CTRL_PPSEN 0) = true))
    · rw [if_pos h, if_pos h]
      refine ⟨_, rfl, ?_, Dev.setB_get_same _ _ rfl, (Dev.only_set _ _ _).trans (Dev.only_setB _ _ _)⟩
      exact (Dev.setB_get_ne _ _ (by clear * -; revert p; decide)).trans (Dev.get_set_same ..)
    · rw [if_neg h, if_neg h]

theorem pdKeepaliveRule : PdKeepaliveRule := by
  intro s p hup own
  refine ⟨Ends.of_act hup ?_, Ends.of_act hup ?_⟩
  · simp only [Dev.eprKeepalive, Bool.and_eq_true, Bool.not_eq_true']
    rfl
  · simp only [Dev.ppsRepeat, Bool.and_eq_true, Bool.not_eq_true', bne_iff_ne, and_assoc]
    rfl

/-! ### Moisture (R111, R112, R117) -/

/-- PD_MOIST after a measurement. -/
def Dev.moistShown (d : Dev) (p cc1 cc2 sbu1 sbu2 : Nat) : Dev :=
  let d1 := (d.set (F.PD_MOIST_SBU1 p) sbu1).set (F.PD_MOIST_SBU2 p) sbu2
  if d.attached p then d1 else (d1.set (F.PD_MOIST_CC1 p) cc1).set (F.PD_MOIST_CC2 p) cc2

theorem moistFlds_apart {p : Nat} (hp : p < 5) : [F.PD_MOIST_SBU1 p, F.PD_MOIST_SBU2 p, F.PD_MOIST_CC1 p, F.PD_MOIST_CC2 p].Pairwise
    fun f g => fldId f ≠ fldId g := by
  revert p; decide

theorem Dev.moistShown_is (d : Dev) {p : Nat} (hp : p < 5) (cc1 cc2 sbu1 sbu2 : Fin 4) :
    let x := d.moistShown p cc1 cc2 sbu1 sbu2
    x.get (F.PD_MOIST_SBU1 p) = sbu1.val ∧ x.get (F.PD_MOIST_SBU2 p) = sbu2.val ∧
      x.get (F.PD_MOIST_CC1 p) = (if d.attached p then d.get (F.PD_MOIST_CC1 p) else cc1.val) ∧
      x.get (F.PD_MOIST_CC2 p) = (if d.attached p then d.get (F.PD_MOIST_CC2 p) else cc2.val) ∧
      d.Only x [F.PD_MOIST_CC1 p, F.PD_MOIST_CC2 p, F.PD_MOIST_SBU1 p, F.PD_MOIST_SBU2 p] := by
  intro x
  have hsbu := d.only_setAll [(F.PD_MOIST_SBU1 p, sbu1.val), (F.PD_MOIST_SBU2 p, sbu2.val)]
  by_cases hatt : d.attached p = true
  · have hx : x = d.setAll [(F.PD_MOIST_SBU1 p, sbu1.val), (F.PD_MOIST_SBU2 p, sbu2.val)] := if_pos hatt
    have hget {f : Fld} (v : Nat) := d.setAll_val (l := [(F.PD_MOIST_SBU1 p, sbu1.val), (F.PD_MOIST_SBU2 p, sbu2.val)])
      ((moistFlds_apart hp).sublist (by simp)) (f := f) v
    have hcc : ∀ g ∈ [F.PD_MOIST_CC1 p, F.PD_MOIST_CC2 p], ∀ f ∈ [F.PD_MOIST_SBU1 p, F.PD_MOIST_SBU2 p], fldId f ≠ fldId g := by
      clear * - hp; revert p; decide
    rw [hx, if_pos hatt, if_pos hatt]
    exact ⟨hget (f := F.PD_MOIST_SBU1 p) _ (by simp) sbu1.isLt, hget (f := F.PD_MOIST_SBU2 p) _ (by simp) sbu2.isLt,
      hsbu.2 _ (hcc _ (by simp)), hsbu.2 _ (hcc _ (by simp)), hsbu.mono (by simp)⟩
  · have hx : x = d.setAll [(F.PD_MOIST_SBU1 p, sbu1.val), (F.PD_MOIST_SBU2 p, sbu2.val), (F.PD_MOIST_CC1 p, cc1.val), (F.PD_MOIST_CC2 p, cc2.val)] :=
      if_neg hatt
    have hget {f : Fld} (v : Nat) := d.setAll_val (l := [(F.PD_MOIST_SBU1 p, sbu1.val), (F.PD_MOIST_SBU2 p, sbu2.val), (F.PD_MOIST_CC1 p, cc1.val),
      (F.PD_MOIST_CC2 p, cc2.val)]) (moistFlds_apart hp) (f := f) v
    rw [hx, if_neg hatt, if_neg hatt]
    exact ⟨hget (f := F.PD_MOIST_SBU1 p) _ (by simp) sbu1.isLt, hget (f := F.PD_MOIST_SBU2 p) _ (by simp) sbu2.isLt,
      hget (f := F.PD_MOIST_CC1 p) _ (by simp) cc1.isLt, hget (f := F.PD_MOIST_CC2 p) _ (by simp) cc2.isLt, (d.only_setAll _).mono (by simp)⟩

/-- The end of MoistureHold. -/
def Dev.moistClear (x : Dev) (p : Nat) : Dev :=
  ((x.modPort p fun y => { y with clear := y.clear + 1 }).set (F.PD_STAT_TCSTATE p) 0).modPort p fun y => { y with clear := 0, wakeMasked := false }

theorem Dev.moisture_eq (d : Dev) (p cc1 cc2 sbu1 sbu2 : Nat) :
    let x := d.moistShown p cc1 cc2 sbu1 sbu2
    let lim := d.get (F.PD_MOISTCFG_LIMIT p)
    let arg := moistWord (x.get (F.PD_MOIST_CC1 p)) (x.get (F.PD_MOIST_CC2 p)) sbu1 sbu2
    d.moisture p cc1 cc2 sbu1 sbu2 =
      if d.is (F.PD_MOISTCFG_EN p) = false then d
      else if d.attached p = true then
        if d.get (F.PD_MOISTCFG_ACTLIM p) ≤ max sbu1 sbu2 then
          ((if d.isSource p then (x.sendHardReset p).pdFault p 3 0 1 else x).moistHold p).pdFault p 8 arg 6
        else if lim ≤ max sbu1 sbu2 then x.pdFault p 8 arg 6 else x
      else if d.tcState p = 6 then
        if inMoisture lim cc1 cc2 sbu1 sbu2 = true then x.modPort p fun y => { y with clear := 0 }
        else if d.get (F.PD_MOISTCFG_CLEARN p) ≤ (x.port p).clear + 1 then (x.moistClear p).pdEvent p 9 0
        else x.modPort p fun y => { y with clear := y.clear + 1 }
      else if d.tcState p = 0 ∧ inMoisture lim cc1 cc2 sbu1 sbu2 = true then (x.moistHold p).pdFault p 8 arg 6
      else x := by
  intro x lim arg
  have hclear : ((x.modPort p fun y => { y with clear := y.clear + 1 }).port p).clear = (x.port p).clear + 1 := by rw [Dev.port_modPort_same]
  rw [← hclear]
  unfold Dev.moisture
  simp only [Bool.not_eq_true']
  rfl

theorem Dev.followPort_unchanged {d e : Dev} {p : Nat} (hu : e.usbAllowed p = d.usbAllowed p) (hv : (e.port p).vbg = (d.port p).vbg) :
    d.followPort e p = e := by
  rw [Dev.followPort_eq fun ⟨_, _, hon, hoff⟩ => absurd hon (by rw [← hv, hoff]; exact Bool.false_ne_true), Dev.followUsb_of_same hu]

/-- A change of a port that stays unattached moves no USB data. -/
theorem Dev.followPort_idle {d e : Dev} {p : Nat} (hp : p < 5) (hd : d.attached p = false) (he : e.attached p = false) : d.followPort e p = e := by
  have hsrc : d.isSource p = false := by
    simp only [Dev.attached, Dev.isSource, Bool.or_eq_false_iff] at hd ⊢
    exact ⟨hd.1.2, hd.2⟩
  rw [Dev.followPort_unattached _ hsrc, Dev.followUsb_of_same ((Dev.usbAllowed_unattached (by omega) he).trans
    (Dev.usbAllowed_unattached (by omega) hd).symm)]

theorem Dev.moistClear_is (x : Dev) (p : Nat) : (x.moistClear p).tcState p = 0 ∧
    (x.modPort p fun z => { z with clear := 0, wakeMasked := false }).Only (x.moistClear p) [F.PD_STAT_TCSTATE p] := by
  have heq : x.moistClear p = (x.modPort p fun z => { z with clear := 0, wakeMasked := false }).set (F.PD_STAT_TCSTATE p) 0 :=
    (Dev.modPort_modPort (x.set (F.PD_STAT_TCSTATE p) 0) p (fun y => { y with clear := y.clear + 1 })
      fun y => { y with clear := 0, wakeMasked := false }).trans rfl
  rw [heq]
  exact ⟨Dev.get_set_same .., Dev.only_set _ _ _⟩

theorem Dev.pdEvent_tcState (d : Dev) {p : Nat} (hp : p < 5) (arg : Nat) : (d.pdEvent p 9 arg).tcState p = d.tcState p := by
  refine d.keeps_pdEvent p 9 arg (F.PD_STAT_TCSTATE p) (plainFld_of_fldId ?_ ?_ ?_) ?_ <;> revert p <;> decide

theorem moistureRule : MoistureRule := by
  intro s p cc1 cc2 sbu1 sbu2 hup
  refine Ends.of_act hup ?_
  obtain ⟨hs1, hs2, hc1, hc2, honly⟩ := s.dev.moistShown_is p.isLt cc1 cc2 sbu1 sbu2
  have heq := s.dev.moisture_eq p.val cc1.val cc2.val sbu1.val sbu2.val
  dsimp only at heq
  rw [heq]
  generalize s.dev.moistShown p.val cc1.val cc2.val sbu1.val sbu2.val = x at *
  generalize s.dev = d at *
  by_cases hen : d.is (F.PD_MOISTCFG_EN p.val) = false
  · rw [if_pos hen, if_pos hen, Dev.followPort_self]
  rw [if_neg hen, if_neg hen]
  refine ⟨x, hs1, hs2, hc1, hc2, honly, ?_⟩
  dsimp only
  have hport : ∀ o, x.port o = d.port o := fun o => Dev.port_congr (by rw [honly.1]) o
  have htc : x.get (F.PD_STAT_TCSTATE p.val) = d.get (F.PD_STAT_TCSTATE p.val) := honly.2 _ (by clear * -; revert p; decide)
  have hdr : x.get (F.PD_STAT_DATAROLE p.val) = d.get (F.PD_STAT_DATAROLE p.val) := honly.2 _ (by clear * -; revert p; decide)
  by_cases hatt : d.attached p.val = true
  · rw [if_pos hatt, if_pos hatt]
    by_cases hact : d.get (F.PD_MOISTCFG_ACTLIM p.val) ≤ max sbu1.val sbu2.val
    · rw [if_pos hact, if_pos hact]
    · rw [if_neg hact, if_neg hact]
      by_cases hlim : d.get (F.PD_MOISTCFG_LIMIT p.val) ≤ max sbu1.val sbu2.val
      · rw [if_pos hlim, if_pos hlim]
      · rw [if_neg hlim, if_neg hlim]
        exact Dev.followPort_unchanged (Dev.usbAllowed_congr htc hdr (by rw [hport])) (by rw [hport])
  · have hd : d.attached p.val = false := by simpa using hatt
    have hstill : ∀ e : Dev, e.get (F.PD_STAT_TCSTATE p.val) = x.get (F.PD_STAT_TCSTATE p.val) → d.followPort e p.val = e := fun e he =>
      Dev.followPort_idle p.isLt hd (by rw [Dev.attached, Dev.tcState, he, htc]; exact hd)
    rw [if_neg hatt, if_neg hatt]
    by_cases h6 : d.tcState p.val = 6
    · rw [if_pos h6, if_pos h6, hport]
      by_cases hwet : inMoisture (d.get (F.PD_MOISTCFG_LIMIT p.val)) cc1.val cc2.val sbu1.val sbu2.val = true
      · rw [if_pos hwet, if_pos hwet]
        exact hstill _ rfl
      · rw [if_neg hwet, if_neg hwet]
        by_cases hn : d.get (F.PD_MOISTCFG_CLEARN p.val) ≤ (d.port p.val).clear + 1
        · rw [if_pos hn, if_pos hn]
          obtain ⟨h0, hon⟩ := x.moistClear_is p.val
          refine ⟨_, Dev.followPort_idle p.isLt hd ?_, h0, hon⟩
          rw [Dev.attached, Dev.pdEvent_tcState _ p.isLt, h0]
          rfl
        · rw [if_neg hn, if_neg hn]
          exact hstill _ rfl
    · rw [if_neg h6, if_neg h6]
      by_cases hwet : d.tcState p.val = 0 ∧ inMoisture (d.get (F.PD_MOISTCFG_LIMIT p.val)) cc1.val cc2.val sbu1.val sbu2.val = true
      · rw [if_pos hwet, if_pos hwet]
      · rw [if_neg hwet, if_neg hwet]
        exact hstill _ rfl

/-- Settles O19. -/
theorem pdPower : Obligations.PdPower := ⟨pdFaultsRule, pdVbusRule, pdKeepaliveRule, moistureRule⟩

end Sys2Proof.Machine

/-!
SUPPORT. The pack: presence, over-current and loss of the input (chapter 05).
-/
namespace Sys2Proof.Machine

open Sys2Proof

/-! ### Fields of the blocks below the Larder -/

/-- A field of a register below the Larder's counts is plain. -/
theorem plainFld_of_low {g : Fld} (h : fldId g < 32 * 0x5A10) : PlainFld g := by
  refine ⟨fun q => ⟨?_, ?_⟩, ?_, ?_, ?_⟩ <;>
    simp only [fldId, F.QUE_W2_LOST, F.QUE_W1_LOSTSAT, F.LAR_LEAK_COUNT, F.ECC_INJ_COUNT, F.ECC_INJ_ARM] at h ⊢ <;> omega

/-- Clearing one bit of a field clears that bit alone. -/
theorem Dev.setBit_false_bit (d : Dev) {f : Fld} {i j : Nat} (hi : i < f.w) (hj : j < f.w) :
    (d.setBit f i false).bit f j = (decide (j ≠ i) && d.bit f j) := by
  unfold Dev.setBit
  simp only [Bool.false_eq_true, if_false]
  split_ifs with h
  · by_cases hji : j = i
    · subst hji; simp [h]
    · simp [hji]
  · have hbit : (d.get f).testBit i = true := by simpa [Dev.bit, bitOf_eq_testBit] using h
    have hle : 2 ^ i ≤ d.get f := Nat.ge_two_pow_of_testBit hbit
    have hlow : (d.get f - 2 ^ i).testBit i = false := by
      have hadd := Nat.testBit_two_pow_add_eq (d.get f - 2 ^ i) i
      rw [Nat.add_sub_cancel' hle, hbit] at hadd
      simpa using hadd.symm
    have hor : d.get f = (d.get f - 2 ^ i) ||| 2 ^ i := by rw [← add_two_pow_eq_or hlow, Nat.sub_add_cancel hle]
    simp only [Dev.bit, bitOf_eq_testBit, Dev.get_set_same, Nat.testBit_mod_two_pow, hj, decide_true, Bool.true_and]
    by_cases hji : j = i
    · subst hji; simp [hlow]
    · rw [hor]
      have hself : (d.get f - 2 ^ i ||| 2 ^ i) - 2 ^ i = d.get f - 2 ^ i := by rw [← hor]
      rw [hself, Nat.testBit_or, Nat.testBit_two_pow]
      simp [hji, Ne.symm hji]

/-! ### The pack (R143, R144, R148 to R151) -/

theorem cellFlds_apart : ((List.range 8).map F.CEL_CELL_STATE).Pairwise fun f g => fldId f ≠ fldId g := by decide

theorem Dev.setCells_eq (d : Dev) (st : Nat) :
    d.setCells st = d.setAll ((List.range 8).map fun k => (F.CEL_CELL_STATE k, if k < d.nCells then st else 0)) := by
  rw [Dev.setAll, List.foldl_map]; rfl

theorem Dev.setCells_is (d : Dev) {st : Nat} (hst : st < 8) : (∀ k < 8, (d.setCells st).cellState k = if k < d.nCells then st else 0) ∧
    d.Only (d.setCells st) ((List.range 8).map F.CEL_CELL_STATE) := by
  have hmap : ((List.range 8).map fun k => (F.CEL_CELL_STATE k, if k < d.nCells then st else 0)).map Prod.fst =
      (List.range 8).map F.CEL_CELL_STATE := by rw [List.map_map]; rfl
  rw [Dev.setCells_eq]
  refine ⟨fun k hk => ?_, hmap ▸ d.only_setAll _⟩
  refine d.setAll_val (f := F.CEL_CELL_STATE k) (hmap ▸ cellFlds_apart) _ (List.mem_map.mpr ⟨k, List.mem_range.mpr hk, rfl⟩) ?_
  split_ifs
  · exact hst
  · exact Nat.two_pow_pos _

/-- No cell may be balanced without the pack. -/
theorem Dev.forceBalance_absent {d : Dev} (h : d.is F.CEL_STAT_PRESENT = false) :
    (∀ k < 8, d.forceBalance.bit F.CEL_BAL_MASK k = false) ∧ d.Only d.forceBalance [F.CEL_BAL_MASK] := by
  have heq : d.forceBalance = (List.range 8).foldl (fun d k => d.setBit F.CEL_BAL_MASK k false) d := by
    simp only [Dev.forceBalance, h, Bool.false_and, Bool.false_eq_true, if_false]
  have hall : ∀ (l : List Nat) (d : Dev), (∀ i ∈ l, i < 8) → ∀ k < 8,
      (l.foldl (fun d k => d.setBit F.CEL_BAL_MASK k false) d).bit F.CEL_BAL_MASK k = (decide (k ∉ l) && d.bit F.CEL_BAL_MASK k) := by
    intro l
    induction l with
    | nil => intro d _ k _; simp
    | cons i t ih =>
      intro d hl k hk
      obtain ⟨hi, ht⟩ := List.forall_mem_cons.mp hl
      rw [List.foldl_cons, ih _ ht k hk, d.setBit_false_bit (f := F.CEL_BAL_MASK) hi hk, ← Bool.and_assoc, Bool.and_comm (decide (k ∉ t))]
      simp [List.mem_cons, not_or]
  have honly := Dev.only_foldl (fun (d : Dev) k => d.only_setBit F.CEL_BAL_MASK k false) (List.range 8) d
  refine ⟨fun k hk => ?_, heq ▸ honly.mono (by decide)⟩
  rw [heq, hall _ _ (fun i hi => List.mem_range.mp hi) k hk]
  simp [hk]

/-- A device with another state of the pack's side. -/
def Dev.withPack (d : Dev) (p : Pack) : Dev := { d with pack := p }

theorem Dev.withPack_get (d : Dev) (p : Pack) (g : Fld) : (d.withPack p).get g = d.get g := rfl

theorem Dev.Only.withPack {d e : Dev} {fs : List Fld} (h : d.Only e fs) (p : Pack) : (d.withPack p).Only (e.withPack p) fs := by
  obtain ⟨m, rfl⟩ := h.eq_with
  exact ⟨rfl, h.2⟩

/-- What a change of presence shows. -/
theorem Dev.presence_is (d : Dev) (b st : Nat) (hb : b < 2) (hst : st < 8) {x : Dev} (hx : x = (d.set F.CEL_STAT_PRESENT b).setCells st) :
    x.get F.CEL_STAT_PRESENT = b ∧ (∀ k < 8, x.cellState k = if k < d.nCells then st else 0) ∧
      d.Only x (F.CEL_STAT_PRESENT :: (List.range 8).map F.CEL_CELL_STATE) := by
  have hset := d.only_set F.CEL_STAT_PRESENT b
  obtain ⟨hcell, honly⟩ := (d.set F.CEL_STAT_PRESENT b).setCells_is hst
  have hn : (d.set F.CEL_STAT_PRESENT b).nCells = d.nCells := hset.2 _ (by decide)
  rw [hx]
  refine ⟨?_, fun k hk => ?_, hset.trans honly⟩
  · rw [honly.2 _ (by decide), Dev.get_set_same]
    exact Nat.mod_eq_of_lt hb
  · rw [hcell k hk, hn]

/-- The registers of an absent pack. -/
def Dev.packGone (d : Dev) : Dev :=
  (((((d.set F.CEL_STAT_PRESENT 0).set F.CEL_STAT_OWBUSY 0).setCells 2).modPack fun p =>
    { p with qual := false, sumBad := false, suspect := false, owMoved := [] }).forceBalance).showLowest

theorem Dev.packGone_is (d : Dev) : d.packGone.get F.CEL_STAT_PRESENT = 0 ∧ d.packGone.get F.CEL_STAT_OWBUSY = 0 ∧
    d.packGone.get F.CEL_STAT_LOWEST = 0 ∧
    (∀ k < 8, d.packGone.bit F.CEL_BAL_MASK k = false ∧ d.packGone.cellState k = if k < d.nCells then 2 else 0) ∧
    ({ d with pack := { d.pack with qual := false, sumBad := false, suspect := false, owMoved := [] } } : Dev).Only d.packGone
      ([F.CEL_STAT_PRESENT, F.CEL_STAT_OWBUSY, F.CEL_STAT_LOWEST, F.CEL_BAL_MASK] ++ (List.range 8).map F.CEL_CELL_STATE) := by
  obtain ⟨a, ha⟩ : ∃ a, a = d.setAll [(F.CEL_STAT_PRESENT, 0), (F.CEL_STAT_OWBUSY, 0)] := ⟨_, rfl⟩
  have hset : d.Only a [F.CEL_STAT_PRESENT, F.CEL_STAT_OWBUSY] := ha ▸ d.only_setAll _
  have hget (f : Fld) (hf : (f, 0) ∈ [(F.CEL_STAT_PRESENT, 0), (F.CEL_STAT_OWBUSY, 0)]) : a.get f = 0 := by
    rw [ha]; exact d.setAll_val (by decide) 0 hf (Nat.two_pow_pos _)
  have hn : a.nCells = d.nCells := hset.2 _ (by decide)
  obtain ⟨hcell, hcells⟩ := a.setCells_is (st := 2) (by decide)
  obtain ⟨c, hc⟩ : ∃ c, c = (a.setCells 2).withPack { d.pack with qual := false, sumBad := false, suspect := false, owMoved := [] } := ⟨_, rfl⟩
  have hcget : ∀ g, c.get g = (a.setCells 2).get g := fun g => hc ▸ Dev.withPack_get _ _ _
  have hpres : c.get F.CEL_STAT_PRESENT = 0 := by rw [hcget, hcells.2 _ (by decide), hget _ (by simp)]
  have hpis : c.is F.CEL_STAT_PRESENT = false := by rw [Dev.is, hpres]; rfl
  obtain ⟨hbit, hbal⟩ := Dev.forceBalance_absent hpis
  have hlow : c.forceBalance.showLowest = c.forceBalance.set F.CEL_STAT_LOWEST 0 := by
    have hp' : c.forceBalance.is F.CEL_STAT_PRESENT = false := by rw [Dev.is, hbal.2 _ (by decide)]; exact hpis
    rw [Dev.showLowest, hp']
    rfl
  have hgone : d.packGone = c.forceBalance.set F.CEL_STAT_LOWEST 0 := by
    have hpack : (a.setCells 2).pack = d.pack := by rw [hcells.1, hset.1]
    rw [← hlow, hc, ← hpack, ha]
    rfl
  have hlast := c.forceBalance.only_set F.CEL_STAT_LOWEST 0
  rw [hgone]
  refine ⟨?_, ?_, Dev.get_set_same .., fun k hk => ⟨?_, ?_⟩, ?_⟩
  · rw [hlast.2 _ (by decide), hbal.2 _ (by decide), hpres]
  · rw [hlast.2 _ (by decide), hbal.2 _ (by decide), hcget, hcells.2 _ (by decide), hget _ (by simp)]
  · rw [← hbit k hk]
    exact congrArg (bitOf · k) (hlast.2 _ (by decide))
  · rw [← hn, ← hcell k hk]
    exact (hlast.2 _ (by revert k; decide)).trans ((hbal.2 _ (by revert k; decide)).trans (hcget _))
  · have hon := ((hset.trans hcells).withPack { d.pack with qual := false, sumBad := false, suspect := false, owMoved := [] })
    rw [← hc] at hon
    exact ((hon.trans hbal).trans hlast).mono (by decide)

theorem Dev.packLoss_is {d : Dev} (vr left : Nat) (h : d.is F.CEL_STAT_PRESENT = true) : ∃ x : Dev,
    d.packLoss vr left = (((if x.get F.CHG_STAT_STATE = 7 then (x.set F.CHG_STAT_STATE 0).upFails else x).celEvent 0 0).closeFault 2 0 9).redecide vr left ∧
    x.get F.CEL_STAT_PRESENT = 0 ∧ x.get F.CEL_STAT_OWBUSY = 0 ∧ x.get F.CEL_STAT_LOWEST = 0 ∧
    (∀ k < 8, x.bit F.CEL_BAL_MASK k = false ∧ x.cellState k = if k < d.nCells then 2 else 0) ∧
    ({ d with pack := { d.pack with qual := false, sumBad := false, suspect := false, owMoved := [] } } : Dev).Only x
      ([F.CEL_STAT_PRESENT, F.CEL_STAT_OWBUSY, F.CEL_STAT_LOWEST, F.CEL_BAL_MASK] ++ (List.range 8).map F.CEL_CELL_STATE) := by
  refine ⟨d.packGone, ?_, d.packGone_is⟩
  rw [Dev.packLoss, if_neg (by simp [h])]
  rfl

/-- Settles O20: each command on the pack, where it acts and where it does not. -/
theorem pack : Obligations.Pack := by
  intro s hup
  refine ⟨Ends.of_act hup ?_, fun vr left => Ends.of_act hup ?_, Ends.of_act hup ?_, Ends.of_act hup ?_, Ends.of_act hup ?_⟩
  all_goals generalize s.dev = d
  · simp only [Dev.packBack, Bool.and_eq_true, Bool.not_eq_true']
    by_cases h : d.pack.qual = true ∧ d.is F.CEL_STAT_PRESENT = false
    · rw [if_pos h, if_pos h]
      obtain ⟨hp, hc, honly⟩ := d.presence_is 1 1 (by decide) (by decide) rfl
      have hpack : ((d.set F.CEL_STAT_PRESENT 1).setCells 1).pack = d.pack := by rw [honly.1]
      generalize (d.set F.CEL_STAT_PRESENT 1).setCells 1 = x at *
      refine ⟨x.withPack { d.pack with qual := false }, ?_, hp, fun k => hc k k.isLt, honly.withPack _⟩
      rw [Dev.modPack, hpack]
      rfl
    · rw [if_neg h, if_neg h]
  · by_cases h : d.is F.CEL_STAT_PRESENT = true
    · rw [if_pos h]
      obtain ⟨x, heq, hpres, how, hlow, hcells, honly⟩ := d.packLoss_is vr.val left.val h
      have hst : x.get F.CHG_STAT_STATE = d.get F.CHG_STAT_STATE := honly.2 _ (by decide)
      by_cases h7 : d.get F.CHG_STAT_STATE = 7
      · rw [hst, if_pos h7] at heq
        exact ⟨x, _, heq, hpres, how, hlow, fun k => hcells k k.isLt, honly, by rw [if_pos h7]; exact ⟨_, rfl, Dev.get_set_same .., x.only_set _ _⟩⟩
      · rw [hst, if_neg h7] at heq
        exact ⟨x, _, heq, hpres, how, hlow, fun k => hcells k k.isLt, honly, by rw [if_neg h7]⟩
    · rw [if_neg h, Dev.packLoss]
      exact if_pos (by simpa using h)
  · simp only [Dev.chgOcp, Dev.suspend, Bool.and_eq_true]
    by_cases h : d.pack.sess = true ∧ d.switching = true
    · rw [if_pos h, if_pos h, if_pos h.1]
      refine ⟨_, rfl, ?_, Dev.get_set_same .., (d.only_set _ _).trans (Dev.only_set _ _ _)⟩
      rw [Dev.get_set_ne _ _ (by decide), Dev.get_set_same]
      rfl
    · rw [if_neg h, if_neg h]
  · simp only [Dev.chgOcpResume, Bool.and_eq_true, beq_iff_eq]
    by_cases h : d.pack.sess = true ∧ d.get F.CHG_STAT_SUSP = 4
    · rw [if_pos h, if_pos h]
      refine ⟨_, rfl, ?_, Dev.get_set_same .., ((d.only_set _ _).trans (Dev.only_set _ _ _)).mono (by decide)⟩
      rw [Dev.get_set_ne _ _ (by decide), Dev.get_set_same]
      rfl
    · rw [if_neg h, if_neg h]
  · simp only [Dev.chgInputLost, Bool.and_eq_true, decide_eq_true_eq, Bool.not_eq_true']
    by_cases hb : d.get F.CHG_STAT_INPORT = 0
    · cases d.pack.sess <;> simp [hb]
    · simp [hb]

end Sys2Proof.Machine

/-!
SUPPORT. Charge sessions: opening, closing and their record (chapter 05).
-/
namespace Sys2Proof.Machine

open Sys2Proof

/-! ### Charge sessions: opening and the ways of closing (R130, R134 to R136, R153, R158) -/

theorem Dev.openSession_is (d : Dev) : d.openSession.get F.CHG_STAT_STATE = 2 ∧ d.openSession.get F.CHG_STAT_SUSP = 0 ∧
    ({ d with pack := { d.pack with sess := true, start := d.get F.SUP_SECONDS_COUNT, charge := 0, trim := 0 } } : Dev).Only d.openSession
      [F.CHG_STAT_STATE, F.CHG_STAT_SUSP] := by
  have hset := (d.only_set F.CHG_STAT_STATE 2).trans (Dev.only_set _ F.CHG_STAT_SUSP 0)
  have heq : d.openSession = ((d.set F.CHG_STAT_STATE 2).set F.CHG_STAT_SUSP 0).withPack
      { d.pack with sess := true, start := d.get F.SUP_SECONDS_COUNT, charge := 0, trim := 0 } := rfl
  rw [heq]
  refine ⟨?_, Dev.get_set_same .., hset.withPack _⟩
  rw [Dev.withPack_get, Dev.get_set_ne _ _ (by decide), Dev.get_set_same]
  rfl

theorem Dev.closeFault_open {d : Dev} (h : d.pack.sess = true) (cause state src : Nat) :
    d.closeFault cause state src = (d.closeSession cause state).fault 0x218 src := by rw [Dev.closeFault, if_pos h]

/-- A write of CHG_CTRL, before it acts on the session and the input. -/
def Dev.chgWritten (d : Dev) (v : Word) : Dev :=
  (d.writeRow .bar0 R.CHG_CTRL 0 v).withPack { d.pack with dead := if bitOf v.toNat 16 then false else d.pack.dead }

theorem chgCtrl_fields_apart : R.CHG_CTRL.fields.Pairwise fun f g => g.lo ≠ f.lo := by simp [R.CHG_CTRL]

theorem Dev.chgWritten_is (d : Dev) (v : Word) : (d.chgWritten v).get F.CHG_CTRL_EN = bits v.toNat 1 1 ∧
    (d.chgWritten v).get F.CHG_CTRL_INSEL = bits v.toNat 4 3 ∧
    ({ d with pack := { d.pack with dead := if bitOf v.toNat 16 then false else d.pack.dead } } : Dev).Only (d.chgWritten v)
      [F.CHG_CTRL_EN, F.CHG_CTRL_INSEL, F.CHG_CTRL_LOCK] := by
  refine ⟨?_, ?_, ((d.only_writeRow .bar0 R.CHG_CTRL 0 v).mono (by decide)).withPack _⟩
  · exact d.writeRow_get (g := ⟨1, 1, .rw, fun _ => 0⟩) (by simp [R.CHG_CTRL]) chgCtrl_fields_apart (.inl rfl)
  · exact d.writeRow_get (g := ⟨4, 3, .rw, fun _ => 0⟩) (by simp [R.CHG_CTRL]) chgCtrl_fields_apart (.inl rfl)

theorem Dev.writeChgCtrl_eq {d : Dev} {v : Word} (hup : d.up = true) (hres : setsReserved R.CHG_CTRL v = false) : d.writeChgCtrl v =
    if 5 < bits v.toNat 4 3 then d.recordGlb 0x3000 .eField
    else
      let y := if d.is F.CHG_CTRL_EN = true ∧ bits v.toNat 1 1 = 0 then (d.chgWritten v).closeFault 7 0 9 else d.chgWritten v
      if bits v.toNat 4 3 = d.get F.CHG_CTRL_INSEL then y else y.selectInput := by
  rw [Dev.writeChgCtrl]
  by_cases h5 : 5 < bits v.toNat 4 3
  · rw [if_pos h5, Dev.regWrite_rejected hup (st := .eField) (by decide)]
    · rfl
    · rw [hres, decide_eq_true h5]; rfl
  · have hrow : (if bitOf v.toNat 16 then (d.writeRow .bar0 R.CHG_CTRL 0 v).modPack fun p => { p with dead := false }
        else d.writeRow .bar0 R.CHG_CTRL 0 v) = d.chgWritten v := by
      have hpack : (d.writeRow .bar0 R.CHG_CTRL 0 v).pack = d.pack := by rw [(d.only_writeRow .bar0 R.CHG_CTRL 0 v).1]
      unfold Dev.chgWritten Dev.modPack Dev.withPack
      rw [← hpack]
      split_ifs <;> rfl
    have hen : bitOf v.toNat 1 = false ↔ bits v.toNat 1 1 = 0 := by rw [bits_one_eq]; cases bitOf v.toNat 1 <;> decide
    rw [if_neg h5, Dev.regWrite_done hup]
    · dsimp only
      rw [hrow]
      simp only [Bool.and_eq_true, Bool.not_eq_true', hen]
    · rw [hres, decide_eq_false h5]; rfl

theorem chargeSessionsRule : ChargeSessionsRule := by
  intro s hup opened
  have hopen : opened s.dev.openSession := s.dev.openSession_is
  refine ⟨Ends.of_act hup ?_, Ends.of_act hup ?_, Ends.of_act hup ?_, Ends.of_act hup ?_, Ends.of_act hup ?_, Ends.of_act hup ?_,
    fun w v c hc hres => ?_⟩
  · simp only [Dev.chgOpen, Bool.and_eq_true, Bool.not_eq_true', bne_iff_ne, and_assoc]
    by_cases h : s.dev.mayCharge = true ∧ s.dev.pack.sess = false ∧ s.dev.get F.CHG_STAT_STATE ≠ 5
    · rwa [if_pos h, if_pos h]
    · rw [if_neg h, if_neg h]
  · simp only [Dev.chgRecharge, Bool.and_eq_true, decide_eq_true_eq]
    by_cases h : s.dev.get F.CHG_STAT_STATE = 5 ∧ s.dev.mayCharge = true
    · rwa [if_pos h, if_pos h]
    · rw [if_neg h, if_neg h]
  · simp only [Dev.prechgFail, Bool.and_eq_true, beq_iff_eq]
    exact ite_congr rfl (fun h => Dev.closeFault_open h.1 5 0 8) fun _ => rfl
  · simp only [Dev.chgDone, Bool.and_eq_true, beq_iff_eq]
    exact ite_congr rfl (fun h => Dev.closeFault_open h.1 1 5 9) fun _ => rfl
  · unfold Dev.chgSafety
    exact ite_congr rfl (fun h => Dev.closeFault_open h 4 0 8) fun _ => rfl
  · have hstop : s.dev.chgWdt =
        let y := if s.dev.get F.CHG_STAT_STATE = 7 then ((s.dev.withPack { s.dev.pack with dead := true }).set F.CHG_STAT_STATE 0).upFails
          else s.dev.withPack { s.dev.pack with dead := true }
        if y.pack.sess then y.closeFault 7 0 9 else y := rfl
    rw [hstop]
    refine ⟨_, ?_, ite_congr rfl (fun h => Dev.closeFault_open h 7 0 9) fun _ => rfl⟩
    by_cases h7 : s.dev.get F.CHG_STAT_STATE = 7
    · rw [if_pos h7, if_pos h7]
      exact ⟨_, rfl, Dev.get_set_same .., Dev.only_set _ _ _⟩
    · rw [if_neg h7, if_neg h7]
      rfl
  · have hwrite : if 5 < bits v.toNat 4 3 then RecordedGlb s.dev (s.dev.writeChgCtrl v) 0x3000 .eField
        else ∃ x : Dev, x.get F.CHG_CTRL_EN = bits v.toNat 1 1 ∧ x.get F.CHG_CTRL_INSEL = bits v.toNat 4 3 ∧
          ({ s.dev with pack := { s.dev.pack with dead := if bitOf v.toNat 16 then false else s.dev.pack.dead } } : Dev).Only x
            [F.CHG_CTRL_EN, F.CHG_CTRL_INSEL, F.CHG_CTRL_LOCK] ∧
          let y := if s.dev.is F.CHG_CTRL_EN = true ∧ bits v.toNat 1 1 = 0 then x.closeFault 7 0 9 else x
          s.dev.writeChgCtrl v = if bits v.toNat 4 3 = s.dev.get F.CHG_CTRL_INSEL then y else y.selectInput := by
      rw [Dev.writeChgCtrl_eq hup hres]
      by_cases h5 : 5 < bits v.toNat 4 3
      · rw [if_pos h5, if_pos h5]
        exact recordedGlb_recordGlb _ _ _
      · rw [if_neg h5, if_neg h5]
        obtain ⟨hen, hsel, honly⟩ := s.dev.chgWritten_is v
        exact ⟨_, hen, hsel, honly, rfl⟩
    rcases hc with ⟨rfl, rfl⟩ | ⟨rfl, rfl⟩ <;> exact Ends.of_act hup hwrite

/-! ### The record of a session (R137, R155) -/

/-- The fields that the end of a session writes. -/
def Dev.sessionFields (d : Dev) (cause state : Nat) : List (Fld × Nat) :=
  [(F.CHG_SESS0_START, d.pack.start), (F.CHG_SESS1_CHARGE, min (2 ^ 32 - 1) (d.pack.charge / 100000)),
    (F.CHG_SESS2_DURATION, min (2 ^ 23 - 1) ((d.get F.SUP_SECONDS_COUNT + 2 ^ 32 - d.pack.start) % 2 ^ 32)), (F.CHG_SESS2_CAUSE, cause),
    (F.CHG_SESS2_VALID, 1), (F.CHG_STAT_STATE, state), (F.CHG_STAT_SUSP, 0)]

/-- The end of a session, before T000 is told. -/
def Dev.sessionEnded (d : Dev) (cause state : Nat) : Dev :=
  ((d.setAll (d.sessionFields cause state)).withPack { d.pack with sess := false, charge := 0 }).setBit F.CHG_INT_END (cause - 1) true

theorem Dev.sessionEnded_told {d : Dev} (h : d.pack.sess = true) (cause state : Nat) :
    (d.sessionEnded cause state).Told (d.closeSession cause state) [] := by
  have hdef : d.closeSession cause state = (d.sessionEnded cause state).notifyAll [0] (0x300 + (cause - 1)) 0 cause 0 := by
    rw [Dev.closeSession, h]
    rfl
  rw [hdef]
  exact Dev.told_notifyAll _ [0] _ _ _ _ (by simp)

theorem Dev.sessionEnded_get (d : Dev) {cause state : Nat} {f : Fld} (v : Nat) (hf : (f, v) ∈ d.sessionFields cause state)
    (hint : fldId F.CHG_INT_END ≠ fldId f) : (d.sessionEnded cause state).get f = v % 2 ^ f.w := by
  rw [Dev.sessionEnded, Dev.setBit_get_ne _ _ _ hint, Dev.withPack_get]
  exact d.setAll_get (by simp only [Dev.sessionFields, List.map_cons, List.map_nil]; decide) hf

theorem sessionRecordRule : SessionRecordRule := by
  intro d cause state src
  refine ⟨fun hs h1 h8 hst => ?_, fun hs hst => ?_⟩
  · have htold := Dev.sessionEnded_told hs cause state
    have hread (f : Fld) (v : Nat) (hf : (f, v) ∈ d.sessionFields cause state) (hlow : fldId f < 32 * 0x5A10)
        (hint : fldId F.CHG_INT_END ≠ fldId f) : (d.closeSession cause state).get f = v % 2 ^ f.w :=
      (htold.2 f (plainFld_of_low hlow) (by simp)).trans (d.sessionEnded_get v hf hint)
    have hget (f : Fld) (v : Nat) (hf : (f, v) ∈ d.sessionFields cause state) (hlow : fldId f < 32 * 0x5A10)
        (hint : fldId F.CHG_INT_END ≠ fldId f) (hv : v < 2 ^ f.w) : (d.closeSession cause state).get f = v :=
      (hread f v hf hlow hint).trans (Nat.mod_eq_of_lt hv)
    refine ⟨Dev.closeFault_open hs _ _ _, hread _ _ (by simp [Dev.sessionFields]) (by decide) (by decide),
      hget _ _ (by simp [Dev.sessionFields]) (by decide) (by decide) ?_, hget _ _ (by simp [Dev.sessionFields]) (by decide) (by decide) ?_,
      hget _ _ (by simp [Dev.sessionFields]) (by decide) (by decide) ?_, hget _ _ (by simp [Dev.sessionFields]) (by decide) (by decide) ?_,
      hget _ _ (by simp [Dev.sessionFields]) (by decide) (by decide) hst, hget _ _ (by simp [Dev.sessionFields]) (by decide) (by decide) ?_,
      ?_, ?_⟩
    · exact (Nat.min_le_left _ _).trans_lt (by decide)
    · exact (Nat.min_le_left _ _).trans_lt (by decide)
    · exact Nat.lt_of_le_of_lt h8 (by decide)
    · decide
    · decide
    · have hbit : (d.closeSession cause state).bit F.CHG_INT_END (cause - 1) = (d.sessionEnded cause state).bit F.CHG_INT_END (cause - 1) := by
        unfold Dev.bit
        rw [htold.2 _ (plainFld_of_low (by decide)) (by simp)]
      have hw : cause - 1 < F.CHG_INT_END.w := Nat.lt_of_le_of_lt (Nat.sub_le_sub_right h8 1) (by decide)
      rw [hbit, Dev.sessionEnded, Dev.setBit_true_bit _ hw hw, decide_eq_true rfl, Bool.true_or]
    · rw [htold.1]
      exact (congrArg Dev.pack (Dev.only_setBit _ _ _ _).1).trans rfl
  · have hdef : d.closeFault cause state src =
        if d.get F.CHG_STAT_STATE = 7 ∨ d.get F.CHG_STAT_STATE = 8 then d else d.set F.CHG_STAT_STATE state := by
      rw [Dev.closeFault, hs]; rfl
    dsimp only
    rw [hdef]
    by_cases h78 : d.get F.CHG_STAT_STATE = 7 ∨ d.get F.CHG_STAT_STATE = 8
    · rw [if_pos h78, if_pos h78]
    · rw [if_neg h78, if_neg h78]
      exact ⟨(d.get_set_same _ _).trans (Nat.mod_eq_of_lt hst), d.only_set _ _⟩

/-- Settles O21: a session's rules are those of its model functions, and its record is the seven fields its end writes. -/
theorem charging : Obligations.Charging := ⟨chargeSessionsRule, sessionRecordRule⟩

end Sys2Proof.Machine

/-!
SUPPORT. Ration: what is admitted, and the answer to a word on BURST_REQ (chapter 06).
-/
namespace Sys2Proof.Machine

open Sys2Proof

/-! ### What the energy model admits (R166, R168) -/

/-- The duration found fits, is at most the one asked for, and no longer one fits. -/
theorem RatModel.duration_eq_some {k : RatModel} {draw dur t : Nat} (h : k.duration draw dur = some t) :
    t ≤ dur ∧ k.fits draw (50 * (t + 1)) = true ∧ ∀ u, t < u → u ≤ dur → k.fits draw (50 * (u + 1)) = false := by
  induction dur with
  | zero =>
    rw [RatModel.duration] at h
    split_ifs at h with hfit
    obtain rfl := Option.some.inj h
    exact ⟨Nat.le_refl _, hfit, fun u h1 h2 => absurd h1 (Nat.not_lt.mpr h2)⟩
  | succ n ih =>
    rw [RatModel.duration] at h
    split_ifs at h with hfit
    · obtain rfl := Option.some.inj h
      exact ⟨Nat.le_refl _, hfit, fun u h1 h2 => absurd h1 (Nat.not_lt.mpr h2)⟩
    · obtain ⟨hle, hfits, hmax⟩ := ih h
      refine ⟨by omega, hfits, fun u h1 h2 => ?_⟩
      rcases Nat.lt_or_eq_of_le h2 with hlt | rfl
      · exact hmax u h1 (by omega)
      · exact Bool.not_eq_true _ ▸ hfit

theorem RatModel.duration_eq_none {k : RatModel} {draw dur : Nat} (h : k.duration draw dur = none) {u : Nat} (hu : u ≤ dur) :
    k.fits draw (50 * (u + 1)) = false := by
  induction dur with
  | zero =>
    rw [RatModel.duration] at h
    split_ifs at h with hfit
    obtain rfl := Nat.le_zero.mp hu
    exact Bool.not_eq_true _ ▸ hfit
  | succ n ih =>
    rw [RatModel.duration] at h
    split_ifs at h with hfit
    rcases Nat.lt_or_eq_of_le hu with hlt | rfl
    · exact ih h (by omega)
    · exact Bool.not_eq_true _ ▸ hfit

theorem admittedLevelFitsRule : AdmittedLevelFitsRule := by
  intro d k dur lvl l t h
  induction lvl with
  | zero => simp [Dev.admitLevel] at h
  | succ n ih =>
    rw [Dev.admitLevel] at h
    -- what holds of the levels below carries over where the highest one does not fit
    have hbelow (hn : d.admitLevel k dur n = some (l, t))
        (htop : (d.leanMode = true → n + 1 ≤ d.get F.RAT_CTRL_LEANMAX) → ∀ u, u ≤ dur →
          k.fits (d.get (F.RAT_LVL_DRAW n)) (50 * (u + 1)) = false) := by
      obtain ⟨h1, hl, ht, hfit, hlean, hlong, hhigh⟩ := ih hn
      refine (⟨h1, by omega, ht, hfit, hlean, hlong, fun m hm hmn hml => ?_⟩ : 1 ≤ l ∧ l ≤ n + 1 ∧ t ≤ dur ∧ _ ∧ _ ∧ _ ∧
        ∀ m, l < m → m ≤ n + 1 → (d.leanMode = true → m ≤ d.get F.RAT_CTRL_LEANMAX) → ∀ u, u ≤ dur →
          k.fits (d.get (F.RAT_LVL_DRAW (m - 1))) (50 * (u + 1)) = false)
      rcases Nat.lt_or_eq_of_le hmn with hlt | rfl
      · exact hhigh m hm (by omega) hml
      · exact htop hml
    by_cases hbar : (d.leanMode && decide (d.get F.RAT_CTRL_LEANMAX < n + 1)) = true
    · rw [if_pos hbar] at h
      rw [Bool.and_eq_true, decide_eq_true_eq] at hbar
      exact hbelow h fun hm => absurd (hm hbar.1) (Nat.not_le.mpr hbar.2)
    · rw [if_neg hbar] at h
      cases hdur : k.duration (d.get (F.RAT_LVL_DRAW n)) dur with
      | none =>
        rw [hdur] at h
        exact hbelow h fun _ u hu => RatModel.duration_eq_none hdur hu
      | some t' =>
        rw [hdur] at h
        obtain ⟨rfl, rfl⟩ := Prod.mk.inj (Option.some.inj h)
        obtain ⟨ht, hfit, hlong⟩ := RatModel.duration_eq_some hdur
        rw [Bool.and_eq_true, decide_eq_true_eq, not_and, Nat.not_lt] at hbar
        exact ⟨Nat.le_add_left .., Nat.le_refl _, ht, hfit, hbar, hlong, fun m hm hmn => absurd hm (Nat.not_lt.mpr hmn)⟩

/-! ### The parity of a grant word (Table 06.3) -/

theorem parity16_lt (w : Nat) : parity16 w < 2 := Nat.mod_lt _ (by decide)

theorem parity16_succ {w : Nat} (h : w % 2 = 0) : parity16 (w + 1) = (parity16 w + 1) % 2 := by
  have hzero : bits (w + 1) 0 1 = bits w 0 1 + 1 := by simp only [bits]; omega
  have hbit (i : Nat) : bits (w + 1) (i + 1) 1 = bits w (i + 1) 1 := by
    have hhalf : (w + 1) / 2 = w / 2 := by omega
    rw [bits, bits, Nat.pow_succ', ← Nat.div_div_eq_div_mul, ← Nat.div_div_eq_div_mul, hhalf]
  have hsum (f : Nat → Nat) (n : Nat) : ((List.range (n + 1)).map f).foldl (· + ·) 0 = f 0 + ((List.range n).map fun i => f (i + 1)).sum := by
    rw [← List.sum_eq_foldl, List.range_succ_eq_map, List.map_cons, List.sum_cons, List.map_map]
    rfl
  rw [parity16, parity16, hsum, hsum, hzero]
  simp only [hbit]
  omega

theorem parity16_add_parity16 {w : Nat} (h : w % 2 = 0) : parity16 (w + parity16 w) = 0 := by
  have hlt := parity16_lt w
  rcases Nat.lt_succ_iff_lt_or_eq.mp hlt with h0 | h1
  · rw [Nat.lt_one_iff.mp h0, Nat.add_zero, Nat.lt_one_iff.mp h0]
  · rw [h1, parity16_succ h, h1]

theorem grantWordParityRule : GrantWordParityRule := by
  intro d hlevel hreason htag hdur
  have hlean := bitNat_lt d.rat.lean
  obtain ⟨w, hw⟩ : ∃ w, w = (if d.is F.RAT_STAT_ACTIVE then 2 ^ 15 + 4096 * d.get F.RAT_STAT_LEVEL + 256 * d.rat.dur
      else 256 * d.get F.RAT_STAT_REASON) + 16 * d.get F.RAT_STAT_TAG + 8 * bitNat d.rat.lean := ⟨_, rfl⟩
  have hword : d.grantWord = w + parity16 w := by rw [hw]; rfl
  have hpar := parity16_lt w
  have heven : w % 2 = 0 ∧ w + 1 < 2 ^ 16 := by split_ifs at hw <;> omega
  exact hword ▸ ⟨parity16_add_parity16 heven.1, by omega⟩

/-- Settles O24: by induction on the level and on the duration; the last bit of a grant word makes its parity even. -/
theorem admission : Obligations.Admission := ⟨admittedLevelFitsRule, grantWordParityRule⟩

/-! ### The decision on a request (R168, R169, R172) -/

/-- A state whose part of Ration alone has changed. -/
def Dev.withRat (d : Dev) (r : Ration) : Dev := { d with rat := r }

theorem Dev.withRat_get (d : Dev) (r : Ration) (f : Fld) : (d.withRat r).get f = d.get f := rfl

theorem Dev.Only.withRat {d e : Dev} {fs : List Fld} (h : d.Only e fs) (r : Ration) : (d.withRat r).Only (e.withRat r) fs := by
  obtain ⟨heq, hget⟩ := h
  exact ⟨by rw [heq]; rfl, hget⟩

/-- What a decision may change of the registers. -/
def decisionFlds : List Fld := [F.RAT_LASTREQ_WORD, F.RAT_LASTREQ_REASON, F.RAT_LASTREQ_GDUR, F.RAT_LASTREQ_GLEVEL, F.RAT_STAT_ACTIVE,
  F.RAT_STAT_LEVEL, F.RAT_STAT_REASON, F.RAT_RPACK_REST, F.RAT_CNT0_GRANTS, F.RAT_CNT0_REFUSALS, F.RAT_HEAD_H, F.RAT_HEAD_E]

/-- The record of a request in RAT_LASTREQ. -/
def lastReqFields (w reason dur level : Nat) : List (Fld × Nat) :=
  [(F.RAT_LASTREQ_WORD, w), (F.RAT_LASTREQ_REASON, reason), (F.RAT_LASTREQ_GDUR, dur), (F.RAT_LASTREQ_GLEVEL, level)]

/-- The end of a grant as RELEASED or EXPIRED (R169). -/
def Dev.overFields (d : Dev) (reason : Nat) : List (Fld × Nat) :=
  [(F.RAT_STAT_ACTIVE, 0), (F.RAT_STAT_LEVEL, 0), (F.RAT_STAT_REASON, reason),
    (F.RAT_RPACK_REST, max (d.get F.RAT_RPACK_RCFG) (d.get F.RAT_RPACK_REST - 1)), (F.RAT_CNT0_GRANTS, satInc (2 ^ 16 - 1) (d.get F.RAT_CNT0_GRANTS))]

theorem Dev.grantOver_eq (d : Dev) (reason : Nat) : d.grantOver reason = d.setAll (d.overFields reason) := by
  have hcnt : ((d.endGrant reason).set F.RAT_RPACK_REST (max (d.get F.RAT_RPACK_RCFG) (d.get F.RAT_RPACK_REST - 1))).get F.RAT_CNT0_GRANTS =
      d.get F.RAT_CNT0_GRANTS := by
    unfold Dev.endGrant
    rw [Dev.get_set_ne _ _ (by decide), Dev.get_set_ne _ _ (by decide), Dev.get_set_ne _ _ (by decide), Dev.get_set_ne _ _ (by decide)]
  rw [Dev.grantOver, Dev.bump, hcnt]
  rfl

theorem Dev.setAll_append (d : Dev) (l m : List (Fld × Nat)) : d.setAll (l ++ m) = (d.setAll l).setAll m := List.foldl_append ..

theorem Dev.released_eq (d : Dev) (w : Nat) : (d.lastReq w 9 0 0).grantOver 9 = d.setAll (lastReqFields w 9 0 0 ++ d.overFields 9) := by
  have hrec : d.lastReq w 9 0 0 = d.setAll (lastReqFields w 9 0 0) := rfl
  have hkeep (g : Fld) (hg : g ∈ [F.RAT_RPACK_RCFG, F.RAT_RPACK_REST, F.RAT_CNT0_GRANTS]) : (d.setAll (lastReqFields w 9 0 0)).get g = d.get g :=
    (d.only_setAll _).2 g (by simp only [lastReqFields, List.map_cons, List.map_nil]; revert g; decide)
  rw [hrec, Dev.grantOver_eq, Dev.setAll_append, Dev.overFields, Dev.overFields, hkeep _ (by simp), hkeep _ (by simp), hkeep _ (by simp)]

/-- A request of level 0 (R169). -/
theorem Dev.release_is (d : Dev) {w : Nat} (hw : w < 2 ^ 16) :
    let e := if d.is F.RAT_STAT_ACTIVE then (d.lastReq w 9 0 0).grantOver 9 else d.lastReq w 9 0 0
    d.Only e decisionFlds ∧ e.get F.RAT_LASTREQ_WORD = w ∧ e.is F.RAT_STAT_ACTIVE = false ∧ e.get F.RAT_LASTREQ_REASON = 9 ∧
      (d.is F.RAT_STAT_ACTIVE = true → e.get F.RAT_STAT_REASON = 9 ∧
        e.get F.RAT_RPACK_REST = max (d.get F.RAT_RPACK_RCFG) (d.get F.RAT_RPACK_REST - 1) % 2 ^ 12 ∧
        e.get F.RAT_CNT0_GRANTS = satInc 0xFFFF (d.get F.RAT_CNT0_GRANTS) % 0x10000) := by
  dsimp only
  cases hact : d.is F.RAT_STAT_ACTIVE
  case false =>
    rw [if_neg Bool.false_ne_true]
    have honly := d.only_setAll (lastReqFields w 9 0 0)
    have hval {f : Fld} (v : Nat) (hf : (f, v) ∈ lastReqFields w 9 0 0) (hv : v < 2 ^ f.w) : (d.lastReq w 9 0 0).get f = v :=
      d.setAll_val (by simp only [lastReqFields, List.map_cons, List.map_nil]; decide) v hf hv
    refine ⟨honly.mono (by simp [lastReqFields, decisionFlds]), hval w (by simp [lastReqFields]) hw, ?_,
      hval 9 (by simp [lastReqFields]) (by decide), fun h => absurd h Bool.false_ne_true⟩
    rw [← hact]
    exact congrArg (· == 1) (honly.2 _ (by simp only [lastReqFields, List.map_cons, List.map_nil]; decide))
  case true =>
    rw [if_pos rfl, Dev.released_eq]
    have honly := d.only_setAll (lastReqFields w 9 0 0 ++ d.overFields 9)
    have hval {f : Fld} (v : Nat) (hf : (f, v) ∈ lastReqFields w 9 0 0 ++ d.overFields 9) :
        (d.setAll (lastReqFields w 9 0 0 ++ d.overFields 9)).get f = v % 2 ^ f.w :=
      d.setAll_get (by simp only [lastReqFields, Dev.overFields, List.map_cons, List.map_nil, List.map_append]; decide) hf
    refine ⟨honly.mono (by simp [lastReqFields, Dev.overFields, decisionFlds]),
      (hval w (by simp [lastReqFields])).trans (Nat.mod_eq_of_lt hw),
      congrArg (· == 1) (hval 0 (by simp [Dev.overFields])), hval 9 (by simp [lastReqFields]), fun _ => ⟨hval 9 (by simp [Dev.overFields]),
      hval _ (by simp [Dev.overFields]), hval _ (by simp [Dev.overFields])⟩⟩

/-- A refusal, from a state that shows the head or not (R168, R172). -/
theorem Dev.refuseReq_is (d : Dev) {w r : Nat} (hw : w < 2 ^ 16) (hr : r < 16) : let e := d.refuseReq w r
    d.Only e [F.RAT_CNT0_REFUSALS, F.RAT_LASTREQ_WORD, F.RAT_LASTREQ_REASON, F.RAT_LASTREQ_GDUR, F.RAT_LASTREQ_GLEVEL, F.RAT_STAT_REASON] ∧
      e.get F.RAT_LASTREQ_WORD = w ∧ e.get F.RAT_LASTREQ_REASON = r ∧ e.get F.RAT_LASTREQ_GDUR = 0 ∧ e.get F.RAT_LASTREQ_GLEVEL = 0 ∧
      (d.is F.RAT_STAT_ACTIVE = false → e.get F.RAT_STAT_REASON = r) ∧
      e.get F.RAT_CNT0_REFUSALS = satInc 0xFFFF (d.get F.RAT_CNT0_REFUSALS) % 0x10000 := by
  obtain ⟨l, hl⟩ : ∃ l, l = (F.RAT_CNT0_REFUSALS, satInc 0xFFFF (d.get F.RAT_CNT0_REFUSALS)) :: lastReqFields w r 0 0 := ⟨_, rfl⟩
  have hrec : (d.bump F.RAT_CNT0_REFUSALS).lastReq w r 0 0 = d.setAll l := by rw [hl]; rfl
  have hdef : d.refuseReq w r = d.setAll (l ++ if d.is F.RAT_STAT_ACTIVE then [] else [(F.RAT_STAT_REASON, r)]) := by
    rw [Dev.refuseReq, hrec, Dev.setAll_append]
    split_ifs <;> rfl
  dsimp only
  rw [hdef]
  have honly := d.only_setAll (l ++ if d.is F.RAT_STAT_ACTIVE then [] else [(F.RAT_STAT_REASON, r)])
  have hval {f : Fld} (v : Nat) (hf : (f, v) ∈ l ++ if d.is F.RAT_STAT_ACTIVE then [] else [(F.RAT_STAT_REASON, r)]) :
      (d.setAll (l ++ if d.is F.RAT_STAT_ACTIVE then [] else [(F.RAT_STAT_REASON, r)])).get f = v % 2 ^ f.w :=
    d.setAll_get (by rw [hl]; split_ifs <;> simp only [lastReqFields, List.map_cons, List.map_nil, List.map_append] <;> decide) hf
  refine ⟨honly.mono ?_, (hval w (by simp [hl, lastReqFields])).trans (Nat.mod_eq_of_lt hw),
    (hval r (by simp [hl, lastReqFields])).trans (Nat.mod_eq_of_lt hr), hval 0 (by simp [hl, lastReqFields]), hval 0 (by simp [hl, lastReqFields]),
    fun h => (hval r (by simp [h])).trans (Nat.mod_eq_of_lt hr), hval _ (by simp [hl])⟩
  rw [hl]
  split_ifs <;> simp [lastReqFields]

/-- A grant, which replaces one in force (R169, R172). -/
theorem Dev.grant_is (d : Dev) {w l t : Nat} (hw : w < 2 ^ 16) (hlev : l < 8) (ht : t < 16) : let e := d.grant w l t
    (d.withRat { d.rat with dur := t }).Only e [F.RAT_CNT0_GRANTS, F.RAT_LASTREQ_WORD, F.RAT_LASTREQ_REASON, F.RAT_LASTREQ_GDUR,
        F.RAT_LASTREQ_GLEVEL, F.RAT_STAT_ACTIVE, F.RAT_STAT_LEVEL] ∧
      e.get F.RAT_LASTREQ_WORD = w ∧ e.is F.RAT_STAT_ACTIVE = true ∧ e.get F.RAT_STAT_LEVEL = l ∧ e.get F.RAT_LASTREQ_REASON = 0 ∧
      e.get F.RAT_LASTREQ_GLEVEL = l ∧ e.get F.RAT_LASTREQ_GDUR = t := by
  obtain ⟨x, hx⟩ : ∃ x, x = if d.is F.RAT_STAT_ACTIVE then d.bump F.RAT_CNT0_GRANTS else d := ⟨_, rfl⟩
  have hcount : d.Only x [F.RAT_CNT0_GRANTS] := by
    rw [hx]
    split_ifs
    · exact d.only_bump _
    · exact Dev.Only.refl _ _
  have hrat : x.rat = d.rat := by rw [hcount.1]
  have hdef : d.grant w l t = (x.setAll (lastReqFields w 0 t l ++ [(F.RAT_STAT_ACTIVE, 1), (F.RAT_STAT_LEVEL, l)])).withRat { d.rat with dur := t } := by
    rw [← hrat, hx]
    rfl
  have hval {f : Fld} (v : Nat) (hf : (f, v) ∈ lastReqFields w 0 t l ++ [(F.RAT_STAT_ACTIVE, 1), (F.RAT_STAT_LEVEL, l)]) (hv : v < 2 ^ f.w) :
      (x.setAll (lastReqFields w 0 t l ++ [(F.RAT_STAT_ACTIVE, 1), (F.RAT_STAT_LEVEL, l)])).get f = v :=
    x.setAll_val (by simp only [lastReqFields, List.map_cons, List.map_nil, List.map_append]; decide) v hf hv
  dsimp only
  rw [hdef]
  simp only [Dev.withRat_get, Dev.is]
  exact ⟨((hcount.trans (x.only_setAll _)).mono (by simp [lastReqFields])).withRat _, hval w (by simp [lastReqFields]) hw,
    beq_iff_eq.mpr (hval 1 (by simp) (by decide)), hval l (by simp) hlev, hval 0 (by simp [lastReqFields]) (by decide),
    hval l (by simp [lastReqFields]) hlev, hval t (by simp [lastReqFields]) ht⟩

theorem Dev.only_showHead (d : Dev) (k : RatModel) : d.Only (d.showHead k) [F.RAT_HEAD_H, F.RAT_HEAD_E] :=
  (d.only_set _ _).trans (Dev.only_set _ _ _)

theorem RatModel.duration_lt {k : RatModel} {draw dur t : Nat} (h : k.duration draw dur = some t) (hdur : dur < 16) : t < 16 :=
  (RatModel.duration_eq_some h).1.trans_lt hdur

/-- The reasons decided before the model are fields of four bits. -/
theorem Dev.preReason_lt {d : Dev} {r : Nat} (h : d.preReason = some r) : r < 16 := by
  unfold Dev.preReason at h
  split_ifs at h <;> cases h <;> decide

theorem burstDecisionRule : BurstDecisionRule := by
  intro d w vr hw
  by_cases h0 : bits w 12 3 = 0
  · have hdef : d.decideBurst w vr = if d.is F.RAT_STAT_ACTIVE then (d.lastReq w 9 0 0).grantOver 9 else d.lastReq w 9 0 0 := by
      rw [Dev.decideBurst]
      exact if_pos h0
    obtain ⟨honly, hword, hact, hreason, hover⟩ := d.release_is hw
    rw [← hdef] at honly hword hact hreason hover
    clear hdef
    dsimp only
    generalize d.decideBurst w vr = e at honly hword hact hreason hover ⊢
    have hdur : e.rat.dur = d.rat.dur := by rw [honly.1]
    rw [hdur]
    exact ⟨honly, hword, fun _ => ⟨hact, hreason, hover⟩, fun _ h => absurd h0 h, fun _ _ h => absurd h0 h⟩
  · -- a refusal with reason `r`, from the state or from the one that shows the head
    have hrefuse (x : Dev) (r : Nat) (hr : r < 16) (hx : d.Only x [F.RAT_HEAD_H, F.RAT_HEAD_E]) (hdef : d.decideBurst w vr = x.refuseReq w r) :
        let e := d.decideBurst w vr
        d.Only e decisionFlds ∧ e.get F.RAT_LASTREQ_WORD = w ∧ e.get F.RAT_LASTREQ_REASON = r ∧ e.get F.RAT_LASTREQ_GDUR = 0 ∧
          e.get F.RAT_LASTREQ_GLEVEL = 0 ∧ e.rat.dur = d.rat.dur ∧ e.get F.RAT_STAT_ACTIVE = d.get F.RAT_STAT_ACTIVE ∧
          e.get F.RAT_STAT_LEVEL = d.get F.RAT_STAT_LEVEL ∧ (d.is F.RAT_STAT_ACTIVE = false → e.get F.RAT_STAT_REASON = r) ∧
          e.get F.RAT_CNT0_REFUSALS = satInc 0xFFFF (d.get F.RAT_CNT0_REFUSALS) % 0x10000 := by
      obtain ⟨honly, hword, hreason, hgdur, hglev, hrest, hcnt⟩ := x.refuseReq_is hw hr
      have hall := hx.trans honly
      dsimp only
      rw [hdef]
      refine ⟨hall.mono (by simp [decisionFlds]), hword, hreason, hgdur, hglev, by rw [hall.1], hall.2 _ (by decide), hall.2 _ (by decide),
        fun h => hrest ?_, ?_⟩
      · rw [← h]
        exact congrArg (· == 1) (hx.2 _ (by decide))
      · rw [hcnt, hx.2 _ (by decide)]
    have hlevel : bits w 12 3 < 8 := Nat.mod_lt _ (by decide)
    have hduration : bits w 8 4 < 16 := Nat.mod_lt _ (by decide)
    have hdef : d.decideBurst w vr = match d.preReason with
        | some r => d.refuseReq w r
        | none => match d.admitLevel (d.ratModel vr) (bits w 8 4) (bits w 12 3) with
          | some (l, t) => (d.showHead (d.ratModel vr)).grant w l t
          | none => (d.showHead (d.ratModel vr)).refuseReq w 1 := by
      rw [Dev.decideBurst]
      exact if_neg h0
    have hhead := d.only_showHead (d.ratModel vr)
    cases hpre : d.preReason with
    | some r =>
      rw [hpre] at hdef
      obtain ⟨honly, hword, hreason, hgdur, hglev, hdur, hact, hlev, hrest, hcnt⟩ :=
        hrefuse d r (Dev.preReason_lt hpre) (Dev.Only.refl _ _) hdef
      clear hdef hrefuse
      dsimp only
      generalize d.decideBurst w vr = e at *
      rw [hdur]
      refine ⟨honly, hword, fun h => absurd h h0, fun r' _ _ hr => ?_, fun _ _ _ h => (Option.some_ne_none _ h).elim⟩
      obtain rfl : r = r' := hr.elim Option.some.inj fun h => (Option.some_ne_none _ h.1).elim
      exact ⟨hreason, hgdur, hglev, rfl, hact, hlev, hrest, hcnt⟩
    | none =>
      rw [hpre] at hdef
      cases hadm : d.admitLevel (d.ratModel vr) (bits w 8 4) (bits w 12 3) with
      | none =>
        rw [hadm] at hdef
        obtain ⟨honly, hword, hreason, hgdur, hglev, hdur, hact, hlev, hrest, hcnt⟩ := hrefuse _ 1 (by decide) hhead hdef
        clear hdef hrefuse
        dsimp only
        generalize d.decideBurst w vr = e at *
        rw [hdur]
        refine ⟨honly, hword, fun h => absurd h h0, fun r' _ _ hr => ?_, fun _ _ _ _ h => (Option.some_ne_none _ h.symm).elim⟩
        obtain rfl : 1 = r' := hr.elim (fun h => (Option.some_ne_none _ h.symm).elim) fun h => h.2.1.symm
        exact ⟨hreason, hgdur, hglev, rfl, hact, hlev, hrest, hcnt⟩
      | some p =>
        obtain ⟨l, t⟩ := p
        rw [hadm] at hdef
        obtain ⟨-, hll, htt, -⟩ := admittedLevelFitsRule _ _ _ _ _ _ hadm
        obtain ⟨honly, hword, hact, hlev, hreason, hglev, hgdur⟩ :=
          Dev.grant_is (d.showHead (d.ratModel vr)) hw (hll.trans_lt hlevel) (htt.trans_lt hduration)
        have hall := (hhead.withRat { d.rat with dur := t }).trans (show Dev.Only (Dev.withRat _ { d.rat with dur := t }) _ _ from honly)
        replace hdef : d.decideBurst w vr = (d.showHead (d.ratModel vr)).grant w l t := hdef
        rw [← hdef] at hall hword hact hlev hreason hglev hgdur
        clear hdef hrefuse honly
        dsimp only
        generalize d.decideBurst w vr = e at *
        have hdur : e.rat.dur = t := by rw [hall.1]; rfl
        rw [hdur]
        refine ⟨hall.mono (by simp), hword, fun h => absurd h h0, fun r' _ _ hr => ?_, fun l' t' _ _ h => ?_⟩
        · exact hr.elim (fun h => (Option.some_ne_none _ h.symm).elim) fun h => (Option.some_ne_none _ h.2.2).elim
        · obtain ⟨rfl, rfl⟩ := Prod.mk.inj (Option.some.inj h)
          exact ⟨hact, hlev, rfl, hreason, hglev, hgdur⟩

/-! ### A word on BURST_REQ (R162, R163, R166) -/

/-- The frame samples the selected input, if any. -/
def Dev.frameSampled (d : Dev) (volt cur : Nat) : Dev :=
  if d.get F.CHG_STAT_INPORT = 0 then d
  else d.setAll [(F.PD_VBUS_VOLT (d.get F.CHG_STAT_INPORT - 1), volt), (F.PD_VBUS_CUR (d.get F.CHG_STAT_INPORT - 1), cur)]

/-- Every frame of the bound port, before its word is looked at. -/
def Dev.frameBegun (d : Dev) (volt cur : Nat) : Dev :=
  ((d.frameSampled volt cur).withRat { d.rat with ended := none }).limitRise

theorem vbusReading_apart (p : Nat) : fldId (F.PD_VBUS_VOLT p) ≠ fldId (F.PD_VBUS_CUR p) := by
  simp only [fldId, F.PD_VBUS_VOLT, F.PD_VBUS_CUR]; omega

theorem Dev.only_frameSampled (d : Dev) (volt cur : Nat) : d.Only (d.frameSampled volt cur)
    [F.PD_VBUS_VOLT (d.get F.CHG_STAT_INPORT - 1), F.PD_VBUS_CUR (d.get F.CHG_STAT_INPORT - 1)] := by
  unfold Dev.frameSampled
  split_ifs
  · exact Dev.Only.refl _ _
  · exact d.only_setAll _

/-- No register of Ration or of the supply stands among the readings of a VBUS. -/
theorem Dev.frameBegun_get (d : Dev) (volt cur : Nat) {g : Fld} (hg : g ∈ [F.RAT_CTRL_EN, F.RAT_CNT1_PARERR, F.SUP_STAT_WARN]) :
    (d.frameBegun volt cur).get g = d.get g := by
  have hrise : fldId F.RAT_STAT_LIMIT ≠ fldId g := by revert g; decide
  have hapart (p : Nat) : fldId (F.PD_VBUS_VOLT p) ≠ fldId g ∧ fldId (F.PD_VBUS_CUR p) ≠ fldId g := by
    simp only [List.mem_cons, List.not_mem_nil, or_false] at hg
    rcases hg with rfl | rfl | rfl <;> constructor <;>
      simp only [fldId, F.PD_VBUS_VOLT, F.PD_VBUS_CUR, F.RAT_CTRL_EN, F.RAT_CNT1_PARERR, F.SUP_STAT_WARN] <;> omega
  rw [Dev.frameBegun, (Dev.only_limitRise _).2 g (by simpa using hrise), Dev.withRat_get]
  exact (d.only_frameSampled volt cur).2 g (by simpa using hapart _)

theorem burstRequestRule : BurstRequestRule := by
  intro s w vr v c hup
  refine ⟨fun hrun => Ends.of_act hup ?_, fun hrun => Ends.of_act hup ?_⟩
  · rw [Dev.burstWord, hrun]
    rfl
  · generalize s.dev = d at *
    obtain ⟨y, hy⟩ : ∃ y, y = d.frameBegun v.val c.val := ⟨_, rfl⟩
    have hdef : d.burstWord w.toNat vr.val v.val c.val =
        if (!bitOf w.toNat 15 || !y.is F.RAT_CTRL_EN) = true then y.sendGrant
        else if parity16 w.toNat ≠ 0 ∨ bits w.toNat 1 3 ≠ 0 then
          (((y.bump F.RAT_CNT1_PARERR).raise F.RAT_INT_PARERR 0x502 [0] 0 0 0).fault 0x219 15).sendGrant
        else if y.rat.tag = some (bits w.toNat 4 4) then y.sendGrant
        else (((y.withRat { y.rat with tag := some (bits w.toNat 4 4), lean := y.leanMode }).set F.RAT_STAT_TAG (bits w.toNat 4 4)).decideBurst
          w.toNat vr.val).sendGrant := by
      rw [Dev.burstWord, hrun, if_neg (by decide : ¬(!true) = true), hy]
      unfold Dev.frameBegun Dev.frameSampled
      by_cases hb : d.get F.CHG_STAT_INPORT = 0
      · simp only [if_pos hb]; rfl
      · simp only [if_neg hb]; rfl
    have hrat : y.rat = { d.rat with ended := none } := by rw [hy, Dev.frameBegun, (Dev.only_limitRise _).1]; rfl
    have hget {g : Fld} (hg : g ∈ [F.RAT_CTRL_EN, F.RAT_CNT1_PARERR, F.SUP_STAT_WARN]) : y.get g = d.get g := hy ▸ d.frameBegun_get _ _ hg
    have hen : y.is F.RAT_CTRL_EN = d.is F.RAT_CTRL_EN := congrArg (· == 1) (hget (by simp))
    have hlean : y.leanMode = d.is F.SUP_STAT_WARN := congrArg (· == 1) (hget (by simp))
    have hsample : (let b := d.get F.CHG_STAT_INPORT
        if b = 0 then d.frameSampled v.val c.val = d
        else (d.frameSampled v.val c.val).get (F.PD_VBUS_VOLT (b - 1)) = v.val ∧ (d.frameSampled v.val c.val).get (F.PD_VBUS_CUR (b - 1)) = c.val ∧
          d.Only (d.frameSampled v.val c.val) [F.PD_VBUS_VOLT (b - 1), F.PD_VBUS_CUR (b - 1)]) := by
      have honly := d.only_frameSampled v.val c.val
      dsimp only
      by_cases hb : d.get F.CHG_STAT_INPORT = 0
      · rw [if_pos hb, Dev.frameSampled, if_pos hb]
      · rw [if_neg hb]
        refine ⟨?_, ?_, honly⟩
        · rw [Dev.frameSampled, if_neg hb]
          exact Dev.setAll_val _ (by simp [vbusReading_apart]) _ (by simp) v.isLt
        · rw [Dev.frameSampled, if_neg hb]
          exact Dev.setAll_val _ (by simp [vbusReading_apart]) _ (by simp) c.isLt
    have hpar : y.get F.RAT_CNT1_PARERR = d.get F.RAT_CNT1_PARERR := hget (by simp)
    have hxrat : (d.frameSampled v.val c.val).rat = d.rat := by rw [(d.only_frameSampled v.val c.val).1]
    refine ⟨d.frameSampled v.val c.val, y, hsample, by rw [hy, hxrat]; rfl, ?_⟩
    clear hy hsample hxrat
    rw [hdef]
    clear hdef
    simp only [Bool.or_eq_true, Bool.not_eq_true', hen]
    by_cases hstart : bitOf w.toNat 15 = false ∨ d.is F.RAT_CTRL_EN = false
    · rw [if_pos hstart, if_pos hstart]
    rw [if_neg hstart, if_neg hstart]
    by_cases hbad : parity16 w.toNat ≠ 0 ∨ bits w.toNat 1 3 ≠ 0
    · rw [if_pos hbad, if_pos hbad]
      refine ⟨_, rfl, ?_, y.only_bump _⟩
      rw [Dev.bump, Dev.get_set_same, hpar]
      rfl
    rw [if_neg hbad, if_neg hbad, hrat]
    by_cases htag : d.rat.tag = some (bits w.toNat 4 4)
    · rw [if_pos htag, if_pos htag]
    rw [if_neg htag, if_neg htag, hlean]
    exact ⟨_, rfl, (Dev.get_set_same ..).trans (Nat.mod_mod_of_dvd _ (dvd_refl _)), Dev.only_set _ _ _⟩

/-- Settles O23: a frame's steps are those of `Dev.burstWord`, and a decision is one of release, refusal and grant. -/
theorem burstRequests : Obligations.BurstRequests := ⟨burstRequestRule, burstDecisionRule⟩

end Sys2Proof.Machine

/-!
SUPPORT. Control requests to the hub and to the function (chapter 07).
-/
namespace Sys2Proof.Machine

open Sys2Proof

/-! ### The bits of a port's status and change -/

theorem Dev.setBit_bit (d : Dev) {f : Fld} {i j : Nat} (b : Bool) (hi : i < f.w) (hj : j < f.w) :
    (d.setBit f i b).bit f j = if j = i then b else d.bit f j := by
  cases b
  · rw [d.setBit_false_bit hi hj]; by_cases h : j = i <;> simp [h]
  · rw [d.setBit_true_bit hi hj]; by_cases h : j = i <;> simp [h]

@[simp] theorem Dev.setSt_st_same (d : Dev) (p : Nat) {i : Nat} (b : Bool) (hi : i < 16) : (d.setSt p i b).st p i = b := by
  rw [Dev.setSt, Dev.st, d.setBit_bit b (f := F.PRT_STAT_STATUS p) hi hi, if_pos rfl]

theorem Dev.setSt_st_ne (d : Dev) (p : Nat) {i j : Nat} (b : Bool) (hi : i < 16) (hj : j < 16) (h : j ≠ i) :
    (d.setSt p i b).st p j = d.st p j := by
  rw [Dev.setSt, Dev.st, d.setBit_bit b (f := F.PRT_STAT_STATUS p) hi hj, if_neg h]
  rfl

theorem Dev.only_setSt (d : Dev) (p i : Nat) (b : Bool) : d.Only (d.setSt p i b) [F.PRT_STAT_STATUS p] := d.only_setBit _ _ _

theorem Dev.only_setCh (d : Dev) (p i : Nat) (b : Bool) : d.Only (d.setCh p i b) [F.PRT_STAT_CHANGE p] := d.only_setBit _ _ _

/-! ### Requests to the hub (R184 to R186, Table 07.2) -/

theorem bits_suType (v : Nat) : bits v 5 2 = bits (suType v) 5 2 := by
  unfold suType bits; omega

/-- An answer without data. -/
theorem Dev.reply_nil (d : Dev) (v : Nat) : d.reply v [] = d.emit .usb 0 [0] [] := by
  rw [Dev.reply, List.take_nil]
  rfl

theorem Dev.hubStandard_setAddress (d : Dev) {v : Nat} (ht : suType v = 0) (hr : suReq v = 5) :
    d.hubStandard v = (d.set F.HUB_STAT_ADDR (suValue v)).emit .usb 0 [0] [] := by
  rw [Dev.hubStandard, ht, hr]
  exact Dev.reply_nil _ _

/-- The configuration that a request gives. -/
def Dev.hubConfigured (d : Dev) (c : Nat) : Dev :=
  ((d.clearEp1.setB F.HUB_STAT_CFG (c != 0)).set F.HUB_STAT_ALT 0)

theorem Dev.hubStandard_setConfiguration (d : Dev) {v : Nat} (ht : suType v = 0) (hr : suReq v = 9) :
    d.hubStandard v =
      (({ d with hub := { d.hub with cfgVal := suValue v % 256 } } : Dev).hubConfigured (suValue v % 256)).emit .usb 0 [0] [] := by
  rw [Dev.hubStandard, ht, hr]
  exact Dev.reply_nil _ _

theorem Dev.only_hubConfigured (d : Dev) (c : Nat) :
    d.Only (d.hubConfigured c) [F.EPM_SLOT_HALT 1, F.EPM_SLOT_TOG 1, F.HUB_STAT_CFG, F.HUB_STAT_ALT] :=
  (((d.only_set _ _).trans (Dev.only_set _ _ _)).trans (Dev.only_setB _ _ _)).trans (Dev.only_set _ _ _)

theorem Dev.hubConfigured_get (d : Dev) (c : Nat) : (d.hubConfigured c).is F.HUB_STAT_CFG = (c != 0) ∧
    (d.hubConfigured c).get F.HUB_STAT_ALT = 0 ∧ (d.hubConfigured c).get (F.EPM_SLOT_HALT 1) = 0 ∧
    (d.hubConfigured c).get (F.EPM_SLOT_TOG 1) = 0 := by
  unfold Dev.hubConfigured Dev.clearEp1
  refine ⟨?_, Dev.get_set_same .., ?_, ?_⟩
  · exact (congrArg (· == 1) (Dev.get_set_ne _ _ (by decide))).trans (Dev.setB_is _ _ rfl)
  · rw [Dev.get_set_ne _ _ (by decide), Dev.setB_get_ne _ _ (by decide), Dev.get_set_ne _ _ (by decide), Dev.get_set_same]
    rfl
  · rw [Dev.get_set_ne _ _ (by decide), Dev.setB_get_ne _ _ (by decide), Dev.get_set_same]
    rfl

theorem Dev.hubStandard_reserved (d : Dev) {v : Nat} (h : bits v 5 2 = 3) : d.hubStandard v = d.emit .usb 0 [4] [] := by
  rw [bits_suType] at h
  unfold Dev.hubStandard
  split
  case h_14 => rfl
  all_goals rename_i ht _; rw [ht] at h; exact absurd h (by decide)

theorem Dev.hubClass_portStatus (d : Dev) {v : Nat} (ht : suType v = 0xA3) (hr : suReq v = 0) (h1 : 1 ≤ suIndex v % 256)
    (h9 : suIndex v % 256 ≤ 9) : d.hubClass v = d.emit .usb 0 [0] ((leBytes 2 (d.get (F.PRT_STAT_STATUS (suIndex v % 256))) ++
      leBytes 2 (d.get (F.PRT_STAT_CHANGE (suIndex v % 256)))).take (suLength v)) := by
  rw [Dev.hubClass, ht, hr, decide_eq_true h1, decide_eq_true h9]
  rfl

/-- A port in reset, as the host sees it (R186). -/
def Dev.portInReset (d : Dev) (p : Nat) : Dev := ((d.setSt p 4 true).setSt p 1 false).setSt p 2 false

theorem Dev.only_portInReset (d : Dev) (p : Nat) : d.Only (d.portInReset p) [F.PRT_STAT_STATUS p] :=
  (((d.only_setBit _ _ _).trans (Dev.only_setBit _ _ _ _)).trans (Dev.only_setBit _ _ _ _)).mono (by simp)

theorem Dev.hubClass_resetPort (d : Dev) {v : Nat} (ht : suType v = 0x23) (hr : suReq v = 3) (hv : suValue v = 4)
    (h1 : 1 ≤ suIndex v % 256) (h8 : suIndex v % 256 ≤ 8) (hpow : d.st (suIndex v % 256) 8 = true) :
    d.hubClass v = (if d.isLocal (suIndex v % 256) then d.portInReset (suIndex v % 256)
      else (d.portInReset (suIndex v % 256)).emit .usb (suIndex v % 256) [6] []).emit .usb 0 [0] [] := by
  have h9 : suIndex v % 256 ≤ 9 := by omega
  have hn9 : (suIndex v % 256 == 9) = false := beq_eq_false_iff_ne.mpr (by omega)
  rw [Dev.hubClass, ht, hr, decide_eq_true h1, decide_eq_true h9]
  generalize suIndex v % 256 = p at *
  have hloc : (d.portInReset p).isLocal p = d.isLocal p := by
    refine congrArg (· == 1) ((d.only_portInReset p).2 _ ?_)
    simp only [List.mem_singleton, forall_eq, fldId, F.PRT_STAT_STATUS, F.PRT_STAT_SIDE]
    omega
  show d.setPortFeature v p = _
  unfold Dev.setPortFeature
  simp only [hv, hpow, if_true]
  rw [Dev.reply_nil, ← hloc, hn9, Bool.or_false]
  rfl

/-! ### Requests to the function (R186, R187, R196) -/

/-- A state whose part of the hub and whose outputs alone have changed. -/
def Dev.withHub (d : Dev) (h : Hub) (o : List Out) : Dev := { d with hub := h, out := o }

theorem Dev.withHub_get (d : Dev) (h : Hub) (o : List Out) (f : Fld) : (d.withHub h o).get f = d.get f := rfl

theorem Dev.Only.withHub {d e : Dev} {fs : List Fld} (hd : d.Only e fs) (h : Hub) (o : List Out) : (d.withHub h o).Only (e.withHub h o) fs := by
  obtain ⟨heq, hget⟩ := hd
  exact ⟨by rw [heq]; rfl, hget⟩

/-- The registers that a SETUP of the function writes (R196). -/
def setupFields : List (Fld × Nat) :=
  [(F.HUB_CTLREPLY_VALID, 0), (F.EPM_BANK_FULL0 0, 0), (F.EPM_BANK_FULL1 0, 0), (F.EPM_BANK_NEXT 0, 0), (F.EPM_BANK_LEN0 0, 0),
    (F.EPM_BANK_LEN1 0, 0), (F.EPM_SLOT_TOG 2, 1)]

theorem Dev.funcSetup_eq {d : Dev} (h : d.fnLive = true) (v : Nat) :
    d.funcSetup v = (d.setAll setupFields).withHub { d.hub with setup := some v, stall0 := false } (⟨.usb, 0, [1], []⟩ :: d.out) := by
  have hregs : ((d.set F.HUB_CTLREPLY_VALID 0).emptyBanks 2).set (F.EPM_SLOT_TOG 2) 1 = d.setAll setupFields := by
    simp only [Dev.emptyBanks, Dev.setAll, setupFields, List.foldl_cons, List.foldl_nil, Nat.sub_self]
  have hhub : ((d.set F.HUB_CTLREPLY_VALID 0).emptyBanks 2).hub = d.hub := by simp only [Dev.emptyBanks, Dev.set_hub]
  have hout : ((d.set F.HUB_CTLREPLY_VALID 0).emptyBanks 2).out = d.out := by simp only [Dev.emptyBanks, Dev.set_out]
  rw [← hregs, Dev.funcSetup, h, if_neg (by decide), ← hhub, ← hout]
  generalize (d.set F.HUB_CTLREPLY_VALID 0).emptyBanks 2 = x
  rfl

theorem setupFields_val (d : Dev) {f : Fld} (v : Nat) (hf : (f, v) ∈ setupFields) (hv : v < 2 ^ f.w) : (d.setAll setupFields).get f = v :=
  d.setAll_val (by simp only [setupFields, List.map_cons, List.map_nil]; decide) v hf hv

theorem Dev.hubEvent_nobody (d : Dev) (bit inst : Nat) : d.hubEvent bit inst [] = d.set (bitFld 0x400C bit) 1 := rfl

/-- A forwarded request, shown to the steward (R187). -/
def requestFields (v : Nat) : List (Fld × Nat) :=
  [(F.HUB_SETUP0_BYTES, v % 2 ^ 32), (F.HUB_SETUP1_BYTES, v / 2 ^ 32), (F.HUB_CTLREPLY_VALID, 1), (bitFld 0x400C 4, 1)]

theorem Dev.hubCtlReq_eq {d : Dev} {v : Nat} (h : d.hub.setup = some v) :
    d.hubCtlReq = if fnForwarded v = true ∧ d.fnLive = true ∧ d.is F.HUB_CTLREPLY_VALID = false then d.setAll (requestFields v) else d := by
  rw [Dev.hubCtlReq, h]
  simp only [Bool.and_eq_true, Bool.not_eq_true', and_assoc]
  rfl

theorem requestFields_val (d : Dev) (w : Nat) {f : Fld} (v : Nat) (hf : (f, v) ∈ requestFields w) :
    (d.setAll (requestFields w)).get f = v % 2 ^ f.w :=
  d.setAll_get (by simp only [requestFields, List.map_cons, List.map_nil]; decide) hf

/-- A forwarded request has been answered or is given up: it is no longer shown. -/
def Dev.requestOver (d : Dev) (h : Hub) : Dev := (d.set F.HUB_CTLREPLY_VALID 0).withHub h d.out

theorem Dev.requestOver_is (d : Dev) (h : Hub) : (d.requestOver h).get F.HUB_CTLREPLY_VALID = 0 ∧ (d.requestOver h).hub = h ∧
    d.Only { d.requestOver h with hub := d.hub } [F.HUB_CTLREPLY_VALID] :=
  ⟨(Dev.withHub_get _ _ _ _).trans (Dev.get_set_same ..), rfl, d.only_set F.HUB_CTLREPLY_VALID 0⟩

theorem Dev.writeCtlreply_eq {d : Dev} {w : Word} (hup : d.up = true) (hres : setsReserved R.HUB_CTLREPLY w = false) :
    d.writeCtlreply w =
      if bits w.toNat 0 2 ≠ 1 ∧ bits w.toNat 0 2 ≠ 2 then d.recordGlb 0x4018 .eField
      else if d.is F.HUB_CTLREPLY_VALID = false then d.recordGlb 0x4018 .eState
      else if bits w.toNat 0 2 = 1 then
        ((d.requestOver { d.hub with setup := none }).ctlDone (d.get F.HUB_SETUP0_BYTES + 2 ^ 32 * d.get F.HUB_SETUP1_BYTES)).emit .usb 0 [0] []
      else (d.requestOver { d.hub with setup := none }).stall true := by
  have hrow : d.writeRow .bar0 R.HUB_CTLREPLY 0 w = d := rfl
  have hfield : (bits w.toNat 0 2 != 1 && bits w.toNat 0 2 != 2) = decide (bits w.toNat 0 2 ≠ 1 ∧ bits w.toNat 0 2 ≠ 2) := by
    rw [Bool.eq_iff_iff]
    simp only [Bool.and_eq_true, bne_iff_ne, decide_eq_true_eq]
  rw [Dev.writeCtlreply]
  dsimp only
  rw [hfield]
  by_cases hact : bits w.toNat 0 2 ≠ 1 ∧ bits w.toNat 0 2 ≠ 2
  · rw [if_pos hact, Dev.regWrite_rejected hup (st := .eField) (by decide)]
    · rfl
    · rw [hres, decide_eq_true hact]
      cases d.is F.HUB_CTLREPLY_VALID <;> rfl
  rw [if_neg hact, decide_eq_false hact]
  cases hval : d.is F.HUB_CTLREPLY_VALID
  case false =>
    rw [if_pos rfl, Dev.regWrite_rejected hup (st := .eState) (by decide)]
    · rfl
    · rw [hres]; rfl
  case true =>
    rw [if_neg (by decide), Dev.regWrite_done hup]
    · rw [hrow]
      rfl
    · rw [hres]; rfl

theorem Dev.hubRequest_live {d : Dev} (h : d.hubLive = true) (v : Nat) :
    d.hubRequest (some v) = { (if bits v 5 2 = 1 then d.hubClass v else d.hubStandard v) with
      free := (if bits v 5 2 = 1 then d.hubClass v else d.hubStandard v).free + 1 } := by
  rw [Dev.hubRequest, h]
  rfl

/-- What a control request to the hub comes to (R184 to R186). -/
theorem Dev.hubRequest_is (d : Dev) (v : Nat) : let x := if bits v 5 2 = 1 then d.hubClass v else d.hubStandard v
    (suType v = 0 → suReq v = 5 → x.get F.HUB_STAT_ADDR = suValue v % 2 ^ 7 ∧ x.out = ⟨.usb, 0, [0], []⟩ :: d.out ∧
      d.Only { x with out := d.out } [F.HUB_STAT_ADDR]) ∧
    (suType v = 0 → suReq v = 9 → x.is F.HUB_STAT_CFG = (suValue v % 256 != 0) ∧ x.get F.HUB_STAT_ALT = 0 ∧
      x.get (F.EPM_SLOT_HALT 1) = 0 ∧ x.get (F.EPM_SLOT_TOG 1) = 0 ∧ x.hub = { d.hub with cfgVal := suValue v % 256 } ∧
      x.out = ⟨.usb, 0, [0], []⟩ :: d.out ∧
      d.Only { x with out := d.out, hub := d.hub } [F.HUB_STAT_CFG, F.HUB_STAT_ALT, F.EPM_SLOT_HALT 1, F.EPM_SLOT_TOG 1]) ∧
    (suType v = 0xA3 → suReq v = 0 → 1 ≤ suIndex v % 256 → suIndex v % 256 ≤ 9 →
      x = d.emit .usb 0 [0] ((leBytes 2 (d.get (F.PRT_STAT_STATUS (suIndex v % 256))) ++
        leBytes 2 (d.get (F.PRT_STAT_CHANGE (suIndex v % 256)))).take (suLength v))) ∧
    (suType v = 0x23 → suReq v = 3 → suValue v = 4 → 1 ≤ suIndex v % 256 → suIndex v % 256 ≤ 8 →
      let p := suIndex v % 256
      d.st p 8 = true → x.st p 4 = true ∧ x.st p 1 = false ∧ x.st p 2 = false ∧
        x.out = ⟨.usb, 0, [0], []⟩ :: ((if d.isLocal p then [] else [⟨.usb, p, [6], []⟩]) ++ d.out) ∧
        d.Only { x with out := d.out } [F.PRT_STAT_STATUS p]) ∧
    (bits v 5 2 = 3 → x = d.emit .usb 0 [4] []) := by
  dsimp only
  refine ⟨fun ht hr => ?_, fun ht hr => ?_, fun ht hr h1 h9 => ?_, fun ht hr hv h1 h8 hpow => ?_, fun h3 => ?_⟩
  · rw [if_neg (by rw [bits_suType, ht]; decide), Dev.hubStandard_setAddress d ht hr]
    exact ⟨Dev.get_set_same .., rfl, d.only_set _ _⟩
  · rw [if_neg (by rw [bits_suType, ht]; decide), Dev.hubStandard_setConfiguration d ht hr]
    obtain ⟨x, hx⟩ : ∃ x : Dev, x = { d with hub := { d.hub with cfgVal := suValue v % 256 } } := ⟨_, rfl⟩
    have honly := x.only_hubConfigured (suValue v % 256)
    obtain ⟨hcfg, halt, hhalt, htog⟩ := x.hubConfigured_get (suValue v % 256)
    rw [← hx]
    refine ⟨hcfg, halt, hhalt, htog, ?_, ?_, ?_⟩
    · show (x.hubConfigured (suValue v % 256)).hub = _
      rw [honly.1, hx]
    · show _ :: (x.hubConfigured (suValue v % 256)).out = _
      rw [honly.1, hx]
    · have hback := honly.withHub d.hub d.out
      rw [hx] at hback ⊢
      exact hback.mono (by simp)
  · rw [if_pos (by rw [bits_suType, ht]; decide), Dev.hubClass_portStatus d ht hr h1 h9]
  · rw [if_pos (by rw [bits_suType, ht]; decide), Dev.hubClass_resetPort d ht hr hv h1 h8 hpow]
    generalize suIndex v % 256 = p
    have honly := d.only_portInReset p
    have hst : (d.portInReset p).st p 4 = true ∧ (d.portInReset p).st p 1 = false ∧ (d.portInReset p).st p 2 = false := by
      unfold Dev.portInReset
      refine ⟨?_, ?_, Dev.setSt_st_same _ _ _ (by decide)⟩
      · rw [Dev.setSt_st_ne _ _ _ (by decide) (by decide) (by decide), Dev.setSt_st_ne _ _ _ (by decide) (by decide) (by decide),
          Dev.setSt_st_same _ _ _ (by decide)]
      · rw [Dev.setSt_st_ne _ _ _ (by decide) (by decide) (by decide), Dev.setSt_st_same _ _ _ (by decide)]
    generalize d.portInReset p = x at *
    obtain ⟨h4, h1, h2⟩ := hst
    obtain ⟨m, rfl⟩ := honly.eq_with
    cases d.isLocal p
    · exact ⟨h4, h1, h2, rfl, rfl, honly.2⟩
    · exact ⟨h4, h1, h2, rfl, rfl, honly.2⟩
  · rw [if_neg (by omega), d.hubStandard_reserved h3]

/-- Settles O27: each request to the hub or the function, answered or forwarded, by the model's equations for it. -/
theorem hubControl : Obligations.HubControl := by
  intro s hup
  refine ⟨fun v hlive => Ends.of_act hup ?_, fun v hfn hset hfwd => Ends.of_act hup ?_, fun hlive hset => Ends.of_act hup ?_,
    fun v hlive => Ends.of_act hup ?_, fun v => ⟨fun hfn => Ends.of_act hup ?_, fun hfn => Ends.of_act hup ?_⟩, Ends.of_act hup ?_,
    fun w hres => Ends.of_act hup ?_, Ends.of_act hup ?_⟩ <;> generalize s.dev = d at *
  · exact ⟨_, Dev.hubRequest_live hlive v.toNat, rfl, d.hubRequest_is v.toNat⟩
  · refine ⟨_, rfl, ?_⟩
    have hlive : d.hubLive = true := by
      simp only [Dev.fnLive, Bool.and_eq_true] at hfn
      exact hfn.1.1
    rw [Option.map_none, Dev.hubRequest, hlive, hset]
    dsimp only
    rw [hfwd, hfn]
    rfl
  · rw [Option.map_none, Dev.hubRequest, hlive]
    cases hs : d.hub.setup with
    | none => rfl
    | some v =>
      have hno : (fnForwarded v || !d.fnLive) = true := by rcases hset v hs with h | h <;> simp [h]
      dsimp only
      rw [hno]
      rfl
  · unfold Dev.hubRequest
    rw [hlive]
    rfl
  · rw [Dev.funcSetup, hfn]
    rfl
  · rw [Dev.funcSetup_eq hfn]
    have hval {f : Fld} (n : Nat) (hf : (f, n) ∈ setupFields) (hn : n < 2 ^ f.w) : (d.setAll setupFields).get f = n := setupFields_val d n hf hn
    have honly := d.only_setAll setupFields
    generalize d.setAll setupFields = x at *
    obtain ⟨m, rfl⟩ := honly.eq_with
    exact ⟨rfl, rfl, hval 0 (by simp [setupFields]) (by decide), hval 1 (by simp [setupFields]) (by decide),
      hval 0 (by simp [setupFields]) (by decide), hval 0 (by simp [setupFields]) (by decide), rfl,
      (honly.mono (by simp [setupFields])).2⟩
  · cases hs : d.hub.setup with
    | none => rw [Dev.hubCtlReq, hs]
    | some v =>
      dsimp only
      rw [Dev.hubCtlReq_eq hs]
      by_cases h : fnForwarded v = true ∧ d.fnLive = true ∧ d.is F.HUB_CTLREPLY_VALID = false
      · rw [if_pos h, if_pos h]
        exact ⟨(requestFields_val d v (v % 2 ^ 32) (by simp [requestFields])).trans (Nat.mod_mod ..), requestFields_val d v _ (by simp [requestFields]),
          requestFields_val d v 1 (by simp [requestFields]), requestFields_val d v 1 (by simp [requestFields]),
          (d.only_setAll _).mono (by simp [requestFields])⟩
      · rw [if_neg h, if_neg h]
  · rw [Dev.writeCtlreply_eq hup hres]
    by_cases hact : bits w.toNat 0 2 ≠ 1 ∧ bits w.toNat 0 2 ≠ 2
    · rw [if_pos hact, if_pos hact]
      exact recordedGlb_recordGlb _ _ _
    rw [if_neg hact, if_neg hact]
    by_cases hval : d.is F.HUB_CTLREPLY_VALID = false
    · rw [if_pos hval, if_pos hval]
      exact recordedGlb_recordGlb _ _ _
    rw [if_neg hval, if_neg hval]
    obtain ⟨hv, hh, ho⟩ := d.requestOver_is { d.hub with setup := none }
    exact ⟨_, hv, hh, ho, rfl⟩
  · rw [Dev.hubCtlTimeout]
    by_cases hval : d.is F.HUB_CTLREPLY_VALID = true
    · rw [if_pos hval, if_pos hval]
      obtain ⟨x, hx⟩ : ∃ x, x = (d.set F.HUB_CTLREPLY_VALID 0).withHub { d.hub with setup := none, stall0 := true } (⟨.usb, 0, [4], []⟩ :: d.out) :=
        ⟨_, rfl⟩
      refine ⟨x, ?_, ?_, ?_, ?_, ?_⟩
      · rw [hx]; rfl
      · rw [hx, Dev.withHub_get, Dev.get_set_same]; rfl
      · rw [hx]; rfl
      · rw [hx]; rfl
      · rw [hx]; exact d.only_set _ _
    · rw [if_neg hval, if_neg hval]

end Sys2Proof.Machine

/-!
SUPPORT. The function's endpoints: tokens, banks and isochronous slots (chapter 07).
-/
namespace Sys2Proof.Machine

open Sys2Proof

/-! ### Tokens at the function's endpoints (R187, R195, R202, R211) -/

theorem fullFld_bit (n b : Nat) : (fullFld n b).w = 1 := by unfold fullFld; split_ifs <;> rfl

theorem lenFld_wide (n b : Nat) : (lenFld n b).w = 11 := by unfold lenFld; split_ifs <;> rfl

/-- LEN, FULL and NEXT of a slot and its toggle stand apart. -/
theorem bankFlds_apart {n : Nat} (hn : n < 16) (b c : Nat) :
    [lenFld n b, fullFld n c, F.EPM_BANK_NEXT (n - 2), F.EPM_SLOT_TOG n].Pairwise fun f g => fldId f ≠ fldId g := by
  unfold lenFld fullFld
  by_cases hb : b = 0 <;> by_cases hc : c = 0 <;> simp only [hb, hc, if_true, if_false] <;> clear hb hc <;> revert n <;> decide

/-- An acknowledged IN packet leaves its bank free. -/
def Dev.bankFreed (d : Dev) (n b : Nat) : List (Fld × Nat) :=
  [(fullFld n b, 0), (F.EPM_BANK_NEXT (n - 2), 1 - b), (F.EPM_SLOT_TOG n, 1 - d.get (F.EPM_SLOT_TOG n))]

/-- An OUT packet fills its bank. -/
def Dev.bankFilled (d : Dev) (n b len : Nat) : List (Fld × Nat) :=
  [(lenFld n b, len), (fullFld n b, 1), (F.EPM_BANK_NEXT (n - 2), 1 - b), (F.EPM_SLOT_TOG n, 1 - d.get (F.EPM_SLOT_TOG n))]

theorem Dev.bankFilled_eq (d : Dev) {n : Nat} (hn : n < 16) (b len : Nat) :
    (((d.set (lenFld n b) len).set (fullFld n b) 1).set (F.EPM_BANK_NEXT (n - 2)) (1 - b)).flipTog n = d.setAll (d.bankFilled n b len) := by
  have h := bankFlds_apart hn b b
  simp only [List.pairwise_cons, List.mem_cons, List.not_mem_nil, or_false, forall_eq_or_imp, forall_eq] at h
  obtain ⟨⟨-, -, hl⟩, ⟨-, hf⟩, ht, -⟩ := h
  rw [Dev.flipTog, Dev.get_set_ne _ _ ht, Dev.get_set_ne _ _ hf, Dev.get_set_ne _ _ hl]
  rfl

theorem Dev.bankFreed_eq (d : Dev) {n : Nat} (hn : n < 16) (b : Nat) :
    ((d.set (fullFld n b) 0).set (F.EPM_BANK_NEXT (n - 2)) (1 - b)).flipTog n = d.setAll (d.bankFreed n b) := by
  have h := bankFlds_apart hn b b
  simp only [List.pairwise_cons, List.mem_cons, List.not_mem_nil, or_false, forall_eq_or_imp, forall_eq] at h
  obtain ⟨-, ⟨-, hf⟩, ht, -⟩ := h
  rw [Dev.flipTog, Dev.get_set_ne _ _ ht, Dev.get_set_ne _ _ hf]
  rfl

theorem Dev.bankFilled_get (d : Dev) {n : Nat} (hn : n < 16) (b len : Nat) {f : Fld} (v : Nat) (hf : (f, v) ∈ d.bankFilled n b len) :
    (d.setAll (d.bankFilled n b len)).get f = v % 2 ^ f.w :=
  d.setAll_get (by simpa only [Dev.bankFilled, List.map_cons, List.map_nil] using bankFlds_apart hn b b) hf

theorem Dev.bankFreed_get (d : Dev) {n : Nat} (hn : n < 16) (b : Nat) {f : Fld} (v : Nat) (hf : (f, v) ∈ d.bankFreed n b) :
    (d.setAll (d.bankFreed n b)).get f = v % 2 ^ f.w :=
  d.setAll_get (by simpa only [Dev.bankFreed, List.map_cons, List.map_nil] using (bankFlds_apart hn b b).of_cons) hf

/-- An IN token, where something may be in the next bank (R195, R211). -/
theorem Dev.inToken_is (d : Dev) {n : Nat} (hn : n < 16) (ack : Bool) :
    let b := d.get (F.EPM_BANK_NEXT (n - 2))
    let e := d.inToken n ack
    if d.is (fullFld n b) = false then e = d.emit .usb 0 [2] []
    else match d.memBytes 2 1 (d.bankAddr n b) (d.get (lenFld n b)) with
      | (x, _, some a) => e = (x.epmUe n a).emit .usb 0 [4] []
      | (x, l, none) =>
        let y := x.emit .usb 0 (if d.get (F.EPM_SLOT_TOG n) = 0 then [0] else [0, d.get (F.EPM_SLOT_TOG n)]) l
        if ack = true then e.get (fullFld n b) = 0 ∧ e.get (F.EPM_BANK_NEXT (n - 2)) = (1 - b) % 2 ∧
          e.get (F.EPM_SLOT_TOG n) = (1 - x.get (F.EPM_SLOT_TOG n)) % 2 ∧
          y.Only e [fullFld n b, F.EPM_BANK_NEXT (n - 2), F.EPM_SLOT_TOG n]
        else e = y := by
  dsimp only
  rw [Dev.inToken]
  generalize d.get (F.EPM_BANK_NEXT (n - 2)) = b
  cases d.is (fullFld n b)
  case false => rfl
  case true =>
    rw [if_neg (by decide)]
    dsimp only
    rw [if_neg (by decide)]
    generalize d.memBytes 2 1 (d.bankAddr n b) (d.get (lenFld n b)) = r
    rcases r with ⟨x, l, _ | a⟩
    · dsimp only
      cases ack
      · rfl
      · rw [if_pos rfl, if_pos rfl, Dev.bankFreed_eq _ hn]
        have hval {f : Fld} (v : Nat) (hf : (f, v) ∈ Dev.bankFreed _ n b) := Dev.bankFreed_get (x.usbData 0 (d.get (F.EPM_SLOT_TOG n)) l) hn b v hf
        exact ⟨(hval 0 (by simp [Dev.bankFreed])).trans (Nat.zero_mod _), hval (1 - b) (by simp [Dev.bankFreed]),
          hval ((1 : Nat) - (x.usbData 0 (d.get (F.EPM_SLOT_TOG n)) l).get (F.EPM_SLOT_TOG n)) (by simp [Dev.bankFreed]), Dev.only_setAll _ _⟩
    · rfl

/-- An OUT token with its data (R195). -/
theorem Dev.outToken_is (d : Dev) {n : Nat} (hn : n < 16) (tog : Bool) (data : List Byte) :
    let b := d.get (F.EPM_BANK_NEXT (n - 2))
    let o := if d.is (fullFld n b) then 1 - b else b
    let e := d.outToken n tog data
    if d.is (F.EPM_SLOT_TOG n) ≠ tog then e = d.emit .usb 0 [1] []
    else if (d.is (fullFld n 0) && d.is (fullFld n 1)) = true then e = d.emit .usb 0 [2] []
    else ∃ x : Dev, x = d.memStore 2 (d.bankAddr n o / 8) data ∧
      e.get (lenFld n o) = data.length % 2 ^ 11 ∧ e.get (fullFld n o) = 1 ∧
      e.get (F.EPM_BANK_NEXT (n - 2)) = (1 - o) % 2 ∧ e.get (F.EPM_SLOT_TOG n) = (1 - x.get (F.EPM_SLOT_TOG n)) % 2 ∧
      e.out = ⟨.usb, 0, [if d.is F.HUB_STAT_HS && e.is (fullFld n (1 - o)) then 3 else 1], []⟩ :: x.out ∧
      x.Only { e with out := x.out } [lenFld n o, fullFld n o, F.EPM_BANK_NEXT (n - 2), F.EPM_SLOT_TOG n] := by
  dsimp only
  obtain ⟨o, ho⟩ : ∃ o, o = d.outBank n := ⟨_, rfl⟩
  have hbank : (if d.is (fullFld n (d.get (F.EPM_BANK_NEXT (n - 2)))) then 1 - d.get (F.EPM_BANK_NEXT (n - 2))
      else d.get (F.EPM_BANK_NEXT (n - 2))) = o := ho.symm
  have hboth : (d.is (fullFld n 0) && d.is (fullFld n 1)) = d.bothFull n := rfl
  rw [hbank, Dev.outToken, ← ho, hboth]
  dsimp only
  simp only [bne_iff_ne]
  by_cases htog : d.is (F.EPM_SLOT_TOG n) ≠ tog
  · rw [if_pos htog, if_pos htog]; rfl
  rw [if_neg htog, if_neg htog]
  by_cases hfull : d.bothFull n = true
  · rw [if_pos hfull, if_pos hfull]; rfl
  rw [if_neg hfull, if_neg hfull]
  refine ⟨_, rfl, ?_⟩
  generalize d.memStore 2 (d.bankAddr n o / 8) data = x
  rw [Dev.bankFilled_eq _ hn]
  have hval {f : Fld} (v : Nat) (hf : (f, v) ∈ x.bankFilled n o data.length) := x.bankFilled_get hn o data.length v hf
  have honly := x.only_setAll (x.bankFilled n o data.length)
  have hlen := hval data.length (f := lenFld n o) (by simp [Dev.bankFilled])
  have hful := hval 1 (f := fullFld n o) (by simp [Dev.bankFilled])
  have hnext := hval (1 - o) (f := F.EPM_BANK_NEXT (n - 2)) (by simp [Dev.bankFilled])
  have htog' := hval (1 - x.get (F.EPM_SLOT_TOG n)) (f := F.EPM_SLOT_TOG n) (by simp [Dev.bankFilled])
  rw [lenFld_wide] at hlen
  rw [fullFld_bit] at hful
  generalize x.setAll (x.bankFilled n o data.length) = y at *
  obtain ⟨m, rfl⟩ := honly.eq_with
  exact ⟨hlen, hful, hnext, htog', rfl, rfl, honly.2⟩

theorem functionTokensRule : FunctionTokensRule := by
  intro s n k tog ack data hup
  refine Ends.of_act hup ?_
  generalize s.dev = d
  obtain ⟨n, hn⟩ := n
  have hguard : (!d.fnLive || decide (n < 2) || !d.is (F.EPM_SLOT_EN n) || d.slotIso n || decide (d.get (F.EPM_SLOT_MPS n) < data.length)) = true ↔
      d.fnLive = false ∨ n < 2 ∨ d.is (F.EPM_SLOT_EN n) = false ∨ d.slotIso n = true ∨ d.get (F.EPM_SLOT_MPS n) < data.length := by
    simp only [Bool.or_eq_true, Bool.not_eq_true', decide_eq_true_eq, or_assoc]
  have hstall : (d.is (F.EPM_SLOT_HALT n) || (n == 2 && d.hub.stall0)) = true ↔
      d.is (F.EPM_SLOT_HALT n) = true ∨ (n = 2 ∧ d.hub.stall0 = true) := by
    simp only [Bool.or_eq_true, Bool.and_eq_true, beq_iff_eq]
  unfold Dev.funcToken
  simp only [hguard, hstall]
  by_cases h1 : d.fnLive = false ∨ n < 2 ∨ d.is (F.EPM_SLOT_EN n) = false ∨ d.slotIso n = true ∨ d.get (F.EPM_SLOT_MPS n) < data.length
  · rw [if_pos h1, if_pos h1]
  rw [if_neg h1, if_neg h1]
  by_cases h2 : d.is (F.EPM_SLOT_HALT n) = true ∨ (n = 2 ∧ d.hub.stall0 = true)
  · rw [if_pos h2, if_pos h2]; rfl
  rw [if_neg h2, if_neg h2]
  by_cases h3 : d.statusWaits n k.val = true
  · rw [if_pos h3, if_pos h3]; rfl
  rw [if_neg h3, if_neg h3]
  clear h3
  obtain ⟨k, hk⟩ := k
  match k, hk with
  | 0, _ => exact d.inToken_is hn ack
  | 1, _ => exact d.outToken_is hn tog data
  | 2, _ => rfl

/-! ### Firmware's side of a bank (R195, R202, R583) -/

/-- FULL of each bank given a value where its bit asks for it. -/
def Dev.fullAsked (d : Dev) (n v : Nat) (b0 b1 : Bool) : Dev :=
  let d2 := if b0 then d.set (fullFld n 0) v else d
  if b1 then d2.set (fullFld n 1) v else d2

theorem Dev.fullAsked_is (d : Dev) (n : Nat) {v : Nat} (hv : v < 2) (b0 b1 : Bool) :
    (d.fullAsked n v b0 b1).get (fullFld n 0) = (if b0 then v else d.get (fullFld n 0)) ∧
    (d.fullAsked n v b0 b1).get (fullFld n 1) = (if b1 then v else d.get (fullFld n 1)) ∧
    d.Only (d.fullAsked n v b0 b1) [fullFld n 0, fullFld n 1] := by
  have h01 : fldId (fullFld n 0) ≠ fldId (fullFld n 1) := by
    simp only [fullFld, if_true, if_neg Nat.one_ne_zero, fldId, F.EPM_BANK_FULL0, F.EPM_BANK_FULL1]; omega
  have hmod (b : Nat) : v % 2 ^ (fullFld n b).w = v := by rw [fullFld_bit]; exact Nat.mod_eq_of_lt hv
  have hfirst : d.Only (if b0 then d.set (fullFld n 0) v else d) [fullFld n 0] := by
    split_ifs
    · exact d.only_set _ _
    · exact Dev.Only.refl _ _
  have hget0 : (if b0 then d.set (fullFld n 0) v else d).get (fullFld n 0) = if b0 then v else d.get (fullFld n 0) := by
    split_ifs
    · rw [Dev.get_set_same, hmod]
    · rfl
  have hget1 : (if b0 then d.set (fullFld n 0) v else d).get (fullFld n 1) = d.get (fullFld n 1) := hfirst.2 _ (by simpa using h01)
  unfold Dev.fullAsked
  generalize (if b0 then d.set (fullFld n 0) v else d) = x at *
  cases b1
  · exact ⟨hget0, hget1, hfirst.mono (by simp)⟩
  · refine ⟨(Dev.get_set_ne _ _ h01.symm).trans hget0, (Dev.get_set_same ..).trans (hmod 1), hfirst.trans (Dev.only_set _ _ _)⟩

theorem lenFld_apart (n : Nat) : fldId (lenFld n 0) ≠ fldId (lenFld n 1) := by
  simp only [lenFld, if_true, if_neg Nat.one_ne_zero, fldId, F.EPM_BANK_LEN0, F.EPM_BANK_LEN1]; omega

theorem lenFld_ne_fullFld {n : Nat} (hn : n < 16) (b c : Nat) : fldId (lenFld n b) ≠ fldId (fullFld n c) := by
  have h := bankFlds_apart hn b c
  rw [List.pairwise_cons] at h
  exact h.1 _ (by simp)

theorem Dev.writeBank_eq {d : Dev} {n : Nat} {w : Word} (hup : d.up = true) (hn : 2 ≤ n) (hres : setsReserved R.EPM_BANK w = false) :
    let big := fun b : Nat => bits w.toNat (16 * b) 11 ≠ d.get (lenFld n b) ∧ d.get (F.EPM_SLOT_MPS n) < bits w.toNat (16 * b) 11
    d.writeBank n w = if d.bankIn n = true then
        if big 0 ∨ big 1 then d.recordGlb (0x5858 + 4 * (n - 2)) .eRange
        else ((d.set (lenFld n 0) (bits w.toNat 0 11)).set (lenFld n 1) (bits w.toNat 16 11)).fullAsked n 1 (bitOf w.toNat 15) (bitOf w.toNat 31)
      else d.fullAsked n 0 (bitOf w.toNat 15) (bitOf w.toNat 31) := by
  dsimp only
  have hbig : ((bits w.toNat 16 11 != d.get (lenFld n 1) && decide (d.get (F.EPM_SLOT_MPS n) < bits w.toNat 16 11)) ||
      (bits w.toNat 0 11 != d.get (lenFld n 0) && decide (d.get (F.EPM_SLOT_MPS n) < bits w.toNat 0 11))) =
      decide ((bits w.toNat 0 11 ≠ d.get (lenFld n 0) ∧ d.get (F.EPM_SLOT_MPS n) < bits w.toNat 0 11) ∨
        (bits w.toNat 16 11 ≠ d.get (lenFld n 1) ∧ d.get (F.EPM_SLOT_MPS n) < bits w.toNat 16 11)) := by
    rw [Bool.eq_iff_iff]
    simp only [Bool.or_eq_true, Bool.and_eq_true, bne_iff_ne, decide_eq_true_eq]
    exact Or.comm
  rw [Dev.writeBank, if_neg (by omega)]
  dsimp only
  rw [hbig]
  obtain ⟨row, hrow⟩ : ∃ row : RegRow, row = ⟨0x5858, 4, 14, none, [⟨31, 1, .ro, fun _ => 0⟩, ⟨30, 1, .ro, fun _ => 0⟩, ⟨16, 11, .ro, fun _ => 0⟩,
    ⟨15, 1, .ro, fun _ => 0⟩, ⟨0, 11, .ro, fun _ => 0⟩]⟩ := ⟨_, rfl⟩
  have hsame : d.writeRow .bar0 row (n - 2) w = d := by rw [hrow]; rfl
  have hlock : d.changesLocked .bar0 row (n - 2) w = false := by rw [hrow]; rfl
  have hok : setsReserved row w = false := by rw [hrow]; exact hres
  have hoff : row.base + row.stride * (n - 2) = 0x5858 + 4 * (n - 2) := by rw [hrow]
  rw [← hrow]
  by_cases hin : d.bankIn n = true
  · rw [if_pos hin, hin, Bool.true_and]
    by_cases hb : (bits w.toNat 0 11 ≠ d.get (lenFld n 0) ∧ d.get (F.EPM_SLOT_MPS n) < bits w.toNat 0 11) ∨
        (bits w.toNat 16 11 ≠ d.get (lenFld n 1) ∧ d.get (F.EPM_SLOT_MPS n) < bits w.toNat 16 11)
    · rw [decide_eq_true hb, Dev.regWrite_rejected hup (st := .eRange) (by decide)]
      · rw [if_pos hb, hoff]; rfl
      · rw [hok, hlock]; rfl
    · rw [decide_eq_false hb, Dev.regWrite_done hup]
      · rw [if_neg hb, hsame]; rfl
      · rw [hok, hlock]; rfl
  · rw [if_neg hin, Bool.eq_false_of_not_eq_true hin, Bool.false_and, Dev.regWrite_done hup]
    · rw [hsame]; rfl
    · rw [hok, hlock]; rfl

theorem bankWritesRule : BankWritesRule := by
  intro s n w hup
  obtain ⟨n, hn⟩ := n
  refine ⟨fun h2 hres => Ends.of_act hup ?_, fun h2 => Ends.of_act hup ?_⟩ <;> generalize s.dev = d at *
  · dsimp only
    rw [Dev.writeBank_eq hup h2 hres]
    dsimp only
    by_cases hin : d.bankIn n = true
    · rw [if_pos hin, if_pos hin]
      by_cases hb : (bits w.toNat (16 * 0) 11 ≠ d.get (lenFld n 0) ∧ d.get (F.EPM_SLOT_MPS n) < bits w.toNat (16 * 0) 11) ∨
          (bits w.toNat (16 * 1) 11 ≠ d.get (lenFld n 1) ∧ d.get (F.EPM_SLOT_MPS n) < bits w.toNat (16 * 1) 11)
      · rw [if_pos hb, if_pos hb]
        exact recordedGlb_recordGlb _ _ _
      rw [if_neg hb, if_neg hb]
      have hmod (b : Nat) (k : Nat) : bits w.toNat k 11 % 2 ^ (lenFld n b).w = bits w.toNat k 11 := by
        rw [lenFld_wide, bits, Nat.mod_mod]
      have hlens := (d.only_set (lenFld n 0) (bits w.toNat 0 11)).trans (Dev.only_set _ (lenFld n 1) (bits w.toNat 16 11))
      have hlen0 : ((d.set (lenFld n 0) (bits w.toNat 0 11)).set (lenFld n 1) (bits w.toNat 16 11)).get (lenFld n 0) = bits w.toNat 0 11 := by
        rw [Dev.get_set_ne _ _ (lenFld_apart n).symm, Dev.get_set_same, hmod]
      have hlen1 : ((d.set (lenFld n 0) (bits w.toNat 0 11)).set (lenFld n 1) (bits w.toNat 16 11)).get (lenFld n 1) = bits w.toNat 16 11 := by
        rw [Dev.get_set_same, hmod]
      generalize (d.set (lenFld n 0) (bits w.toNat 0 11)).set (lenFld n 1) (bits w.toNat 16 11) = x at *
      obtain ⟨hf0, hf1, honly⟩ := x.fullAsked_is n (v := 1) (by decide) (bitOf w.toNat 15) (bitOf w.toNat 31)
      have hfull (b : Nat) : x.get (fullFld n b) = d.get (fullFld n b) := hlens.2 _ (by simp [lenFld_ne_fullFld hn])
      have hlen (b : Nat) : (x.fullAsked n 1 (bitOf w.toNat 15) (bitOf w.toNat 31)).get (lenFld n b) = x.get (lenFld n b) :=
        honly.2 _ (by simp [(lenFld_ne_fullFld hn _ _).symm])
      rw [hlen, hlen, hf0, hf1, hfull, hfull]
      exact ⟨hlen0, hlen1, rfl, rfl, hlens.trans honly⟩
    · rw [if_neg hin, if_neg hin]
      exact d.fullAsked_is n (v := 0) (by decide) _ _
  · dsimp only
    rw [Dev.writeBank, if_pos h2]
    have hopen : d.regsOpen = true := hup
    rw [if_pos hopen]
    exact recordedGlb_recordGlb _ _ _

/-! ### Isochronous slots (R199, R200) -/

/-- A state whose feedback values alone have changed. -/
def Dev.withFeedback (d : Dev) (m : Map Nat) : Dev := { d with hub := { d.hub with feedback := m } }

/-- A feedback slot takes its value, where it has one. -/
def Dev.takeFeedback (ns : Nat) (d : Dev) (n : Nat) : Dev :=
  match d.feedbackValue ns n with
  | some v => d.withFeedback (mapPut 0 d.hub.feedback n v)
  | none => d

theorem Dev.takeFeedback_is (ns : Nat) (d : Dev) (n : Nat) : ∃ f, Dev.takeFeedback ns d n = d.withFeedback f ∧
    ∀ m, mapGet 0 f m = if m = n then (d.feedbackValue ns m).getD (mapGet 0 d.hub.feedback m) else mapGet 0 d.hub.feedback m := by
  unfold Dev.takeFeedback
  cases hv : d.feedbackValue ns n with
  | none =>
    refine ⟨d.hub.feedback, rfl, fun m => ?_⟩
    split_ifs with h
    · rw [h, hv]; rfl
    · rfl
  | some v =>
    refine ⟨_, rfl, fun m => ?_⟩
    split_ifs with h
    · rw [h, mapGet_put_same, hv]; rfl
    · exact mapGet_put_ne _ _ (Ne.symm h)

/-- Every feedback slot of a list takes the value of its own stream (R200). -/
theorem Dev.takeFeedbacks_is (ns : Nat) (l : List Nat) (d : Dev) : ∃ f, l.foldl (Dev.takeFeedback ns) d = d.withFeedback f ∧
    ∀ m, mapGet 0 f m = if m ∈ l then (d.feedbackValue ns m).getD (mapGet 0 d.hub.feedback m) else mapGet 0 d.hub.feedback m := by
  induction l generalizing d with
  | nil => exact ⟨d.hub.feedback, rfl, fun m => rfl⟩
  | cons n t ih =>
    obtain ⟨f, hf, hget⟩ := Dev.takeFeedback_is ns d n
    obtain ⟨g, hg, hrest⟩ := ih (d.withFeedback f)
    have hvalue (m : Nat) : (d.withFeedback f).feedbackValue ns m = d.feedbackValue ns m := rfl
    refine ⟨g, by rw [List.foldl_cons, hf, hg]; rfl, fun m => ?_⟩
    have hold : mapGet 0 (d.withFeedback f).hub.feedback m = mapGet 0 f m := rfl
    rw [hrest m, hvalue, hold, hget m]
    generalize d.feedbackValue ns m = o, mapGet 0 d.hub.feedback m = x
    have htwice : o.getD (o.getD x) = o.getD x := by cases o <;> rfl
    grind

theorem Dev.feedbackUpdate_is (d : Dev) (ns : Nat) : let e := d.feedbackUpdate ns
    e = { d with hub := { d.hub with feedback := e.hub.feedback } } ∧ ∀ m, mapGet 0 e.hub.feedback m =
      if m ∈ fnSlots ∧ d.slotFeedback m = true then (d.feedbackValue ns m).getD (mapGet 0 d.hub.feedback m) else mapGet 0 d.hub.feedback m := by
  have hdef : d.feedbackUpdate ns = (fnSlots.filter d.slotFeedback).foldl (Dev.takeFeedback ns) d := rfl
  obtain ⟨f, hf, hget⟩ := Dev.takeFeedbacks_is ns (fnSlots.filter d.slotFeedback) d
  dsimp only
  rw [hdef, hf]
  refine ⟨rfl, fun m => ?_⟩
  have h := hget m
  simp only [List.mem_filter] at h
  exact h

theorem isochronousSlotsRule : IsochronousSlotsRule := by
  refine ⟨fun s n k pkts hup => Ends.of_act hup ?_, fun d p t => ⟨rfl, rfl⟩, fun s ns hup => Ends.of_act hup ?_⟩ <;> generalize s.dev = d
  · obtain ⟨n, hn⟩ := n
    obtain ⟨l, hl⟩ : ∃ l, l = pkts.map fun p => (p.1.val, p.2) := ⟨_, rfl⟩
    have hnil : pkts = [] ↔ l = [] := by rw [hl, List.map_eq_nil_iff]
    have hguard : (!d.fnLive || !d.is F.HUB_STAT_FNCFG || decide (n < 3) || !d.slotIso n) = true ↔
        d.fnLive = false ∨ d.is F.HUB_STAT_FNCFG = false ∨ n < 3 ∨ d.slotIso n = false := by
      simp only [Bool.or_eq_true, Bool.not_eq_true', decide_eq_true_eq, or_assoc]
    dsimp only
    rw [← hl]
    simp only [hnil]
    clear hl hnil
    unfold Dev.funcIso
    simp only [hguard]
    by_cases h1 : d.fnLive = false ∨ d.is F.HUB_STAT_FNCFG = false ∨ n < 3 ∨ d.slotIso n = false
    · rw [if_pos h1, if_pos h1]
    rw [if_neg h1, if_neg h1]
    have hheld : d.phyHeld = false := by
      simp only [not_or, Dev.fnLive, Dev.hubLive, Bool.not_eq_false, Bool.and_eq_true, Bool.not_eq_true'] at h1
      exact h1.1.1.1.1.2
    clear h1 hguard
    cases d.is (F.EPM_SLOT_DIR n)
    case false =>
      simp only [Bool.not_false, if_true]
      cases isoSeqOk (d.is F.HUB_STAT_HS) l
      case true => exact ⟨_, rfl, rfl⟩
      case false =>
        simp only [Bool.not_false, Bool.false_eq_true, if_true, if_false]
        by_cases hempty : l = []
        · rw [if_pos hempty, if_pos hempty]
        · rw [if_neg hempty, if_neg hempty]
          refine ⟨d.bump (F.SUP_XDROP_IN 0), ?_, Dev.get_set_same .., d.only_bump _⟩
          unfold Dev.xdropIn
          dsimp only
          rw [hheld]
          rfl
    case true =>
      simp only [Bool.not_true, Bool.true_eq_false, Bool.false_eq_true, if_false]
      cases d.slotFeedback n
      case true => rfl
      case false =>
        simp only [Bool.false_eq_true, if_false]
        cases d.sinkUses (8192 + n) with
        | nil => rfl
        | cons q t =>
          obtain ⟨q, i⟩ := q
          dsimp only
          generalize d.sinkPacket q i _ = r
          rcases r with ⟨x, _ | c⟩ <;> rfl
  · obtain ⟨heq, hget⟩ := d.feedbackUpdate_is ns
    refine ⟨heq, fun m => ?_⟩
    rw [hget m]
    refine ite_congr rfl (fun _ => ?_) fun _ => rfl
    unfold Dev.feedbackValue
    cases d.sinkUses (8192 + m) with
    | nil => rfl
    | cons q t =>
      cases d.is F.HUB_STAT_HS
      · simp only [Bool.false_eq_true, if_false, Option.getD_some, Nat.mul_assoc]
      · rfl

/-- Settles O28: a token by the model's branches, a bank by its four fields, an interval by what the slot carries. -/
theorem functionEndpoints : Obligations.FunctionEndpoints := ⟨functionTokensRule, bankWritesRule, isochronousSlotsRule⟩

end Sys2Proof.Machine

/-!
SUPPORT. The hub's connection upstream, suspend, resume and HUB_CTRL (chapter 07).
-/
namespace Sys2Proof.Machine

open Sys2Proof

/-! ### The hub's ports changed together -/

/-- A state whose hub ports alone have changed. -/
def Dev.withPorts (d : Dev) (m : Map HubPort) : Dev := { d with hub := { d.hub with port := m } }

theorem Dev.modHubPorts_is (f : HubPort → HubPort) {l : List Nat} (hl : l.Nodup) (d : Dev) :
    ∃ m, l.foldl (fun d p => d.modHubPort p f) d = d.withPorts m ∧
      ∀ p, (d.withPorts m).hubPort p = if p ∈ l then f (d.hubPort p) else d.hubPort p := by
  induction l generalizing d with
  | nil => exact ⟨d.hub.port, rfl, fun p => rfl⟩
  | cons q t ih =>
    obtain ⟨hq, ht⟩ := List.nodup_cons.mp hl
    obtain ⟨m, hm, hget⟩ := ih ht (d.modHubPort q f)
    refine ⟨m, by rw [List.foldl_cons, hm]; rfl, fun p => ?_⟩
    have hp : (d.withPorts m).hubPort p = ((d.modHubPort q f).withPorts m).hubPort p := rfl
    rw [hp, hget p]
    by_cases hpq : p = q
    · have hself : (d.modHubPort q f).hubPort q = f (d.hubPort q) := mapGet_put_same _ _ _
      rw [hpq, if_neg hq, if_pos List.mem_cons_self, hself]
    · have hother : (d.modHubPort q f).hubPort p = d.hubPort p := mapGet_put_ne _ _ (Ne.symm hpq)
      rw [hother]
      simp only [List.mem_cons, hpq, false_or]

/-- Resume driven on the ports of a list that a test selects. -/
theorem Dev.driveResume_is (c : Dev → Nat → Bool) (hc : ∀ (d : Dev) (o : List Out) (p : Nat), c { d with out := o } p = c d p) (l : List Nat) (d : Dev) :
    l.foldl (fun d p => if c d p then d.usbOut p 5 [] else d) d =
      { d with out := ((l.filter (c d)).reverse.map fun p => ⟨.usb, p, [5], []⟩) ++ d.out } := by
  induction l generalizing d with
  | nil => rfl
  | cons q t ih =>
    rw [List.foldl_cons]
    cases hq : c d q
    · rw [if_neg Bool.false_ne_true, ih, List.filter_cons_of_neg (by rw [hq]; decide)]
    · have hsame : c (d.usbOut q 5 []) = c d := funext fun p => hc d _ p
      rw [if_pos rfl, ih, hsame, List.filter_cons_of_pos hq]
      simp only [List.reverse_cons, List.map_append, List.map_cons, List.map_nil, List.append_assoc]
      rfl

/-! ### The connection to the upstream host (R193, R206, R212, R213) -/

theorem Dev.only_hubConnect (d : Dev) : d.Only d.hubConnect [F.PRT_STAT_STATUS 0] := by
  unfold Dev.hubConnect
  split_ifs
  · exact d.only_setSt _ _ _
  · exact Dev.Only.refl _ _

theorem Dev.hubConnect_hubUp {d : Dev} (hen : d.is F.HUB_CTRL_EN = true) (hall : d.usbAllowed 0 = true) (hf : d.is (F.PRT_STAT_FENCED 0) = false) :
    d.hubConnect.hubUp = true := by
  rw [Dev.hubConnect, hen, hall, hf]
  exact Dev.setSt_st_same _ _ _ (by decide)

theorem Dev.hubLeave_of_up {d : Dev} (h : d.hubUp = true) : d.hubLeave = ((d.resetHub).setSt 0 0 false).set F.HUB_STAT_HS 0 := by
  rw [Dev.hubLeave, h]
  rfl

theorem Dev.hubUp_of_only {d e : Dev} {fs : List Fld} (h : d.Only e fs) (hf : ∀ f ∈ fs, fldId f ≠ fldId (F.PRT_STAT_STATUS 0)) : e.hubUp = d.hubUp := by
  unfold Dev.hubUp Dev.st Dev.bit
  rw [h.2 _ hf]

theorem Dev.hubLeft_is (x : Dev) : ((x.setSt 0 0 false).set F.HUB_STAT_HS 0).hubUp = false ∧
    ((x.setSt 0 0 false).set F.HUB_STAT_HS 0).get F.HUB_STAT_HS = 0 ∧
    x.Only ((x.setSt 0 0 false).set F.HUB_STAT_HS 0) [F.HUB_STAT_HS, F.PRT_STAT_STATUS 0] := by
  refine ⟨?_, Dev.get_set_same .., ((x.only_setSt 0 0 false).trans (Dev.only_set _ _ _)).mono (by simp)⟩
  rw [Dev.hubUp_of_only (Dev.only_set _ _ _) (by decide)]
  exact Dev.setSt_st_same _ _ _ (by decide)

theorem Dev.hubLeave_hubUp (d : Dev) : d.hubLeave.hubUp = false := by
  cases h : d.hubUp
  · rw [Dev.hubLeave, h]; exact h
  · rw [Dev.hubLeave_of_up h]; exact (Dev.hubLeft_is _).1

theorem Dev.signalWake_eq (d : Dev) : d.signalWake =
    if d.is F.HUB_STAT_SUSP = true ∧ d.is F.HUB_STAT_RWEN = true ∧ d.hub.kUp = false ∧ d.phyHeld = false then
      { d.emit .usb 0 [5] [] with hub := { d.hub with kUp := true } } else d := by
  unfold Dev.signalWake
  simp only [Bool.and_eq_true, Bool.not_eq_true', and_assoc]
  rfl

/-! ### Writes of HUB_CTRL (R193, R212, R213) -/

/-- The counts of the ports that CNTCLR clears. -/
def portCounts : List Fld := (List.range 10).flatMap (fun p => [F.PRT_CNT_OC p, F.PRT_CNT_BABBLE p]) ++ (List.range 8).map F.PRT_LCNT_XERR

theorem portCounts_apart : portCounts.Pairwise fun f g => fldId f ≠ fldId g := by decide

/-- HUB_CTRL as the word gives it. -/
def Dev.hubCtrlShown (d : Dev) (w : Word) : Dev := (d.writeRow .bar0 R.HUB_CTRL 0 w).set F.HUB_CTRL_RWAKE 0

theorem hubCtrl_fields_apart : R.HUB_CTRL.fields.Pairwise fun f g => g.lo ≠ f.lo := by simp [R.HUB_CTRL]

theorem Dev.hubCtrlShown_is (d : Dev) (w : Word) : (d.hubCtrlShown w).get F.HUB_CTRL_RWAKE = 0 ∧
    (d.hubCtrlShown w).get F.HUB_CTRL_EN = bits w.toNat 0 1 ∧ (d.hubCtrlShown w).get F.HUB_CTRL_FNEN = bits w.toNat 2 1 ∧
    d.Only (d.hubCtrlShown w) [F.HUB_CTRL_LOCK, F.HUB_CTRL_FNEN, F.HUB_CTRL_EN, F.HUB_CTRL_RWAKE] := by
  refine ⟨Dev.get_set_same .., ?_, ?_, ((d.only_writeRow .bar0 R.HUB_CTRL 0 w).trans (Dev.only_set _ _ _)).mono (by decide)⟩
  · exact (Dev.get_set_ne _ _ (by decide)).trans
      (d.writeRow_get (g := ⟨0, 1, .rw, fun _ => 0⟩) (by simp [R.HUB_CTRL]) hubCtrl_fields_apart (.inl rfl))
  · exact (Dev.get_set_ne _ _ (by decide)).trans
      (d.writeRow_get (g := ⟨2, 1, .rwl, fun _ => 1⟩) (by simp [R.HUB_CTRL]) hubCtrl_fields_apart (.inr rfl))

theorem Dev.zeroed_portCounts (d : Dev) : d.zeroed portCounts = (List.range 8).foldl (fun d p => d.set (F.PRT_LCNT_XERR p) 0)
    ((List.range 10).foldl (fun d p => (d.set (F.PRT_CNT_OC p) 0).set (F.PRT_CNT_BABBLE p) 0) d) := by
  rw [Dev.zeroed, portCounts, List.foldl_append, List.foldl_map, List.foldl_flatMap]
  simp only [List.foldl_cons, List.foldl_nil]

/-- HUB_CTRL written, and the counts cleared where CNTCLR asks for it. -/
def Dev.hubCtrlCleared (d : Dev) (w : Word) : Dev :=
  if bitOf w.toNat 1 then (d.hubCtrlShown w).zeroed portCounts else d.hubCtrlShown w

theorem Dev.writeHubCtrl_eq {d : Dev} {w : Word} (hup : d.up = true) (hres : setsReserved R.HUB_CTRL w = false)
    (hlock : d.changesLocked .bar0 R.HUB_CTRL 0 w = false) : d.writeHubCtrl w =
      if (bitOf w.toNat 0 = true ∧ (d.get F.EPM_DIR_COUNT = 0 ∨ d.is F.HUB_CTRL_LOCK = false)) ∨
          (bitOf w.toNat 8 = true ∧ d.is F.HUB_STAT_RWEN = false) then d.recordGlb 0x4000 .eState
      else
        let z := if bitOf w.toNat 8 then (d.hubCtrlCleared w).signalWake else d.hubCtrlCleared w
        if bitOf w.toNat 0 then z.hubConnect else z.hubLeave := by
  have hen : (bitOf w.toNat 0 && (d.get F.EPM_DIR_COUNT == 0 || !d.is F.HUB_CTRL_LOCK)) =
      decide (bitOf w.toNat 0 = true ∧ (d.get F.EPM_DIR_COUNT = 0 ∨ d.is F.HUB_CTRL_LOCK = false)) := by
    rw [Bool.eq_iff_iff]
    simp only [Bool.and_eq_true, Bool.or_eq_true, beq_iff_eq, Bool.not_eq_true', decide_eq_true_eq]
  have hwake : (bitOf w.toNat 8 && !d.is F.HUB_STAT_RWEN) = decide (bitOf w.toNat 8 = true ∧ d.is F.HUB_STAT_RWEN = false) := by
    rw [Bool.eq_iff_iff]
    simp only [Bool.and_eq_true, Bool.not_eq_true', decide_eq_true_eq]
  rw [Dev.writeHubCtrl]
  dsimp only
  rw [hen, hwake]
  clear hen hwake
  have hreject (b c : Bool) (h : b = true ∨ c = true) (eff : Dev → Dev) :
      d.regWrite .bar0 R.HUB_CTRL 0 w [(b, .eState), (c, .eState)] eff = d.recordGlb 0x4000 .eState := by
    rw [Dev.regWrite_rejected hup (st := .eState) (by decide)]
    · rfl
    · rw [hres, hlock]
      rcases h with rfl | rfl
      · cases c <;> rfl
      · cases b <;> rfl
  by_cases hbad : (bitOf w.toNat 0 = true ∧ (d.get F.EPM_DIR_COUNT = 0 ∨ d.is F.HUB_CTRL_LOCK = false)) ∨
      (bitOf w.toNat 8 = true ∧ d.is F.HUB_STAT_RWEN = false)
  · rw [if_pos hbad, hreject _ _ (by simpa only [decide_eq_true_eq] using hbad)]
  · rw [if_neg hbad]
    rw [not_or] at hbad
    rw [decide_eq_false hbad.1, decide_eq_false hbad.2, Dev.regWrite_done hup]
    · have hshown : (d.writeRow .bar0 R.HUB_CTRL 0 w).set F.HUB_CTRL_RWAKE 0 = d.hubCtrlShown w := rfl
      rw [Dev.hubCtrlCleared, hshown, Dev.zeroed_portCounts]
      cases bitOf w.toNat 1
      · simp only [Bool.false_eq_true, if_false]
      · simp only [if_true]
    · rw [hres, hlock]; rfl

theorem hubCtrlWritten {d : Dev} {w : Word} (hup : d.up = true) (hres : setsReserved R.HUB_CTRL w = false)
    (hlock : d.changesLocked .bar0 R.HUB_CTRL 0 w = false) : HubCtrlWritten d (d.writeHubCtrl w) w.toNat := by
  rw [HubCtrlWritten, Dev.writeHubCtrl_eq hup hres hlock]
  by_cases hbad : (bitOf w.toNat 0 = true ∧ (d.get F.EPM_DIR_COUNT = 0 ∨ d.is F.HUB_CTRL_LOCK = false)) ∨
      (bitOf w.toNat 8 = true ∧ d.is F.HUB_STAT_RWEN = false)
  · rw [if_pos hbad, if_pos hbad]
    exact recordedGlb_recordGlb _ _ _
  rw [if_neg hbad, if_neg hbad]
  obtain ⟨hwake, hen, hfn, honly⟩ := d.hubCtrlShown_is w
  refine ⟨d.hubCtrlShown w, d.hubCtrlCleared w, _, hwake, hen, hfn, honly, ?_, rfl, rfl⟩
  cases h1 : bitOf w.toNat 1
  · rw [if_neg Bool.false_ne_true, Dev.hubCtrlCleared, h1]; rfl
  · rw [if_pos rfl, Dev.hubCtrlCleared, h1, if_pos rfl]
    have hzero {f : Fld} (hf : f ∈ portCounts) : ((d.hubCtrlShown w).zeroed portCounts).get f = 0 := Dev.zeroed_get _ portCounts_apart hf
    refine ⟨fun p hp => ⟨hzero ?_, hzero ?_⟩, fun p hp => hzero ?_, Dev.only_zeroed _ _⟩
    · exact List.mem_append_left _ (List.mem_flatMap.mpr ⟨p, List.mem_range.mpr hp, by simp⟩)
    · exact List.mem_append_left _ (List.mem_flatMap.mpr ⟨p, List.mem_range.mpr hp, by simp⟩)
    · exact List.mem_append_right _ (List.mem_map.mpr ⟨p, List.mem_range.mpr hp, rfl⟩)

/-! ### Suspend and resume (R192 to R194) -/

theorem hubSuspend_is {d : Dev} (hup : d.hubUp = true) (hs : d.is F.HUB_STAT_SUSP = false) (hh : d.phyHeld = false) :
    let e := d.hubSuspend
    e.get F.HUB_STAT_SUSP = 1 ∧ e.get (bitFld 0x400C 1) = 1 ∧
      d.Told { e with hub := d.hub } [F.HUB_STAT_SUSP, bitFld 0x400C 1] ∧ e.hub = { d.hub with port := e.hub.port } ∧
      ∀ p : Fin 9, p.val ≠ 0 → e.hubPort p.val = { d.hubPort p.val with
        np := (d.hubPort p.val).np.filter (·.started), per := (d.hubPort p.val).per.filter (·.started) } := by
  obtain ⟨x, hx⟩ : ∃ x, x = (d.set F.HUB_STAT_SUSP 1).raise (bitFld 0x400C 1) 0x601 [0] 0 0 0 := ⟨_, rfl⟩
  have hplain : PlainFld F.HUB_STAT_SUSP ∧ PlainFld (bitFld 0x400C 1) := ⟨plainFld_of_low (by decide), plainFld_of_low (by decide)⟩
  have hraise := Dev.told_raise (d.set F.HUB_STAT_SUSP 1) (bitFld 0x400C 1) 0x601 [0] 0 0 0 t000_lt
  have htold : d.Told x [F.HUB_STAT_SUSP, bitFld 0x400C 1] := hx ▸ (d.only_set F.HUB_STAT_SUSP 1).told.trans hraise
  have hsusp : x.get F.HUB_STAT_SUSP = 1 := by
    rw [hx, hraise.2 _ hplain.1 (by decide), Dev.get_set_same]
    rfl
  have hint : x.get (bitFld 0x400C 1) = 1 := hx ▸ Dev.raise_get_int _ _ _ _ _ _ hplain.2 t000_lt
  have hdef : d.hubSuspend = [1, 2, 3, 4, 5, 6, 7, 8].foldl (fun d p =>
      d.modHubPort p fun x => { x with np := x.np.filter (·.started), per := x.per.filter (·.started) }) x := by
    rw [Dev.hubSuspend, hup, hs, hh, hx]
    rfl
  have hhub : x.hub = d.hub := by rw [htold.1]
  clear hx hraise
  obtain ⟨m, hm, hport⟩ := Dev.modHubPorts_is (fun x => { x with np := x.np.filter (·.started), per := x.per.filter (·.started) })
    (l := [1, 2, 3, 4, 5, 6, 7, 8]) (by decide) x
  dsimp only
  rw [hdef, hm]
  refine ⟨hsusp, hint, ?_, ?_, fun p hp => ?_⟩
  · have hback : ({ x.withPorts m with hub := d.hub } : Dev) = x := by rw [← hhub]; rfl
    rw [hback]
    exact htold
  · rw [← hhub]; rfl
  · have hold : x.hubPort p.val = d.hubPort p.val := by unfold Dev.hubPort; rw [hhub]
    rw [hport, if_pos (by clear * - hp; revert p; decide), hold]

/-- The end of DOZE holds no PHY and frees none. -/
theorem Dev.rouse_phyHeld (d : Dev) : d.rouse.phyHeld = d.phyHeld := by
  unfold Dev.phyHeld Dev.is
  simp only [Dev.rouse_get]
  rw [Dev.rouse]
  split_ifs with h
  · rw [h]; rfl
  · rfl

/-- The test of resume is read from registers that outputs leave alone. -/
def Dev.resumes (d : Dev) (p : Nat) : Bool := !d.isLocal p && d.st p 1 && !d.st p 2

theorem hubResume_is {d : Dev} (hs : d.is F.HUB_STAT_SUSP = true) (hh : d.phyHeld = false) : ∃ x : Dev,
    d.hubResume = x.raise (bitFld 0x400C 2) 0x602 [0] 0 0 0 ∧ x.get F.HUB_STAT_SUSP = 0 ∧ x.hub = { d.hub with kUp := false } ∧
      x.out = (([1, 2, 3, 4, 5, 6, 7, 8].filter d.resumes).reverse.map fun p => ⟨.usb, p, [5], []⟩) ++ d.out ∧
      d.Only { x with hub := d.hub, out := d.out } [F.HUB_STAT_SUSP] := by
  obtain ⟨y, hy⟩ : ∃ y : Dev, y = (d.set F.HUB_STAT_SUSP 0).withHub { d.hub with kUp := false } d.out := ⟨_, rfl⟩
  have hdef : d.hubResume = ([1, 2, 3, 4, 5, 6, 7, 8].foldl (fun d p => if d.resumes p then d.usbOut p 5 [] else d) y).raise
      (bitFld 0x400C 2) 0x602 [0] 0 0 0 := by
    rw [Dev.hubResume, hs, hh, hy]
    rfl
  have hsel : y.resumes = d.resumes := by
    funext p
    have hget (g : Fld) (hg : fldId F.HUB_STAT_SUSP ≠ fldId g) : y.get g = d.get g := by rw [hy, Dev.withHub_get, Dev.get_set_ne _ _ hg]
    unfold Dev.resumes Dev.isLocal Dev.st Dev.is Dev.bit
    rw [hget _ (by simp only [fldId, F.HUB_STAT_SUSP, F.PRT_STAT_SIDE]; omega), hget _ (by simp only [fldId, F.HUB_STAT_SUSP, F.PRT_STAT_STATUS]; omega)]
  rw [Dev.driveResume_is Dev.resumes (fun _ _ _ => rfl), hsel] at hdef
  refine ⟨_, hdef, ?_, ?_, ?_, ?_⟩ <;> rw [hy]
  · exact Dev.get_set_same ..
  · rfl
  · rfl
  · exact d.only_set _ _

/-- Settles O29: the hub's connection, its suspend and its resume by what each leaves of ports, registers and outputs. -/
theorem hubUpstream : Obligations.HubUpstream := by
  intro s hup
  refine ⟨fun hs => Ends.of_act hup ?_, Ends.of_act hup ?_, Ends.of_act hup ?_, Ends.of_act hup ?_, fun p => Ends.of_act hup ?_, Dev.signalWake_eq,
    fun c i w hc hres hlock => ?_, fun d => ⟨d.only_hubConnect, Dev.hubConnect_hubUp, d.hubLeave_hubUp⟩⟩
  · generalize s.dev = d
    rw [Dev.busReset]
    simp only [Bool.and_eq_true, Bool.not_eq_true']
    by_cases h : d.hubUp = true ∧ d.phyHeld = false
    · rw [if_pos h, if_pos h]
      exact ⟨_, rfl, Dev.setB_is _ _ rfl, Dev.only_setB _ _ _⟩
    · rw [if_neg h, if_neg h]
  · generalize s.dev = d
    have hrouse : d.rouse.hubUp = d.hubUp := by unfold Dev.hubUp Dev.st Dev.bit; rw [Dev.rouse_get]
    rw [Dev.hubDisconnect]
    cases h : d.hubUp
    · rw [if_neg Bool.false_ne_true, hrouse, h]; rfl
    · rw [if_pos rfl, hrouse, h, if_pos rfl, Dev.hubLeave_of_up (hrouse.trans h)]
      exact ⟨_, rfl, Dev.hubLeft_is _⟩
  · generalize s.dev = d
    by_cases h : d.hubUp = true ∧ d.is F.HUB_STAT_SUSP = false ∧ d.phyHeld = false
    · rw [if_pos h]
      exact hubSuspend_is h.1 h.2.1 h.2.2
    · rw [if_neg h, Dev.hubSuspend]
      refine if_neg fun hc => h ?_
      simpa only [Bool.and_eq_true, Bool.not_eq_true', and_assoc] using hc
  · generalize s.dev = d
    have hsusp : d.rouse.is F.HUB_STAT_SUSP = d.is F.HUB_STAT_SUSP := congrArg (· == 1) (d.rouse_get _)
    have hheld := d.rouse_phyHeld
    have hhub : d.rouse.hub = d.hub := by rw [Dev.rouse_eq]
    have hout : d.rouse.out = d.out := by rw [Dev.rouse_eq]
    have hsel : d.rouse.resumes = d.resumes := by
      funext p
      unfold Dev.resumes Dev.isLocal Dev.st Dev.is Dev.bit
      simp only [Dev.rouse_get]
    by_cases h : d.is F.HUB_STAT_SUSP = true ∧ d.phyHeld = false
    · rw [if_pos h]
      have hres := hubResume_is (hsusp.trans h.1) (hheld.trans h.2)
      rw [hhub, hout, hsel] at hres
      exact hres
    · rw [if_neg h, Dev.hubResume, hsusp, hheld]
      refine if_neg fun hc => h ?_
      simpa only [Bool.and_eq_true, Bool.not_eq_true'] using hc
  · by_cases h : p.val ≠ 0 ∧ s.dev.isLocal p.val = false
    · rw [if_pos h]; exact if_pos (by simpa using h)
    · rw [if_neg h]; exact if_neg (by simpa using h)
  · simp only [List.mem_cons, List.not_mem_nil, or_false, Prod.mk.injEq] at hc
    have hwrite := hubCtrlWritten hup hres hlock
    rcases hc with ⟨rfl, rfl⟩ | ⟨rfl, rfl⟩ | ⟨rfl, rfl⟩ <;> exact Ends.of_act hup hwrite

end Sys2Proof.Machine

/-!
SUPPORT. Downstream ports of the hub: reports, events and split transactions (chapter 07).
-/
namespace Sys2Proof.Machine

open Sys2Proof

/-! ### What an event entry in any queue leaves alone -/

/-- From `d` to `e` only the register fields listed, and what an entry in the queue of any tenant or stream changes, have changed. -/
def Dev.Heard (d e : Dev) (fs : List Fld) : Prop :=
  e = { d with fld := e.fld, lar := e.lar, strm := e.strm } ∧ ∀ g : Fld, PlainFld g → (∀ f ∈ fs, fldId f ≠ fldId g) → e.get g = d.get g

theorem Dev.Told.heard {d e : Dev} {fs : List Fld} (h : d.Told e fs) : d.Heard e fs := by
  obtain ⟨heq, hget⟩ := h
  exact ⟨by rw [heq], hget⟩

theorem Dev.Only.heard {d e : Dev} {fs : List Fld} (h : d.Only e fs) : d.Heard e fs := h.told.heard

theorem Dev.Heard.refl (d : Dev) (fs : List Fld) : d.Heard d fs := ⟨rfl, fun _ _ _ => rfl⟩

theorem Dev.Heard.trans {d e x : Dev} {fs gs : List Fld} (h : d.Heard e fs) (k : e.Heard x gs) : d.Heard x (fs ++ gs) := by
  obtain ⟨h1, h2⟩ := h
  obtain ⟨k1, k2⟩ := k
  refine ⟨by rw [k1, h1], fun g hp hg => ?_⟩
  rw [k2 g hp fun f hf => hg f (List.mem_append_right _ hf), h2 g hp fun f hf => hg f (List.mem_append_left _ hf)]

theorem Dev.Heard.step {d e x : Dev} {fs : List Fld} (h : d.Heard e fs) (k : e.Heard x []) : d.Heard x fs := by
  simpa using h.trans k

theorem Dev.Heard.mono {d e : Dev} {fs gs : List Fld} (h : d.Heard e fs) (hs : fs ⊆ gs) : d.Heard e gs :=
  ⟨h.1, fun g hp hg => h.2 g hp fun f hf => hg f (hs hf)⟩

theorem Dev.Heard.keeps {d e : Dev} {fs : List Fld} (h : d.Heard e fs) : d.Keeps e fs := h.2

/-- An entry changes the Larder's part, and no register. -/
theorem Dev.heard_setStream (d : Dev) (q : Nat) (x : Strm) : d.Heard (d.setStream q x) [] := ⟨rfl, fun _ _ _ => rfl⟩

theorem Dev.heard_removeItem (d : Dev) (q j : Nat) : d.Heard (d.removeItem q j) [] := by
  unfold Dev.removeItem
  split
  · exact Dev.Heard.refl _ _
  · split_ifs
    · exact ((((d.told_lar _).step (Dev.told_giveCells _ _)).step (Dev.told_lar _ _)).heard).step (Dev.heard_setStream _ _ _)
    · exact (((d.told_lar _).step (Dev.told_giveCells _ _)).step (Dev.told_lar _ _)).heard

theorem Dev.heard_makeRoom (d : Dev) (q k prio n : Nat) {e : Dev} {m : Nat} (h : d.makeRoom q k prio n = some (e, m)) : d.Heard e [] := by
  induction n generalizing d e m with
  | zero =>
    simp only [Dev.makeRoom] at h
    split_ifs at h
    obtain ⟨rfl, -⟩ := Prod.mk.inj (Option.some.inj h)
    exact Dev.Heard.refl _ _
  | succ n ih =>
    simp only [Dev.makeRoom] at h
    split_ifs at h
    · obtain ⟨rfl, -⟩ := Prod.mk.inj (Option.some.inj h)
      exact Dev.Heard.refl _ _
    · split at h
      · cases h
      · split at h
        · cases h
        · rename_i d' m' hm
          obtain ⟨rfl, -⟩ := Prod.mk.inj (Option.some.inj h)
          exact (d.heard_removeItem q _).step (ih _ hm)

theorem Dev.heard_enqueueN (q : Nat) (data : List Byte) (prio stamp : Nat) (bad : Nat → Bool) (f : Nat) (d : Dev) (m : Nat) :
    d.Heard (Dev.enqueueN q data prio stamp bad f d m).1 [] := by
  induction f generalizing d m with
  | zero => exact (d.told_countLost q (m + 1)).heard
  | succ f ih =>
    simp only [Dev.enqueueN]
    split
    · exact (d.told_countLost q (m + 1)).heard
    · rename_i d1 n hm
      have h1 := d.heard_makeRoom _ _ _ _ hm
      split
      · exact (h1.step (Dev.told_leakBank _ _).heard).step (ih _ _)
      · split
        · exact h1.step (Dev.told_countLost d1 q (m + n + 1)).heard
        · rename_i d2 hp
          exact (h1.step (Dev.told_putItem _ _ _ _ _ _ _ hp).heard).step (Dev.told_countLost d2 q (m + n)).heard

theorem Dev.heard_enqueueAs (d : Dev) (q : Nat) (data : List Byte) (prio stamp : Nat) (bad : Nat → Bool) :
    d.Heard (d.enqueueAs q data prio stamp bad).1 [] := Dev.heard_enqueueN q data prio stamp bad 17 d 0

theorem Dev.heard_notify (d : Dev) (t code inst arg count : Nat) : d.Heard (d.notify t code inst arg count) [] := by
  unfold Dev.notify
  split_ifs
  · exact Dev.Heard.refl _ _
  · exact (d.told_lar _).heard
  · exact d.heard_enqueueAs _ _ _ _ _

theorem Dev.heard_notifyAll (d : Dev) (ts : List Nat) (code inst arg count : Nat) : d.Heard (d.notifyAll ts code inst arg count) [] := by
  induction ts generalizing d with
  | nil => exact Dev.Heard.refl _ _
  | cons t l ih => exact (d.heard_notify t _ _ _ _).step (ih _)

theorem Dev.heard_raise (d : Dev) (int : Fld) (code : Nat) (ts : List Nat) (inst arg count : Nat) :
    d.Heard (d.raise int code ts inst arg count) [int] :=
  (d.only_set int 1).heard.step (Dev.heard_notifyAll _ _ _ _ _ _)

/-- Descriptors that end change the host interface's part alone. -/
theorem Dev.endTkts_eq (d : Dev) (p : Tkt → Bool) (st : Status) : ∃ h, d.endTkts p st = { d with hif := h } := ⟨_, rfl⟩

/-! ### What a port reports (R188, R189, R210) -/

theorem portFlds_apart (p : Nat) : fldId (F.PRT_STAT_STATUS p) ≠ fldId (F.PRT_STAT_CHANGE p) := by
  simp only [fldId, F.PRT_STAT_STATUS, F.PRT_STAT_CHANGE]; omega

theorem Dev.setCh_st (d : Dev) (p q i j : Nat) (b : Bool) : (d.setCh p i b).st q j = d.st q j := by
  unfold Dev.st Dev.bit Dev.setCh
  rw [Dev.setBit_get_ne]
  simp only [fldId, F.PRT_STAT_STATUS, F.PRT_STAT_CHANGE]; omega

theorem Dev.setCh_bit_same (d : Dev) (p : Nat) {i : Nat} (hi : i < 5) (b : Bool) : (d.setCh p i b).bit (F.PRT_STAT_CHANGE p) i = b := by
  rw [Dev.setCh, d.setBit_bit b (f := F.PRT_STAT_CHANGE p) hi hi, if_pos rfl]

theorem Dev.reportConn_eq (d : Dev) (p : Nat) : d.reportConn p =
    if d.isLocal p = false ∧ d.st p 8 = true ∧ (d.hubPort p).dev ≠ 0 ∧ d.is (F.PRT_STAT_FENCED p) = false ∧ d.steering p = false ∧
        d.usbAllowed p = true ∧ d.st p 0 = false then
      ((d.setSt p 0 true).setSt p 9 ((d.hubPort p).dev == 1)).setCh p 0 true
    else d := by
  unfold Dev.reportConn
  simp only [Bool.and_eq_true, Bool.not_eq_true', bne_iff_ne, and_assoc]

/-- The status bits of a connection fall together. -/
theorem Dev.dropConn_is (d : Dev) (p : Nat) : (∀ i ∈ [0, 1, 2, 4, 9, 10], (d.dropConn p).st p i = false) ∧
    (∀ i ∈ [3, 8, 11], (d.dropConn p).st p i = d.st p i) ∧ d.Only (d.dropConn p) [F.PRT_STAT_STATUS p] := by
  have hone (x : Dev) (i j : Nat) (hi : i < 16) (hj : j < 16) : (x.setSt p i false).st p j = (decide (j ≠ i) && x.st p j) := by
    by_cases h : j = i
    · rw [h, Dev.setSt_st_same _ _ _ hi]; simp
    · rw [Dev.setSt_st_ne _ _ _ hi hj h]; simp [h]
  have hall (j : Nat) (hj : j < 16) : (d.dropConn p).st p j = (decide (j ∉ [0, 1, 2, 4, 9, 10]) && d.st p j) := by
    unfold Dev.dropConn
    rw [hone _ _ _ (by decide) hj, hone _ _ _ (by decide) hj, hone _ _ _ (by decide) hj, hone _ _ _ (by decide) hj, hone _ _ _ (by decide) hj,
      hone _ _ _ (by decide) hj]
    by_cases h : j ∈ [0, 1, 2, 4, 9, 10]
    · simp only [List.mem_cons, List.not_mem_nil, or_false] at h
      rcases h with rfl | rfl | rfl | rfl | rfl | rfl <;> simp
    · simp only [List.mem_cons, List.not_mem_nil, or_false, not_or] at h
      simp [h]
  refine ⟨fun i hi => ?_, fun i hi => ?_, ?_⟩
  · rw [hall i (by clear * - hi; revert i; decide), decide_eq_false (not_not.mpr hi), Bool.false_and]
  · have hni : i ∉ [0, 1, 2, 4, 9, 10] := by clear * - hi; revert i; decide
    rw [hall i (by clear * - hi; revert i; decide), decide_eq_true hni, Bool.true_and]
  · unfold Dev.dropConn
    exact ((((((d.only_setSt p 0 false).trans (Dev.only_setSt _ p 1 false)).trans (Dev.only_setSt _ p 2 false)).trans
      (Dev.only_setSt _ p 4 false)).trans (Dev.only_setSt _ p 9 false)).trans (Dev.only_setSt _ p 10 false)).mono (by simp)

theorem portReportsRule : PortReportsRule := by
  intro d p
  obtain ⟨p, hp⟩ := p
  dsimp only
  constructor
  · rw [Dev.reportConn_eq]
    by_cases h : d.isLocal p = false ∧ d.st p 8 = true ∧ (d.hubPort p).dev ≠ 0 ∧ d.is (F.PRT_STAT_FENCED p) = false ∧ d.steering p = false ∧
        d.usbAllowed p = true ∧ d.st p 0 = false
    · rw [if_pos h, if_pos h]
      refine ⟨?_, ?_, Dev.setCh_bit_same _ _ (by decide) _, ?_⟩
      · rw [Dev.setCh_st, Dev.setSt_st_ne _ _ _ (by decide) (by decide) (by decide), Dev.setSt_st_same _ _ _ (by decide)]
      · rw [Dev.setCh_st, Dev.setSt_st_same _ _ _ (by decide)]
      · exact (((d.only_setSt _ _ _).trans (Dev.only_setSt _ _ _ _)).trans (Dev.only_setCh _ _ _ _)).mono (by simp)
    · rw [if_neg h, if_neg h]
  · rw [Dev.reportGone]
    cases d.st p 0
    · rfl
    · rw [if_pos rfl, if_pos rfl]
      obtain ⟨hbits, -, honly⟩ := d.dropConn_is p
      refine ⟨fun i hi => ?_, Dev.setCh_bit_same _ _ (by decide) _, honly.trans (Dev.only_setCh _ _ _ _)⟩
      rw [Dev.setCh_st, hbits i hi]

/-! ### Resume, reset and power of a port (R188, R189, R194, R209, R219) -/

theorem Dev.isLocal_of_only {d e : Dev} {fs : List Fld} (h : d.Only e fs) (p : Nat) (hf : ∀ f ∈ fs, fldId f ≠ fldId (F.PRT_STAT_SIDE p)) :
    e.isLocal p = d.isLocal p := congrArg (· == 1) (h.2 _ hf)

theorem Dev.modHubPort_hubPort_same (d : Dev) (p : Nat) (f : HubPort → HubPort) : (d.modHubPort p f).hubPort p = f (d.hubPort p) :=
  mapGet_put_same _ _ _

theorem Dev.modHubPort_hubPort_ne (d : Dev) {p q : Nat} (f : HubPort → HubPort) (h : q ≠ p) : (d.modHubPort p f).hubPort q = d.hubPort q :=
  mapGet_put_ne _ _ (Ne.symm h)

theorem Dev.hubPort_congr {d e : Dev} (h : e.hub = d.hub) (p : Nat) : e.hubPort p = d.hubPort p := by unfold Dev.hubPort; rw [h]

/-- A port changed: the rest of the hub stands. -/
theorem Dev.modHubPort_is (d : Dev) (p : Nat) (f : HubPort → HubPort) : ∃ k : Hub, d.modHubPort p f = { d with hub := k } ∧
    mapGet {} k.port p = f (d.hubPort p) ∧ (∀ q, q ≠ p → mapGet {} k.port q = d.hubPort q) ∧ k = { d.hub with port := k.port } :=
  ⟨_, rfl, d.modHubPort_hubPort_same p f, fun _ h => d.modHubPort_hubPort_ne f h, rfl⟩

/-- What changes registers alone keeps the hub's part. -/
theorem Dev.Only.forgetHub {d e : Dev} {k : Hub} {fs : List Fld} (h : ({ d with hub := k } : Dev).Only e fs) :
    e.hub = k ∧ d.Only { e with hub := d.hub } fs := by
  obtain ⟨m, rfl⟩ := h.eq_with
  exact ⟨rfl, rfl, h.2⟩

theorem portWake_is (d : Dev) (p : Nat) :
    if d.isLocal p = false ∧ d.st p 2 = true ∧ (d.hubPort p).resume = false ∧ d.phyHeld = false then
      ∃ x : Dev, d.portWake p = x.signalWake ∧ x.out = ⟨.usb, p, [5], []⟩ :: d.out ∧
        x.hubPort p = { d.hubPort p with resume := true } ∧ x = { d with out := x.out, hub := x.hub }
    else d.portWake p = d := by
  rw [Dev.portWake]
  simp only [Bool.and_eq_true, Bool.not_eq_true', and_assoc]
  by_cases h : d.isLocal p = false ∧ d.st p 2 = true ∧ (d.hubPort p).resume = false ∧ d.phyHeld = false
  · rw [if_pos h, if_pos h]
    obtain ⟨k, hk, hport, -⟩ := d.modHubPort_is p fun x => { x with resume := true }
    rw [hk]
    exact ⟨_, rfl, rfl, hport, rfl⟩
  · rw [if_neg h, if_neg h]

theorem portResumeDone_is (d : Dev) (p : Nat) : let e := d.portResumeDone p
    if (d.hubPort p).resume = true then
      e.st p 2 = false ∧ e.bit (F.PRT_STAT_CHANGE p) 2 = true ∧ e.hubPort p = { d.hubPort p with resume := false } ∧
        d.Only { e with hub := d.hub } [F.PRT_STAT_STATUS p, F.PRT_STAT_CHANGE p]
    else e = d := by
  dsimp only
  rw [Dev.portResumeDone]
  by_cases h : (d.hubPort p).resume = true
  · rw [if_pos h, if_pos h]
    obtain ⟨k, hk, hport, -⟩ := d.modHubPort_is p fun x => { x with resume := false }
    rw [hk]
    have honly := (Dev.only_setSt { d with hub := k } p 2 false).trans (Dev.only_setCh _ p 2 true)
    refine ⟨?_, Dev.setCh_bit_same _ _ (by decide) _, ?_, (honly.forgetHub).2⟩
    · rw [Dev.setCh_st, Dev.setSt_st_same _ _ _ (by decide)]
    · rw [Dev.hubPort, honly.forgetHub.1, hport]
  · rw [if_neg h, if_neg h]

theorem portResetDone_is (d : Dev) (q : Nat) : let e := d.portResetDone q
    if q = 0 ∨ d.st q 4 = false then e = d
    else ∃ x : Dev, x.st q 4 = false ∧ x.bit (F.PRT_STAT_CHANGE q) 4 = true ∧ d.Only x [F.PRT_STAT_STATUS q, F.PRT_STAT_CHANGE q] ∧
      if d.st q 0 = false ∨ (q ≠ 9 ∧ d.isLocal q = true) then e = x
      else if q = 9 then
        e.st 9 1 = true ∧ e.st 9 10 = d.is F.HUB_STAT_HS ∧ x.resetFunction.Only e [F.PRT_STAT_STATUS 9]
      else e.st q 1 = true ∧ e.st q 9 = ((d.hubPort q).dev == 1) ∧
        e.st q 10 = ((d.hubPort q).dev == 3 && d.is F.HUB_STAT_HS) ∧ x.Only e [F.PRT_STAT_STATUS q] := by
  dsimp only
  rw [Dev.portResetDone]
  simp only [Bool.not_eq_true']
  by_cases h : q = 0 ∨ d.st q 4 = false
  · rw [if_pos h, if_pos h]
  rw [if_neg h, if_neg h]
  clear h
  obtain ⟨x, hx⟩ : ∃ x, x = (d.setSt q 4 false).setCh q 4 true := ⟨_, rfl⟩
  have honly : d.Only x [F.PRT_STAT_STATUS q, F.PRT_STAT_CHANGE q] := hx ▸ (d.only_setSt _ _ _).trans (Dev.only_setCh _ _ _ _)
  have h4 : x.st q 4 = false := by rw [hx, Dev.setCh_st, Dev.setSt_st_same _ _ _ (by decide)]
  have h0 : x.st q 0 = d.st q 0 := by rw [hx, Dev.setCh_st, Dev.setSt_st_ne _ _ _ (by decide) (by decide) (by decide)]
  have hch : x.bit (F.PRT_STAT_CHANGE q) 4 = true := hx ▸ Dev.setCh_bit_same _ _ (by decide) _
  have hloc : x.isLocal q = d.isLocal q := Dev.isLocal_of_only honly q (by
    simp only [List.mem_cons, List.not_mem_nil, or_false, forall_eq_or_imp, forall_eq, fldId, F.PRT_STAT_STATUS, F.PRT_STAT_CHANGE, F.PRT_STAT_SIDE]
    omega)
  have hhs : x.is F.HUB_STAT_HS = d.is F.HUB_STAT_HS := congrArg (· == 1) (honly.2 _ (by
    simp only [List.mem_cons, List.not_mem_nil, or_false, forall_eq_or_imp, forall_eq, fldId, F.PRT_STAT_STATUS, F.PRT_STAT_CHANGE, F.HUB_STAT_HS]
    omega))
  have hport : x.hubPort q = d.hubPort q := Dev.hubPort_congr (by rw [honly.1]) q
  refine ⟨x, h4, hch, honly, ?_⟩
  rw [← hx]
  clear hx honly hch h4
  rw [hloc, hhs, hport]
  by_cases h9 : q = 9
  · subst h9
    rw [if_pos rfl, h0]
    cases d.st 9 0
    · rw [if_pos (.inl rfl), if_neg Bool.false_ne_true]
    · rw [if_neg (by simp), if_pos rfl, if_pos rfl]
      refine ⟨?_, Dev.setSt_st_same _ _ _ (by decide), ((Dev.only_setSt _ _ _ _).trans (Dev.only_setSt _ _ _ _)).mono (by simp)⟩
      rw [Dev.setSt_st_ne _ _ _ (by decide) (by decide) (by decide), Dev.setSt_st_same _ _ _ (by decide)]
  · rw [if_neg h9, h0]
    by_cases hno : d.st q 0 = false ∨ (q ≠ 9 ∧ d.isLocal q = true)
    · rw [if_pos hno, if_pos]
      rcases hno with h | h <;> simp [h]
    · rw [if_neg hno, if_neg h9, if_neg]
      · refine ⟨?_, ?_, Dev.setSt_st_same _ _ _ (by decide),
          (((Dev.only_setSt _ _ _ _).trans (Dev.only_setSt _ _ _ _)).trans (Dev.only_setSt _ _ _ _)).mono (by simp)⟩
        · rw [Dev.setSt_st_ne _ _ _ (by decide) (by decide) (by decide), Dev.setSt_st_ne _ _ _ (by decide) (by decide) (by decide),
            Dev.setSt_st_same _ _ _ (by decide)]
        · rw [Dev.setSt_st_ne _ _ _ (by decide) (by decide) (by decide), Dev.setSt_st_same _ _ _ (by decide)]
      · rw [not_or, not_and] at hno
        simpa [h9, and_comm] using hno

theorem portPowerGood_is (d : Dev) (p : Nat) : let e := d.portPowerGood p
    if p = 0 ∨ (d.hubPort p).want = false ∨ d.ocOn p = true ∨ d.is (F.PRT_STAT_FENCED p) = true then e = d
    else ∃ x : Dev, x.hubPort p = { d.hubPort p with want := false, pwren := decide (5 ≤ p) } ∧
      if d.isLocal p = true then
        e = (if (d.localPort p).cmd = 5 then x.endCmd p .done else x).reportLocal p ∧
        x.get (F.PRT_LSTAT_POWER (p - 1)) = 1 ∧ d.Only { x with hub := d.hub } [F.PRT_LSTAT_POWER (p - 1)]
      else e = x.reportConn p ∧ x.st p 8 = true ∧ d.Only { x with hub := d.hub } [F.PRT_STAT_STATUS p] := by
  dsimp only
  rw [Dev.portPowerGood]
  simp only [Bool.not_eq_true']
  by_cases h : p = 0 ∨ (d.hubPort p).want = false ∨ d.ocOn p = true ∨ d.is (F.PRT_STAT_FENCED p) = true
  · rw [if_pos h, if_pos h]
  rw [if_neg h, if_neg h]
  obtain ⟨k, hk, hport, -⟩ := d.modHubPort_is p fun x => { x with want := false, pwren := decide (5 ≤ p) }
  rw [hk]
  clear h hk
  cases hloc : d.isLocal p
  · have honly := Dev.only_setSt { d with hub := k } p 8 true
    refine ⟨Dev.setSt { d with hub := k } p 8 true, ?_, ?_⟩
    · rw [Dev.hubPort, honly.forgetHub.1, hport]
    · rw [if_neg Bool.false_ne_true]
      exact ⟨if_neg (by rw [Bool.not_eq_true]; exact hloc), Dev.setSt_st_same _ _ _ (by decide), honly.forgetHub.2⟩
  · have honly := Dev.only_set { d with hub := k } (F.PRT_LSTAT_POWER (p - 1)) 1
    refine ⟨Dev.set { d with hub := k } (F.PRT_LSTAT_POWER (p - 1)) 1, ?_, ?_⟩
    · rw [Dev.hubPort, honly.forgetHub.1, hport]
    · rw [if_pos rfl]
      exact ⟨if_pos hloc, Dev.get_set_same .., honly.forgetHub.2⟩

/-! ### Over-current (R190, R204, R238) -/

/-- The Powered-off state of a hub-path port (R188). -/
theorem Dev.hubPowerOff_is {d : Dev} {p : Nat} (h : d.isLocal p = false) : ∃ k : Hub,
    d.hubPowerOff p = { (d.dropConn p).setSt p 8 false with hub := k } ∧ (mapGet {} k.port p).pwren = false ∧ (mapGet {} k.port p).want = false := by
  rw [Dev.hubPowerOff, h]
  generalize (d.dropConn p).setSt p 8 false = x
  dsimp only
  rw [if_neg Bool.false_ne_true]
  obtain ⟨k1, hk1, -, -, -⟩ := x.modHubPort_is p fun y => { y with np := [], per := [] }
  obtain ⟨k2, hk2, hport, -⟩ := Dev.modHubPort_is { x with hub := k1 } p fun y => { y with pwren := false, want := false, resume := false }
  refine ⟨k2, ?_, by rw [hport], by rw [hport]⟩
  rw [Dev.emptyTt, hk1, hk2]

/-- The count of trips, and the fault event that each owes. -/
def Dev.tripCounted (d : Dev) (p : Nat) : Dev := (d.bump (F.PRT_CNT_OC p)).oweFault (0x200 + p) 17

theorem Dev.tripCounted_is (d : Dev) (p : Nat) : (d.tripCounted p).lar.due = d.lar.due ++ [.fault (0x200 + p) 17] ∧
    (d.tripCounted p).get (F.PRT_CNT_OC p) = satInc 0xFFFF (d.get (F.PRT_CNT_OC p)) % 0x10000 ∧
    (d.tripCounted p).isLocal p = d.isLocal p := by
  refine ⟨rfl, Dev.get_set_same .., ?_⟩
  refine (Dev.isLocal_of_only (d.only_bump (F.PRT_CNT_OC p)) p ?_ : (d.bump (F.PRT_CNT_OC p)).isLocal p = d.isLocal p)
  simp only [List.mem_singleton, forall_eq, fldId, F.PRT_CNT_OC, F.PRT_STAT_SIDE]
  omega

theorem Dev.tripPort_hub {d : Dev} {p : Nat} (h : d.isLocal p = false) : let t := d.tripPort p
    t.st p 3 = true ∧ t.st p 8 = false ∧ t.st p 0 = false ∧ t.bit (F.PRT_STAT_CHANGE p) 3 = true ∧
      (t.hubPort p).pwren = false ∧ (t.hubPort p).want = false ∧
      t.lar.due = d.lar.due ++ [.fault (0x200 + p) 17] ∧ t.get (F.PRT_CNT_OC p) = satInc 0xFFFF (d.get (F.PRT_CNT_OC p)) % 0x10000 := by
  obtain ⟨hdue, hcnt, hloc⟩ := d.tripCounted_is p
  have hdef : d.tripPort p = (((d.tripCounted p).hubPowerOff p).setSt p 3 true).setCh p 3 true := by
    have hside : (d.tripCounted p).isLocal p = false := hloc.trans h
    rw [Dev.tripPort]
    exact if_neg (by rw [Bool.not_eq_true]; exact hside)
  obtain ⟨k, hk, hpw, hwant⟩ := Dev.hubPowerOff_is (hloc.trans h)
  obtain ⟨hdrop, -, honly⟩ := (d.tripCounted p).dropConn_is p
  dsimp only
  rw [hdef, hk]
  generalize d.tripCounted p = x at *
  have hx := honly.trans (Dev.only_setSt (x.dropConn p) p 8 false)
  have h8 : ((x.dropConn p).setSt p 8 false).st p 8 = false := Dev.setSt_st_same _ _ _ (by decide)
  have h0 : ((x.dropConn p).setSt p 8 false).st p 0 = false := by
    rw [Dev.setSt_st_ne _ _ _ (by decide) (by decide) (by decide), hdrop 0 (by simp)]
  generalize (x.dropConn p).setSt p 8 false = y at *
  obtain ⟨m, rfl⟩ := hx.eq_with
  have hz := (Dev.only_setSt { x with fld := m, hub := k } p 3 true).trans (Dev.only_setCh _ p 3 true)
  refine ⟨?_, ?_, ?_, Dev.setCh_bit_same _ _ (by decide) _, ?_, ?_, ?_, ?_⟩
  · rw [Dev.setCh_st, Dev.setSt_st_same _ _ _ (by decide)]
  · rw [Dev.setCh_st, Dev.setSt_st_ne _ _ _ (by decide) (by decide) (by decide)]
    exact h8
  · rw [Dev.setCh_st, Dev.setSt_st_ne _ _ _ (by decide) (by decide) (by decide)]
    exact h0
  · rw [Dev.hubPort, hz.1]; exact hpw
  · rw [Dev.hubPort, hz.1]; exact hwant
  · rw [hz.1]; exact hdue
  · rw [hz.2 _ ?_]
    · refine (hx.2 _ ?_).trans hcnt
      simp only [List.mem_append, List.mem_singleton, or_self, forall_eq, fldId, F.PRT_STAT_STATUS, F.PRT_CNT_OC]
      omega
    · simp only [List.mem_append, List.mem_singleton, forall_eq_or_imp, forall_eq, fldId, F.PRT_STAT_STATUS, F.PRT_STAT_CHANGE, F.PRT_CNT_OC]
      omega

/-- A port command that ends, or none (R218, R219): the port has none in progress, and of the registers RESETTING alone may have changed. -/
theorem Dev.cmdEnded_is (d : Dev) (p : Nat) (st : Status) :
    let e := if (d.localPort p).cmd = 0 then d else d.endCmd p st
    (e.localPort p).cmd = 0 ∧ d.Keeps e [F.PRT_LSTAT_RESETTING (p - 1)] ∧ e.hub = d.hub := by
  by_cases h : (d.localPort p).cmd = 0
  · simp only [h, if_true]
    exact ⟨trivial, Dev.Keeps.refl _ _, trivial⟩
  · simp only [h, if_false]
    refine ⟨congrArg LocalPort.cmd (mapGet_put_same _ _ _), fun g _ hg => ?_, rfl⟩
    exact Dev.get_set_ne _ _ (hg _ (by simp))

/-- What a local port shows of its device, and its power (R238). -/
def powerOffFlds (p : Nat) : List Fld :=
  [F.PRT_LSTAT_CONN (p - 1), F.PRT_LSTAT_ENABLED (p - 1), F.PRT_LSTAT_SUSP (p - 1), F.PRT_LSTAT_SPEED (p - 1), F.PRT_LSTAT_POWER (p - 1)]

theorem powerOffFlds_apart (p : Nat) : (powerOffFlds p).Pairwise fun f g => fldId f ≠ fldId g := by
  simp [powerOffFlds, fldId, F.PRT_LSTAT_CONN, F.PRT_LSTAT_ENABLED, F.PRT_LSTAT_SUSP, F.PRT_LSTAT_SPEED, F.PRT_LSTAT_POWER]

theorem Dev.localPowerOff_is (d : Dev) (p : Nat) : ∃ k : Hub, ∃ h, d.localPowerOff p =
    { d.zeroed (powerOffFlds p) with hif := h, hub := k } ∧ (mapGet {} k.port p).pwren = false ∧ (mapGet {} k.port p).want = false := by
  obtain ⟨h, hh⟩ := d.endTkts_eq (fun tk => (d.ctxsOn p).any fun c => isXfer c tk) .eLink
  rw [Dev.localPowerOff, hh]
  obtain ⟨k, hk, hport, -⟩ := Dev.modHubPort_is { d.zeroed (powerOffFlds p) with hif := h } p fun x => { x with pwren := false, want := false }
  exact ⟨k, h, hk, by rw [hport], by rw [hport]⟩

theorem Dev.tripPort_local {d : Dev} {p : Nat} (hp : p < 9) (h : d.isLocal p = true) : let t := d.tripPort p
    t.get (F.PRT_LSTAT_POWER (p - 1)) = 0 ∧ t.get (F.PRT_LSTAT_CONN (p - 1)) = 0 ∧ (t.hubPort p).pwren = false ∧
      (t.hubPort p).want = false ∧ (t.localPort p).cmd = 0 ∧
      t.get (F.PRT_CNT_OC p) = satInc 0xFFFF (d.get (F.PRT_CNT_OC p)) % 0x10000 := by
  obtain ⟨-, hcnt, hloc⟩ := d.tripCounted_is p
  obtain ⟨x, hx⟩ : ∃ x, x = if ((d.tripCounted p).localPort p).cmd = 0 then d.tripCounted p else (d.tripCounted p).endCmd p .eLink := ⟨_, rfl⟩
  obtain ⟨hcmd, hkeep, -⟩ := (d.tripCounted p).cmdEnded_is p .eLink
  rw [← hx] at hcmd hkeep
  have hdef : d.tripPort p = if (x.localPowerOff p).parked p then x.localPowerOff p
      else (x.localPowerOff p).notify ((x.localPowerOff p).portOwner p) 0x0700 p 0 0 := by
    have hside : (d.tripCounted p).isLocal p = true := hloc.trans h
    rw [Dev.tripPort, hx]
    exact if_pos hside
  obtain ⟨k, hif, hoff, hpw, hwant⟩ := x.localPowerOff_is p
  have hlow (g : Fld) (hg : g ∈ [F.PRT_LSTAT_POWER (p - 1), F.PRT_LSTAT_CONN (p - 1), F.PRT_CNT_OC p]) : PlainFld g := by
    refine plainFld_of_low ?_
    simp only [List.mem_cons, List.not_mem_nil, or_false] at hg
    rcases hg with rfl | rfl | rfl <;> simp only [fldId, F.PRT_LSTAT_POWER, F.PRT_LSTAT_CONN, F.PRT_CNT_OC] <;> omega
  have hheard : (x.localPowerOff p).Heard (d.tripPort p) [] := by
    rw [hdef]
    split_ifs
    · exact Dev.Heard.refl _ _
    · exact Dev.heard_notify _ _ _ _ _ _
  rw [hoff] at hheard
  dsimp only
  generalize d.tripPort p = t at *
  have hzero {f : Fld} (hf : f ∈ powerOffFlds p) : (x.zeroed (powerOffFlds p)).get f = 0 := Dev.zeroed_get _ (powerOffFlds_apart p) hf
  have honly := x.only_zeroed (powerOffFlds p)
  have hread (g : Fld) (hg : g ∈ [F.PRT_LSTAT_POWER (p - 1), F.PRT_LSTAT_CONN (p - 1), F.PRT_CNT_OC p]) :
      t.get g = (x.zeroed (powerOffFlds p)).get g := hheard.2 g (hlow g hg) (by simp)
  refine ⟨?_, ?_, ?_, ?_, ?_, ?_⟩
  · rw [hread _ (by simp), hzero (by simp [powerOffFlds])]
  · rw [hread _ (by simp), hzero (by simp [powerOffFlds])]
  · rw [Dev.hubPort, hheard.1]; exact hpw
  · rw [Dev.hubPort, hheard.1]; exact hwant
  · rw [Dev.localPort, hheard.1]
    show (mapGet {} (x.zeroed (powerOffFlds p)).lhe.port p).cmd = 0
    rw [honly.1]
    exact hcmd
  · rw [hread _ (by simp), honly.2 _ ?_, hkeep _ (hlow _ (by simp)) ?_, hcnt]
    · simp only [List.mem_singleton, forall_eq, fldId, F.PRT_LSTAT_RESETTING, F.PRT_CNT_OC]; omega
    · simp only [powerOffFlds, List.mem_cons, List.not_mem_nil, or_false, forall_eq_or_imp, forall_eq, fldId, F.PRT_LSTAT_CONN,
        F.PRT_LSTAT_ENABLED, F.PRT_LSTAT_SUSP, F.PRT_LSTAT_SPEED, F.PRT_LSTAT_POWER, F.PRT_CNT_OC]
      omega

/-- Who shares an over-current input is set by OCGANG alone (R204). -/
theorem Dev.gangMembers_congr {d e : Dev} (h : e.get F.HUB_CFG_OCGANG = d.get F.HUB_CFG_OCGANG) (p : Nat) : e.gangMembers p = d.gangMembers p := by
  have hin : e.inGang = d.inGang := by
    funext q
    unfold Dev.inGang Dev.bit
    rw [h]
  unfold Dev.gangMembers
  rw [hin]

theorem Dev.overCurrent_is (d : Dev) (p : Nat) :
    if p = 0 then d.overCurrent p = d
    else ∃ x : Dev, d.overCurrent p = ((d.gangMembers p).foldl Dev.tripPort x).raise (bitFld 0x400C 3) 0x603 [0] p 0 0 ∧
      x.get (F.PRT_LSTAT_OC (p - 1)) = 1 ∧ d.Only x [F.PRT_LSTAT_OC (p - 1)] := by
  rw [Dev.overCurrent]
  by_cases h : p = 0
  · rw [if_pos h, if_pos h]
  · rw [if_neg h, if_neg h]
    have honly := d.only_set (F.PRT_LSTAT_OC (p - 1)) 1
    have hgang : (d.set (F.PRT_LSTAT_OC (p - 1)) 1).gangMembers p = d.gangMembers p :=
      Dev.gangMembers_congr (honly.2 _ (by simp only [List.mem_singleton, forall_eq, fldId, F.PRT_LSTAT_OC, F.HUB_CFG_OCGANG]; omega)) p
    rw [← hgang]
    exact ⟨_, rfl, Dev.get_set_same .., honly⟩

/-- A port whose over-current input is deasserted, as its power follows what was asked for (R190). -/
def Dev.poweredAsAsked (d : Dev) (m : Nat) : HubPort :=
  if (d.hubPort m).want then { d.hubPort m with pwren := if d.is (F.PRT_STAT_FENCED m) then (d.hubPort m).pwren else decide (5 ≤ m) }
  else d.hubPort m

/-- What the end of an over-current does to one port of the gang (R190). -/
def Dev.clearTrip (d : Dev) (m : Nat) : Dev :=
  if d.ocOn m then d
  else
    let e := d.setSt m 3 false
    if (e.hubPort m).want then e.powerUp m else e

/-- The over-current inputs and gangs are read from registers that the end of a trip leaves alone. -/
theorem Dev.ocOn_congr {d e : Dev} (hg : e.get F.HUB_CFG_OCGANG = d.get F.HUB_CFG_OCGANG)
    (ho : ∀ q, e.get (F.PRT_LSTAT_OC q) = d.get (F.PRT_LSTAT_OC q)) (m : Nat) : e.ocOn m = d.ocOn m := by
  unfold Dev.ocOn Dev.is
  rw [Dev.gangMembers_congr hg]
  simp only [ho]

theorem status_ne_ocgang (m : Nat) : fldId (F.PRT_STAT_STATUS m) ≠ fldId F.HUB_CFG_OCGANG := by
  simp only [fldId, F.PRT_STAT_STATUS, F.HUB_CFG_OCGANG]; omega

theorem status_ne_oc (m q : Nat) : fldId (F.PRT_STAT_STATUS m) ≠ fldId (F.PRT_LSTAT_OC q) := by
  simp only [fldId, F.PRT_STAT_STATUS, F.PRT_LSTAT_OC]; omega

theorem status_ne_fenced (m q : Nat) : fldId (F.PRT_STAT_STATUS m) ≠ fldId (F.PRT_STAT_FENCED q) := by
  simp only [fldId, F.PRT_STAT_STATUS, F.PRT_STAT_FENCED]; omega

theorem Dev.clearTrip_is {d : Dev} {m : Nat} (h : d.ocOn m = false) : ∃ k : Hub, d.clearTrip m = { d.setSt m 3 false with hub := k } ∧
    mapGet {} k.port m = d.poweredAsAsked m ∧ (∀ q, q ≠ m → mapGet {} k.port q = d.hubPort q) ∧ k = { d.hub with port := k.port } := by
  have honly := d.only_setSt m 3 false
  have hoc : (d.setSt m 3 false).ocOn m = false :=
    (Dev.ocOn_congr (honly.2 _ (by simpa using status_ne_ocgang m)) (fun q => honly.2 _ (by simpa using status_ne_oc m q)) m).trans h
  have hfen : (d.setSt m 3 false).is (F.PRT_STAT_FENCED m) = d.is (F.PRT_STAT_FENCED m) :=
    congrArg (· == 1) (honly.2 _ (by simpa using status_ne_fenced m m))
  have hhub : (d.setSt m 3 false).hub = d.hub := by rw [honly.1]
  rw [Dev.clearTrip, h, Dev.poweredAsAsked, ← hfen, ← hhub, ← Dev.hubPort_congr hhub m]
  have hother (q : Nat) : d.hubPort q = (d.setSt m 3 false).hubPort q := (Dev.hubPort_congr hhub q).symm
  simp only [hother]
  clear hother hfen honly hhub
  generalize d.setSt m 3 false = x at *
  rw [if_neg Bool.false_ne_true]
  by_cases hw : (x.hubPort m).want = true
  · rw [if_pos hw, if_pos hw, Dev.powerUp, hoc, Bool.false_or]
    split_ifs with hf
    · obtain ⟨k, hk, hport, hrest, hfr⟩ := x.modHubPort_is m fun y => { y with want := true }
      exact ⟨k, hk, by rw [hport, ← hw], hrest, hfr⟩
    · obtain ⟨k, hk, hport, hrest, hfr⟩ := x.modHubPort_is m fun y => { y with want := true, pwren := decide (5 ≤ m) }
      exact ⟨k, hk, by rw [hport, ← hw], hrest, hfr⟩
  · rw [if_neg hw, if_neg hw]
    exact ⟨x.hub, rfl, rfl, fun _ _ => rfl, rfl⟩

theorem Dev.Only.transHub {d e x : Dev} {fs gs : List Fld} (h : d.Only { e with hub := d.hub } fs) (k : e.Only { x with hub := e.hub } gs) :
    d.Only { x with hub := d.hub } (fs ++ gs) := by
  obtain ⟨h1, h2⟩ := h
  obtain ⟨k1, k2⟩ := k
  refine ⟨?_, fun g hg => ?_⟩
  · have hx : ({ x with hub := d.hub } : Dev) = { e with fld := x.fld, hub := d.hub } := congrArg (fun z : Dev => { z with hub := d.hub }) k1
    have he : ({ e with fld := x.fld, hub := d.hub } : Dev) = { d with fld := x.fld } := congrArg (fun z : Dev => { z with fld := x.fld }) h1
    exact hx.trans he
  · exact (k2 g fun f hf => hg f (List.mem_append_right _ hf)).trans (h2 g fun f hf => hg f (List.mem_append_left _ hf))

/-- The end of a trip in a gang of which no over-current input is asserted. -/
theorem Dev.clearTrips_is {l : List Nat} (hl : l.Nodup) {d : Dev} (h : ∀ m ∈ l, d.ocOn m = false) : let e := l.foldl Dev.clearTrip d
    (∀ m ∈ l, e.st m 3 = false ∧ e.hubPort m = d.poweredAsAsked m) ∧ (∀ m, m ∉ l → e.hubPort m = d.hubPort m ∧ e.st m 3 = d.st m 3) ∧
      d.Only { e with hub := d.hub } (l.map F.PRT_STAT_STATUS) ∧ e.hub = { d.hub with port := e.hub.port } := by
  induction l generalizing d with
  | nil => exact ⟨fun m hm => absurd hm List.not_mem_nil, fun m _ => ⟨rfl, rfl⟩, Dev.Only.refl _ _, rfl⟩
  | cons q t ih =>
    obtain ⟨hq, ht⟩ := List.nodup_cons.mp hl
    obtain ⟨k, hk, hself, hrest, hfr⟩ := Dev.clearTrip_is (h q List.mem_cons_self)
    have honly := d.only_setSt q 3 false
    have hst (m : Nat) (hm : m ≠ q) : (d.setSt q 3 false).st m 3 = d.st m 3 := by
      unfold Dev.st Dev.bit
      rw [honly.2 _ (by simp only [List.mem_singleton, forall_eq, fldId, F.PRT_STAT_STATUS]; omega)]
    have hoc (m : Nat) (hm : m ∈ t) : (d.clearTrip q).ocOn m = false := by
      rw [hk]
      refine (Dev.ocOn_congr (d := d) (honly.2 _ (by simpa using status_ne_ocgang q))
        (fun i => honly.2 _ (by simpa using status_ne_oc q i)) m).trans (h m (List.mem_cons_of_mem _ hm))
    have hpow (m : Nat) (hm : m ≠ q) : (d.clearTrip q).poweredAsAsked m = d.poweredAsAsked m := by
      have hp : (d.clearTrip q).hubPort m = d.hubPort m := by rw [hk]; exact hrest m hm
      have hf : (d.clearTrip q).is (F.PRT_STAT_FENCED m) = d.is (F.PRT_STAT_FENCED m) := by
        rw [hk]
        exact congrArg (· == 1) (honly.2 _ (by simpa using status_ne_fenced q m))
      rw [Dev.poweredAsAsked, hp, hf]
      rfl
    obtain ⟨ihin, ihout, ihonly, ihhub⟩ := ih ht hoc
    rw [List.foldl_cons]
    dsimp only at ihin ihout ihonly ihhub ⊢
    generalize t.foldl Dev.clearTrip (d.clearTrip q) = e at *
    refine ⟨fun m hm => ?_, fun m hm => ?_, ?_, ?_⟩
    · rcases List.mem_cons.mp hm with rfl | hmt
      · obtain ⟨hp, hs⟩ := ihout m hq
        rw [hp, hs, hk]
        exact ⟨Dev.setSt_st_same _ _ _ (by decide), hself⟩
      · obtain ⟨hs, hp⟩ := ihin m hmt
        exact ⟨hs, hp.trans (hpow m fun he => hq (he ▸ hmt))⟩
    · rw [List.mem_cons, not_or] at hm
      obtain ⟨hmq, hmt⟩ := hm
      obtain ⟨hp, hs⟩ := ihout m hmt
      rw [hp, hs, hk]
      exact ⟨hrest m hmq, hst m hmq⟩
    · have hfirst : d.Only { d.clearTrip q with hub := d.hub } [F.PRT_STAT_STATUS q] := by
        rw [hk]
        obtain ⟨m, hm⟩ := honly.eq_with
        rw [hm] at honly ⊢
        exact honly
      exact hfirst.transHub ihonly
    · rw [ihhub, hk]
      show ({ k with port := e.hub.port } : Hub) = _
      rw [hfr]

theorem Dev.gangMembers_nodup (d : Dev) (p : Nat) : (d.gangMembers p).Nodup := by
  unfold Dev.gangMembers
  split_ifs
  · exact List.Nodup.filter _ (by decide)
  · exact List.nodup_singleton p

/-- The members of a gang share its over-current inputs. -/
theorem Dev.ocOn_member {d : Dev} {p m : Nat} (h : m ∈ d.gangMembers p) : d.ocOn m = d.ocOn p := by
  have hsame : d.gangMembers m = d.gangMembers p := by
    unfold Dev.gangMembers at h ⊢
    by_cases hp : d.inGang p = true
    · rw [if_pos hp] at h ⊢
      rw [if_pos (List.mem_filter.mp h).2]
    · rw [if_neg hp, List.mem_singleton] at h
      rw [h]
  unfold Dev.ocOn
  rw [hsame]

theorem Dev.clearTrips_on {l : List Nat} {d : Dev} (h : ∀ m ∈ l, d.ocOn m = true) : l.foldl Dev.clearTrip d = d := by
  induction l with
  | nil => rfl
  | cons q t ih =>
    have hq : d.clearTrip q = d := by rw [Dev.clearTrip, h q List.mem_cons_self]; rfl
    rw [List.foldl_cons, hq]
    exact ih fun m hm => h m (List.mem_cons_of_mem _ hm)

theorem overCurrentClear_is {d : Dev} {p : Nat} (hp : p ≠ 0) : let e := d.overCurrentClear p
    ∃ x : Dev, x.get (F.PRT_LSTAT_OC (p - 1)) = 0 ∧ d.Only x [F.PRT_LSTAT_OC (p - 1)] ∧
      if x.ocOn p = true then e = x
      else (∀ m ∈ d.gangMembers p, e.st m 3 = false ∧ e.hubPort m =
          if (d.hubPort m).want then
            { d.hubPort m with pwren := if d.is (F.PRT_STAT_FENCED m) then (d.hubPort m).pwren else decide (5 ≤ m) }
          else d.hubPort m) ∧
        (∀ m, m ∉ d.gangMembers p → e.hubPort m = d.hubPort m) ∧
        x.Only { e with hub := x.hub } ((d.gangMembers p).map F.PRT_STAT_STATUS) ∧ e.hub = { d.hub with port := e.hub.port } := by
  obtain ⟨x, hx⟩ : ∃ x, x = d.set (F.PRT_LSTAT_OC (p - 1)) 0 := ⟨_, rfl⟩
  have honly : d.Only x [F.PRT_LSTAT_OC (p - 1)] := hx ▸ d.only_set _ _
  have hzero : x.get (F.PRT_LSTAT_OC (p - 1)) = 0 := by rw [hx, Dev.get_set_same]; rfl
  have hgang : x.gangMembers p = d.gangMembers p :=
    Dev.gangMembers_congr (honly.2 _ (by simp only [List.mem_singleton, forall_eq, fldId, F.PRT_LSTAT_OC, F.HUB_CFG_OCGANG]; omega)) p
  have hdef : d.overCurrentClear p = (d.gangMembers p).foldl Dev.clearTrip x := by
    rw [Dev.overCurrentClear, if_neg hp, ← hgang, hx]
    rfl
  have hhub : x.hub = d.hub := by rw [honly.1]
  have hpow (m : Nat) : x.poweredAsAsked m = d.poweredAsAsked m := by
    have hf : x.is (F.PRT_STAT_FENCED m) = d.is (F.PRT_STAT_FENCED m) :=
      congrArg (· == 1) (honly.2 _ (by simp only [List.mem_singleton, forall_eq, fldId, F.PRT_LSTAT_OC, F.PRT_STAT_FENCED]; omega))
    rw [Dev.poweredAsAsked, Dev.hubPort_congr hhub, hf]
    rfl
  clear hx
  dsimp only
  refine ⟨x, hzero, honly, ?_⟩
  rw [hdef]
  by_cases hon : x.ocOn p = true
  · rw [if_pos hon]
    exact Dev.clearTrips_on fun m hm => (Dev.ocOn_member (hgang.symm ▸ hm)).trans hon
  · rw [if_neg hon]
    rw [Bool.not_eq_true] at hon
    obtain ⟨hin, hout, hall, hrest⟩ := Dev.clearTrips_is (d.gangMembers_nodup p) fun m hm => (Dev.ocOn_member (hgang.symm ▸ hm)).trans hon
    rw [hhub] at hall hrest ⊢
    refine ⟨fun m hm => ?_, fun m hm => (hout m hm).1.trans (Dev.hubPort_congr hhub m), hall, hrest⟩
    obtain ⟨hs, hport⟩ := hin m hm
    exact ⟨hs, hport.trans (hpow m)⟩

theorem connectChange_is (d : Dev) (p v : Nat) :
    if p = 0 ∨ d.isLocal p = true ∨ d.phyHeld = true then d.connectChange p v = d
    else ∃ x : Dev, x.hubPort p = { d.hubPort p with dev := v, resume := false } ∧ x = { d with hub := x.hub } ∧
      (∀ m, m ≠ p → x.hubPort m = d.hubPort m) ∧ d.connectChange p v = if v = 0 then (x.emptyTt p).reportGone p else x.reportConn p := by
  rw [Dev.connectChange]
  by_cases h : p = 0 ∨ d.isLocal p = true ∨ d.phyHeld = true
  · rw [if_pos h, if_pos h]
  · rw [if_neg h, if_neg h]
    obtain ⟨k, hk, hport, hrest, -⟩ := d.modHubPort_is p fun x => { x with dev := v, resume := false }
    rw [hk]
    exact ⟨{ d with hub := k }, hport, rfl, hrest, rfl⟩

theorem portBabble_is (d : Dev) (p : Nat) :
    if p = 0 ∨ d.isLocal p = true ∨ d.st p 1 = false then d.portBabble p = d
    else ∃ x : Dev, x.st p 1 = false ∧ x.bit (F.PRT_STAT_CHANGE p) 1 = true ∧
      x.get (F.PRT_CNT_BABBLE p) = satInc 0xFFFF (d.get (F.PRT_CNT_BABBLE p)) % 0x10000 ∧
      d.Only x [F.PRT_STAT_STATUS p, F.PRT_STAT_CHANGE p, F.PRT_CNT_BABBLE p] ∧
      d.portBabble p = if d.phyHeld then x else x.fault (0x200 + p) 18 := by
  rw [Dev.portBabble]
  simp only [Bool.not_eq_true']
  by_cases h : p = 0 ∨ d.isLocal p = true ∨ d.st p 1 = false
  · rw [if_pos h, if_pos h]
  rw [if_neg h, if_neg h]
  obtain ⟨x, hx⟩ : ∃ x, x = ((d.setSt p 1 false).setCh p 1 true).bump (F.PRT_CNT_BABBLE p) := ⟨_, rfl⟩
  have hstch := (d.only_setSt p 1 false).trans (Dev.only_setCh _ p 1 true)
  have hcount (g : Fld) (hg : g = F.PRT_STAT_STATUS p ∨ g = F.PRT_STAT_CHANGE p) : x.get g = ((d.setSt p 1 false).setCh p 1 true).get g := by
    rw [hx]
    refine Dev.bump_get_ne _ ?_
    rcases hg with rfl | rfl <;> simp only [fldId, F.PRT_CNT_BABBLE, F.PRT_STAT_STATUS, F.PRT_STAT_CHANGE] <;> omega
  have honly : d.Only x [F.PRT_STAT_STATUS p, F.PRT_STAT_CHANGE p, F.PRT_CNT_BABBLE p] := hx ▸ hstch.trans (Dev.only_bump _ _)
  have hheld : x.phyHeld = d.phyHeld := by
    have hp : x.pow = d.pow := by rw [honly.1]
    have hf : x.fuse = d.fuse := by rw [honly.1]
    have hg (g : Fld) (hlow : fldId g < 32 * 0x4100) : x.get g = d.get g := honly.2 g (by
      simp only [List.mem_cons, List.not_mem_nil, or_false, forall_eq_or_imp, forall_eq]
      simp only [fldId, F.PRT_STAT_STATUS, F.PRT_STAT_CHANGE, F.PRT_CNT_BABBLE] at hlow ⊢
      omega)
    unfold Dev.phyHeld Dev.is
    rw [hp, hf, hg _ (by decide), hg _ (by decide), hg _ (by decide)]
  refine ⟨x, ?_, ?_, ?_, honly, ?_⟩
  · rw [Dev.st, Dev.bit, hcount _ (.inl rfl)]
    refine (Dev.setCh_st _ p p 1 1 true).trans (Dev.setSt_st_same _ _ _ (by decide))
  · rw [Dev.bit, hcount _ (.inr rfl)]
    exact Dev.setCh_bit_same _ _ (by decide) _
  · rw [hx, Dev.bump, Dev.get_set_same, hstch.2 _ (by
      simp only [List.mem_append, List.mem_singleton, forall_eq_or_imp, forall_eq, fldId, F.PRT_STAT_STATUS, F.PRT_STAT_CHANGE, F.PRT_CNT_BABBLE]
      omega)]
    rfl
  · rw [← hheld, hx]

theorem portEventsRule : PortEventsRule := by
  intro s p hup
  have hrl (q : Nat) : s.dev.rouse.isLocal q = s.dev.isLocal q := congrArg (· == 1) (s.dev.rouse_get _)
  have hhub : s.dev.rouse.hub = s.dev.hub := by rw [Dev.rouse_eq]
  have hout : s.dev.rouse.out = s.dev.out := by rw [Dev.rouse_eq]
  refine ⟨Ends.of_act hup ?_, Ends.of_act hup (portResumeDone_is _ _), fun q => Ends.of_act hup (portResetDone_is _ _),
    Ends.of_act hup (portPowerGood_is _ _), Ends.of_act hup (Dev.overCurrent_is _ _), fun _ d => ⟨Dev.tripPort_hub, Dev.tripPort_local p.isLt⟩,
    Ends.of_act hup ?_, fun v => Ends.of_act hup ?_, Ends.of_act hup (portBabble_is _ _)⟩
  · have hst : s.dev.rouse.st p.val 2 = s.dev.st p.val 2 := by unfold Dev.st Dev.bit; rw [Dev.rouse_get]
    have hport : s.dev.rouse.hubPort p.val = s.dev.hubPort p.val := Dev.hubPort_congr hhub _
    have hwake := portWake_is s.dev.rouse p.val
    rw [hrl, hst, hport, Dev.rouse_phyHeld, hout] at hwake
    by_cases h0 : p.val = 0
    · rw [if_neg (fun h => h.1 h0)]
      exact if_pos h0
    · simp only [ne_eq, h0, not_false_eq_true, true_and, if_false]
      exact hwake
  · by_cases h0 : p.val = 0
    · rw [if_pos h0, h0]; rfl
    · rw [if_neg h0]
      exact overCurrentClear_is h0
  · have hcon := connectChange_is s.dev.rouse p.val v.val
    simp only [hrl, Dev.rouse_phyHeld, Dev.hubPort_congr hhub] at hcon
    exact hcon

/-! ### Split transactions and endpoint 1 (R185, R191, R192, R216) -/

/-- A port of the hub given a state, after which something is put out. -/
def Dev.ttAnswer (d : Dev) (q : Nat) (x : HubPort) (o : List Out) : Dev :=
  { d with hub := { d.hub with port := mapPut {} d.hub.port q x }, out := o ++ d.out }

theorem Dev.ttAnswer_is (d : Dev) (q : Nat) (x : HubPort) (o : List Out) : let e := d.ttAnswer q x o
    e.hubPort q = x ∧ e.out = o ++ d.out ∧ e = { d with hub := { d.hub with port := e.hub.port }, out := e.out } ∧
      ∀ m, m ≠ q → e.hubPort m = d.hubPort m :=
  ⟨mapGet_put_same _ _ _, rfl, rfl, fun _ h => mapGet_put_ne _ _ (Ne.symm h)⟩

theorem Dev.ttAnswer_modHubPort (d : Dev) (q : Nat) (x : HubPort) (f : HubPort → HubPort) :
    (d.ttAnswer q x []).modHubPort q f = d.ttAnswer q (f x) [] := by
  have hself : (d.ttAnswer q x []).hubPort q = x := mapGet_put_same _ _ _
  rw [Dev.modHubPort, hself]
  unfold Dev.ttAnswer
  dsimp only
  rw [mapPut_put_same]

theorem Dev.ttAnswer_usbOut (d : Dev) (q : Nat) (x : HubPort) (what : Nat) (data : List Byte) :
    (d.ttAnswer q x []).usbOut 0 what data = d.ttAnswer q x [⟨.usb, 0, [what], data⟩] := rfl

/-- A start-split at the translator that its port uses (R191). -/
theorem Dev.ttTake_is (d : Dev) (q : Nat) (x : HubPort) (periodic : Bool) (b : TtBuf) : (d.ttAnswer q x []).ttTake q periodic b =
    if periodic = true then
      if x.pipeLoad b.frame + b.cost ≤ 1500 then d.ttAnswer q { x with per := x.per ++ [{ b with started := x.per.isEmpty }] } []
      else d.ttAnswer q x []
    else if (x.np.any fun c => c.dev == b.dev && c.ep == b.ep && c.inn == b.inn) = true then d.ttAnswer q x [⟨.usb, 0, [1], []⟩]
    else if x.np.length < 2 then d.ttAnswer q { x with np := x.np ++ [{ b with started := x.np.isEmpty }] } [⟨.usb, 0, [1], []⟩]
    else d.ttAnswer q x [⟨.usb, 0, [2], []⟩] := by
  have hself : (d.ttAnswer q x []).hubPort q = x := mapGet_put_same _ _ _
  rw [Dev.ttTake, hself]
  simp only [Dev.ttAnswer_modHubPort, Dev.ttAnswer_usbOut]

/-- What a complete-split answers, from what the transaction downstream has come to (R191). -/
def splitAnswer (resp : Nat) (l : List Byte) : Out :=
  ⟨.usb, 0, [match resp with | 1 => 1 | 2 => 2 | 3 => 4 | _ => 0], if resp = 4 then l else []⟩

/-- A translator as a split transaction of frame `f` finds it (R191). -/
def HubPort.begun (x : HubPort) (f : Nat) : HubPort := { x with per := startFirst (x.pipe f), np := startFirst x.np }

/-- The buffers that hold the transaction of the same endpoint. -/
def TtBuf.same (b c : TtBuf) : Bool := c.dev == b.dev && c.ep == b.ep && c.inn == b.inn

theorem Dev.split_eq (d : Dev) (p : Nat) (start : Bool) (kind : Nat) (b : TtBuf) (resp : Nat) (l : List Byte) :
    d.split p start kind b resp l =
      if p = 0 ∨ d.hubSof p = false ∨ d.steering p = true then d
      else
        let q := d.ttPort p
        let x := (d.hubPort q).begun b.frame
        if start = true then
          (d.ttAnswer q x []).ttTake q (kind == 1 || kind == 3) { b with cost := ttCost ((d.hubPort p).dev == 1) kind l.length }
        else if kind = 1 ∨ kind = 3 then
          if x.per.any b.same = false then d.ttAnswer q x [⟨.usb, 0, [3], []⟩]
          else if resp = 0 then d.ttAnswer q x [⟨.usb, 0, [3], []⟩]
          else d.ttAnswer q { x with per := x.per.eraseIdx (x.per.findIdx b.same) } [splitAnswer resp l]
        else if x.np.any b.same = false then d.ttAnswer q x [⟨.usb, 0, [4], []⟩]
        else if resp = 0 then d.ttAnswer q x [⟨.usb, 0, [3], []⟩]
        else d.ttAnswer q { x with np := x.np.filter fun c => !b.same c } [splitAnswer resp l] := by
  unfold Dev.split
  simp only [Bool.not_eq_true']
  refine ite_congr rfl (fun _ => rfl) fun _ => ?_
  obtain ⟨q, hq⟩ : ∃ q, q = d.ttPort p := ⟨_, rfl⟩
  obtain ⟨x, hx⟩ : ∃ x, x = (d.hubPort q).begun b.frame := ⟨_, rfl⟩
  have hmod : d.modHubPort q (fun y => { y with per := startFirst (y.pipe b.frame), np := startFirst y.np }) = d.ttAnswer q x [] := by rw [hx]; rfl
  have hself : (d.ttAnswer q x []).hubPort q = x := mapGet_put_same _ _ _
  have hdev : ((d.ttAnswer q x []).hubPort p).dev = (d.hubPort p).dev := by
    by_cases h : p = q
    · rw [h, hself, hx]; rfl
    · rw [(d.ttAnswer_is q x []).2.2.2 p h]
  have hsame : (fun c : TtBuf => c.dev == b.dev && c.ep == b.ep && c.inn == b.inn) = b.same := rfl
  rw [← hq, ← hx, hmod, hdev, hself, hsame]
  clear hmod hself hdev hx hq hsame
  refine ite_congr rfl (fun _ => rfl) fun _ => ?_
  have hkind : (kind == 1 || kind == 3) = decide (kind = 1 ∨ kind = 3) := by rw [Bool.eq_iff_iff]; simp
  have hwhat : (if resp = 1 then 1 else if resp = 2 then 2 else if resp = 3 then 4 else 0) = (match resp with | 1 => 1 | 2 => 2 | 3 => 4 | _ => 0) := by
    match resp with
    | 0 => rfl
    | 1 => rfl
    | 2 => rfl
    | 3 => rfl
    | n + 4 => simp
  rw [hkind, hwhat]
  by_cases hk : kind = 1 ∨ kind = 3
  · rw [decide_eq_true hk, if_pos hk]
    simp only [if_true, Dev.ttAnswer_modHubPort, Dev.ttAnswer_usbOut]
    rfl
  · rw [decide_eq_false hk, if_neg hk]
    simp only [Bool.false_eq_true, if_false, Dev.ttAnswer_modHubPort, Dev.ttAnswer_usbOut]
    rfl

theorem splitsRule : SplitsRule := by
  intro s hup
  refine ⟨fun p start k a ep inn resp fr l => Ends.of_act hup ?_, Ends.of_act hup ?_⟩ <;> generalize s.dev = d
  · obtain ⟨b, hb⟩ : ∃ b : TtBuf, b = ⟨a.val, ep.val, inn, false, fr.toNat, 0⟩ := ⟨_, rfl⟩
    have hframe : b.frame = fr.toNat := by rw [hb]
    have hhere : (fun c : TtBuf => c.dev == a.val && c.ep == ep.val && c.inn == inn) = b.same := by rw [hb]; rfl
    have hanswer := d.ttAnswer_is (d.ttPort p.val)
    dsimp only
    rw [← hb, Dev.split_eq, hhere, hframe]
    unfold HubPort.begun
    dsimp only
    generalize startFirst ((d.hubPort (d.ttPort p.val)).pipe fr.toNat) = per, startFirst (d.hubPort (d.ttPort p.val)).np = np
    by_cases h0 : p.val = 0 ∨ d.hubSof p.val = false ∨ d.steering p.val = true
    · rw [if_pos h0, if_pos h0]
    rw [if_neg h0, if_neg h0]
    clear h0
    have hkind : (k.val == 1 || k.val == 3) = decide (k.val = 1 ∨ k.val = 3) := by rw [Bool.eq_iff_iff]; simp
    cases start
    case true =>
      subst hb
      rw [if_pos rfl, if_pos rfl, Dev.ttTake_is, hkind]
      dsimp only
      by_cases hk : k.val = 1 ∨ k.val = 3
      · simp only [hk, decide_true, if_true]
        by_cases hroom : HubPort.pipeLoad { d.hubPort (d.ttPort p.val) with per := per, np := np } fr.toNat + ttCost ((d.hubPort p.val).dev == 1) k.val l.length ≤ 1500
        · rw [if_pos hroom, if_pos hroom]
          exact hanswer _ _
        · rw [if_neg hroom, if_neg hroom]
          exact hanswer _ _
      · simp only [hk, decide_false, Bool.false_eq_true, if_false, hhere]
        by_cases hany : np.any (TtBuf.same ⟨a.val, ep.val, inn, false, fr.toNat, 0⟩) = true
        · rw [if_pos hany, if_pos hany]
          exact hanswer _ _
        rw [if_neg hany, if_neg hany]
        by_cases hlen : np.length < 2
        · rw [if_pos hlen, if_pos hlen]
          exact hanswer _ _
        · rw [if_neg hlen, if_neg hlen]
          exact hanswer _ _
    case false =>
      clear hkind hframe
      rw [if_neg Bool.false_ne_true, if_neg Bool.false_ne_true]
      by_cases hk : k.val = 1 ∨ k.val = 3
      · rw [if_pos hk, if_pos hk]
        by_cases hany : per.any b.same = false
        · rw [if_pos (.inl hany), if_pos hany]
          exact hanswer _ _
        rw [if_neg hany]
        by_cases hres : resp.val = 0
        · rw [if_pos (.inr hres), if_pos hres]
          exact hanswer _ _
        · rw [if_neg (by rw [not_or]; exact ⟨hany, hres⟩), if_neg hres]
          exact hanswer _ _
      · rw [if_neg hk, if_neg hk]
        by_cases hany : np.any b.same = false
        · rw [if_pos hany, if_pos hany]
          exact hanswer _ _
        rw [if_neg hany, if_neg hany]
        by_cases hres : resp.val = 0
        · rw [if_pos hres, if_pos hres]
          exact hanswer _ _
        · rw [if_neg hres, if_neg hres]
          subst hb
          exact hanswer _ _
  · rw [Dev.statusChangeIn]
    simp only [Bool.or_eq_true, Bool.not_eq_true']
    by_cases h1 : d.hubLive = false ∨ d.is F.HUB_STAT_CFG = false
    · rw [if_pos h1, if_pos h1]
    rw [if_neg h1, if_neg h1]
    by_cases h2 : d.is (F.EPM_SLOT_HALT 1) = true
    · rw [if_pos h2, if_pos h2]; rfl
    rw [if_neg h2, if_neg h2]
    by_cases h3 : d.changeMap = 0
    · rw [if_pos h3, if_pos h3]; rfl
    rw [if_neg h3, if_neg h3]
    exact ⟨Dev.get_set_same .., Dev.only_set _ _ _⟩

/-- Settles O30: the reports of a port, what each event does to it, and the answers of its translator. -/
theorem hubPorts : Obligations.HubPorts := ⟨portReportsRule, portEventsRule, splitsRule⟩

end Sys2Proof.Machine

/-!
SUPPORT. Local ports, local transactions and local micro-frames (chapter 08).
-/
namespace Sys2Proof.Machine

open Sys2Proof

/-! ### What closing a context leaves alone -/

/-- From `d` to `e` the registers below the ports' tables, the power states and the fuses have not changed. -/
def Dev.KeepsLow (d e : Dev) : Prop :=
  e.pow = d.pow ∧ e.fuse = d.fuse ∧ ∀ g : Fld, fldId g < 32 * 0x4100 → e.get g = d.get g

theorem Dev.KeepsLow.refl (d : Dev) : d.KeepsLow d := ⟨rfl, rfl, fun _ _ => rfl⟩

theorem Dev.KeepsLow.trans {d e x : Dev} (h : d.KeepsLow e) (k : e.KeepsLow x) : d.KeepsLow x := by
  obtain ⟨h1, h2, h3⟩ := h
  obtain ⟨k1, k2, k3⟩ := k
  exact ⟨k1.trans h1, k2.trans h2, fun g hg => (k3 g hg).trans (h3 g hg)⟩

theorem Dev.KeepsLow.phyHeld {d e : Dev} (h : d.KeepsLow e) : e.phyHeld = d.phyHeld := by
  obtain ⟨hpow, hfuse, hget⟩ := h
  simp only [Dev.phyHeld, Dev.is, hpow, hfuse, hget F.SUP_STAT_PHYHOLD (by decide), hget F.SUP_XTSTAT_BACKUP (by decide),
    hget F.SUP_STAT_STAGE (by decide)]

theorem Dev.Heard.keepsLow {d e : Dev} {fs : List Fld} (h : d.Heard e fs) (hf : ∀ f ∈ fs, 32 * 0x4100 ≤ fldId f) : d.KeepsLow e := by
  obtain ⟨heq, hget⟩ := h
  exact ⟨by rw [heq], by rw [heq], fun g hg =>
    hget g (plainFld_of_low (hg.trans (by decide))) fun f hm hne => by have := hf f hm; omega⟩

theorem Dev.keepsLow_set (d : Dev) {f : Fld} (v : Nat) (h : 32 * 0x4100 ≤ fldId f) : d.KeepsLow (d.set f v) :=
  (Dev.only_set d f v).heard.keepsLow (by simpa using h)

theorem Dev.keepsLow_foldl {α : Type} {f : Dev → α → Dev} (hf : ∀ (d : Dev) (a : α), d.KeepsLow (f d a)) (l : List α) (d : Dev) :
    d.KeepsLow (l.foldl f d) := by
  induction l generalizing d with
  | nil => exact Dev.KeepsLow.refl d
  | cons a l ih => exact (hf d a).trans (ih (f d a))

theorem Dev.keepsLow_notify (d : Dev) (t code inst arg count : Nat) : d.KeepsLow (d.notify t code inst arg count) :=
  (d.heard_notify t code inst arg count).keepsLow (by simp)

theorem Dev.keepsLow_sourceLost (d : Dev) (s : Nat) (dead : Bool) : d.KeepsLow (d.sourceLost s dead) := by
  unfold Dev.sourceLost
  by_cases hb : d.strBound s = true
  · simp only [hb, Bool.not_true, if_false, Bool.false_eq_true]
    split_ifs
    · exact ⟨rfl, rfl, fun _ _ => rfl⟩
    · exact Dev.KeepsLow.trans ⟨rfl, rfl, fun _ _ => rfl⟩ (Dev.keepsLow_notify _ _ _ _ _ _)
  · simp only [hb, Bool.not_false, if_true]
    exact Dev.KeepsLow.refl d

theorem Dev.heard_cellGiven (d : Dev) (q : Nat) (l : List Item) (c o v : Nat) :
    d.Heard (((d.setItems q l).giveCell c).setCharge o v) [] :=
  (((d.told_lar _).step (Dev.told_giveCell _ _)).step (Dev.told_lar _ _)).heard

theorem Dev.heard_dropHeadCell (d : Dev) (q : Nat) : d.Heard (d.dropHeadCell q) [] := by
  unfold Dev.dropHeadCell
  split
  · exact Dev.Heard.refl _ _
  · split
    · exact (d.told_lar _).heard
    · have h := d.heard_cellGiven q
      by_cases hq : (512 ≤ q && q < 768) = true
      · rw [if_pos hq]
        exact (h _ _ _ _).step (Dev.heard_setStream _ _ _)
      · rw [if_neg hq]
        exact h _ _ _ _

theorem Dev.heard_trimTo (d : Dev) (q m n : Nat) : d.Heard (d.trimTo q m n) [] := by
  induction n generalizing d m with
  | zero => exact Dev.Heard.refl _ _
  | succ n ih =>
    unfold Dev.trimTo
    split
    · exact Dev.Heard.refl _ _
    · simp only
      split_ifs
      · exact (d.heard_dropHeadCell q).step (ih _ _)
      · exact Dev.Heard.refl _ _

theorem Dev.heard_trimStream (d : Dev) (s : Nat) : d.Heard (d.trimStream s) [] := by
  unfold Dev.trimStream
  split
  · exact Dev.Heard.refl _ _
  · exact d.heard_trimTo _ _ _

theorem Dev.endBufs_eq (d : Dev) (c : Nat) (st : Status) : ∃ h, d.endBufs c st = { d with hif := h } := by
  unfold Dev.endBufs
  split_ifs <;> exact ⟨_, rfl⟩

theorem Dev.endSinkBuf_eq (d : Dev) (s i : Nat) (st : Status) : ∃ h, d.endSinkBuf s i st = { d with hif := h } := by
  unfold Dev.endSinkBuf
  simp only
  split
  · exact ⟨_, rfl⟩
  · split_ifs
    · obtain ⟨h, hh⟩ := Dev.endBufs_eq (d.finish _ st _ _) (d.sinkCode s i) st
      exact ⟨h, hh⟩
    · exact Dev.endBufs_eq _ _ _
    · exact ⟨_, rfl⟩

theorem Dev.keepsLow_removeSink (d : Dev) (s i : Nat) : d.KeepsLow (d.removeSink s i) := by
  have h1 : d.KeepsLow (d.usbRelease (d.get (sownFld s i)) (d.sink s i).charge) :=
    d.keepsLow_set _ (by simp only [fldId, F.TEN_USEUSB_USED]; omega)
  have h2 := h1.trans (Dev.keepsLow_set _ (f := sinkFld s i) 0 (by simp only [fldId, sinkFld]; omega))
  have h3 := h2.trans (Dev.keepsLow_set _ (f := sownFld s i) 0 (by simp only [fldId, sownFld]; omega))
  exact h3.trans (((Dev.heard_setStream _ _ _).step (Dev.heard_trimStream _ _)).keepsLow (by simp))

theorem Dev.keepsLow_sinkLost (d : Dev) (s i : Nat) : d.KeepsLow (d.sinkLost s i) := by
  obtain ⟨h, hh⟩ := d.endSinkBuf_eq s i .eFlushed
  have h1 : d.KeepsLow (d.endSinkBuf s i .eFlushed) := by
    rw [hh]
    exact ⟨rfl, rfl, fun _ _ => rfl⟩
  exact (h1.trans (Dev.keepsLow_removeSink _ s i)).trans (Dev.keepsLow_notify _ _ _ _ _ _)

theorem Dev.keepsLow_loseSources (d : Dev) (p : Nat → Bool) (dead : Bool) : d.KeepsLow (d.loseSources p dead) :=
  Dev.keepsLow_foldl (fun e s => e.keepsLow_sourceLost s dead) _ d

theorem Dev.keepsLow_loseSinks (d : Dev) (p : Nat → Bool) : d.KeepsLow (d.loseSinks p) := by
  unfold Dev.loseSinks
  refine Dev.keepsLow_foldl (fun e s => ?_) _ d
  have h (x : Dev) (k : Nat × SinkPos) : x.KeepsLow (x.sinkLost s k.1) := x.keepsLow_sinkLost s k.1
  exact Dev.keepsLow_foldl h _ e

theorem Dev.keepsLow_showPeak (d : Dev) (p : Nat) : d.KeepsLow (d.showPeak p) :=
  d.keepsLow_set _ (by simp only [fldId, F.PRT_PLOAD_PEAK]; omega)

theorem Dev.keepsLow_closeCtx (d : Dev) (c : Nat) (st : Status) : d.KeepsLow (d.closeCtx c st) := by
  unfold Dev.closeCtx
  split_ifs
  · exact Dev.KeepsLow.refl d
  · have h1 : d.KeepsLow ((d.endTkts (isXfer c) st).usbRelease (d.get (F.LHE_CTXW0_OWNER c)) (d.ctx c).charge) :=
      Dev.KeepsLow.trans ⟨rfl, rfl, fun _ _ => rfl⟩ (Dev.keepsLow_set _ _ (by simp only [fldId, F.TEN_USEUSB_USED]; omega))
    have h2 := (h1.trans (Dev.keepsLow_loseSources _ (lheCode c) true)).trans (Dev.keepsLow_loseSinks _ (lheCode c))
    simp only
    generalize (Dev.loseSinks _ _) = x at h2 ⊢
    have h3 : x.KeepsLow (x.resetRange (0x5400 + 8 * c) (0x5408 + 8 * c)) := by
      refine ⟨rfl, rfl, fun g hg => ?_⟩
      rw [Dev.resetRange_get, if_pos (Or.inl (by omega))]
    have h4 : x.KeepsLow ((x.resetRange (0x5400 + 8 * c) (0x5408 + 8 * c)).setCtx c {}) := h3.trans ⟨rfl, rfl, fun _ _ => rfl⟩
    exact (h2.trans (h4.trans (Dev.keepsLow_set _ _ (by decide)))).trans (Dev.keepsLow_showPeak _ _)

theorem Dev.keepsLow_closePortCtxs (d : Dev) (p : Nat) (st : Status) : d.KeepsLow (d.closePortCtxs p st) :=
  Dev.keepsLow_foldl (fun e c => e.keepsLow_closeCtx c st) _ d

/-! ### Local ports (R219, R238, R241, R242) -/

theorem Dev.finish_eq (d : Dev) (tk : Tkt) (st : Status) (r0 r1 : Nat) : ∃ h, d.finish tk st r0 r1 = { d with hif := h } := ⟨_, rfl⟩

/-- Another part of the local host engine and other descriptors under way. -/
def Dev.withLocal (d : Dev) (l : Lhe) (h : Hif) : Dev := { d with lhe := l, hif := h }

@[simp] theorem Dev.withLocal_get (d : Dev) (l : Lhe) (h : Hif) (g : Fld) : (d.withLocal l h).get g = d.get g := rfl

@[simp] theorem Dev.withLocal_lhe (d : Dev) (l : Lhe) (h : Hif) : (d.withLocal l h).lhe = l := rfl

/-- A change of registers alone, seen apart from the local host engine and the descriptors. -/
theorem Dev.Only.apartLocal {d x : Dev} {fs : List Fld} (h : d.Only x fs) (l : Lhe) (k : Hif) :
    d.Only { x.withLocal l k with lhe := d.lhe, hif := d.hif } fs := by
  obtain ⟨m, rfl⟩ := h.eq_with
  exact ⟨rfl, h.2⟩

theorem Dev.finishAll_eq (l : List Tkt) (st : Status) (r0 r1 : Nat) (d : Dev) :
    ∃ h, l.foldl (fun d tk => d.finish tk st r0 r1) d = d.withLocal d.lhe h := by
  induction l generalizing d with
  | nil => exact ⟨d.hif, rfl⟩
  | cons tk l ih =>
    obtain ⟨h, hh⟩ := ih (d.finish tk st r0 r1)
    exact ⟨h, hh⟩

/-- What a reset of local port `p` shows of a device of speed `v`. -/
def resetShown (p v : Nat) : List (Fld × Nat) :=
  [(F.PRT_LSTAT_ENABLED (p - 1), bitNat (v != 0)), (F.PRT_LSTAT_SPEED (p - 1), v), (F.PRT_LSTAT_RESETTING (p - 1), 0)]

theorem resetShown_apart (p v : Nat) : ((resetShown p v).map Prod.fst).Pairwise fun f g => fldId f ≠ fldId g := by
  simp [resetShown, fldId, F.PRT_LSTAT_ENABLED, F.PRT_LSTAT_SPEED, F.PRT_LSTAT_RESETTING]

theorem localResetDone_is (d : Dev) (p : Nat) : let e := d.localResetDone p
    if p = 0 ∨ (d.localPort p).cmd ≠ 1 then e = d
    else
      let v := if d.is (F.PRT_LSTAT_CONN (p - 1)) then (d.hubPort p).dev else 0
      e.is (F.PRT_LSTAT_ENABLED (p - 1)) = (v != 0) ∧ e.get (F.PRT_LSTAT_SPEED (p - 1)) = v % 4 ∧
      e.get (F.PRT_LSTAT_RESETTING (p - 1)) = 0 ∧ (e.localPort p).cmd = 0 ∧ d.Only { e with lhe := d.lhe, hif := d.hif }
        [F.PRT_LSTAT_ENABLED (p - 1), F.PRT_LSTAT_SPEED (p - 1), F.PRT_LSTAT_RESETTING (p - 1)] := by
  by_cases h : p = 0 ∨ (d.localPort p).cmd ≠ 1
  · simp only [if_pos h]
    exact if_pos h
  · simp only [if_neg h]
    obtain ⟨v, hv⟩ : ∃ v, v = if d.is (F.PRT_LSTAT_CONN (p - 1)) then (d.hubPort p).dev else 0 := ⟨_, rfl⟩
    obtain ⟨x, hx⟩ : ∃ x, x = d.setAll (resetShown p v) := ⟨_, rfl⟩
    have hget {f : Fld} {n : Nat} := d.setAll_get (l := resetShown p v) (f := f) (v := n) (resetShown_apart p v)
    have honly := d.only_setAll (resetShown p v)
    rw [← hx] at hget honly
    obtain ⟨y, hy⟩ : ∃ y, y = x.modLocal p fun y => { y with cmd := 0 } := ⟨_, rfl⟩
    obtain ⟨hif, hh⟩ := Dev.finishAll_eq (y.live (isPortcmd p)) .done v 0 y
    have hdef : d.localResetDone p = x.withLocal y.lhe hif := by
      rw [Dev.localResetDone, if_neg h, ← hv]
      simp only
      have hy' : y = ((((d.setB (F.PRT_LSTAT_ENABLED (p - 1)) (v != 0)).set (F.PRT_LSTAT_SPEED (p - 1)) v).set
          (F.PRT_LSTAT_RESETTING (p - 1)) 0).modLocal p fun y => { y with cmd := 0 }) := by rw [hy, hx]; rfl
      rw [← hy', hh, hy]
      rfl
    rw [← hv, hdef]
    refine ⟨?_, hget (f := F.PRT_LSTAT_SPEED (p - 1)) (n := v) (by simp [resetShown]),
      hget (f := F.PRT_LSTAT_RESETTING (p - 1)) (n := 0) (by simp [resetShown]), ?_, honly.apartLocal y.lhe hif⟩
    · have := hget (f := F.PRT_LSTAT_ENABLED (p - 1)) (n := bitNat (v != 0)) (by simp [resetShown])
      rw [Dev.is, Dev.withLocal_get, this]
      cases (v != 0) <;> rfl
    · rw [Dev.localPort, Dev.withLocal_lhe, hy]
      exact congrArg LocalPort.cmd (mapGet_put_same _ _ _)

theorem localResumeDone_is (d : Dev) (p : Nat) : let e := d.localResumeDone p
    if p = 0 ∨ (d.localPort p).resume = false then e = d
    else e.get (F.PRT_LSTAT_SUSP (p - 1)) = 0 ∧ (e.localPort p).resume = false ∧
      d.Only { e with lhe := d.lhe, hif := d.hif } [F.PRT_LSTAT_SUSP (p - 1), F.PRT_LSTAT_RESETTING (p - 1)] := by
  unfold Dev.localResumeDone
  simp only [Bool.not_eq_true']
  by_cases h : p = 0 ∨ (d.localPort p).resume = false
  · simp only [if_pos h]
  · simp only [if_neg h]
    have hne : fldId (F.PRT_LSTAT_RESETTING (p - 1)) ≠ fldId (F.PRT_LSTAT_SUSP (p - 1)) := by
      simp [fldId, F.PRT_LSTAT_RESETTING, F.PRT_LSTAT_SUSP]
    have h0 : (d.set (F.PRT_LSTAT_SUSP (p - 1)) 0).get (F.PRT_LSTAT_SUSP (p - 1)) = 0 := Dev.get_set_same _ _ _
    have h1 := d.only_set (F.PRT_LSTAT_SUSP (p - 1)) 0
    split_ifs
    · have h2 := h1.trans (Dev.only_set _ (F.PRT_LSTAT_RESETTING (p - 1)) 0)
      exact ⟨(Dev.get_set_ne _ 0 hne).trans h0, congrArg LocalPort.resume (mapGet_put_same _ _ _), h2.apartLocal _ _⟩
    · exact ⟨h0, congrArg LocalPort.resume (mapGet_put_same _ _ _), (h1.mono (by simp)).apartLocal _ d.hif⟩

theorem localWake_is (d : Dev) (p : Nat) :
    if p ≠ 0 ∧ d.isLocal p = true ∧ d.is (F.PRT_LSTAT_SUSP (p - 1)) = true ∧ (d.localPort p).resume = false ∧ d.phyHeld = false ∧
        d.is (F.PRT_STAT_FENCED p) = false then
      ∃ x : Dev, d.localWake p = x.raise F.LHE_INT_RESUME 0x802 (if d.parked p then [] else [d.portOwner p]) p 0 0 ∧
        x.localPort p = { d.localPort p with resume := true } ∧ x.out = ⟨.usb, p, [5], []⟩ :: d.out ∧
        x = { d with out := x.out, lhe := x.lhe }
    else d.localWake p = d := by
  unfold Dev.localWake
  simp only [Bool.and_eq_true, Bool.not_eq_true', decide_eq_true_eq, and_assoc]
  by_cases h : p ≠ 0 ∧ d.isLocal p = true ∧ d.is (F.PRT_LSTAT_SUSP (p - 1)) = true ∧ (d.localPort p).resume = false ∧ d.phyHeld = false ∧
      d.is (F.PRT_STAT_FENCED p) = false
  · rw [if_pos h, if_pos h]
    refine ⟨(d.modLocal p fun x => { x with resume := true }).usbOut p 5 [], ?_, mapGet_put_same _ _ _, rfl, rfl⟩
    have hl : (if d.isLocal p && !d.parked p then [d.portOwner p] else []) = if d.parked p then [] else [d.portOwner p] := by
      rw [h.2.1]
      cases d.parked p <;> rfl
    rw [← hl]
    rfl
  · rw [if_neg h, if_neg h]

theorem localAttach_is (d : Dev) (p v : Nat) :
    if p = 0 ∨ d.isLocal p = false ∨ d.phyHeld = true ∨ v = 0 then d.localAttach p v = d
    else ∃ x : Dev, (x.hubPort p).dev = v ∧ x = { d with hub := x.hub } ∧ d.localAttach p v = x.reportLocal p := by
  unfold Dev.localAttach
  simp only [Bool.not_eq_true']
  split_ifs
  · rfl
  · exact ⟨_, by rw [Dev.modHubPort_hubPort_same], rfl, rfl⟩

theorem reportLocal_is (d : Dev) (p : Nat) :
    if d.isLocal p = true ∧ d.parked p = false ∧ d.is (F.PRT_STAT_FENCED p) = false ∧ d.steering p = false ∧
        (d.hubPort p).dev ≠ 0 ∧ d.is (F.PRT_LSTAT_POWER (p - 1)) = true ∧ d.usbAllowed p = true ∧
        d.is (F.PRT_LSTAT_CONN (p - 1)) = false then
      ∃ x : Dev, d.reportLocal p = x.raise F.LHE_INT_ATTACH 0x800 [d.portOwner p] p 0 0 ∧
        x.get (F.PRT_LSTAT_CONN (p - 1)) = 1 ∧ d.Only x [F.PRT_LSTAT_CONN (p - 1)]
    else d.reportLocal p = d := by
  unfold Dev.reportLocal
  simp only [Bool.and_eq_true, Bool.not_eq_true', bne_iff_ne, and_assoc]
  by_cases h : d.isLocal p = true ∧ d.parked p = false ∧ d.is (F.PRT_STAT_FENCED p) = false ∧ d.steering p = false ∧
      (d.hubPort p).dev ≠ 0 ∧ d.is (F.PRT_LSTAT_POWER (p - 1)) = true ∧ d.usbAllowed p = true ∧
      d.is (F.PRT_LSTAT_CONN (p - 1)) = false
  · rw [if_pos h, if_pos h]
    refine ⟨d.set (F.PRT_LSTAT_CONN (p - 1)) 1, ?_, Dev.get_set_same _ _ _, d.only_set _ _⟩
    have hside : (d.set (F.PRT_LSTAT_CONN (p - 1)) 1).isLocal p = true := by
      rw [Dev.isLocal_of_only (d.only_set _ 1) p (by simp only [List.mem_singleton, forall_eq, fldId, F.PRT_LSTAT_CONN, F.PRT_STAT_SIDE]; omega)]
      exact h.1
    have hpark : (d.set (F.PRT_LSTAT_CONN (p - 1)) 1).parked p = false := by
      rw [← h.2.1]
      exact congrArg (· == 1) (Dev.get_set_ne _ _ (by simp [fldId, F.PRT_LSTAT_CONN, F.PRT_LSTAT_PARKED]))
    have hown : (d.set (F.PRT_LSTAT_CONN (p - 1)) 1).portOwner p = d.portOwner p :=
      Dev.get_set_ne _ _ (by simp [fldId, F.PRT_LSTAT_CONN, F.PRT_LSTAT_OWNER])
    rw [Dev.lheEvent, hside, hpark, hown]
    rfl
  · rw [if_neg h, if_neg h]

/-- The interrupt bit of an event that has been raised to any tenants is set. -/
theorem Dev.raise_sets (d : Dev) {int : Fld} (code : Nat) (ts : List Nat) (inst arg count : Nat) (hint : PlainFld int) :
    (d.raise int code ts inst arg count).get int = 1 % 2 ^ int.w :=
  ((Dev.heard_notifyAll _ ts _ _ _ _).2 int hint (by simp)).trans (Dev.get_set_same ..)

/-- What a device's going leaves a local port (R241), and its event. -/
def Dev.gone (d : Dev) (p : Nat) : Dev := (d.localGone p .eLink).lheEvent 1 p p 0

theorem Dev.gone_is (d : Dev) {p : Nat} (hp : p < 9) : (d.gone p).get (F.PRT_LSTAT_CONN (p - 1)) = 0 ∧
    (d.gone p).get (F.PRT_LSTAT_ENABLED (p - 1)) = 0 ∧ (d.gone p).get F.LHE_INT_DETACH = 1 ∧ (d.gone p).phyHeld = d.phyHeld := by
  obtain ⟨x, hx⟩ : ∃ x, x = (d.endCmd p .eLink).closePortCtxs p .eLink := ⟨_, rfl⟩
  have hgone : d.gone p = (x.clearLocal p).lheEvent 1 p p 0 := by rw [hx]; rfl
  obtain ⟨y, hy⟩ : ∃ y, y = x.zeroed [F.PRT_LSTAT_CONN (p - 1), F.PRT_LSTAT_ENABLED (p - 1), F.PRT_LSTAT_SUSP (p - 1),
    F.PRT_LSTAT_SPEED (p - 1)] := ⟨_, rfl⟩
  have hclear : x.clearLocal p = y := hy.symm ▸ rfl
  rw [hclear, Dev.lheEvent] at hgone
  have hheard := y.heard_raise (bitFld 0x5008 1) 0x801 (if y.isLocal p && !y.parked p then [y.portOwner p] else []) p 0 0
  have hint := y.raise_sets (int := bitFld 0x5008 1) 0x801 (if y.isLocal p && !y.parked p then [y.portOwner p] else []) p 0 0
    (plainFld_of_low (by decide))
  rw [show 0x800 + 1 = 0x801 from rfl] at hgone
  rw [← hgone] at hheard hint
  have hzero {f : Fld} (hf : f ∈ [F.PRT_LSTAT_CONN (p - 1), F.PRT_LSTAT_ENABLED (p - 1), F.PRT_LSTAT_SUSP (p - 1), F.PRT_LSTAT_SPEED (p - 1)]) :
      y.get f = 0 := by
    rw [hy]
    exact x.zeroed_get (by simp [fldId, F.PRT_LSTAT_CONN, F.PRT_LSTAT_ENABLED, F.PRT_LSTAT_SUSP, F.PRT_LSTAT_SPEED]) hf
  have hread {f : Fld} (hf : f ∈ [F.PRT_LSTAT_CONN (p - 1), F.PRT_LSTAT_ENABLED (p - 1)]) : (d.gone p).get f = 0 := by
    simp only [List.mem_cons, List.not_mem_nil, or_false] at hf
    have hid : fldId f < 32 * 0x5A10 ∧ fldId (bitFld 0x5008 1) ≠ fldId f := by
      clear * - hf hp
      rcases hf with rfl | rfl <;> simp only [fldId, bitFld, F.PRT_LSTAT_CONN, F.PRT_LSTAT_ENABLED] <;> omega
    rw [hheard.2 f (plainFld_of_low hid.1) (by simpa using hid.2)]
    exact hzero (by rcases hf with rfl | rfl <;> simp)
  have hkeep : d.KeepsLow y := by
    have h1 : d.KeepsLow (d.endCmd p .eLink) :=
      Dev.KeepsLow.trans (e := (d.endTkts (isPortcmd p) .eLink).set (F.PRT_LSTAT_RESETTING (p - 1)) 0)
        (Dev.KeepsLow.trans (e := d.endTkts (isPortcmd p) .eLink) ⟨rfl, rfl, fun _ _ => rfl⟩
          (Dev.keepsLow_set _ 0 (by simp only [fldId, F.PRT_LSTAT_RESETTING]; omega))) ⟨rfl, rfl, fun _ _ => rfl⟩
    have h2 := h1.trans (Dev.keepsLow_closePortCtxs _ p .eLink)
    rw [← hx] at h2
    rw [hy]
    refine h2.trans ((x.only_zeroed _).heard.keepsLow ?_)
    simp only [List.mem_cons, List.not_mem_nil, or_false, forall_eq_or_imp, forall_eq, fldId, F.PRT_LSTAT_CONN, F.PRT_LSTAT_ENABLED,
      F.PRT_LSTAT_SUSP, F.PRT_LSTAT_SPEED]
    omega
  exact ⟨hread (by simp), hread (by simp), hint, (hkeep.trans (hheard.keepsLow (by decide))).phyHeld⟩

theorem localDetach_is (d : Dev) {p : Nat} (hp : p < 9) :
    if p = 0 ∨ d.isLocal p = false then d.localDetach p false = d
    else let e := d.localDetach p false
      (e.hubPort p) = { (d.gone p).hubPort p with dev := 0 } ∧ e = { d.gone p with hub := e.hub } ∧
        e.get (F.PRT_LSTAT_CONN (p - 1)) = 0 ∧ e.get (F.PRT_LSTAT_ENABLED (p - 1)) = 0 ∧ e.get F.LHE_INT_DETACH = 1 := by
  by_cases h : p = 0 ∨ d.isLocal p = false
  · rw [if_pos h]
    exact if_pos (by simpa using h)
  · rw [if_neg h]
    have hdef : d.localDetach p false = (d.gone p).modHubPort p fun x => { x with dev := 0 } := by
      rw [Dev.localDetach, if_neg (by simpa using h), Dev.gone]
      simp only [Bool.false_eq_true, if_false]
    obtain ⟨hconn, hen, hint, -⟩ := d.gone_is hp
    rw [hdef]
    generalize d.gone p = x at *
    exact ⟨Dev.modHubPort_hubPort_same _ _ _, rfl, hconn, hen, hint⟩

theorem localBabble_is (d : Dev) {p : Nat} (hp : p < 9) :
    if p = 0 ∨ d.isLocal p = false ∨ d.is (F.PRT_LSTAT_ENABLED (p - 1)) = false then d.localDetach p true = d
    else ∃ y : Dev, y.get (F.PRT_LSTAT_CONN (p - 1)) = d.get (F.PRT_LSTAT_CONN (p - 1)) % 2 ∧
      y.get (F.PRT_LSTAT_ENABLED (p - 1)) = 0 ∧ y.get F.LHE_INT_DETACH = 1 ∧
      (d.gone p).Only y [F.PRT_LSTAT_CONN (p - 1), F.PRT_CNT_BABBLE p] ∧
      d.localDetach p true = if d.phyHeld then y else y.oweFault (0x200 + p) 18 := by
  by_cases h : p = 0 ∨ d.isLocal p = false ∨ d.is (F.PRT_LSTAT_ENABLED (p - 1)) = false
  · rw [if_pos h]
    exact if_pos (by simpa using h)
  · rw [if_neg h]
    obtain ⟨y, hy⟩ : ∃ y, y = ((d.gone p).set (F.PRT_LSTAT_CONN (p - 1)) (d.get (F.PRT_LSTAT_CONN (p - 1)))).bump (F.PRT_CNT_BABBLE p) :=
      ⟨_, rfl⟩
    have hdef : d.localDetach p true = if y.phyHeld then y else y.oweFault (0x200 + p) 18 := by
      rw [Dev.localDetach, if_neg (by simpa using h), hy, Dev.gone]
      simp only [if_true]
    obtain ⟨-, hen, hint, hheld⟩ := d.gone_is hp
    have hconn : y.get (F.PRT_LSTAT_CONN (p - 1)) = d.get (F.PRT_LSTAT_CONN (p - 1)) % 2 := by
      rw [hy, Dev.bump_get_ne _ (by simp only [fldId, F.PRT_CNT_BABBLE, F.PRT_LSTAT_CONN]; omega)]
      exact Dev.get_set_same _ _ _
    have honly : (d.gone p).Only y [F.PRT_LSTAT_CONN (p - 1), F.PRT_CNT_BABBLE p] := by
      rw [hy]
      exact (Dev.only_set _ _ _).trans (Dev.only_bump _ _)
    generalize d.gone p = x at *
    have hlow : x.KeepsLow y := honly.heard.keepsLow (by
      simp only [List.mem_cons, List.not_mem_nil, or_false, forall_eq_or_imp, forall_eq, fldId, F.PRT_LSTAT_CONN, F.PRT_CNT_BABBLE]
      omega)
    refine ⟨y, hconn, (honly.2 _ ?_).trans hen, (honly.2 _ ?_).trans hint, honly, ?_⟩
    · simp only [List.mem_cons, List.not_mem_nil, or_false, forall_eq_or_imp, forall_eq, fldId, F.PRT_LSTAT_CONN, F.PRT_CNT_BABBLE,
        F.PRT_LSTAT_ENABLED]
      omega
    · simp only [List.mem_cons, List.not_mem_nil, or_false, forall_eq_or_imp, forall_eq, fldId, F.PRT_LSTAT_CONN, F.PRT_CNT_BABBLE,
        F.LHE_INT_DETACH]
      omega
    · rw [hdef, hlow.phyHeld, hheld]

theorem localPortsRule : LocalPortsRule := by
  intro s p hup
  refine ⟨Ends.of_act hup ?_, Ends.of_act hup ?_, Ends.of_act hup ?_, fun v => Ends.of_act hup ?_, fun d => reportLocal_is d p.val,
    Ends.of_act hup ?_, Ends.of_act hup ?_⟩ <;> generalize s.dev = d at *
  · exact localResetDone_is d p.val
  · exact localResumeDone_is d p.val
  · have h := localWake_is d.rouse p.val
    have hlhe : d.rouse.lhe = d.lhe := by rw [Dev.rouse_eq]
    have hout : d.rouse.out = d.out := by rw [Dev.rouse_eq]
    simp only [Dev.isLocal, Dev.is, Dev.rouse_get, Dev.localPort, hlhe, Dev.rouse_phyHeld, Dev.parked, Dev.portOwner, hout] at h ⊢
    exact h
  · have h := localAttach_is d.rouse p.val v.val
    simp only [Dev.isLocal, Dev.is, Dev.rouse_get, Dev.rouse_phyHeld] at h ⊢
    exact h
  · have h := localDetach_is d.rouse p.isLt
    by_cases hc : p.val = 0 ∨ d.isLocal p.val = false
    · rw [if_pos (by simpa [Dev.isLocal, Dev.is] using hc)] at h
      exact (if_pos hc).mpr h
    · rw [if_neg (by simpa [Dev.isLocal, Dev.is] using hc)] at h
      exact (if_neg hc).mpr ⟨d.rouse.gone p.val, rfl, h⟩
  · have h := localBabble_is d.rouse p.isLt
    by_cases hc : p.val = 0 ∨ d.isLocal p.val = false ∨ d.is (F.PRT_LSTAT_ENABLED (p.val - 1)) = false
    · rw [if_pos (by simpa [Dev.isLocal, Dev.is] using hc)] at h
      exact (if_pos hc).mpr h
    · rw [if_neg (by simpa [Dev.isLocal, Dev.is] using hc)] at h
      simp only [Dev.rouse_phyHeld, Dev.rouse_get] at h
      exact (if_neg hc).mpr ⟨d.rouse.gone p.val, h.choose, rfl, h.choose_spec⟩

/-! ### Local transactions (R224 to R230) -/

/-- Another part of the local host engine. -/
def Dev.withLhe (d : Dev) (l : Lhe) : Dev := { d with lhe := l }

theorem Dev.started_is (d : Dev) (c : Nat) : ∃ l : Lhe, d.started c = d.withLhe l ∧
    if d.ctxPeriodic c = true then (d.withLhe l).ctx c = { d.ctx c with due := false } ∧
      (d.withLhe l).localPort (d.get (F.LHE_CTXW0_PORT c)) = d.localPort (d.get (F.LHE_CTXW0_PORT c))
    else (d.withLhe l).ctx c = d.ctx c ∧
      (d.withLhe l).localPort (d.get (F.LHE_CTXW0_PORT c)) = { d.localPort (d.get (F.LHE_CTXW0_PORT c)) with turn := c } := by
  unfold Dev.started
  by_cases h : d.ctxPeriodic c = true
  · exact ⟨_, if_pos h, by rw [if_pos h]; exact ⟨mapGet_put_same _ _ _, rfl⟩⟩
  · exact ⟨_, if_neg h, by rw [if_neg h]; exact ⟨rfl, mapGet_put_same _ _ _⟩⟩

theorem Dev.modCtx_ctx (d : Dev) (c : Nat) (f : Ctx → Ctx) : (d.modCtx c f).ctx c = f (d.ctx c) := mapGet_put_same _ _ _

/-- A PING's answers (R228, R229). -/
theorem pingSent_is (d : Dev) (c : Nat) {res : Nat} (hres : res < 7) {tk : Tkt} {t : List Tkt} (hlive : d.live (isXfer c) = tk :: t) :
    ∃ y : Dev, y.out = ⟨.usb, d.get (F.LHE_CTXW0_PORT c), [9], []⟩ :: d.out ∧ y = { d with out := y.out, lhe := y.lhe } ∧
      (y.ctx c) = { d.ctx c with pinged := true } ∧
      let e := d.pingSent c res
      match (generalizing := false) res with
      | 0 => (e.ctx c) = { y.ctx c with ping := false, errs := 0 } ∧ e = { y with lhe := e.lhe }
      | 3 => ∃ tk t, d.live (isXfer c) = tk :: t ∧ ∃ z : Dev,
          z = (y.modCtx c fun k => { k with errs := 0 }).finish tk .eProto tk.moved 0 ∧
          e = if d.get (F.LHE_CTXW0_TYPE c) = 0 then z else z.haltCtx c 1
      | 4 => e = y.xferError c
      | _ => (e.ctx c) = { y.ctx c with errs := 0 } ∧ e = { y with lhe := e.lhe } := by
  refine ⟨(d.usbOut (d.get (F.LHE_CTXW0_PORT c)) 9 []).modCtx c fun x => { x with pinged := true }, rfl, rfl, Dev.modCtx_ctx _ _ _, ?_⟩
  have other (k : Dev) : ((k.modCtx c fun x => { x with errs := 0 }).ctx c = { k.ctx c with errs := 0 }) ∧
      (k.modCtx c fun x => { x with errs := 0 }) = { k with lhe := (k.modCtx c fun x => { x with errs := 0 }).lhe } :=
    ⟨Dev.modCtx_ctx _ _ _, rfl⟩
  match res, hres with
  | 0, _ => exact ⟨Dev.modCtx_ctx _ _ _, rfl⟩
  | 1, _ => exact other _
  | 2, _ => exact other _
  | 3, _ =>
    refine ⟨tk, t, hlive, _, rfl, ?_⟩
    have hl : (((d.usbOut (d.get (F.LHE_CTXW0_PORT c)) 9 []).modCtx c fun x => { x with pinged := true }).modCtx c
        fun x => { x with errs := 0 }).live (isXfer c) = tk :: t := hlive
    simp only [Dev.pingSent, hl]
  | 4, _ => rfl
  | 5, _ => exact other _
  | 6, _ => exact other _

/-- A packet that was lost to an error, as it is counted (R229). -/
theorem xferErr_is (d : Dev) (p : Nat) : let e := (d.bump (F.PRT_LCNT_XERR (p - 1))).oweFault (0x200 + p) 20
    e.get (F.PRT_LCNT_XERR (p - 1)) = satInc 0xFFFF (d.get (F.PRT_LCNT_XERR (p - 1))) % 0x10000 ∧
      e.lar.due = d.lar.due ++ [.fault (0x200 + p) 20] ∧ e.hif = d.hif :=
  ⟨Dev.get_set_same _ _ _, rfl, rfl⟩

/-- An isochronous transaction (R226). -/
theorem isoTransaction_is (x : Dev) (c : Nat) (ok : Bool) (l : List Byte) :
    let p := x.get (F.LHE_CTXW0_PORT c)
    let e := x.isoTransaction c ok l
    if ok = false then e.get (F.PRT_LCNT_XERR (p - 1)) = satInc 0xFFFF (x.get (F.PRT_LCNT_XERR (p - 1))) % 0x10000 ∧
      e.lar.due = x.lar.due ++ [.fault (0x200 + p) 20] ∧ e.hif = x.hif
    else if x.is (F.LHE_CTXW0_DIR c) = true then
      e = (x.srcUses (2 * 8192 + c)).foldl (fun d q => d.itemIn q l (d.almTime % 2 ^ 32) false) x
    else match x.sinkUses (2 * 8192 + c) with
      | [] => e = x
      | (q, i) :: _ =>
        match x.sinkPacket q i (x.ctxFrames c q * x.frameBytes q) with
        | (y, none) => e = y
        | (y, some m) => e = y.emit .usb p [0] (zeroPoisoned (x.frameBytes q) (x.ctxFrames c q) m) := by
  unfold Dev.isoTransaction
  cases ok
  · exact xferErr_is x _
  · simp only [Bool.not_true, Bool.false_eq_true, if_false, Bool.true_eq_false]
    by_cases hd : x.is (F.LHE_CTXW0_DIR c) = true
    · simp only [if_pos hd]
    · simp only [if_neg hd]
      cases x.sinkUses (2 * 8192 + c) with
      | nil => rfl
      | cons u t =>
        obtain ⟨q, i⟩ := u
        simp only
        obtain ⟨y, m⟩ := x.sinkPacket q i (x.ctxFrames c q * x.frameBytes q)
        cases m <;> rfl

/-- A non-isochronous transaction that ends its packet (R228 to R230). -/
theorem xferTransaction_is (d : Dev) (l : Lhe) (c : Nat) {res : Nat} (hres : res < 6) (data : List Byte) (poison : Bool) {tk : Tkt} {t : List Tkt}
    (herrs : ((d.withLhe l).ctx c).errs = (d.ctx c).errs) (hping : ((d.withLhe l).ctx c).ping = (d.ctx c).ping)
    (hnext : d.pingNext c = false) (htype : d.get (F.LHE_CTXW0_TYPE c) ≠ 1) (hlive : d.live (isXfer c) = tk :: t) :
    let x := d.withLhe l
    let p := d.get (F.LHE_CTXW0_PORT c)
    let ok := x.modCtx c fun y => { y with errs := 0 }
    let e := x.transact c res data poison
    match (generalizing := false) res with
    | 1 => (e.ctx c) = { x.ctx c with errs := 0, ping := d.pingable c tk || (d.ctx c).ping } ∧ e = { d with lhe := e.lhe }
    | 3 => ∃ y : Dev, y = ok.finish tk .eProto tk.moved 0 ∧ e = if d.get (F.LHE_CTXW0_TYPE c) = 0 then y else y.haltCtx c 1
    | 4 => ∃ y : Dev, (y.ctx c).errs = (d.ctx c).errs + 1 ∧
        y.get (F.PRT_LCNT_XERR (p - 1)) = satInc 0xFFFF (d.get (F.PRT_LCNT_XERR (p - 1))) % 0x10000 ∧
        y.lar.due = d.lar.due ++ [.fault (0x200 + p) 20] ∧ y.hif = d.hif ∧
        e = if (d.ctx c).errs + 1 < 3 then y else (y.finish tk .eProto tk.moved 0).haltCtx c 2
    | 5 => e = x
    | _ => e = ok.xferGood c tk (res == 2) data poison := by
  have hnext' : (d.withLhe l).pingNext c = false := by
    rw [← hnext, Dev.pingNext, hping]
    rfl
  have htype' : (d.withLhe l).get (F.LHE_CTXW0_TYPE c) ≠ 1 := htype
  have hlive' : (d.withLhe l).live (isXfer c) = tk :: t := hlive
  have hdef : (d.withLhe l).transact c res data poison =
      let ok := (d.withLhe l).modCtx c fun x => { x with errs := 0 }
      match (generalizing := false) res with
      | 0 => ok.xferGood c tk false data poison
      | 1 => if (d.withLhe l).pingable c tk then ok.modCtx c fun x => { x with ping := true } else ok
      | 2 => ok.xferGood c tk true data poison
      | 3 =>
        let d1 := ok.finish tk .eProto tk.moved 0
        if (d.withLhe l).get (F.LHE_CTXW0_TYPE c) = 0 then d1 else d1.haltCtx c 1
      | 4 => (d.withLhe l).xferError c
      | _ => d.withLhe l := by
    rw [Dev.transact, if_neg (by omega), if_neg (by simp [hnext']), if_neg htype', hlive'] <;> rfl
  simp only [hdef]
  match res, hres with
  | 0, _ => rfl
  | 1, _ =>
    simp only
    have hable : (d.withLhe l).pingable c tk = d.pingable c tk := rfl
    rw [hable]
    cases d.pingable c tk
    · refine ⟨?_, rfl⟩
      rw [if_neg (by simp), Dev.modCtx_ctx, Bool.false_or, ← hping]
    · refine ⟨?_, rfl⟩
      rw [if_pos rfl, Dev.modCtx_ctx, Dev.modCtx_ctx, Bool.true_or]
  | 2, _ => rfl
  | 3, _ => exact ⟨_, rfl, rfl⟩
  | 4, _ =>
    obtain ⟨hcnt, hdue, hhif⟩ := xferErr_is (d.withLhe l) (d.get (F.LHE_CTXW0_PORT c))
    obtain ⟨y, hy⟩ : ∃ y, y = (((d.withLhe l).bump (F.PRT_LCNT_XERR (d.get (F.LHE_CTXW0_PORT c) - 1))).oweFault
      (0x200 + d.get (F.LHE_CTXW0_PORT c)) 20).modCtx c fun x => { x with errs := (d.ctx c).errs + 1 } := ⟨_, rfl⟩
    have hylive : y.live (isXfer c) = tk :: t := by rw [hy]; exact hlive
    have hyerrs : (y.ctx c).errs = (d.ctx c).errs + 1 := by rw [hy, Dev.modCtx_ctx]
    have hxfer : (d.withLhe l).xferError c = if (d.ctx c).errs + 1 < 3 then y else Dev.haltCtx (match y.live (isXfer c) with
        | [] => y
        | tk :: _ => y.finish tk .eProto tk.moved 0) c 2 := by
      rw [hy, ← herrs]
      rfl
    refine ⟨y, hyerrs, hy.symm ▸ hcnt, hy.symm ▸ hdue, hy.symm ▸ hhif, ?_⟩
    simp only [hxfer, hylive]
  | 5, _ => rfl

/-- What a context that halts shows (R229, R230). -/
theorem haltCtx_is (d : Dev) (c : Fin 128) {cause : Nat} (hcause : cause < 4) :
    (d.haltCtx c.val cause).get (F.LHE_CTXW0_STATE c.val) = 2 ∧ (d.haltCtx c.val cause).get (F.LHE_CTXW1_HCAUSE c.val) = cause ∧
      (d.haltCtx c.val cause).get F.LHE_INT_CTXHALT = 1 := by
  obtain ⟨x, hx⟩ : ∃ x, x = (d.set (F.LHE_CTXW0_STATE c.val) 2).set (F.LHE_CTXW1_HCAUSE c.val) cause := ⟨_, rfl⟩
  have hne : fldId (F.LHE_CTXW1_HCAUSE c.val) ≠ fldId (F.LHE_CTXW0_STATE c.val) := by
    simp only [fldId, F.LHE_CTXW1_HCAUSE, F.LHE_CTXW0_STATE]; omega
  have hstate : x.get (F.LHE_CTXW0_STATE c.val) = 2 := by
    rw [hx, Dev.get_set_ne _ _ hne]
    exact Dev.get_set_same _ _ _
  have hhc : x.get (F.LHE_CTXW1_HCAUSE c.val) = cause := by
    rw [hx, Dev.get_set_same]
    exact Nat.mod_eq_of_lt hcause
  obtain ⟨p, hp⟩ : ∃ p, p = d.get (F.LHE_CTXW0_PORT c.val) := ⟨_, rfl⟩
  have hdef : d.haltCtx c.val cause = (x.lheEvent 3 p c.val cause).oweFault (0x200 + p) 19 := by rw [hx, hp]; rfl
  have hevent : x.lheEvent 3 p c.val cause = x.raise (bitFld 0x5008 3) 0x803 (if x.isLocal p && !x.parked p then [x.portOwner p] else [])
    c.val cause 0 := rfl
  rw [hdef, hevent]
  have hheard := x.heard_raise (bitFld 0x5008 3) 0x803 (if x.isLocal p && !x.parked p then [x.portOwner p] else []) c.val cause 0
  have hint := x.raise_sets (int := bitFld 0x5008 3) 0x803 (if x.isLocal p && !x.parked p then [x.portOwner p] else []) c.val cause 0
    (plainFld_of_low (by decide))
  have hc := c.isLt
  refine ⟨(hheard.2 _ (plainFld_of_low ?_) ?_).trans hstate, (hheard.2 _ (plainFld_of_low ?_) ?_).trans hhc, hint⟩ <;>
    simp only [List.mem_singleton, forall_eq, fldId, bitFld, F.LHE_CTXW0_STATE, F.LHE_CTXW1_HCAUSE] <;> omega

/-- A transaction that ended well, by its stage and its direction (R228, R230, Table 08.4). -/
theorem xferGood_is (d : Dev) (c : Nat) (tk : Tkt) (nyet : Bool) (l : List Byte) (poison : Bool) (hpart : d.inPart tk.t = false) :
    let control := d.get (F.LHE_CTXW0_TYPE c) == 0
    let q := d.get (F.LHE_CTXW0_PORT c)
    let e := d.xferGood c tk nyet l poison
    (control = true → tk.stage = 0 → ∃ k, e = (d.emit .usb q [0] (leBytes 8 tk.setup)).modTkt tk k ∧
      (k tk).stage = (if tk.len = 0 then 2 else 1)) ∧
    (control = true → tk.stage = 2 → e = (d.finish tk .done tk.moved 0).resync c tk.setup) ∧
    ((control = true → tk.stage ≠ 0 ∧ tk.stage ≠ 2) → d.xferIn c tk = true → ∃ x : Dev, e = x.moveOn c tk l.length ∧
      x.out = ⟨.hostWrite, tk.t, [tk.addr + tk.moved, 0], (l.take (d.get (F.LHE_CTXW1_MPS c))).take (tk.len - tk.moved)⟩ :: d.out ∧
      x.get (F.LHE_CTXW1_TOG c) = (1 - d.get (F.LHE_CTXW1_TOG c)) % 2 ∧ d.Only { x with out := d.out } [F.LHE_CTXW1_TOG c]) ∧
    ((control = true → tk.stage ≠ 0 ∧ tk.stage ≠ 2) → d.xferIn c tk = false →
      let n := d.outSize c tk
      if poison = true ∧ n ≠ 0 then e = (d.finish tk .ePoison tk.moved 0).hifEvent 0 tk.t
      else ∃ x : Dev, e = x.moveOn c tk n ∧ x.out = ⟨.usb, q, [0], (l ++ List.replicate n 0).take n⟩ :: d.out ∧
        x.get (F.LHE_CTXW1_TOG c) = (1 - d.get (F.LHE_CTXW1_TOG c)) % 2 ∧
        (x.ctx c).ping = (nyet && d.get (F.PRT_LSTAT_SPEED (q - 1)) == 3) ∧
        d.Only { x with out := d.out, lhe := d.lhe } [F.LHE_CTXW1_TOG c]) := by
  have hdata : ((d.get (F.LHE_CTXW0_TYPE c) == 0) = true → tk.stage ≠ 0 ∧ tk.stage ≠ 2) →
      ¬ (d.get (F.LHE_CTXW0_TYPE c) == 0 && tk.stage == 0) = true ∧ ¬ (d.get (F.LHE_CTXW0_TYPE c) == 0 && tk.stage == 2) = true := by
    intro h
    simp only [Bool.and_eq_true, not_and, beq_iff_eq]
    exact ⟨fun hc => (h (by simpa using hc)).1, fun hc => (h (by simpa using hc)).2⟩
  have hflip (x : Dev) (hx : x.get (F.LHE_CTXW1_TOG c) = d.get (F.LHE_CTXW1_TOG c)) :
      (x.flipCtx c).get (F.LHE_CTXW1_TOG c) = (1 - d.get (F.LHE_CTXW1_TOG c)) % 2 := by
    rw [Dev.flipCtx, Dev.get_set_same, hx]
    rfl
  refine ⟨fun hc h0 => ?_, fun hc h2 => ?_, fun h hin => ?_, fun h hin => ?_⟩
  · refine ⟨fun x => { x with stage := if tk.len = 0 then 2 else 1 }, ?_, rfl⟩
    rw [Dev.xferGood]
    exact if_pos (by rw [hc, h0]; rfl)
  · rw [Dev.xferGood]
    simp only [hc, h2]
    rfl
  · obtain ⟨h0, h2⟩ := hdata h
    refine ⟨((d.emit .hostWrite tk.t [tk.addr + tk.moved, 0] ((l.take (d.get (F.LHE_CTXW1_MPS c))).take (tk.len - tk.moved)))).flipCtx c,
      ?_, rfl, hflip _ rfl, rfl, (d.only_set _ _).2⟩
    rw [Dev.xferGood]
    simp only
    rw [if_neg h0, if_neg h2, if_pos hin, Dev.hostPut, if_neg (by simp [hpart])]
    rfl
  · obtain ⟨h0, h2⟩ := hdata h
    have hdef : d.xferGood c tk nyet l poison = d.outPacket c tk l poison fun e =>
        ((e.flipCtx c).modCtx c fun x => { x with ping := nyet && d.get (F.PRT_LSTAT_SPEED (d.get (F.LHE_CTXW0_PORT c) - 1)) == 3 }).moveOn c tk
          (d.outSize c tk) := by
      rw [Dev.xferGood]
      simp only
      rw [if_neg h0, if_neg h2, if_neg (by simp [hin])]
    have hget (a n : Nat) (b : Bool) : d.hostGet tk.t a n l b = (d, (l ++ List.replicate n 0).take n, b) := by
      rw [Dev.hostGet, if_neg (by simp [hpart])]
    simp only [hdef, Dev.outPacket, hget, Bool.and_eq_true, bne_iff_ne]
    by_cases hp : poison = true ∧ d.outSize c tk ≠ 0
    · simp only [if_pos hp]
    · simp only [if_neg hp]
      exact ⟨_, rfl, rfl, hflip _ rfl, congrArg Ctx.ping (Dev.modCtx_ctx _ _ _), rfl, (d.only_set _ _).2⟩

theorem localTransactionsRule : LocalTransactionsRule := by
  intro s c res l poison hup
  refine ⟨rfl, Ends.of_act hup ?_, fun d tk nyet hp => xferGood_is d c.val tk nyet l poison hp, fun d cause _ hc => haltCtx_is d c hc⟩
  generalize s.dev = d
  by_cases hs : d.starts c.val = false
  · simp only [if_pos hs]
    rw [Dev.transaction, hs]
    rfl
  · simp only [if_neg hs]
    simp only [Bool.not_eq_false] at hs
    have hwants : d.ctxWants c.val = true := by
      simp only [Dev.starts, Bool.and_eq_true] at hs
      exact hs.1.2
    have hlives (ht : d.get (F.LHE_CTXW0_TYPE c.val) ≠ 1) : ∃ tk t, d.live (isXfer c.val) = tk :: t := by
      rw [Dev.ctxWants, if_neg ht, bne_iff_ne] at hwants
      exact List.exists_cons_of_ne_nil hwants
    obtain ⟨k, hk, hctx⟩ := d.started_is c.val
    have hdef : d.transaction c.val res.val l poison = (d.withLhe k).transact c.val res.val l poison := by
      rw [Dev.transaction, hs, hk]
      rfl
    have hboth : ((d.withLhe k).ctx c.val).errs = (d.ctx c.val).errs ∧ ((d.withLhe k).ctx c.val).ping = (d.ctx c.val).ping := by
      by_cases hper : d.ctxPeriodic c.val = true
      · rw [if_pos hper] at hctx
        rw [hctx.1]
        exact ⟨rfl, rfl⟩
      · rw [if_neg hper] at hctx
        rw [hctx.1]
        exact ⟨rfl, rfl⟩
    obtain ⟨herrs, hping⟩ := hboth
    have hnext : (d.withLhe k).pingNext c.val = d.pingNext c.val := by
      rw [Dev.pingNext, hping]
      rfl
    refine ⟨d.withLhe k, rfl, hctx, ?_⟩
    rw [hdef]
    by_cases h6 : res.val = 6
    · rw [if_pos h6, Dev.transact, if_pos h6]
      rfl
    · rw [if_neg h6]
      have h6' : res.val < 6 := by have := res.isLt; omega
      by_cases hp : d.pingNext c.val = true
      · rw [if_pos hp]
        have hlive : ∃ tk t, (d.withLhe k).live (isXfer c.val) = tk :: t := by
          rw [Dev.pingNext, Bool.and_eq_true] at hp
          show ∃ tk t, d.live (isXfer c.val) = tk :: t
          cases hl : d.live (isXfer c.val) with
          | nil => simp [hl] at hp
          | cons tk t => exact ⟨tk, t, rfl⟩
        obtain ⟨tk, t, hlive⟩ := hlive
        have hx : (d.withLhe k).transact c.val res.val l poison = (d.withLhe k).pingSent c.val res.val := by
          rw [Dev.transact, if_neg h6, if_pos (hnext.trans hp)]
        rw [hx]
        exact pingSent_is (d.withLhe k) c.val res.isLt hlive
      · rw [if_neg hp]
        by_cases ht : d.get (F.LHE_CTXW0_TYPE c.val) = 1
        · rw [if_pos ht]
          have hx : (d.withLhe k).transact c.val res.val l poison =
              if res.val = 3 then (d.withLhe k).haltCtx c.val 1 else (d.withLhe k).isoTransaction c.val (res.val == 0) l := by
            rw [Dev.transact, if_neg h6, if_neg (by rw [hnext]; exact hp)]
            exact if_pos ht
          rw [hx]
          by_cases h3 : res.val = 3
          · rw [if_pos h3, if_pos h3]
          · rw [if_neg h3, if_neg h3]
            have hiso := isoTransaction_is (d.withLhe k) c.val (res.val == 0) l
            by_cases h0 : res.val = 0
            · rw [if_neg (by simpa using h0)]
              rw [h0] at hiso ⊢
              exact hiso
            · rw [if_pos h0]
              rw [beq_false_of_ne h0] at hiso ⊢
              exact hiso
        · rw [if_neg ht]
          obtain ⟨tk, t, hlive⟩ := hlives ht
          have hx := xferTransaction_is d k c.val h6' l poison herrs hping (by simpa using hp) ht hlive
          exact ⟨tk, t, hlive, hx⟩

/-! ### Local micro-frames (R221, R222, R226, R243) -/

/-- A register field that no boundary of a micro-frame counts in or changes on a port. -/
def FrameFld (g : Fld) : Prop :=
  PlainFld g ∧ (∀ i, fldId (F.PRT_LCNT_XERR i) ≠ fldId g) ∧
    ∀ i < 8, fldId (F.PRT_LSTAT_SUSP i) ≠ fldId g ∧ fldId (F.PRT_LSTAT_RESETTING i) ≠ fldId g

/-- What passing a boundary leaves of everything but the contexts and the ports. -/
def Dev.Framed (d e : Dev) : Prop :=
  e = { d with fld := e.fld, lar := e.lar, hif := e.hif, out := e.out, lhe := e.lhe } ∧
    (e.lhe.frame = d.lhe.frame ∧ e.lhe.sofAt = d.lhe.sofAt ∧ e.lhe.lagging = d.lhe.lagging) ∧ ∀ g, FrameFld g → e.get g = d.get g

theorem Dev.Framed.refl (d : Dev) : d.Framed d := ⟨rfl, ⟨rfl, rfl, rfl⟩, fun _ _ => rfl⟩

theorem Dev.Framed.trans {d e x : Dev} (h : d.Framed e) (k : e.Framed x) : d.Framed x := by
  obtain ⟨h1, ⟨hf, hs, hl⟩, h2⟩ := h
  obtain ⟨k1, ⟨kf, ks, kl⟩, k2⟩ := k
  refine ⟨?_, ⟨kf.trans hf, ks.trans hs, kl.trans hl⟩, fun g hg => (k2 g hg).trans (h2 g hg)⟩
  rw [k1, h1]

theorem Dev.Framed.foldl {α : Type} {f : Dev → α → Dev} {l : List α} (hf : ∀ (d : Dev), ∀ a ∈ l, d.Framed (f d a)) (d : Dev) :
    d.Framed (l.foldl f d) := by
  induction l generalizing d with
  | nil => exact Dev.Framed.refl d
  | cons a l ih => exact (hf d a (by simp)).trans (ih (fun d b hb => hf d b (by simp [hb])) (f d a))

theorem Dev.Framed.phyHeld {d e : Dev} (h : d.Framed e) : e.phyHeld = d.phyHeld := by
  obtain ⟨heq, -, hget⟩ := h
  have hlow {g : Fld} (hg : fldId g < 32 * 0x4100) : FrameFld g := by
    refine ⟨plainFld_of_low (by omega), fun i => ?_, fun i _ => ⟨?_, ?_⟩⟩ <;>
      simp only [fldId, F.PRT_LCNT_XERR, F.PRT_LSTAT_SUSP, F.PRT_LSTAT_RESETTING] at hg ⊢ <;> omega
  have hpow : e.pow = d.pow := by rw [heq]
  have hfuse : e.fuse = d.fuse := by rw [heq]
  simp only [Dev.phyHeld, Dev.is, hpow, hfuse, hget F.SUP_STAT_PHYHOLD (hlow (by decide)), hget F.SUP_XTSTAT_BACKUP (hlow (by decide)),
    hget F.SUP_STAT_STAGE (hlow (by decide))]

theorem Dev.framed_modCtx (d : Dev) (c : Nat) (f : Ctx → Ctx) : d.Framed (d.modCtx c f) := ⟨rfl, ⟨rfl, rfl, rfl⟩, fun _ _ => rfl⟩

theorem Dev.framed_countLostTrans (d : Dev) (c : Nat) : d.Framed (d.countLostTrans c) :=
  ⟨rfl, ⟨rfl, rfl, rfl⟩, fun _ hg => d.bump_get_ne (hg.2.1 _)⟩

theorem Dev.framed_oweFault (d : Dev) (u src : Nat) : d.Framed (d.oweFault u src) := ⟨rfl, ⟨rfl, rfl, rfl⟩, fun _ _ => rfl⟩

theorem Dev.framed_portFrame (d : Dev) (n : Nat) {p : Nat} (hp : p ∈ [1, 2, 3, 4, 5, 6, 7, 8]) :
    d.Framed (d.portFrame n p) ∧ (d.portFrame n p).lhe.ctx = d.lhe.ctx := by
  have hp' : p - 1 < 8 := by simp only [List.mem_cons, List.not_mem_nil, or_false] at hp; omega
  obtain ⟨x, hx⟩ : ∃ x, x = if (d.localPort p).cmd = 2 then
      (d.set (F.PRT_LSTAT_SUSP (p - 1)) (d.get (F.PRT_LSTAT_ENABLED (p - 1)))).endCmd p .done else d := ⟨_, rfl⟩
  have hstep : d.Framed x ∧ x.lhe.ctx = d.lhe.ctx := by
    rw [hx]
    split_ifs
    · refine ⟨⟨rfl, ⟨rfl, rfl, rfl⟩, fun g hg => ?_⟩, rfl⟩
      obtain ⟨hsusp, hres⟩ := hg.2.2 (p - 1) hp'
      exact (Dev.get_set_ne _ _ hres).trans (Dev.get_set_ne _ _ hsusp)
    · exact ⟨Dev.Framed.refl d, rfl⟩
  have hemit (k : OutKind) (u : Nat) (a : List Nat) (b : List Byte) : d.Framed (x.emit k u a b) ∧ (x.emit k u a b).lhe.ctx = d.lhe.ctx :=
    ⟨hstep.1.trans ⟨rfl, ⟨rfl, rfl, rfl⟩, fun _ _ => rfl⟩, hstep.2⟩
  unfold Dev.portFrame
  simp only [← hx]
  split_ifs
  · exact ⟨Dev.Framed.refl d, rfl⟩
  · exact hemit _ _ _ _
  · exact hemit _ _ _ _
  · exact hstep

theorem Dev.framed_portFrames (n : Nat) {l : List Nat} (hl : l ⊆ [1, 2, 3, 4, 5, 6, 7, 8]) (d : Dev) :
    d.Framed (l.foldl (fun d p => d.portFrame n p) d) ∧ (l.foldl (fun d p => d.portFrame n p) d).lhe.ctx = d.lhe.ctx := by
  induction l generalizing d with
  | nil => exact ⟨Dev.Framed.refl d, rfl⟩
  | cons p l ih =>
    obtain ⟨h1, h2⟩ := d.framed_portFrame n (hl (by simp : p ∈ p :: l))
    obtain ⟨k1, k2⟩ := ih (fun q hq => hl (by simp [hq])) (d.portFrame n p)
    exact ⟨h1.trans k1, k2.trans h2⟩

/-- What a boundary does to one context of the micro-frame that ends. -/
def Dev.ctxEnds (d : Dev) (c : Nat) : Dev :=
  (if (d.ctx c).due && d.get (F.LHE_CTXW0_TYPE c) == 1 && d.ctxServed c && d.ctxWants c then
    (d.countLostTrans c).oweFault (0x200 + d.get (F.LHE_CTXW0_PORT c)) 20 else d).modCtx c fun x => { x with due := false, pinged := false }

theorem Dev.ctxEnds_is (d : Dev) (c : Nat) : d.Framed (d.ctxEnds c) ∧ (d.ctxEnds c).ctx c = { d.ctx c with due := false, pinged := false } ∧
    ∀ k ≠ c, (d.ctxEnds c).ctx k = d.ctx k := by
  unfold Dev.ctxEnds
  split_ifs
  · exact ⟨((d.framed_countLostTrans c).trans (Dev.framed_oweFault _ _ _)).trans (Dev.framed_modCtx _ _ _), mapGet_put_same _ _ _,
      fun k hk => mapGet_put_ne _ _ (Ne.symm hk)⟩
  · exact ⟨d.framed_modCtx _ _, mapGet_put_same _ _ _, fun k hk => mapGet_put_ne _ _ (Ne.symm hk)⟩

theorem Dev.ctxsEnd_is (l : List Nat) (d : Dev) : let e := l.foldl Dev.ctxEnds d
    d.Framed e ∧ (∀ c ∈ l, (e.ctx c).due = false ∧ (e.ctx c).pinged = false) ∧ ∀ c ∉ l, e.ctx c = d.ctx c := by
  induction l generalizing d with
  | nil => exact ⟨Dev.Framed.refl d, by simp, fun _ _ => rfl⟩
  | cons a l ih =>
    obtain ⟨h1, h2, h3⟩ := d.ctxEnds_is a
    obtain ⟨k1, k2, k3⟩ := ih (d.ctxEnds a)
    refine ⟨h1.trans k1, fun c hc => ?_, fun c hc => ?_⟩
    · by_cases hl : c ∈ l
      · exact k2 c hl
      · obtain rfl : c = a := by simpa [hl] using hc
        rw [List.foldl_cons, k3 c hl, h2]
        exact ⟨rfl, rfl⟩
    · simp only [List.mem_cons, not_or] at hc
      rw [List.foldl_cons, k3 c hc.2, h3 c hc.1]

theorem Dev.frameEnds_is (d : Dev) : d.Framed d.frameEnds ∧ ∀ c < 128, (d.frameEnds.ctx c).due = false ∧ (d.frameEnds.ctx c).pinged = false := by
  obtain ⟨h1, h2, -⟩ := Dev.ctxsEnd_is (List.range 128) d
  exact ⟨h1, fun c hc => h2 c (List.mem_range.mpr hc)⟩

/-- What a boundary does to one context that is due in the micro-frame that begins. -/
def Dev.ctxBegins (d : Dev) (c : Nat) : Dev :=
  if !d.phyHeld then d.modCtx c fun x => { x with due := true }
  else if d.portRuns (d.get (F.LHE_CTXW0_PORT c)) && d.ctxWants c then d.countLostTrans c else d

theorem Dev.ctxBegins_is (d : Dev) (c : Nat) : d.Framed (d.ctxBegins c) ∧
    (∀ k, (d.ctxBegins c).ctx k = { d.ctx k with due := (d.ctx k).due || (decide (k = c) && !d.phyHeld) }) := by
  unfold Dev.ctxBegins
  cases hp : d.phyHeld
  · refine ⟨by rw [if_pos (by rfl)]; exact d.framed_modCtx _ _, fun k => ?_⟩
    by_cases hk : k = c
    · subst hk
      simp only [Bool.not_false, if_true, Dev.modCtx_ctx, decide_true, Bool.and_self, Bool.or_true]
    · simp only [Bool.not_false, if_true, hk, decide_false, Bool.false_and, Bool.or_false]
      exact mapGet_put_ne _ _ (Ne.symm hk)
  · simp only [Bool.not_true, Bool.false_eq_true, if_false, Bool.and_false, Bool.or_false]
    split_ifs
    · exact ⟨d.framed_countLostTrans c, fun _ => rfl⟩
    · exact ⟨Dev.Framed.refl d, fun _ => rfl⟩

theorem Dev.ctxsBegin_is (l : List Nat) (d : Dev) : let e := l.foldl Dev.ctxBegins d
    d.Framed e ∧ ∀ k, e.ctx k = { d.ctx k with due := (d.ctx k).due || (decide (k ∈ l) && !d.phyHeld) } := by
  induction l generalizing d with
  | nil => exact ⟨Dev.Framed.refl d, fun k => by simp⟩
  | cons a l ih =>
    obtain ⟨h1, h2⟩ := d.ctxBegins_is a
    obtain ⟨k1, k2⟩ := ih (d.ctxBegins a)
    refine ⟨h1.trans k1, fun k => ?_⟩
    rw [List.foldl_cons, k2 k, h2 k, h1.phyHeld]
    cases d.phyHeld <;> by_cases hk : k = a <;> by_cases hl : k ∈ l <;> simp [hk, hl]

/-- The faults that a late boundary owes (R222). -/
def Dev.lateFaults (d : Dev) : Dev := [1, 2, 3, 4, 5, 6, 7, 8].foldl (fun d p =>
  if d.isLocal p && d.is (F.PRT_LSTAT_ENABLED (p - 1)) then d.oweFault (0x200 + p) 21 else d) d

theorem Dev.lateFaults_fld (d : Dev) : ∃ l : Larder, d.lateFaults = { d with lar := l } := by
  have h (l : List Nat) : ∀ d : Dev, ∃ x : Larder, (l.foldl (fun d p =>
      if d.isLocal p && d.is (F.PRT_LSTAT_ENABLED (p - 1)) then d.oweFault (0x200 + p) 21 else d) d) = { d with lar := x } := by
    induction l with
    | nil => exact fun d => ⟨d.lar, rfl⟩
    | cons p l ih =>
      intro d
      simp only [List.foldl_cons]
      split_ifs
      · obtain ⟨x, hx⟩ := ih (d.oweFault (0x200 + p) 21)
        exact ⟨x, hx⟩
      · exact ih d
  exact h _ d

/-- What a boundary's lag shows (R222). -/
theorem Dev.showLag_is (d : Dev) (lag : Nat) : let e := d.showLag lag
    e = { d with fld := e.fld, lar := e.lar, lhe := { d.lhe with lagging := decide (125 < lag) } } ∧
      e.get F.LHE_STAT_LAG = min 255 lag ∧
      e.get F.LHE_INT_SOFLAG = (if 125 < lag ∧ d.lhe.lagging = false then 1 else d.get F.LHE_INT_SOFLAG) ∧
      ∀ g, PlainFld g → fldId F.LHE_STAT_LAG ≠ fldId g → fldId F.LHE_INT_SOFLAG ≠ fldId g → e.get g = d.get g := by
  obtain ⟨x, hx⟩ : ∃ x, x = d.set F.LHE_STAT_LAG (min 255 lag) := ⟨_, rfl⟩
  have hlag : x.get F.LHE_STAT_LAG = min 255 lag := by
    rw [hx, Dev.get_set_same]
    exact Nat.mod_eq_of_lt (by show min 255 lag < 256; omega)
  have hother (g : Fld) (hg : fldId F.LHE_STAT_LAG ≠ fldId g) : x.get g = d.get g := by rw [hx]; exact Dev.get_set_ne _ _ hg
  have hlagging : x.lhe.lagging = d.lhe.lagging := by rw [hx]; rfl
  have heq : x = { d with fld := x.fld } := by rw [hx]; rfl
  have hdef : d.showLag lag = ({ (if decide (125 < lag) && !x.lhe.lagging then (x.raise F.LHE_INT_SOFLAG 0x805 [0] 0 0 0).lateFaults else x) with
      lhe := { (if decide (125 < lag) && !x.lhe.lagging then (x.raise F.LHE_INT_SOFLAG 0x805 [0] 0 0 0).lateFaults else x).lhe with
        lagging := decide (125 < lag) } } : Dev) := by
    rw [hx]
    rfl
  have hcond : (decide (125 < lag) && !x.lhe.lagging) = decide (125 < lag ∧ d.lhe.lagging = false) := by
    rw [hlagging]
    cases d.lhe.lagging <;> simp
  rw [hcond] at hdef
  by_cases h : 125 < lag ∧ d.lhe.lagging = false
  · have htold := x.told_raise F.LHE_INT_SOFLAG 0x805 [0] 0 0 0 t000_lt
    have hint := x.raise_get_int (int := F.LHE_INT_SOFLAG) 0x805 [0] 0 0 0 (plainFld_of_low (by decide)) t000_lt
    obtain ⟨l, hl⟩ := (x.raise F.LHE_INT_SOFLAG 0x805 [0] 0 0 0).lateFaults_fld
    obtain ⟨heq', hget⟩ := htold
    simp only [h, and_self, decide_true, if_true, hl] at hdef
    generalize x.raise F.LHE_INT_SOFLAG 0x805 [0] 0 0 0 = y at *
    simp only [if_pos h, hdef]
    refine ⟨?_, ?_, hint, fun g hp h1 h2 => ?_⟩
    · rw [heq', heq]
      simp only [h.1, decide_true]
    · exact (hget _ (plainFld_of_low (by decide)) (by decide)).trans hlag
    · exact (hget g hp (by simpa using h2)).trans (hother g h1)
  · simp only [h, decide_false, Bool.false_eq_true, if_false] at hdef
    simp only [if_neg h, hdef]
    refine ⟨?_, hlag, hother _ (by decide), fun g _ h1 _ => hother g h1⟩
    rw [heq]

/-- The boundary of the next micro-frame and how late it is (R221, R222, R243). -/
theorem nextSof_is (d : Dev) :
    (d.lhe.sofAt = none → d.nextSof.1 = d.almNs / 125000 + 1 ∧ d.xt.count ≤ d.nextSof.2.1 ∧ d.nextSof.2.2 = 0) ∧
      ∀ t, d.lhe.sofAt = some t → d.nextSof.1 = d.lhe.frame + 1 ∧ t + 2999 ≤ d.nextSof.2.1 ∧ d.nextSof.2.1 ≤ t + 3001 := by
  refine ⟨fun h => ?_, fun t h => ?_⟩
  · rw [Dev.nextSof, h]
    exact ⟨rfl, Nat.le_add_right _ _, rfl⟩
  · rw [Dev.nextSof, h]
    simp only
    generalize (d.xt.count : Int) + d.edgeOf ((d.lhe.frame + 1) * 125000) = ideal
    split_ifs
    · exact ⟨rfl, by simp only; omega, by simp only; omega⟩
    · exact ⟨rfl, by simp only; omega, by simp only; omega⟩

/-- The state of a context and the times it is due, as registers show them. -/
theorem frameFld_ctx (c : Fin 128) {g : Fld} (hg : g ∈ [F.LHE_CTXW0_VALID c.val, F.LHE_CTXW0_TYPE c.val, F.LHE_CTXW0_STATE c.val,
    F.LHE_CTXW0_PORT c.val, F.LHE_CTXW1_IVL c.val, F.LHE_CTXW1_PHASE c.val]) :
    FrameFld g ∧ fldId F.LHE_STAT_LAG ≠ fldId g ∧ fldId F.LHE_INT_SOFLAG ≠ fldId g := by
  have hc := c.isLt
  simp only [List.mem_cons, List.not_mem_nil, or_false] at hg
  rcases hg with rfl | rfl | rfl | rfl | rfl | rfl <;>
    refine ⟨⟨plainFld_of_low ?_, fun i => ?_, fun i hi => ⟨?_, ?_⟩⟩, ?_, ?_⟩ <;>
    simp only [fldId, F.LHE_CTXW0_VALID, F.LHE_CTXW0_TYPE, F.LHE_CTXW0_STATE, F.LHE_CTXW0_PORT, F.LHE_CTXW1_IVL, F.LHE_CTXW1_PHASE,
      F.PRT_LCNT_XERR, F.PRT_LSTAT_SUSP, F.PRT_LSTAT_RESETTING, F.LHE_STAT_LAG, F.LHE_INT_SOFLAG] <;> omega

theorem frameFld_speed (p : Nat) :
    FrameFld (F.PRT_LSTAT_SPEED p) ∧ fldId F.LHE_STAT_LAG ≠ fldId (F.PRT_LSTAT_SPEED p) ∧ fldId F.LHE_INT_SOFLAG ≠ fldId (F.PRT_LSTAT_SPEED p) := by
  refine ⟨⟨⟨fun q => ⟨?_, ?_⟩, ?_, ?_, ?_⟩, fun i => ?_, fun i _ => ⟨?_, ?_⟩⟩, ?_, ?_⟩ <;>
    simp only [fldId, F.PRT_LSTAT_SPEED, F.QUE_W2_LOST, F.QUE_W1_LOSTSAT, F.LAR_LEAK_COUNT, F.ECC_INJ_COUNT, F.ECC_INJ_ARM,
      F.PRT_LCNT_XERR, F.PRT_LSTAT_SUSP, F.PRT_LSTAT_RESETTING, F.LHE_STAT_LAG, F.LHE_INT_SOFLAG] <;> omega

theorem frameFld_paused : FrameFld F.ALM_STAT_PAUSED := by
  refine ⟨⟨fun q => ⟨?_, ?_⟩, ?_, ?_, ?_⟩, fun i => ?_, fun i _ => ⟨?_, ?_⟩⟩ <;>
    simp only [fldId, F.ALM_STAT_PAUSED, F.QUE_W2_LOST, F.QUE_W1_LOSTSAT, F.LAR_LEAK_COUNT, F.ECC_INJ_COUNT, F.ECC_INJ_ARM,
      F.PRT_LCNT_XERR, F.PRT_LSTAT_SUSP, F.PRT_LSTAT_RESETTING] <;> omega

theorem frameFld_shown {g : Fld} (hg : g = F.LHE_STAT_LAG ∨ g = F.LHE_INT_SOFLAG) : FrameFld g := by
  rcases hg with rfl | rfl <;> refine ⟨plainFld_of_low (by decide), fun i => ?_, fun i _ => ⟨?_, ?_⟩⟩ <;>
    simp only [fldId, F.LHE_STAT_LAG, F.LHE_INT_SOFLAG, F.PRT_LCNT_XERR, F.PRT_LSTAT_SUSP, F.PRT_LSTAT_RESETTING] <;> omega

theorem Dev.ctxDue_congr {d e : Dev} (h : ∀ g, FrameFld g → fldId F.LHE_STAT_LAG ≠ fldId g → fldId F.LHE_INT_SOFLAG ≠ fldId g → e.get g = d.get g)
    (c : Fin 128) (n : Nat) :
    (e.ctxOpen c.val && e.ctxPeriodic c.val && e.get (F.LHE_CTXW0_STATE c.val) == 1 && e.ctxDue c.val n) =
      (d.ctxOpen c.val && d.ctxPeriodic c.val && d.get (F.LHE_CTXW0_STATE c.val) == 1 && d.ctxDue c.val n) := by
  have hread {g : Fld} (hg : g ∈ [F.LHE_CTXW0_VALID c.val, F.LHE_CTXW0_TYPE c.val, F.LHE_CTXW0_STATE c.val,
      F.LHE_CTXW0_PORT c.val, F.LHE_CTXW1_IVL c.val, F.LHE_CTXW1_PHASE c.val]) : e.get g = d.get g := by
    obtain ⟨h1, h2, h3⟩ := frameFld_ctx c hg
    exact h g h1 h2 h3
  have hspeed (p : Nat) : e.get (F.PRT_LSTAT_SPEED p) = d.get (F.PRT_LSTAT_SPEED p) := by
    obtain ⟨h1, h2, h3⟩ := frameFld_speed p
    exact h _ h1 h2 h3
  simp only [Dev.ctxOpen, Dev.ctxPeriodic, Dev.ctxDue, Dev.is, hspeed, hread (g := F.LHE_CTXW0_VALID c.val) (by simp),
    hread (g := F.LHE_CTXW0_TYPE c.val) (by simp), hread (g := F.LHE_CTXW0_STATE c.val) (by simp),
    hread (g := F.LHE_CTXW0_PORT c.val) (by simp), hread (g := F.LHE_CTXW1_IVL c.val) (by simp),
    hread (g := F.LHE_CTXW1_PHASE c.val) (by simp)]

theorem microframe_is {d : Dev} (hen : d.is F.LHE_CTRL_EN = true) : let e := d.microframe
    let x := d.nextSof
    e.lhe.frame = x.1 ∧ e.lhe.sofAt = some x.2.1 ∧ e.xt.count = (d.xt.count + (x.2.1 - d.xt.count)) % 2 ^ 64 ∧
    e.almCnt = (if d.is F.ALM_STAT_PAUSED then d.almCnt else d.almCnt + (x.2.1 - d.xt.count) * d.alm.inc) ∧
    e.get F.LHE_STAT_LAG = min 255 x.2.2 ∧ e.lhe.lagging = decide (125 < x.2.2) ∧
    e.get F.LHE_INT_SOFLAG = (if 125 < x.2.2 ∧ d.lhe.lagging = false then 1 else d.get F.LHE_INT_SOFLAG) ∧
    ∀ c : Fin 128, (e.ctx c.val).pinged = false ∧ (e.ctx c.val).due = (!d.phyHeld && d.ctxOpen c.val && d.ctxPeriodic c.val &&
      d.get (F.LHE_CTXW0_STATE c.val) == 1 && d.ctxDue c.val x.1) := by
  obtain ⟨n, at_, lag, hnext⟩ : ∃ n at_ lag, d.nextSof = (n, at_, lag) := ⟨_, _, _, rfl⟩
  obtain ⟨a, ha⟩ : ∃ a, a = d.frameEnds := ⟨_, rfl⟩
  obtain ⟨b, hb⟩ : ∃ b, b = (a.edgesTo at_).showLag lag := ⟨_, rfl⟩
  obtain ⟨x, hx⟩ : ∃ x : Dev, x = { b with lhe := { b.lhe with frame := n, sofAt := some at_ } } := ⟨_, rfl⟩
  obtain ⟨y, hy⟩ : ∃ y, y = if x.phyHeld then x else [1, 2, 3, 4, 5, 6, 7, 8].foldl (fun d p => d.portFrame n p) x := ⟨_, rfl⟩
  obtain ⟨l, hl⟩ : ∃ l, l = (List.range 128).filter fun c => y.ctxOpen c && y.ctxPeriodic c && y.get (F.LHE_CTXW0_STATE c) == 1 && y.ctxDue c n :=
    ⟨_, rfl⟩
  have hdef : d.microframe = l.foldl Dev.ctxBegins y := by
    rw [Dev.microframe, if_neg (by simp [hen]), hl, hy, hx, hb, ha]
    simp only [hnext]
    rfl
  simp only [hdef, hnext]
  obtain ⟨hea, hctxa⟩ := d.frameEnds_is
  rw [← ha] at hea hctxa
  obtain ⟨hbeq, hblag, hbint, hbget⟩ := (a.edgesTo at_).showLag_is lag
  rw [← hb] at hbeq hblag hbint hbget
  have hey : x.Framed y ∧ y.lhe.ctx = x.lhe.ctx := by
    rw [hy]
    split_ifs
    · exact ⟨Dev.Framed.refl x, rfl⟩
    · exact Dev.framed_portFrames n (fun _ h => h) x
  obtain ⟨heyx, hctxy⟩ := hey
  obtain ⟨hez, hctxz⟩ := Dev.ctxsBegin_is l y
  have hshown {g : Fld} (hg : FrameFld g) : (l.foldl Dev.ctxBegins y).get g = b.get g := by
    rw [hez.2.2 g hg, heyx.2.2 g hg, hx]
    rfl
  have hkept {g : Fld} (hg : FrameFld g) (h1 : fldId F.LHE_STAT_LAG ≠ fldId g) (h2 : fldId F.LHE_INT_SOFLAG ≠ fldId g) : y.get g = d.get g := by
    rw [heyx.2.2 g hg, hx]
    exact (hbget g hg.1 h1 h2).trans (hea.2.2 g hg)
  have hheld : y.phyHeld = d.phyHeld := by
    refine heyx.phyHeld.trans (Eq.trans ?_ hea.phyHeld)
    have hlow {g : Fld} (hg : fldId g < 32 * 0x4100) : b.get g = a.get g := by
      refine hbget g (plainFld_of_low (by omega)) ?_ ?_ <;> simp only [fldId, F.LHE_STAT_LAG, F.LHE_INT_SOFLAG] at hg ⊢ <;> omega
    have hpow : x.pow = a.pow := by rw [hx, hbeq]; rfl
    have hfuse : x.fuse = a.fuse := by rw [hx, hbeq]; rfl
    have hxb (g : Fld) : x.get g = b.get g := by rw [hx]; rfl
    simp only [Dev.phyHeld, Dev.is, hpow, hfuse, hxb, hlow (g := F.SUP_STAT_PHYHOLD) (by decide),
      hlow (g := F.SUP_XTSTAT_BACKUP) (by decide), hlow (g := F.SUP_STAT_STAGE) (by decide)]
  have hxt : a.xt = d.xt := by rw [hea.1]
  have halm : a.almCnt = d.almCnt ∧ a.alm = d.alm := by rw [hea.1]; exact ⟨rfl, rfl⟩
  have hpaused : a.is F.ALM_STAT_PAUSED = d.is F.ALM_STAT_PAUSED := congrArg (· == 1) (hea.2.2 _ frameFld_paused)
  have hctxx (c : Fin 128) : (y.ctx c.val).due = false ∧ (y.ctx c.val).pinged = false := by
    have : y.ctx c.val = a.ctx c.val := by
      rw [Dev.ctx, hctxy, hx, hbeq]
      rfl
    rw [this]
    exact hctxa c.val c.isLt
  refine ⟨?_, ?_, ?_, ?_, ?_, ?_, ?_, fun c => ?_⟩
  · rw [hez.2.1.1, heyx.2.1.1, hx]
  · rw [hez.2.1.2.1, heyx.2.1.2.1, hx]
  · rw [hez.1, heyx.1, hx, hbeq]
    show (a.xt.count + (at_ - a.xt.count)) % 2 ^ 64 = _
    rw [hxt]
  · rw [hez.1, heyx.1, hx, hbeq]
    show (if a.is F.ALM_STAT_PAUSED then a.almCnt else a.almCnt + (at_ - a.xt.count) * a.alm.inc) = _
    rw [hpaused, hxt, halm.1, halm.2]
  · rw [hshown (frameFld_shown (.inl rfl)), hblag]
  · rw [hez.2.1.2.2, heyx.2.1.2.2, hx]
    show b.lhe.lagging = _
    rw [hbeq]
  · rw [hshown (frameFld_shown (.inr rfl)), hbint]
    have h1 : (a.edgesTo at_).lhe.lagging = d.lhe.lagging := hea.2.1.2.2
    have h2 : (a.edgesTo at_).get F.LHE_INT_SOFLAG = d.get F.LHE_INT_SOFLAG := hea.2.2 _ (frameFld_shown (.inr rfl))
    simp only [h1, h2]
  · obtain ⟨hdue, hping⟩ := hctxx c
    rw [hctxz c.val]
    refine ⟨hping, ?_⟩
    have hmem : decide (c.val ∈ l) = (y.ctxOpen c.val && y.ctxPeriodic c.val && y.get (F.LHE_CTXW0_STATE c.val) == 1 && y.ctxDue c.val n) := by
      rw [hl, Bool.eq_iff_iff]
      simp [List.mem_filter, c.isLt]
    simp only [hdue, hmem, hheld, Bool.false_or]
    rw [Dev.ctxDue_congr (fun g h1 h2 h3 => hkept h1 h2 h3), Bool.and_comm]
    simp only [Bool.and_assoc]

theorem localMicroframesRule : LocalMicroframesRule := by
  intro s hup
  refine ⟨Ends.of_act hup ?_, fun d => nextSof_is d⟩
  generalize s.dev = d
  cases hen : d.is F.LHE_CTRL_EN
  · rw [if_pos rfl, Dev.microframe, hen]
    rfl
  · rw [if_neg (by simp)]
    exact microframe_is hen

/-- Settles O32: the local ports by each command and event, a local transaction by its place, its stage and its answer, and the boundary of a
local micro-frame through what it leaves of every register that no count or port change stands in. -/
theorem localHost : Obligations.LocalHost := ⟨localPortsRule, localTransactionsRule, localMicroframesRule⟩

end Sys2Proof.Machine

/-!
SUPPORT. Queues, and what streams do (chapter 09).
-/
namespace Sys2Proof.Machine

open Sys2Proof

/-! ### What taking and returning cells leaves of the queues -/

theorem Dev.linkWrite_queues (d : Dev) (c : Nat) : (d.linkWrite c).lar.queues = d.lar.queues := by
  unfold Dev.linkWrite
  simp only
  have h : (d.injUse (d.injects 16 1)).lar.queues = d.lar.queues := congrArg Larder.queues (d.injUse_lar _)
  split_ifs <;> exact h

theorem Dev.takeCell_queues (d : Dev) (n : Nat) {c : Nat} {e : Dev} (h : d.takeCell n = some (c, e)) : e.lar.queues = d.lar.queues := by
  induction n generalizing d with
  | zero => simp [Dev.takeCell] at h
  | succ n ih =>
    simp only [Dev.takeCell] at h
    split_ifs at h
    split at h
    · simp at h
    · split at h
      · obtain ⟨-, rfl⟩ := (Prod.mk.injEq ..).mp (Option.some.inj h)
        exact Dev.linkWrite_queues _ _
      · obtain ⟨-, rfl⟩ := (Prod.mk.injEq ..).mp (Option.some.inj h)
        exact Dev.linkWrite_queues _ _
      · exact (ih _ h).trans rfl

/-- An item's cells are taken one by one (R247). -/
theorem Dev.takeCells_is (d : Dev) (k : Nat) {l : List Nat} {e : Dev} (h : d.takeCells k = some (l, e)) :
    e.lar.queues = d.lar.queues ∧ l.length = k := by
  induction k generalizing d l e with
  | zero =>
    obtain ⟨rfl, rfl⟩ := (Prod.mk.injEq ..).mp (Option.some.inj h)
    exact ⟨rfl, rfl⟩
  | succ k ih =>
    simp only [Dev.takeCells] at h
    split at h
    · simp at h
    · rename_i c d' hc
      split at h
      · simp at h
      · rename_i l' d'' hl
        obtain ⟨rfl, rfl⟩ := (Prod.mk.injEq ..).mp (Option.some.inj h)
        obtain ⟨hq, hlen⟩ := ih _ hl
        exact ⟨hq.trans (d.takeCell_queues _ hc), by rw [List.length_cons, hlen]⟩

theorem Dev.giveCells_queues (d : Dev) (l : List Nat) : (d.giveCells l).lar.queues = d.lar.queues := by
  induction l generalizing d with
  | nil => rfl
  | cons c t ih => exact (ih _).trans (Dev.linkWrite_queues _ _)

theorem Dev.items_congr {d e : Dev} (h : e.lar.queues = d.lar.queues) (q : Nat) : e.items q = d.items q := by
  unfold Dev.items
  rw [h]

theorem Dev.setItems_items (d : Dev) (q : Nat) (l : List Item) : (d.setItems q l).items q = l := mapGet_put_same _ _ _

/-- An item that is put has the cells its length needs, and the poison of those it came with (R247, R265). -/
theorem Dev.putItem_is {d e : Dev} {q k : Nat} {data : List Byte} {prio stamp : Nat} {bad : Nat → Bool}
    (h : d.putItem q k data prio stamp bad = some e) : ∃ it : Item, e.items q = d.items q ++ [it] ∧ it.data = data ∧ it.prio = prio ∧
      it.stamp = stamp ∧ it.cells.length = k ∧ it.poison = ((List.range k).filter bad).map (it.cells.getD · 0) := by
  unfold Dev.putItem at h
  split at h
  · simp at h
  · rename_i cs d2 ht
    obtain rfl := Option.some.inj h
    obtain ⟨hq, hlen⟩ := d.takeCells_is k ht
    refine ⟨⟨cs, data, prio, stamp, ((List.range k).filter bad).map (cs.getD · 0), 0, (d2.storeCells cs data.length).2⟩, ?_, rfl, rfl, rfl, hlen, rfl⟩
    have hitems : (d2.storeCells cs data.length).1.items q = d.items q :=
      Dev.items_congr ((congrArg Larder.queues (d2.storeCells_lar cs _)).trans hq) q
    rw [← hitems]
    exact Dev.setItems_items _ _ _

/-! ### Banks that leak while an item is queued (R276) -/

theorem foldl_add_le {l m : List Nat} (h : List.Forall₂ (· ≤ ·) l m) {a b : Nat} (hab : a ≤ b) : l.foldl (· + ·) a ≤ m.foldl (· + ·) b := by
  induction h generalizing a b with
  | nil => exact hab
  | cons h _ ih => exact ih (Nat.add_le_add hab h)

theorem Dev.freePool_mono {d e : Dev} (h : ∀ b, e.bankCount b ≤ d.bankCount b) : e.freePool ≤ d.freePool := by
  refine foldl_add_le ?_ le_rfl
  induction List.range 16 with
  | nil => exact .nil
  | cons b l ih => exact .cons (h b) ih

/-- A queue takes no more where less of the pool is free (R250, R254). -/
theorem Dev.fits_of_less {d e : Dev} (hget : ∀ g, fldId F.LAR_LEAK_COUNT ≠ fldId g → e.get g = d.get g) (hq : e.lar.queues = d.lar.queues)
    (hc : e.lar.charge = d.lar.charge) (hpool : e.freePool ≤ d.freePool) {q k : Nat} (h : e.fits q k = true) : d.fits q k = true := by
  have hdepth : e.get (F.QUE_W0_DEPTH q) = d.get (F.QUE_W0_DEPTH q) := hget _ (by simp only [fldId, F.LAR_LEAK_COUNT, F.QUE_W0_DEPTH]; omega)
  have hown : e.qOwner q = d.qOwner q := hget _ (by simp only [fldId, F.LAR_LEAK_COUNT, F.QUE_W0_OWNER]; omega)
  have hdev : e.get F.LAR_CTRL_DEVRES = d.get F.LAR_CTRL_DEVRES := hget _ (by decide)
  have hmin (o : Nat) : e.get (F.LAR_QUOTA_MIN o) = d.get (F.LAR_QUOTA_MIN o) :=
    hget _ (by simp only [fldId, F.LAR_LEAK_COUNT, F.LAR_QUOTA_MIN]; omega)
  have hmax (o : Nat) : e.get (F.LAR_QUOTA_MAX o) = d.get (F.LAR_QUOTA_MAX o) :=
    hget _ (by simp only [fldId, F.LAR_LEAK_COUNT, F.LAR_QUOTA_MAX]; omega)
  have hcharge (o : Nat) : e.charge o = d.charge o := by unfold Dev.charge; rw [hc]
  have hcells (o : Nat) : e.minCells o = d.minCells o := by unfold Dev.minCells; rw [hdev, hmin]
  have hunused (o n : Nat) : e.unusedMin o n = d.unusedMin o n := by
    induction n with
    | zero => rfl
    | succ n ih => simp only [Dev.unusedMin, ih, hcells, hcharge]
  unfold Dev.fits Dev.quotaOk Dev.qCells at h ⊢
  rw [Dev.items_congr hq] at h
  simp only [hdepth, hown, hcharge, hcells, hmax, hunused, Bool.and_eq_true, Bool.or_eq_true, decide_eq_true_eq, beq_iff_eq] at h ⊢
  refine ⟨h.1, h.2.imp id fun h2 => ⟨h2.1, ?_⟩⟩
  exact h2.2.trans hpool

/-- Banks of `d` have leaked, and nothing else has changed. -/
def Dev.Leaked (d x : Dev) : Prop :=
  d.Only { x with lar := d.lar } [F.LAR_LEAK_COUNT] ∧ x.lar.queues = d.lar.queues ∧ x.lar.charge = d.lar.charge ∧ x.freePool ≤ d.freePool

theorem Dev.Leaked.refl (d : Dev) : d.Leaked d := ⟨⟨rfl, fun _ _ => rfl⟩, rfl, rfl, le_rfl⟩

theorem Dev.Leaked.leakBank {d x : Dev} (h : d.Leaked x) (b : Nat) : d.Leaked (x.leakBank b) := by
  obtain ⟨⟨heq, hget⟩, hq, hc, hp⟩ := h
  have hother (g : Fld) (hg : fldId F.LAR_LEAK_COUNT ≠ fldId g) : (x.leakBank b).get g = x.get g := Dev.get_set_ne _ _ hg
  refine ⟨⟨?_, fun g hg => (hother g (by simpa using hg)).trans (hget g hg)⟩, hq, hc, le_trans ?_ hp⟩
  · have : ({ x.leakBank b with lar := d.lar } : Dev) = { ({ x with lar := d.lar } : Dev) with fld := (x.leakBank b).fld } := rfl
    rw [this, heq]
  · refine Dev.freePool_mono fun c => ?_
    have hf : (x.leakBank b).bankFenced c = x.bankFenced c := by
      unfold Dev.bankFenced Dev.bit
      rw [hother _ (by decide)]
    unfold Dev.bankCount
    rw [hf]
    split_ifs
    · exact le_rfl
    · by_cases hbc : b = c
      · subst hbc
        have : (x.leakBank b).bankFree b = [] := by
          show mapGet _ (mapPut [(0, 4096)] x.lar.banks b []) b = _
          exact mapGet_put_same _ _ _
        rw [this]
        exact Nat.zero_le _
      · have : (x.leakBank b).bankFree c = x.bankFree c := by
          show mapGet _ (mapPut [(0, 4096)] x.lar.banks b []) c = _
          exact mapGet_put_ne _ _ hbc
        rw [this]

theorem Dev.Leaked.fits {d x : Dev} (h : d.Leaked x) {q k : Nat} (hf : x.fits q k = true) : d.fits q k = true := by
  obtain ⟨⟨-, hget⟩, hq, hc, hp⟩ := h
  exact Dev.fits_of_less (d := d) (e := x) (fun g hg => hget g (by simpa using hg)) hq hc hp hf

/-- A loss is counted, and the items that wait stay (R254). -/
theorem Dev.countLost_one (d : Dev) (q : Nat) : (d.countLost q 1).items q = d.items q ∧
    (d.countLost q 1).get (F.QUE_W2_LOST q) = min (d.get (F.QUE_W2_LOST q) + 1) (2 ^ 32 - 1) := by
  obtain ⟨x, hx⟩ : ∃ x, x = if d.get (F.QUE_W2_LOST q) + 1 < 2 ^ 32 - 1 then d.set (F.QUE_W2_LOST q) (d.get (F.QUE_W2_LOST q) + 1)
    else (d.set (F.QUE_W2_LOST q) (2 ^ 32 - 1)).set (F.QUE_W1_LOSTSAT q) 1 := ⟨_, rfl⟩
  have hcount : x.get (F.QUE_W2_LOST q) = min (d.get (F.QUE_W2_LOST q) + 1) (2 ^ 32 - 1) := by
    rw [hx]
    split_ifs with h
    · rw [Dev.get_set_same]
      show (d.get (F.QUE_W2_LOST q) + 1) % 2 ^ 32 = _
      omega
    · rw [Dev.get_set_ne _ _ (by simp only [fldId, F.QUE_W1_LOSTSAT, F.QUE_W2_LOST]; omega), Dev.get_set_same]
      show (2 ^ 32 - 1) % 2 ^ 32 = _
      omega
  have hlar : x.lar = d.lar := by
    rw [hx]
    split_ifs
    · exact Dev.set_lar _ _ _
    · exact (Dev.set_lar _ _ _).trans (Dev.set_lar _ _ _)
  have hdef : d.countLost q 1 = if q < 256 then { x.owe (List.replicate 1 (.lost q)) with
      lar := { (x.owe (List.replicate 1 (.lost q))).lar with lostEv := mapPut false (x.owe (List.replicate 1 (.lost q))).lar.lostEv q true } }
      else x.owe (List.replicate 1 (.lost q)) := by
    rw [hx]
    rfl
  have hq : (d.countLost q 1).lar.queues = x.lar.queues := by
    rw [hdef]
    split_ifs <;> rfl
  have hget : (d.countLost q 1).get (F.QUE_W2_LOST q) = x.get (F.QUE_W2_LOST q) := by
    rw [hdef]
    split_ifs <;> rfl
  exact ⟨Dev.items_congr (hq.trans (congrArg Larder.queues hlar)) q, hget.trans hcount⟩

/-- While a queue in FIFO mode is full nothing makes room in it (Table 09.2). -/
theorem Dev.makeRoom_fifo {d : Dev} {q k prio n : Nat} (hmode : d.get (F.QUE_W0_MODE q) = 0) :
    d.makeRoom q k prio n = if d.fits q k then some (d, 0) else none := by
  cases n with
  | zero => rfl
  | succ n =>
    simp only [Dev.makeRoom, Dev.victim, hmode]

theorem queueTakesWhole_of_leaked (d : Dev) (q prio stamp : Nat) (data : List Byte) (bad : Nat → Bool) (hmode : d.get (F.QUE_W0_MODE q) = 0)
    (f : Nat) (y : Dev) (hy : d.Leaked y) :
    let k := max 1 (ceilDiv data.length 64)
    let r := Dev.enqueueN q data prio stamp bad f y 0
    (r.2 = 0 ∧ d.fits q k = true ∧ ∃ it : Item, r.1.items q = d.items q ++ [it] ∧ it.data = data ∧ it.prio = prio ∧ it.stamp = stamp ∧
      it.cells.length = k ∧ it.poison = ((List.range k).filter bad).map (it.cells.getD · 0)) ∨
    (r.2 = 1 ∧ r.1.items q = d.items q ∧ r.1.get (F.QUE_W2_LOST q) = min (d.get (F.QUE_W2_LOST q) + 1) (2 ^ 32 - 1) ∧
      ∃ x : Dev, r.1 = x.countLost q 1 ∧ d.Only { x with lar := d.lar } [F.LAR_LEAK_COUNT]) := by
  have hlost {x : Dev} (hx : d.Leaked x) : (x.countLost q 1).items q = d.items q ∧
      (x.countLost q 1).get (F.QUE_W2_LOST q) = min (d.get (F.QUE_W2_LOST q) + 1) (2 ^ 32 - 1) ∧
      ∃ z : Dev, x.countLost q 1 = z.countLost q 1 ∧ d.Only { z with lar := d.lar } [F.LAR_LEAK_COUNT] := by
    obtain ⟨h1, h2⟩ := x.countLost_one q
    have hcnt : x.get (F.QUE_W2_LOST q) = d.get (F.QUE_W2_LOST q) :=
      hx.1.2 _ (by simp only [List.mem_singleton, forall_eq, fldId, F.LAR_LEAK_COUNT, F.QUE_W2_LOST]; omega)
    exact ⟨h1.trans (Dev.items_congr hx.2.1 q), by rw [h2, hcnt], x, rfl, hx.1⟩
  induction f generalizing y with
  | zero => exact .inr ⟨rfl, hlost hy⟩
  | succ f ih =>
    have hmode' : y.get (F.QUE_W0_MODE q) = 0 := by
      rw [← hmode]
      exact hy.1.2 _ (by simp only [List.mem_singleton, forall_eq, fldId, F.LAR_LEAK_COUNT, F.QUE_W0_MODE]; omega)
    simp only [Dev.enqueueN, Dev.makeRoom_fifo hmode']
    by_cases hfits : y.fits q (max 1 (ceilDiv data.length 64)) = true
    · simp only [if_pos hfits]
      cases hb : y.badBank (max 1 (ceilDiv data.length 64)) with
      | some b => exact ih _ (hy.leakBank b)
      | none =>
        simp only
        cases hp : y.putItem q (max 1 (ceilDiv data.length 64)) data prio stamp bad with
        | none => exact .inr ⟨rfl, hlost hy⟩
        | some z =>
          obtain ⟨it, hit, hrest⟩ := Dev.putItem_is hp
          exact .inl ⟨rfl, hy.fits hfits, it, by rw [← Dev.items_congr hy.2.1 q]; exact hit, hrest⟩
    · simp only [if_neg hfits]
      exact .inr ⟨trivial, hlost hy⟩

theorem queueTakesWholeRule : QueueTakesWholeRule := fun d q prio stamp data bad hmode =>
  queueTakesWhole_of_leaked d q prio stamp data bad hmode 17 d (Dev.Leaked.refl d)

/-! ### Streams (R262 to R265, R274, R275, R288, R587, Table 09.5) -/

theorem Dev.itemIn_eq (d : Dev) (st : Nat) (data : List Byte) (stamp : Nat) (poison : Bool) : d.itemIn st data stamp poison =
    if d.strState st ∈ [2, 3] ∧ (d.stream st).srcLost = false ∧ data ≠ [] then ((d.enqueue (512 + st) data 0 stamp poison).1).primed st else d := by
  unfold Dev.itemIn queOf
  simp only [List.mem_cons, List.not_mem_nil, or_false, Bool.not_eq_true']

/-- An item that a source delivers, by the kind of its endpoint (R258, R265, R288). -/
theorem streamItem_is (d : Dev) (st : Nat) (data : List Byte) (stamp : Nat) (bad : List Nat) :
    let k := epKind (d.srcCode st)
    let e := d.streamItem st data stamp bad
    if k = 5 then e = d.ringItem st data bad
    else if d.sourceHeld st = false ∧ d.strState st ∈ [2, 3] ∧ (d.stream st).srcLost = false ∧ data ≠ [] then
      e = (d.enqueue (512 + st) data 0 (if k = 4 then stamp
          else if k = 3 then (d.tdmOf (tdmPort (d.srcCode st))).start % 2 ^ 32 else d.almTime % 2 ^ 32)
        (k == 4 && !bad.isEmpty)).1.primed st
    else e = d := by
  have hdef : d.streamItem st data stamp bad = if epKind (d.srcCode st) = 5 then d.ringItem st data bad
      else if d.sourceHeld st then d else d.itemIn st data (if epKind (d.srcCode st) = 4 then stamp
          else if epKind (d.srcCode st) = 3 then (d.tdmOf (tdmPort (d.srcCode st))).start % 2 ^ 32 else d.almTime % 2 ^ 32)
        (epKind (d.srcCode st) == 4 && !bad.isEmpty) := by
    unfold Dev.streamItem
    split
    · rename_i h; rw [if_pos h]
    · rename_i h; rw [h]; rfl
    · rename_i h; rw [h]; rfl
    · rename_i h5 h4 h3
      rw [if_neg h5, if_neg h4, if_neg h3, beq_false_of_ne h4, Bool.false_and]
  simp only [hdef]
  by_cases h5 : epKind (d.srcCode st) = 5
  · simp only [if_pos h5]
  · simp only [if_neg h5]
    cases d.sourceHeld st
    · simp only [Bool.false_eq_true, if_false, true_and]
      rw [Dev.itemIn_eq]
      by_cases h : d.strState st ∈ [2, 3] ∧ (d.stream st).srcLost = false ∧ data ≠ []
      · rw [if_pos h, if_pos h]
      · rw [if_neg h, if_neg h]
    · simp

/-- Bytes filled up with zeros, cut out at once or filled up after they are cut out. -/
theorem take_fill (l : List Byte) {a c n : Nat} (hc : c ≤ 64) (hac : a + c ≤ n) :
    ((l ++ List.replicate n 0).drop a).take c = (((l.drop a).take 64) ++ List.replicate c 0).take c := by
  refine List.ext_getElem? fun i => ?_
  by_cases hi : i < c
  · rw [List.getElem?_take_of_lt hi, List.getElem?_take_of_lt hi, List.getElem?_drop]
    by_cases hl : a + i < l.length
    · rw [List.getElem?_append_left hl, List.getElem?_append_left (by simp; omega), List.getElem?_take_of_lt (by omega), List.getElem?_drop]
    · rw [List.getElem?_append_right (by omega), List.getElem?_append_right (by simp; omega), List.getElem?_replicate, List.getElem?_replicate,
        if_pos (by omega), if_pos (by simp; omega)]
  · rw [List.getElem?_eq_none (by simp; omega), List.getElem?_eq_none (by simp; omega)]

/-- A source buffer in a tenant's own memory is read as the host completes it, cell by cell (R265). -/
theorem ringGet_is (d : Dev) {t : Nat} (a n : Nat) (l : List Byte) (bad : List Nat) (hpart : d.inPart t = false) :
    d.ringGet t a n l bad = (d, (l ++ List.replicate n 0).take n, (List.range (ceilDiv n 64)).filter bad.contains) := by
  have hcell (k m : Nat) (b : Bool) (x : List Byte) : d.hostGet t k m x b = (d, (x ++ List.replicate m 0).take m, b) := by
    rw [Dev.hostGet, if_neg (by simp [hpart])]
  have hcells (m : Nat) (hm : m ≤ ceilDiv n 64) : (List.range m).foldl (fun r k =>
      let g := r.1.hostGet t (a + 64 * k) (min 64 (n - 64 * k)) ((l.drop (64 * k)).take 64) (bad.contains k)
      (g.1, r.2.1 ++ g.2.1, if g.2.2 then r.2.2 ++ [k] else r.2.2)) (d, [], []) =
      (d, (l ++ List.replicate n 0).take (min n (64 * m)), (List.range m).filter bad.contains) := by
    induction m with
    | zero => simp
    | succ m ih =>
      have hlt : 64 * m < n := by unfold ceilDiv at hm; omega
      rw [List.range_succ, List.foldl_append, ih (by omega), List.foldl_cons, List.foldl_nil]
      simp only [hcell]
      have hbytes : (l ++ List.replicate n 0).take (min n (64 * m)) ++
          ((l.drop (64 * m)).take 64 ++ List.replicate (min 64 (n - 64 * m)) 0).take (min 64 (n - 64 * m)) =
          (l ++ List.replicate n 0).take (min n (64 * (m + 1))) := by
        rw [← take_fill l (n := n) (by omega) (by omega), show min n (64 * m) = 64 * m by omega,
          show min n (64 * (m + 1)) = 64 * m + min 64 (n - 64 * m) by omega, List.take_add]
      rw [hbytes, List.filter_append]
      by_cases hb : m ∈ bad <;> simp [hb]
  have hall := hcells (ceilDiv n 64) le_rfl
  rw [show min n (64 * ceilDiv n 64) = n by unfold ceilDiv; omega] at hall
  exact hall

theorem ringItem_nil {d : Dev} {st : Nat} (data : List Byte) (bad : List Nat)
    (h : d.live (isBuf (ringTenant (d.srcCode st)) (ringSq (d.srcCode st))) = []) : d.ringItem st data bad = d := by
  unfold Dev.ringItem
  simp only [h]

/-- A RING source's buffer (R254, R265). -/
theorem ringItem_is {d : Dev} {st : Nat} {tk : Tkt} {t : List Tkt} (data : List Byte) (bad : List Nat)
    (h : d.live (isBuf (ringTenant (d.srcCode st)) (ringSq (d.srcCode st))) = tk :: t) (hpart : d.inPart tk.t = false) :
    let e := d.ringItem st data bad
    if d.ringPaused (d.srcCode st) = true ∨ d.strState st ∉ [2, 3] ∨
        (d.get (F.QUE_W0_MODE (512 + st)) = 0 ∧ d.fits (512 + st) (ceilDiv tk.len 64) = false) then e = d
    else
      let at' := if bitOf (tk.word 1) 16 then tk.word 5 else d.almTime % 2 ^ 32
      let hit := (List.range (ceilDiv tk.len 64)).filter bad.contains
      let x := ((d.enqueueAs (512 + st) ((data ++ List.replicate tk.len 0).take tk.len) 0 at' fun k => hit.contains k).1.primed
        st).finish tk (if hit = [] then .done else .ePoison) tk.len at'
      e = if hit = [] then x else x.hifEvent 0 tk.t := by
  have hcond : (d.ringPaused (d.srcCode st) || !(d.strState st == 2 || d.strState st == 3) ||
      (d.get (F.QUE_W0_MODE (queOf st)) == 0 && !d.fits (queOf st) (ceilDiv tk.len 64))) =
      decide (d.ringPaused (d.srcCode st) = true ∨ d.strState st ∉ [2, 3] ∨
        (d.get (F.QUE_W0_MODE (512 + st)) = 0 ∧ d.fits (512 + st) (ceilDiv tk.len 64) = false)) := by
    rw [Bool.eq_iff_iff, queOf]
    simp only [Bool.or_eq_true, Bool.and_eq_true, Bool.not_eq_true', Bool.or_eq_false_iff, beq_iff_eq, beq_eq_false_iff_ne,
      decide_eq_true_eq, List.mem_cons, List.not_mem_nil, or_false, not_or, or_assoc]
  unfold Dev.ringItem
  simp only [h, hcond, ringGet_is d tk.addr tk.len data bad hpart]
  by_cases hc : d.ringPaused (d.srcCode st) = true ∨ d.strState st ∉ [2, 3] ∨
      (d.get (F.QUE_W0_MODE (512 + st)) = 0 ∧ d.fits (512 + st) (ceilDiv tk.len 64) = false)
  · simp only [hc, decide_true, if_true]
  · simp only [hc, decide_false, Bool.false_eq_true, if_false]
    rfl

/-- PREFILL turns PRIMING into RUN (R262). -/
theorem primed_is {d : Dev} {st : Nat} (h : d.strState st = 2) : if d.get (F.STR_W1_PREFILL st) ≤ d.qCells (512 + st) then
      (d.primed st).strState st = 3 ∧ (∀ k ∈ ((d.primed st).stream st).sinks, k.2.active = true) ∧
        d.Only { d.primed st with strm := d.strm } [F.STR_W0_STATE st]
    else d.primed st = d := by
  unfold Dev.primed
  by_cases hp : d.get (F.STR_W1_PREFILL st) ≤ d.qCells (512 + st)
  · simp only [if_pos hp, h, queOf, true_and]
    refine ⟨Dev.get_set_same _ _ _, fun k hk => ?_, rfl, (d.only_set _ _).2⟩
    have hs : ((d.set (F.STR_W0_STATE st) 3).modStream st fun x => { x with sinks := x.sinks.map fun e => (e.1, { e.2 with active := true }) }).stream st =
        { (d.stream st) with sinks := (d.stream st).sinks.map fun e => (e.1, { e.2 with active := true }) } := mapGet_put_same _ _ _
    rw [hs] at hk
    obtain ⟨e, -, rfl⟩ := List.mem_map.mp hk
    rfl
  · simp only [if_neg hp]
    exact if_neg fun hc => hp hc.2

theorem sourceLost_is (d : Dev) (st : Nat) (dead : Bool) : let e := d.sourceLost st dead
    if d.strState st = 0 ∨ (d.strState st = 5 ∧ (d.stream st).preFence = 0) then e = d
    else ∃ x : Dev, (x.stream st).srcLost = true ∧ x = { d with strm := x.strm } ∧
      e = if (d.stream st).srcLost then x else x.notify (d.strOwner st) 0x0A01 st 13 0 := by
  have hb : (!d.strBound st) = decide (d.strState st = 0 ∨ (d.strState st = 5 ∧ (d.stream st).preFence = 0)) := by
    rw [Bool.eq_iff_iff, Dev.strBound]
    simp only [Bool.not_eq_true', Bool.and_eq_false_iff, bne_eq_false_iff_eq, Bool.not_eq_false', Bool.and_eq_true, beq_iff_eq,
      decide_eq_true_eq]
  unfold Dev.sourceLost
  simp only [hb]
  by_cases h : d.strState st = 0 ∨ (d.strState st = 5 ∧ (d.stream st).preFence = 0)
  · simp only [h, decide_true, if_true]
  · simp only [h, decide_false, Bool.false_eq_true, if_false]
    refine ⟨d.setStream st { d.stream st with srcLost := true, srcDead := (d.stream st).srcDead || dead }, ?_, rfl, rfl⟩
    exact congrArg Strm.srcLost (mapGet_put_same _ _ _)

theorem Dev.trimTo_nil {d : Dev} {q : Nat} (h : d.items q = []) (m n : Nat) : d.trimTo q m n = d := by
  cases n with
  | zero => rfl
  | succ n =>
    unfold Dev.trimTo
    rw [h]

theorem Dev.trimStream_nil {d : Dev} {st : Nat} (h : d.items (queOf st) = []) : d.trimStream st = d := by
  unfold Dev.trimStream
  split
  · rfl
  · exact Dev.trimTo_nil h _ _

/-- A sink that leaves a stream whose queue is empty. -/
theorem Dev.sinkLeaves_is {d : Dev} {st : Nat} (h : d.items (queOf st) = []) (i : Nat) :
    (d.sinkLeaves st i).items (queOf st) = [] ∧ (d.sinkLeaves st i).strState st = d.strState st := by
  unfold Dev.sinkLeaves
  split_ifs
  · obtain ⟨x, hx⟩ : ∃ x, x = ((d.usbRelease (d.get (sownFld st i)) (d.sink st i).charge).set (sinkFld st i) 0).set (sownFld st i) 0 := ⟨_, rfl⟩
    have hdef : d.removeSink st i = (x.modStream st fun y => { y with sinks := mapErase y.sinks i }).trimStream st := by rw [hx]; rfl
    have hitems : x.items (queOf st) = [] := by rw [hx]; exact h
    have hstate : x.strState st = d.strState st := by
      rw [hx, Dev.strState, Dev.get_set_ne, Dev.get_set_ne, Dev.usbRelease, Dev.get_set_ne]
      · rfl
      · simp only [fldId, F.TEN_USEUSB_USED, F.STR_W0_STATE]; omega
      · simp only [fldId, sinkFld, F.STR_W0_STATE]; omega
      · simp only [fldId, sownFld, F.STR_W0_STATE]; omega
    rw [hdef, Dev.trimStream_nil (by exact hitems)]
    exact ⟨hitems, hstate⟩
  · exact ⟨h, rfl⟩

theorem Dev.sinksLeave_is {d : Dev} {st : Nat} (h : d.items (queOf st) = []) (l : List (Nat × SinkPos)) :
    let e := l.foldl (fun d k => d.sinkLeaves st k.1) d
    e.items (queOf st) = [] ∧ e.strState st = d.strState st := by
  induction l generalizing d with
  | nil => exact ⟨h, rfl⟩
  | cons k l ih =>
    obtain ⟨h1, h2⟩ := Dev.sinkLeaves_is h k.1
    obtain ⟨k1, k2⟩ := ih h1
    exact ⟨k1, k2.trans h2⟩

theorem Dev.emptyQueue_is (d : Dev) (q st : Nat) : (d.emptyQueue q).items q = [] ∧ (d.emptyQueue q).strState st = d.strState st := by
  refine ⟨?_, ?_⟩
  · have h : (((d.setItems q []).giveCells ((d.items q).foldl (fun a i => a ++ i.cells) [])).setCharge (d.qOwner q)
        (d.charge (d.qOwner q) - cellsOf (d.items q))).lar.queues = (d.setItems q []).lar.queues := Dev.giveCells_queues _ _
    exact (Dev.items_congr h q).trans (Dev.setItems_items _ _ _)
  · refine (Dev.told_giveCells (d.setItems q []) _).2 (F.STR_W0_STATE st) ⟨fun p => ⟨?_, ?_⟩, ?_, ?_, ?_⟩ (by simp) <;>
      simp only [fldId, F.STR_W0_STATE, F.QUE_W2_LOST, F.QUE_W1_LOSTSAT, F.LAR_LEAK_COUNT, F.ECC_INJ_COUNT, F.ECC_INJ_ARM] <;> omega

/-- A drained queue is empty, and no sink has a position in it (R264, Table 09.5). -/
theorem drain_is (d : Dev) (st : Nat) : let e := d.drain st
    if d.flushing st = true then
      e.items (512 + st) = [] ∧ (e.stream st).drained = true ∧ e.strState st = d.strState st ∧
      ∀ k ∈ (e.stream st).sinks, k.2.pos = 0 ∧ k.2.active = false
    else e = d := by
  unfold Dev.drain
  by_cases h : d.flushing st = true
  · simp only [if_pos h]
    obtain ⟨h1, h2⟩ := d.emptyQueue_is (queOf st) st
    obtain ⟨k1, k2⟩ := Dev.sinksLeave_is h1 (d.stream st).sinks
    generalize (d.stream st).sinks.foldl _ _ = x at *
    have hs : ((x.modStream st fun y => { y with drained := true, sinks := y.sinks.map fun e => (e.1, e.2.flushed) }).stream st) =
        { x.stream st with drained := true, sinks := (x.stream st).sinks.map fun e => (e.1, e.2.flushed) } := mapGet_put_same _ _ _
    rw [hs]
    refine ⟨k1, rfl, k2.trans h2, fun k hk => ?_⟩
    obtain ⟨e, -, rfl⟩ := List.mem_map.mp hk
    exact ⟨rfl, rfl⟩
  · simp only [if_neg h]

/-- A flush that is over (Table 09.5). -/
theorem flushDone_is (d : Dev) (st : Fin 256) : let e := d.flushDone st.val
    if d.flushing st.val = true ∧ (d.stream st.val).drained = true then
      (if d.strState st.val = 5 then e.strState st.val = 5 ∧ (e.stream st.val).preFence = 1 else e.strState st.val = 1) ∧
      e.get (F.QUE_W1_FLUSHING (512 + st.val)) = 0 ∧ (e.stream st.val).drained = false ∧
      d.Only { e with strm := d.strm, hif := d.hif } [F.STR_W0_STATE st.val, F.QUE_W1_FLUSHING (512 + st.val)]
    else e = d := by
  unfold Dev.flushDone
  simp only [Bool.and_eq_true]
  have hst := st.isLt
  have hne : fldId (F.QUE_W1_FLUSHING (queOf st.val)) ≠ fldId (F.STR_W0_STATE st.val) := by
    simp only [queOf, fldId, F.QUE_W1_FLUSHING, F.STR_W0_STATE]; omega
  by_cases h : d.flushing st.val = true ∧ (d.stream st.val).drained = true
  · simp only [if_pos h]
    by_cases h5 : d.strState st.val = 5
    · simp only [if_pos h5]
      exact ⟨⟨(Dev.get_set_ne _ _ hne).trans h5, congrArg Strm.preFence (mapGet_put_same _ _ _)⟩, Dev.get_set_same _ _ _,
        congrArg Strm.drained (mapGet_put_same _ _ _), rfl, ((d.only_set _ 0).mono (by simp [queOf])).2⟩
    · simp only [if_neg h5]
      refine ⟨(Dev.get_set_ne _ _ hne).trans (Dev.get_set_same _ _ _), Dev.get_set_same _ _ _,
        congrArg Strm.drained (mapGet_put_same _ _ _), rfl, ?_⟩
      exact ((d.only_set (F.STR_W0_STATE st.val) 1).trans (Dev.only_set _ (F.QUE_W1_FLUSHING (512 + st.val)) 0)).2
  · simp only [if_neg h]

theorem streamsRule : StreamsRule := by
  intro s st hup
  refine ⟨fun data stamp bad => Ends.of_act hup ?_, fun data bad h => ringItem_nil data bad h,
    fun data bad tk t h hp => ringItem_is data bad h hp, fun d h => primed_is h, Ends.of_act hup ?_, Ends.of_act hup ?_, Ends.of_act hup ?_,
    fun q k => Ends.of_act hup ?_⟩ <;> generalize s.dev = d
  · have h := streamItem_is d st.val data stamp.toNat (bad.map Fin.val)
    rw [List.isEmpty_map] at h
    exact h
  · exact sourceLost_is d st.val _
  · exact drain_is d st.val
  · exact flushDone_is d st
  · unfold Dev.spacingEnd
    generalize mapGet 0 d.lar.spacing (3 * q.val + k.val) = v
    match v with
    | 0 => rfl
    | 1 => rfl
    | _ + 2 => rfl

/-- Settles O33: an item is queued whole or counted as lost, whatever banks leak meanwhile; and each thing that a stream does, by its state
and the kind of its source. -/
theorem queuesAndStreams : Obligations.QueuesAndStreams := ⟨queueTakesWholeRule, streamsRule⟩

end Sys2Proof.Machine

/-!
SUPPORT. The Larder's lock, partition and counts (chapter 09).
-/
namespace Sys2Proof.Machine

open Sys2Proof

/-! ### The Larder's registers (R251, R252, R254, R279) -/

/-- After a write of a row, a field of it reads as the write of that field alone leaves it. -/
theorem Dev.writeRow_get_fld {sp : Space} {row : RegRow} {i : Nat} {w : Word} {g : FldRow} (d : Dev) (hg : g ∈ row.fields)
    (hapart : row.fields.Pairwise fun f g => g.lo ≠ f.lo) : ∃ x : Dev, x.get (rowFld sp row i g) = d.get (rowFld sp row i g) ∧
      (d.writeRow sp row i w).get (rowFld sp row i g) = (x.writeFld sp row i w g).get (rowFld sp row i g) := by
  obtain ⟨pre, post, hl⟩ := List.append_of_mem hg
  rw [hl] at hapart
  obtain ⟨-, hcons, hpre⟩ := List.pairwise_append.mp hapart
  refine ⟨pre.foldl (fun d f => d.writeFld sp row i w f) d, ?_, ?_⟩
  · exact Dev.foldl_writeFld_get_ne _ fun f hf => (hpre f hf g (by simp)).symm
  · rw [Dev.writeRow, hl, List.foldl_append, List.foldl_cons]
    exact Dev.foldl_writeFld_get_ne _ (List.pairwise_cons.mp hcons).1

/-- A field that writing 1 sets. -/
theorem Dev.writeRow_get_w1s {sp : Space} {row : RegRow} {i : Nat} {w : Word} {g : FldRow} (d : Dev) (hg : g ∈ row.fields)
    (hapart : row.fields.Pairwise fun f g => g.lo ≠ f.lo) (hacc : g.acc = .w1s) :
    (d.writeRow sp row i w).get (rowFld sp row i g) = (d.get (rowFld sp row i g) ||| wordFld w g) % 2 ^ g.w := by
  obtain ⟨x, hx, h⟩ := d.writeRow_get_fld (sp := sp) (i := i) (w := w) hg hapart
  rw [h, Dev.writeFld, ← hx]
  simp only [hacc]
  exact Dev.get_set_same _ _ _

/-- A field that writing 1 clears. -/
theorem Dev.writeRow_get_w1c {sp : Space} {row : RegRow} {i : Nat} {w : Word} {g : FldRow} (d : Dev) (hg : g ∈ row.fields)
    (hapart : row.fields.Pairwise fun f g => g.lo ≠ f.lo) (hacc : g.acc = .w1c) :
    (d.writeRow sp row i w).get (rowFld sp row i g) = (d.get (rowFld sp row i g) &&& (2 ^ g.w - 1 - wordFld w g)) % 2 ^ g.w := by
  obtain ⟨x, hx, h⟩ := d.writeRow_get_fld (sp := sp) (i := i) (w := w) hg hapart
  rw [h, Dev.writeFld, ← hx]
  simp only [hacc]
  exact Dev.get_set_same _ _ _

theorem larCtrl_apart : R.LAR_CTRL.fields.Pairwise fun f g => g.lo ≠ f.lo := by simp [R.LAR_CTRL]

theorem Dev.larCtrl_unlocked (d : Dev) (w : Word) : d.changesLocked .bar0 R.LAR_CTRL 0 w = false := by
  simp [Dev.changesLocked, R.LAR_CTRL]

theorem Dev.only_writeLarCtrl (d : Dev) (w : Word) : d.Only (d.writeRow .bar0 R.LAR_CTRL 0 w) [F.LAR_CTRL_LOCK, F.LAR_CTRL_DEVRES] :=
  d.only_writeRow .bar0 R.LAR_CTRL 0 w

theorem Dev.writeLarCtrl_lock (d : Dev) (w : Word) :
    (d.writeRow .bar0 R.LAR_CTRL 0 w).get F.LAR_CTRL_LOCK = (d.get F.LAR_CTRL_LOCK ||| bits w.toNat 31 1) % 2 :=
  d.writeRow_get_w1s (g := ⟨31, 1, .w1s, fun _ => 0⟩) (by simp [R.LAR_CTRL]) larCtrl_apart rfl

theorem Dev.writeLarCtrl_devres (d : Dev) (w : Word) : (d.writeRow .bar0 R.LAR_CTRL 0 w).get F.LAR_CTRL_DEVRES = bits w.toNat 16 12 :=
  d.writeRow_get (g := ⟨16, 12, .rw, fun _ => 256⟩) (by simp [R.LAR_CTRL]) larCtrl_apart (.inl rfl)

/-- Beginning the set-aside changes no register. -/
theorem Dev.startSetAside_eq (d : Dev) : ∃ l : Larder, d.startSetAside = { d with lar := l } := by
  unfold Dev.startSetAside
  split_ifs <;> exact ⟨_, rfl⟩

theorem or_one_mod_two (n : Nat) : (n ||| 1) % 2 = 1 := by simp

theorem larLock_is {d : Dev} {w : Word} (hup : d.up = true) (hres : setsReserved R.LAR_CTRL w = false) (h31 : bits w.toNat 31 1 = 1)
    (h0 : bitOf w.toNat 0 = false) : let e := d.writeLarCtrl w
    if 3840 < d.quotaSum (bits w.toNat 16 12) (d.get F.LAR_PART_COUNT) then RecordedGlb d e 0x5A00 .eNores
    else e.get F.LAR_CTRL_LOCK = 1 ∧ e.get F.LAR_CTRL_DEVRES = bits w.toNat 16 12 ∧
      d.Only { e with lar := d.lar } [F.LAR_CTRL_LOCK, F.LAR_CTRL_DEVRES] ∧
      (d.is F.LAR_CTRL_LOCK = false → d.is F.GLB_CTRL_LOCK = true → d.stewardHost = true → d.is F.LAR_CTRL_PARTOK = false →
        e.lar = { d.lar with settingAside := true }) := by
  unfold Dev.writeLarCtrl
  simp only
  by_cases hsum : 3840 < d.quotaSum (bits w.toNat 16 12) (d.get F.LAR_PART_COUNT)
  · rw [if_pos hsum, Dev.regWrite_rejected hup (st := .eNores) (by decide)]
    · exact recordedGlb_recordGlb d 0x5A00 .eNores
    · rw [hres, d.larCtrl_unlocked w, decide_eq_true hsum]
      rfl
  · rw [if_neg hsum, Dev.regWrite_done hup (by rw [hres, d.larCtrl_unlocked w, decide_eq_false hsum]; rfl)]
    simp only [h0, Bool.false_eq_true, if_false]
    have honly := d.only_writeLarCtrl w
    have hlock := d.writeLarCtrl_lock w
    rw [h31, or_one_mod_two] at hlock
    have hdev := d.writeLarCtrl_devres w
    generalize d.writeRow .bar0 R.LAR_CTRL 0 w = x at *
    by_cases hl : d.is F.LAR_CTRL_LOCK = true
    · rw [if_pos hl]
      refine ⟨hlock, hdev, ?_, fun h => by simp [hl] at h⟩
      obtain ⟨m, rfl⟩ := honly.eq_with
      exact honly
    · rw [if_neg hl]
      obtain ⟨l, hx⟩ := x.startSetAside_eq
      obtain ⟨m, rfl⟩ := honly.eq_with
      refine ⟨by rw [hx]; exact hlock, by rw [hx]; exact hdev, by rw [hx]; exact honly, fun _ hglb hhost hpart => ?_⟩
      have hglb' : Dev.is { d with fld := m } F.GLB_CTRL_LOCK = true := (congrArg (· == 1) (honly.2 _ (by decide))).trans hglb
      have hpart' : Dev.is { d with fld := m } F.LAR_CTRL_PARTOK = false := (congrArg (· == 1) (honly.2 _ (by decide))).trans hpart
      have hlock' : Dev.is { d with fld := m } F.LAR_CTRL_LOCK = true := congrArg (· == 1) hlock
      have hhost' : Dev.stewardHost { d with fld := m } = true := by
        have ht0 : Dev.is { d with fld := m } F.GLB_CTRL_T0HOST = d.is F.GLB_CTRL_T0HOST := congrArg (· == 1) (honly.2 _ (by decide))
        rw [← hhost, Dev.stewardHost, Dev.stewardHost, hglb', hglb, ht0]
      rw [Dev.startSetAside, hlock', hglb', hhost', hpart']
      rfl

/-- Clearing counts (R254). -/
theorem Dev.clearLost_is (d : Dev) (q : Nat) : (d.clearLost q).get (F.QUE_W2_LOST q) = 0 ∧ (d.clearLost q).get (F.QUE_W1_LOSTSAT q) = 0 ∧
    d.Only (d.clearLost q) [F.QUE_W2_LOST q, F.QUE_W1_LOSTSAT q] :=
  ⟨(Dev.get_set_ne _ _ (by simp only [fldId, F.QUE_W1_LOSTSAT, F.QUE_W2_LOST]; omega)).trans (Dev.get_set_same _ _ _), Dev.get_set_same _ _ _,
    (d.only_set _ _).trans (Dev.only_set _ _ _)⟩

theorem Dev.clearCounts_is (d : Dev) (q : Nat) : (d.clearCounts q).get (F.QUE_W3_UNDER q) = 0 ∧ (d.clearCounts q).get (F.QUE_W3_POISON q) = 0 ∧
    d.Only (d.clearCounts q) [F.QUE_W3_UNDER q, F.QUE_W3_POISON q] :=
  ⟨(Dev.get_set_ne _ _ (by simp only [fldId, F.QUE_W3_POISON, F.QUE_W3_UNDER]; omega)).trans (Dev.get_set_same _ _ _), Dev.get_set_same _ _ _,
    (d.only_set _ _).trans (Dev.only_set _ _ _)⟩

/-- What is counted of a queue. -/
def countFlds (q : Nat) : List Fld := [F.QUE_W2_LOST q, F.QUE_W1_LOSTSAT q, F.QUE_W3_UNDER q, F.QUE_W3_POISON q]

theorem Dev.clearAll_is (l : List Nat) (d : Dev) : let e := l.foldl (fun d q => (d.clearLost q).clearCounts q) d
    d.Only e (l.flatMap countFlds) ∧ ∀ q, q ∈ l ∨ (∀ f ∈ countFlds q, d.get f = 0) → ∀ f ∈ countFlds q, e.get f = 0 := by
  induction l generalizing d with
  | nil => exact ⟨Dev.Only.refl _ _, fun q h f hf => by simpa using h.elim (by simp) (fun h => h f hf)⟩
  | cons a l ih =>
    obtain ⟨x, hx⟩ : ∃ x, x = (d.clearLost a).clearCounts a := ⟨_, rfl⟩
    obtain ⟨k1, k2⟩ := ih x
    obtain ⟨hlost, hsat, h1⟩ := d.clearLost_is a
    obtain ⟨hund, hpoi, h2⟩ := (d.clearLost a).clearCounts_is a
    have honly : d.Only x (countFlds a) := by rw [hx]; exact h1.trans h2
    have hsame : ∀ f ∈ countFlds a, x.get f = 0 := by
      have hne {f : Fld} (hf : f ∈ [F.QUE_W2_LOST a, F.QUE_W1_LOSTSAT a]) : ∀ g ∈ [F.QUE_W3_UNDER a, F.QUE_W3_POISON a], fldId g ≠ fldId f := by
        simp only [List.mem_cons, List.not_mem_nil, or_false] at hf
        rcases hf with rfl | rfl <;>
          simp only [List.mem_cons, List.not_mem_nil, or_false, forall_eq_or_imp, forall_eq, fldId, F.QUE_W3_UNDER, F.QUE_W3_POISON,
            F.QUE_W2_LOST, F.QUE_W1_LOSTSAT] <;> omega
      intro f hf
      simp only [countFlds, List.mem_cons, List.not_mem_nil, or_false] at hf
      rw [hx]
      rcases hf with rfl | rfl | rfl | rfl
      · rw [h2.2 _ (hne (by simp)), hlost]
      · rw [h2.2 _ (hne (by simp)), hsat]
      · exact hund
      · exact hpoi
    rw [List.foldl_cons, ← hx]
    refine ⟨by simpa using honly.trans k1, fun q hq => k2 q ?_⟩
    by_cases hqa : q = a
    · subst hqa
      exact .inr hsame
    · refine hq.imp (fun h => by simpa [hqa] using h) fun h f hf => ?_
      rw [honly.2 f fun g hg => ?_]
      · exact h f hf
      · simp only [countFlds, List.mem_cons, List.not_mem_nil, or_false] at hf hg
        rcases hf with rfl | rfl | rfl | rfl <;> rcases hg with rfl | rfl | rfl | rfl <;>
          simp only [fldId, F.QUE_W3_UNDER, F.QUE_W3_POISON, F.QUE_W2_LOST, F.QUE_W1_LOSTSAT] <;> omega

theorem larCntclr_is {d : Dev} {w : Word} (hup : d.up = true) (hres : setsReserved R.LAR_CTRL w = false) (h31 : bits w.toNat 31 1 = 0)
    (h0 : bitOf w.toNat 0 = true) (hlt : d.get F.LAR_CTRL_LOCK < 2) (hsum : d.quotaSum (bits w.toNat 16 12) (d.get F.LAR_PART_COUNT) ≤ 3840) :
    let e := d.writeLarCtrl w
    e.lar = d.lar ∧ ∀ q : Fin 1024, e.get (F.QUE_W2_LOST q.val) = 0 ∧ e.get (F.QUE_W1_LOSTSAT q.val) = 0 ∧
      e.get (F.QUE_W3_UNDER q.val) = 0 ∧ e.get (F.QUE_W3_POISON q.val) = 0 := by
  obtain ⟨x, hx⟩ : ∃ x, x = d.writeRow .bar0 R.LAR_CTRL 0 w := ⟨_, rfl⟩
  obtain ⟨y, hy⟩ : ∃ y, y = (List.range 1024).foldl (fun d q => (d.clearLost q).clearCounts q) x := ⟨_, rfl⟩
  have hdef : d.writeLarCtrl w = if d.is F.LAR_CTRL_LOCK then y else y.startSetAside := by
    unfold Dev.writeLarCtrl
    simp only
    rw [Dev.regWrite_done hup (by rw [hres, d.larCtrl_unlocked w, decide_eq_false (by omega)]; rfl), hy, hx]
    simp only [h0, if_true]
  obtain ⟨h1, h2⟩ := Dev.clearAll_is (List.range 1024) x
  rw [← hy] at h1 h2
  have hlock : x.get F.LAR_CTRL_LOCK = d.get F.LAR_CTRL_LOCK := by
    rw [hx, d.writeLarCtrl_lock w, h31, Nat.or_zero]
    exact Nat.mod_eq_of_lt hlt
  have hylock : y.get F.LAR_CTRL_LOCK = d.get F.LAR_CTRL_LOCK := by
    rw [h1.2 _ fun f hf => ?_, hlock]
    obtain ⟨q, -, hf⟩ := List.mem_flatMap.mp hf
    simp only [countFlds, List.mem_cons, List.not_mem_nil, or_false] at hf
    rcases hf with rfl | rfl | rfl | rfl <;>
      simp only [fldId, F.QUE_W3_UNDER, F.QUE_W3_POISON, F.QUE_W2_LOST, F.QUE_W1_LOSTSAT, F.LAR_CTRL_LOCK] <;> omega
  have hend : d.writeLarCtrl w = y := by
    rw [hdef]
    by_cases hl : d.is F.LAR_CTRL_LOCK = true
    · rw [if_pos hl]
    · have hyl : y.is F.LAR_CTRL_LOCK = false := by
        rw [Dev.is, hylock]
        simpa [Dev.is] using hl
      rw [if_neg hl, Dev.startSetAside, hyl]
      rfl
  simp only [hend]
  refine ⟨?_, fun q => ?_⟩
  · rw [h1.1, hx, (d.only_writeLarCtrl w).1]
  · have hq := h2 q.val (.inl (List.mem_range.mpr q.isLt))
    exact ⟨hq _ (by simp [countFlds]), hq _ (by simp [countFlds]), hq _ (by simp [countFlds]), hq _ (by simp [countFlds])⟩

theorem queW1_apart : R.QUE_W1.fields.Pairwise fun f g => g.lo ≠ f.lo := by simp [R.QUE_W1]

theorem Dev.only_writeQueW1 (d : Dev) (q : Nat) (w : Word) : d.Only (d.writeRow .bar0 R.QUE_W1 q w) [F.QUE_W1_LOSTSAT q] :=
  d.only_writeRow .bar0 R.QUE_W1 q w

theorem Dev.writeQueW1_eq {d : Dev} {q : Nat} {w : Word} (hup : d.up = true) (hres : setsReserved R.QUE_W1 w = false) :
    d.writeQueW1 q w = let n1 := if bitOf w.toNat 31 then (d.writeRow .bar0 R.QUE_W1 q w).clearLost q else d.writeRow .bar0 R.QUE_W1 q w
      if bitOf w.toNat 30 then n1.clearCounts q else n1 := by
  unfold Dev.writeQueW1
  rw [Dev.regWrite_done hup (by rw [hres]; rfl)]

/-- The end of the set-aside (R252). -/
theorem setAsideDone_is {d : Dev} (h : d.lar.settingAside = true) : let e := d.setAsideDone
    e.get F.LAR_CTRL_PARTOK = 1 ∧ e.lar.settingAside = false ∧ e.lar.partCells = 16 * d.get F.LAR_PART_COUNT ∧
      e.lar.partBase = d.get F.LAR_PART_BASE ∧ e.ecc.part = [] ∧ e.ecc.partPoison = [] := by
  unfold Dev.setAsideDone
  simp only [h, Bool.not_true, Bool.false_eq_true, if_false]
  exact ⟨Dev.get_set_same _ _ _, trivial, trivial, trivial, trivial, trivial⟩

/-- Settles O34: each write of LAR_CTRL and of a queue's counts by the bits it sets, and the end of the set-aside. -/
theorem larderRegisters : Obligations.LarderRegisters := by
  intro s hup
  refine ⟨fun w hres h0 => Ends.of_act hup ?_, fun h => Ends.of_act hup (setAsideDone_is h), fun h => Ends.of_act hup ?_,
    fun w hres h31 hlt hsum => Ends.of_act hup ?_, fun q w hres h30 => Ends.of_act hup ?_, fun q w hres h31 => Ends.of_act hup ?_⟩
  · exact larLock_is hup hres (bits_withBit_same w (by decide)) h0
  · rw [Dev.setAsideDone, h]
    rfl
  · exact larCntclr_is hup hres (by rw [bits_one_eq, h31]; rfl) (bitOf_withBit_same w (by decide)) hlt hsum
  · rw [Dev.writeQueW1_eq hup hres]
    simp only [bitOf_withBit_same w (show 31 < 32 by decide), h30, if_true, Bool.false_eq_true, if_false]
    obtain ⟨h1, h2, h3⟩ := (s.dev.writeRow .bar0 R.QUE_W1 q.val (withBit w 31)).clearLost_is q.val
    exact ⟨h1, h2, ((s.dev.only_writeQueW1 q.val _).trans h3).mono (by simp)⟩
  · rw [Dev.writeQueW1_eq hup hres]
    simp only [bitOf_withBit_same w (show 30 < 32 by decide), h31, if_true, Bool.false_eq_true, if_false]
    obtain ⟨h1, h2, h3⟩ := (s.dev.writeRow .bar0 R.QUE_W1 q.val (withBit w 30)).clearCounts_is q.val
    refine ⟨h1, h2, ?_, ((s.dev.only_writeQueW1 q.val _).trans h3).mono (by simp)⟩
    have hsat : (s.dev.writeRow .bar0 R.QUE_W1 q.val (withBit w 30)).get (F.QUE_W1_LOSTSAT q.val) =
        (s.dev.get (F.QUE_W1_LOSTSAT q.val) &&& (2 ^ 1 - 1 - bits (withBit w 30).toNat 31 1)) % 2 ^ 1 :=
      s.dev.writeRow_get_w1c (g := ⟨31, 1, .w1c, fun _ => 0⟩) (by simp [R.QUE_W1]) queW1_apart rfl
    rw [h3.2 _ ?_, hsat, bits_one_eq, h31]
    · show (_ &&& 1) % 2 = _
      rw [Nat.and_one_is_mod, Nat.mod_mod]
    · simp only [List.mem_cons, List.not_mem_nil, or_false, forall_eq_or_imp, forall_eq, fldId, F.QUE_W3_UNDER, F.QUE_W3_POISON,
        F.QUE_W1_LOSTSAT]
      omega

end Sys2Proof.Machine

/-!
SUPPORT. The serial audio ports (chapter 10): a clock loss that takes a sink beyond index 7 along, which refutes O35.
-/
namespace Sys2Proof.Machine

open Sys2Proof

/-! ### The end of a command that leaves one fault event to account for -/

/-- The registers that follow their conditions at the end of every command. -/
def levelFlds : List Fld := [F.SUP_STAT_INPUT, F.SUP_STAT_LOWPACK] ++ modeFlds

theorem Dev.levels_get (d : Dev) {g : Fld} (hg : ∀ f ∈ levelFlds, fldId f ≠ fldId g) : d.levels.get g = d.get g := by
  have hw (x : Dev) : x.wakeSteward.get g = x.get g := by
    unfold Dev.wakeSteward
    split_ifs
    · exact x.rouse_get g
    · rfl
  have hm : d.statShown.pathShown.get g = d.statShown.get g :=
    d.statShown.only_ratModes.2 g fun f hf => hg f (List.mem_append_right _ hf)
  rw [Dev.levels_eq, hw, hm, Dev.statShown, Dev.setB_get_ne _ _ (hg _ (by simp [levelFlds])), Dev.setB_get_ne _ _ (hg _ (by simp [levelFlds]))]

/-- Where the one event left is of a COUNT source and nothing else waits, the end of the command changes no register but those of
`levelFlds`. -/
theorem Dev.settle_get_of_count {d : Dev} {u src : Nat} (hdue : d.lar.due = [.fault u src]) (hclass : d.get (F.FLT_SRC_CLASS src) = 0)
    (hin : d.is F.SUP_STAT_INPUT = true) (hstage : d.get F.SUP_STAT_STAGE = 0) (hwait : d.pow.abortWait = false)
    (habort : d.pow.aborting = none) {g : Fld} (hg : ∀ f ∈ levelFlds, fldId f ≠ fldId g) : d.settle.get g = d.get g := by
  obtain ⟨x, hx⟩ : ∃ x : Dev, x = { d with lar := { d.lar with due := [] } } := ⟨_, rfl⟩
  have hxdue : x.lar.due = [] := by rw [hx]
  have hfault : x.fault u src = x := by
    have hc : x.get (F.FLT_SRC_CLASS src) = 0 := by rw [hx]; exact hclass
    rw [Dev.fault, if_pos hc]
  have hfirst : d.settleN 4 = x := by
    have hstep : d.settleN 4 = ([Due.fault u src].foldl Dev.settleOne x).settleN 3 := by
      rw [Dev.settleN, hdue, hx]
    rw [hstep, List.foldl_cons, List.foldl_nil, Dev.settleOne, hfault]
    exact x.settleN_nil 3 hxdue
  have hedge : x.inputEdge = x := by
    have hi : x.is F.SUP_STAT_INPUT = true := by rw [hx]; exact hin
    rw [Dev.inputEdge, hi, Bool.or_true, Bool.true_or]
    rfl
  have hprog : x.progress = x := by
    have hs : x.get F.SUP_STAT_STAGE = 0 := by rw [hx]; exact hstage
    have hw : x.pow.abortWait = false := by rw [hx]; exact hwait
    have ha : x.pow.aborting = none := by rw [hx]; exact habort
    simp [Dev.progress, hs, hw, ha]
  rw [Dev.settle, hfirst, hedge, hprog, x.settleN_nil 4 hxdue, x.levels_get hg, hx]
  rfl

/-- Events for tenants of which none exists go nowhere. -/
theorem Dev.notifyAll_absent {d : Dev} (h : ∀ t, d.tenantExists t = false) (ts : List Nat) (code inst arg count : Nat) :
    d.notifyAll ts code inst arg count = d := by
  induction ts with
  | nil => rfl
  | cons t ts ih =>
    have hn : d.notify t code inst arg count = d := by
      rw [Dev.notify, h t]
      rfl
    rw [Dev.notifyAll, List.foldl_cons, hn]
    exact ih

/-! ### A clock loss that ends a sink of an index beyond 7 (R298) -/

/-- TDMA enabled and running, with CLKLOSS at 24,576: a stream that runs lists sink 12,292, whose field of the STR entry would lie at
0xC010, where CLKLOSS of TDMA lies. It reads as the code of an endpoint on TDMA, is sending a bank, and is detached. -/
def strayDev : Dev :=
  ({ pow := { state := .run }, strm := [(0, { sinks := [(12292, { cur := 1, leaving := true })] })] } : Dev).setAll
    [(F.STR_W0_STATE 0, 3), (F.TDM_CTRL_EN 0, 1), (F.TDM_STAT_RUNNING 0, 1), (F.TDM_CNT_CLKLOSS 0, 24576), (F.FLT_SRC_CLASS 29, 0),
      (F.SUP_STAT_INPUT, 1), (F.RAT_CTRL_PORT, 1), (F.TEN_GSTAT_EXISTS 0, 0)]

def strayState : State := { dev := strayDev }

theorem mapFind_none {α : Type} {m : Map α} {k : Nat} (h : ∀ e ∈ m, e.1 ≠ k) : mapFind m k = none := by
  induction m with
  | nil => rfl
  | cons e m ih =>
    rw [mapFind, if_neg (h e (by simp))]
    exact ih fun x hx => h x (by simp [hx])

theorem strayStop_keys : ∀ e ∈ (strayDev.tdmStop 0).fld, e.1 % 32 = 31 → e.1 = fldId (F.TEN_GSTAT_EXISTS 0) := by decide +kernel

/-- No tenant exists, so that no event goes out. -/
theorem strayStop_absent (t : Nat) : (strayDev.tdmStop 0).get (F.TEN_GSTAT_EXISTS t) = 0 := by
  cases t with
  | zero => decide +kernel
  | succ t =>
    have hnone : mapFind (strayDev.tdmStop 0).fld (fldId (F.TEN_GSTAT_EXISTS (t + 1))) = none := by
      refine mapFind_none fun e he hk => ?_
      have h := strayStop_keys e he (by rw [hk]; simp only [fldId, F.TEN_GSTAT_EXISTS]; omega)
      rw [hk] at h
      simp only [fldId, F.TEN_GSTAT_EXISTS] at h
      omega
    rw [Dev.get, mapGet, hnone]
    rfl

/-- The model counts one clock loss: the sink that left took the count along. -/
theorem strayLose_count : (strayDev.tdmLose 0).settle.get (F.TDM_CNT_CLKLOSS 0) = 1 := by decide +kernel

/-- Two outcomes of one state that agree give it the same part. -/
theorem nextDev_inj {s : State} {a b : Dev} (h : (.next { s with dev := a } : Out') = .next { s with dev := b }) : a = b :=
  congrArg State.dev (Host.Outcome.next.inj h)

/-- The loss of a clock on port 0 with no tenant to tell, no port bound to Ration, and fault source 29 of the COUNT class: the end of the
command leaves the count of losses as the loss shows it. -/
theorem Dev.lossShown_settles {z x : Dev} (habsent : ∀ t, z.get (F.TEN_GSTAT_EXISTS t) = 0) (hport : z.get F.RAT_CTRL_PORT = 1)
    (hdue : z.lar.due = []) (hclass : z.get (F.FLT_SRC_CLASS 29) = 0) (hin : z.get F.SUP_STAT_INPUT = 1) (hstage : z.get F.SUP_STAT_STAGE = 0)
    (hwait : z.pow.abortWait = false) (habort : z.pow.aborting = none) (hx : z.Only x [F.TDM_STAT_CLKLOST 0, F.TDM_CNT_CLKLOSS 0]) :
    (((x.raise (bitFld 0xC014 0) 0xD00 (x.tdmOwners 0) 0 0 0).oweFault 0x21A 29).ratPortLost 0).settle.get (F.TDM_CNT_CLKLOSS 0) =
      x.get (F.TDM_CNT_CLKLOSS 0) := by
  obtain ⟨hxeq, hxget⟩ := hx
  have hother {g : Fld} (hg : ∀ f ∈ [bitFld 0xC014 0, F.TDM_STAT_CLKLOST 0, F.TDM_CNT_CLKLOSS 0], fldId f ≠ fldId g) :
      (x.set (bitFld 0xC014 0) 1).get g = z.get g :=
    (Dev.get_set_ne _ _ (hg _ (by simp))).trans (hxget g fun f hf => hg f (List.mem_cons_of_mem _ hf))
  have hnobody (t : Nat) : (x.set (bitFld 0xC014 0) 1).tenantExists t = false := by
    rw [Dev.tenantExists, Dev.is, hother, habsent t]
    · rfl
    · simp only [List.mem_cons, List.not_mem_nil, or_false, forall_eq_or_imp, forall_eq, fldId, bitFld, F.TDM_STAT_CLKLOST, F.TDM_CNT_CLKLOSS,
        F.TEN_GSTAT_EXISTS]
      omega
  have hraise : x.raise (bitFld 0xC014 0) 0xD00 (x.tdmOwners 0) 0 0 0 = x.set (bitFld 0xC014 0) 1 := Dev.notifyAll_absent hnobody _ _ _ _ _
  rw [hraise]
  obtain ⟨y, hy⟩ : ∃ y, y = (x.set (bitFld 0xC014 0) 1).oweFault 0x21A 29 := ⟨_, rfl⟩
  have hread {g : Fld} (hg : ∀ f ∈ [bitFld 0xC014 0, F.TDM_STAT_CLKLOST 0, F.TDM_CNT_CLKLOSS 0], fldId f ≠ fldId g) : y.get g = z.get g := by
    rw [hy]
    exact hother hg
  have hfree : y.ratPortLost 0 = y := by
    have hbound : y.ratBound 0 = false := by
      rw [Dev.ratBound, hread (by decide), hport]
      rfl
    rw [Dev.ratPortLost, hbound]
    rfl
  have hlar : y.lar.due = z.lar.due ++ [.fault 0x21A 29] := by rw [hy, hxeq]; rfl
  have hpow : y.pow = z.pow := by rw [hy, hxeq]; rfl
  rw [← hy, hfree, Dev.settle_get_of_count (u := 0x21A) (src := 29) (by rw [hlar, hdue]; rfl) ((hread (by decide)).trans hclass)
    (by rw [Dev.is, hread (by decide), hin]; rfl) ((hread (by decide)).trans hstage) (by rw [hpow, hwait]) (by rw [hpow, habort]) (by decide), hy]
  exact Dev.get_set_ne _ _ (by decide)

/-- What stands in `strayState`: start-up has ended, the port is enabled, its clock is there, and it lost it 24,576 times. -/
theorem strayState_facts : strayState.dev.up = true ∧ ¬ strayState.dev.is (F.TDM_CTRL_EN 0) = false ∧
    ¬ strayState.dev.is (F.TDM_STAT_CLKLOST 0) = true ∧ strayState.dev.get (F.TDM_CNT_CLKLOSS 0) = 24576 := by decide +kernel

/-- What the stop of the port leaves of what the end of a command looks at. -/
theorem strayStop_facts : (strayDev.tdmStop 0).get F.RAT_CTRL_PORT = 1 ∧ (strayDev.tdmStop 0).lar.due = [] ∧
    (strayDev.tdmStop 0).get (F.FLT_SRC_CLASS 29) = 0 ∧ (strayDev.tdmStop 0).get F.SUP_STAT_INPUT = 1 ∧
    (strayDev.tdmStop 0).get F.SUP_STAT_STAGE = 0 ∧ (strayDev.tdmStop 0).pow.abortWait = false ∧
    (strayDev.tdmStop 0).pow.aborting = none := by decide +kernel

/-- Refutes O35: CLKLOSS is said to go up by one from where it stood, but a state may list a sink of an index beyond 7, whose claim is the
field at CLKLOSS; its leaving with the bank in progress clears that field before the loss is counted. -/
theorem not_serialPorts : ¬ Obligations.SerialPorts := by
  unfold Obligations.SerialPorts
  intro h
  obtain ⟨hup, hen, hclk, hfrom⟩ := strayState_facts
  obtain ⟨hport, hdue, hclass, hin, hstage, hwait, habort⟩ := strayStop_facts
  obtain ⟨-, -, -, -, -, hloss, -⟩ := h strayState 0 hup
  obtain ⟨d, hend, -, -, hd⟩ := hloss
  have hsettle : (strayDev.tdmLose 0).settle = d.settle :=
    nextDev_inj ((act_up (s := strayState) (fun d => d.tdmLose 0) hup).symm.trans hend)
  have hen : ¬ strayState.dev.is (F.TDM_CTRL_EN ((0 : Fin 2) : Nat)) = false := hen
  have hclk : ¬ strayState.dev.is (F.TDM_STAT_CLKLOST ((0 : Fin 2) : Nat)) = true := hclk
  rw [if_neg hen, if_neg hclk] at hd
  clear h
  obtain ⟨x, rfl, -, hcount, hx⟩ := hd
  have hshown := Dev.lossShown_settles strayStop_absent hport hdue hclass hin hstage hwait habort hx
  have hone := strayLose_count
  rw [hsettle] at hone
  have hnext : satInc 0xFFFF (strayState.dev.get (F.TDM_CNT_CLKLOSS 0)) % 0x10000 = 24577 := by rw [hfrom]; rfl
  exact absurd (hone.symm.trans (hshown.trans (hcount.trans hnext))) (by decide)

end Sys2Proof.Machine

/-!
SUPPORT. Rings: doorbells, enabling, fetch, the ends of a read, and the start of a function-level reset (chapters 11 and 12).
-/
namespace Sys2Proof.Machine

open Sys2Proof

/-! ### Doorbells (R311, R312) -/

/-- A page whose function resets answers only the steward, which is told E_BUSY. -/
theorem Dev.onPage_busy {d : Dev} {t : Nat} {off : Nat} {k : Dev → Dev} (hopen : d.regsOpen = true) (hex : d.tenantExists t = true)
    (hflr : d.flrBusy t = true) :
    d.onPage t off k = if d.inPart t = true then d.recordGlb (off % 0x20000) .eBusy else d.pageRouse t := by
  simp [Dev.onPage, hopen, hex, hflr]

@[simp] theorem Dev.rouse_rouse (d : Dev) : d.rouse.rouse = d.rouse := by
  unfold Dev.rouse
  split_ifs <;> simp_all

@[simp] theorem Dev.rouse_is (d : Dev) (g : Fld) : d.rouse.is g = d.is g := by simp [Dev.is]

@[simp] theorem Dev.rouse_inPart (d : Dev) (t : Nat) : d.rouse.inPart t = d.inPart t := by
  have hcode : d.rouse.code = d.code := by unfold Dev.rouse; split_ifs <;> rfl
  simp [Dev.inPart, Dev.stewardHost, hcode]

@[simp] theorem Dev.rouse_pageRouse (d : Dev) (t : Nat) : d.rouse.pageRouse t = d.rouse := by
  unfold Dev.pageRouse
  split_ifs <;> simp

theorem lockFree_changes {row : RegRow} (hrow : row.lock = none) (d : Dev) (sp : Space) (i : Nat) (w : Word) :
    d.changesLocked sp row i w = false := by simp [Dev.changesLocked, hrow]

theorem recordedTen_of_rejected {d : Dev} {t : Fin 256} {row : RegRow} {i : Nat} {w : Word} {checks : List (Bool × Status)} {eff : Dev → Dev}
    {st : Status} (hup : d.up = true) (hne : st ≠ .done)
    (hst : firstByRank ((setsReserved row w, .eField) :: (d.changesLocked (.page t) row i w, .eLocked) :: checks) = st) :
    RecordedTen d (d.regWrite (.page t) row i w checks eff) t.val (row.base + row.stride * i) st := by
  rw [Dev.regWrite_rejected hup hne hst]
  exact recordedTen_recordTen _ _ _ _

/-- Which status a doorbell ends with: E_FIELD before E_RANGE before E_STATE (R328). -/
theorem doorbell_status : ∀ res lock other off far beyond : Bool, res = false → lock = false →
    firstByRank [(res, .eField), (lock, .eLocked), (other, .eField), (off, .eState), (far, .eRange), (beyond, .eRange)] =
      if other then .eField else if far || beyond then .eRange else if off then .eState else .done := by decide

/-- A word for a doorbell, which has no field that is kept. -/
theorem Dev.writeRow_db (d : Dev) (t : Fin 256) (r : Nat) (w : Word) : d.writeRow (.page t) R.HIF_DB r w = d := rfl

theorem Dev.doorbell_is (d : Dev) (t : Fin 256) (r : Fin 17) (w : Word) (hup : d.up = true) (hres : setsReserved R.HIF_DB w = false)
    (hex : d.tenantExists t.val = true) (hflr : d.flrBusy t.val = false) :
    let x := d.rouse
    let e := x.writeDoorbell t.val r.val w
    let far := (bits w.toNat 16 16 + 65536 - d.get (F.HIF_RIDX_C t.val r.val)) % 65536
    if bits w.toNat 0 5 ≠ r.val then RecordedTen x e t.val (0x1000 + 8 * r.val) .eField
    else if (r.val < 8 ∧ (far < d.ringFill t.val r.val ∨ ringSize d t.val r.val - 1 < far)) ∨ (8 ≤ r.val ∧ d.ringFill t.val r.val < far) then
      RecordedTen x e t.val (0x1000 + 8 * r.val) .eRange
    else if d.is (F.HIF_RCFG_EN t.val r.val) = false then RecordedTen x e t.val (0x1000 + 8 * r.val) .eState
    else if r.val < 8 then e.get (F.HIF_RIDX_P t.val r.val) = bits w.toNat 16 16 ∧ x.Only e [F.HIF_RIDX_P t.val r.val]
    else e.get (F.HIF_RIDX_C t.val r.val) = bits w.toNat 16 16 ∧ x.Only e [F.HIF_RIDX_C t.val r.val] := by
  intro x e far
  have hxup : x.up = true := d.rouse_up.trans hup
  have hfill : x.ringFill t.val r.val = d.ringFill t.val r.val := by simp [x, Dev.ringFill]
  have hsize : ringSize x t.val r.val = ringSize d t.val r.val := by simp [x, ringSize]
  have he : e = x.regWrite (.page t) R.HIF_DB r.val w
      [(bits w.toNat 0 5 != r.val, .eField), (!d.is (F.HIF_RCFG_EN t.val r.val), .eState),
       (r.val < 8 && (decide (far < d.ringFill t.val r.val) || decide (ringSize d t.val r.val - 1 < far)), .eRange),
       (8 ≤ r.val && decide (d.ringFill t.val r.val < far), .eRange)]
      fun n => if r.val < 8 then n.set (F.HIF_RIDX_P t.val r.val) (bits w.toNat 16 16) else n.set (F.HIF_RIDX_C t.val r.val) (bits w.toNat 16 16) := by
    rw [← hfill, ← hsize, ← pageOf_val t]
    simp only [e, Dev.writeDoorbell]
    rw [Dev.onPage_answers _ _ ((d.rouse_is _).trans hex) ((d.rouse_is _).trans hflr), Dev.rouse_pageRouse]
    simp only [far, x, Dev.rouse_get, Dev.rouse_is]
  have hstat := doorbell_status (setsReserved R.HIF_DB w) (x.changesLocked (.page t) R.HIF_DB r.val w) (bits w.toNat 0 5 != r.val) (!d.is (F.HIF_RCFG_EN t.val r.val))
    (r.val < 8 && (decide (far < d.ringFill t.val r.val) || decide (ringSize d t.val r.val - 1 < far)))
    (8 ≤ r.val && decide (d.ringFill t.val r.val < far)) hres (lockFree_changes rfl x (.page t) r.val w)
  simp only [bne_iff_ne, Bool.or_eq_true, Bool.and_eq_true, decide_eq_true_eq, Bool.not_eq_true'] at hstat
  rw [he]
  by_cases hother : bits w.toNat 0 5 ≠ r.val
  · rw [if_pos hother] at hstat ⊢
    exact recordedTen_of_rejected hxup (by decide) hstat
  rw [if_neg hother] at hstat ⊢
  by_cases hfar : (r.val < 8 ∧ (far < d.ringFill t.val r.val ∨ ringSize d t.val r.val - 1 < far)) ∨ (8 ≤ r.val ∧ d.ringFill t.val r.val < far)
  · rw [if_pos hfar] at hstat ⊢
    exact recordedTen_of_rejected hxup (by decide) hstat
  rw [if_neg hfar] at hstat ⊢
  by_cases hoff : d.is (F.HIF_RCFG_EN t.val r.val) = false
  · rw [if_pos hoff] at hstat ⊢
    exact recordedTen_of_rejected hxup (by decide) hstat
  rw [if_neg hoff] at hstat ⊢
  rw [Dev.regWrite_done hxup hstat, Dev.writeRow_db]
  split_ifs
  · exact ⟨(Dev.get_set_same ..).trans (Nat.mod_eq_of_lt (Nat.mod_lt _ (by decide))), x.only_set _ _⟩
  · exact ⟨(Dev.get_set_same ..).trans (Nat.mod_eq_of_lt (Nat.mod_lt _ (by decide))), x.only_set _ _⟩

/-! ### Enabling a ring (R309, R330) -/

/-- A word that sets no reserved bit, for a row that nothing locks: the row's own checks decide. -/
theorem firstByRank_own {row : RegRow} {w : Word} (hres : setsReserved row w = false) (hrow : row.lock = none) (d : Dev) (sp : Space) (i : Nat)
    (l : List (Bool × Status)) :
    firstByRank ((setsReserved row w, .eField) :: (d.changesLocked sp row i w, .eLocked) :: l) = firstByRank l := by
  rw [hres, lockFree_changes hrow]
  rfl

@[simp] theorem Dev.pageRouse_get (d : Dev) (t : Nat) (g : Fld) : (d.pageRouse t).get g = d.get g := by
  unfold Dev.pageRouse
  split_ifs <;> simp

@[simp] theorem Dev.pageRouse_is (d : Dev) (t : Nat) (g : Fld) : (d.pageRouse t).is g = d.is g := by simp [Dev.is]

/-- What a rejected enable looks at does not depend on DOZE. -/
theorem Dev.rcfgChecks_pageRouse (d : Dev) (t r v : Nat) : (d.pageRouse t).rcfgChecks t r v = d.rcfgChecks t r v := by
  unfold Dev.pageRouse
  split_ifs
  · rfl
  · have hhif : d.rouse.hif = d.hif := by rw [Dev.rouse_eq]
    have hwork (q : Nat) : d.rouse.sqWork t q = d.sqWork t q := by simp [Dev.sqWork, Dev.ringFill, Dev.read, Dev.fetched, hhif]
    simp [Dev.rcfgChecks, Dev.ringBase, hwork, hhif]

/-- A field of entry `r` of a register of a page. -/
theorem pageFld_eq {t : Fin 256} {row : RegRow} {r : Nat} {f : FldRow} {g : Fld}
    (hkey : 0x20000 + 0x2000 * t.val + row.base + row.stride * r = g.key) (hlo : f.lo = g.lo) (hw : f.w = g.w) (hrst : f.rst t.val = g.rst) :
    rowFld (.page t) row r f = g := by
  obtain ⟨k, lo, w, rst⟩ := g
  simp only at hkey hlo hw hrst
  simp only [rowFld, rowKey, hkey, hlo, hw, hrst]

theorem hifRcfg_apart : R.HIF_RCFG.fields.Pairwise fun f g => g.lo ≠ f.lo := by simp [R.HIF_RCFG]

/-- What a write of HIF_RCFGr that is accepted leaves in EN and LOG2SIZE. -/
theorem Dev.writeRow_rcfg (d : Dev) (t : Fin 256) (r : Nat) (w : Word) :
    (d.writeRow (.page t) R.HIF_RCFG r w).is (F.HIF_RCFG_EN t.val r) = bitOf w.toNat 31 ∧
      (d.writeRow (.page t) R.HIF_RCFG r w).get (F.HIF_RCFG_LOG2SIZE t.val r) = bits w.toNat 16 5 := by
  have hen : rowFld (.page t) R.HIF_RCFG r ⟨31, 1, .rw, fun _ => 0⟩ = F.HIF_RCFG_EN t.val r :=
    pageFld_eq (by simp only [R.HIF_RCFG, F.HIF_RCFG_EN]; omega) rfl rfl rfl
  have hsize : rowFld (.page t) R.HIF_RCFG r ⟨16, 5, .rw, fun _ => 4⟩ = F.HIF_RCFG_LOG2SIZE t.val r :=
    pageFld_eq (by simp only [R.HIF_RCFG, F.HIF_RCFG_LOG2SIZE]; omega) rfl rfl rfl
  constructor
  · rw [Dev.is, ← hen, d.writeRow_get (by simp [R.HIF_RCFG]) hifRcfg_apart (.inl rfl)]
    rfl
  · rw [← hsize, d.writeRow_get (by simp [R.HIF_RCFG]) hifRcfg_apart (.inl rfl)]
    rfl

/-- A ring that is enabled starts at index 0 with phase 1. -/
def Dev.ringStarted (d : Dev) (t r : Nat) : Dev :=
  let x := (d.set (F.HIF_RIDX_P t r) 0).set (F.HIF_RIDX_C t r) 0
  { x with hif := { x.hif with phase := mapPut false x.hif.phase (17 * t + r) true } }

theorem Dev.ringStarted_is (d : Dev) (t r : Nat) :
    (∀ g, (∀ f ∈ [F.HIF_RIDX_P t r, F.HIF_RIDX_C t r], fldId f ≠ fldId g) → (d.ringStarted t r).get g = d.get g) ∧
      (d.ringStarted t r).get (F.HIF_RIDX_P t r) = 0 ∧ (d.ringStarted t r).get (F.HIF_RIDX_C t r) = 0 ∧
      (d.ringStarted t r).ringPhase t r = true := by
  refine ⟨fun g hg => ?_, ?_, Dev.get_set_same .., ?_⟩
  · exact (Dev.get_set_ne _ _ (hg _ (by simp))).trans (Dev.get_set_ne _ _ (hg _ (by simp)))
  · exact (Dev.get_set_ne _ _ (by simp [fldId, F.HIF_RIDX_P, F.HIF_RIDX_C])).trans (Dev.get_set_same ..)
  · simp [Dev.ringPhase, Dev.ringStarted]

theorem Dev.ringEnable_is (d : Dev) (t : Fin 256) (r : Fin 17) (w : Word) (hup : d.up = true) (hres : setsReserved R.HIF_RCFG w = false)
    (hex : d.tenantExists t.val = true) (hflr : d.flrBusy t.val = false) :
    let e := d.writeRcfg t.val r.val w
    let st := firstByRank (d.rcfgChecks t.val r.val w.toNat)
    if st ≠ .done then RecordedTen (d.pageRouse t.val) e t.val (0x108 + 16 * r.val) st
    else e.is (F.HIF_RCFG_EN t.val r.val) = bitOf w.toNat 31 ∧ e.get (F.HIF_RCFG_LOG2SIZE t.val r.val) = bits w.toNat 16 5 ∧
      (d.is (F.HIF_RCFG_EN t.val r.val) = false → bitOf w.toNat 31 = true →
        e.get (F.HIF_RIDX_P t.val r.val) = 0 ∧ e.get (F.HIF_RIDX_C t.val r.val) = 0 ∧ e.ringPhase t.val r.val = true) := by
  intro e st
  obtain ⟨x, hx⟩ : ∃ x, x = d.pageRouse t.val := ⟨_, rfl⟩
  have hxup : x.up = true := by rw [hx, Dev.pageRouse_up, hup]
  have hst : firstByRank ((setsReserved R.HIF_RCFG w, .eField) :: (x.changesLocked (.page t) R.HIF_RCFG r.val w, .eLocked) ::
      x.rcfgChecks t.val r.val w.toNat) = st := by
    rw [firstByRank_own hres rfl, hx, Dev.rcfgChecks_pageRouse]
  have he : e = x.regWrite (.page t) R.HIF_RCFG r.val w (x.rcfgChecks t.val r.val w.toNat)
      fun n => if !d.is (F.HIF_RCFG_EN t.val r.val) && bitOf w.toNat 31 then n.ringStarted t.val r.val else n := by
    rw [← pageOf_val t, ← d.pageRouse_is t.val, ← hx]
    simp only [e, Dev.writeRcfg]
    rw [Dev.onPage_answers _ _ hex hflr, ← hx]
    rfl
  rw [he, ← hx]
  by_cases hne : st ≠ .done
  · rw [if_pos hne]
    exact recordedTen_of_rejected hxup hne hst
  · rw [if_neg hne, Dev.regWrite_done hxup (hst.trans (not_not.mp hne))]
    obtain ⟨hen, hsize⟩ := x.writeRow_rcfg t r.val w
    generalize x.writeRow (.page t) R.HIF_RCFG r.val w = n at *
    by_cases hstart : (!d.is (F.HIF_RCFG_EN t.val r.val) && bitOf w.toNat 31) = true
    · simp only [if_pos hstart]
      obtain ⟨hkeep, hp, hc, hphase⟩ := n.ringStarted_is t.val r.val
      refine ⟨(congrArg (· == 1) (hkeep _ ?_)).trans hen, (hkeep _ ?_).trans hsize, fun _ _ => ⟨hp, hc, hphase⟩⟩
      · simp [fldId, F.HIF_RIDX_P, F.HIF_RIDX_C, F.HIF_RCFG_EN]; omega
      · simp [fldId, F.HIF_RIDX_P, F.HIF_RIDX_C, F.HIF_RCFG_LOG2SIZE]; omega
    · simp only [if_neg hstart]
      refine ⟨hen, hsize, fun hwas hnow => absurd ?_ hstart⟩
      rw [hwas, hnow]
      rfl

/-! ### Whom fetch serves (R313, R338) -/

/-- The SQ read next of those ready is the first after the one served last, round the eight. -/
theorem Dev.nextSq_is {d : Dev} {t r : Nat} (h : d.nextSq t = some r) : r < 8 ∧ d.sqReady t r = true ∧
    ∀ o < 8, d.sqReady t o = true → (r + 7 * (mapGet 7 d.hif.lastSq t + 1)) % 8 ≤ (o + 7 * (mapGet 7 d.hif.lastSq t + 1)) % 8 := by
  obtain ⟨l, hl⟩ : ∃ l, l = mapGet 7 d.hif.lastSq t := ⟨_, rfl⟩
  rw [Dev.nextSq, ← hl] at h
  rw [← hl]
  obtain ⟨hready, as, bs, happ, hbefore⟩ := List.find?_eq_some_iff_append.mp h
  have hpos (i : Nat) (hi : i < 8) : ((List.range 8).map fun i => (l + 1 + i) % 8)[i]? = some ((l + 1 + i) % 8) := by simp [hi]
  have hat : ((List.range 8).map fun i => (l + 1 + i) % 8)[as.length]? = some r := by rw [happ]; simp
  have hlen : as.length < 8 := by
    have := congrArg List.length happ
    simp at this
    omega
  rw [hpos _ hlen] at hat
  have hr : (l + 1 + as.length) % 8 = r := Option.some.inj hat
  refine ⟨by omega, hready, fun o ho hoready => ?_⟩
  by_contra hlt
  have hi : (o + 7 * (l + 1)) % 8 < as.length := by omega
  have hmem : o ∈ as := by
    have hget := hpos ((o + 7 * (l + 1)) % 8) (by omega)
    rw [happ, List.getElem?_append_left hi] at hget
    have hval : (l + 1 + (o + 7 * (l + 1)) % 8) % 8 = o := by omega
    rw [hval] at hget
    exact List.mem_of_getElem? hget
  have hno := hbefore o hmem
  rw [hoready] at hno
  exact absurd hno (by decide)

theorem Dev.mem_fetchers {d : Dev} {v r : Nat} (h : (v, r) ∈ d.fetchers) :
    v < 256 ∧ d.fetchDeferred v = false ∧ d.nextSq v = some r := by
  obtain ⟨u, hu, hsome⟩ := List.mem_filterMap.mp h
  have hlt : u < 256 := List.mem_range.mp hu
  split_ifs at hsome with hdef
  obtain ⟨q, hq, heq⟩ := Option.map_eq_some_iff.mp hsome
  obtain ⟨rfl, rfl⟩ := Prod.mk.inj heq
  exact ⟨hlt, Bool.eq_false_iff.mpr hdef, hq⟩

theorem creditRounds_nil (w : Nat → Nat) (n : Nat) (c : Map Nat) : creditRounds w [] n c = (c, none) := by
  induction n with
  | zero => rfl
  | succ n ih => exact ih

/-- With nobody to serve nobody is served. -/
theorem Dev.pickFetch_nil (d : Dev) : (d.pickFetch []).2 = none := by
  simp [Dev.pickFetch, inTurns, creditRounds_nil]

/-- A tenant alone is served once its weight has been added often enough. -/
theorem creditRounds_alone {w : Nat → Nat} {t q n : Nat} (hw : 1 ≤ w t) (k : Nat) (c : Map Nat) (hn : n ≤ mapGet 0 c t + (k + 1)) :
    ∃ c', creditRounds w [(t, q, n)] (k + 1) c = (c', some (t, q, n)) := by
  induction k generalizing c with
  | zero =>
    have hv : n ≤ mapGet 0 c t + w t := by omega
    exact ⟨mapPut 0 c t (mapGet 0 c t + w t), by simp [creditRounds, creditPass, hv]⟩
  | succ k ih =>
    by_cases hv : n ≤ mapGet 0 c t + w t
    · exact ⟨mapPut 0 c t (mapGet 0 c t + w t), by simp [creditRounds, creditPass, hv]⟩
    · obtain ⟨c', hc'⟩ := ih (mapPut 0 c t (mapGet 0 c t + w t)) (by rw [mapGet_put_same]; omega)
      refine ⟨c', ?_⟩
      rw [creditRounds]
      simp only [creditPass, hv, if_false]
      exact hc'

theorem inTurns_one (last : Nat) (e : Nat × Nat × Nat) : inTurns last [e] = [e] := by
  by_cases h : last < e.1
  · simp [inTurns, h]
  · simp [inTurns, h, Nat.not_lt.mp h]

theorem Dev.pickFetch_alone {d : Dev} {t q n : Nat} (hw : 1 ≤ d.get (F.TEN_GISO_WEIGHT t)) (hn : n ≤ 8) :
    ∃ c, d.pickFetch [(t, q, n)] = (c, some (t, q, n)) := by
  obtain ⟨c0, hc0⟩ : ∃ c0, c0 = if (d.hif.inTurn && !([(t, q, n)].any (·.1 == d.hif.last))) = true then mapPut 0 d.hif.credit d.hif.last 0
    else d.hif.credit := ⟨_, rfl⟩
  have hpick : d.pickFetch [(t, q, n)] =
      match (inTurns d.hif.last ([(t, q, n)].filter fun e => mapGet false d.hif.tagHeld e.1)).head? with
      | some e => (c0, some e)
      | none =>
        match [(t, q, n)].find? fun e => d.hif.inTurn && e.1 == d.hif.last && decide (e.2.2 ≤ mapGet 0 d.hif.credit e.1) with
        | some e => (d.hif.credit, some e)
        | none => creditRounds (fun t => d.get (F.TEN_GISO_WEIGHT t)) [(t, q, n)] 8 c0 := by
    rw [Dev.pickFetch, ← hc0, inTurns_one] <;> rfl
  rw [hpick]
  by_cases hheld : mapGet false d.hif.tagHeld t = true
  · have hfil : ([(t, q, n)].filter fun e => mapGet false d.hif.tagHeld e.1) = [(t, q, n)] := by simp [hheld]
    rw [hfil, inTurns_one]
    exact ⟨_, rfl⟩
  · have hfil : ([(t, q, n)].filter fun e => mapGet false d.hif.tagHeld e.1) = [] := by simp [hheld]
    have hnil : (inTurns d.hif.last []).head? = none := rfl
    rw [hfil, hnil]
    cases hfind : [(t, q, n)].find? fun e => d.hif.inTurn && e.1 == d.hif.last && decide (e.2.2 ≤ mapGet 0 d.hif.credit e.1) with
    | some e =>
      obtain rfl := List.mem_singleton.mp (List.mem_of_find?_eq_some hfind)
      exact ⟨_, rfl⟩
    | none => exact creditRounds_alone (w := fun t => d.get (F.TEN_GISO_WEIGHT t)) hw 7 c0 (by omega)

/-- Two tenants in turn, none of which holds a turn or waits for a tag: the first whose credit covers its read is served. -/
theorem Dev.pickFetch_two {d : Dev} {t q a u r b : Nat} (hlt : t < u) (hlast : d.hif.last < t ∨ u ≤ d.hif.last) (hturn : d.hif.inTurn = false)
    (hheld : d.hif.tagHeld = []) :
    (a ≤ mapGet 0 d.hif.credit t + d.get (F.TEN_GISO_WEIGHT t) → ∃ c, d.pickFetch [(t, q, a), (u, r, b)] = (c, some (t, q, a))) ∧
      (mapGet 0 d.hif.credit t + d.get (F.TEN_GISO_WEIGHT t) < a → b ≤ mapGet 0 d.hif.credit u + d.get (F.TEN_GISO_WEIGHT u) →
        ∃ c, d.pickFetch [(t, q, a), (u, r, b)] = (c, some (u, r, b)) ∧
          mapGet 0 c t = mapGet 0 d.hif.credit t + d.get (F.TEN_GISO_WEIGHT t)) := by
  have horder : inTurns d.hif.last [(t, q, a), (u, r, b)] = [(t, q, a), (u, r, b)] := by
    rcases hlast with h | h
    · have h2 : d.hif.last < u := by omega
      simp [inTurns, h, h2, Nat.not_le.mpr h, Nat.not_le.mpr h2]
    · have h2 : t ≤ d.hif.last := by omega
      simp [inTurns, h, h2, Nat.not_lt.mpr h, Nat.not_lt.mpr h2]
  have hfil : ([(t, q, a), (u, r, b)].filter fun e => mapGet false d.hif.tagHeld e.1) = [] := by
    rw [hheld]
    rfl
  have hpick : d.pickFetch [(t, q, a), (u, r, b)] =
      creditRounds (fun t => d.get (F.TEN_GISO_WEIGHT t)) [(t, q, a), (u, r, b)] 8 d.hif.credit := by
    have hnil : (inTurns d.hif.last []).head? = none := rfl
    simp [Dev.pickFetch, hfil, hnil, hturn, horder]
  rw [hpick, creditRounds]
  constructor
  · intro ha
    simp only [creditPass, ha, if_true]
    exact ⟨_, rfl⟩
  · intro ha hb
    have hb' : b ≤ mapGet 0 (mapPut 0 d.hif.credit t (mapGet 0 d.hif.credit t + d.get (F.TEN_GISO_WEIGHT t))) u +
        d.get (F.TEN_GISO_WEIGHT u) := by rwa [mapGet_put_ne _ _ (by omega)]
    simp only [creditPass, Nat.not_le.mpr ha, hb', if_true, if_false]
    exact ⟨_, rfl, by rw [mapGet_put_ne _ _ (by omega), mapGet_put_same]⟩

/-! ### A read is issued, or waits at a bound (R313, R322) -/

/-- The fields in which a wait of tenant `t` is shown and counted. -/
def waitFlds (t : Nat) (qs : List Nat) : List Fld := F.TEN_TICKET_WAIT_COUNT t :: qs.map (F.HIF_RCFG_WAIT t)

/-- What a wait, its end, or a bound leaves alone: everything but the wait's registers and how the host interface keeps it. -/
def Dev.Waits (d e : Dev) (fs : List Fld) : Prop :=
  e = { d with fld := e.fld, hif := { d.hif with waiting := e.hif.waiting, tagHeld := e.hif.tagHeld } } ∧
    ∀ g, (∀ f ∈ fs, fldId f ≠ fldId g) → e.get g = d.get g

theorem Dev.beginWait_is (d : Dev) (t : Nat) (qs : List Nat) : d.Waits (d.beginWait t qs) (waitFlds t qs) := by
  obtain ⟨x, hx⟩ : ∃ x, x = qs.foldl (fun d q => d.set (F.HIF_RCFG_WAIT t q) 1) d := ⟨_, rfl⟩
  have honly : d.Only x (qs.map (F.HIF_RCFG_WAIT t)) := by
    have h := Dev.only_foldl (fun d q => d.only_set (F.HIF_RCFG_WAIT t q) 1) qs d
    rw [hx]
    rw [List.map_eq_flatMap]
    exact h
  obtain ⟨heq, hget⟩ := honly
  rw [Dev.beginWait, ← hx]
  split_ifs
  · refine ⟨?_, fun g hg => hget g fun f hf => hg f (List.mem_cons_of_mem _ hf)⟩
    rw [heq]
  · refine ⟨?_, fun g hg => ?_⟩
    · rw [heq]
      rfl
    · exact (x.bump_get_ne (hg _ (by simp [waitFlds]))).trans (hget g fun f hf => hg f (List.mem_cons_of_mem _ hf))

theorem Dev.beginWait_shown (d : Dev) (t q : Nat) : (d.beginWait t [q]).get (F.HIF_RCFG_WAIT t q) = 1 := by
  obtain ⟨x, hx⟩ : ∃ x, x = d.set (F.HIF_RCFG_WAIT t q) 1 := ⟨_, rfl⟩
  have hset : x.get (F.HIF_RCFG_WAIT t q) = 1 := by rw [hx]; exact Dev.get_set_same ..
  have hwait : d.beginWait t [q] = if x.isWaiting t then x else (x.bump (F.TEN_TICKET_WAIT_COUNT t)).setWaiting t true := by rw [hx]; rfl
  rw [hwait]
  split_ifs
  · exact hset
  · refine (x.bump_get_ne ?_).trans hset
    simp only [fldId, F.TEN_TICKET_WAIT_COUNT, F.HIF_RCFG_WAIT]
    omega

/-- The read of `n` descriptors of SQ `q` is outstanding, and put out over PCI Express. -/
def Dev.readIssued (d : Dev) (t q n : Nat) : Dev :=
  let d1 := if n < d.fetchWant t q then d.beginWait t ((List.range 8).filter (d.sqWork t)) else d
  let d2 := { d1 with hif := { d1.hif with lastSq := mapPut 7 d1.hif.lastSq t q, tagHeld := mapPut false d1.hif.tagHeld t false } }.setRead t q ⟨n, false⟩
  if d.inPart t then d2
  else d2.emit .hostRead t [d.ringBase t q + 32 * (d.get (F.HIF_RIDX_C t q) % ringSize d t q), 32 * n] []

theorem Dev.serveFetch_is (d : Dev) (c : Map Nat) (t q n : Nat) : ∃ b v, d.serveFetch c (t, q, n) =
    { d.readIssued t q n with hif := { (d.readIssued t q n).hif with last := t, inTurn := b, credit := mapPut 0 c t v } } := by
  rw [Dev.serveFetch]
  simp only
  split
  · exact ⟨_, _, rfl⟩
  · exact ⟨_, _, rfl⟩

/-- What a served fetch leaves: the read, whose turn it was, and the credit of the others. -/
theorem Dev.serveFetch_shows (d : Dev) (c : Map Nat) (t q n : Nat) :
    let e := d.serveFetch c (t, q, n)
    e.hif.last = t ∧ e.read t q = ⟨n, false⟩ ∧ mapGet 7 e.hif.lastSq t = q ∧ (∀ u ≠ t, mapGet 0 e.hif.credit u = mapGet 0 c u) ∧
      (d.fetchWant t q ≤ n → (∀ g, e.get g = d.get g) ∧ (d.inPart t = false →
        e.out = ⟨.hostRead, t, [d.ringBase t q + 32 * (d.get (F.HIF_RIDX_C t q) % ringSize d t q), 32 * n], []⟩ :: d.out)) := by
  obtain ⟨b, v, he⟩ := d.serveFetch_is c t q n
  intro e
  have hread : (d.readIssued t q n).read t q = ⟨n, false⟩ ∧ mapGet 7 (d.readIssued t q n).hif.lastSq t = q := by
    rw [Dev.readIssued]
    split_ifs <;> exact ⟨mapGet_put_same _ _ _, mapGet_put_same _ _ _⟩
  refine ⟨by simp only [e, he], ?_, ?_, fun u hu => ?_, fun hwant => ⟨fun g => ?_, fun hpart => ?_⟩⟩
  · simp only [e, he]; exact hread.1
  · simp only [e, he]; exact hread.2
  · simp only [e, he]; exact mapGet_put_ne _ _ hu.symm
  · simp only [e, he]
    rw [Dev.readIssued, if_neg (Nat.not_lt.mpr hwant)]
    split_ifs <;> rfl
  · simp only [e, he]
    rw [Dev.readIssued, if_neg (Nat.not_lt.mpr hwant), hpart]
    rfl

/-- A tenant with a tag and a ticket meets no bound. -/
theorem Dev.holdAtBound_id {d : Dev} {e : Nat × Nat} (htag : d.tagFree e.1 = true) (htkt : d.tktRoom e.1 1 ≠ 0) : d.holdAtBound e = d := by
  simp [Dev.holdAtBound, htag, htkt]

/-- Where some descriptors may be taken, one may. -/
theorem Dev.tktRoom_one {d : Dev} {t n : Nat} (h : 0 < d.tktRoom t n) : d.tktRoom t 1 ≠ 0 := by
  rw [Dev.tktRoom] at h ⊢
  omega

theorem Dev.fetch_none {d : Dev} (h : d.fetchers = []) : d.fetch = d := by
  have hnil := d.pickFetch_nil
  rw [Dev.fetch, h]
  simp only [List.foldl_nil, List.filterMap_nil]
  split
  · rfl
  · next hp => rw [hp] at hnil; exact absurd hnil (by simp)

theorem waitFlds_high (t : Nat) (qs : List Nat) : ∀ f ∈ waitFlds t qs, 32 * 0x20000 ≤ fldId f := by
  simp only [waitFlds, List.mem_cons, List.mem_map, forall_eq_or_imp, forall_exists_index, and_imp, forall_apply_eq_imp_iff₂, fldId,
    F.TEN_TICKET_WAIT_COUNT, F.HIF_RCFG_WAIT]
  exact ⟨by omega, fun q _ => by omega⟩

/-- A wait does not change which tags are free. -/
theorem Dev.Waits.tagFree {d e : Dev} {fs : List Fld} (h : d.Waits e fs) (hfs : ∀ f ∈ fs, 32 * 0x20000 ≤ fldId f) (u : Nat) :
    e.tagFree u = d.tagFree u := by
  obtain ⟨heq, hget⟩ := h
  have hlow {g : Fld} (hg : fldId g < 32 * 0x20000) : e.get g = d.get g := hget g fun f hf => by have := hfs f hf; omega
  have hcode : e.code = d.code := by rw [heq]
  have habandoned : e.hif.abandoned = d.hif.abandoned := by rw [heq]
  have hreads : e.hif.reads = d.hif.reads := by rw [heq]
  have hpart (v : Nat) : e.inPart v = d.inPart v := by
    rw [Dev.inPart, Dev.stewardHost, Dev.is, Dev.is, hlow (by decide), hlow (by decide), hcode]
    rfl
  have hlimit : e.tagLimit = d.tagLimit := by
    rw [Dev.tagLimit, Dev.is, hlow (by decide)]
    rfl
  have hused : e.tagsUsed = d.tagsUsed := by
    rw [Dev.tagsUsed, habandoned, hreads, Dev.tagsUsed]
    simp only [hpart]
  simp only [Dev.tagFree, hpart, hused, hlimit]

/-- With no tag free the only tenant that wants to read waits with its SQ held. -/
theorem Dev.fetch_waits {d : Dev} {t q : Nat} (h : d.fetchers = [(t, q)]) (htag : d.tagFree t = false) :
    d.fetch.get (F.HIF_RCFG_WAIT t q) = 1 ∧ d.fetch.hif.reads = d.hif.reads ∧ d.fetch.out = d.out := by
  obtain ⟨x, hx⟩ : ∃ x, x = d.beginWait t [q] := ⟨_, rfl⟩
  have hwait : d.Waits x (waitFlds t [q]) := by rw [hx]; exact d.beginWait_is t [q]
  have hheld : d.holdAtBound (t, q) = { x with hif := { x.hif with tagHeld := mapPut false x.hif.tagHeld t true } } := by
    simp only [Dev.holdAtBound, htag, Bool.not_false, if_true, hx]
  have hnone : (d.holdAtBound (t, q)).fetchable (t, q) = none := by
    have hfree : (d.holdAtBound (t, q)).tagFree t = false := by
      rw [hheld]
      exact (hwait.tagFree (waitFlds_high t [q]) t).trans htag
    simp [Dev.fetchable, hfree]
  have hfetch : d.fetch = d.holdAtBound (t, q) := by
    have hnil := (d.holdAtBound (t, q)).pickFetch_nil
    rw [Dev.fetch, h]
    simp only [List.foldl_cons, List.foldl_nil, List.filterMap_cons, List.filterMap_nil, hnone]
    split
    · rfl
    · next hp => rw [hp] at hnil; exact absurd hnil (by simp)
  rw [hfetch, hheld]
  obtain ⟨heq, -⟩ := hwait
  refine ⟨?_, ?_, ?_⟩
  · show x.get (F.HIF_RCFG_WAIT t q) = 1
    rw [hx]
    exact d.beginWait_shown t q
  · rw [heq]
  · rw [heq]

/-- Tenants that meet no bound do not wait, and the one whose turn it is is served. -/
theorem Dev.fetch_free {d : Dev} {c : Map Nat} {e : Nat × Nat × Nat} (hfree : ∀ x ∈ d.fetchers, d.holdAtBound x = d)
    (hpick : d.pickFetch (d.fetchers.filterMap d.fetchable) = (c, some e)) : d.fetch = d.serveFetch c e := by
  have hfold : d.fetchers.foldl Dev.holdAtBound d = d := by
    generalize d.fetchers = l at hfree
    induction l with
    | nil => rfl
    | cons x l ih =>
      rw [List.foldl_cons, hfree x (by simp)]
      exact ih fun y hy => hfree y (by simp [hy])
  rw [Dev.fetch, hfold, hpick]

/-- A tenant with a tag and tickets for some of what it wants can have it fetched. -/
theorem Dev.fetchable_some {d : Dev} {v s : Nat} (htag : d.tagFree v = true) (hs : 0 < d.tktRoom v (d.fetchWant v s)) :
    d.fetchable (v, s) = some (v, s, d.tktRoom v (d.fetchWant v s)) := by
  rw [Dev.fetchable, htag, beq_false_of_ne (Nat.pos_iff_ne_zero.mp hs)]
  rfl

/-- The only tenant that wants to read, with a tag and the tickets for what it wants: it is served. -/
theorem Dev.fetch_serves {d : Dev} {t q n : Nat} (h : d.fetchers = [(t, q)]) (htag : d.tagFree t = true) (hwant : d.fetchWant t q = n)
    (hroom : d.tktRoom t n = n) (hn : 0 < n) (hw : 1 ≤ d.get (F.TEN_GISO_WEIGHT t)) : ∃ c, d.fetch = d.serveFetch c (t, q, n) := by
  have hpos : 0 < d.tktRoom t n := by omega
  have hfetchable : [(t, q)].filterMap d.fetchable = [(t, q, n)] := by
    rw [← hwant] at hpos
    rw [List.filterMap_cons_some (Dev.fetchable_some htag hpos), hwant, hroom]
    rfl
  have hle : n ≤ 8 := by
    rw [← hwant, Dev.fetchWant]
    omega
  obtain ⟨c, hc⟩ := Dev.pickFetch_alone (q := q) hw hle
  refine ⟨c, Dev.fetch_free ?_ (by rw [h, hfetchable, hc])⟩
  rw [h]
  simpa using Dev.holdAtBound_id (e := (t, q)) htag (Dev.tktRoom_one hpos)

/-- Two tenants that meet no bound. -/
theorem Dev.fetch_two {d : Dev} {t q u r : Nat} (h : d.fetchers = [(t, q), (u, r)]) (htag : d.tagFree t = true) (hutag : d.tagFree u = true)
    (ha : 0 < d.tktRoom t (d.fetchWant t q)) (hb : 0 < d.tktRoom u (d.fetchWant u r)) {c : Map Nat} {e : Nat × Nat × Nat}
    (hpick : d.pickFetch [(t, q, d.tktRoom t (d.fetchWant t q)), (u, r, d.tktRoom u (d.fetchWant u r))] = (c, some e)) :
    d.fetch = d.serveFetch c e := by
  have hfetchable : [(t, q), (u, r)].filterMap d.fetchable =
      [(t, q, d.tktRoom t (d.fetchWant t q)), (u, r, d.tktRoom u (d.fetchWant u r))] := by
    rw [List.filterMap_cons_some (Dev.fetchable_some htag ha), List.filterMap_cons_some (Dev.fetchable_some hutag hb)]
    rfl
  refine Dev.fetch_free ?_ (by rw [h, hfetchable, hpick])
  rw [h]
  simpa using ⟨Dev.holdAtBound_id (e := (t, q)) htag (Dev.tktRoom_one ha), Dev.holdAtBound_id (e := (u, r)) hutag (Dev.tktRoom_one hb)⟩

/-- What an SQ that is ready wants read is at least one descriptor: a ring never starts within a descriptor of the page's end. -/
theorem Dev.fetchWant_pos {d : Dev} {t q : Nat} (h : d.sqReady t q = true) : 0 < d.fetchWant t q := by
  have hfill : d.ringFill t q ≠ 0 := by
    simp only [Dev.sqReady, Bool.and_eq_true, bne_iff_ne] at h
    exact h.2
  obtain ⟨slot, hslot⟩ : ∃ slot, slot = d.get (F.HIF_RIDX_C t q) % ringSize d t q := ⟨_, rfl⟩
  have hlt : slot < ringSize d t q := hslot ▸ Nat.mod_lt _ (Nat.pow_pos (by decide))
  have hpage : 0 < d.pageRoom t q slot := by
    rw [Dev.pageRoom]
    split_ifs
    · decide
    · have hbase : d.ringBase t q % 64 = 0 := by rw [Dev.ringBase]; omega
      omega
  rw [Dev.fetchWant, ← hslot]
  omega

/-! ### The data of a read, or its failure (R313, R321) -/

theorem hifRidx_plain (t r : Nat) : PlainFld (F.HIF_RIDX_C t r) := by
  refine ⟨fun q => ?_, ?_, ?_, ?_⟩ <;>
    simp only [fldId, F.HIF_RIDX_C, F.QUE_W2_LOST, F.QUE_W1_LOSTSAT, F.LAR_LEAK_COUNT, F.ECC_INJ_COUNT, F.ECC_INJ_ARM] <;> omega

theorem Dev.checkWait_is (d : Dev) (t : Nat) : d.Waits (d.checkWait t) ((List.range 8).map (F.HIF_RCFG_WAIT t)) := by
  rw [Dev.checkWait]
  split_ifs
  · obtain ⟨x, hx⟩ : ∃ x, x = (List.range 8).foldl (fun d q => d.set (F.HIF_RCFG_WAIT t q) 0) d := ⟨_, rfl⟩
    have honly : d.Only x ((List.range 8).map (F.HIF_RCFG_WAIT t)) := by
      have h := Dev.only_foldl (fun d q => d.only_set (F.HIF_RCFG_WAIT t q) 0) (List.range 8) d
      rw [hx, List.map_eq_flatMap]
      exact h
    obtain ⟨heq, hget⟩ := honly
    rw [← hx]
    refine ⟨?_, hget⟩
    rw [heq]
    rfl
  · exact ⟨rfl, fun _ _ => rfl⟩

theorem Dev.checkWait_get_ridx (d : Dev) (t u r : Nat) : (d.checkWait t).get (F.HIF_RIDX_C u r) = d.get (F.HIF_RIDX_C u r) := by
  refine (d.checkWait_is t).2 _ ?_
  simp only [List.mem_map, forall_exists_index, and_imp, forall_apply_eq_imp_iff₂, fldId, F.HIF_RCFG_WAIT, F.HIF_RIDX_C]
  intro q _
  omega

@[simp] theorem Dev.checkWait_cpls (d : Dev) (t : Nat) : (d.checkWait t).hif.cpls = d.hif.cpls := by rw [(d.checkWait_is t).1]

@[simp] theorem Dev.checkWait_reads (d : Dev) (t : Nat) : (d.checkWait t).hif.reads = d.hif.reads := by rw [(d.checkWait_is t).1]

@[simp] theorem Dev.checkWait_fetched (d : Dev) (t : Nat) : (d.checkWait t).hif.fetched = d.hif.fetched := by rw [(d.checkWait_is t).1]

theorem withT000_one_lt (t : Fin 256) : ∀ u ∈ withT000 [t.val], u < 512 := by
  intro u hu
  rcases List.mem_cons.mp hu with rfl | hu
  · decide
  · have := List.mem_singleton.mp (List.mem_of_mem_filter hu)
    omega

/-- An event of the host interface moves no ring and ends no descriptor. -/
theorem Dev.hifEvent_keeps (d : Dev) {bit : Nat} (hbit : bit < 32) (t : Fin 256) :
    (∀ u r, (d.hifEvent bit t.val).get (F.HIF_RIDX_C u r) = d.get (F.HIF_RIDX_C u r)) ∧ (d.hifEvent bit t.val).hif = d.hif := by
  obtain ⟨x, hx⟩ : ∃ x, x = if bit = 0 then d.bump F.HIF_CNT_POISONIN else d.bump F.HIF_CNT_CPLFAIL := ⟨_, rfl⟩
  have hxget (u r : Nat) : x.get (F.HIF_RIDX_C u r) = d.get (F.HIF_RIDX_C u r) := by
    rw [hx]
    split_ifs
    · exact d.bump_get_ne (by simp only [fldId, F.HIF_CNT_POISONIN, F.HIF_RIDX_C]; omega)
    · exact d.bump_get_ne (by simp only [fldId, F.HIF_CNT_CPLFAIL, F.HIF_RIDX_C]; omega)
  have hxhif : x.hif = d.hif := by
    rw [hx]
    split_ifs <;> rfl
  obtain ⟨heq, hget⟩ := x.told_raise (bitFld 0xD008 bit) (0xE00 + bit) (withT000 [t.val]) 0 0 0 (withT000_one_lt t)
  rw [Dev.hifEvent]
  simp only [← hx]
  obtain ⟨y, hy⟩ : ∃ y, y = x.raise (bitFld 0xD008 bit) (0xE00 + bit) (withT000 [t.val]) 0 0 0 := ⟨_, rfl⟩
  rw [← hy] at heq hget ⊢
  refine ⟨fun u r => (hget _ (hifRidx_plain u r) ?_).trans (hxget u r), ?_⟩
  · simp only [List.mem_singleton, forall_eq, fldId, bitFld, F.HIF_RIDX_C]
    omega
  · rw [← hxhif, heq]
    rfl

/-- Descriptors that end at once, in order. -/
theorem Dev.foldl_complete {st : Status} (hst : st ≠ .done) (f : Nat → Tkt) (l : List Nat) (d : Dev) :
    l.foldl (fun d i => d.complete (f i) st) d = { d with hif := { d.hif with cpls := d.hif.cpls ++ l.map fun i => ⟨f i, st, 0, 0⟩ } } := by
  induction l generalizing d with
  | nil => simp
  | cons i l ih =>
    have hone : d.complete (f i) st = { d with hif := { d.hif with cpls := d.hif.cpls ++ [⟨f i, st, 0, 0⟩] } } := by
      rw [Dev.complete, beq_false_of_ne hst, Bool.and_false]
      rfl
    rw [List.foldl_cons, hone, ih]
    simp

theorem Dev.passSlots_is (d : Dev) (t q n : Nat) : (d.passSlots t q n).get (F.HIF_RIDX_C t q) = (d.get (F.HIF_RIDX_C t q) + n) % 65536 ∧
    (d.passSlots t q n).read t q = {} ∧ (d.passSlots t q n).hif.cpls = d.hif.cpls ∧ (d.passSlots t q n).hif.fetched = d.hif.fetched ∧
    (d.passSlots t q n).urec = d.urec := by
  refine ⟨(Dev.get_set_same ..).trans (Nat.mod_mod _ _), ?_, rfl, rfl, rfl⟩
  simp [Dev.passSlots, Dev.setRead, Dev.read]

theorem Dev.failRead_is (d : Dev) (t q : Nat) {st : Status} (hst : st ≠ .done) :
    let c := d.get (F.HIF_RIDX_C t q)
    let n := (d.read t q).n
    (d.failRead t q st).get (F.HIF_RIDX_C t q) = (c + n) % 65536 ∧
      (d.failRead t q st).hif.cpls = d.hif.cpls ++ (List.range n).map fun i => ⟨lostSlot t q ((c + i) % 65536), st, 0, 0⟩ := by
  obtain ⟨hc, -, hcpls, -, -⟩ := d.passSlots_is t q (d.read t q).n
  rw [Dev.failRead, Dev.foldl_complete hst]
  exact ⟨hc, congrArg (· ++ _) hcpls⟩

/-- A read that fails: its slots complete with the status, in order, whatever event is told of. -/
theorem Dev.readFails (d : Dev) (t : Fin 256) (q : Nat) {bit : Nat} (hbit : bit < 32) {st : Status} (hst : st ≠ .done) :
    let c := d.get (F.HIF_RIDX_C t.val q)
    let n := (d.read t.val q).n
    let e := ((d.failRead t.val q st).hifEvent bit t.val).checkWait t.val
    e.get (F.HIF_RIDX_C t.val q) = (c + n) % 65536 ∧
      e.hif.cpls = d.hif.cpls ++ (List.range n).map fun i => ⟨lostSlot t.val q ((c + i) % 65536), st, 0, 0⟩ := by
  obtain ⟨hc, hcpls⟩ := d.failRead_is t.val q hst
  obtain ⟨hget, hhif⟩ := (d.failRead t.val q st).hifEvent_keeps hbit t
  exact ⟨(Dev.checkWait_get_ridx ..).trans ((hget _ _).trans hc), (Dev.checkWait_cpls ..).trans ((congrArg Hif.cpls hhif).trans hcpls)⟩

/-- Good slots wait for dispatch in order. -/
theorem Dev.foldl_takeSlot (t q : Nat) (idx : Nat → Nat) (data : Nat → List Byte) (l : List Nat) {d : Dev} (hf : d.unitFenced t = false) :
    let e := l.foldl (fun d i => d.takeSlot t q (idx i) (data i)) d
    (∀ g, e.get g = d.get g) ∧ e.hif.cpls = d.hif.cpls ∧ e.hif.reads = d.hif.reads ∧
      e.fetched t q = d.fetched t q ++ l.map fun i => parseTkt t q (idx i) (data i) := by
  induction l generalizing d with
  | nil => simp
  | cons i l ih =>
    have hone : d.takeSlot t q (idx i) (data i) = d.setFetched t q (d.fetched t q ++ [parseTkt t q (idx i) (data i)]) := by
      rw [Dev.takeSlot, hf]
      rfl
    rw [List.foldl_cons, hone]
    obtain ⟨hget, hcpls, hreads, hfetched⟩ := ih (d := d.setFetched t q (d.fetched t q ++ [parseTkt t q (idx i) (data i)])) hf
    refine ⟨hget, hcpls, hreads, hfetched.trans ?_⟩
    have hput : (d.setFetched t q (d.fetched t q ++ [parseTkt t q (idx i) (data i)])).fetched t q =
      d.fetched t q ++ [parseTkt t q (idx i) (data i)] := mapGet_put_same (α := List Tkt) _ _ _
    rw [hput]
    simp

/-! ### The link goes down (R76, R331) -/

/-- The fields that the start of a reset of tenant `t` writes. -/
def flrFlds (t : Nat) : List Fld := F.TEN_GSTAT_FLRBUSY t :: (List.range 8).map (F.HIF_RIDX_P t)

/-- The fetches of SQs are dropped: each read is forgotten and P falls back to C. -/
def Dev.readsDropped (d : Dev) (t : Nat) (l : List Nat) : Dev :=
  l.foldl (fun d q => (d.setRead t q {}).set (F.HIF_RIDX_P t q) (d.get (F.HIF_RIDX_C t q))) d

theorem hifRidx_pc (t q r : Nat) : fldId (F.HIF_RIDX_P t q) ≠ fldId (F.HIF_RIDX_C t r) := by
  simp only [fldId, F.HIF_RIDX_P, F.HIF_RIDX_C]
  omega

theorem hifRidx_pp {q r : Nat} (h : q ≠ r) (t : Nat) : fldId (F.HIF_RIDX_P t q) ≠ fldId (F.HIF_RIDX_P t r) := by
  simp only [fldId, F.HIF_RIDX_P]
  omega

theorem Dev.readsDropped_is (d : Dev) (t : Nat) (l : List Nat) :
    let e := d.readsDropped t l
    (∃ m, e = { d with fld := e.fld, hif := { d.hif with reads := m } }) ∧
      (∀ g, (∀ f ∈ l.map (F.HIF_RIDX_P t), fldId f ≠ fldId g) → e.get g = d.get g) ∧ (∀ q ∉ l, e.read t q = d.read t q) ∧
      ∀ q ∈ l, e.read t q = {} ∧ e.get (F.HIF_RIDX_P t q) = d.get (F.HIF_RIDX_C t q) % 65536 := by
  induction l generalizing d with
  | nil => exact ⟨⟨d.hif.reads, rfl⟩, fun _ _ => rfl, fun _ _ => rfl, by simp⟩
  | cons q l ih =>
    obtain ⟨x, hx⟩ : ∃ x, x = (d.setRead t q {}).set (F.HIF_RIDX_P t q) (d.get (F.HIF_RIDX_C t q)) := ⟨_, rfl⟩
    have hxget {g : Fld} (hg : fldId (F.HIF_RIDX_P t q) ≠ fldId g) : x.get g = d.get g := by rw [hx]; exact Dev.get_set_ne _ _ hg
    have hxp : x.get (F.HIF_RIDX_P t q) = d.get (F.HIF_RIDX_C t q) % 65536 := by rw [hx]; exact Dev.get_set_same ..
    have hxread : x.read t q = {} := by rw [hx]; simp [Dev.setRead, Dev.read]
    have hxother {r : Nat} (hr : q ≠ r) : x.read t r = d.read t r := by
      rw [hx]
      exact mapGet_put_ne (dflt := ({} : FetchRd)) (e := {}) (j := 8 * t + q) (k := 8 * t + r) d.hif.reads {} (by omega)
    have hxeq : x = { d with fld := x.fld, hif := { d.hif with reads := x.hif.reads } } := by rw [hx]; rfl
    have hcons : d.readsDropped t (q :: l) = x.readsDropped t l := by rw [hx]; rfl
    obtain ⟨⟨m, hm⟩, hget, hleft, hdone⟩ := ih x
    intro e
    have he : e = x.readsDropped t l := hcons
    rw [← he] at hm hget hdone hleft
    refine ⟨⟨m, ?_⟩, fun g hg => ?_, fun r hr => ?_, fun r hr => ?_⟩
    · rw [hm, hxeq]
    · exact (hget g fun f hf => hg f (List.mem_cons_of_mem _ hf)).trans (hxget (hg _ (by simp)))
    · obtain ⟨hrq, hrl⟩ := not_or.mp (List.mem_cons.not.mp hr)
      exact (hleft r hrl).trans (hxother (Ne.symm hrq))
    · by_cases hrl : r ∈ l
      · obtain ⟨hr1, hr2⟩ := hdone r hrl
        exact ⟨hr1, hr2.trans (congrArg (· % 65536) (hxget (hifRidx_pc t q r)))⟩
      · obtain rfl : r = q := (List.mem_cons.mp hr).resolve_right hrl
        refine ⟨(hleft r hrl).trans hxread, (hget _ fun f hf => ?_).trans hxp⟩
        obtain ⟨o, ho, rfl⟩ := List.mem_map.mp hf
        exact hifRidx_pp (fun h => hrl (by rw [← h]; exact ho)) t

/-- Commands on the steps of re-steers touch the local host alone. -/
theorem Dev.foldl_lhe {β : Type} {step : Dev → β → Dev} (h : ∀ d b, ∃ l, step d b = { d with lhe := l }) (l : List β) (d : Dev) :
    ∃ x, l.foldl step d = { d with lhe := x } := by
  induction l generalizing d with
  | nil => exact ⟨d.lhe, rfl⟩
  | cons b l ih =>
    obtain ⟨x, hx⟩ := h d b
    obtain ⟨y, hy⟩ := ih { d with lhe := x }
    exact ⟨y, by rw [List.foldl_cons, hx, hy]⟩

/-- The start of a function-level reset: step 1, its fetches dropped, and nothing else but what stops re-steers (Table 12.3). -/
theorem Dev.startFlr_is {d : Dev} {t : Nat} (hex : d.tenantExists t = true) (hbusy : d.flrBusy t = false) :
    let e := d.startFlr t
    e.get (F.TEN_GSTAT_FLRBUSY t) = 1 ∧ e.flr = mapPut {} d.flr t { d.flrOf t with step := 1, wiped := 0 } ∧
      (∀ q < 8, e.read t q = {} ∧ e.get (F.HIF_RIDX_P t q) = d.get (F.HIF_RIDX_C t q) % 65536) ∧
      d.Only { e with hif := d.hif, flr := d.flr, lhe := d.lhe } (flrFlds t) ∧
      ∃ r n b c, e.hif = { d.hif with reads := r, abandoned := n, waiting := b, tagHeld := c } := by
  obtain ⟨x, hx⟩ : ∃ x, x = (d.set (F.TEN_GSTAT_FLRBUSY t) 1).setFlr t { d.flrOf t with step := 1, wiped := 0 } := ⟨_, rfl⟩
  have hxget {g : Fld} (hg : fldId (F.TEN_GSTAT_FLRBUSY t) ≠ fldId g) : x.get g = d.get g := by rw [hx]; exact Dev.get_set_ne _ _ hg
  have hxbusy : x.get (F.TEN_GSTAT_FLRBUSY t) = 1 := by rw [hx]; exact Dev.get_set_same ..
  have hxeq : x = { d with fld := x.fld, flr := mapPut {} d.flr t { d.flrOf t with step := 1, wiped := 0 } } := by rw [hx]; rfl
  obtain ⟨y, hy⟩ : ∃ y, y = x.readsDropped t (List.range 8) := ⟨_, rfl⟩
  obtain ⟨⟨m, hm⟩, hyget, -, hydone⟩ := x.readsDropped_is t (List.range 8)
  rw [← hy] at hm hyget hydone
  obtain ⟨l, n, b, c, he⟩ : ∃ l n b c, d.startFlr t =
      { y with hif := { y.hif with abandoned := n, waiting := b, tagHeld := c }, lhe := l } := by
    obtain ⟨z, hz⟩ : ∃ z : Dev, z = { y with hif := { y.hif with
        abandoned := y.hif.abandoned + (if d.inPart t then 0 else ((List.range 8).filter fun q => (d.read t q).n != 0).length)
        waiting := mapPut false y.hif.waiting t false
        tagHeld := mapPut false y.hif.tagHeld t false } } := ⟨_, rfl⟩
    have hstart : d.startFlr t = [1, 2, 3, 4, 5, 6, 7, 8].foldl (fun d p =>
        let x := mapGet ({} : Steer) d.lhe.steer p
        if x.step ≠ 0 ∧ x.side ∧ x.tenant = t then { d with lhe := { d.lhe with steer := mapPut {} d.lhe.steer p { x with stop := true } } }
        else d) z := by
      rw [Dev.startFlr, hex, hbusy, hz, hy, hx]
      rfl
    obtain ⟨l, hl⟩ := Dev.foldl_lhe (step := fun d p =>
        let x := mapGet ({} : Steer) d.lhe.steer p
        if x.step ≠ 0 ∧ x.side ∧ x.tenant = t then { d with lhe := { d.lhe with steer := mapPut {} d.lhe.steer p { x with stop := true } } }
        else d) (fun d p => by
          simp only
          split_ifs
          · exact ⟨_, rfl⟩
          · exact ⟨d.lhe, rfl⟩) [1, 2, 3, 4, 5, 6, 7, 8] z
    exact ⟨l, _, _, _, hstart.trans (hl.trans (by rw [hz]))⟩
  have hfld {g : Fld} (e : Dev) (h : e = d.startFlr t) : e.get g = y.get g := by rw [h, he]; rfl
  have hkeep {g : Fld} (hg : ∀ f ∈ flrFlds t, fldId f ≠ fldId g) : y.get g = d.get g :=
    (hyget g fun f hf => hg f (List.mem_cons_of_mem _ hf)).trans (hxget (hg _ (by simp [flrFlds])))
  refine ⟨(hfld _ rfl).trans ((hyget _ ?_).trans hxbusy), ?_, fun q hq => ?_, ⟨?_, fun g hg => ?_⟩, ?_⟩
  · simp only [List.mem_map, forall_exists_index, and_imp, forall_apply_eq_imp_iff₂, fldId, F.HIF_RIDX_P, F.TEN_GSTAT_FLRBUSY]
    intro q _
    omega
  · rw [he, hm, hxeq]
  · obtain ⟨hread, hp⟩ := hydone q (List.mem_range.mpr hq)
    refine ⟨?_, (hfld _ rfl).trans (hp.trans (congrArg (· % 65536) (hxget ?_)))⟩
    · rw [he]
      exact hread
    · simp only [fldId, F.HIF_RIDX_C, F.TEN_GSTAT_FLRBUSY]
      omega
  · rw [he, hm, hxeq]
  · exact (hfld _ rfl).trans (hkeep hg)
  · rw [he, hm, hxeq]
    exact ⟨m, n, b, c, rfl⟩

theorem Dev.startFlr_id {d : Dev} {t : Nat} (h : d.tenantExists t = false ∨ d.flrBusy t = true) : d.startFlr t = d := by
  rw [Dev.startFlr]
  rcases h with h | h <;> simp [h]

theorem Dev.startFlr_get (d : Dev) (t : Nat) {g : Fld} (hg : ∀ f ∈ flrFlds t, fldId f ≠ fldId g) : (d.startFlr t).get g = d.get g := by
  by_cases h : d.tenantExists t = false ∨ d.flrBusy t = true
  · rw [Dev.startFlr_id h]
  · obtain ⟨hex, hbusy⟩ := not_or.mp h
    obtain ⟨-, -, -, honly, -⟩ := Dev.startFlr_is (Bool.eq_true_of_not_eq_false hex) (Bool.eq_false_iff.mpr hbusy)
    exact honly.2 g hg

/-- A tenant that exists resets from then on, and no other tenant's reset ends. -/
theorem Dev.startFlr_busy (d : Dev) (t u : Nat) (h : d.flrBusy u = true ∨ (u = t ∧ d.tenantExists t = true)) : (d.startFlr t).flrBusy u = true := by
  by_cases hut : u = t
  · subst hut
    by_cases hb : d.flrBusy u = true
    · rw [Dev.startFlr_id (.inr hb), hb]
    · obtain ⟨-, hex⟩ := h.resolve_left hb
      obtain ⟨hget, -⟩ := Dev.startFlr_is hex (Bool.eq_false_iff.mpr hb)
      rw [Dev.flrBusy, Dev.is, hget]
      rfl
  · have hb : d.flrBusy u = true := h.resolve_right fun h => hut h.1
    rw [Dev.flrBusy, Dev.is, Dev.startFlr_get]
    · exact hb
    · simp only [flrFlds, List.mem_cons, List.mem_map, forall_eq_or_imp, forall_exists_index, and_imp, forall_apply_eq_imp_iff₂, fldId,
        F.TEN_GSTAT_FLRBUSY, F.HIF_RIDX_P]
      exact ⟨by omega, fun q _ => by omega⟩

/-- A tenant begins its reset as the link goes down. -/
def Dev.downFlr (d : Dev) (t : Nat) : Dev := (d.startFlr t).setFlr t { (d.startFlr t).flrOf t with removed := t != 0 }

theorem Dev.foldl_downFlr (l : List Nat) (d : Dev) :
    (∀ g, (∀ t q, fldId (F.TEN_GSTAT_FLRBUSY t) ≠ fldId g ∧ fldId (F.HIF_RIDX_P t q) ≠ fldId g) → (l.foldl Dev.downFlr d).get g = d.get g) ∧
      ∀ u, d.flrBusy u = true ∨ (u ∈ l ∧ d.tenantExists u = true) → (l.foldl Dev.downFlr d).flrBusy u = true := by
  induction l generalizing d with
  | nil => exact ⟨fun _ _ => rfl, fun u hu => hu.resolve_right (by simp)⟩
  | cons t l ih =>
    obtain ⟨hget, hbusy⟩ := ih (d.downFlr t)
    have hone {g : Fld} (hg : ∀ t q, fldId (F.TEN_GSTAT_FLRBUSY t) ≠ fldId g ∧ fldId (F.HIF_RIDX_P t q) ≠ fldId g) :
        (d.downFlr t).get g = d.get g := by
      refine d.startFlr_get t ?_
      simp only [flrFlds, List.mem_cons, List.mem_map, forall_eq_or_imp, forall_exists_index, and_imp, forall_apply_eq_imp_iff₂]
      exact ⟨(hg t 0).1, fun q _ => (hg t q).2⟩
    rw [List.foldl_cons]
    refine ⟨fun g hg => (hget g hg).trans (hone hg), fun u hu => hbusy u ?_⟩
    have hstays (h : d.flrBusy u = true ∨ (u = t ∧ d.tenantExists t = true)) : (d.downFlr t).flrBusy u = true := d.startFlr_busy t u h
    rcases hu with hu | ⟨hu, hex⟩
    · exact .inl (hstays (.inl hu))
    · rcases List.mem_cons.mp hu with rfl | hu
      · exact .inl (hstays (.inr ⟨rfl, hex⟩))
      · refine .inr ⟨hu, (congrArg (· == 1) (hone ?_)).trans hex⟩
        intro v q
        simp only [fldId, F.TEN_GSTAT_FLRBUSY, F.HIF_RIDX_P, F.TEN_GSTAT_EXISTS]
        omega

theorem Dev.linkDown_is {d : Dev} (h : d.stewardHost = false) :
    let e := d.linkDown
    e.get F.SUP_RSTCAUSE_PCIE = 1 ∧ e.get F.HIF_STAT_LINKUP = 0 ∧ e.get F.HIF_STAT_EXTTAG = 0 ∧ e.hif.vfEnable = false ∧ e.hif.abandoned = 0 ∧
      ∀ t < 256, d.tenantExists t = true → e.flrBusy t = true := by
  obtain ⟨x, hx⟩ : ∃ x, x = ((d.set F.SUP_RSTCAUSE_PCIE 1).set F.HIF_STAT_LINKUP 0).set F.HIF_STAT_EXTTAG 0 := ⟨_, rfl⟩
  obtain ⟨hget, hbusy⟩ := Dev.foldl_downFlr x.tenants x
  have he : d.linkDown = { x.tenants.foldl Dev.downFlr x with hif := { (x.tenants.foldl Dev.downFlr x).hif with
      abandoned := 0, ari := false, vfEnable := false, numVfs := 0, msgDue := [] } } := by
    rw [Dev.linkDown, h, hx]
    rfl
  have hlow {g : Fld} (hg : fldId g < 32 * 0xE400) : d.linkDown.get g = x.get g := by
    rw [he]
    refine hget g fun t q => ?_
    simp only [fldId, F.TEN_GSTAT_FLRBUSY, F.HIF_RIDX_P] at hg ⊢
    omega
  have hcause : x.get F.SUP_RSTCAUSE_PCIE = 1 := by
    rw [hx]
    simp (disch := decide) only [Dev.get_set_ne, Dev.get_set_same]
    rfl
  have hup : x.get F.HIF_STAT_LINKUP = 0 := by
    rw [hx]
    simp (disch := decide) only [Dev.get_set_ne, Dev.get_set_same]
    rfl
  have htag : x.get F.HIF_STAT_EXTTAG = 0 := by
    rw [hx]
    exact Dev.get_set_same ..
  refine ⟨(hlow (by decide)).trans hcause, (hlow (by decide)).trans hup, (hlow (by decide)).trans htag, ?_, ?_, fun t ht hex => ?_⟩
  · rw [he]
  · rw [he]
  · have hxex : x.tenantExists t = true := by
      have hne : ∀ f ∈ [F.SUP_RSTCAUSE_PCIE, F.HIF_STAT_LINKUP, F.HIF_STAT_EXTTAG], fldId f ≠ fldId (F.TEN_GSTAT_EXISTS t) := by
        simp only [List.mem_cons, List.not_mem_nil, or_false, forall_eq_or_imp, forall_eq, fldId, F.SUP_RSTCAUSE_PCIE, F.HIF_STAT_LINKUP,
          F.HIF_STAT_EXTTAG, F.TEN_GSTAT_EXISTS]
        omega
      rw [Dev.tenantExists, Dev.is, hx, Dev.get_set_ne _ _ (hne _ (by simp)), Dev.get_set_ne _ _ (hne _ (by simp)),
        Dev.get_set_ne _ _ (hne _ (by simp))]
      exact hex
    rw [he]
    exact hbusy t (.inr ⟨List.mem_filter.mpr ⟨List.mem_range.mpr ht, hxex⟩, hxex⟩)

/-! ### The statement -/

theorem Dev.fetchDone_good {d : Dev} {t : Fin 256} {q : Nat} (hn : 0 < (d.read t.val q).n) (hpart : d.inPart t.val = false)
    (hf : d.unitFenced t.val = false) (data : List Byte) :
    let c := d.get (F.HIF_RIDX_C t.val q)
    let n := (d.read t.val q).n
    let e := d.fetchDone t.val q data false
    e.get (F.HIF_RIDX_C t.val q) = (c + n) % 65536 ∧ e.read t.val q = {} ∧ e.hif.cpls = d.hif.cpls ∧
      e.fetched t.val q = d.fetched t.val q ++ (List.range n).map fun i => parseTkt t.val q ((c + i) % 65536) ((data.drop (32 * i)).take 32) := by
  intro c n e
  obtain ⟨hc, hread, hcpls, hfetched, hrec⟩ := d.passSlots_is t.val q n
  have hf' : (d.passSlots t.val q n).unitFenced t.val = false := by rw [Dev.unitFenced, hrec]; exact hf
  obtain ⟨hget, htcpls, htreads, htfetched⟩ := Dev.foldl_takeSlot t.val q (fun i => (c + i) % 65536) (fun i => (data.drop (32 * i)).take 32)
    (List.range n) hf'
  obtain ⟨x, hx⟩ : ∃ x, x = (List.range n).foldl (fun d i => d.takeSlot t.val q ((c + i) % 65536) ((data.drop (32 * i)).take 32))
    (d.passSlots t.val q n) := ⟨_, rfl⟩
  rw [← hx] at hget htcpls htreads htfetched
  have he : e = x.checkWait t.val := by
    simp only [e, Dev.fetchDone, if_neg (Nat.pos_iff_ne_zero.mp hn), hpart, Bool.false_eq_true, if_false, hx]
    rfl
  have hold : (d.passSlots t.val q n).fetched t.val q = d.fetched t.val q := congrArg (fun m => mapGet [] m (8 * t.val + q)) hfetched
  rw [he]
  refine ⟨(Dev.checkWait_get_ridx ..).trans ((hget _).trans hc), ?_, (Dev.checkWait_cpls ..).trans (htcpls.trans hcpls), ?_⟩
  · exact (congrArg (fun m => mapGet ({} : FetchRd) m (8 * t.val + q)) ((Dev.checkWait_reads ..).trans htreads)).trans hread
  · exact (congrArg (fun m => mapGet [] m (8 * t.val + q)) (Dev.checkWait_fetched ..)).trans (htfetched.trans (congrArg (· ++ _) hold))

theorem Dev.fetchDone_poisoned {d : Dev} {t : Fin 256} {q : Nat} (hn : 0 < (d.read t.val q).n) (hpart : d.inPart t.val = false)
    (data : List Byte) : d.fetchDone t.val q data true = ((d.failRead t.val q .ePoison).hifEvent 0 t.val).checkWait t.val := by
  simp only [Dev.fetchDone, if_neg (Nat.pos_iff_ne_zero.mp hn), hpart, Bool.false_eq_true, if_false, if_true]

theorem Dev.fetchDone_stray {d : Dev} {t q : Nat} (hn : (d.read t q).n = 0) (data : List Byte) (poison : Bool) :
    d.fetchDone t q data poison = { d with hif := { d.hif with abandoned := d.hif.abandoned - 1 } } := by
  rw [Dev.fetchDone, if_pos hn]
  split_ifs with h
  · have hz : d.hif.abandoned - 1 = d.hif.abandoned := by omega
    rw [hz]
  · rfl

/-- A late or failed completion of a read that is not outstanding. -/
theorem Dev.cpl_stray {d : Dev} {t q idx : Nat} {b : Bool}
    (h : d.inPart t = true ∨ (if b = true then (d.read t q).n = 0 else d.dataReader t q idx = none)) :
    d.cplTimeout t q b idx = d ∧ d.cplError t q b idx = d := by
  rw [Dev.cplTimeout, Dev.cplError]
  by_cases hp : d.inPart t = true
  · rw [if_pos hp, if_pos hp]
    exact ⟨rfl, rfl⟩
  · have h := h.resolve_left hp
    cases b with
    | false =>
      have hnone : d.dataReader t q idx = none := h
      simp [hp, Dev.failData, hnone]
    | true =>
      have hnone : (d.read t q).n = 0 := h
      simp [hp, hnone]

/-- Settles O36: the checks of doorbells and enables, the choice of fetch, and what each end of a read leaves. -/
theorem rings : Obligations.Rings := by
  intro s t q hup
  refine ⟨fun r w hres hex hflr => Ends.of_act hup ?_, fun r w hex => ⟨Ends.of_act hup ?_, Ends.of_act hup ?_⟩,
    fun r w hex hflr => ⟨Ends.of_act hup ?_, Ends.of_act hup ?_⟩, fun r w hres hex hflr => Ends.of_act hup ?_, fun h => Ends.of_act hup ?_,
    fun v r h => ?_, fun h hpart htag => Ends.of_act hup ?_, fun n hn h hpart htag hroom hw => Ends.of_act hup ?_,
    fun u r a b h hlt hlast hturn hheld htag hutag ha hapos hb hbpos v hv =>
      ⟨fun hcov => Ends.of_act hup ?_, fun hcov hbcov => Ends.of_act hup ?_⟩,
    fun data n hn hpos hpart => ?_, fun data poison hn => Ends.of_act hup ?_, fun idx b hnone => ⟨Ends.of_act hup ?_, Ends.of_act hup ?_⟩,
    fun idx tk hpart htk => ⟨Ends.of_act hup ?_, Ends.of_act hup ?_⟩, Ends.of_act hup ?_, fun h => Ends.of_act hup ?_, fun h => Ends.of_act hup ?_⟩
  · rw [if_pos hex]
    exact s.dev.doorbell_is t r w hup hres hex hflr
  · simp only [hex, Bool.false_eq_true, if_false, Dev.writeDoorbell, Dev.onPage, Bool.not_false, if_true]
  · simp only [Dev.writeRcfg, Dev.onPage, hex, Bool.not_false, if_true]
  · have hrex : s.dev.rouse.tenantExists t.val = true := (s.dev.rouse_is _).trans hex
    have hrflr : s.dev.rouse.flrBusy t.val = true := (s.dev.rouse_is _).trans hflr
    have hopen : s.dev.rouse.regsOpen = true := s.dev.rouse_up.trans hup
    have hoff : (0x1000 + 8 * r.val) % 0x20000 = 0x1000 + 8 * r.val := by omega
    rw [if_pos hex, Dev.writeDoorbell, Dev.onPage_busy hopen hrex hrflr, Dev.rouse_inPart, Dev.rouse_pageRouse, hoff]
    split_ifs
    · exact recordedGlb_recordGlb _ _ _
    · rfl
  · have hoff : (0x108 + 16 * r.val) % 0x20000 = 0x108 + 16 * r.val := by omega
    rw [Dev.writeRcfg, Dev.onPage_busy hup hex hflr, hoff, Dev.pageRouse]
    by_cases hpart : s.dev.inPart t.val = true
    · simp only [if_pos hpart]
      exact recordedGlb_recordGlb _ _ _
    · simp only [if_neg hpart]
  · exact s.dev.ringEnable_is t r w hup hres hex hflr
  · exact Dev.fetch_none h
  · obtain ⟨hv, hdef, hnext⟩ := Dev.mem_fetchers h
    obtain ⟨hr, hready, hfirst⟩ := Dev.nextSq_is hnext
    exact ⟨hv, hr, hdef, hready, hfirst⟩
  · exact Dev.fetch_waits h (by simp [Dev.tagFree, hpart, htag])
  · have htagged : s.dev.tagFree t.val = true := by simp [Dev.tagFree, htag]
    have hwant : s.dev.fetchWant t.val q.val = n := by
      rw [hn, Dev.fetchWant, Dev.pageRoom, hpart]
      rfl
    obtain ⟨-, hdef, hnext⟩ := Dev.mem_fetchers (d := s.dev) (v := t.val) (r := q.val) (by rw [h]; simp)
    have hpos : 0 < n := hwant ▸ Dev.fetchWant_pos (Dev.nextSq_is hnext).2.1
    obtain ⟨c, hc⟩ := Dev.fetch_serves h htagged hwant hroom hpos hw
    obtain ⟨hl, hread, hsq, -, hrest⟩ := s.dev.serveFetch_shows c t.val q.val n
    obtain ⟨hget, hout⟩ := hrest (by omega)
    rw [hc]
    exact ⟨hread, hget, hl, hsq, hout hpart⟩
  · subst hv ha hb
    obtain ⟨c, hc⟩ := (Dev.pickFetch_two (q := q.val) (r := r) (b := s.dev.tktRoom u (s.dev.fetchWant u r)) hlt hlast hturn hheld).1 hcov
    obtain ⟨hl, hread, -, -, -⟩ := s.dev.serveFetch_shows c t.val q.val (s.dev.tktRoom t.val (s.dev.fetchWant t.val q.val))
    rw [Dev.fetch_two h htag hutag hapos hbpos hc]
    exact ⟨hl, congrArg FetchRd.n hread⟩
  · subst hv ha hb
    obtain ⟨c, hc, hcredit⟩ := (Dev.pickFetch_two (q := q.val) (r := r) hlt hlast hturn hheld).2 hcov hbcov
    obtain ⟨hl, hread, -, hothers, -⟩ := s.dev.serveFetch_shows c u r (s.dev.tktRoom u (s.dev.fetchWant u r))
    rw [Dev.fetch_two h htag hutag hapos hbpos hc]
    exact ⟨hl, congrArg FetchRd.n hread, (hothers _ (by omega)).trans hcredit⟩
  · subst hn
    refine ⟨fun hf => Ends.of_act hup (Dev.fetchDone_good hpos hpart hf data), Ends.of_act hup ?_, fun idx => Ends.of_act hup ?_,
      fun idx => Ends.of_act hup ?_⟩
    · rw [Dev.fetchDone_poisoned hpos hpart]
      exact s.dev.readFails t q.val (by decide) (by decide)
    · simp only [Dev.cplError, hpart, Bool.false_eq_true, if_false, if_true, if_neg (Nat.pos_iff_ne_zero.mp hpos)]
      exact s.dev.readFails t q.val (by decide) (by decide)
    · simp only [Dev.cplTimeout, hpart, Bool.false_eq_true, if_false, if_true, if_neg (Nat.pos_iff_ne_zero.mp hpos)]
      split_ifs
      · exact s.dev.readFails t q.val (by decide) (by decide)
      · exact ⟨mapGet_put_same _ _ _, fun _ => rfl, rfl⟩
  · exact Dev.fetchDone_stray hn data poison
  · exact (Dev.cpl_stray hnone).1
  · exact (Dev.cpl_stray hnone).2
  · simp only [Dev.cplTimeout, hpart, Bool.false_eq_true, if_false, Dev.failData, htk]
  · simp only [Dev.cplError, hpart, Bool.false_eq_true, if_false, Dev.failData, htk]
  · have hcond : (s.dev.rouse.tenantExists t.val && s.dev.rouse.is F.HIF_STAT_LINKUP && !s.dev.rouse.inPart t.val) =
        decide (s.dev.tenantExists t.val = true ∧ s.dev.is F.HIF_STAT_LINKUP = true ∧ s.dev.inPart t.val = false) := by
      rw [Bool.eq_iff_iff, decide_eq_true_iff]
      simp [Dev.tenantExists, and_assoc]
    rw [Dev.poisonedWrite, hcond]
    simp only [decide_eq_true_eq]
    split_ifs
    · refine ⟨s.dev.rouse.bump F.HIF_CNT_POISONIN, rfl, ?_, Dev.only_bump _ _⟩
      rw [← s.dev.rouse_get]
      exact Dev.get_set_same ..
    · rfl
  · rw [Dev.linkDown, if_pos h]
  · obtain ⟨h1, h2, h3, h4, h5, h6⟩ := Dev.linkDown_is h
    exact ⟨h1, h2, h3, h4, h5, h6 t.val t.isLt⟩

end Sys2Proof.Machine

/-!
SUPPORT. Completions, event entries and vectors (chapters 11 and 12).
-/
namespace Sys2Proof.Machine

open Sys2Proof

/-! ### Entries of rings (R310) -/

/-- Over PCI Express an entry is one posted write. -/
theorem Dev.writeEntry_out {d : Dev} {t : Nat} (h : d.inPart t = false) (addr : Nat) (l : List Byte) :
    (d.writeEntry t addr l).out = ⟨.hostWrite, t, [addr, 0], l⟩ :: d.out := by
  rw [Dev.writeEntry, h]
  rfl

/-- An entry put into a ring moves its producer index, and over PCI Express leaves as a posted write. -/
theorem Dev.pushEntry_is (d : Dev) (t r : Nat) (f : Bool → List Byte) :
    let p := d.get (F.HIF_RIDX_P t r)
    (d.pushEntry t r f).get (F.HIF_RIDX_P t r) = (p + 1) % 65536 ∧ (d.inPart t = false → (d.pushEntry t r f).out =
      ⟨.hostWrite, t, [d.ringBase t r + 16 * (p % ringSize d t r), 0], f (d.ringPhase t r)⟩ :: d.out) := by
  intro p
  obtain ⟨x, hx⟩ : ∃ x, x = d.writeEntry t (d.ringBase t r + 16 * (p % ringSize d t r)) (f (d.ringPhase t r)) := ⟨_, rfl⟩
  have hout (h : d.inPart t = false) : x.out = ⟨.hostWrite, t, [d.ringBase t r + 16 * (p % ringSize d t r), 0], f (d.ringPhase t r)⟩ :: d.out :=
    hx ▸ Dev.writeEntry_out h _ _
  rw [Dev.pushEntry]
  simp only
  rw [← hx]
  split_ifs
  · exact ⟨Dev.get_set_same .., hout⟩
  · exact ⟨Dev.get_set_same .., hout⟩

/-! ### Vectors (R340, R341) -/

theorem bitOf_add_two_pow {n v : Nat} (h : bitOf n v = false) : bitOf (n + 2 ^ v) v = true := by
  have hz : n / 2 ^ v % 2 ≠ 1 := by simpa [bitOf] using h
  have hd : (n + 2 ^ v) / 2 ^ v = n / 2 ^ v + 1 := Nat.add_div_right _ (Nat.two_pow_pos v)
  have ho : (n + 2 ^ v) / 2 ^ v % 2 = 1 := by rw [hd]; omega
  simpa [bitOf] using ho

theorem Dev.message_is (d : Dev) (t : Nat) {v : Nat} (hv : v < 8) :
    let x := d.message t v
    if d.inPart t = true then bitOf x.stw.latch v = true ∧ x = { d with stw := { d.stw with latch := x.stw.latch } }
    else if d.is (F.MSIX_CTRL_MASK t v) then x.bit (F.MSIX_PBA_PEND t) v = true ∧ d.Only x [F.MSIX_PBA_PEND t]
    else if d.pcieHeld = true then x = { d with hif := { d.hif with msgDue := d.hif.msgDue ++ [8 * t + v] } }
    else x = d.emit .msix t [v] [] := by
  intro x
  simp only [x, Dev.message]
  split_ifs with hpart hlatch
  · exact ⟨hlatch, rfl⟩
  · exact ⟨bitOf_add_two_pow (Bool.eq_false_iff.mpr hlatch), rfl⟩
  · refine ⟨?_, d.only_setBit _ _ _⟩
    rw [d.setBit_bit true hv hv]
    simp
  · rfl
  · rfl

/-- The write that unmasks a vector: MASK clears, and a pending message is taken and sent. -/
theorem Dev.unmask_is (d : Dev) (t : Fin 256) (v : Fin 8) (hup : d.up = true) (hex : d.tenantExists t.val = true) (hflr : d.flrBusy t.val = false) :
    ∃ x : Dev, x.get (F.MSIX_CTRL_MASK t.val v.val) = 0 ∧ x.bit (F.MSIX_PBA_PEND t.val) v.val = false ∧
      (d.pageRouse t.val).Only x [F.MSIX_CTRL_MASK t.val v.val, F.MSIX_PBA_PEND t.val] ∧
      d.writeMsixCtrl t.val v.val 0 = if d.bit (F.MSIX_PBA_PEND t.val) v.val then x.message t.val v.val else x := by
  obtain ⟨y, hy⟩ : ∃ y, y = (d.pageRouse t.val).set (F.MSIX_CTRL_MASK t.val v.val) 0 := ⟨_, rfl⟩
  have hmask : y.get (F.MSIX_CTRL_MASK t.val v.val) = 0 := by rw [hy]; exact Dev.get_set_same ..
  have hapart : fldId (F.MSIX_CTRL_MASK t.val v.val) ≠ fldId (F.MSIX_PBA_PEND t.val) := by
    simp only [fldId, F.MSIX_CTRL_MASK, F.MSIX_PBA_PEND]
    omega
  have hpend : y.bit (F.MSIX_PBA_PEND t.val) v.val = d.bit (F.MSIX_PBA_PEND t.val) v.val := by
    rw [hy, Dev.bit, Dev.get_set_ne _ _ hapart, Dev.pageRouse_get]
    rfl
  have hrow : (d.pageRouse t.val).writeRow (.page t) R.MSIX_CTRL v.val 0 = y := by
    have hfld : rowFld (.page t) R.MSIX_CTRL v.val ⟨0, 1, .rw, fun _ => 1⟩ = F.MSIX_CTRL_MASK t.val v.val :=
      pageFld_eq (by simp only [R.MSIX_CTRL, F.MSIX_CTRL_MASK]; omega) rfl rfl rfl
    rw [hy, ← hfld]
    rfl
  have hwrite : d.writeMsixCtrl t.val v.val 0 =
      if y.bit (F.MSIX_PBA_PEND t.val) v.val then (y.setBit (F.MSIX_PBA_PEND t.val) v.val false).message t.val v.val else y := by
    rw [Dev.writeMsixCtrl, Dev.onPage_answers _ _ hex hflr, pageOf_val, Dev.regWrite_done ((d.pageRouse_up _).trans hup) rfl, hrow]
    rfl
  rw [hwrite, ← hpend]
  have honly : (d.pageRouse t.val).Only y [F.MSIX_CTRL_MASK t.val v.val] := by rw [hy]; exact Dev.only_set _ _ _
  by_cases hb : y.bit (F.MSIX_PBA_PEND t.val) v.val = true
  · refine ⟨y.setBit (F.MSIX_PBA_PEND t.val) v.val false, (Dev.setBit_get_ne _ _ _ hapart.symm).trans hmask, ?_,
      honly.trans (y.only_setBit _ _ _), by rw [if_pos hb, if_pos hb]⟩
    rw [y.setBit_bit false v.isLt v.isLt]
    simp
  · exact ⟨y, hmask, Bool.eq_false_iff.mpr hb, honly.mono (by simp), by rw [if_neg hb, if_neg hb]⟩

/-- Settles O37: where an entry goes and where nothing happens, what the end of a holdoff sends, and how a message leaves. -/
theorem completionsAndVectors : Obligations.CompletionsAndVectors := by
  intro s t hup
  refine ⟨fun c => Ends.of_act hup ?_, Ends.of_act hup ?_, fun v => ⟨fun h => Ends.of_act hup ?_, fun h => Ends.of_act hup ?_,
    s.dev.message_is t.val v.isLt, Ends.of_act hup ?_⟩⟩
  · generalize s.dev = d
    intro r mine
    rw [Dev.writeCompletion]
    cases hfind : d.hif.cpls.find? mine with
    | none => rfl
    | some x =>
      simp only
      have hroom : (!d.ringsReach t.val || !d.ringRoom t.val (8 + c.val)) = !(d.ringsReach t.val && d.ringRoom t.val r) := (Bool.not_and _ _).symm
      rw [hroom]
      cases hb : d.ringsReach t.val && d.ringRoom t.val r
      · rfl
      · obtain ⟨hp, hout⟩ := ({ d with hif := { d.hif with cpls := d.hif.cpls.eraseIdx (d.hif.cpls.findIdx mine) } } : Dev).pushEntry_is t.val r
          (cplBytes x)
        refine ⟨_, _, rfl, rfl, ?_, hp, hout⟩
        by_cases hirq : (x.tk.irq || x.status != .done) = true
        · rw [if_pos hirq, if_pos hirq]
          rfl
        · rw [if_neg hirq, if_neg hirq]
          rfl
  · generalize s.dev = d
    rw [Dev.deliverEvent, ← Bool.not_and]
    by_cases hroom : (d.ringsReach t.val && d.ringRoom t.val 16) = false ∨ d.lar.qFenced.contains t.val = true
    · rw [if_pos hroom, if_pos (by rwa [Bool.or_eq_true, Bool.not_eq_true'])]
    · rw [if_neg hroom, if_neg (by rwa [Bool.or_eq_true, Bool.not_eq_true'])]
      cases hnext : d.nextItem t.val with
      | none => rfl
      | some j =>
        simp only
        cases hdeq : d.dequeue t.val j with
        | mk x it =>
          cases it with
          | none => rfl
          | some it =>
            obtain ⟨hp, hout⟩ := ({ x with lar := { x.lar with lostEv := mapPut false x.lar.lostEv t.val false } } : Dev).pushEntry_is t.val 16
              (evqBytes it.data (mapGet false x.lar.lostEv t.val))
            exact ⟨_, _, rfl, rfl, rfl, hp, hout⟩
  · simp only [Dev.holdoffEnd, h, Bool.not_false, if_true]
  · obtain ⟨x, hx⟩ : ∃ x : Dev, x = { s.dev.setHolding t.val v.val false with hif := { (s.dev.setHolding t.val v.val false).hif with
        modCount := mapPut 0 s.dev.hif.modCount (8 * t.val + v.val) (s.dev.get (F.TEN_MOD_COUNT t.val v.val)) } } := ⟨_, rfl⟩
    refine ⟨x, ?_, ?_, ?_, ?_⟩
    · rw [hx]
      simp [Dev.setHolding, Dev.holding]
    · rw [hx]
      exact fun _ => rfl
    · rw [hx]
      rfl
    · rw [hx, Dev.holdoffEnd, h]
      rfl
  · by_cases hex : s.dev.tenantExists t.val = false
    · rw [if_pos hex, Dev.writeMsixCtrl, Dev.onPage, hex]
      rfl
    · rw [if_neg hex]
      have hex := Bool.eq_true_of_not_eq_false hex
      by_cases hflr : s.dev.flrBusy t.val = true
      · have hoff : (0x80C + 16 * v.val) % 0x20000 = 0x80C + 16 * v.val := by omega
        rw [if_pos hflr, Dev.writeMsixCtrl, Dev.onPage_busy hup hex hflr, hoff, Dev.pageRouse]
        by_cases hpart : s.dev.inPart t.val = true
        · rw [if_pos hpart, if_pos hpart]
          exact recordedGlb_recordGlb _ _ _
        · rw [if_neg hpart, if_neg hpart, if_neg hpart]
      · rw [if_neg hflr]
        exact s.dev.unmask_is t v hup hex (Bool.eq_false_iff.mpr hflr)

end Sys2Proof.Machine

/-!
SUPPORT. Descriptors: the checks, what ends one, steering, port commands, contexts and BIND.
-/
namespace Sys2Proof.Machine

open Sys2Proof

/-! ### The checks of a descriptor (R316, R328) -/

/-- Where no status comes out first, every check passed. -/
theorem firstByRank_passed {l : List (Bool × Status)} (h : firstByRank l = .done) (hst : ∀ x ∈ l, x.2 ≠ .done) : ∀ x ∈ l, x.1 = false := by
  induction l with
  | nil => simp
  | cons x l ih =>
    obtain ⟨c, u⟩ := x
    have hl : ∀ x ∈ l, x.2 ≠ .done := fun x hx => hst x (List.mem_cons_of_mem _ hx)
    cases c with
    | false => exact List.forall_mem_cons.mpr ⟨rfl, ih h hl⟩
    | true =>
      rw [firstByRank] at h
      split_ifs at h with hr
      · exact absurd h (hst _ (List.mem_cons_self ..))
      · exact absurd (.inl h) hr

/-- A failed check is what is answered. -/
theorem match_failed {α : Type} {x : Status} (h : x ≠ .done) (a : α) (f : Status → α) :
    (match (generalizing := false) x with | .done => a | st => f st) = f x := by
  cases x with
  | done => exact absurd rfl h
  | _ => rfl

theorem Dev.doOp_failed {d : Dev} {tk : Tkt} (h : firstByRank (d.opChecks tk) ≠ .done) :
    d.doOp tk = d.finish tk (firstByRank (d.opChecks tk)) 0 0 := by
  unfold Dev.doOp
  split
  case h_16 => simp_all only [Dev.opChecks]
  all_goals
    next hop =>
      simp only [Dev.opChecks, hop] at h ⊢
      exact match_failed h _ fun st => d.finish tk st 0 0

/-- Whatever ends a descriptor touches the tickets and completions alone. -/
theorem Dev.finish_get (d : Dev) (tk : Tkt) (st : Status) (r0 r1 : Nat) (g : Fld) : (d.finish tk st r0 r1).get g = d.get g := rfl

theorem Dev.finish_stream (d : Dev) (tk : Tkt) (st : Status) (r0 r1 s : Nat) : (d.finish tk st r0 r1).stream s = d.stream s := rfl

theorem Dev.usbCharge_stream (d : Dev) (t n s : Nat) : (d.usbCharge t n).stream s = d.stream s := rfl

theorem Dev.setStream_stream_same (d : Dev) (s : Nat) (x : Strm) : (d.setStream s x).stream s = x := mapGet_put_same ..

theorem Dev.finish_hubPort (d : Dev) (tk : Tkt) (st : Status) (r0 r1 p : Nat) : (d.finish tk st r0 r1).hubPort p = d.hubPort p := rfl

/-! ### What ends a descriptor (R315) -/

theorem Dev.finish_alone {d : Dev} {tk : Tkt} (hrun : d.hif.running = [tk]) (hres : tk.result = none) (hcmp : tk.nocmp = false) (st : Status)
    (r0 r1 : Nat) : (d.finish tk st r0 r1).hif.running = [] ∧ (d.finish tk st r0 r1).hif.cpls =
      d.hif.cpls ++ [⟨{ tk with result := some (st, r0 % 2 ^ 32, r1 % 2 ^ 32) }, st, r0 % 2 ^ 32, r1 % 2 ^ 32⟩] := by
  have hsame : tk.same tk = true := by simp [Tkt.same]
  simp [Dev.finish, Dev.releaseTkts, hrun, hres, hsame, releaseDone, hcmp]

/-- A descriptor that follows an unended one of its resource waits for it. -/
theorem Dev.finish_behind {d : Dev} {a tk : Tkt} (hrun : d.hif.running = [a, tk]) (hra : a.result = none) (hres : tk.result = none)
    (hkey : a.key = tk.key) (hnz : tk.key ≠ 0) (hne : a.same tk = false) (st : Status) (r0 r1 : Nat) :
    (d.finish tk st r0 r1).hif.cpls = d.hif.cpls := by
  have hsame : tk.same tk = true := by simp [Tkt.same]
  have hkey' : a.key = ({ tk with result := some (st, r0 % 2 ^ 32, r1 % 2 ^ 32) } : Tkt).key := hkey
  have hnz' : ({ tk with result := some (st, r0 % 2 ^ 32, r1 % 2 ^ 32) } : Tkt).key ≠ 0 := hnz
  simp only [Dev.finish, Dev.releaseTkts, hrun, List.map_cons, List.map_nil, hne, hsame, hres, Bool.false_and, Bool.false_eq_true, if_false,
    Option.isNone_none, Bool.and_self, if_true, releaseDone, hra, hkey']
  rw [if_pos ⟨hnz', by simp⟩]
  simp

/-! ### NOP, STEER and PORTCMD (R216, R219, R314) -/

/-- From `d` to `e` only what the hub shows and keeps of port `p` has changed. -/
def Dev.HubSide (d e : Dev) (p : Nat) : Prop :=
  e = { d with fld := e.fld, hub := e.hub } ∧ ∀ g, fldId (F.PRT_STAT_STATUS p) ≠ fldId g → fldId (F.PRT_STAT_CHANGE p) ≠ fldId g → e.get g = d.get g

theorem Dev.HubSide.refl (d : Dev) (p : Nat) : d.HubSide d p := ⟨rfl, fun _ _ _ => rfl⟩

theorem Dev.HubSide.trans {d e x : Dev} {p : Nat} (h : d.HubSide e p) (k : e.HubSide x p) : d.HubSide x p := by
  obtain ⟨h1, h2⟩ := h
  obtain ⟨k1, k2⟩ := k
  refine ⟨?_, fun g hs hc => (k2 g hs hc).trans (h2 g hs hc)⟩
  rw [k1, h1]

theorem Dev.hubSide_mod (d : Dev) (q : Nat) (f : HubPort → HubPort) (p : Nat) : d.HubSide (d.modHubPort q f) p := ⟨rfl, fun _ _ _ => rfl⟩

theorem Dev.hubSide_setSt (d : Dev) (p i : Nat) (b : Bool) : d.HubSide (d.setSt p i b) p := by
  obtain ⟨heq, hget⟩ := d.only_setSt p i b
  exact ⟨by rw [heq], fun g hs _ => hget g (by simpa using hs)⟩

theorem Dev.hubSide_setCh (d : Dev) (p i : Nat) (b : Bool) : d.HubSide (d.setCh p i b) p := by
  obtain ⟨heq, hget⟩ := d.only_setCh p i b
  exact ⟨by rw [heq], fun g _ hc => hget g (by simpa using hc)⟩

theorem Dev.HubSide.isLocal {d e : Dev} {p : Nat} (h : d.HubSide e p) : e.isLocal p = d.isLocal p := by
  rw [Dev.isLocal, Dev.is, h.2 _ (by simp [fldId, F.PRT_STAT_STATUS, F.PRT_STAT_SIDE]) (by simp [fldId, F.PRT_STAT_CHANGE, F.PRT_STAT_SIDE])]
  rfl

theorem Dev.hubSide_reportConn (d : Dev) (p : Nat) : d.HubSide (d.reportConn p) p := by
  unfold Dev.reportConn
  simp only
  split_ifs
  · exact ((d.hubSide_setSt _ _ _).trans (Dev.hubSide_setSt _ _ _ _)).trans (Dev.hubSide_setCh _ _ _ _)
  · exact Dev.HubSide.refl _ _

theorem Dev.hubSide_portResetDone (d : Dev) {p : Nat} (hp : p ≠ 9) : d.HubSide (d.portResetDone p) p := by
  have h1 := (d.hubSide_setSt p 4 false).trans (Dev.hubSide_setCh _ p 4 true)
  unfold Dev.portResetDone
  simp only [hp, if_false]
  split_ifs
  · exact Dev.HubSide.refl _ _
  · exact h1
  · exact ((h1.trans (Dev.hubSide_setSt _ _ _ _)).trans (Dev.hubSide_setSt _ _ _ _)).trans (Dev.hubSide_setSt _ _ _ _)

theorem Dev.hubSide_portResumeDone (d : Dev) (p : Nat) : d.HubSide (d.portResumeDone p) p := by
  unfold Dev.portResumeDone
  split_ifs
  · exact ((d.hubSide_mod p _ p).trans (Dev.hubSide_setSt _ _ _ _)).trans (Dev.hubSide_setCh _ _ _ _)
  · exact Dev.HubSide.refl _ _

theorem Dev.hubSide_portPowerGood {d : Dev} {p : Nat} (h : d.isLocal p = false) : d.HubSide (d.portPowerGood p) p := by
  obtain ⟨x, hx⟩ : ∃ x, x = d.modHubPort p fun x => { x with want := false, pwren := decide (5 ≤ p) } := ⟨_, rfl⟩
  have hside : d.HubSide x p := hx ▸ d.hubSide_mod p _ p
  have hloc : x.isLocal p = false := hside.isLocal.trans h
  unfold Dev.portPowerGood
  simp only [← hx, hloc, Bool.false_eq_true, if_false]
  split_ifs
  · exact Dev.HubSide.refl _ _
  · exact (hside.trans (Dev.hubSide_setSt _ _ _ _)).trans (Dev.hubSide_reportConn _ _)

theorem Dev.startSteer_is (d : Dev) {p : Nat} (hp : p ≠ 9) (side : Bool) (tenant : Nat) (pcycle desc : Bool) :
    let e := d.startSteer p side tenant pcycle desc
    e.get (F.PRT_LSTAT_STEERING (p - 1)) = 1 ∧ e.get (F.PRT_STEER_BUSY (p - 1)) = 1 ∧
      e.steer p = ⟨1, side, tenant, pcycle, d.isLocal p, d.portOwner p, d.parked p, desc, false⟩ := by
  obtain ⟨y, hy⟩ : ∃ y, y = (d.setSteer p ⟨1, side, tenant, pcycle, d.isLocal p, d.portOwner p, d.parked p, desc, false⟩).set
    (F.PRT_LSTAT_STEERING (p - 1)) 1 := ⟨_, rfl⟩
  obtain ⟨x, hx⟩ : ∃ x, x = y.set (F.PRT_STEER_BUSY (p - 1)) 1 := ⟨_, rfl⟩
  have hsteer : x.steer p = ⟨1, side, tenant, pcycle, d.isLocal p, d.portOwner p, d.parked p, desc, false⟩ := by
    rw [hx, hy]
    simp [Dev.steer, Dev.setSteer]
  have hshown : x.get (F.PRT_LSTAT_STEERING (p - 1)) = 1 := by
    rw [hx, Dev.get_set_ne, hy, Dev.get_set_same]
    · rfl
    · simp only [fldId, F.PRT_STEER_BUSY, F.PRT_LSTAT_STEERING]; omega
  have hbusy : x.get (F.PRT_STEER_BUSY (p - 1)) = 1 := by
    rw [hx, Dev.get_set_same]
    rfl
  intro e
  have he : e = if x.isLocal p then x.endCmd p .eFlushed else ((x.portResetDone p).portResumeDone p).portPowerGood p := by
    rw [hx, hy]
    rfl
  rw [he]
  by_cases hloc : x.isLocal p = true
  · rw [if_pos hloc]
    have hget {g : Fld} (hg : fldId (F.PRT_LSTAT_RESETTING (p - 1)) ≠ fldId g) : (x.endCmd p .eFlushed).get g = x.get g := Dev.get_set_ne _ _ hg
    refine ⟨(hget ?_).trans hshown, (hget ?_).trans hbusy, hsteer⟩
    · simp [fldId, F.PRT_LSTAT_RESETTING, F.PRT_LSTAT_STEERING]
    · simp only [fldId, F.PRT_LSTAT_RESETTING, F.PRT_STEER_BUSY]; omega
  · rw [if_neg hloc]
    have h2 := (x.hubSide_portResetDone hp).trans (Dev.hubSide_portResumeDone _ p)
    have hside := h2.trans (Dev.hubSide_portPowerGood (h2.isLocal.trans (Bool.eq_false_iff.mpr hloc)))
    refine ⟨(hside.2 _ ?_ ?_).trans hshown, (hside.2 _ ?_ ?_).trans hbusy, ?_⟩
    any_goals (simp only [fldId, F.PRT_STAT_STATUS, F.PRT_STAT_CHANGE, F.PRT_STEER_BUSY, F.PRT_LSTAT_STEERING]; omega)
    rw [Dev.steer, hside.1]
    exact hsteer

theorem Dev.modLocal_localPort (d : Dev) (p : Nat) (f : LocalPort → LocalPort) : (d.modLocal p f).localPort p = f (d.localPort p) :=
  mapGet_put_same _ _ _

theorem Dev.powerUp_is (d : Dev) (p : Nat) : ∃ h, d.powerUp p = { d with hub := h } ∧ ((d.powerUp p).hubPort p).want = true := by
  unfold Dev.powerUp
  split_ifs
  · exact ⟨_, rfl, by rw [Dev.modHubPort_hubPort_same]⟩
  · exact ⟨_, rfl, by rw [Dev.modHubPort_hubPort_same]⟩

theorem Dev.usbOut_localPort (d : Dev) (p what : Nat) (data : List Byte) (q : Nat) : (d.usbOut p what data).localPort q = d.localPort q := rfl

theorem Dev.usbOut_get (d : Dev) (p what : Nat) (data : List Byte) (g : Fld) : (d.usbOut p what data).get g = d.get g := rfl

theorem Dev.modLocal_get (d : Dev) (p : Nat) (f : LocalPort → LocalPort) (g : Fld) : (d.modLocal p f).get g = d.get g := rfl

/-- A reset is driven: the contexts of the port have closed. -/
theorem Dev.doPortcmd_reset {d : Dev} {tk : Tkt} (h : firstByRank (d.portcmdChecks tk) = .done) (hc : bits (tk.word 1) 8 3 = 1) :
    let p := bits (tk.word 1) 0 4
    let e := d.doPortcmd tk
    e.get (F.PRT_LSTAT_RESETTING (p - 1)) = 1 ∧ e.get (F.PRT_LSTAT_ENABLED (p - 1)) = 0 ∧ (e.localPort p).cmd = 1 ∧
      ∃ l, e.out = ⟨.usb, p, [6], []⟩ :: l := by
  intro p e
  obtain ⟨x, hx⟩ : ∃ x, x = ((d.closePortCtxs p .eFlushed).set (F.PRT_LSTAT_ENABLED (p - 1)) 0).set (F.PRT_LSTAT_SUSP (p - 1)) 0 := ⟨_, rfl⟩
  have hen : x.get (F.PRT_LSTAT_ENABLED (p - 1)) = 0 := by
    rw [hx, Dev.get_set_ne _ _ (by simp [fldId, F.PRT_LSTAT_SUSP, F.PRT_LSTAT_ENABLED])]
    exact Dev.get_set_same ..
  have he : e = ((x.set (F.PRT_LSTAT_RESETTING (p - 1)) 1).modLocal p fun x => { x with cmd := 1 }).usbOut p 6 [] := by
    simp only [e, Dev.doPortcmd, h, hc, hx]
    rfl
  have hne : fldId (F.PRT_LSTAT_RESETTING (p - 1)) ≠ fldId (F.PRT_LSTAT_ENABLED (p - 1)) := by
    simp [fldId, F.PRT_LSTAT_RESETTING, F.PRT_LSTAT_ENABLED]
  rw [he, Dev.usbOut_localPort, Dev.modLocal_localPort, Dev.usbOut_get, Dev.usbOut_get, Dev.modLocal_get, Dev.modLocal_get, Dev.get_set_ne _ _ hne]
  exact ⟨Dev.get_set_same .., hen, rfl, _, rfl⟩

theorem Dev.doPortcmd_suspend {d : Dev} {tk : Tkt} (h : firstByRank (d.portcmdChecks tk) = .done) (hc : bits (tk.word 1) 8 3 = 2) :
    let p := bits (tk.word 1) 0 4
    (d.doPortcmd tk).localPort p = { d.localPort p with cmd := 2 } ∧ ∀ g, (d.doPortcmd tk).get g = d.get g := by
  intro p
  have he : d.doPortcmd tk = d.modLocal p fun x => { x with cmd := 2 } := by
    simp only [Dev.doPortcmd, h, hc]
    rfl
  rw [he, Dev.modLocal_localPort]
  exact ⟨rfl, fun _ => rfl⟩

theorem Dev.doPortcmd_resume {d : Dev} {tk : Tkt} (h : firstByRank (d.portcmdChecks tk) = .done) (hc : bits (tk.word 1) 8 3 = 3) :
    let p := bits (tk.word 1) 0 4
    (d.doPortcmd tk).localPort p = { d.localPort p with cmd := 3, resume := true } ∧ (d.doPortcmd tk).out = ⟨.usb, p, [5], []⟩ :: d.out ∧
      ∀ g, (d.doPortcmd tk).get g = d.get g := by
  intro p
  have he : d.doPortcmd tk = (d.modLocal p fun x => { x with cmd := 3, resume := true }).usbOut p 5 [] := by
    simp only [Dev.doPortcmd, h, hc]
    rfl
  rw [he, Dev.usbOut_localPort, Dev.modLocal_localPort]
  exact ⟨rfl, rfl, fun _ => rfl⟩

theorem Dev.doPortcmd_powerOff {d : Dev} {tk : Tkt} (h : firstByRank (d.portcmdChecks tk) = .done) (hc : bits (tk.word 1) 8 3 = 4) :
    let p := bits (tk.word 1) 0 4
    let e := d.doPortcmd tk
    e.get (F.PRT_LSTAT_POWER (p - 1)) = 0 ∧ e.get (F.PRT_LSTAT_CONN (p - 1)) = 0 ∧ (e.hubPort p).pwren = false ∧ (e.hubPort p).want = false := by
  intro p e
  have he : e = (d.localPowerOff p).finish tk .done 0 0 := by
    simp only [e, Dev.doPortcmd, h, hc]
    rfl
  obtain ⟨k, l, hoff, hpwren, hwant⟩ := d.localPowerOff_is p
  have hzero {f : Fld} (hf : f ∈ powerOffFlds p) : (d.localPowerOff p).get f = 0 := by
    rw [hoff]
    exact d.zeroed_get (powerOffFlds_apart p) hf
  have hport : (d.localPowerOff p).hubPort p = mapGet {} k.port p := by rw [hoff]; rfl
  rw [he, Dev.finish_get, Dev.finish_get, Dev.finish_hubPort]
  exact ⟨hzero (by simp [powerOffFlds]), hzero (by simp [powerOffFlds]), (congrArg HubPort.pwren hport).trans hpwren,
    (congrArg HubPort.want hport).trans hwant⟩

theorem Dev.doPortcmd_powerOn {d : Dev} {tk : Tkt} (h : firstByRank (d.portcmdChecks tk) = .done) (hc : bits (tk.word 1) 8 3 = 5) :
    let p := bits (tk.word 1) 0 4
    let e := d.doPortcmd tk
    e.localPort p = { d.localPort p with cmd := 5 } ∧ (e.hubPort p).want = true ∧ ∀ g, e.get g = d.get g := by
  intro p e
  obtain ⟨k, hk, hwant⟩ := d.powerUp_is p
  have he : e = (d.powerUp p).modLocal p fun x => { x with cmd := 5 } := by
    simp only [e, Dev.doPortcmd, h, hc]
    rfl
  have hsame : (d.powerUp p).localPort p = d.localPort p ∧ ∀ g, (d.powerUp p).get g = d.get g := by
    rw [hk]
    exact ⟨rfl, fun _ => rfl⟩
  rw [he, Dev.modLocal_localPort, hsame.1]
  exact ⟨rfl, hwant, hsame.2⟩

/-! ### Contexts open, close and are reset (R223, R231) -/

/-- What CTXOPEN writes into the entry of its context. -/
def ctxEntry (tk : Tkt) (c ivl phase : Nat) : List (Fld × Nat) :=
  [(F.LHE_CTXW0_VALID c, 1), (F.LHE_CTXW0_STATE c, 1), (F.LHE_CTXW0_PORT c, bits (tk.word 1) 24 4), (F.LHE_CTXW0_ADDR c, bits (tk.word 1) 17 7),
    (F.LHE_CTXW0_EPNUM c, bits (tk.word 1) 13 4), (F.LHE_CTXW0_DIR c, bits (tk.word 1) 12 1), (F.LHE_CTXW0_TYPE c, bits (tk.word 1) 10 2),
    (F.LHE_CTXW0_MULT c, bits (tk.word 1) 8 2), (F.LHE_CTXW0_OWNER c, tk.t), (F.LHE_CTXW1_PHASE c, phase), (F.LHE_CTXW1_IVL c, ivl),
    (F.LHE_CTXW1_MPS c, bits (tk.word 2) 10 11), (F.LHE_CTXW1_IFNUM c, bits (tk.word 2) 0 8)]

theorem ctxEntry_apart (tk : Tkt) (c ivl phase : Nat) : ((ctxEntry tk c ivl phase).map Prod.fst).Pairwise fun f g => fldId f ≠ fldId g := by
  simp only [ctxEntry, List.map_cons, List.map_nil, List.pairwise_cons, List.mem_cons, List.not_mem_nil, or_false, forall_eq_or_imp, forall_eq,
    fldId, F.LHE_CTXW0_VALID, F.LHE_CTXW0_STATE, F.LHE_CTXW0_PORT, F.LHE_CTXW0_ADDR, F.LHE_CTXW0_EPNUM, F.LHE_CTXW0_DIR, F.LHE_CTXW0_TYPE,
    F.LHE_CTXW0_MULT, F.LHE_CTXW0_OWNER, F.LHE_CTXW1_PHASE, F.LHE_CTXW1_IVL, F.LHE_CTXW1_MPS, F.LHE_CTXW1_IFNUM]
  simp
  omega

theorem ctxEntry_range (tk : Tkt) {c : Nat} (hc : c < 128) (ivl phase : Nat) : ∀ e ∈ ctxEntry tk c ivl phase,
    32 * 0x5400 ≤ fldId e.1 ∧ fldId e.1 < 32 * 0x5800 := by
  simp only [ctxEntry, List.mem_cons, List.not_mem_nil, or_false, forall_eq_or_imp, forall_eq,
    fldId, F.LHE_CTXW0_VALID, F.LHE_CTXW0_STATE, F.LHE_CTXW0_PORT, F.LHE_CTXW0_ADDR, F.LHE_CTXW0_EPNUM, F.LHE_CTXW0_DIR, F.LHE_CTXW0_TYPE,
    F.LHE_CTXW0_MULT, F.LHE_CTXW0_OWNER, F.LHE_CTXW1_PHASE, F.LHE_CTXW1_IVL, F.LHE_CTXW1_MPS, F.LHE_CTXW1_IFNUM]
  omega

/-- What CTXOPEN does beside the entry of the context leaves the entries alone. -/
theorem Dev.opened_get (x : Dev) (c : Nat) (y : Ctx) (t charge n : Nat) {p : Nat} (hp : p < 16) {g : Fld} (hlo : 32 * 0x5400 ≤ fldId g)
    (hhi : fldId g < 32 * 0x5800) : ((((x.setCtx c y).usbCharge t charge).set F.LHE_STAT_OPEN n).showPeak p).get g = x.get g := by
  rw [Dev.showPeak, Dev.get_set_ne, Dev.get_set_ne, Dev.usbCharge, Dev.get_set_ne]
  · rfl
  all_goals
    simp only [fldId, F.TEN_USEUSB_USED, F.LHE_STAT_OPEN, F.PRT_PLOAD_PEAK] at *
    omega

theorem Dev.doCtxopen_is {d : Dev} {tk : Tkt} (h : firstByRank (d.ctxopenChecks tk) = .done) : ∃ c < 128, d.ctxOpen c = false ∧
    (∀ k < c, d.ctxOpen k = true) ∧ ∃ ivl phase, ∀ f v, (f, v) ∈ ctxEntry tk c ivl phase → v < 2 ^ f.w → (d.doCtxopen tk).get f = v := by
  have hpassed := firstByRank_passed h (by simp [Dev.ctxopenChecks, Dev.descChecks])
  simp only [Dev.ctxopenChecks, List.forall_mem_append, List.forall_mem_cons] at hpassed
  obtain ⟨-, -, -, -, -, -, -, -, -, -, -, hfree, -⟩ := hpassed
  obtain ⟨c, hc⟩ := Option.isSome_iff_exists.mp (Option.isNone_eq_false_iff.mp hfree)
  obtain ⟨hopen, hlt, hfirst⟩ := List.find?_range_eq_some.mp hc
  have hlt : c < 128 := List.mem_range.mp hlt
  refine ⟨c, hlt, by simpa using hopen, fun k hk => by simpa using hfirst k hk, ?_⟩
  · obtain ⟨ivl, hivl⟩ : ∃ ivl, ivl = if bits (tk.word 1) 10 2 = 3 then min 5 (bits (tk.word 2) 21 3) else bits (tk.word 2) 21 3 := ⟨_, rfl⟩
    obtain ⟨y, phase, charge, n, he⟩ : ∃ y phase charge n, d.doCtxopen tk =
        (((((d.setAll (ctxEntry tk c ivl phase)).setCtx c y).usbCharge tk.t charge).set F.LHE_STAT_OPEN n).showPeak (bits (tk.word 1) 24 4)).finish
          tk .done c phase := by
      simp only [Dev.doCtxopen, h, hc, Option.getD_some, ← hivl, Dev.setAll, ctxEntry, List.foldl_cons, List.foldl_nil]
      exact ⟨_, _, _, _, rfl⟩
    refine ⟨ivl, phase, fun f v hf hv => ?_⟩
    obtain ⟨hlo, hhi⟩ := ctxEntry_range tk hlt ivl phase _ hf
    rw [he, Dev.finish_get, Dev.opened_get _ c y tk.t charge n (p := bits (tk.word 1) 24 4) (Nat.mod_lt _ (by decide)) (g := f) hlo hhi]
    exact d.setAll_val (ctxEntry_apart ..) v hf hv

theorem Dev.closeCtx_closed {d : Dev} {c : Nat} (hc : c < 128) (h : d.ctxOpen c = true) (st : Status) : (d.closeCtx c st).ctxOpen c = false := by
  obtain ⟨y, hy⟩ : ∃ y, y = (((d.endTkts (isXfer c) st).usbRelease (d.get (F.LHE_CTXW0_OWNER c)) (d.ctx c).charge).loseSources (lheCode c) true).loseSinks
    (lheCode c) := ⟨_, rfl⟩
  have he : d.closeCtx c st = (((y.resetRange (0x5400 + 8 * c) (0x5408 + 8 * c)).setCtx c {}).set F.LHE_STAT_OPEN
      (((y.resetRange (0x5400 + 8 * c) (0x5408 + 8 * c)).setCtx c {}).get F.LHE_STAT_OPEN - 1)).showPeak (d.get (F.LHE_CTXW0_PORT c)) := by
    rw [Dev.closeCtx, h, hy]
    rfl
  have hz : ((y.resetRange (0x5400 + 8 * c) (0x5408 + 8 * c)).setCtx c {}).get (F.LHE_CTXW0_VALID c) = 0 := by
    refine (y.resetRange_get _ _ _).trans (if_neg ?_)
    simp only [fldId, F.LHE_CTXW0_VALID]
    omega
  rw [he, Dev.ctxOpen, Dev.is, Dev.showPeak, Dev.get_set_ne, Dev.get_set_ne, hz]
  · rfl
  · simp only [fldId, F.LHE_STAT_OPEN, F.LHE_CTXW0_VALID]; omega
  · simp only [fldId, F.PRT_PLOAD_PEAK, F.LHE_CTXW0_VALID]; omega

theorem Dev.unhaltCtx_is (d : Dev) (c : Nat) : let e := d.unhaltCtx c
    e.get (F.LHE_CTXW0_STATE c) = 1 ∧ e.get (F.LHE_CTXW1_HCAUSE c) = 0 ∧ e.get (F.LHE_CTXW1_TOG c) = 0 ∧ (e.ctx c).errs = 0 ∧
      d.Only { e with lhe := d.lhe } [F.LHE_CTXW0_STATE c, F.LHE_CTXW1_HCAUSE c, F.LHE_CTXW1_TOG c] := by
  obtain ⟨x, hx⟩ : ∃ x, x = d.setAll [(F.LHE_CTXW0_STATE c, 1), (F.LHE_CTXW1_HCAUSE c, 0), (F.LHE_CTXW1_TOG c, 0)] := ⟨_, rfl⟩
  have hapart : ([(F.LHE_CTXW0_STATE c, 1), (F.LHE_CTXW1_HCAUSE c, 0), (F.LHE_CTXW1_TOG c, 0)].map Prod.fst).Pairwise fun f g => fldId f ≠ fldId g := by
    simp [fldId, F.LHE_CTXW0_STATE, F.LHE_CTXW1_HCAUSE, F.LHE_CTXW1_TOG]
    omega
  have honly : d.Only x [F.LHE_CTXW0_STATE c, F.LHE_CTXW1_HCAUSE c, F.LHE_CTXW1_TOG c] := by
    rw [hx]
    exact d.only_setAll _
  have he : d.unhaltCtx c = x.setCtx c { x.ctx c with errs := 0, ping := false } := by rw [hx]; rfl
  have hval {f : Fld} {v : Nat} (hf : (f, v) ∈ [(F.LHE_CTXW0_STATE c, 1), (F.LHE_CTXW1_HCAUSE c, 0), (F.LHE_CTXW1_TOG c, 0)]) (hv : v < 2 ^ f.w) :
      x.get f = v := by rw [hx]; exact d.setAll_val hapart v hf hv
  intro e
  have he' : e = _ := he
  rw [he']
  refine ⟨hval (by simp) (show 1 < 2 ^ 3 by decide), hval (by simp) (show 0 < 2 ^ 2 by decide), hval (by simp) (show 0 < 2 ^ 1 by decide), ?_, ?_⟩
  · exact congrArg Ctx.errs (mapGet_put_same (α := Ctx) (dflt := {}) x.lhe.ctx c { x.ctx c with errs := 0, ping := false })
  · obtain ⟨heq, hget⟩ := honly
    refine ⟨?_, hget⟩
    rw [heq]
    rfl

/-! ### Streams are bound and gain a sink (R259, R260) -/

/-- What BIND writes into the entries of its stream and of its queue. -/
def bindEntry (tk : Tkt) (s : Nat) : List (Fld × Nat) :=
  [(F.STR_W0_STATE s, 1), (F.STR_W0_SHARE s, bits (tk.word 3) 18 1), (F.STR_W0_OWNER s, tk.t), (F.STR_W0_SOURCE s, bits (tk.word 1) 16 16),
    (F.STR_W1_PREFILL s, bits (tk.word 2) 20 12), (F.STR_W1_CH s, bits (tk.word 2) 12 5), (F.STR_W1_WIDTH s, bits (tk.word 2) 8 2),
    (F.STR_W1_RATE s, bits (tk.word 2) 0 4), (F.QUE_W0_MODE (512 + s), bits (tk.word 3) 16 2), (F.QUE_W0_OWNER (512 + s), tk.t),
    (F.QUE_W0_DEPTH (512 + s), bits (tk.word 3) 0 16)]

theorem bindEntry_apart (tk : Tkt) {s : Nat} (hs : s < 256) : ((bindEntry tk s).map Prod.fst).Pairwise fun f g => fldId f ≠ fldId g := by
  simp only [bindEntry, List.map_cons, List.map_nil, List.pairwise_cons, List.mem_cons, List.not_mem_nil, or_false, forall_eq_or_imp, forall_eq,
    fldId, F.STR_W0_STATE, F.STR_W0_SHARE, F.STR_W0_OWNER, F.STR_W0_SOURCE, F.STR_W1_PREFILL, F.STR_W1_CH, F.STR_W1_WIDTH, F.STR_W1_RATE,
    F.QUE_W0_MODE, F.QUE_W0_OWNER, F.QUE_W0_DEPTH]
  simp
  omega

theorem bindEntry_low (tk : Tkt) {s : Nat} (hs : s < 256) : ∀ e ∈ bindEntry tk s, fldId e.1 < 32 * 0x20000 := by
  simp only [bindEntry, List.mem_cons, List.not_mem_nil, or_false, forall_eq_or_imp, forall_eq, fldId, F.STR_W0_STATE, F.STR_W0_SHARE,
    F.STR_W0_OWNER, F.STR_W0_SOURCE, F.STR_W1_PREFILL, F.STR_W1_CH, F.STR_W1_WIDTH, F.STR_W1_RATE, F.QUE_W0_MODE, F.QUE_W0_OWNER, F.QUE_W0_DEPTH]
  omega

/-- Charging a tenant for USB touches its page alone. -/
theorem Dev.usbCharge_get (d : Dev) (t n : Nat) {g : Fld} (h : fldId g < 32 * 0x20000) : (d.usbCharge t n).get g = d.get g := by
  refine Dev.get_set_ne _ _ ?_
  simp only [fldId, F.TEN_USEUSB_USED] at h ⊢
  omega

theorem Dev.doBind_is {d : Dev} {tk : Tkt} (h : firstByRank (d.bindChecks tk) = .done) :
    let st := bits (tk.word 1) 0 8
    (∀ f v, (f, v) ∈ bindEntry tk st → v < 2 ^ f.w → (d.doBind tk).get f = v) ∧ ((d.doBind tk).stream st).sinks = [] := by
  intro st
  obtain ⟨y, charge, hy, he⟩ : ∃ (y : Strm) (charge : Nat), y.sinks = [] ∧ d.doBind tk =
      (((d.setAll (bindEntry tk (bits (tk.word 1) 0 8))).setStream (bits (tk.word 1) 0 8) y).usbCharge tk.t charge).finish tk .done 0 0 := by
    obtain ⟨r, hr⟩ : ∃ r, r = d.reservation tk.t (bits (tk.word 1) 16 16) (bits (tk.word 2) 0 4) (bits (tk.word 2) 12 5) (bits (tk.word 2) 8 2) := ⟨_, rfl⟩
    refine ⟨{ cost := r.2.1, charge := r.2.2 }, r.2.2, rfl, ?_⟩
    simp only [Dev.doBind, h, Dev.setAll, bindEntry, List.foldl_cons, List.foldl_nil, Nat.add_sub_cancel, queOf, hr]
  have hst : st < 256 := Nat.mod_lt _ (by decide)
  rw [he]
  change (∀ f v, (f, v) ∈ bindEntry tk st → v < 2 ^ f.w → ((((d.setAll (bindEntry tk st)).setStream st y).usbCharge tk.t charge).finish tk .done 0 0).get f = v) ∧
    (((((d.setAll (bindEntry tk st)).setStream st y).usbCharge tk.t charge).finish tk .done 0 0).stream st).sinks = []
  clear_value st
  refine ⟨fun f v hf hv => ?_, ?_⟩
  · rw [Dev.finish_get, Dev.usbCharge_get _ _ _ (bindEntry_low tk hst _ hf), Dev.setStream_get]
    exact d.setAll_val (bindEntry_apart tk hst) v hf hv
  · rw [Dev.finish_stream, Dev.usbCharge_stream, Dev.setStream_stream_same, hy]

end Sys2Proof.Machine

/-!
SUPPORT. Descriptors: streams, flows, and the effect of every opcode (O39).
-/
namespace Sys2Proof.Machine

open Sys2Proof

/-! ### Streams gain and lose a sink (R260, R261) -/

theorem sinkFld_sownFld_apart {s i : Nat} (hi : i < 8) : fldId (sownFld s i) ≠ fldId (sinkFld s i) := by
  simp only [fldId, sinkFld, sownFld]
  omega

theorem attachChecks_fail (d : Dev) (tk : Tkt) : ∀ x ∈ d.attachChecks tk, x.2 ≠ .done := by
  simp only [Dev.attachChecks, Dev.descChecks, Dev.strChecks, Dev.epChecks, Dev.epBase, List.forall_mem_append, List.forall_mem_cons]
  split_ifs <;> simp only [List.forall_mem_append, List.forall_mem_cons] <;> simp

theorem Dev.doAttach_is {d : Dev} {tk : Tkt} (h : firstByRank (d.attachChecks tk) = .done) (ht : tk.t < 256) :
    let st := bits (tk.word 1) 0 8
    ∃ i < 8, mapFind (d.stream st).sinks i = none ∧ (mapFind ((d.doAttach tk).stream st).sinks i).isSome = true ∧
      (d.doAttach tk).sinkCode st i = bits (tk.word 1) 16 16 ∧ (d.doAttach tk).get (sownFld st i) = tk.t ∧
      ((d.doAttach tk).sink st i).active = (d.strState st == 3) := by
  have hpassed := firstByRank_passed h (attachChecks_fail d tk)
  simp only [Dev.attachChecks, List.forall_mem_append, List.forall_mem_cons] at hpassed
  obtain ⟨-, ⟨-, -, hfree, -⟩, -⟩ := hpassed
  obtain ⟨i, hi⟩ := Option.isSome_iff_exists.mp (Option.isNone_eq_false_iff.mp hfree)
  obtain ⟨hnone, hlt, -⟩ := List.find?_range_eq_some.mp hi
  have hlt : i < 8 := List.mem_range.mp hlt
  have hnone : mapFind (d.stream (bits (tk.word 1) 0 8)).sinks i = none := by simpa using hnone
  obtain ⟨k, charge, hk, he⟩ : ∃ (k : SinkPos) (charge : Nat), k.active = (d.strState (bits (tk.word 1) 0 8) == 3) ∧ d.doAttach tk =
      (((((d.set (sinkFld (bits (tk.word 1) 0 8) i) (bits (tk.word 1) 16 16)).set (sownFld (bits (tk.word 1) 0 8) i) tk.t).setStream
        (bits (tk.word 1) 0 8) { d.stream (bits (tk.word 1) 0 8) with sinks := mapInsert (d.stream (bits (tk.word 1) 0 8)).sinks i k })).usbCharge
          tk.t charge).finish tk .done i 0 := by
    simp only [Dev.doAttach, h, hi, Option.getD_some]
    exact ⟨_, _, rfl, rfl⟩
  have hst : bits (tk.word 1) 0 8 < 256 := Nat.mod_lt _ (by decide)
  have hcode : bits (tk.word 1) 16 16 < 2 ^ 16 := Nat.mod_lt _ (by decide)
  generalize bits (tk.word 1) 16 16 = c at *
  generalize bits (tk.word 1) 0 8 = st at *
  have hstream : (d.doAttach tk).stream st = { d.stream st with sinks := mapInsert (d.stream st).sinks i k } := by
    rw [he, Dev.finish_stream, Dev.usbCharge_stream, Dev.setStream_stream_same]
  have hsink : mapFind ((d.doAttach tk).stream st).sinks i = some k := by rw [hstream]; exact mapFind_insert_same _ _ _ hnone
  refine ⟨i, hlt, hnone, by rw [hsink]; rfl, ?_, ?_, ?_⟩
  · rw [he, Dev.sinkCode, Dev.finish_get, Dev.usbCharge_get, Dev.setStream_get, Dev.get_set_ne _ _ (sinkFld_sownFld_apart hlt), Dev.get_set_same]
    · exact Nat.mod_eq_of_lt hcode
    · simp only [fldId, sinkFld]; omega
  · rw [he, Dev.finish_get, Dev.usbCharge_get, Dev.setStream_get, Dev.get_set_same]
    · exact Nat.mod_eq_of_lt ht
    · simp only [fldId, sownFld]; omega
  · rw [Dev.sink, mapGet, hsink, ← hk]
    rfl

/-- A sink that a stream does not have. -/
def Dev.lacks (d : Dev) (s i : Nat) : Prop := mapFind (d.stream s).sinks i = none

theorem lacks_congr {d e : Dev} (h : e.strm = d.strm) {s i : Nat} : e.lacks s i ↔ d.lacks s i := by
  rw [Dev.lacks, Dev.lacks, Dev.stream, Dev.stream, h]

theorem mapFind_mapValues {α : Type} (f : α → α) (m : Map α) (k : Nat) : mapFind (m.map fun e => (e.1, f e.2)) k = (mapFind m k).map f := by
  induction m with
  | nil => rfl
  | cons e m ih =>
    obtain ⟨j, v⟩ := e
    simp only [List.map_cons, mapFind]
    split_ifs
    · rfl
    · exact ih

theorem Dev.giveCell_strm (d : Dev) (c : Nat) : (d.giveCell c).strm = d.strm := by
  obtain ⟨h, -⟩ := d.told_giveCell c
  rw [h]

theorem Dev.dropHeadCell_lacks {d : Dev} {s i : Nat} (h : d.lacks s i) (q : Nat) : (d.dropHeadCell q).lacks s i := by
  unfold Dev.dropHeadCell
  split
  · exact h
  next it rest _ =>
    split
    · exact (lacks_congr (d := d) rfl).mpr h
    next c cs _ =>
      simp only
      generalize hx : ((Dev.giveCell _ _).setCharge _ _ : Dev) = x
      have hxs : x.strm = d.strm := by rw [← hx]; exact Dev.giveCell_strm _ _
      have hl : x.lacks s i := (lacks_congr hxs).mpr h
      split_ifs
      · by_cases hs : q - 512 = s
        · rw [← hs] at hl ⊢
          rw [Dev.lacks, Dev.setStream_stream_same]
          exact (mapFind_mapValues (fun y : SinkPos => y.dropBytes 0 (min 64 it.data.length)) _ _).trans (congrArg _ hl)
        · exact (congrArg (fun y : Strm => mapFind y.sinks i) (mapGet_put_ne (dflt := {}) x.strm _ hs)).trans hl
      · exact hl

theorem Dev.trimTo_lacks {d : Dev} {s i : Nat} (h : d.lacks s i) (q m n : Nat) : (d.trimTo q m n).lacks s i := by
  induction n generalizing d m with
  | zero => exact h
  | succ n ih =>
    unfold Dev.trimTo
    split
    · exact h
    · simp only
      split_ifs
      · exact ih (Dev.dropHeadCell_lacks h q) _
      · exact h

theorem Dev.removeSink_lacks (d : Dev) (s i : Nat) : (d.removeSink s i).lacks s i := by
  unfold Dev.removeSink Dev.trimStream
  simp only
  have h {x : Dev} : (x.modStream s fun y => { y with sinks := mapErase y.sinks i }).lacks s i := by
    rw [Dev.lacks, Dev.modStream, Dev.setStream_stream_same]
    exact mapFind_erase_same _ _
  split
  · exact h
  · exact Dev.trimTo_lacks h _ _ _

theorem mapFind_modified {α : Type} (f : α → α) (m : Map α) (k : Nat) :
    mapFind (m.map fun e => if e.1 = k then (e.1, f e.2) else e) k = (mapFind m k).map f := by
  induction m with
  | nil => rfl
  | cons e m ih =>
    obtain ⟨j, v⟩ := e
    by_cases h : j = k
    · simp [mapFind, h]
    · simpa [mapFind, h] using ih

theorem Dev.doDetach_is {d : Dev} {tk : Tkt} (h : firstByRank (d.detachChecks tk) = .done) :
    let st := bits (tk.word 1) 0 8
    let i := bits (tk.word 1) 8 3
    if d.fillingBuf st i = true ∨ (epKind (d.sinkCode st i) = 3 ∧ 0 < (d.sink st i).cur) then
      ((d.doDetach tk).sink st i).leaving = true ∧ ∀ g, (d.doDetach tk).get g = d.get g
    else mapFind ((d.doDetach tk).stream st).sinks i = none := by
  have hpassed := firstByRank_passed h (by simp [Dev.detachChecks, Dev.descChecks, Dev.strChecks])
  simp only [Dev.detachChecks, List.forall_mem_append, List.forall_mem_cons] at hpassed
  obtain ⟨-, -, -, hthere, -⟩ := hpassed
  have hcond : (d.fillingBuf (bits (tk.word 1) 0 8) (bits (tk.word 1) 8 3) || (epKind (d.sinkCode (bits (tk.word 1) 0 8) (bits (tk.word 1) 8 3)) == 3 &&
      decide (0 < (d.sink (bits (tk.word 1) 0 8) (bits (tk.word 1) 8 3)).cur))) = true ↔ d.fillingBuf (bits (tk.word 1) 0 8) (bits (tk.word 1) 8 3) = true ∨
      (epKind (d.sinkCode (bits (tk.word 1) 0 8) (bits (tk.word 1) 8 3)) = 3 ∧ 0 < (d.sink (bits (tk.word 1) 0 8) (bits (tk.word 1) 8 3)).cur) := by
    simp only [Bool.or_eq_true, Bool.and_eq_true, beq_iff_eq, decide_eq_true_eq]
  simp only [Dev.doDetach, h, hcond]
  clear hcond
  generalize bits (tk.word 1) 0 8 = st at *
  generalize bits (tk.word 1) 8 3 = i at *
  split_ifs with hleave
  · obtain ⟨k, hk⟩ : ∃ k, mapFind (d.stream st).sinks i = some k := by
      cases hf : mapFind (d.stream st).sinks i with
      | none => rw [hf] at hthere; simp at hthere
      | some k => exact ⟨k, rfl⟩
    refine ⟨?_, fun g => rfl⟩
    rw [Dev.sink, Dev.finish_stream, Dev.modSink, Dev.modStream, Dev.setStream_stream_same]
    exact congrArg (fun o => (Option.getD o {}).leaving) ((mapFind_modified (fun y : SinkPos => { y with leaving := true }) _ i).trans (congrArg _ hk))
  · rw [Dev.finish_stream]
    exact Dev.removeSink_lacks _ st i

/-! ### Streams start, flush and are unbound (R262 to R264) -/

theorem Dev.doStart_is {d : Dev} {tk : Tkt} (h : firstByRank (d.startChecks tk) = .done) :
    let st := bits (tk.word 1) 0 8
    (d.doStart tk).strState st = if d.get (F.STR_W1_PREFILL st) ≤ d.qCells (512 + st) then 3 else 2 := by
  simp only [Dev.doStart, h]
  have hst : bits (tk.word 1) 0 8 < 256 := Nat.mod_lt _ (by decide)
  generalize bits (tk.word 1) 0 8 = st at *
  have hstate : (d.set (F.STR_W0_STATE st) 2).strState st = 2 := Dev.get_set_same _ _ _
  have hpre : (d.set (F.STR_W0_STATE st) 2).get (F.STR_W1_PREFILL st) = d.get (F.STR_W1_PREFILL st) :=
    Dev.get_set_ne _ _ (by simp only [fldId, F.STR_W0_STATE, F.STR_W1_PREFILL]; omega)
  have hprimed := primed_is hstate
  rw [hpre] at hprimed
  rw [Dev.strState, Dev.finish_get]
  by_cases hc : d.get (F.STR_W1_PREFILL st) ≤ d.qCells (512 + st)
  · rw [if_pos hc]
    have hc' : d.get (F.STR_W1_PREFILL st) ≤ (d.set (F.STR_W0_STATE st) 2).qCells (512 + st) := hc
    rw [if_pos hc'] at hprimed
    exact hprimed.1
  · rw [if_neg hc]
    have hc' : ¬ d.get (F.STR_W1_PREFILL st) ≤ (d.set (F.STR_W0_STATE st) 2).qCells (512 + st) := hc
    rw [if_neg hc'] at hprimed
    rw [hprimed]
    exact hstate

/-- Giving up a sink leaves what the three top bits of a word hold. -/
theorem Dev.removeSink_get (d : Dev) (s i : Nat) {g : Fld} (hplain : PlainFld g) (hlow : fldId g < 32 * 0x20000) (htop : fldId g % 32 = 29) :
    (d.removeSink s i).get g = d.get g := by
  have hneUsb : fldId (F.TEN_USEUSB_USED (d.get (sownFld s i))) ≠ fldId g := by simp only [F.TEN_USEUSB_USED, fldId] at hlow ⊢; omega
  unfold Dev.removeSink
  simp only
  refine ((Dev.heard_trimStream _ s).2 g hplain (by simp)).trans ?_
  rw [Dev.modStream, Dev.setStream_get, Dev.get_set_ne, Dev.get_set_ne, Dev.usbRelease, Dev.get_set_ne]
  · exact hneUsb
  · simp only [fldId, sinkFld] at hlow htop ⊢; omega
  · simp only [fldId, sownFld] at hlow htop ⊢; omega

theorem Dev.endSinkBuf_get (d : Dev) (s i : Nat) (st : Status) (g : Fld) : (d.endSinkBuf s i st).get g = d.get g := by
  obtain ⟨h, hh⟩ := d.endSinkBuf_eq s i st
  rw [hh]
  rfl

theorem flushFld_plain {st : Nat} (hst : st < 256) : PlainFld (F.QUE_W1_FLUSHING (512 + st)) := by
  refine ⟨fun q => ⟨?_, ?_⟩, ?_, ?_, ?_⟩ <;>
    simp only [fldId, F.QUE_W1_FLUSHING, F.QUE_W2_LOST, F.QUE_W1_LOSTSAT, F.LAR_LEAK_COUNT, F.ECC_INJ_COUNT, F.ECC_INJ_ARM] <;> omega

theorem stateFld_plain {st : Nat} (hst : st < 256) : PlainFld (F.STR_W0_STATE st) := by
  refine ⟨fun q => ⟨?_, ?_⟩, ?_, ?_, ?_⟩ <;>
    simp only [fldId, F.STR_W0_STATE, F.QUE_W2_LOST, F.QUE_W1_LOSTSAT, F.LAR_LEAK_COUNT, F.ECC_INJ_COUNT, F.ECC_INJ_ARM] <;> omega

/-- The sinks of a flushed stream that leave change neither its state nor the mark of its flush. -/
theorem Dev.flushSinks_get (l : Map SinkPos) (d : Dev) (s : Nat) {g : Fld} (hplain : PlainFld g) (hlow : fldId g < 32 * 0x20000)
    (htop : fldId g % 32 = 29) : (l.foldl (fun d e =>
      let d3 := d.endSinkBuf s e.1 .eFlushed
      if epKind (d3.sinkCode s e.1) = 5 then d3.sinkLeaves s e.1 else d3) d).get g = d.get g := by
  induction l generalizing d with
  | nil => rfl
  | cons e l ih =>
    rw [List.foldl_cons, ih]
    simp only [Dev.sinkLeaves]
    split_ifs
    · rw [Dev.removeSink_get _ _ _ hplain hlow htop, Dev.endSinkBuf_get]
    all_goals exact Dev.endSinkBuf_get _ _ _ _ _

theorem Dev.startFlush_is {d : Dev} {st : Nat} (hst : st < 256) (hbound : d.strBound st = true) (h5 : d.strState st ≠ 5) :
    (d.startFlush st).strState st = 4 ∧ (d.startFlush st).get (F.QUE_W1_FLUSHING (512 + st)) = 1 := by
  obtain ⟨h, hh⟩ := ((d.set (F.STR_W0_STATE st) 4).set (F.QUE_W1_FLUSHING (queOf st)) 1).endBufs_eq (d.srcCode st) .eFlushed
  have hne : fldId (F.QUE_W1_FLUSHING (queOf st)) ≠ fldId (F.STR_W0_STATE st) := by
    simp only [fldId, F.QUE_W1_FLUSHING, F.STR_W0_STATE, queOf]; omega
  rw [Dev.startFlush, hbound, Dev.strState]
  simp only [Bool.not_true, Bool.false_eq_true, if_false]
  rw [if_neg h5, hh]
  rw [Dev.flushSinks_get _ _ _ (stateFld_plain hst), Dev.flushSinks_get _ _ _ (flushFld_plain hst)]
  · exact ⟨(Dev.get_set_ne _ _ hne).trans (Dev.get_set_same _ _ _), Dev.get_set_same _ _ _⟩
  all_goals
    simp only [fldId, F.STR_W0_STATE, F.QUE_W1_FLUSHING]
    omega

theorem Dev.doFlush_is {d : Dev} {tk : Tkt} (h : firstByRank (d.flushChecks tk) = .done) :
    let st := bits (tk.word 1) 0 8
    if d.strState st = 4 then d.doFlush tk = d
    else (d.doFlush tk).strState st = 4 ∧ (d.doFlush tk).get (F.QUE_W1_FLUSHING (512 + st)) = 1 := by
  have hpassed := firstByRank_passed h (by simp [Dev.flushChecks, Dev.descChecks, Dev.strChecks])
  simp only [Dev.flushChecks, Dev.strChecks, List.forall_mem_append, List.forall_mem_cons, beq_eq_false_iff_ne] at hpassed
  obtain ⟨-, ⟨h0, h5, -⟩, -⟩ := hpassed
  simp only [Dev.doFlush, h]
  have hst : bits (tk.word 1) 0 8 < 256 := Nat.mod_lt _ (by decide)
  generalize bits (tk.word 1) 0 8 = st at *
  by_cases h4 : d.strState st = 4
  · simp only [if_pos h4]
  · simp only [if_neg h4]
    exact d.startFlush_is hst (by simp [Dev.strBound, h0, h5]) h5

theorem Dev.doUnbind_is {d : Dev} {tk : Tkt} (h : firstByRank (d.unbindChecks tk) = .done) :
    let st := bits (tk.word 1) 0 8
    (d.doUnbind tk).strState st = 0 ∧ (d.doUnbind tk).items (512 + st) = [] ∧ (d.doUnbind tk).stream st = {} := by
  simp only [Dev.doUnbind, h]
  have hst : bits (tk.word 1) 0 8 < 256 := Nat.mod_lt _ (by decide)
  generalize bits (tk.word 1) 0 8 = st at *
  rw [Dev.strState, Dev.finish_get, Dev.finish_stream]
  unfold Dev.unbindStream
  simp only
  generalize Dev.usbRelease _ _ _ = x
  obtain ⟨y, hy⟩ : ∃ y, y = x.emptyQueue (queOf st) := ⟨_, rfl⟩
  have hitems : y.items (512 + st) = [] := by rw [hy]; exact (x.emptyQueue_is (512 + st) st).1
  rw [← hy]
  refine ⟨?_, hitems, Dev.setStream_stream_same _ _ _⟩
  rw [Dev.setStream_get, Dev.get_set_ne, Dev.get_set_ne, Dev.get_set_ne, Dev.get_set_ne, Dev.resetRange_get, if_neg]
  · rfl
  all_goals
    simp only [fldId, F.STR_W0_STATE, F.QUE_W0_MODE, F.QUE_W0_DEPTH, F.QUE_W0_OWNER, F.QUE_W1_FLUSHING, queOf]
    omega

/-! ### Flows open and close (R372) -/

theorem Dev.flow_setFlow_same (d : Dev) (f : Nat) (x : Flow) : (d.setFlow f x).flow f = x := mapGet_put_same ..

/-- The device in which HAYOPEN asks for its path. -/
def Dev.openingFlow (d : Dev) (tk : Tkt) : Dev :=
  (((d.set (F.HAY_FLOW_UNIT (bits (tk.word 1) 0 8)) (bits (tk.word 1) 16 12)).set (F.HAY_FLOW_DIR (bits (tk.word 1) 0 8))
    (bitNat (bitOf (tk.word 1) 8))).hayCharge tk.t (ceilDiv (bits (tk.word 2) 16 16) 16)).setFlow (bits (tk.word 1) 0 8)
      { owner := tk.t, farFlow := bits (tk.word 2) 0 8, bytes := bits (tk.word 2) 16 16, opening := true }

theorem Dev.openingFlow_is (d : Dev) (tk : Tkt) : let f := bits (tk.word 1) 0 8
    (d.openingFlow tk).flow f = { owner := tk.t, farFlow := bits (tk.word 2) 0 8, bytes := bits (tk.word 2) 16 16, opening := true } ∧
      (d.openingFlow tk).get (F.HAY_FLOW_UNIT f) = bits (tk.word 1) 16 12 ∧ (d.openingFlow tk).is (F.HAY_FLOW_DIR f) = bitOf (tk.word 1) 8 := by
  unfold Dev.openingFlow
  have hf : bits (tk.word 1) 0 8 < 256 := Nat.mod_lt _ (by decide)
  have hu : bits (tk.word 1) 16 12 < 2 ^ 12 := Nat.mod_lt _ (by decide)
  generalize bits (tk.word 1) 0 8 = f at *
  refine ⟨Dev.flow_setFlow_same _ _ _, ?_, ?_⟩
  · rw [Dev.setFlow_get, Dev.hayCharge, Dev.get_set_ne, Dev.get_set_ne, Dev.get_set_same]
    · exact Nat.mod_eq_of_lt hu
    all_goals
      simp only [fldId, F.HAY_FLOW_DIR, F.HAY_FLOW_UNIT, F.TEN_USEHAY_USED]
      omega
  · rw [Dev.is, Dev.setFlow_get, Dev.hayCharge, Dev.get_set_ne, Dev.get_set_same]
    · cases bitOf (tk.word 1) 8 <;> rfl
    · simp only [fldId, F.HAY_FLOW_DIR, F.TEN_USEHAY_USED]
      omega

theorem Dev.sourceBack_get (d : Dev) (s : Nat) (g : Fld) : (d.sourceBack s).get g = d.get g := by
  unfold Dev.sourceBack
  simp only
  split_ifs <;> rfl

theorem Dev.sourcesBackOf_get (d : Dev) (t : Nat) (p : Nat → Bool) (g : Fld) : (d.sourcesBackOf t p).get g = d.get g := by
  unfold Dev.sourcesBackOf
  generalize d.boundStreams.filter _ = l
  induction l generalizing d with
  | nil => rfl
  | cons s l ih => rw [List.foldl_cons, ih, Dev.sourceBack_get]

theorem Dev.endTkts_get (d : Dev) (p : Tkt → Bool) (st : Status) (g : Fld) : (d.endTkts p st).get g = d.get g := rfl

theorem Dev.pathUp_opening {d : Dev} {f : Nat} (h : (d.flow f).opening = true) :
    (d.pathUp f).flowOpen f = true ∧ (d.pathUp f).get (F.HAY_FLOW_UNIT f) = d.get (F.HAY_FLOW_UNIT f) := by
  unfold Dev.pathUp
  simp only [h, if_true]
  rw [Dev.flowOpen, Dev.is, Dev.endTkts_get, Dev.endTkts_get, Dev.get_set_same, Dev.get_set_ne]
  · exact ⟨rfl, rfl⟩
  · simp only [fldId, F.HAY_FLOW_OPEN, F.HAY_FLOW_UNIT]
    omega

theorem Dev.doHayopen_is {d : Dev} {tk : Tkt} (h : firstByRank (d.hayopenChecks tk) = .done) : let f := bits (tk.word 1) 0 8
    if bitOf (tk.word 1) 8 then (d.doHayopen tk).flowOpen f = true ∧ (d.doHayopen tk).get (F.HAY_FLOW_UNIT f) = bits (tk.word 1) 16 12
    else d.doHayopen tk = match (d.openingFlow tk).requestPath f with
      | .inl r => (d.openingFlow tk).failOpen f (reasonStatus r) false
      | .inr y => if y.isMe (y.get (F.HAY_FLOW_UNIT f)) then y.pathUp f else y := by
  obtain ⟨hflow, hunit, -⟩ := d.openingFlow_is tk
  have he : d.doHayopen tk = if bitOf (tk.word 1) 8 then
        ((d.openingFlow tk).pathUp (bits (tk.word 1) 0 8)).sourcesBackOf tk.t (hayCode (bits (tk.word 1) 0 8))
      else match (d.openingFlow tk).requestPath (bits (tk.word 1) 0 8) with
        | .inl r => (d.openingFlow tk).failOpen (bits (tk.word 1) 0 8) (reasonStatus r) false
        | .inr y => if y.isMe (y.get (F.HAY_FLOW_UNIT (bits (tk.word 1) 0 8))) then y.pathUp (bits (tk.word 1) 0 8) else y := by
    simp only [Dev.doHayopen, h]
    rfl
  rw [he]
  generalize d.openingFlow tk = x at *
  simp only
  split_ifs
  · obtain ⟨h1, h2⟩ := x.pathUp_opening (f := bits (tk.word 1) 0 8) (by rw [hflow])
    rw [Dev.flowOpen, Dev.is, Dev.sourcesBackOf_get, Dev.sourcesBackOf_get]
    exact ⟨h1, h2.trans hunit⟩
  · rfl

theorem Dev.dropFlow_is (d : Dev) (f : Nat) (tell : Bool) : (d.dropFlow f tell).flowOpen f = false ∧ (d.dropFlow f tell).flow f = {} := by
  unfold Dev.dropFlow
  simp only
  generalize Dev.hayRelease _ _ _ = x
  refine ⟨?_, Dev.flow_setFlow_same _ _ _⟩
  rw [Dev.flowOpen, Dev.is, Dev.setFlow_get, Dev.get_set_ne, Dev.get_set_ne, Dev.get_set_ne, Dev.get_set_same]
  · rfl
  all_goals
    simp only [fldId, F.HAY_FLOW_OPEN, F.HAY_FLOW_DIR, F.HAY_FLOW_REROUTING, F.HAY_FLOW_UNIT]
    omega

/-! ### The effect of every opcode (R314, R316) -/

theorem steerDescChecks_fail (d : Dev) (tk : Tkt) : ∀ x ∈ d.steerDescChecks tk, x.2 ≠ .done := by
  simp only [Dev.steerDescChecks, Dev.descChecks, Dev.steerChecks, Dev.steerWrong, List.forall_mem_append, List.forall_mem_cons]
  simp

theorem Dev.doSteer_is {d : Dev} {tk : Tkt} (h : firstByRank (d.steerDescChecks tk) = .done) : let p := bits (tk.word 1) 0 4
    let e := d.doSteer tk
    e.get (F.PRT_LSTAT_STEERING (p - 1)) = 1 ∧ e.get (F.PRT_STEER_BUSY (p - 1)) = 1 ∧ e.steer p =
      ⟨1, bitOf (tk.word 1) 8, bits (tk.word 1) 16 8, bitOf (tk.word 1) 9, d.isLocal p, d.portOwner p, d.parked p, true, false⟩ := by
  have hpassed := firstByRank_passed h (steerDescChecks_fail d tk)
  simp only [Dev.steerDescChecks, List.forall_mem_append, List.forall_mem_cons, Bool.or_eq_false_iff, decide_eq_false_iff_not] at hpassed
  obtain ⟨-, ⟨⟨-, hle⟩, -⟩, -⟩ := hpassed
  simp only [Dev.doSteer, h]
  exact d.startSteer_is (by omega) _ _ _ _

theorem Dev.doCtxclose_is {d : Dev} {tk : Tkt} (h : firstByRank (d.ctxcloseChecks tk) = .done) :
    (d.doCtxclose tk).ctxOpen (bits (tk.word 1) 0 7) = false := by
  have hpassed := firstByRank_passed h (by simp [Dev.ctxcloseChecks, Dev.descChecks, Dev.ctxChecks])
  simp only [Dev.ctxcloseChecks, Dev.ctxChecks, List.forall_mem_append, List.forall_mem_cons, Bool.not_eq_false'] at hpassed
  obtain ⟨-, -, -, hopen, -⟩ := hpassed
  simp only [Dev.doCtxclose, h]
  exact Dev.closeCtx_closed (Nat.mod_lt _ (by decide)) hopen .eFlushed

theorem Dev.doCtxreset_is {d : Dev} {tk : Tkt} (h : firstByRank (d.ctxresetChecks tk) = .done) : let c := bits (tk.word 1) 0 7
    let e := d.doCtxreset tk
    e.get (F.LHE_CTXW0_STATE c) = 1 ∧ e.get (F.LHE_CTXW1_HCAUSE c) = 0 ∧ e.get (F.LHE_CTXW1_TOG c) = 0 ∧ (e.ctx c).errs = 0 ∧
      d.Only { e with lhe := d.lhe, hif := d.hif } [F.LHE_CTXW0_STATE c, F.LHE_CTXW1_HCAUSE c, F.LHE_CTXW1_TOG c] := by
  obtain ⟨hstate, hcause, htog, herrs, heq, hget⟩ := d.unhaltCtx_is (bits (tk.word 1) 0 7)
  simp only [Dev.doCtxreset, h]
  refine ⟨hstate, hcause, htog, herrs, ?_, hget⟩
  exact congrArg (fun y : Dev => { y with hif := d.hif }) heq

theorem Dev.doOp_effect {d : Dev} {tk : Tkt} (ht : tk.t < 256) (h : firstByRank (d.opChecks tk) = .done) : DescriptorEffect d (d.doOp tk) tk := by
  have hdesc (hop : tk.op = 0x10) (f : Fld) (v : Nat) (hf : (f, v) ∈ bindEntry tk (bits (tk.word 1) 0 8)) (hv : v < 2 ^ f.w) : (d.doOp tk).get f = v := by
    simp only [Dev.opChecks, Dev.doOp, hop] at h ⊢
    exact (Dev.doBind_is h).1 f v hf hv
  refine ⟨fun hop => ?_, fun hop => ?_, fun hop => ?_, fun hop => ?_, fun hop => ?_, fun hop => ?_, fun hop => ?_, fun hop => ?_, fun hop => ?_,
    fun hop => ?_, fun hop => ?_, fun hop => ?_, fun hop => ?_, fun hop => ?_, fun hop => ?_⟩
  case refine_7 =>
    rcases hop with hop | hop
    all_goals
      simp only [Dev.opChecks, hop] at h
      simp only [Dev.doOp, hop, Dev.doXfer, Dev.doBuf, h]
  case refine_8 =>
    have hsinks : ((d.doOp tk).stream (bits (tk.word 1) 0 8)).sinks = [] := by
      simp only [Dev.opChecks, Dev.doOp, hop] at h ⊢
      exact (Dev.doBind_is h).2
    exact ⟨hdesc hop _ _ (by simp [bindEntry]) (show 1 < 2 ^ 3 by decide), hdesc hop _ _ (by simp [bindEntry]) ht,
      hdesc hop _ _ (by simp [bindEntry]) (Nat.mod_lt _ (by decide)), hdesc hop _ _ (by simp [bindEntry]) (Nat.mod_lt _ (by decide)),
      hdesc hop _ _ (by simp [bindEntry]) (Nat.mod_lt _ (by decide)), hdesc hop _ _ (by simp [bindEntry]) (Nat.mod_lt _ (by decide)),
      hdesc hop _ _ (by simp [bindEntry]) (Nat.mod_lt _ (by decide)), hdesc hop _ _ (by simp [bindEntry]) (Nat.mod_lt _ (by decide)),
      hdesc hop _ _ (by simp [bindEntry]) (Nat.mod_lt _ (by decide)), hdesc hop _ _ (by simp [bindEntry]) (ht.trans (show 256 < 2 ^ 9 by decide)), hsinks⟩
  all_goals simp only [Dev.opChecks, Dev.doOp, hop] at h ⊢
  case refine_1 => rw [h]
  case refine_2 => exact Dev.doSteer_is h
  case refine_3 =>
    exact ⟨Dev.doPortcmd_reset h, Dev.doPortcmd_suspend h, Dev.doPortcmd_resume h, Dev.doPortcmd_powerOff h, Dev.doPortcmd_powerOn h⟩
  case refine_4 =>
    obtain ⟨c, hc, hfree, hfirst, ivl, phase, hentry⟩ := Dev.doCtxopen_is h
    refine ⟨c, hc, hfree, hfirst, ?_, hentry _ _ (by simp [ctxEntry]) (show 1 < 2 ^ 3 by decide),
      hentry _ _ (by simp [ctxEntry]) (Nat.mod_lt _ (by decide)), hentry _ _ (by simp [ctxEntry]) (Nat.mod_lt _ (by decide)),
      hentry _ _ (by simp [ctxEntry]) (Nat.mod_lt _ (by decide)), hentry _ _ (by simp [ctxEntry]) (Nat.mod_lt _ (by decide)),
      hentry _ _ (by simp [ctxEntry]) (Nat.mod_lt _ (by decide)), hentry _ _ (by simp [ctxEntry]) ht,
      hentry _ _ (by simp [ctxEntry]) (Nat.mod_lt _ (by decide))⟩
    rw [Dev.ctxOpen, Dev.is, hentry (F.LHE_CTXW0_VALID c) 1 (by simp [ctxEntry]) (show 1 < 2 ^ 1 by decide)]
    rfl
  case refine_5 => exact Dev.doCtxclose_is h
  case refine_6 => exact Dev.doCtxreset_is h
  case refine_9 => exact Dev.doAttach_is h ht
  case refine_10 => exact Dev.doDetach_is h
  case refine_11 => exact Dev.doStart_is h
  case refine_12 => exact Dev.doFlush_is h
  case refine_13 => exact Dev.doUnbind_is h
  case refine_14 =>
    obtain ⟨hflow, hunit, hdir⟩ := d.openingFlow_is tk
    exact ⟨d.openingFlow tk, hflow, hunit, hdir, Dev.doHayopen_is h⟩
  case refine_15 =>
    obtain ⟨hopen, hflow⟩ := d.dropFlow_is (bits (tk.word 1) 0 8) true
    exact ⟨d.dropFlow (bits (tk.word 1) 0 8) true, hopen, hflow, by simp only [Dev.doHayclose, h, Dev.closeFlow]⟩

/-- Settles O39: a descriptor that fails a check does nothing else, one that passes has its opcode's effect, and its completion waits for those
of its resource before it. -/
theorem descriptorEffects : Obligations.DescriptorEffects := by
  unfold Obligations.DescriptorEffects
  exact fun d tk ht _ => ⟨Dev.doOp_failed, fun st r0 r1 hrun hres hcmp => Dev.finish_alone hrun hres hcmp st r0 r1,
    fun a st r0 r1 hrun hra hres hkey hne hsame => Dev.finish_behind hrun hra hres hkey hne hsame st r0 r1, Dev.doOp_effect ht⟩

end Sys2Proof.Machine

/-!
SUPPORT. Descriptors: dispatch and the packet of a sink (O38).
-/
namespace Sys2Proof.Machine

open Sys2Proof

/-! ### The packet of a sink (R263) -/

theorem Dev.sinkBoundary_absent {d : Dev} {st i : Nat} (h : mapFind (d.stream st).sinks i = none) (k : Nat) : d.sinkBoundary st i k = d := by
  simp only [Dev.sinkBoundary, h, Option.isNone_none, if_true]

theorem Dev.tdmPacket_is (d : Dev) {p st i : Nat} {y : SinkPos} (h : mapFind (d.stream st).sinks i = some y) :
    if d.is (F.TDM_STAT_RUNNING p) = false then d.tdmPacket p st i = d
    else if y.leaving = true then d.tdmPacket p st i = d.removeSink st i
    else match (d.modSink st i fun k => { k with cur := 0 }).sinkBank p st i d.almTime with
      | (x, none) => d.tdmPacket p st i = x
      | (x, some (z, l)) => d.tdmPacket p st i = x.emit .tdm p [] (((x.bankWords p st i z l).map fun w => beBytes 4 w.2).flatten) := by
  have hsink : d.sink st i = y := by rw [Dev.sink, mapGet, h]; rfl
  unfold Dev.tdmPacket
  rw [hsink]
  by_cases hr : d.is (F.TDM_STAT_RUNNING p) = false
  · simp [hr]
  · rw [if_neg hr]
    simp only [Bool.not_eq_false] at hr
    by_cases hl : y.leaving = true
    · simp [hr, hl]
    · rw [if_neg hl]
      simp only [hr, hl, Bool.not_true, Bool.false_eq_true, if_false]
      generalize Dev.sinkBank _ _ _ _ _ = r
      obtain ⟨x, o⟩ := r
      cases o <;> rfl

theorem Dev.sinkBoundary_is (d : Dev) {st i : Nat} (k : Nat) {y : SinkPos} (h : mapFind (d.stream st).sinks i = some y) : let e := d.sinkBoundary st i k
    match epKind (d.sinkCode st i) with
    | 1 => e = if d.slotFeedback (epId (d.sinkCode st i)) then d else d.funcIso (epId (d.sinkCode st i)) k []
    | 2 => if d.ctxServed (epId (d.sinkCode st i)) then e = d.isoTransaction (epId (d.sinkCode st i)) true [] else e = d
    | 3 => let p := tdmPort (d.sinkCode st i)
      if d.is (F.TDM_STAT_RUNNING p) = false then e = d
      else if y.leaving = true then e = d.removeSink st i
      else match (d.modSink st i fun k => { k with cur := 0 }).sinkBank p st i d.almTime with
        | (x, none) => e = x
        | (x, some (z, l)) => e = x.emit .tdm p [] (((x.bankWords p st i z l).map fun w => beBytes 4 w.2).flatten)
    | 4 => e = d.flowSend (epId (d.sinkCode st i))
    | _ => e = d.ringPacket st i := by
  intro e
  have he : e = match epKind (d.sinkCode st i) with
      | 1 => if d.slotFeedback (epId (d.sinkCode st i)) then d else d.funcIso (epId (d.sinkCode st i)) k []
      | 2 => if d.ctxServed (epId (d.sinkCode st i)) then d.isoTransaction (epId (d.sinkCode st i)) true [] else d
      | 3 => d.tdmPacket (tdmPort (d.sinkCode st i)) st i
      | 4 => d.flowSend (epId (d.sinkCode st i))
      | _ => d.ringPacket st i := by
    simp only [e, Dev.sinkBoundary, h, Option.isNone_some, Bool.false_eq_true, if_false] <;> rfl
  clear_value e
  subst he
  generalize epKind (d.sinkCode st i) = kind
  match kind with
  | 0 => rfl
  | 1 => rfl
  | 2 => simp only; split_ifs <;> rfl
  | 3 => exact d.tdmPacket_is h
  | 4 => rfl
  | _ + 5 => rfl

theorem Dev.sinkPacket_short {d : Dev} {st i n : Nat} (hrun : d.strState st = 3) (hact : (d.sink st i).active = true) (hshort : d.waiting st i < n) :
    let r := d.sinkPacket st i n
    r.2 = none ∧ r.1.get (F.QUE_W3_UNDER (512 + st)) = satInc 0xFFFF (d.get (F.QUE_W3_UNDER (512 + st))) % 0x10000 ∧
      r.1.lar.due = d.lar.due ++ [.under (512 + st)] := by
  have he : d.sinkPacket st i n = (d.underrun st, none) := by simp [Dev.sinkPacket, hrun, hact, hshort]
  rw [he]
  exact ⟨rfl, Dev.get_set_same _ _ _, rfl⟩

/-! ### Dispatch (R314, R322, R348) -/

theorem Dev.setFetched_fetched_same (d : Dev) (t q : Nat) (l : List Tkt) : (d.setFetched t q l).fetched t q = l := mapGet_put_same ..

theorem Dev.dispatch_is {d : Dev} {t q : Nat} {tk : Tkt} {rest : List Tkt} (hf : d.fetched t q = tk :: rest) (ht : tk.t = t) (hlt : t < 256) :
    let e := d.dispatch t q
    if d.flrBusy t = true ∨ d.fenceHolds tk = true then e = d
    else if d.unitFenced t = true then e = ((d.setFetched t q rest).complete tk .eFenced).checkWait t
    else if d.atBound tk = true then e = d.beginWait t [q]
    else ∃ x y : Dev, e = y.checkWait t ∧ x.hif.running = d.hif.running ++ [tk] ∧ x.fetched t q = rest ∧ x = { d with hif := x.hif } ∧
      if firstByRank (x.opChecks tk) = .done then tk.sq < 8 → DescriptorEffect x y tk
      else y = x.finish tk (firstByRank (x.opChecks tk)) 0 0 := by
  intro e
  have he : e = if d.flrBusy t || d.fenceHolds tk then d
      else if !d.unitFenced t && d.atBound tk then d.beginWait t [q]
      else ((d.setFetched t q rest).start tk).checkWait t := by simp only [e, Dev.dispatch, hf]
  have hfence : (d.setFetched t q rest).unitFenced tk.t = d.unitFenced t := by rw [ht]; rfl
  clear_value e
  subst he
  simp only [Bool.or_eq_true]
  by_cases hheld : d.flrBusy t = true ∨ d.fenceHolds tk = true
  · rw [if_pos hheld, if_pos hheld]
  rw [if_neg hheld, if_neg hheld]
  by_cases hunit : d.unitFenced t = true
  · rw [if_pos hunit, Dev.start, hfence]
    simp only [hunit, Bool.not_true, Bool.false_and, Bool.false_eq_true, if_false, if_true]
  rw [if_neg hunit]
  by_cases hbound : d.atBound tk = true
  · simp only [hunit, hbound, Bool.not_false, Bool.and_self, if_true]
  rw [if_neg hbound, Dev.start, hfence]
  simp only [hunit, hbound, Bool.and_false, Bool.false_eq_true, if_false]
  obtain ⟨x, hx⟩ : ∃ x : Dev, x = ({ d.setFetched t q rest with
    hif := { (d.setFetched t q rest).hif with running := (d.setFetched t q rest).hif.running ++ [tk] } } : Dev) := ⟨_, rfl⟩
  refine ⟨x, x.doOp tk, by rw [hx], by rw [hx]; rfl, ?_, by rw [hx]; rfl, ?_⟩
  · rw [hx]
    exact d.setFetched_fetched_same t q rest
  · by_cases hc : firstByRank (x.opChecks tk) = .done
    · rw [if_pos hc]
      exact fun _ => Dev.doOp_effect (ht ▸ hlt) hc
    · rw [if_neg hc]
      exact Dev.doOp_failed hc

section Commands

variable {t : Fin 256} {q : Fin 8} {s : State} {c : Instr}

/-- Command `c` dispatches the descriptor next in order where it meets a condition that every descriptor of opcode `op` with command code `cmd`
meets, and, unless `c` is DISPATCH, no descriptor of another opcode. -/
def Dispatches (t : Fin 256) (q : Fin 8) (s : State) (c : Instr) (op cmd : Nat) : Prop :=
  ∃ p : Tkt → Bool, exec c s = (act s fun d => d.dispatchIf t.val q.val p) ∧
    (∀ tk : Tkt, tk.op = op → bits (tk.word 1) 8 3 = cmd → p tk = true) ∧ (c ≠ .dispatch t q → ∀ tk : Tkt, tk.op ≠ op → p tk = false)

theorem dispatches_op {n : Nat} (h : exec c s = act s fun d => d.dispatchIf t.val q.val (opIs n)) (cmd : Nat) : Dispatches t q s c n cmd :=
  ⟨opIs n, h, fun _ hop _ => by simp [opIs, hop], fun _ _ hop => by simp [opIs, hop]⟩

theorem dispatches_cmd {n : Nat} (h : exec c s = act s fun d => d.dispatchIf t.val q.val (cmdIs n)) : Dispatches t q s c 0x02 n :=
  ⟨cmdIs n, h, fun _ hop hcmd => by simp [cmdIs, hop, hcmd], fun _ _ hop => by simp [cmdIs, hop]⟩

theorem Dev.dispatchIf_true (d : Dev) (t q : Nat) : d.dispatchIf t q (fun _ => true) = d.dispatch t q := by
  unfold Dev.dispatchIf
  split
  next hf => simp only [Dev.dispatch, hf]
  next => rfl

theorem dispatches_dispatch (op cmd : Nat) : Dispatches t q s (.dispatch t q) op cmd := by
  refine ⟨fun _ => true, ?_, fun _ _ _ => rfl, fun h => absurd rfl h⟩
  simp only [Dev.dispatchIf_true]
  rfl

/-- The command of a descriptor's opcode dispatches the descriptor next in order where it has that opcode, and that command code. -/
theorem descriptorCommand_dispatches (t : Fin 256) (q : Fin 8) (op cmd : Nat) (s : State) :
    Dispatches t q s (descriptorCommand t q op cmd) op cmd := by
  unfold descriptorCommand
  split
  case h_3 =>
    split
    case h_6 => exact dispatches_dispatch _ _
    all_goals exact dispatches_cmd rfl
  case h_17 => exact dispatches_dispatch _ _
  all_goals exact dispatches_op rfl _

theorem Dev.dispatchIf_front {d : Dev} {t q : Nat} {p : Tkt → Bool} {tk : Tkt} {rest : List Tkt} (h : d.fetched t q = tk :: rest) :
    d.dispatchIf t q p = if p tk then d.dispatch t q else d := by
  simp only [Dev.dispatchIf, h]

end Commands

/-- Settles O38: every command of a descriptor's own dispatches it as DISPATCH does, which holds it, ends it, lets its ring wait, or runs it. -/
theorem descriptorDispatch : Obligations.DescriptorDispatch := by
  unfold Obligations.DescriptorDispatch
  intro s t q hup
  refine ⟨fun tk rest hf ht c hc => ?_, fun tk rest op cmd hf hop hcmd => ?_, fun hf => Ends.of_act hup ?_,
    fun st i k => ⟨fun hnone => Ends.of_act hup (Dev.sinkBoundary_absent hnone k), fun y hy => Ends.of_act hup (s.dev.sinkBoundary_is k hy),
      fun n hrun hact hshort => Dev.sinkPacket_short hrun hact hshort⟩⟩
  · have hdisp : Dispatches t q s c tk.op (bits (tk.word 1) 8 3) := by
      rcases List.mem_cons.mp hc with rfl | hc
      · exact dispatches_dispatch _ _
      · rw [List.mem_singleton.mp hc]
        exact descriptorCommand_dispatches t q _ _ s
    obtain ⟨p, hexec, hp, -⟩ := hdisp
    rw [hexec]
    refine Ends.of_act hup ?_
    rw [Dev.dispatchIf_front hf, if_pos (hp tk rfl rfl)]
    exact Dev.dispatch_is hf ht t.isLt
  · obtain ⟨p, hexec, -, hp⟩ := descriptorCommand_dispatches t q op.val cmd.val s
    rw [hexec]
    refine Ends.of_act hup ?_
    rw [Dev.dispatchIf_front hf, hp hcmd tk hop]
    rfl
  · simp only [Dev.dispatch, hf]

end Sys2Proof.Machine

/-!
SUPPORT. Provisioning fuse fields and key derivation (O60).
-/
namespace Sys2Proof.Machine

open Sys2Proof

/-! ### Register writes that are rejected -/

theorem recordedGlb_of_rejected {d : Dev} {row : RegRow} {i : Nat} {w : Word} {checks : List (Bool × Status)} {eff : Dev → Dev} {st : Status}
    (hup : d.up = true) (hne : st ≠ .done)
    (hst : firstByRank ((setsReserved row w, .eField) :: (d.changesLocked .bar0 row i w, .eLocked) :: checks) = st) :
    RecordedGlb d (d.regWrite .bar0 row i w checks eff) (row.base + row.stride * i) st := by
  rw [Dev.regWrite_rejected hup hne hst]
  exact recordedGlb_recordGlb d _ st

/-! ### Provisioning fuse fields (R529, R538, R539) -/

theorem progWord_toNat (w : Word) {f : Nat} (hf : f < 16) : (progWord w f).toNat = 2 ^ 31 + (w.toNat % 2 ^ 31 / 16) * 16 + f := by
  rw [progWord, BitVec.toNat_ofNat]
  exact Nat.mod_eq_of_lt (by omega)

theorem progWord_field (w : Word) {f : Nat} (hf : f < 16) : bits (progWord w f).toNat 0 4 = f := by
  rw [progWord_toNat w hf, bits]
  omega

theorem progWord_go (w : Word) {f : Nat} (hf : f < 16) : bitOf (progWord w f).toNat 31 = true := by
  rw [progWord_toNat w hf, bitOf, beq_iff_eq]
  omega

/-- The checks of LCS_PROG with GO, in the order of R328. -/
theorem progChecks_first : ∀ locked warn busy closed prog low full : Bool,
    firstByRank [(locked, .eLocked), (warn, .eState), (busy, .eBusy), (false, .eField), (closed, .eState), (prog, .eState), (low, .eRange),
      (full, .eNores)] = if low then .eRange else if locked then .eLocked else if warn || closed || prog then .eState else if busy then .eBusy
        else if full then .eNores else .done := by decide

theorem Dev.only_writeLcsProg (d : Dev) (w : Word) : d.Only (d.writeRow .bar0 R.LCS_PROG 0 w) [F.LCS_PROG_GO, F.LCS_PROG_FIELD] :=
  d.only_writeRow .bar0 R.LCS_PROG 0 w

theorem Dev.writeLcsProg_field (d : Dev) (w : Word) : (d.writeRow .bar0 R.LCS_PROG 0 w).get F.LCS_PROG_FIELD = bits w.toNat 0 4 :=
  d.writeRow_get (g := ⟨0, 4, .rw, fun _ => 0⟩) (by simp [R.LCS_PROG]) (by simp [R.LCS_PROG]) (.inl rfl)

theorem Dev.writeLcsProg_is {d : Dev} {w : Word} {f : Nat} (hup : d.up = true) (hres : setsReserved R.LCS_PROG w = false)
    (hgo : bitOf w.toNat 31 = true) (hf : bits w.toNat 0 4 = f) (h1 : 1 ≤ f) (h5 : f ≤ 5) : let e := d.writeLcsProg w
    if f = 5 ∧ mapGet 0 d.key.buf 0 ≤ d.versionFloor then RecordedGlb d e 0x17040 .eRange
    else if d.is F.LCS_CTRL_LOCK = true then RecordedGlb d e 0x17040 .eLocked
    else if d.is F.SUP_STAT_WARN = true ∨ d.fieldOpen f = false ∨ (d.fuseField f).prog = true then RecordedGlb d e 0x17040 .eState
    else if d.lcsBusy = true then RecordedGlb d e 0x17040 .eBusy
    else if f = 5 ∧ 16 ≤ d.fuse.floors.length then RecordedGlb d e 0x17040 .eNores
    else e.get F.LCS_PROG_BUSY = 1 ∧ e.get F.LCS_PROG_GO = 0 ∧ e.get F.LCS_PROG_FIELD = f ∧
      e.key = { d.key with prog := some (f, if f = 5 then d.keyBytes.take 4 else d.keyBytes) } ∧
      d.Only { e with key := d.key } [F.LCS_PROG_BUSY, F.LCS_PROG_GO, F.LCS_PROG_FIELD] := by
  have hfirst : firstByRank ((setsReserved R.LCS_PROG w, .eField) :: (d.changesLocked .bar0 R.LCS_PROG 0 w, .eLocked) :: (d.lcsClosed ++
      [((f == 0 || decide (5 < f)) && (true || f != d.get F.LCS_PROG_FIELD), .eField), (true && !d.fieldOpen f, .eState),
       (true && (d.fuseField f).prog, .eState), (true && f == 5 && decide (mapGet 0 d.key.buf 0 ≤ d.versionFloor), .eRange),
       (true && f == 5 && decide (16 ≤ d.fuse.floors.length), .eNores)])) =
      if f = 5 ∧ mapGet 0 d.key.buf 0 ≤ d.versionFloor then .eRange else if d.is F.LCS_CTRL_LOCK = true then .eLocked
      else if d.is F.SUP_STAT_WARN = true ∨ d.fieldOpen f = false ∨ (d.fuseField f).prog = true then .eState else if d.lcsBusy = true then .eBusy
      else if f = 5 ∧ 16 ≤ d.fuse.floors.length then .eNores else .done := by
    have hfield : (f == 0 || decide (5 < f)) = false := by simp; omega
    rw [firstByRank_own hres rfl, hfield]
    refine (progChecks_first (d.is F.LCS_CTRL_LOCK) (d.is F.SUP_STAT_WARN) d.lcsBusy (!d.fieldOpen f) (d.fuseField f).prog
      (f == 5 && decide (mapGet 0 d.key.buf 0 ≤ d.versionFloor)) (f == 5 && decide (16 ≤ d.fuse.floors.length))).trans ?_
    simp only [Bool.and_eq_true, Bool.or_eq_true, Bool.not_eq_true', beq_iff_eq, decide_eq_true_eq, or_assoc]
  unfold Dev.writeLcsProg
  simp only [hgo, hf]
  by_cases hlow : f = 5 ∧ mapGet 0 d.key.buf 0 ≤ d.versionFloor
  · rw [if_pos hlow] at hfirst ⊢
    exact recordedGlb_of_rejected hup (by decide) hfirst
  rw [if_neg hlow] at hfirst ⊢
  by_cases hlock : d.is F.LCS_CTRL_LOCK = true
  · rw [if_pos hlock] at hfirst ⊢
    exact recordedGlb_of_rejected hup (by decide) hfirst
  rw [if_neg hlock] at hfirst ⊢
  by_cases hclosed : d.is F.SUP_STAT_WARN = true ∨ d.fieldOpen f = false ∨ (d.fuseField f).prog = true
  · rw [if_pos hclosed] at hfirst ⊢
    exact recordedGlb_of_rejected hup (by decide) hfirst
  rw [if_neg hclosed] at hfirst ⊢
  by_cases hbusy : d.lcsBusy = true
  · rw [if_pos hbusy] at hfirst ⊢
    exact recordedGlb_of_rejected hup (by decide) hfirst
  rw [if_neg hbusy] at hfirst ⊢
  by_cases hfull : f = 5 ∧ 16 ≤ d.fuse.floors.length
  · rw [if_pos hfull] at hfirst ⊢
    exact recordedGlb_of_rejected hup (by decide) hfirst
  rw [if_neg hfull] at hfirst ⊢
  rw [Dev.regWrite_done hup hfirst]
  have honly := d.only_writeLcsProg w
  have hfld := d.writeLcsProg_field w
  generalize d.writeRow .bar0 R.LCS_PROG 0 w = x at *
  have hy : d.Only ((x.set F.LCS_PROG_GO 0).set F.LCS_PROG_BUSY 1) [F.LCS_PROG_BUSY, F.LCS_PROG_GO, F.LCS_PROG_FIELD] :=
    ((honly.trans (Dev.only_set _ _ _)).trans (Dev.only_set _ _ _)).mono (by simp)
  obtain ⟨m, rfl⟩ := honly.eq_with
  exact ⟨Dev.get_set_same _ _ _, (Dev.get_set_ne _ _ (by decide)).trans (Dev.get_set_same _ _ _),
    (Dev.get_set_ne _ _ (by decide)).trans ((Dev.get_set_ne _ _ (by decide)).trans (hfld.trans hf)), rfl, hy⟩

/-! ### The end of a provisioning (R529, R540) -/

theorem Dev.lcsEvent_keeps (d : Dev) (bit : Nat) : (d.lcsEvent bit).key = d.key ∧ (d.lcsEvent bit).fuse = d.fuse := by
  obtain ⟨heq, -⟩ := d.told_raise (bitFld 0x170C0 bit) (0x1900 + bit) [0] 0 0 0 (by simp)
  exact ⟨(congrArg (fun y : Dev => y.key) heq :), (congrArg (fun y : Dev => y.fuse) heq :)⟩

theorem Dev.lcsEvent_get (d : Dev) {bit : Nat} {g : Fld} (hg : fldId (bitFld 0x170C0 bit) ≠ fldId g) (hp : PlainFld g) :
    (d.lcsEvent bit).get g = d.get g :=
  (d.told_raise (bitFld 0x170C0 bit) (0x1900 + bit) [0] 0 0 0 (by simp)).2 g hp (by simpa using hg)

/-- What a field that is programmed holds. -/
def Dev.blown (d : Dev) (v : List Byte) (part : Bool) : FuseField :=
  { prog := true, partly := part, val := if part then (List.range v.length).map fun i => v.getD i 0 &&& Config.fresh (d.free + i) 8 else v }

theorem Dev.blowField_same (d : Dev) (v : List Byte) (part : Bool) {f : Nat} (h1 : 1 ≤ f) (h4 : f ≤ 4) :
    (d.blowField f v part).fuseField f = d.blown v part ∧ (d.blowField f v part).fuse.floors = d.fuse.floors := by
  obtain rfl | rfl | rfl | rfl : f = 1 ∨ f = 2 ∨ f = 3 ∨ f = 4 := by omega
  · exact ⟨mapGet_put_same (dflt := ({} : FuseField)) d.fuse.imgdig d.fuse.cycle (d.blown v part), rfl⟩
  · exact ⟨rfl, rfl⟩
  · exact ⟨mapGet_put_same (dflt := ({} : FuseField)) d.fuse.kdev d.fuse.cycle (d.blown v part), rfl⟩
  · exact ⟨mapGet_put_same (dflt := ({} : FuseField)) d.fuse.kprod d.fuse.cycle (d.blown v part), rfl⟩

/-- Past the four fields the floor gains a slot. -/
theorem Dev.blowField_floor (d : Dev) (v : List Byte) {f : Nat} (h : 4 < f) :
    (d.blowField f v false).fuse.floors = d.fuse.floors ++ [leNat (v.take 4)] := by
  obtain ⟨k, rfl⟩ : ∃ k, f = k + 5 := ⟨f - 5, by omega⟩
  rfl

theorem Dev.blowField_keeps (d : Dev) (f : Nat) (v : List Byte) (part : Bool) : (d.blowField f v part).key = d.key ∧
    (d.blowField f v part).fuse.life = d.fuse.life ∧ (d.blowField f v part).fuse.cycle = d.fuse.cycle :=
  match f with
  | 0 => ⟨rfl, rfl, rfl⟩
  | 1 => ⟨rfl, rfl, rfl⟩
  | 2 => ⟨rfl, rfl, rfl⟩
  | 3 => ⟨rfl, rfl, rfl⟩
  | 4 => ⟨rfl, rfl, rfl⟩
  | _ + 5 => ⟨rfl, rfl, rfl⟩

/-- Programming a field leaves the rows of the others. -/
theorem Dev.blowField_rows (d : Dev) (f : Nat) (v : List Byte) (part : Bool) : let z := (d.blowField f v part).fuse
    (f ≠ 1 → z.imgdig = d.fuse.imgdig) ∧ (f ≠ 2 → z.unldig = d.fuse.unldig) ∧ (f ≠ 3 → z.kdev = d.fuse.kdev) ∧ (f ≠ 4 → z.kprod = d.fuse.kprod) :=
  match f with
  | 0 => ⟨fun _ => rfl, fun _ => rfl, fun _ => rfl, fun _ => rfl⟩
  | 1 => ⟨fun h => absurd rfl h, fun _ => rfl, fun _ => rfl, fun _ => rfl⟩
  | 2 => ⟨fun _ => rfl, fun h => absurd rfl h, fun _ => rfl, fun _ => rfl⟩
  | 3 => ⟨fun _ => rfl, fun _ => rfl, fun h => absurd rfl h, fun _ => rfl⟩
  | 4 => ⟨fun _ => rfl, fun _ => rfl, fun _ => rfl, fun h => absurd rfl h⟩
  | _ + 5 => ⟨fun _ => rfl, fun _ => rfl, fun _ => rfl, fun _ => rfl⟩

theorem Dev.blowField_other (d : Dev) {f : Nat} (v : List Byte) (part : Bool) {g : Nat} (h1 : 1 ≤ g) (h4 : g ≤ 4) (hne : g ≠ f) :
    (d.blowField f v part).fuseField g = d.fuseField g := by
  obtain ⟨himg, hunl, hdev, hprod⟩ := d.blowField_rows f v part
  obtain ⟨-, -, hcycle⟩ := d.blowField_keeps f v part
  obtain rfl | rfl | rfl | rfl : g = 1 ∨ g = 2 ∨ g = 3 ∨ g = 4 := by omega
  · simp only [Dev.fuseField, himg hne.symm, hcycle]
  · simp only [Dev.fuseField, hunl hne.symm]
  · simp only [Dev.fuseField, hdev hne.symm, hcycle]
  · simp only [Dev.fuseField, hprod hne.symm, hcycle]

theorem Dev.fuseField_congr {d e : Dev} (h : e.fuse = d.fuse) (f : Nat) : e.fuseField f = d.fuseField f := by
  unfold Dev.fuseField
  rw [h]

theorem Dev.progDone_eq {d : Dev} {f : Nat} {v : List Byte} (h : d.key.prog = some (f, v)) (ok : Bool) : ∃ x : Dev,
    x = ({ d with key := { d.key with prog := none } } : Dev).blowField f v (!ok) ∧ (d.progDone ok).fuse = x.fuse ∧ (d.progDone ok).key = x.key ∧
      (d.progDone ok).get F.LCS_PROG_BUSY = 0 ∧ (d.progDone ok).get F.LCS_PROG_STATUS = statusCode (if ok then .done else .eInternal) ∧
      (d.progDone ok).get F.LCS_INT_PROGDONE = 1 := by
  obtain ⟨x, hx⟩ : ∃ x : Dev, x = ({ d with key := { d.key with prog := none } } : Dev).blowField f v (!ok) := ⟨_, rfl⟩
  have he : d.progDone ok = ((x.showLcs.set F.LCS_PROG_BUSY 0).set F.LCS_PROG_STATUS (statusCode (if ok then .done else .eInternal))).lcsEvent 0 := by
    simp only [Dev.progDone, h, hx]
  obtain ⟨heq, -⟩ := x.only_showLcs
  rw [he]
  generalize x.showLcs = y at *
  obtain ⟨hkey, hfuse⟩ := ((y.set F.LCS_PROG_BUSY 0).set F.LCS_PROG_STATUS (statusCode (if ok then .done else .eInternal))).lcsEvent_keeps 0
  refine ⟨x, hx, hfuse.trans (congrArg (fun y : Dev => y.fuse) heq :), hkey.trans (congrArg (fun y : Dev => y.key) heq :), ?_, ?_,
    Dev.raise_get_int _ _ _ _ _ _ (plainFld_of_fldId (by decide) (by decide) (by decide)) (by simp)⟩
  · rw [Dev.lcsEvent_get _ (by decide) (plainFld_of_fldId (by decide) (by decide) (by decide)), Dev.get_set_ne _ _ (by decide)]
    exact Dev.get_set_same _ _ _
  · rw [Dev.lcsEvent_get _ (by decide) (plainFld_of_fldId (by decide) (by decide) (by decide)), Dev.get_set_same]
    cases ok <;> rfl

/-! ### Derivation (R528) -/

theorem deriveChecks_first : ∀ top nodsk busy : Bool, firstByRank [(top, .eField), (nodsk, .eState), (busy, .eBusy)] =
    if top then .eField else if nodsk then .eState else if busy then .eBusy else .done := by decide

theorem Dev.only_writeLcsDerive (d : Dev) (w : Word) : d.Only (d.writeRow .bar0 R.LCS_DERIVE 0 w) [F.LCS_DERIVE_GO] :=
  d.only_writeRow .bar0 R.LCS_DERIVE 0 w

theorem Dev.writeLcsDerive_is {d : Dev} {w : Word} (hup : d.up = true) (hres : setsReserved R.LCS_DERIVE w = false) (hgo : bitOf w.toNat 31 = true) :
    let e := d.writeLcsDerive w
    if bits (d.get (F.LCS_LABEL_LABEL 1)) 24 8 = 0xFF then RecordedGlb d e 0x17088 .eField
    else if d.is F.LCS_STAT_DSKOK = false then RecordedGlb d e 0x17088 .eState
    else if d.is F.LCS_DERIVE_BUSY = true then RecordedGlb d e 0x17088 .eBusy
    else ∃ x : Dev, d.Only x [F.LCS_DERIVE_GO] ∧ x.get F.LCS_DERIVE_GO = 0 ∧
      e = (x.putBytes F.LCS_DKEY_KEY 0 (hmac256 d.key.dsk d.label)).lcsEvent 2 ∧ e.get F.LCS_INT_DERIVEDONE = 1 := by
  have hfirst : firstByRank ((setsReserved R.LCS_DERIVE w, .eField) :: (d.changesLocked .bar0 R.LCS_DERIVE 0 w, .eLocked) ::
      [(true && bits (d.get (F.LCS_LABEL_LABEL 1)) 24 8 == 0xFF, .eField), (true && !d.is F.LCS_STAT_DSKOK, .eState),
       (true && d.is F.LCS_DERIVE_BUSY, .eBusy)]) = if bits (d.get (F.LCS_LABEL_LABEL 1)) 24 8 = 0xFF then .eField
      else if d.is F.LCS_STAT_DSKOK = false then .eState else if d.is F.LCS_DERIVE_BUSY = true then .eBusy else .done := by
    rw [firstByRank_own hres rfl]
    refine (deriveChecks_first (bits (d.get (F.LCS_LABEL_LABEL 1)) 24 8 == 0xFF) (!d.is F.LCS_STAT_DSKOK) (d.is F.LCS_DERIVE_BUSY)).trans ?_
    simp only [Bool.not_eq_true', beq_iff_eq]
  unfold Dev.writeLcsDerive
  simp only [hgo]
  by_cases htop : bits (d.get (F.LCS_LABEL_LABEL 1)) 24 8 = 0xFF
  · rw [if_pos htop] at hfirst ⊢
    exact recordedGlb_of_rejected hup (by decide) hfirst
  rw [if_neg htop] at hfirst ⊢
  by_cases hdsk : d.is F.LCS_STAT_DSKOK = false
  · rw [if_pos hdsk] at hfirst ⊢
    exact recordedGlb_of_rejected hup (by decide) hfirst
  rw [if_neg hdsk] at hfirst ⊢
  by_cases hbusy : d.is F.LCS_DERIVE_BUSY = true
  · rw [if_pos hbusy] at hfirst ⊢
    exact recordedGlb_of_rejected hup (by decide) hfirst
  rw [if_neg hbusy] at hfirst ⊢
  rw [Dev.regWrite_done hup hfirst]
  obtain ⟨x, hx⟩ : ∃ x, x = (d.writeRow .bar0 R.LCS_DERIVE 0 w).set F.LCS_DERIVE_GO 0 := ⟨_, rfl⟩
  have honly : d.Only x [F.LCS_DERIVE_GO] := by
    rw [hx]
    exact ((d.only_writeLcsDerive w).trans (Dev.only_set _ _ _)).mono (by simp)
  have hkey : x.key.dsk = d.key.dsk := by
    obtain ⟨m, hm⟩ := honly.eq_with
    rw [hm]
  have hlabel : x.label = d.label := by rw [Dev.label, Dev.label, honly.2 _ (by decide), honly.2 _ (by decide)]
  have hzero : x.get F.LCS_DERIVE_GO = 0 := by
    rw [hx]
    exact Dev.get_set_same _ _ _
  refine ⟨x, honly, hzero, ?_, Dev.raise_get_int _ _ _ _ _ _ (plainFld_of_fldId (by decide) (by decide) (by decide)) (by simp)⟩
  rw [← hkey, ← hlabel, hx]
  rfl

/-- Settles O60: what LCS_PROG is checked for, first in the order of R328; a field that ends programmed, or partly so; and a derivation. -/
theorem lifeCycleFields : Obligations.LifeCycleFields := by
  unfold Obligations.LifeCycleFields
  intro s hup
  refine ⟨fun w f c hc hres => ?_, fun ok hnone => Ends.of_act hup (by simp only [Dev.progDone, hnone]), fun f v hprog =>
    ⟨Ends.of_act hup ?_, Ends.of_act hup ?_⟩, fun w hres => Ends.of_act hup (Dev.writeLcsDerive_is hup hres (bitOf_withBit_same w (by decide)))⟩
  · have hf : 1 ≤ f ∧ f ≤ 5 ∧ exec c s = act s fun d => d.writeLcsProg (progWord w f) := by
      simp only [List.mem_cons, List.not_mem_nil, or_false, Prod.mk.injEq] at hc
      rcases hc with ⟨rfl, rfl⟩ | ⟨rfl, rfl⟩ | ⟨rfl, rfl⟩ | ⟨rfl, rfl⟩ | ⟨rfl, rfl⟩ <;> exact ⟨by decide, by decide, rfl⟩
    obtain ⟨h1, h5, hexec⟩ := hf
    rw [hexec]
    exact Ends.of_act hup (Dev.writeLcsProg_is hup hres (progWord_go w (by omega)) (progWord_field w (by omega)) h1 h5)
  · obtain ⟨x, hx, hfuse, hkey, hbusy, hstatus, hint⟩ := Dev.progDone_eq hprog true
    generalize s.dev.progDone true = e at *
    obtain ⟨kkey, klife, kcycle⟩ := Dev.blowField_keeps ({ s.dev with key := { s.dev.key with prog := none } } : Dev) f v false
    have hfield (g : Nat) : e.fuseField g = x.fuseField g := Dev.fuseField_congr hfuse g
    refine ⟨by rw [hkey, hx]; exact congrArg (Keys.prog) kkey, hbusy, hstatus, hint, by rw [hfuse, hx]; exact klife, by rw [hfuse, hx]; exact kcycle,
      fun h1 h4 => ?_, fun h4 => ?_, fun g h1 h4 hne => ?_⟩
    · rw [hfield, hfuse, hx]
      exact Dev.blowField_same _ v false h1 h4
    · rw [hfuse, hx]
      exact Dev.blowField_floor _ v h4
    · rw [hfield, hx]
      exact Dev.blowField_other _ v false h1 h4 hne
  · obtain ⟨x, hx, hfuse, hkey, hbusy, hstatus, hint⟩ := Dev.progDone_eq hprog false
    generalize s.dev.progDone false = e at *
    obtain ⟨kkey, -, -⟩ := Dev.blowField_keeps ({ s.dev with key := { s.dev.key with prog := none } } : Dev) f v true
    have hfield (g : Nat) : e.fuseField g = x.fuseField g := Dev.fuseField_congr hfuse g
    refine ⟨by rw [hkey, hx]; exact congrArg (Keys.prog) kkey, hbusy, hstatus, hint, fun h1 h4 => ?_, fun g h1 h4 hne => ?_⟩
    · obtain ⟨hsame, -⟩ := Dev.blowField_same ({ s.dev with key := { s.dev.key with prog := none } } : Dev) v true h1 h4
      rw [hfield, hx]
      exact ⟨congrArg FuseField.prog hsame, congrArg FuseField.partly hsame⟩
    · rw [hfield, hx]
      exact Dev.blowField_other _ v true h1 h4 hne

end Sys2Proof.Machine

/-!
SUPPORT. What the parts of a fence leave alone: records, alert pins, power, resets, fuses, keys, steward, flashes.
-/
namespace Sys2Proof.Machine

open Sys2Proof

/-- What lies apart from register fields, queues, streams, ports and lanes. -/
def Dev.aside (d : Dev) : Map URec × Map AlertPin × Pow × Map Flr × Fuses × Keys × Stw × Fls × Grn × Map Byte :=
  (d.urec, d.alert, d.pow, d.flr, d.fuse, d.key, d.stw, d.fls, d.grn, d.flash)

@[simp] theorem Dev.set_aside (d : Dev) (f : Fld) (v : Nat) : (d.set f v).aside = d.aside := rfl

theorem foldl_aside {α : Type} {f : Dev → α → Dev} (h : ∀ d a, (f d a).aside = d.aside) (l : List α) (d : Dev) : (l.foldl f d).aside = d.aside := by
  induction l generalizing d with
  | nil => rfl
  | cons a l ih => rw [List.foldl_cons, ih, h]

theorem Dev.Heard.aside {d e : Dev} {fs : List Fld} (h : d.Heard e fs) : e.aside = d.aside := by
  rw [h.1]
  rfl

theorem Dev.aside_hub (d : Dev) (x : Hub) : ({ d with hub := x } : Dev).aside = d.aside := rfl

theorem Dev.aside_pack (d : Dev) (x : Pack) : ({ d with pack := x } : Dev).aside = d.aside := rfl

theorem Dev.aside_ecc (d : Dev) (x : Ecc) : ({ d with ecc := x } : Dev).aside = d.aside := rfl

theorem Dev.aside_hay (d : Dev) (x : Hay) : ({ d with hay := x } : Dev).aside = d.aside := rfl

@[simp] theorem Dev.setB_aside (d : Dev) (f : Fld) (b : Bool) : (d.setB f b).aside = d.aside := rfl

@[simp] theorem Dev.bump_aside (d : Dev) (f : Fld) : (d.bump f).aside = d.aside := rfl

@[simp] theorem Dev.setBit_aside (d : Dev) (f : Fld) (i : Nat) (b : Bool) : (d.setBit f i b).aside = d.aside :=
  (d.only_setBit f i b).heard.aside

@[simp] theorem Dev.notify_aside (d : Dev) (t code inst arg count : Nat) : (d.notify t code inst arg count).aside = d.aside :=
  (d.heard_notify t code inst arg count).aside

@[simp] theorem Dev.notifyAll_aside (d : Dev) (ts : List Nat) (code inst arg count : Nat) : (d.notifyAll ts code inst arg count).aside = d.aside :=
  (d.heard_notifyAll ts code inst arg count).aside

@[simp] theorem Dev.raise_aside (d : Dev) (int : Fld) (code : Nat) (ts : List Nat) (inst arg count : Nat) :
    (d.raise int code ts inst arg count).aside = d.aside :=
  (d.heard_raise int code ts inst arg count).aside

@[simp] theorem Dev.owe_aside (d : Dev) (l : List Due) : (d.owe l).aside = d.aside := rfl

@[simp] theorem Dev.oweFault_aside (d : Dev) (u i : Nat) : (d.oweFault u i).aside = d.aside := rfl

@[simp] theorem Dev.emit_aside (d : Dev) (k : OutKind) (n : Nat) (l : List Nat) (b : List Byte) : (d.emit k n l b).aside = d.aside := rfl

@[simp] theorem Dev.endTkts_aside (d : Dev) (p : Tkt → Bool) (st : Status) : (d.endTkts p st).aside = d.aside := rfl

@[simp] theorem Dev.setStream_aside (d : Dev) (s : Nat) (x : Strm) : (d.setStream s x).aside = d.aside := rfl

@[simp] theorem Dev.modStream_aside (d : Dev) (s : Nat) (f : Strm → Strm) : (d.modStream s f).aside = d.aside := rfl

@[simp] theorem Dev.modSink_aside (d : Dev) (s i : Nat) (f : SinkPos → SinkPos) : (d.modSink s i f).aside = d.aside := rfl

@[simp] theorem Dev.resetRange_aside (d : Dev) (lo hi : Nat) : (d.resetRange lo hi).aside = d.aside := rfl

@[simp] theorem Dev.trimStream_aside (d : Dev) (s : Nat) : (d.trimStream s).aside = d.aside := (d.heard_trimStream s).aside

@[simp] theorem Dev.enqueue_aside (d : Dev) (q : Nat) (data : List Byte) (prio stamp : Nat) (b : Bool) :
    (d.enqueue q data prio stamp b).1.aside = d.aside :=
  (d.heard_enqueueAs q data prio stamp _).aside

@[simp] theorem Dev.setSide_aside (d : Dev) (p : Nat) (side : Bool) (owner : Nat) (parked : Bool) : (d.setSide p side owner parked).aside = d.aside :=
  rfl

@[simp] theorem Dev.setSteer_aside (d : Dev) (p : Nat) (x : Steer) : (d.setSteer p x).aside = d.aside := rfl

@[simp] theorem Dev.endSteer_aside (d : Dev) (p : Nat) (st : Status) : (d.endSteer p st).aside = d.aside := rfl

@[simp] theorem Dev.undoSteer_aside (d : Dev) (p : Nat) : (d.undoSteer p).aside = d.aside := by
  simp [Dev.undoSteer, apply_ite Dev.aside]

@[simp] theorem Dev.modHubPort_aside (d : Dev) (p : Nat) (f : HubPort → HubPort) : (d.modHubPort p f).aside = d.aside := rfl

@[simp] theorem Dev.restorePower_aside (d : Dev) (p : Nat) : (d.restorePower p).aside = d.aside := rfl

@[simp] theorem Dev.lheEvent_aside (d : Dev) (bit p inst arg : Nat) : (d.lheEvent bit p inst arg).aside = d.aside := by
  simp [Dev.lheEvent]

@[simp] theorem Dev.reportLocal_aside (d : Dev) (p : Nat) : (d.reportLocal p).aside = d.aside := by
  simp [Dev.reportLocal, apply_ite Dev.aside]

@[simp] theorem Dev.setSt_aside (d : Dev) (p i : Nat) (b : Bool) : (d.setSt p i b).aside = d.aside := by
  simp [Dev.setSt]

@[simp] theorem Dev.setCh_aside (d : Dev) (p i : Nat) (b : Bool) : (d.setCh p i b).aside = d.aside := by
  simp [Dev.setCh]

@[simp] theorem Dev.reportConn_aside (d : Dev) (p : Nat) : (d.reportConn p).aside = d.aside := by
  simp [Dev.reportConn, apply_ite Dev.aside]

@[simp] theorem Dev.undoSteers_aside (d : Dev) (t : Nat) : (d.undoSteers t).aside = d.aside := by
  simp [Dev.undoSteers, apply_ite Dev.aside]

@[simp] theorem Dev.fenceStream_aside (d : Dev) (s : Nat) : (d.fenceStream s).aside = d.aside := by
  simp [Dev.fenceStream, apply_ite Dev.aside]

@[simp] theorem Dev.tenantFence_aside (d : Dev) (t : Nat) : (d.tenantFence t).aside = d.aside := by
  unfold Dev.tenantFence
  simp only
  split_ifs <;> simp [Dev.tenFenceEvent]

@[simp] theorem Dev.emptyBanks_aside (d : Dev) (n : Nat) : (d.emptyBanks n).aside = d.aside := by
  simp [Dev.emptyBanks]

@[simp] theorem Dev.sourceLost_aside (d : Dev) (s : Nat) (dead : Bool) : (d.sourceLost s dead).aside = d.aside := by
  simp [Dev.sourceLost, apply_ite Dev.aside]

@[simp] theorem Dev.loseSources_aside (d : Dev) (p : Nat → Bool) (dead : Bool) : (d.loseSources p dead).aside = d.aside :=
  foldl_aside (fun d s => d.sourceLost_aside s dead) _ d

@[simp] theorem Dev.finish_aside (d : Dev) (tk : Tkt) (st : Status) (r0 r1 : Nat) : (d.finish tk st r0 r1).aside = d.aside := rfl

@[simp] theorem Dev.endBufs_aside (d : Dev) (c : Nat) (st : Status) : (d.endBufs c st).aside = d.aside := by
  simp [Dev.endBufs, apply_ite Dev.aside]

@[simp] theorem Dev.endSinkBuf_aside (d : Dev) (s i : Nat) (st : Status) : (d.endSinkBuf s i st).aside = d.aside := by
  obtain ⟨h, hh⟩ := d.endSinkBuf_eq s i st
  rw [hh]
  rfl

@[simp] theorem Dev.usbRelease_aside (d : Dev) (t n : Nat) : (d.usbRelease t n).aside = d.aside := rfl

@[simp] theorem Dev.removeSink_aside (d : Dev) (s i : Nat) : (d.removeSink s i).aside = d.aside := by
  simp [Dev.removeSink]

@[simp] theorem Dev.sinkLost_aside (d : Dev) (s i : Nat) : (d.sinkLost s i).aside = d.aside := by
  simp [Dev.sinkLost]

@[simp] theorem Dev.loseSinks_aside (d : Dev) (p : Nat → Bool) : (d.loseSinks p).aside = d.aside := by
  unfold Dev.loseSinks
  rw [foldl_aside]
  intro e s
  rw [foldl_aside]
  exact fun x y => x.sinkLost_aside s y.1

@[simp] theorem Dev.resetFunction_aside (d : Dev) : (d.resetFunction).aside = d.aside := by
  have h : (fnSlots.foldl (fun d n => ((d.emptyBanks n).set (F.EPM_SLOT_TOG n) 0).set (F.EPM_SLOT_HALT n) 0) d).aside = d.aside :=
    foldl_aside (fun _ _ => by simp) fnSlots d
  unfold Dev.resetFunction
  rw [Dev.loseSinks_aside, Dev.loseSources_aside, Dev.aside_hub, Dev.set_aside, Dev.set_aside, Dev.set_aside, h]

@[simp] theorem Dev.dropConn_aside (d : Dev) (p : Nat) : (d.dropConn p).aside = d.aside := by
  simp [Dev.dropConn]

@[simp] theorem Dev.emptyTt_aside (d : Dev) (p : Nat) : (d.emptyTt p).aside = d.aside := rfl

@[simp] theorem Dev.hubPowerOff_aside (d : Dev) (p : Nat) : (d.hubPowerOff p).aside = d.aside := by
  simp [Dev.hubPowerOff, apply_ite Dev.aside]

@[simp] theorem Dev.resetHub_aside (d : Dev) : (d.resetHub).aside = d.aside := by
  have h1 (x : Dev) : ([0, 1].foldl (fun d n => (d.set (F.EPM_SLOT_TOG n) 0).set (F.EPM_SLOT_HALT n) 0) x).aside = x.aside :=
    foldl_aside (fun _ _ => by simp) _ x
  have h2 (x : Dev) : ([1, 2, 3, 4, 5, 6, 7, 8].foldl (fun d p =>
      if d.isLocal p then d else ((d.hubPowerOff p).setSt p 11 false).set (F.PRT_STAT_CHANGE p) 0) x).aside = x.aside :=
    foldl_aside (fun e p => by split_ifs <;> simp) _ x
  unfold Dev.resetHub
  simp only [Dev.set_aside, Dev.setSt_aside, Dev.dropConn_aside]
  rw [h2, Dev.aside_hub]
  simp only [Dev.set_aside]
  rw [h1, Dev.resetFunction_aside]

@[simp] theorem Dev.hubLeave_aside (d : Dev) : (d.hubLeave).aside = d.aside := by
  simp [Dev.hubLeave, apply_ite Dev.aside]

@[simp] theorem Dev.modLocal_aside (d : Dev) (p : Nat) (f : LocalPort → LocalPort) : (d.modLocal p f).aside = d.aside := rfl

@[simp] theorem Dev.endCmd_aside (d : Dev) (p : Nat) (st : Status) : (d.endCmd p st).aside = d.aside := rfl

@[simp] theorem Dev.clearLocal_aside (d : Dev) (p : Nat) : (d.clearLocal p).aside = d.aside := rfl

@[simp] theorem Dev.reportGone_aside (d : Dev) (p : Nat) : (d.reportGone p).aside = d.aside := by
  simp [Dev.reportGone, apply_ite Dev.aside]

@[simp] theorem Dev.fencePort_aside (d : Dev) (p : Nat) : (d.fencePort p).aside = d.aside := by
  simp [Dev.fencePort, apply_ite Dev.aside]

@[simp] theorem Dev.laneIdle_aside (d : Dev) (l : Nat) : (d.laneIdle l).aside = d.aside := by
  simp [Dev.laneIdle, apply_ite Dev.aside]

@[simp] theorem Dev.pdEvent_aside (d : Dev) (p bit arg : Nat) : (d.pdEvent p bit arg).aside = d.aside := by
  simp [Dev.pdEvent]

@[simp] theorem Dev.leaveMode_aside (d : Dev) (p : Nat) : (d.leaveMode p).aside = d.aside := by
  simp [Dev.leaveMode, apply_ite Dev.aside]

@[simp] theorem Dev.setPort_aside (d : Dev) (p : Nat) (x : PdPort) : (d.setPort p x).aside = d.aside := rfl

@[simp] theorem Dev.modPort_aside (d : Dev) (p : Nat) (f : PdPort → PdPort) : (d.modPort p f).aside = d.aside := rfl

@[simp] theorem Dev.txEnd_aside (d : Dev) (p : Nat) (st : Status) : (d.txEnd p st).aside = d.aside := rfl

@[simp] theorem Dev.txFlush_aside (d : Dev) (p : Nat) (st : Status) : (d.txFlush p st).aside = d.aside := by
  simp [Dev.txFlush, apply_ite Dev.aside]

@[simp] theorem Dev.endContract_aside (d : Dev) (p : Nat) : (d.endContract p).aside = d.aside := rfl

@[simp] theorem Dev.reserve_aside (d : Dev) (p watts : Nat) : (d.reserve p watts).aside = d.aside := by
  simp [Dev.reserve, apply_ite Dev.aside]

@[simp] theorem Dev.selectInput_aside (d : Dev) : (d.selectInput).aside = d.aside := foldl_aside (fun _ _ => rfl) (List.range 5) _

@[simp] theorem Dev.portDetach_aside (d : Dev) (p : Nat) : (d.portDetach p).aside = d.aside := by
  simp [Dev.portDetach, apply_ite Dev.aside]

@[simp] theorem Dev.fencePd_aside (d : Dev) (p : Nat) : (d.fencePd p).aside = d.aside := by
  simp [Dev.fencePd, apply_ite Dev.aside]

@[simp] theorem Dev.emptyQueue_aside (d : Dev) (q : Nat) : (d.emptyQueue q).aside = d.aside :=
  ((d.told_lar _).step ((Dev.told_giveCells _ _).trans (Dev.told_lar _ _))).heard.aside

@[simp] theorem Dev.hardReset_aside (d : Dev) (p : Nat) : (d.hardReset p).aside = d.aside := by
  simp [Dev.hardReset, apply_ite Dev.aside]

@[simp] theorem Dev.sendHardReset_aside (d : Dev) (p : Nat) : (d.sendHardReset p).aside = d.aside := by
  simp [Dev.sendHardReset, apply_ite Dev.aside]

@[simp] theorem Dev.upFails_aside (d : Dev) : (d.upFails).aside = d.aside := by
  simp [Dev.upFails]

@[simp] theorem Dev.setCtx_aside (d : Dev) (c : Nat) (x : Ctx) : (d.setCtx c x).aside = d.aside := rfl

@[simp] theorem Dev.showPeak_aside (d : Dev) (p : Nat) : (d.showPeak p).aside = d.aside := rfl

@[simp] theorem Dev.closeCtx_aside (d : Dev) (c : Nat) (st : Status) : (d.closeCtx c st).aside = d.aside := by
  unfold Dev.closeCtx
  split_ifs
  · rfl
  · simp

@[simp] theorem Dev.closePortCtxs_aside (d : Dev) (p : Nat) (st : Status) : (d.closePortCtxs p st).aside = d.aside :=
  foldl_aside (fun d c => d.closeCtx_aside c st) _ d

@[simp] theorem Dev.localPowerOff_aside (d : Dev) (p : Nat) : (d.localPowerOff p).aside = d.aside := by
  unfold Dev.localPowerOff
  simp

@[simp] theorem Dev.showUsed_aside (d : Dev) : (d.showUsed).aside = d.aside := by
  unfold Dev.showUsed
  exact foldl_aside (fun _ _ => Dev.set_aside _ _ _) lanes d

@[simp] theorem Dev.setResv_aside (d : Dev) (l : List Resv) : (d.setResv l).aside = d.aside := by
  unfold Dev.setResv
  rw [Dev.showUsed_aside, Dev.aside_hay]

@[simp] theorem Dev.freeResv_aside (d : Dev) (src dst dflow : Nat) : (d.freeResv src dst dflow).aside = d.aside := by
  unfold Dev.freeResv
  split
  · rfl
  · simp [apply_ite Dev.aside]

@[simp] theorem Dev.closeSession_aside (d : Dev) (cause state : Nat) : (d.closeSession cause state).aside = d.aside := by
  unfold Dev.closeSession
  split_ifs
  · rfl
  · simp only [Dev.notifyAll_aside, Dev.setBit_aside, Dev.aside_pack, Dev.set_aside]

@[simp] theorem Dev.fenceCharger_aside (d : Dev) : (d.fenceCharger).aside = d.aside := by
  simp [Dev.fenceCharger, apply_ite Dev.aside]

@[simp] theorem Dev.limitLow_aside (d : Dev) : (d.limitLow).aside = d.aside := rfl

@[simp] theorem Dev.endGrant_aside (d : Dev) (reason : Nat) : (d.endGrant reason).aside = d.aside := rfl

@[simp] theorem Dev.sendGrant_aside (d : Dev) : (d.sendGrant).aside = d.aside := by
  simp [Dev.sendGrant, apply_ite Dev.aside]

@[simp] theorem Dev.fenceRation_aside (d : Dev) : (d.fenceRation).aside = d.aside := by
  simp [Dev.fenceRation]

@[simp] theorem Dev.setTdm_aside (d : Dev) (p : Nat) (x : Tdm) : (d.setTdm p x).aside = d.aside := rfl

@[simp] theorem Dev.sinkLeaves_aside (d : Dev) (s i : Nat) : (d.sinkLeaves s i).aside = d.aside := by
  simp [Dev.sinkLeaves, apply_ite Dev.aside]

@[simp] theorem Dev.endBanks_aside (d : Dev) (p : Nat) : (d.endBanks p).aside = d.aside := by
  refine foldl_aside (fun e x => ?_) _ d
  split_ifs <;> simp

@[simp] theorem Dev.tdmStop_aside (d : Dev) (p : Nat) : (d.tdmStop p).aside = d.aside := by
  simp [Dev.tdmStop]

@[simp] theorem Dev.withdraw_aside (d : Dev) : (d.withdraw).aside = d.aside := by
  unfold Dev.withdraw
  split_ifs <;> simp

@[simp] theorem Dev.ratClockGone_aside (d : Dev) : (d.ratClockGone).aside = d.aside := Dev.withdraw_aside _

@[simp] theorem Dev.ratPortLost_aside (d : Dev) (p : Nat) : (d.ratPortLost p).aside = d.aside := by
  simp [Dev.ratPortLost, apply_ite Dev.aside]

@[simp] theorem Dev.fenceTdm_aside (d : Dev) (p : Nat) : (d.fenceTdm p).aside = d.aside := by
  simp [Dev.fenceTdm]

@[simp] theorem Dev.setLane_aside (d : Dev) (n : Nat) (x : HLane) : (d.setLane n x).aside = d.aside := rfl

@[simp] theorem Dev.modLane_aside (d : Dev) (n : Nat) (f : HLane → HLane) : (d.modLane n f).aside = d.aside := rfl

@[simp] theorem Dev.sendBale_aside (d : Dev) (n : Nat) (b : Bale) : (d.sendBale n b).aside = d.aside := by
  simp [Dev.sendBale, apply_ite Dev.aside]

@[simp] theorem Dev.putControl_aside (d : Dev) (n seq : Nat) (l : List Byte) : (d.putControl n seq l).aside = d.aside := by
  simp [Dev.putControl]

@[simp] theorem Dev.setItems_aside (d : Dev) (q : Nat) (l : List Item) : (d.setItems q l).aside = d.aside := rfl

@[simp] theorem Dev.setCharge_aside (d : Dev) (o n : Nat) : (d.setCharge o n).aside = d.aside := rfl

@[simp] theorem Dev.giveCells_aside (d : Dev) (l : List Nat) : (d.giveCells l).aside = d.aside := (d.told_giveCells l).heard.aside

@[simp] theorem Dev.countLostAs_aside (d : Dev) (q n : Nat) (l : List Due) : (d.countLostAs q n l).aside = d.aside :=
  (d.told_countLostAs q n l).heard.aside

@[simp] theorem Dev.linkBreak_aside (d : Dev) (q j ci : Nat) : (d.linkBreak q j ci).aside = d.aside := by
  unfold Dev.linkBreak
  split_ifs <;> simp

@[simp] theorem Dev.removeItem_aside (d : Dev) (q j : Nat) : (d.removeItem q j).aside = d.aside := (d.heard_removeItem q j).aside

@[simp] theorem Dev.ueRecord_aside (d : Dev) (c m req a : Nat) : (d.ueRecord c m req a).aside = d.aside := by
  unfold Dev.ueRecord
  split_ifs <;> simp

@[simp] theorem Dev.larUe_aside (d : Dev) (c req cell w : Nat) : (d.larUe c req cell w).aside = d.aside := by
  unfold Dev.larUe
  simp only
  split_ifs <;> rw [Dev.aside_ecc] <;> simp

@[simp] theorem Dev.checkItem_aside (d : Dev) (q j lo hi : Nat) : (d.checkItem q j lo hi).aside = d.aside := by
  unfold Dev.checkItem
  split
  · rfl
  · simp only [apply_ite Dev.aside, Dev.setItems_aside, ite_self]
    rw [foldl_aside]
    intro e x
    split <;> simp

theorem Dev.dequeue_aside {d e : Dev} {q j : Nat} {o : Option Item} (h : d.dequeue q j = (e, o)) : e.aside = d.aside := by
  have hread : (d.linkRead q j).1.aside = d.aside := rfl
  unfold Dev.dequeue at h
  split at h
  next x ci hx =>
    rw [hx] at hread
    obtain ⟨rfl, -⟩ := Prod.mk.inj h
    rw [Dev.linkBreak_aside, hread]
  next x hx =>
    rw [hx] at hread
    simp only at h
    split at h
    · obtain ⟨rfl, -⟩ := Prod.mk.inj h
      rw [Dev.checkItem_aside, hread]
    · obtain ⟨rfl, -⟩ := Prod.mk.inj h
      split_ifs <;> simp [hread]

@[simp] theorem Dev.pumpControl_aside (d : Dev) (n k : Nat) : (d.pumpControl n k).aside = d.aside := by
  induction k generalizing d with
  | zero => rfl
  | succ k ih =>
    unfold Dev.pumpControl
    split_ifs
    · rfl
    · split
      · rfl
      · split
        next h => exact Dev.dequeue_aside h
        next h => simp [ih, Dev.dequeue_aside h]

@[simp] theorem Dev.queueControl_aside (d : Dev) (n : Nat) (b : Bale) (ctx : Bool) : (d.queueControl n b ctx).aside = d.aside := by
  simp [Dev.queueControl, apply_ite Dev.aside]

@[simp] theorem Dev.sendResv_aside (d : Dev) (b : Bale) : (d.sendResv b).aside = d.aside := by
  unfold Dev.sendResv
  split <;> simp

@[simp] theorem Dev.hayRelease_aside (d : Dev) (t n : Nat) : (d.hayRelease t n).aside = d.aside := rfl

@[simp] theorem Dev.setFlow_aside (d : Dev) (f : Nat) (x : Flow) : (d.setFlow f x).aside = d.aside := rfl

@[simp] theorem Dev.modFlow_aside (d : Dev) (f : Nat) (g : Flow → Flow) : (d.modFlow f g).aside = d.aside := rfl

@[simp] theorem Dev.dropFlow_aside (d : Dev) (f : Nat) (tell : Bool) : (d.dropFlow f tell).aside = d.aside := by
  simp [Dev.dropFlow, apply_ite Dev.aside]

@[simp] theorem Dev.failOpen_aside (d : Dev) (f : Nat) (st : Status) (tell : Bool) : (d.failOpen f st tell).aside = d.aside := by
  simp [Dev.failOpen]

@[simp] theorem Dev.hayEvent_aside (d : Dev) (bit inst arg : Nat) (ts : List Nat) : (d.hayEvent bit inst arg ts).aside = d.aside := by
  simp [Dev.hayEvent]

@[simp] theorem Dev.pathUp_aside (d : Dev) (f : Nat) : (d.pathUp f).aside = d.aside := by
  simp [Dev.pathUp, apply_ite Dev.aside]

theorem Dev.requestPath_aside {d e : Dev} {f : Nat} (h : d.requestPath f = .inr e) : e.aside = d.aside := by
  unfold Dev.requestPath at h
  simp only at h
  split_ifs at h
  · rw [Sum.inr.inj h]
  · split at h
    · cases h
    · split at h
      · cases h
      next x hx =>
        rw [← Sum.inr.inj h, Dev.queueControl_aside]
        unfold Dev.takeResv at hx
        simp only at hx
        split_ifs at hx
        all_goals
          split at hx
          · cases hx
          · rw [← Sum.inr.inj hx, Dev.setResv_aside]

@[simp] theorem Dev.attempt_aside (d : Dev) (f : Nat) : (d.attempt f).aside = d.aside := by
  unfold Dev.attempt
  simp only
  split
  · simp
  next h => simp [apply_ite Dev.aside, Dev.requestPath_aside h]

@[simp] theorem Dev.startReroute_aside (d : Dev) (f : Nat) : (d.startReroute f).aside = d.aside := by
  simp [Dev.startReroute, apply_ite Dev.aside]

@[simp] theorem Dev.moveResv_aside (d : Dev) (r : Resv) : (d.moveResv r).aside = d.aside := by
  unfold Dev.moveResv
  simp only
  split_ifs
  · split <;> simp
  · simp

@[simp] theorem Dev.yokEvent_aside (d : Dev) (bit arg count : Nat) : (d.yokEvent bit arg count).aside = d.aside := by
  simp [Dev.yokEvent]

@[simp] theorem Dev.modYok_aside (d : Dev) (f : Yok → Yok) : (d.modYok f).aside = d.aside := rfl

@[simp] theorem Dev.pairUp_aside (d : Dev) : (d.pairUp).aside = d.aside := by
  simp [Dev.pairUp]

@[simp] theorem Dev.endMtx_aside (d : Dev) (st : Status) : (d.endMtx st).aside = d.aside := by
  simp [Dev.endMtx, apply_ite Dev.aside]

@[simp] theorem Dev.pairDown_aside (d : Dev) : (d.pairDown).aside = d.aside := by
  simp [Dev.pairDown]

@[simp] theorem Dev.yokEval_aside (d : Dev) : (d.yokEval).aside = d.aside := by
  simp [Dev.yokEval, apply_ite Dev.aside]

@[simp] theorem Dev.ctxDone_aside (d : Dev) (st : Status) : (d.ctxDone st).aside = d.aside := by
  simp [Dev.ctxDone, apply_ite Dev.aside]

@[simp] theorem Dev.showUnits_aside (d : Dev) : (d.showUnits).aside = d.aside := rfl

@[simp] theorem Dev.almEvent_aside (d : Dev) (bit : Nat) : (d.almEvent bit).aside = d.aside := by
  simp [Dev.almEvent]

@[simp] theorem Dev.setGm_aside (d : Dev) (key : Nat) : (d.setGm key).aside = d.aside := by
  unfold Dev.setGm
  split_ifs
  · rfl
  · exact Dev.almEvent_aside _ _

@[simp] theorem Dev.beGm_aside (d : Dev) : (d.beGm).aside = d.aside := by
  unfold Dev.beGm
  simp only [Dev.setGm_aside, Dev.set_aside]
  split_ifs <;> rfl

@[simp] theorem Dev.takeParent_aside (d : Dev) (n key seq hops : Nat) : (d.takeParent n key seq hops).aside = d.aside := by
  unfold Dev.takeParent
  simp only [Dev.setGm_aside]
  split_ifs <;> rfl

@[simp] theorem Dev.showAlias_aside (d : Dev) : (d.showAlias).aside = d.aside := by
  simp [Dev.showAlias, apply_ite Dev.aside]

@[simp] theorem Dev.showRoles_aside (d : Dev) : (d.showRoles).aside = d.aside := by
  refine foldl_aside (fun e n => ?_) lanes d
  split_ifs <;> simp

@[simp] theorem Dev.routesMoved_aside (d : Dev) : (d.routesMoved).aside = d.aside := foldl_aside (fun e r => e.moveResv_aside r) _ d

@[simp] theorem Dev.chooseParent_aside (d : Dev) : (d.chooseParent).aside = d.aside := by
  unfold Dev.chooseParent
  simp only [Dev.routesMoved_aside, Dev.showRoles_aside, Dev.showAlias_aside]
  have h0 : (if d.hay.alone = 2 then { d with hay := { d.hay with alone := 0 } } else d : Dev).aside = d.aside := by split_ifs <;> rfl
  rw [← h0]
  generalize (if d.hay.alone = 2 then { d with hay := { d.hay with alone := 0 } } else d : Dev) = x
  have hex (y : Dev) (h : Hay) : ({ y with hay := h } : Dev).beGm.aside = y.aside := (Dev.beGm_aside _).trans (y.aside_hay _)
  split_ifs
  · exact x.beGm_aside
  · split
    · exact x.beGm_aside
    · split_ifs <;> simp [hex]
  · split
    · exact x.beGm_aside
    · split_ifs <;> simp [hex]

@[simp] theorem Dev.removeLane_aside (d : Dev) (n : Nat) : (d.removeLane n).aside = d.aside := by
  unfold Dev.removeLane
  simp only [Dev.chooseParent_aside]
  rw [foldl_aside fun e r => e.moveResv_aside r]
  split_ifs <;> simp only [Dev.set_aside, Dev.showUnits_aside, Dev.ctxDone_aside, Dev.aside_hay, Dev.emptyQueue_aside, Dev.setLane_aside]

@[simp] theorem Dev.fenceLane_aside (d : Dev) (n : Nat) : (d.fenceLane n).aside = d.aside := by
  simp [Dev.fenceLane, apply_ite Dev.aside]

@[simp] theorem Dev.hubEvent_aside (d : Dev) (bit inst : Nat) (ts : List Nat) : (d.hubEvent bit inst ts).aside = d.aside := by
  simp [Dev.hubEvent]

@[simp] theorem Dev.tripPort_aside (d : Dev) (p : Nat) : (d.tripPort p).aside = d.aside := by
  simp [Dev.tripPort, apply_ite Dev.aside]

@[simp] theorem Dev.overCurrent_aside (d : Dev) (p : Nat) : (d.overCurrent p).aside = d.aside := by
  unfold Dev.overCurrent
  split_ifs
  · rfl
  · simp only [Dev.hubEvent_aside]
    exact foldl_aside (fun e q => e.tripPort_aside q) _ _

@[simp] theorem Dev.localGone_aside (d : Dev) (p : Nat) (st : Status) : (d.localGone p st).aside = d.aside := by
  simp [Dev.localGone]

@[simp] theorem Dev.usbLost_aside (d : Dev) (p : Nat) : (d.usbLost p).aside = d.aside := by
  simp [Dev.usbLost, apply_ite Dev.aside]

@[simp] theorem Dev.hubConnect_aside (d : Dev) : (d.hubConnect).aside = d.aside := by
  simp [Dev.hubConnect, apply_ite Dev.aside]

@[simp] theorem Dev.usbBack_aside (d : Dev) (p : Nat) : (d.usbBack p).aside = d.aside := by
  simp [Dev.usbBack, apply_ite Dev.aside]

@[simp] theorem Dev.followUsb_aside (d0 d : Dev) (p : Nat) : (Dev.followUsb d0 d p).aside = d.aside := by
  simp [Dev.followUsb, apply_ite Dev.aside]

@[simp] theorem Dev.followPort_aside (d0 d : Dev) (p : Nat) : (Dev.followPort d0 d p).aside = d.aside := by
  simp [Dev.followPort, apply_ite Dev.aside]

end Sys2Proof.Machine

/-!
SUPPORT. Fault events (O54).
-/
namespace Sys2Proof.Machine

open Sys2Proof

/-! ### Records and alert pins (R481, R489) -/

theorem Dev.urecOf_congr {d e : Dev} (h : e.urec = d.urec) (u : Nat) : e.urecOf u = d.urecOf u := by
  unfold Dev.urecOf
  rw [h]

theorem Dev.urec_of_aside {d e : Dev} (h : e.aside = d.aside) : e.urec = d.urec := congrArg Prod.fst h

@[simp] theorem Dev.setRec_urecOf_same (d : Dev) (u : Nat) (r : URec) : (d.setRec u r).urecOf u = r := mapGet_put_same ..

theorem Dev.setRec_urecOf_ne (d : Dev) {u v : Nat} (r : URec) (h : u ≠ v) : (d.setRec u r).urecOf v = d.urecOf v := mapGet_put_ne _ _ h

/-- Between `d` and `e` only alert pins have changed, and what shows them. -/
def Dev.Alerted (d e : Dev) : Prop := d.Only { e with alert := d.alert } [F.ALT_CFG_STATE 0, F.ALT_CFG_STATE 1]

theorem Dev.Alerted.trans {d e x : Dev} (h : d.Alerted e) (k : e.Alerted x) : d.Alerted x := by
  obtain ⟨heq, hget⟩ := h
  obtain ⟨keq, kget⟩ := k
  refine ⟨?_, fun g hg => (kget g hg).trans (hget g hg)⟩
  have h1 : e = { d with fld := e.fld, alert := e.alert } := congrArg (fun y : Dev => { y with alert := e.alert }) heq
  have h2 : x = { e with fld := x.fld, alert := x.alert } := congrArg (fun y : Dev => { y with alert := x.alert }) keq
  rw [h2, h1]

theorem Dev.Alerted.urec {d e : Dev} (h : d.Alerted e) : e.urec = d.urec := by
  have hurec := congrArg (fun y : Dev => y.urec) h.1
  exact hurec

theorem Dev.Alerted.get {d e : Dev} (h : d.Alerted e) {g : Fld} (hg : ∀ f ∈ [F.ALT_CFG_STATE 0, F.ALT_CFG_STATE 1], fldId f ≠ fldId g) :
    e.get g = d.get g := h.2 g hg

theorem Dev.setPin_alerted (d : Dev) (x : Nat) (p : AlertPin) : d.Alerted (d.setPin x p) := ⟨rfl, fun _ _ => rfl⟩

theorem Dev.showPin_alerted (d : Dev) {x : Nat} (hx : x < 2) : d.Alerted (d.showPin x) := by
  have h : d.Only (d.showPin x) [F.ALT_CFG_STATE x] := d.only_setB _ _
  refine ⟨h.1, fun g hg => h.2 g ?_⟩
  obtain rfl | rfl : x = 0 ∨ x = 1 := by omega
  · simpa using hg _ (by simp)
  · simpa using hg _ (by simp)

theorem Dev.alertPin_alerted (d : Dev) (i : Nat) (severe : Bool) {x : Nat} (hx : x < 2) : d.Alerted (d.alertPin i severe x) := by
  unfold Dev.alertPin Dev.pulse
  simp only
  split_ifs
  · exact d.showPin_alerted hx
  · exact d.setPin_alerted x _
  · exact (d.setPin_alerted x _).trans (Dev.showPin_alerted _ hx)
  · exact d.showPin_alerted hx

theorem Dev.alerts_alerted (d : Dev) (i : Nat) (severe : Bool) : d.Alerted (d.alerts i severe) :=
  (d.alertPin_alerted i severe (by decide)).trans (Dev.alertPin_alerted _ i severe (by decide))

theorem Dev.alerts_urecOf (d : Dev) (i : Nat) (severe : Bool) (u : Nat) : (d.alerts i severe).urecOf u = d.urecOf u :=
  Dev.urecOf_congr (d.alerts_alerted i severe).urec u

@[simp] theorem Dev.fltEvent_aside (d : Dev) (n u src : Nat) : (d.fltEvent n u src).aside = d.aside := by
  simp [Dev.fltEvent]

theorem Dev.fltEvent_urecOf (d : Dev) (n u src v : Nat) : (d.fltEvent n u src).urecOf v = d.urecOf v :=
  Dev.urecOf_congr (Dev.urec_of_aside (d.fltEvent_aside n u src)) v

theorem Dev.fltEvent_get (d : Dev) (u src : Nat) {n : Nat} (hn : n < 8) : (d.fltEvent n u src).get (bitFld 0x15004 n) = 1 := by
  have hp : PlainFld (bitFld 0x15004 n) := by
    refine ⟨fun q => ⟨?_, ?_⟩, ?_, ?_, ?_⟩ <;>
      simp only [fldId, bitFld, F.QUE_W2_LOST, F.QUE_W1_LOSTSAT, F.LAR_LEAK_COUNT, F.ECC_INJ_COUNT, F.ECC_INJ_ARM] <;> omega
  exact ((Dev.heard_notifyAll _ _ _ _ _ _).2 _ hp (by simp)).trans (Dev.get_set_same _ _ _)

@[simp] theorem fenceEffect_aside (u : Nat) (d : Dev) : (fenceEffect u d).aside = d.aside := by
  unfold fenceEffect
  split <;> simp

/-! ### Fault events (R481 to R485) -/

/-- What an event makes of its unit's record. -/
def Dev.eventRec (d : Dev) (u i : Nat) : URec :=
  recordEvent (d.urecOf u) i (d.get F.SUP_SECONDS_COUNT) (d.routed 0 i) (d.routed 1 i)

theorem Dev.eventRec_keeps (d : Dev) (u i : Nat) : (d.eventRec u i).fenced = (d.urecOf u).fenced ∧ (d.eventRec u i).sticky = (d.urecOf u).sticky ∧
    (d.eventRec u i).wins = (d.urecOf u).wins ∧ (d.eventRec u i).fcnt = (d.urecOf u).fcnt := by
  unfold Dev.eventRec recordEvent
  split_ifs <;> exact ⟨rfl, rfl, rfl, rfl⟩

/-- An event, by whether its unit is fenced and whether its source becomes severe. -/
theorem Dev.fault_eq {d : Dev} {u i : Nat} (hu : u ≠ 0x246) (hc : d.get (F.FLT_SRC_CLASS i) ≠ 0) : d.fault u i =
    if (d.urecOf u).fenced = true then ((d.recordFault u i).setRec u
      { d.eventRec u i with remain := if (d.urecOf u).sticky then 0 else d.fallowPeriod ((unitKind u).getD 0) }).alerts i false
    else if d.get (F.FLT_SRC_N i) ≤ mapGet 0 (d.urecOf u).wins i + 1 then ((d.recordFault u i).severe u i none).alerts i true
    else ((d.recordFault u i).setRec u
      { d.eventRec u i with wins := mapPut 0 (d.eventRec u i).wins i (mapGet 0 (d.urecOf u).wins i + 1) }).alerts i false := by
  have hrec : (d.recordFault u i).urecOf u = d.eventRec u i := Dev.setRec_urecOf_same _ _ _
  obtain ⟨hfenced, hsticky, hwins, -⟩ := d.eventRec_keeps u i
  have hcount : (d.recordFault u i).counting u none = !(d.urecOf u).fenced := by
    simp only [Dev.counting, beq_eq_false_iff_ne.mpr hu, hrec, hfenced]
  unfold Dev.fault
  simp only [if_neg hc, hcount, hrec]
  cases hf : (d.urecOf u).fenced with
  | true =>
    simp only [Bool.not_true, Bool.false_eq_true, if_false, if_true, hsticky]
    rfl
  | false =>
    simp only [Bool.not_false, if_true, Bool.false_eq_true, if_false, hwins]
    rfl

theorem Dev.severe_fence {d : Dev} {u i : Nat} (hu : u ≠ 0x246) (hc : d.get (F.FLT_SRC_CLASS i) = 2) (hmay : d.mayFence u = true) :
    d.severe u i none = (d.setRec u { d.urecOf u with sev := true, wins := mapErase (d.urecOf u).wins i }).fence u i := by
  have hmay' : (d.setRec u { d.urecOf u with sev := true, wins := mapErase (d.urecOf u).wins i }).mayFence u = true := hmay
  simp only [Dev.severe, hc, if_true, beq_eq_false_iff_ne.mpr hu, hmay']

theorem Dev.severe_alone {d : Dev} {u i : Nat} (hu : u ≠ 0x246) (h : d.get (F.FLT_SRC_CLASS i) ≠ 2 ∨ d.mayFence u = false) :
    d.severe u i none = (d.setRec u { d.urecOf u with sev := true, wins := mapErase (d.urecOf u).wins i }).fltEvent 3 u i := by
  unfold Dev.severe
  by_cases hc : d.get (F.FLT_SRC_CLASS i) = 2
  · have hmay : (d.setRec u { d.urecOf u with sev := true, wins := mapErase (d.urecOf u).wins i }).mayFence u = false :=
      h.resolve_left (not_not_intro hc)
    simp only [hc, if_true, beq_eq_false_iff_ne.mpr hu, hmay, Bool.false_eq_true, if_false]
  · simp only [if_neg hc]

/-- The record of a unit that is fenced. -/
theorem Dev.fence_urecOf {d : Dev} {u i k : Nat} (hk : unitKind u = some k) (hf : (d.urecOf u).fenced = false) : (d.fence u i).urecOf u =
    { d.urecOf u with
        fenced := true
        sticky := decide (d.get (F.FLT_FALLOW_LIMIT k) ≠ 0) && decide (d.get (F.FLT_FALLOW_LIMIT k) ≤ (d.urecOf u).fcnt)
        wins := []
        remain := if decide (d.get (F.FLT_FALLOW_LIMIT k) ≠ 0) && decide (d.get (F.FLT_FALLOW_LIMIT k) ≤ (d.urecOf u).fcnt) then 0
          else d.fallowPeriod k } := by
  obtain ⟨r, hr⟩ : ∃ r : URec, r = { d.urecOf u with
      fenced := true
      sticky := decide (d.get (F.FLT_FALLOW_LIMIT k) ≠ 0) && decide (d.get (F.FLT_FALLOW_LIMIT k) ≤ (d.urecOf u).fcnt)
      wins := []
      remain := if decide (d.get (F.FLT_FALLOW_LIMIT k) ≠ 0) && decide (d.get (F.FLT_FALLOW_LIMIT k) ≤ (d.urecOf u).fcnt) then 0
        else d.fallowPeriod k } := ⟨_, rfl⟩
  have hbit (n : Nat) : (fenceEffect u (((d.setRec u r).setBit (F.FLT_FENCED_FENCED (u / 32)) (u % 32) true).fltEvent n u i)).urec =
      (d.setRec u r).urec :=
    Dev.urec_of_aside ((fenceEffect_aside u _).trans ((Dev.fltEvent_aside _ n u i).trans (Dev.setBit_aside _ _ _ _)))
  unfold Dev.fence
  simp only [hk, hf, Bool.false_eq_true, if_false, ← hr]
  exact (Dev.urecOf_congr (hbit _) u).trans (Dev.setRec_urecOf_same _ _ _)

theorem recordEvent_of_valid {r : URec} (h : r.valid = true) (i t : Nat) (ra rb : Bool) : (recordEvent r i t ra rb).valid = true ∧
    (recordEvent r i t ra rb).multi = true ∧ (recordEvent r i t ra rb).last = i ∧ (recordEvent r i t ra rb).cause = r.cause := by
  rw [recordEvent, if_pos h]
  exact ⟨h, rfl, rfl, rfl⟩

theorem recordEvent_of_empty {r : URec} (h : r.valid = false) (i t : Nat) (ra rb : Bool) : (recordEvent r i t ra rb).valid = true ∧
    (recordEvent r i t ra rb).multi = false ∧ (recordEvent r i t ra rb).cause = i ∧ (recordEvent r i t ra rb).last = i ∧
    (recordEvent r i t ra rb).merged = 0 ∧ (recordEvent r i t ra rb).time = t := by
  rw [recordEvent, if_neg (by simp [h])]
  exact ⟨rfl, rfl, rfl, rfl, rfl, rfl⟩

theorem Dev.recordFault_urecOf (d : Dev) (u i : Nat) : (d.recordFault u i).urecOf u = d.eventRec u i := Dev.setRec_urecOf_same _ _ _

section Events

variable {d : Dev} {u i : Nat} (hu : u ≠ 0x246) (hc : d.get (F.FLT_SRC_CLASS i) ≠ 0)

include hu hc

/-- An event at a fenced unit starts its fallow period again (R485). -/
theorem Dev.fault_fenced (hf : (d.urecOf u).fenced = true) : (d.fault u i).urecOf u =
    { d.eventRec u i with remain := if (d.urecOf u).sticky then 0 else d.fallowPeriod ((unitKind u).getD 0) } := by
  rw [Dev.fault_eq hu hc, if_pos hf, Dev.alerts_urecOf]
  exact Dev.setRec_urecOf_same _ _ _

/-- Below N an event is counted in the window of its source (R482). -/
theorem Dev.fault_below (hf : (d.urecOf u).fenced = false) (hn : mapGet 0 (d.urecOf u).wins i + 1 < d.get (F.FLT_SRC_N i)) :
    (d.fault u i).urecOf u = { d.eventRec u i with wins := mapPut 0 (d.eventRec u i).wins i (mapGet 0 (d.urecOf u).wins i + 1) } ∧
      d.Only { d.fault u i with urec := d.urec, alert := d.alert } [F.ALT_CFG_STATE 0, F.ALT_CFG_STATE 1] := by
  obtain ⟨x, hx⟩ : ∃ x, x = (d.recordFault u i).setRec u
    { d.eventRec u i with wins := mapPut 0 (d.eventRec u i).wins i (mapGet 0 (d.urecOf u).wins i + 1) } := ⟨_, rfl⟩
  rw [Dev.fault_eq hu hc, if_neg (by simp [hf]), if_neg (Nat.not_le.mpr hn), ← hx]
  obtain ⟨heq, hget⟩ := x.alerts_alerted i false
  refine ⟨?_, ?_, fun g hg => (hget g hg).trans ?_⟩
  · rw [Dev.alerts_urecOf, hx]
    exact Dev.setRec_urecOf_same _ _ _
  · have hxd : ({ x with urec := d.urec } : Dev) = d := by rw [hx]; rfl
    have h := congrArg (fun y : Dev => { y with urec := d.urec, alert := d.alert }) heq
    exact h.trans (congrArg (fun y : Dev => { y with fld := (x.alerts i false).fld, alert := d.alert }) hxd)
  · rw [hx]
    rfl

/-- At N the source is severe, and no fence follows (R482, R488). -/
theorem Dev.fault_severe (hf : (d.urecOf u).fenced = false) (hn : d.get (F.FLT_SRC_N i) ≤ mapGet 0 (d.urecOf u).wins i + 1)
    (h : d.get (F.FLT_SRC_CLASS i) ≠ 2 ∨ d.mayFence u = false) :
    (d.fault u i).urecOf u = { d.eventRec u i with sev := true, wins := mapErase (d.eventRec u i).wins i } ∧
      (d.fault u i).get F.FLT_INT_SEVERE = 1 := by
  have h' : (d.recordFault u i).get (F.FLT_SRC_CLASS i) ≠ 2 ∨ (d.recordFault u i).mayFence u = false := h
  rw [Dev.fault_eq hu hc, if_neg (by simp [hf]), if_pos hn, Dev.severe_alone hu h', Dev.alerts_urecOf, Dev.fltEvent_urecOf,
    Dev.setRec_urecOf_same, Dev.recordFault_urecOf]
  exact ⟨rfl, ((Dev.alerts_alerted _ i true).get (by decide)).trans (Dev.fltEvent_get _ u i (by decide))⟩

/-- At N a FENCE source fences its unit where it may be fenced (R483). -/
theorem Dev.fault_fence (hf : (d.urecOf u).fenced = false) (hn : d.get (F.FLT_SRC_N i) ≤ mapGet 0 (d.urecOf u).wins i + 1)
    (hclass : d.get (F.FLT_SRC_CLASS i) = 2) (hmay : d.mayFence u = true) : let z := (d.fault u i).urecOf u
    z.fenced = true ∧ z.sev = true ∧ z.wins = [] ∧ ∀ k, unitKind u = some k →
      z.sticky = (decide (d.get (F.FLT_FALLOW_LIMIT k) ≠ 0) && decide (d.get (F.FLT_FALLOW_LIMIT k) ≤ (d.urecOf u).fcnt)) := by
  obtain ⟨hfenced, -, -, hfcnt⟩ := d.eventRec_keeps u i
  obtain ⟨k, hk⟩ : ∃ k, unitKind u = some k := by
    cases hk : unitKind u with
    | none => simp [Dev.mayFence, hk] at hmay
    | some k => exact ⟨k, rfl⟩
  have hclass' : (d.recordFault u i).get (F.FLT_SRC_CLASS i) = 2 := hclass
  have hmay' : (d.recordFault u i).mayFence u = true := hmay
  obtain ⟨x, hx⟩ : ∃ x, x = (d.recordFault u i).setRec u { d.eventRec u i with sev := true, wins := mapErase (d.eventRec u i).wins i } := ⟨_, rfl⟩
  have hrec : x.urecOf u = { d.eventRec u i with sev := true, wins := mapErase (d.eventRec u i).wins i } := by
    rw [hx]
    exact Dev.setRec_urecOf_same _ _ _
  have hxf : (x.urecOf u).fenced = false := by rw [hrec]; exact hfenced.trans hf
  rw [Dev.fault_eq hu hc, if_neg (by simp [hf]), if_pos hn, Dev.severe_fence hu hclass' hmay', Dev.alerts_urecOf, Dev.recordFault_urecOf, ← hx,
    Dev.fence_urecOf hk hxf]
  refine ⟨rfl, by rw [hrec], rfl, fun j hj => ?_⟩
  obtain rfl : k = j := Option.some.inj (hk.symm.trans hj)
  have hlim : x.get (F.FLT_FALLOW_LIMIT k) = d.get (F.FLT_FALLOW_LIMIT k) := by rw [hx]; rfl
  rw [hrec, ← hfcnt, ← hlim]

end Events

/-- Settles O54: the record that an event leaves, and what follows where its source becomes severe. -/
theorem faultEvents : Obligations.FaultEvents := by
  unfold Obligations.FaultEvents
  refine fun d u i _ hu _ => ⟨fun hc => ?_, fun hc r hr => ⟨fun hv => ?_, fun hv => ?_, fun hf => ?_, fun hf hn => ?_, fun hf hn h => ?_,
    fun hf hn hclass hmay => ?_⟩⟩
  · simp only [Dev.fault, hc, if_true]
  all_goals subst hr
  · exact recordEvent_of_valid hv ..
  · exact recordEvent_of_empty hv ..
  · exact Dev.fault_fenced hu hc hf
  · exact Dev.fault_below hu hc hf hn
  · exact Dev.fault_severe hu hc hf hn h
  · exact Dev.fault_fence hu hc hf hn hclass hmay

end Sys2Proof.Machine

/-!
SUPPORT. Fallow, fault commands, records and alert pins (chapter 17).
-/
namespace Sys2Proof.Machine

open Sys2Proof

theorem Dev.unitFenced_eq (d : Dev) (u : Nat) : d.unitFenced u = (d.urecOf u).fenced := rfl

theorem Dev.up_not_stuck {d : Dev} (h : d.up = true) : (d.pow.state == .stuck) = false := by
  cases hp : d.pow.state <;> simp [Dev.up, hp] at h ⊢

/-! ### What queues leave of the fences of device queues -/

@[simp] theorem Dev.injUse_qFenced (d : Dev) (k : Nat) : (d.injUse k).lar.qFenced = d.lar.qFenced := by
  unfold Dev.injUse
  simp only
  split_ifs <;> rfl

@[simp] theorem Dev.linkWrite_qFenced (d : Dev) (c : Nat) : (d.linkWrite c).lar.qFenced = d.lar.qFenced := by
  unfold Dev.linkWrite
  simp only
  split_ifs <;> exact d.injUse_qFenced _

@[simp] theorem Dev.giveCells_qFenced (d : Dev) (l : List Nat) : (d.giveCells l).lar.qFenced = d.lar.qFenced := by
  induction l generalizing d with
  | nil => rfl
  | cons c l ih => exact (ih _).trans (Dev.linkWrite_qFenced _ c)

theorem Dev.takeCell_qFenced {d : Dev} {n c : Nat} {e : Dev} (h : d.takeCell n = some (c, e)) : e.lar.qFenced = d.lar.qFenced := by
  induction n generalizing d with
  | zero => simp [Dev.takeCell] at h
  | succ n ih =>
    simp only [Dev.takeCell] at h
    split_ifs at h
    split at h
    · cases h
    · split at h
      · obtain ⟨-, rfl⟩ := Prod.mk.inj (Option.some.inj h)
        exact Dev.linkWrite_qFenced _ _
      · obtain ⟨-, rfl⟩ := Prod.mk.inj (Option.some.inj h)
        exact Dev.linkWrite_qFenced _ _
      · exact (ih h).trans rfl

theorem Dev.takeCells_qFenced {d : Dev} {k : Nat} {l : List Nat} {e : Dev} (h : d.takeCells k = some (l, e)) : e.lar.qFenced = d.lar.qFenced := by
  induction k generalizing d l e with
  | zero =>
    obtain ⟨-, rfl⟩ := Prod.mk.inj (Option.some.inj h)
    rfl
  | succ k ih =>
    simp only [Dev.takeCells] at h
    split at h
    · cases h
    · rename_i c d' hc
      split at h
      · cases h
      · rename_i l' d'' hl
        obtain ⟨-, rfl⟩ := Prod.mk.inj (Option.some.inj h)
        exact (ih hl).trans (Dev.takeCell_qFenced hc)

@[simp] theorem Dev.storeCells_qFenced (d : Dev) (l : List Nat) (len : Nat) : (d.storeCells l len).1.lar.qFenced = d.lar.qFenced := by
  induction l generalizing d len with
  | nil => rfl
  | cons c l ih => exact (ih _ _).trans (d.injUse_qFenced _)

@[simp] theorem Dev.countLost_qFenced (d : Dev) (q n : Nat) : (d.countLost q n).lar.qFenced = d.lar.qFenced := by
  unfold Dev.countLost Dev.countLostAs
  simp only
  split_ifs <;> rfl

@[simp] theorem Dev.removeItem_qFenced (d : Dev) (q j : Nat) : (d.removeItem q j).lar.qFenced = d.lar.qFenced := by
  unfold Dev.removeItem
  split
  · rfl
  · simp only
    split_ifs
    · exact Dev.giveCells_qFenced _ _
    · exact Dev.giveCells_qFenced _ _

theorem Dev.makeRoom_qFenced {d : Dev} {q k prio n : Nat} {e : Dev} {m : Nat} (h : d.makeRoom q k prio n = some (e, m)) :
    e.lar.qFenced = d.lar.qFenced := by
  induction n generalizing d e m with
  | zero =>
    simp only [Dev.makeRoom] at h
    split_ifs at h
    obtain ⟨rfl, -⟩ := Prod.mk.inj (Option.some.inj h)
    rfl
  | succ n ih =>
    simp only [Dev.makeRoom] at h
    split_ifs at h
    · obtain ⟨rfl, -⟩ := Prod.mk.inj (Option.some.inj h)
      rfl
    · split at h
      · cases h
      · split at h
        · cases h
        · rename_i d' m' hm
          obtain ⟨rfl, -⟩ := Prod.mk.inj (Option.some.inj h)
          exact (ih hm).trans (d.removeItem_qFenced q _)

theorem Dev.putItem_qFenced {d : Dev} {q k : Nat} {data : List Byte} {prio stamp : Nat} {bad : Nat → Bool} {e : Dev}
    (h : d.putItem q k data prio stamp bad = some e) : e.lar.qFenced = d.lar.qFenced := by
  unfold Dev.putItem at h
  split at h
  · cases h
  · rename_i cs d2 ht
    obtain rfl := Option.some.inj h
    exact (Dev.storeCells_qFenced _ _ _).trans (Dev.takeCells_qFenced ht)

theorem Dev.enqueueN_qFenced (q : Nat) (data : List Byte) (prio stamp : Nat) (bad : Nat → Bool) (f : Nat) (d : Dev) (m : Nat) :
    (Dev.enqueueN q data prio stamp bad f d m).1.lar.qFenced = d.lar.qFenced := by
  induction f generalizing d m with
  | zero => exact d.countLost_qFenced q (m + 1)
  | succ f ih =>
    simp only [Dev.enqueueN]
    split
    · exact d.countLost_qFenced q (m + 1)
    · rename_i d1 n hm
      have h1 := Dev.makeRoom_qFenced hm
      split
      · exact (ih _ _).trans h1
      · split
        · exact (d1.countLost_qFenced q (m + n + 1)).trans h1
        · rename_i d2 hp
          exact (d2.countLost_qFenced q (m + n)).trans ((Dev.putItem_qFenced hp).trans h1)

@[simp] theorem Dev.notify_qFenced (d : Dev) (t code inst arg count : Nat) : (d.notify t code inst arg count).lar.qFenced = d.lar.qFenced := by
  unfold Dev.notify
  split_ifs
  · rfl
  · rfl
  · exact Dev.enqueueN_qFenced _ _ _ _ _ _ _ _

@[simp] theorem Dev.notifyAll_qFenced (d : Dev) (ts : List Nat) (code inst arg count : Nat) :
    (d.notifyAll ts code inst arg count).lar.qFenced = d.lar.qFenced := by
  induction ts generalizing d with
  | nil => rfl
  | cons t l ih => exact (ih _).trans (d.notify_qFenced t _ _ _ _)

theorem Dev.fltEvent_qFenced (d : Dev) (n u src : Nat) : (d.fltEvent n u src).lar.qFenced = d.lar.qFenced := Dev.notifyAll_qFenced _ _ _ _ _ _

/-! ### Windows and fallow (R482, R484, R485) -/

theorem Dev.windowExpiry_is (d : Dev) (u i : Nat) : let e := d.windowExpiry u i
    e.urecOf u = { d.urecOf u with wins := mapErase (d.urecOf u).wins i } ∧ mapGet 0 (e.urecOf u).wins i = 0 ∧
    (∀ v, v ≠ u → e.urecOf v = d.urecOf v) ∧ e = { d with urec := e.urec } := by
  have h : (d.windowExpiry u i).urecOf u = { d.urecOf u with wins := mapErase (d.urecOf u).wins i } := Dev.setRec_urecOf_same ..
  refine ⟨h, ?_, fun v hv => Dev.setRec_urecOf_ne d _ hv.symm, rfl⟩
  rw [h, mapGet, mapFind_erase_same]
  rfl

/-- A unit's record as the end of its fence leaves it, counted or not. -/
def Dev.freedRec (d : Dev) (u : Nat) (count : Bool) : URec :=
  let r := { d.urecOf u with fenced := false, sticky := false, remain := 0, wins := [] }
  if count then countReturn r else r

/-- The end of a fence, before its event. -/
def Dev.freed (d : Dev) (u : Nat) (count : Bool) : Dev :=
  let d1 := (d.setRec u (d.freedRec u count)).setBit (F.FLT_FENCED_FENCED (u / 32)) (u % 32) false
  if u = 0x246 then { d1 with lar := { d1.lar with qFenced := [] } } else d1

theorem Dev.endFence_eq (d : Dev) (u : Nat) (count : Bool) : d.endFence u count = returnEffect u ((d.freed u count).fltEvent 1 u 0) := rfl

theorem Dev.freed_urecOf (d : Dev) (u : Nat) (count : Bool) : (d.freed u count).urecOf u = d.freedRec u count := by
  have h : (d.freed u count).urec = (d.setRec u (d.freedRec u count)).urec := by
    unfold Dev.freed
    split_ifs
    · exact Dev.urec_of_aside (Dev.setBit_aside (d.setRec u (d.freedRec u count)) _ _ _)
    · exact Dev.urec_of_aside (Dev.setBit_aside _ _ _ _)
  exact (Dev.urecOf_congr h u).trans (Dev.setRec_urecOf_same _ _ _)

theorem Dev.freed_bit (d : Dev) (u : Nat) (count : Bool) : (d.freed u count).bit (F.FLT_FENCED_FENCED (u / 32)) (u % 32) = false := by
  have h : u % 32 < (F.FLT_FENCED_FENCED (u / 32)).w := Nat.mod_lt _ (by decide)
  have hbit := (d.setRec u (d.freedRec u count)).setBit_bit false h h
  rw [if_pos rfl] at hbit
  unfold Dev.freed
  split_ifs
  · exact hbit
  · exact hbit

theorem Dev.freed_qFenced (d : Dev) (count : Bool) : (d.freed 0x246 count).lar.qFenced = [] := by
  unfold Dev.freed
  rw [if_pos rfl]

theorem Dev.fallowExpiry_is {d : Dev} {u : Nat} (q : Nat) (hu : u ≠ 0x246) (hf : (d.urecOf u).fenced = true) (hs : (d.urecOf u).sticky = false) :
    ∃ x : Dev, d.fallowExpiry u q = returnEffect u (x.fltEvent 1 u 0) ∧
      x.urecOf u = countReturn { d.urecOf u with fenced := false, sticky := false, remain := 0, wins := [] } ∧
      (x.urecOf u).fcnt = satInc 0xFFFF (d.urecOf u).fcnt ∧
      x.bit (F.FLT_FENCED_FENCED (u / 32)) (u % 32) = false ∧ (x.fltEvent 1 u 0).get F.FLT_INT_RETURN = 1 := by
  have hrec := d.freed_urecOf u true
  refine ⟨d.freed u true, ?_, hrec, by rw [hrec]; rfl, d.freed_bit u true, Dev.fltEvent_get _ u 0 (by decide)⟩
  rw [Dev.fallowExpiry, if_neg hu, hf, hs]
  exact d.endFence_eq u true

/-- The return of a device queue ends the fence of unit LAR with the last one (R484). -/
theorem Dev.queueReturns_is {d : Dev} {q : Nat} (hq : d.lar.qFenced.contains q = true) : let e := d.queueReturns q
    e.lar.qFenced.contains q = false ∧ e.get F.FLT_INT_RETURN = 1 ∧ (e.urecOf 0x246).fcnt = satInc 0xFFFF (d.urecOf 0x246).fcnt ∧
    ((d.lar.qFenced.filter (· != q)) = [] → (e.urecOf 0x246).fenced = false) := by
  obtain ⟨x, hx⟩ : ∃ x : Dev, x = { d with lar := { d.lar with qFenced := d.lar.qFenced.filter (· != q) } } := ⟨_, rfl⟩
  have hlar : x.lar.qFenced = d.lar.qFenced.filter (· != q) := by rw [hx]
  have hrec : x.urecOf 0x246 = d.urecOf 0x246 := by rw [hx]; rfl
  have hsplit : d.queueReturns q = if x.lar.qFenced.isEmpty then x.endFence 0x246 true
      else (x.setRec 0x246 (countReturn (x.urecOf 0x246))).fltEvent 1 0x246 0 := by
    rw [Dev.queueReturns, hq, hx]
    rfl
  rw [hsplit, ← hrec, ← hlar]
  split_ifs with hempty
  · have hfreed := x.freed_urecOf 0x246 true
    have hnone := x.freed_qFenced true
    rw [Dev.endFence_eq]
    generalize x.freed 0x246 true = y at *
    have hz : ((returnEffect 0x246 (y.fltEvent 1 0x246 0)).urecOf 0x246) = x.freedRec 0x246 true := (y.fltEvent_urecOf 1 0x246 0 0x246).trans hfreed
    refine ⟨?_, Dev.fltEvent_get y 0x246 0 (by decide), by rw [hz]; rfl, fun _ => by rw [hz]; rfl⟩
    have hq' : (returnEffect 0x246 (y.fltEvent 1 0x246 0)).lar.qFenced = [] := (y.fltEvent_qFenced 1 0x246 0).trans hnone
    rw [hq']
    rfl
  · obtain ⟨y, hy⟩ : ∃ y : Dev, y = x.setRec 0x246 (countReturn (x.urecOf 0x246)) := ⟨_, rfl⟩
    have hyrec : y.urecOf 0x246 = countReturn (x.urecOf 0x246) := by rw [hy]; exact Dev.setRec_urecOf_same _ _ _
    have hylar : y.lar.qFenced = x.lar.qFenced := by rw [hy]; rfl
    rw [← hy]
    refine ⟨?_, Dev.fltEvent_get y 0x246 0 (by decide), by rw [Dev.fltEvent_urecOf, hyrec]; rfl, fun h => absurd (by rw [h]; rfl) hempty⟩
    rw [Dev.fltEvent_qFenced, hylar, hlar]
    simp

/-! ### FLT_UCMD (R486, R503) -/

theorem ucmdWord_op (w : Word) {op : Nat} (h : op < 4) : bits (ucmdWord w op).toNat 0 2 = op := by
  have hw : w.toNat < 2 ^ 32 := w.isLt
  rw [ucmdWord, BitVec.toNat_ofNat, Nat.mod_eq_of_lt (by omega), bits]
  omega

theorem ucmdChecks_first : ∀ state nores release : Bool,
    firstByRank [(false, .eField), (state, .eState), (nores, .eNores), (release, .eState)] =
      if state || release then .eState else if nores then .eNores else .done := by decide

theorem Dev.only_writeUcmd (d : Dev) (w : Word) : d.Only (d.writeRow .bar0 R.FLT_UCMD 0 w) [] := d.only_writeRow .bar0 R.FLT_UCMD 0 w

/-- The unit selected is fenced by software as by a severe event of source 0 (R486). -/
theorem Dev.softFence_is {d : Dev} {u k : Nat} (hk : unitKind u = some k) (hf : d.unitFenced u = false) : let e := d.softFence u
    e.unitFenced u = true ∧ (e.urecOf u).valid = true ∧ (e.urecOf u).last = 0 ∧ (e.urecOf u).sev = true := by
  obtain ⟨x, hx⟩ : ∃ x, x = (d.recordFault u 0).setRec u { (d.recordFault u 0).urecOf u with sev := true } := ⟨_, rfl⟩
  have hrec : x.urecOf u = { d.eventRec u 0 with sev := true } := by
    rw [hx, ← Dev.recordFault_urecOf]
    exact Dev.setRec_urecOf_same _ _ _
  obtain ⟨hfenced, -, -, -⟩ := d.eventRec_keeps u 0
  have hvalid : (d.eventRec u 0).valid = true ∧ (d.eventRec u 0).last = 0 := by
    unfold Dev.eventRec recordEvent
    split_ifs with h
    · exact ⟨h, rfl⟩
    · exact ⟨rfl, rfl⟩
  have he : (d.softFence u).urecOf u = (x.fence u 0).urecOf u := by
    rw [hx]
    exact Dev.alerts_urecOf _ _ _ _
  have hxf : (x.urecOf u).fenced = false := by rw [hrec]; exact hfenced.trans hf
  simp only [Dev.unitFenced_eq, he, Dev.fence_urecOf hk hxf, hrec]
  exact ⟨trivial, hvalid.1, hvalid.2, trivial⟩

theorem ucmdFence_is {d : Dev} {w : Word} {u : Nat} {k : Option Nat} (hup : d.up = true) (hu : u = d.get F.FLT_USEL_UNIT) (hk : k = unitKind u)
    (hres : setsReserved R.FLT_UCMD w = false) (hop : bits w.toNat 0 2 = 1) : let e := d.writeUcmd w
    if k = none ∨ k = some 10 ∨ d.unitFenced u = true ∨ (u < 256 ∧ d.tenantExists u = false) then RecordedGlb d e 0x15020 .eState
    else if k = some 9 ∧ d.bankMayFence (u - 0x230) = false then RecordedGlb d e 0x15020 .eNores
    else e.unitFenced u = true ∧ (e.urecOf u).valid = true ∧ (e.urecOf u).last = 0 ∧ (e.urecOf u).sev = true := by
  have hfirst : firstByRank ((setsReserved R.FLT_UCMD w, .eField) :: (d.changesLocked .bar0 R.FLT_UCMD 0 w, .eLocked) ::
      [(1 == 0, .eField),
       (1 == 1 && (k.isNone || k == some 10 || d.unitFenced u || (decide (u < 256) && !d.tenantExists u)), .eState),
       (1 == 1 && k == some 9 && !d.bankMayFence (u - 0x230), .eNores), (1 == 2 && !d.unitFenced u, .eState)]) =
      if k = none ∨ k = some 10 ∨ d.unitFenced u = true ∨ (u < 256 ∧ d.tenantExists u = false) then .eState
      else if k = some 9 ∧ d.bankMayFence (u - 0x230) = false then .eNores else .done := by
    rw [firstByRank_own hres rfl]
    refine (ucmdChecks_first (k.isNone || k == some 10 || d.unitFenced u || (decide (u < 256) && !d.tenantExists u))
      (k == some 9 && !d.bankMayFence (u - 0x230)) false).trans ?_
    simp only [Bool.or_false, Bool.and_eq_true, Bool.or_eq_true, Bool.not_eq_true', beq_iff_eq, decide_eq_true_eq, or_assoc, Option.isNone_iff_eq_none]
  unfold Dev.writeUcmd
  simp only [hop, ← hu, ← hk]
  by_cases hstate : k = none ∨ k = some 10 ∨ d.unitFenced u = true ∨ (u < 256 ∧ d.tenantExists u = false)
  · rw [if_pos hstate] at hfirst ⊢
    exact recordedGlb_of_rejected hup (by decide) hfirst
  rw [if_neg hstate] at hfirst ⊢
  by_cases hnores : k = some 9 ∧ d.bankMayFence (u - 0x230) = false
  · rw [if_pos hnores] at hfirst ⊢
    exact recordedGlb_of_rejected hup (by decide) hfirst
  rw [if_neg hnores] at hfirst ⊢
  rw [Dev.regWrite_done hup hfirst]
  obtain ⟨hsome, -, hnot, -⟩ : k ≠ none ∧ k ≠ some 10 ∧ d.unitFenced u ≠ true ∧ ¬(u < 256 ∧ d.tenantExists u = false) := by
    simpa only [not_or] using hstate
  obtain ⟨j, hj⟩ := Option.ne_none_iff_exists'.mp hsome
  obtain ⟨m, hm⟩ := (d.only_writeUcmd w).eq_with
  rw [hm]
  exact Dev.softFence_is (hk.symm.trans hj) (Bool.not_eq_true _ ▸ hnot)

theorem ucmdRelease_is {d : Dev} {w : Word} {u : Nat} (hup : d.up = true) (hu : u = d.get F.FLT_USEL_UNIT)
    (hres : setsReserved R.FLT_UCMD w = false) (hop : bits w.toNat 0 2 = 2) : let e := d.writeUcmd w
    if d.unitFenced u = false then RecordedGlb d e 0x15020 .eState
    else ∃ x : Dev, e = returnEffect u (x.fltEvent 1 u 0) ∧
      x.urecOf u = { d.urecOf u with fenced := false, sticky := false, remain := 0, wins := [] } ∧ (u = 0x246 → x.lar.qFenced = []) := by
  have hfirst : firstByRank ((setsReserved R.FLT_UCMD w, .eField) :: (d.changesLocked .bar0 R.FLT_UCMD 0 w, .eLocked) ::
      [(2 == 0, .eField),
       (2 == 1 && ((unitKind u).isNone || unitKind u == some 10 || d.unitFenced u || (decide (u < 256) && !d.tenantExists u)), .eState),
       (2 == 1 && unitKind u == some 9 && !d.bankMayFence (u - 0x230), .eNores), (2 == 2 && !d.unitFenced u, .eState)]) =
      if d.unitFenced u = false then .eState else .done := by
    rw [firstByRank_own hres rfl]
    refine (ucmdChecks_first false false (!d.unitFenced u)).trans ?_
    simp only [Bool.false_or, Bool.false_eq_true, if_false, Bool.not_eq_true']
  unfold Dev.writeUcmd
  simp only [hop, ← hu]
  by_cases hstate : d.unitFenced u = false
  · rw [if_pos hstate] at hfirst ⊢
    exact recordedGlb_of_rejected hup (by decide) hfirst
  rw [if_neg hstate] at hfirst ⊢
  rw [Dev.regWrite_done hup hfirst]
  obtain ⟨m, hm⟩ := (d.only_writeUcmd w).eq_with
  rw [hm]
  refine ⟨_, Dev.endFence_eq _ u false, Dev.freed_urecOf _ u false, fun h => ?_⟩
  subst h
  exact Dev.freed_qFenced _ false

theorem ucmdClear_is {d : Dev} {w : Word} {u : Nat} (hup : d.up = true) (hu : u = d.get F.FLT_USEL_UNIT)
    (hres : setsReserved R.FLT_UCMD w = false) (hop : bits w.toNat 0 2 = 3) : let e := d.writeUcmd w
    e.urecOf u = { d.urecOf u with fcnt := 0, fcsat := false } ∧ (∀ v, v ≠ u → e.urecOf v = d.urecOf v) ∧ e = { d with urec := e.urec } := by
  have hfirst : firstByRank ((setsReserved R.FLT_UCMD w, .eField) :: (d.changesLocked .bar0 R.FLT_UCMD 0 w, .eLocked) ::
      [(3 == 0, .eField),
       (3 == 1 && ((unitKind u).isNone || unitKind u == some 10 || d.unitFenced u || (decide (u < 256) && !d.tenantExists u)), .eState),
       (3 == 1 && unitKind u == some 9 && !d.bankMayFence (u - 0x230), .eNores), (3 == 2 && !d.unitFenced u, .eState)]) = .done := by
    rw [firstByRank_own hres rfl]
    exact ucmdChecks_first false false false
  unfold Dev.writeUcmd
  simp only [hop, ← hu]
  rw [Dev.regWrite_done hup hfirst]
  have hrow : d.writeRow .bar0 R.FLT_UCMD 0 w = d := rfl
  rw [hrow]
  exact ⟨Dev.setRec_urecOf_same _ _ _, fun v hv => Dev.setRec_urecOf_ne d _ hv.symm, rfl⟩

/-! ### Records (R481, R491) -/

/-- A record that is cleared but for its fence, its count and its windows. -/
def URec.cleared (r : URec) : URec :=
  { fenced := r.fenced, sticky := r.sticky, fcsat := r.fcsat, fcnt := r.fcnt, remain := r.remain, wins := r.wins }

theorem Dev.writeUrec0_is {d : Dev} {w : Word} {u : Nat} (hup : d.up = true) (hu : u = d.get F.FLT_USEL_UNIT)
    (hres : setsReserved R.FLT_UREC0 w = false) (hbit : bitOf w.toNat 31 = true) : let e := d.writeUrec0 w
    e.urecOf u = (d.urecOf u).cleared ∧
    (∀ v, v ≠ u → e.urecOf v = d.urecOf v) ∧
    d.Only { e with urec := d.urec } [F.FLT_UREC0_VALID, F.ALT_CFG_STATE 0, F.ALT_CFG_STATE 1] := by
  have hfirst : firstByRank [(setsReserved R.FLT_UREC0 w, Status.eField), (d.changesLocked .bar0 R.FLT_UREC0 0 w, .eLocked)] = .done :=
    (firstByRank_own hres rfl _ _ _ _).trans rfl
  unfold Dev.writeUrec0
  rw [Dev.regWrite_done hup hfirst, if_pos hbit, ← hu]
  obtain ⟨m, hm⟩ := Dev.Only.eq_with (show d.Only _ [F.FLT_UREC0_VALID] from d.only_writeRow .bar0 R.FLT_UREC0 0 w)
  have hget (g : Fld) (hg : fldId F.FLT_UREC0_VALID ≠ fldId g) : (d.writeRow .bar0 R.FLT_UREC0 0 w).get g = d.get g :=
    (show d.Only _ [F.FLT_UREC0_VALID] from d.only_writeRow .bar0 R.FLT_UREC0 0 w).2 g (by simpa using hg)
  generalize d.writeRow .bar0 R.FLT_UREC0 0 w = x at *
  subst hm
  obtain ⟨y, hy⟩ : ∃ y : Dev, y = ({ d with fld := m } : Dev).setRec u (d.urecOf u).cleared := ⟨_, rfl⟩
  have he : ({ d with fld := m } : Dev).clearRecord u = (y.showPin 0).showPin 1 := by rw [hy]; rfl
  have hurec : ((y.showPin 0).showPin 1).urec = y.urec := rfl
  have hrec (v : Nat) : ((y.showPin 0).showPin 1).urecOf v = y.urecOf v := Dev.urecOf_congr hurec v
  have honly : y.Only ((y.showPin 0).showPin 1) [F.ALT_CFG_STATE 0, F.ALT_CFG_STATE 1] :=
    ((y.only_setB _ _).trans (Dev.only_setB _ _ _)).mono (by simp)
  rw [he]
  refine ⟨?_, fun v hv => ?_, ?_, fun g hg => ?_⟩
  · rw [hrec, hy]
    exact Dev.setRec_urecOf_same _ _ _
  · rw [hrec, hy]
    exact Dev.setRec_urecOf_ne _ _ hv.symm
  · rw [hy]
    rfl
  · refine (honly.2 g fun f hf => hg f (List.mem_cons_of_mem _ hf)).trans ?_
    rw [hy]
    exact hget g (hg _ (by simp))

/-- The commands on units, and the clearing of a record. -/
theorem faultCommandsRule : FaultCommandsRule := by
  intro s hup
  refine ⟨fun u i => Ends.of_act hup (Dev.windowExpiry_is _ _ _), fun u q => ⟨fun hu h => Ends.of_act hup ?_,
    fun hu hf hs => Ends.of_act hup (Dev.fallowExpiry_is _ hu hf hs), fun hu h => Ends.of_act hup ?_, fun hu h => Ends.of_act hup ?_⟩,
    fun w u k hu _ hk => ⟨fun hres => Ends.of_act hup (ucmdFence_is hup hu hk hres (ucmdWord_op w (by decide))),
      fun hres => Ends.of_act hup (ucmdRelease_is hup hu hres (ucmdWord_op w (by decide))),
      fun hres => Ends.of_act hup (ucmdClear_is hup hu hres (ucmdWord_op w (by decide))),
      fun hres => Ends.of_act hup (Dev.writeUrec0_is hup hu hres (bitOf_withBit_same w (by decide)))⟩⟩
  · have hnot : ((s.dev.urecOf u.toNat).fenced && !(s.dev.urecOf u.toNat).sticky) = false := by
      rcases h with h | h <;> simp [h]
    rw [Dev.fallowExpiry, if_neg hu, hnot]
    rfl
  · rw [Dev.fallowExpiry, if_pos hu, Dev.queueReturns, h]
    rfl
  · rw [Dev.fallowExpiry, if_pos hu]
    exact Dev.queueReturns_is h

/-! ### Alert pins (R489, R490, R585) -/

theorem bitNat_inj {a b : Bool} (h : bitNat a = bitNat b) : a = b := by cases a <;> cases b <;> simp_all [bitNat]

theorem bitNat_eq_one {b : Bool} : bitNat b = 1 ↔ b = true := by cases b <;> simp [bitNat]

theorem bitNat_eq_zero {b : Bool} : bitNat b = 0 ↔ b = false := by cases b <;> simp [bitNat]

@[simp] theorem Dev.setPin_pin_same (d : Dev) (x : Nat) (p : AlertPin) : (d.setPin x p).pin x = p := mapGet_put_same ..

theorem Dev.showPin_pin (d : Dev) (x y : Nat) : (d.showPin x).pin y = d.pin y := rfl

/-- What pin `x` shows, where the self-test has not failed. -/
theorem Dev.showPin_state (d : Dev) (x : Nat) (h : (d.pow.state == .stuck) = false) : (d.showPin x).get (F.ALT_CFG_STATE x) =
    bitNat (if d.is (F.ALT_CFG_MODE x) then d.levelOn x else (d.pin x).pulsing || (d.pin x).held) := by
  rw [Dev.showPin, Dev.setB, Dev.get_set_same, h, Bool.false_or]
  cases (if d.is (F.ALT_CFG_MODE x) then d.levelOn x else (d.pin x).pulsing || (d.pin x).held) <;> rfl

/-- A pin that is set and shown. -/
theorem Dev.only_putPin (d : Dev) (x : Nat) (p : AlertPin) :
    d.Only { (d.setPin x p).showPin x with alert := d.alert } [F.ALT_CFG_STATE x] := d.only_setB _ _

theorem Dev.pulseEnd_is {d : Dev} (x : Nat) (hup : d.up = true) (hm : d.is (F.ALT_CFG_MODE x) = false) (hp : (d.pin x).pulsing = true) :
    let e := d.pulseEnd x
    e.pin x = { d.pin x with pulsing := false, held := d.is (F.ALT_CFG_HOLD x), resting := !d.is (F.ALT_CFG_HOLD x) } ∧
    e.get (F.ALT_CFG_STATE x) = bitNat (d.is (F.ALT_CFG_HOLD x)) ∧ d.Only { e with alert := d.alert } [F.ALT_CFG_STATE x] := by
  obtain ⟨p, hpin⟩ : ∃ p : AlertPin, p = { d.pin x with pulsing := false, held := d.is (F.ALT_CFG_HOLD x), resting := !d.is (F.ALT_CFG_HOLD x) } :=
    ⟨_, rfl⟩
  have he : d.pulseEnd x = (d.setPin x p).showPin x := by
    rw [Dev.pulseEnd, hm, hp, hpin]
    rfl
  have hmode : (d.setPin x p).is (F.ALT_CFG_MODE x) = false := hm
  rw [he, ← hpin]
  refine ⟨Dev.setPin_pin_same _ _ _, ?_, d.only_putPin x p⟩
  rw [Dev.showPin_state (d.setPin x p) x (Dev.up_not_stuck hup), hmode, Dev.setPin_pin_same, hpin]
  rfl

theorem Dev.deassertEnd_is {d : Dev} (x : Nat) (hup : d.up = true) (hr : (d.pin x).resting = true) : let e := d.deassertEnd x
    e.pin x = { d.pin x with resting := false, waiting := false, pulsing := (d.pin x).waiting || (d.pin x).pulsing } ∧
    (d.is (F.ALT_CFG_MODE x) = false → (d.pin x).waiting = true → e.get (F.ALT_CFG_STATE x) = 1) ∧
    (d.is (F.ALT_CFG_MODE x) = true → e.get (F.ALT_CFG_STATE x) = bitNat (d.levelOn x)) ∧
    d.Only { e with alert := d.alert } [F.ALT_CFG_STATE x] := by
  obtain ⟨p, hpin⟩ : ∃ p : AlertPin, p = { d.pin x with resting := false, waiting := false, pulsing := (d.pin x).waiting || (d.pin x).pulsing } :=
    ⟨_, rfl⟩
  have he : d.deassertEnd x = (d.setPin x p).showPin x := by
    rw [Dev.deassertEnd, hr, hpin]
    rfl
  have hmode : (d.setPin x p).is (F.ALT_CFG_MODE x) = d.is (F.ALT_CFG_MODE x) := rfl
  have hstate := Dev.showPin_state (d.setPin x p) x (Dev.up_not_stuck hup)
  rw [hmode, Dev.setPin_pin_same] at hstate
  rw [he, ← hpin]
  refine ⟨Dev.setPin_pin_same _ _ _, fun hm hw => ?_, fun hm => ?_, d.only_putPin x p⟩
  · rw [hstate, hm, hpin, hw]
    rfl
  · rw [hstate, if_pos hm]
    rfl

/-- The fields of ALT_CFG that a write may change. -/
def altCfgFlds (x : Nat) : List Fld := [F.ALT_CFG_WIDTH x, F.ALT_CFG_HOLD x, F.ALT_CFG_SEVONLY x, F.ALT_CFG_MODE x]

theorem Dev.only_writeAltCfg (d : Dev) (x : Nat) (w : Word) : d.Only (d.writeRow .bar0 R.ALT_CFG x w) (altCfgFlds x) :=
  d.only_writeRow .bar0 R.ALT_CFG x w

theorem altCfg_apart : R.ALT_CFG.fields.Pairwise fun f g => g.lo ≠ f.lo := by simp [R.ALT_CFG]

theorem Dev.writeAltCfg_gets (d : Dev) (x : Nat) (w : Word) : let y := d.writeRow .bar0 R.ALT_CFG x w
    y.get (F.ALT_CFG_WIDTH x) = bits w.toNat 16 10 ∧ y.get (F.ALT_CFG_HOLD x) = bits w.toNat 2 1 ∧
    y.get (F.ALT_CFG_SEVONLY x) = bits w.toNat 1 1 ∧ y.get (F.ALT_CFG_MODE x) = bits w.toNat 0 1 :=
  ⟨d.writeRow_get (g := ⟨16, 10, .rw, fun _ => 100⟩) (by simp [R.ALT_CFG]) altCfg_apart (.inl rfl),
    d.writeRow_get (g := ⟨2, 1, .rw, fun _ => 0⟩) (by simp [R.ALT_CFG]) altCfg_apart (.inl rfl),
    d.writeRow_get (g := ⟨1, 1, .rw, fun i => i⟩) (by simp [R.ALT_CFG]) altCfg_apart (.inl rfl),
    d.writeRow_get (g := ⟨0, 1, .rw, fun i => i⟩) (by simp [R.ALT_CFG]) altCfg_apart (.inl rfl)⟩

/-- What a write of ALT_CFG makes of its pin, once its fields are written. -/
def Dev.pinWritten (d n : Dev) (x : Nat) (w : Word) : Dev :=
  if bitOf w.toNat 0 != d.is (F.ALT_CFG_MODE x) then
    let n1 := (n.setPin x {}).showPin x
    if d.is (F.ALT_CFG_STATE x) && !n1.is (F.ALT_CFG_STATE x) then n1.setPin x { resting := true } else n1
  else if !bitOf w.toNat 0 && !bitOf w.toNat 2 && (d.pin x).held then
    (n.setPin x { n.pin x with held := false, resting := !(n.pin x).pulsing }).showPin x
  else n

theorem Dev.only_pinWritten (d n : Dev) (x : Nat) (w : Word) : n.Only { d.pinWritten n x w with alert := n.alert } [F.ALT_CFG_STATE x] := by
  unfold Dev.pinWritten
  simp only
  split_ifs
  · exact n.only_setB _ _
  · exact n.only_setB _ _
  · exact n.only_setB _ _
  · exact (Dev.Only.refl n _)

/-- A change of mode starts the pin afresh. -/
theorem Dev.pinWritten_mode {d n : Dev} {x : Nat} {w : Word} (h : bitOf w.toNat 0 ≠ d.is (F.ALT_CFG_MODE x)) : let e := d.pinWritten n x w
    (e.pin x).pulsing = false ∧ (e.pin x).held = false ∧ (e.pin x).waiting = false ∧
    e.get (F.ALT_CFG_STATE x) = ((n.setPin x {}).showPin x).get (F.ALT_CFG_STATE x) := by
  unfold Dev.pinWritten
  rw [if_pos (by simpa using h)]
  simp only
  split_ifs
  · rw [Dev.setPin_pin_same]
    exact ⟨rfl, rfl, rfl, rfl⟩
  · rw [Dev.showPin_pin, Dev.setPin_pin_same]
    exact ⟨rfl, rfl, rfl, rfl⟩

theorem Dev.writeAltCfg_done {d : Dev} {x : Nat} {w : Word} (hup : d.up = true) (hres : setsReserved R.ALT_CFG w = false)
    (h0 : bits w.toNat 16 10 ≠ 0) (h1000 : bits w.toNat 16 10 ≤ 1000) : let e := d.writeAltCfg x w
    e.get (F.ALT_CFG_WIDTH x) = bits w.toNat 16 10 ∧ e.get (F.ALT_CFG_HOLD x) = bits w.toNat 2 1 ∧
    e.get (F.ALT_CFG_SEVONLY x) = bits w.toNat 1 1 ∧ e.get (F.ALT_CFG_MODE x) = bits w.toNat 0 1 ∧
    (bits w.toNat 0 1 = bitNat (d.is (F.ALT_CFG_MODE x)) → bits w.toNat 0 1 = 1 ∨ bits w.toNat 2 1 = 1 ∨ (d.pin x).held = false →
      e.alert = d.alert ∧ e.get (F.ALT_CFG_STATE x) = d.get (F.ALT_CFG_STATE x)) ∧
    (d.is (F.ALT_CFG_MODE x) = false → bits w.toNat 0 1 = 0 → bits w.toNat 2 1 = 0 → (d.pin x).held = true →
      (e.pin x).held = false ∧ (e.pin x).resting = !(d.pin x).pulsing) ∧
    (bits w.toNat 0 1 ≠ bitNat (d.is (F.ALT_CFG_MODE x)) → (e.pin x).pulsing = false ∧ (e.pin x).held = false ∧
      (e.pin x).waiting = false ∧ (bits w.toNat 0 1 = 1 → e.get (F.ALT_CFG_STATE x) = bitNat (d.pow.state == .stuck || e.levelOn x))) ∧
    d.Only { e with alert := d.alert } [F.ALT_CFG_WIDTH x, F.ALT_CFG_HOLD x, F.ALT_CFG_SEVONLY x, F.ALT_CFG_MODE x, F.ALT_CFG_STATE x] := by
  have hfirst : firstByRank ((setsReserved R.ALT_CFG w, .eField) :: (d.changesLocked .bar0 R.ALT_CFG x w, .eLocked) ::
      [(bits w.toNat 16 10 != d.get (F.ALT_CFG_WIDTH x) && (bits w.toNat 16 10 == 0 || decide (1000 < bits w.toNat 16 10)), .eRange)]) =
      Status.done := by
    have hwidth : (bits w.toNat 16 10 == 0 || decide (1000 < bits w.toNat 16 10)) = false := by simp [h0, h1000]
    rw [firstByRank_own hres rfl, hwidth, Bool.and_false]
    rfl
  have he : d.writeAltCfg x w = d.pinWritten (d.writeRow .bar0 R.ALT_CFG x w) x w := by
    unfold Dev.writeAltCfg
    rw [Dev.regWrite_done hup hfirst]
    rfl
  have honly := d.only_writeAltCfg x w
  obtain ⟨hwidth, hhold, hsev, hmode⟩ := d.writeAltCfg_gets x w
  have hstate : (d.writeRow .bar0 R.ALT_CFG x w).get (F.ALT_CFG_STATE x) = d.get (F.ALT_CFG_STATE x) := honly.2 _ (by
    simp only [altCfgFlds, List.mem_cons, List.not_mem_nil, or_false, forall_eq_or_imp, forall_eq, fldId, F.ALT_CFG_STATE, F.ALT_CFG_WIDTH,
      F.ALT_CFG_HOLD, F.ALT_CFG_SEVONLY, F.ALT_CFG_MODE]
    omega)
  rw [he]
  have hkeep := d.only_pinWritten (d.writeRow .bar0 R.ALT_CFG x w) x w
  generalize d.writeRow .bar0 R.ALT_CFG x w = n at *
  have halert : n.alert = d.alert := by rw [honly.1]
  have hpin : n.pin x = d.pin x := by rw [Dev.pin, halert]; rfl
  have hpow : n.pow = d.pow := by rw [honly.1]
  have hget {g : Fld} (hg : fldId (F.ALT_CFG_STATE x) ≠ fldId g) : (d.pinWritten n x w).get g = n.get g := hkeep.2 g (by simpa using hg)
  have hbit (i : Nat) : bits w.toNat i 1 = bitNat (bitOf w.toNat i) := bits_one_eq _ _
  refine ⟨(hget ?_).trans hwidth, (hget ?_).trans hhold, (hget ?_).trans hsev, (hget ?_).trans hmode, fun heq hor => ?_,
    fun hm hb hh hheld => ?_, fun hne => ?_, ?_⟩
  any_goals (simp only [fldId, F.ALT_CFG_STATE, F.ALT_CFG_WIDTH, F.ALT_CFG_HOLD, F.ALT_CFG_SEVONLY, F.ALT_CFG_MODE]; omega)
  · have hm : bitOf w.toNat 0 = d.is (F.ALT_CFG_MODE x) := bitNat_inj ((hbit 0).symm.trans heq)
    have hstay : d.pinWritten n x w = n := by
      have hnot : (!bitOf w.toNat 0 && !bitOf w.toNat 2 && (d.pin x).held) = false := by
        simpa only [Bool.and_eq_false_iff, Bool.not_eq_false', or_assoc, hbit, bitNat_eq_one] using hor
      rw [Dev.pinWritten, if_neg (by simp [hm]), if_neg (by simp [hnot])]
    rw [hstay]
    exact ⟨halert, hstate⟩
  · have hb0 : bitOf w.toNat 0 = false := bitNat_eq_zero.mp ((hbit 0).symm.trans hb)
    have hb2 : bitOf w.toNat 2 = false := bitNat_eq_zero.mp ((hbit 2).symm.trans hh)
    have hgo : d.pinWritten n x w = (n.setPin x { n.pin x with held := false, resting := !(n.pin x).pulsing }).showPin x := by
      rw [Dev.pinWritten, hm, hb0, hb2, hheld]
      rfl
    rw [hgo, Dev.showPin_pin, Dev.setPin_pin_same, ← hpin]
    exact ⟨rfl, rfl⟩
  · have hm : bitOf w.toNat 0 ≠ d.is (F.ALT_CFG_MODE x) := fun h => hne ((hbit 0).trans (congrArg bitNat h))
    obtain ⟨hpulse, hheld, hwait, hshow⟩ := Dev.pinWritten_mode (n := n) hm
    refine ⟨hpulse, hheld, hwait, fun hone => ?_⟩
    have hlevel : (d.pinWritten n x w).levelOn x = n.levelOn x := by
      have hurec : (d.pinWritten n x w).urec = n.urec := (congrArg (fun y : Dev => y.urec) hkeep.1 :)
      have hsev' : (d.pinWritten n x w).is (F.ALT_CFG_SEVONLY x) = n.is (F.ALT_CFG_SEVONLY x) := congrArg (· == 1) (hget (by
        simp only [fldId, F.ALT_CFG_STATE, F.ALT_CFG_SEVONLY]; omega))
      rw [Dev.levelOn, Dev.levelOn, hurec, hsev']
    have hon : (n.setPin x {}).is (F.ALT_CFG_MODE x) = true := by
      have hone' : n.get (F.ALT_CFG_MODE x) = 1 := hmode.trans hone
      exact beq_iff_eq.mpr hone'
    have hstuck : ((n.setPin x {}).pow.state == .stuck) = false := by
      have hpow' : (n.setPin x {}).pow = d.pow := hpow
      rw [hpow']
      exact Dev.up_not_stuck hup
    rw [hshow, Dev.showPin_state _ _ hstuck, if_pos hon, hlevel, Dev.up_not_stuck hup, Bool.false_or]
    rfl
  · have heq : ({ d.pinWritten n x w with alert := d.alert } : Dev) = { d with fld := (d.pinWritten n x w).fld } := by
      have h1 : ({ d.pinWritten n x w with alert := d.alert } : Dev) = { n with fld := (d.pinWritten n x w).fld, alert := d.alert } :=
        (congrArg (fun y : Dev => { y with alert := d.alert }) hkeep.1 :)
      rw [h1, honly.1]
    refine ⟨heq, fun g hg => (hget (hg _ (by simp))).trans (honly.2 g fun f hf => hg f ?_)⟩
    simp only [altCfgFlds, List.mem_cons, List.not_mem_nil, or_false] at hf ⊢
    tauto

theorem Dev.writeAltCfg_range {d : Dev} {x : Nat} {w : Word} (hup : d.up = true) (hres : setsReserved R.ALT_CFG w = false)
    (h : bits w.toNat 16 10 = 0 ∨ 1000 < bits w.toNat 16 10) (hne : bits w.toNat 16 10 ≠ d.get (F.ALT_CFG_WIDTH x)) :
    RecordedGlb d (d.writeAltCfg x w) (0x15400 + 4 * x) .eRange := by
  have hfirst : firstByRank ((setsReserved R.ALT_CFG w, .eField) :: (d.changesLocked .bar0 R.ALT_CFG x w, .eLocked) ::
      [(bits w.toNat 16 10 != d.get (F.ALT_CFG_WIDTH x) && (bits w.toNat 16 10 == 0 || decide (1000 < bits w.toNat 16 10)), .eRange)]) =
      Status.eRange := by
    have hbad : (bits w.toNat 16 10 != d.get (F.ALT_CFG_WIDTH x) && (bits w.toNat 16 10 == 0 || decide (1000 < bits w.toNat 16 10))) = true := by
      simpa using ⟨hne, h⟩
    rw [firstByRank_own hres rfl, hbad]
    rfl
  unfold Dev.writeAltCfg
  exact recordedGlb_of_rejected hup (by decide) hfirst

/-- The alert pins. -/
theorem alertPinsRule : AlertPinsRule := by
  intro s x hup
  refine ⟨fun h => Ends.of_act hup ?_, fun hm hp => Ends.of_act hup (Dev.pulseEnd_is _ hup hm hp), fun h => Ends.of_act hup ?_,
    fun h => Ends.of_act hup (Dev.deassertEnd_is _ hup h), fun w hres => ⟨fun h hne => Ends.of_act hup (Dev.writeAltCfg_range hup hres h hne),
      fun h0 h1000 => Ends.of_act hup (Dev.writeAltCfg_done hup hres h0 h1000)⟩⟩
  · have hnot : (s.dev.is (F.ALT_CFG_MODE x.val) || !(s.dev.pin x.val).pulsing) = true := by simpa using h
    rw [Dev.pulseEnd, hnot]
    rfl
  · rw [Dev.deassertEnd, h]
    rfl

/-- Settles O55: the commands on units, their records and the alert pins. -/
theorem faultCommandsAndPins : Obligations.FaultCommandsAndPins := ⟨faultCommandsRule, alertPinsRule⟩

end Sys2Proof.Machine

/-!
SUPPORT. The steward watchdog and its reset (chapter 18).
-/
namespace Sys2Proof.Machine

open Sys2Proof

/-! ### The fields that a queue's events leave -/

/-- A field that putting items in queue `q` does not touch. -/
def QueFld (q : Nat) (g : Fld) : Prop :=
  ∀ f ∈ [F.QUE_W2_LOST q, F.QUE_W1_LOSTSAT q, F.LAR_LEAK_COUNT, F.ECC_INJ_COUNT, F.ECC_INJ_ARM], fldId f ≠ fldId g

theorem queFld_of_ids {q : Nat} {g : Fld} (h : ∀ f ∈ [F.QUE_W2_LOST q, F.QUE_W1_LOSTSAT q, F.LAR_LEAK_COUNT, F.ECC_INJ_COUNT, F.ECC_INJ_ARM],
    fldId f ≠ fldId g) : QueFld q g := h

section

variable {q : Nat} {g : Fld} (hg : QueFld q g)

include hg

theorem Dev.injUse_get (d : Dev) (k : Nat) : (d.injUse k).get g = d.get g := by
  have hcount : fldId F.ECC_INJ_COUNT ≠ fldId g := hg _ (by simp)
  have harm : fldId F.ECC_INJ_ARM ≠ fldId g := hg _ (by simp)
  unfold Dev.injUse
  simp only
  split_ifs
  · rfl
  · rw [Dev.get_set_ne _ _ harm, Dev.get_set_ne _ _ hcount]
  · rw [Dev.get_set_ne _ _ hcount]

theorem Dev.linkWrite_get (d : Dev) (c : Nat) : (d.linkWrite c).get g = d.get g := by
  unfold Dev.linkWrite
  simp only
  split_ifs <;> exact Dev.injUse_get hg d _

theorem Dev.giveCells_get (d : Dev) (l : List Nat) : (d.giveCells l).get g = d.get g := by
  induction l generalizing d with
  | nil => rfl
  | cons c l ih => exact (ih _).trans (Dev.linkWrite_get hg _ c)

theorem Dev.leakBank_get (d : Dev) (b : Nat) : (d.leakBank b).get g = d.get g := Dev.get_set_ne _ _ (hg _ (by simp))

theorem Dev.takeCell_get {d : Dev} {n c : Nat} {e : Dev} (h : d.takeCell n = some (c, e)) : e.get g = d.get g := by
  induction n generalizing d with
  | zero => simp [Dev.takeCell] at h
  | succ n ih =>
    simp only [Dev.takeCell] at h
    split_ifs at h
    split at h
    · cases h
    · split at h
      · obtain ⟨-, rfl⟩ := Prod.mk.inj (Option.some.inj h)
        exact Dev.linkWrite_get hg _ _
      · obtain ⟨-, rfl⟩ := Prod.mk.inj (Option.some.inj h)
        exact Dev.linkWrite_get hg _ _
      · exact (ih h).trans (Dev.leakBank_get hg d _)

theorem Dev.takeCells_get {d : Dev} {k : Nat} {l : List Nat} {e : Dev} (h : d.takeCells k = some (l, e)) : e.get g = d.get g := by
  induction k generalizing d l e with
  | zero =>
    obtain ⟨-, rfl⟩ := Prod.mk.inj (Option.some.inj h)
    rfl
  | succ k ih =>
    simp only [Dev.takeCells] at h
    split at h
    · cases h
    · rename_i c d' hc
      split at h
      · cases h
      · rename_i l' d'' hl
        obtain ⟨-, rfl⟩ := Prod.mk.inj (Option.some.inj h)
        exact (ih hl).trans (Dev.takeCell_get hg hc)

theorem Dev.storeCells_get (d : Dev) (l : List Nat) (len : Nat) : (d.storeCells l len).1.get g = d.get g := by
  induction l generalizing d len with
  | nil => rfl
  | cons c l ih => exact (ih _ _).trans (Dev.injUse_get hg d _)

theorem Dev.countLost_get (d : Dev) (n : Nat) : (d.countLost q n).get g = d.get g := by
  have hlost : fldId (F.QUE_W2_LOST q) ≠ fldId g := hg _ (by simp)
  have hsat : fldId (F.QUE_W1_LOSTSAT q) ≠ fldId g := hg _ (by simp)
  unfold Dev.countLost Dev.countLostAs
  simp only
  split_ifs
  · rfl
  · exact Dev.get_set_ne _ _ hlost
  · exact (Dev.get_set_ne _ _ hsat).trans (Dev.get_set_ne _ _ hlost)
  · exact Dev.get_set_ne _ _ hlost
  · exact (Dev.get_set_ne _ _ hsat).trans (Dev.get_set_ne _ _ hlost)

theorem Dev.removeItem_get (d : Dev) (j : Nat) : (d.removeItem q j).get g = d.get g := by
  unfold Dev.removeItem
  split
  · rfl
  · simp only
    split_ifs <;> exact Dev.giveCells_get hg _ _

theorem Dev.makeRoom_get {d : Dev} {k prio n : Nat} {e : Dev} {m : Nat} (h : d.makeRoom q k prio n = some (e, m)) : e.get g = d.get g := by
  induction n generalizing d e m with
  | zero =>
    simp only [Dev.makeRoom] at h
    split_ifs at h
    obtain ⟨rfl, -⟩ := Prod.mk.inj (Option.some.inj h)
    rfl
  | succ n ih =>
    simp only [Dev.makeRoom] at h
    split_ifs at h
    · obtain ⟨rfl, -⟩ := Prod.mk.inj (Option.some.inj h)
      rfl
    · split at h
      · cases h
      · split at h
        · cases h
        · rename_i d' m' hm
          obtain ⟨rfl, -⟩ := Prod.mk.inj (Option.some.inj h)
          exact (ih hm).trans (Dev.removeItem_get hg d _)

theorem Dev.putItem_get {d : Dev} {k : Nat} {data : List Byte} {prio stamp : Nat} {bad : Nat → Bool} {e : Dev}
    (h : d.putItem q k data prio stamp bad = some e) : e.get g = d.get g := by
  unfold Dev.putItem at h
  split at h
  · cases h
  · rename_i cs d2 ht
    obtain rfl := Option.some.inj h
    exact (Dev.storeCells_get hg _ _ _).trans (Dev.takeCells_get hg ht)

theorem Dev.enqueueN_get (data : List Byte) (prio stamp : Nat) (bad : Nat → Bool) (f : Nat) (d : Dev) (m : Nat) :
    (Dev.enqueueN q data prio stamp bad f d m).1.get g = d.get g := by
  induction f generalizing d m with
  | zero => exact Dev.countLost_get hg d (m + 1)
  | succ f ih =>
    simp only [Dev.enqueueN]
    split
    · exact Dev.countLost_get hg d (m + 1)
    · rename_i d1 n hm
      have h1 := Dev.makeRoom_get hg hm
      split
      · exact (ih _ _).trans ((Dev.leakBank_get hg d1 _).trans h1)
      · split
        · exact (Dev.countLost_get hg d1 (m + n + 1)).trans h1
        · rename_i d2 hp
          exact (Dev.countLost_get hg d2 (m + n)).trans ((Dev.putItem_get hg hp).trans h1)

theorem Dev.notify_get (d : Dev) (code inst arg count : Nat) : (d.notify q code inst arg count).get g = d.get g := by
  unfold Dev.notify
  split_ifs
  · rfl
  · rfl
  · exact Dev.enqueueN_get hg _ _ _ _ _ _ _

end

/-- An event leaves the fields apart from its interrupt bit and the counts of the event queues it goes to. -/
theorem Dev.raise_get_ne (d : Dev) {int g : Fld} {ts : List Nat} (code inst arg count : Nat) (hint : fldId int ≠ fldId g) (hts : ∀ t ∈ ts, QueFld t g) :
    (d.raise int code ts inst arg count).get g = d.get g := by
  have hall (x : Dev) : (x.notifyAll ts code inst arg count).get g = x.get g := by
    induction ts generalizing x with
    | nil => rfl
    | cons t l ih => exact (ih (fun u hu => hts u (List.mem_cons_of_mem _ hu)) _).trans (Dev.notify_get (hts t (List.mem_cons_self ..)) x _ _ _ _)
  exact (hall _).trans (d.get_set_ne _ hint)

/-! ### What faults and the charger's stop leave -/

/-- From `d` to `e` the guarded memories, the pack and the fields listed have not changed. -/
def Dev.Leaves (gs : List Fld) (d e : Dev) : Prop := e.ecc = d.ecc ∧ e.pack = d.pack ∧ ∀ g ∈ gs, e.get g = d.get g

theorem Dev.Leaves.refl (gs : List Fld) (d : Dev) : Dev.Leaves gs d d := ⟨rfl, rfl, fun _ _ => rfl⟩

theorem Dev.Leaves.trans {gs : List Fld} {d e x : Dev} (h : Dev.Leaves gs d e) (k : Dev.Leaves gs e x) : Dev.Leaves gs d x := by
  obtain ⟨hecc, hpack, hget⟩ := h
  obtain ⟨kecc, kpack, kget⟩ := k
  exact ⟨kecc.trans hecc, kpack.trans hpack, fun g hg => (kget g hg).trans (hget g hg)⟩

/-- Fields apart from those listed. -/
def Apart (fs gs : List Fld) : Prop := ∀ g ∈ gs, PlainFld g ∧ ∀ f ∈ fs, fldId f ≠ fldId g

theorem Dev.Heard.leaves {gs fs : List Fld} {d e : Dev} (h : d.Heard e fs) (hgs : Apart fs gs) : Dev.Leaves gs d e := by
  refine ⟨(congrArg (fun y : Dev => y.ecc) h.1 :), (congrArg (fun y : Dev => y.pack) h.1 :), fun g hg => ?_⟩
  obtain ⟨hp, hne⟩ := hgs g hg
  exact h.2 g hp hne

theorem Dev.Only.leaves {gs fs : List Fld} {d e : Dev} (h : d.Only e fs) (hgs : Apart fs gs) : Dev.Leaves gs d e := h.heard.leaves hgs

section Faults

variable {gs : List Fld}

theorem Dev.leaves_setRec (d : Dev) (u : Nat) (r : URec) : Dev.Leaves gs d (d.setRec u r) := ⟨rfl, rfl, fun _ _ => rfl⟩

theorem Dev.leaves_recordFault (d : Dev) (u i : Nat) : Dev.Leaves gs d (d.recordFault u i) := d.leaves_setRec u _

theorem Dev.leaves_fltEvent (d : Dev) (n u src : Nat) (hgs : Apart [bitFld 0x15004 n] gs) : Dev.Leaves gs d (d.fltEvent n u src) :=
  (d.heard_raise _ _ _ _ _ _).leaves hgs

/-- The fields that every fault event may change. -/
def faultFlds (u : Nat) : List Fld :=
  [F.ALT_CFG_STATE 0, F.ALT_CFG_STATE 1, bitFld 0x15004 0, bitFld 0x15004 2, bitFld 0x15004 3, F.FLT_FENCED_FENCED (u / 32)]

theorem Apart.mono {fs gs hs : List Fld} (h : Apart fs gs) (hs' : hs ⊆ fs) : Apart hs gs := fun g hg =>
  ⟨(h g hg).1, fun f hf => (h g hg).2 f (hs' hf)⟩

variable {u : Nat} (hgs : Apart (faultFlds u) gs)

include hgs

theorem Dev.leaves_alerts (d : Dev) (i : Nat) (severe : Bool) : Dev.Leaves gs d (d.alerts i severe) := by
  obtain ⟨heq, hget⟩ := d.alerts_alerted i severe
  refine ⟨(congrArg (fun y : Dev => y.ecc) heq :), (congrArg (fun y : Dev => y.pack) heq :), fun g hg => hget g fun f hf => (hgs g hg).2 f ?_⟩
  exact (show [F.ALT_CFG_STATE 0, F.ALT_CFG_STATE 1] ⊆ faultFlds u by simp [faultFlds]) hf

/-- A fence leaves what its effect on the unit leaves. -/
theorem Dev.leaves_fence (d : Dev) (i : Nat) (hfence : ∀ x : Dev, x.pack = d.pack → Dev.Leaves gs x (fenceEffect u x)) :
    Dev.Leaves gs d (d.fence u i) := by
  unfold Dev.fence
  split
  · exact Dev.Leaves.refl gs d
  · rename_i k hk
    simp only
    by_cases hf : (d.urecOf u).fenced = true
    · rw [if_pos hf]
      exact Dev.Leaves.refl gs d
    rw [if_neg hf]
    obtain ⟨x, hx⟩ : ∃ x, x = (d.setRec u { d.urecOf u with
        fenced := true
        sticky := decide (d.get (F.FLT_FALLOW_LIMIT k) ≠ 0) && decide (d.get (F.FLT_FALLOW_LIMIT k) ≤ (d.urecOf u).fcnt)
        wins := []
        remain := if decide (d.get (F.FLT_FALLOW_LIMIT k) ≠ 0) && decide (d.get (F.FLT_FALLOW_LIMIT k) ≤ (d.urecOf u).fcnt) then 0
          else d.fallowPeriod k }).setBit (F.FLT_FENCED_FENCED (u / 32)) (u % 32) true := ⟨_, rfl⟩
    have hbit : Dev.Leaves gs d x := by
      rw [hx]
      exact (d.leaves_setRec u _).trans ((Dev.only_setBit _ _ _ _).leaves (hgs.mono (by simp [faultFlds])))
    obtain ⟨n, hn, hn02⟩ : ∃ n, n = (if decide (d.get (F.FLT_FALLOW_LIMIT k) ≠ 0) && decide (d.get (F.FLT_FALLOW_LIMIT k) ≤ (d.urecOf u).fcnt)
      then 2 else 0) ∧ (n = 0 ∨ n = 2) := ⟨_, rfl, by split_ifs <;> simp⟩
    have hev : Dev.Leaves gs d (x.fltEvent n u i) := by
      refine hbit.trans (x.leaves_fltEvent n u i (hgs.mono ?_))
      rcases hn02 with rfl | rfl <;> simp [faultFlds]
    rw [← hx, ← hn]
    exact hev.trans (hfence _ hev.2.1)

theorem Dev.leaves_fault (d : Dev) {i : Nat} (hu : u ≠ 0x246) (hfence : ∀ x : Dev, x.pack = d.pack → Dev.Leaves gs x (fenceEffect u x)) :
    Dev.Leaves gs d (d.fault u i) := by
  by_cases hc : d.get (F.FLT_SRC_CLASS i) = 0
  · rw [Dev.fault, if_pos hc]
    exact Dev.Leaves.refl gs d
  have hrec := d.leaves_recordFault (gs := gs) u i
  have hsev : Dev.Leaves gs d ((d.recordFault u i).severe u i none) := by
    have hrec' := hrec
    by_cases h : (d.recordFault u i).get (F.FLT_SRC_CLASS i) ≠ 2 ∨ (d.recordFault u i).mayFence u = false
    · rw [Dev.severe_alone hu h]
      generalize d.recordFault u i = x at hrec'
      exact (hrec'.trans (x.leaves_setRec u _)).trans (Dev.leaves_fltEvent _ 3 u i (hgs.mono (by simp [faultFlds])))
    · obtain ⟨hclass, hmay⟩ := not_or.mp h
      rw [Dev.severe_fence hu (not_not.mp hclass) (by simpa using hmay)]
      have hset := hrec.trans ((d.recordFault u i).leaves_setRec u
        { (d.recordFault u i).urecOf u with sev := true, wins := mapErase ((d.recordFault u i).urecOf u).wins i })
      exact hset.trans (Dev.leaves_fence hgs _ i fun x hx => hfence x (hx.trans hset.2.1))
  rw [Dev.fault_eq hu hc]
  by_cases hf : (d.urecOf u).fenced = true
  · rw [if_pos hf]
    exact (hrec.trans (Dev.leaves_setRec _ u _)).trans (Dev.leaves_alerts hgs _ i false)
  rw [if_neg hf]
  by_cases hn : d.get (F.FLT_SRC_N i) ≤ mapGet 0 (d.urecOf u).wins i + 1
  · rw [if_pos hn]
    exact hsev.trans (Dev.leaves_alerts hgs _ i true)
  · rw [if_neg hn]
    exact (hrec.trans (Dev.leaves_setRec _ u _)).trans (Dev.leaves_alerts hgs _ i false)

end Faults

/-! ### The charger stops (R136) -/

/-- The fields that outlive a watchdog reset, and that of the mirror record. -/
def warmFlds : List Fld :=
  [F.STW_CTRL_LOCK, F.STW_BOOT_WARMCNT, F.STW_WDT_EN, F.STW_WDT_WARN, F.STW_WDT_PERIOD, F.YOK_MTXCMD_BUSY]

theorem warmFlds_plain : ∀ g ∈ warmFlds, PlainFld g := fun g hg =>
  plainFld_of_fldId (by revert g; decide) (by revert g; decide) (by revert g; decide)

theorem apart_warm {fs : List Fld} (h : ∀ g ∈ warmFlds, ∀ f ∈ fs, fldId f ≠ fldId g) : Apart fs warmFlds := fun g hg =>
  ⟨warmFlds_plain g hg, h g hg⟩

theorem Dev.leaves_modPort (d : Dev) (p : Nat) (f : PdPort → PdPort) : Dev.Leaves warmFlds d (d.modPort p f) := ⟨rfl, rfl, fun _ _ => rfl⟩

theorem Dev.leaves_pdEvent (d : Dev) {bit : Nat} (arg : Nat) (hbit : bit < 32) : Dev.Leaves warmFlds d (d.pdEvent 0 bit arg) :=
  (d.heard_raise _ _ _ _ _ _).leaves (apart_warm (by revert bit; decide))

theorem Dev.leaves_txFlush (d : Dev) (st : Status) : Dev.Leaves warmFlds d (d.txFlush 0 st) := by
  unfold Dev.txFlush
  split_ifs
  · have hset := ((d.only_set (F.PD_TXCMD_BUSY 0) 0).trans (Dev.only_set _ (F.PD_TXCMD_STATUS 0) (statusCode st))).leaves (apart_warm (by decide))
    exact hset.trans (Dev.leaves_modPort _ 0 _)
  · exact Dev.Leaves.refl _ d

theorem Dev.leaves_leaveMode (d : Dev) : Dev.Leaves warmFlds d (d.leaveMode 0) := by
  unfold Dev.leaveMode
  split_ifs
  · have hlane (x : Dev) : Dev.Leaves warmFlds x (x.laneIdle 0) := by
      unfold Dev.laneIdle
      split_ifs
      · exact Dev.Leaves.refl _ x
      · exact (x.only_set _ _).leaves (apart_warm (by decide))
    exact (((d.only_set _ _).leaves (apart_warm (by decide))).trans (hlane _)).trans (Dev.leaves_pdEvent _ 0 (by decide))
  · exact Dev.Leaves.refl _ d

theorem Dev.leaves_endContract (d : Dev) : Dev.Leaves warmFlds d (d.endContract 0) :=
  ((((d.only_set (F.PD_STAT_CONTRACT 0) 0).trans (Dev.only_set _ (F.PD_STAT_PPS 0) 0)).trans (Dev.only_set _ (F.PD_STAT_EPR 0) 0)).leaves
    (apart_warm (by decide))).trans (Dev.leaves_modPort _ 0 _)

theorem Dev.leaves_selectInput (d : Dev) : Dev.Leaves warmFlds d d.selectInput := by
  obtain ⟨n, q, heq, -⟩ := d.selectInput_is
  refine ⟨by rw [heq]; rfl, by rw [heq]; rfl, fun g hg => d.selectInput_get ?_⟩
  revert g
  decide

theorem Dev.leaves_hardReset (d : Dev) : Dev.Leaves warmFlds d (d.hardReset 0) := by
  have hfirst := ((((d.leaves_txFlush .eFlushed).trans ((Dev.only_set _ (F.PD_RXSTAT_COUNT 0) 0).leaves (apart_warm (by decide)))).trans
    (Dev.leaves_leaveMode _)).trans (Dev.leaves_endContract _))
  unfold Dev.hardReset
  simp only
  generalize (((d.txFlush 0 .eFlushed).set (F.PD_RXSTAT_COUNT 0) 0).leaveMode 0).endContract 0 = x at *
  have hres (y : Dev) (w : Nat) : y.reserve 0 w = y := rfl
  split_ifs
  · rw [hres]
    exact (hfirst.trans (Dev.leaves_modPort _ 0 _)).trans (Dev.leaves_modPort _ 0 _)
  · exact ((hfirst.trans (Dev.leaves_modPort _ 0 _)).trans (Dev.leaves_modPort _ 0 _)).trans (Dev.leaves_selectInput _)

theorem Dev.leaves_upFails (d : Dev) : Dev.Leaves warmFlds d d.upFails := by
  have hsend : Dev.Leaves warmFlds d (d.sendHardReset 0) := by
    unfold Dev.sendHardReset
    split_ifs
    · exact (d.leaves_modPort 0 _).trans (Dev.leaves_hardReset _)
    · exact (show Dev.Leaves warmFlds d (d.emit .pdSignal 0 [1] []) from ⟨rfl, rfl, fun _ _ => rfl⟩).trans (Dev.leaves_hardReset _)
  have howe (x : Dev) (i : Nat) : Dev.Leaves warmFlds x (x.oweFault 0x210 i) := ⟨rfl, rfl, fun _ _ => rfl⟩
  exact (((hsend.trans (Dev.leaves_pdEvent _ 0 (by decide))).trans (howe _ 2)).trans (Dev.leaves_pdEvent _ 0 (by decide))).trans (howe _ 1)

/-- The fields of the charger that the end of a session changes. -/
def sessFlds : List Fld :=
  [F.CHG_SESS0_START, F.CHG_SESS1_CHARGE, F.CHG_SESS2_DURATION, F.CHG_SESS2_CAUSE, F.CHG_SESS2_VALID, F.CHG_STAT_STATE, F.CHG_STAT_SUSP, F.CHG_INT_END]

theorem Dev.setAll_leaves (d : Dev) (cause state : Nat) : Dev.Leaves warmFlds d (d.setAll (d.sessionFields cause state)) :=
  (d.only_setAll (d.sessionFields cause state)).leaves (apart_warm fun g hg f hf => by
    have hf' : f ∈ sessFlds := by
      simp only [Dev.sessionFields, List.map_cons, List.map_nil] at hf
      simp only [sessFlds, List.mem_cons, List.not_mem_nil, or_false] at hf ⊢
      tauto
    exact (by decide : ∀ g ∈ warmFlds, ∀ f ∈ sessFlds, fldId f ≠ fldId g) g hg f hf')

theorem Dev.Leaves.sessionEnded {d z : Dev} (h : Dev.Leaves warmFlds d z) (p : Pack) (i : Nat) : let e := (z.withPack p).setBit F.CHG_INT_END i true
    e.ecc = d.ecc ∧ e.pack = p ∧ ∀ g ∈ warmFlds, e.get g = d.get g := by
  obtain ⟨zecc, -, zget⟩ := h
  obtain ⟨becc, bpack, bget⟩ := ((z.withPack p).only_setBit F.CHG_INT_END i true).leaves (apart_warm (by decide))
  exact ⟨becc.trans zecc, bpack, fun g hg => (bget g hg).trans (zget g hg)⟩

/-- The end of a session changes its own fields and, of the pack, its charge and that it is open. -/
theorem Dev.closeSession_leaves (d : Dev) (cause state : Nat) : (d.closeSession cause state).ecc = d.ecc ∧
    (d.closeSession cause state).pack.dead = d.pack.dead ∧ (d.closeSession cause state).pack.sess = false ∧
    ∀ g ∈ warmFlds, (d.closeSession cause state).get g = d.get g := by
  cases hs : d.pack.sess with
  | false =>
    have he : d.closeSession cause state = d.set F.CHG_STAT_STATE state := by
      rw [Dev.closeSession, hs]
      rfl
    rw [he]
    exact ⟨rfl, rfl, hs, fun g hg => d.get_set_ne _ (by revert g; decide)⟩
  | true =>
    obtain ⟨hecc, hpack, hget⟩ := (Dev.sessionEnded_told hs cause state).heard.leaves (apart_warm (by decide))
    obtain ⟨xecc, xpack, xget⟩ : (d.sessionEnded cause state).ecc = d.ecc ∧
        (d.sessionEnded cause state).pack = { d.pack with sess := false, charge := 0 } ∧
        ∀ g ∈ warmFlds, (d.sessionEnded cause state).get g = d.get g := (d.setAll_leaves cause state).sessionEnded _ _
    exact ⟨hecc.trans xecc, by rw [hpack, xpack], by rw [hpack, xpack], fun g hg => (hget g hg).trans (xget g hg)⟩

/-- A fence of the charger whose session has ended. -/
theorem Dev.leaves_fenceCharger (d : Dev) (hs : d.pack.sess = false) : Dev.Leaves warmFlds d d.fenceCharger := by
  have hfirst : Dev.Leaves warmFlds d (if d.get F.CHG_STAT_STATE = 7 then d.upFails else d) := by
    split_ifs
    · exact d.leaves_upFails
    · exact Dev.Leaves.refl _ d
  unfold Dev.fenceCharger
  simp only
  generalize (if d.get F.CHG_STAT_STATE = 7 then d.upFails else d) = x at *
  have hxs : x.pack.sess = false := by rw [hfirst.2.1]; exact hs
  have he : x.closeSession 6 8 = x.set F.CHG_STAT_STATE 8 := by
    rw [Dev.closeSession, hxs]
    rfl
  rw [he]
  exact (hfirst.trans (((x.only_set _ _).trans (Dev.only_set _ F.CEL_BAL_MASK 0)).leaves (apart_warm (by decide)))).trans (Dev.leaves_selectInput _)

/-- The charger stopped, its watchdog expired: no session is open, and reverse operation has ended (R136). -/
theorem Dev.chgStop_leaves (d : Dev) : d.chgStop.ecc = d.ecc ∧ d.chgStop.pack.dead = true ∧ d.chgStop.pack.sess = false ∧
    ∀ g ∈ warmFlds, d.chgStop.get g = d.get g := by
  obtain ⟨x, hx⟩ : ∃ x : Dev, x = d.modPack fun p => { p with dead := true } := ⟨_, rfl⟩
  obtain ⟨y, hy⟩ : ∃ y : Dev, y = if x.get F.CHG_STAT_STATE = 7 then (x.set F.CHG_STAT_STATE 0).upFails else x := ⟨_, rfl⟩
  have hxy : Dev.Leaves warmFlds x y := by
    rw [hy]
    split_ifs
    · exact ((x.only_set _ _).leaves (apart_warm (by decide))).trans (Dev.leaves_upFails _)
    · exact Dev.Leaves.refl _ x
  obtain ⟨yecc, ypack, yget⟩ := hxy
  have hecc : y.ecc = d.ecc := yecc.trans (by rw [hx]; rfl)
  have hdead : y.pack.dead = true := by rw [ypack, hx]; rfl
  have hget : ∀ g ∈ warmFlds, y.get g = d.get g := fun g hg => (yget g hg).trans (by rw [hx]; rfl)
  have he : d.chgStop = if y.pack.sess then y.closeFault 7 0 9 else y := by rw [hy, hx]; rfl
  rw [he]
  cases hs : y.pack.sess with
  | false => exact ⟨hecc, hdead, hs, hget⟩
  | true =>
    obtain ⟨zecc, zdead, zsess, zget⟩ := y.closeSession_leaves 7 0
    rw [if_pos rfl, Dev.closeFault_open hs]
    have hfault : Dev.Leaves warmFlds (y.closeSession 7 0) ((y.closeSession 7 0).fault 0x218 9) :=
      Dev.leaves_fault (apart_warm (by decide)) _ (by decide) fun x hx => Dev.leaves_fenceCharger x (by rw [hx]; exact zsess)
    obtain ⟨fecc, fpack, fget⟩ := hfault
    exact ⟨fecc.trans (zecc.trans hecc), by rw [fpack, zdead]; exact hdead, by rw [fpack]; exact zsess,
      fun g hg => (fget g hg).trans ((zget g hg).trans (hget g hg))⟩

/-! ### The watchdog reset (R83, R515, R520, Table 03.6) -/

theorem Dev.eccAtWatchdog_is (d : Dev) : d.eccAtWatchdog.ecc.sram = [] ∧ d.eccAtWatchdog.ecc.held = [] ∧
    ∀ g ∈ warmFlds, d.eccAtWatchdog.get g = d.get g := by
  obtain ⟨x, hx⟩ : ∃ x : Dev, x = { d with ecc := { d.ecc with sram := [], held := [] } } := ⟨_, rfl⟩
  have hsram : x.ecc.sram = [] := by rw [hx]
  have hheld : x.ecc.held = [] := by rw [hx]
  have hget (g : Fld) : x.get g = d.get g := by rw [hx]; rfl
  have he : d.eccAtWatchdog = if x.is F.ECC_FILL_BUSY && x.get F.ECC_FILL_MEM == 1 then x.fillEnd .eFlushed else x := by rw [hx]; rfl
  rw [he]
  split_ifs
  · obtain ⟨y, hy⟩ : ∃ y : Dev, y = { x with ecc := { x.ecc with fillAt := 0, fillLeft := 0 } } := ⟨_, rfl⟩
    have hset := (y.only_set F.ECC_FILL_BUSY 0).trans (Dev.only_set _ F.ECC_FILL_STATUS (statusCode .eFlushed))
    obtain ⟨yecc, -, yget⟩ := (hset.heard.trans (Dev.heard_raise _ F.ECC_INT_FILLDONE 0x1505 [0] 0 (statusCode .eFlushed) 0)).leaves
      (apart_warm (by decide))
    have hfill : x.fillEnd .eFlushed = ((y.set F.ECC_FILL_BUSY 0).set F.ECC_FILL_STATUS (statusCode .eFlushed)).raise
      F.ECC_INT_FILLDONE 0x1505 [0] 0 (statusCode .eFlushed) 0 := by rw [hy]; rfl
    rw [hfill]
    refine ⟨by rw [yecc, hy]; exact hsram, by rw [yecc, hy]; exact hheld, fun g hg => (yget g hg).trans ?_⟩
    rw [hy]
    exact hget g
  · exact ⟨hsram, hheld, fun g _ => hget g⟩

theorem Dev.leaves_startJob (gs : List Fld) (d : Dev) (sel : Nat) : Dev.Leaves gs d (d.startJob sel) := by
  unfold Dev.startJob
  split
  · exact Dev.Leaves.refl gs d
  · split_ifs
    · exact Dev.Leaves.refl gs d
    · exact ⟨rfl, rfl, fun _ _ => rfl⟩

theorem Dev.only_showFls (d : Dev) : d.Only d.showFls [F.FLS_STAT_PROGRAMMING, F.FLS_STAT_ERASING, F.FLS_STAT_SUSPENDED] :=
  ((d.only_setB F.FLS_STAT_PROGRAMMING _).trans (Dev.only_setB _ F.FLS_STAT_ERASING _)).trans (Dev.only_setB _ F.FLS_STAT_SUSPENDED _)

theorem Dev.leaves_addJobs (d : Dev) (l : List FlashJob) : Dev.Leaves warmFlds d (d.addJobs l) := by
  have hmod : Dev.Leaves warmFlds d (d.modFls fun x => { x with jobs := x.jobs ++ l }) := ⟨rfl, rfl, fun _ _ => rfl⟩
  exact ((hmod.trans (Dev.leaves_startJob _ _ 0)).trans (Dev.leaves_startJob _ _ 1)).trans ((Dev.only_showFls _).leaves (apart_warm (by decide)))

theorem Dev.leaves_endCommit (d : Dev) (c : Commit) (st : Status) : Dev.Leaves warmFlds d (d.endCommit c st) := by
  have hset : Dev.Leaves warmFlds d (((d.set F.GRN_LASTSEQ_SEQ c.seq).set F.GRN_COMMIT_STATUS (statusCode st)).set F.GRN_STAT_WRITING 0) :=
    (((d.only_set _ _).trans (Dev.only_set _ _ _)).trans (Dev.only_set _ _ _)).leaves (apart_warm (by decide))
  unfold Dev.endCommit
  simp only
  generalize ((d.set F.GRN_LASTSEQ_SEQ c.seq).set F.GRN_COMMIT_STATUS (statusCode st)).set F.GRN_STAT_WRITING 0 = x at *
  have hgrn : Dev.Leaves warmFlds d (x.modGrn fun g => { g with commit := none }) := hset.trans ⟨rfl, rfl, fun _ _ => rfl⟩
  generalize x.modGrn _ = y at hgrn ⊢
  split_ifs
  · exact (hgrn.trans ((Dev.only_set _ _ _).leaves (apart_warm (by decide)))).trans (Dev.leaves_addJobs _ _)
  · exact hgrn

theorem Dev.leaves_abortCommit (d : Dev) (c : Commit) (st : Status) : Dev.Leaves warmFlds d (d.abortCommit c st) := by
  obtain ⟨x, hx⟩ : ∃ x, x = d.modFls fun x => { x with jobs := x.jobs.filter fun j => j.who != 1 || j.started } := ⟨_, rfl⟩
  have hmod : Dev.Leaves warmFlds d x := by rw [hx]; exact ⟨rfl, rfl, fun _ _ => rfl⟩
  have howe (y : Dev) : Dev.Leaves warmFlds y (y.oweFault 0x228 46) := ⟨rfl, rfl, fun _ _ => rfl⟩
  unfold Dev.abortCommit Dev.grnAbort
  rw [← hx]
  exact ((hmod.trans (x.leaves_endCommit c st)).trans ((Dev.heard_raise _ _ _ _ _ _ _).leaves (apart_warm (by decide)))).trans (howe _)

theorem Dev.leaves_commitAtWatchdog (d : Dev) : Dev.Leaves warmFlds d d.commitAtWatchdog := by
  have hset : Dev.Leaves warmFlds d (d.set F.GRN_STAT_PENDING 0) := (d.only_set _ _).leaves (apart_warm (by decide))
  unfold Dev.commitAtWatchdog
  simp only
  generalize d.set F.GRN_STAT_PENDING 0 = x at *
  split
  · exact hset
  · split_ifs
    · exact hset.trans (x.leaves_abortCommit _ _)
    · exact hset

/-- A mirror record in progress ends, and leaves what it does not concern. -/
theorem Dev.endMtx_is (d : Dev) (st : Status) : (d.endMtx st).is F.YOK_MTXCMD_BUSY = false ∧ (d.endMtx st).ecc = d.ecc ∧
    ∀ g ∈ warmFlds, g ≠ F.YOK_MTXCMD_BUSY → (d.endMtx st).get g = d.get g := by
  unfold Dev.endMtx
  split_ifs with h
  · have hset : d.Only ((d.set F.YOK_MTXCMD_BUSY 0).set F.YOK_MTXCMD_STATUS (statusCode st)) [F.YOK_MTXCMD_BUSY, F.YOK_MTXCMD_STATUS] :=
      (d.only_set _ _).trans (Dev.only_set _ _ _)
    have hbusy : ((d.set F.YOK_MTXCMD_BUSY 0).set F.YOK_MTXCMD_STATUS (statusCode st)).get F.YOK_MTXCMD_BUSY = 0 :=
      (Dev.get_set_ne _ _ (by decide)).trans (Dev.get_set_same _ _ _)
    have hecc : ((d.set F.YOK_MTXCMD_BUSY 0).set F.YOK_MTXCMD_STATUS (statusCode st)).ecc = d.ecc := rfl
    generalize (d.set F.YOK_MTXCMD_BUSY 0).set F.YOK_MTXCMD_STATUS (statusCode st) = x at *
    refine ⟨beq_eq_false_iff_ne.mpr (by rw [Dev.modYok_get, hbusy]; decide), hecc, fun g hg hne => hset.2 g ?_⟩
    revert g
    decide
  · exact ⟨by simpa using h, rfl, fun _ _ _ => rfl⟩

/-- The STW fields that keep their values (Table 03.6). -/
def keptStw : List Fld := [F.STW_CTRL_LOCK, F.STW_BOOT_WARMCNT, F.STW_WDT_EN, F.STW_WDT_WARN, F.STW_WDT_PERIOD]

/-- What the watchdog reset ends, before it restores the STW registers. -/
def Dev.wdogEnds (d : Dev) : Dev :=
  let d1 := (((d.set F.SUP_RSTCAUSE_WDOG 1).eccAtWatchdog).commitAtWatchdog).endMtx .eFlushed
  { d1.chgStop with pow := { d1.chgStop.pow with s3Lost := d1.chgStop.pow.s3Lost || d.get F.SUP_STAT_STAGE == 3 } }

theorem Dev.wdogEnds_is (d : Dev) : d.wdogEnds.ecc.sram = [] ∧ d.wdogEnds.ecc.held = [] ∧ (∀ g ∈ keptStw, d.wdogEnds.get g = d.get g) ∧
    d.wdogEnds.is F.YOK_MTXCMD_BUSY = false ∧ d.wdogEnds.pack.dead = true ∧ d.wdogEnds.pack.sess = false ∧
    (d.get F.SUP_STAT_STAGE = 3 → d.wdogEnds.pow.s3Lost = true) := by
  have hwarm : ∀ g ∈ keptStw, g ∈ warmFlds ∧ g ≠ F.YOK_MTXCMD_BUSY := by decide
  have hfirst : ∀ g ∈ warmFlds, (d.set F.SUP_RSTCAUSE_WDOG 1).get g = d.get g := fun g hg => d.get_set_ne _ (by revert g; decide)
  obtain ⟨hsram, hheld, hget⟩ := (d.set F.SUP_RSTCAUSE_WDOG 1).eccAtWatchdog_is
  generalize hx : (d.set F.SUP_RSTCAUSE_WDOG 1).eccAtWatchdog = x at *
  obtain ⟨yecc, -, yget⟩ := x.leaves_commitAtWatchdog
  generalize hy : x.commitAtWatchdog = y at *
  obtain ⟨zbusy, zecc, zget⟩ := y.endMtx_is .eFlushed
  generalize hz : y.endMtx .eFlushed = z at *
  obtain ⟨wecc, wdead, wsess, wget⟩ := z.chgStop_leaves
  have he : d.wdogEnds = { z.chgStop with pow := { z.chgStop.pow with s3Lost := z.chgStop.pow.s3Lost || d.get F.SUP_STAT_STAGE == 3 } } := by
    rw [← hz, ← hy, ← hx]
    rfl
  rw [he]
  generalize z.chgStop = w at *
  have hecc : w.ecc = x.ecc := wecc.trans (zecc.trans yecc)
  refine ⟨by rw [hecc]; exact hsram, by rw [hecc]; exact hheld, fun g hg => ?_, ?_, wdead, wsess, fun hst => ?_⟩
  · obtain ⟨hin, hne⟩ := hwarm g hg
    exact (wget g hin).trans ((zget g hin hne).trans ((yget g hin).trans ((hget g hin).trans (hfirst g hin))))
  · exact (congrArg (· == 1) (wget _ (by decide))).trans zbusy
  · simp [hst]

/-- The STW registers restored, but those that keep their values. -/
def Dev.stwRestored (d : Dev) : Dev :=
  (d.resetRange 0x16000 0x17000).setAll (keptStw.map fun f => (f, d.get f))

theorem Dev.keptStw_words (d : Dev) : (keptStw.map fun f => (f, d.get f)).map Prod.fst = keptStw := rfl

theorem Dev.stwRestored_kept (d : Dev) {g : Fld} (hg : g ∈ keptStw) : d.stwRestored.get g = d.get g % 2 ^ g.w :=
  Dev.setAll_get _ (by rw [d.keptStw_words]; decide) (List.mem_map_of_mem hg)

/-- A register of the steward that keeps no value is restored. -/
theorem Dev.stwRestored_reset (d : Dev) {g : Fld} (hkept : ∀ f ∈ keptStw, fldId f ≠ fldId g) (hlo : 32 * 0x16000 ≤ fldId g)
    (hhi : fldId g < 32 * 0x17000) : d.stwRestored.get g = g.rst := by
  have hset := (d.resetRange 0x16000 0x17000).only_setAll (keptStw.map fun f => (f, d.get f))
  rw [d.keptStw_words] at hset
  rw [Dev.stwRestored, hset.2 g hkept, Dev.resetRange_get, if_neg (by omega)]

/-- A register of another block stays. -/
theorem Dev.stwRestored_other (d : Dev) {g : Fld} (hlow : fldId g < 32 * 0x16000) : d.stwRestored.get g = d.get g := by
  have hset := (d.resetRange 0x16000 0x17000).only_setAll (keptStw.map fun f => (f, d.get f))
  rw [d.keptStw_words] at hset
  have hkept : ∀ f ∈ keptStw, 32 * 0x16000 ≤ fldId f := by decide
  rw [Dev.stwRestored, hset.2 g (fun f hf => by have := hkept f hf; omega), Dev.resetRange_get, if_pos (.inl hlow)]

/-- The reset of the core, before a pending command is answered. -/
def Dev.coreReset (d : Dev) : Dev := ((d.stwRestored.modStw fun x => { rom := .warm, lastWarm := x.lastWarm }).modFls fun x => { x with reads := [] }).kick

theorem Dev.watchdogReset_eq (d : Dev) : d.watchdogReset = if d.is F.STW_MBCMD_BUSY then
    (d.wdogEnds.coreReset.set F.STW_MBCMD_STATUS (statusCode .eFlushed)).raise F.STW_INT_MBREPLY 0x1802 [0] 0 0 0 else d.wdogEnds.coreReset := by
  unfold Dev.watchdogReset Dev.coreReset Dev.stwRestored Dev.wdogEnds Dev.setAll
  simp only [List.foldl_map, keptStw]

theorem Dev.kick_get (d : Dev) {g : Fld} (h : fldId F.STW_WDTLEFT_MS ≠ fldId g) : d.kick.get g = d.get g := d.get_set_ne _ h

theorem Dev.kick_left (d : Dev) : d.kick.get F.STW_WDTLEFT_MS = d.get F.STW_WDT_PERIOD % 65536 := Dev.get_set_same _ _ _

theorem Dev.coreReset_get (d : Dev) {g : Fld} (h : fldId F.STW_WDTLEFT_MS ≠ fldId g) : d.coreReset.get g = d.stwRestored.get g := by
  rw [Dev.coreReset, Dev.kick_get _ h, Dev.modFls_get, Dev.modStw_get]

theorem Dev.coreReset_left (d : Dev) : d.coreReset.get F.STW_WDTLEFT_MS = d.get F.STW_WDT_PERIOD % 65536 := by
  rw [Dev.coreReset, Dev.kick_left, Dev.modFls_get, Dev.modStw_get, d.stwRestored_kept (g := F.STW_WDT_PERIOD) (by decide)]
  exact Nat.mod_mod _ _

theorem Dev.coreReset_frame (d : Dev) : d.coreReset.ecc = d.ecc ∧ d.coreReset.pack = d.pack ∧ d.coreReset.pow = d.pow ∧
    d.coreReset.fls.reads = [] ∧ d.coreReset.stw.rom = .warm ∧ d.coreReset.stw.icache = [] ∧ d.coreReset.stw.claimed = [] ∧
    d.coreReset.stw.latch = 0 := by
  have h := ((d.resetRange 0x16000 0x17000).only_setAll (keptStw.map fun f => (f, d.get f))).1
  unfold Dev.coreReset Dev.stwRestored
  generalize (d.resetRange 0x16000 0x17000).setAll (keptStw.map fun f => (f, d.get f)) = x at *
  exact ⟨(congrArg (fun y : Dev => y.ecc) h :), (congrArg (fun y : Dev => y.pack) h :), (congrArg (fun y : Dev => y.pow) h :), rfl, rfl, rfl, rfl, rfl⟩

/-- What every watchdog reset leaves, whether or not a command was pending. -/
theorem Dev.watchdogReset_get (d : Dev) {g : Fld} (hg : fldId F.STW_MBCMD_STATUS ≠ fldId g ∧ fldId F.STW_INT_MBREPLY ≠ fldId g) (hq : QueFld 0 g) :
    d.watchdogReset.get g = d.wdogEnds.coreReset.get g := by
  rw [Dev.watchdogReset_eq]
  split_ifs
  · exact (Dev.raise_get_ne _ _ _ _ _ hg.2 (by simpa using hq)).trans (Dev.get_set_ne _ _ hg.1)
  · rfl

theorem Dev.watchdogReset_frame (d : Dev) : d.watchdogReset.ecc = d.wdogEnds.ecc ∧ d.watchdogReset.pack = d.wdogEnds.pack ∧
    d.watchdogReset.pow = d.wdogEnds.pow ∧ d.watchdogReset.fls.reads = [] ∧ d.watchdogReset.stw.rom = .warm ∧
    d.watchdogReset.stw.icache = [] ∧ d.watchdogReset.stw.claimed = [] ∧ d.watchdogReset.stw.latch = 0 := by
  have hcore := d.wdogEnds.coreReset_frame
  rw [Dev.watchdogReset_eq]
  generalize d.wdogEnds.coreReset = x at *
  split_ifs
  · have h := ((x.only_set F.STW_MBCMD_STATUS (statusCode .eFlushed)).heard.trans (Dev.heard_raise _ F.STW_INT_MBREPLY 0x1802 [0] 0 0 0)).1
    generalize (x.set F.STW_MBCMD_STATUS (statusCode .eFlushed)).raise F.STW_INT_MBREPLY 0x1802 [0] 0 0 0 = y at *
    rw [h]
    exact hcore
  · exact hcore

/-- What a watchdog reset leaves of each part (R83, R136, R506, R515, R520). -/
theorem Dev.watchdogReset_is (d : Dev) : let e := d.watchdogReset
    e.stw.rom = .warm ∧ e.stw.icache = [] ∧ e.stw.claimed = [] ∧ e.stw.latch = 0 ∧ e.ecc.sram = [] ∧ e.ecc.held = [] ∧ e.fls.reads = [] ∧
    e.get F.STW_CTRL_LOCK = d.get F.STW_CTRL_LOCK % 2 ∧ e.get F.STW_WDT_EN = d.get F.STW_WDT_EN % 2 ∧ e.get F.STW_WDT_PERIOD = d.get F.STW_WDT_PERIOD % 65536 ∧
    e.get F.STW_WDTLEFT_MS = d.get F.STW_WDT_PERIOD % 65536 ∧ e.get F.STW_BOOT_WARMCNT = d.get F.STW_BOOT_WARMCNT % 256 ∧
    e.get F.STW_MBCMD_BUSY = 0 ∧ e.get F.STW_MBMSG_BUSY = 0 ∧ e.is F.YOK_MTXCMD_BUSY = false ∧
    (d.is F.STW_MBCMD_BUSY = true → e.get F.STW_MBCMD_STATUS = statusCode .eFlushed ∧ e.get F.STW_INT_MBREPLY = 1) ∧
    (d.is F.STW_MBCMD_BUSY = false → e.get F.STW_INT_MBREPLY = 0) ∧
    e.pack.dead = true ∧ e.pack.sess = false ∧ (d.get F.SUP_STAT_STAGE = 3 → e.pow.s3Lost = true) := by
  obtain ⟨hsram, hheld, hkept, hmtx, hdead, hsess, hstage⟩ := d.wdogEnds_is
  obtain ⟨hecc, hpack, hpow, hreads, hrom, hcache, hclaimed, hlatch⟩ := d.watchdogReset_frame
  have hkeep (g : Fld) (hg : g ∈ keptStw) : d.watchdogReset.get g = d.get g % 2 ^ g.w := by
    have hapart : (fldId F.STW_MBCMD_STATUS ≠ fldId g ∧ fldId F.STW_INT_MBREPLY ≠ fldId g) ∧ fldId F.STW_WDTLEFT_MS ≠ fldId g := by
      revert g
      decide
    have hque : QueFld 0 g := (by decide : ∀ g ∈ keptStw, ∀ f ∈ _, fldId f ≠ fldId g) g hg
    rw [d.watchdogReset_get hapart.1 hque, Dev.coreReset_get _ hapart.2, Dev.stwRestored_kept _ hg, hkept g hg]
  have hreset (g : Fld) (hg : g ∈ [F.STW_MBCMD_BUSY, F.STW_MBMSG_BUSY]) : d.watchdogReset.get g = 0 := by
    have hapart : (fldId F.STW_MBCMD_STATUS ≠ fldId g ∧ fldId F.STW_INT_MBREPLY ≠ fldId g) ∧ fldId F.STW_WDTLEFT_MS ≠ fldId g ∧
        (∀ f ∈ keptStw, fldId f ≠ fldId g) ∧ 32 * 0x16000 ≤ fldId g ∧ fldId g < 32 * 0x17000 ∧ g.rst = 0 := by
      revert g
      decide
    obtain ⟨hst, hleft, hkept, hlo, hhi, hrst⟩ := hapart
    have hque : QueFld 0 g := (by decide : ∀ g ∈ [F.STW_MBCMD_BUSY, F.STW_MBMSG_BUSY], ∀ f ∈ _, fldId f ≠ fldId g) g hg
    rw [d.watchdogReset_get hst hque, Dev.coreReset_get _ hleft, Dev.stwRestored_reset _ hkept hlo hhi, hrst]
  refine ⟨hrom, hcache, hclaimed, hlatch, by rw [hecc]; exact hsram, by rw [hecc]; exact hheld, hreads, hkeep _ (by decide), hkeep _ (by decide),
    hkeep _ (by decide), ?_, hkeep _ (by decide), hreset _ (by decide), hreset _ (by decide), ?_, fun hbusy => ?_, fun hbusy => ?_,
    by rw [hpack]; exact hdead, by rw [hpack]; exact hsess, fun h => by rw [hpow]; exact hstage h⟩
  · rw [d.watchdogReset_get (by decide) (queFld_of_ids (by decide)), Dev.coreReset_left, hkept _ (by decide)]
  · have hget : d.watchdogReset.get F.YOK_MTXCMD_BUSY = d.wdogEnds.get F.YOK_MTXCMD_BUSY := by
      rw [d.watchdogReset_get (by decide) (queFld_of_ids (by decide)), Dev.coreReset_get _ (by decide),
        Dev.stwRestored_other _ (by decide)]
    exact (congrArg (· == 1) hget).trans hmtx
  · rw [Dev.watchdogReset_eq, if_pos hbusy]
    generalize d.wdogEnds.coreReset = x
    refine ⟨((Dev.heard_raise (x.set F.STW_MBCMD_STATUS (statusCode .eFlushed)) F.STW_INT_MBREPLY 0x1802 [0] 0 0 0).2 _
      (plainFld_of_fldId (by decide) (by decide) (by decide)) (by decide)).trans (Dev.get_set_same _ _ _),
      Dev.raise_get_int _ _ _ _ _ _ (plainFld_of_fldId (by decide) (by decide) (by decide)) (by simp)⟩
  · rw [Dev.watchdogReset_eq, hbusy, if_neg (by decide), Dev.coreReset_get _ (by decide), Dev.stwRestored_reset _ (by decide) (by decide) (by decide)]
    rfl

/-! ### The watchdog's commands (R514, R515, R520) -/

theorem Dev.wdtRuns_iff (d : Dev) : d.wdtRuns = true ↔ d.is F.STW_WDT_EN = true ∧ d.pow.state = .run ∧ d.stw.rom = .image := by
  simp only [Dev.wdtRuns, Bool.and_eq_true, beq_iff_eq, and_assoc]

theorem Dev.writeWdtkick_is {d : Dev} (hup : d.up = true) : d.writeWdtkick 0x5EED = d.kick := by
  have hfirst : firstByRank ((setsReserved R.STW_WDTKICK 0x5EED, .eField) :: (d.changesLocked .bar0 R.STW_WDTKICK 0 0x5EED, .eLocked) ::
      [(bits (0x5EED : Word).toNat 0 16 != 0x5EED, .eRange)]) = Status.done :=
    (firstByRank_own (by decide) rfl _ _ _ _).trans (by decide)
  exact Dev.regWrite_done hup hfirst

/-- STW_CTRL has no field that LOCK keeps. -/
theorem Dev.stwCtrl_first {d : Dev} {w : Word} (hres : setsReserved R.STW_CTRL w = false) :
    firstByRank [(setsReserved R.STW_CTRL w, Status.eField), (d.changesLocked .bar0 R.STW_CTRL 0 w, .eLocked)] = .done := by
  have hlock : d.changesLocked .bar0 R.STW_CTRL 0 w = false := Bool.and_false _
  rw [hres, hlock]
  rfl

/-- A write of STW_CTRL, before the core restarts. -/
def Dev.stwCtrlWritten (d : Dev) (w : Word) : Dev :=
  let n := ((d.writeRow .bar0 R.STW_CTRL 0 w).set F.STW_CTRL_RESTART 0).set F.STW_CTRL_ICINV 0
  if bitOf w.toNat 1 then n.modStw fun x => { x with icache := [] } else n

theorem Dev.writeStwCtrl_eq {d : Dev} {w : Word} (hup : d.up = true) (hres : setsReserved R.STW_CTRL w = false) :
    d.writeStwCtrl w = if bitOf w.toNat 0 then (d.stwCtrlWritten w).watchdogReset else d.stwCtrlWritten w :=
  Dev.regWrite_done hup (Dev.stwCtrl_first hres)

theorem Dev.stwCtrlWritten_is (d : Dev) (w : Word) : (d.stwCtrlWritten w).get F.STW_CTRL_ICINV = 0 ∧
    (bitOf w.toNat 1 = true → (d.stwCtrlWritten w).stw = { d.stw with icache := [] }) ∧
    d.Only { d.stwCtrlWritten w with stw := d.stw } [F.STW_CTRL_LOCK, F.STW_CTRL_ICINV, F.STW_CTRL_RESTART] := by
  have hrow : d.Only (d.writeRow .bar0 R.STW_CTRL 0 w) [F.STW_CTRL_LOCK, F.STW_CTRL_ICINV, F.STW_CTRL_RESTART] :=
    d.only_writeRow .bar0 R.STW_CTRL 0 w
  have honly : d.Only (((d.writeRow .bar0 R.STW_CTRL 0 w).set F.STW_CTRL_RESTART 0).set F.STW_CTRL_ICINV 0)
      [F.STW_CTRL_LOCK, F.STW_CTRL_ICINV, F.STW_CTRL_RESTART] := ((hrow.trans (Dev.only_set _ _ _)).trans (Dev.only_set _ _ _)).mono (by simp)
  have hzero : (((d.writeRow .bar0 R.STW_CTRL 0 w).set F.STW_CTRL_RESTART 0).set F.STW_CTRL_ICINV 0).get F.STW_CTRL_ICINV = 0 := Dev.get_set_same _ _ _
  unfold Dev.stwCtrlWritten
  simp only
  generalize ((d.writeRow .bar0 R.STW_CTRL 0 w).set F.STW_CTRL_RESTART 0).set F.STW_CTRL_ICINV 0 = x at *
  obtain ⟨m, rfl⟩ := honly.eq_with
  split_ifs with h
  · exact ⟨hzero, fun _ => rfl, rfl, honly.2⟩
  · exact ⟨hzero, fun h1 => absurd h1 h, rfl, honly.2⟩

/-- Settles O57: what a watchdog reset leaves of each part, and when the watchdog is kicked, warns and expires. -/
theorem stewardWatchdog : Obligations.StewardWatchdog := by
  unfold Obligations.StewardWatchdog
  refine ⟨Dev.watchdogReset_is, fun s hup => ⟨Ends.of_act hup ?_, fun runs hruns => ?_, fun w => ⟨fun hres => Ends.of_act hup ?_,
    fun hres hbit => Ends.of_act hup ?_⟩⟩⟩
  · rw [Dev.writeWdtkick_is hup]
    exact ⟨s.dev.kick_left, rfl, rfl, fun g hg => s.dev.kick_get (hg _ (by simp))⟩
  · have hiff : runs ↔ s.dev.wdtRuns = true := hruns.trans s.dev.wdtRuns_iff.symm
    refine ⟨fun h hw => Ends.of_act hup ?_, fun h => Ends.of_act hup ?_, fun h => Ends.of_act hup (if_pos (hiff.mp h)),
      fun h => Ends.of_act hup (if_neg fun k => h (hiff.mpr k))⟩
    · rw [if_pos (by simpa [hw] using hiff.mp h)]
      exact ⟨Dev.get_set_same _ _ _, s.dev.only_set _ _⟩
    · refine if_neg fun k => ?_
      simp only [Bool.and_eq_true, bne_iff_ne] at k
      exact h.elim (fun hn => hn (hiff.mpr k.1)) k.2
  · obtain ⟨-, -, honly⟩ := s.dev.stwCtrlWritten_is (withBit w 0)
    exact ⟨_, by rw [Dev.writeStwCtrl_eq hup hres, if_pos (bitOf_withBit_same w (by decide))], honly⟩
  · obtain ⟨hzero, hcache, honly⟩ := s.dev.stwCtrlWritten_is (withBit w 1)
    have hb : bitOf (withBit w 1).toNat 0 = false := by
      rw [bitOf_withBit_ne w (by decide) (by decide)]
      exact bitNat_eq_zero.mp ((bits_one_eq _ _).symm.trans hbit)
    rw [Dev.writeStwCtrl_eq hup hres, hb]
    exact ⟨hcache (bitOf_withBit_same w (by decide)), hzero, honly⟩

end Sys2Proof.Machine

/-!
SUPPORT. Interrupt claims, the machine timer and the mailbox (chapter 18).
-/
namespace Sys2Proof.Machine

open Sys2Proof

/-! ### The interrupt controller and the machine timer (R511, R513) -/

theorem Dev.srcQualifies_zero (d : Dev) : d.srcQualifies 0 = false := rfl

/-- The source of highest priority among those below `n`, the lowest on a tie. -/
theorem Dev.bestSource_is (d : Dev) (n : Nat) :
    (d.bestSource n ≠ 0 → d.bestSource n < n ∧ d.srcQualifies (d.bestSource n) = true ∧ ∀ m < n, d.srcQualifies m = true →
      d.get (F.STW_ICPRIO_PRIO m) ≤ d.get (F.STW_ICPRIO_PRIO (d.bestSource n)) ∧
      (d.get (F.STW_ICPRIO_PRIO m) = d.get (F.STW_ICPRIO_PRIO (d.bestSource n)) → d.bestSource n ≤ m)) ∧
    (d.bestSource n = 0 → ∀ m < n, d.srcQualifies m = false) := by
  induction n with
  | zero => exact ⟨fun h => absurd rfl h, fun _ m hm => absurd hm (Nat.not_lt_zero m)⟩
  | succ n ih =>
    obtain ⟨ihbest, ihnone⟩ := ih
    have hsplit {p : Nat → Prop} (hlow : ∀ m < n, p m) (hn : p n) : ∀ m < n + 1, p m := fun m hm =>
      (Nat.lt_succ_iff_lt_or_eq.mp hm).elim (hlow m) fun h => h ▸ hn
    by_cases hc : d.srcQualifies n = true ∧ (d.bestSource n = 0 ∨ d.get (F.STW_ICPRIO_PRIO (d.bestSource n)) < d.get (F.STW_ICPRIO_PRIO n))
    · have hb : d.bestSource (n + 1) = n := by
        rw [Dev.bestSource, if_pos (by simpa using hc)]
      obtain ⟨hq, hor⟩ := hc
      rw [hb]
      refine ⟨fun _ => ⟨Nat.lt_succ_self n, hq, hsplit (fun m hm hmq => ?_) fun _ => ⟨le_rfl, fun _ => le_rfl⟩⟩, fun h0 => ?_⟩
      · by_cases h0 : d.bestSource n = 0
        · rw [ihnone h0 m hm] at hmq
          cases hmq
        · obtain ⟨-, -, hmax⟩ := ihbest h0
          have hlt := Nat.lt_of_le_of_lt (hmax m hm hmq).1 (hor.resolve_left h0)
          exact ⟨hlt.le, fun heq => absurd heq hlt.ne⟩
      · rw [h0, d.srcQualifies_zero] at hq
        cases hq
    · have hb : d.bestSource (n + 1) = d.bestSource n := by
        rw [Dev.bestSource, if_neg (by simpa using hc)]
      rw [hb]
      refine ⟨fun h0 => ?_, fun h0 => hsplit (ihnone h0) ?_⟩
      · obtain ⟨hlt, hq, hmax⟩ := ihbest h0
        refine ⟨Nat.lt_succ_of_lt hlt, hq, hsplit hmax fun hnq => ?_⟩
        have hle : d.get (F.STW_ICPRIO_PRIO n) ≤ d.get (F.STW_ICPRIO_PRIO (d.bestSource n)) :=
          Nat.not_lt.mp fun hlt' => hc ⟨hnq, .inr hlt'⟩
        exact ⟨hle, fun _ => hlt.le⟩
      · exact Bool.eq_false_iff.mpr fun hq => hc ⟨hq, .inl h0⟩

theorem Dev.claimRead_is (d : Dev) : let e := d.claimRead
    e.out = ⟨.readData, 0, [d.bestSource 48], []⟩ :: d.out ∧
      (d.bestSource 48 = 0 → e.stw = d.stw) ∧ (d.bestSource 48 ≠ 0 → e.stw.claimed = d.bestSource 48 :: d.stw.claimed ∧
        e.srcQualifies (d.bestSource 48) = false) ∧ e = { d with out := e.out, stw := e.stw } := by
  unfold Dev.claimRead
  simp only
  by_cases h0 : d.bestSource 48 = 0
  · rw [if_pos h0]
    exact ⟨rfl, fun _ => rfl, fun h => absurd h0 h, rfl⟩
  · rw [if_neg h0]
    refine ⟨rfl, fun h => absurd h h0, fun _ => ⟨rfl, ?_⟩, rfl⟩
    unfold Dev.srcQualifies
    simp [Dev.modStw]

theorem Dev.writeIcclaim_is {d : Dev} {w : Word} (hup : d.up = true) (hres : setsReserved R.STW_ICCLAIM w = false) : let e := d.writeIcclaim w
    if d.stw.claimed.contains (bits w.toNat 0 6) = false then RecordedGlb d e 0x16210 .eState
    else e.stw = { d.stw with claimed := d.stw.claimed.filter (· != bits w.toNat 0 6) } ∧ d.Only { e with stw := d.stw } [F.STW_ICCLAIM_SRC] := by
  have hfirst : firstByRank ((setsReserved R.STW_ICCLAIM w, .eField) :: (d.changesLocked .bar0 R.STW_ICCLAIM 0 w, .eLocked) ::
      [(!d.stw.claimed.contains (bits w.toNat 0 6), .eState)]) =
      if d.stw.claimed.contains (bits w.toNat 0 6) = false then .eState else .done := by
    rw [firstByRank_own hres rfl]
    cases d.stw.claimed.contains (bits w.toNat 0 6) <;> rfl
  unfold Dev.writeIcclaim
  simp only
  by_cases h : d.stw.claimed.contains (bits w.toNat 0 6) = false
  · rw [if_pos h] at hfirst ⊢
    exact recordedGlb_of_rejected hup (by decide) hfirst
  · rw [if_neg h] at hfirst ⊢
    rw [Dev.regWrite_done hup hfirst]
    have honly : d.Only ((d.writeRow .bar0 R.STW_ICCLAIM 0 w).set F.STW_ICCLAIM_SRC 0) [F.STW_ICCLAIM_SRC] :=
      ((d.only_writeRow .bar0 R.STW_ICCLAIM 0 w).trans (Dev.only_set _ _ _)).mono (by decide)
    generalize (d.writeRow .bar0 R.STW_ICCLAIM 0 w).set F.STW_ICCLAIM_SRC 0 = x at *
    obtain ⟨m, rfl⟩ := honly.eq_with
    exact ⟨rfl, rfl, honly.2⟩

theorem Dev.mtimeMatch_is {d : Dev} (hd : d.xt.count < 2 ^ 64) (hc : d.mtimecmp < 2 ^ 64) : let e := d.edgesTo d.mtimecmp
    e.xt.count = max d.xt.count d.mtimecmp ∧ e.mtip = true := by
  have hxt := d.edgesTo_xt hd hc
  have hcmp : (d.edgesTo d.mtimecmp).mtimecmp = d.mtimecmp := rfl
  refine ⟨by rw [hxt], ?_⟩
  rw [Dev.mtip, hcmp, hxt]
  exact decide_eq_true (Nat.le_max_right _ _)

/-! ### The mailbox (R516, R517, R520) -/

/-- A write that LEN, its owner and one more check may refuse, in that order. -/
theorem regWrite_mailbox {d : Dev} {row : RegRow} {w : Word} {checks : List (Bool × Status)} {eff : Dev → Dev} {range owner third : Prop}
    [Decidable range] [Decidable owner] [Decidable third] {st : Status} {Q : Prop} (hup : d.up = true) (hne : st ≠ .done)
    (hfirst : firstByRank ((setsReserved row w, .eField) :: (d.changesLocked .bar0 row 0 w, .eLocked) :: checks) =
      if range then .eRange else if owner then .eOwner else if third then st else .done)
    (hdone : d.regWrite .bar0 row 0 w checks eff = eff (d.writeRow .bar0 row 0 w) → Q) :
    if range then RecordedGlb d (d.regWrite .bar0 row 0 w checks eff) (row.base + row.stride * 0) .eRange
    else if owner then RecordedGlb d (d.regWrite .bar0 row 0 w checks eff) (row.base + row.stride * 0) .eOwner
    else if third then RecordedGlb d (d.regWrite .bar0 row 0 w checks eff) (row.base + row.stride * 0) st
    else Q := by
  by_cases hrange : range
  · rw [if_pos hrange] at hfirst ⊢
    exact recordedGlb_of_rejected hup (by decide) hfirst
  rw [if_neg hrange] at hfirst ⊢
  by_cases howner : owner
  · rw [if_pos howner] at hfirst ⊢
    exact recordedGlb_of_rejected hup (by decide) hfirst
  rw [if_neg howner] at hfirst ⊢
  by_cases hthird : third
  · rw [if_pos hthird] at hfirst ⊢
    exact recordedGlb_of_rejected hup hne hfirst
  rw [if_neg hthird] at hfirst ⊢
  exact hdone (Dev.regWrite_done hup hfirst)

/-- A LEN above 16 that is new. -/
theorem badLen_iff (v old : Nat) : badLen v old = true ↔ bits v 8 5 ≠ old ∧ 16 < bits v 8 5 := by
  simp only [badLen, Bool.and_eq_true, bne_iff_ne, decide_eq_true_eq]

theorem Dev.only_writeMbcmd (d : Dev) (w : Word) :
    d.Only (d.writeRow .bar0 R.STW_MBCMD 0 w) [F.STW_MBCMD_GO, F.STW_MBCMD_LEN, F.STW_MBCMD_OPCODE] := d.only_writeRow .bar0 R.STW_MBCMD 0 w

theorem Dev.writeMbcmd_gets (d : Dev) (w : Word) : (d.writeRow .bar0 R.STW_MBCMD 0 w).get F.STW_MBCMD_LEN = bits w.toNat 8 5 ∧
    (d.writeRow .bar0 R.STW_MBCMD 0 w).get F.STW_MBCMD_OPCODE = bits w.toNat 0 8 :=
  ⟨d.writeRow_get (g := ⟨8, 5, .rw, fun _ => 0⟩) (by simp [R.STW_MBCMD]) (by simp [R.STW_MBCMD]) (.inl rfl),
    d.writeRow_get (g := ⟨0, 8, .rw, fun _ => 0⟩) (by simp [R.STW_MBCMD]) (by simp [R.STW_MBCMD]) (.inl rfl)⟩

/-- GO is T000's (R516, R517). -/
theorem Dev.writeMbcmd_is {d : Dev} {w : Word} {who : Nat} (hup : d.up = true) (hres : setsReserved R.STW_MBCMD w = false)
    (hgo : bitOf w.toNat 31 = true) : let e := d.writeMbcmd who w
    if bits w.toNat 8 5 ≠ d.get F.STW_MBCMD_LEN ∧ 16 < bits w.toNat 8 5 then RecordedGlb d.rouse e 0x16300 .eRange
    else if who = 0 then RecordedGlb d.rouse e 0x16300 .eOwner
    else if d.is F.STW_MBCMD_BUSY = true then RecordedGlb d.rouse e 0x16300 .eBusy
    else e.get F.STW_MBCMD_BUSY = 1 ∧ e.get F.STW_MBCMD_GO = 0 ∧ e.get F.STW_MBCMD_LEN = bits w.toNat 8 5 ∧
      e.get F.STW_MBCMD_OPCODE = bits w.toNat 0 8 ∧ e.get F.STW_INT_MBCMD = 1 ∧
      d.rouse.Only e [F.STW_MBCMD_BUSY, F.STW_MBCMD_GO, F.STW_MBCMD_LEN, F.STW_MBCMD_OPCODE, F.STW_INT_MBCMD] := by
  have hclosed : ∀ owner busy range : Bool, firstByRank [(owner, .eOwner), (busy, .eBusy), (range, .eRange)] =
      if range then .eRange else if owner then .eOwner else if busy then .eBusy else .done := by decide
  unfold Dev.writeMbcmd
  simp only [hgo, Bool.true_and]
  refine regWrite_mailbox (st := .eBusy) (by rw [Dev.rouse_up, hup]) (by decide) ?_ fun he => ?_
  · rw [firstByRank_own hres rfl]
    refine (hclosed _ _ _).trans ?_
    simp only [badLen_iff, beq_iff_eq]
  rw [he, if_pos trivial]
  have honly := d.rouse.only_writeMbcmd w
  obtain ⟨hl, hop⟩ := d.rouse.writeMbcmd_gets w
  generalize d.rouse.writeRow .bar0 R.STW_MBCMD 0 w = x at *
  have hset : x.Only (x.setAll [(F.STW_MBCMD_GO, 0), (F.STW_MBCMD_BUSY, 1), (F.STW_INT_MBCMD, 1)]) [F.STW_MBCMD_GO, F.STW_MBCMD_BUSY, F.STW_INT_MBCMD] :=
    x.only_setAll _
  have hval (f : Fld) (v : Nat) (hf : (f, v) ∈ [(F.STW_MBCMD_GO, 0), (F.STW_MBCMD_BUSY, 1), (F.STW_INT_MBCMD, 1)]) (hv : v < 2 ^ f.w) :
      (x.setAll [(F.STW_MBCMD_GO, 0), (F.STW_MBCMD_BUSY, 1), (F.STW_INT_MBCMD, 1)]).get f = v := Dev.setAll_val _ (by decide) v hf hv
  exact ⟨hval _ _ (by simp) (by decide), hval _ _ (by simp) (by decide), (hset.2 _ (by decide)).trans hl, (hset.2 _ (by decide)).trans hop,
    hval _ _ (by simp) (by decide), (honly.trans hset).mono (by decide)⟩

/-- What a reply sets, before T000 is told. -/
def replyFlds (st len : Nat) : List (Fld × Nat) :=
  [(F.STW_MBREPLY_STATUS, st), (F.STW_MBREPLY_LEN, len), (F.STW_MBCMD_BUSY, 0), (F.STW_MBCMD_STATUS, st), (F.STW_MBCMD_LEN, len)]

theorem Dev.mbReply_eq (d : Dev) (st len : Nat) : d.mbReply st len = (d.setAll (replyFlds st len)).raise F.STW_INT_MBREPLY 0x1802 [0] 0 0 0 := rfl

theorem Dev.mbReply_told (d : Dev) (st len : Nat) : d.Told (d.mbReply st len) [F.STW_MBREPLY_STATUS, F.STW_MBREPLY_LEN, F.STW_MBCMD_BUSY,
    F.STW_MBCMD_STATUS, F.STW_MBCMD_LEN, F.STW_INT_MBREPLY] :=
  (d.only_setAll (replyFlds st len)).told.trans (Dev.told_raise _ _ _ [0] _ _ _ (by simp))

theorem Dev.mbReply_int (d : Dev) (st len : Nat) : (d.mbReply st len).get F.STW_INT_MBREPLY = 1 :=
  Dev.raise_get_int _ _ _ _ _ _ (plainFld_of_fldId (by decide) (by decide) (by decide)) (by simp)

/-- A field that a reply sets. -/
theorem Dev.mbReply_get (d : Dev) {st len : Nat} {f : Fld} {v : Nat} (hf : (f, v) ∈ replyFlds st len) :
    (d.mbReply st len).get f = v % 2 ^ f.w := by
  have hapart : fldId F.STW_INT_MBREPLY ≠ fldId f ∧ QueFld 0 f := by
    have hmem : f ∈ [F.STW_MBREPLY_STATUS, F.STW_MBREPLY_LEN, F.STW_MBCMD_BUSY, F.STW_MBCMD_STATUS, F.STW_MBCMD_LEN] :=
      List.mem_map_of_mem (f := Prod.fst) hf
    exact (by decide : ∀ f ∈ [F.STW_MBREPLY_STATUS, F.STW_MBREPLY_LEN, F.STW_MBCMD_BUSY, F.STW_MBCMD_STATUS, F.STW_MBCMD_LEN],
      fldId F.STW_INT_MBREPLY ≠ fldId f ∧ ∀ g ∈ _, fldId g ≠ fldId f) f hmem
  rw [Dev.mbReply_eq, Dev.raise_get_ne _ _ _ _ _ hapart.1 (by simpa using hapart.2)]
  exact Dev.setAll_get _ (by simp only [replyFlds, List.map_cons, List.map_nil]; decide) hf

/-- A field that a reply leaves. -/
theorem Dev.mbReply_get_ne (d : Dev) (st len : Nat) {g : Fld} (hque : QueFld 0 g)
    (hne : ∀ f ∈ [F.STW_MBREPLY_STATUS, F.STW_MBREPLY_LEN, F.STW_MBCMD_BUSY, F.STW_MBCMD_STATUS, F.STW_MBCMD_LEN, F.STW_INT_MBREPLY],
      fldId f ≠ fldId g) : (d.mbReply st len).get g = d.get g := by
  rw [Dev.mbReply_eq, Dev.raise_get_ne _ _ _ _ _ (hne _ (by simp)) (by simpa using hque)]
  exact (d.only_setAll (replyFlds st len)).2 g fun f hf => hne f (List.mem_append_left [F.STW_INT_MBREPLY] hf)

theorem Dev.only_writeMbreply (d : Dev) (w : Word) :
    d.Only (d.writeRow .bar0 R.STW_MBREPLY 0 w) [F.STW_MBREPLY_DONE, F.STW_MBREPLY_STATUS, F.STW_MBREPLY_LEN] := d.only_writeRow .bar0 R.STW_MBREPLY 0 w

theorem Dev.writeMbreply_gets (d : Dev) (w : Word) : (d.writeRow .bar0 R.STW_MBREPLY 0 w).get F.STW_MBREPLY_STATUS = bits w.toNat 16 8 ∧
    (d.writeRow .bar0 R.STW_MBREPLY 0 w).get F.STW_MBREPLY_LEN = bits w.toNat 8 5 :=
  ⟨d.writeRow_get (g := ⟨16, 8, .rw, fun _ => 0⟩) (by simp [R.STW_MBREPLY]) (by simp [R.STW_MBREPLY]) (.inl rfl),
    d.writeRow_get (g := ⟨8, 5, .rw, fun _ => 0⟩) (by simp [R.STW_MBREPLY]) (by simp [R.STW_MBREPLY]) (.inl rfl)⟩

/-- The reply is the steward's (R516). -/
theorem Dev.writeMbreply_is {d : Dev} {w : Word} {who : Nat} (hup : d.up = true) (hres : setsReserved R.STW_MBREPLY w = false)
    (hgo : bitOf w.toNat 31 = true) : let e := d.writeMbreply who w
    if bits w.toNat 8 5 ≠ d.get F.STW_MBREPLY_LEN ∧ 16 < bits w.toNat 8 5 then RecordedGlb d.rouse e 0x16304 .eRange
    else if who = 1 then RecordedGlb d.rouse e 0x16304 .eOwner
    else if d.is F.STW_MBCMD_BUSY = false then RecordedGlb d.rouse e 0x16304 .eState
    else e.get F.STW_MBCMD_BUSY = 0 ∧ e.get F.STW_MBCMD_STATUS = bits w.toNat 16 8 ∧ e.get F.STW_MBCMD_LEN = bits w.toNat 8 5 ∧
      e.get F.STW_MBREPLY_DONE = 0 ∧ e.get F.STW_INT_MBREPLY = 1 ∧
      d.rouse.Told e [F.STW_MBCMD_BUSY, F.STW_MBCMD_STATUS, F.STW_MBCMD_LEN, F.STW_MBREPLY_DONE, F.STW_MBREPLY_STATUS, F.STW_MBREPLY_LEN,
        F.STW_INT_MBREPLY] := by
  have hclosed : ∀ owner idle range : Bool, firstByRank [(owner, .eOwner), (idle, .eState), (range, .eRange)] =
      if range then .eRange else if owner then .eOwner else if idle then .eState else .done := by decide
  unfold Dev.writeMbreply
  simp only [hgo, Bool.true_and]
  refine regWrite_mailbox (st := .eState) (by rw [Dev.rouse_up, hup]) (by decide) ?_ fun he => ?_
  · rw [firstByRank_own hres rfl]
    refine (hclosed _ _ _).trans ?_
    simp only [badLen_iff, beq_iff_eq, Bool.not_eq_true']
  rw [he, if_pos trivial]
  have honly := d.rouse.only_writeMbreply w
  obtain ⟨hst, hl⟩ := d.rouse.writeMbreply_gets w
  generalize d.rouse.writeRow .bar0 R.STW_MBREPLY 0 w = x at *
  have hst' : (x.set F.STW_MBREPLY_DONE 0).get F.STW_MBREPLY_STATUS = bits w.toNat 16 8 := (Dev.get_set_ne _ _ (by decide)).trans hst
  have hl' : (x.set F.STW_MBREPLY_DONE 0).get F.STW_MBREPLY_LEN = bits w.toNat 8 5 := (Dev.get_set_ne _ _ (by decide)).trans hl
  have hdone : (x.set F.STW_MBREPLY_DONE 0).get F.STW_MBREPLY_DONE = 0 := Dev.get_set_same _ _ _
  have hset := honly.trans (x.only_set F.STW_MBREPLY_DONE 0)
  rw [hst', hl']
  generalize x.set F.STW_MBREPLY_DONE 0 = y at *
  refine ⟨y.mbReply_get (v := 0) (by simp [replyFlds]), ?_, ?_, (y.mbReply_get_ne _ _ (queFld_of_ids (by decide)) (by decide)).trans hdone,
    y.mbReply_int _ _, (hset.told.trans (y.mbReply_told _ _)).mono (by decide)⟩
  · exact (y.mbReply_get (f := F.STW_MBCMD_STATUS) (by simp [replyFlds])).trans (Nat.mod_eq_of_lt (Nat.mod_lt _ (by decide)))
  · exact (y.mbReply_get (f := F.STW_MBCMD_LEN) (by simp [replyFlds])).trans (Nat.mod_eq_of_lt (Nat.mod_lt _ (by decide)))

theorem Dev.only_writeMbmsg (d : Dev) (w : Word) : d.Only (d.writeRow .bar0 R.STW_MBMSG 0 w)
    [F.STW_MBMSG_GO, F.STW_MBMSG_ACK, F.STW_MBMSG_LEN, F.STW_MBMSG_OPCODE] := d.only_writeRow .bar0 R.STW_MBMSG 0 w

theorem Dev.writeMbmsg_gets (d : Dev) (w : Word) : (d.writeRow .bar0 R.STW_MBMSG 0 w).get F.STW_MBMSG_LEN = bits w.toNat 8 5 ∧
    (d.writeRow .bar0 R.STW_MBMSG 0 w).get F.STW_MBMSG_OPCODE = bits w.toNat 0 8 :=
  ⟨d.writeRow_get (g := ⟨8, 5, .rw, fun _ => 0⟩) (by simp [R.STW_MBMSG]) (by simp [R.STW_MBMSG]) (.inl rfl),
    d.writeRow_get (g := ⟨0, 8, .rw, fun _ => 0⟩) (by simp [R.STW_MBMSG]) (by simp [R.STW_MBMSG]) (.inl rfl)⟩

/-- GO is the steward's (R517). -/
theorem Dev.writeMbmsg_go {d : Dev} {w : Word} {who : Nat} (hup : d.up = true) (hres : setsReserved R.STW_MBMSG w = false)
    (hgo : bitOf w.toNat 31 = true) (hack : bitOf w.toNat 29 = false) : let e := d.writeMbmsg who w
    if bits w.toNat 8 5 ≠ d.get F.STW_MBMSG_LEN ∧ 16 < bits w.toNat 8 5 then RecordedGlb d.rouse e 0x16308 .eRange
    else if who = 1 then RecordedGlb d.rouse e 0x16308 .eOwner
    else if d.is F.STW_MBMSG_BUSY = true then RecordedGlb d.rouse e 0x16308 .eBusy
    else e.get F.STW_MBMSG_BUSY = 1 ∧ e.get F.STW_MBMSG_LEN = bits w.toNat 8 5 ∧ e.get F.STW_MBMSG_OPCODE = bits w.toNat 0 8 ∧
      e.get F.STW_INT_MBMSG = 1 ∧
      d.rouse.Told e [F.STW_MBMSG_BUSY, F.STW_MBMSG_GO, F.STW_MBMSG_ACK, F.STW_MBMSG_LEN, F.STW_MBMSG_OPCODE, F.STW_INT_MBMSG] := by
  have hclosed : ∀ owner busy range : Bool, firstByRank [(owner, .eOwner), (busy, .eBusy), (false, .eState), (range, .eRange)] =
      if range then .eRange else if owner then .eOwner else if busy then .eBusy else .done := by decide
  unfold Dev.writeMbmsg
  simp only [hgo, hack, Bool.true_and, Bool.false_and, Bool.or_false]
  refine regWrite_mailbox (st := .eBusy) (by rw [Dev.rouse_up, hup]) (by decide) ?_ fun he => ?_
  · rw [firstByRank_own hres rfl]
    refine (hclosed _ _ _).trans ?_
    simp only [badLen_iff, beq_iff_eq]
  rw [he, if_pos trivial, if_neg (by decide)]
  have honly := d.rouse.only_writeMbmsg w
  obtain ⟨hl, hop⟩ := d.rouse.writeMbmsg_gets w
  generalize d.rouse.writeRow .bar0 R.STW_MBMSG 0 w = x at *
  have hset : x.Only (x.setAll [(F.STW_MBMSG_GO, 0), (F.STW_MBMSG_ACK, 0), (F.STW_MBMSG_BUSY, 1)]) [F.STW_MBMSG_GO, F.STW_MBMSG_ACK, F.STW_MBMSG_BUSY] :=
    x.only_setAll _
  have hbusy : (x.setAll [(F.STW_MBMSG_GO, 0), (F.STW_MBMSG_ACK, 0), (F.STW_MBMSG_BUSY, 1)]).get F.STW_MBMSG_BUSY = 1 :=
    Dev.setAll_val _ (by decide) 1 (by simp) (by decide)
  have he : ((x.set F.STW_MBMSG_GO 0).set F.STW_MBMSG_ACK 0).set F.STW_MBMSG_BUSY 1 =
      x.setAll [(F.STW_MBMSG_GO, 0), (F.STW_MBMSG_ACK, 0), (F.STW_MBMSG_BUSY, 1)] := rfl
  rw [he]
  generalize x.setAll [(F.STW_MBMSG_GO, 0), (F.STW_MBMSG_ACK, 0), (F.STW_MBMSG_BUSY, 1)] = y at *
  have hkeep {g : Fld} (hint : fldId F.STW_INT_MBMSG ≠ fldId g) (hque : QueFld 0 g) :
      (y.raise F.STW_INT_MBMSG 0x1803 [0] 0 0 0).get g = y.get g := Dev.raise_get_ne _ _ _ _ _ hint (by simpa using hque)
  exact ⟨(hkeep (by decide) (queFld_of_ids (by decide))).trans hbusy,
    (hkeep (by decide) (queFld_of_ids (by decide))).trans ((hset.2 _ (by decide)).trans hl),
    (hkeep (by decide) (queFld_of_ids (by decide))).trans ((hset.2 _ (by decide)).trans hop),
    Dev.raise_get_int _ _ _ _ _ _ (plainFld_of_fldId (by decide) (by decide) (by decide)) (by simp),
    ((honly.trans hset).told.trans (y.told_raise _ _ [0] _ _ _ (by simp))).mono (by decide)⟩

/-- ACK is T000's (R517). -/
theorem Dev.writeMbmsg_ack {d : Dev} {w : Word} {who : Nat} (hup : d.up = true) (hres : setsReserved R.STW_MBMSG w = false)
    (hgo : bitOf w.toNat 31 = false) (hack : bitOf w.toNat 29 = true) : let e := d.writeMbmsg who w
    if bits w.toNat 8 5 ≠ d.get F.STW_MBMSG_LEN ∧ 16 < bits w.toNat 8 5 then RecordedGlb d.rouse e 0x16308 .eRange
    else if who = 0 then RecordedGlb d.rouse e 0x16308 .eOwner
    else if d.is F.STW_MBMSG_BUSY = false then RecordedGlb d.rouse e 0x16308 .eState
    else e.get F.STW_MBMSG_BUSY = 0 ∧ e.get F.STW_MBMSG_ACK = 0 ∧ e.get F.STW_INT_MBACK = 1 ∧
      d.rouse.Only e [F.STW_MBMSG_BUSY, F.STW_MBMSG_GO, F.STW_MBMSG_ACK, F.STW_MBMSG_LEN, F.STW_MBMSG_OPCODE, F.STW_INT_MBACK] := by
  have hclosed : ∀ owner idle range : Bool, firstByRank [(owner, .eOwner), (false, .eBusy), (idle, .eState), (range, .eRange)] =
      if range then .eRange else if owner then .eOwner else if idle then .eState else .done := by decide
  unfold Dev.writeMbmsg
  simp only [hgo, hack, Bool.true_and, Bool.false_and, Bool.false_or]
  refine regWrite_mailbox (st := .eState) (by rw [Dev.rouse_up, hup]) (by decide) ?_ fun he => ?_
  · rw [firstByRank_own hres rfl]
    refine (hclosed _ _ _).trans ?_
    simp only [badLen_iff, beq_iff_eq, Bool.not_eq_true']
  rw [he, if_pos trivial, if_neg (by decide)]
  have honly := d.rouse.only_writeMbmsg w
  generalize d.rouse.writeRow .bar0 R.STW_MBMSG 0 w = x at *
  have hset : x.Only (x.setAll [(F.STW_MBMSG_GO, 0), (F.STW_MBMSG_ACK, 0), (F.STW_MBMSG_BUSY, 0), (F.STW_INT_MBACK, 1)])
    [F.STW_MBMSG_GO, F.STW_MBMSG_ACK, F.STW_MBMSG_BUSY, F.STW_INT_MBACK] := x.only_setAll _
  have hval (f : Fld) (v : Nat) (hf : (f, v) ∈ [(F.STW_MBMSG_GO, 0), (F.STW_MBMSG_ACK, 0), (F.STW_MBMSG_BUSY, 0), (F.STW_INT_MBACK, 1)])
      (hv : v < 2 ^ f.w) : (x.setAll [(F.STW_MBMSG_GO, 0), (F.STW_MBMSG_ACK, 0), (F.STW_MBMSG_BUSY, 0), (F.STW_INT_MBACK, 1)]).get f = v :=
    Dev.setAll_val _ (by decide) v hf hv
  exact ⟨hval _ _ (by simp) (by decide), hval _ _ (by simp) (by decide), hval _ _ (by simp) (by decide), (honly.trans hset).mono (by decide)⟩

/-! ### Mailbox commands that boot ROM serves (R509, R586, Table 18.4) -/

/-- Boot ROM serves a command, and no flash operation of one runs. -/
def Dev.serves (d : Dev) : Prop := d.stw.rom = .serving ∧ d.is F.STW_MBCMD_BUSY = true ∧ d.stw.flashCmd = none

theorem Dev.mbServed_on {d : Dev} {p : Nat → Bool} (h : d.serves) (hp : p (d.get F.STW_MBCMD_OPCODE) = true) (f : Dev → Dev) : d.mbServed p f = f d := by
  obtain ⟨hrom, hbusy, hflash⟩ := h
  exact if_pos (by simp only [hrom, hbusy, hflash, hp, Option.isNone_none]; decide)

theorem Dev.mbServed_off {d : Dev} {p : Nat → Bool} (h : ¬ d.serves ∨ p (d.get F.STW_MBCMD_OPCODE) = false) (f : Dev → Dev) : d.mbServed p f = d := by
  refine if_neg fun hc => ?_
  simp only [Bool.and_eq_true, beq_iff_eq, Option.isNone_iff_eq_none] at hc
  obtain ⟨⟨⟨hrom, hbusy⟩, hflash⟩, hp⟩ := hc
  exact h.elim (fun hn => hn ⟨hrom, hbusy, hflash⟩) fun hf => by rw [hp] at hf; cases hf

theorem Dev.mbIdent_is {d : Dev} (h : d.serves) (hop : d.get F.STW_MBCMD_OPCODE = 1) : let e := d.mbIdent
    e.get F.STW_MBCMD_BUSY = 0 ∧ e.get F.STW_MBCMD_STATUS = 0 ∧ e.get F.STW_MBCMD_LEN = 3 ∧
    e.get F.STW_INT_MBREPLY = 1 ∧ e.get (F.STW_MBDATA_DATA 0) = d.regWord R.STW_BOOT % 2 ^ 32 ∧
    e.get (F.STW_MBDATA_DATA 1) = d.regWord R.STW_BOOTVER % 2 ^ 32 ∧ e.get (F.STW_MBDATA_DATA 2) = d.regWord R.GLB_ID % 2 ^ 32 := by
  obtain ⟨x, hx⟩ : ∃ x, x = d.setAll [(F.STW_MBDATA_DATA 0, d.regWord R.STW_BOOT), (F.STW_MBDATA_DATA 1, d.regWord R.STW_BOOTVER),
    (F.STW_MBDATA_DATA 2, d.regWord R.GLB_ID)] := ⟨_, rfl⟩
  have he : d.mbIdent = x.mbReply 0 3 := by
    rw [Dev.mbIdent, Dev.mbServed_on h (by rw [hop]; rfl), if_pos hop, hx]
    rfl
  have hword (f : Fld) (v : Nat) (hf : (f, v) ∈ [(F.STW_MBDATA_DATA 0, d.regWord R.STW_BOOT), (F.STW_MBDATA_DATA 1, d.regWord R.STW_BOOTVER),
      (F.STW_MBDATA_DATA 2, d.regWord R.GLB_ID)]) : x.get f = v % 2 ^ f.w := by
    rw [hx]
    exact Dev.setAll_get _ (by simp only [List.map_cons, List.map_nil]; decide) hf
  rw [he]
  exact ⟨x.mbReply_get (v := 0) (by simp [replyFlds]), x.mbReply_get (f := F.STW_MBCMD_STATUS) (v := 0) (by simp [replyFlds]),
    x.mbReply_get (f := F.STW_MBCMD_LEN) (v := 3) (by simp [replyFlds]), x.mbReply_int 0 3,
    (x.mbReply_get_ne 0 3 (queFld_of_ids (by decide)) (by decide)).trans (hword (F.STW_MBDATA_DATA 0) _ (by simp)),
    (x.mbReply_get_ne 0 3 (queFld_of_ids (by decide)) (by decide)).trans (hword (F.STW_MBDATA_DATA 1) _ (by simp)),
    (x.mbReply_get_ne 0 3 (queFld_of_ids (by decide)) (by decide)).trans (hword (F.STW_MBDATA_DATA 2) _ (by simp))⟩

/-! ### Jobs of the flashes (R433, R434) -/

/-- A job of the list, begun or not. -/
def Dev.HasJob (d : Dev) (j : FlashJob) : Prop := ∃ k ∈ d.fls.jobs, k = j ∨ k = { j with started := true }

theorem mem_modFirstJob {sel : Nat} {f : FlashJob → FlashJob} {l : List FlashJob} {j : FlashJob} (h : j ∈ l) :
    j ∈ modFirstJob sel f l ∨ f j ∈ modFirstJob sel f l := by
  induction l with
  | nil => cases h
  | cons k l ih =>
    unfold modFirstJob
    split_ifs with hk
    · rcases List.mem_cons.mp h with rfl | hl
      · exact .inr (List.mem_cons_self ..)
      · exact .inl (List.mem_cons_of_mem _ hl)
    · rcases List.mem_cons.mp h with rfl | hl
      · exact .inl (List.mem_cons_self ..)
      · exact (ih hl).imp (List.mem_cons_of_mem _) (List.mem_cons_of_mem _)

theorem Dev.HasJob.startJob {d : Dev} {j : FlashJob} (h : d.HasJob j) (sel : Nat) : (d.startJob sel).HasJob j := by
  unfold Dev.startJob
  split
  · exact h
  · split_ifs
    · exact h
    · obtain ⟨k, hk, hj⟩ := h
      rcases mem_modFirstJob (sel := sel) (f := fun j => { j with started := true }) hk with hin | hin
      · exact ⟨k, hin, hj⟩
      · refine ⟨_, hin, .inr ?_⟩
        rcases hj with rfl | rfl <;> rfl

theorem Dev.addJobs_hasJob {d : Dev} {l : List FlashJob} {j : FlashJob} (h : j ∈ l) : (d.addJobs l).HasJob j := by
  have hmod : (d.modFls fun x => { x with jobs := x.jobs ++ l }).HasJob j := ⟨j, List.mem_append_right _ h, .inl rfl⟩
  exact (hmod.startJob 0).startJob 1

theorem Dev.startJob_frame (d : Dev) (sel : Nat) : (d.startJob sel).stw = d.stw ∧ ∀ g, (d.startJob sel).get g = d.get g := by
  unfold Dev.startJob
  split
  · exact ⟨rfl, fun _ => rfl⟩
  · split_ifs
    · exact ⟨rfl, fun _ => rfl⟩
    · exact ⟨rfl, fun _ => rfl⟩

theorem Dev.addJobs_frame (d : Dev) (l : List FlashJob) : (d.addJobs l).stw = d.stw ∧
    ∀ g, (∀ f ∈ [F.FLS_STAT_PROGRAMMING, F.FLS_STAT_ERASING, F.FLS_STAT_SUSPENDED], fldId f ≠ fldId g) → (d.addJobs l).get g = d.get g := by
  obtain ⟨h0, h0get⟩ := (d.modFls fun x => { x with jobs := x.jobs ++ l }).startJob_frame 0
  obtain ⟨h1, h1get⟩ := ((d.modFls fun x => { x with jobs := x.jobs ++ l }).startJob 0).startJob_frame 1
  obtain ⟨hshow, hget⟩ := (((d.modFls fun x => { x with jobs := x.jobs ++ l }).startJob 0).startJob 1).only_showFls
  exact ⟨(congrArg (fun y : Dev => y.stw) hshow :).trans (h1.trans h0), fun g hg => (hget g hg).trans ((h1get g).trans (h0get g))⟩

theorem Dev.endGather_get (d : Dev) {g : Fld} (hg : ∀ f ∈ [F.FLS_STAT_PROGRAMMING, F.FLS_STAT_ERASING, F.FLS_STAT_SUSPENDED], fldId f ≠ fldId g) :
    d.endGather.get g = d.get g := by
  unfold Dev.endGather
  split
  · rfl
  · exact (Dev.addJobs_frame _ _).2 g hg

theorem Dev.get_of_is {d : Dev} {f : Fld} (h : d.is f = true) : d.get f = 1 := beq_iff_eq.mp h

theorem Dev.mbErase_is {d : Dev} (h : d.serves) (hop : d.get F.STW_MBCMD_OPCODE = 2) : let e := d.mbErase
    let a := d.get (F.STW_MBDATA_DATA 0)
    if d.bankSector 0 a = true then e = d.mbReply (statusCode .eLocked) 0
    else e.stw.flashCmd = some (1, false) ∧ e.get F.STW_MBCMD_BUSY = 1 ∧ ∃ j ∈ e.fls.jobs, j.sel = 0 ∧ j.addr = sectorOf a ∧ j.erase = true ∧ j.who = 5 := by
  have he := Dev.mbServed_on (p := (· == 2)) h (by rw [hop]; rfl)
  simp only
  rw [Dev.mbErase, he]
  simp only
  by_cases hbank : d.bankSector 0 (d.get (F.STW_MBDATA_DATA 0)) = true
  · rw [if_pos hbank, if_pos hbank]
  rw [if_neg hbank, if_neg hbank]
  have hbusy : (d.modStw fun x => { x with flashCmd := some (1, false) }).get F.STW_MBCMD_BUSY = 1 := Dev.get_of_is h.2.1
  have hcmd : (d.modStw fun x => { x with flashCmd := some (1, false) }).stw.flashCmd = some (1, false) := rfl
  generalize (d.modStw fun x => { x with flashCmd := some (1, false) }) = x at *
  obtain ⟨hstw, hget⟩ := x.addJobs_frame [{ sel := 0, addr := sectorOf (d.get (F.STW_MBDATA_DATA 0)), erase := true, who := 5 }]
  obtain ⟨k, hk, hj⟩ := x.addJobs_hasJob (List.mem_singleton_self ({ sel := 0, addr := sectorOf (d.get (F.STW_MBDATA_DATA 0)), erase := true, who := 5 } : FlashJob))
  refine ⟨by rw [hstw]; exact hcmd, (hget _ (by decide)).trans hbusy, k, hk, ?_⟩
  rcases hj with rfl | rfl <;> exact ⟨rfl, rfl, rfl, rfl⟩

theorem pageRuns_first (n a : Nat) {l : List Byte} (h : l ≠ []) : ∃ b, (a, b) ∈ pageRuns (n + 1) a l := by
  rw [pageRuns, if_neg (by simpa using h)]
  exact ⟨_, List.mem_cons_self ..⟩

theorem Dev.mbWrite_is {d : Dev} (h : d.serves) (hop : d.get F.STW_MBCMD_OPCODE = 3) : let e := d.mbWrite
    let a := d.get (F.STW_MBDATA_DATA 0)
    let k := d.get F.STW_MBCMD_LEN - 1
    if a % 4 ≠ 0 then e = d.mbReply (statusCode .eAlign) 0
    else if d.windowReaches a (4 * k) = false ∨ (∃ i < k, d.bankByte (a - d.get F.FLS_WBASE_BASE + 4 * i) = true) then
      e = d.mbReply (statusCode .eLocked) 0
    else if k = 0 then e = d.mbReply 0 0
    else e.get F.STW_MBCMD_BUSY = 1 ∧ ∃ j ∈ e.fls.jobs, j.sel = 0 ∧ j.addr = a ∧ j.erase = false ∧ j.who = 5 := by
  have he := Dev.mbServed_on (p := (· == 3)) h (by rw [hop]; rfl)
  simp only
  rw [Dev.mbWrite, he]
  simp only
  by_cases halign : d.get (F.STW_MBDATA_DATA 0) % 4 ≠ 0
  · rw [if_pos halign, if_pos halign]
  rw [if_neg halign, if_neg halign]
  have hlocked : (!d.windowReaches (d.get (F.STW_MBDATA_DATA 0)) (4 * (d.get F.STW_MBCMD_LEN - 1)) ||
      (List.range (d.get F.STW_MBCMD_LEN - 1)).any (fun i => d.bankByte (d.get (F.STW_MBDATA_DATA 0) - d.get F.FLS_WBASE_BASE + 4 * i))) = true ↔
      d.windowReaches (d.get (F.STW_MBDATA_DATA 0)) (4 * (d.get F.STW_MBCMD_LEN - 1)) = false ∨
        (∃ i < d.get F.STW_MBCMD_LEN - 1, d.bankByte (d.get (F.STW_MBDATA_DATA 0) - d.get F.FLS_WBASE_BASE + 4 * i) = true) := by
    simp only [Bool.or_eq_true, Bool.not_eq_true', List.any_eq_true, List.mem_range]
  by_cases hlock : d.windowReaches (d.get (F.STW_MBDATA_DATA 0)) (4 * (d.get F.STW_MBCMD_LEN - 1)) = false ∨
      (∃ i < d.get F.STW_MBCMD_LEN - 1, d.bankByte (d.get (F.STW_MBDATA_DATA 0) - d.get F.FLS_WBASE_BASE + 4 * i) = true)
  · rw [if_pos (hlocked.mpr hlock), if_pos hlock]
  rw [if_neg fun hc => hlock (hlocked.mp hc), if_neg hlock]
  by_cases hk : d.get F.STW_MBCMD_LEN - 1 = 0
  · rw [if_pos hk, if_pos hk]
    rfl
  rw [if_neg hk, if_neg hk]
  have hbusy : d.endGather.get F.STW_MBCMD_BUSY = 1 := (d.endGather_get (by decide)).trans (Dev.get_of_is h.2.1)
  obtain ⟨l, hl⟩ : ∃ l, l = ((List.range (d.get F.STW_MBCMD_LEN - 1)).map fun i => leBytes 4 (d.get (F.STW_MBDATA_DATA (i + 1)))).flatten := ⟨_, rfl⟩
  have hne : l ≠ [] := by
    obtain ⟨n, hn⟩ := Nat.exists_eq_succ_of_ne_zero hk
    rw [hl, hn, List.range_succ_eq_map]
    simp [leBytes]
  rw [← hl]
  obtain ⟨b, hb⟩ := pageRuns_first 1 (d.get (F.STW_MBDATA_DATA 0)) hne
  generalize pageRuns 2 (d.get (F.STW_MBDATA_DATA 0)) l = runs at *
  obtain ⟨-, hget⟩ := (d.endGather.modStw fun x => { x with flashCmd := some (runs.length, false) }).addJobs_frame
    (runs.map fun r => { sel := 0, addr := r.1, data := r.2, who := 5 })
  obtain ⟨j, hin, hj⟩ := (d.endGather.modStw fun x => { x with flashCmd := some (runs.length, false) }).addJobs_hasJob
    (List.mem_map_of_mem (f := fun r : Nat × List Byte => ({ sel := 0, addr := r.1, data := r.2, who := 5 } : FlashJob)) hb)
  refine ⟨(hget _ (by decide)).trans hbusy, j, hin, ?_⟩
  rcases hj with rfl | rfl <;> exact ⟨rfl, rfl, rfl, rfl⟩

/-- Settles O58: the interrupt controller, the machine timer, the mailbox from either side, and the commands that boot ROM serves. -/
theorem stewardInterruptsAndMailbox : Obligations.StewardInterruptsAndMailbox := by
  unfold Obligations.StewardInterruptsAndMailbox
  refine ⟨fun d => d.bestSource_is 48, fun s hup => ⟨Ends.of_act hup s.dev.claimRead_is, fun w hres => Ends.of_act hup (Dev.writeIcclaim_is hup hres),
    Ends.of_act hup ⟨rfl, fun hd hc => Dev.mtimeMatch_is hd hc⟩, fun who w len hlen => ?_, fun op hop on hon => ?_⟩⟩
  · have h31 (lo k : Nat) (hk : lo + k ≤ 31) : bits (withBit w 31).toNat lo k = bits w.toNat lo k := bits_withBit_ne w (by decide) (.inr hk)
    have h29 (lo k : Nat) (hk : lo + k ≤ 29) : bits (withBit w 29).toNat lo k = bits w.toNat lo k := bits_withBit_ne w (by decide) (.inr hk)
    have hoff {i j : Nat} (hi : i < 32) (hne : i ≠ j) (hb : bits w.toNat j 1 = 0) : bitOf (withBit w i).toNat j = false := by
      rw [bitOf_withBit_ne w hi hne]
      exact bitNat_eq_zero.mp ((bits_one_eq _ _).symm.trans hb)
    subst hlen
    refine ⟨fun hres => Ends.of_act hup ?_, fun hres => Ends.of_act hup ?_, fun hres hb => Ends.of_act hup ?_, fun hres hb => Ends.of_act hup ?_⟩
    · have h := Dev.writeMbcmd_is (who := who.val) hup hres (bitOf_withBit_same w (by decide))
      rwa [h31 8 5 (by decide), h31 0 8 (by decide)] at h
    · have h := Dev.writeMbreply_is (who := who.val) hup hres (bitOf_withBit_same w (by decide))
      rwa [h31 8 5 (by decide), h31 16 8 (by decide)] at h
    · have h := Dev.writeMbmsg_go (who := who.val) hup hres (bitOf_withBit_same w (by decide)) (hoff (by decide) (by decide) hb)
      rwa [h31 8 5 (by decide), h31 0 8 (by decide)] at h
    · have h := Dev.writeMbmsg_ack (who := who.val) hup hres (hoff (by decide) (by decide) hb) (bitOf_withBit_same w (by decide))
      rwa [h29 8 5 (by decide)] at h
  · have hserves : on ↔ s.dev.serves := hon
    subst hop
    refine ⟨fun k c hc hno => ?_, fun h h1 => Ends.of_act hup (Dev.mbIdent_is (hserves.mp h) h1), fun h hor => Ends.of_act hup ?_,
      fun h h2 => Ends.of_act hup (Dev.mbErase_is (hserves.mp h) h2), fun h h3 => Ends.of_act hup (Dev.mbWrite_is (hserves.mp h) h3),
      fun h h4 => Ends.of_act hup ?_⟩
    · rw [hserves] at hno
      simp only [List.mem_cons, List.not_mem_nil, or_false, Prod.mk.injEq] at hc
      rcases hc with ⟨rfl, rfl⟩ | ⟨rfl, rfl⟩ | ⟨rfl, rfl⟩ | ⟨rfl, rfl⟩
      · refine Ends.of_act hup (Dev.mbServed_off (hno.imp_right fun hk => ?_) _)
        have hop : 2 ≤ s.dev.get F.STW_MBCMD_OPCODE ∧ s.dev.get F.STW_MBCMD_OPCODE ≤ 4 := by omega
        simp
        omega
      · exact Ends.of_act hup (Dev.mbServed_off (hno.imp_right fun hk => by simp; omega) _)
      · exact Ends.of_act hup (Dev.mbServed_off (hno.imp_right fun hk => by simp; omega) _)
      · exact Ends.of_act hup (Dev.mbServed_off (hno.imp_right fun hk => by simp; omega) _)
    · rw [Dev.mbIdent, Dev.mbServed_on (hserves.mp h) (by simp; omega), if_neg (by omega)]
    · rw [Dev.mbRestart, Dev.mbServed_on (hserves.mp h) (by simpa using h4)]
      rfl

end Sys2Proof.Machine

/-!
SUPPORT. Life-cycle requests and changes of state (chapter 19).
-/
namespace Sys2Proof.Machine

open Sys2Proof

/-! ### What reads of a guarded memory leave -/

@[simp] theorem Dev.injUse_aside (d : Dev) (k : Nat) : (d.injUse k).aside = d.aside := by
  simp [Dev.injUse, apply_ite Dev.aside]

@[simp] theorem Dev.memSet_aside (d : Dev) (m w : Nat) (e : EccWord) : (d.memSet m w e).aside = d.aside := rfl

@[simp] theorem Dev.setHeld_aside (d : Dev) (m : Nat) (h : Option (Nat × Nat)) : (d.setHeld m h).aside = d.aside := rfl

@[simp] theorem Dev.glean_aside (d : Dev) (m w syn req : Nat) : (d.glean m w syn req).aside = d.aside := by
  unfold Dev.glean
  split
  · simp
  · split
    · simp
    · simp [apply_ite Dev.aside]

@[simp] theorem Dev.memClass_aside (d : Dev) (m w syn req : Nat) : (d.memClass m w syn req).aside = d.aside := by
  unfold Dev.memClass
  split
  · rfl
  · split_ifs <;> simp
  · simp only
    split_ifs <;> simp [Dev.aside_ecc]

@[simp] theorem Dev.memPut_aside (d : Dev) (m w v : Nat) : (d.memPut m w v).aside = d.aside := by
  simp [Dev.memPut]

@[simp] theorem Dev.memRmw_aside (d : Dev) (m w b n v : Nat) : (d.memRmw m w b n v).aside = d.aside := by
  unfold Dev.memRmw
  simp only
  split <;> simp

@[simp] theorem Dev.performHeld_aside (d : Dev) (m : Nat) : (d.performHeld m).aside = d.aside := by
  unfold Dev.performHeld
  split <;> simp

@[simp] theorem Dev.yieldHeld_aside (d : Dev) (m w : Nat) : (d.yieldHeld m w).aside = d.aside := by
  unfold Dev.yieldHeld
  split
  · rfl
  · split_ifs <;> simp

theorem Dev.memLoad_aside (d : Dev) (m req w n : Nat) : (d.memLoad m req w n).1.aside = d.aside := by
  induction n generalizing d w with
  | zero => rfl
  | succ n ih => exact (ih _ _).trans (by simp [Dev.memRead])

theorem Dev.memBytes_aside (d : Dev) (m req a n : Nat) : (d.memBytes m req a n).1.aside = d.aside := by
  unfold Dev.memBytes
  split_ifs
  · rfl
  · exact d.memLoad_aside _ _ _ _

theorem Dev.key_of_aside {d e : Dev} (h : e.aside = d.aside) : e.key = d.key := congrArg (fun a => a.2.2.2.2.2.1) h

theorem Dev.fuse_of_aside {d e : Dev} (h : e.aside = d.aside) : e.fuse = d.fuse := congrArg (fun a => a.2.2.2.2.1) h

/-! ### Requests (R531 to R535, R538, R539) -/

theorem reqWord_toNat (w : Word) {t : Nat} (ht : t < 8) : (reqWord w t).toNat = 2 ^ 31 + (w.toNat % 2 ^ 31 / 8) * 8 + t := by
  rw [reqWord, BitVec.toNat_ofNat]
  exact Nat.mod_eq_of_lt (by omega)

theorem reqWord_target (w : Word) {t : Nat} (ht : t < 8) : bits (reqWord w t).toNat 0 3 = t := by
  rw [reqWord_toNat w ht, bits]
  omega

theorem reqWord_go (w : Word) {t : Nat} (ht : t < 8) : bitOf (reqWord w t).toNat 31 = true := by
  rw [reqWord_toNat w ht, bitOf, beq_iff_eq]
  omega

theorem reqWord_key (w : Word) {t : Nat} (ht : t < 8) : bits (reqWord w t).toNat 8 8 = bits w.toNat 8 8 := by
  rw [reqWord_toNat w ht, bits, bits]
  omega

theorem reqChecks_first : ∀ locked warn busy key pass digest fails cycles : Bool,
    firstByRank [(locked, .eLocked), (warn, .eState), (busy, .eBusy), (false, .eField), (key, .eField), (pass, .eState), (digest, .eState),
      (fails, .eLocked), (cycles, .eNores)] = if key then .eField else if locked || fails then .eLocked else if warn || pass || digest then .eState
        else if busy then .eBusy else if cycles then .eNores else .done := by decide

theorem Dev.only_writeLcsReq (d : Dev) (w : Word) : d.Only (d.writeRow .bar0 R.LCS_REQ 0 w) [F.LCS_REQ_GO, F.LCS_REQ_KEY, F.LCS_REQ_TARGET] :=
  d.only_writeRow .bar0 R.LCS_REQ 0 w

theorem Dev.writeLcsReq_gets (d : Dev) (w : Word) : (d.writeRow .bar0 R.LCS_REQ 0 w).get F.LCS_REQ_KEY = bits w.toNat 8 8 ∧
    (d.writeRow .bar0 R.LCS_REQ 0 w).get F.LCS_REQ_TARGET = bits w.toNat 0 3 :=
  ⟨d.writeRow_get (g := ⟨8, 8, .rw, fun _ => 0⟩) (by simp [R.LCS_REQ]) (by simp [R.LCS_REQ]) (.inl rfl),
    d.writeRow_get (g := ⟨0, 3, .rw, fun _ => 0⟩) (by simp [R.LCS_REQ]) (by simp [R.LCS_REQ]) (.inl rfl)⟩

theorem Dev.drawChal_is (d : Dev) : d.drawChal.key = d.key ∧ d.drawChal.fuse = d.fuse := by
  unfold Dev.drawChal
  split_ifs
  · have h := Dev.only_foldl (flds := fun i => [F.LCS_CHAL_CHAL i]) (fun x i => x.only_set (F.LCS_CHAL_CHAL i) (Config.fresh (d.free + i) 32).toNat)
      (List.range 4) d
    exact ⟨(congrArg (fun y : Dev => y.key) h.1 :), (congrArg (fun y : Dev => y.fuse) h.1 :)⟩
  · exact ⟨rfl, rfl⟩

/-- A request that has failed. -/
theorem Dev.reqFail_is (d : Dev) (st : Status) : (d.reqFail st).get F.LCS_REQ_BUSY = 0 ∧ (d.reqFail st).get F.LCS_REQ_STATUS = statusCode st % 256 ∧
    (d.reqFail st).get F.LCS_INT_REQFAIL = 1 ∧ (d.reqFail st).key = d.key ∧ (d.reqFail st).fuse = d.fuse := by
  obtain ⟨hkey, hfuse⟩ := ((d.set F.LCS_REQ_BUSY 0).set F.LCS_REQ_STATUS (statusCode st)).lcsEvent_keeps 1
  refine ⟨?_, ?_, Dev.raise_get_int _ _ _ _ _ _ (plainFld_of_fldId (by decide) (by decide) (by decide)) (by simp), hkey, hfuse⟩
  · exact (Dev.lcsEvent_get _ (by decide) (plainFld_of_fldId (by decide) (by decide) (by decide))).trans
      ((Dev.get_set_ne _ _ (by decide)).trans (Dev.get_set_same _ _ _))
  · exact (Dev.lcsEvent_get _ (by decide) (plainFld_of_fldId (by decide) (by decide) (by decide))).trans (Dev.get_set_same _ _ _)

theorem Dev.startTransition_is (d : Dev) (t : Life) : (d.startTransition t).get F.LCS_REQ_BUSY = 1 ∧
    (d.startTransition t).key = { d.key with trans := some t } ∧ d.Only { d.startTransition t with key := d.key } [F.LCS_REQ_BUSY] :=
  ⟨Dev.get_set_same _ _ _, rfl, d.only_set _ _⟩

/-- An unlock, by what the token's bytes are. -/
theorem Dev.unlock_is (d : Dev) : let e := d.unlock
    ∀ r, r = d.memBytes 1 1 (d.get F.LCS_UNLOCK_ADDR) 192 →
      (r.2.2 = none → r.1.tokenValid r.2.1 = true → e.get F.LCS_REQ_BUSY = 1 ∧ e.key.trans = some .develop) ∧
      (r.2.2 ≠ none ∨ r.1.tokenValid r.2.1 = false → e.get F.LCS_REQ_BUSY = 0 ∧ e.get F.LCS_REQ_STATUS = statusCode .eField ∧
        e.get F.LCS_INT_REQFAIL = 1 ∧ e.key.trans = d.key.trans ∧ e.key.fails = d.key.fails + 1) := by
  intro e r hr
  have hkey : r.1.key = d.key := by
    rw [hr]
    exact Dev.key_of_aside (d.memBytes_aside _ _ _ _)
  have he : e = if r.2.2.isNone && r.1.tokenValid r.2.1 then r.1.startTransition .develop
      else ({ r.1 with key := { r.1.key with fails := r.1.key.fails + 1 } } : Dev).drawChal.reqFail .eField := by rw [hr]; rfl
  clear_value e
  subst he
  refine ⟨fun hnone hvalid => ?_, fun h => ?_⟩
  · rw [hnone, hvalid, if_pos (by decide)]
    obtain ⟨hbusy, htrans, -⟩ := r.1.startTransition_is .develop
    exact ⟨hbusy, by rw [htrans]⟩
  · have hnot : ¬ (r.2.2.isNone && r.1.tokenValid r.2.1) = true := by
      simp only [Bool.and_eq_true, Option.isNone_iff_eq_none, not_and_or, Bool.not_eq_true]
      exact h
    rw [if_neg hnot]
    obtain ⟨ckey, -⟩ := ({ r.1 with key := { r.1.key with fails := r.1.key.fails + 1 } } : Dev).drawChal_is
    generalize ({ r.1 with key := { r.1.key with fails := r.1.key.fails + 1 } } : Dev).drawChal = y at *
    obtain ⟨hbusy, hst, hint, hk, -⟩ := y.reqFail_is .eField
    exact ⟨hbusy, hst, hint, by rw [hk, ckey, ← hkey], by rw [hk, ckey, ← hkey]⟩

theorem lifeOf_develop {t : Nat} (h1 : 1 ≤ t) (h4 : t ≤ 4) : lifeOf t = .develop ↔ t = 1 := by
  obtain rfl | rfl | rfl | rfl : t = 1 ∨ t = 2 ∨ t = 3 ∨ t = 4 := by omega
  all_goals decide

theorem lifeOf_deployed {t : Nat} (h1 : 1 ≤ t) (h4 : t ≤ 4) : lifeOf t = .deployed ↔ t = 2 := by
  obtain rfl | rfl | rfl | rfl : t = 1 ∨ t = 2 ∨ t = 3 ∨ t = 4 := by omega
  all_goals decide

/-- What a request that passes leaves (R531, R534). -/
theorem Dev.requestPassed_is {d x : Dev} {t : Nat} (h1 : 1 ≤ t) (h4 : t ≤ 4) (hkey : x.key = d.key) :
    let e := if lifeOf t = .develop then x.unlock else x.startTransition (lifeOf t)
    (t ≠ 1 → e.get F.LCS_REQ_BUSY = 1 ∧ e.key = { d.key with trans := some (lifeOf t) } ∧ x.Only { e with key := x.key } [F.LCS_REQ_BUSY]) ∧
    (t = 1 → ∀ r, r = x.memBytes 1 1 (x.get F.LCS_UNLOCK_ADDR) 192 →
      (r.2.2 = none → r.1.tokenValid r.2.1 = true → e.get F.LCS_REQ_BUSY = 1 ∧ e.key.trans = some .develop) ∧
      (r.2.2 ≠ none ∨ r.1.tokenValid r.2.1 = false → e.get F.LCS_REQ_BUSY = 0 ∧ e.get F.LCS_REQ_STATUS = statusCode .eField ∧
        e.get F.LCS_INT_REQFAIL = 1 ∧ e.key.trans = d.key.trans ∧ e.key.fails = d.key.fails + 1)) := by
  simp only
  refine ⟨fun hne => ?_, fun heq => ?_⟩
  · rw [if_neg (fun h => hne ((lifeOf_develop h1 h4).mp h)), ← hkey]
    exact x.startTransition_is _
  · rw [if_pos ((lifeOf_develop h1 h4).mpr heq), ← hkey]
    exact x.unlock_is

theorem Dev.writeLcsReq_is {d : Dev} {w v : Word} {t : Nat} (hup : d.up = true) (hres : setsReserved R.LCS_REQ v = false)
    (hgo : bitOf v.toNat 31 = true) (ht : bits v.toNat 0 3 = t) (hv : bits v.toNat 8 8 = bits w.toNat 8 8) (h1 : 1 ≤ t) (h4 : t ≤ 4) :
    let e := d.writeLcsReq v
    if bits w.toNat 8 8 ≠ 0xA5 then RecordedGlb d e 0x17020 .eField
    else if d.is F.LCS_CTRL_LOCK = true ∨ (d.fuse.life = .reclaim ∧ t = 1 ∧ 4 ≤ d.key.fails) then RecordedGlb d e 0x17020 .eLocked
    else if d.is F.SUP_STAT_WARN = true ∨ mayPass d.fuse.life (lifeOf t) = false ∨
      (d.fuse.life = .develop ∧ t = 2 ∧ (d.fuseField 1).prog = false) then RecordedGlb d e 0x17020 .eState
    else if d.lcsBusy = true then RecordedGlb d e 0x17020 .eBusy
    else if d.fuse.life = .reclaim ∧ t = 1 ∧ 3 ≤ d.fuse.cycle then RecordedGlb d e 0x17020 .eNores
    else ∃ x : Dev, x.get F.LCS_REQ_KEY = 0xA5 ∧ x.get F.LCS_REQ_TARGET = t ∧ x.get F.LCS_REQ_GO = 0 ∧
      d.Only x [F.LCS_REQ_KEY, F.LCS_REQ_TARGET, F.LCS_REQ_GO] ∧
      (t ≠ 1 → e.get F.LCS_REQ_BUSY = 1 ∧ e.key = { d.key with trans := some (lifeOf t) } ∧ x.Only { e with key := x.key } [F.LCS_REQ_BUSY]) ∧
      (t = 1 → ∀ r, r = x.memBytes 1 1 (x.get F.LCS_UNLOCK_ADDR) 192 →
        (r.2.2 = none → r.1.tokenValid r.2.1 = true → e.get F.LCS_REQ_BUSY = 1 ∧ e.key.trans = some .develop) ∧
        (r.2.2 ≠ none ∨ r.1.tokenValid r.2.1 = false → e.get F.LCS_REQ_BUSY = 0 ∧ e.get F.LCS_REQ_STATUS = statusCode .eField ∧
          e.get F.LCS_INT_REQFAIL = 1 ∧ e.key.trans = d.key.trans ∧ e.key.fails = d.key.fails + 1)) := by
  have hfirst : firstByRank ((setsReserved R.LCS_REQ v, .eField) :: (d.changesLocked .bar0 R.LCS_REQ 0 v, .eLocked) :: (d.lcsClosed ++
      [(decide (4 < t), .eField), (bits w.toNat 8 8 != 0xA5 && (true || bits w.toNat 8 8 != d.get F.LCS_REQ_KEY), .eField),
       (true && !mayPass d.fuse.life (lifeOf t), .eState),
       (true && d.fuse.life == .develop && lifeOf t == .deployed && !(d.fuseField 1).prog, .eState),
       (true && (d.fuse.life == .reclaim && lifeOf t == .develop) && decide (4 ≤ d.key.fails), .eLocked),
       (true && (d.fuse.life == .reclaim && lifeOf t == .develop) && decide (3 ≤ d.fuse.cycle), .eNores)])) =
      if bits w.toNat 8 8 ≠ 0xA5 then .eField
      else if d.is F.LCS_CTRL_LOCK = true ∨ (d.fuse.life = .reclaim ∧ t = 1 ∧ 4 ≤ d.key.fails) then .eLocked
      else if d.is F.SUP_STAT_WARN = true ∨ mayPass d.fuse.life (lifeOf t) = false ∨
        (d.fuse.life = .develop ∧ t = 2 ∧ (d.fuseField 1).prog = false) then .eState
      else if d.lcsBusy = true then .eBusy
      else if d.fuse.life = .reclaim ∧ t = 1 ∧ 3 ≤ d.fuse.cycle then .eNores else .done := by
    have hfield : decide (4 < t) = false := decide_eq_false (by omega)
    rw [firstByRank_own hres rfl, hfield]
    refine (reqChecks_first (d.is F.LCS_CTRL_LOCK) (d.is F.SUP_STAT_WARN) d.lcsBusy
      (bits w.toNat 8 8 != 0xA5 && (true || bits w.toNat 8 8 != d.get F.LCS_REQ_KEY)) (true && !mayPass d.fuse.life (lifeOf t))
      (true && d.fuse.life == .develop && lifeOf t == .deployed && !(d.fuseField 1).prog)
      (true && (d.fuse.life == .reclaim && lifeOf t == .develop) && decide (4 ≤ d.key.fails))
      (true && (d.fuse.life == .reclaim && lifeOf t == .develop) && decide (3 ≤ d.fuse.cycle))).trans ?_
    simp only [Bool.true_or, Bool.and_true, Bool.true_and, Bool.and_eq_true, Bool.or_eq_true, Bool.not_eq_true', beq_iff_eq, bne_iff_ne,
      decide_eq_true_eq, or_assoc, and_assoc, lifeOf_develop h1 h4, lifeOf_deployed h1 h4]
  unfold Dev.writeLcsReq
  simp only [hgo, ht, hv]
  by_cases hkey : bits w.toNat 8 8 ≠ 0xA5
  · rw [if_pos hkey] at hfirst ⊢
    exact recordedGlb_of_rejected hup (by decide) hfirst
  rw [if_neg hkey] at hfirst ⊢
  by_cases hlock : d.is F.LCS_CTRL_LOCK = true ∨ (d.fuse.life = .reclaim ∧ t = 1 ∧ 4 ≤ d.key.fails)
  · rw [if_pos hlock] at hfirst ⊢
    exact recordedGlb_of_rejected hup (by decide) hfirst
  rw [if_neg hlock] at hfirst ⊢
  by_cases hstate : d.is F.SUP_STAT_WARN = true ∨ mayPass d.fuse.life (lifeOf t) = false ∨
      (d.fuse.life = .develop ∧ t = 2 ∧ (d.fuseField 1).prog = false)
  · rw [if_pos hstate] at hfirst ⊢
    exact recordedGlb_of_rejected hup (by decide) hfirst
  rw [if_neg hstate] at hfirst ⊢
  by_cases hbusy : d.lcsBusy = true
  · rw [if_pos hbusy] at hfirst ⊢
    exact recordedGlb_of_rejected hup (by decide) hfirst
  rw [if_neg hbusy] at hfirst ⊢
  by_cases hnores : d.fuse.life = .reclaim ∧ t = 1 ∧ 3 ≤ d.fuse.cycle
  · rw [if_pos hnores] at hfirst ⊢
    exact recordedGlb_of_rejected hup (by decide) hfirst
  rw [if_neg hnores] at hfirst ⊢
  rw [Dev.regWrite_done hup hfirst]
  have honly := d.only_writeLcsReq v
  obtain ⟨hk, htgt⟩ := d.writeLcsReq_gets v
  generalize d.writeRow .bar0 R.LCS_REQ 0 v = x at *
  have hx : d.Only (x.set F.LCS_REQ_GO 0) [F.LCS_REQ_KEY, F.LCS_REQ_TARGET, F.LCS_REQ_GO] := (honly.trans (x.only_set F.LCS_REQ_GO 0)).mono (by simp)
  have hx5 : (x.set F.LCS_REQ_GO 0).get F.LCS_REQ_KEY = 0xA5 := (Dev.get_set_ne _ _ (by decide)).trans (hk.trans (hv.trans (not_not.mp hkey)))
  have hxt : (x.set F.LCS_REQ_GO 0).get F.LCS_REQ_TARGET = t := (Dev.get_set_ne _ _ (by decide)).trans (htgt.trans ht)
  have hx0 : (x.set F.LCS_REQ_GO 0).get F.LCS_REQ_GO = 0 := Dev.get_set_same _ _ _
  rw [if_neg (by decide)]
  generalize x.set F.LCS_REQ_GO 0 = y at *
  have hykey := congrArg (fun z : Dev => z.key) hx.1
  exact ⟨y, hx5, hxt, hx0, hx, Dev.requestPassed_is h1 h4 hykey⟩

/-! ### The life-cycle change reset (R532, R542) -/

/-- A fault event of a unit that is never fenced, beside the records and the alert pins. -/
theorem Dev.fault_heard {d : Dev} {u i : Nat} (hk : unitKind u = none) :
    d.Heard { d.fault u i with urec := d.urec, alert := d.alert } [F.ALT_CFG_STATE 0, F.ALT_CFG_STATE 1, bitFld 0x15004 3] := by
  have hu : u ≠ 0x246 := by
    rintro rfl
    exact absurd hk (by decide)
  have halert (x : Dev) (severe : Bool) (hx : d.Heard { x with urec := d.urec, alert := d.alert } [bitFld 0x15004 3]) :
      d.Heard { x.alerts i severe with urec := d.urec, alert := d.alert } [F.ALT_CFG_STATE 0, F.ALT_CFG_STATE 1, bitFld 0x15004 3] := by
    obtain ⟨heq, hget⟩ := x.alerts_alerted i severe
    generalize x.alerts i severe = y at *
    have hy : ({ y with urec := d.urec, alert := d.alert } : Dev) = { x with fld := y.fld, urec := d.urec, alert := d.alert } :=
      (congrArg (fun z : Dev => { z with urec := d.urec, alert := d.alert }) heq :)
    rw [hy]
    obtain ⟨xeq, xget⟩ := hx
    refine ⟨(congrArg (fun z : Dev => { z with fld := y.fld }) xeq :), fun g hp hg => ?_⟩
    exact (hget g fun f hf => hg f (List.mem_append_left [bitFld 0x15004 3] hf)).trans (xget g hp fun f hf =>
      hg f (List.mem_cons_of_mem _ (List.mem_cons_of_mem _ hf)))
  by_cases hc : d.get (F.FLT_SRC_CLASS i) = 0
  · rw [Dev.fault, if_pos hc]
    exact Dev.Heard.refl d _
  have hmay : (d.recordFault u i).get (F.FLT_SRC_CLASS i) ≠ 2 ∨ (d.recordFault u i).mayFence u = false := .inr (by rw [Dev.mayFence, hk])
  rw [Dev.fault_eq hu hc, Dev.severe_alone hu hmay]
  by_cases hf : (d.urecOf u).fenced = true
  · rw [if_pos hf]
    exact halert _ _ (Dev.Heard.refl d _)
  rw [if_neg hf]
  by_cases hn : d.get (F.FLT_SRC_N i) ≤ mapGet 0 (d.urecOf u).wins i + 1
  · rw [if_pos hn]
    refine halert _ _ ?_
    obtain ⟨x, hx⟩ : ∃ x, x = (d.recordFault u i).setRec u
      { (d.recordFault u i).urecOf u with sev := true, wins := mapErase ((d.recordFault u i).urecOf u).wins i } := ⟨_, rfl⟩
    have hxd : ({ x with urec := d.urec, alert := d.alert } : Dev) = d := by rw [hx]; rfl
    have hxget (g : Fld) : x.get g = d.get g := by rw [hx]; rfl
    rw [← hx]
    obtain ⟨yeq, yget⟩ := Dev.heard_raise x (bitFld 0x15004 3) (0x1600 + 3) (x.fltRecipients u) u i (x.urecOf u).fcnt
    have he : x.fltEvent 3 u i = x.raise (bitFld 0x15004 3) (0x1600 + 3) (x.fltRecipients u) u i (x.urecOf u).fcnt := rfl
    rw [he]
    generalize x.raise (bitFld 0x15004 3) (0x1600 + 3) (x.fltRecipients u) u i (x.urecOf u).fcnt = y at *
    refine ⟨?_, fun g hp hg => (yget g hp hg).trans (hxget g)⟩
    have h1 : ({ y with urec := d.urec, alert := d.alert } : Dev) = { ({ x with urec := d.urec, alert := d.alert } : Dev) with
      fld := y.fld, lar := y.lar, strm := y.strm } := (congrArg (fun z : Dev => { z with urec := d.urec, alert := d.alert }) yeq :)
    rw [h1, hxd]
  · rw [if_neg hn]
    exact halert _ _ (Dev.Heard.refl d _)

/-- A transition that the readback shows outlives the cut of what else is being blown. -/
theorem Dev.cutFuses_life {d : Dev} (ht : d.key.trans = none) : d.cutFuses.fuse.life = d.fuse.life ∧ d.cutFuses.fuse.cycle = d.fuse.cycle := by
  unfold Dev.cutFuses
  rw [ht]
  simp only
  cases d.key.prog with
  | none => exact ⟨rfl, rfl⟩
  | some p =>
    obtain ⟨-, hlife, hcycle⟩ := d.blowField_keeps p.1 p.2 true
    exact ⟨hlife, hcycle⟩

theorem Dev.wholeReset_life {d : Dev} (ht : d.key.trans = none) (keep : Bool) : (d.wholeReset keep).fuse.life = d.fuse.life ∧
    (d.wholeReset keep).fuse.cycle = d.fuse.cycle := by
  obtain ⟨n, m, f, hj⟩ := d.cutJobs_eq
  obtain ⟨hlife, hcycle⟩ := Dev.cutFuses_life (d := d.cutJobs) (by rw [hj]; exact ht)
  have hfuse : (d.wholeReset keep).fuse = d.cutJobs.cutFuses.fuse := by
    rw [d.wholeReset_eq, (d.bareReset keep).only_showFuses.1]
    rfl
  rw [hfuse, hlife, hcycle, hj]
  exact ⟨rfl, rfl⟩

/-- The release of a reset, as far as a warning may not change it. -/
theorem Dev.release_keeps {d : Dev} (sag : Bool) (hact : d.get F.RAT_STAT_ACTIVE = 0) (hend : d.rat.ended = none) : (d.release sag).fuse = d.fuse ∧
    (d.release sag).pow = { d.pow with state := .railUp, railEn := true } ∧
    (d.release sag).get F.SUP_RSTCAUSE_LCS = d.get F.SUP_RSTCAUSE_LCS := by
  have hrel := released_release d sag
  generalize d.release sag = e at *
  unfold Released at hrel
  split_ifs at hrel with hs
  · obtain ⟨y, rfl, -, honly⟩ := hrel
    obtain ⟨yeq, yget⟩ := (honly.heard.trans ((y.only_setBit F.STW_SUPEV_EV 0 true).heard.trans
      (Dev.heard_notifyAll _ d.railsUp.tenants (0x100 + 0) 0 0 0)))
    have hsup : y.supEvent 0 d.railsUp.tenants 0 0 = (y.setBit F.STW_SUPEV_EV 0 true).notifyAll d.railsUp.tenants (0x100 + 0) 0 0 0 := rfl
    rw [hsup]
    generalize (y.setBit F.STW_SUPEV_EV 0 true).notifyAll d.railsUp.tenants (0x100 + 0) 0 0 0 = z at *
    obtain ⟨weq, wget⟩ := z.fault_heard (u := 0x240) (i := 51) (by decide)
    generalize z.fault 0x240 51 = w at *
    have hrat : w.rat = d.rat := (congrArg (fun x : Dev => x.rat) weq :).trans (congrArg (fun x : Dev => x.rat) yeq :)
    have hlow {g : Fld} (hp : PlainFld g) (hg : ∀ f ∈ [F.ALT_CFG_STATE 0, F.ALT_CFG_STATE 1, bitFld 0x15004 3, F.SUP_STAT_WARN, F.STW_SUPEV_EV],
        fldId f ≠ fldId g) : w.get g = d.get g := by
      refine (wget g hp fun f hf => hg f ?_).trans (yget g hp fun f hf => hg f ?_)
      · exact List.mem_append_left [F.SUP_STAT_WARN, F.STW_SUPEV_EV] hf
      · refine List.mem_append_right [F.ALT_CFG_STATE 0, F.ALT_CFG_STATE 1, bitFld 0x15004 3] ?_
        simpa using hf
    have htrip : w.ratTrip = w := by
      have hoff : w.is F.RAT_STAT_ACTIVE = false := by
        rw [Dev.is, hlow (plainFld_of_low (by decide)) (by decide), hact]
        rfl
      rw [Dev.ratTrip, hoff, hrat, hend]
      rfl
    rw [htrip]
    exact ⟨(congrArg (fun x : Dev => x.fuse) weq :).trans (congrArg (fun x : Dev => x.fuse) yeq :),
      (congrArg (fun x : Dev => x.pow) weq :).trans (congrArg (fun x : Dev => x.pow) yeq :), hlow (plainFld_of_low (by decide)) (by decide)⟩
  · subst hrel
    exact ⟨rfl, rfl, rfl⟩

/-- The life-cycle change reset leaves the new state, and the rails coming up (Table 19.4). -/
theorem Dev.lifeReset_is {d : Dev} (sag : Bool) (ht : d.key.trans = none) : let e := d.lifeReset sag
    e.fuse.life = d.fuse.life ∧ e.pow.state = .railUp ∧ e.pow.railEn = true ∧ e.get F.SUP_RSTCAUSE_LCS = 1 ∧ e.fuse.cycle = d.fuse.cycle := by
  obtain ⟨hlife, hcycle⟩ := Dev.wholeReset_life ht true
  obtain ⟨heq, hcause, hget, -, -⟩ := afterReset_held d true (c := F.SUP_RSTCAUSE_LCS) rfl
  have hfuse : ((d.wholeReset true).set F.SUP_RSTCAUSE_LCS 1).fuse = (d.wholeReset true).fuse := Dev.set_fuse ..
  unfold Dev.lifeReset
  generalize (d.wholeReset true).set F.SUP_RSTCAUSE_LCS 1 = x at *
  have hact : x.get F.RAT_STAT_ACTIVE = 0 := (hget _ (by decide)).trans (if_neg (by decide))
  have hend : x.rat.ended = none := congrArg (fun y : Dev => y.rat.ended) heq
  obtain ⟨efuse, epow, ecause⟩ := Dev.release_keeps sag hact hend
  generalize x.release sag = e at *
  exact ⟨by rw [efuse, hfuse]; exact hlife, by rw [epow], by rw [epow], by rw [ecause]; exact hcause _ (by simp), by rw [efuse, hfuse]; exact hcycle⟩

theorem Dev.fusesBlown_ok {d : Dev} {t : Life} (sag : Bool) (h : d.key.trans = some t) : let e := d.fusesBlown true sag
    e.fuse.life = t ∧ e.pow.state = .railUp ∧ e.pow.railEn = true ∧ e.get F.SUP_RSTCAUSE_LCS = 1 ∧
    e.fuse.cycle = (if d.fuse.life = .reclaim ∧ t = .develop then d.fuse.cycle + 1 else d.fuse.cycle) := by
  have he : d.fusesBlown true sag = (({ d with key := { d.key with trans := none } } : Dev).blowState t).lifeReset sag := by
    simp only [Dev.fusesBlown, h, if_true]
  rw [he]
  exact Dev.lifeReset_is sag rfl

theorem Dev.fusesBlown_fail {d : Dev} {t : Life} (sag : Bool) (h : d.key.trans = some t) : let e := d.fusesBlown false sag
    e.key.trans = none ∧ e.fuse = d.fuse ∧ e.get F.LCS_REQ_BUSY = 0 ∧ e.get F.LCS_REQ_STATUS = statusCode .eInternal ∧
    e.get F.LCS_INT_REQFAIL = 1 := by
  obtain ⟨x, hx⟩ : ∃ x : Dev, x = { d with key := { d.key with trans := none } } := ⟨_, rfl⟩
  obtain ⟨y, hy⟩ : ∃ y : Dev, y = if t = .develop then x.drawChal else x := ⟨_, rfl⟩
  have he : d.fusesBlown false sag = y.reqFail .eInternal := by
    rw [hy, hx]
    simp only [Dev.fusesBlown, h, Bool.false_eq_true, if_false]
  have hkeep : y.key = x.key ∧ y.fuse = x.fuse := by
    rw [hy]
    split_ifs
    · exact x.drawChal_is
    · exact ⟨rfl, rfl⟩
  obtain ⟨hkey, hfuse⟩ := hkeep
  obtain ⟨hbusy, hst, hint, ekey, efuse⟩ := y.reqFail_is .eInternal
  simp only
  rw [he, ekey, efuse, hkey, hfuse, hx]
  exact ⟨rfl, rfl, hbusy, hst, hint⟩

/-- Settles O59: what a request is checked for, first in the order of R328, what a passing one leaves, and each end of a blowing of fuses. -/
theorem lifeCycleRequests : Obligations.LifeCycleRequests := by
  unfold Obligations.LifeCycleRequests
  refine fun s hup => ⟨fun w t c hc hres => ?_, Ends.of_act hup ?_, fun ok sag hnone => Ends.of_act hup (by simp only [Dev.fusesBlown, hnone]),
    fun t sag h => ⟨Ends.of_act hup (Dev.fusesBlown_ok sag h), Ends.of_act hup (Dev.fusesBlown_fail sag h)⟩⟩
  · have ht : 1 ≤ t ∧ t ≤ 4 ∧ exec c s = act s fun d => d.writeLcsReq (reqWord w t) := by
      simp only [List.mem_cons, List.not_mem_nil, or_false, Prod.mk.injEq] at hc
      rcases hc with ⟨rfl, rfl⟩ | ⟨rfl, rfl⟩ | ⟨rfl, rfl⟩ | ⟨rfl, rfl⟩ <;> exact ⟨by decide, by decide, rfl⟩
    obtain ⟨h1, h4, hexec⟩ := ht
    rw [hexec]
    have hlt : t < 8 := by omega
    have hw := Dev.writeLcsReq_is hup hres (reqWord_go w hlt) (reqWord_target w hlt) (reqWord_key w hlt) h1 h4
    exact Ends.of_act hup hw
  · unfold Dev.blankToDevelop
    simp only [Bool.and_eq_true, Bool.not_eq_true', beq_iff_eq, and_assoc]
    split_ifs
    · exact s.dev.startTransition_is .develop
    · rfl

end Sys2Proof.Machine

/-!
SUPPORT. Guarded memories: what reads, stores and held stores do to the words.
-/
namespace Sys2Proof.Machine

open Sys2Proof

/-! ### What queueing event entries never does -/

/-- From `d` to `e` no injection has been armed (R467). -/
def Dev.ArmsNone (d e : Dev) : Prop := d.is F.ECC_INJ_ARM = false → e.is F.ECC_INJ_ARM = false

theorem Dev.ArmsNone.refl (d : Dev) : d.ArmsNone d := id

theorem Dev.ArmsNone.trans {d e x : Dev} (h : d.ArmsNone e) (k : e.ArmsNone x) : d.ArmsNone x := k ∘ h

/-- A register field other than ECC_INJ.ARM arms nothing. -/
theorem Dev.armsNone_set (d : Dev) {f : Fld} (v : Nat) (hf : fldId f ≠ fldId F.ECC_INJ_ARM) : d.ArmsNone (d.set f v) :=
  fun h => by rwa [Dev.is, Dev.get_set_ne _ _ hf]

theorem Dev.armsNone_injUse (d : Dev) (k : Nat) : d.ArmsNone (d.injUse k) := by
  have hcount := d.armsNone_set (f := F.ECC_INJ_COUNT) (d.get F.ECC_INJ_COUNT - k) (by decide)
  unfold Dev.injUse
  simp only
  split_ifs
  · exact .refl d
  · exact hcount.trans fun _ => by rw [Dev.is, Dev.get_set_same]; rfl
  · exact hcount

theorem Dev.armsNone_of {d e : Dev} (hfld : e.fld = d.fld) : d.ArmsNone e := fun h => by
  simpa only [Dev.is, Dev.get, hfld] using h

theorem Dev.armsNone_linkWrite (d : Dev) (c : Nat) : d.ArmsNone (d.linkWrite c) := by
  unfold Dev.linkWrite
  simp only
  split_ifs
  · exact d.armsNone_injUse _
  · exact (d.armsNone_injUse _).trans (Dev.armsNone_of rfl)
  · exact d.armsNone_injUse _
  · exact (d.armsNone_injUse _).trans (Dev.armsNone_of rfl)

theorem Dev.armsNone_giveCells (d : Dev) (l : List Nat) : d.ArmsNone (d.giveCells l) := by
  induction l generalizing d with
  | nil => exact .refl d
  | cons c l ih =>
    have hbank : d.ArmsNone (d.setBank (c / 4096) (d.bankFree (c / 4096) ++ [(c % 4096, c % 4096 + 1)])) := Dev.armsNone_of rfl
    exact (hbank.trans (Dev.armsNone_linkWrite _ c)).trans (ih _)

theorem Dev.armsNone_leakBank (d : Dev) (b : Nat) : d.ArmsNone (d.leakBank b) := by
  have hset : d.ArmsNone ((d.setBank b []).set F.LAR_LEAK_COUNT (d.get F.LAR_LEAK_COUNT + spanCells (d.bankFree b))) :=
    (Dev.armsNone_of rfl : d.ArmsNone (d.setBank b [])).trans (Dev.armsNone_set _ _ (by decide))
  exact hset.trans (Dev.armsNone_of rfl)

theorem Dev.armsNone_takeCell {d : Dev} {n c : Nat} {e : Dev} (h : d.takeCell n = some (c, e)) : d.ArmsNone e := by
  induction n generalizing d with
  | zero => simp [Dev.takeCell] at h
  | succ n ih =>
    simp only [Dev.takeCell] at h
    split_ifs at h
    split at h
    · cases h
    · split at h
      · obtain ⟨-, rfl⟩ := Prod.mk.inj (Option.some.inj h)
        exact (Dev.armsNone_of rfl : d.ArmsNone (d.setBank _ _)).trans (Dev.armsNone_linkWrite _ _)
      · obtain ⟨-, rfl⟩ := Prod.mk.inj (Option.some.inj h)
        exact ((Dev.armsNone_of rfl : d.ArmsNone (d.setBank _ _)).trans (Dev.armsNone_linkWrite _ _)).trans (Dev.armsNone_of rfl)
      · exact (d.armsNone_leakBank _).trans (ih h)

theorem Dev.armsNone_takeCells {d : Dev} {k : Nat} {l : List Nat} {e : Dev} (h : d.takeCells k = some (l, e)) : d.ArmsNone e := by
  induction k generalizing d l e with
  | zero =>
    obtain ⟨-, rfl⟩ := Prod.mk.inj (Option.some.inj h)
    exact .refl d
  | succ k ih =>
    simp only [Dev.takeCells] at h
    split at h
    · cases h
    · rename_i c d' hc
      split at h
      · cases h
      · rename_i l' d'' hl
        obtain ⟨-, rfl⟩ := Prod.mk.inj (Option.some.inj h)
        exact (Dev.armsNone_takeCell hc).trans (ih hl)

theorem Dev.armsNone_storeCells (d : Dev) (l : List Nat) (len : Nat) : d.ArmsNone (d.storeCells l len).1 := by
  induction l generalizing d len with
  | nil => exact .refl d
  | cons c l ih => exact (d.armsNone_injUse _).trans (ih _ _)

theorem Dev.armsNone_countLost (d : Dev) (q n : Nat) : d.ArmsNone (d.countLost q n) := by
  have hlost : fldId (F.QUE_W2_LOST q) ≠ fldId F.ECC_INJ_ARM := by simp only [fldId, F.QUE_W2_LOST, F.ECC_INJ_ARM]; omega
  have hsat : fldId (F.QUE_W1_LOSTSAT q) ≠ fldId F.ECC_INJ_ARM := by simp only [fldId, F.QUE_W1_LOSTSAT, F.ECC_INJ_ARM]; omega
  unfold Dev.countLost Dev.countLostAs
  by_cases hn : n = 0
  · rw [if_pos hn]
    exact .refl d
  · rw [if_neg hn]
    simp only
    obtain ⟨x, hx⟩ : ∃ x, x = if d.get (F.QUE_W2_LOST q) + n < 2 ^ 32 - 1 then d.set (F.QUE_W2_LOST q) (d.get (F.QUE_W2_LOST q) + n)
      else (d.set (F.QUE_W2_LOST q) (2 ^ 32 - 1)).set (F.QUE_W1_LOSTSAT q) 1 := ⟨_, rfl⟩
    have hcounted : d.ArmsNone x := by
      rw [hx]
      split_ifs
      · exact d.armsNone_set _ hlost
      · exact (d.armsNone_set _ hlost).trans (Dev.armsNone_set _ _ hsat)
    rw [← hx]
    split_ifs
    · exact (hcounted.trans (Dev.armsNone_of rfl)).trans (Dev.armsNone_of rfl)
    · exact hcounted.trans (Dev.armsNone_of rfl)

theorem Dev.armsNone_removeItem (d : Dev) (q j : Nat) : d.ArmsNone (d.removeItem q j) := by
  unfold Dev.removeItem
  split
  · exact .refl d
  · rename_i it _
    have hgiven : d.ArmsNone ((d.setItems q ((d.items q).eraseIdx j)).giveCells it.cells) :=
      (Dev.armsNone_of rfl : d.ArmsNone (d.setItems q _)).trans (Dev.armsNone_giveCells _ _)
    simp only
    split_ifs <;> exact hgiven.trans (Dev.armsNone_of rfl)

theorem Dev.armsNone_makeRoom {d : Dev} {q k prio n : Nat} {e : Dev} {m : Nat} (h : d.makeRoom q k prio n = some (e, m)) : d.ArmsNone e := by
  induction n generalizing d e m with
  | zero =>
    simp only [Dev.makeRoom] at h
    split_ifs at h
    obtain ⟨rfl, -⟩ := Prod.mk.inj (Option.some.inj h)
    exact .refl d
  | succ n ih =>
    simp only [Dev.makeRoom] at h
    split_ifs at h
    · obtain ⟨rfl, -⟩ := Prod.mk.inj (Option.some.inj h)
      exact .refl d
    · split at h
      · cases h
      · split at h
        · cases h
        · rename_i d' m' hm
          obtain ⟨rfl, -⟩ := Prod.mk.inj (Option.some.inj h)
          exact (d.armsNone_removeItem q _).trans (ih hm)

theorem Dev.armsNone_putItem {d : Dev} {q k : Nat} {data : List Byte} {prio stamp : Nat} {bad : Nat → Bool} {e : Dev}
    (h : d.putItem q k data prio stamp bad = some e) : d.ArmsNone e := by
  unfold Dev.putItem at h
  split at h
  · cases h
  · rename_i cs d2 ht
    obtain rfl := Option.some.inj h
    exact ((Dev.armsNone_takeCells ht).trans (Dev.armsNone_storeCells _ _ _)).trans (Dev.armsNone_of rfl)

theorem Dev.armsNone_enqueueN (q : Nat) (data : List Byte) (prio stamp : Nat) (bad : Nat → Bool) (f : Nat) (d : Dev) (m : Nat) :
    d.ArmsNone (Dev.enqueueN q data prio stamp bad f d m).1 := by
  induction f generalizing d m with
  | zero => exact d.armsNone_countLost q (m + 1)
  | succ f ih =>
    simp only [Dev.enqueueN]
    split
    · exact d.armsNone_countLost q (m + 1)
    · rename_i d1 n hm
      have h1 := Dev.armsNone_makeRoom hm
      split
      · exact (h1.trans (d1.armsNone_leakBank _)).trans (ih _ _)
      · split
        · exact h1.trans (d1.armsNone_countLost q (m + n + 1))
        · rename_i d2 hp
          exact (h1.trans (Dev.armsNone_putItem hp)).trans (d2.armsNone_countLost q (m + n))

theorem Dev.armsNone_notify (d : Dev) (t code inst arg count : Nat) : d.ArmsNone (d.notify t code inst arg count) := by
  unfold Dev.notify
  split_ifs
  · exact .refl d
  · exact .refl d
  · exact Dev.armsNone_enqueueN _ _ _ _ _ _ _ _

theorem Dev.armsNone_raise (d : Dev) {int : Fld} (code : Nat) (ts : List Nat) (inst arg count : Nat) (hint : fldId int ≠ fldId F.ECC_INJ_ARM) :
    d.ArmsNone (d.raise int code ts inst arg count) := by
  have hall (x : Dev) : x.ArmsNone (x.notifyAll ts code inst arg count) := by
    induction ts generalizing x with
    | nil => exact .refl x
    | cons t l ih => exact (x.armsNone_notify t _ _ _ _).trans (ih _)
  exact (d.armsNone_set 1 hint).trans (hall _)

/-! ### What a checked read leaves (R456, R465, R466) -/

/-- From `d` to `e` the words and the held stores of the guarded memories stand, and no injection has been armed. -/
def Dev.WordsStand (d e : Dev) : Prop :=
  e.ecc = { d.ecc with spacing := e.ecc.spacing, partPoison := e.ecc.partPoison } ∧ d.ArmsNone e

theorem Dev.WordsStand.refl (d : Dev) : d.WordsStand d := ⟨rfl, .refl d⟩

theorem Dev.WordsStand.trans {d e x : Dev} (h : d.WordsStand e) (k : e.WordsStand x) : d.WordsStand x := by
  obtain ⟨h1, h2⟩ := h
  obtain ⟨k1, k2⟩ := k
  exact ⟨by rw [k1, h1], h2.trans k2⟩

theorem Dev.WordsStand.memWord {d e : Dev} (h : d.WordsStand e) (m w : Nat) : e.memWord m w = d.memWord m w := by
  simp only [Dev.memWord, Dev.mem]
  rw [h.1]

theorem Dev.WordsStand.heldAt {d e : Dev} (h : d.WordsStand e) (m : Nat) : e.heldAt m = d.heldAt m := by
  simp only [Dev.heldAt]
  rw [h.1]

theorem Dev.wordsStand_set (d : Dev) {f : Fld} (v : Nat) (hf : fldId f ≠ fldId F.ECC_INJ_ARM) : d.WordsStand (d.set f v) :=
  ⟨rfl, d.armsNone_set v hf⟩

theorem Dev.wordsStand_raise (d : Dev) {int : Fld} (code : Nat) (ts : List Nat) (inst arg count : Nat) (hint : fldId int ≠ fldId F.ECC_INJ_ARM) :
    d.WordsStand (d.raise int code ts inst arg count) := by
  refine ⟨?_, d.armsNone_raise code ts inst arg count hint⟩
  rw [(d.heard_raise int code ts inst arg count).1]

theorem Dev.wordsStand_owe (d : Dev) (l : List Due) : d.WordsStand (d.owe l) := ⟨rfl, Dev.armsNone_of rfl⟩

theorem Dev.Only.wordsStand {d e : Dev} {fs : List Fld} (h : d.Only e fs) (hf : ∀ f ∈ fs, fldId f ≠ fldId F.ECC_INJ_ARM) : d.WordsStand e := by
  refine ⟨by rw [h.1], fun harm => ?_⟩
  rwa [Dev.is, h.2 _ hf]

theorem Dev.wordsStand_ueRecord (d : Dev) (cls mem req addr : Nat) : d.WordsStand (d.ueRecord cls mem req addr) :=
  (d.only_ueRecord cls mem req addr).wordsStand (by decide)

theorem Dev.wordsStand_glean (d : Dev) (m w syn req : Nat) : d.WordsStand (d.glean m w syn req) := by
  unfold Dev.glean
  split
  · exact d.wordsStand_set _ (by simp only [fldId, F.ECC_GLW1_HITS, F.ECC_INJ_ARM]; omega)
  · split
    · rename_i e _
      have hentry : ∀ f ∈ [F.ECC_GLW0_VALID e, F.ECC_GLW0_MEM e, F.ECC_GLW0_ADDR e, F.ECC_GLW0_BIT e, F.ECC_GLW1_HITS e, F.ECC_GLW1_SYN e,
          F.ECC_GLW1_REQ e, F.ECC_GLW2_SECONDS e], fldId f ≠ fldId F.ECC_INJ_ARM := by
        simp only [List.forall_mem_cons, fldId, F.ECC_GLW0_VALID, F.ECC_GLW0_MEM, F.ECC_GLW0_ADDR, F.ECC_GLW0_BIT, F.ECC_GLW1_HITS,
          F.ECC_GLW1_SYN, F.ECC_GLW1_REQ, F.ECC_GLW2_SECONDS, F.ECC_INJ_ARM]
        refine ⟨?_, ?_, ?_, ?_, ?_, ?_, ?_, ?_, by simp⟩ <;> omega
      have hlogged (z : Dev) : (z.Only _ [F.ECC_GLW0_VALID e, F.ECC_GLW0_MEM e, F.ECC_GLW0_ADDR e, F.ECC_GLW0_BIT e, F.ECC_GLW1_HITS e,
          F.ECC_GLW1_SYN e, F.ECC_GLW1_REQ e, F.ECC_GLW2_SECONDS e]) :=
        z.only_setAll [(F.ECC_GLW0_VALID e, 1), (F.ECC_GLW0_MEM e, m), (F.ECC_GLW0_ADDR e, w), (F.ECC_GLW0_BIT e, 64 + synBit syn),
          (F.ECC_GLW1_HITS e, 1), (F.ECC_GLW1_SYN e, syn), (F.ECC_GLW1_REQ e, req), (F.ECC_GLW2_SECONDS e, d.get F.SUP_SECONDS_COUNT)]
      exact (((hlogged d).wordsStand hentry).trans (Dev.wordsStand_set _ _ (by decide))).trans (Dev.wordsStand_raise _ _ _ _ _ _ (by decide))
    · simp only
      by_cases hfull : d.get F.ECC_GLSTAT_OVF = 0xFFFF
      · rw [if_pos hfull]
        exact .refl d
      rw [if_neg hfull]
      obtain ⟨x, hx⟩ : ∃ x, x = if (d.bump F.ECC_GLSTAT_OVF).get F.ECC_GLSTAT_OVF = 0xFFFF then (d.bump F.ECC_GLSTAT_OVF).set F.ECC_GLSTAT_OVFSAT 1
        else d.bump F.ECC_GLSTAT_OVF := ⟨_, rfl⟩
      have hcounted : d.WordsStand x := by
        have hbump : d.WordsStand (d.bump F.ECC_GLSTAT_OVF) := d.wordsStand_set _ (by decide)
        rw [hx]
        split_ifs
        · exact hbump.trans (Dev.wordsStand_set _ _ (by decide))
        · exact hbump
      rw [← hx]
      split_ifs
      · exact hcounted.trans (x.wordsStand_raise _ _ _ _ _ (by decide))
      · exact hcounted

theorem Dev.wordsStand_larUe (d : Dev) (cls req c w : Nat) : d.WordsStand (d.larUe cls req c w) := by
  have hcnt : fldId (F.ECC_LBCNT_UE (c / 4096)) ≠ fldId F.ECC_INJ_ARM := by simp only [fldId, F.ECC_LBCNT_UE, F.ECC_INJ_ARM]; omega
  have hcounted : d.WordsStand (d.larUeCounted cls req c w) :=
    ((d.wordsStand_ueRecord cls 3 req (64 * c + 8 * w)).trans (Dev.wordsStand_set _ _ hcnt)).trans (Dev.wordsStand_owe _ _)
  rw [Dev.larUe_eq]
  refine hcounted.trans ?_
  generalize d.larUeCounted cls req c w = x
  unfold Dev.larUePaced
  split_ifs
  · exact (x.wordsStand_raise 0x1501 [0] (c / 4096) 0 (x.get (F.ECC_LBCNT_UE (c / 4096))) (by decide : fldId F.ECC_INT_LARUE ≠ _)).trans
      ⟨rfl, Dev.armsNone_of rfl⟩
  · exact ⟨rfl, Dev.armsNone_of rfl⟩

theorem Dev.wordsStand_memClass (d : Dev) (m w syn req : Nat) : d.WordsStand (d.memClass m w syn req) := by
  unfold Dev.memClass
  split
  · exact .refl d
  · split_ifs
    · exact d.wordsStand_owe _
    · exact d.wordsStand_glean _ _ _ _
  · by_cases h3 : m = 3
    · rw [if_pos h3]
      simp only
      obtain ⟨x, hx⟩ : ∃ x, x = d.larUe (if eccClass syn = 2 then 1 else 0) req (d.lar.partBase + w / 8) (w % 8) := ⟨_, rfl⟩
      have hstand : d.WordsStand x := hx ▸ d.wordsStand_larUe _ _ _ _
      rw [← hx]
      by_cases hmark : req = 2 ∨ x.ecc.partPoison.contains (d.lar.partBase + w / 8)
      · rw [if_pos hmark]
        exact hstand
      · rw [if_neg hmark]
        exact hstand.trans ⟨rfl, Dev.armsNone_of rfl⟩
    · rw [if_neg h3]
      have hcnt : fldId (if eccClass syn = 2 then F.ECC_UECNT_WIPE else F.ECC_UECNT_UE) ≠ fldId F.ECC_INJ_ARM := by split_ifs <;> decide
      exact (((d.wordsStand_ueRecord _ _ _ _).trans (Dev.wordsStand_set _ _ hcnt)).trans (Dev.wordsStand_owe _ _)).trans
        (Dev.wordsStand_raise _ _ _ _ _ _ (by decide))

/-! ### Stores of a word (R458 to R460) -/

/-- Two memory numbers that the model keeps in the same map. -/
def SamePart (m m' : Nat) : Prop := (m = 1 ↔ m' = 1) ∧ (m = 2 ↔ m' = 2)

theorem Dev.memWord_memSet_ne (d : Dev) {m w m' w' : Nat} (x : EccWord) (h : ¬ SamePart m m' ∨ w' ≠ w) :
    (d.memSet m w x).memWord m' w' = d.memWord m' w' := by
  by_cases hm : SamePart m m'
  · have hw : w ≠ w' := (h.resolve_left (not_not_intro hm)).symm
    obtain ⟨hone, htwo⟩ := hm
    simp only [Dev.memWord, Dev.mem, Dev.memSet, ← hone, ← htwo]
    split_ifs <;> exact mapGet_put_ne _ _ hw
  · simp only [Dev.memWord, Dev.mem, Dev.memSet]
    by_cases h1 : m = 1
    · have h1' : m' ≠ 1 := fun h1' => hm ⟨by omega, by omega⟩
      rw [if_pos h1, if_neg h1', if_neg h1']
    · by_cases h2 : m = 2
      · have h2' : m' ≠ 2 := fun h2' => hm ⟨by omega, by omega⟩
        rw [if_neg h1, if_pos h2, if_neg h2', if_neg h2']
      · have hram : m' = 1 ∨ m' = 2 := by
          by_contra hnot
          exact hm ⟨by omega, by omega⟩
        rw [if_neg h1, if_neg h2]
        rcases hram with rfl | rfl <;> rfl

@[simp] theorem Dev.heldAt_memSet (d : Dev) (m w : Nat) (x : EccWord) (m' : Nat) : (d.memSet m w x).heldAt m' = d.heldAt m' := by
  unfold Dev.heldAt Dev.memSet
  split_ifs <;> rfl

/-- From `d` to `e` no word but `w` of memory `m` has changed, and no injection has been armed. -/
def Dev.WordOnly (d e : Dev) (m w : Nat) : Prop :=
  (∀ m' w', ¬ SamePart m m' ∨ w' ≠ w → e.memWord m' w' = d.memWord m' w') ∧ d.ArmsNone e

theorem Dev.WordOnly.refl (d : Dev) (m w : Nat) : d.WordOnly d m w := ⟨fun _ _ _ => rfl, .refl d⟩

theorem Dev.WordOnly.trans {d e x : Dev} {m w : Nat} (h : d.WordOnly e m w) (k : e.WordOnly x m w) : d.WordOnly x m w :=
  ⟨fun m' w' hne => (k.1 m' w' hne).trans (h.1 m' w' hne), h.2.trans k.2⟩

theorem Dev.WordsStand.wordOnly {d e : Dev} (h : d.WordsStand e) (m w : Nat) : d.WordOnly e m w := ⟨fun m' w' _ => h.memWord m' w', h.2⟩

theorem Dev.wordOnly_memSet (d : Dev) (m w : Nat) (x : EccWord) : d.WordOnly (d.memSet m w x) m w :=
  ⟨fun _ _ hne => d.memWord_memSet_ne x hne, Dev.armsNone_of rfl⟩

/-- What a whole word stored is: check bits that fit, where no injection is armed. -/
theorem Dev.memPut_eq {d : Dev} (harm : d.is F.ECC_INJ_ARM = false) (m w v : Nat) : d.memPut m w v = d.memSet m w ⟨v % 2 ^ 64, 0⟩ := by
  simp [Dev.memPut, Dev.injects, harm, Dev.injUse]

theorem Dev.wordOnly_memPut (d : Dev) (m w v : Nat) : d.WordOnly (d.memPut m w v) m w := by
  have hinj : d.WordsStand (d.injUse (d.injects (d.injTarget m w) 1)) := by
    refine ⟨?_, d.armsNone_injUse _⟩
    rw [Dev.injUse]
    split_ifs <;> rfl
  exact (hinj.wordOnly m w).trans (Dev.wordOnly_memSet _ _ _ _)

theorem Dev.heldAt_memPut (d : Dev) (m w v m' : Nat) : (d.memPut m w v).heldAt m' = d.heldAt m' := by
  rw [Dev.memPut, Dev.heldAt_memSet]
  unfold Dev.injUse Dev.heldAt
  simp only
  split_ifs <;> rfl

theorem Dev.wordOnly_memRmw (d : Dev) (m w b n v : Nat) : d.WordOnly (d.memRmw m w b n v) m w ∧
    (d.memRmw m w b n v).heldAt m = d.heldAt m := by
  have hread := d.wordsStand_memClass m w (d.memWord m w).syn 2
  unfold Dev.memRmw
  simp only
  split
  · exact ⟨d.wordOnly_memSet _ _ _, d.heldAt_memSet _ _ _ _⟩
  · exact ⟨(hread.wordOnly m w).trans (Dev.wordOnly_memSet _ _ _ _), (Dev.heldAt_memSet _ _ _ _ _).trans (hread.heldAt m)⟩
  · exact ⟨(hread.wordOnly m w).trans (Dev.wordOnly_memPut _ _ _ _), (Dev.heldAt_memPut _ _ _ _ _).trans (hread.heldAt m)⟩

@[simp] theorem Dev.heldAt_setHeld (d : Dev) (m : Nat) (h : Option (Nat × Nat)) : (d.setHeld m h).heldAt m = h := mapGet_put_same _ _ _

theorem Dev.performHeld_none {d : Dev} {m : Nat} (h : d.heldAt m = none) : d.performHeld m = d := by rw [Dev.performHeld, h]

theorem Dev.performHeld_some {d : Dev} {m w v : Nat} (h : d.heldAt m = some (w, v)) :
    d.performHeld m = (d.setHeld m none).memRmw m w 0 4 v := by rw [Dev.performHeld, h]

theorem Dev.yieldHeld_none {d : Dev} {m : Nat} (h : d.heldAt m = none) (w : Nat) : d.yieldHeld m w = d := by rw [Dev.yieldHeld, h]

/-- An access that finds no store held for its word leaves the held store. -/
theorem Dev.yieldHeld_ne {d : Dev} {m w : Nat} (h : ∀ p, d.heldAt m = some p → p.1 ≠ w) : d.yieldHeld m w = d := by
  unfold Dev.yieldHeld
  split
  · rfl
  · rename_i w' v hheld
    exact if_neg (h _ hheld)

/-- An access changes no word but its own before it, and leaves no store held for that word. -/
theorem Dev.yieldHeld_is (d : Dev) (m w : Nat) : d.WordOnly (d.yieldHeld m w) m w ∧ ∀ p, (d.yieldHeld m w).heldAt m = some p → p.1 ≠ w := by
  by_cases hne : ∀ p, d.heldAt m = some p → p.1 ≠ w
  · rw [Dev.yieldHeld_ne hne]
    exact ⟨.refl d m w, hne⟩
  · push Not at hne
    obtain ⟨⟨w', v⟩, hheld, rfl⟩ := hne
    have heq : d.yieldHeld m w' = (d.setHeld m none).memRmw m w' 0 4 v := by
      rw [Dev.yieldHeld, hheld]
      simp only [if_true]
      exact Dev.performHeld_some hheld
    obtain ⟨honly, hkept⟩ := (d.setHeld m none).wordOnly_memRmw m w' 0 4 v
    have hcleared : d.WordOnly (d.setHeld m none) m w' := ⟨fun _ _ _ => rfl, Dev.armsNone_of rfl⟩
    rw [heq]
    refine ⟨hcleared.trans honly, fun p hp => ?_⟩
    rw [hkept, Dev.heldAt_setHeld] at hp
    cases hp

theorem Dev.memWrite_is {d : Dev} (harm : d.is F.ECC_INJ_ARM = false) (m w v : Nat) : let e := d.memWrite m w v
    e.memWord m w = ⟨v % 2 ^ 64, 0⟩ ∧ d.WordOnly e m w ∧ ∀ p, e.heldAt m = some p → p.1 ≠ w := by
  obtain ⟨honly, hheld⟩ := d.yieldHeld_is m w
  have heq : d.memWrite m w v = (d.yieldHeld m w).memSet m w ⟨v % 2 ^ 64, 0⟩ := Dev.memPut_eq (honly.2 harm) m w v
  simp only [heq]
  refine ⟨Dev.memWord_memSet_same _ _ _ _, honly.trans (Dev.wordOnly_memSet _ _ _ _), fun p hp => hheld p ?_⟩
  rwa [Dev.heldAt_memSet] at hp

/-- A word of even check bits is delivered as it stands, and the read leaves no trace. -/
theorem Dev.memRead_clean {d : Dev} {m w : Nat} (req : Nat) (hheld : ∀ p, d.heldAt m = some p → p.1 ≠ w) (hsyn : (d.memWord m w).syn = 0) :
    d.memRead m w req = (d, some (d.memWord m w).data) := by
  have hclass : eccClass (d.memWord m w).syn = 0 := by rw [hsyn]; rfl
  simp only [Dev.memRead, Dev.yieldHeld_ne hheld, hclass, Dev.memClass, Nat.zero_le, if_true]

theorem Dev.memRead_uncorrectable {d : Dev} {m w : Nat} (req : Nat) (hheld : d.heldAt m = none) (hclass : 2 ≤ eccClass (d.memWord m w).syn) :
    d.memRead m w req = (d.memClass m w (d.memWord m w).syn req, none) := by
  simp only [Dev.memRead, Dev.yieldHeld_none hheld, if_neg (Nat.not_le.mpr hclass)]

/-- An uncorrectable read of steward SRAM or endpoint RAM is recorded, owed as source 50 and raised (R466). -/
theorem Dev.memClass_ram_is (d : Dev) {m syn : Nat} (w req : Nat) (hm : m = 1 ∨ m = 2) (hclass : 2 ≤ eccClass syn) : let e := d.memClass m w syn req
    e.get F.ECC_INT_UE = 1 ∧ .fault 0x244 50 ∈ e.lar.due ∧ ∃ k, d.UeRecorded e k m (req % 2 ^ 8) (8 * w % 2 ^ 22) := by
  obtain ⟨k, f, hf, heq⟩ : ∃ k f, f ∈ [F.ECC_UECNT_WIPE, F.ECC_UECNT_UE] ∧ d.memClass m w syn req =
      (((d.ueRecord k m req (8 * w)).bump f).oweFault 0x244 50).raise F.ECC_INT_UE 0x1504 [0] 0 k 0 := by
    have h3 : m ≠ 3 := by omega
    rcases eccClass_uncorrectable hclass with h | h
    · exact ⟨1, F.ECC_UECNT_WIPE, by simp, by simp only [Dev.memClass, h, h3, if_false, if_true]⟩
    · exact ⟨0, F.ECC_UECNT_UE, by simp, by simp only [Dev.memClass, h, h3, if_false]; rfl⟩
  have hcount : ∀ g ∈ ueFlds, fldId f ≠ fldId g := by
    simp only [List.mem_cons, List.not_mem_nil, or_false] at hf
    rcases hf with rfl | rfl <;> decide
  have hrec := d.ueRecorded_ueRecord k m req (8 * w)
  rw [Nat.mod_eq_of_lt (by omega : m < 2 ^ 4)] at hrec
  simp only [heq]
  refine ⟨Dev.raise_get_int _ _ _ _ _ _ (plainFld_of_fldId (by decide) (by decide) (by decide)) t000_lt,
    (Dev.raise_due ..).subset (List.mem_append_right _ (List.mem_singleton_self _)), k % 2 ^ 2, hrec.congr fun g hg => ?_⟩
  have hint : ∀ i ∈ [F.ECC_INT_UE], fldId i ≠ fldId g := by
    simp only [List.mem_singleton, forall_eq]
    exact (by decide : ∀ g ∈ ueFlds, fldId F.ECC_INT_UE ≠ fldId g) g hg
  exact ((Dev.told_raise _ _ _ _ _ _ _ t000_lt).2 g (plainFld_of_mem_ueFlds hg) hint).trans (Dev.bump_get_ne _ (hcount g hg))

end Sys2Proof.Machine

/-!
SUPPORT. Steward accesses and held stores (O51).
-/
namespace Sys2Proof.Machine

open Sys2Proof

/-! ### Steward accesses within one word (R460, R505) -/

/-- Bytes of one word are read by one read of it. -/
theorem Dev.memBytes_one (d : Dev) (m req : Nat) {a n : Nat} (hn : n ≠ 0) (hin : a % 8 + n ≤ 8) :
    d.memBytes m req a n = ((d.memRead m (a / 8) req).1, ((leBytes 8 ((d.memRead m (a / 8) req).1.memWord m (a / 8)).data).drop (a % 8)).take n,
      if (d.memRead m (a / 8) req).2.isNone then some (8 * (a / 8)) else none) := by
  have hone : (a + n + 7) / 8 - a / 8 = 1 := by omega
  simp only [Dev.memBytes, if_neg hn, hone, Dev.memLoad, List.append_nil]

/-- A load finds its first and its last byte in one cell. -/
theorem Dev.cellMarked_last (d : Dev) (m : Nat) {a n : Nat} (hn : n ≠ 0) (hin : a % 8 + n ≤ 8) : d.cellMarked m (a + n - 1) = d.cellMarked m a := by
  have hcell : (a + n - 1) / 64 = a / 64 := by omega
  rw [Dev.cellMarked, hcell, Dev.cellMarked]

theorem Dev.stewardAccess_in {d : Dev} {m kind a n : Nat} (v : Nat) (hin : a + n ≤ d.memSize m) (hn : n ≠ 0) (hk : kind = 2 → m = 1) :
    d.stewardAccess m kind a n v = if kind = 1 then d.stewardStore m a n v else d.stewardLoad m a n := by
  refine if_neg ?_
  rintro (h | h | ⟨h, hm⟩)
  · omega
  · exact hn h
  · exact hm (hk h)

theorem Dev.stewardAccess_out {d : Dev} {m kind a n : Nat} (v : Nat) (h : d.memSize m < a + n ∨ n = 0 ∨ (kind = 2 ∧ m ≠ 1)) :
    d.stewardAccess m kind a n v = d.emit .accessFault 0 [memBase m + a] [] := if_pos h

/-- A store of a low half is held. -/
theorem Dev.stewardAccess_low {d : Dev} {m a x v : Nat} (hin : a + 4 ≤ d.memSize m) (h8 : a % 8 = 0) (hheld : d.heldAt m = none) (hx : x = v) :
    let e := d.stewardAccess m 1 a 4 x
    e.heldAt m = some (a / 8, v) ∧ e = { d with ecc := { d.ecc with held := e.ecc.held } } := by
  have hne : ¬ (4 = 4 ∧ a % 8 = 4 ∧ (d.heldAt m).map Prod.fst = some (a / 8)) := by omega
  have heq : d.stewardAccess m 1 a 4 x = d.setHeld m (some (a / 8, v)) := by
    rw [Dev.stewardAccess_in _ hin (by decide) (by simp), if_pos rfl, Dev.stewardStore, if_neg hne]
    simp only [Dev.performHeld_none hheld, h8, hx, and_self, if_true]
  simp only [heq]
  exact ⟨Dev.heldAt_setHeld _ _ _, rfl⟩

/-- A store of the high half of the word held completes it. -/
theorem Dev.stewardAccess_high {d : Dev} {m a x v lo : Nat} (hin : a + 4 ≤ d.memSize m) (h8 : a % 8 = 4) (hheld : d.heldAt m = some (a / 8, lo))
    (harm : d.is F.ECC_INJ_ARM = false) (hx : x = v) : let e := d.stewardAccess m 1 a 4 x
    e.heldAt m = none ∧ e.memWord m (a / 8) = ⟨(lo + v * 2 ^ 32) % 2 ^ 64, 0⟩ ∧ e = { d with ecc := e.ecc } := by
  have harm' : (d.setHeld m none).is F.ECC_INJ_ARM = false := harm
  have heq : d.stewardAccess m 1 a 4 x = (d.setHeld m none).memSet m (a / 8) ⟨(lo + v * 2 ^ 32) % 2 ^ 64, 0⟩ := by
    rw [Dev.stewardAccess_in _ hin (by decide) (by simp), if_pos rfl, Dev.stewardStore, if_pos ⟨rfl, h8, by rw [hheld]; rfl⟩, Dev.memPut_eq harm',
      hheld, hx]
    rfl
  simp only [heq]
  exact ⟨by rw [Dev.heldAt_memSet, Dev.heldAt_setHeld], Dev.memWord_memSet_same _ _ _ _, rfl⟩

theorem Dev.stewardAccess_load {d : Dev} {m kind a n : Nat} (v : Nat) (hin : a + n ≤ d.memSize m) (hn : n ≠ 0) (hk : kind = 2 → m = 1) (hstore : kind ≠ 1)
    (hheld : d.heldAt m = none) (hword : a % 8 + n ≤ 8) :
    d.stewardAccess m kind a n v = if (d.memRead m (a / 8) 0).2.isNone || d.cellMarked m a then
        (d.memRead m (a / 8) 0).1.emit .accessFault 0 [memBase m + a] []
      else (d.memRead m (a / 8) 0).1.emit .readData 0 [memBase m + a]
        (((leBytes 8 ((d.memRead m (a / 8) 0).1.memWord m (a / 8)).data).drop (a % 8)).take n) := by
  rw [Dev.stewardAccess_in v hin hn hk, if_neg hstore, Dev.stewardLoad, Dev.performHeld_none hheld, d.memBytes_one m 0 hn hword,
    d.cellMarked_last m hn hword, Bool.or_self]
  simp only
  cases (d.memRead m (a / 8) 0).2.isNone <;> rfl

/-- A held store performed on a word of even check bits merges its half. -/
theorem Dev.performHeld_clean {d : Dev} {m w v : Nat} (hheld : d.heldAt m = some (w, v)) (hsyn : (d.memWord m w).syn = 0)
    (harm : d.is F.ECC_INJ_ARM = false) : let e := d.performHeld m
    e.heldAt m = none ∧ e.memWord m w = ⟨mergeBytes (d.memWord m w).data 0 4 v % 2 ^ 64, 0⟩ ∧ e = { d with ecc := e.ecc } := by
  have hword : (d.setHeld m none).memWord m w = d.memWord m w := rfl
  have harm' : (d.setHeld m none).is F.ECC_INJ_ARM = false := harm
  have heq : d.performHeld m = (d.setHeld m none).memSet m w ⟨mergeBytes (d.memWord m w).data 0 4 v % 2 ^ 64, 0⟩ := by
    rw [Dev.performHeld_some hheld, Dev.memRmw, hword, hsyn]
    exact Dev.memPut_eq harm' _ _ _
  simp only [heq]
  exact ⟨by rw [Dev.heldAt_memSet, Dev.heldAt_setHeld], Dev.memWord_memSet_same _ _ _ _, rfl⟩

/-- Settles O51, by what a read, a store and a held store each do to their word and leave of the others. -/
theorem guardedMemory : Obligations.GuardedMemory := by
  unfold Obligations.GuardedMemory
  refine ⟨fun d m w v req harm => ?_, fun d m w req hheld hclass => ?_, fun d m w req hheld hsyn => ?_, fun s hup mem m hm => ?_⟩
  · obtain ⟨hword, honly, hheld⟩ := Dev.memWrite_is harm m w v
    refine ⟨hword, ?_, fun m' w' h1 h3 h1' h3' hne => honly.1 m' w' ?_⟩
    · rw [Dev.memRead_clean req hheld (by rw [hword]), hword]
    · refine hne.imp (fun hmm hsame => hmm ?_) id
      obtain ⟨hone, htwo⟩ := hsame
      omega
  · have heq := Dev.memRead_uncorrectable req hheld hclass
    rw [heq]
    refine ⟨rfl, (d.wordsStand_memClass m w _ req).memWord m w, fun hram => ?_⟩
    obtain ⟨hint, hdue, k, hfirst, hlater⟩ := d.memClass_ram_is w req hram hclass
    refine ⟨hint, hdue, fun hv => ?_, fun hv => (hlater hv).1⟩
    obtain ⟨hvalid, -, -, hmem, haddr⟩ := hfirst hv
    exact ⟨hvalid, hmem, haddr⟩
  · exact Dev.memRead_clean req (by simp [hheld]) hsyn
  · refine ⟨fun kind a n v hout => Ends.of_act hup ?_, fun a v hin => ⟨fun h8 hheld => Ends.of_act hup ?_, fun lo h8 hheld harm => Ends.of_act hup ?_⟩,
      fun kind a n v hin hn hstore hfetch hheld hword => ⟨fun hsyn hmark => Ends.of_act hup ?_, fun hclass => Ends.of_act hup ?_⟩,
      fun hheld => Ends.of_act hup ?_, fun w v hheld hsyn harm => Ends.of_act hup ?_⟩
    · subst hm
      exact Dev.stewardAccess_out _ hout
    · subst hm
      exact Dev.stewardAccess_low hin h8 hheld (Nat.mod_eq_of_lt v.isLt)
    · subst hm
      exact Dev.stewardAccess_high hin h8 hheld harm (Nat.mod_eq_of_lt v.isLt)
    · subst hm
      have hread : s.dev.memRead (mem.val + 1) (a.toNat / 8) 0 = _ := Dev.memRead_clean 0 (by simp [hheld]) hsyn
      have hclear : s.dev.cellMarked (mem.val + 1) a.toNat = false := by
        simp only [Dev.cellMarked, Bool.and_eq_false_imp, beq_iff_eq]
        exact hmark
      refine (Dev.stewardAccess_load _ hin hn hfetch hstore hheld hword).trans ?_
      rw [hread, hclear]
      rfl
    · subst hm
      have hread : s.dev.memRead (mem.val + 1) (a.toNat / 8) 0 = _ := Dev.memRead_uncorrectable 0 hheld hclass
      refine (Dev.stewardAccess_load _ hin hn hfetch hstore hheld hword).trans (if_pos ?_)
      rw [hread]
      rfl
    · exact Dev.performHeld_none (hm ▸ hheld)
    · subst hm
      exact Dev.performHeld_clean hheld hsyn harm

end Sys2Proof.Machine

/-!
SUPPORT. Fills, injection, buckets and the Gleaner's registers (O53).
-/
namespace Sys2Proof.Machine

open Sys2Proof

/-! ### Fills (R463, R473) -/

theorem fillChecks_first : ∀ busy field align zero range absent : Bool,
    firstByRank [(busy, .eBusy), (field, .eField), (align, .eAlign), (zero, .eRange), (range, .eRange), (absent, .eState)] =
      if align then .eAlign else if field then .eField else if zero || range then .eRange else if absent then .eState
        else if busy then .eBusy else .done := by decide

theorem Dev.only_writeEccFill (d : Dev) (w : Word) : d.Only (d.writeRow .bar0 R.ECC_FILL 0 w) [F.ECC_FILL_GO, F.ECC_FILL_MEM] :=
  d.only_writeRow .bar0 R.ECC_FILL 0 w

theorem Dev.writeEccFill_mem (d : Dev) (w : Word) : (d.writeRow .bar0 R.ECC_FILL 0 w).get F.ECC_FILL_MEM = bits w.toNat 24 2 :=
  d.writeRow_get (g := ⟨24, 2, .rw, fun _ => 0⟩) (by simp [R.ECC_FILL]) (by simp [R.ECC_FILL]) (.inl rfl)

theorem Dev.writeEccFill_is {d : Dev} {w : Word} (hup : d.up = true) (hres : setsReserved R.ECC_FILL w = false) (hgo : bitOf w.toNat 31 = true)
    {m base len : Nat} (hm : bits w.toNat 24 2 = m) (hbase : base = d.get F.ECC_FILLBASE_BASE) (hlen : len = d.get F.ECC_FILLLEN_LEN) :
    let e := d.writeEccFill w
    if base % 8 ≠ 0 ∨ len % 8 ≠ 0 then RecordedGlb d e 0x14074 .eAlign
    else if m = 0 then RecordedGlb d e 0x14074 .eField
    else if len = 0 ∨ ((m ≠ 3 ∨ d.partBytes ≠ 0) ∧ d.memSize m < base + len) then RecordedGlb d e 0x14074 .eRange
    else if m = 3 ∧ d.partBytes = 0 then RecordedGlb d e 0x14074 .eState
    else if d.is F.ECC_FILL_BUSY = true then RecordedGlb d e 0x14074 .eBusy
    else e.get F.ECC_FILL_BUSY = 1 ∧ e.get F.ECC_FILL_GO = 0 ∧ e.get F.ECC_FILL_MEM = m ∧
      e.ecc = { d.ecc with fillAt := base / 8, fillLeft := len / 8 } ∧
      d.Only { e with ecc := d.ecc } [F.ECC_FILL_BUSY, F.ECC_FILL_GO, F.ECC_FILL_MEM] := by
  have hfirst : firstByRank ((setsReserved R.ECC_FILL w, .eField) :: (d.changesLocked .bar0 R.ECC_FILL 0 w, .eLocked) ::
      [(d.is F.ECC_FILL_BUSY, .eBusy), (m == 0, .eField), (base % 8 != 0 || len % 8 != 0, .eAlign), (len == 0, .eRange),
       (m != 0 && (m != 3 || d.partBytes != 0) && decide (d.memSize m < base + len), .eRange), (m == 3 && d.partBytes == 0, .eState)]) =
      if base % 8 ≠ 0 ∨ len % 8 ≠ 0 then .eAlign
      else if m = 0 then .eField
      else if len = 0 ∨ ((m ≠ 3 ∨ d.partBytes ≠ 0) ∧ d.memSize m < base + len) then .eRange
      else if m = 3 ∧ d.partBytes = 0 then .eState
      else if d.is F.ECC_FILL_BUSY = true then .eBusy else .done := by
    rw [firstByRank_own hres rfl]
    refine (fillChecks_first _ _ _ _ _ _).trans ?_
    by_cases h0 : m = 0
    · simp [h0]
    · simp [h0]
  simp only [Dev.writeEccFill, hgo, hm, ← hbase, ← hlen, Bool.true_and]
  by_cases halign : base % 8 ≠ 0 ∨ len % 8 ≠ 0
  · rw [if_pos halign] at hfirst ⊢
    exact recordedGlb_of_rejected hup (by decide) hfirst
  rw [if_neg halign] at hfirst ⊢
  by_cases hfield : m = 0
  · rw [if_pos hfield] at hfirst ⊢
    exact recordedGlb_of_rejected hup (by decide) hfirst
  rw [if_neg hfield] at hfirst ⊢
  by_cases hrange : len = 0 ∨ ((m ≠ 3 ∨ d.partBytes ≠ 0) ∧ d.memSize m < base + len)
  · rw [if_pos hrange] at hfirst ⊢
    exact recordedGlb_of_rejected hup (by decide) hfirst
  rw [if_neg hrange] at hfirst ⊢
  by_cases habsent : m = 3 ∧ d.partBytes = 0
  · rw [if_pos habsent] at hfirst ⊢
    exact recordedGlb_of_rejected hup (by decide) hfirst
  rw [if_neg habsent] at hfirst ⊢
  by_cases hbusy : d.is F.ECC_FILL_BUSY = true
  · rw [if_pos hbusy] at hfirst ⊢
    exact recordedGlb_of_rejected hup (by decide) hfirst
  rw [if_neg hbusy] at hfirst ⊢
  rw [Dev.regWrite_done hup hfirst, if_pos trivial]
  have honly := d.only_writeEccFill w
  have hmem := (d.writeEccFill_mem w).trans hm
  generalize d.writeRow .bar0 R.ECC_FILL 0 w = x at *
  have hset : x.Only ((x.set F.ECC_FILL_GO 0).set F.ECC_FILL_BUSY 1) [F.ECC_FILL_GO, F.ECC_FILL_BUSY] := (x.only_set _ _).trans (Dev.only_set _ _ _)
  have hall := honly.trans hset
  have hecc : ((x.set F.ECC_FILL_GO 0).set F.ECC_FILL_BUSY 1).ecc = d.ecc := by rw [hall.1]
  refine ⟨Dev.get_set_same _ _ _, (Dev.get_set_ne _ _ (by decide)).trans (Dev.get_set_same _ _ _), (hset.2 _ (by decide)).trans hmem, ?_, ?_, ?_⟩
  · simp only [hecc]
  · rw [hall.1]
  · exact fun g hg => hall.2 g fun f hf => hg f ((by decide : ∀ f ∈ [F.ECC_FILL_GO, F.ECC_FILL_MEM] ++ [F.ECC_FILL_GO, F.ECC_FILL_BUSY],
      f ∈ [F.ECC_FILL_BUSY, F.ECC_FILL_GO, F.ECC_FILL_MEM]) f hf)

/-- A fill with no injection armed leaves zeros, and the words before it. -/
theorem Dev.fillWords_is {d : Dev} (harm : d.is F.ECC_INJ_ARM = false) (m w n : Nat) :
    (∀ i < n, (d.fillWords m w n).memWord m (w + i) = ⟨0, 0⟩) ∧ ∀ w' < w, (d.fillWords m w n).memWord m w' = d.memWord m w' := by
  induction n generalizing d w with
  | zero => exact ⟨fun i hi => absurd hi (Nat.not_lt_zero i), fun _ _ => rfl⟩
  | succ n ih =>
    obtain ⟨hzero, honly, -⟩ := Dev.memWrite_is harm m w 0
    obtain ⟨hlater, hbefore⟩ := ih (honly.2 harm) (w + 1)
    refine ⟨fun i hi => ?_, fun w' hw => (hbefore w' (by omega)).trans (honly.1 m w' (.inr (by omega)))⟩
    cases i with
    | zero => exact (hbefore w (by omega)).trans hzero
    | succ i =>
      have hi' := hlater i (by omega)
      rwa [Nat.add_right_comm] at hi'

theorem Dev.fillEnd_is (d : Dev) : let e := d.fillEnd .done
    e.get F.ECC_FILL_BUSY = 0 ∧ e.get F.ECC_FILL_STATUS = 0 ∧ e.get F.ECC_INT_FILLDONE = 1 ∧ e.ecc = { d.ecc with fillAt := 0, fillLeft := 0 } := by
  obtain ⟨x, hx⟩ : ∃ x : Dev, x = (({ d with ecc := { d.ecc with fillAt := 0, fillLeft := 0 } } : Dev).set F.ECC_FILL_BUSY 0).set F.ECC_FILL_STATUS 0 :=
    ⟨_, rfl⟩
  have heq : d.fillEnd .done = x.raise F.ECC_INT_FILLDONE 0x1505 [0] 0 0 0 := by rw [hx]; rfl
  have hecc : x.ecc = { d.ecc with fillAt := 0, fillLeft := 0 } := by rw [hx]; rfl
  have hbusy : x.get F.ECC_FILL_BUSY = 0 := by rw [hx, Dev.get_set_ne _ _ (by decide), Dev.get_set_same, Nat.zero_mod]
  have hstatus : x.get F.ECC_FILL_STATUS = 0 := by rw [hx, Dev.get_set_same, Nat.zero_mod]
  have htold := x.told_raise F.ECC_INT_FILLDONE 0x1505 [0] 0 0 0 t000_lt
  have hkept {g : Fld} (hg : PlainFld g) (hne : fldId F.ECC_INT_FILLDONE ≠ fldId g) : (d.fillEnd .done).get g = x.get g :=
    heq ▸ htold.2 g hg (by simpa using hne)
  refine ⟨(hkept (plainFld_of_fldId (by decide) (by decide) (by decide)) (by decide)).trans hbusy,
    (hkept (plainFld_of_fldId (by decide) (by decide) (by decide)) (by decide)).trans hstatus,
    heq ▸ Dev.raise_get_int _ _ _ _ _ _ (plainFld_of_fldId (by decide) (by decide) (by decide)) t000_lt, ?_⟩
  rw [heq, htold.1]
  exact hecc

theorem Dev.fillDone_is {d : Dev} (h : d.is F.ECC_FILL_BUSY = true) : let e := d.fillDone
    e.get F.ECC_FILL_BUSY = 0 ∧ e.get F.ECC_FILL_STATUS = 0 ∧ e.get F.ECC_INT_FILLDONE = 1 ∧ e.ecc.fillLeft = 0 ∧
      (d.is F.ECC_INJ_ARM = false → ∀ i < d.ecc.fillLeft, e.memWord (d.get F.ECC_FILL_MEM) (d.ecc.fillAt + i) = ⟨0, 0⟩) := by
  have heq : d.fillDone = (d.fillWords (d.get F.ECC_FILL_MEM) d.ecc.fillAt d.ecc.fillLeft).fillEnd .done := if_pos h
  simp only [heq]
  obtain ⟨hbusy, hstatus, hint, hecc⟩ := (d.fillWords (d.get F.ECC_FILL_MEM) d.ecc.fillAt d.ecc.fillLeft).fillEnd_is
  refine ⟨hbusy, hstatus, hint, by rw [hecc], fun harm i hi => ?_⟩
  have hzero := (Dev.fillWords_is harm (d.get F.ECC_FILL_MEM) d.ecc.fillAt d.ecc.fillLeft).1 i hi
  simp only [Dev.memWord, Dev.mem] at hzero ⊢
  rw [hecc]
  exact hzero

/-! ### Buckets and notices (R464, R466) -/

theorem fldId_lvlFld (b : Nat) : fldId (lvlFld b) = 32 * 0x14010 + 128 * (b / 4) + 8 * (b % 4) := by
  simp only [fldId, lvlFld]
  omega

theorem Dev.leakTick_is (d : Dev) : (∀ b < 16, d.leakTick.get (lvlFld b) = (d.get (lvlFld b) - 1) % 256) ∧ d.Only d.leakTick ((List.range 16).map lvlFld) := by
  have honly (l : List Nat) (x : Dev) : x.Only (l.foldl (fun y b => y.set (lvlFld b) (y.get (lvlFld b) - 1)) x) (l.flatMap fun b => [lvlFld b]) :=
    Dev.only_foldl (flds := fun b => [lvlFld b]) (fun y b => y.only_set _ _) l x
  have hleak (l : List Nat) (hl : l.Nodup) (x : Dev) : ∀ b ∈ l, (l.foldl (fun y b => y.set (lvlFld b) (y.get (lvlFld b) - 1)) x).get (lvlFld b) =
      (x.get (lvlFld b) - 1) % 256 := by
    have hapart {a b : Nat} (hne : a ≠ b) : fldId (lvlFld a) ≠ fldId (lvlFld b) := by
      rw [fldId_lvlFld, fldId_lvlFld]
      omega
    induction l generalizing x with
    | nil => simp
    | cons a l ih =>
      obtain ⟨hnot, hl⟩ := List.nodup_cons.mp hl
      rw [List.forall_mem_cons]
      refine ⟨?_, fun b hb => ?_⟩
      · refine ((honly l _).2 _ fun f hf => ?_).trans (Dev.get_set_same _ _ _)
        obtain ⟨b, hb, hfb⟩ := List.mem_flatMap.mp hf
        rw [List.mem_singleton.mp hfb]
        exact hapart fun hba => hnot (hba ▸ hb)
      · have hne : a ≠ b := fun hab => hnot (hab ▸ hb)
        rw [List.foldl_cons, ih hl _ b hb, Dev.get_set_ne _ _ (hapart hne)]
  refine ⟨fun b hb => hleak _ List.nodup_range d b (List.mem_range.mpr hb), ?_⟩
  rw [List.map_eq_flatMap]
  exact honly _ d

theorem Dev.larUeNotice_is (d : Dev) (b : Nat) : let e := d.larUeNotice b
    if mapGet 0 d.ecc.spacing b = 2 then mapGet 0 e.ecc.spacing b = 1 ∧ e.get F.ECC_INT_LARUE = 1 ∧ d.Told { e with ecc := d.ecc } [F.ECC_INT_LARUE]
    else mapGet 0 e.ecc.spacing b = 0 ∧ e = { d with ecc := { d.ecc with spacing := e.ecc.spacing } } := by
  unfold Dev.larUeNotice
  simp only
  by_cases h : mapGet 0 d.ecc.spacing b = 2
  · rw [if_pos h, if_pos h]
    obtain ⟨x, hx⟩ : ∃ x : Dev, x = { d with ecc := { d.ecc with spacing := mapPut 0 d.ecc.spacing b 1 } } := ⟨_, rfl⟩
    have hspace : mapGet 0 x.ecc.spacing b = 1 := by rw [hx]; exact mapGet_put_same (dflt := 0) d.ecc.spacing b 1
    have hback : ({ x with ecc := d.ecc } : Dev) = d := by rw [hx]
    have hget (g : Fld) : x.get g = d.get g := by rw [hx]; rfl
    have htold := x.told_raise F.ECC_INT_LARUE 0x1501 [0] b 0 (d.get (F.ECC_LBCNT_UE b)) t000_lt
    have hint : (x.raise F.ECC_INT_LARUE 0x1501 [0] b 0 (d.get (F.ECC_LBCNT_UE b))).get F.ECC_INT_LARUE = 1 :=
      Dev.raise_get_int _ _ _ _ _ _ (plainFld_of_fldId (by decide) (by decide) (by decide)) t000_lt
    rw [← hx]
    generalize x.raise F.ECC_INT_LARUE 0x1501 [0] b 0 (d.get (F.ECC_LBCNT_UE b)) = e at *
    obtain ⟨heq, hkept⟩ := htold
    refine ⟨by rw [heq]; exact hspace, hint, ?_, fun g hg hne => (hkept g hg hne).trans (hget g)⟩
    rw [heq, ← hback]
  · rw [if_neg h, if_neg h]
    exact ⟨mapGet_put_same (dflt := 0) d.ecc.spacing b 0, rfl⟩

/-! ### Injection and the counters (R467, R470) -/

theorem injChecks_first : ∀ busy field zero mask : Bool,
    firstByRank [(busy, .eBusy), (field, .eField), (zero, .eRange), (mask, .eRange)] =
      if field then .eField else if zero || mask then .eRange else if busy then .eBusy else .done := by decide

theorem Dev.writeEccInj_gets (d : Dev) {w : Word} (harm : bits w.toNat 31 1 = 1) : let x := d.writeRow .bar0 R.ECC_INJ 0 w
    x.is F.ECC_INJ_ARM = true ∧ x.get F.ECC_INJ_TARGET = bits w.toNat 24 5 ∧ x.get F.ECC_INJ_MASK = bits w.toNat 8 8 ∧
      x.get F.ECC_INJ_COUNT = bits w.toNat 0 8 ∧ d.Only x [F.ECC_INJ_ARM, F.ECC_INJ_TARGET, F.ECC_INJ_MASK, F.ECC_INJ_COUNT] := by
  have hval : (d.writeRow .bar0 R.ECC_INJ 0 w).get F.ECC_INJ_ARM = 1 := by
    refine (d.writeRow_get_w1s (sp := .bar0) (row := R.ECC_INJ) (i := 0) (g := ⟨31, 1, .w1s, fun _ => 0⟩) (by simp [R.ECC_INJ]) (by simp [R.ECC_INJ]) rfl).trans ?_
    have hword : wordFld w ⟨31, 1, .w1s, fun _ => 0⟩ = 1 := harm
    rw [hword, pow_one, Nat.or_mod_two_eq_one]
    exact .inr rfl
  exact ⟨by rw [Dev.is, hval]; rfl,
    d.writeRow_get (g := ⟨24, 5, .rw, fun _ => 0⟩) (by simp [R.ECC_INJ]) (by simp [R.ECC_INJ]) (.inl rfl),
    d.writeRow_get (g := ⟨8, 8, .rw, fun _ => 0⟩) (by simp [R.ECC_INJ]) (by simp [R.ECC_INJ]) (.inl rfl),
    d.writeRow_get (g := ⟨0, 8, .rw, fun _ => 0⟩) (by simp [R.ECC_INJ]) (by simp [R.ECC_INJ]) (.inl rfl),
    d.only_writeRow .bar0 R.ECC_INJ 0 w⟩

theorem Dev.writeEccInj_is {d : Dev} {w : Word} (hup : d.up = true) (hres : setsReserved R.ECC_INJ w = false) (harm : bitOf w.toNat 31 = true)
    (hone : bits w.toNat 31 1 = 1) {target mask count : Nat} (htarget : bits w.toNat 24 5 = target) (hmask : bits w.toNat 8 8 = mask)
    (hcount : bits w.toNat 0 8 = count) : let e := d.writeEccInj w
    if 18 < target then RecordedGlb d e 0x14070 .eField
    else if count = 0 ∨ mask = 0 ∨ (synWeight mask % 2 = 1 ∧ synWeight mask ≠ 1) then RecordedGlb d e 0x14070 .eRange
    else if d.is F.ECC_INJ_ARM = true then RecordedGlb d e 0x14070 .eBusy
    else e.is F.ECC_INJ_ARM = true ∧ e.get F.ECC_INJ_TARGET = target ∧ e.get F.ECC_INJ_MASK = mask ∧ e.get F.ECC_INJ_COUNT = count ∧
      d.Only e [F.ECC_INJ_ARM, F.ECC_INJ_TARGET, F.ECC_INJ_MASK, F.ECC_INJ_COUNT] := by
  subst htarget hmask hcount
  have hfirst : firstByRank ((setsReserved R.ECC_INJ w, .eField) :: (d.changesLocked .bar0 R.ECC_INJ 0 w, .eLocked) ::
      [(d.is F.ECC_INJ_ARM, .eBusy), (decide (18 < bits w.toNat 24 5), .eField),
       (bits w.toNat 0 8 == 0 && (true || d.get F.ECC_INJ_COUNT != 0), .eRange),
       ((bits w.toNat 8 8 == 0 || (synWeight (bits w.toNat 8 8) % 2 == 1 && synWeight (bits w.toNat 8 8) != 1)) &&
         (true || d.get F.ECC_INJ_MASK != bits w.toNat 8 8), .eRange)]) =
      if 18 < bits w.toNat 24 5 then .eField
      else if bits w.toNat 0 8 = 0 ∨ bits w.toNat 8 8 = 0 ∨ (synWeight (bits w.toNat 8 8) % 2 = 1 ∧ synWeight (bits w.toNat 8 8) ≠ 1) then .eRange
      else if d.is F.ECC_INJ_ARM = true then .eBusy else .done := by
    rw [firstByRank_own hres rfl]
    refine (injChecks_first _ _ _ _).trans ?_
    simp
  simp only [Dev.writeEccInj, harm]
  by_cases hfield : 18 < bits w.toNat 24 5
  · rw [if_pos hfield] at hfirst ⊢
    exact recordedGlb_of_rejected hup (by decide) hfirst
  rw [if_neg hfield] at hfirst ⊢
  by_cases hrange : bits w.toNat 0 8 = 0 ∨ bits w.toNat 8 8 = 0 ∨ (synWeight (bits w.toNat 8 8) % 2 = 1 ∧ synWeight (bits w.toNat 8 8) ≠ 1)
  · rw [if_pos hrange] at hfirst ⊢
    exact recordedGlb_of_rejected hup (by decide) hfirst
  rw [if_neg hrange] at hfirst ⊢
  by_cases hbusy : d.is F.ECC_INJ_ARM = true
  · rw [if_pos hbusy] at hfirst ⊢
    exact recordedGlb_of_rejected hup (by decide) hfirst
  rw [if_neg hbusy] at hfirst ⊢
  rw [Dev.regWrite_done hup hfirst]
  exact d.writeEccInj_gets hone

theorem Dev.writeEccGlclr_is {d : Dev} {w : Word} (hup : d.up = true) (hres : setsReserved R.ECC_GLCLR w = false) (hclr : bitOf w.toNat 0 = true) :
    let e := d.writeEccGlclr w
    (∀ i < 16, e.get (F.ECC_GLW0_VALID i) = 0 ∧ e.get (F.ECC_GLW1_HITS i) = 0) ∧ e.get F.ECC_GLSTAT_COUNT = 0 ∧ e.get F.ECC_GLSTAT_OVF = 0 ∧
      e.get F.ECC_GLSTAT_OVFSAT = 0 ∧ e = { d with fld := e.fld } ∧
      ∀ g : Fld, fldId g < 32 * 0x14080 ∨ 32 * 0x14200 ≤ fldId g → e.get g = d.get g := by
  have hrow : d.Only (d.writeRow .bar0 R.ECC_GLCLR 0 w) [] := d.only_writeRow .bar0 R.ECC_GLCLR 0 w
  have heq : d.writeEccGlclr w = ((d.writeRow .bar0 R.ECC_GLCLR 0 w).resetRange 0x14100 0x14200).setAll
      [(F.ECC_GLSTAT_OVFSAT, 0), (F.ECC_GLSTAT_OVF, 0), (F.ECC_GLSTAT_COUNT, 0)] := by
    unfold Dev.writeEccGlclr
    rw [Dev.regWrite_done hup ((firstByRank_own hres rfl _ _ _ _).trans rfl), if_pos hclr]
    rfl
  simp only [heq]
  generalize d.writeRow .bar0 R.ECC_GLCLR 0 w = x at *
  have hset : Dev.Only (x.resetRange 0x14100 0x14200) _ [F.ECC_GLSTAT_OVFSAT, F.ECC_GLSTAT_OVF, F.ECC_GLSTAT_COUNT] :=
    (x.resetRange 0x14100 0x14200).only_setAll [(F.ECC_GLSTAT_OVFSAT, 0), (F.ECC_GLSTAT_OVF, 0), (F.ECC_GLSTAT_COUNT, 0)]
  have hval (f : Fld) (hf : (f, 0) ∈ [(F.ECC_GLSTAT_OVFSAT, 0), (F.ECC_GLSTAT_OVF, 0), (F.ECC_GLSTAT_COUNT, 0)]) :
      ((x.resetRange 0x14100 0x14200).setAll [(F.ECC_GLSTAT_OVFSAT, 0), (F.ECC_GLSTAT_OVF, 0), (F.ECC_GLSTAT_COUNT, 0)]).get f = 0 :=
    Dev.setAll_val _ (by decide) 0 hf (Nat.two_pow_pos _)
  generalize (x.resetRange 0x14100 0x14200).setAll [(F.ECC_GLSTAT_OVFSAT, 0), (F.ECC_GLSTAT_OVF, 0), (F.ECC_GLSTAT_COUNT, 0)] = e at *
  have hclear (g : Fld) (hlo : 32 * 0x14100 ≤ fldId g) (hhi : fldId g < 32 * 0x14200) (hrst : g.rst = 0) : e.get g = 0 := by
    rw [hset.2 g ?_, Dev.resetRange_get, if_neg (by omega), hrst]
    have hlow : ∀ f ∈ [F.ECC_GLSTAT_OVFSAT, F.ECC_GLSTAT_OVF, F.ECC_GLSTAT_COUNT], fldId f < 32 * 0x14100 := by decide
    exact fun f hf => (lt_of_lt_of_le (hlow f hf) hlo).ne
  refine ⟨fun i hi => ⟨hclear _ ?_ ?_ rfl, hclear _ ?_ ?_ rfl⟩, hval _ (by simp), hval _ (by simp), hval _ (by simp), ?_, fun g hg => ?_⟩
  · simp only [fldId, F.ECC_GLW0_VALID]; omega
  · simp only [fldId, F.ECC_GLW0_VALID]; omega
  · simp only [fldId, F.ECC_GLW1_HITS]; omega
  · simp only [fldId, F.ECC_GLW1_HITS]; omega
  · rw [hset.1, Dev.resetRange, hrow.1]
  · have hin : ∀ f ∈ [F.ECC_GLSTAT_OVFSAT, F.ECC_GLSTAT_OVF, F.ECC_GLSTAT_COUNT], 32 * 0x14080 ≤ fldId f ∧ fldId f < 32 * 0x14200 := by decide
    rw [hset.2 g fun f hf => by have := hin f hf; omega, Dev.resetRange_get, if_pos (by omega)]
    exact hrow.2 g (by simp)

theorem Dev.writeEccCtrl_is {d : Dev} {w : Word} (hup : d.up = true) (hres : setsReserved R.ECC_CTRL w = false) (hclr : bitOf w.toNat 0 = true) :
    let e := d.writeEccCtrl w
    (∀ i < 16, e.get (F.ECC_LBCNT_UE i) = 0 ∧ e.get (F.ECC_LBCNT_OVF i) = 0) ∧ e.get F.ECC_UECNT_UE = 0 ∧ e.get F.ECC_UECNT_WIPE = 0 ∧
      e = { d with fld := e.fld } ∧
      ∀ g : Fld, (fldId g < 32 * 0x14020 ∨ 32 * 0x1406C ≤ fldId g) → fldId g ≠ fldId F.ECC_CTRL_LOCK → e.get g = d.get g := by
  have hrow : d.Only (d.writeRow .bar0 R.ECC_CTRL 0 w) [F.ECC_CTRL_LOCK] := d.only_writeRow .bar0 R.ECC_CTRL 0 w
  have hfirst : firstByRank [(setsReserved R.ECC_CTRL w, Status.eField), (d.changesLocked .bar0 R.ECC_CTRL 0 w, .eLocked)] = .done := by
    have hlock : d.changesLocked .bar0 R.ECC_CTRL 0 w = false := Bool.and_false _
    rw [hres, hlock]
    rfl
  have heq : d.writeEccCtrl w = ((d.writeRow .bar0 R.ECC_CTRL 0 w).resetRange 0x14020 0x14060).resetRange 0x14068 0x1406C := by
    unfold Dev.writeEccCtrl
    rw [Dev.regWrite_done hup hfirst, if_pos hclr]
  simp only [heq]
  generalize d.writeRow .bar0 R.ECC_CTRL 0 w = x at *
  have hcount (g : Fld) (hlo : 32 * 0x14020 ≤ fldId g) (hhi : fldId g < 32 * 0x14060) (hrst : g.rst = 0) :
      ((x.resetRange 0x14020 0x14060).resetRange 0x14068 0x1406C).get g = 0 := by
    rw [Dev.resetRange_get, if_pos (by omega), Dev.resetRange_get, if_neg (by omega), hrst]
  refine ⟨fun i hi => ⟨hcount _ ?_ ?_ rfl, hcount _ ?_ ?_ rfl⟩, ?_, ?_, ?_, fun g hg hne => ?_⟩
  · simp only [fldId, F.ECC_LBCNT_UE]; omega
  · simp only [fldId, F.ECC_LBCNT_UE]; omega
  · simp only [fldId, F.ECC_LBCNT_OVF]; omega
  · simp only [fldId, F.ECC_LBCNT_OVF]; omega
  · exact (Dev.resetRange_get _ _ _ _).trans (if_neg (by decide))
  · exact (Dev.resetRange_get _ _ _ _).trans (if_neg (by decide))
  · rw [Dev.resetRange, Dev.resetRange, hrow.1]
  · rw [Dev.resetRange_get, if_pos (by omega), Dev.resetRange_get, if_pos (by omega)]
    exact hrow.2 g (by simpa using hne.symm)

/-- Settles O53, by what each control's write and each command does. -/
theorem eccControls : Obligations.EccControls := by
  unfold Obligations.EccControls
  refine fun s hup => ⟨fun w hres m base len hm hbase hlen => Ends.of_act hup ?_, fun hbusy => Ends.of_act hup ?_, fun hbusy => Ends.of_act hup ?_,
    Ends.of_act hup ?_, fun b _ hcap => ?_, fun b => Ends.of_act hup ?_, fun w hres => Ends.of_act hup ?_, fun w hres => Ends.of_act hup ?_,
    fun w hres => Ends.of_act hup ?_⟩
  · exact Dev.writeEccFill_is hup hres (bitOf_withBit_same w (by decide)) ((bits_withBit_ne w (by decide) (by decide)).trans hm.symm) hbase hlen
  · exact if_neg (by simp [hbusy])
  · exact Dev.fillDone_is hbusy
  · exact s.dev.leakTick_is
  · exact if_neg (Nat.not_lt.mpr hcap)
  · exact s.dev.larUeNotice_is b.val
  · exact Dev.writeEccInj_is hup hres (bitOf_withBit_same w (by decide)) (bits_withBit_same w (by decide))
      (bits_withBit_ne w (by decide) (by decide)) (bits_withBit_ne w (by decide) (by decide)) (bits_withBit_ne w (by decide) (by decide))
  · exact Dev.writeEccGlclr_is hup hres (bitOf_withBit_same w (by decide))
  · exact Dev.writeEccCtrl_is hup hres (bitOf_withBit_same w (by decide))

end Sys2Proof.Machine

/-!
SUPPORT. FLS_CMD and its end (O48).
-/
namespace Sys2Proof.Machine

open Sys2Proof

/-! ### Bytes in arrays of word registers -/

theorem bits_replaceByte (v : Nat) {x k l : Nat} (hx : x < 256) (hk : k < 4) (hl : l < 4) :
    bits ((v - bits v (8 * k) 8 * 2 ^ (8 * k) + x * 2 ^ (8 * k)) % 2 ^ 32) (8 * l) 8 = if k = l then x else bits v (8 * l) 8 := by
  by_cases hkl : k = l
  · rw [if_pos hkl, ← hkl]
    interval_cases k <;> simp only [bits] <;> omega
  · rw [if_neg hkl]
    interval_cases k <;> interval_cases l <;> simp only [bits] <;> omega

section

variable {arr : Nat → Fld} (hwidth : ∀ i, (arr i).w = 32) (hapart : ∀ i j, i ≠ j → fldId (arr i) ≠ fldId (arr j))

include hwidth hapart

/-- A byte put in an array is read there, and every other byte as before. -/
theorem Dev.putByte_bits (d : Dev) (i j : Nat) (b : Byte) : bits ((d.putByte arr i b).get (arr (j / 4))) (8 * (j % 4)) 8 =
    if i = j then b.toNat else bits (d.get (arr (j / 4))) (8 * (j % 4)) 8 := by
  unfold Dev.putByte
  by_cases hword : i / 4 = j / 4
  · rw [hword, Dev.get_set_same, hwidth, bits_replaceByte _ b.isLt (Nat.mod_lt _ (by decide)) (Nat.mod_lt _ (by decide))]
    by_cases hij : i = j
    · rw [if_pos hij, if_pos (by rw [hij])]
    · rw [if_neg hij, if_neg (by omega)]
  · rw [Dev.get_set_ne _ _ (hapart _ _ hword), if_neg (by rintro rfl; exact hword rfl)]

theorem Dev.putBytes_bits (l : List Byte) (d : Dev) (i j : Nat) : bits ((d.putBytes arr i l).get (arr (j / 4))) (8 * (j % 4)) 8 =
    if i ≤ j ∧ j < i + l.length then (l.getD (j - i) 0).toNat else bits (d.get (arr (j / 4))) (8 * (j % 4)) 8 := by
  induction l generalizing d i with
  | nil => rw [if_neg (by simp only [List.length_nil]; omega)]; rfl
  | cons b l ih =>
    rw [Dev.putBytes, ih, Dev.putByte_bits hwidth hapart]
    simp only [List.length_cons]
    by_cases hij : i = j
    · rw [if_neg (by omega), if_pos hij, if_pos (by omega), hij, Nat.sub_self]
      rfl
    · by_cases hin : i + 1 ≤ j ∧ j < i + 1 + l.length
      · obtain ⟨k, rfl⟩ : ∃ k, j = i + 1 + k := ⟨j - (i + 1), by omega⟩
        rw [if_pos hin, if_pos (by omega), (by omega : i + 1 + k - (i + 1) = k), (by omega : i + 1 + k - i = k + 1), List.getD_cons_succ]
      · rw [if_neg hin, if_neg hij, if_neg (by omega)]

/-- What is put in an array from its first byte on is what it reads. -/
theorem Dev.getBytes_putBytes (d : Dev) (l : List Byte) : (d.putBytes arr 0 l).getBytes arr l.length = l := by
  refine List.ext_getElem (by simp [Dev.getBytes]) fun j h1 h2 => ?_
  simp only [Dev.getBytes, List.getElem_map, List.getElem_range]
  rw [ Dev.putBytes_bits hwidth hapart, if_pos (by omega), Nat.sub_zero,
    List.getD_eq_getElem l 0 h2, BitVec.ofNat_toNat, BitVec.setWidth_eq]

end

theorem Dev.only_putBytes (arr : Nat → Fld) (l : List Byte) (d : Dev) (i : Nat) :
    d.Only (d.putBytes arr i l) ((List.range l.length).map fun k => arr ((i + k) / 4)) := by
  induction l generalizing d i with
  | nil => exact .refl d _
  | cons b l ih =>
    refine ((d.only_set (arr (i / 4)) _).trans (ih (d.putByte arr i b) (i + 1))).mono ?_
    rw [List.length_cons, List.range_succ_eq_map, List.map_cons, List.map_map]
    refine List.append_subset.mpr ⟨by simp, fun f hf => ?_⟩
    obtain ⟨k, hk, rfl⟩ := List.mem_map.mp hf
    exact List.mem_cons_of_mem _ (List.mem_map.mpr ⟨k, hk, by simp only [Function.comp_apply]; congr 2; omega⟩)

/-! ### What jobs change -/

/-- The fields that follow the flashes' jobs. -/
def flsStatFlds : List Fld := [F.FLS_STAT_PROGRAMMING, F.FLS_STAT_ERASING, F.FLS_STAT_SUSPENDED]

theorem Dev.startJob_is (d : Dev) (sel : Nat) : ∃ jobs out, d.startJob sel = { d with fls := { d.fls with jobs := jobs }, out := out } := by
  unfold Dev.startJob
  split
  · exact ⟨_, _, rfl⟩
  · split_ifs
    · exact ⟨_, _, rfl⟩
    · exact ⟨_, _, rfl⟩

theorem Dev.startJobs_is (d : Dev) : (∃ jobs, d.startJobs.fls = { d.fls with jobs := jobs }) ∧
    d.Only { d.startJobs with fls := d.fls, out := d.out } flsStatFlds := by
  obtain ⟨jobs0, out0, h0⟩ := d.startJob_is 0
  obtain ⟨jobs, out, h1⟩ := (d.startJob 0).startJob_is 1
  have hstarted : (d.startJob 0).startJob 1 = { d with fls := { d.fls with jobs := jobs }, out := out } := by rw [h1, h0]
  have hshow := ((d.startJob 0).startJob 1).only_showFls
  have heq : d.startJobs = ((d.startJob 0).startJob 1).showFls := rfl
  rw [heq]
  generalize (d.startJob 0).startJob 1 = x at *
  subst hstarted
  obtain ⟨m, hm⟩ := hshow.eq_with
  obtain ⟨-, hkept⟩ := hshow
  generalize Dev.showFls _ = e at *
  subst hm
  exact ⟨⟨jobs, rfl⟩, rfl, hkept⟩

theorem Dev.addJobs_is (d : Dev) (l : List FlashJob) : (∃ jobs, (d.addJobs l).fls = { d.fls with jobs := jobs }) ∧
    d.Only { d.addJobs l with fls := d.fls, out := d.out } flsStatFlds := by
  obtain ⟨⟨jobs, hfls⟩, honly⟩ := (d.modFls fun x => { x with jobs := x.jobs ++ l }).startJobs_is
  have heq : d.addJobs l = (d.modFls fun x => { x with jobs := x.jobs ++ l }).startJobs := rfl
  rw [heq]
  generalize Dev.startJobs _ = e at *
  obtain ⟨hall, hkept⟩ := honly
  exact ⟨⟨jobs, hfls⟩, (congrArg (fun y : Dev => { y with fls := d.fls }) hall :), hkept⟩

/-! ### FLS_CMD (R428, R454) -/

theorem flsWord_toNat (w : Word) {op : Nat} (hop : op < 8) :
    (flsWord w op).toNat = w.toNat % 2 ^ 31 - bits w.toNat 12 3 * 2 ^ 12 + op * 2 ^ 12 + 2 ^ 31 := by
  rw [flsWord, BitVec.toNat_ofNat]
  refine Nat.mod_eq_of_lt ?_
  simp only [bits]
  omega

theorem flsWord_is (w : Word) {op : Nat} (hop : op < 8) : bitOf (flsWord w op).toNat 31 = true ∧ bits (flsWord w op).toNat 12 3 = op ∧
    bits (flsWord w op).toNat 0 9 = bits w.toNat 0 9 ∧ bits (flsWord w op).toNat 15 1 = bits w.toNat 15 1 := by
  have hw := w.isLt
  rw [flsWord_toNat w hop]
  simp only [bitOf, bits, beq_iff_eq]
  omega

theorem flsCmdChecks_first : ∀ range busy locked : Bool, firstByRank [(false, .eField), (range, .eRange), (busy, .eBusy), (locked, .eLocked)] =
    if range then .eRange else if locked then .eLocked else if busy then .eBusy else .done := by decide

theorem Dev.only_writeFlsCmd (d : Dev) (w : Word) : d.Only (d.writeRow .bar0 R.FLS_CMD 0 w) [F.FLS_CMD_GO, F.FLS_CMD_SEL, F.FLS_CMD_OP, F.FLS_CMD_LEN] :=
  d.only_writeRow .bar0 R.FLS_CMD 0 w

theorem Dev.writeFlsCmd_gets (d : Dev) (w : Word) : (d.writeRow .bar0 R.FLS_CMD 0 w).get F.FLS_CMD_OP = bits w.toNat 12 3 ∧
    (d.writeRow .bar0 R.FLS_CMD 0 w).get F.FLS_CMD_LEN = bits w.toNat 0 9 ∧ (d.writeRow .bar0 R.FLS_CMD 0 w).get F.FLS_CMD_SEL = bits w.toNat 15 1 :=
  ⟨d.writeRow_get (g := ⟨12, 3, .rw, fun _ => 0⟩) (by simp [R.FLS_CMD]) (by simp [R.FLS_CMD]) (.inl rfl),
    d.writeRow_get (g := ⟨0, 9, .rw, fun _ => 0⟩) (by simp [R.FLS_CMD]) (by simp [R.FLS_CMD]) (.inl rfl),
    d.writeRow_get (g := ⟨15, 1, .rw, fun _ => 0⟩) (by simp [R.FLS_CMD]) (by simp [R.FLS_CMD]) (.inl rfl)⟩

/-- What goes out for each operation, and the erase that joins the jobs. -/
def Dev.FlsSent (d e : Dev) (sel op : Nat) : Prop :=
  (op = 1 → e.out = ⟨.flash, sel, [0x9F, 0], []⟩ :: d.out) ∧
  (op = 2 → e.out = ⟨.flash, sel, [0x5A, d.get F.FLS_CMDADDR_ADDR], []⟩ :: d.out) ∧
  (op = 3 → e.out = ⟨.flash, sel, [0x05, 0], []⟩ :: d.out) ∧
  (op = 4 → ∃ j ∈ e.fls.jobs, j.sel = sel ∧ j.erase = true ∧ j.addr = sectorOf (d.get F.FLS_CMDADDR_ADDR) ∧ j.who = 2) ∧
  (op = 5 → e.out = ⟨.flash, sel, [0xB9, 0], []⟩ :: d.out) ∧
  (op = 6 → e.out = ⟨.flash, sel, [0xAB, 0], []⟩ :: d.out) ∧
  (op = 7 → ∃ l, e.out = ⟨.flash, sel, [0x99, 0], []⟩ :: ⟨.flash, sel, [0x66, 0], []⟩ :: l)

/-- An operation that only sends its command. -/
theorem Dev.flsSends_is {d e : Dev} {op len : Nat} (heq : e = { (d.set F.FLS_CMD_BUSY 1) with
    fls := { d.fls with op := some (op, len), cmdEnd := none }, out := e.out }) :
    e.get F.FLS_CMD_BUSY = 1 ∧ e.fls.op = some (op, len) ∧ d.Only { e with fls := d.fls, out := d.out } (F.FLS_CMD_BUSY :: flsStatFlds) := by
  have honly := (d.only_set F.FLS_CMD_BUSY 1).mono (List.cons_subset_cons F.FLS_CMD_BUSY (List.nil_subset flsStatFlds))
  have hbusy : (d.set F.FLS_CMD_BUSY 1).get F.FLS_CMD_BUSY = 1 := Dev.get_set_same _ _ _
  have hget (g : Fld) : e.get g = (d.set F.FLS_CMD_BUSY 1).get g := by rw [heq]; rfl
  refine ⟨(hget _).trans hbusy, by rw [heq], ?_, fun g hg => (hget g).trans (honly.2 g hg)⟩
  rw [heq]
  rfl

/-- The sector erase of FLS_CMD as a job. -/
def Dev.cmdErase (d : Dev) (sel : Nat) : FlashJob := { sel := sel, addr := sectorOf (d.get F.FLS_CMDADDR_ADDR), erase := true, who := 2 }

theorem Dev.flsErase_is (d : Dev) (sel len : Nat) :
    let e := ((d.set F.FLS_CMD_BUSY 1).modFls fun x => { x with op := some (4, len), cmdEnd := none }).addJobs [d.cmdErase sel]
    e.get F.FLS_CMD_BUSY = 1 ∧ e.fls.op = some (4, len) ∧ d.Only { e with fls := d.fls, out := d.out } (F.FLS_CMD_BUSY :: flsStatFlds) ∧
      d.FlsSent e sel 4 := by
  obtain ⟨y, hy⟩ : ∃ y : Dev, y = (d.set F.FLS_CMD_BUSY 1).modFls fun x => { x with op := some (4, len), cmdEnd := none } := ⟨_, rfl⟩
  have hbusy : y.get F.FLS_CMD_BUSY = 1 := by rw [hy]; exact Dev.get_set_same _ _ _
  have hfls : y.fls = { d.fls with op := some (4, len), cmdEnd := none } := by rw [hy]; rfl
  have hyonly : d.Only { y with fls := d.fls, out := d.out } [F.FLS_CMD_BUSY] := by rw [hy]; exact d.only_set _ _
  obtain ⟨j, hj, hjob⟩ := y.addJobs_hasJob (List.mem_singleton_self (d.cmdErase sel))
  rw [← hy]
  obtain ⟨⟨jobs, hjobs⟩, honly⟩ := y.addJobs_is [d.cmdErase sel]
  generalize y.addJobs _ = e at *
  have hall : d.Only { e with fls := d.fls, out := d.out } (F.FLS_CMD_BUSY :: flsStatFlds) := by
    refine ⟨?_, fun g hg => (honly.2 g fun f hf => hg f (List.mem_cons_of_mem _ hf)).trans
      (hyonly.2 g fun f hf => hg f (List.mem_singleton.mp hf ▸ List.mem_cons_self))⟩
    exact (congrArg (fun z : Dev => { z with fls := d.fls, out := d.out }) honly.1 :).trans (congrArg (fun z : Dev => { z with fld := e.fld }) hyonly.1 :)
  refine ⟨(honly.2 _ (by decide)).trans hbusy, by rw [hjobs, hfls], hall, ?_⟩
  simp only [Dev.FlsSent, OfNat.ofNat_ne_one, Nat.reduceEqDiff, false_implies, true_implies, true_and, and_true]
  refine ⟨j, hj, ?_⟩
  rcases hjob with rfl | rfl <;> exact ⟨rfl, rfl, rfl, rfl⟩

theorem Dev.flsOp_is (d : Dev) (sel len : Nat) {op : Nat} (h1 : 1 ≤ op) (h7 : op ≤ 7) : let e := d.flsOp sel op len
    e.get F.FLS_CMD_BUSY = 1 ∧ e.fls.op = some (op, len) ∧ d.Only { e with fls := d.fls, out := d.out } (F.FLS_CMD_BUSY :: flsStatFlds) ∧
      d.FlsSent e sel op := by
  have hsent {e : Dev} (heq : e = { (d.set F.FLS_CMD_BUSY 1) with fls := { d.fls with op := some (op, len), cmdEnd := none }, out := e.out })
      (hout : d.FlsSent e sel op) : e.get F.FLS_CMD_BUSY = 1 ∧ e.fls.op = some (op, len) ∧
        d.Only { e with fls := d.fls, out := d.out } (F.FLS_CMD_BUSY :: flsStatFlds) ∧ d.FlsSent e sel op := by
    obtain ⟨hbusy, hop, honly⟩ := Dev.flsSends_is heq
    exact ⟨hbusy, hop, honly, hout⟩
  unfold Dev.flsOp
  interval_cases op
  · exact hsent rfl (by simp [Dev.FlsSent, Dev.flashSend, Dev.emit, Dev.modFls])
  · exact hsent rfl (by simp [Dev.FlsSent, Dev.flashSend, Dev.emit, Dev.modFls])
  · exact hsent rfl (by simp [Dev.FlsSent, Dev.flashSend, Dev.emit, Dev.modFls])
  · exact d.flsErase_is sel len
  · exact hsent rfl (by simp [Dev.FlsSent, Dev.flashSend, Dev.emit, Dev.modFls])
  · exact hsent rfl (by simp [Dev.FlsSent, Dev.flashSend, Dev.emit, Dev.modFls])
  · simp only
    split_ifs
    · exact hsent rfl (by simp [Dev.FlsSent, Dev.flashSend, Dev.emit, Dev.modFls])
    · exact hsent rfl (by simp [Dev.FlsSent, Dev.flashSend, Dev.emit, Dev.modFls])

theorem Dev.writeFlsCmd_is {d : Dev} {w : Word} {op len sel : Nat} (hup : d.up = true) (hres : setsReserved R.FLS_CMD w = false)
    (hgo : bitOf w.toNat 31 = true) (hop : bits w.toNat 12 3 = op) (hlen : bits w.toNat 0 9 = len) (hsel : bits w.toNat 15 1 = sel)
    (h1 : 1 ≤ op) (h7 : op ≤ 7) : let e := d.writeFlsCmd w
    if op = 2 ∧ (len = 0 ∨ 256 < len) then RecordedGlb d e 0x12040 .eRange
    else if op = 4 ∧ d.bankSector sel (d.get F.FLS_CMDADDR_ADDR) = true then RecordedGlb d e 0x12040 .eLocked
    else if d.is F.FLS_CMD_BUSY = true then RecordedGlb d e 0x12040 .eBusy
    else e.get F.FLS_CMD_BUSY = 1 ∧ e.get F.FLS_CMD_GO = 0 ∧ e.get F.FLS_CMD_OP = op ∧ e.get F.FLS_CMD_LEN = len ∧ e.get F.FLS_CMD_SEL = sel ∧
      e.fls.op = some (op, len) ∧ d.Only { e with fls := d.fls, out := d.out } [F.FLS_CMD_BUSY, F.FLS_CMD_GO, F.FLS_CMD_OP, F.FLS_CMD_LEN,
        F.FLS_CMD_SEL, F.FLS_STAT_PROGRAMMING, F.FLS_STAT_ERASING, F.FLS_STAT_SUSPENDED] ∧ d.FlsSent e sel op := by
  have hfirst : firstByRank ((setsReserved R.FLS_CMD w, .eField) :: (d.changesLocked .bar0 R.FLS_CMD 0 w, .eLocked) ::
      [(op == 0 && (true || d.get F.FLS_CMD_OP != 0), .eField),
       (op == 2 && (len == 0 || decide (256 < len)) && (true || d.get F.FLS_CMD_LEN != len || d.get F.FLS_CMD_OP != 2), .eRange),
       (true && d.is F.FLS_CMD_BUSY, .eBusy), (true && op == 4 && d.bankSector sel (d.get F.FLS_CMDADDR_ADDR), .eLocked)]) =
      if op = 2 ∧ (len = 0 ∨ 256 < len) then .eRange
      else if op = 4 ∧ d.bankSector sel (d.get F.FLS_CMDADDR_ADDR) = true then .eLocked
      else if d.is F.FLS_CMD_BUSY = true then .eBusy else .done := by
    have hzero : (op == 0 && (true || d.get F.FLS_CMD_OP != 0)) = false := by
      rw [beq_eq_false_iff_ne.mpr (by omega : op ≠ 0), Bool.false_and]
    rw [firstByRank_own hres rfl, hzero]
    refine (flsCmdChecks_first _ _ _).trans ?_
    simp
  simp only [Dev.writeFlsCmd, hgo, hop, hlen, hsel]
  by_cases hrange : op = 2 ∧ (len = 0 ∨ 256 < len)
  · rw [if_pos hrange] at hfirst ⊢
    exact recordedGlb_of_rejected hup (by decide) hfirst
  rw [if_neg hrange] at hfirst ⊢
  by_cases hlocked : op = 4 ∧ d.bankSector sel (d.get F.FLS_CMDADDR_ADDR) = true
  · rw [if_pos hlocked] at hfirst ⊢
    exact recordedGlb_of_rejected hup (by decide) hfirst
  rw [if_neg hlocked] at hfirst ⊢
  by_cases hbusy : d.is F.FLS_CMD_BUSY = true
  · rw [if_pos hbusy] at hfirst ⊢
    exact recordedGlb_of_rejected hup (by decide) hfirst
  rw [if_neg hbusy] at hfirst ⊢
  rw [Dev.regWrite_done hup hfirst, if_pos trivial]
  obtain ⟨hgop, hglen, hgsel⟩ := d.writeFlsCmd_gets w
  have hrow := (d.only_writeFlsCmd w).trans (Dev.only_set _ F.FLS_CMD_GO 0)
  have hgo0 : ((d.writeRow .bar0 R.FLS_CMD 0 w).set F.FLS_CMD_GO 0).get F.FLS_CMD_GO = 0 := Dev.get_set_same _ _ _
  have hkept {g : Fld} (hg : fldId F.FLS_CMD_GO ≠ fldId g) : ((d.writeRow .bar0 R.FLS_CMD 0 w).set F.FLS_CMD_GO 0).get g =
      (d.writeRow .bar0 R.FLS_CMD 0 w).get g := Dev.get_set_ne _ _ hg
  have hxop := (hkept (g := F.FLS_CMD_OP) (by decide)).trans (hgop.trans hop)
  have hxlen := (hkept (g := F.FLS_CMD_LEN) (by decide)).trans (hglen.trans hlen)
  have hxsel := (hkept (g := F.FLS_CMD_SEL) (by decide)).trans (hgsel.trans hsel)
  generalize (d.writeRow .bar0 R.FLS_CMD 0 w).set F.FLS_CMD_GO 0 = x at *
  obtain ⟨hbusy1, hfop, honly, hsent⟩ := x.flsOp_is sel len h1 h7
  generalize x.flsOp sel op len = e at *
  have hget {g : Fld} (hg : ∀ f ∈ F.FLS_CMD_BUSY :: flsStatFlds, fldId f ≠ fldId g) : e.get g = x.get g := honly.2 g hg
  have haddr : x.get F.FLS_CMDADDR_ADDR = d.get F.FLS_CMDADDR_ADDR := hrow.2 _ (by decide)
  have hfls : x.fls = d.fls := by rw [hrow.1]
  have hout : x.out = d.out := by rw [hrow.1]
  rw [hfls, hout] at honly
  refine ⟨hbusy1, (hget (by decide)).trans hgo0, (hget (by decide)).trans hxop, (hget (by decide)).trans hxlen, (hget (by decide)).trans hxsel, hfop,
    (hrow.trans honly).mono (by decide), ?_⟩
  simpa only [Dev.FlsSent, haddr, hout] using hsent

/-! ### FLS_CMD_DONE -/

theorem flsReturned_le {op len : Nat} (hlen : len ≤ 256) : flsReturned op len ≤ 256 := by
  unfold flsReturned
  split <;> omega

theorem fldId_cmdbuf (i : Nat) : fldId (F.FLS_CMDBUF_DATA i) = 32 * 0x12100 + 128 * i := by
  simp only [fldId, F.FLS_CMDBUF_DATA]
  omega

theorem queFld_cmdbuf {i : Nat} (hi : i < 64) : QueFld 0 (F.FLS_CMDBUF_DATA i) := by
  have hlow : ∀ f ∈ [F.QUE_W2_LOST 0, F.QUE_W1_LOSTSAT 0, F.LAR_LEAK_COUNT], fldId f < 32 * 0x12100 := by decide
  refine queFld_of_ids fun f hf => ?_
  rw [fldId_cmdbuf]
  simp only [List.mem_cons, List.not_mem_nil, or_false] at hf hlow
  rcases hf with rfl | rfl | rfl | rfl | rfl
  · have := hlow _ (.inl rfl); omega
  · have := hlow _ (.inr (.inl rfl)); omega
  · have := hlow _ (.inr (.inr rfl)); omega
  · simp only [fldId, F.ECC_INJ_COUNT]; omega
  · simp only [fldId, F.ECC_INJ_ARM]; omega

theorem Dev.flsDone_is {d : Dev} {data : List Byte} {op len : Nat} {st : Status} (hop : d.fls.op = some (op, len)) (hlen : len ≤ 256)
    (hst : (if op = 4 then d.fls.cmdEnd else some .done) = some st) (hdata : flsReturned op len ≤ data.length) : let e := d.flsDone data
    e.get F.FLS_CMD_BUSY = 0 ∧ e.get F.FLS_CMD_STATUS = statusCode st ∧ e.get F.FLS_INT_CMDDONE = 1 ∧ e.fls.op = none ∧
      e.getBytes F.FLS_CMDBUF_DATA (flsReturned op len) = data.take (flsReturned op len) ∧
      d.Told { e with fls := d.fls } (F.FLS_CMD_BUSY :: F.FLS_CMD_STATUS :: F.FLS_INT_CMDDONE :: (List.range 64).map F.FLS_CMDBUF_DATA) := by
  obtain ⟨l, hl⟩ : ∃ l, l = data.take (flsReturned op len) := ⟨_, rfl⟩
  have hll : l.length = flsReturned op len := by rw [hl, List.length_take]; exact Nat.min_eq_left hdata
  have hle := flsReturned_le (op := op) hlen
  have hbytes : (d.putBytes F.FLS_CMDBUF_DATA 0 l).getBytes F.FLS_CMDBUF_DATA l.length = l :=
    Dev.getBytes_putBytes (fun _ => rfl) (fun i j hij => by have := hij; rw [fldId_cmdbuf, fldId_cmdbuf]; omega) d l
  have hput : d.Only (d.putBytes F.FLS_CMDBUF_DATA 0 l) ((List.range 64).map F.FLS_CMDBUF_DATA) :=
    (Dev.only_putBytes F.FLS_CMDBUF_DATA l d 0).mono fun f hf => by
      obtain ⟨k, hk, rfl⟩ := List.mem_map.mp hf
      have := List.mem_range.mp hk
      exact List.mem_map.mpr ⟨(0 + k) / 4, List.mem_range.mpr (by omega), rfl⟩
  obtain ⟨x, hx⟩ : ∃ x : Dev, x = ((d.putBytes F.FLS_CMDBUF_DATA 0 l).set F.FLS_CMD_BUSY 0).set F.FLS_CMD_STATUS (statusCode st) := ⟨_, rfl⟩
  have hset : (d.putBytes F.FLS_CMDBUF_DATA 0 l).Only x [F.FLS_CMD_BUSY, F.FLS_CMD_STATUS] := hx ▸ (Dev.only_set _ _ _).trans (Dev.only_set _ _ _)
  have hbusy : x.get F.FLS_CMD_BUSY = 0 := by rw [hx, Dev.get_set_ne _ _ (by decide), Dev.get_set_same]; rfl
  have hstatus : x.get F.FLS_CMD_STATUS = statusCode st := by
    rw [hx, Dev.get_set_same]
    cases st <;> rfl
  obtain ⟨y, hy⟩ : ∃ y : Dev, y = { x with fls := { d.fls with op := none, cmdEnd := none } } := ⟨_, rfl⟩
  have hget (g : Fld) : y.get g = x.get g := by rw [hy]; rfl
  have heq : d.flsDone data = y.raise F.FLS_INT_CMDDONE 0x1301 [0] 0 0 0 := by
    unfold Dev.flsDone
    rw [hop]
    simp only [hst, ← hl]
    rw [hy, hx, hput.1]
    rfl
  have htold := y.told_raise F.FLS_INT_CMDDONE 0x1301 [0] 0 0 0 t000_lt
  have hne {g : Fld} (hint : fldId F.FLS_INT_CMDDONE ≠ fldId g) (hq : QueFld 0 g) : (d.flsDone data).get g = x.get g :=
    (heq ▸ Dev.raise_get_ne y _ _ _ _ hint (by simpa using hq)).trans (hget g)
  have hfls : (d.flsDone data).fls = { d.fls with op := none, cmdEnd := none } := by
    rw [heq, htold.1, hy]
  refine ⟨(hne (by decide) (queFld_of_ids (by decide))).trans hbusy, (hne (by decide) (queFld_of_ids (by decide))).trans hstatus,
    heq ▸ Dev.raise_get_int _ _ _ _ _ _ (plainFld_of_fldId (by decide) (by decide) (by decide)) t000_lt, by rw [hfls], ?_, ?_⟩
  · rw [← hl, ← hll]
    refine Eq.trans ?_ hbytes
    refine List.map_congr_left fun i hi => ?_
    have hil := List.mem_range.mp hi
    rw [hne ?_ (queFld_cmdbuf (by omega)), hset.2 _ ?_]
    · intro f hf
      have hlow : ∀ f ∈ [F.FLS_CMD_BUSY, F.FLS_CMD_STATUS], fldId f < 32 * 0x12100 := by decide
      have := hlow f hf
      rw [fldId_cmdbuf]
      omega
    · rw [fldId_cmdbuf]
      simp only [fldId, F.FLS_INT_CMDDONE]
      omega
  · have hall := (hput.trans hset).mono (gs := F.FLS_CMD_BUSY :: F.FLS_CMD_STATUS :: F.FLS_INT_CMDDONE :: (List.range 64).map F.FLS_CMDBUF_DATA)
      (List.append_subset.mpr ⟨fun f hf => .tail _ (.tail _ (.tail _ hf)), by simp⟩)
    refine ⟨?_, fun g hg hne => (heq ▸ htold.2 g hg (by simpa using hne _ (by simp))).trans ((hget g).trans (hall.2 g hne))⟩
    obtain ⟨m, rfl⟩ := hall.eq_with
    rw [heq]
    exact (congrArg (fun z : Dev => { z with fls := d.fls }) htold.1 :).trans (by rw [hy])

/-- Settles O48, by the checks of a write of FLS_CMD, what each operation sends, and what its end leaves. -/
theorem flashCommands : Obligations.FlashCommands := by
  unfold Obligations.FlashCommands
  refine fun s w hup => ⟨fun op c hmem hres len sel hlen hsel => ?_, fun data => ⟨fun hop => Ends.of_act hup ?_, fun len hop hend => Ends.of_act hup ?_,
    fun op len st hop hlen hst hdata => Ends.of_act hup ?_⟩⟩
  · obtain ⟨hexec, h1, h7⟩ : exec c s = (act s fun d => d.writeFlsCmd (flsWord w op)) ∧ 1 ≤ op ∧ op ≤ 7 := by
      simp only [List.mem_cons, Prod.mk.injEq, List.not_mem_nil, or_false] at hmem
      rcases hmem with ⟨rfl, rfl⟩ | ⟨rfl, rfl⟩ | ⟨rfl, rfl⟩ | ⟨rfl, rfl⟩ | ⟨rfl, rfl⟩ | ⟨rfl, rfl⟩ | ⟨rfl, rfl⟩ <;> exact ⟨rfl, by decide, by decide⟩
    obtain ⟨hwgo, hwop, hwlen, hwsel⟩ := flsWord_is w (op := op) (by omega)
    rw [hexec]
    exact Ends.of_act hup (Dev.writeFlsCmd_is hup hres hwgo hwop (hwlen.trans hlen.symm) (hwsel.trans hsel.symm) h1 h7)
  · simp only [Dev.flsDone, hop]
  · simp only [Dev.flsDone, hop, hend, if_true]
  · exact Dev.flsDone_is hop hlen hst hdata

end Sys2Proof.Machine

/-!
SUPPORT. Records of the Granary read back as written.
-/
namespace Sys2Proof.Machine

open Sys2Proof

/-! ### Numbers as little-endian bytes (R3) -/

@[simp] theorem length_leBytes (k n : Nat) : (leBytes k n).length = k := by
  induction k generalizing n with
  | zero => rfl
  | succ k ih => rw [leBytes, List.length_cons, ih]

theorem leNat_leBytes (k n : Nat) : leNat (leBytes k n) = n % 256 ^ k := by
  induction k generalizing n with
  | zero => rw [leBytes, leNat, pow_zero, Nat.mod_one]
  | succ k ih =>
    have hbyte : (BitVec.ofNat 8 n).toNat = n % 256 := BitVec.toNat_ofNat n 8
    rw [leBytes, leNat, ih, hbyte, pow_succ', Nat.mod_mul]

/-- A field of a byte list reads as the bytes that were placed there. -/
theorem leNat_field {l pre f post : List Byte} {a n : Nat} (hl : l = pre ++ f ++ post) (ha : pre.length = a) (hn : f.length = n) :
    leNat ((l.drop a).take n) = leNat f := by
  rw [hl, List.append_assoc, List.drop_append_of_le_length (by omega), ← ha, List.drop_length, List.nil_append,
    List.take_append_of_le_length (by omega), ← hn, List.take_length]

/-! ### CRC-32 (R361) -/

theorem crcStep_lt {c : Nat} (h : c < 2 ^ 32) : crcStep c < 2 ^ 32 := by
  unfold crcStep
  split_ifs
  · exact Nat.xor_lt_two_pow (by omega) (by decide)
  · omega

theorem crcByte_lt {c : Nat} (b : Byte) (h : c < 2 ^ 32) : crcByte c b < 2 ^ 32 := by
  have hx : Nat.xor c b.toNat < 2 ^ 32 := Nat.xor_lt_two_pow h (lt_trans b.isLt (by decide))
  exact crcStep_lt (crcStep_lt (crcStep_lt (crcStep_lt (crcStep_lt (crcStep_lt (crcStep_lt (crcStep_lt hx)))))))

theorem crc32_lt (l : List Byte) : crc32 l < 2 ^ 32 := by
  have hfold (c : Nat) (h : c < 2 ^ 32) : l.foldl crcByte c < 2 ^ 32 := by
    induction l generalizing c with
    | nil => exact h
    | cons b l ih => exact ih _ (crcByte_lt b h)
  exact Nat.xor_lt_two_pow (hfold _ (by decide)) (by decide)

/-! ### Records (R436, Table 15.3) -/

/-- The bytes of a record before its check value. -/
def recordBody (seq flags wear : Nat) (pay : List Byte) : List Byte :=
  recordHead seq pay.length flags wear ++ pay ++ List.replicate (4 * ceilDiv pay.length 4 - pay.length) 0

theorem recordBytes_eq (seq flags wear : Nat) (pay : List Byte) :
    recordBytes seq flags wear pay = recordBody seq flags wear pay ++ leBytes 4 (crc32 (recordBody seq flags wear pay)) := rfl

theorem length_recordBody (seq flags wear : Nat) (pay : List Byte) : (recordBody seq flags wear pay).length = recordSize pay.length - 4 := by
  simp only [recordBody, recordHead, List.length_append, length_leBytes, List.length_replicate, recordSize, ceilDiv]
  omega

/-- A record as written reads back valid, whatever follows it. -/
theorem recordAt_recordBytes {seq flags wear : Nat} {pay : List Byte} (rest : List Byte) (hseq : seq < 2 ^ 32) (hflags : flags < 8) (hwear : wear < 2 ^ 32)
    (hlen : pay.length ≤ 4076) : recordAt (recordBytes seq flags wear pay ++ rest) = some (seq, flags, pay.length, wear) := by
  obtain ⟨l, hl⟩ : ∃ l, l = recordBytes seq flags wear pay ++ rest := ⟨_, rfl⟩
  obtain ⟨body, hbody⟩ : ∃ body, body = recordBody seq flags wear pay := ⟨_, rfl⟩
  obtain ⟨tail, htail⟩ : ∃ tail, l = leBytes 4 0x4E415247 ++ leBytes 4 seq ++ leBytes 2 pay.length ++ leBytes 2 flags ++ leBytes 4 wear ++ tail :=
    ⟨pay ++ List.replicate (4 * ceilDiv pay.length 4 - pay.length) 0 ++ leBytes 4 (crc32 body) ++ rest, by
      rw [hl, recordBytes_eq, ← hbody]
      simp only [hbody, recordBody, recordHead, List.append_assoc]⟩
  have hsize : body.length = recordSize pay.length - 4 := hbody ▸ length_recordBody seq flags wear pay
  have hsplit : l = body ++ leBytes 4 (crc32 body) ++ rest := by rw [hl, recordBytes_eq, ← hbody]
  have hfour : 4 ≤ recordSize pay.length := by unfold recordSize; omega
  have hall : recordSize pay.length ≤ l.length := by
    rw [hsplit, List.length_append, List.length_append, length_leBytes, hsize]
    omega
  have hmark : leNat ((l.drop 0).take 4) = 0x4E415247 := by
    rw [leNat_field (pre := []) (f := leBytes 4 0x4E415247) (post := leBytes 4 seq ++ leBytes 2 pay.length ++ leBytes 2 flags ++ leBytes 4 wear ++ tail)
      (a := 0) (by simp only [htail, List.nil_append, List.append_assoc]) rfl (length_leBytes _ _), leNat_leBytes]
    exact Nat.mod_eq_of_lt (by norm_num)
  have hs : leNat ((l.drop 4).take 4) = seq := by
    rw [leNat_field (pre := leBytes 4 0x4E415247) (f := leBytes 4 seq) (post := leBytes 2 pay.length ++ leBytes 2 flags ++ leBytes 4 wear ++ tail)
      (by simp only [htail, List.append_assoc]) (length_leBytes _ _) (length_leBytes _ _), leNat_leBytes]
    exact Nat.mod_eq_of_lt hseq
  have hn : leNat ((l.drop 8).take 2) = pay.length := by
    rw [leNat_field (pre := leBytes 4 0x4E415247 ++ leBytes 4 seq) (f := leBytes 2 pay.length) (post := leBytes 2 flags ++ leBytes 4 wear ++ tail)
      (by simp only [htail, List.append_assoc]) (by rw [List.length_append, length_leBytes, length_leBytes]) (length_leBytes _ _), leNat_leBytes]
    exact Nat.mod_eq_of_lt (by omega)
  have hf : leNat ((l.drop 10).take 2) = flags := by
    rw [leNat_field (pre := leBytes 4 0x4E415247 ++ leBytes 4 seq ++ leBytes 2 pay.length) (f := leBytes 2 flags) (post := leBytes 4 wear ++ tail)
      (by simp only [htail, List.append_assoc]) (by simp only [List.length_append, length_leBytes]) (length_leBytes _ _), leNat_leBytes]
    exact Nat.mod_eq_of_lt (by omega)
  have hw : leNat ((l.drop 12).take 4) = wear := by
    rw [leNat_field (pre := leBytes 4 0x4E415247 ++ leBytes 4 seq ++ leBytes 2 pay.length ++ leBytes 2 flags) (f := leBytes 4 wear) (post := tail)
      htail (by simp only [List.length_append, length_leBytes]) (length_leBytes _ _), leNat_leBytes]
    exact Nat.mod_eq_of_lt hwear
  have hcrc : leNat ((l.drop (recordSize pay.length - 4)).take 4) = crc32 body := by
    rw [leNat_field hsplit hsize (length_leBytes _ _), leNat_leBytes]
    exact Nat.mod_eq_of_lt (crc32_lt body)
  have htake : l.take (recordSize pay.length - 4) = body := by
    rw [hsplit, List.append_assoc, ← hsize, List.take_left']
    rfl
  rw [← hl]
  simp only [recordAt, hmark, hs, hn, hf, hw, hcrc, htake]
  exact if_pos ⟨trivial, hflags, hlen, hall, trivial⟩

end Sys2Proof.Machine

/-!
SUPPORT. The start of a commit.
-/
namespace Sys2Proof.Machine

open Sys2Proof

/-! ### A write of GRN_COMMIT (R438, R439, R451) -/

theorem commitChecks_first : ∀ len mirror ready writing : Bool, firstByRank [(len, .eRange), (mirror, .eRange), (ready, .eState), (writing, .eBusy)] =
    if len || mirror then .eRange else if ready then .eState else if writing then .eBusy else .done := by decide

theorem Dev.only_writeGrnCommit (d : Dev) (w : Word) :
    d.Only (d.writeRow .bar0 R.GRN_COMMIT 0 w) [F.GRN_COMMIT_GO, F.GRN_COMMIT_TWIN, F.GRN_COMMIT_MIRROR, F.GRN_COMMIT_LEN] :=
  d.only_writeRow .bar0 R.GRN_COMMIT 0 w

theorem Dev.writeGrnCommit_gets (d : Dev) (w : Word) : (d.writeRow .bar0 R.GRN_COMMIT 0 w).get F.GRN_COMMIT_LEN = bits w.toNat 0 12 ∧
    (d.writeRow .bar0 R.GRN_COMMIT 0 w).get F.GRN_COMMIT_MIRROR = bits w.toNat 12 1 ∧
    (d.writeRow .bar0 R.GRN_COMMIT 0 w).get F.GRN_COMMIT_TWIN = bits w.toNat 13 1 :=
  ⟨d.writeRow_get (g := ⟨0, 12, .rw, fun _ => 0⟩) (by simp [R.GRN_COMMIT]) (by simp [R.GRN_COMMIT]) (.inl rfl),
    d.writeRow_get (g := ⟨12, 1, .rw, fun _ => 0⟩) (by simp [R.GRN_COMMIT]) (by simp [R.GRN_COMMIT]) (.inl rfl),
    d.writeRow_get (g := ⟨13, 1, .rw, fun _ => 0⟩) (by simp [R.GRN_COMMIT]) (by simp [R.GRN_COMMIT]) (.inl rfl)⟩

theorem Dev.commitFenced_status (d : Dev) : d.commitFenced.get F.GRN_COMMIT_STATUS = statusCode .eFenced := by
  have hset : ((d.set F.GRN_STAT_PENDING 0).set F.GRN_COMMIT_STATUS (statusCode .eFenced)).get F.GRN_COMMIT_STATUS = statusCode .eFenced :=
    Dev.get_set_same _ _ _
  unfold Dev.commitFenced Dev.commitSeen
  split_ifs
  · exact hset
  · exact hset

theorem Dev.writeGrnCommit_is {d : Dev} {w : Word} {elapsed : Bool} {len mirror twin : Nat} (hup : d.up = true) (hres : setsReserved R.GRN_COMMIT w = false)
    (hgo : bitOf w.toNat 31 = true) (hlen : bits w.toNat 0 12 = len) (hmirror : bits w.toNat 12 1 = mirror) (htwin : bits w.toNat 13 1 = twin) :
    let e := d.writeGrnCommit w elapsed
    if 4076 < len ∨ (mirror = 1 ∧ 1004 < len) then RecordedGlb d e 0x13008 .eRange
    else if d.is F.GRN_STAT_READY = false then RecordedGlb d e 0x13008 .eState
    else if d.is F.GRN_STAT_WRITING = true then RecordedGlb d e 0x13008 .eBusy
    else ∃ x : Dev, x.get F.GRN_COMMIT_LEN = len ∧ x.get F.GRN_COMMIT_MIRROR = mirror ∧ x.get F.GRN_COMMIT_TWIN = twin ∧ x.get F.GRN_COMMIT_GO = 0 ∧
      d.Only x [F.GRN_COMMIT_LEN, F.GRN_COMMIT_MIRROR, F.GRN_COMMIT_TWIN, F.GRN_COMMIT_GO, F.GRN_STAT_PENDING] ∧
      (d.is F.GRN_STAT_FENCED = true → e = x.commitFenced ∧ x.commitFenced.get F.GRN_COMMIT_STATUS = statusCode .eFenced) ∧
      (d.is F.GRN_STAT_FENCED = false → x.get F.GRN_STAT_PENDING = 1 ∧
        e = if d.grn.begun = false ∨ elapsed = true ∨ d.get F.SUP_STAT_STAGE ≠ 0 then x.startCommit else x) := by
  have hbit : bitOf w.toNat 12 = (mirror == 1) := by rw [← hmirror]; rfl
  have hfirst : firstByRank ((setsReserved R.GRN_COMMIT w, .eField) :: (d.changesLocked .bar0 R.GRN_COMMIT 0 w, .eLocked) ::
      [(decide (4076 < len) && (true || d.get F.GRN_COMMIT_LEN != len), .eRange), (true && (mirror == 1) && decide (1004 < len), .eRange),
       (true && !d.is F.GRN_STAT_READY, .eState), (true && d.is F.GRN_STAT_WRITING, .eBusy)]) =
      if 4076 < len ∨ (mirror = 1 ∧ 1004 < len) then .eRange
      else if d.is F.GRN_STAT_READY = false then .eState
      else if d.is F.GRN_STAT_WRITING = true then .eBusy else .done := by
    rw [firstByRank_own hres rfl]
    refine (commitChecks_first _ _ _ _).trans ?_
    simp
  simp only [Dev.writeGrnCommit, hgo, hlen, hbit]
  by_cases hrange : 4076 < len ∨ (mirror = 1 ∧ 1004 < len)
  · rw [if_pos hrange] at hfirst ⊢
    exact recordedGlb_of_rejected hup (by decide) hfirst
  rw [if_neg hrange] at hfirst ⊢
  by_cases hready : d.is F.GRN_STAT_READY = false
  · rw [if_pos hready] at hfirst ⊢
    exact recordedGlb_of_rejected hup (by decide) hfirst
  rw [if_neg hready] at hfirst ⊢
  by_cases hwriting : d.is F.GRN_STAT_WRITING = true
  · rw [if_pos hwriting] at hfirst ⊢
    exact recordedGlb_of_rejected hup (by decide) hfirst
  rw [if_neg hwriting] at hfirst ⊢
  rw [Dev.regWrite_done hup hfirst, Bool.not_true, if_neg Bool.false_ne_true]
  obtain ⟨hglen, hgmirror, hgtwin⟩ := d.writeGrnCommit_gets w
  have hrow := (d.only_writeGrnCommit w).trans (Dev.only_set _ F.GRN_COMMIT_GO 0)
  have hgo0 : ((d.writeRow .bar0 R.GRN_COMMIT 0 w).set F.GRN_COMMIT_GO 0).get F.GRN_COMMIT_GO = 0 := Dev.get_set_same _ _ _
  have hkept {g : Fld} (hg : fldId F.GRN_COMMIT_GO ≠ fldId g) : ((d.writeRow .bar0 R.GRN_COMMIT 0 w).set F.GRN_COMMIT_GO 0).get g =
      (d.writeRow .bar0 R.GRN_COMMIT 0 w).get g := Dev.get_set_ne _ _ hg
  have hxlen := (hkept (g := F.GRN_COMMIT_LEN) (by decide)).trans (hglen.trans hlen)
  have hxmirror := (hkept (g := F.GRN_COMMIT_MIRROR) (by decide)).trans (hgmirror.trans hmirror)
  have hxtwin := (hkept (g := F.GRN_COMMIT_TWIN) (by decide)).trans (hgtwin.trans htwin)
  generalize (d.writeRow .bar0 R.GRN_COMMIT 0 w).set F.GRN_COMMIT_GO 0 = x at *
  have hfenced : x.is F.GRN_STAT_FENCED = d.is F.GRN_STAT_FENCED := by rw [Dev.is, hrow.2 _ (by decide), Dev.is]
  cases hf : d.is F.GRN_STAT_FENCED
  · refine ⟨x.set F.GRN_STAT_PENDING 1, (Dev.get_set_ne _ _ (by decide)).trans hxlen, (Dev.get_set_ne _ _ (by decide)).trans hxmirror,
      (Dev.get_set_ne _ _ (by decide)).trans hxtwin, (Dev.get_set_ne _ _ (by decide)).trans hgo0, (hrow.trans (x.only_set _ _)).mono (by decide), nofun,
      fun _ => ⟨Dev.get_set_same _ _ _, ?_⟩⟩
    have hstage : (x.set F.GRN_STAT_PENDING 1).get F.SUP_STAT_STAGE = d.get F.SUP_STAT_STAGE := (Dev.get_set_ne _ _ (by decide)).trans (hrow.2 _ (by decide))
    have hbegun : (x.set F.GRN_STAT_PENDING 1).grn = d.grn := (congrArg (fun y : Dev => y.grn) hrow.1 :)
    rw [hfenced, hf, if_neg Bool.false_ne_true]
    simp only [hstage, hbegun, Bool.or_eq_true, Bool.not_eq_true', bne_iff_ne, ne_eq, or_assoc]
  · refine ⟨x, hxlen, hxmirror, hxtwin, hgo0, hrow.mono (by decide), fun _ => ⟨?_, x.commitFenced_status⟩, nofun⟩
    rw [hfenced, hf, if_pos rfl]

/-! ### The start of a commit (R437, R438) -/

theorem Dev.grn_of_aside {d e : Dev} (h : e.aside = d.aside) : e.grn = d.grn := congrArg (fun a => a.2.2.2.2.2.2.2.2.1) h

/-- Sector and offset after a record of `n` bytes whose bank's next free place is `p`. -/
def nextPlace (p : Nat × Nat) (n : Nat) : Nat × Nat :=
  (if decide (4096 < p.2 + n) then (p.1 + 1) % 16 else p.1, (if decide (4096 < p.2 + n) then 0 else p.2) + n)

/-- The commit of a payload at the place `p`. -/
def Dev.nextCommit (d : Dev) (seq len : Nat) (p : Nat × Nat) (pay : List Byte) : Commit :=
  ⟨seq, seq % 2, 4096 * (nextPlace p (recordSize len)).1 + (if decide (4096 < p.2 + recordSize len) then 0 else p.2),
    recordBytes seq (d.get F.GRN_COMMIT_MIRROR + 4 * d.get F.GRN_COMMIT_TWIN) (d.get (wearFld (seq % 2))) pay, decide (4096 < p.2 + recordSize len)⟩

/-- A commit has begun, before its programs join the jobs. -/
def Dev.commitBegun (d : Dev) (b : Nat) (c : Commit) (p : Nat × Nat) : Dev :=
  ((d.set F.GRN_STAT_PENDING 0).set F.GRN_STAT_WRITING 1).modGrn fun g => { g with commit := some c, begun := true, next := mapPut (0, 0) g.next b p }

theorem Dev.commitBegun_is (d : Dev) (b : Nat) (c : Commit) (p : Nat × Nat) : let e := d.commitBegun b c p
    e.get F.GRN_STAT_PENDING = 0 ∧ e.get F.GRN_STAT_WRITING = 1 ∧
      e.grn = { d.grn with commit := some c, begun := true, next := mapPut (0, 0) d.grn.next b p } :=
  ⟨(Dev.get_set_ne _ _ (by decide)).trans (Dev.get_set_same _ _ _), Dev.get_set_same _ _ _, rfl⟩

theorem Dev.commitMay_iff (d : Dev) : (!d.stewardRuns || !d.is F.GRN_STAT_PENDING || d.is F.GRN_STAT_SCANNING || d.is F.GRN_STAT_WRITING) = true ↔
    d.stw.rom ≠ .image ∨ d.is F.GRN_STAT_PENDING = false ∨ d.is F.GRN_STAT_SCANNING = true ∨ d.is F.GRN_STAT_WRITING = true := by
  simp only [Dev.stewardRuns, Bool.or_eq_true, Bool.not_eq_true', beq_eq_false_iff_ne, or_assoc, ne_eq]

theorem Dev.startCommit_idle {d : Dev} (h : d.stw.rom ≠ .image ∨ d.is F.GRN_STAT_PENDING = false ∨ d.is F.GRN_STAT_SCANNING = true ∨
    d.is F.GRN_STAT_WRITING = true) : d.startCommit = d := if_pos (d.commitMay_iff.mpr h)

section

variable {d : Dev} (hrom : d.stw.rom = .image) (hpend : d.is F.GRN_STAT_PENDING = true) (hscan : d.is F.GRN_STAT_SCANNING = false)
  (hwriting : d.is F.GRN_STAT_WRITING = false)

include hrom hpend hscan hwriting

theorem Dev.commitMay : ¬ (!d.stewardRuns || !d.is F.GRN_STAT_PENDING || d.is F.GRN_STAT_SCANNING || d.is F.GRN_STAT_WRITING) = true := by
  rw [Dev.commitMay_iff]
  simp [hrom, hpend, hscan, hwriting]

theorem Dev.startCommit_fenced (hf : d.is F.GRN_STAT_FENCED = true) : d.startCommit = d.commitFenced :=
  (if_neg (Dev.commitMay hrom hpend hscan hwriting)).trans (if_pos hf)

theorem Dev.startCommit_is (hf : d.is F.GRN_STAT_FENCED = false) {len seq : Nat} (hlen : len = d.get F.GRN_COMMIT_LEN)
    (hseq : seq = (d.get F.GRN_LASTSEQ_SEQ + 1) % 2 ^ 32) (hgood : (d.memBytes 1 1 (d.get F.GRN_BUF_BASE) (8 * ceilDiv len 8)).2.2 = none) :
    let e := d.startCommit
    e.get F.GRN_STAT_PENDING = 0 ∧ e.get F.GRN_STAT_WRITING = 1 ∧ e.grn.begun = true ∧ ∃ c, e.grn.commit = some c ∧ c.seq = seq ∧ c.bank = seq % 2 ∧
      c.bytes = recordBytes seq (d.get F.GRN_COMMIT_MIRROR + 4 * d.get F.GRN_COMMIT_TWIN) (d.get (wearFld (seq % 2)))
        ((d.memBytes 1 1 (d.get F.GRN_BUF_BASE) (8 * ceilDiv len 8)).2.1.take len) ∧
      (let p := mapGet (0, 0) d.grn.next (seq % 2)
        if 4096 < p.2 + recordSize len then c.moved = true ∧ c.off = 4096 * ((p.1 + 1) % 16) ∧
          mapGet (0, 0) e.grn.next (seq % 2) = ((p.1 + 1) % 16, recordSize len)
        else c.moved = false ∧ c.off = 4096 * p.1 + p.2 ∧ mapGet (0, 0) e.grn.next (seq % 2) = (p.1, p.2 + recordSize len)) := by
  obtain ⟨r, hr⟩ : ∃ r, r = d.memBytes 1 1 (d.get F.GRN_BUF_BASE) (8 * ceilDiv len 8) := ⟨_, rfl⟩
  obtain ⟨p, hp⟩ : ∃ p, p = mapGet (0, 0) d.grn.next (seq % 2) := ⟨_, rfl⟩
  have hgrn : r.1.grn = d.grn := hr ▸ Dev.grn_of_aside (d.memBytes_aside 1 1 _ _)
  rw [← hr] at hgood
  have heq : d.startCommit = (r.1.commitBegun (seq % 2) (d.nextCommit seq len p (r.2.1.take len)) (nextPlace p (recordSize len))).addJobs
      ((r.1.commitBegun (seq % 2) (d.nextCommit seq len p (r.2.1.take len)) (nextPlace p (recordSize len))).commitJobs
        (d.grnAddr (seq % 2) (d.nextCommit seq len p (r.2.1.take len)).off) (d.nextCommit seq len p (r.2.1.take len)).bytes) := by
    unfold Dev.startCommit
    rw [if_neg (Dev.commitMay hrom hpend hscan hwriting), if_neg (by rw [hf]; exact Bool.false_ne_true)]
    simp only [← hlen, ← hseq, ← hp, ← hr, hgood]
    rfl
  obtain ⟨hpending, hwrites, hbegun⟩ := r.1.commitBegun_is (seq % 2) (d.nextCommit seq len p (r.2.1.take len)) (nextPlace p (recordSize len))
  rw [← hr, ← hp]
  generalize r.1.commitBegun _ _ _ = y at *
  generalize y.commitJobs _ _ = jobs at *
  obtain ⟨-, honly⟩ := y.addJobs_is jobs
  rw [← heq] at honly
  have hegrn : d.startCommit.grn = _ := (congrArg (fun z : Dev => z.grn) honly.1 :).trans hbegun
  have hnext : mapGet (0, 0) d.startCommit.grn.next (seq % 2) = nextPlace p (recordSize len) := by
    rw [hegrn]
    exact mapGet_put_same _ _ _
  refine ⟨(honly.2 _ (by decide)).trans hpending, (honly.2 _ (by decide)).trans hwrites, by rw [hegrn], _, by rw [hegrn], rfl, rfl, rfl, ?_⟩
  simp only [hnext, Dev.nextCommit, nextPlace]
  by_cases hmoved : 4096 < p.2 + recordSize len
  · simp only [hmoved, decide_true, if_true]
    exact ⟨trivial, rfl, by rw [Nat.zero_add]⟩
  · simp only [hmoved, decide_false, if_false]
    exact ⟨trivial, rfl, rfl⟩

end

end Sys2Proof.Machine

/-!
SUPPORT. The end of a commit, and erases ahead.
-/
namespace Sys2Proof.Machine

open Sys2Proof

/-! ### The end of a commit (R438, R451) -/

theorem anyWho_iff (l : List FlashJob) (n : Nat) : (l.any fun j => j.who == n) = true ↔ ∃ j ∈ l, j.who = n := by
  simp only [List.any_eq_true, beq_iff_eq]

theorem anyWho_false {l : List FlashJob} {n : Nat} (h : ∀ j ∈ l, j.who ≠ n) : (l.any fun j => j.who == n) = false := by
  simpa only [List.any_eq_false, beq_iff_eq] using h

theorem Dev.grnDone_idle {d : Dev} (h : d.grn.commit = none ∨ ∃ j ∈ d.fls.jobs, j.who = 1) : d.grnDone = d := by
  unfold Dev.grnDone
  split
  · rfl
  · rename_i c hc
    rcases h with h | h
    · rw [hc] at h
      cases h
    · exact if_pos ((anyWho_iff _ _).mpr h)

/-- The commit's registers and its erase-ahead, at its end. -/
theorem Dev.endCommit_is (d : Dev) (c : Commit) (st : Status) : let e := d.endCommit c st
    e.get F.GRN_LASTSEQ_SEQ = c.seq % 2 ^ 32 ∧ e.get F.GRN_STAT_WRITING = 0 ∧ e.grn = { d.grn with commit := none } ∧
      e.get F.GRN_COMMIT_STATUS = statusCode st ∧ e.get F.SUP_STAT_STAGE = d.get F.SUP_STAT_STAGE ∧
      (c.moved = true → e.get F.GRN_STAT_ERASING = 1 ∧ ∃ j ∈ e.fls.jobs, j.erase = true ∧ j.who = 3 ∧ j.bank = c.bank ∧
        j.addr = d.grnAddr c.bank (4096 * ((c.off / 4096 + 1) % 16))) := by
  obtain ⟨x, hx⟩ : ∃ x, x = (((d.set F.GRN_LASTSEQ_SEQ c.seq).set F.GRN_COMMIT_STATUS (statusCode st)).set F.GRN_STAT_WRITING 0).modGrn fun g =>
    { g with commit := none } := ⟨_, rfl⟩
  have hset : d.Only ((((d.set F.GRN_LASTSEQ_SEQ c.seq).set F.GRN_COMMIT_STATUS (statusCode st)).set F.GRN_STAT_WRITING 0))
      [F.GRN_LASTSEQ_SEQ, F.GRN_COMMIT_STATUS, F.GRN_STAT_WRITING] := ((d.only_set _ _).trans (Dev.only_set _ _ _)).trans (Dev.only_set _ _ _)
  have hkept {g : Fld} (hg : ∀ f ∈ [F.GRN_LASTSEQ_SEQ, F.GRN_COMMIT_STATUS, F.GRN_STAT_WRITING], fldId f ≠ fldId g) : x.get g = d.get g := by
    rw [hx]
    exact hset.2 g hg
  have hseq : x.get F.GRN_LASTSEQ_SEQ = c.seq % 2 ^ 32 := by
    rw [hx]
    exact (Dev.get_set_ne _ _ (by decide)).trans ((Dev.get_set_ne _ _ (by decide)).trans (Dev.get_set_same _ _ _))
  have hwriting : x.get F.GRN_STAT_WRITING = 0 := by
    rw [hx]
    exact Dev.get_set_same _ _ _
  have hstatus : x.get F.GRN_COMMIT_STATUS = statusCode st := by
    rw [hx]
    refine (Dev.get_set_ne _ _ (by decide)).trans ((Dev.get_set_same _ _ _).trans ?_)
    cases st <;> rfl
  have hgrn : x.grn = { d.grn with commit := none } := by rw [hx]; rfl
  have haddr (off : Nat) : x.grnAddr c.bank off = d.grnAddr c.bank off := by
    unfold Dev.grnAddr Dev.bankBase
    rw [hkept (by decide), hkept (by split_ifs <;> decide)]
  have heq : d.endCommit c st = if c.moved then (x.set F.GRN_STAT_ERASING 1).addJobs [x.bankErase c.bank (c.off / 4096 + 1) 3] else x := by
    rw [hx]
    rfl
  by_cases hm : c.moved = true
  · rw [if_pos hm] at heq
    obtain ⟨j, hj, hjob⟩ := (x.set F.GRN_STAT_ERASING 1).addJobs_hasJob (List.mem_singleton_self (x.bankErase c.bank (c.off / 4096 + 1) 3))
    obtain ⟨-, honly⟩ := (x.set F.GRN_STAT_ERASING 1).addJobs_is [x.bankErase c.bank (c.off / 4096 + 1) 3]
    have herasing : (x.set F.GRN_STAT_ERASING 1).get F.GRN_STAT_ERASING = 1 := Dev.get_set_same _ _ _
    have hset' {g : Fld} (hg : fldId F.GRN_STAT_ERASING ≠ fldId g) : (x.set F.GRN_STAT_ERASING 1).get g = x.get g := Dev.get_set_ne _ _ hg
    have hgrn' : (x.set F.GRN_STAT_ERASING 1).grn = x.grn := rfl
    rw [← heq] at honly hj
    generalize x.set F.GRN_STAT_ERASING 1 = y at *
    have hget {g : Fld} (hg : ∀ f ∈ F.GRN_STAT_ERASING :: flsStatFlds, fldId f ≠ fldId g) : (d.endCommit c st).get g = x.get g :=
      (honly.2 g fun f hf => hg f (List.mem_cons_of_mem _ hf)).trans (hset' (hg _ List.mem_cons_self))
    refine ⟨(hget (by decide)).trans hseq, (hget (by decide)).trans hwriting, ((congrArg (fun z : Dev => z.grn) honly.1 :).trans hgrn').trans hgrn,
      (hget (by decide)).trans hstatus, (hget (by decide)).trans (hkept (by decide)), fun _ => ⟨(honly.2 _ (by decide)).trans herasing, j, hj, ?_⟩⟩
    rcases hjob with rfl | rfl <;> exact ⟨rfl, rfl, rfl, haddr _⟩
  · rw [if_neg hm] at heq
    rw [heq]
    exact ⟨hseq, hwriting, hgrn, hstatus, hkept (by decide), fun h => absurd h hm⟩

/-- The fields that tell of a commit's end. -/
def commitEndFlds : List Fld := [F.GRN_LASTSEQ_SEQ, F.GRN_STAT_WRITING, F.GRN_COMMIT_STATUS, F.GRN_STAT_ERASING, F.SUP_STAT_STAGE, F.GRN_INT_VERIFY]

/-- Raising GRN_DONE keeps what a commit's end left, and tells SUP. -/
theorem Dev.commitTold_is (d : Dev) : let e := (d.raise F.GRN_INT_DONE 0x1400 [0] 0 0 0).commitSeen
    e.get F.GRN_INT_DONE = 1 ∧ (∀ g ∈ commitEndFlds, e.get g = d.get g) ∧ e.grn = d.grn ∧ e.fls = d.fls ∧ (∀ x ∈ d.lar.due, x ∈ e.lar.due) ∧
      (d.get F.SUP_STAT_STAGE = 3 → e.pow.s3Done = true) := by
  have htold := d.told_raise F.GRN_INT_DONE 0x1400 [0] 0 0 0 t000_lt
  have hkept : ∀ g ∈ commitEndFlds, (d.raise F.GRN_INT_DONE 0x1400 [0] 0 0 0).get g = d.get g := by
    have hapart : ∀ g ∈ commitEndFlds, fldId F.GRN_INT_DONE ≠ fldId g ∧ (∀ f ∈ [F.QUE_W2_LOST 0, F.QUE_W1_LOSTSAT 0, F.LAR_LEAK_COUNT, F.ECC_INJ_COUNT,
        F.ECC_INJ_ARM], fldId f ≠ fldId g) := by decide
    intro g hg
    obtain ⟨hint, hque⟩ := hapart g hg
    exact Dev.raise_get_ne _ _ _ _ _ hint (by simpa using queFld_of_ids hque)
  have hint : (d.raise F.GRN_INT_DONE 0x1400 [0] 0 0 0).get F.GRN_INT_DONE = 1 :=
    Dev.raise_get_int _ _ _ _ _ _ (plainFld_of_fldId (by decide) (by decide) (by decide)) t000_lt
  have hdue : ∀ x ∈ d.lar.due, x ∈ (d.raise F.GRN_INT_DONE 0x1400 [0] 0 0 0).lar.due := fun x hx => (Dev.raise_due ..).subset hx
  have hstage := hkept F.SUP_STAT_STAGE (by decide)
  generalize d.raise F.GRN_INT_DONE 0x1400 [0] 0 0 0 = y at *
  have hgrn : y.grn = d.grn := by rw [htold.1]
  have hfls : y.fls = d.fls := by rw [htold.1]
  unfold Dev.commitSeen
  by_cases h3 : y.get F.SUP_STAT_STAGE = 3
  · rw [if_pos h3]
    exact ⟨hint, hkept, hgrn, hfls, hdue, fun _ => rfl⟩
  · rw [if_neg h3]
    exact ⟨hint, hkept, hgrn, hfls, hdue, fun h => absurd (hstage.trans h) h3⟩

theorem Dev.grnDone_is {d : Dev} {c : Commit} (hc : d.grn.commit = some c) (hjobs : ∀ j ∈ d.fls.jobs, j.who ≠ 1) {good : Bool}
    (hgood : good = (recordAt (d.flashBytes (d.get F.FLS_WMAP_SEL) (d.grnAddr c.bank c.off) (4096 - c.off % 4096))).isSome) : let e := d.grnDone
    e.get F.GRN_LASTSEQ_SEQ = c.seq % 2 ^ 32 ∧ e.get F.GRN_STAT_WRITING = 0 ∧ e.get F.GRN_INT_DONE = 1 ∧ e.grn.commit = none ∧
      e.get F.GRN_COMMIT_STATUS = (if good then 0 else statusCode .eInternal) ∧
      (good = false → e.get F.GRN_INT_VERIFY = 1 ∧ .fault 0x228 47 ∈ e.lar.due) ∧
      (c.moved = true → e.get F.GRN_STAT_ERASING = 1 ∧ ∃ j ∈ e.fls.jobs, j.erase = true ∧ j.who = 3 ∧ j.bank = c.bank ∧
        j.addr = d.grnAddr c.bank (4096 * ((c.off / 4096 + 1) % 16))) ∧
      (d.get F.SUP_STAT_STAGE = 3 → e.pow.s3Done = true) := by
  obtain ⟨y, hy⟩ : ∃ y, y = d.endCommit c (if good then .done else .eInternal) := ⟨_, rfl⟩
  obtain ⟨hseq, hwriting, hgrn, hstatus, hstage, hmoved⟩ := hy ▸ d.endCommit_is c (if good then .done else .eInternal)
  obtain ⟨z, hz⟩ : ∃ z, z = if good then y else (y.raise F.GRN_INT_VERIFY 0x1403 [0] 0 0 0).oweFault 0x228 47 := ⟨_, rfl⟩
  have heq : d.grnDone = (z.raise F.GRN_INT_DONE 0x1400 [0] 0 0 0).commitSeen := by
    unfold Dev.grnDone
    rw [hc]
    simp only [anyWho_false hjobs, ← hgood, Bool.false_eq_true, if_false]
    rw [hz, hy]
  have hzkept : (∀ g ∈ commitEndFlds, fldId F.GRN_INT_VERIFY ≠ fldId g → z.get g = y.get g) ∧ z.grn = y.grn ∧ z.fls = y.fls ∧
      (good = false → z.get F.GRN_INT_VERIFY = 1 ∧ .fault 0x228 47 ∈ z.lar.due) := by
    cases good with
    | true =>
      rw [if_pos rfl] at hz
      rw [hz]
      exact ⟨fun _ _ _ => rfl, rfl, rfl, nofun⟩
    | false =>
      rw [if_neg Bool.false_ne_true] at hz
      have htold := y.told_raise F.GRN_INT_VERIFY 0x1403 [0] 0 0 0 t000_lt
      have hint : (y.raise F.GRN_INT_VERIFY 0x1403 [0] 0 0 0).get F.GRN_INT_VERIFY = 1 :=
        Dev.raise_get_int _ _ _ _ _ _ (plainFld_of_fldId (by decide) (by decide) (by decide)) t000_lt
      have hapart : ∀ g ∈ commitEndFlds, ∀ f ∈ [F.QUE_W2_LOST 0, F.QUE_W1_LOSTSAT 0, F.LAR_LEAK_COUNT, F.ECC_INJ_COUNT, F.ECC_INJ_ARM],
        fldId f ≠ fldId g := by decide
      have hkept : ∀ g ∈ commitEndFlds, fldId F.GRN_INT_VERIFY ≠ fldId g → (y.raise F.GRN_INT_VERIFY 0x1403 [0] 0 0 0).get g = y.get g :=
        fun g hg hne => Dev.raise_get_ne _ _ _ _ _ hne (by simpa using queFld_of_ids (hapart g hg))
      generalize y.raise F.GRN_INT_VERIFY 0x1403 [0] 0 0 0 = x at *
      subst hz
      exact ⟨hkept, (congrArg (fun u : Dev => u.grn) htold.1 :), (congrArg (fun u : Dev => u.fls) htold.1 :),
        fun _ => ⟨hint, List.mem_append_right _ (List.mem_singleton_self _)⟩⟩
  obtain ⟨hzget, hzgrn, hzfls, hzbad⟩ := hzkept
  obtain ⟨hint, hkept, hegrn, hefls, hdue, hs3⟩ := z.commitTold_is
  rw [← heq] at hint hkept hegrn hefls hdue hs3
  have hget {g : Fld} (hg : g ∈ commitEndFlds) (hne : fldId F.GRN_INT_VERIFY ≠ fldId g) : d.grnDone.get g = y.get g := (hkept g hg).trans (hzget g hg hne)
  have hstatus' : statusCode (if good then Status.done else .eInternal) = if good then 0 else statusCode .eInternal := by cases good <;> rfl
  refine ⟨(hget (by decide) (by decide)).trans hseq, (hget (by decide) (by decide)).trans hwriting, hint, by rw [hegrn, hzgrn, hgrn],
    (hget (by decide) (by decide)).trans (hstatus.trans hstatus'), fun hbad => ?_, fun hm => ?_, fun h3 => hs3 ?_⟩
  · obtain ⟨hv, hf⟩ := hzbad hbad
    exact ⟨(hkept _ (by decide)).trans hv, hdue _ hf⟩
  · obtain ⟨her, j, hj, hjob⟩ := hmoved hm
    exact ⟨(hget (by decide) (by decide)).trans her, j, by rw [hefls, hzfls]; exact hj, hjob⟩
  · exact (hzget _ (by decide) (by decide)).trans (hstage.trans h3)

/-! ### Erases ahead and wear (R437, R442) -/

theorem Dev.checkWear_is (d : Dev) : (∃ b, d.checkWear.grn = { d.grn with wearRaised := b }) ∧ d.Told { d.checkWear with grn := d.grn } [F.GRN_INT_WEAR] ∧
    ∀ g, fldId F.GRN_INT_WEAR ≠ fldId g → QueFld 0 g → d.checkWear.get g = d.get g := by
  unfold Dev.checkWear
  simp only
  split_ifs
  · exact ⟨⟨d.grn.wearRaised, rfl⟩, .refl d _, fun _ _ _ => rfl⟩
  · obtain ⟨y, hy⟩ : ∃ y, y = d.modGrn fun g => { g with wearRaised := true } := ⟨_, rfl⟩
    have hget (g : Fld) : y.get g = d.get g := by rw [hy]; rfl
    have hgrn : y.grn = { d.grn with wearRaised := true } := by rw [hy]; rfl
    have hback : ({ y with grn := d.grn } : Dev) = d := by rw [hy]; rfl
    have htold := y.told_raise F.GRN_INT_WEAR 0x1404 [0] 0 0 0 t000_lt
    have hne {g : Fld} (hint : fldId F.GRN_INT_WEAR ≠ fldId g) (hq : QueFld 0 g) : (y.raise F.GRN_INT_WEAR 0x1404 [0] 0 0 0).get g = y.get g :=
      Dev.raise_get_ne _ _ _ _ _ hint (by simpa using hq)
    rw [← hy]
    generalize y.raise F.GRN_INT_WEAR 0x1404 [0] 0 0 0 = e at *
    obtain ⟨heq, hkept⟩ := htold
    refine ⟨⟨true, (congrArg (fun u : Dev => u.grn) heq :).trans hgrn⟩, ⟨?_, fun g hg hin => (hkept g hg hin).trans (hget g)⟩,
      fun g hint hq => (hne hint hq).trans (hget g)⟩
    exact (congrArg (fun u : Dev => { u with grn := d.grn }) heq :).trans (congrArg (fun u : Dev => { u with fld := e.fld, lar := e.lar }) hback :)

theorem Dev.eraseAheadDone_is {d : Dev} {b : Nat} {t : List Nat} (h : d.grn.aheadEnd = b :: t) : let e := d.eraseAheadDone
    e.grn.aheadEnd = t ∧ e.get (wearFld b) = satInc 0xFFFFFFFF (d.get (wearFld b)) % 2 ^ 32 ∧
      e.get F.GRN_STAT_ERASING = bitNat (!t.isEmpty || d.fls.jobs.any fun j => j.who == 3) ∧
      d.Told { e with grn := d.grn } [wearFld b, F.GRN_STAT_ERASING, F.GRN_INT_WEAR] := by
  have hwear : wearFld b ∈ [F.GRN_WEARA_COUNT, F.GRN_WEARB_COUNT] := by unfold wearFld; split_ifs <;> simp
  have hwidth : (wearFld b).w = 32 := by unfold wearFld; split_ifs <;> rfl
  have hapart : ∀ g ∈ [F.GRN_WEARA_COUNT, F.GRN_WEARB_COUNT], fldId F.GRN_STAT_ERASING ≠ fldId g ∧ fldId F.GRN_INT_WEAR ≠ fldId g ∧
      (∀ f ∈ [F.QUE_W2_LOST 0, F.QUE_W1_LOSTSAT 0, F.LAR_LEAK_COUNT, F.ECC_INJ_COUNT, F.ECC_INJ_ARM], fldId f ≠ fldId g) := by decide
  obtain ⟨hner, hnint, hque⟩ := hapart _ hwear
  obtain ⟨y, hy⟩ : ∃ y, y = ((d.modGrn fun g => { g with aheadEnd := t }).bump (wearFld b)).setB F.GRN_STAT_ERASING
    (!t.isEmpty || d.fls.jobs.any fun j => j.who == 3) := ⟨_, rfl⟩
  have heq : d.eraseAheadDone = y.checkWear := by
    unfold Dev.eraseAheadDone
    rw [h, hy]
    rfl
  have hygrn : y.grn = { d.grn with aheadEnd := t } := by rw [hy]; rfl
  have hywear : y.get (wearFld b) = satInc 0xFFFFFFFF (d.get (wearFld b)) % 2 ^ 32 := by
    rw [hy]
    refine (Dev.get_set_ne _ _ hner).trans ((Dev.get_set_same _ _ _).trans ?_)
    rw [hwidth]
    rfl
  have hyer : y.get F.GRN_STAT_ERASING = bitNat (!t.isEmpty || d.fls.jobs.any fun j => j.who == 3) := by
    rw [hy]
    refine (Dev.get_set_same _ _ _).trans ?_
    cases (!t.isEmpty || d.fls.jobs.any fun j => j.who == 3) <;> rfl
  have hyonly : d.Only { y with grn := d.grn } [wearFld b, F.GRN_STAT_ERASING] := by
    rw [hy]
    exact (d.only_set _ _).trans (Dev.only_setB _ _ _)
  obtain ⟨⟨r, hgrn⟩, htold, hget⟩ := y.checkWear_is
  rw [heq]
  generalize y.checkWear = e at *
  refine ⟨by rw [hgrn, hygrn], (hget _ hnint (queFld_of_ids hque)).trans hywear, (hget _ (by decide) (queFld_of_ids (by decide))).trans hyer, ?_, fun g hg hin => ?_⟩
  · exact (congrArg (fun u : Dev => { u with grn := d.grn }) htold.1 :).trans (congrArg (fun u : Dev => { u with fld := e.fld, lar := e.lar }) hyonly.1 :)
  · exact (htold.2 g hg (by simpa using hin _ (by simp))).trans (hyonly.2 g fun f hf => hin f (List.mem_append_left [F.GRN_INT_WEAR] hf))

end Sys2Proof.Machine

/-!
SUPPORT. Scans; the Granary (O50).
-/
namespace Sys2Proof.Machine

open Sys2Proof

/-! ### Scans (R440) -/

theorem Dev.only_writeGrnCtrl (d : Dev) (w : Word) : d.Only (d.writeRow .bar0 R.GRN_CTRL 0 w) [F.GRN_CTRL_LOCK, F.GRN_CTRL_SCAN, F.GRN_CTRL_EN] :=
  d.only_writeRow .bar0 R.GRN_CTRL 0 w

theorem Dev.scan_is {d : Dev} (h : d.is F.GRN_STAT_SCANNING = false) : let e := d.scan
    e.get F.GRN_STAT_SCANNING = 1 ∧ e.grn.scan = some ⟨d.scanSelect, d.scanWear 0, d.scanWear 1⟩ ∧
      ∀ b < 2, mapGet (0, 0) e.grn.next b = (d.scanSector b, 0) := by
  obtain ⟨n, hn⟩ : ∃ n, n = mapPut (0, 0) (mapPut (0, 0) d.grn.next 0 (d.scanSector 0, 0)) 1 (d.scanSector 1, 0) := ⟨_, rfl⟩
  obtain ⟨y, hy⟩ : ∃ y, y = (d.set F.GRN_STAT_SCANNING 1).modGrn fun g =>
    { g with scan := some ⟨d.scanSelect, d.scanWear 0, d.scanWear 1⟩, next := n } := ⟨_, rfl⟩
  have heq : d.scan = y.addJobs (d.scanErases 0 ++ d.scanErases 1) := by
    unfold Dev.scan
    rw [if_neg (by rw [h]; exact Bool.false_ne_true), hy, hn]
  have hscanning : y.get F.GRN_STAT_SCANNING = 1 := by rw [hy]; exact Dev.get_set_same _ _ _
  have hscan : y.grn.scan = some ⟨d.scanSelect, d.scanWear 0, d.scanWear 1⟩ := by rw [hy]; rfl
  have hnext : y.grn.next = n := by rw [hy]; rfl
  obtain ⟨-, honly⟩ := y.addJobs_is (d.scanErases 0 ++ d.scanErases 1)
  rw [← heq] at honly
  have hgrn : d.scan.grn = y.grn := (congrArg (fun z : Dev => z.grn) honly.1 :)
  refine ⟨(honly.2 _ (by decide)).trans hscanning, by rw [hgrn, hscan], fun b hb => ?_⟩
  rw [hgrn, hnext, hn]
  obtain rfl | rfl : b = 0 ∨ b = 1 := by omega
  · rw [mapGet_put_ne _ _ (by decide), mapGet_put_same]
  · rw [mapGet_put_same]

theorem scanChecks_first : ∀ busy : Bool, firstByRank [(busy, .eBusy)] = if busy then .eBusy else .done := by decide

theorem Dev.writeGrnCtrl_is {d : Dev} {w : Word} (hup : d.up = true) (hres : setsReserved R.GRN_CTRL w = false) (hgo : bitOf w.toNat 2 = true) :
    let e := d.writeGrnCtrl w
    if d.is F.GRN_STAT_WRITING = true ∨ d.is F.GRN_STAT_PENDING = true ∨ d.is F.GRN_STAT_ERASING = true then RecordedGlb d e 0x13000 .eBusy
    else ∃ x : Dev, d.Only x [F.GRN_CTRL_LOCK, F.GRN_CTRL_SCAN, F.GRN_CTRL_EN] ∧ x.get F.GRN_CTRL_SCAN = 0 ∧
      if d.is F.GRN_STAT_SCANNING = true then e = x
      else e.get F.GRN_STAT_SCANNING = 1 ∧ e.grn.scan = some ⟨x.scanSelect, x.scanWear 0, x.scanWear 1⟩ ∧
        ∀ b < 2, mapGet (0, 0) e.grn.next b = (x.scanSector b, 0) := by
  have hlock : d.changesLocked .bar0 R.GRN_CTRL 0 w = false := Bool.and_false _
  have hfirst : firstByRank [(setsReserved R.GRN_CTRL w, .eField), (d.changesLocked .bar0 R.GRN_CTRL 0 w, .eLocked),
      (true && (d.is F.GRN_STAT_WRITING || d.is F.GRN_STAT_PENDING || d.is F.GRN_STAT_ERASING), .eBusy)] =
      if d.is F.GRN_STAT_WRITING = true ∨ d.is F.GRN_STAT_PENDING = true ∨ d.is F.GRN_STAT_ERASING = true then .eBusy else .done := by
    rw [hres, hlock]
    refine (scanChecks_first _).trans ?_
    simp only [Bool.true_and, Bool.or_eq_true, or_assoc]
  simp only [Dev.writeGrnCtrl, hgo]
  by_cases hbusy : d.is F.GRN_STAT_WRITING = true ∨ d.is F.GRN_STAT_PENDING = true ∨ d.is F.GRN_STAT_ERASING = true
  · rw [if_pos hbusy] at hfirst ⊢
    exact recordedGlb_of_rejected hup (by decide) hfirst
  rw [if_neg hbusy] at hfirst ⊢
  rw [Dev.regWrite_done hup hfirst, if_pos trivial]
  have hrow := ((d.only_writeGrnCtrl w).trans (Dev.only_set _ F.GRN_CTRL_SCAN 0)).mono (gs := [F.GRN_CTRL_LOCK, F.GRN_CTRL_SCAN, F.GRN_CTRL_EN]) (by simp)
  have hgo0 : ((d.writeRow .bar0 R.GRN_CTRL 0 w).set F.GRN_CTRL_SCAN 0).get F.GRN_CTRL_SCAN = 0 := Dev.get_set_same _ _ _
  generalize (d.writeRow .bar0 R.GRN_CTRL 0 w).set F.GRN_CTRL_SCAN 0 = x at *
  have hscanning : x.is F.GRN_STAT_SCANNING = d.is F.GRN_STAT_SCANNING := by rw [Dev.is, hrow.2 _ (by decide), Dev.is]
  refine ⟨x, hrow, hgo0, ?_⟩
  by_cases hs : d.is F.GRN_STAT_SCANNING = true
  · rw [if_pos hs]
    exact if_pos (hscanning.trans hs)
  · rw [if_neg hs]
    exact Dev.scan_is (hscanning.trans (Bool.eq_false_iff.mpr hs))

theorem Dev.scanDone_idle {d : Dev} (h : d.grn.scan = none ∨ ∃ j ∈ d.fls.jobs, j.who = 4) : d.scanDone = d := by
  unfold Dev.scanDone
  split
  · rfl
  · rename_i y hy
    rcases h with h | h
    · rw [hy] at h
      cases h
    · exact if_pos ((anyWho_iff _ _).mpr h)

/-- The record that a scan selects, as the registers show it. -/
def scanFound : Option (Nat × Nat × Nat × Nat) → List (Fld × Nat)
  | none => [(F.GRN_STAT_FOUND, 0), (F.GRN_LASTSEQ_SEQ, 0xFFFFFFFF)]
  | some (a, seq, flags, len) => [(F.GRN_STAT_FOUND, 1), (F.GRN_LASTSEQ_SEQ, seq), (F.GRN_SELADDR_ADDR, a), (F.GRN_SELSEQ_SEQ, seq),
      (F.GRN_SELINFO_FLAGS, flags), (F.GRN_SELINFO_LEN, len)]

/-- All that a scan's end shows. -/
def scanShown (y : ScanEnd) : List (Fld × Nat) :=
  scanFound y.sel ++ [(F.GRN_WEARA_COUNT, y.wearA), (F.GRN_WEARB_COUNT, y.wearB), (F.GRN_STAT_SCANNING, 0), (F.GRN_STAT_READY, 1)]

theorem scanFound_flds (o : Option (Nat × Nat × Nat × Nat)) : (scanFound o).map Prod.fst = [F.GRN_STAT_FOUND, F.GRN_LASTSEQ_SEQ] ∨
    (scanFound o).map Prod.fst = [F.GRN_STAT_FOUND, F.GRN_LASTSEQ_SEQ, F.GRN_SELADDR_ADDR, F.GRN_SELSEQ_SEQ, F.GRN_SELINFO_FLAGS, F.GRN_SELINFO_LEN] := by
  rcases o with _ | ⟨a, seq, flags, len⟩
  · exact .inl rfl
  · exact .inr rfl

theorem scanShown_flds (y : ScanEnd) : ((scanShown y).map Prod.fst).Pairwise (fun f g => fldId f ≠ fldId g) ∧
    ∀ f ∈ (scanShown y).map Prod.fst, fldId F.GRN_INT_SCANDONE ≠ fldId f ∧ fldId F.GRN_INT_WEAR ≠ fldId f ∧
      ∀ g ∈ [F.QUE_W2_LOST 0, F.QUE_W1_LOSTSAT 0, F.LAR_LEAK_COUNT, F.ECC_INJ_COUNT, F.ECC_INJ_ARM], fldId g ≠ fldId f := by
  have hrest : [(F.GRN_WEARA_COUNT, y.wearA), (F.GRN_WEARB_COUNT, y.wearB), (F.GRN_STAT_SCANNING, 0), (F.GRN_STAT_READY, 1)].map Prod.fst =
    [F.GRN_WEARA_COUNT, F.GRN_WEARB_COUNT, F.GRN_STAT_SCANNING, F.GRN_STAT_READY] := rfl
  rw [scanShown, List.map_append, hrest]
  rcases scanFound_flds y.sel with h | h <;> rw [h] <;> exact ⟨by decide, by decide⟩

theorem Dev.scanDone_is {d : Dev} {y : ScanEnd} (hy : d.grn.scan = some y) (hjobs : ∀ j ∈ d.fls.jobs, j.who ≠ 4) : let e := d.scanDone
    (∀ f v, (f, v) ∈ scanShown y → e.get f = v % 2 ^ f.w) ∧ e.get F.GRN_INT_SCANDONE = 1 ∧ e.grn.scan = none := by
  obtain ⟨x, hx⟩ : ∃ x, x = (d.modGrn fun g => { g with scan := none }).setAll (scanShown y) := ⟨_, rfl⟩
  have heq : d.scanDone = (x.raise F.GRN_INT_SCANDONE 0x1402 [0] 0 0 0).checkWear := by
    unfold Dev.scanDone
    rw [hy, hx]
    simp only [anyWho_false hjobs, Bool.false_eq_true, if_false]
    rcases y with ⟨_ | ⟨a, seq, flags, len⟩, wearA, wearB⟩ <;> rfl
  obtain ⟨hapart, hclear⟩ := scanShown_flds y
  have hxgrn : x.grn.scan = none := by
    rw [hx, ((d.modGrn fun g => { g with scan := none }).only_setAll (scanShown y)).1]
    rfl
  have htold := x.told_raise F.GRN_INT_SCANDONE 0x1402 [0] 0 0 0 t000_lt
  have hint : (x.raise F.GRN_INT_SCANDONE 0x1402 [0] 0 0 0).get F.GRN_INT_SCANDONE = 1 :=
    Dev.raise_get_int _ _ _ _ _ _ (plainFld_of_fldId (by decide) (by decide) (by decide)) t000_lt
  have hkept {g : Fld} (hne : fldId F.GRN_INT_SCANDONE ≠ fldId g) (hq : QueFld 0 g) : (x.raise F.GRN_INT_SCANDONE 0x1402 [0] 0 0 0).get g = x.get g :=
    Dev.raise_get_ne _ _ _ _ _ hne (by simpa using hq)
  rw [heq]
  generalize x.raise F.GRN_INT_SCANDONE 0x1402 [0] 0 0 0 = z at *
  obtain ⟨⟨r, hgrn⟩, -, hget⟩ := z.checkWear_is
  refine ⟨fun f v hf => ?_, (hget _ (by decide) (queFld_of_ids (by decide))).trans hint, ?_⟩
  · obtain ⟨hne, hwear, hque⟩ := hclear f (List.mem_map_of_mem hf)
    rw [hget f hwear (queFld_of_ids hque), hkept hne (queFld_of_ids hque), hx]
    exact Dev.setAll_get _ hapart hf
  · rw [hgrn, (congrArg (fun u : Dev => u.grn) htold.1 :)]
    exact hxgrn

/-- Settles O50, by what each step of a commit, an erase-ahead and a scan leaves. -/
theorem granary : Obligations.Granary := by
  unfold Obligations.Granary
  refine ⟨fun seq flags wear pay rest hseq hflags hwear hlen => recordAt_recordBytes rest hseq hflags hwear hlen, fun s hup =>
    ⟨fun w elapsed hres => Ends.of_act hup ?_, fun h => Ends.of_act hup ?_, fun hrom hpend hscan hwriting hf => Ends.of_act hup ?_,
    fun hrom hpend hscan hwriting hf len seq hlen hseq hgood => Ends.of_act hup ?_, fun h => Ends.of_act hup ?_,
    fun c hc hjobs good hgood => Ends.of_act hup ?_, fun h => Ends.of_act hup ?_, fun b t h => Ends.of_act hup ?_, fun w hres => Ends.of_act hup ?_,
    fun h => Ends.of_act hup ?_, fun y hy hjobs => Ends.of_act hup ?_⟩⟩
  · exact Dev.writeGrnCommit_is hup hres (bitOf_withBit_same w (by decide)) (bits_withBit_ne w (by decide) (by decide))
      (bits_withBit_ne w (by decide) (by decide)) (bits_withBit_ne w (by decide) (by decide))
  · exact Dev.startCommit_idle h
  · exact Dev.startCommit_fenced hrom hpend hscan hwriting hf
  · exact Dev.startCommit_is hrom hpend hscan hwriting hf hlen hseq hgood
  · exact Dev.grnDone_idle h
  · exact Dev.grnDone_is hc hjobs hgood
  · simp only [Dev.eraseAheadDone, h]
  · exact Dev.eraseAheadDone_is h
  · exact Dev.writeGrnCtrl_is hup hres (bitOf_withBit_same w (by decide))
  · exact Dev.scanDone_idle h
  · obtain ⟨hshown, hint, hscan⟩ := Dev.scanDone_is hy hjobs
    refine ⟨hshown _ 0 (by simp [scanShown]), hshown _ 1 (by simp [scanShown]), hint, hscan, hshown _ y.wearA (by simp [scanShown]),
      hshown _ y.wearB (by simp [scanShown]), fun hsel => ⟨hshown _ 0 (by simp [scanShown, scanFound, hsel]),
        hshown _ 0xFFFFFFFF (by simp [scanShown, scanFound, hsel])⟩, fun a seq flags len hsel => ⟨hshown _ 1 ?_, hshown _ seq ?_, hshown _ a ?_,
        hshown _ seq ?_, hshown _ flags ?_, hshown _ len ?_⟩⟩ <;> simp [scanShown, scanFound, hsel]

end Sys2Proof.Machine

/-!
SUPPORT. Window writes and polling.
-/
namespace Sys2Proof.Machine

open Sys2Proof

/-! ### Window writes (R432, R433, R435) -/

theorem Dev.flsError_is (d : Dev) (st : Status) (addr : Nat) : let e := d.flsError st addr
    (d.is F.FLS_ERR_VALID = true → e.get F.FLS_ERR_MULTI = 1) ∧
      (d.is F.FLS_ERR_VALID = false → e.get F.FLS_ERR_VALID = 1 ∧ e.get F.FLS_ERR_CODE = statusCode st ∧ e.get F.FLS_ERRADDR_ADDR = addr % 2 ^ 32) ∧
      d.Only e [F.FLS_ERR_VALID, F.FLS_ERR_MULTI, F.FLS_ERR_CODE, F.FLS_ERRADDR_ADDR] := by
  unfold Dev.flsError
  by_cases hv : d.is F.FLS_ERR_VALID = true
  · rw [if_pos hv]
    exact ⟨fun _ => Dev.get_set_same _ _ _, fun h => absurd (hv.symm.trans h) (by decide), (d.only_set _ _).mono (by simp)⟩
  · rw [if_neg hv]
    have hcode : statusCode st % 2 ^ 8 = statusCode st := by cases st <;> rfl
    refine ⟨fun h => absurd h hv, fun _ => ⟨?_, ?_, Dev.get_set_same _ _ _⟩,
      (((d.only_set _ _).trans (Dev.only_set _ _ _)).trans (Dev.only_set _ _ _)).mono (by simp)⟩
    · exact (Dev.get_set_ne _ _ (by decide)).trans ((Dev.get_set_ne _ _ (by decide)).trans (Dev.get_set_same _ _ _))
    · exact (Dev.get_set_ne _ _ (by decide)).trans ((Dev.get_set_same _ _ _).trans hcode)

/-- The record of an error stands while its event is queued. -/
theorem Dev.flsError_raise {d e : Dev} {st : Status} {addr : Nat} {int : Fld} (code : Nat) (hplain : PlainFld int) (hw : int.w = 1)
    (hapart : ∀ f ∈ [F.FLS_ERR_VALID, F.FLS_ERR_MULTI, F.FLS_ERR_CODE, F.FLS_ERRADDR_ADDR], fldId int ≠ fldId f)
    (he : e = (d.flsError st addr).raise int code [0] 0 0 0) : e.get int = 1 ∧ (d.is F.FLS_ERR_VALID = true → e.get F.FLS_ERR_MULTI = 1) ∧
      (d.is F.FLS_ERR_VALID = false → e.get F.FLS_ERR_VALID = 1 ∧ e.get F.FLS_ERR_CODE = statusCode st ∧ e.get F.FLS_ERRADDR_ADDR = addr % 2 ^ 32) ∧
      d.Told e [int, F.FLS_ERR_VALID, F.FLS_ERR_MULTI, F.FLS_ERR_CODE, F.FLS_ERRADDR_ADDR] := by
  obtain ⟨hmulti, hfirst, honly⟩ := d.flsError_is st addr
  have hint : e.get int = 1 := by
    rw [he]
    refine (Dev.raise_get_int _ _ _ _ _ _ hplain t000_lt).trans ?_
    rw [hw]
    rfl
  have htold : (d.flsError st addr).Told e [int] := he ▸ Dev.told_raise _ _ _ _ _ _ _ t000_lt
  have hque : ∀ f ∈ [F.FLS_ERR_VALID, F.FLS_ERR_MULTI, F.FLS_ERR_CODE, F.FLS_ERRADDR_ADDR], ∀ g ∈ [F.QUE_W2_LOST 0, F.QUE_W1_LOSTSAT 0,
    F.LAR_LEAK_COUNT, F.ECC_INJ_COUNT, F.ECC_INJ_ARM], fldId g ≠ fldId f := by decide
  have hkept {f : Fld} (hf : f ∈ [F.FLS_ERR_VALID, F.FLS_ERR_MULTI, F.FLS_ERR_CODE, F.FLS_ERRADDR_ADDR]) : e.get f = (d.flsError st addr).get f :=
    he ▸ Dev.raise_get_ne _ _ _ _ _ (hapart f hf) (by simpa using queFld_of_ids (hque f hf))
  refine ⟨hint, fun hv => (hkept (by simp)).trans (hmulti hv), fun hv => ?_, (honly.told.trans htold).mono (by simp)⟩
  obtain ⟨hvalid, hcode, haddr⟩ := hfirst hv
  exact ⟨(hkept (by simp)).trans hvalid, (hkept (by simp)).trans hcode, (hkept (by simp)).trans haddr⟩

theorem Dev.windowError_refused (d : Dev) (st : Status) (addr : Nat) : WindowRefused d (d.windowError st addr) st addr := by
  obtain ⟨hint, hmulti, hfirst, htold⟩ := Dev.flsError_raise (d := d.emit .accessFault 0 [addr] []) (st := st) (addr := addr) (int := F.FLS_INT_WERR)
    0x1302 (plainFld_of_fldId (by decide) (by decide) (by decide)) rfl (by decide) rfl
  have heq : d.windowError st addr = ((d.emit .accessFault 0 [addr] []).flsError st addr).raise F.FLS_INT_WERR 0x1302 [0] 0 0 0 := rfl
  rw [← heq] at hint hmulti hfirst htold
  generalize d.windowError st addr = e at *
  exact ⟨(congrArg (fun y : Dev => y.out) htold.1 :), hint, hmulti, hfirst, (congrArg (fun y : Dev => { y with out := d.out }) htold.1 :), htold.2⟩

theorem Dev.endGather_none {d : Dev} (h : d.fls.gather = none) : d.endGather = d := by rw [Dev.endGather, h]

/-- A gathered run becomes a program. -/
theorem Dev.endGather_some {d : Dev} {g b : Nat} {r : List Byte} (h : d.fls.gather = some (g, b, r)) : d.endGather.fls.gather = none ∧
    ∃ j ∈ d.endGather.fls.jobs, j.sel = g ∧ j.addr = b ∧ j.data = r ∧ j.erase = false := by
  obtain ⟨y, hy⟩ : ∃ y, y = d.modFls fun x => { x with gather := none } := ⟨_, rfl⟩
  have heq : d.endGather = y.addJobs [{ sel := g, addr := b, data := r }] := by rw [Dev.endGather, h, hy]
  have hgather : y.fls.gather = none := by rw [hy]; rfl
  obtain ⟨j, hj, hjob⟩ := y.addJobs_hasJob (List.mem_singleton_self ({ sel := g, addr := b, data := r } : FlashJob))
  obtain ⟨⟨jobs, hfls⟩, -⟩ := y.addJobs_is [{ sel := g, addr := b, data := r }]
  rw [heq]
  refine ⟨by rw [hfls, hgather], j, hj, ?_⟩
  rcases hjob with rfl | rfl <;> exact ⟨rfl, rfl, rfl, rfl⟩

theorem Dev.gatherWord_is (d : Dev) (sel a : Nat) (l : List Byte) : let e := d.gatherWord sel a l
    (a % 256 ≠ 252 → d.fls.gather = none → e = { d with fls := { d.fls with gather := some (sel, a, l) } }) ∧
    (∀ b r, a % 256 ≠ 252 → d.fls.gather = some (sel, b, r) → a = b + r.length → a / 256 = b / 256 →
      e = { d with fls := { d.fls with gather := some (sel, b, r ++ l) } }) ∧
    (∀ g b r, a % 256 ≠ 252 → d.fls.gather = some (g, b, r) → ¬ (g = sel ∧ a = b + r.length ∧ a / 256 = b / 256) →
      e.fls.gather = some (sel, a, l) ∧ ∃ j ∈ e.fls.jobs, j.sel = g ∧ j.addr = b ∧ j.data = r ∧ j.erase = false) ∧
    (a % 256 = 252 → d.fls.gather = none → e.fls.gather = none ∧ ∃ j ∈ e.fls.jobs, j.sel = sel ∧ j.addr = a ∧ j.data = l ∧ j.erase = false) := by
  unfold Dev.gatherWord
  refine ⟨fun hend h => ?_, fun b r hend h hnext hpage => ?_, fun g b r hend h hnot => ?_, fun hend h => ?_⟩
  · simp only [h, if_neg hend]
    rfl
  · simp only [h, if_neg hend]
    exact if_pos ⟨trivial, hnext, hpage⟩
  · simp only [h, if_neg hend, if_neg hnot]
    obtain ⟨-, hjob⟩ := Dev.endGather_some h
    exact ⟨rfl, hjob⟩
  · simp only [h, if_pos hend]
    exact Dev.endGather_some rfl

theorem Dev.windowWrite_is (d : Dev) (win x n : Nat) (v : Word) : let e := d.windowWrite win x n v
    if win = 0 then WindowRefused d e .eState (0x20000000 + x)
    else if n ≠ 4 ∨ x % 4 ≠ 0 then WindowRefused d e .eAlign (0x30000000 + x)
    else if d.get F.FLS_WMAP_SIZE ≤ x then e = d.emit .accessFault 0 [0x30000000 + x] []
    else if d.bankByte x = true then WindowRefused d e .eLocked (0x30000000 + x)
    else e = d.gatherWord (d.get F.FLS_WMAP_SEL) (d.get F.FLS_WBASE_BASE + x) (leBytes 4 v.toNat) := by
  unfold Dev.windowWrite
  by_cases hwin : win = 0
  · rw [if_pos hwin, if_pos hwin]
    exact d.windowError_refused _ _
  rw [if_neg hwin, if_neg hwin]
  by_cases halign : n ≠ 4 ∨ x % 4 ≠ 0
  · rw [if_pos halign, if_pos halign]
    exact d.windowError_refused _ _
  rw [if_neg halign, if_neg halign]
  by_cases hsize : d.get F.FLS_WMAP_SIZE ≤ x
  · rw [if_pos hsize, if_pos hsize]
  rw [if_neg hsize, if_neg hsize]
  by_cases hbank : d.bankByte x = true
  · rw [if_pos hbank, if_pos hbank]
    exact d.windowError_refused _ _
  · rw [if_neg hbank, if_neg hbank]

theorem Dev.writeFlsCtrl_eq {d : Dev} {w : Word} (hup : d.up = true) (hres : setsReserved R.FLS_CTRL w = false) (hgo : bitOf w.toNat 1 = true) :
    ∃ x : Dev, d.writeFlsCtrl w = x.endGather ∧ x.get F.FLS_CTRL_FLUSH = 0 ∧ d.Only x [F.FLS_CTRL_LOCK, F.FLS_CTRL_WLOCK, F.FLS_CTRL_FLUSH] := by
  have hrow : d.Only (d.writeRow .bar0 R.FLS_CTRL 0 w) [F.FLS_CTRL_LOCK, F.FLS_CTRL_WLOCK, F.FLS_CTRL_FLUSH] := d.only_writeRow .bar0 R.FLS_CTRL 0 w
  refine ⟨(d.writeRow .bar0 R.FLS_CTRL 0 w).set F.FLS_CTRL_FLUSH 0, ?_, Dev.get_set_same _ _ _, (hrow.trans (Dev.only_set _ _ _)).mono (by simp)⟩
  unfold Dev.writeFlsCtrl
  rw [Dev.regWrite_done hup ((firstByRank_own hres rfl _ _ _ _).trans rfl), if_pos hgo]

/-! ### Polling (R433, R434, R450) -/

theorem flashJob_sel {d : Dev} {sel : Nat} {j : FlashJob} (h : d.flashJob sel = some j) : j.sel = sel := by
  simpa using List.find?_some h

/-- The first job of a select once it has been changed. -/
theorem find_modFirstJob {sel : Nat} {f : FlashJob → FlashJob} (hf : ∀ j, (f j).sel = j.sel) {l : List FlashJob} {j : FlashJob}
    (h : l.find? (·.sel == sel) = some j) : (modFirstJob sel f l).find? (·.sel == sel) = some (f j) := by
  induction l with
  | nil => cases h
  | cons k l ih =>
    by_cases hk : k.sel = sel
    · rw [List.find?_cons_of_pos (by simpa using hk)] at h
      obtain rfl := Option.some.inj h
      rw [modFirstJob, if_pos hk, List.find?_cons_of_pos (by simpa [hf] using hk)]
    · rw [List.find?_cons_of_neg (by simpa using hk)] at h
      rw [modFirstJob, if_neg hk, List.find?_cons_of_neg (by simpa using hk)]
      exact ih h

theorem Dev.showFls_is (d : Dev) : d.showFls.fls = d.fls ∧ d.showFls.out = d.out :=
  ⟨(congrArg (fun y : Dev => y.fls) d.only_showFls.1 :), (congrArg (fun y : Dev => y.out) d.only_showFls.1 :)⟩

theorem Dev.suspendErase_is {d : Dev} {sel : Nat} {j : FlashJob} (h : d.flashJob sel = some j) : let e := d.suspendErase sel
    e.out = ⟨.flash, sel, [0x75, 0], []⟩ :: d.out ∧ e.flashJob sel = some { j with suspended := true } ∧ e.fls.reads = d.fls.reads := by
  obtain ⟨y, hy⟩ : ∃ y, y = (d.modFls fun x => { x with jobs := modFirstJob sel (fun j => { j with suspended := true }) x.jobs }).flashSend sel 0x75 0 [] :=
    ⟨_, rfl⟩
  have heq : d.suspendErase sel = y.showFls := by rw [hy]; rfl
  obtain ⟨hfls, hout⟩ := y.showFls_is
  simp only [heq, Dev.flashJob, hfls, hout]
  refine ⟨by rw [hy]; rfl, ?_, by rw [hy]; rfl⟩
  rw [hy]
  exact find_modFirstJob (f := fun j => { j with suspended := true }) (fun _ => rfl) h

theorem Dev.flashPoll_idle {d : Dev} {sel : Nat} (h : d.flashJob sel = none) (status : Byte) (gap : Bool) : d.flashPoll sel status gap = d := by
  rw [Dev.flashPoll, h]

theorem Dev.flashPoll_waits {d : Dev} {sel : Nat} {j : FlashJob} (h : d.flashJob sel = some j) (hw : j.started = false ∨ j.suspended = true)
    (status : Byte) (gap : Bool) : d.flashPoll sel status gap = d := by
  rw [Dev.flashPoll, h]
  exact if_pos (by simpa using hw)

theorem Dev.flashPoll_is {d : Dev} {sel : Nat} {j : FlashJob} (h : d.flashJob sel = some j) (hstarted : j.started = true) (hrun : j.suspended = false)
    (status : Byte) (gap : Bool) : let e := d.flashPoll sel status gap
    ∀ x : Dev, x = d.emit .flash sel [0x05, 0] [] →
      if status.getLsbD 0 = false then e = x.finishJob sel true
      else if d.maySuspend sel gap = true ∧ (∃ r ∈ d.fls.reads, d.windowSel r.win = sel) then
        e.out = ⟨.flash, sel, [0x75, 0], []⟩ :: x.out ∧ e.flashJob sel = some { j with suspended := true }
      else e = x := by
  intro e x hx
  have he : e = if status.getLsbD 0 then
      if x.maySuspend sel gap && x.fls.reads.any (fun r => x.windowSel r.win == sel) then x.suspendErase sel else x
      else x.finishJob sel true := by
    rw [hx]
    simp only [e, Dev.flashPoll, h, hstarted, hrun, Bool.not_true, Bool.or_self, Bool.false_eq_true, if_false]
    rfl
  have hjob : x.flashJob sel = some j := by rw [hx]; exact h
  have hmay : (x.maySuspend sel gap && x.fls.reads.any (fun r => x.windowSel r.win == sel)) = true ↔
      d.maySuspend sel gap = true ∧ ∃ r ∈ d.fls.reads, d.windowSel r.win = sel := by
    rw [hx, Bool.and_eq_true, List.any_eq_true]
    simp only [beq_iff_eq]
    rfl
  cases hb : status.getLsbD 0
  · rw [if_pos rfl, he, hb]
    rfl
  · rw [if_neg (by decide)]
    rw [hb, if_pos rfl] at he
    by_cases hs : d.maySuspend sel gap = true ∧ ∃ r ∈ d.fls.reads, d.windowSel r.win = sel
    · rw [if_pos hs, he, if_pos (hmay.mpr hs)]
      obtain ⟨hout, hsusp, -⟩ := Dev.suspendErase_is hjob
      exact ⟨hout, hsusp⟩
    · rw [if_neg hs, he, if_neg fun hx => hs (hmay.mp hx)]

theorem Dev.flsTimeout_is {d : Dev} {sel : Nat} {j : FlashJob} (h : d.flashJob sel = some j) (hstarted : j.started = true) :
    ∃ x : Dev, d.flsTimeout sel = x.finishJob sel false ∧ x.get F.FLS_INT_TIMEOUT = 1 ∧ .fault 0x243 45 ∈ x.lar.due ∧
      (d.is F.FLS_ERR_VALID = false → x.get F.FLS_ERR_VALID = 1 ∧ x.get F.FLS_ERR_CODE = statusCode .eTimeout ∧
        x.get F.FLS_ERRADDR_ADDR = j.addr % 2 ^ 32) ∧
      d.Told x [F.FLS_INT_TIMEOUT, F.FLS_ERR_VALID, F.FLS_ERR_MULTI, F.FLS_ERR_CODE, F.FLS_ERRADDR_ADDR] := by
  obtain ⟨hint, -, hfirst, htold⟩ := Dev.flsError_raise (d := d) (st := .eTimeout) (addr := j.addr) (int := F.FLS_INT_TIMEOUT)
    0x1300 (plainFld_of_fldId (by decide) (by decide) (by decide)) rfl (by decide) rfl
  refine ⟨((d.flsError .eTimeout j.addr).raise F.FLS_INT_TIMEOUT 0x1300 [0] 0 0 0).oweFault 0x243 45, ?_, hint,
    List.mem_append_right _ (List.mem_singleton_self _), hfirst, ?_, htold.2⟩
  · rw [Dev.flsTimeout, h]
    simp only [hstarted, Bool.not_true, Bool.false_eq_true, if_false]
  · generalize (d.flsError .eTimeout j.addr).raise F.FLS_INT_TIMEOUT 0x1300 [0] 0 0 0 = y at *
    exact (congrArg (fun z : Dev => z.oweFault 0x243 45) htold.1 :)

end Sys2Proof.Machine

/-!
SUPPORT. Flash bytes, window reads and the instruction cache (O49).
-/
namespace Sys2Proof.Machine

open Sys2Proof

/-! ### The bytes of a flash (R433, R434) -/

theorem flashByte_of_flash {d e : Dev} (h : e.flash = d.flash) (sel a : Nat) : e.flashByte sel a = d.flashByte sel a := by
  rw [Dev.flashByte, h, Dev.flashByte]

theorem flash_of_aside {d e : Dev} (h : e.aside = d.aside) : e.flash = d.flash := congrArg (fun a => a.2.2.2.2.2.2.2.2.2) h

/-- Bytes of one run of at most 2^32 have keys of their own. -/
theorem flashKey_ne (sel a : Nat) {i j : Nat} (hi : i < 2 ^ 32) (hj : j < 2 ^ 32) (hne : i ≠ j) : flashKey sel (a + i) ≠ flashKey sel (a + j) := by
  unfold flashKey
  omega

theorem Dev.flashPut_ne (sel : Nat) (l : List Byte) (d : Dev) (a : Nat) {k : Nat} (h : ∀ i < l.length, flashKey sel (a + i) ≠ k) :
    mapGet 0xFF (d.flashPut sel a l).flash k = mapGet 0xFF d.flash k := by
  induction l generalizing d a with
  | nil => rfl
  | cons b l ih =>
    have hfirst : flashKey sel a ≠ k := h 0 (Nat.succ_pos _)
    refine (ih _ (a + 1) fun i hi => ?_).trans (mapGet_put_ne _ _ hfirst)
    rw [Nat.add_right_comm, Nat.add_assoc]
    exact h (i + 1) (Nat.succ_lt_succ hi)

theorem Dev.flashPut_get (sel : Nat) (l : List Byte) (d : Dev) (a : Nat) (hl : l.length ≤ 2 ^ 32) {i : Nat} {b : Byte} (h : l[i]? = some b) :
    mapGet 0xFF (d.flashPut sel a l).flash (flashKey sel (a + i)) = b := by
  induction l generalizing d a i with
  | nil => cases h
  | cons c l ih =>
    rw [List.length_cons] at hl
    cases i with
    | zero =>
      obtain rfl := Option.some.inj h
      refine (Dev.flashPut_ne sel l _ (a + 1) fun i hi => ?_).trans (mapGet_put_same _ _ _)
      rw [Nat.add_right_comm, Nat.add_assoc]
      exact flashKey_ne sel a (by omega) (by omega) (by omega)
    | succ i =>
      have hi := ih { d with flash := mapPut 0xFF d.flash (flashKey sel a) c } (a + 1) (by omega) h
      rwa [Nat.add_right_comm, Nat.add_assoc] at hi

/-- What a program writes depends on the flashes alone. -/
theorem Dev.flashProgram_flash {d e : Dev} (h : e.flash = d.flash) (sel a : Nat) (l : List Byte) :
    (e.flashProgram sel a l).flash = (d.flashProgram sel a l).flash := by
  have hput (m : List Byte) {x y : Dev} (hxy : x.flash = y.flash) (b : Nat) : (x.flashPut sel b m).flash = (y.flashPut sel b m).flash := by
    induction m generalizing x y b with
    | nil => exact hxy
    | cons c m ih => exact ih (by rw [hxy]) (b + 1)
  have hold : e.flashBytes sel a l.length = d.flashBytes sel a l.length := List.map_congr_left fun i _ => flashByte_of_flash h sel (a + i)
  rw [Dev.flashProgram, Dev.flashProgram, hold]
  exact hput _ h a

theorem Dev.mbFlashEnded_flash (d : Dev) (ok : Bool) : (d.mbFlashEnded ok).flash = d.flash := by
  obtain ⟨x, hx⟩ : ∃ x : Dev, x = { d with stw := { d.stw with flashCmd := none } } := ⟨_, rfl⟩
  have hkept : x.flash = d.flash := by rw [hx]
  have hreply (st n : Nat) : (x.mbReply st n).flash = x.flash := by rw [(x.mbReply_told st n).1]
  unfold Dev.mbFlashEnded
  split
  · rfl
  · rw [← hx, apply_ite Dev.flash, hreply, hkept, ite_self]

/-- The end of a job changes no flash byte. -/
theorem Dev.jobEnded_flash (d : Dev) (j : FlashJob) : (d.jobEnded j true).flash = d.flash := by
  unfold Dev.jobEnded
  split
  · cases d.grn.commit <;> rfl
  · rfl
  · rfl
  · rfl
  · exact d.mbFlashEnded_flash true
  · rfl

theorem Dev.fillLine_frame (d : Dev) (a : Nat) (line : List Byte) :
    d.fillLine a line = { d with stw := { d.stw with icache := (d.fillLine a line).stw.icache }, free := (d.fillLine a line).free } := by
  unfold Dev.fillLine
  simp only
  split_ifs <;> rfl

/-- A read that is served changes no flash byte, and nothing of the flash port. -/
theorem Dev.serveRead_frame (d : Dev) (r : FlashRead) : (d.serveRead r).flash = d.flash ∧ (d.serveRead r).fls = d.fls := by
  unfold Dev.serveRead
  simp only
  by_cases hw : r.win = 0
  · rw [if_pos hw]
    by_cases hf : r.fetch = true
    · simp only [hf, if_true]
      rw [Dev.fillLine_frame]
      exact ⟨rfl, rfl⟩
    · simp only [hf]
      exact ⟨rfl, rfl⟩
  · rw [if_neg hw]
    exact ⟨rfl, rfl⟩

theorem Dev.serveReads_frame (d : Dev) (sel : Nat) : (d.serveReads sel).flash = d.flash ∧ (d.serveReads sel).fls =
    { d.fls with reads := d.fls.reads.filter fun r => d.windowSel r.win != sel } := by
  have hfold (l : List FlashRead) (x : Dev) : (l.foldl Dev.serveRead x).flash = x.flash ∧ (l.foldl Dev.serveRead x).fls = x.fls := by
    induction l generalizing x with
    | nil => exact ⟨rfl, rfl⟩
    | cons r l ih =>
      obtain ⟨h1, h2⟩ := ih (x.serveRead r)
      obtain ⟨k1, k2⟩ := x.serveRead_frame r
      exact ⟨h1.trans k1, h2.trans k2⟩
  exact hfold _ _

/-- A finished job leaves what its program or its erase wrote. -/
theorem Dev.finishJob_flash {d : Dev} {sel : Nat} {j : FlashJob} (h : d.flashJob sel = some j) :
    (d.finishJob sel true).flash = (if j.erase then d.flashErase sel j.addr else d.flashProgram sel j.addr j.data).flash := by
  obtain ⟨y, hy⟩ : ∃ y, y = d.modFls fun x => { x with jobs := dropFirstJob sel x.jobs } := ⟨_, rfl⟩
  obtain ⟨z, hz⟩ : ∃ z, z = if j.erase then y.flashErase sel j.addr else y.flashProgram sel j.addr j.data := ⟨_, rfl⟩
  have hyflash : y.flash = d.flash := by rw [hy]; rfl
  have hkept : z.flash = (if j.erase then d.flashErase sel j.addr else d.flashProgram sel j.addr j.data).flash := by
    rw [hz]
    split_ifs
    · rw [Dev.flashErase, Dev.flashErase, hyflash]
    · exact Dev.flashProgram_flash hyflash sel j.addr j.data
  obtain ⟨-, hstart⟩ := (z.jobEnded j true).startJobs_is
  have hstarted : (z.jobEnded j true).startJobs.flash = z.flash := (congrArg (fun x : Dev => x.flash) hstart.1 :).trans (z.jobEnded_flash j)
  have heq : d.finishJob sel true = if (z.jobEnded j true).startJobs.flashIdle sel then (z.jobEnded j true).startJobs.serveReads sel
      else (z.jobEnded j true).startJobs := by
    rw [Dev.finishJob, h, hz, hy]
    rfl
  rw [heq, ← hkept]
  split_ifs
  · exact (Dev.serveReads_frame _ _).1.trans hstarted
  · exact hstarted

theorem Dev.length_flashBytes (d : Dev) (sel a n : Nat) : (d.flashBytes sel a n).length = n := by
  rw [Dev.flashBytes, List.length_map, List.length_range]

/-- A program leaves the AND of the old contents and its data, and no other byte changed. -/
theorem Dev.flashProgram_is (d : Dev) (sel a : Nat) {l : List Byte} (hl : l.length ≤ 256) :
    (∀ i b, l[i]? = some b → (d.flashProgram sel a l).flashByte sel (a + i) = d.flashByte sel (a + i) &&& b) ∧
      ∀ q x, (∀ i < l.length, flashKey sel (a + i) ≠ flashKey q x) → (d.flashProgram sel a l).flashByte q x = d.flashByte q x := by
  have hlen : (List.zipWith (· &&& ·) (d.flashBytes sel a l.length) l).length = l.length := by
    rw [List.length_zipWith, Dev.length_flashBytes, Nat.min_self]
  refine ⟨fun i b hb => ?_, fun q x hne => Dev.flashPut_ne sel _ d a (by rwa [hlen])⟩
  obtain ⟨hi, -⟩ := List.getElem?_eq_some_iff.mp hb
  have hold : (d.flashBytes sel a l.length)[i]? = some (d.flashByte sel (a + i)) := by
    rw [Dev.flashBytes, List.getElem?_map, List.getElem?_range hi, Option.map_some]
  refine Dev.flashPut_get sel _ d a (by omega) ?_
  rw [List.getElem?_zipWith, hold, hb]

/-- An erase leaves its sector 0xFF, and no other byte changed. -/
theorem Dev.flashErase_is (d : Dev) (sel a : Nat) : (∀ i < 4096, (d.flashErase sel a).flashByte sel (sectorOf a + i) = 0xFF) ∧
    ∀ q x, (∀ i < 4096, flashKey sel (sectorOf a + i) ≠ flashKey q x) → (d.flashErase sel a).flashByte q x = d.flashByte q x := by
  have hkey (i : Nat) (hi : i < 4096) : flashKey sel (sectorOf a + i) = flashKey sel (sectorOf a) + i := by
    unfold flashKey sectorOf
    omega
  have hget (k : Nat) : mapGet 0xFF (d.flashErase sel a).flash k =
      if k < flashKey sel (sectorOf a) ∨ flashKey sel (sectorOf a) + 4096 ≤ k then mapGet 0xFF d.flash k else 0xFF := by
    have hfind := mapFind_filter (fun k => decide (k < flashKey sel (sectorOf a)) || decide (flashKey sel (sectorOf a) + 4096 ≤ k)) d.flash k
    simp only [Dev.flashErase, mapDropRange, mapGet, hfind, Bool.or_eq_true, decide_eq_true_eq]
    split_ifs <;> rfl
  refine ⟨fun i hi => (hget _).trans (if_neg ?_), fun q x hne => (hget _).trans (if_pos ?_)⟩
  · rw [hkey i hi]
    omega
  · by_contra hin
    push Not at hin
    obtain ⟨hlo, hhi⟩ := hin
    exact hne (flashKey q x - flashKey sel (sectorOf a)) (by omega) (by rw [hkey _ (by omega)]; omega)

/-! ### The instruction cache (R506) -/

theorem length_mapInsert {α : Type} (m : Map α) (k : Nat) (v : α) : (mapInsert m k v).length = m.length + 1 := by
  induction m with
  | nil => rfl
  | cons e m ih =>
    rw [mapInsert]
    split_ifs
    · rfl
    · rw [List.length_cons, ih, List.length_cons]

theorem length_mapErase_le {α : Type} (m : Map α) (k : Nat) : (mapErase m k).length ≤ m.length := by
  rw [mapErase_eq_filter]
  exact List.length_filter_le _ _

/-- What is left of a map of distinct keys reads as before, or as nothing. -/
theorem mapFind_eraseIdx {α : Type} {m : Map α} (h : (m.map Prod.fst).Nodup) (i k : Nat) :
    mapFind (m.eraseIdx i) k = mapFind m k ∨ mapFind (m.eraseIdx i) k = none := by
  induction m generalizing i with
  | nil => exact .inl rfl
  | cons e m ih =>
    obtain ⟨j, v⟩ := e
    rw [List.map_cons, List.nodup_cons] at h
    obtain ⟨hnot, hrest⟩ := h
    cases i with
    | zero =>
      rw [List.eraseIdx_cons_zero, mapFind]
      by_cases hj : j = k
      · exact .inr (mapFind_none fun e he hk => hnot (List.mem_map.mpr ⟨e, he, hk.trans hj.symm⟩))
      · rw [if_neg hj]
        exact .inl rfl
    | succ i =>
      rw [List.eraseIdx_cons_succ, mapFind, mapFind]
      by_cases hj : j = k
      · rw [if_pos hj, if_pos hj]
        exact .inl rfl
      · rw [if_neg hj, if_neg hj]
        exact ih hrest i

theorem Dev.fillLine_is (d : Dev) (a : Nat) {line : List Byte} (hline : line ≠ []) : let e := d.fillLine a line
    mapGet [] e.stw.icache a = line ∧ (d.stw.icache.length ≤ 1024 → e.stw.icache.length ≤ 1024) ∧
      (∀ k, k ≠ a → mapGet [] e.stw.icache k = mapGet [] d.stw.icache k ∨ mapGet [] e.stw.icache k = [] ∨ ¬ (d.stw.icache.map (·.1)).Nodup) ∧
      e = { d with stw := { d.stw with icache := e.stw.icache }, free := e.free } := by
  have hput (m : Map (List Byte)) : (mapPut [] m a line).length ≤ m.length + 1 := by
    rw [mapPut, if_neg hline, length_mapInsert]
    exact Nat.succ_le_succ (length_mapErase_le m a)
  have hrest (k : Nat) (hk : k ≠ a) : mapFind (mapErase d.stw.icache a) k = mapFind d.stw.icache k := mapFind_erase_ne _ hk.symm
  by_cases hroom : (mapErase d.stw.icache a).length < 1024
  · have hic : (d.fillLine a line).stw.icache = mapPut [] (mapErase d.stw.icache a) a line := by rw [Dev.fillLine, if_pos hroom]
    refine ⟨by rw [hic]; exact mapGet_put_same _ _ _, fun _ => ?_, fun k hk => .inl ?_, d.fillLine_frame a line⟩
    · rw [hic]
      exact (hput _).trans hroom
    · rw [hic, mapGet_put_ne _ _ hk.symm, mapGet, hrest k hk, mapGet]
  · have hic : (d.fillLine a line).stw.icache =
        mapPut [] ((mapErase d.stw.icache a).eraseIdx (Config.fresh d.free 10).toNat) a line := by rw [Dev.fillLine, if_neg hroom]
    have hdrop : ((mapErase d.stw.icache a).eraseIdx (Config.fresh d.free 10).toNat).length = (mapErase d.stw.icache a).length - 1 :=
      List.length_eraseIdx_of_lt (lt_of_lt_of_le (Config.fresh d.free 10).isLt (Nat.not_lt.mp hroom))
    refine ⟨by rw [hic]; exact mapGet_put_same _ _ _, fun hfull => ?_, fun k hk => ?_, d.fillLine_frame a line⟩
    · have hle := (length_mapErase_le d.stw.icache a).trans hfull
      rw [hic]
      exact (hput _).trans (by omega)
    · by_cases hnodup : (d.stw.icache.map (·.1)).Nodup
      · have hkeys : ((mapErase d.stw.icache a).map Prod.fst).Nodup := by
          rw [mapErase_eq_filter]
          exact hnodup.sublist (List.filter_sublist.map _)
        rw [hic, mapGet_put_ne _ _ hk.symm]
        refine (mapFind_eraseIdx hkeys (Config.fresh d.free 10).toNat k).imp (fun h => ?_) fun h => .inl ?_
        · rw [mapGet, h, hrest k hk, mapGet]
        · rw [mapGet, h]
          rfl
      · exact .inr (.inr hnodup)

/-! ### Window reads (R429, R432, R434) -/

theorem Dev.windowRead_refused {d : Dev} {r : FlashRead} (hit gap : Bool)
    (h : d.get (if r.win = 0 then F.FLS_DMAP_SIZE else F.FLS_WMAP_SIZE) ≤ r.x ∨ (r.win = 1 ∧ r.fetch = true)) :
    d.windowRead r hit gap = d.emit .accessFault 0 [(if r.win = 0 then 0x20000000 else 0x30000000) + r.x] [] := if_pos h

/-- A read that the cache does not serve is served at once or waits. -/
theorem Dev.windowRead_flash {d : Dev} {r : FlashRead} {hit : Bool} (gap : Bool)
    (hin : r.x < d.get (if r.win = 0 then F.FLS_DMAP_SIZE else F.FLS_WMAP_SIZE)) (hfetch : r.fetch = true → r.win ≠ 1)
    (hmiss : r.fetch = true → hit = false ∨ mapGet [] d.stw.icache (r.x - r.x % 32) = []) :
    d.windowRead r hit gap = if d.flashIdle (d.windowSel r.win) then d.serveRead r
      else if d.maySuspend (d.windowSel r.win) gap then (d.modFls fun x => { x with reads := x.reads ++ [r] }).suspendErase (d.windowSel r.win)
      else d.modFls fun x => { x with reads := x.reads ++ [r] } := by
  have hno : ¬ (d.get (if r.win = 0 then F.FLS_DMAP_SIZE else F.FLS_WMAP_SIZE) ≤ r.x ∨ (r.win = 1 ∧ r.fetch = true)) := by
    rintro (h | ⟨h1, h2⟩)
    · omega
    · exact hfetch h2 h1
  have hcache : ¬ (r.fetch && hit && !(mapGet [] d.stw.icache (r.x - r.x % 32)).isEmpty) = true := by
    intro h
    simp only [Bool.and_eq_true, Bool.not_eq_true', List.isEmpty_eq_false_iff] at h
    obtain ⟨⟨h1, h2⟩, h3⟩ := h
    rcases hmiss h1 with h | h
    · rw [h2] at h
      cases h
    · exact h3 h
  exact (if_neg hno).trans (if_neg hcache)

theorem Dev.windowRead_cached {d : Dev} {r : FlashRead} (gap : Bool) (hwin : r.win = 0) (hin : r.x < d.get F.FLS_DMAP_SIZE) (hfetch : r.fetch = true)
    (hline : mapGet [] d.stw.icache (r.x - r.x % 32) ≠ []) :
    d.windowRead r true gap = d.emit .readData 0 [0x20000000 + r.x] (((mapGet [] d.stw.icache (r.x - r.x % 32)).drop (r.x % 32)).take r.n) := by
  have hno : ¬ (d.get (if r.win = 0 then F.FLS_DMAP_SIZE else F.FLS_WMAP_SIZE) ≤ r.x ∨ (r.win = 1 ∧ r.fetch = true)) := by
    rw [if_pos hwin]
    omega
  have hcache : (r.fetch && true && !(mapGet [] d.stw.icache (r.x - r.x % 32)).isEmpty) = true := by
    rw [hfetch]
    simpa using hline
  refine (if_neg hno).trans ((if_pos hcache).trans ?_)
  rw [if_pos hwin]

theorem Dev.maySuspend_job {d : Dev} {sel : Nat} {gap : Bool} (h : d.maySuspend sel gap = true) : ∃ j, d.flashJob sel = some j := by
  unfold Dev.maySuspend at h
  split at h
  · cases h
  · exact ⟨_, by assumption⟩

theorem Dev.windowRead_waits {d : Dev} {r : FlashRead} {hit : Bool} (gap : Bool)
    (hin : r.x < d.get (if r.win = 0 then F.FLS_DMAP_SIZE else F.FLS_WMAP_SIZE)) (hfetch : r.fetch = false)
    (hbusy : d.flashIdle (d.windowSel r.win) = false) : let e := d.windowRead r hit gap
    e.fls.reads = d.fls.reads ++ [r] ∧ e.out = if d.maySuspend (d.windowSel r.win) gap then ⟨.flash, d.windowSel r.win, [0x75, 0], []⟩ :: d.out else d.out := by
  have heq := d.windowRead_flash (r := r) (hit := hit) gap hin (by simp [hfetch]) (by simp [hfetch])
  rw [hbusy, if_neg Bool.false_ne_true] at heq
  simp only [heq]
  by_cases hs : d.maySuspend (d.windowSel r.win) gap = true
  · obtain ⟨j, hj⟩ := Dev.maySuspend_job hs
    obtain ⟨hout, -, hreads⟩ := Dev.suspendErase_is (d := d.modFls fun x => { x with reads := x.reads ++ [r] }) hj
    rw [if_pos hs, if_pos hs]
    exact ⟨hreads, hout⟩
  · rw [if_neg hs, if_neg hs]
    exact ⟨rfl, rfl⟩

theorem Dev.eraseResume_is {d : Dev} {sel : Nat} {j : FlashJob} (h : d.flashJob sel = some j) (hs : j.suspended = true) : let e := d.eraseResume sel
    e.flashJob sel = some { j with suspended := false } ∧ (∀ r ∈ e.fls.reads, d.windowSel r.win ≠ sel) ∧
      ∃ l, e.out = ⟨.flash, sel, [0x7A, 0], []⟩ :: l := by
  obtain ⟨x, hx⟩ : ∃ x, x = d.serveReads sel := ⟨_, rfl⟩
  obtain ⟨y, hy⟩ : ∃ y, y = (x.flashSend sel 0x7A 0 []).modFls fun z => { z with jobs := modFirstJob sel (fun j => { j with suspended := false }) z.jobs } :=
    ⟨_, rfl⟩
  have heq : d.eraseResume sel = y.showFls := by
    rw [Dev.eraseResume, h, hy, hx]
    simp only [Option.any_some, hs, Bool.not_true, Bool.false_eq_true, if_false]
  have hxfls : x.fls = { d.fls with reads := d.fls.reads.filter fun r => d.windowSel r.win != sel } := hx ▸ (d.serveReads_frame sel).2
  have hyfls : y.fls = { x.fls with jobs := modFirstJob sel (fun j => { j with suspended := false }) x.fls.jobs } := by rw [hy]; rfl
  obtain ⟨hfls, hout⟩ := y.showFls_is
  simp only [heq, Dev.flashJob, hfls, hout, hyfls, hxfls]
  refine ⟨find_modFirstJob (f := fun j => { j with suspended := false }) (fun _ => rfl) h, fun r hr => ?_, x.out, by rw [hy]; rfl⟩
  simpa using (List.mem_filter.mp hr).2

/-- Settles O49: window writes, jobs, the bytes that they leave, reads and the instruction cache, each by what it does. -/
theorem flashWindows : Obligations.FlashWindows := by
  unfold Obligations.FlashWindows
  refine fun s hup => ⟨fun win x n v => Ends.of_act hup ?_, fun h => Ends.of_act hup (Dev.endGather_none h),
    fun g b r h => Ends.of_act hup (Dev.endGather_some h), fun w hres => ⟨fun h => Ends.of_act hup ?_, fun g b r h => Ends.of_act hup ?_⟩,
    fun sel status gap => ⟨fun h => Ends.of_act hup (Dev.flashPoll_idle h status gap), fun j h =>
      ⟨fun hw => Ends.of_act hup (Dev.flashPoll_waits h hw status gap), fun hstarted hrun => Ends.of_act hup (Dev.flashPoll_is h hstarted hrun status gap),
        fun hnot => Ends.of_act hup ?_, fun hstarted => Ends.of_act hup (Dev.flsTimeout_is h hstarted)⟩, fun h => Ends.of_act hup ?_⟩,
    fun d sel j h => ⟨fun herase hl => ?_, fun herase => ?_⟩,
    fun win x n fetch hit gap => ⟨fun h => Ends.of_act hup (Dev.windowRead_refused hit gap h), fun hin hfetch =>
      ⟨fun hidle => Ends.of_act hup ?_, fun hbusy => Ends.of_act hup ?_⟩,
      fun hin hwin hfetch hhit hline => Ends.of_act hup ?_, fun hin hwin hfetch hmiss hidle => Ends.of_act hup ?_⟩,
    fun d a line hline => d.fillLine_is a hline,
    fun sel => ⟨fun h => Ends.of_act hup ?_, fun j h hs => Ends.of_act hup (Dev.eraseResume_is h hs)⟩⟩
  · have h := s.dev.windowWrite_is win.val x.toNat n.val v
    split_ifs at h ⊢ with hwin halign hsize hbank
    · exact h
    · exact h
    · exact h
    · exact h
    · rintro a sel rfl rfl
      rw [h]
      exact s.dev.gatherWord_is _ _ _
  · obtain ⟨x, heq, -, honly⟩ := Dev.writeFlsCtrl_eq hup hres (bitOf_withBit_same w (by decide))
    have hnone : x.fls.gather = none := (congrArg (fun y : Dev => y.fls.gather) honly.1 :).trans h
    rw [heq, Dev.endGather_none hnone]
    exact honly
  · obtain ⟨x, heq, hflush, honly⟩ := Dev.writeFlsCtrl_eq hup hres (bitOf_withBit_same w (by decide))
    have hsome : x.fls.gather = some (g, b, r) := (congrArg (fun y : Dev => y.fls.gather) honly.1 :).trans h
    obtain ⟨hnone, hjob⟩ := Dev.endGather_some hsome
    rw [heq]
    exact ⟨hnone, (x.endGather_get (by decide)).trans hflush, hjob⟩
  · rw [Dev.flsTimeout, h]
    exact if_pos (by rw [hnot]; rfl)
  · rw [Dev.flsTimeout, h]
  · have hflash := Dev.finishJob_flash h
    rw [herase, if_neg Bool.false_ne_true] at hflash
    obtain ⟨hprog, hother⟩ := d.flashProgram_is sel.val j.addr hl
    exact ⟨fun i b hb => (flashByte_of_flash hflash _ _).trans (hprog i b hb), fun q a hne => (flashByte_of_flash hflash _ _).trans (hother q a hne)⟩
  · have hflash := Dev.finishJob_flash h
    rw [herase, if_pos rfl] at hflash
    obtain ⟨hblank, hother⟩ := d.flashErase_is sel.val j.addr
    exact ⟨fun i hi => (flashByte_of_flash hflash _ _).trans (hblank i hi), fun q a hne => (flashByte_of_flash hflash _ _).trans (hother q a hne)⟩
  · have heq := s.dev.windowRead_flash (r := ⟨win.val, x.toNat, n.val, fetch⟩) (hit := hit) gap hin (by simp [hfetch]) (by simp [hfetch])
    rw [hidle, if_pos rfl] at heq
    refine ⟨fun hwin => heq.trans ?_, fun hwin => heq.trans ?_⟩
    · exact if_neg (by simp [hwin])
    · have hoff : x.toNat - (x.toNat - x.toNat % 8) = x.toNat % 8 := by omega
      refine (if_pos hwin).trans ?_
      simp only [hfetch, Bool.false_eq_true, if_false, hoff]
  · subst hfetch
    exact Dev.windowRead_waits (r := ⟨win.val, x.toNat, n.val, false⟩) (hit := hit) gap hin rfl hbusy
  · subst hhit
    exact Dev.windowRead_cached gap hwin hin hfetch hline
  · rintro a line rfl rfl
    have hin' : x.toNat < s.dev.get (if win.val = 0 then F.FLS_DMAP_SIZE else F.FLS_WMAP_SIZE) := by rwa [if_pos hwin]
    have heq := s.dev.windowRead_flash (r := ⟨win.val, x.toNat, n.val, fetch⟩) (hit := hit) gap hin' (fun _ => by simp [hwin]) fun _ => hmiss
    have hoff : x.toNat - (x.toNat - x.toNat % 32) = x.toNat % 32 := by omega
    have hidle' : s.dev.flashIdle (s.dev.windowSel win.val) = true := by rwa [hwin]
    rw [hidle', if_pos rfl] at heq
    refine heq.trans ((if_pos hwin).trans ?_)
    simp only [hfetch, if_true, hoff]
  · have hnone : ((s.dev.flashJob sel.val).any fun j => j.suspended) = false := by
      cases hj : s.dev.flashJob sel.val with
      | none => rfl
      | some j => exact h j hj
    exact if_pos (by rw [hnone]; rfl)

end Sys2Proof.Machine

/-!
SUPPORT. What pairing touches as it follows the peer.
-/
namespace Sys2Proof.Machine

open Sys2Proof

/-! ### What PAIRED and MISMATCH touch as they follow the peer (R407) -/

/-- The fields that pairing and its events set. -/
def pairFlds : List Fld :=
  [F.YOK_STAT_PAIRED, F.YOK_STAT_MSYNC, F.YOK_STAT_MISMATCH, F.YOK_MGEN_MGEN, F.YOK_CNT_LOSSES, F.YOK_MTXCMD_BUSY, F.YOK_MTXCMD_STATUS,
   F.YOK_INT_PAIRUP, F.YOK_INT_PAIRDOWN, F.YOK_INT_MISMATCH]

/-- A field that pairing and an event for T000 leave alone. -/
def YokFld (g : Fld) : Prop := QueFld 0 g ∧ ∀ f ∈ pairFlds, fldId f ≠ fldId g

/-- From `d` to `e` only what pairing follows has changed: its fields, the mirror's progress, and what an event for T000 queues. -/
def Dev.Pairs (d e : Dev) : Prop :=
  e = { d with fld := e.fld, lar := e.lar, strm := e.strm, yok := e.yok } ∧
    e.yok = { d.yok with next := e.yok.next, sent := e.yok.sent, unacked := e.yok.unacked, resends := e.yok.resends, recAt := e.yok.recAt } ∧
    d.lar.due <+: e.lar.due ∧ ∀ g, YokFld g → e.get g = d.get g

theorem Dev.Pairs.refl (d : Dev) : d.Pairs d := ⟨rfl, rfl, List.prefix_rfl, fun _ _ => rfl⟩

theorem Dev.Pairs.trans {d e x : Dev} (h : d.Pairs e) (k : e.Pairs x) : d.Pairs x := by
  obtain ⟨heq, hyok, hdue, hget⟩ := h
  obtain ⟨keq, kyok, kdue, kget⟩ := k
  refine ⟨?_, ?_, hdue.trans kdue, fun g hg => (kget g hg).trans (hget g hg)⟩
  · rw [keq, heq]
  · rw [kyok, hyok]

theorem Dev.pairs_set (d : Dev) {f : Fld} (hf : f ∈ pairFlds) (v : Nat) : d.Pairs (d.set f v) :=
  ⟨rfl, rfl, List.prefix_rfl, fun _ hg => Dev.get_set_ne _ _ (hg.2 f hf)⟩

theorem Dev.pairs_yokEvent (d : Dev) {bit : Nat} (hbit : bitFld 0x1100C bit ∈ pairFlds) (arg count : Nat) : d.Pairs (d.yokEvent bit arg count) := by
  have hheard := d.heard_raise (bitFld 0x1100C bit) (0x1200 + bit) [0] 0 arg count
  have hyok : (d.yokEvent bit arg count).yok = d.yok := (congrArg (fun y : Dev => y.yok) hheard.1 :)
  refine ⟨?_, ?_, Dev.raise_due .., fun g hg => Dev.raise_get_ne _ _ _ _ _ (hg.2 _ hbit) (by simpa using hg.1)⟩
  · rw [hyok]
    exact hheard.1
  · rw [hyok]

theorem Dev.pairs_oweFault (d : Dev) (u i : Nat) : d.Pairs (d.oweFault u i) := ⟨rfl, rfl, List.prefix_append _ _, fun _ _ => rfl⟩

theorem Dev.pairs_endMtx (d : Dev) (st : Status) : d.Pairs (d.endMtx st) := by
  unfold Dev.endMtx
  split_ifs
  · exact ((d.pairs_set (by decide) 0).trans (Dev.pairs_set _ (by decide) (statusCode st))).trans ⟨rfl, rfl, List.prefix_rfl, fun _ _ => rfl⟩
  · exact .refl d

theorem Dev.pairs_pairUp (d : Dev) : d.Pairs d.pairUp := by
  have hset : d.Pairs ((d.set F.YOK_STAT_PAIRED 1).set F.YOK_MGEN_MGEN 0) := (d.pairs_set (by decide) 1).trans (Dev.pairs_set _ (by decide) 0)
  unfold Dev.pairUp
  exact (hset.trans ⟨rfl, rfl, List.prefix_rfl, fun _ _ => rfl⟩).trans (Dev.pairs_yokEvent _ (by decide) 0 0)

/-- The mirror's progress ends with the pairing. -/
def Dev.mirrorEnds (d : Dev) : Dev := { d with yok := { d.yok with next := 257, unacked := [], resends := 0 } }

theorem Dev.pairDown_eq (d : Dev) : d.pairDown =
    (((((d.set F.YOK_STAT_PAIRED 0).set F.YOK_STAT_MSYNC 0).bump F.YOK_CNT_LOSSES).endMtx .eLink).mirrorEnds.yokEvent 2 0 0).oweFault 0x242 41 := rfl

theorem Dev.pairs_mirrorEnds (d : Dev) : d.Pairs d.mirrorEnds := ⟨rfl, rfl, List.prefix_rfl, fun _ _ => rfl⟩

theorem Dev.pairs_pairDown (d : Dev) : d.Pairs d.pairDown := by
  rw [Dev.pairDown_eq]
  have hset : d.Pairs (((d.set F.YOK_STAT_PAIRED 0).set F.YOK_STAT_MSYNC 0).bump F.YOK_CNT_LOSSES) :=
    ((d.pairs_set (by decide) 0).trans (Dev.pairs_set _ (by decide) 0)).trans (Dev.pairs_set _ (by decide) _)
  exact (((hset.trans (Dev.pairs_endMtx _ _)).trans (Dev.pairs_mirrorEnds _)).trans (Dev.pairs_yokEvent _ (by decide) 0 0)).trans
    (Dev.pairs_oweFault _ _ _)

/-- The peer that a twin sees does not agree with its own ALIAS and SIDE. -/
def Dev.misfit (d : Dev) : Bool :=
  match d.yokPeer with
  | none => false
  | some (a, s) => a != d.get F.YOK_CFG_ALIAS || s == d.get F.YOK_CFG_SIDE

/-- MISMATCH follows what is known of the peer. -/
def Dev.evalMismatch (d : Dev) : Dev :=
  if d.misfit == d.is F.YOK_STAT_MISMATCH then d
  else if d.misfit then ((d.set F.YOK_STAT_MISMATCH 1).yokEvent 4 0 0).oweFault 0x242 42 else d.set F.YOK_STAT_MISMATCH 0

theorem Dev.pairs_evalMismatch (d : Dev) : d.Pairs d.evalMismatch := by
  unfold Dev.evalMismatch
  split_ifs
  · exact .refl d
  · exact ((d.pairs_set (by decide) 1).trans (Dev.pairs_yokEvent _ (by decide) 0 0)).trans (Dev.pairs_oweFault _ _ _)
  · exact d.pairs_set (by decide) 0

theorem Dev.Pairs.yokRole {d e : Dev} (h : d.Pairs e) : e.yokRole = d.yokRole := h.2.2.2 _ ⟨queFld_of_ids (by decide), by decide⟩

theorem Dev.Pairs.peer {d e : Dev} (h : d.Pairs e) : e.yok.peer = d.yok.peer := (congrArg Yok.peer h.2.1 :)

theorem Dev.Pairs.yokPeer {d e : Dev} (h : d.Pairs e) : e.yokPeer = d.yokPeer := by
  have hstate : e.get (F.HAY_LANE0_STATE 5) = d.get (F.HAY_LANE0_STATE 5) := h.2.2.2 _ ⟨queFld_of_ids (by decide), by decide⟩
  unfold Dev.yokPeer
  rw [h.peer, h.yokRole, hstate]

theorem Dev.yokEval_eq (d : Dev) : d.yokEval =
    if (d.yokPeer.isSome && !d.misfit) == d.evalMismatch.is F.YOK_STAT_PAIRED then d.evalMismatch
    else if d.yokPeer.isSome && !d.misfit then d.evalMismatch.pairUp else d.evalMismatch.pairDown := by
  rw [← d.pairs_evalMismatch.yokPeer]
  rfl

theorem Dev.pairs_yokEval (d : Dev) : d.Pairs d.yokEval := by
  rw [Dev.yokEval_eq]
  split_ifs
  · exact d.pairs_evalMismatch
  · exact d.pairs_evalMismatch.trans (Dev.pairs_pairUp _)
  · exact d.pairs_evalMismatch.trans (Dev.pairs_pairDown _)

/-! ### A lane's enables (R358) -/

/-- From `d` to `e` a lane has been refreshed: pairing may have followed, and the lane's state and HOLDOVER. -/
def Dev.LaneFollows (n : Nat) (d e : Dev) : Prop :=
  e.yok = { d.yok with next := e.yok.next, sent := e.yok.sent, unacked := e.yok.unacked, resends := e.yok.resends, recAt := e.yok.recAt } ∧
    ∀ g, YokFld g → fldId (F.HAY_LANE0_STATE n) ≠ fldId g → fldId F.ALM_STAT_HOLDOVER ≠ fldId g → e.get g = d.get g

theorem Dev.laneLost_follows (d : Dev) (n : Nat) : Dev.LaneFollows n d (d.laneLost n) := by
  obtain ⟨x, hx⟩ : ∃ x, x = d.set (F.HAY_LANE0_STATE n) (if d.laneEnabled n then 2 else 0) := ⟨_, rfl⟩
  have hpairs : x.Pairs (if n = 5 then x.yokEval else x) := by
    split_ifs
    · exact x.pairs_yokEval
    · exact .refl x
  have heq : d.laneLost n = if d.laneUp n && d.get F.HAY_STAT_PARENT == n then (if n = 5 then x.yokEval else x).set F.ALM_STAT_HOLDOVER 1
      else if n = 5 then x.yokEval else x := by rw [hx]; rfl
  have hyok : x.yok = d.yok := by rw [hx]; rfl
  have hget (g : Fld) (h : fldId (F.HAY_LANE0_STATE n) ≠ fldId g) : x.get g = d.get g := by rw [hx]; exact Dev.get_set_ne _ _ h
  rw [heq]
  generalize (if n = 5 then x.yokEval else x) = y at *
  obtain ⟨-, kyok, -, kget⟩ := hpairs
  have hall : Dev.LaneFollows n d y := ⟨hyok ▸ kyok, fun g hg h1 _ => (kget g hg).trans (hget g h1)⟩
  split_ifs
  · exact ⟨hall.1, fun g hg h1 h2 => (Dev.get_set_ne _ _ h2).trans (hall.2 g hg h1 h2)⟩
  · exact hall

theorem Dev.laneRefresh_follows (d : Dev) (n : Nat) : Dev.LaneFollows n d (d.laneRefresh n) := by
  have hrefl : Dev.LaneFollows n d d := ⟨rfl, fun _ _ _ _ => rfl⟩
  unfold Dev.laneRefresh
  split_ifs
  · exact ⟨rfl, fun g _ h _ => Dev.get_set_ne _ _ h⟩
  · exact hrefl
  · exact hrefl
  · exact d.laneLost_follows n

/-! ### The roles and the line (R402, R403, R405) -/

theorem Dev.driveToken_is (d : Dev) : d.driveToken.get F.YOK_STAT_DRIVE = 1 ∧ d.driveToken.get F.YOK_STAT_TOKEN = 0 ∧
    d.Only d.driveToken [F.YOK_STAT_DRIVE, F.YOK_STAT_TOKEN] :=
  ⟨(Dev.get_set_ne _ _ (by decide)).trans (Dev.get_set_same _ _ _), Dev.get_set_same _ _ _, (d.only_set _ _).trans (Dev.only_set _ _ _)⟩

theorem Dev.freeToken_is (d : Dev) (high : Bool) : (d.freeToken high).get F.YOK_STAT_DRIVE = 0 ∧ (d.freeToken high).get F.YOK_STAT_TOKEN = bitNat high ∧
    d.Only (d.freeToken high) [F.YOK_STAT_DRIVE, F.YOK_STAT_TOKEN] := by
  refine ⟨(Dev.get_set_ne _ _ (by decide)).trans (Dev.get_set_same _ _ _), ?_, (d.only_set _ _).trans (Dev.only_setB _ _ _)⟩
  refine (Dev.get_set_same _ _ _).trans ?_
  cases high <;> rfl

theorem Dev.becomeWheel_eq (d : Dev) (fresh : Bool) : d.becomeWheel fresh =
    (({ d with yok := { d.yok with claimed := false, fresh := fresh, hand := false } } : Dev).set F.YOK_STAT_ROLE 3).chooseParent.yokEval := rfl

/-- An event of the yoke sets its bit. -/
theorem Dev.yokEvent_int (d : Dev) {bit : Nat} (hbit : bit < 32) (arg count : Nat) :
    (d.yokEvent bit arg count).get (bitFld 0x1100C bit) = 1 := by
  refine Dev.raise_get_int _ _ _ _ _ _ (plainFld_of_fldId ?_ ?_ ?_) t000_lt
  · simp only [fldId, bitFld]; omega
  · simp only [fldId, bitFld]; omega
  · simp only [List.mem_cons, List.not_mem_nil, or_false, forall_eq_or_imp, forall_eq, fldId, bitFld, F.LAR_LEAK_COUNT, F.ECC_INJ_COUNT, F.ECC_INJ_ARM]
    omega

end Sys2Proof.Machine

/-!
SUPPORT. Writes of YOK_CTRL.
-/
namespace Sys2Proof.Machine

open Sys2Proof

/-! ### Writes of YOK_CTRL (R402, R406, R407) -/

theorem yokCtrlChecks_first : ∀ unlocked alias_ lead hand : Bool,
    firstByRank [(unlocked, .eState), (alias_, .eRange), (lead, .eState), (hand, .eState)] =
      if alias_ then .eRange else if unlocked || lead || hand then .eState else .done := by decide

/-- The checks of a write of YOK_CTRL, in the order of R328. -/
theorem Dev.yokCtrl_first {d : Dev} {w : Word} (hres : setsReserved R.YOK_CTRL w = false) (unlocked alias_ lead hand : Bool) :
    firstByRank ((setsReserved R.YOK_CTRL w, .eField) :: (d.changesLocked .bar0 R.YOK_CTRL 0 w, .eLocked) ::
      [(unlocked, .eState), (alias_, .eRange), (lead, .eState), (hand, .eState)]) =
      if alias_ then .eRange else if unlocked || lead || hand then .eState else .done := by
  have hlock : d.changesLocked .bar0 R.YOK_CTRL 0 w = false := Bool.and_false _
  rw [hres, hlock]
  exact yokCtrlChecks_first _ _ _ _

/-- YOK_CTRL as a write leaves it, before a handover and before EN takes effect. -/
def Dev.yokCtrlWritten (d : Dev) (w : Word) : Dev :=
  let n1 := (d.writeRow .bar0 R.YOK_CTRL 0 w).set F.YOK_CTRL_HANDOVER 0
  if bitOf w.toNat 1 then (n1.set F.YOK_CNT_LOSSES 0).set F.YOK_CNT_RESENDS 0 else n1

theorem Dev.writeYokCtrl_eq (d : Dev) (w : Word) : d.writeYokCtrl w = d.regWrite .bar0 R.YOK_CTRL 0 w
    [(!d.is F.YOK_CTRL_EN && bitOf w.toNat 0 && !d.is F.YOK_CTRL_LOCK, .eState),
     (!d.is F.YOK_CTRL_EN && bitOf w.toNat 0 && d.get F.YOK_CFG_ALIAS == d.unitId, .eRange),
     (d.is F.YOK_CTRL_EN && !bitOf w.toNat 0 && d.yokRole == 2, .eState), (bitOf w.toNat 8 && !d.mayHandOver, .eState)] fun n =>
      let n2 := let n1 := n.set F.YOK_CTRL_HANDOVER 0
        if bitOf w.toNat 1 then (n1.set F.YOK_CNT_LOSSES 0).set F.YOK_CNT_RESENDS 0 else n1
      let n3 := if bitOf w.toNat 8 then n2.handOver else n2
      if d.is F.YOK_CTRL_EN = bitOf w.toNat 0 then n3 else n3.yokSwitch (bitOf w.toNat 0) := rfl

theorem Dev.writeYokCtrl_done {d : Dev} {w : Word} (hup : d.up = true) (hres : setsReserved R.YOK_CTRL w = false)
    (halias : (!d.is F.YOK_CTRL_EN && bitOf w.toNat 0 && d.get F.YOK_CFG_ALIAS == d.unitId) = false)
    (hstate : (!d.is F.YOK_CTRL_EN && bitOf w.toNat 0 && !d.is F.YOK_CTRL_LOCK || d.is F.YOK_CTRL_EN && !bitOf w.toNat 0 && d.yokRole == 2 ||
      bitOf w.toNat 8 && !d.mayHandOver) = false) :
    d.writeYokCtrl w = let n3 := if bitOf w.toNat 8 then (d.yokCtrlWritten w).handOver else d.yokCtrlWritten w
      if d.is F.YOK_CTRL_EN = bitOf w.toNat 0 then n3 else n3.yokSwitch (bitOf w.toNat 0) := by
  rw [Dev.writeYokCtrl_eq]
  refine (Dev.regWrite_done hup ?_).trans rfl
  rw [Dev.yokCtrl_first hres, halias, hstate]
  rfl

theorem Dev.only_writeYokCtrl (d : Dev) (w : Word) : d.Only (d.writeRow .bar0 R.YOK_CTRL 0 w) [F.YOK_CTRL_LOCK, F.YOK_CTRL_HANDOVER, F.YOK_CTRL_EN] :=
  d.only_writeRow .bar0 R.YOK_CTRL 0 w

theorem Dev.yokCtrlWritten_is (d : Dev) (w : Word) : let n := d.yokCtrlWritten w
    n.get F.YOK_CTRL_EN = bits w.toNat 0 1 ∧ n.get F.YOK_CTRL_HANDOVER = 0 ∧
      (bitOf w.toNat 1 = true → n.get F.YOK_CNT_LOSSES = 0 ∧ n.get F.YOK_CNT_RESENDS = 0) ∧
      d.Only n [F.YOK_CTRL_LOCK, F.YOK_CTRL_HANDOVER, F.YOK_CTRL_EN, F.YOK_CNT_LOSSES, F.YOK_CNT_RESENDS] := by
  have hen : (d.writeRow .bar0 R.YOK_CTRL 0 w).get F.YOK_CTRL_EN = bits w.toNat 0 1 :=
    d.writeRow_get (g := ⟨0, 1, .rw, fun _ => 0⟩) (by simp [R.YOK_CTRL]) (by simp [R.YOK_CTRL]) (.inl rfl)
  have honly := (d.only_writeYokCtrl w).trans (Dev.only_set _ F.YOK_CTRL_HANDOVER 0)
  have hzero : ((d.writeRow .bar0 R.YOK_CTRL 0 w).set F.YOK_CTRL_HANDOVER 0).get F.YOK_CTRL_HANDOVER = 0 := Dev.get_set_same _ _ _
  have hen' : ((d.writeRow .bar0 R.YOK_CTRL 0 w).set F.YOK_CTRL_HANDOVER 0).get F.YOK_CTRL_EN = bits w.toNat 0 1 :=
    (Dev.get_set_ne _ _ (by decide)).trans hen
  simp only [Dev.yokCtrlWritten]
  generalize (d.writeRow .bar0 R.YOK_CTRL 0 w).set F.YOK_CTRL_HANDOVER 0 = n at *
  by_cases hclr : bitOf w.toNat 1 = true
  · rw [if_pos hclr]
    refine ⟨?_, ?_, fun _ => ⟨?_, Dev.get_set_same _ _ _⟩, ?_⟩
    · rw [Dev.get_set_ne _ _ (by decide), Dev.get_set_ne _ _ (by decide), hen']
    · rw [Dev.get_set_ne _ _ (by decide), Dev.get_set_ne _ _ (by decide), hzero]
    · exact (Dev.get_set_ne _ _ (by decide)).trans (Dev.get_set_same _ _ _)
    · exact (honly.trans ((n.only_set _ _).trans (Dev.only_set _ _ _))).mono (by decide)
  · rw [if_neg hclr]
    exact ⟨hen', hzero, fun h => absurd h hclr, honly.mono (by decide)⟩

/-- A write that leaves EN as it is changes no field beyond LOCK, HANDOVER and the counts. -/
theorem Dev.yokCtrlWritten_sameEn (d : Dev) {w : Word} (hen : bits w.toNat 0 1 = d.get F.YOK_CTRL_EN) :
    d.Only (d.yokCtrlWritten w) [F.YOK_CTRL_LOCK, F.YOK_CTRL_HANDOVER, F.YOK_CNT_LOSSES, F.YOK_CNT_RESENDS] := by
  obtain ⟨x, hx⟩ : ∃ x, x = (d.set F.YOK_CTRL_LOCK (d.get F.YOK_CTRL_LOCK ||| bits w.toNat 31 1)).set F.YOK_CTRL_HANDOVER
    ((d.set F.YOK_CTRL_LOCK (d.get F.YOK_CTRL_LOCK ||| bits w.toNat 31 1)).get F.YOK_CTRL_HANDOVER ||| bits w.toNat 8 1) := ⟨_, rfl⟩
  have honly : d.Only x [F.YOK_CTRL_LOCK, F.YOK_CTRL_HANDOVER] := hx ▸ (d.only_set _ _).trans (Dev.only_set _ _ _)
  have hrow : d.writeRow .bar0 R.YOK_CTRL 0 w = x.set F.YOK_CTRL_EN (bits w.toNat 0 1) := by rw [hx]; rfl
  have hsame : x.set F.YOK_CTRL_EN (bits w.toNat 0 1) = x := by
    refine x.set_self ?_
    rw [honly.2 _ (by decide), ← hen]
    exact (Nat.mod_mod_of_dvd _ (dvd_refl 2)).symm
  have hset : d.Only (x.set F.YOK_CTRL_HANDOVER 0) [F.YOK_CTRL_LOCK, F.YOK_CTRL_HANDOVER] := (honly.trans (x.only_set _ _)).mono (by decide)
  simp only [Dev.yokCtrlWritten, hrow, hsame]
  generalize x.set F.YOK_CTRL_HANDOVER 0 = n at *
  split_ifs
  · exact (hset.trans ((n.only_set _ _).trans (Dev.only_set _ _ _))).mono (by decide)
  · exact hset.mono (by decide)

theorem is_eq_bit {d : Dev} {f : Fld} {n : Nat} {w : Word} (h : bits w.toNat n 1 = d.get f) : d.is f = bitOf w.toNat n := by
  rw [Dev.is, ← h]
  rfl

/-- The switch to EN 1: the twin claims where the line is high, and is a wheel where it is low. -/
theorem Dev.yokSwitch_on {d : Dev} {high : Bool} (hen : d.get F.YOK_CTRL_EN = 1) (htoken : d.get F.YOK_STAT_TOKEN = bitNat high) :
    ∃ x : Dev, d.yokSwitch true = x.chooseParent.yokEval ∧ x.get F.YOK_CTRL_EN = 1 ∧ x.get F.YOK_STAT_TOKEN = bitNat high ∧
      x.yokRole = (if high then 1 else 3) := by
  obtain ⟨-, hget⟩ := d.laneRefresh_follows 5
  have hen' : (d.laneRefresh 5).get F.YOK_CTRL_EN = 1 := (hget _ ⟨queFld_of_ids (by decide), by decide⟩ (by decide) (by decide)).trans hen
  have htoken' : (d.laneRefresh 5).get F.YOK_STAT_TOKEN = bitNat high :=
    (hget _ ⟨queFld_of_ids (by decide), by decide⟩ (by decide) (by decide)).trans htoken
  cases high with
  | true =>
    refine ⟨(d.laneRefresh 5).set F.YOK_STAT_ROLE 1, ?_, (Dev.get_set_ne _ _ (by decide)).trans hen', (Dev.get_set_ne _ _ (by decide)).trans htoken',
      Dev.get_set_same _ _ _⟩
    have his : d.is F.YOK_STAT_TOKEN = true := by rw [Dev.is, htoken]; rfl
    simp only [Dev.yokSwitch, his, if_true, Dev.setRole]
  | false =>
    refine ⟨({ d.laneRefresh 5 with yok := { (d.laneRefresh 5).yok with claimed := false, fresh := false, hand := false } } : Dev).set F.YOK_STAT_ROLE 3, ?_,
      (Dev.get_set_ne _ _ (by decide)).trans hen', (Dev.get_set_ne _ _ (by decide)).trans htoken', Dev.get_set_same _ _ _⟩
    have his : d.is F.YOK_STAT_TOKEN = false := by rw [Dev.is, htoken]; rfl
    simp only [Dev.yokSwitch, his, if_true, Bool.false_eq_true, if_false, Dev.becomeWheel_eq]

/-- The line is let go where it is driven. -/
def Dev.lineFreed (d : Dev) : Dev := if d.is F.YOK_STAT_DRIVE then d.freeToken true else d

theorem Dev.lineFreed_is (d : Dev) : d.lineFreed.is F.YOK_STAT_DRIVE = false ∧ d.Only d.lineFreed [F.YOK_STAT_DRIVE, F.YOK_STAT_TOKEN] := by
  unfold Dev.lineFreed
  split_ifs with h
  · obtain ⟨hdrive, -, honly⟩ := d.freeToken_is true
    exact ⟨by rw [Dev.is, hdrive]; rfl, honly⟩
  · exact ⟨Bool.eq_false_of_not_eq_true h, (Dev.Only.refl d []).mono (List.nil_subset _)⟩

/-- Nothing is claimed or known of the peer. -/
def Dev.forgetPeer (d : Dev) : Dev := { d with yok := { d.yok with claimed := false, peer := none, fresh := false, hand := false } }

theorem Dev.yokSwitch_false (d : Dev) : d.yokSwitch false = ((d.lineFreed.forgetPeer.laneRefresh 5).set F.YOK_STAT_ROLE 0).chooseParent.yokEval := by
  simp only [Dev.yokSwitch, Bool.false_eq_true, if_false, Dev.setRole, Dev.lineFreed, Dev.forgetPeer, Dev.modYok]

/-- The switch to EN 0: the line is let go, and nothing is known of the peer. -/
theorem Dev.yokSwitch_off {d : Dev} (hen : d.get F.YOK_CTRL_EN = 0) : ∃ x : Dev, d.yokSwitch false = x.chooseParent.yokEval ∧
    x.get F.YOK_CTRL_EN = 0 ∧ x.is F.YOK_STAT_DRIVE = false ∧ x.yokRole = 0 ∧ x.yok.claimed = false ∧ x.yok.peer = none := by
  obtain ⟨hdrive, honly⟩ := d.lineFreed_is
  have hen' : d.lineFreed.forgetPeer.get F.YOK_CTRL_EN = 0 := (honly.2 _ (by decide)).trans hen
  have hdrive' : d.lineFreed.forgetPeer.is F.YOK_STAT_DRIVE = false := hdrive
  have hclaim : d.lineFreed.forgetPeer.yok.claimed = false := rfl
  have hpeer : d.lineFreed.forgetPeer.yok.peer = none := rfl
  rw [Dev.yokSwitch_false]
  generalize d.lineFreed.forgetPeer = y at *
  obtain ⟨hyok, hget⟩ := y.laneRefresh_follows 5
  generalize y.laneRefresh 5 = x at *
  refine ⟨x.set F.YOK_STAT_ROLE 0, rfl, ?_, ?_, Dev.get_set_same _ _ _, ?_, ?_⟩
  · rw [Dev.get_set_ne _ _ (by decide), hget _ ⟨queFld_of_ids (by decide), by decide⟩ (by decide) (by decide), hen']
  · rw [Dev.is, Dev.get_set_ne _ _ (by decide), hget _ ⟨queFld_of_ids (by decide), by decide⟩ (by decide) (by decide)]
    exact hdrive'
  · exact (congrArg Yok.claimed hyok :).trans hclaim
  · exact (congrArg Yok.peer hyok :).trans hpeer

theorem bitOf_of_bits_one {w : Word} {n v : Nat} (h : bits w.toNat n 1 = v) : bitOf w.toNat n = (v == 1) := h ▸ rfl

theorem Dev.yokEnable_is {d : Dev} {w : Word} (hup : d.up = true) (hres : setsReserved R.YOK_CTRL w = false) (hhand : bits w.toNat 8 1 = 0) (high : Bool)
    (hoff : d.is F.YOK_CTRL_EN = false) (hon : bits w.toNat 0 1 = 1) : let x := d.setB F.YOK_STAT_TOKEN high
    let e := (if d.is F.YOK_CTRL_EN then d else x).writeYokCtrl w
    if d.get F.YOK_CFG_ALIAS = d.unitId then RecordedGlb x e 0x11000 .eRange
    else if d.is F.YOK_CTRL_LOCK = false then RecordedGlb x e 0x11000 .eState
    else ∃ x : Dev, e = x.chooseParent.yokEval ∧ x.get F.YOK_CTRL_EN = 1 ∧ x.get F.YOK_STAT_TOKEN = bitNat high ∧
      x.yokRole = (if high then 1 else 3) := by
  simp only [hoff, Bool.false_eq_true, if_false]
  have hxup : (d.setB F.YOK_STAT_TOKEN high).up = true := hup
  have honly := d.only_setB F.YOK_STAT_TOKEN high
  have halias : (d.setB F.YOK_STAT_TOKEN high).get F.YOK_CFG_ALIAS = d.get F.YOK_CFG_ALIAS := honly.2 _ (by decide)
  have hunit : (d.setB F.YOK_STAT_TOKEN high).unitId = d.unitId := honly.2 _ (by decide)
  have hen : (d.setB F.YOK_STAT_TOKEN high).is F.YOK_CTRL_EN = false := (congrArg (· == 1) (honly.2 _ (by decide))).trans hoff
  have hlock : (d.setB F.YOK_STAT_TOKEN high).is F.YOK_CTRL_LOCK = d.is F.YOK_CTRL_LOCK := congrArg (· == 1) (honly.2 _ (by decide))
  have htoken : (d.setB F.YOK_STAT_TOKEN high).get F.YOK_STAT_TOKEN = bitNat high := by
    refine (Dev.get_set_same _ _ _).trans ?_
    cases high <;> rfl
  generalize d.setB F.YOK_STAT_TOKEN high = x at *
  have hbit0 : bitOf w.toNat 0 = true := bitOf_of_bits_one hon
  have hbit8 : bitOf w.toNat 8 = false := bitOf_of_bits_one hhand
  rw [← halias, ← hunit, ← hlock]
  by_cases hsame : x.get F.YOK_CFG_ALIAS = x.unitId
  · rw [if_pos hsame, Dev.writeYokCtrl_eq]
    refine recordedGlb_of_rejected hxup (by decide) ?_
    rw [Dev.yokCtrl_first hres, hen, hbit0, beq_iff_eq.mpr hsame]
    rfl
  rw [if_neg hsame]
  by_cases hopen : x.is F.YOK_CTRL_LOCK = false
  · rw [if_pos hopen, Dev.writeYokCtrl_eq]
    refine recordedGlb_of_rejected hxup (by decide) ?_
    rw [Dev.yokCtrl_first hres, hen, hbit0, hopen, beq_false_of_ne hsame]
    rfl
  rw [if_neg hopen, Dev.writeYokCtrl_done hxup hres (by rw [beq_false_of_ne hsame, Bool.and_false])
    (by rw [hen, hbit8, Bool.eq_true_of_not_eq_false hopen, Bool.not_true, Bool.and_false]; rfl)]
  simp only [hbit8, hbit0, hen, Bool.false_eq_true, if_false]
  obtain ⟨hwen, -, -, hwonly⟩ := x.yokCtrlWritten_is w
  exact Dev.yokSwitch_on (hwen.trans hon) ((hwonly.2 _ (by decide)).trans htoken)

theorem Dev.yokDisable_is {d : Dev} {w : Word} (hup : d.up = true) (hres : setsReserved R.YOK_CTRL w = false) (hhand : bits w.toNat 8 1 = 0) (high : Bool)
    (hen : d.is F.YOK_CTRL_EN = true) (hoff : bits w.toNat 0 1 = 0) :
    let e := (if d.is F.YOK_CTRL_EN then d else d.setB F.YOK_STAT_TOKEN high).writeYokCtrl w
    if d.yokRole = 2 then RecordedGlb d e 0x11000 .eState
    else ∃ x : Dev, e = x.chooseParent.yokEval ∧ x.get F.YOK_CTRL_EN = 0 ∧ x.is F.YOK_STAT_DRIVE = false ∧ x.yokRole = 0 ∧
      x.yok.claimed = false ∧ x.yok.peer = none := by
  simp only [hen, if_true]
  have hbit0 : bitOf w.toNat 0 = false := bitOf_of_bits_one hoff
  have hbit8 : bitOf w.toNat 8 = false := bitOf_of_bits_one hhand
  by_cases hlead : d.yokRole = 2
  · rw [if_pos hlead, Dev.writeYokCtrl_eq]
    refine recordedGlb_of_rejected hup (by decide) ?_
    rw [Dev.yokCtrl_first hres, hen, hbit0, beq_iff_eq.mpr hlead]
    rfl
  rw [if_neg hlead, Dev.writeYokCtrl_done hup hres (by rw [hen]; rfl) (by rw [hen, hbit8, beq_false_of_ne hlead, Bool.and_false]; rfl)]
  simp only [hbit8, hbit0, hen, Bool.false_eq_true, if_false, Bool.true_eq_false]
  exact Dev.yokSwitch_off ((d.yokCtrlWritten_is w).1.trans hoff)

theorem Dev.yokCntclr_is {d : Dev} {w : Word} (hup : d.up = true) (hres : setsReserved R.YOK_CTRL (withBit w 1) = false) (hhand : bits w.toNat 8 1 = 0)
    (hen : bits w.toNat 0 1 = d.get F.YOK_CTRL_EN) : let e := d.writeYokCtrl (withBit w 1)
    e.get F.YOK_CNT_LOSSES = 0 ∧ e.get F.YOK_CNT_RESENDS = 0 ∧
      d.Only e [F.YOK_CTRL_LOCK, F.YOK_CTRL_HANDOVER, F.YOK_CNT_LOSSES, F.YOK_CNT_RESENDS] := by
  have hbit0 : bitOf (withBit w 1).toNat 0 = d.is F.YOK_CTRL_EN := (bitOf_withBit_ne w (by decide) (by decide)).trans (is_eq_bit hen).symm
  have hbit8 : bitOf (withBit w 1).toNat 8 = false := (bitOf_withBit_ne w (by decide) (by decide)).trans (bitOf_of_bits_one hhand)
  have hval : bits (withBit w 1).toNat 0 1 = bits w.toNat 0 1 := bits_withBit_ne w (by decide) (.inr (by decide))
  have heq : d.writeYokCtrl (withBit w 1) = d.yokCtrlWritten (withBit w 1) := by
    rw [Dev.writeYokCtrl_done hup hres (by rw [hbit0]; cases d.is F.YOK_CTRL_EN <;> rfl) (by rw [hbit0, hbit8]; cases d.is F.YOK_CTRL_EN <;> rfl)]
    simp only [hbit8, hbit0, Bool.false_eq_true, if_false, if_true]
  simp only [heq]
  obtain ⟨-, -, hclr, -⟩ := d.yokCtrlWritten_is (withBit w 1)
  obtain ⟨hloss, hresend⟩ := hclr (bitOf_withBit_same w (by decide))
  exact ⟨hloss, hresend, d.yokCtrlWritten_sameEn (hval ▸ hen)⟩

end Sys2Proof.Machine

/-!
SUPPORT. The token, beats and handover.
-/
namespace Sys2Proof.Machine

open Sys2Proof

/-! ### The line and the claim (R403, R405) -/

/-- An event of the yoke with its fault sets its bit. -/
theorem Dev.yokFault_int (d : Dev) {bit : Nat} (hbit : bit < 32) (u i : Nat) : ((d.yokEvent bit 0 0).oweFault u i).get (bitFld 0x1100C bit) = 1 :=
  d.yokEvent_int hbit 0 0

/-- A wheel as `becomeWheel` makes it, before its key and its pairing follow. -/
def Dev.wheeled (d : Dev) (fresh : Bool) : Dev :=
  ({ d with yok := { d.yok with claimed := false, fresh := fresh, hand := false } } : Dev).set F.YOK_STAT_ROLE 3

theorem Dev.wheeled_is (d : Dev) (fresh : Bool) : (d.wheeled fresh).yokRole = 3 ∧
    (d.wheeled fresh).yok = { d.yok with claimed := false, fresh := fresh, hand := false } ∧
    d.Only { d.wheeled fresh with yok := d.yok } [F.YOK_STAT_ROLE] :=
  ⟨Dev.get_set_same _ _ _, rfl, rfl, fun _ hg => Dev.get_set_ne _ _ (hg _ (List.mem_singleton_self _))⟩

theorem Dev.wheeled_get (d : Dev) (fresh : Bool) {g : Fld} (hg : fldId F.YOK_STAT_ROLE ≠ fldId g) : (d.wheeled fresh).get g = d.get g :=
  Dev.get_set_ne _ _ hg

theorem Dev.claim_is (d : Dev) : let e := d.claim
    if d.yok.claimed = true ∨ d.get F.SUP_STAT_STAGE = 4 ∨ ¬ (d.yokRole = 1 ∨ (d.yokRole = 3 ∧ (d.yok.fresh = false ∨ d.yok.hand = true))) then e = d
    else e.get F.YOK_STAT_DRIVE = 1 ∧ e.get F.YOK_STAT_TOKEN = 0 ∧ e.yok = { d.yok with claimed := true, asWheel := d.yokRole == 3 } ∧
      d.Only { e with yok := d.yok } [F.YOK_STAT_DRIVE, F.YOK_STAT_TOKEN] := by
  have hcond : (d.yok.claimed || d.get F.SUP_STAT_STAGE == 4 || !(d.yokRole == 1 || ((d.yokRole == 3) && (!d.yok.fresh || d.yok.hand)))) = true ↔
      (d.yok.claimed = true ∨ d.get F.SUP_STAT_STAGE = 4 ∨ ¬ (d.yokRole = 1 ∨ (d.yokRole = 3 ∧ (d.yok.fresh = false ∨ d.yok.hand = true)))) := by
    simp [or_assoc, imp_iff_not_or]
  unfold Dev.claim
  by_cases h : d.yok.claimed = true ∨ d.get F.SUP_STAT_STAGE = 4 ∨ ¬ (d.yokRole = 1 ∨ (d.yokRole = 3 ∧ (d.yok.fresh = false ∨ d.yok.hand = true)))
  · simp only [if_pos h, if_pos (hcond.mpr h)]
  · simp only [if_neg h, if_neg (mt hcond.mp h)]
    obtain ⟨hdrive, htoken, honly⟩ := d.driveToken_is
    have hyok : d.driveToken.yok = d.yok := rfl
    generalize d.driveToken = x at *
    refine ⟨hdrive, htoken, congrArg (fun y : Yok => { y with claimed := true, asWheel := d.yokRole == 3 }) hyok, ?_, honly.2⟩
    exact (congrArg (fun y : Dev => { y with yok := d.yok }) honly.1 :)

theorem Dev.yieldToken_is {d : Dev} (hclaim : d.yok.claimed = true) (hside : d.get F.YOK_CFG_SIDE = 1) : ∃ x : Dev,
    d.yieldToken = (x.chooseParent.yokEval.yokEvent 6 0 0).oweFault 0x242 44 ∧ d.yieldToken.get F.YOK_INT_YIELD = 1 ∧
    x.yokRole = 3 ∧ x.get F.YOK_STAT_DRIVE = 0 ∧ x.get F.YOK_STAT_TOKEN = 0 ∧ x.yok = { d.yok with claimed := false, fresh := false, hand := false } ∧
    d.Only { x with yok := d.yok } [F.YOK_STAT_ROLE, F.YOK_STAT_DRIVE, F.YOK_STAT_TOKEN] := by
  have heq : d.yieldToken = (((d.freeToken false).wheeled false).chooseParent.yokEval.yokEvent 6 0 0).oweFault 0x242 44 := by
    unfold Dev.yieldToken
    rw [if_neg (by simp [hclaim, hside])]
    rfl
  obtain ⟨hdrive, htoken, honly⟩ := d.freeToken_is false
  obtain ⟨hrole, hyok, hwheel⟩ := (d.freeToken false).wheeled_is false
  refine ⟨(d.freeToken false).wheeled false, heq, ?_, hrole, ?_, ?_, hyok, ?_⟩
  · rw [heq]
    exact Dev.yokFault_int _ (bit := 6) (by decide) _ _
  · rw [Dev.wheeled_get _ _ (by decide), hdrive]
  · rw [Dev.wheeled_get _ _ (by decide), htoken]
    rfl
  · exact (honly.trans hwheel).mono (by decide)

theorem Dev.claimConfirm_is {d : Dev} (hclaim : d.yok.claimed = true) : ∃ x : Dev,
    d.claimConfirm = (if d.yok.asWheel then x.takeover (d.is F.YOK_STAT_MSYNC) d.yok.gm else x.chooseParent).yokEval ∧
    x.yokRole = 2 ∧ x.get F.YOK_STAT_DRIVE = 1 ∧ x.get F.YOK_STAT_TOKEN = 0 ∧ x.yok = { d.yok with claimed := false } ∧
    d.Only { x with yok := d.yok } [F.YOK_STAT_ROLE, F.YOK_STAT_DRIVE, F.YOK_STAT_TOKEN] := by
  obtain ⟨x, hx⟩ : ∃ x, x = ({ d.driveToken.set F.YOK_STAT_ROLE 2 with yok := { d.yok with claimed := false } } : Dev) := ⟨_, rfl⟩
  have heq : d.claimConfirm = (if d.yok.asWheel then x.takeover (d.is F.YOK_STAT_MSYNC) d.yok.gm else x.chooseParent).yokEval := by
    rw [hx, Dev.claimConfirm, if_neg (by simp [hclaim]), apply_ite Dev.yokEval]
    rfl
  obtain ⟨hdrive, htoken, honly⟩ := d.driveToken_is
  have hset := honly.trans (d.driveToken.only_set F.YOK_STAT_ROLE 2)
  refine ⟨x, heq, ?_, ?_, ?_, by rw [hx], ?_⟩
  · rw [hx]
    exact Dev.get_set_same _ _ _
  · rw [hx]
    exact (Dev.get_set_ne _ _ (by decide)).trans hdrive
  · rw [hx]
    exact (Dev.get_set_ne _ _ (by decide)).trans htoken
  · rw [hx]
    exact hset.mono (by decide)

theorem Dev.takeover_int (d : Dev) (m g : Bool) : (d.takeover m g).get F.YOK_INT_TAKEOVER = 1 := Dev.yokEvent_int _ (bit := 0) (by decide) _ _

theorem Dev.beatStale_is (d : Dev) : let e := d.beatStale
    if d.yokRole = 2 ∧ d.is F.YOK_STAT_DRIVE = true then e.get F.YOK_STAT_DRIVE = 0 ∧ e.get F.YOK_STAT_TOKEN = 1 ∧
      d.Only e [F.YOK_STAT_DRIVE, F.YOK_STAT_TOKEN]
    else e = d := by
  have hcond : ((d.yokRole = 2 : Bool) && d.is F.YOK_STAT_DRIVE) = true ↔ (d.yokRole = 2 ∧ d.is F.YOK_STAT_DRIVE = true) := by simp
  unfold Dev.beatStale
  by_cases h : d.yokRole = 2 ∧ d.is F.YOK_STAT_DRIVE = true
  · simp only [if_pos h, if_pos (hcond.mpr h)]
    exact d.freeToken_is true
  · simp only [if_neg h, if_neg (mt hcond.mp h)]

theorem Dev.tokenFault_is {d : Dev} (hlead : d.yokRole = 2) (hdriven : d.is F.YOK_STAT_DRIVE = true) : ∃ x : Dev,
    d.tokenFault = (x.chooseParent.yokEval.yokEvent 5 0 0).oweFault 0x242 43 ∧ d.tokenFault.get F.YOK_INT_TOKENFAULT = 1 ∧ x.yokRole = 3 ∧
    x.get F.YOK_STAT_DRIVE = 0 ∧ x.get F.YOK_STAT_TOKEN = 1 ∧ x.yok = { d.yok with claimed := false, fresh := false, hand := false } := by
  have heq : d.tokenFault = (((d.freeToken true).wheeled false).chooseParent.yokEval.yokEvent 5 0 0).oweFault 0x242 43 := by
    unfold Dev.tokenFault
    rw [if_neg (by simp [hlead, hdriven])]
    rfl
  obtain ⟨hdrive, htoken, -⟩ := d.freeToken_is true
  obtain ⟨hrole, hyok, -⟩ := (d.freeToken true).wheeled_is false
  refine ⟨(d.freeToken true).wheeled false, heq, ?_, hrole, ?_, ?_, hyok⟩
  · rw [heq]
    exact Dev.yokFault_int _ (bit := 5) (by decide) _ _
  · rw [Dev.wheeled_get _ _ (by decide), hdrive]
  · rw [Dev.wheeled_get _ _ (by decide), htoken]
    rfl

/-! ### Beats (R403, R404) -/

theorem Dev.sendBale_up {d : Dev} {n : Nat} (hup : d.laneUp n = true) (hphy : d.phyHeld = false) (b : Bale) :
    d.sendBale n b = d.emit .bale n [b.type] (wireBale b.bytes) := if_pos (by rw [hup, hphy]; rfl)

theorem Dev.sendBeat_idle {d : Dev} (h : d.laneUp 5 = false ∨ d.phyHeld = true ∨ (d.yokRole ≠ 2 ∧ d.yokRole ≠ 3)) (hand : Bool) : d.sendBeat hand = d := by
  refine if_pos ?_
  rcases h with h | h | ⟨h2, h3⟩
  · rw [h]; rfl
  · rw [h, Bool.or_true]; rfl
  · rw [bne_iff_ne.mpr h2, bne_iff_ne.mpr h3, Bool.and_self, Bool.or_true]

/-- The payload of a beat (Table 14.2). -/
def Dev.beatPay (d : Dev) (lead hand gm : Bool) : List Byte :=
  beBytes 2 (d.get F.YOK_CFG_SIDE * 32768 + bitNat (lead && hand) * 16384 + bitNat gm * 8192 + d.get F.YOK_CFG_ALIAS) ++
    beBytes 4 (d.get F.YOK_MGEN_MGEN) ++ beBytes 4 (if gm then d.hay.gmSeq else 0) ++
      [BitVec.ofNat 8 (if lead then d.get F.ALM_CFG_PRIO else 0), 0, 0, 0, 0, 0]

/-- The bale of a beat (Table 14.1). -/
def Dev.beatBale (d : Dev) (hand : Bool) : Bale :=
  let lead := d.yokRole == 2
  { type := 5, src := d.unitId, h := beBytes 4 d.yok.hbseq ++ leBytes 1 (if lead then 1 else 2), data := d.beatPay lead hand (lead && d.is F.ALM_STAT_GM) }

theorem Dev.sendBeat_is {d : Dev} (hup : d.laneUp 5 = true) (hphy : d.phyHeld = false) (hrole : d.yokRole = 2 ∨ d.yokRole = 3) (hand : Bool) :
    let e := d.sendBeat hand
    e.get F.YOK_TXSEQ_HBSEQ = d.yok.hbseq % 2 ^ 32 ∧ e.yok = { d.yok with hbseq := (d.yok.hbseq + 1) % 2 ^ 32 } ∧
      e.out = ⟨.bale, 5, [5], wireBale (d.beatBale hand).bytes⟩ :: d.out ∧ d.Only { e with yok := d.yok, out := d.out } [F.YOK_TXSEQ_HBSEQ] := by
  have hcond : (!d.laneUp 5 || d.phyHeld || (d.yokRole != 2 && d.yokRole != 3)) = false := by
    rw [hup, hphy]
    rcases hrole with h | h <;> rw [h] <;> rfl
  simp only [Dev.sendBeat, hcond, Bool.false_eq_true, if_false, Dev.sendYoke, Dev.sendBale_up hup hphy]
  exact ⟨Dev.get_set_same _ _ _, rfl, rfl, rfl, fun _ hg => Dev.get_set_ne _ _ (hg _ (List.mem_singleton_self _))⟩

theorem Dev.beat_wheel {d : Dev} (hup : d.laneUp 5 = true) (hphy : d.phyHeld = false) (hrole : d.yokRole = 3) : let e := d.beat
    e.get F.YOK_TXSEQ_HBSEQ = d.yok.hbseq % 2 ^ 32 ∧ e.yok = { d.yok with hbseq := (d.yok.hbseq + 1) % 2 ^ 32 } ∧
      e.out = ⟨.bale, 5, [5], wireBale (d.beatBale false).bytes⟩ :: d.out ∧ d.Only { e with yok := d.yok, out := d.out } [F.YOK_TXSEQ_HBSEQ] := by
  have heq : d.beat = d.sendBeat false := by rw [Dev.beat, if_neg (by rw [hrole]; decide)]
  rw [heq]
  exact Dev.sendBeat_is hup hphy (.inr hrole) false

/-- What a wheel's beat carries. -/
theorem Dev.beatBale_wheel {d : Dev} (hrole : d.yokRole = 3) : d.beatBale false =
    { type := 5, src := d.unitId, h := beBytes 4 d.yok.hbseq ++ leBytes 1 2, data := beBytes 2 (d.get F.YOK_CFG_SIDE * 32768 + d.get F.YOK_CFG_ALIAS) ++ beBytes 4 (d.get F.YOK_MGEN_MGEN) ++ beBytes 4 0 ++ List.replicate 6 0 } := by
  simp [Dev.beatBale, Dev.beatPay, hrole, bitNat, List.replicate]

theorem Dev.beat_lead {d : Dev} (hup : d.laneUp 5 = true) (hphy : d.phyHeld = false) (hrole : d.yokRole = 2) : let e := d.beat
    e.get F.YOK_TXSEQ_HBSEQ = d.yok.hbseq % 2 ^ 32 ∧ e.get F.YOK_STAT_DRIVE = 1 ∧ e.get F.YOK_STAT_TOKEN = 0 ∧
      e.yok = { d.yok with hbseq := (d.yok.hbseq + 1) % 2 ^ 32 } ∧ (∃ l, e.out = ⟨.bale, 5, [5], l⟩ :: d.out) ∧
      d.Only { e with yok := d.yok, out := d.out } [F.YOK_TXSEQ_HBSEQ, F.YOK_STAT_DRIVE, F.YOK_STAT_TOKEN] := by
  have heq : d.beat = d.driveToken.sendBeat false := by rw [Dev.beat, if_pos hrole]
  obtain ⟨hdrive, htoken, honly⟩ := d.driveToken_is
  have hyok : d.driveToken.yok = d.yok := rfl
  have hout : d.driveToken.out = d.out := rfl
  have hup' : d.driveToken.laneUp 5 = true := (congrArg (· == 3) (honly.2 _ (by decide))).trans hup
  have hrole' : d.driveToken.yokRole = 2 := (honly.2 _ (by decide)).trans hrole
  have hphy' : d.driveToken.phyHeld = false := (honly.heard.keepsLow (by decide)).phyHeld.trans hphy
  obtain ⟨hseq, hbeat, hsent, hkept⟩ := Dev.sendBeat_is hup' hphy' (.inl hrole') false
  rw [heq]
  rw [hyok] at hseq hbeat hkept
  rw [hout] at hsent hkept
  refine ⟨hseq, (hkept.2 _ (by decide)).trans hdrive, (hkept.2 _ (by decide)).trans htoken, hbeat, ⟨_, hsent⟩, (honly.trans hkept).mono (by decide)⟩

theorem Dev.beat_idle {d : Dev} (h : d.laneUp 5 = false ∨ d.phyHeld = true) : d.beat = if d.yokRole = 2 then d.driveToken else d := by
  obtain ⟨-, -, honly⟩ := d.driveToken_is
  have hup : d.driveToken.laneUp 5 = d.laneUp 5 := congrArg (· == 3) (honly.2 _ (by decide))
  have hphy : d.driveToken.phyHeld = d.phyHeld := (honly.heard.keepsLow (by decide)).phyHeld
  rw [Dev.beat]
  refine Dev.sendBeat_idle ?_ false
  split_ifs
  · rw [hup, hphy]
    exact h.imp_right .inl
  · exact h.imp_right .inl

/-! ### A handover (R406, Table 14.4) -/

theorem Dev.handOver_eq (d : Dev) : d.handOver =
    (((((d.sendBeat true).endMtx .eFlushed).freeToken true).wheeled true).chooseParent.yokEval).yokEvent 7 0 0 := rfl

/-- What a handover leaves, before the key and the pairing follow. -/
theorem Dev.handOver_wheeled {d : Dev} {x : Dev} (hx : x = (((d.sendBeat true).endMtx .eFlushed).freeToken true).wheeled true)
    (hhand : d.get F.YOK_CTRL_HANDOVER = 0) : x.yokRole = 3 ∧ x.get F.YOK_STAT_DRIVE = 0 ∧ x.get F.YOK_STAT_TOKEN = 1 ∧
    x.is F.YOK_MTXCMD_BUSY = false ∧ x.get F.YOK_CTRL_HANDOVER = 0 ∧ x.yok.fresh = true ∧ x.yok.hand = false := by
  have hsent : (d.sendBeat true).get F.YOK_CTRL_HANDOVER = 0 := by
    by_cases h : d.laneUp 5 = false ∨ d.phyHeld = true ∨ (d.yokRole ≠ 2 ∧ d.yokRole ≠ 3)
    · rw [Dev.sendBeat_idle h, hhand]
    · simp only [not_or, not_and_or, not_not, Bool.not_eq_false, Bool.not_eq_true] at h
      obtain ⟨-, -, -, honly⟩ := Dev.sendBeat_is h.1 h.2.1 h.2.2 true
      exact (honly.2 F.YOK_CTRL_HANDOVER (by decide)).trans hhand
  have hbusy := ((d.sendBeat true).endMtx_is .eFlushed).1
  have hended : ((d.sendBeat true).endMtx .eFlushed).get F.YOK_CTRL_HANDOVER = 0 :=
    ((Dev.pairs_endMtx _ _).2.2.2 _ ⟨queFld_of_ids (by decide), by decide⟩).trans hsent
  generalize (d.sendBeat true).endMtx .eFlushed = y at *
  obtain ⟨hdrive, htoken, hfree⟩ := y.freeToken_is true
  obtain ⟨hrole, hyok, -⟩ := (y.freeToken true).wheeled_is true
  subst hx
  refine ⟨hrole, ?_, ?_, ?_, ?_, congrArg Yok.fresh hyok, congrArg Yok.hand hyok⟩
  · rw [Dev.wheeled_get _ _ (by decide), hdrive]
  · rw [Dev.wheeled_get _ _ (by decide), htoken]
    rfl
  · rw [Dev.is, Dev.wheeled_get _ _ (by decide), hfree.2 _ (by decide)]
    exact hbusy
  · rw [Dev.wheeled_get _ _ (by decide), hfree.2 _ (by decide), hended]

theorem Dev.mayHandOver_iff (d : Dev) : d.mayHandOver = true ↔ d.yokRole = 2 ∧ d.is F.YOK_STAT_PAIRED = true ∧ d.is F.YOK_STAT_MSYNC = true := by
  simp [Dev.mayHandOver, and_assoc]

theorem Dev.yokHandover_is {d : Dev} {w : Word} (hup : d.up = true) (hres : setsReserved R.YOK_CTRL (withBit w 8) = false)
    (hen : bits w.toNat 0 1 = d.get F.YOK_CTRL_EN) : let e := d.writeYokCtrl (withBit w 8)
    if d.yokRole = 2 ∧ d.is F.YOK_STAT_PAIRED = true ∧ d.is F.YOK_STAT_MSYNC = true then ∃ x : Dev,
      e = x.chooseParent.yokEval.yokEvent 7 0 0 ∧ e.get F.YOK_INT_HANDOVER = 1 ∧ x.yokRole = 3 ∧ x.get F.YOK_STAT_DRIVE = 0 ∧
      x.get F.YOK_STAT_TOKEN = 1 ∧ x.is F.YOK_MTXCMD_BUSY = false ∧ x.get F.YOK_CTRL_HANDOVER = 0 ∧ x.yok.fresh = true ∧ x.yok.hand = false
    else RecordedGlb d e 0x11000 .eState := by
  have hbit0 : bitOf (withBit w 8).toNat 0 = d.is F.YOK_CTRL_EN := (bitOf_withBit_ne w (by decide) (by decide)).trans (is_eq_bit hen).symm
  have hbit8 : bitOf (withBit w 8).toNat 8 = true := bitOf_withBit_same w (by decide)
  have hnew : (!d.is F.YOK_CTRL_EN && d.is F.YOK_CTRL_EN) = false := by cases d.is F.YOK_CTRL_EN <;> rfl
  have hold : (d.is F.YOK_CTRL_EN && !d.is F.YOK_CTRL_EN) = false := by cases d.is F.YOK_CTRL_EN <;> rfl
  by_cases hmay : d.mayHandOver = true
  · have heq : d.writeYokCtrl (withBit w 8) = (d.yokCtrlWritten (withBit w 8)).handOver := by
      rw [Dev.writeYokCtrl_done hup hres (by rw [hbit0, hnew]; rfl) (by rw [hbit0, hnew, hold, hbit8, hmay]; rfl)]
      simp only [hbit8, hbit0, if_true]
    simp only [if_pos (d.mayHandOver_iff.mp hmay), heq, Dev.handOver_eq]
    obtain ⟨-, hhand, -, -⟩ := d.yokCtrlWritten_is (withBit w 8)
    exact ⟨_, rfl, Dev.yokEvent_int _ (bit := 7) (by decide) _ _, Dev.handOver_wheeled rfl hhand⟩
  · simp only [if_neg (mt d.mayHandOver_iff.mpr hmay)]
    rw [Dev.writeYokCtrl_eq]
    refine recordedGlb_of_rejected hup (by decide) ?_
    rw [Dev.yokCtrl_first hres, hbit0, hnew, hold, hbit8, Bool.eq_false_of_not_eq_true hmay]
    rfl

/-- Settles O46: each command on the token by its branches. -/
theorem yokeToken : Obligations.YokeToken := by
  intro s hup
  refine ⟨fun w high hres hhand => ⟨fun hoff hon => Ends.of_act hup ?_, fun hen hoff => Ends.of_act hup ?_⟩, Ends.of_act hup ?_,
    fun h => Ends.of_act hup ?_, fun hclaim hside => Ends.of_act hup ?_, fun h => Ends.of_act hup ?_, fun hclaim => Ends.of_act hup ?_,
    fun d m g => d.takeover_int m g, fun h => Ends.of_act hup ?_, fun hlane hphy => ⟨fun hrole => Ends.of_act hup ?_, fun hrole => Ends.of_act hup ?_,
      fun h2 h3 => Ends.of_act hup ?_⟩, Ends.of_act hup ?_, fun h => Ends.of_act hup ?_, fun hlead hdriven => Ends.of_act hup ?_,
    fun w hres hen => Ends.of_act hup ?_, fun w hres hhand hen => Ends.of_act hup ?_⟩
  · exact Dev.yokEnable_is hup hres hhand high hoff hon
  · exact Dev.yokDisable_is hup hres hhand high hen hoff
  · exact s.dev.claim_is
  · unfold Dev.yieldToken
    rw [if_pos (by rcases h with h | h <;> simp [h])]
  · exact Dev.yieldToken_is hclaim hside
  · unfold Dev.claimConfirm
    rw [if_pos (by simp [h])]
  · exact Dev.claimConfirm_is hclaim
  · exact Dev.beat_idle h
  · obtain ⟨hseq, hyok, hout, honly⟩ := Dev.beat_wheel hlane hphy hrole
    exact ⟨hseq, hyok, hout.trans (by rw [Dev.beatBale_wheel hrole]), honly⟩
  · exact Dev.beat_lead hlane hphy hrole
  · rw [Dev.beat, if_neg h2]
    exact Dev.sendBeat_idle (.inr (.inr ⟨h2, h3⟩)) false
  · exact s.dev.beatStale_is
  · unfold Dev.tokenFault
    rw [if_pos (by simpa using h)]
  · exact Dev.tokenFault_is hlead hdriven
  · exact Dev.yokHandover_is hup hres hen
  · exact Dev.yokCntclr_is hup hres hhand hen

end Sys2Proof.Machine

/-!
SUPPORT. What a write of steward SRAM leaves of the mirror; the wheel's side.
-/
namespace Sys2Proof.Machine

open Sys2Proof

/-! ### What a write of steward SRAM leaves of the mirror (R409) -/

/-- From `d` to `e` the yoke's own state and the generation mirrored have not changed. -/
def Dev.MirrorKept (d e : Dev) : Prop := e.yok = d.yok ∧ e.get F.YOK_MGEN_MGEN = d.get F.YOK_MGEN_MGEN

theorem Dev.MirrorKept.refl (d : Dev) : d.MirrorKept d := ⟨rfl, rfl⟩

theorem Dev.MirrorKept.trans {d e x : Dev} (h : d.MirrorKept e) (k : e.MirrorKept x) : d.MirrorKept x := ⟨k.1.trans h.1, k.2.trans h.2⟩

theorem Dev.mirrorKept_set (d : Dev) {f : Fld} (v : Nat) (hf : fldId f ≠ fldId F.YOK_MGEN_MGEN) : d.MirrorKept (d.set f v) :=
  ⟨rfl, Dev.get_set_ne _ _ hf⟩

theorem Dev.mirrorKept_bump (d : Dev) {f : Fld} (hf : fldId f ≠ fldId F.YOK_MGEN_MGEN) : d.MirrorKept (d.bump f) := d.mirrorKept_set _ hf

theorem Dev.Only.mirrorKept {d e : Dev} {fs : List Fld} (h : d.Only e fs) (hf : ∀ f ∈ fs, fldId f ≠ fldId F.YOK_MGEN_MGEN) : d.MirrorKept e :=
  ⟨by rw [h.1], h.2 _ hf⟩

theorem Dev.mirrorKept_raise (d : Dev) {int : Fld} (code : Nat) (inst arg count : Nat) (hint : fldId int ≠ fldId F.YOK_MGEN_MGEN) :
    d.MirrorKept (d.raise int code [0] inst arg count) := by
  refine ⟨?_, Dev.raise_get_ne _ _ _ _ _ hint (by simpa using queFld_of_ids (q := 0) (by decide))⟩
  rw [(d.heard_raise int code [0] inst arg count).1]

theorem Dev.mirrorKept_ecc (d : Dev) (x : Ecc) : d.MirrorKept { d with ecc := x } := ⟨rfl, rfl⟩

theorem Dev.mirrorKept_oweFault (d : Dev) (u i : Nat) : d.MirrorKept (d.oweFault u i) := ⟨rfl, rfl⟩

theorem Dev.mirrorKept_glean (d : Dev) (m w syn req : Nat) : d.MirrorKept (d.glean m w syn req) := by
  unfold Dev.glean
  split
  · exact d.mirrorKept_set _ (by simp only [fldId, F.ECC_GLW1_HITS, F.YOK_MGEN_MGEN]; omega)
  · split
    · rename_i e _
      have hentry : ∀ f ∈ [F.ECC_GLW0_VALID e, F.ECC_GLW0_MEM e, F.ECC_GLW0_ADDR e, F.ECC_GLW0_BIT e, F.ECC_GLW1_HITS e, F.ECC_GLW1_SYN e,
          F.ECC_GLW1_REQ e, F.ECC_GLW2_SECONDS e], fldId f ≠ fldId F.YOK_MGEN_MGEN := by
        simp only [List.forall_mem_cons, fldId, F.ECC_GLW0_VALID, F.ECC_GLW0_MEM, F.ECC_GLW0_ADDR, F.ECC_GLW0_BIT, F.ECC_GLW1_HITS,
          F.ECC_GLW1_SYN, F.ECC_GLW1_REQ, F.ECC_GLW2_SECONDS, F.YOK_MGEN_MGEN]
        refine ⟨?_, ?_, ?_, ?_, ?_, ?_, ?_, ?_, by simp⟩ <;> omega
      have hlogged := d.only_setAll [(F.ECC_GLW0_VALID e, 1), (F.ECC_GLW0_MEM e, m), (F.ECC_GLW0_ADDR e, w), (F.ECC_GLW0_BIT e, 64 + synBit syn),
        (F.ECC_GLW1_HITS e, 1), (F.ECC_GLW1_SYN e, syn), (F.ECC_GLW1_REQ e, req), (F.ECC_GLW2_SECONDS e, d.get F.SUP_SECONDS_COUNT)]
      exact ((hlogged.mirrorKept hentry).trans (Dev.mirrorKept_set _ _ (by decide))).trans (Dev.mirrorKept_raise _ _ _ _ _ (by decide))
    · simp only
      split_ifs
      · exact .refl d
      · exact ((d.mirrorKept_set _ (by decide)).trans (Dev.mirrorKept_set _ _ (by decide))).trans (Dev.mirrorKept_raise _ _ _ _ _ (by decide))
      · exact (d.mirrorKept_set _ (by decide)).trans (Dev.mirrorKept_raise _ _ _ _ _ (by decide))
      · exact (d.mirrorKept_set _ (by decide)).trans (Dev.mirrorKept_set _ _ (by decide))
      · exact d.mirrorKept_set _ (by decide)

theorem Dev.mirrorKept_memClass (d : Dev) (w syn req : Nat) : d.MirrorKept (d.memClass 1 w syn req) := by
  have hcount : fldId (if eccClass syn = 2 then F.ECC_UECNT_WIPE else F.ECC_UECNT_UE) ≠ fldId F.YOK_MGEN_MGEN := by split_ifs <;> decide
  unfold Dev.memClass
  split
  · exact .refl d
  · exact d.mirrorKept_glean 1 w syn req
  · simp only [if_neg (by decide : ¬ (1 = 3))]
    have hrec := (d.only_ueRecord (if eccClass syn = 2 then 1 else 0) 1 req (8 * w)).mirrorKept (by decide)
    generalize d.ueRecord (if eccClass syn = 2 then 1 else 0) 1 req (8 * w) = x at *
    have hbump := x.mirrorKept_bump hcount
    generalize x.bump (if eccClass syn = 2 then F.ECC_UECNT_WIPE else F.ECC_UECNT_UE) = y at *
    have howe := y.mirrorKept_oweFault 0x244 50
    generalize y.oweFault 0x244 50 = z at *
    exact ((hrec.trans hbump).trans howe).trans (z.mirrorKept_raise 0x1504 0 (if eccClass syn = 2 then 1 else 0) 0 (by decide : fldId F.ECC_INT_UE ≠ _))

theorem Dev.mirrorKept_memPut (d : Dev) (m w v : Nat) : d.MirrorKept (d.memPut m w v) := by
  have hinj (k : Nat) : d.MirrorKept (d.injUse k) := by
    unfold Dev.injUse
    simp only
    split_ifs
    · exact .refl d
    · exact (d.mirrorKept_set _ (by decide)).trans (Dev.mirrorKept_set _ _ (by decide))
    · exact d.mirrorKept_set _ (by decide)
  exact (hinj _).trans (Dev.mirrorKept_ecc _ _)

theorem Dev.mirrorKept_memRmw (d : Dev) (w b n v : Nat) : d.MirrorKept (d.memRmw 1 w b n v) := by
  unfold Dev.memRmw
  simp only
  split
  · exact d.mirrorKept_ecc _
  · exact (d.mirrorKept_memClass _ _ _).trans (Dev.mirrorKept_ecc _ _)
  · exact (d.mirrorKept_memClass _ _ _).trans (Dev.mirrorKept_memPut _ _ _ _)

theorem Dev.mirrorKept_yieldHeld (d : Dev) (w : Nat) : d.MirrorKept (d.yieldHeld 1 w) := by
  unfold Dev.yieldHeld
  split
  · exact .refl d
  · split_ifs
    · unfold Dev.performHeld
      split
      · exact .refl d
      · exact (d.mirrorKept_ecc _).trans (Dev.mirrorKept_memRmw _ _ _ _ _)
    · exact .refl d

theorem Dev.mirrorKept_memWriteWords (d : Dev) (w : Nat) (l : List Nat) : d.MirrorKept (d.memWriteWords 1 w l) := by
  induction l generalizing d w with
  | nil => exact .refl d
  | cons v l ih => exact ((d.mirrorKept_yieldHeld w).trans (Dev.mirrorKept_memPut _ 1 w v)).trans (ih _ _)

/-! ### The wheel's side of the mirror (R409, R410) -/

theorem leNat_lt (l : List Byte) : leNat l < 256 ^ l.length := by
  induction l with
  | nil => exact Nat.one_pos
  | cons b l ih =>
    have hb : b.toNat < 256 := b.isLt
    rw [leNat, List.length_cons, pow_succ]
    omega

theorem beNat_take_lt (l : List Byte) (i n : Nat) : beNat ((l.drop i).take n) < 256 ^ n := by
  refine lt_of_lt_of_le (leNat_lt _) (Nat.pow_le_pow_right (by decide) ?_)
  rw [List.length_reverse, List.length_take]
  exact Nat.min_le_left _ _

theorem Bale.pay_lt (b : Bale) (i n : Nat) : b.pay i n < 256 ^ n := beNat_take_lt _ _ _

theorem Bale.hd_lt (b : Bale) (i n : Nat) : b.hd i n < 256 ^ n := beNat_take_lt _ _ _

/-- A MIRROR bale is taken only by a paired wheel, and only next in order. -/
def Dev.mirrorTakes (d : Dev) (b : Bale) : Prop :=
  ¬ (d.yokRole ≠ 3 ∨ d.is F.YOK_STAT_PAIRED = false ∨ b.pay 0 4 ≠ nextGen (d.get F.YOK_MGEN_MGEN))

theorem Dev.rxMirror_dropped {d : Dev} {b : Bale} (h : ¬ d.mirrorTakes b) : d.rxMirror b = d := by
  refine if_pos ?_
  simpa [Dev.mirrorTakes, imp_iff_not_or] using h

theorem Dev.rxMirror_taken {d : Dev} {b : Bale} (h : d.mirrorTakes b) : d.rxMirror b =
    match b.pay 4 1 with
    | 1 => if (b.data.drop 8).length = 32 then (d.set F.YOK_MGEN_MGEN (b.pay 0 4)).applyEntry (b.pay 5 1) (b.data.drop 8) else d
    | 2 => if d.is F.YOK_MRXSTAT_VALID || (b.data.drop 8).isEmpty || decide (1024 < b.pay 6 2 % 32768 + (b.data.drop 8).length) then d
        else (d.set F.YOK_MGEN_MGEN (b.pay 0 4)).applyRecord (b.pay 6 2) (b.data.drop 8)
    | 3 => (d.set F.YOK_MGEN_MGEN (b.pay 0 4)).set F.YOK_STAT_MSYNC 1
    | _ => d :=
  if_neg (by simpa [Dev.mirrorTakes] using h)

theorem Dev.mgen_shown (d : Dev) (b : Bale) : (d.set F.YOK_MGEN_MGEN (b.pay 0 4)).get F.YOK_MGEN_MGEN = b.pay 0 4 :=
  (Dev.get_set_same _ _ _).trans (Nat.mod_eq_of_lt (b.pay_lt 0 4))

theorem Dev.applyEntry_is (d : Dev) (i : Nat) (data : List Byte) : (d.applyEntry i data).get F.YOK_MGEN_MGEN = d.get F.YOK_MGEN_MGEN ∧
    (i ∈ (d.applyEntry i data).yok.live ↔ bits (beNat (data.take 4)) 29 3 ≠ 0) := by
  obtain ⟨l, hl⟩ : ∃ l, l = (List.range 8).map fun k => beNat ((data.drop (4 * k)).take 4) := ⟨_, rfl⟩
  have hhead : l.headD 0 = beNat (data.take 4) := by rw [hl]; rfl
  obtain ⟨x, hx⟩ : ∃ x, x = d.memWriteWords 1 ((d.get F.YOK_MCFG_SBASE * 8192 + 32 * i) / 8)
    ((List.range 4).map fun k => l.getD (2 * k) 0 + 2 ^ 32 * l.getD (2 * k + 1) 0) := ⟨_, rfl⟩
  have hkept : d.MirrorKept x := hx ▸ d.mirrorKept_memWriteWords _ _
  have heq : d.applyEntry i data = x.modYok fun y =>
      { y with live := if bits (l.headD 0) 29 3 = 0 then y.live.filter (· != i) else i :: y.live.filter (· != i) } := by rw [hx, hl]; rfl
  have hlive : (d.applyEntry i data).yok.live =
      if bits (l.headD 0) 29 3 = 0 then x.yok.live.filter (· != i) else i :: x.yok.live.filter (· != i) := by rw [heq]; rfl
  refine ⟨by rw [heq]; exact hkept.2, ?_⟩
  rw [hlive, hhead]
  split_ifs with h <;> simp [h]

theorem Dev.applyRecord_is (d : Dev) {place : Nat} {data : List Byte} (hlast : 32768 ≤ place) (hfit : place % 32768 + data.length ≤ 1024) :
    let e := d.applyRecord place data
    e.get F.YOK_MGEN_MGEN = d.get F.YOK_MGEN_MGEN ∧ e.get F.YOK_MRXSTAT_VALID = 1 ∧ e.get F.YOK_INT_MIRRORRX = 1 ∧
      e.get F.YOK_MRXSTAT_LEN = place % 32768 + data.length := by
  have heq : d.applyRecord place data = (((d.putBytes F.YOK_MRXBUF_DATA (place % 32768) data).set F.YOK_MRXSTAT_VALID 1).set F.YOK_MRXSTAT_LEN
      (place % 32768 + data.length)).yokEvent 3 0 0 := if_pos hlast
  have hput := d.only_putBytes F.YOK_MRXBUF_DATA data (place % 32768)
  have hmgen : (d.putBytes F.YOK_MRXBUF_DATA (place % 32768) data).get F.YOK_MGEN_MGEN = d.get F.YOK_MGEN_MGEN := by
    refine hput.2 _ fun f hf => ?_
    obtain ⟨k, -, rfl⟩ := List.mem_map.mp hf
    simp only [fldId, F.YOK_MRXBUF_DATA, F.YOK_MGEN_MGEN]
    omega
  simp only [heq]
  generalize d.putBytes F.YOK_MRXBUF_DATA (place % 32768) data = x at *
  have hraise {g : Fld} (hq : QueFld 0 g) (hne : fldId (bitFld 0x1100C 3) ≠ fldId g) (y : Dev) : (y.yokEvent 3 0 0).get g = y.get g :=
    Dev.raise_get_ne _ _ _ _ _ hne (by simpa using hq)
  refine ⟨?_, ?_, Dev.yokEvent_int _ (by decide) 0 0, ?_⟩
  · rw [hraise (queFld_of_ids (by decide)) (by decide), Dev.get_set_ne _ _ (by decide), Dev.get_set_ne _ _ (by decide), hmgen]
  · rw [hraise (queFld_of_ids (by decide)) (by decide), Dev.get_set_ne _ _ (by decide), Dev.get_set_same]
    rfl
  · rw [hraise (queFld_of_ids (by decide)) (by decide), Dev.get_set_same]
    exact Nat.mod_eq_of_lt (lt_of_le_of_lt hfit (by decide))

theorem Dev.rxMirror_is (d : Dev) (b : Bale) : let e := d.rxMirror b
    if d.yokRole ≠ 3 ∨ d.is F.YOK_STAT_PAIRED = false ∨ b.pay 0 4 ≠ nextGen (d.get F.YOK_MGEN_MGEN) then e = d
    else
      (b.pay 4 1 = 1 → b.data.length = 40 → e.get F.YOK_MGEN_MGEN = b.pay 0 4 ∧
        (b.pay 5 1 ∈ e.yok.live ↔ bits (b.pay 8 4) 29 3 ≠ 0)) ∧
      (b.pay 4 1 = 2 → d.is F.YOK_MRXSTAT_VALID = false → 8 < b.data.length → b.pay 6 2 % 32768 + (b.data.length - 8) ≤ 1024 →
        32768 ≤ b.pay 6 2 → e.get F.YOK_MGEN_MGEN = b.pay 0 4 ∧ e.get F.YOK_MRXSTAT_VALID = 1 ∧ e.get F.YOK_INT_MIRRORRX = 1 ∧
          e.get F.YOK_MRXSTAT_LEN = b.pay 6 2 % 32768 + (b.data.length - 8)) ∧
      (b.pay 4 1 = 2 → d.is F.YOK_MRXSTAT_VALID = true → e = d) ∧
      (b.pay 4 1 = 3 → e.get F.YOK_MGEN_MGEN = b.pay 0 4 ∧ e.get F.YOK_STAT_MSYNC = 1 ∧ d.Only e [F.YOK_MGEN_MGEN, F.YOK_STAT_MSYNC]) ∧
      (3 < b.pay 4 1 ∨ b.pay 4 1 = 0 → e = d) := by
  by_cases h : d.mirrorTakes b
  · simp only [if_neg h]
    rw [Dev.rxMirror_taken h]
    refine ⟨fun hkind hlen => ?_, fun hkind hvalid hlen hfit hlast => ?_, fun hkind hvalid => ?_, fun hkind => ?_, fun hkind => ?_⟩
    · have hdata : (b.data.drop 8).length = 32 := by rw [List.length_drop, hlen]
      simp only [hkind, if_pos hdata]
      obtain ⟨hmgen, hlive⟩ := (d.set F.YOK_MGEN_MGEN (b.pay 0 4)).applyEntry_is (b.pay 5 1) (b.data.drop 8)
      exact ⟨hmgen.trans (d.mgen_shown b), hlive⟩
    · have hdata : (b.data.drop 8).length = b.data.length - 8 := List.length_drop
      have hfree : (d.is F.YOK_MRXSTAT_VALID || (b.data.drop 8).isEmpty || decide (1024 < b.pay 6 2 % 32768 + (b.data.drop 8).length)) = false := by
        have hne : b.data.drop 8 ≠ [] := fun h0 => by rw [h0] at hdata; simp at hdata; omega
        rw [hvalid, hdata, decide_eq_false (by omega), List.isEmpty_eq_false_iff.mpr hne]
        rfl
      simp only [hkind, hfree, Bool.false_eq_true, if_false]
      obtain ⟨hmgen, hval, hint, hl⟩ := (d.set F.YOK_MGEN_MGEN (b.pay 0 4)).applyRecord_is (data := b.data.drop 8) hlast (by omega)
      exact ⟨hmgen.trans (d.mgen_shown b), hval, hint, hl.trans (by rw [hdata])⟩
    · simp only [hkind, hvalid, Bool.true_or, if_true]
    · simp only [hkind]
      exact ⟨(Dev.get_set_ne _ _ (by decide)).trans (d.mgen_shown b), Dev.get_set_same _ _ _, (d.only_set _ _).trans (Dev.only_set _ _ _)⟩
    · split
      · omega
      · omega
      · omega
      · rfl
  · simp only [if_pos (not_not.mp h)]
    exact Dev.rxMirror_dropped h

end Sys2Proof.Machine

/-!
SUPPORT. Pairing, and beats received.
-/
namespace Sys2Proof.Machine

open Sys2Proof

/-! ### Pairing (R407, R408, R410, R420, R422) -/

theorem Dev.yokEvent_get (d : Dev) {bit : Nat} {g : Fld} (hg : QueFld 0 g) (hne : fldId (bitFld 0x1100C bit) ≠ fldId g) (arg count : Nat) :
    (d.yokEvent bit arg count).get g = d.get g := Dev.raise_get_ne _ _ _ _ _ hne (by simpa using hg)

theorem Dev.endMtx_get (d : Dev) (st : Status) {g : Fld} (hbusy : fldId F.YOK_MTXCMD_BUSY ≠ fldId g) (hst : fldId F.YOK_MTXCMD_STATUS ≠ fldId g) :
    (d.endMtx st).get g = d.get g := by
  unfold Dev.endMtx
  split_ifs
  · exact (Dev.get_set_ne _ _ hst).trans (Dev.get_set_ne _ _ hbusy)
  · rfl

/-- What stands where PAIRED has fallen. -/
theorem Dev.pairDown_is (d : Dev) : let e := d.pairDown
    e.get F.YOK_STAT_PAIRED = 0 ∧ e.get F.YOK_STAT_MSYNC = 0 ∧ e.get F.YOK_STAT_MISMATCH = d.get F.YOK_STAT_MISMATCH ∧
      e.get F.YOK_INT_MISMATCH = d.get F.YOK_INT_MISMATCH ∧ e.get F.YOK_INT_PAIRDOWN = 1 ∧
      e.get F.YOK_CNT_LOSSES = satInc 0xFFFF (d.get F.YOK_CNT_LOSSES) % 0x10000 ∧ .fault 0x242 41 ∈ e.lar.due ∧ e.is F.YOK_MTXCMD_BUSY = false := by
  simp only [Dev.pairDown_eq]
  obtain ⟨x, hx⟩ : ∃ x, x = ((d.set F.YOK_STAT_PAIRED 0).set F.YOK_STAT_MSYNC 0).bump F.YOK_CNT_LOSSES := ⟨_, rfl⟩
  rw [← hx]
  have hset : ((d.set F.YOK_STAT_PAIRED 0).set F.YOK_STAT_MSYNC 0).get F.YOK_CNT_LOSSES = d.get F.YOK_CNT_LOSSES :=
    (Dev.get_set_ne _ _ (by decide)).trans (Dev.get_set_ne _ _ (by decide))
  have hpaired : x.get F.YOK_STAT_PAIRED = 0 := by
    rw [hx]
    exact (Dev.get_set_ne _ _ (by decide)).trans ((Dev.get_set_ne _ _ (by decide)).trans (Dev.get_set_same _ _ _))
  have hsync : x.get F.YOK_STAT_MSYNC = 0 := by
    rw [hx]
    exact (Dev.get_set_ne _ _ (by decide)).trans (Dev.get_set_same _ _ _)
  have hloss : x.get F.YOK_CNT_LOSSES = satInc 0xFFFF (d.get F.YOK_CNT_LOSSES) % 0x10000 := by
    rw [hx, ← hset]
    exact Dev.get_set_same _ _ _
  have hkept {g : Fld} (hg : ∀ f ∈ [F.YOK_STAT_PAIRED, F.YOK_STAT_MSYNC, F.YOK_CNT_LOSSES], fldId f ≠ fldId g) : x.get g = d.get g := by
    rw [hx]
    exact (Dev.get_set_ne _ _ (hg _ (by simp))).trans ((Dev.get_set_ne _ _ (hg _ (by simp))).trans (Dev.get_set_ne _ _ (hg _ (by simp))))
  have hend {g : Fld} (hb : fldId F.YOK_MTXCMD_BUSY ≠ fldId g) (hs : fldId F.YOK_MTXCMD_STATUS ≠ fldId g) :
      (x.endMtx .eLink).mirrorEnds.get g = x.get g := x.endMtx_get .eLink hb hs
  have hbusy : (x.endMtx .eLink).mirrorEnds.is F.YOK_MTXCMD_BUSY = false := (x.endMtx_is .eLink).1
  generalize (x.endMtx .eLink).mirrorEnds = y at *
  refine ⟨?_, ?_, ?_, ?_, Dev.yokFault_int _ (bit := 2) (by decide) _ _, ?_, List.mem_append_right _ (List.mem_singleton_self _), ?_⟩
  · exact (y.yokEvent_get (queFld_of_ids (by decide)) (by decide) 0 0).trans ((hend (by decide) (by decide)).trans hpaired)
  · exact (y.yokEvent_get (queFld_of_ids (by decide)) (by decide) 0 0).trans ((hend (by decide) (by decide)).trans hsync)
  · exact (y.yokEvent_get (queFld_of_ids (by decide)) (by decide) 0 0).trans ((hend (by decide) (by decide)).trans (hkept (by decide)))
  · exact (y.yokEvent_get (queFld_of_ids (by decide)) (by decide) 0 0).trans ((hend (by decide) (by decide)).trans (hkept (by decide)))
  · exact (y.yokEvent_get (queFld_of_ids (by decide)) (by decide) 0 0).trans ((hend (by decide) (by decide)).trans hloss)
  · exact (congrArg (· == 1) (y.yokEvent_get (queFld_of_ids (by decide)) (by decide) 0 0)).trans hbusy

/-- What stands where PAIRED has risen. -/
theorem Dev.pairUp_is (d : Dev) : let e := d.pairUp
    e.get F.YOK_STAT_PAIRED = 1 ∧ e.get F.YOK_MGEN_MGEN = 0 ∧ e.get F.YOK_INT_PAIRUP = 1 ∧ e.yok.unacked = [] ∧
      e.yok.next = if d.yokRole = 2 then 0 else 257 := by
  obtain ⟨y, hy⟩ : ∃ y, y = ((d.set F.YOK_STAT_PAIRED 1).set F.YOK_MGEN_MGEN 0).modYok fun y =>
    { y with next := if d.yokRole = 2 then 0 else 257, sent := [], unacked := [], resends := 0 } := ⟨_, rfl⟩
  have heq : d.pairUp = y.yokEvent 1 0 0 := by rw [hy]; rfl
  have hpaired : y.get F.YOK_STAT_PAIRED = 1 := by rw [hy]; exact (Dev.get_set_ne _ _ (by decide)).trans (Dev.get_set_same _ _ _)
  have hmgen : y.get F.YOK_MGEN_MGEN = 0 := by rw [hy]; exact Dev.get_set_same _ _ _
  have hunacked : y.yok.unacked = [] := by rw [hy]; rfl
  have hnext : y.yok.next = if d.yokRole = 2 then 0 else 257 := by rw [hy]; rfl
  have hyok : (y.yokEvent 1 0 0).yok = y.yok := (congrArg (fun z : Dev => z.yok) (y.heard_raise (bitFld 0x1100C 1) 0x1201 [0] 0 0 0).1 :)
  simp only [heq]
  refine ⟨?_, ?_, Dev.yokEvent_int _ (bit := 1) (by decide) _ _, ?_, ?_⟩
  · rw [y.yokEvent_get (queFld_of_ids (by decide)) (by decide), hpaired]
  · rw [y.yokEvent_get (queFld_of_ids (by decide)) (by decide), hmgen]
  · rw [hyok, hunacked]
  · rw [hyok, hnext]

/-- MISMATCH and its event apart, the fields stand as MISMATCH follows the peer. -/
theorem Dev.evalMismatch_get (d : Dev) {g : Fld} (hg : QueFld 0 g) (hmis : fldId F.YOK_STAT_MISMATCH ≠ fldId g)
    (hint : fldId F.YOK_INT_MISMATCH ≠ fldId g) : d.evalMismatch.get g = d.get g := by
  unfold Dev.evalMismatch
  split_ifs
  · rfl
  · exact ((d.set F.YOK_STAT_MISMATCH 1).yokEvent_get (bit := 4) hg hint 0 0).trans (Dev.get_set_ne _ _ hmis)
  · exact Dev.get_set_ne _ _ hmis

theorem Dev.evalMismatch_fits {d : Dev} (h : d.misfit = false) : d.evalMismatch.is F.YOK_STAT_MISMATCH = false := by
  unfold Dev.evalMismatch
  simp only [h, Bool.false_eq_true, if_false]
  split_ifs with hmis
  · exact (beq_iff_eq.mp hmis).symm
  · rw [Dev.is, Dev.get_set_same]
    rfl

/-- PAIRED falls where the peer is gone. -/
theorem Dev.yokEval_gone {d : Dev} (hpeer : d.yokPeer = none) (hpaired : d.is F.YOK_STAT_PAIRED = true) : let e := d.yokEval
    e.get F.YOK_STAT_PAIRED = 0 ∧ e.get F.YOK_STAT_MSYNC = 0 ∧ e.is F.YOK_STAT_MISMATCH = false ∧ e.get F.YOK_INT_PAIRDOWN = 1 ∧
      e.get F.YOK_CNT_LOSSES = satInc 0xFFFF (d.get F.YOK_CNT_LOSSES) % 0x10000 ∧ .fault 0x242 41 ∈ e.lar.due ∧ e.is F.YOK_MTXCMD_BUSY = false := by
  have hfit : d.misfit = false := by unfold Dev.misfit; rw [hpeer]
  have hmis := Dev.evalMismatch_fits hfit
  have hpaired' : d.evalMismatch.is F.YOK_STAT_PAIRED = true :=
    (congrArg (· == 1) (d.evalMismatch_get (queFld_of_ids (by decide)) (by decide) (by decide))).trans hpaired
  have hloss' : d.evalMismatch.get F.YOK_CNT_LOSSES = d.get F.YOK_CNT_LOSSES := d.evalMismatch_get (queFld_of_ids (by decide)) (by decide) (by decide)
  have heq : d.yokEval = d.evalMismatch.pairDown := by
    rw [Dev.yokEval_eq, hpaired', hpeer]
    rfl
  obtain ⟨hp, hm, hmm, -, hint, hloss, hdue, hbusy⟩ := d.evalMismatch.pairDown_is
  simp only [heq]
  exact ⟨hp, hm, (congrArg (· == 1) hmm).trans hmis, hint, hloss.trans (by rw [hloss']), hdue, hbusy⟩

/-- PAIRED rises where a peer that fits has come. -/
theorem Dev.yokEval_come {d : Dev} {a : Nat} (hpeer : d.yokPeer = some (d.get F.YOK_CFG_ALIAS, a)) (hside : a ≠ d.get F.YOK_CFG_SIDE)
    (hpaired : d.is F.YOK_STAT_PAIRED = false) : let e := d.yokEval
    e.get F.YOK_STAT_PAIRED = 1 ∧ e.get F.YOK_MGEN_MGEN = 0 ∧ e.get F.YOK_INT_PAIRUP = 1 ∧ e.yok.unacked = [] ∧
      e.yok.next = if d.yokRole = 2 then 0 else 257 := by
  have hfit : d.misfit = false := by
    unfold Dev.misfit
    rw [hpeer]
    simpa using hside
  have hpaired' : d.evalMismatch.is F.YOK_STAT_PAIRED = false :=
    (congrArg (· == 1) (d.evalMismatch_get (queFld_of_ids (by decide)) (by decide) (by decide))).trans hpaired
  have heq : d.yokEval = d.evalMismatch.pairUp := by
    rw [Dev.yokEval_eq, hpaired', hpeer, hfit]
    rfl
  simp only [heq, ← d.pairs_evalMismatch.yokRole]
  exact d.evalMismatch.pairUp_is

/-- MISMATCH rises where the peer's ALIAS or SIDE does not fit. -/
theorem Dev.yokEval_misfit {d : Dev} {p : Nat × Nat} (hpeer : d.yokPeer = some p) (hbad : p.1 ≠ d.get F.YOK_CFG_ALIAS ∨ p.2 = d.get F.YOK_CFG_SIDE)
    (hmis : d.is F.YOK_STAT_MISMATCH = false) : let e := d.yokEval
    e.get F.YOK_STAT_MISMATCH = 1 ∧ e.get F.YOK_INT_MISMATCH = 1 ∧ .fault 0x242 42 ∈ e.lar.due ∧ e.is F.YOK_STAT_PAIRED = false := by
  have hfit : d.misfit = true := by
    unfold Dev.misfit
    rw [hpeer]
    simpa using hbad
  have heq : d.evalMismatch = ((d.set F.YOK_STAT_MISMATCH 1).yokEvent 4 0 0).oweFault 0x242 42 := by
    unfold Dev.evalMismatch
    rw [hfit, hmis]
    rfl
  have hmis' : d.evalMismatch.get F.YOK_STAT_MISMATCH = 1 := by
    rw [heq]
    exact ((d.set F.YOK_STAT_MISMATCH 1).yokEvent_get (queFld_of_ids (by decide)) (by decide) 0 0).trans (Dev.get_set_same _ _ _)
  have hint : d.evalMismatch.get F.YOK_INT_MISMATCH = 1 := by
    rw [heq]
    exact Dev.yokFault_int _ (bit := 4) (by decide) _ _
  have hdue : .fault 0x242 42 ∈ d.evalMismatch.lar.due := by
    rw [heq]
    exact List.mem_append_right _ (List.mem_singleton_self _)
  have hval : d.yokEval = if d.evalMismatch.is F.YOK_STAT_PAIRED = false then d.evalMismatch else d.evalMismatch.pairDown := by
    rw [Dev.yokEval_eq, hpeer, hfit]
    cases d.evalMismatch.is F.YOK_STAT_PAIRED <;> rfl
  simp only [hval]
  by_cases hpaired : d.evalMismatch.is F.YOK_STAT_PAIRED = false
  · rw [if_pos hpaired]
    exact ⟨hmis', hint, hdue, hpaired⟩
  · rw [if_neg hpaired]
    obtain ⟨hp, -, hmm, hmi, -⟩ := d.evalMismatch.pairDown_is
    exact ⟨hmm.trans hmis', hmi.trans hint, (Dev.pairs_pairDown _).2.2.1.subset hdue, by rw [Dev.is, hp]; rfl⟩

/-! ### Beats received (R404, R405) -/

/-- A valid beat as it is recorded, before pairing follows. -/
def Dev.beatHeard (d : Dev) (b : Bale) : Dev :=
  (d.set F.YOK_RXSEQ_HBSEQ (b.hd 0 4)).modYok fun y =>
    let y1 := { y with seen := true, peer := some (b.sub == 1, bits (b.pay 0 2) 0 12, bits (b.pay 0 2) 15 1) }
    if b.sub == 1 then
      { y1 with fresh := d.yokRole == 3, hand := bitOf (b.pay 0 2) 14, gm := bitOf (b.pay 0 2) 13, gmSeq := if bitOf (b.pay 0 2) 13 then b.pay 6 4 else y.gmSeq }
    else y1

theorem Dev.rxBeat_eq (d : Dev) (b : Bale) : d.rxBeat b =
    if b.src ≠ d.get (F.HAY_LANE0_NBR 5) ∨ (d.yok.seen ∧ !newer32 (b.hd 0 4) (d.get F.YOK_RXSEQ_HBSEQ)) then d
    else if !(b.sub == 1) && (d.beatHeard b).yokEval.yokRole == 2 && (d.beatHeard b).yokEval.is F.YOK_STAT_PAIRED then
      (d.beatHeard b).yokEval.mirrorAck (b.pay 2 4)
    else (d.beatHeard b).yokEval := rfl

theorem Dev.beatHeard_is (d : Dev) (b : Bale) {k : Nat} (hk : b.sub = k) : let x := d.beatHeard b
    x.get F.YOK_RXSEQ_HBSEQ = b.hd 0 4 ∧ x.yok.seen = true ∧ x.yok.peer = some (k == 1, bits (b.pay 0 2) 0 12, bits (b.pay 0 2) 15 1) ∧
      (k = 1 → x.yok.fresh = (d.yokRole == 3) ∧ x.yok.hand = bitOf (b.pay 0 2) 14 ∧ x.yok.gm = bitOf (b.pay 0 2) 13) ∧
      d.Only { x with yok := d.yok } [F.YOK_RXSEQ_HBSEQ] := by
  subst hk
  refine ⟨(Dev.get_set_same _ _ _).trans (Nat.mod_eq_of_lt (b.hd_lt 0 4)), ?_, ?_, fun hk => ?_, rfl, fun g hg => Dev.get_set_ne _ _ (hg _ (by simp))⟩
  · simp only [Dev.beatHeard, Dev.modYok]
    split_ifs <;> rfl
  · simp only [Dev.beatHeard, Dev.modYok]
    split_ifs <;> rfl
  · simp only [Dev.beatHeard, Dev.modYok, hk]
    exact ⟨rfl, rfl, rfl⟩

theorem Dev.rxBeat_is (d : Dev) (b : Bale) {k : Nat} (hk : b.sub = k) (hbeat : k = 1 ∨ k = 2) : let e := d.rxBeat b
    if b.src ≠ d.get (F.HAY_LANE0_NBR 5) ∨ (d.yok.seen = true ∧ newer32 (b.hd 0 4) (d.get F.YOK_RXSEQ_HBSEQ) = false) then e = d
    else ∃ x : Dev, x.get F.YOK_RXSEQ_HBSEQ = b.hd 0 4 ∧ x.yok.seen = true ∧ x.yok.peer = some (k == 1, bits (b.pay 0 2) 0 12, bits (b.pay 0 2) 15 1) ∧
      (k = 1 → x.yok.fresh = (d.yokRole == 3) ∧ x.yok.hand = bitOf (b.pay 0 2) 14 ∧ x.yok.gm = bitOf (b.pay 0 2) 13) ∧
      d.Only { x with yok := d.yok } [F.YOK_RXSEQ_HBSEQ] ∧
      e = if k = 2 ∧ x.yokEval.yokRole = 2 ∧ x.yokEval.is F.YOK_STAT_PAIRED = true then x.yokEval.mirrorAck (b.pay 2 4) else x.yokEval := by
  simp only [Dev.rxBeat_eq, Bool.not_eq_true']
  by_cases h : b.src ≠ d.get (F.HAY_LANE0_NBR 5) ∨ (d.yok.seen = true ∧ newer32 (b.hd 0 4) (d.get F.YOK_RXSEQ_HBSEQ) = false)
  · rw [if_pos h, if_pos h]
  rw [if_neg h, if_neg h]
  obtain ⟨hseq, hseen, hpeer, hlead, honly⟩ := d.beatHeard_is b hk
  refine ⟨d.beatHeard b, hseq, hseen, hpeer, hlead, honly, ?_⟩
  generalize d.beatHeard b = x
  refine if_congr ?_ rfl rfl
  rcases hbeat with rfl | rfl <;> simp [hk]

end Sys2Proof.Machine

/-!
SUPPORT. The lead's mirror.
-/
namespace Sys2Proof.Machine

open Sys2Proof

/-! ### Acknowledgements (R408, R409) -/

/-- The MIRROR bale of an entry of the list is acknowledged by generation `g`. -/
def ackedBy (g : Nat) (u : Nat × List Byte × Nat) : Bool := u.1 == g || newer32 g u.1

theorem Dev.mirrorAck_eq (d : Dev) (g : Nat) : d.mirrorAck g =
    if g = 0 ∨ newer32 g (d.get F.YOK_MGEN_MGEN) then d
    else if (d.yok.unacked.filter (ackedBy g)).isEmpty then d
    else
      let d1 := { d with yok := { d.yok with unacked := d.yok.unacked.filter fun u => !ackedBy g u, resends := 0 } }
      let d2 := if (d.yok.unacked.filter (ackedBy g)).any (·.2.2 == 1) then d1.set F.YOK_STAT_MSYNC 1 else d1
      if (d.yok.unacked.filter (ackedBy g)).any (·.2.2 == 2) then d2.endMtx .done else d2 := rfl

theorem Dev.mirrorAck_none {d : Dev} {g : Nat} (h : ∀ u ∈ d.yok.unacked, u.1 ≠ g ∧ newer32 g u.1 = false) : d.mirrorAck g = d := by
  have hnone : d.yok.unacked.filter (ackedBy g) = [] := List.filter_eq_nil_iff.mpr fun u hu => by simp [ackedBy, h u hu]
  rw [Dev.mirrorAck_eq, hnone]
  exact ite_self d

theorem Dev.mirrorAck_is {d : Dev} {g : Nat} (hg : g ≠ 0) (hnew : newer32 g (d.get F.YOK_MGEN_MGEN) = false) : let e := d.mirrorAck g
    e.yok.unacked = (d.yok.unacked.filter fun u => !(u.1 == g || newer32 g u.1)) ∧
      ((∃ u ∈ d.yok.unacked, (u.1 = g ∨ newer32 g u.1 = true) ∧ u.2.2 = 1) → e.get F.YOK_STAT_MSYNC = 1) ∧
      ((∃ u ∈ d.yok.unacked, (u.1 = g ∨ newer32 g u.1 = true) ∧ u.2.2 = 2) → e.is F.YOK_MTXCMD_BUSY = false) := by
  have hmem (k : Nat) : (∃ u ∈ d.yok.unacked, (u.1 = g ∨ newer32 g u.1 = true) ∧ u.2.2 = k) ↔
      (d.yok.unacked.filter (ackedBy g)).any (·.2.2 == k) = true := by
    simp [ackedBy]
  simp only [hmem, Dev.mirrorAck_eq, hg, hnew, Bool.false_eq_true, or_self, if_false]
  by_cases hnone : d.yok.unacked.filter (ackedBy g) = []
  · have hall : d.yok.unacked.filter (fun u => !(u.1 == g || newer32 g u.1)) = d.yok.unacked :=
      List.filter_eq_self.mpr fun u hu => by simpa [ackedBy] using List.filter_eq_nil_iff.mp hnone u hu
    rw [hnone, if_pos List.isEmpty_nil]
    exact ⟨hall.symm, fun h => Bool.noConfusion h, fun h => Bool.noConfusion h⟩
  rw [if_neg (by simpa using hnone)]
  obtain ⟨x, hx⟩ : ∃ x : Dev, x = { d with yok := { d.yok with unacked := d.yok.unacked.filter fun u => !ackedBy g u, resends := 0 } } := ⟨_, rfl⟩
  have hunacked : x.yok.unacked = d.yok.unacked.filter fun u => !(u.1 == g || newer32 g u.1) := by rw [hx]; rfl
  obtain ⟨y, hy⟩ : ∃ y, y = if (d.yok.unacked.filter (ackedBy g)).any (·.2.2 == 1) then x.set F.YOK_STAT_MSYNC 1 else x := ⟨_, rfl⟩
  have hyok : y.yok = x.yok := by
    rw [hy]
    split_ifs <;> rfl
  have hsync (h : (d.yok.unacked.filter (ackedBy g)).any (·.2.2 == 1) = true) : y.get F.YOK_STAT_MSYNC = 1 := by
    rw [hy, if_pos h]
    exact Dev.get_set_same _ _ _
  rw [← hx, ← hy]
  have hend : (y.endMtx .done).yok.unacked = y.yok.unacked := by
    unfold Dev.endMtx
    split_ifs <;> rfl
  refine ⟨?_, fun h => ?_, fun h => ?_⟩
  · split_ifs
    · rw [hend, hyok, hunacked]
    · rw [hyok, hunacked]
  · split_ifs
    · rw [y.endMtx_get .done (by decide) (by decide), hsync h]
    · exact hsync h
  · rw [if_pos h]
    exact (y.endMtx_is .done).1

/-! ### The lead's mirror (R408, R548) -/

theorem Dev.sendBale_is (d : Dev) (n : Nat) (b : Bale) : ∃ o, d.sendBale n b = { d with out := o } := by
  unfold Dev.sendBale
  split_ifs
  · exact ⟨_, rfl⟩
  · exact ⟨d.out, rfl⟩

theorem Dev.sendMirror_is (d : Dev) (kind index place : Nat) (data : List Byte) (mark : Nat) : let e := d.sendMirror kind index place data mark
    e.get F.YOK_MGEN_MGEN = nextGen (d.get F.YOK_MGEN_MGEN) % 2 ^ 32 ∧
      (∃ p, e.yok = { d.yok with unacked := d.yok.unacked ++ [(nextGen (d.get F.YOK_MGEN_MGEN), p, mark)] }) ∧
      d.Only { e with yok := d.yok, out := d.out } [F.YOK_MGEN_MGEN] := by
  obtain ⟨o, ho⟩ := d.sendBale_is 5 { type := 5, src := d.unitId, h := beBytes 4 (d.get F.YOK_TXSEQ_HBSEQ) ++ leBytes 1 3, data := beBytes 4 (nextGen (d.get F.YOK_MGEN_MGEN)) ++ leBytes 1 kind ++ leBytes 1 index ++ beBytes 2 place ++ data }
  simp only [Dev.sendMirror, Dev.sendYoke, ho]
  exact ⟨Dev.get_set_same _ _ _, ⟨_, rfl⟩, rfl, fun _ hg => Dev.get_set_ne _ _ (hg _ (by simp))⟩

theorem Dev.sendEntry_is (d : Dev) (s : Nat) : let e := d.sendEntry s
    e.get F.YOK_MGEN_MGEN = nextGen (d.get F.YOK_MGEN_MGEN) % 2 ^ 32 ∧
      (∃ p, e.yok = { d.yok with unacked := d.yok.unacked ++ [(nextGen (d.get F.YOK_MGEN_MGEN), p, 0)], sent := mapPut [] d.yok.sent s (d.strWords s) }) ∧
      d.Only { e with yok := d.yok, out := d.out } [F.YOK_MGEN_MGEN] := by
  obtain ⟨hmgen, ⟨p, hyok⟩, honly⟩ := d.sendMirror_is 1 s 0 (((d.strWords s).map (beBytes 4)).flatten) 0
  simp only [Dev.sendEntry, Dev.modYok, hyok]
  exact ⟨hmgen, ⟨p, rfl⟩, honly⟩

/-- The mirror has nothing to do with a bale at this instant. -/
def Dev.mirrorIdle (d : Dev) : Bool := !(d.yokRole == 2 && d.is F.YOK_STAT_PAIRED) || d.phyHeld || decide (16 ≤ d.yok.unacked.length)

theorem Dev.mirrorTx_eq (d : Dev) : d.mirrorTx =
    if d.mirrorIdle then d
    else if d.yok.next < 256 then (d.sendEntry d.yok.next).modYok fun y => { y with next := y.next + 1 }
    else if d.yok.next = 256 then (d.sendMirror 3 0 0 [] 1).modYok fun y => { y with next := 257 }
    else match d.yok.recAt with
      | some a =>
        let len := d.get F.YOK_MTXCMD_LEN
        let n := min 504 (len - a)
        let last := len ≤ a + n
        (d.sendMirror 2 0 (bitNat last * 32768 + a) (((d.getBytes F.YOK_MTXBUF_DATA len).drop a).take n) (if last then 2 else 0)).modYok fun y =>
          { y with recAt := if last then none else some (a + n) }
      | none =>
        match (List.range 256).find? fun s => mapGet [] d.yok.sent s != d.strWords s with
        | none => d
        | some s => d.sendEntry s := rfl

theorem Dev.mirrorIdle_iff (d : Dev) : d.mirrorIdle = true ↔
    (d.yokRole ≠ 2 ∨ d.is F.YOK_STAT_PAIRED = false ∨ d.phyHeld = true ∨ 16 ≤ d.yok.unacked.length) := by
  simp [Dev.mirrorIdle, or_assoc]

section

variable {d : Dev} (hbusy : d.mirrorIdle = false)

include hbusy

/-- The full set goes on with the next entry, or with its END. -/
theorem Dev.mirrorTx_set (hnext : d.yok.next ≤ 256) : let e := d.mirrorTx
    e.yok.next = d.yok.next + 1 ∧ e.get F.YOK_MGEN_MGEN = nextGen (d.get F.YOK_MGEN_MGEN) % 2 ^ 32 ∧
      (d.yok.next < 256 → mapGet [] e.yok.sent d.yok.next = d.strWords d.yok.next) ∧
      (∃ p, e.yok.unacked = d.yok.unacked ++ [(nextGen (d.get F.YOK_MGEN_MGEN), p, if d.yok.next = 256 then 1 else 0)]) ∧
      d.Only { e with yok := d.yok, out := d.out } [F.YOK_MGEN_MGEN] := by
  simp only [Dev.mirrorTx_eq, hbusy, Bool.false_eq_true, if_false]
  by_cases hlt : d.yok.next < 256
  · obtain ⟨hmgen, ⟨p, hyok⟩, honly⟩ := d.sendEntry_is d.yok.next
    simp only [if_pos hlt, if_neg (Nat.ne_of_lt hlt), Dev.modYok, hyok]
    exact ⟨trivial, hmgen, fun _ => mapGet_put_same _ _ _, ⟨p, rfl⟩, honly⟩
  · have h256 : d.yok.next = 256 := by omega
    obtain ⟨hmgen, ⟨p, hyok⟩, honly⟩ := d.sendMirror_is 3 0 0 [] 1
    simp only [if_neg hlt, if_pos h256, Dev.modYok, hyok]
    exact ⟨by rw [h256], hmgen, fun h => absurd h hlt, ⟨p, rfl⟩, honly⟩

/-- A record goes on with its next 504 bytes. -/
theorem Dev.mirrorTx_record {a : Nat} (hnext : 256 < d.yok.next) (hrec : d.yok.recAt = some a) : let e := d.mirrorTx
    e.get F.YOK_MGEN_MGEN = nextGen (d.get F.YOK_MGEN_MGEN) % 2 ^ 32 ∧
      e.yok.recAt = (if d.get F.YOK_MTXCMD_LEN ≤ a + 504 then none else some (a + 504)) ∧
      d.Only { e with yok := d.yok, out := d.out } [F.YOK_MGEN_MGEN] := by
  have hlast : (d.get F.YOK_MTXCMD_LEN ≤ a + min 504 (d.get F.YOK_MTXCMD_LEN - a)) ↔ d.get F.YOK_MTXCMD_LEN ≤ a + 504 := by omega
  simp only [Dev.mirrorTx_eq, hbusy, Bool.false_eq_true, if_false, if_neg (show ¬ d.yok.next < 256 by omega), if_neg (show ¬ d.yok.next = 256 by omega), hrec,
    hlast]
  obtain ⟨hmgen, -, honly⟩ := d.sendMirror_is 2 0 (bitNat (d.get F.YOK_MTXCMD_LEN ≤ a + 504) * 32768 + a)
    (((d.getBytes F.YOK_MTXBUF_DATA (d.get F.YOK_MTXCMD_LEN)).drop a).take (min 504 (d.get F.YOK_MTXCMD_LEN - a)))
    (if d.get F.YOK_MTXCMD_LEN ≤ a + 504 then 2 else 0)
  refine ⟨hmgen, ?_, honly⟩
  simp only [Dev.modYok]
  split_ifs with h
  · rfl
  · rw [Nat.min_eq_left (by omega)]

theorem Dev.mirrorTx_same (hnext : 256 < d.yok.next) (hrec : d.yok.recAt = none) (hsent : ∀ i < 256, mapGet [] d.yok.sent i = d.strWords i) :
    d.mirrorTx = d := by
  have hnone : (List.range 256).find? (fun s => mapGet [] d.yok.sent s != d.strWords s) = none :=
    List.find?_eq_none.mpr fun i hi => by simp [hsent i (List.mem_range.mp hi)]
  simp only [Dev.mirrorTx_eq, hbusy, Bool.false_eq_true, if_false, if_neg (show ¬ d.yok.next < 256 by omega), if_neg (show ¬ d.yok.next = 256 by omega), hrec,
    hnone]

end

theorem Dev.mirrorResend_is (d : Dev) : let e := d.mirrorResend
    if d.yokRole ≠ 2 ∨ d.is F.YOK_STAT_PAIRED = false ∨ d.yok.unacked = [] then e = d
    else if 8 ≤ d.yok.resends then e = ({ d with yok := { d.yok with peer := none } } : Dev).yokEval
    else e.yok = { d.yok with resends := d.yok.resends + 1 } ∧ d.Only { e with yok := d.yok, out := d.out } [F.YOK_CNT_RESENDS] := by
  have hcond : (!(d.yokRole == 2 && d.is F.YOK_STAT_PAIRED) || d.yok.unacked.isEmpty) = true ↔
      (d.yokRole ≠ 2 ∨ d.is F.YOK_STAT_PAIRED = false ∨ d.yok.unacked = []) := by
    simp [or_assoc]
  have hfold (l : List (Nat × List Byte × Nat)) (x : Dev) :
      let e := l.foldl (fun d e => (d.sendYoke 3 (d.get F.YOK_TXSEQ_HBSEQ) e.2.1).bump F.YOK_CNT_RESENDS) x
      e.yok = x.yok ∧ x.Only { e with out := x.out } [F.YOK_CNT_RESENDS] := by
    induction l generalizing x with
    | nil => exact ⟨rfl, (Dev.Only.refl x []).mono (List.nil_subset _)⟩
    | cons u l ih =>
      obtain ⟨o, ho⟩ := x.sendBale_is 5 { type := 5, src := x.unitId, h := beBytes 4 (x.get F.YOK_TXSEQ_HBSEQ) ++ leBytes 1 3, data := u.2.1 }
      obtain ⟨y, hy⟩ : ∃ y, y = (x.sendYoke 3 (x.get F.YOK_TXSEQ_HBSEQ) u.2.1).bump F.YOK_CNT_RESENDS := ⟨_, rfl⟩
      have hyeq : y = ({ x with out := o } : Dev).bump F.YOK_CNT_RESENDS := by rw [hy, Dev.sendYoke, ho]
      have hyyok : y.yok = x.yok := by rw [hyeq]; rfl
      have hyonly : x.Only { y with out := x.out } [F.YOK_CNT_RESENDS] := by rw [hyeq]; exact x.only_bump _
      obtain ⟨hyok, honly⟩ := ih y
      simp only [List.foldl_cons, ← hy]
      generalize l.foldl (fun d e => (d.sendYoke 3 (d.get F.YOK_TXSEQ_HBSEQ) e.2.1).bump F.YOK_CNT_RESENDS) y = e at *
      refine ⟨hyok.trans hyyok, ?_, fun g hg => (honly.2 g hg).trans (hyonly.2 g hg)⟩
      exact (congrArg (fun z : Dev => { z with out := x.out }) honly.1 :).trans (congrArg (fun z : Dev => { z with fld := e.fld }) hyonly.1 :)
  unfold Dev.mirrorResend
  by_cases hidle : d.yokRole ≠ 2 ∨ d.is F.YOK_STAT_PAIRED = false ∨ d.yok.unacked = []
  · simp only [if_pos hidle, if_pos (hcond.mpr hidle)]
  simp only [if_neg hidle, if_neg (mt hcond.mp hidle)]
  by_cases h8 : 8 ≤ d.yok.resends
  · simp only [if_pos h8, Dev.modYok]
  simp only [if_neg h8]
  obtain ⟨hyok, honly⟩ := hfold d.yok.unacked (d.modYok fun y => { y with resends := y.resends + 1 })
  exact ⟨hyok, (congrArg (fun z : Dev => { z with yok := d.yok }) honly.1 :), honly.2⟩

end Sys2Proof.Machine

/-!
SUPPORT. The mirror's registers, and bales as received.
-/
namespace Sys2Proof.Machine

open Sys2Proof

/-! ### The mirror's registers (R408, R410) -/

theorem mtxChecks_first : ∀ range state busy : Bool, firstByRank [(range, .eRange), (state, .eState), (busy, .eBusy)] =
    if range then .eRange else if state then .eState else if busy then .eBusy else .done := by decide

theorem Dev.only_writeMtxcmd (d : Dev) (w : Word) : d.Only (d.writeRow .bar0 R.YOK_MTXCMD 0 w) [F.YOK_MTXCMD_GO, F.YOK_MTXCMD_LEN] :=
  d.only_writeRow .bar0 R.YOK_MTXCMD 0 w

theorem Dev.writeMtxcmd_len (d : Dev) (w : Word) : (d.writeRow .bar0 R.YOK_MTXCMD 0 w).get F.YOK_MTXCMD_LEN = bits w.toNat 0 11 :=
  d.writeRow_get (g := ⟨0, 11, .rw, fun _ => 0⟩) (by simp [R.YOK_MTXCMD]) (by simp [R.YOK_MTXCMD]) (.inl rfl)

theorem Dev.writeMtxcmd_is {d : Dev} {w : Word} (hup : d.up = true) (hres : setsReserved R.YOK_MTXCMD w = false) (hgo : bitOf w.toNat 31 = true)
    {len : Nat} (hlen : bits w.toNat 0 11 = len) : let e := d.writeMtxcmd w
    if len = 0 ∨ 1024 < len then RecordedGlb d e 0x11030 .eRange
    else if d.yokRole ≠ 2 ∨ d.is F.YOK_STAT_PAIRED = false then RecordedGlb d e 0x11030 .eState
    else if d.is F.YOK_MTXCMD_BUSY = true then RecordedGlb d e 0x11030 .eBusy
    else e.get F.YOK_MTXCMD_BUSY = 1 ∧ e.get F.YOK_MTXCMD_GO = 0 ∧ e.get F.YOK_MTXCMD_LEN = len ∧ e.yok = { d.yok with recAt := some 0 } ∧
      d.Only { e with yok := d.yok } [F.YOK_MTXCMD_BUSY, F.YOK_MTXCMD_GO, F.YOK_MTXCMD_LEN] := by
  have hrange : ((true || len != d.get F.YOK_MTXCMD_LEN) && (len == 0 || decide (1024 < len))) = true ↔ (len = 0 ∨ 1024 < len) := by simp
  have hstate : (!(d.yokRole == 2 && d.is F.YOK_STAT_PAIRED)) = true ↔ (d.yokRole ≠ 2 ∨ d.is F.YOK_STAT_PAIRED = false) := by
    simp
  have hfirst : firstByRank ((setsReserved R.YOK_MTXCMD w, .eField) :: (d.changesLocked .bar0 R.YOK_MTXCMD 0 w, .eLocked) ::
      [((true || len != d.get F.YOK_MTXCMD_LEN) && (len == 0 || decide (1024 < len)), .eRange),
       (!(d.yokRole == 2 && d.is F.YOK_STAT_PAIRED), .eState), (d.is F.YOK_MTXCMD_BUSY, .eBusy)]) =
      if len = 0 ∨ 1024 < len then .eRange
      else if d.yokRole ≠ 2 ∨ d.is F.YOK_STAT_PAIRED = false then .eState
      else if d.is F.YOK_MTXCMD_BUSY = true then .eBusy else .done := by
    rw [firstByRank_own hres rfl]
    refine (mtxChecks_first _ _ _).trans ?_
    simp only [hrange, hstate]
  simp only [Dev.writeMtxcmd, hgo, hlen, Bool.true_and]
  by_cases h1 : len = 0 ∨ 1024 < len
  · rw [if_pos h1] at hfirst ⊢
    exact recordedGlb_of_rejected hup (by decide) hfirst
  rw [if_neg h1] at hfirst ⊢
  by_cases h2 : d.yokRole ≠ 2 ∨ d.is F.YOK_STAT_PAIRED = false
  · rw [if_pos h2] at hfirst ⊢
    exact recordedGlb_of_rejected hup (by decide) hfirst
  rw [if_neg h2] at hfirst ⊢
  by_cases h3 : d.is F.YOK_MTXCMD_BUSY = true
  · rw [if_pos h3] at hfirst ⊢
    exact recordedGlb_of_rejected hup (by decide) hfirst
  rw [if_neg h3] at hfirst ⊢
  rw [Dev.regWrite_done hup hfirst, if_pos trivial]
  have honly := d.only_writeMtxcmd w
  have hshown := (d.writeMtxcmd_len w).trans hlen
  have hyok : (d.writeRow .bar0 R.YOK_MTXCMD 0 w).yok = d.yok := by rw [honly.1]
  generalize d.writeRow .bar0 R.YOK_MTXCMD 0 w = x at *
  have hset : x.Only ((x.set F.YOK_MTXCMD_GO 0).set F.YOK_MTXCMD_BUSY 1) [F.YOK_MTXCMD_GO, F.YOK_MTXCMD_BUSY] := (x.only_set _ _).trans (Dev.only_set _ _ _)
  have hall := (honly.trans hset).mono (by decide : _ ⊆ [F.YOK_MTXCMD_BUSY, F.YOK_MTXCMD_GO, F.YOK_MTXCMD_LEN])
  refine ⟨Dev.get_set_same _ _ _, (Dev.get_set_ne _ _ (by decide)).trans (Dev.get_set_same _ _ _), (hset.2 _ (by decide)).trans hshown, ?_, ?_, hall.2⟩
  · simp only [Dev.modYok, Dev.set_yok, hyok]
  · exact (congrArg (fun z : Dev => { z with yok := d.yok }) hall.1 :)

theorem Dev.mrxPop_is {d : Dev} {w : Word} (hup : d.up = true) (hres : setsReserved R.YOK_MRXSTAT (withBit w 30) = false) :
    let e := d.writeMrxstat (withBit w 30)
    e.get F.YOK_MRXSTAT_VALID = 0 ∧ d.Only e [F.YOK_MRXSTAT_VALID] := by
  have heq : d.writeMrxstat (withBit w 30) = d.set F.YOK_MRXSTAT_VALID 0 := by
    rw [Dev.writeMrxstat, Dev.regWrite_done hup ((firstByRank_own hres rfl _ _ _ _).trans rfl), if_pos (bitOf_withBit_same w (by decide))]
    rfl
  simp only [heq]
  exact ⟨Dev.get_set_same _ _ _, d.only_set _ _⟩

/-! ### Bales as received (R361, R364) -/

theorem Dev.dropBale_is (d : Dev) (n : Nat) : DroppedBale d (d.dropBale n) n := ⟨Dev.get_set_same _ _ _, d.only_bump _⟩

theorem Dev.baleRx_is (d : Dev) (n : Fin 6) (sub wait : Nat) (l : List Byte) : let e := d.baleRx n.val sub wait l
    if d.laneUp n.val = false ∨ d.phyHeld = true then e = d
    else if l.length < 20 ∨ crc32 (l.take (l.length - 4)) ≠ beNat (l.drop (l.length - 4)) then
      e.get (F.HAY_LANE8_CRCERR n.val) = satInc 0xFFFF (d.get (F.HAY_LANE8_CRCERR n.val)) % 0x10000 ∧
      e.lar = { d.lar with due := d.lar.due ++ [.fault (0x220 + n.val) 35] } ∧
      d.Only { e with lar := d.lar } [F.HAY_LANE8_CRCERR n.val]
    else if wireOk l = false then DroppedBale d e n.val
    else let b := parseBale (l.take (16 + bits (beNat ((l.drop 6).take 2)) 0 10))
      if b.type = 5 ∧ n.val ≠ 5 then DroppedBale d e n.val
      else if b.type = 5 then e = d.rxYoke 5 b else e = d.rxBale n.val sub wait b := by
  have hidle : (!d.laneUp n.val || d.phyHeld) = true ↔ (d.laneUp n.val = false ∨ d.phyHeld = true) := by simp
  have hcrc : (decide (l.length < 20) || crc32 (l.take (l.length - 4)) != beNat (l.drop (l.length - 4))) = true ↔
      (l.length < 20 ∨ crc32 (l.take (l.length - 4)) ≠ beNat (l.drop (l.length - 4))) := by simp
  simp only [Dev.baleRx, hidle, hcrc, Bool.not_eq_true']
  by_cases h1 : d.laneUp n.val = false ∨ d.phyHeld = true
  · rw [if_pos h1, if_pos h1]
  rw [if_neg h1, if_neg h1]
  by_cases h2 : l.length < 20 ∨ crc32 (l.take (l.length - 4)) ≠ beNat (l.drop (l.length - 4))
  · rw [if_pos h2, if_pos h2]
    have honly := d.only_bump (F.HAY_LANE8_CRCERR n.val)
    exact ⟨Dev.get_set_same _ _ _, rfl, rfl, honly.2⟩
  rw [if_neg h2, if_neg h2]
  by_cases h3 : wireOk l = false
  · rw [if_pos h3, if_pos h3]
    exact d.dropBale_is n.val
  rw [if_neg h3, if_neg h3]
  generalize parseBale (l.take (16 + bits (beNat ((l.drop 6).take 2)) 0 10)) = b
  by_cases h5 : b.type = 5
  · simp only [h5, true_and]
    by_cases hn : n.val ≠ 5
    · rw [if_pos hn, Dev.rxYoke, if_pos hn]
      exact d.dropBale_is n.val
    · rw [if_neg hn, not_not.mp hn, if_pos trivial, if_pos trivial]
  · simp only [h5, false_and, if_false]

theorem Dev.rxYokeChecked_none {d : Dev} {l : List Byte} {k : Nat} (h : d.laneUp 5 = false ∨ d.phyHeld = true ∨ wireOk (wireBale l) = false ∨
    (parseBale l).type ≠ 5 ∨ (parseBale l).sub ≠ k ∨ d.is F.YOK_CTRL_EN = false) : d.rxYokeChecked l k = d := by
  unfold Dev.rxYokeChecked
  split_ifs with hc
  · simp only [ofKind, Bool.and_eq_true, Bool.not_eq_true', beq_iff_eq] at hc
    obtain ⟨⟨⟨hup, hphy⟩, hwire⟩, htype, hsub⟩ := hc
    have hen : d.is F.YOK_CTRL_EN = false := by simpa [hup, hphy, hwire, htype, hsub] using h
    unfold Dev.rxYoke
    rw [if_neg (not_not.mpr rfl), if_pos (by rw [hen]; rfl)]
  · rfl

theorem Dev.rxYokeChecked_some {d : Dev} {l : List Byte} {b : Bale} {k : Nat} (hb : b = parseBale l) (hup : d.laneUp 5 = true) (hphy : d.phyHeld = false)
    (hwire : wireOk (wireBale l) = true) (htype : b.type = 5) (hen : d.is F.YOK_CTRL_EN = true) (hsub : b.sub = k) :
    d.rxYokeChecked l k = if k = 3 then d.rxMirror b else d.rxBeat b := by
  subst hb
  unfold Dev.rxYokeChecked
  rw [if_pos (by simp [ofKind, hup, hphy, hwire, htype, hsub])]
  unfold Dev.rxYoke
  rw [if_neg (not_not.mpr rfl), if_neg (by rw [hen]; decide), hsub]

/-- Settles O47: each command on pairing and the mirror by its branches. -/
theorem yokeMirror : Obligations.YokeMirror := by
  intro s hup
  refine ⟨Ends.of_act hup rfl, fun d => ⟨Dev.yokEval_gone, fun a hpeer hside hpaired => Dev.yokEval_come hpeer hside hpaired,
    fun p hpeer hbad hmis => Dev.yokEval_misfit hpeer hbad hmis⟩, fun l b hb => ⟨fun k c hc h => ?_, fun hlane hphy hwire htype hen =>
      ⟨fun k c hc hsub => ?_, fun hsub => Ends.of_act hup ?_⟩⟩, fun d g h => Dev.mirrorAck_none h, fun d g hg hnew => Dev.mirrorAck_is hg hnew,
    fun h => Ends.of_act hup ?_, fun hrole hpaired hphy hwin => ?_, Ends.of_act hup ?_, fun w hres => Ends.of_act hup ?_,
    fun w hres => Ends.of_act hup ?_, fun n sub wait l => Ends.of_act hup ?_⟩
  · have hexec : exec c s = act s fun d => d.rxYokeChecked l k := by
      simp only [List.mem_cons, Prod.mk.injEq, List.not_mem_nil, or_false] at hc
      rcases hc with ⟨rfl, rfl⟩ | ⟨rfl, rfl⟩ | ⟨rfl, rfl⟩ <;> rfl
    rw [hexec]
    exact Ends.of_act hup (Dev.rxYokeChecked_none (hb ▸ h))
  · obtain ⟨hbeat, hexec⟩ : (k = 1 ∨ k = 2) ∧ exec c s = act s fun d => d.rxYokeChecked l k := by
      simp only [List.mem_cons, Prod.mk.injEq, List.not_mem_nil, or_false] at hc
      rcases hc with ⟨rfl, rfl⟩ | ⟨rfl, rfl⟩
      · exact ⟨.inl rfl, rfl⟩
      · exact ⟨.inr rfl, rfl⟩
    rw [hexec]
    refine Ends.of_act hup ?_
    rw [Dev.rxYokeChecked_some hb hlane hphy hwire htype hen hsub, if_neg (show ¬ k = 3 by omega)]
    exact s.dev.rxBeat_is b hsub hbeat
  · rw [Dev.rxYokeChecked_some hb hlane hphy hwire htype hen hsub, if_pos rfl]
    exact s.dev.rxMirror_is b
  · rw [Dev.mirrorTx_eq, if_pos (s.dev.mirrorIdle_iff.mpr h)]
  · have hbusy : s.dev.mirrorIdle = false := Bool.eq_false_of_not_eq_true fun h => by
      have := s.dev.mirrorIdle_iff.mp h
      simp [hrole, hpaired, hphy] at this
      omega
    exact ⟨fun hnext => Ends.of_act hup (Dev.mirrorTx_set hbusy hnext), fun a hnext hrec => Ends.of_act hup (Dev.mirrorTx_record hbusy hnext hrec),
      fun hnext hrec hsent => Ends.of_act hup (Dev.mirrorTx_same hbusy hnext hrec hsent)⟩
  · exact s.dev.mirrorResend_is
  · exact Dev.writeMtxcmd_is hup hres (bitOf_withBit_same w (by decide)) (bits_withBit_ne w (by decide) (.inr (by decide)))
  · exact Dev.mrxPop_is hup hres
  · exact s.dev.baleRx_is n sub.val wait.toNat l

end Sys2Proof.Machine

/-!
SUPPORT. What leaves Haywain's own state alone.
-/
namespace Sys2Proof.Machine

open Sys2Proof

/-! ### What leaves Haywain's own state alone -/

theorem Dev.Heard.hay {d e : Dev} {fs : List Fld} (h : d.Heard e fs) : e.hay = d.hay := (congrArg (fun y : Dev => y.hay) h.1 :)

theorem Dev.raise_hay (d : Dev) (int : Fld) (code : Nat) (ts : List Nat) (inst arg count : Nat) : (d.raise int code ts inst arg count).hay = d.hay :=
  (d.heard_raise int code ts inst arg count).hay

theorem Dev.hayEvent_hay (d : Dev) (bit inst arg : Nat) (ts : List Nat) : (d.hayEvent bit inst arg ts).hay = d.hay := d.raise_hay ..

theorem Dev.enqueueAs_hay (d : Dev) (q : Nat) (data : List Byte) (prio stamp : Nat) (bad : Nat → Bool) :
    (d.enqueueAs q data prio stamp bad).1.hay = d.hay := (d.heard_enqueueAs q data prio stamp bad).hay

theorem Dev.enqueue_hay (d : Dev) (q : Nat) (data : List Byte) (prio stamp : Nat) (b : Bool) :
    (d.enqueue q data prio stamp b).1.hay = d.hay := d.enqueueAs_hay q data prio stamp _

theorem Dev.oweFault_hay (d : Dev) (u i : Nat) : (d.oweFault u i).hay = d.hay := rfl

theorem Dev.finish_hay (d : Dev) (tk : Tkt) (st : Status) (r0 r1 : Nat) : (d.finish tk st r0 r1).hay = d.hay := rfl

theorem Dev.hifEvent_hay (d : Dev) (bit t : Nat) : (d.hifEvent bit t).hay = d.hay := by
  unfold Dev.hifEvent
  simp only [Dev.oweFault_hay, Dev.raise_hay]
  split_ifs <;> rfl

theorem Dev.injUse_hay (d : Dev) (k : Nat) : (d.injUse k).hay = d.hay := by
  simp [Dev.injUse, apply_ite Dev.hay]

theorem Dev.glean_hay (d : Dev) (m w syn req : Nat) : (d.glean m w syn req).hay = d.hay := by
  unfold Dev.glean
  split
  · rfl
  · split
    · simp only [Dev.raise_hay, Dev.set_hay]
    · simp [apply_ite Dev.hay, Dev.raise_hay]

theorem Dev.ueRecord_hay (d : Dev) (c m req a : Nat) : (d.ueRecord c m req a).hay = d.hay := (d.only_ueRecord c m req a).heard.hay

theorem Dev.larUe_hay (d : Dev) (c req cell w : Nat) : (d.larUe c req cell w).hay = d.hay := by
  have hcounted : (d.larUeCounted c req cell w).hay = d.hay := d.ueRecord_hay c 3 req (64 * cell + 8 * w)
  rw [Dev.larUe_eq, ← hcounted]
  generalize d.larUeCounted c req cell w = x
  unfold Dev.larUePaced
  split_ifs
  · exact Dev.raise_hay ..
  · rfl

theorem Dev.memClass_hay (d : Dev) (m w syn req : Nat) : (d.memClass m w syn req).hay = d.hay := by
  unfold Dev.memClass
  split
  · rfl
  · split_ifs
    · rfl
    · exact d.glean_hay ..
  · simp only
    split_ifs <;> simp [Dev.larUe_hay, Dev.raise_hay, Dev.oweFault_hay, Dev.ueRecord_hay]

theorem Dev.memPut_hay (d : Dev) (m w v : Nat) : (d.memPut m w v).hay = d.hay := d.injUse_hay _

theorem Dev.memRmw_hay (d : Dev) (m w b n v : Nat) : (d.memRmw m w b n v).hay = d.hay := by
  unfold Dev.memRmw
  simp only
  split
  · rfl
  · exact d.memClass_hay ..
  · exact (Dev.memPut_hay ..).trans (d.memClass_hay ..)

theorem Dev.yieldHeld_hay (d : Dev) (m w : Nat) : (d.yieldHeld m w).hay = d.hay := by
  unfold Dev.yieldHeld
  split
  · rfl
  · split_ifs
    · unfold Dev.performHeld
      split
      · rfl
      · exact Dev.memRmw_hay ..
    · rfl

theorem Dev.memLoad_hay (d : Dev) (m req w n : Nat) : (d.memLoad m req w n).1.hay = d.hay := by
  induction n generalizing d w with
  | zero => rfl
  | succ n ih => exact (ih _ _).trans ((Dev.memClass_hay ..).trans (Dev.yieldHeld_hay ..))

theorem Dev.hostGet_hay (d : Dev) (t a n : Nat) (l : List Byte) (p : Bool) : (d.hostGet t a n l p).1.hay = d.hay := by
  unfold Dev.hostGet Dev.memBytes
  split_ifs
  · rfl
  · exact d.memLoad_hay ..
  · rfl

theorem Dev.ringGet_hay (d : Dev) (t a n : Nat) (l : List Byte) (bad : List Nat) : (d.ringGet t a n l bad).1.hay = d.hay := by
  have hcells (ks : List Nat) (r : Dev × List Byte × List Nat) : (ks.foldl (fun r k =>
      let g := r.1.hostGet t (a + 64 * k) (min 64 (n - 64 * k)) ((l.drop (64 * k)).take 64) (bad.contains k)
      (g.1, r.2.1 ++ g.2.1, if g.2.2 then r.2.2 ++ [k] else r.2.2)) r).1.hay = r.1.hay := by
    induction ks generalizing r with
    | nil => rfl
    | cons k ks ih => exact (ih _).trans (Dev.hostGet_hay ..)
  exact hcells _ _

theorem Dev.primed_hay (d : Dev) (s : Nat) : (d.primed s).hay = d.hay := by
  unfold Dev.primed
  split_ifs <;> rfl

theorem Dev.ringItem_hay (d : Dev) (s : Nat) (data : List Byte) (bad : List Nat) : (d.ringItem s data bad).hay = d.hay := by
  unfold Dev.ringItem
  simp only
  split
  · rfl
  · rename_i tk l _
    split_ifs <;> simp only [Dev.hifEvent_hay, Dev.finish_hay, Dev.primed_hay, Dev.enqueueAs_hay, Dev.ringGet_hay]

theorem Dev.streamItem_hay (d : Dev) (s : Nat) (data : List Byte) (stamp : Nat) (bad : List Nat) : (d.streamItem s data stamp bad).hay = d.hay := by
  have h := streamItem_is d s data stamp bad
  simp only at h
  split_ifs at h <;> simp only [h, Dev.ringItem_hay, Dev.primed_hay, Dev.enqueue_hay]

theorem Dev.conceal_hay (d : Dev) (s len ts k j : Nat) : (d.conceal s len ts k j).hay = d.hay := by
  induction k generalizing d j with
  | zero => rfl
  | succ k ih => exact (ih _ _).trans (d.streamItem_hay ..)

end Sys2Proof.Machine

/-!
SUPPORT. Bales whose checks have passed, audio and control bales.
-/
namespace Sys2Proof.Machine

open Sys2Proof

/-! ### Bales whose checks have passed (R361, R364) -/

theorem Dev.rxChecked_none {d : Dev} {n i j : Nat} {l : List Byte} {p : Bale → Bool} (h : d.laneUp n = false ∨ d.phyHeld = true ∨
    wireOk (wireBale l) = false ∨ p (parseBale l) = false) : d.rxChecked n i j l p = d := by
  refine if_neg ?_
  simp only [Bool.and_eq_true, Bool.not_eq_true', not_and, Bool.not_eq_true]
  intro hc
  obtain ⟨⟨hup, hphy⟩, hwire⟩ := hc
  simpa [hup, hphy, hwire] using h

theorem Dev.rxChecked_some {d : Dev} {n i j : Nat} {l : List Byte} {p : Bale → Bool} (hup : d.laneUp n = true) (hphy : d.phyHeld = false)
    (hwire : wireOk (wireBale l) = true) (hp : p (parseBale l) = true) : d.rxChecked n i j l p = d.rxBale n i j (parseBale l) :=
  if_pos (by simp [hup, hphy, hwire, hp])

theorem Bale.sub_of_control {b : Bale} (h : b.type = 2) : b.sub = b.ctype := if_pos h

/-- A command that names the kind of a bale receives a checked bale of that kind, CONTROL one of any kind but NULL. -/
theorem baleCommands_exec {n : Fin 6} {sub : Fin 334} {wait : BitVec 16} {l : List Byte} {type kind : Nat} (s : State) :
    ∀ c ∈ baleCommands n sub wait l type kind, ∃ (i j : Nat) (p : Bale → Bool), exec c s = act s (fun d => d.rxChecked n.val i j l p) ∧
      (∀ b, p b = true → b.type = type ∧ (type = 1 ∨ b.sub = kind ∨ (type = 2 ∧ kind ≠ 0))) ∧ ∀ b, b.type = type → b.sub = kind → p b = true := by
  have hkind (t k : Nat) (b : Bale) : ofKind t k b = true ↔ b.type = t ∧ b.sub = k := by simp [ofKind]
  have hone (t k : Nat) : (∀ b, ofKind t k b = true → b.type = t ∧ (t = 1 ∨ b.sub = k ∨ (t = 2 ∧ k ≠ 0))) ∧ ∀ b, b.type = t → b.sub = k → ofKind t k b = true :=
    ⟨fun b h => ⟨((hkind t k b).mp h).1, .inr (.inl ((hkind t k b).mp h).2)⟩, fun b ht hk => (hkind t k b).mpr ⟨ht, hk⟩⟩
  have hany {k : Nat} (hk : k ≠ 0) : (∀ b : Bale, (b.type == 2 && b.ctype != 0) = true → b.type = 2 ∧ (2 = 1 ∨ b.sub = k ∨ (2 = 2 ∧ k ≠ 0))) ∧
      ∀ b : Bale, b.type = 2 → b.sub = k → (b.type == 2 && b.ctype != 0) = true := by
    refine ⟨fun b h => ⟨beq_iff_eq.mp (Bool.and_eq_true_iff.mp h).1, .inr (.inr ⟨rfl, hk⟩)⟩, fun b ht hs => ?_⟩
    rw [Bale.sub_of_control ht] at hs
    simp [ht, hs, hk]
  intro c hc
  unfold baleCommands at hc
  split at hc <;> simp only [List.mem_cons, List.not_mem_nil, or_false] at hc
  · subst hc
    exact ⟨0, 0, fun b => b.type == 1, rfl, fun b h => ⟨by simpa using h, .inl rfl⟩, fun b h _ => by simpa using h⟩
  · subst hc; exact ⟨_, _, _, rfl, hone 2 0⟩
  · rcases hc with rfl | rfl
    · exact ⟨_, _, _, rfl, hany (by decide)⟩
    · exact ⟨_, _, _, rfl, hone 2 1⟩
  · rcases hc with rfl | rfl
    · exact ⟨_, _, _, rfl, hany (by decide)⟩
    · exact ⟨_, _, _, rfl, hone 2 2⟩
  · rcases hc with rfl | rfl
    · exact ⟨_, _, _, rfl, hany (by decide)⟩
    · exact ⟨_, _, _, rfl, hone 2 3⟩
  · rcases hc with rfl | rfl
    · exact ⟨_, _, _, rfl, hany (by decide)⟩
    · exact ⟨_, _, _, rfl, hone 2 4⟩
  · rcases hc with rfl | rfl
    · exact ⟨_, _, _, rfl, hany (by decide)⟩
    · exact ⟨_, _, _, rfl, hone 2 16⟩
  · subst hc; exact ⟨_, _, _, rfl, hone 3 1⟩
  · subst hc; exact ⟨_, _, _, rfl, hone 3 2⟩
  · subst hc; exact ⟨_, _, _, rfl, hone 3 3⟩
  · subst hc; exact ⟨_, _, _, rfl, hone 3 4⟩
  · subst hc; exact ⟨_, _, _, rfl, hone 3 5⟩
  · subst hc; exact ⟨_, _, _, rfl, hone 4 1⟩
  · subst hc; exact ⟨_, _, _, rfl, hone 4 2⟩
  · subst hc; exact ⟨_, _, _, rfl, hone 4 3⟩
  · subst hc; exact ⟨_, _, _, rfl, hone 4 4⟩

theorem Dev.noRoute_is (d : Dev) (n : Nat) : UnroutedBale d (d.noRoute n) n := by
  obtain ⟨hdrop, honly⟩ := d.dropBale_is n
  have hraise := (d.dropBale n).told_raise (bitFld 0xF010 6) 0x1006 [0] n 0 0 t000_lt
  refine ⟨?_, Dev.raise_get_int _ _ _ _ _ _ (plainFld_of_fldId (by decide) (by decide) (by decide)) t000_lt, honly.told.trans hraise⟩
  rw [← hdrop]
  refine hraise.2 _ (plainFld_of_fldId ?_ ?_ ?_) ?_
  all_goals (simp [fldId, F.HAY_LANEC_DROP, F.LAR_LEAK_COUNT, F.ECC_INJ_COUNT, F.ECC_INJ_ARM, bitFld]; omega)

/-! ### Audio (R370, R374, R257) -/

theorem Dev.rxAudio_is (d : Dev) (n : Nat) (b : Bale) : let e := d.rxAudio n b
    if d.laneRole n = 3 then DroppedBale d e n
    else if d.isMe b.dst = true then
      if d.flowTakes (b.hd 2 1) b.src = true then e = d.flowReceive n (b.hd 2 1) b else DroppedBale d e n
    else if 24 < b.hops + 1 then DroppedBale d e n
    else if d.nextHop b.dst = none then UnroutedBale d e n
    else match d.findResv b.src b.dst (b.hd 2 1) with
      | some r => if r.inLane = n ∧ r.queue ≠ 0 ∧ d.lar.qFenced.contains r.queue = false then
          e = (d.enqueue r.queue { b with hops := b.hops + 1 }.bytes 0 0 b.poison).1 else DroppedBale d e n
      | none => DroppedBale d e n := by
  simp only [Dev.rxAudio, Option.isNone_iff_eq_none, Bool.not_eq_true']
  by_cases h1 : d.laneRole n = 3
  · rw [if_pos h1, if_pos h1]
    exact d.dropBale_is n
  rw [if_neg h1, if_neg h1]
  by_cases h2 : d.isMe b.dst = true
  · rw [if_pos h2, if_pos h2]
    by_cases h3 : d.flowTakes (b.hd 2 1) b.src = true
    · rw [if_pos h3, if_pos h3]
    · rw [if_neg h3, if_neg h3]
      exact d.dropBale_is n
  rw [if_neg h2, if_neg h2]
  by_cases h3 : 24 < b.hops + 1
  · rw [if_pos h3, if_pos h3]
    exact d.dropBale_is n
  rw [if_neg h3, if_neg h3]
  by_cases h4 : d.nextHop b.dst = none
  · rw [if_pos h4, if_pos h4]
    exact d.noRoute_is n
  rw [if_neg h4, if_neg h4]
  cases d.findResv b.src b.dst (b.hd 2 1) with
  | none => exact d.dropBale_is n
  | some r =>
    simp only
    by_cases h5 : r.inLane = n ∧ r.queue ≠ 0 ∧ d.lar.qFenced.contains r.queue = false
    · rw [if_pos h5, if_pos h5]
    · rw [if_neg h5, if_neg h5]
      exact d.dropBale_is n

/-! ### Control bales (R376) -/

theorem Dev.lane_setLane (d : Dev) (n : Nat) (x : HLane) : (d.setLane n x).lane n = x := mapGet_put_same _ _ _

theorem Dev.lane_modLane (d : Dev) (n : Nat) (f : HLane → HLane) : (d.modLane n f).lane n = f (d.lane n) := mapGet_put_same _ _ _

theorem Dev.ctxDone_is (d : Dev) (st : Status) : (d.ctxDone st).hay = d.hay ∧ d.Only (d.ctxDone st) [F.HAY_CTXCMD_BUSY, F.HAY_CTXSTAT_STATUS] := by
  unfold Dev.ctxDone
  split_ifs
  · exact ⟨rfl, (d.only_set _ _).trans (Dev.only_set _ _ _)⟩
  · exact ⟨rfl, (Dev.Only.refl d []).mono (List.nil_subset _)⟩

theorem Dev.takeAck_is (d : Dev) (n : Nat) (b : Bale) : let x := d.takeAck n b
    (x.lane n).credit = b.hd 4 2 ∧ (x.lane n).rx = (d.lane n).rx ∧ x.out = d.out ∧
      (x.lane n).unacked = (if b.ackv then (d.lane n).unacked.filter fun u => decide (32768 ≤ (b.hd 2 2 + 65535 - u.1) % 65536) else (d.lane n).unacked) ∧
      d.Only { x with hay := d.hay } [F.HAY_CTXCMD_BUSY, F.HAY_CTXSTAT_STATUS] := by
  obtain ⟨keep, hkeep⟩ : ∃ keep, keep = if b.ackv then (d.lane n).unacked.filter fun u => decide (32768 ≤ (b.hd 2 2 + 65535 - u.1) % 65536)
    else (d.lane n).unacked := ⟨_, rfl⟩
  obtain ⟨y, hy⟩ : ∃ y, y = d.setLane n { d.lane n with unacked := keep, credit := b.hd 4 2, resends := if keep.length = (d.lane n).unacked.length then (d.lane n).resends else 0 } :=
    ⟨_, rfl⟩
  have heq : d.takeAck n b = if ((d.lane n).unacked.take ((d.lane n).unacked.length - keep.length)).any (·.2.2) then y.ctxDone .done else y := by
    rw [hy, hkeep]
    rfl
  have hlane : y.lane n = { d.lane n with unacked := keep, credit := b.hd 4 2, resends := if keep.length = (d.lane n).unacked.length then (d.lane n).resends else 0 } := by
    rw [hy]
    exact d.lane_setLane n _
  have hyd : y = { d with hay := y.hay } := by rw [hy]; rfl
  have hdone : (d.takeAck n b).hay = y.hay ∧ y.Only (d.takeAck n b) [F.HAY_CTXCMD_BUSY, F.HAY_CTXSTAT_STATUS] := by
    rw [heq]
    split_ifs
    · exact y.ctxDone_is .done
    · exact ⟨rfl, (Dev.Only.refl y []).mono (List.nil_subset _)⟩
  obtain ⟨hhay, honly⟩ := hdone
  have hx : (d.takeAck n b).lane n = y.lane n := by simp only [Dev.lane, hhay]
  refine ⟨by rw [hx, hlane], by rw [hx, hlane], ?_, by rw [hx, hlane, hkeep], ?_, fun g hg => ?_⟩
  · rw [honly.1, hyd]
  · exact (congrArg (fun z : Dev => { z with hay := d.hay }) honly.1 :).trans
      (congrArg (fun z : Dev => { z with fld := (d.takeAck n b).fld, hay := d.hay }) hyd :)
  · exact (honly.2 g hg).trans (congrArg (fun z : Dev => z.get g) hyd :)

theorem Dev.rxControl_is (d : Dev) (n : Nat) (b : Bale) : let e := d.rxControl n b
    if d.laneRole n = 3 then DroppedBale d e n
    else ∃ x : Dev, (x.lane n).credit = b.hd 4 2 ∧ (x.lane n).rx = (d.lane n).rx ∧ x.out = d.out ∧
      (x.lane n).unacked = (if b.ackv then (d.lane n).unacked.filter fun u => decide (32768 ≤ (b.hd 2 2 + 65535 - u.1) % 65536)
        else (d.lane n).unacked) ∧
      d.Only { x with hay := d.hay } [F.HAY_CTXCMD_BUSY, F.HAY_CTXSTAT_STATUS] ∧
      if b.ctype = 0 then e = x.pumpControl n 32
      else ∃ y : Dev, (y.lane n).ackDue = true ∧ y = { x with hay := y.hay } ∧
        if b.seq ≠ (d.lane n).rx then (y.lane n).rx = (d.lane n).rx ∧ e = y.pumpControl n 32
        else (y.lane n).rx = ((d.lane n).rx + 1) % 65536 ∧
          e = (match b.ctype with
            | 1 => y.rxResvReq n b
            | 2 => y.rxResvAck n b
            | 3 => y.rxResvNak n b
            | 4 => y.rxResvFree n b
            | _ => y.rxApp n b).pumpControl n 32 := by
  simp only [Dev.rxControl]
  by_cases h1 : d.laneRole n = 3
  · rw [if_pos h1, if_pos h1]
    exact d.dropBale_is n
  rw [if_neg h1, if_neg h1]
  obtain ⟨hcredit, hrx, hout, hunacked, honly⟩ := d.takeAck_is n b
  generalize d.takeAck n b = x at *
  refine ⟨x, hcredit, hrx, hout, hunacked, honly, ?_⟩
  by_cases h2 : b.ctype = 0
  · rw [if_pos h2, if_pos h2]
  rw [if_neg h2, if_neg h2, ← hrx]
  by_cases h3 : b.seq ≠ (x.lane n).rx
  · rw [if_pos h3]
    refine ⟨x.modLane n fun z => { z with ackDue := true }, by rw [Dev.lane_modLane], rfl, ?_⟩
    rw [if_pos h3]
    exact ⟨by rw [Dev.lane_modLane], rfl⟩
  · rw [if_neg h3]
    refine ⟨x.modLane n fun z => { z with rx := (z.rx + 1) % 65536, ackDue := true }, by rw [Dev.lane_modLane], rfl, ?_⟩
    rw [if_neg h3]
    exact ⟨by rw [Dev.lane_modLane], rfl⟩

end Sys2Proof.Machine

/-!
SUPPORT. Reception of a flow.
-/
namespace Sys2Proof.Machine

open Sys2Proof

/-! ### Reception of a flow (R257, R374) -/

/-- How far a bale's SEQ lies after the last one accepted; 1 where none has been. -/
def Dev.flowGap (d : Dev) (f : Nat) (b : Bale) : Nat :=
  match (d.flow f).ref with
  | none => 1
  | some (q, _, _) => (b.hd 0 2 + 65536 - q) % 65536

/-- The bale's format is not that of the stream that the flow feeds. -/
def Dev.flowMisfit (d : Dev) (f : Nat) (b : Bale) : Bool :=
  match d.flowStream f with
  | none => false
  | some s => d.wrongFormat s b

/-- The count of what is missing, and the silent items in its place. -/
def Dev.flowMissed (d : Dev) (f : Nat) (b : Bale) : Dev :=
  let gap := d.flowGap f b
  if 2 ≤ gap ∧ gap ≤ 9 then
    let e := d.set (F.HAY_FLOW_CONCEAL f) (min 255 (d.get (F.HAY_FLOW_CONCEAL f) + (gap - 1)))
    match d.flowStream f, (d.flow f).ref with
    | some s, some (_, l, t) => if l = 0 then e else e.conceal s l t (gap - 1) 1
    | _, _ => e
  else if gap = 1 then d
  else d.bump (F.HAY_FLOW_RESYNC f)

theorem Dev.flowReceive_eq (d : Dev) (n f : Nat) (b : Bale) : d.flowReceive n f b =
    if d.flowMisfit f b then (if n < 6 then d.dropBale n else d)
    else if d.flowGap f b = 0 ∨ 32768 ≤ d.flowGap f b then (if n < 6 then d.dropBale n else d)
    else
      let d2 := (d.flowMissed f b).modFlow f fun x => { x with ref := some (b.hd 0 2, b.data.length, b.hd 4 4) }
      match d.flowStream f with
      | none => d2
      | some s => d2.streamItem s (swapSamples (d.get (F.STR_W1_WIDTH s) + 2) b.data.length b.data) (b.hd 4 4) (if b.poison then [0] else []) := rfl

theorem Dev.flowMissed_hay (d : Dev) (f : Nat) (b : Bale) : (d.flowMissed f b).hay = d.hay := by
  unfold Dev.flowMissed
  simp only
  split_ifs
  · split
    · split_ifs
      · rfl
      · exact Dev.conceal_hay ..
    · rfl
  · rfl
  · rfl

theorem Dev.flow_modFlow (d : Dev) (f : Nat) (g : Flow → Flow) : (d.modFlow f g).flow f = g (d.flow f) := mapGet_put_same _ _ _

theorem Dev.flow_of_hay {d e : Dev} (h : e.hay = d.hay) (f : Nat) : e.flow f = d.flow f := by simp only [Dev.flow, h]

theorem Dev.flowMissed_one {d : Dev} {f : Nat} {b : Bale} (h : d.flowGap f b = 1) : d.flowMissed f b = d := by
  simp [Dev.flowMissed, h]

/-- Where no stream takes the flow the bale is counted alone. -/
theorem Dev.flowMissed_unbound {d : Dev} {f : Nat} {b : Bale} (hstr : d.flowStream f = none) {gap : Nat} (hgap : d.flowGap f b = gap) (hpos : 0 < gap) :
    let e := d.flowMissed f b
    (2 ≤ gap → gap ≤ 9 → e.get (F.HAY_FLOW_CONCEAL f) = min 255 (d.get (F.HAY_FLOW_CONCEAL f) + (gap - 1))) ∧
      (9 < gap → e.get (F.HAY_FLOW_RESYNC f) = satInc 255 (d.get (F.HAY_FLOW_RESYNC f)) % 256) ∧
      d.Only e (if gap = 1 then [] else if gap ≤ 9 then [F.HAY_FLOW_CONCEAL f] else [F.HAY_FLOW_RESYNC f]) := by
  have heq : d.flowMissed f b = if 2 ≤ gap ∧ gap ≤ 9 then d.set (F.HAY_FLOW_CONCEAL f) (min 255 (d.get (F.HAY_FLOW_CONCEAL f) + (gap - 1)))
      else if gap = 1 then d else d.bump (F.HAY_FLOW_RESYNC f) := by
    simp only [Dev.flowMissed, hstr, hgap]
  simp only [heq]
  by_cases h1 : 2 ≤ gap ∧ gap ≤ 9
  · rw [if_pos h1, if_neg (by omega), if_pos h1.2]
    refine ⟨fun _ _ => (Dev.get_set_same _ _ _).trans (Nat.mod_eq_of_lt ?_), fun h => by omega, d.only_set _ _⟩
    exact lt_of_le_of_lt (Nat.min_le_left _ _) (by decide : 255 < 2 ^ 8)
  rw [if_neg h1]
  by_cases h2 : gap = 1
  · rw [if_pos h2, if_pos h2]
    exact ⟨fun h => by omega, fun h => by omega, .refl d _⟩
  · rw [if_neg h2, if_neg h2, if_neg (by omega)]
    exact ⟨fun h h' => by omega, fun _ => Dev.get_set_same _ _ _, d.only_bump _⟩

theorem Dev.flowReceive_is (d : Dev) (n : Fin 6) (f : Nat) (b : Bale) {gap : Nat} (hgap : gap = d.flowGap f b) :
    (gap = 0 ∨ 32768 ≤ gap → DroppedBale d (d.flowReceive n.val f b) n.val) ∧
    (∀ st, d.flowStream f = some st → d.wrongFormat st b = true → DroppedBale d (d.flowReceive n.val f b) n.val) ∧
    (d.flowStream f = none → 0 < gap → gap < 32768 → let e := d.flowReceive n.val f b
      e.flow f = { d.flow f with ref := some (b.hd 0 2, b.data.length, b.hd 4 4) } ∧
      (2 ≤ gap → gap ≤ 9 → e.get (F.HAY_FLOW_CONCEAL f) = min 255 (d.get (F.HAY_FLOW_CONCEAL f) + (gap - 1))) ∧
      (9 < gap → e.get (F.HAY_FLOW_RESYNC f) = satInc 255 (d.get (F.HAY_FLOW_RESYNC f)) % 256) ∧
      d.Only { e with hay := d.hay } (if gap = 1 then [] else if gap ≤ 9 then [F.HAY_FLOW_CONCEAL f] else [F.HAY_FLOW_RESYNC f])) ∧
    (∀ st, d.flowStream f = some st → d.wrongFormat st b = false → 0 < gap → gap < 32768 → ∃ x : Dev,
      d.flowReceive n.val f b = x.streamItem st (swapSamples (d.get (F.STR_W1_WIDTH st) + 2) b.data.length b.data) (b.hd 4 4)
        (if b.poison then [0] else []) ∧
      x.flow f = { d.flow f with ref := some (b.hd 0 2, b.data.length, b.hd 4 4) } ∧ (gap = 1 → x = { d with hay := x.hay })) := by
  have hdrop : DroppedBale d (if n.val < 6 then d.dropBale n.val else d) n.val := by
    rw [if_pos n.isLt]
    exact d.dropBale_is n.val
  have hflow : ((d.flowMissed f b).modFlow f fun x => { x with ref := some (b.hd 0 2, b.data.length, b.hd 4 4) }).flow f =
      { d.flow f with ref := some (b.hd 0 2, b.data.length, b.hd 4 4) } := by
    rw [Dev.flow_modFlow, Dev.flow_of_hay (d.flowMissed_hay f b)]
  rw [Dev.flowReceive_eq, ← hgap]
  refine ⟨fun h => ?_, fun st hst hbad => ?_, fun hst hpos hlt => ?_, fun st hst hfit hpos hlt => ?_⟩
  · rw [if_pos h, ite_self]
    exact hdrop
  · rw [if_pos (by simp only [Dev.flowMisfit, hst, hbad])]
    exact hdrop
  · have hfit : d.flowMisfit f b = false := by simp only [Dev.flowMisfit, hst]
    simp only [hfit, Bool.false_eq_true, if_false, if_neg (show ¬ (gap = 0 ∨ 32768 ≤ gap) by omega), hst]
    obtain ⟨hconceal, hresync, honly⟩ := Dev.flowMissed_unbound hst hgap.symm hpos
    have hsame := d.flowMissed_hay f b
    generalize d.flowMissed f b = x at *
    refine ⟨hflow, hconceal, hresync, ?_, honly.2⟩
    exact (congrArg (fun z : Dev => { z with hay := d.hay }) honly.1 :)
  · have hfit' : d.flowMisfit f b = false := by simp only [Dev.flowMisfit, hst, hfit]
    simp only [hfit', Bool.false_eq_true, if_false, if_neg (show ¬ (gap = 0 ∨ 32768 ≤ gap) by omega), hst]
    refine ⟨_, rfl, hflow, fun h1 => ?_⟩
    rw [Dev.flowMissed_one (hgap.symm.trans h1)]
    rfl

/-- Settles O41: each bale's command by the checks it passes, and reception by the gap of its SEQ. -/
theorem hayBales : Obligations.HayBales := by
  intro s n sub wait l hup
  refine ⟨fun type kind h c hc => ?_, fun hlane hphy hwire b hb => ⟨fun htype => Ends.of_act hup ?_, fun htype c hc => ?_⟩,
    fun d b f gap hgap => ?_⟩
  · obtain ⟨i, j, p, hexec, hp, -⟩ := baleCommands_exec s c hc
    rw [hexec]
    refine Ends.of_act hup (Dev.rxChecked_none ?_)
    rcases h with h | h | h | h
    · exact .inl h
    · exact .inr (.inl h)
    · exact .inr (.inr (.inl h))
    · refine .inr (.inr (.inr (Bool.eq_false_of_not_eq_true fun hpb => ?_)))
      obtain ⟨ht, hk⟩ := hp _ hpb
      rcases h with h | ⟨hne, hsub, hnull⟩
      · exact h ht
      · rcases hk with hk | hk | ⟨hk2, hk0⟩
        · exact hne hk
        · exact hsub hk
        · exact hnull.elim (fun h => h hk2) hk0
  · have heq : (s.dev.rxChecked n.val 0 0 l fun b => b.type == 1) = s.dev.rxAudio n.val b := by
      rw [Dev.rxChecked_some hlane hphy hwire (by simpa [hb] using htype), ← hb]
      simp only [Dev.rxBale, htype]
    rw [heq]
    exact s.dev.rxAudio_is n.val b
  · obtain ⟨i, j, p, hexec, -, hp⟩ := baleCommands_exec s c hc
    rw [hexec]
    have heq : s.dev.rxChecked n.val i j l p = s.dev.rxControl n.val b := by
      rw [Dev.rxChecked_some hlane hphy hwire (hb ▸ hp b htype (Bale.sub_of_control htype)), ← hb]
      simp only [Dev.rxBale, htype]
    refine Ends.of_act hup ?_
    rw [heq]
    exact s.dev.rxControl_is n.val b
  · refine d.flowReceive_is n f.val b (hgap.trans ?_)
    unfold Dev.flowGap
    cases (d.flow f.val).ref <;> rfl

end Sys2Proof.Machine

/-!
SUPPORT. Reservations on their way, at their destination and at their requester.
-/
namespace Sys2Proof.Machine

open Sys2Proof

/-! ### Reservations as AUSED shows them (R371, R375) -/

theorem Dev.showUsed_hay (d : Dev) : d.showUsed.hay = d.hay := by
  have h (l : List Nat) (x : Dev) : (l.foldl (fun d n => d.set (F.HAY_LANE4_AUSED n) (d.reserved n fun _ => false)) x).hay = x.hay := by
    induction l generalizing x with
    | nil => rfl
    | cons a l ih => exact ih _
  exact h _ _

theorem Dev.setResv_hay (d : Dev) (l : List Resv) : (d.setResv l).hay = { d.hay with resv := l } := Dev.showUsed_hay _

theorem Dev.setResv_resv (d : Dev) (l : List Resv) : (d.setResv l).hay.resv = l := by rw [Dev.setResv_hay]

theorem Dev.reserved_of_hay {d e : Dev} (h : e.hay.resv = d.hay.resv) (n : Nat) (p : Resv → Bool) : e.reserved n p = d.reserved n p := by
  simp only [Dev.reserved, h]

/-- AUSED of every lane shows what is reserved there. -/
theorem Dev.showUsed_used (d : Dev) : ∀ k < 6, d.showUsed.get (F.HAY_LANE4_AUSED k) = d.reserved k (fun _ => false) % 65536 := by
  have hapart {a b : Nat} (h : a ≠ b) : fldId (F.HAY_LANE4_AUSED a) ≠ fldId (F.HAY_LANE4_AUSED b) := by
    simp only [fldId, F.HAY_LANE4_AUSED]
    omega
  have h (l : List Nat) (hl : l.Nodup) (x : Dev) (hx : x.hay = d.hay) :
      let e := l.foldl (fun d n => d.set (F.HAY_LANE4_AUSED n) (d.reserved n fun _ => false)) x
      (∀ k ∈ l, e.get (F.HAY_LANE4_AUSED k) = d.reserved k (fun _ => false) % 65536) ∧
        ∀ k ∉ l, e.get (F.HAY_LANE4_AUSED k) = x.get (F.HAY_LANE4_AUSED k) := by
    induction l generalizing x with
    | nil => exact ⟨fun k hk => absurd hk List.not_mem_nil, fun _ _ => rfl⟩
    | cons a l ih =>
      obtain ⟨ha, hl⟩ := List.nodup_cons.mp hl
      obtain ⟨hin, hout⟩ := ih hl (x.set (F.HAY_LANE4_AUSED a) (x.reserved a fun _ => false)) hx
      refine ⟨List.forall_mem_cons.mpr ⟨(hout a ha).trans ?_, hin⟩, fun k hk => ?_⟩
      · rw [Dev.get_set_same, Dev.reserved_of_hay (congrArg Hay.resv hx)]
        rfl
      · obtain ⟨hne, hk⟩ := not_or.mp (mt List.mem_cons.mpr hk)
        exact (hout k hk).trans (Dev.get_set_ne _ _ (hapart (Ne.symm hne)))
  intro k hk
  exact (h lanes (by decide) d rfl).1 k (by revert k; decide)

theorem Dev.setResv_used (d : Dev) (l : List Resv) : ∀ k < 6, (d.setResv l).get (F.HAY_LANE4_AUSED k) = (d.setResv l).reserved k (fun _ => false) % 65536 := by
  intro k hk
  refine (Dev.showUsed_used _ k hk).trans ?_
  exact congrArg (· % 65536) (Dev.reserved_of_hay (d := { d with hay := { d.hay with resv := l } }) (e := d.setResv l) (d.setResv_resv l) k _).symm

/-- What is reserved on the lane of a reservation put first: its own cost, and that of the others. -/
theorem reserved_put {d x : Dev} {r : Resv} {p : Resv → Bool} (hresv : x.hay.resv = r :: d.hay.resv.filter fun r => !p r) :
    x.reserved r.outLane (fun _ => false) = d.reserved r.outLane p + laneCost r.bytes := by
  have hsum (l : List Nat) (a : Nat) : l.foldl (· + ·) a = a + l.foldl (· + ·) 0 := by
    induction l generalizing a with
    | nil => rfl
    | cons b l ih => rw [List.foldl_cons, List.foldl_cons, ih, ih (0 + b)]; omega
  have hfilter : (d.hay.resv.filter fun r => !p r).filter (fun s => s.outLane == r.outLane && !false) =
      d.hay.resv.filter fun s => s.outLane == r.outLane && !p s := by
    rw [List.filter_filter]
    simp [Bool.and_comm]
  rw [Dev.reserved, hresv, List.filter_cons_of_pos (by simp), hfilter, List.map_cons, List.foldl_cons, hsum, Dev.reserved]
  omega

theorem freeTransit_ne {d : Dev} {q : Nat} (h : d.freeTransit = some q) : q ≠ 0 := by
  have hmem := List.mem_of_find?_eq_some h
  simp only [transitQueues, List.mem_append, List.mem_map, List.mem_range] at hmem
  omega

/-- A reservation taken on its way: it heads this unit's list, within the lane's budget and with a transit queue. -/
theorem Dev.takeResv_is {d x : Dev} {src dst f n m bytes : Nat} (hn : n < 6) (h : d.takeResv src dst f n m bytes = .inr x) :
    d.reserved m (resvIs src dst f) + laneCost bytes ≤ d.get (F.HAY_LANE4_ABUDGET m) ∧
      ∃ q ≠ 0, x = d.setResv (⟨src, dst, f, n, m, bytes, q⟩ :: d.hay.resv.filter fun r => !resvIs src dst f r) := by
  unfold Dev.takeResv at h
  simp only [if_neg (show ¬ n = 6 by omega)] at h
  split_ifs at h with hbudget
  refine ⟨Nat.le_of_not_lt hbudget, ?_⟩
  split at h
  · cases h
  · rename_i q hq
    refine ⟨q, ?_, (Sum.inr.inj h).symm⟩
    split at hq
    · split_ifs at hq with h0
      · exact freeTransit_ne hq
      · exact Option.some.inj hq ▸ h0
    · exact freeTransit_ne hq

theorem Dev.takeResv_refused {d : Dev} {src dst f n m bytes : Nat}
    (h : d.get (F.HAY_LANE4_ABUDGET m) < d.reserved m (resvIs src dst f) + laneCost bytes) : d.takeResv src dst f n m bytes = .inl 1 := if_pos h

theorem resvIs_self (src dst f n m bytes q : Nat) : resvIs src dst f ⟨src, dst, f, n, m, bytes, q⟩ = true := by simp [resvIs]

/-! ### A request on its way and at its destination (R371, R372, Table 13.5) -/

section

variable {d : Dev} {n : Fin 6} {m : Nat} {b : Bale} (hsrc : d.isMe b.src = false) (hdst : d.isMe b.dst = false) (hhops : b.hops < 24)
  (hnext : d.nextHop b.dst = some m)

include hsrc hdst hhops hnext

theorem Dev.rxResvReq_refused {r : Nat} (h : d.takeResv b.src b.dst (b.pay 2 1) n.val m (b.pay 0 2) = .inl r) :
    d.rxResvReq n.val b = d.refuse b.src b.dst (b.pay 0 2) (b.pay 2 1) r := by
  simp only [Dev.rxResvReq, hsrc, hdst, Bool.false_eq_true, if_false, if_neg (show ¬ 24 < b.hops + 1 by omega), hnext, h]

theorem Dev.rxResvReq_taken {x : Dev} (h : d.takeResv b.src b.dst (b.pay 2 1) n.val m (b.pay 0 2) = .inr x) :
    d.rxResvReq n.val b = x.queueControl m { b with hops := b.hops + 1 } false ∧
      x.reserved m (fun _ => false) = d.reserved m (resvIs b.src b.dst (b.pay 2 1)) + laneCost (b.pay 0 2) ∧
      x.reserved m (fun _ => false) ≤ d.get (F.HAY_LANE4_ABUDGET m) ∧
      (∀ k, k < 6 → x.get (F.HAY_LANE4_AUSED k) = x.reserved k (fun _ => false) % 65536) ∧
      ∃ r, x.findResv b.src b.dst (b.pay 2 1) = some r ∧ r.inLane = n.val ∧ r.outLane = m ∧ r.bytes = b.pay 0 2 ∧ r.queue ≠ 0 := by
  obtain ⟨hbudget, q, hq, hx⟩ := Dev.takeResv_is n.isLt h
  have hresv : x.hay.resv = ⟨b.src, b.dst, b.pay 2 1, n.val, m, b.pay 0 2, q⟩ :: d.hay.resv.filter fun r => !resvIs b.src b.dst (b.pay 2 1) r := by
    rw [hx, Dev.setResv_resv]
  have hcost := reserved_put hresv
  refine ⟨?_, hcost, hcost.le.trans hbudget, fun k hk => ?_, ?_⟩
  · simp only [Dev.rxResvReq, hsrc, hdst, Bool.false_eq_true, if_false, if_neg (show ¬ 24 < b.hops + 1 by omega), hnext, h]
  · rw [hx]
    exact Dev.setResv_used _ _ k hk
  · refine ⟨⟨b.src, b.dst, b.pay 2 1, n.val, m, b.pay 0 2, q⟩, ?_, rfl, rfl, rfl, hq⟩
    rw [Dev.findResv, hresv, List.find?_cons_of_pos (resvIs_self ..)]

end

/-! ### Release (R371, R387) -/

theorem Dev.emptyQueue_hay (d : Dev) (q : Nat) : (d.emptyQueue q).hay = d.hay :=
  (Dev.setCharge_hay ..).trans (((Dev.told_giveCells _ _).heard.hay).trans (d.setItems_hay q []))

theorem Dev.freeResv_eq {d : Dev} {src dst f : Nat} {r : Resv} (h : d.findResv src dst f = some r) :
    d.freeResv src dst f = (if r.queue = 0 then d else d.emptyQueue r.queue).setResv (d.hay.resv.filter fun x => !resvIs src dst f x) := by
  have hhay : (if r.queue = 0 then d else d.emptyQueue r.queue).hay = d.hay := by
    split_ifs
    · rfl
    · exact d.emptyQueue_hay _
  rw [← hhay]
  simp only [Dev.freeResv, h]

theorem Dev.freeResv_gone {d : Dev} {src dst f : Nat} {r : Resv} (h : d.findResv src dst f = some r) : (d.freeResv src dst f).findResv src dst f = none := by
  rw [Dev.freeResv_eq h, Dev.findResv, Dev.setResv_resv]
  refine List.find?_eq_none.mpr fun x hx => ?_
  simpa using (List.mem_filter.mp hx).2

/-! ### Bales kept (R378) -/

theorem Dev.showKept_hay (d : Dev) : d.showKept.hay = d.hay := by
  unfold Dev.showKept
  split
  · rfl
  · exact (Dev.only_putBytes _ _ _ _).heard.hay

theorem Dev.keepBale_is {d : Dev} {n : Nat} (b : Bale) (h : d.lar.qFenced.contains (262 + n) = false) :
    (d.keepBale n b).get F.HAY_INT_CTLRX = 1 ∧ (d.keepBale n b).hay.rxCount = d.hay.rxCount + 1 := by
  obtain ⟨x, hx⟩ : ∃ x, x = (d.enqueue (262 + n) b.bytes b.prio d.hay.rxCount false).1 := ⟨_, rfl⟩
  obtain ⟨y, hy⟩ : ∃ y : Dev, y = { x with hay := { x.hay with rxCount := x.hay.rxCount + 1 } } := ⟨_, rfl⟩
  have hxhay : x.hay = d.hay := hx ▸ d.enqueue_hay ..
  have hyhay : y.hay.rxCount = d.hay.rxCount + 1 := by rw [hy, ← hxhay]
  have heq : d.keepBale n b = (if y.is F.HAY_CRXSTAT_VALID then y else y.showKept).hayEvent 7 n 0 [0] := by
    rw [hy, hx, Dev.keepBale, if_neg (by rw [h]; decide)]
  rw [heq]
  refine ⟨Dev.raise_get_int _ _ _ _ _ _ (plainFld_of_fldId (by decide) (by decide) (by decide)) t000_lt, ?_⟩
  rw [Dev.hayEvent_hay]
  split_ifs
  · exact hyhay
  · rw [Dev.showKept_hay, hyhay]

/-! ### The requester (R372, R390) -/

theorem Dev.forwardControl_is {d : Dev} {n m : Nat} {b : Bale} (hhops : b.hops < 24) (hnext : d.nextHop b.dst = some m) :
    d.forwardControl n b = d.queueControl m { b with hops := b.hops + 1 } false := by
  simp only [Dev.forwardControl, if_neg (show ¬ 24 < b.hops + 1 by omega), hnext]

theorem Dev.pathUp_opened {d : Dev} {f : Nat} (h : (d.flow f).opening = true) : ∃ x : Dev,
    d.pathUp f = x.endTkts (isHayopen f) .done ∧ x.flowOpen f = true ∧ x.flow f = { d.flow f with opening := false } ∧
      d.Only { x with hay := d.hay } [F.HAY_FLOW_OPEN f] := by
  refine ⟨(d.modFlow f fun x => { x with opening := false }).set (F.HAY_FLOW_OPEN f) 1, ?_, ?_, (Dev.flow_of_hay rfl f).trans (d.flow_modFlow f fun x => { x with opening := false }), rfl,
    fun g hg => Dev.get_set_ne _ _ (hg _ (by simp))⟩
  · simp only [Dev.pathUp, if_pos h]
  · rw [Dev.flowOpen, Dev.is, Dev.get_set_same]
    rfl

/-- Settles O42: each function on a reservation by the unit's part in its path. -/
theorem hayReservations : Obligations.HayReservations := by
  intro d n b
  refine ⟨fun hsrc hdst hhops m hm hnext => ⟨fun h => ?_, fun x h => Dev.rxResvReq_taken hsrc hdst hhops hnext h⟩,
    fun hsrc hdst hhops hnext => ⟨d.noRoute n.val, d.noRoute_is n.val, ?_⟩, fun hsrc hdst => ?_, fun hdst hflow => ⟨?_, ?_⟩,
    fun f hdst hflow hopen => ⟨?_, ?_⟩, fun r hr hlane hdst => ?_, fun hdst hq => ?_, fun hdst hhops m hnext => ⟨?_, ?_, ?_⟩⟩
  · exact Dev.rxResvReq_refused hsrc hdst hhops hnext (Dev.takeResv_refused h)
  · simp only [Dev.rxResvReq, hsrc, hdst, Bool.false_eq_true, if_false, if_neg (show ¬ 24 < b.hops + 1 by omega), hnext]
  · simp only [Dev.rxResvReq, hsrc, hdst, Bool.false_eq_true, if_false, if_true]
  · simp only [Dev.rxResvAck, hdst, Bool.not_true, Bool.false_eq_true, if_false, hflow]
  · simp only [Dev.rxResvNak, hdst, Bool.not_true, Bool.false_eq_true, if_false, hflow]
  · simp only [Dev.rxResvNak, hdst, Bool.not_true, Bool.false_eq_true, if_false, hflow, if_pos hopen]
  · have heq : d.rxResvAck n.val b = d.pathUp f := by
      simp only [Dev.rxResvAck, hdst, Bool.not_true, Bool.false_eq_true, if_false, hflow]
    rw [heq]
    exact Dev.pathUp_opened hopen
  · simp only [Dev.rxResvFree, hr, if_neg hlane, if_pos hdst]
    exact Dev.freeResv_gone hr
  · rw [Dev.rxApp, if_pos hdst]
    exact Dev.keepBale_is b hq
  · rw [Dev.rxApp, if_neg (by rw [hdst]; decide), Dev.forwardControl_is hhops hnext]
  · rw [Dev.rxApp, if_neg (by rw [hdst]; decide), Dev.rxResvAck, if_pos (by rw [hdst]; rfl)]
  · rw [Dev.rxApp, if_neg (by rw [hdst]; decide), Dev.rxResvNak, if_pos (by rw [hdst]; rfl)]

end Sys2Proof.Machine

/-!
SUPPORT. The servo's filter and its steps.
-/
namespace Sys2Proof.Machine

open Sys2Proof

/-! ### The servo (R380 to R383) -/

theorem foldl_min_mem (l : List Int) (a : Int) : l.foldl min a = a ∨ l.foldl min a ∈ l := by
  induction l generalizing a with
  | nil => exact .inl rfl
  | cons b l ih =>
    rcases ih (min a b) with h | h
    · rcases min_choice a b with hm | hm
      · exact .inl (h.trans hm)
      · exact .inr (List.mem_cons.mpr (.inl (h.trans hm)))
    · exact .inr (List.mem_cons_of_mem _ h)

theorem foldl_max_mem (l : List Int) (a : Int) : l.foldl max a = a ∨ l.foldl max a ∈ l := by
  induction l generalizing a with
  | nil => exact .inl rfl
  | cons b l ih =>
    rcases ih (max a b) with h | h
    · rcases max_choice a b with hm | hm
      · exact .inl (h.trans hm)
      · exact .inr (List.mem_cons.mpr (.inl (h.trans hm)))
    · exact .inr (List.mem_cons_of_mem _ h)

theorem foldl_min_le (l : List Int) (a : Int) : l.foldl min a ≤ a := by
  induction l generalizing a with
  | nil => exact le_rfl
  | cons b l ih => exact (ih _).trans (min_le_left a b)

theorem le_foldl_max (l : List Int) (a : Int) : a ≤ l.foldl max a := by
  induction l generalizing a with
  | nil => exact le_rfl
  | cons b l ih => exact (le_max_left a b).trans (ih _)

/-- The filtered value lies between two of the delays. -/
theorem filtered_between (a : Int) (l : List Int) : (∃ lo ∈ a :: l, lo ≤ filtered (a :: l)) ∧ ∃ hi ∈ a :: l, filtered (a :: l) ≤ hi := by
  have hlo : (a :: l).foldl min a ∈ a :: l := (foldl_min_mem (a :: l) a).elim (fun h => h.symm ▸ List.mem_cons_self) id
  have hhi : (a :: l).foldl max a ∈ a :: l := (foldl_max_mem (a :: l) a).elim (fun h => h.symm ▸ List.mem_cons_self) id
  have hle : (a :: l).foldl min a ≤ (a :: l).foldl max a := (foldl_min_le (a :: l) a).trans (le_foldl_max (a :: l) a)
  obtain ⟨k, hk⟩ : ∃ k, k = Config.delayFilter (a :: l) := ⟨_, rfl⟩
  have heq : filtered (a :: l) = (a :: l).foldl min a + ((k % (((a :: l).foldl max a - (a :: l).foldl min a).toNat + 1) : Nat) : Int) := by rw [hk]; rfl
  generalize (a :: l).foldl min a = lo at *
  generalize (a :: l).foldl max a = hi at *
  have hlt : k % ((hi - lo).toNat + 1) < (hi - lo).toNat + 1 := Nat.mod_lt _ (Nat.succ_pos _)
  refine ⟨⟨lo, hlo, ?_⟩, hi, hhi, ?_⟩ <;> rw [heq] <;> omega

/-- Times step forward by whole micro-frames. -/
theorem microframes_up {e : Int} (h : step40 ≤ e) : let step := 40000000 * ((e + step40 - 1) / step40).toNat
    e ≤ 8 * (step : Int) ∧ 8 * (step : Int) < e + step40 ∧ step % 40000000 = 0 := by
  simp only [step40] at *
  omega

theorem microframes_down {o : Int} (h : step40 ≤ o) : let step := 40000000 * (o / step40).toNat
    step % 40000000 = 0 ∧ 8 * (step : Int) ≤ o ∧ o < 8 * (step : Int) + step40 := by
  simp only [step40] at *
  omega

/-- Offsets in a row that were small, after one more. -/
def Dev.goodAfter (d : Dev) (o : Int) : Nat := if (if o < 0 then -o else o) < 32 then d.alm.good + 1 else 0

/-- Offsets in a row that were large, after one more. -/
def Dev.badAfter (d : Dev) (o : Int) : Nat := if 400 < (if o < 0 then -o else o) then d.alm.bad + 1 else 0

/-- How many offsets in a row were small, and how many large. -/
def Dev.offsetCounted (d : Dev) (good bad : Nat) : Dev := { d with alm := { d.alm with good := good, bad := bad } }

/-- LOCKED after enough small offsets. -/
def Dev.servoLocks (d : Dev) (good : Nat) : Dev :=
  if 16 ≤ good ∧ !d.is F.ALM_STAT_LOCKED then (d.set F.ALM_STAT_LOCKED 1).almEvent 2 else d

/-- LOCKED lost after enough large ones. -/
def Dev.servoUnlocks (d : Dev) (bad : Nat) : Dev :=
  if 4 ≤ bad ∧ d.is F.ALM_STAT_LOCKED then ((d.set F.ALM_STAT_LOCKED 0).almEvent 3).oweFault 0x241 40 else d

/-- The counter slews, steps or pauses. -/
def Dev.servoActs (d : Dev) (o : Int) : Dev :=
  if o ≤ -step40 then
    if d.get F.ALM_STAT_CLASS = 0 then { d.set F.ALM_STAT_HOLDOVER 1 with alm := { d.alm with ahead := true } }
    else if d.is F.ALM_STAT_PAUSED then d else (d.set F.ALM_STAT_PAUSED 1).almEvent 4
  else
    let d4 := ((d.set F.ALM_STAT_HOLDOVER 0).set F.ALM_STAT_PAUSED 0).setB F.ALM_STAT_SLEWING (o != 0)
    { d4 with free := d4.free + 1
              alm := { d4.alm with ahead := false, step := if step40 ≤ o then 40000000 * (o / step40).toNat else 0,
                                   inc := servoInc (Config.servoRate d4.free o) } }

/-- The offset in nanoseconds, saturated to 32 bits. -/
def offsetNs (o : Int) : Int := o / 8 + (if o % 8 != 0 && Config.roundUp o then 1 else 0)

theorem Dev.offset_eq (d : Dev) (o : Int) : d.offset o =
    (((((d.set F.ALM_OFFSET_O ((max (-(2 ^ 31)) (min (2 ^ 31 - 1) (offsetNs o))) % (2 ^ 32)).toNat).offsetCounted (d.goodAfter o) (d.badAfter o)).servoLocks
      (d.goodAfter o)).servoUnlocks (d.badAfter o)).servoActs o) := by
  unfold Dev.servoActs
  unfold Dev.offset
  simp only [offsetNs]
  rfl

theorem Dev.almEvent_get (d : Dev) {bit : Nat} {g : Fld} (hg : QueFld 0 g) (hne : fldId (bitFld 0x1000C bit) ≠ fldId g) :
    (d.almEvent bit).get g = d.get g := Dev.raise_get_ne _ _ _ _ _ hne (by simpa using hg)

theorem Dev.almEvent_alm (d : Dev) (bit : Nat) : (d.almEvent bit).alm = d.alm :=
  (congrArg (fun y : Dev => y.alm) (d.heard_raise (bitFld 0x1000C bit) (0x1100 + bit) [0] 0 0 0).1 :)

theorem Dev.almEvent_int (d : Dev) {bit : Nat} (hbit : bit < 32) : (d.almEvent bit).get (bitFld 0x1000C bit) = 1 := by
  refine Dev.raise_get_int _ _ _ _ _ _ (plainFld_of_fldId ?_ ?_ ?_) t000_lt
  · simp only [fldId, bitFld]; omega
  · simp only [fldId, bitFld]; omega
  · simp only [List.mem_cons, List.not_mem_nil, or_false, forall_eq_or_imp, forall_eq, fldId, bitFld, F.LAR_LEAK_COUNT, F.ECC_INJ_COUNT, F.ECC_INJ_ARM]
    omega

theorem Dev.servoLocks_is (d : Dev) (good : Nat) : let e := d.servoLocks good
    e.alm = d.alm ∧ (16 ≤ good → e.get F.ALM_STAT_LOCKED = 1) ∧ (16 ≤ good → d.is F.ALM_STAT_LOCKED = false → e.get F.ALM_INT_LOCK = 1) ∧
      (good < 16 → e = d) ∧ ∀ g, QueFld 0 g → fldId F.ALM_STAT_LOCKED ≠ fldId g → fldId F.ALM_INT_LOCK ≠ fldId g → e.get g = d.get g := by
  unfold Dev.servoLocks
  by_cases h : 16 ≤ good ∧ d.is F.ALM_STAT_LOCKED = false
  · rw [if_pos (by simpa using h)]
    refine ⟨Dev.almEvent_alm _ 2, fun _ => ?_, fun _ _ => Dev.almEvent_int _ (by decide), fun hlt => by omega, fun g hg h1 h2 => ?_⟩
    · exact (Dev.almEvent_get _ (queFld_of_ids (by decide)) (by decide)).trans (Dev.get_set_same _ _ _)
    · exact (Dev.almEvent_get _ hg h2).trans (Dev.get_set_ne _ _ h1)
  · rw [if_neg (by simpa using h)]
    refine ⟨rfl, fun hge => ?_, fun hge hoff => absurd ⟨hge, hoff⟩ h, fun _ => rfl, fun _ _ _ _ => rfl⟩
    exact beq_iff_eq.mp (Bool.eq_true_of_not_eq_false fun hoff => h ⟨hge, hoff⟩)

theorem Dev.servoUnlocks_is (d : Dev) (bad : Nat) : let e := d.servoUnlocks bad
    e.alm = d.alm ∧ (4 ≤ bad → e.is F.ALM_STAT_LOCKED = false) ∧ (4 ≤ bad → d.is F.ALM_STAT_LOCKED = true → e.get F.ALM_INT_UNLOCK = 1) ∧
      (bad < 4 → e = d) ∧ ∀ g, QueFld 0 g → fldId F.ALM_STAT_LOCKED ≠ fldId g → fldId F.ALM_INT_UNLOCK ≠ fldId g → e.get g = d.get g := by
  unfold Dev.servoUnlocks
  by_cases h : 4 ≤ bad ∧ d.is F.ALM_STAT_LOCKED = true
  · rw [if_pos h]
    have hget {g : Fld} (hg : QueFld 0 g) (hne : fldId F.ALM_INT_UNLOCK ≠ fldId g) :
        (((d.set F.ALM_STAT_LOCKED 0).almEvent 3).oweFault 0x241 40).get g = (d.set F.ALM_STAT_LOCKED 0).get g := Dev.almEvent_get _ hg hne
    refine ⟨Dev.almEvent_alm _ 3, fun _ => ?_, fun _ _ => Dev.almEvent_int _ (by decide), fun hlt => by omega, fun g hg h1 h2 => ?_⟩
    · rw [Dev.is, hget (queFld_of_ids (by decide)) (by decide), Dev.get_set_same]
      rfl
    · exact (hget hg h2).trans (Dev.get_set_ne _ _ h1)
  · rw [if_neg h]
    exact ⟨rfl, fun hge => Bool.eq_false_of_not_eq_true fun hon => h ⟨hge, hon⟩, fun hge hon => absurd ⟨hge, hon⟩ h, fun _ => rfl, fun _ _ _ _ => rfl⟩

theorem servoInc_between (v : Nat) : 536870912000 - 107374182 ≤ servoInc v ∧ servoInc v ≤ 536870912000 + 107374182 := by
  have h : v % 214748365 < 214748365 := Nat.mod_lt _ (by decide)
  unfold servoInc
  omega

/-- The fields that the counter's action sets. -/
def servoActFlds : List Fld := [F.ALM_STAT_HOLDOVER, F.ALM_STAT_PAUSED, F.ALM_STAT_SLEWING, F.ALM_INT_PAUSE]

theorem Dev.servoActs_kept (d : Dev) (o : Int) : (d.servoActs o).alm.good = d.alm.good ∧ (d.servoActs o).alm.bad = d.alm.bad ∧
    ∀ g, QueFld 0 g → (∀ f ∈ servoActFlds, fldId f ≠ fldId g) → (d.servoActs o).get g = d.get g := by
  unfold Dev.servoActs
  split_ifs
  · exact ⟨rfl, rfl, fun g _ hne => Dev.get_set_ne _ _ (hne _ (by decide))⟩
  · exact ⟨rfl, rfl, fun _ _ _ => rfl⟩
  · refine ⟨by rw [Dev.almEvent_alm]; rfl, by rw [Dev.almEvent_alm]; rfl, fun g hg hne => ?_⟩
    exact (Dev.almEvent_get _ hg (hne _ (by decide : F.ALM_INT_PAUSE ∈ servoActFlds))).trans (Dev.get_set_ne _ _ (hne _ (by decide)))
  all_goals
    refine ⟨rfl, rfl, fun g _ hne => ?_⟩
    exact (Dev.get_set_ne _ _ (hne F.ALM_STAT_SLEWING (by decide))).trans ((Dev.get_set_ne _ _ (hne F.ALM_STAT_PAUSED (by decide))).trans
      (Dev.get_set_ne _ _ (hne F.ALM_STAT_HOLDOVER (by decide))))

theorem Dev.servoActs_slews (d : Dev) {o : Int} (h : -step40 < o) : let e := d.servoActs o
    e.get F.ALM_STAT_HOLDOVER = 0 ∧ e.get F.ALM_STAT_PAUSED = 0 ∧ e.get F.ALM_STAT_SLEWING = bitNat (o != 0) ∧ e.alm.ahead = false ∧
      536870912000 - 107374182 ≤ e.alm.inc ∧ e.alm.inc ≤ 536870912000 + 107374182 ∧ (o < step40 → e.alm.step = 0) ∧
      (step40 ≤ o → e.alm.step % 40000000 = 0 ∧ 8 * (e.alm.step : Int) ≤ o ∧ o < 8 * (e.alm.step : Int) + step40) := by
  obtain ⟨x, hx⟩ : ∃ x, x = ((d.set F.ALM_STAT_HOLDOVER 0).set F.ALM_STAT_PAUSED 0).setB F.ALM_STAT_SLEWING (o != 0) := ⟨_, rfl⟩
  obtain ⟨i, hi⟩ : ∃ i, i = servoInc (Config.servoRate x.free o) := ⟨_, rfl⟩
  have heq : d.servoActs o = { x with free := x.free + 1, alm := { x.alm with ahead := false, step := if step40 ≤ o then 40000000 * (o / step40).toNat else 0, inc := i } } := by
    rw [hi, hx, Dev.servoActs, if_neg (by omega)]
  have hholdover : x.get F.ALM_STAT_HOLDOVER = 0 := by
    rw [hx]
    exact (Dev.get_set_ne _ _ (by decide)).trans ((Dev.get_set_ne _ _ (by decide)).trans (Dev.get_set_same _ _ _))
  have hpaused : x.get F.ALM_STAT_PAUSED = 0 := by
    rw [hx]
    exact (Dev.get_set_ne _ _ (by decide)).trans (Dev.get_set_same _ _ _)
  have hslew : x.get F.ALM_STAT_SLEWING = bitNat (o != 0) := by
    rw [hx]
    refine (Dev.get_set_same _ _ _).trans ?_
    cases (o != 0) <;> rfl
  obtain ⟨hi1, hi2⟩ := servoInc_between (Config.servoRate x.free o)
  rw [← hi] at hi1 hi2
  simp only [heq]
  refine ⟨hholdover, hpaused, hslew, trivial, hi1, hi2, fun hlt => if_neg (by omega), fun hge => ?_⟩
  rw [if_pos hge]
  exact microframes_down hge

theorem Dev.servoActs_behind (d : Dev) {o : Int} (h : o ≤ -step40) (hclass : d.get F.ALM_STAT_CLASS = 0) :
    (d.servoActs o).get F.ALM_STAT_HOLDOVER = 1 ∧ (d.servoActs o).alm.ahead = true := by
  unfold Dev.servoActs
  rw [if_pos h, if_pos hclass]
  exact ⟨Dev.get_set_same _ _ _, rfl⟩

theorem Dev.servoActs_pauses (d : Dev) {o : Int} (h : o ≤ -step40) (hclass : d.get F.ALM_STAT_CLASS ≠ 0) :
    (d.servoActs o).is F.ALM_STAT_PAUSED = true ∧ (d.servoActs o).alm.ahead = d.alm.ahead := by
  unfold Dev.servoActs
  rw [if_pos h, if_neg hclass]
  split_ifs with hp
  · exact ⟨hp, rfl⟩
  · refine ⟨?_, by rw [Dev.almEvent_alm]; rfl⟩
    rw [Dev.is, Dev.almEvent_get _ (queFld_of_ids (by decide)) (by decide), Dev.get_set_same]
    rfl

theorem Dev.offset_is (d : Dev) (o : Int) : let e := d.offset o; let a : Int := if o < 0 then -o else o
    (∃ ns : Int, (ns = o / 8 ∨ (o % 8 ≠ 0 ∧ ns = o / 8 + 1)) ∧ e.get F.ALM_OFFSET_O = ((max (-(2 ^ 31)) (min (2 ^ 31 - 1) ns)) % 2 ^ 32).toNat) ∧
    e.alm.good = (if a < 32 then d.alm.good + 1 else 0) ∧ e.alm.bad = (if 400 < a then d.alm.bad + 1 else 0) ∧
    (16 ≤ e.alm.good → e.get F.ALM_STAT_LOCKED = 1) ∧ (16 ≤ e.alm.good → d.is F.ALM_STAT_LOCKED = false → e.get F.ALM_INT_LOCK = 1) ∧
    (4 ≤ e.alm.bad → e.is F.ALM_STAT_LOCKED = false) ∧ (4 ≤ e.alm.bad → d.is F.ALM_STAT_LOCKED = true → e.get F.ALM_INT_UNLOCK = 1) ∧
    (e.alm.good < 16 → e.alm.bad < 4 → e.get F.ALM_STAT_LOCKED = d.get F.ALM_STAT_LOCKED) ∧
    (-step40 < o → e.get F.ALM_STAT_HOLDOVER = 0 ∧ e.get F.ALM_STAT_PAUSED = 0 ∧ e.get F.ALM_STAT_SLEWING = bitNat (o != 0) ∧ e.alm.ahead = false ∧
      536870912000 - 107374182 ≤ e.alm.inc ∧ e.alm.inc ≤ 536870912000 + 107374182 ∧ (o < step40 → e.alm.step = 0) ∧
      (step40 ≤ o → e.alm.step % 40000000 = 0 ∧ 8 * (e.alm.step : Int) ≤ o ∧ o < 8 * (e.alm.step : Int) + step40)) ∧
    (o ≤ -step40 → d.get F.ALM_STAT_CLASS = 0 → e.get F.ALM_STAT_HOLDOVER = 1 ∧ e.alm.ahead = true) ∧
    (o ≤ -step40 → d.get F.ALM_STAT_CLASS ≠ 0 → e.is F.ALM_STAT_PAUSED = true ∧ e.alm.ahead = d.alm.ahead) := by
  obtain ⟨v, hv⟩ : ∃ v, v = ((max (-(2 ^ 31)) (min (2 ^ 31 - 1) (offsetNs o))) % (2 ^ 32)).toNat := ⟨_, rfl⟩
  obtain ⟨x, hx⟩ : ∃ x, x = (d.set F.ALM_OFFSET_O v).offsetCounted (d.goodAfter o) (d.badAfter o) := ⟨_, rfl⟩
  have hoff : x.get F.ALM_OFFSET_O = v := by
    rw [hx]
    exact (Dev.get_set_same _ _ _).trans (Nat.mod_eq_of_lt (by simp only [hv, F.ALM_OFFSET_O]; omega))
  have hkept {g : Fld} (hne : fldId F.ALM_OFFSET_O ≠ fldId g) : x.get g = d.get g := by
    rw [hx]
    exact Dev.get_set_ne _ _ hne
  have halm : x.alm = { d.alm with good := d.goodAfter o, bad := d.badAfter o } := by rw [hx]; rfl
  have heq : d.offset o = ((x.servoLocks (d.goodAfter o)).servoUnlocks (d.badAfter o)).servoActs o := by rw [hx, hv, Dev.offset_eq]
  have hexcl : ¬ (16 ≤ d.goodAfter o ∧ 4 ≤ d.badAfter o) := by
    unfold Dev.goodAfter Dev.badAfter
    split_ifs <;> omega
  have hns : offsetNs o = o / 8 ∨ (o % 8 ≠ 0 ∧ offsetNs o = o / 8 + 1) := by
    unfold offsetNs
    split_ifs with h
    · exact .inr ⟨by simpa using (Bool.and_eq_true_iff.mp h).1, rfl⟩
    · exact .inl (add_zero _)
  obtain ⟨hlalm, hllock, hlint, hlnone, hlget⟩ := x.servoLocks_is (d.goodAfter o)
  rw [heq]
  generalize x.servoLocks (d.goodAfter o) = y at *
  obtain ⟨hualm, hulock, huint, hunone, huget⟩ := y.servoUnlocks_is (d.badAfter o)
  generalize y.servoUnlocks (d.badAfter o) = z at *
  obtain ⟨hagood, habad, haget⟩ := z.servoActs_kept o
  have hzalm : z.alm = { d.alm with good := d.goodAfter o, bad := d.badAfter o } := hualm.trans (hlalm.trans halm)
  have hgood : (z.servoActs o).alm.good = d.goodAfter o := hagood.trans (congrArg Alm.good hzalm)
  have hbad : (z.servoActs o).alm.bad = d.badAfter o := habad.trans (congrArg Alm.bad hzalm)
  have hclass : z.get F.ALM_STAT_CLASS = d.get F.ALM_STAT_CLASS :=
    (huget _ (queFld_of_ids (by decide)) (by decide) (by decide)).trans ((hlget _ (queFld_of_ids (by decide)) (by decide) (by decide)).trans
      (hkept (by decide)))
  have hlocked : (z.servoActs o).get F.ALM_STAT_LOCKED = z.get F.ALM_STAT_LOCKED := haget _ (queFld_of_ids (by decide)) (by decide)
  have hxlocked : x.get F.ALM_STAT_LOCKED = d.get F.ALM_STAT_LOCKED := hkept (by decide)
  refine ⟨⟨offsetNs o, hns, ?_⟩, hgood, hbad, fun h => ?_, fun h hoff => ?_, fun h => ?_, fun h hon => ?_, fun h1 h2 => ?_, z.servoActs_slews,
    fun h hc => z.servoActs_behind h (hclass.trans hc), fun h hc => ?_⟩
  · rw [haget _ (queFld_of_ids (by decide)) (by decide), huget _ (queFld_of_ids (by decide)) (by decide) (by decide),
      hlget _ (queFld_of_ids (by decide)) (by decide) (by decide), hoff, hv]
  · rw [hgood] at h
    rw [hlocked, hunone (by omega), hllock h]
  · rw [hgood] at h
    rw [haget _ (queFld_of_ids (by decide)) (by decide), hunone (by omega)]
    exact hlint h ((congrArg (· == 1) hxlocked).trans hoff)
  · rw [hbad] at h
    exact (congrArg (· == 1) hlocked).trans (hulock h)
  · rw [hbad] at h
    rw [haget _ (queFld_of_ids (by decide)) (by decide)]
    refine huint h ?_
    rw [hlnone (by omega)]
    exact (congrArg (· == 1) hxlocked).trans hon
  · rw [hgood] at h1
    rw [hbad] at h2
    rw [hlocked, hunone h2, hlnone h1, hxlocked]
  · obtain ⟨hp, ha⟩ := z.servoActs_pauses h (fun h0 => hc (hclass.symm.trans h0))
    exact ⟨hp, ha.trans (congrArg Alm.ahead hzalm :)⟩

end Sys2Proof.Machine

/-!
SUPPORT. The tree and time bales.
-/
namespace Sys2Proof.Machine

open Sys2Proof

/-! ### Time bales (R380 to R383) -/

theorem Dev.rxDresp_is (d : Dev) (n sub : Nat) (b : Bale) : let e := d.rxDresp n sub b
    match (d.lane n).dreq with
    | none => e = d
    | some t1 =>
      if d.parentLane = some n ∧ b.pay 0 8 = t1 then
        let ds := ((diff8 (d.almNow8 sub) (8 * t1) - diff8 (8 * b.pay 16 8) (8 * b.pay 8 8)) / 2 :: (d.lane n).delays).take 8
        e.lane n = { d.lane n with dreq := none, delays := ds } ∧
        (∃ v : Int, (∃ lo ∈ ds, lo ≤ v) ∧ (∃ hi ∈ ds, v ≤ hi) ∧ e.get (F.ALM_LANE0_DELAY n) = (v % 2 ^ 24).toNat) ∧
        d.Only { e with hay := d.hay } [F.ALM_LANE0_DELAY n]
      else e = d := by
  cases hdreq : (d.lane n).dreq with
  | none => simp only [Dev.rxDresp, hdreq]
  | some t1 =>
    simp only
    have hcond : (d.parentLane ≠ some n ∨ b.pay 0 8 ≠ t1) ↔ ¬ (d.parentLane = some n ∧ b.pay 0 8 = t1) := by rw [not_and_or]
    by_cases h : d.parentLane = some n ∧ b.pay 0 8 = t1
    · simp only [if_pos h, Dev.rxDresp, hdreq, hcond, if_neg (not_not.mpr h)]
      obtain ⟨a, ha⟩ : ∃ a, a = (diff8 (d.almNow8 sub) (8 * t1) - diff8 (8 * b.pay 16 8) (8 * b.pay 8 8)) / 2 := ⟨_, rfl⟩
      simp only [← ha, List.take_succ_cons]
      obtain ⟨hlo, hhi⟩ := filtered_between a ((d.lane n).delays.take 7)
      refine ⟨(d.lane_modLane n fun y => { y with dreq := none, delays := a :: (d.lane n).delays.take 7 } :), ⟨_, hlo, hhi, ?_⟩, rfl, fun g hg => Dev.get_set_ne _ _ (hg _ (by simp))⟩
      refine (Dev.get_set_same _ _ _).trans (Nat.mod_eq_of_lt ?_)
      simp only [F.ALM_LANE0_DELAY]
      omega
    · simp only [if_neg h, Dev.rxDresp, hdreq, hcond, if_pos h]

theorem Dev.rxAhead_is {d : Dev} {n : Nat} (sub : Nat) (b : Bale) : let e := d.rxAhead n sub b
    if d.laneRole n ≠ 2 then DroppedBale d e n
    else match d.parentLane with
      | some m => e = d.sendBale m (d.mkLocal 3 5 b.data)
      | none => let o := diff8 (8 * b.pay 0 8) (d.almNow8 sub)
        if o < step40 then e = d else o ≤ 8 * (e.alm.step : Int) ∧ 8 * (e.alm.step : Int) < o + step40 ∧ e.alm.step % 40000000 = 0 ∧
          e = { d with alm := { d.alm with step := e.alm.step } } := by
  simp only [Dev.rxAhead]
  by_cases h : d.laneRole n ≠ 2
  · rw [if_pos h, if_pos h]
    exact d.dropBale_is n
  rw [if_neg h, if_neg h]
  cases d.parentLane with
  | some m => rfl
  | none =>
    simp only
    by_cases ho : diff8 (8 * b.pay 0 8) (d.almNow8 sub) < step40
    · rw [if_pos ho, if_pos ho]
    · rw [if_neg ho, if_neg ho]
      obtain ⟨h1, h2, h3⟩ := microframes_up (Int.not_lt.mp ho)
      exact ⟨h1, h2, h3, rfl⟩

theorem Dev.rxSync_is (d : Dev) (n sub : Nat) (b : Bale) : let e := d.rxSync n sub b
    if d.parentLane = some n then ∃ x : Dev, x = d.offset (diff8 (8 * b.pay 0 8) (8 * d.almTime + sub) +
        (d.get (F.ALM_LANE0_DELAY n) : Int) + signed16 (d.get (F.ALM_LANE4_ASYM n))) ∧
      (x.alm.ahead = false ∨ d.alm.ahead = true → e = x) ∧
      (x.alm.ahead = true → d.alm.ahead = false → e = x.sendBale n (x.mkLocal 3 5 (beBytes 8 (x.almNow8 sub / 8) ++ beBytes 2 x.unitId ++ [0, 0])))
    else e = d := by
  by_cases h : d.parentLane = some n
  · simp only [if_pos h, Dev.rxSync, if_neg (not_not.mpr h)]
    refine ⟨_, rfl, fun hx => if_neg ?_, fun hx hd => if_pos ?_⟩
    · rcases hx with hx | hx
      · exact fun hc => Bool.false_ne_true (hx.symm.trans (Bool.and_eq_true_iff.mp hc).1)
      · rw [hx, Bool.not_true, Bool.and_false]
        exact Bool.false_ne_true
    · rw [hd, Bool.not_false, Bool.and_true]
      exact hx
  · simp only [if_neg h, Dev.rxSync]
    exact if_pos h

/-! ### The tree (R366 to R370) -/

theorem mapFind_put_of_ne {α : Type} [DecidableEq α] {dflt v : α} {m : Map α} {k : Nat} (h : v ≠ dflt) :
    mapFind (mapPut dflt m k v) k = some v := by
  unfold mapPut
  rw [if_neg h]
  exact mapFind_insert_same _ _ _ (mapFind_erase_same _ _)

/-- The entry of a ROLL on lane `n` names this unit, or one that is routed otherwise. -/
def Dev.rollBad (d : Dev) (n : Nat) (e : Nat × Bool) : Bool :=
  d.isMe e.1 || (match mapFind d.hay.route e.1 with
    | none => false
    | some (l, a) => l != n + 1 || a != e.2)

theorem Dev.rollEntry_eq (d : Dev) (n : Nat) (e : Nat × Bool) : d.rollEntry n e =
    if d.rollBad n e then d.sendBale n (d.mkLocal 4 3 (beBytes 2 e.1))
    else { d with hay := { d.hay with route := mapPut (0, false) d.hay.route e.1 (n + 1, e.2) } } := rfl

theorem Dev.rollEntry_is {d : Dev} {n i : Nat} {a : Bool} (hup : d.laneUp n = true) (hphy : d.phyHeld = false) :
    (d.isMe i = false → (mapFind d.hay.route i = none ∨ mapFind d.hay.route i = some (n + 1, a)) →
      mapFind (d.rollEntry n (i, a)).hay.route i = some (n + 1, a) ∧ (d.rollEntry n (i, a)).out = d.out) ∧
    (d.isMe i = true ∨ (∃ r, mapFind d.hay.route i = some r ∧ r ≠ (n + 1, a)) →
      d.rollEntry n (i, a) = d.emit .bale n [4] (wireBale (d.mkLocal 4 3 (beBytes 2 i)).bytes)) := by
  rw [Dev.rollEntry_eq]
  refine ⟨fun hme hroute => ?_, fun h => ?_⟩
  · have hgood : d.rollBad n (i, a) = false := by
      unfold Dev.rollBad
      rcases hroute with h | h <;> simp [hme, h]
    rw [hgood, if_neg Bool.false_ne_true]
    exact ⟨mapFind_put_of_ne (dflt := ((0, false) : Nat × Bool)) (v := (n + 1, a)) (by simp), rfl⟩
  · have hbad : d.rollBad n (i, a) = true := by
      unfold Dev.rollBad
      rcases h with hme | ⟨⟨l, a'⟩, hr, hne⟩
      · simp [hme]
      · simp only [ne_eq, Prod.mk.injEq, not_and_or] at hne
        simp [hr, hne]
    rw [if_pos hbad]
    exact Dev.sendBale_up hup hphy _

theorem Dev.rxReject_is (d : Dev) (n : Nat) (b : Bale) : let e := d.rxReject n b
    if d.laneRole n ≠ 1 then DroppedBale d e n
    else if d.isMe (b.pay 0 2) = true then
      ∃ x : Dev, e = x.chooseParent ∧ x.hay = { d.hay with alone := 1 } ∧ x.get F.HAY_INT_DUPID = 1 ∧ .fault (0x220 + n) 38 ∈ x.lar.due ∧
        d.Told { x with hay := d.hay } [F.HAY_INT_DUPID]
    else e = match d.routeLane (b.pay 0 2) with
      | none => d
      | some m => d.sendBale m (d.mkLocal 4 3 (beBytes 2 (b.pay 0 2))) := by
  simp only [Dev.rxReject]
  by_cases h1 : d.laneRole n ≠ 1
  · rw [if_pos h1, if_pos h1]
    exact d.dropBale_is n
  rw [if_neg h1, if_neg h1]
  by_cases h2 : d.isMe (b.pay 0 2) = true
  · rw [if_pos h2, if_pos h2]
    obtain ⟨y, hy⟩ : ∃ y : Dev, y = { d with hay := { d.hay with alone := 1 } } := ⟨_, rfl⟩
    have htold := y.told_raise (bitFld 0xF010 4) 0x1004 [0] n 0 0 t000_lt
    have hhay := y.hayEvent_hay 4 n 0 [0]
    have hyhay : y.hay = { d.hay with alone := 1 } := by rw [hy]
    have hyd : { y with hay := d.hay } = d := by rw [hy]
    have hyget (g : Fld) : y.get g = d.get g := by rw [hy]; rfl
    rw [← hy]
    refine ⟨_, rfl, hhay.trans hyhay, Dev.raise_get_int _ _ _ _ _ _ (plainFld_of_fldId (by decide) (by decide) (by decide)) t000_lt,
      List.mem_append_right _ (List.mem_singleton_self _), ?_, fun g hg hne => (htold.2 g hg hne).trans (hyget g)⟩
    obtain ⟨z, hz⟩ : ∃ z, z = y.raise (bitFld 0xF010 4) 0x1004 [0] n 0 0 := ⟨_, rfl⟩
    have hzd : { z with hay := d.hay } = { d with fld := z.fld, lar := z.lar } := by
      have h1 := (congrArg (fun w : Dev => { w with hay := d.hay }) htold.1 :)
      rw [← hz] at h1
      exact h1.trans (congrArg (fun w : Dev => { w with fld := z.fld, lar := z.lar }) hyd :)
    have hz' : (y.hayEvent 4 n 0 [0]) = z := by rw [hz]; rfl
    rw [hz']
    exact (congrArg (fun w : Dev => w.oweFault (0x220 + n) 38) hzd :)
  · rw [if_neg h2, if_neg h2] <;> rfl

theorem Dev.rxBcast_is (d : Dev) (n : Nat) (b : Bale) : let e := d.rxBcast n b
    if d.laneRole n = 3 then DroppedBale d e n
    else ∃ x : Dev, x = d.keepBale n b ∧ (d.lar.qFenced.contains (262 + n) = false → x.get F.HAY_INT_CTLRX = 1) ∧
      if b.hops < 24 then e = (x.treeLanes.filter (· != n)).foldl (fun d m => d.sendBale m { b with hops := b.hops + 1 }) x
      else DroppedBale x e n := by
  simp only [Dev.rxBcast]
  by_cases h1 : d.laneRole n = 3
  · rw [if_pos h1, if_pos h1]
    exact d.dropBale_is n
  rw [if_neg h1, if_neg h1]
  refine ⟨_, rfl, fun h => (Dev.keepBale_is b h).1, ?_⟩
  by_cases h2 : b.hops < 24
  · rw [if_pos h2, if_neg (by omega)]
  · rw [if_neg h2, if_pos (by omega)]
    exact Dev.dropBale_is _ n

theorem ofKind_iff {t k : Nat} {b : Bale} : ofKind t k b = true ↔ b.type = t ∧ b.sub = k := by simp [ofKind]

/-- Settles O43: each bale of the tree and of time by its branches. -/
theorem hayTree : Obligations.HayTree := by
  intro s n sub wait l hup hlane hphy hwire b hb
  have hrx {i j t k : Nat} {e : Dev} (ht : b.type = t) (hk : b.sub = k) (he : s.dev.rxBale n.val i j b = e) :
      s.dev.rxChecked n.val i j l (ofKind t k) = e := by
    rw [Dev.rxChecked_some hlane hphy hwire (ofKind_iff.mpr ⟨hb ▸ ht, hb ▸ hk⟩), ← hb, he]
  refine ⟨fun ht hk => Ends.of_act hup ?_, fun ht hk => Ends.of_act hup ?_, fun ht hk => Ends.of_act hup ?_, fun ht hk => Ends.of_act hup ?_,
    fun ht hk => Ends.of_act hup ?_, fun ht hk => Ends.of_act hup ?_, fun ht hk => Ends.of_act hup ?_, fun d i a hl hp => Dev.rollEntry_is hl hp,
    fun ht hk => Ends.of_act hup ?_, fun ht hk => Ends.of_act hup ?_, fun d o => d.offset_is o⟩
  · rw [hrx (e := s.dev.rxSync n.val sub.val b) ht hk (by simp only [Dev.rxBale, ht, hk])]
    exact s.dev.rxSync_is n.val sub.val b
  · rw [hrx (e := s.dev.rxDreq n.val sub.val wait.toNat b) ht hk (by simp only [Dev.rxBale, ht, hk])]
    exact Dev.sendBale_up hlane hphy _
  · rw [hrx (e := s.dev.rxDresp n.val sub.val b) ht hk (by simp only [Dev.rxBale, ht, hk])]
    exact s.dev.rxDresp_is n.val sub.val b
  · rw [hrx (e := s.dev.rxAnnounce n.val b) ht hk (by simp only [Dev.rxBale, ht, hk])]
    exact ⟨_, rfl, rfl, s.dev.lane_modLane n.val _⟩
  · rw [hrx (e := s.dev.rxAhead n.val sub.val b) ht hk (by simp only [Dev.rxBale, ht, hk])]
    exact Dev.rxAhead_is sub.val b
  · exact hrx (e := s.dev) ht hk (by simp only [Dev.rxBale, ht, hk])
  · rw [hrx (e := s.dev.rxRoll n.val b) ht hk (by simp only [Dev.rxBale, ht, hk]), Dev.rxRoll]
    by_cases h : s.dev.laneRole n.val = 1
    · rw [if_pos h, if_pos h]
      exact s.dev.dropBale_is n.val
    · rw [if_neg h, if_neg h]
      exact ⟨_, rfl, rfl, s.dev.lane_modLane n.val _⟩
  · rw [hrx (e := s.dev.rxReject n.val b) ht hk (by simp only [Dev.rxBale, ht, hk])]
    exact s.dev.rxReject_is n.val b
  · rw [hrx (e := s.dev.rxBcast n.val b) ht hk (by simp only [Dev.rxBale, ht, hk])]
    exact s.dev.rxBcast_is n.val b

end Sys2Proof.Machine

/-!
SUPPORT. What Haywain sends by the clock, and its route entries.
-/
namespace Sys2Proof.Machine

open Sys2Proof

/-! ### What a unit sends by the clock (R360, R366, R368, R380, R383) -/

/-- Bales sent one after another on lanes that are UP stand in the output, the last one first. -/
theorem Dev.foldl_sendBale {α : Type} {lane : α → Nat} {bale : Dev → α → Bale} {d : Dev} (hphy : d.phyHeld = false)
    (hbale : ∀ o a, bale { d with out := o } a = bale d a) (l : List α) (hup : ∀ a ∈ l, d.laneUp (lane a) = true) :
    l.foldl (fun d a => d.sendBale (lane a) (bale d a)) d =
      { d with out := (l.reverse.map fun a => ⟨.bale, lane a, [(bale d a).type], wireBale (bale d a).bytes⟩) ++ d.out } := by
  induction l using List.reverseRecOn with
  | nil => rfl
  | append_singleton l a ih =>
    rw [List.foldl_append, ih fun x hx => hup x (List.mem_append_left _ hx), List.reverse_append, List.map_append, List.append_assoc]
    generalize l.reverse.map (fun a => (⟨.bale, lane a, [(bale d a).type], wireBale (bale d a).bytes⟩ : Out)) ++ d.out = o at *
    have hsend := Dev.sendBale_up (d := { d with out := o }) (hup a (by simp)) hphy (bale d a)
    rw [List.foldl_cons, List.foldl_nil, hbale, hsend]
    rfl

theorem Dev.upLanes_up {d : Dev} : ∀ n ∈ d.upLanes, d.laneUp n = true := fun _ h => (List.mem_filter.mp h).2

theorem Dev.helloTx_is {d : Dev} (hphy : d.phyHeld = false) : d.helloTx =
    { d with out := (d.upLanes.reverse.map fun n => ⟨.bale, n, [4], wireBale (d.mkLocal 4 1 []).bytes⟩) ++ d.out } :=
  Dev.foldl_sendBale (lane := id) (bale := fun d _ => d.mkLocal 4 1 []) hphy (fun _ _ => rfl) _ Dev.upLanes_up

/-- The sequence number of the next announcement. -/
def Dev.nextSeq (d : Dev) : Nat := if d.is F.HAY_STAT_GM = true ∧ d.upLanes ≠ [] then (d.hay.gmSeq + 1) % 2 ^ 32 else d.hay.gmSeq

/-- What an announcement carries. -/
def Dev.announced (d : Dev) : List Byte :=
  beBytes 4 (d.get F.ALM_GMKEY_KEY) ++ beBytes 4 d.hay.gmSeq ++ [BitVec.ofNat 8 (d.get F.HAY_STAT_HOPS), 0, 0, 0]

theorem Dev.announceTx_eq (d : Dev) : d.announceTx =
    let x : Dev := { d with hay := { d.hay with gmSeq := d.nextSeq } }
    x.upLanes.foldl (fun d n => d.sendBale n (d.mkLocal 3 4 x.announced)) x := by
  have hcond : (if d.is F.HAY_STAT_GM && d.upLanes != [] then { d with hay := { d.hay with gmSeq := (d.hay.gmSeq + 1) % 2 ^ 32 } } else d) =
      { d with hay := { d.hay with gmSeq := d.nextSeq } } := by
    unfold Dev.nextSeq
    by_cases h : d.is F.HAY_STAT_GM = true ∧ d.upLanes ≠ []
    · rw [if_pos h, if_pos (by simpa using h)]
    · rw [if_neg h, if_neg (by simpa using h)]
  exact congrArg (fun x : Dev => x.upLanes.foldl (fun d n => d.sendBale n (d.mkLocal 3 4 x.announced)) x) hcond

theorem Dev.announceTx_is {d : Dev} (hphy : d.phyHeld = false) : d.announceTx =
    { d with hay := { d.hay with gmSeq := d.nextSeq }, out := (d.upLanes.reverse.map fun n => ⟨.bale, n, [3], wireBale (d.mkLocal 3 4 (beBytes 4 (d.get F.ALM_GMKEY_KEY) ++ beBytes 4 d.nextSeq ++ [BitVec.ofNat 8 (d.get F.HAY_STAT_HOPS), 0, 0, 0])).bytes⟩) ++ d.out } := by
  rw [Dev.announceTx_eq]
  obtain ⟨x, hx⟩ : ∃ x : Dev, x = { d with hay := { d.hay with gmSeq := d.nextSeq } } := ⟨_, rfl⟩
  have hx' : x.phyHeld = false := by rw [hx]; exact hphy
  have hsend := Dev.foldl_sendBale (lane := id) (bale := fun e _ => e.mkLocal 3 4 x.announced) hx' (fun _ _ => rfl) _ x.upLanes_up
  rw [← hx]
  refine hsend.trans ?_
  rw [hx]
  rfl

theorem Dev.syncTx_is {d : Dev} (hphy : d.phyHeld = false) (sub : Nat) : d.syncTx sub =
    { d with out := ((d.upLanes.filter fun n => d.laneRole n == 2).reverse.map fun n => ⟨.bale, n, [3], wireBale (d.mkLocal 3 1 (beBytes 8 (d.almNow8 sub / 8))).bytes⟩) ++ d.out } :=
  Dev.foldl_sendBale (lane := id) (bale := fun d _ => d.mkLocal 3 1 (beBytes 8 (d.almNow8 sub / 8))) hphy (fun _ _ => rfl) _
    fun n h => Dev.upLanes_up n (List.mem_filter.mp h).1

section
variable {d : Dev} {n : Nat} (hparent : d.parentLane = some n) (hup : d.laneUp n = true) (hphy : d.phyHeld = false)
include hparent hup hphy

theorem Dev.rollTx_is : d.rollTx = { d with out := ((pieces 256 17 d.rollList).reverse.map fun l => ⟨.bale, n, [4], wireBale (d.mkLocal 4 2 ((l.map (beBytes 2)).flatten)).bytes⟩) ++ d.out } := by
  simp only [Dev.rollTx, hparent]
  exact Dev.foldl_sendBale (lane := fun _ => n) (bale := fun d (l : List Nat) => d.mkLocal 4 2 ((l.map (beBytes 2)).flatten)) hphy (fun _ _ => rfl) _
    fun _ _ => hup

theorem Dev.dreqTx_is (sub : Nat) : let e := d.dreqTx sub
    e.lane n = { d.lane n with dreq := some (d.almNow8 sub / 8) } ∧
    e.out = ⟨.bale, n, [3], wireBale (d.mkLocal 3 2 (beBytes 8 (d.almNow8 sub / 8))).bytes⟩ :: d.out ∧ e = { d with hay := e.hay, out := e.out } := by
  intro e
  obtain ⟨x, hx⟩ : ∃ x, x = d.modLane n (fun x => { x with dreq := some (d.almNow8 sub / 8) }) := ⟨_, rfl⟩
  have he : e = x.emit .bale n [3] (wireBale (d.mkLocal 3 2 (beBytes 8 (d.almNow8 sub / 8))).bytes) := by
    have hsend := Dev.sendBale_up (d := x) (n := n) (by rw [hx]; exact hup) (by rw [hx]; exact hphy) (d.mkLocal 3 2 (beBytes 8 (d.almNow8 sub / 8)))
    refine Eq.trans ?_ hsend
    simp only [e, Dev.dreqTx, hparent, hup, hphy, Bool.not_true, Bool.or_self, Bool.false_eq_true, if_false, hx]
  rw [he, hx]
  exact ⟨d.lane_modLane n fun x => { x with dreq := some (d.almNow8 sub / 8) }, rfl, rfl⟩

theorem Dev.aheadTx_is (sub : Nat) : d.aheadTx sub = if d.alm.ahead then d.emit .bale n [3] (wireBale (d.mkLocal 3 5 (beBytes 8 (d.almNow8 sub / 8) ++ beBytes 2 d.unitId ++ [0, 0])).bytes) else d := by
  simp only [Dev.aheadTx, hparent]
  split_ifs
  · exact Dev.sendBale_up hup hphy _
  · rfl
end

theorem parentSends_none {s : State} (h : s.dev.parentLane = none) (sub : Fin 334) :
    ∀ c ∈ [Instr.dreqTx sub, .rollTx, .aheadRepeat sub, .gmseqTimeout], ∃ f : Dev → Dev, exec c s = act s f ∧ f s.dev = s.dev := by
  intro c hc
  simp only [List.mem_cons, List.not_mem_nil, or_false] at hc
  rcases hc with rfl | rfl | rfl | rfl
  · exact ⟨_, rfl, by simp only [Dev.dreqTx, h]⟩
  · exact ⟨_, rfl, by simp only [Dev.rollTx, h]⟩
  · exact ⟨_, rfl, by simp only [Dev.aheadTx, h]⟩
  · exact ⟨_, rfl, by simp only [Dev.gmseqTimeout, h, Option.isNone_none, if_true]⟩

theorem Dev.gmseqTimeout_is {d : Dev} (h : d.parentLane ≠ none) : ∃ x : Dev, d.gmseqTimeout = x.chooseParent ∧ x = { d with hay := x.hay } ∧
    mapGet (2 ^ 32) x.hay.seen (d.get F.ALM_GMKEY_KEY) = d.hay.gmSeq ∧ x.hay.lane = d.hay.lane ∧ x.hay.route = d.hay.route :=
  ⟨{ d with hay := { d.hay with seen := mapPut (2 ^ 32) d.hay.seen (d.get F.ALM_GMKEY_KEY) d.hay.gmSeq } },
    if_neg (by simpa using h), rfl, mapGet_put_same _ _ _, rfl, rfl⟩

/-! ### Route entries (R369) -/

theorem Dev.routeExpiry_some {d : Dev} {i n : Nat} {a : Bool} (h : mapFind d.hay.route i = some (n + 1, a)) : ∃ x : Dev,
    d.routeExpiry i = x.showUnits.showRoles.routesMoved ∧ x = { d with hay := x.hay } ∧ x.hay.route = mapErase d.hay.route i ∧
    ((∀ r ∈ x.hay.route, r.2.1 ≠ n + 1) → (x.lane n).child = false) := by
  obtain ⟨y, hy⟩ : ∃ y : Dev, y = { d with hay := { d.hay with route := mapErase d.hay.route i } } := ⟨_, rfl⟩
  have heq : d.routeExpiry i = (if y.hay.route.any fun e => e.2.1 == n + 1 then y else y.modLane n fun x => { x with child := false }).showUnits.showRoles.routesMoved := by
    rw [hy]
    simp only [Dev.routeExpiry, h]
    rfl
  refine ⟨_, heq, ?_⟩
  split_ifs with hany
  · refine ⟨by rw [hy], by rw [hy], fun hnone => ?_⟩
    obtain ⟨r, hr, hl⟩ := List.any_eq_true.mp hany
    exact absurd (by simpa using hl) (hnone r hr)
  · refine ⟨by rw [hy]; rfl, by rw [hy]; rfl, fun _ => ?_⟩
    rw [Dev.lane_modLane]

theorem Dev.routeExpiry_none {d : Dev} {i : Nat} (h : mapFind d.hay.route i = none) : let e := d.routeExpiry i
    if d.isMe i = true ∧ d.hay.alone = 1 then e = ({ d with hay := { d.hay with alone := 0 } } : Dev).chooseParent else e = d := by
  simp only [Dev.routeExpiry, h]
  by_cases hme : d.isMe i = true ∧ d.hay.alone = 1
  · rw [if_pos hme, if_pos (by simpa using hme)]
  · rw [if_neg hme, if_neg (by simpa using hme)]

end Sys2Proof.Machine

/-!
SUPPORT. Lanes that come UP, train and fail.
-/
namespace Sys2Proof.Machine

open Sys2Proof

/-! ### Fields of Haywain that pairing and its events leave alone -/

theorem yokFld_of_hay {g : Fld} (hlo : 32 * 0xF040 ≤ fldId g) (hhi : fldId g < 32 * 0xF800) : YokFld g := by
  refine ⟨queFld_of_ids fun f hf => ?_, fun f hf => ?_⟩
  · simp only [List.mem_cons, List.not_mem_nil, or_false] at hf
    have hout : fldId f < 32 * 0xF040 ∨ 32 * 0xF800 ≤ fldId f := by
      rcases hf with rfl | rfl | rfl | rfl | rfl <;> decide
    omega
  · have hout : 32 * 0xF800 ≤ fldId f := by
      revert f
      decide
    omega

theorem yokFld_lane (n : Fin 6) : YokFld (F.HAY_LANE0_STATE n.val) ∧ YokFld (F.HAY_LANE0_NBR n.val) :=
  ⟨yokFld_of_hay (by simp only [fldId, F.HAY_LANE0_STATE]; omega) (by simp only [fldId, F.HAY_LANE0_STATE]; omega),
    yokFld_of_hay (by simp only [fldId, F.HAY_LANE0_NBR]; omega) (by simp only [fldId, F.HAY_LANE0_NBR]; omega)⟩

theorem Dev.hayEvent_get (d : Dev) {bit : Nat} {g : Fld} (hg : QueFld 0 g) (hne : fldId (bitFld 0xF010 bit) ≠ fldId g) (inst arg : Nat) :
    (d.hayEvent bit inst arg [0]).get g = d.get g := Dev.raise_get_ne _ _ _ _ _ hne (by simpa using hg)

theorem Dev.hayEvent_int (d : Dev) {bit : Nat} (hbit : bit < 32) (inst arg : Nat) : (d.hayEvent bit inst arg [0]).get (bitFld 0xF010 bit) = 1 := by
  refine Dev.raise_get_int _ _ _ _ _ _ (plainFld_of_fldId ?_ ?_ ?_) t000_lt
  · simp only [fldId, bitFld]; omega
  · simp only [fldId, bitFld]; omega
  · simp only [fldId, bitFld, List.mem_cons, List.not_mem_nil, or_false, forall_eq_or_imp, forall_eq, F.LAR_LEAK_COUNT, F.ECC_INJ_COUNT, F.ECC_INJ_ARM]
    omega

theorem Dev.Pairs.hay {d e : Dev} (h : d.Pairs e) : e.hay = d.hay := (congrArg (fun y : Dev => y.hay) h.1 :)

theorem Dev.lane_of_hay {d e : Dev} (h : e.hay = d.hay) (n : Nat) : e.lane n = d.lane n := by simp only [Dev.lane, h]

/-! ### A lane comes UP, or trains again (R358, R360, R376) -/

/-- A lane's control bales are numbered from 0 again, and those that wait stay. -/
def HLane.restarted (x : HLane) : HLane :=
  { x with tx := x.unacked.length, rx := 0, credit := 0, resends := 0, ackDue := true, dreq := none,
           unacked := x.unacked.zipIdx.map fun e => (e.2, e.1.2) }

theorem HLane.restarted_numbers (x : HLane) : x.restarted.unacked.map (·.1) = List.range x.unacked.length := by
  simp only [HLane.restarted, List.map_map]
  exact List.zipIdx_map_snd 0 x.unacked ▸ (List.range_eq_range' ▸ rfl)

/-- The lane shown UP with its neighbour. -/
def Dev.laneShown (d : Dev) (n nbr : Nat) : Dev :=
  ((d.set (F.HAY_LANE0_STATE n) 3).set (F.HAY_LANE0_NBR n) nbr).modLane n HLane.restarted

/-- The peer behind HLY is to be heard afresh. -/
def Dev.peerUnheard (d : Dev) : Dev := d.modYok fun y => { y with hbseq := 0, seen := false, peer := none }

theorem Dev.laneCameUp_eq {d : Dev} {n : Nat} (hen : d.laneEnabled n = true) (hphy : d.phyHeld = false) (hup : d.laneUp n = false) (nbr : Nat) :
    d.laneCameUp n nbr = ((if n = 5 then (d.laneShown n nbr).peerUnheard.yokEval else d.laneShown n nbr).hayEvent 0 n 0 [0]).showRoles :=
  if_neg (by simp [hen, hphy, hup])

theorem Dev.laneCameUp_none {d : Dev} {n : Nat} (h : d.laneEnabled n = false ∨ d.phyHeld = true ∨ d.laneUp n = true) (nbr : Nat) : d.laneCameUp n nbr = d :=
  if_pos (by simpa [or_assoc] using h)

theorem Dev.laneShown_is (d : Dev) (n nbr : Nat) : let e := d.laneShown n nbr
    e.get (F.HAY_LANE0_STATE n) = 3 ∧ e.get (F.HAY_LANE0_NBR n) = nbr % 4096 ∧ e.lane n = (d.lane n).restarted := by
  refine ⟨?_, (Dev.get_set_same _ _ _ :), Dev.lane_modLane _ _ _⟩
  refine (Dev.get_set_ne _ nbr (f := F.HAY_LANE0_NBR n) (g := F.HAY_LANE0_STATE n) ?_).trans (Dev.get_set_same d _ 3)
  simp only [fldId, F.HAY_LANE0_NBR, F.HAY_LANE0_STATE]
  omega

theorem Dev.laneCameUp_is {d : Dev} (n : Fin 6) (nbr : BitVec 12) (hen : d.laneEnabled n.val = true) (hphy : d.phyHeld = false) (hup : d.laneUp n.val = false) :
    ∃ x : Dev, d.laneCameUp n.val nbr.toNat = x.showRoles ∧ x.laneUp n.val = true ∧ x.get (F.HAY_LANE0_NBR n.val) = nbr.toNat ∧ x.get F.HAY_INT_LANEUP = 1 ∧
      (x.lane n.val).tx = (d.lane n.val).unacked.length ∧ (x.lane n.val).rx = 0 ∧ (x.lane n.val).credit = 0 ∧
      (x.lane n.val).unacked.map (·.1) = List.range (d.lane n.val).unacked.length := by
  obtain ⟨y, hy⟩ : ∃ y, y = d.laneShown n.val nbr.toNat := ⟨_, rfl⟩
  obtain ⟨z, hz⟩ : ∃ z, z = if n.val = 5 then y.peerUnheard.yokEval else y := ⟨_, rfl⟩
  obtain ⟨hstate, hnbr, hlane⟩ := hy ▸ d.laneShown_is n.val nbr.toNat
  obtain ⟨hyokState, hyokNbr⟩ := yokFld_lane n
  have hzlane : z.lane n.val = (d.lane n.val).restarted := by
    rw [← hlane, hz]
    split_ifs
    · exact Dev.lane_of_hay y.peerUnheard.pairs_yokEval.hay _
    · rfl
  have hzget (g : Fld) (hg : YokFld g) : z.get g = y.get g := by
    rw [hz]
    split_ifs
    · exact y.peerUnheard.pairs_yokEval.2.2.2 g hg
    · rfl
  have hget (g : Fld) (hg : YokFld g) (hne : fldId (bitFld 0xF010 0) ≠ fldId g) : (z.hayEvent 0 n.val 0 [0]).get g = y.get g :=
    (z.hayEvent_get hg.1 hne _ _).trans (hzget g hg)
  have hxlane : (z.hayEvent 0 n.val 0 [0]).lane n.val = (d.lane n.val).restarted :=
    (Dev.lane_of_hay (z.hayEvent_hay 0 n.val 0 [0]) _).trans hzlane
  refine ⟨z.hayEvent 0 n.val 0 [0], (Dev.laneCameUp_eq hen hphy hup _).trans (by rw [hz, hy]), ?_, ?_, z.hayEvent_int (by decide) _ _, ?_⟩
  · refine beq_iff_eq.mpr ((hget _ hyokState ?_).trans hstate)
    simp only [fldId, bitFld, F.HAY_LANE0_STATE]
    omega
  · refine (hget _ hyokNbr ?_).trans (hnbr.trans (Nat.mod_eq_of_lt nbr.isLt))
    simp only [fldId, bitFld, F.HAY_LANE0_NBR]
    omega
  · rw [hxlane]
    exact ⟨rfl, rfl, rfl, HLane.restarted_numbers _⟩

theorem Dev.trainTimeout_is (d : Dev) (n : Nat) : let e := d.trainTimeout n
    if d.laneEnabled n = true ∧ d.laneUp n = false then e.get (F.HAY_LANE0_STATE n) = 1 ∧ d.Only e [F.HAY_LANE0_STATE n] else e = d := by
  simp only [Dev.trainTimeout]
  by_cases h : d.laneEnabled n = true ∧ d.laneUp n = false
  · rw [if_pos h, if_pos (by simpa using h)]
    exact ⟨Dev.get_set_same _ _ _, d.only_set _ _⟩
  · rw [if_neg h, if_neg (by simpa using h)]

/-! ### A lane fails (R360, R387, R390) -/

/-- The lane shown as no longer UP. -/
def Dev.laneDark (d : Dev) (n : Nat) : Dev := d.set (F.HAY_LANE0_STATE n) (if d.laneEnabled n then 2 else 0)

/-- Pairing follows HLY alone. -/
def Dev.hlyEval (d : Dev) (n : Nat) : Dev := if n = 5 then d.yokEval else d

theorem Dev.pairs_hlyEval (d : Dev) (n : Nat) : d.Pairs (d.hlyEval n) := by
  unfold Dev.hlyEval
  split_ifs
  · exact d.pairs_yokEval
  · exact .refl d

theorem Dev.laneLost_eq (d : Dev) (n : Nat) : d.laneLost n =
    if d.laneUp n && d.get F.HAY_STAT_PARENT == n then ((d.laneDark n).hlyEval n).set F.ALM_STAT_HOLDOVER 1 else (d.laneDark n).hlyEval n := rfl

theorem Dev.laneLost_is (d : Dev) (n : Fin 6) : let e := d.laneLost n.val
    e.hay = d.hay ∧ e.get (F.HAY_LANE0_STATE n.val) = (if d.laneEnabled n.val then 2 else 0) ∧
    (d.laneUp n.val = true → d.get F.HAY_STAT_PARENT = n.val → e.get F.ALM_STAT_HOLDOVER = 1) ∧
    ∀ g, YokFld g → fldId (F.HAY_LANE0_STATE n.val) ≠ fldId g → fldId F.ALM_STAT_HOLDOVER ≠ fldId g → e.get g = d.get g := by
  intro e
  have hpairs := (d.laneDark n.val).pairs_hlyEval n.val
  have heq : e = if d.laneUp n.val && d.get F.HAY_STAT_PARENT == n.val then ((d.laneDark n.val).hlyEval n.val).set F.ALM_STAT_HOLDOVER 1
      else (d.laneDark n.val).hlyEval n.val := d.laneLost_eq n.val
  have hdark (g : Fld) (h : fldId (F.HAY_LANE0_STATE n.val) ≠ fldId g) : (d.laneDark n.val).get g = d.get g := Dev.get_set_ne _ _ h
  have hstate : (d.laneDark n.val).get (F.HAY_LANE0_STATE n.val) = if d.laneEnabled n.val then 2 else 0 := by
    refine (Dev.get_set_same _ _ _).trans ?_
    split_ifs <;> rfl
  have hne : fldId F.ALM_STAT_HOLDOVER ≠ fldId (F.HAY_LANE0_STATE n.val) := by
    simp only [fldId, F.ALM_STAT_HOLDOVER, F.HAY_LANE0_STATE]
    omega
  obtain ⟨x, hx⟩ : ∃ x, x = (d.laneDark n.val).hlyEval n.val := ⟨_, rfl⟩
  rw [← hx] at hpairs heq
  have hxget (g : Fld) (hg : YokFld g) := hpairs.2.2.2 g hg
  rw [heq]
  by_cases hup : (d.laneUp n.val && d.get F.HAY_STAT_PARENT == n.val) = true
  · rw [if_pos hup]
    exact ⟨hpairs.hay, (Dev.get_set_ne _ _ hne).trans ((hxget _ (yokFld_lane n).1).trans hstate), fun _ _ => Dev.get_set_same _ _ _,
      fun g hg h1 h2 => (Dev.get_set_ne _ _ h2).trans ((hxget g hg).trans (hdark g h1))⟩
  · rw [if_neg hup]
    exact ⟨hpairs.hay, (hxget _ (yokFld_lane n).1).trans hstate, fun h k => absurd (by simp [h, k]) hup,
      fun g hg h1 _ => (hxget g hg).trans (hdark g h1)⟩

/-- A pending HAYOPEN whose request went out on the lane. -/
def Dev.opensOn (d : Dev) (n f : Nat) : Bool :=
  (d.flow f).opening && d.hay.resv.any fun r => r.inLane == 6 && r.outLane == n && r.dst == d.get (F.HAY_FLOW_UNIT f) && r.dflow == (d.flow f).farFlow

/-- The lane is lost, HAY_LANE_DOWN raised and source 37 reported. -/
def Dev.laneTold (d : Dev) (n : Nat) : Dev := ((d.laneLost n).hayEvent 1 n 0 [0]).oweFault (0x220 + n) 37

theorem Dev.laneFail_eq {d : Dev} {n : Nat} (hup : d.laneUp n = true) : d.laneFail n =
    ((List.range 256).filter ((d.laneTold n).opensOn n)).foldl (fun d f => d.failOpen f .eLink true) (d.laneTold n) :=
  if_neg (by simp [hup])

theorem Dev.laneFail_down {d : Dev} {n : Nat} (hup : d.laneUp n = false) : d.laneFail n = d := if_pos (by simp [hup])

theorem Dev.laneTold_is (d : Dev) (n : Fin 6) : let e := d.laneTold n.val
    e.hay = d.hay ∧ e.get (F.HAY_LANE0_STATE n.val) = (if d.laneEnabled n.val then 2 else 0) ∧ e.get F.HAY_INT_LANEDOWN = 1 ∧
    .fault (0x220 + n.val) 37 ∈ e.lar.due ∧ (d.laneUp n.val = true → d.get F.HAY_STAT_PARENT = n.val → e.get F.ALM_STAT_HOLDOVER = 1) ∧
    ∀ f < 256, e.get (F.HAY_FLOW_UNIT f) = d.get (F.HAY_FLOW_UNIT f) := by
  obtain ⟨hhay, hstate, hhold, hrest⟩ := d.laneLost_is n
  have hget {g : Fld} (hg : QueFld 0 g) (hne : fldId (bitFld 0xF010 1) ≠ fldId g) : (d.laneTold n.val).get g = (d.laneLost n.val).get g :=
    (d.laneLost n.val).hayEvent_get hg hne _ _
  refine ⟨((d.laneLost n.val).hayEvent_hay 1 n.val 0 [0]).trans hhay, (hget (yokFld_lane n).1.1 ?_).trans hstate,
    (d.laneLost n.val).hayEvent_int (bit := 1) (by decide) _ _, List.mem_append_right _ (List.mem_singleton_self _),
    fun h k => (hget (queFld_of_ids (by decide)) (by decide)).trans (hhold h k), fun f hf => ?_⟩
  · simp only [fldId, bitFld, F.HAY_LANE0_STATE]
    omega
  · have hflow : YokFld (F.HAY_FLOW_UNIT f) := yokFld_of_hay (by simp only [fldId, F.HAY_FLOW_UNIT]; omega) (by simp only [fldId, F.HAY_FLOW_UNIT]; omega)
    refine (hget hflow.1 ?_).trans (hrest _ hflow ?_ ?_) <;> simp only [fldId, bitFld, F.HAY_FLOW_UNIT, F.HAY_LANE0_STATE, F.ALM_STAT_HOLDOVER] <;> omega

theorem Dev.opensOn_iff (d : Dev) (n f : Nat) : d.opensOn n f = true ↔ (d.flow f).opening = true ∧ ∃ r ∈ d.hay.resv, r.inLane = 6 ∧ r.outLane = n ∧
    r.dst = d.get (F.HAY_FLOW_UNIT f) ∧ r.dflow = (d.flow f).farFlow := by
  simp only [Dev.opensOn, Bool.and_eq_true, List.any_eq_true, beq_iff_eq, and_assoc]

theorem Dev.laneFail_is {d : Dev} (n : Fin 6) (hup : d.laneUp n.val = true) : ∃ (x : Dev) (fs : List Nat),
    d.laneFail n.val = fs.foldl (fun d f => d.failOpen f .eLink true) x ∧
    (∀ f, f ∈ fs ↔ f < 256 ∧ (d.flow f).opening = true ∧ ∃ r ∈ d.hay.resv, r.inLane = 6 ∧ r.outLane = n.val ∧
      r.dst = d.get (F.HAY_FLOW_UNIT f) ∧ r.dflow = (d.flow f).farFlow) ∧
    x.get (F.HAY_LANE0_STATE n.val) = (if d.laneEnabled n.val then 2 else 0) ∧ x.get F.HAY_INT_LANEDOWN = 1 ∧
    .fault (0x220 + n.val) 37 ∈ x.lar.due ∧ (d.get F.HAY_STAT_PARENT = n.val → x.get F.ALM_STAT_HOLDOVER = 1) := by
  obtain ⟨hhay, hstate, hint, hdue, hhold, hunit⟩ := d.laneTold_is n
  refine ⟨d.laneTold n.val, (List.range 256).filter ((d.laneTold n.val).opensOn n.val), Dev.laneFail_eq hup, fun f => ?_, hstate, hint, hdue, hhold hup⟩
  rw [List.mem_filter, List.mem_range]
  refine and_congr_right fun hf => ?_
  rw [Dev.opensOn_iff, Dev.flow_of_hay hhay, hhay, hunit f hf]

/-! ### Code errors (R360) -/

theorem Dev.laneErrors_down {d : Dev} {n : Nat} (h : d.laneUp n = false ∨ d.phyHeld = true) (errs : Nat) (align : Bool) : d.laneErrors n errs align = d :=
  if_pos (by simpa using h)

theorem Dev.laneErrors_is {d : Dev} {n : Nat} (hup : d.laneUp n = true) (hphy : d.phyHeld = false) (errs : Nat) (align : Bool) : ∃ x : Dev,
    d.laneErrors n errs align = (if align = true ∨ 16 ≤ errs then x.laneFail n else x) ∧
    x.get (F.HAY_LANEC_CODEERR n) = min 65535 (d.get (F.HAY_LANEC_CODEERR n) + errs) ∧
    x.lar = { d.lar with due := d.lar.due ++ List.replicate (min errs 16) (.fault (0x220 + n) 36) } ∧
    d.Only { x with lar := d.lar } [F.HAY_LANEC_CODEERR n] := by
  refine ⟨(d.set (F.HAY_LANEC_CODEERR n) (min 65535 (d.get (F.HAY_LANEC_CODEERR n) + errs))).owe (List.replicate (min errs 16) (.fault (0x220 + n) 36)), ?_, ?_, rfl,
    (d.only_set (F.HAY_LANEC_CODEERR n) _ :)⟩
  · refine (if_neg (by simp [hup, hphy])).trans (if_congr ?_ rfl rfl)
    simp
  · refine (Dev.get_set_same d _ _).trans (Nat.mod_eq_of_lt ?_)
    simp only [F.HAY_LANEC_CODEERR]
    omega

end Sys2Proof.Machine

/-!
SUPPORT. Lanes that leave the tree, and control bales sent again.
-/
namespace Sys2Proof.Machine

open Sys2Proof

/-! ### A lane leaves the tree (R387) -/

/-- The lane's state and its waiting control bales are discarded. -/
def Dev.laneEmptied (d : Dev) (n : Nat) : Dev := ((d.setLane n { delays := (d.lane n).delays }).emptyQueue (256 + n)).set (F.HAY_LANE0_ROLE n) 0

/-- Its route entries are removed; the grandmaster behind it is stale. -/
def Dev.laneUnrouted (d : Dev) (n : Nat) (stale : Bool) : Dev :=
  { d with hay := { d.hay with route := d.hay.route.filter fun e => e.2.1 != n + 1,
                               seen := if stale then mapPut (2 ^ 32) d.hay.seen (d.get F.ALM_GMKEY_KEY) d.hay.gmSeq else d.hay.seen } }

/-- HAY_CTXCMD's bale was waiting on the lane. -/
def Dev.ctxOn (d : Dev) (n : Nat) : Bool := (d.lane n).unacked.any (·.2.2) || (d.items (256 + n)).any fun it => it.stamp == 1

/-- What is left to show of a lane that leaves. -/
def Dev.laneSettled (d : Dev) (ctx stale : Bool) : Dev :=
  let x := (if ctx then d.ctxDone .eLink else d).showUnits
  if stale then (x.set F.HAY_STAT_PARENT 7).set F.ALM_STAT_HOLDOVER 1 else x

/-- A lane that has left, before its reservations move. -/
def Dev.laneGone (d : Dev) (n : Nat) : Dev :=
  ((d.laneEmptied n).laneUnrouted n (d.get F.HAY_STAT_PARENT == n)).laneSettled (d.ctxOn n) (d.get F.HAY_STAT_PARENT == n)

theorem Dev.removeLane_eq (d : Dev) (n : Nat) : d.removeLane n =
    (((d.laneGone n).hay.resv.filter fun r => r.outLane == n).foldl Dev.moveResv (d.laneGone n)).chooseParent := rfl

theorem Dev.laneEmptied_is (d : Dev) (n : Nat) : let e := d.laneEmptied n
    e.items (256 + n) = [] ∧ e.hay = (d.setLane n { delays := (d.lane n).delays }).hay ∧ e.get (F.HAY_LANE0_ROLE n) = 0 :=
  ⟨(Dev.emptyQueue_is _ _ 0).1, Dev.emptyQueue_hay _ _, Dev.get_set_same _ _ _⟩

theorem Dev.laneSettled_is (d : Dev) (ctx stale : Bool) : let e := d.laneSettled ctx stale
    e.hay = d.hay ∧ e.lar = d.lar ∧ (stale = true → e.get F.HAY_STAT_PARENT = 7 ∧ e.get F.ALM_STAT_HOLDOVER = 1) ∧
    ∀ g, (∀ f ∈ [F.HAY_CTXCMD_BUSY, F.HAY_CTXSTAT_STATUS, F.HAY_STAT_UNITS, F.HAY_STAT_PARENT, F.ALM_STAT_HOLDOVER], fldId f ≠ fldId g) → e.get g = d.get g := by
  intro e
  obtain ⟨y, hy⟩ : ∃ y, y = if ctx then d.ctxDone .eLink else d := ⟨_, rfl⟩
  have hctx : y.hay = d.hay ∧ d.Only y [F.HAY_CTXCMD_BUSY, F.HAY_CTXSTAT_STATUS] := by
    rw [hy]
    split_ifs
    · exact d.ctxDone_is .eLink
    · exact ⟨rfl, (Dev.Only.refl d []).mono (List.nil_subset _)⟩
  obtain ⟨hhay, honly⟩ := hctx
  have hlar : y.lar = d.lar := (congrArg (fun z : Dev => z.lar) honly.1 :)
  have hget (g : Fld) (hg : ∀ f ∈ [F.HAY_CTXCMD_BUSY, F.HAY_CTXSTAT_STATUS, F.HAY_STAT_UNITS, F.HAY_STAT_PARENT, F.ALM_STAT_HOLDOVER], fldId f ≠ fldId g) :
      y.showUnits.get g = d.get g :=
    (Dev.get_set_ne _ _ (hg _ (by simp))).trans (honly.2 g fun f hf => hg f (by
      simp only [List.mem_cons, List.not_mem_nil, or_false] at hf ⊢
      tauto))
  have he : e = if stale then (y.showUnits.set F.HAY_STAT_PARENT 7).set F.ALM_STAT_HOLDOVER 1 else y.showUnits := by
    rw [hy]
    rfl
  rw [he]
  cases stale with
  | false => exact ⟨hhay, hlar, fun h => absurd h Bool.false_ne_true, hget⟩
  | true =>
    exact ⟨hhay, hlar, fun _ => ⟨(Dev.get_set_ne _ _ (by decide)).trans (Dev.get_set_same _ _ _), Dev.get_set_same _ _ _⟩,
      fun g hg => (Dev.get_set_ne _ _ (hg _ (by simp))).trans ((Dev.get_set_ne _ _ (hg _ (by simp))).trans (hget g hg))⟩

theorem Dev.laneGone_is (d : Dev) (n : Fin 6) : let e := d.laneGone n.val
    e.items (256 + n.val) = [] ∧ e.lane n.val = { delays := (d.lane n.val).delays } ∧ e.hay.route = d.hay.route.filter (fun r => r.2.1 != n.val + 1) ∧
    e.hay.resv = d.hay.resv ∧ e.get (F.HAY_LANE0_ROLE n.val) = 0 ∧
    (d.get F.HAY_STAT_PARENT = n.val → e.get F.HAY_STAT_PARENT = 7 ∧ e.get F.ALM_STAT_HOLDOVER = 1) := by
  obtain ⟨x, hx⟩ : ∃ x, x = d.laneEmptied n.val := ⟨_, rfl⟩
  obtain ⟨hitems, hhay, hrole⟩ := hx ▸ d.laneEmptied_is n.val
  obtain ⟨y, hy⟩ : ∃ y, y = x.laneUnrouted n.val (d.get F.HAY_STAT_PARENT == n.val) := ⟨_, rfl⟩
  have heq : d.laneGone n.val = y.laneSettled (d.ctxOn n.val) (d.get F.HAY_STAT_PARENT == n.val) := by rw [hy, hx]; rfl
  obtain ⟨khay, klar, kstale, kget⟩ := y.laneSettled_is (d.ctxOn n.val) (d.get F.HAY_STAT_PARENT == n.val)
  rw [heq]
  have hroute : y.hay.route = x.hay.route.filter fun r => r.2.1 != n.val + 1 := by rw [hy]; rfl
  have hlane : y.lane n.val = x.lane n.val := by rw [hy]; rfl
  have hresv : y.hay.resv = x.hay.resv := by rw [hy]; rfl
  have hylar : y.lar = x.lar := by rw [hy]; rfl
  have hyget (g : Fld) : y.get g = x.get g := by rw [hy]; rfl
  have hxlane : x.lane n.val = { delays := (d.lane n.val).delays } := (Dev.lane_of_hay hhay _).trans (d.lane_setLane _ _)
  refine ⟨(Dev.items_congr (congrArg Larder.queues (klar.trans hylar)) _).trans hitems, (Dev.lane_of_hay khay _).trans (hlane.trans hxlane),
    (congrArg Hay.route khay).trans (hroute.trans ?_), (congrArg Hay.resv khay).trans (hresv.trans ?_), (kget _ ?_).trans ((hyget _).trans hrole),
    fun h => kstale (beq_iff_eq.mpr h)⟩
  · rw [hhay]
    rfl
  · rw [hhay]
    rfl
  · simp only [fldId, List.mem_cons, List.not_mem_nil, or_false, forall_eq_or_imp, forall_eq, F.HAY_CTXCMD_BUSY, F.HAY_CTXSTAT_STATUS, F.HAY_STAT_UNITS,
      F.HAY_STAT_PARENT, F.ALM_STAT_HOLDOVER, F.HAY_LANE0_ROLE]
    omega

theorem Dev.keepExpiry_is (d : Dev) (n : Fin 6) : let e := d.keepExpiry n.val
    if d.laneUp n.val = true ∨ (d.laneRole n.val = 0 ∧ ∀ r ∈ d.hay.route, r.2.1 ≠ n.val + 1) then e = d
    else ∃ (x : Dev) (l : List Resv), e = (l.foldl Dev.moveResv x).chooseParent ∧ (∀ r, r ∈ l ↔ r ∈ d.hay.resv ∧ r.outLane = n.val) ∧
      x.items (256 + n.val) = [] ∧ x.lane n.val = { delays := (d.lane n.val).delays } ∧
      x.hay.route = d.hay.route.filter (fun r => r.2.1 != n.val + 1) ∧
      x.get (F.HAY_LANE0_ROLE n.val) = 0 ∧ (d.get F.HAY_STAT_PARENT = n.val → x.get F.HAY_STAT_PARENT = 7 ∧ x.get F.ALM_STAT_HOLDOVER = 1) := by
  have hcond : (d.laneUp n.val || (d.laneRole n.val == 0 && !d.hay.route.any (fun e => e.2.1 == n.val + 1))) = true ↔
      (d.laneUp n.val = true ∨ (d.laneRole n.val = 0 ∧ ∀ r ∈ d.hay.route, r.2.1 ≠ n.val + 1)) := by simp
  simp only [Dev.keepExpiry]
  by_cases h : d.laneUp n.val = true ∨ (d.laneRole n.val = 0 ∧ ∀ r ∈ d.hay.route, r.2.1 ≠ n.val + 1)
  · rw [if_pos h, if_pos (hcond.mpr h)]
  · rw [if_neg h, if_neg (mt hcond.mp h)]
    obtain ⟨hitems, hlane, hroute, hresv, hrole, hstale⟩ := d.laneGone_is n
    refine ⟨d.laneGone n.val, _, d.removeLane_eq n.val, fun r => ?_, hitems, hlane, hroute, hrole, hstale⟩
    rw [List.mem_filter, hresv, beq_iff_eq]

/-! ### Control bales again (R376) -/

theorem Dev.putControl_is {d : Dev} {n : Nat} (hup : d.laneUp n = true) (hphy : d.phyHeld = false) (seq : Nat) (l : List Byte) : let e := d.putControl n seq l
    e.lane n = { d.lane n with ackDue := false } ∧ (∃ w, e.out = ⟨.bale, n, [(parseBale l).type], w⟩ :: d.out) ∧ e = { d with hay := e.hay, out := e.out } := by
  intro e
  obtain ⟨b, hb⟩ : ∃ b : Bale, b = { parseBale l with ackv := true, h := d.ctlHead n seq (parseBale l).ctype } := ⟨_, rfl⟩
  have he : e = (d.emit .bale n [b.type] (wireBale b.bytes)).modLane n fun x => { x with ackDue := false } := by
    rw [← Dev.sendBale_up hup hphy b, hb]
    rfl
  rw [he]
  exact ⟨Dev.lane_modLane _ n fun x => { x with ackDue := false }, ⟨_, by rw [hb]; rfl⟩, rfl⟩

/-- From `d` to `e`, `k` bales have gone out on lane `n` again, each counted in RETRY. -/
def Dev.Resent (n k : Nat) (d e : Dev) : Prop :=
  (e.lane n).resends = (d.lane n).resends ∧ (e.lane n).unacked = (d.lane n).unacked ∧ e.out.length = d.out.length + k ∧
    d.Only { e with hay := d.hay, out := d.out } [F.HAY_LANE8_RETRY n]

theorem Dev.Resent.up {n k : Nat} {d e : Dev} (h : Dev.Resent n k d e) : e.laneUp n = d.laneUp n ∧ e.phyHeld = d.phyHeld := by
  obtain ⟨-, -, -, honly⟩ := h
  have hstate : e.get (F.HAY_LANE0_STATE n) = d.get (F.HAY_LANE0_STATE n) := honly.2 _ (by
    simp only [fldId, List.mem_singleton, forall_eq, F.HAY_LANE8_RETRY, F.HAY_LANE0_STATE]
    omega)
  have hlow : d.KeepsLow { e with hay := d.hay, out := d.out } := Dev.Heard.keepsLow (fs := [F.HAY_LANE8_RETRY n]) honly.heard (by
    simp only [fldId, List.mem_singleton, forall_eq, F.HAY_LANE8_RETRY]
    omega)
  exact ⟨by simp only [Dev.laneUp, hstate], (hlow.phyHeld :)⟩

theorem Dev.resent_step {d : Dev} {n : Nat} (hup : d.laneUp n = true) (hphy : d.phyHeld = false) (seq : Nat) (l : List Byte) :
    Dev.Resent n 1 d ((d.putControl n seq l).bump (F.HAY_LANE8_RETRY n)) := by
  obtain ⟨x, hx⟩ : ∃ x, x = d.putControl n seq l := ⟨_, rfl⟩
  obtain ⟨hlane, ⟨w, hout⟩, heq⟩ := hx ▸ Dev.putControl_is hup hphy seq l
  have hxlane : (x.bump (F.HAY_LANE8_RETRY n)).lane n = { d.lane n with ackDue := false } := hlane
  have hback : { x with hay := d.hay, out := d.out } = d := (congrArg (fun y : Dev => { y with hay := d.hay, out := d.out }) heq :)
  rw [← hx]
  refine ⟨by rw [hxlane], by rw [hxlane], (congrArg List.length hout).trans rfl, ?_⟩
  have hbump := Dev.only_bump { x with hay := d.hay, out := d.out } (F.HAY_LANE8_RETRY n)
  rw [hback] at hbump
  have hsame : { x.bump (F.HAY_LANE8_RETRY n) with hay := d.hay, out := d.out } = d.bump (F.HAY_LANE8_RETRY n) :=
    (congrArg (fun y : Dev => y.bump (F.HAY_LANE8_RETRY n)) hback :)
  rw [hsame]
  exact hbump

theorem Dev.Resent.trans {n k m : Nat} {d e x : Dev} (h : Dev.Resent n k d e) (g : Dev.Resent n m e x) : Dev.Resent n (k + m) d x := by
  obtain ⟨hre, hun, hlen, honly⟩ := h
  obtain ⟨gre, gun, glen, gonly⟩ := g
  refine ⟨gre.trans hre, gun.trans hun, by omega, ?_, fun f hf => (gonly.2 f hf).trans (honly.2 f hf)⟩
  obtain ⟨y, hy⟩ : ∃ y : Dev, y = { e with hay := d.hay, out := d.out } := ⟨_, rfl⟩
  have h1 : { x with hay := d.hay, out := d.out } = { y with fld := x.fld } := by
    rw [hy]
    exact (congrArg (fun z : Dev => { z with hay := d.hay, out := d.out }) gonly.1 :)
  rw [h1]
  exact (congrArg (fun z : Dev => { z with fld := x.fld }) (hy.trans honly.1) :)

theorem Dev.resent_foldl {n : Nat} (l : List (Nat × List Byte × Bool)) {d : Dev} (hup : d.laneUp n = true) (hphy : d.phyHeld = false) :
    Dev.Resent n l.length d (l.foldl (fun d e => (d.putControl n e.1 e.2.1).bump (F.HAY_LANE8_RETRY n)) d) := by
  induction l generalizing d with
  | nil => exact ⟨rfl, rfl, rfl, (Dev.Only.refl d []).mono (List.nil_subset _)⟩
  | cons a l ih =>
    have hstep := Dev.resent_step hup hphy a.1 a.2.1
    rw [List.foldl_cons, List.length_cons, Nat.add_comm]
    exact hstep.trans (ih (hstep.up.1.trans hup) (hstep.up.2.trans hphy))

theorem Dev.controlResend_eq (d : Dev) (n : Nat) : d.controlResend n =
    if !d.laneUp n || d.phyHeld || (d.lane n).unacked.isEmpty then d
    else if 8 ≤ (d.lane n).resends then d.laneFail n
    else (d.lane n).unacked.foldl (fun d e => (d.putControl n e.1 e.2.1).bump (F.HAY_LANE8_RETRY n)) (d.modLane n fun x => { x with resends := x.resends + 1 }) := rfl

theorem Dev.resendAll_is {d : Dev} {n : Nat} (hup : d.laneUp n = true) (hphy : d.phyHeld = false) {e : Dev} (he : e =
      (d.lane n).unacked.foldl (fun d e => (d.putControl n e.1 e.2.1).bump (F.HAY_LANE8_RETRY n)) (d.modLane n fun x => { x with resends := x.resends + 1 })) :
    (e.lane n).resends = (d.lane n).resends + 1 ∧ (e.lane n).unacked = (d.lane n).unacked ∧
      e.out.length = d.out.length + (d.lane n).unacked.length ∧ d.Only { e with hay := d.hay, out := d.out } [F.HAY_LANE8_RETRY n] := by
  obtain ⟨x, hx⟩ : ∃ x, x = d.modLane n fun x => { x with resends := x.resends + 1 } := ⟨_, rfl⟩
  have hlane : x.lane n = { d.lane n with resends := (d.lane n).resends + 1 } := by
    rw [hx]
    exact d.lane_modLane n fun x => { x with resends := x.resends + 1 }
  obtain ⟨hre, hun, hlen, honly⟩ := Dev.resent_foldl (n := n) (d.lane n).unacked (d := x) (by rw [hx]; exact hup) (by rw [hx]; exact hphy)
  rw [← hx] at he
  rw [← he] at hre hun hlen honly
  refine ⟨hre.trans (by rw [hlane]), hun.trans (by rw [hlane]), hlen.trans (by rw [hx]; rfl), ?_, fun g hg => (honly.2 g hg).trans (by rw [hx]; rfl)⟩
  exact (congrArg (fun z : Dev => { z with hay := d.hay, out := d.out }) honly.1 :).trans (by rw [hx]; rfl)

theorem Dev.controlResend_is (d : Dev) (n : Nat) : let e := d.controlResend n
    if d.laneUp n = false ∨ d.phyHeld = true ∨ (d.lane n).unacked = [] then e = d
    else if 8 ≤ (d.lane n).resends then e = d.laneFail n
    else (e.lane n).resends = (d.lane n).resends + 1 ∧ (e.lane n).unacked = (d.lane n).unacked ∧
      e.out.length = d.out.length + (d.lane n).unacked.length ∧ d.Only { e with hay := d.hay, out := d.out } [F.HAY_LANE8_RETRY n] := by
  intro e
  have heq : e = _ := d.controlResend_eq n
  have hcond : (!d.laneUp n || d.phyHeld || (d.lane n).unacked.isEmpty) = true ↔ d.laneUp n = false ∨ d.phyHeld = true ∨ (d.lane n).unacked = [] := by
    simp [or_assoc]
  by_cases h1 : d.laneUp n = false ∨ d.phyHeld = true ∨ (d.lane n).unacked = []
  · rw [if_pos h1]
    exact heq.trans (if_pos (hcond.mpr h1))
  rw [if_neg h1]
  rw [if_neg (mt hcond.mp h1)] at heq
  by_cases h2 : 8 ≤ (d.lane n).resends
  · rw [if_pos h2]
    exact heq.trans (if_pos h2)
  rw [if_neg h2]
  rw [if_neg h2] at heq
  simp only [not_or, Bool.not_eq_false, Bool.not_eq_true] at h1
  exact Dev.resendAll_is h1.1 h1.2.1 heq

/-- A NULL bale's type stands in its first two bytes. -/
theorem nullBale_type (u : Nat) : (parseBale ({ type := 2, src := u, h := [0, 0, 0, 0, 0, 0, 0, 0] : Bale }).bytes).type = 2 := by
  have hhead : ({ type := 2, src := u, h := [0, 0, 0, 0, 0, 0, 0, 0] : Bale }).bytes.take 2 = beBytes 2 0x1200 := by
    simp only [Bale.bytes, List.append_assoc]
    exact List.take_left' rfl
  have htype (l : List Byte) : (parseBale l).type = bits (beNat (l.take 2)) 8 4 := rfl
  rw [htype, hhead]
  decide

theorem Dev.nullTx_is (d : Dev) (n : Nat) : let e := d.nullTx n
    if d.laneUp n = false ∨ d.phyHeld = true ∨ (d.lane n).ackDue = false then e = d
    else (e.lane n) = { d.lane n with ackDue := false } ∧ (∃ w, e.out = ⟨.bale, n, [2], w⟩ :: d.out) ∧ e = { d with hay := e.hay, out := e.out } := by
  simp only [Dev.nullTx]
  by_cases h : d.laneUp n = false ∨ d.phyHeld = true ∨ (d.lane n).ackDue = false
  · rw [if_pos h, if_pos (by simpa [or_assoc] using h)]
  rw [if_neg h, if_neg (by simpa [or_assoc] using h)]
  simp only [not_or, Bool.not_eq_false, Bool.not_eq_true] at h
  have hput := Dev.putControl_is h.1 h.2.1 0 ({ type := 2, src := d.unitId, h := [0, 0, 0, 0, 0, 0, 0, 0] : Bale }).bytes
  rw [nullBale_type] at hput
  exact hput

end Sys2Proof.Machine

/-!
SUPPORT. The Almanac's forward step, and O44.
-/
namespace Sys2Proof.Machine

open Sys2Proof

/-! ### A forward step of the Almanac counter (R382, R384) -/

theorem Dev.realign_is (d : Dev) (p : Nat) : ∃ s, d.realign p = { d with strm := s } := by
  unfold Dev.realign
  generalize d.tdmSinks p = l
  induction l using List.reverseRecOn with
  | nil => exact ⟨_, rfl⟩
  | append_singleton l a ih =>
    obtain ⟨s, hs⟩ := ih
    rw [List.foldl_append, hs]
    exact ⟨_, rfl⟩

/-- Port `p` after a step of `ns`. -/
def Dev.tdmStepped (d : Dev) (ns p : Nat) : Tdm :=
  if d.tdmMaster p = true ∧ (d.tdmOf p).inBank = true then { d.tdmOf p with frame := (d.tdmOf p).frame + d.tdmRate p * ns / 1000000000 } else d.tdmOf p

theorem Dev.tdmFollow_is (d : Dev) (ns p : Nat) : let e := d.tdmFollow ns p
    e = { d with tdm := e.tdm, strm := e.strm } ∧ e.tdmOf p = d.tdmStepped ns p ∧ ∀ q ≠ p, e.tdmOf q = d.tdmOf q := by
  intro e
  obtain ⟨x, hx⟩ : ∃ x, x = if d.tdmMaster p && (d.tdmOf p).inBank then
    d.setTdm p { d.tdmOf p with frame := (d.tdmOf p).frame + d.tdmRate p * ns / 1000000000 } else d := ⟨_, rfl⟩
  have he : e = if x.is (F.TDM_CFG_ALIGN p) then x.realign p else x := by rw [hx]; rfl
  have hstep : x = { d with tdm := x.tdm } ∧ x.tdmOf p = d.tdmStepped ns p ∧ ∀ q ≠ p, x.tdmOf q = d.tdmOf q := by
    unfold Dev.tdmStepped
    by_cases h : d.tdmMaster p = true ∧ (d.tdmOf p).inBank = true
    · rw [if_pos (by simpa using h)] at hx
      rw [if_pos h, hx]
      exact ⟨rfl, mapGet_put_same _ _ _, fun q hq => mapGet_put_ne _ _ (Ne.symm hq)⟩
    · rw [if_neg (by simpa using h)] at hx
      rw [if_neg h, hx]
      exact ⟨rfl, rfl, fun _ _ => rfl⟩
  obtain ⟨heq, hown, hother⟩ := hstep
  have hreal : ∃ s, e = { x with strm := s } := by
    rw [he]
    split_ifs
    · exact x.realign_is p
    · exact ⟨_, rfl⟩
  obtain ⟨s, hs⟩ := hreal
  rw [hs]
  exact ⟨(congrArg (fun y : Dev => { y with strm := s }) heq :), hown, hother⟩

theorem Dev.tdmFollows_is (d : Dev) (ns : Nat) : let e := [0, 1].foldl (Dev.tdmFollow ns) d
    e = { d with tdm := e.tdm, strm := e.strm } ∧ ∀ p : Fin 2, e.tdmOf p.val = d.tdmStepped ns p.val := by
  obtain ⟨x, hx⟩ : ∃ x, x = d.tdmFollow ns 0 := ⟨_, rfl⟩
  obtain ⟨y, hy⟩ : ∃ y, y = x.tdmFollow ns 1 := ⟨_, rfl⟩
  obtain ⟨hxeq, hx0, hxne⟩ := hx ▸ d.tdmFollow_is ns 0
  obtain ⟨hyeq, hy1, hyne⟩ := hy ▸ x.tdmFollow_is ns 1
  have hall : [0, 1].foldl (Dev.tdmFollow ns) d = y := by rw [hy, hx]; rfl
  have hother : x.tdmOf 1 = d.tdmOf 1 := hxne 1 (by decide)
  have hget (g : Fld) : x.get g = d.get g := by rw [hxeq]; rfl
  rw [hall]
  refine ⟨?_, fun p => ?_⟩
  · rw [hyeq]
    exact (congrArg (fun z : Dev => { z with tdm := y.tdm, strm := y.strm }) hxeq :)
  · match p with
    | 0 => exact (hyne 0 (by decide)).trans hx0
    | 1 =>
      refine hy1.trans ?_
      simp only [Dev.tdmStepped, Dev.tdmMaster, Dev.tdmRate, Dev.is, hother, hget]
      rfl

/-- The edges up to the next micro-frame boundary. -/
def Dev.toBoundary (d : Dev) : Nat := (d.edgeOf ((d.almNs / 125000 + 1) * 125000)).toNat

/-- The counter at the boundary, moved forward by `ns`. -/
def Dev.almMoved (x : Dev) (ns : Nat) : Dev :=
  { x with almCnt := x.almCnt + ns * 3 * 2 ^ 32, alm := { x.alm with step := 0 }, lhe := { x.lhe with frame := x.lhe.frame + ns / 125000 } }

theorem Dev.almStep_eq (d : Dev) : d.almStep = if d.alm.step = 0 then d
    else ([0, 1].foldl (Dev.tdmFollow d.alm.step) ((d.edges d.toBoundary).almMoved d.alm.step)).almEvent 1 := rfl

/-- The followers of a counter that has moved to `c`, with its servo at `a` and the local host's at `l`. -/
theorem Dev.moved_follows (x : Dev) (ns c : Nat) (a : Alm) (l : Lhe) : let y : Dev := { x with almCnt := c, alm := a, lhe := l }; let e := ([0, 1].foldl (Dev.tdmFollow ns) y).almEvent 1
    e.get F.ALM_INT_STEP = 1 ∧ e.almCnt = y.almCnt ∧ e.lhe = y.lhe ∧ (∀ p : Fin 2, e.tdmOf p.val = x.tdmStepped ns p.val) ∧
    x.Told { e with almCnt := x.almCnt, alm := x.alm, lhe := x.lhe, strm := x.strm, tdm := x.tdm } [F.ALM_INT_STEP] := by
  intro y
  obtain ⟨z, hz⟩ : ∃ z, z = [0, 1].foldl (Dev.tdmFollow ns) y := ⟨_, rfl⟩
  obtain ⟨hzeq, htdm⟩ := hz ▸ y.tdmFollows_is ns
  obtain ⟨hteq, htget⟩ := z.told_raise (bitFld 0x1000C 1) (0x1100 + 1) [0] 0 0 0 t000_lt
  obtain ⟨e, he⟩ : ∃ e, e = z.almEvent 1 := ⟨_, rfl⟩
  have heq : e = { z with fld := e.fld, lar := e.lar } := by rw [he]; exact hteq
  have hback : { z with almCnt := x.almCnt, alm := x.alm, lhe := x.lhe, strm := x.strm, tdm := x.tdm } = x :=
    (congrArg (fun w : Dev => { w with almCnt := x.almCnt, alm := x.alm, lhe := x.lhe, strm := x.strm, tdm := x.tdm }) hzeq :)
  have hzget (g : Fld) : z.get g = x.get g := by rw [hzeq]; rfl
  have hget : ∀ g, PlainFld g → (∀ f ∈ [F.ALM_INT_STEP], fldId f ≠ fldId g) → e.get g = z.get g := by
    rw [he]
    exact htget
  rw [← hz, ← he]
  refine ⟨he ▸ z.almEvent_int (bit := 1) (by decide), ?_, ?_, fun p => ?_, ?_, fun g hg hne => ?_⟩
  · exact (congrArg (fun w : Dev => w.almCnt) heq :).trans (congrArg (fun w : Dev => w.almCnt) hzeq :)
  · exact (congrArg (fun w : Dev => w.lhe) heq :).trans (congrArg (fun w : Dev => w.lhe) hzeq :)
  · exact (congrArg (fun w : Dev => w.tdmOf p.val) heq :).trans (htdm p)
  · have h1 := (congrArg (fun w : Dev => { w with almCnt := x.almCnt, alm := x.alm, lhe := x.lhe, strm := x.strm, tdm := x.tdm }) heq :)
    exact h1.trans (congrArg (fun w : Dev => { w with fld := e.fld, lar := e.lar }) hback :)
  · exact (hget g hg hne).trans (hzget g)

theorem Dev.almStep_is (d : Dev) : let e := d.almStep
    if d.alm.step = 0 then e = d
    else ∃ x y : Dev, x = d.edges (d.edgeOf ((d.almNs / 125000 + 1) * 125000)).toNat ∧
      y = ({ x with almCnt := x.almCnt + d.alm.step * 3 * 2 ^ 32, alm := { x.alm with step := 0 },
                    lhe := { x.lhe with frame := x.lhe.frame + d.alm.step / 125000 } } : Dev) ∧
      e = (([0, 1].foldl (Dev.tdmFollow d.alm.step) y)).almEvent 1 ∧ e.get F.ALM_INT_STEP = 1 ∧ e.almCnt = y.almCnt ∧ e.lhe = y.lhe ∧
      (∀ p : Fin 2, d.tdmMaster p.val = true → (d.tdmOf p.val).inBank = true → e.tdmOf p.val = { d.tdmOf p.val with frame := (d.tdmOf p.val).frame + d.tdmRate p.val * d.alm.step / 1000000000 }) ∧
      (∀ p : Fin 2, d.tdmMaster p.val = false ∨ (d.tdmOf p.val).inBank = false → e.tdmOf p.val = d.tdmOf p.val) ∧
      x.Told { e with almCnt := x.almCnt, alm := x.alm, lhe := x.lhe, strm := x.strm, tdm := x.tdm } [F.ALM_INT_STEP] := by
  intro e
  have heq : e = _ := d.almStep_eq
  by_cases h : d.alm.step = 0
  · rw [if_pos h]
    exact heq.trans (if_pos h)
  rw [if_neg h]
  rw [if_neg h] at heq
  obtain ⟨x, hx⟩ : ∃ x, x = d.edges d.toBoundary := ⟨_, rfl⟩
  rw [← hx] at heq
  obtain ⟨hint, hcnt, hlhe, htdm, htold⟩ := x.moved_follows d.alm.step (x.almMoved d.alm.step).almCnt (x.almMoved d.alm.step).alm (x.almMoved d.alm.step).lhe
  have hmoved : ({ x with almCnt := (x.almMoved d.alm.step).almCnt, alm := (x.almMoved d.alm.step).alm, lhe := (x.almMoved d.alm.step).lhe } : Dev) =
      x.almMoved d.alm.step := rfl
  rw [hmoved, ← heq] at hint hcnt hlhe htdm htold
  have hstepped (p : Fin 2) : x.tdmStepped d.alm.step p.val = d.tdmStepped d.alm.step p.val := by rw [hx]; rfl
  refine ⟨x, x.almMoved d.alm.step, hx, rfl, heq, hint, hcnt, hlhe, fun p hm hb => ?_, fun p hmb => ?_, htold⟩
  · exact (htdm p).trans ((hstepped p).trans (if_pos ⟨hm, hb⟩))
  · refine (htdm p).trans ((hstepped p).trans (if_neg ?_))
    rintro ⟨hm, hb⟩
    rcases hmb with h | h
    · exact absurd (hm.symm.trans h) (by decide)
    · exact absurd (hb.symm.trans h) (by decide)

/-- The edges of `edgeOf` bring the time asked for. -/
theorem Dev.edges_reach {d : Dev} (hrun : d.is F.ALM_STAT_PAUSED = false) (hinc : 0 < d.alm.inc) (ns : Nat) : ns ≤ (d.edges (d.edgeOf ns).toNat).almNs := by
  have hcnt : (d.edges (d.edgeOf ns).toNat).almCnt = d.almCnt + (d.edgeOf ns).toNat * d.alm.inc := if_neg (by simp [hrun])
  unfold Dev.almNs
  rw [Nat.le_div_iff_mul_le (by decide), hcnt]
  have hceil := Int.lt_ediv_add_one_mul_self (((ns * (3 * 2 ^ 32) : Nat) : Int) - d.almCnt + d.alm.inc - 1) (b := (d.alm.inc : Int)) (by omega)
  have hedge : d.edgeOf ns = (((ns * (3 * 2 ^ 32) : Nat) : Int) - d.almCnt + d.alm.inc - 1) / (d.alm.inc : Int) := rfl
  rw [← hedge, add_mul, one_mul] at hceil
  have hnat : d.edgeOf ns * (d.alm.inc : Int) ≤ ((d.edgeOf ns).toNat * d.alm.inc : Nat) := by
    push_cast
    exact Int.mul_le_mul_of_nonneg_right (Int.self_le_toNat _) (by omega)
  omega

/-- Settles O44: what each command sends, and each branch of a lane's life. -/
theorem hayLanes : Obligations.HayLanes := by
  unfold Obligations.HayLanes
  intro s hup
  refine ⟨fun hphy => ⟨Ends.of_act hup (Dev.helloTx_is hphy), Ends.of_act hup (Dev.announceTx_is hphy),
      fun sub => Ends.of_act hup (Dev.syncTx_is hphy sub.val), fun sub n hparent hlane => ⟨Ends.of_act hup (Dev.dreqTx_is hparent hlane hphy sub.val),
        Ends.of_act hup (Dev.rollTx_is hparent hlane hphy), Ends.of_act hup (Dev.aheadTx_is hparent hlane hphy sub.val)⟩⟩,
    fun hparent sub c hc => ?_, fun hparent => Ends.of_act hup (Dev.gmseqTimeout_is hparent),
    fun id => ⟨fun n a h => Ends.of_act hup (Dev.routeExpiry_some h), fun h => Ends.of_act hup (Dev.routeExpiry_none h)⟩, fun n => ?_,
    Ends.of_act hup s.dev.almStep_is, fun hrun hinc x hx => hx ▸ Dev.edges_reach hrun hinc _⟩
  · obtain ⟨f, hexec, hsame⟩ := parentSends_none hparent sub c hc
    rw [hexec]
    exact Ends.of_act hup hsame
  · exact ⟨fun nbr => ⟨fun h => Ends.of_act hup (Dev.laneCameUp_none h _), fun hen hphy hdown => Ends.of_act hup (Dev.laneCameUp_is n nbr hen hphy hdown)⟩,
      Ends.of_act hup (s.dev.trainTimeout_is n.val), fun hdown => Ends.of_act hup (Dev.laneFail_down hdown),
      fun hlane => Ends.of_act hup (Dev.laneFail_is n hlane),
      fun errs align => ⟨fun h => Ends.of_act hup (Dev.laneErrors_down h _ _), fun hlane hphy => Ends.of_act hup (Dev.laneErrors_is hlane hphy _ _)⟩,
      Ends.of_act hup (s.dev.keepExpiry_is n), Ends.of_act hup (s.dev.controlResend_is n.val), Ends.of_act hup (s.dev.nullTx_is n.val)⟩

end Sys2Proof.Machine

/-!
SUPPORT. Tenants (chapter 12): an FLR that gives the resetting tenant another's stream, which refutes O40.
-/
namespace Sys2Proof.Machine

open Sys2Proof

/-! ### A stream of the tenant that the end of a command cannot have made -/

/-- The fields that say whose stream 1 is and what it does. -/
def astrayFlds : List Fld := [F.STR_W0_STATE 1, F.STR_W0_OWNER 1]

/-- No fault is recorded, and stream 1 is T000's and flushing. -/
def Dev.Astray (d : Dev) : Prop := d.urec = [] ∧ d.get (F.STR_W0_STATE 1) = 4 ∧ d.get (F.STR_W0_OWNER 1) = 0

theorem plainFld_astray : ∀ g ∈ astrayFlds, PlainFld g := by
  intro g hg
  refine plainFld_of_fldId ?_ ?_ ?_ <;> revert g <;> decide

theorem Dev.Astray.of_gets {d e : Dev} (h : e.Astray) (hrec : e.urec = d.urec) (hget : ∀ g ∈ astrayFlds, e.get g = d.get g) : d.Astray := by
  obtain ⟨h1, h2, h3⟩ := h
  exact ⟨hrec.symm.trans h1, (hget _ (by simp [astrayFlds])).symm.trans h2, (hget _ (by simp [astrayFlds])).symm.trans h3⟩

theorem Dev.Astray.of_heard {d e : Dev} {fs : List Fld} (h : e.Astray) (hheard : d.Heard e fs) (hfs : ∀ g ∈ astrayFlds, ∀ f ∈ fs, fldId f ≠ fldId g) : d.Astray :=
  h.of_gets (congrArg (fun y : Dev => y.urec) hheard.1 :) fun g hg => hheard.2 g (plainFld_astray g hg) (hfs g hg)

theorem Dev.Astray.of_only {d e : Dev} {fs : List Fld} (h : e.Astray) (honly : d.Only e fs) (hfs : ∀ g ∈ astrayFlds, ∀ f ∈ fs, fldId f ≠ fldId g) : d.Astray :=
  h.of_gets (congrArg (fun y : Dev => y.urec) honly.1 :) fun g hg => honly.2 g (hfs g hg)

/-! ### Faults leave a record -/

theorem Dev.urec_of_fenced {d : Dev} {u : Nat} (h : (d.urecOf u).valid = true ∨ (d.urecOf u).fenced = true) : d.urec ≠ [] := by
  intro hnil
  have hempty : d.urecOf u = {} := by rw [Dev.urecOf, hnil]; rfl
  rw [hempty] at h
  simp at h

theorem Dev.fence_valid {d : Dev} {u : Nat} (h : (d.urecOf u).valid = true) (i : Nat) : ((d.fence u i).urecOf u).valid = true := by
  cases hk : unitKind u with
  | none => simpa only [Dev.fence, hk] using h
  | some k =>
    cases hf : (d.urecOf u).fenced with
    | true => simpa only [Dev.fence, hk, hf, if_true] using h
    | false =>
      rw [Dev.fence_urecOf hk hf]
      exact h

theorem Dev.fenceQueue_fenced {d : Dev} {q : Nat} (h : (d.urecOf 0x246).valid = true) (i : Nat) :
    ((d.fenceQueue q i).urecOf 0x246).valid = true ∨ ((d.fenceQueue q i).urecOf 0x246).fenced = true := by
  unfold Dev.fenceQueue
  by_cases hq : d.lar.qFenced.contains q
  · rw [if_pos hq]
    exact .inl h
  · rw [if_neg hq]
    right
    rw [Dev.fltEvent_urecOf]
    refine (congrArg URec.fenced (Dev.urecOf_congr (Dev.urec_of_aside (Dev.setBit_aside _ _ _ _)) _)).trans ?_
    rw [Dev.setRec_urecOf_same]

theorem Dev.severe_recorded {d : Dev} {u : Nat} (h : (d.urecOf u).valid = true) (i : Nat) (queue : Option Nat) :
    ((d.severe u i queue).urecOf u).valid = true ∨ ((d.severe u i queue).urecOf u).fenced = true := by
  obtain ⟨x, hx⟩ : ∃ x, x = d.setRec u { d.urecOf u with sev := true, wins := mapErase (d.urecOf u).wins i } := ⟨_, rfl⟩
  have hvalid : (x.urecOf u).valid = true := by
    rw [hx, Dev.setRec_urecOf_same]
    exact h
  have hevent : ((x.fltEvent 3 u i).urecOf u).valid = true := by rw [Dev.fltEvent_urecOf]; exact hvalid
  have heq : d.severe u i queue = if d.get (F.FLT_SRC_CLASS i) = 2 then
      match u == 0x246, queue with
      | true, some q => x.fenceQueue q i
      | true, none => x.fltEvent 3 u i
      | false, _ => if x.mayFence u then x.fence u i else x.fltEvent 3 u i
    else x.fltEvent 3 u i := by rw [hx]; rfl
  rw [heq]
  by_cases hc : d.get (F.FLT_SRC_CLASS i) = 2
  · rw [if_pos hc]
    by_cases hu : u = 0x246
    · subst hu
      cases queue with
      | none => exact .inl hevent
      | some q => exact Dev.fenceQueue_fenced hvalid i
    · simp only [beq_eq_false_iff_ne.mpr hu]
      split_ifs
      · exact .inl (Dev.fence_valid hvalid i)
      · exact .inl hevent
  · rw [if_neg hc]
    exact .inl hevent

theorem Dev.fault_recorded {d : Dev} {i : Nat} (hc : d.get (F.FLT_SRC_CLASS i) ≠ 0) (u : Nat) (queue : Option Nat) : (d.fault u i queue).urec ≠ [] := by
  have hvalid : ((d.recordFault u i).urecOf u).valid = true := by
    rw [Dev.recordFault_urecOf, Dev.eventRec]
    unfold recordEvent
    split_ifs with h
    · exact h
    · rfl
  refine Dev.urec_of_fenced (u := u) ?_
  unfold Dev.fault
  rw [if_neg hc]
  dsimp only
  by_cases hcount : (d.recordFault u i).counting u queue = true
  · rw [if_pos hcount]
    split_ifs
    · rw [Dev.alerts_urecOf]
      exact Dev.severe_recorded hvalid i queue
    · rw [Dev.alerts_urecOf, Dev.setRec_urecOf_same]
      exact .inl hvalid
  · rw [if_neg hcount, Dev.alerts_urecOf, Dev.setRec_urecOf_same]
    exact .inl hvalid

/-! ### Back through the end of a command -/

theorem Dev.Astray.of_fault {d : Dev} {u i : Nat} {queue : Option Nat} (h : (d.fault u i queue).Astray) : d.Astray := by
  by_cases hc : d.get (F.FLT_SRC_CLASS i) = 0
  · have hsame : d.fault u i queue = d := if_pos hc
    rwa [hsame] at h
  · exact absurd h.1 (Dev.fault_recorded hc u queue)

/-- A value other than the reset value is what every field at its place reads. -/
theorem Dev.get_set_alias (d : Dev) {f g : Fld} {v : Nat} (hid : fldId f = fldId g) (hv : v % 2 ^ f.w ≠ f.rst) : (d.set f v).get g = v % 2 ^ f.w := by
  have hfind : mapFind (d.set f v).fld (fldId f) = some (v % 2 ^ f.w) := by
    unfold Dev.set
    by_cases h : d.get f = v % 2 ^ f.w
    · rw [if_pos h]
      unfold Dev.get mapGet at h
      cases hf : mapFind d.fld (fldId f) with
      | none =>
        rw [hf] at h
        exact absurd h.symm hv
      | some x =>
        rw [hf] at h
        exact congrArg some h
    · rw [if_neg h]
      exact mapFind_put_of_ne hv
  rw [Dev.get, mapGet, ← hid, hfind]
  rfl

/-- A field of any place that was set neither to 4 nor to 0 has left stream 1 alone. -/
theorem Dev.Astray.of_set {d : Dev} {f : Fld} {v : Nat} (hrst : f.rst = 0) (h4 : v % 2 ^ f.w ≠ 4) (h0 : v % 2 ^ f.w ≠ 0) (h : (d.set f v).Astray) :
    d.Astray := by
  refine h.of_gets rfl fun g hg => Dev.get_set_ne _ _ fun hid => ?_
  have halias := d.get_set_alias hid (hrst ▸ h0)
  obtain ⟨-, hstate, howner⟩ := h
  simp only [astrayFlds, List.mem_cons, List.not_mem_nil, or_false] at hg
  rcases hg with rfl | rfl
  · exact h4 (halias.symm.trans hstate)
  · exact h0 (halias.symm.trans howner)

theorem Dev.Astray.of_notify {d : Dev} {t code inst arg count : Nat} (h : (d.notify t code inst arg count).Astray) : d.Astray :=
  h.of_heard (d.heard_notify t code inst arg count) (by simp)

theorem Dev.Astray.of_raise {d : Dev} {int : Fld} {ts : List Nat} {code inst arg count : Nat} (hint : ∀ g ∈ astrayFlds, fldId int ≠ fldId g)
    (h : (d.raise int code ts inst arg count).Astray) : d.Astray :=
  h.of_heard (d.heard_raise int code ts inst arg count) (by simpa using hint)

theorem Dev.Astray.of_notice {d : Dev} {q kind : Nat} (h : (d.notice q kind).Astray) : d.Astray := by
  have hspace (x : Dev) (v : Nat) (k : (x.setSpacing q kind v).Astray) : x.Astray := k
  unfold Dev.notice at h
  split at h
  · have hsend := hspace _ _ h
    unfold Dev.sendNotice at hsend
    dsimp only at hsend
    split_ifs at hsend
    · exact hsend.of_notify.of_set rfl (by simp [bitFld]) (by simp [bitFld])
    · exact hsend.of_set rfl (by simp [bitFld]) (by simp [bitFld])
  · exact hspace _ _ h

theorem Dev.Astray.of_linkUe {d : Dev} {ts : List Nat} {inst : Nat} (h : (d.linkUe ts inst).Astray) : d.Astray :=
  Dev.Astray.of_raise (by decide) h

theorem Dev.Astray.of_bucket {d : Dev} {b : Nat} (h : (d.bucket b).Astray) : d.Astray := by
  have hlvl : ∀ g ∈ astrayFlds, ∀ f ∈ [lvlFld b, F.ECC_LBCNT_OVF b, F.ECC_LBFLAG_OVF], fldId f ≠ fldId g := by
    simp only [astrayFlds, List.mem_cons, List.not_mem_nil, or_false, forall_eq_or_imp, forall_eq, fldId, lvlFld, F.ECC_LBCNT_OVF, F.ECC_LBFLAG_OVF,
      F.STR_W0_STATE, F.STR_W0_OWNER]
    omega
  unfold Dev.bucket at h
  split_ifs at h
  · have honly := ((d.only_set (lvlFld b) 0).trans (Dev.only_bump _ (F.ECC_LBCNT_OVF b))).trans (Dev.only_setBit _ F.ECC_LBFLAG_OVF b true)
    exact (Dev.Astray.of_raise (int := F.ECC_INT_LARCE) (by decide) h.of_fault).of_only honly hlvl
  · exact h.of_only (d.only_set _ _) fun g hg f hf => hlvl g hg f (by simp [List.mem_singleton.mp hf])

theorem Dev.Astray.of_settleOne {d : Dev} {x : Due} (h : (d.settleOne x).Astray) : d.Astray := by
  cases x with
  | leak b => exact h.of_fault.of_linkUe
  | corrected b => exact h.of_bucket
  | lost q => exact h.of_fault.of_notice
  | under q => exact h.of_fault.of_notice
  | note q k => exact h.of_notice
  | link q =>
    simp only [Dev.settleOne] at h
    split_ifs at h
    · exact h.of_fault.of_linkUe
    · exact h.of_fault.of_linkUe
  | poison q e =>
    simp only [Dev.settleOne] at h
    split_ifs at h
    · exact h.of_fault.of_notice
    · exact h.of_fault.of_notice
    · exact h.of_notice
  | fault u i => exact h.of_fault

theorem Dev.Astray.of_foldl {α : Type} {f : Dev → α → Dev} (hf : ∀ d a, (f d a).Astray → d.Astray) (l : List α) {d : Dev} (h : (l.foldl f d).Astray) : d.Astray := by
  induction l generalizing d with
  | nil => exact h
  | cons a l ih => exact hf d a (ih h)

theorem Dev.Astray.of_settleN {n : Nat} {d : Dev} (h : (d.settleN n).Astray) : d.Astray := by
  induction n generalizing d with
  | zero => exact h
  | succ n ih =>
    unfold Dev.settleN at h
    split at h
    · exact h
    · have hstart := Dev.Astray.of_foldl (f := Dev.settleOne) (fun _ _ => Dev.Astray.of_settleOne) _ (ih h)
      exact hstart

/-- Power states say nothing of it. -/
theorem Dev.Astray.of_pow {d : Dev} {p : Pow} (h : ({ d with pow := p } : Dev).Astray) : d.Astray := h

theorem Dev.Astray.of_leaveShutdown {d : Dev} (h : d.leaveShutdown.Astray) : d.Astray :=
  ((h.of_only d.abortShown.only_limitRise (by decide)).of_only d.only_abortShown (by decide)).of_pow

theorem Dev.Astray.of_inputEdge {d : Dev} (h : d.inputEdge.Astray) : d.Astray := by
  unfold Dev.inputEdge at h
  have hset (k : (d.set F.SUP_STAT_INPUT 1).Astray) : d.Astray := k.of_only (d.only_set _ _) (by decide)
  dsimp only at h
  split_ifs at h
  · exact h
  · exact hset (h.of_only (Dev.latchInput_is _).1 (by decide)).of_pow
  · refine hset ?_
    unfold Dev.abortShutdown at h
    split_ifs at h
    · exact h
    · exact h.of_leaveShutdown
  · exact hset h

theorem Dev.Astray.of_primed {d : Dev} {s : Nat} (h : (d.primed s).Astray) : d.Astray := by
  unfold Dev.primed at h
  split_ifs at h
  · exact Dev.Astray.of_set (f := F.STR_W0_STATE s) (v := 3) rfl (by simp [F.STR_W0_STATE]) (by simp [F.STR_W0_STATE]) h
  · exact h

theorem Dev.Astray.of_restart {d : Dev} {s : Nat} (h : (d.restart s).Astray) : d.Astray := by
  unfold Dev.restart at h
  split_ifs at h
  · exact Dev.Astray.of_set (f := F.STR_W0_STATE s) (v := 2) rfl (by simp [F.STR_W0_STATE]) (by simp [F.STR_W0_STATE]) h.of_primed
  · exact h
  · exact h

theorem Dev.Astray.of_endAbort {d : Dev} {c : Nat} (h : (d.endAbort c).Astray) : d.Astray := by
  obtain ⟨x, hx⟩ : ∃ x, x = d.pow.s2Streams.foldl Dev.restart { d with pow := { d.pow with aborting := none, s2Streams := [] } } := ⟨_, rfl⟩
  have hstart : x.Astray := by
    have hheard : ((x.setBit F.STW_SUPEV_EV 5 true).notifyAll d.tenants (0x100 + 5) 0 c 0).Astray := by
      rw [hx]
      exact h
    exact (hheard.of_heard (Dev.heard_notifyAll _ d.tenants _ _ _ _) (by simp)).of_only (x.only_setBit F.STW_SUPEV_EV 5 true) (by decide)
  rw [hx] at hstart
  exact (Dev.Astray.of_foldl (f := Dev.restart) (fun _ _ => Dev.Astray.of_restart) _ hstart).of_pow

theorem Dev.Astray.of_progress {d : Dev} (h : d.progress.Astray) : d.Astray := by
  obtain ⟨x, hx⟩ : ∃ x, x = if d.get F.SUP_STAT_STAGE = 2 && !d.s2Busy && !d.pow.abortWait then d.startS3 else d := ⟨_, rfl⟩
  obtain ⟨y, hy⟩ : ∃ y, y = if x.pow.abortWait && x.grn.commit.isNone then x.leaveShutdown else x := ⟨_, rfl⟩
  have heq : d.progress = y.afterAbort := by rw [hy, hx]; rfl
  have hback : y.Astray := by
    rw [heq, Dev.afterAbort] at h
    split at h
    · split_ifs at h
      · exact h
      · exact h.of_endAbort
    · exact h
  have hmid : x.Astray := by
    rw [hy] at hback
    split_ifs at hback
    · exact hback.of_leaveShutdown
    · exact hback
  rw [hx] at hmid
  split_ifs at hmid
  · exact Dev.Astray.of_only (e := d.set F.SUP_STAT_STAGE 3) hmid (d.only_set F.SUP_STAT_STAGE 3) (by decide)
  · exact hmid

theorem Dev.Astray.of_levels {d : Dev} (h : d.levels.Astray) : d.Astray := by
  have hrec : d.levels.urec = d.urec := by
    have hshown : d.statShown.pathShown.urec = d.urec := (congrArg (fun y : Dev => y.urec) d.statShown.only_ratModes.1 :)
    rw [Dev.levels_eq, ← hshown]
    unfold Dev.wakeSteward Dev.rouse
    split_ifs <;> rfl
  exact h.of_gets hrec fun g hg => d.levels_get (by revert g; decide)

/-- Where the end of a command finds stream 1 astray, the command left it so. -/
theorem Dev.Astray.of_settle {d : Dev} (h : d.settle.Astray) : d.Astray := h.of_levels.of_settleN.of_progress.of_inputEdge.of_settleN

/-! ### A stream whose sink is of an index beyond 7 (R344, R346) -/

/-- T000 resets, at step 3 of Table 12.3: its stream 0 lists a sink of index 10, whose owner's field lies where the owner of stream 1 lies. -/
def crossDev : Dev :=
  ({ pow := { state := .run }, flr := [(0, { step := 3 })], strm := [(0, { sinks := [(10, {})] })] } : Dev).setAll
    [(F.STR_W0_STATE 0, 2), (F.STR_W0_STATE 1, 4), (F.STR_W0_OWNER 1, 1)]

theorem crossDev_facts : crossDev.up = true ∧ (crossDev.flrOf 0).step = 3 := by decide +kernel

theorem crossFlush_astray : (crossDev.flrStreams 0).settle.Astray := by
  unfold Dev.Astray
  decide +kernel

/-- Refutes O40: step 3 of an FLR is said to leave the tenant no bound stream, but a state may list a sink of an index beyond 7, whose owner's field
is that of another stream's owner; unbinding the sink's stream gives that other stream to T000, which resets. -/
theorem not_tenants : ¬ Obligations.Tenants := by
  unfold Obligations.Tenants
  intro h
  obtain ⟨hup, hstep⟩ := crossDev_facts
  obtain ⟨-, -, hflr, -⟩ := h { dev := crossDev } hup
  obtain ⟨-, -, -, hflush, -⟩ := hflr 0
  obtain ⟨d, hend, -, hbound, -⟩ := hflush hstep
  have hsettle : (crossDev.flrStreams 0).settle = d.settle :=
    nextDev_inj ((act_up (s := { dev := crossDev }) (fun d => d.flrStreams 0) hup).symm.trans hend)
  obtain ⟨-, hstate, howner⟩ := Dev.Astray.of_settle (hsettle ▸ crossFlush_astray)
  refine hbound 1 ?_ howner
  simp only [Dev.strBound, Dev.strState, Fin.val_one]
  rw [hstate]
  rfl

end Sys2Proof.Machine
